-- ==== Sys2Proof/Word.lean ====
section
/-! DEFINITION. The plainest arithmetic the model shares: bytes, bit fields of natural numbers,
two's complement, exact rounding and saturation. Registers are natural numbers below two to their width;
quantities of the spec that are signed are `Int`, and fixed-point results are rounded from exact rationals. -/

namespace Sys2Proof

/-- One byte of a message, a DOMAIN or the Field Store. -/
abbrev Byte := BitVec 8

/-- Bits `hi` down to `lo` of `v`, as a number. -/
def bits (v hi lo : Nat) : Nat := v / 2 ^ lo % 2 ^ (hi + 1 - lo)

/-- Bit `n` of `v`. -/
def bitAt (v n : Nat) : Bool := v / 2 ^ n % 2 == 1

/-- `v` with bit `n` set to `b`. -/
def withBit (v n : Nat) (b : Bool) : Nat :=
  if bitAt v n then (if b then v else v - 2 ^ n) else (if b then v + 2 ^ n else v)

/-- The number 1 or 0 of a condition. -/
def ofBool (b : Bool) : Nat := if b then 1 else 0

/-- The signed value of a `w`-bit pattern. -/
def toSigned (w v : Nat) : Int :=
  if v % 2 ^ w < 2 ^ (w - 1) then (v % 2 ^ w : Int) else (v % 2 ^ w : Int) - 2 ^ w

/-- The `w`-bit two's complement pattern of an integer. -/
def ofSigned (w : Nat) (z : Int) : Nat := (z % (2 ^ w : Nat)).toNat

/-- Largest value an unsigned register of `w` bits holds. -/
def maxOf (w : Nat) : Nat := 2 ^ w - 1

/-- One more, saturating at the largest value of `w` bits. -/
def incSat (w v : Nat) : Nat := min (v + 1) (maxOf w)

/-- `n` more, saturating at the largest value of `w` bits. -/
def addSat (w v n : Nat) : Nat := min (v + n) (maxOf w)

/-- `n` more, wrapping in `w` bits. -/
def addWrap (w v n : Nat) : Nat := (v + n) % 2 ^ w

/-- An integer limited to the closed interval from `lo` to `hi`. -/
def clampInt (lo hi z : Int) : Int := max lo (min hi z)

/-- `n / d` rounded to the nearest integer, a tie going to the even one (`d` positive). -/
def rheDiv (n : Int) (d : Nat) : Int :=
  let q := n / (d : Int)
  let r := n % (d : Int)
  if 2 * r < d then q else if 2 * r > d then q + 1 else if q % 2 = 0 then q else q + 1

/-- A rational rounded to the nearest integer, a tie going to the even one. -/
def rhe (x : Rat) : Int := rheDiv x.num x.den

/-- The least significant byte first form of `v` in `n` bytes. -/
def leBytes : (n v : Nat) → List Byte
  | 0, _ => []
  | n + 1, v => BitVec.ofNat 8 v :: leBytes n (v / 256)

/-- The value of a least significant byte first list. -/
def ofLe : List Byte → Nat
  | [] => 0
  | b :: bs => b.toNat + 256 * ofLe bs

/-- The most significant byte first form of `v` in `n` bytes. -/
def beBytes (n v : Nat) : List Byte := (leBytes n v).reverse

/-- The value of a most significant byte first list. -/
def ofBe (bs : List Byte) : Nat := ofLe bs.reverse

/-- `n` bytes of a list from byte `off`, a missing byte reading as zero. -/
def bytesAt (bs : List Byte) (off n : Nat) : List Byte :=
  let t := (bs.drop off).take n
  t ++ List.replicate (n - t.length) 0

/-- The `n`-byte little-endian field of a list at byte `off`. -/
def fieldAt (bs : List Byte) (off n : Nat) : Nat := ofLe (bytesAt bs off n)

/-- `l` with its element `i` replaced, a short list being filled with `d` first. -/
def setAt {α : Type} (d : α) : List α → Nat → α → List α
  | [], 0, a => [a]
  | [], n + 1, a => d :: setAt d [] n a
  | _ :: xs, 0, a => a :: xs
  | x :: xs, n + 1, a => x :: setAt d xs n a

/-- The numbers of the set bits of `v` below `n`, lowest first. -/
def bitsSet (v n : Nat) : List Nat := (List.range n).filter (bitAt v)

/-- Sum of a list of integers. -/
def sumInt (l : List Int) : Int := l.foldl (· + ·) 0

/-- Sum of a list of naturals. -/
def sumNat (l : List Nat) : Nat := l.foldl (· + ·) 0

/-- The integer square root comparison used for exact rounding: the nearest integer to the square root of
`n / d`, a tie (which needs `4n = (2k+1)²d`) going to the even one. -/
def rheSqrt (n d : Nat) : Nat :=
  let k := Nat.sqrt (n / d)
  -- compare n/d with (k + 1/2)^2, that is 4n with (2k+1)^2 d
  let m := (2 * k + 1) * (2 * k + 1) * d
  if 4 * n < m then k else if 4 * n > m then k + 1 else if k % 2 = 0 then k else k + 1

/-- The larger of a list of integers, `d` when it is empty. -/
def maxInt (d : Int) (l : List Int) : Int := l.foldl max d

end Sys2Proof
end

