-- ==== Sys2Proof/Machine/Inputs.lean ====
section
/-! DEFINITION. What a command carries besides plain numbers: the access path of a host access and the reading of a
converter. An input is data from outside the block: samples, readings, edges and messages. -/

namespace Sys2Proof.Machine

/-- The four access paths of R280, numbered 0 to 3. -/
inductive Path | canA | canB | qspi | sideband
  deriving DecidableEq, Repr

/-- Number of a path (R280). -/
def Path.num : Path → Nat
  | .canA => 0
  | .canB => 1
  | .qspi => 2
  | .sideband => 3

/-- What the check bits of a 64-bit word show when it is read: one bit in error, or an error that they cannot correct, with this syndrome (R222). -/
inductive EccFind | single | double (syndrome : Nat)
  deriving DecidableEq, Repr

/-- What the reads of the Field Store that a command causes find, by the physical address of the word over 8; a word not listed reads as it was left. -/
abbrev Ecc := List (Nat × EccFind)

/-- The end of work on the Field Store: its cc, and what its reads found. -/
structure StoreEnd where
  cc : Fin 2800
  ecc : Ecc := []
  deriving DecidableEq, Repr

/-- A receive lane and a symbol boundary on it, as bits after its first one. -/
structure LaneBoundary where
  lane : Fin 2
  boundary : Fin 10
  deriving DecidableEq, Repr

/-- A host write of a whole object that reached the dictionary: its path, the cc within the present slot at which it
takes effect (R19 turns on it) and its data bytes, least significant first; `ecc` is what the Field Store reads find that the write causes (a DMA start, R222). -/
structure HostWrite where
  path : Path
  cc : Fin 2800
  data : List Byte
  ecc : Ecc := []
  deriving DecidableEq, Repr

/-- A host write of a register whose value the row names. -/
structure HostAt where
  path : Path
  cc : Fin 2800
  ecc : Ecc := []
  deriving DecidableEq, Repr

/-- A parameter-channel message that a host sent (R289): its path, the cc, its bytes from the header on. Over CAN FD it first arrives, on an identifier, and
waits in its path's queue; without `arrives` it is the request that the path serves next (R290, R295). -/
structure Request where
  path : Path
  cc : Fin 2800
  bytes : List Byte
  arrives : Bool := false
  ident : Nat := 0
  ecc : Ecc := []
  deriving DecidableEq, Repr

/-- What fault confinement of ISO 11898-1 makes of an event on a controller's bus (R293, log 46): an error while it sends, an error while it receives (`heavy`: the
kind that counts eight), a frame sent, a frame received, and the end of the recovery from bus-off. -/
inductive CanEvent | txError | rxError (heavy : Bool) | txGood | rxGood | recovered
  deriving DecidableEq, Repr

/-- An authenticated write (R303): the path, the cc at which it takes effect, and the record's fields besides its target. -/
structure AuthWrite where
  path : Path
  cc : Fin 2800
  len : Nat
  counter : Nat
  data : Nat
  tag : List Byte
  deriving DecidableEq, Repr

/-- ADC codes of the slot that starts: per channel the codes of its samples in order; a channel or a sample that is not
listed reads code 0, as an unpowered channel delivers (R99). -/
abbrev SlotSamples := List (List Int)

/-- How far the work of one channel had come at the tick that cut it off (R16): the steps of the shot that were done, and how many records were handed on. -/
structure Progress where
  base : Bool := false           -- the baseline was taken
  added : Bool := false          -- the shot was added into the histogram
  accum : Bool := false          -- the accumulated pass was done
  single : Bool := false         -- the single-shot pass was done
  records : Nat := 0
  deriving DecidableEq, Repr

/-- A cross-check word as a channel sends it at a slot tick (R372): the slot's fire commands, the angle of the slot before, the veto decision for each emitter
of the slot that starts, the edges released in the slot before, the energy sums in 0.1 nJ and the CRC of its seal copy. -/
structure CrossWord where
  fires : List Nat := []
  angle : Int := 0
  vetoes : List (Nat × Nat) := []      -- emitter and the subindex of the rule of Table 15.1 that vetoes it
  edges : List Nat := []
  sums100 : List Rat := []
  sums10 : List Rat := []
  crc : Nat := 0
  deriving DecidableEq, Repr

/-- What a channel gets from the other at a tick: the word it would send itself, another one, or none. -/
inductive XWord
  | same
  | missing
  | other (w : CrossWord)
  deriving DecidableEq, Repr

/-- What a slot tick takes from outside the deterministic block: the codes of the slot that starts, the units that did not finish the work
of the slot whose processing ends (bits as OVERRUN_UNITS), the cross-check word of R372 and what sensors outside the block show. -/
structure TickInput where
  samples : SlotSamples := []
  shadow : SlotSamples := []     -- per channel the 1,400 codes of its shadow slice, taken with the samples of the position it shadows (R108)
  overrun : Nat := 0
  progress : List Progress := [] -- per channel, what an engine that overran had done by the tick (R16)
  word : XWord := .same          -- the cross-check word of the other Ensign channel (R372)
  mexc : Nat := 1000             -- MEXC amplitude of the slot that ends, in thousandths of nominal (R396)
  intervalNs : Nat := 2000       -- the tick interval on channel B's oscillator
  shadowDiffers : Bool := false  -- a result of the slot that ended differs between a returning unit and its spare (R420)
  sense : List (List Nat) := []  -- highest sense voltage in mV of each converter period of the slot that ends: VCORE phases 1 and 2, VANA, VIO (R428)
  residue : Nat := 0             -- echo engines whose residue check failed in the slot that ends, as bits (Table 16.4)
  parity : List Nat := []        -- pipelines that completed a spectrum with a buffer parity error in it
  oscCodes : List Nat := []      -- raw codes of TRIG_IN's TDC in the slot that ends, driven by the calibration oscillator (R354)
  deriving DecidableEq, Repr

/-- What the converter delivers for one conversion: the coarse code at gain ×1 that AUTO uses, the code or, under AUTO, the mantissa at the gain
chosen, for a three-wire RTD the code of the idle lead, the leads found open, and the cc of the present slot at which the conversion ends. -/
structure HkReading where
  coarse : Int := 0
  code : Int := 0
  idle : Int := 0
  leads : Nat := 0
  cc : Nat := 0
  deriving DecidableEq, Repr

/-- What BOOT takes from outside: the flash, the straps as read, and the units that fail the start-up BIST. -/
structure BootInput where
  flash : List (Nat × List Byte) := []
  straps : List Nat := []        -- resistances of STRAP0 to STRAP3 in ohms
  fails : List Nat := []
  deriving DecidableEq, Repr

/-- What a programming of fuses meets: whether VIN lies below 18 V, and how many fuse rows fail to verify (R391, R423). -/
structure FuseEnd where
  vinLow : Bool := false
  rows : Nat := 0
  deriving DecidableEq, Repr

end Sys2Proof.Machine
end

