-- ==== Sys2Proof/Syntax.lean ====
section
/-! DEFINITION. The commands of the block: one constructor for each row of spec/opcode_table.json, in its order, with what the row's event carries from
outside. -/

namespace Sys2Proof

open Machine

/-- A command: a host access, a message, an edge on a pin, a reading, or an event that one of the block's own units reaches. -/
inductive Instr
  /-- SLOT_TICK: the slot tick (R11 to R20). -/
  | slotTick (i : TickInput)
  /-- LOCKED_TICK_RESUME: the dividers restart for the next tick (R321). -/
  | lockedTickResume
  /-- POINT_RECORD_HANDOVER: the records of the slot before the last go to the link (R13). -/
  | pointRecordHandover
  /-- TAG_RETURN: the oldest transaction of a class completes (R24). -/
  | tagReturn (cls : Fin 4)
  /-- PENDING_PLAN_WRITE: a write of PENDING_PLAN (R30, R52). -/
  | pendingPlanWrite (w : HostWrite)
  /-- PENDING_TABLE_WRITE: a write of pending table `n`, counted from 0x1011 (R46, R52). -/
  | pendingTableWrite (n : Fin 5) (w : HostWrite)
  /-- PLAN_CHECK: a write of 1 to PLAN_CHECK (R47). -/
  | planCheck (a : HostAt)
  /-- PLAN_CHECK_COMPLETE: the checker ends (R47, R52). -/
  | planCheckComplete
  /-- PLAN_SWAP_REQUEST: a write of 1 to PLAN_SWAP (R53). -/
  | planSwapRequest (a : HostAt)
  /-- PLAN_SWAP_CANCEL: a write of 2 to PLAN_SWAP (R56). -/
  | planSwapCancel (a : HostAt)
  /-- DITHER_TABLE_READY: the shadow Dither Table is complete (R54). -/
  | ditherTableReady (cc : Fin 2800)
  /-- PLAN_SWAP_TICK: the plan banks exchange roles at the tick to come (R55). -/
  | planSwapTick
  /-- FRAME: FRAME (R42). -/
  | frame
  /-- SLOT: SLOT (R35). -/
  | slot
  /-- FIRE: FIRE (R35). -/
  | fire
  /-- SINGLE: SINGLE (R134). -/
  | single
  /-- ACCUM: ACCUM (R40). -/
  | accum
  /-- EMIT: EMIT (R38). -/
  | emit
  /-- CALGAP: CALGAP (R37). -/
  | calgap
  /-- TESTGAP: TESTGAP (R37). -/
  | testgap
  /-- IDLE: IDLE (R37). -/
  | idle
  /-- MARK: the next MARK event of the present slot, else the MARK word (R36, R45). -/
  | mark
  /-- LOOP: LOOP (R43). -/
  | loop
  /-- ENDLOOP: ENDLOOP (R43). -/
  | endloop
  /-- WAITLOCK: WAITLOCK (R41). -/
  | waitlock
  /-- WAITLOCK_RELEASE: fire is released at the tick to come (R41). -/
  | waitlockRelease
  /-- JUMP: JUMP (R44). -/
  | jump
  /-- FIRE_EDGE: the rising edge of an emitter's pulse (R63, R65). -/
  | fireEdge (e : Fin 16)
  /-- FIRE_PULSE_END: the end of an emitter's pulse (R66). -/
  | firePulseEnd (e : Fin 16)
  /-- CHARGER_PERIOD: a switching period of the charger, with the greatest voltage across the LAS_CS sense resistor in it, in mV (R78). -/
  | chargerPeriod (sense : Nat)
  /-- RESERVOIR_BLEED_END: VLAS has fallen to the target (R79). -/
  | reservoirBleedEnd
  /-- RESERVOIR_FAULT: VLAS in 2.5 mV at the fault (R77, R82). -/
  | reservoirFault (vlas : Nat)
  /-- CHARGER_RESTART: the charger restarts at the frame boundary just passed (R82). -/
  | chargerRestart
  /-- ANGLE_MEASURED: the angle of the slot that ended (R84). -/
  | angleMeasured
  /-- MIRROR_DRIVE_APPLY: the computed coil current (R85). -/
  | mirrorDriveApply
  /-- SOL_EDGE: the level of SOL_IN before sample `i` and at it, as the service path takes it and as Ensign does: a rise is an edge (R90, R397). -/
  | solEdge (i : Fin 11200) (before : Bool) (after : Bool) (eBefore : Bool) (eAfter : Bool)
  /-- SOL_MARK_MISSING: a mark counts as missing (R397). -/
  | solMarkMissing
  /-- CHANNEL_WARM_DONE: ten slots after power-up (R98). -/
  | channelWarmDone
  /-- SLICE_SWAP: shadow slices take their positions at the tick to come (R109). -/
  | sliceSwap
  /-- APD_BOOST_PERIOD: a switching period of the boost with the readings of the slot (R111). -/
  | apdBoostPeriod (hv : Nat) (meas : List Nat) (imeas : List Nat)
  /-- APD_HV_OVERVOLTAGE: APD_HV in 10 mV (R111). -/
  | apdHvOvervoltage (hv : Nat)
  /-- APD_EVALUATE: the evaluation of every 500th tick (R113). -/
  | apdEvaluate
  /-- APD_BREAK_TIMEOUT: ten seconds of an unbroken break (R115). -/
  | apdBreakTimeout (z : Fin 4)
  /-- APD_TEMP_STALE: 100 ms without a fresh RTD0 result (R115). -/
  | apdTempStale (z : Fin 4)
  /-- APD_ZONE_SETTLED: 100 µs within tolerance (R116). -/
  | apdZoneSettled (z : Fin 4)
  /-- APD_ZONE_FAULT: 1 ms in current limit (R117). -/
  | apdZoneFault (z : Fin 4)
  /-- ENGINE_TAKEOVER: EE12 takes over at the tick to come (R144). -/
  | engineTakeover
  /-- SPECTRUM_COMPLETE: a spectrum of a channel is complete (R157). -/
  | spectrumComplete (ch : Fin 48)
  /-- SPECTRUM_ENGINE_START: the engine restarts at the tick to come (R163). -/
  | spectrumEngineStart
  /-- MASKV_ASSERT: MASKV of a channel rises (R178). -/
  | maskvAssert (ch : Fin 48)
  /-- MASKV_EXPIRE: MASKV of a channel falls (R178). -/
  | maskvExpire (ch : Fin 48)
  /-- DENSITY_SWAP: a map's buffers swap (R172). -/
  | densitySwap (ch : Fin 48)
  /-- DENSITY_INIT_DONE: a working buffer is initialised (R172). -/
  | densityInitDone (ch : Fin 48) (e : StoreEnd)
  /-- PIPELINE_TAKEOVER: a spare pipeline takes over at the tick to come (R183). -/
  | pipelineTakeover
  /-- COMPARATOR_CROSSING: a crossing with its TDC code and the sample that follows it (R188). -/
  | comparatorCrossing (ch : Fin 48) (input : Int) (code : Fin 128) (next : Fin 11201)
  /-- TRIG_IN_EDGE: an edge on TRIG_IN, `held` ft after the one before (R189). -/
  | trigInEdge (rising : Bool) (held : Nat) (code : Fin 128) (next : Fin 11201)
  /-- TRIG_TIMER_EXPIRE: the TIMER condition (R189). -/
  | trigTimerExpire
  /-- TRIG_SOFT: a write of 1 to TRIG_SOFT (R189). -/
  | trigSoft (a : HostAt)
  /-- TRIG_STAGE_TIMEOUT: a stage runs out of time (R193). -/
  | trigStageTimeout
  /-- TRIGGER_DECLARE: a trigger is declared (R194). -/
  | triggerDeclare
  /-- TRIG_OUT_PULSE_END: TRIG_OUT falls in pulse mode (R206). -/
  | trigOutPulseEnd
  /-- SLOT_OUT_PULSE_END: SLOT_OUT falls (R207). -/
  | slotOutPulseEnd
  /-- CAP_ARM: a write of 1 to CAP_CTRL (R196). -/
  | capArm (a : HostAt)
  /-- CAPTURE_ARM_TICK: capture is armed at the tick to come (R196). -/
  | captureArmTick
  /-- CAP_STOP: a write of 2 to CAP_CTRL (R201). -/
  | capStop (a : HostAt)
  /-- CAPTURE_COMPLETE: sample T + POST is written (R201). -/
  | captureComplete
  /-- CAPTURE_OVERFLOW: staging is full, or draining is behind (R202). -/
  | captureOverflow (cc : Fin 2800)
  /-- CAPTURE_HEADER_WRITTEN: the header is written (R205). -/
  | captureHeaderWritten (cc : Fin 2800) (ecc : Ecc)
  /-- CAPTURE_REARM: re-arm at the tick to come (R201). -/
  | captureRearm
  /-- CAP_DRAINED_WRITE: a write of CAP_DRAINED (R202). -/
  | capDrainedWrite (w : HostWrite)
  /-- DECIMATION_INSTANT: the next word of a channel (R211). -/
  | decimationInstant (ch : Fin 48)
  /-- SYNC_IN_EDGE: an edge on SYNC_IN (R214). -/
  | syncInEdge (rising : Bool) (cc : Fin 2800)
  /-- DEC_SYNC: a write of 1 to DEC_SYNC (R215). -/
  | decSync (a : HostAt)
  /-- DECIMATOR_RESET: the reset sample of an accepted edge (R213). -/
  | decimatorReset
  /-- GRANULE_ISSUE: a logical bank grants a granule (R231). -/
  | granuleIssue (bank : Fin 48) (cc : Fin 2800) (ecc : Ecc)
  /-- SCRUB_ROW: one row of every active bank, with what was found (R223). -/
  | scrubRow (cc : Fin 2800) (found : Ecc)
  /-- AS_MAP_WRITE: a write of a whole map (R228). -/
  | asMapWrite (space : Fin 16) (w : HostWrite)
  /-- MAP_EDIT: a write of MAP_EDIT (R229). -/
  | mapEdit (w : HostWrite)
  /-- MAP_EDIT_DONE: the old translation is flushed (R229). -/
  | mapEditDone
  /-- FAULT_CLEAR: a write of 1 to FAULT_CLEAR (R234). -/
  | faultClear (a : HostAt)
  /-- DMA_START: a write of 1 to DMA_CTRL of an engine (R238). -/
  | dmaStart (e : Fin 8) (a : HostAt)
  /-- DMA_ABORT: a write of 2 to DMA_CTRL of an engine (R241). -/
  | dmaAbort (e : Fin 8) (a : HostAt)
  /-- DMA_RESUME: a write of 3 to DMA_CTRL of an engine (R240). -/
  | dmaResume (e : Fin 8) (a : HostAt)
  /-- DMA_STOP: a write of 4 to DMA_CTRL of an engine (R241). -/
  | dmaStop (e : Fin 8) (a : HostAt)
  /-- DMA_FS_TO_STREAMER: an engine moves packets to its stream (R236). -/
  | dmaFsToStreamer (e : Fin 8) (cc : Fin 2800) (ecc : Ecc)
  /-- DMA_FS_TO_QSPI: an engine fills the outbound bulk queue (R301). -/
  | dmaFsToQspi (e : Fin 8) (cc : Fin 2800) (ecc : Ecc)
  /-- DMA_QSPI_TO_FS: an engine empties the inbound bulk queue (R301). -/
  | dmaQspiToFs (e : Fin 8) (cc : Fin 2800) (ecc : Ecc)
  /-- DMA_COMPLETION: a completion record (R239). -/
  | dmaCompletion (e : Fin 8) (cc : Fin 2800) (ecc : Ecc)
  /-- DMA_CONTINUE: what an engine waits for has come (R242). -/
  | dmaContinue (e : Fin 8) (cc : Fin 2800) (ecc : Ecc)
  /-- BANK_RETIRE: a write of BANK_RETIRE (R244). -/
  | bankRetire (w : HostWrite)
  /-- BANK_COPY_DONE: the last row is copied, with what the copy's reads found (R244). -/
  | bankCopyDone (e : StoreEnd)
  /-- BANK_MAP_SWITCH: the map points at the spare at the tick to come (R244). -/
  | bankMapSwitch
  /-- BANK_RETIRE_DRAINED: the old bank's tags have returned (R244). -/
  | bankRetireDrained
  /-- BANK_COPY_FAILED: the spare fails (R244). -/
  | bankCopyFailed
  /-- LINK_START: the link enters TRAINING (R258). -/
  | linkStart
  /-- LINK_TRAINING_DONE: TRAINING ends (R258). -/
  | linkTrainingDone
  /-- RX_LANE_ALIGNED: a receive lane has found COM at a symbol boundary (R251). -/
  | rxLaneAligned (b : LaneBoundary)
  /-- RX_LANE_ALIGN_LOSS: a receive lane loses alignment, after the code groups `g` (R248, R251). -/
  | rxLaneAlignLoss (lane : Fin 2) (g : List (BitVec 10))
  /-- MARKER_INTERVAL: an alignment marker (R250). -/
  | markerInterval
  /-- RX_BITSLIP: a write of RX_BITSLIP (R252). -/
  | rxBitslip (w : HostWrite)
  /-- TX_BITSLIP: a write of 1 to TX_BITSLIP (R252). -/
  | txBitslip (lane : Fin 9) (a : HostAt)
  /-- CAPABILITY_REPEAT: CAPABILITY is sent again (R258). -/
  | capabilityRepeat
  /-- CAPABILITY: a host CAPABILITY packet (R259). -/
  | capability (w0 : BitVec 64)
  /-- STR_CAP_TIMEOUT: no host CAPABILITY has come (R259). -/
  | strCapTimeout
  /-- TX_TUNE_HOLD_END: a preset's hold ends (R254). -/
  | txTuneHoldEnd
  /-- EFOM_REPORT: a host EFOM_REPORT packet (R255). -/
  | efomReport (b : List Byte)
  /-- CREDIT: the entries of a host CREDIT packet (R271). -/
  | credit (ws : List Nat)
  /-- SIDEBAND: a host SIDEBAND packet (R275). -/
  | sideband (seq : Nat) (cc : Fin 2800) (b : List Byte)
  /-- LANE_NOTICE: a host LANE_NOTICE packet (R278). -/
  | laneNotice (w0 : BitVec 64)
  /-- HOST_PACKET_INVALID: the oldest host packet that the receive lanes have brought is judged, and discarded where R265 says so; with none there, one that
  R265 refuses is discarded. -/
  | hostPacketInvalid
  /-- ELECTRICAL_IDLE_ENTER: the lanes go idle (R257). -/
  | electricalIdleEnter
  /-- ELECTRICAL_IDLE_EXIT: the lanes leave idle (R257). -/
  | electricalIdleExit
  /-- DECIMATED_PACKET_READY: a DECIMATED packet of a stream (R266). -/
  | decimatedPacketReady (n : Fin 16)
  /-- RAW_PACKET_READY: a RAW packet of a stream (R266). -/
  | rawPacketReady (n : Fin 16)
  /-- PACKET_SENT: the packet on the lanes ends (R269). -/
  | packetSent
  /-- STATUS_PERIOD_EXPIRE: a periodic STATUS packet (R274). -/
  | statusPeriodExpire
  /-- STREAM_CREDIT_ADD: a write of STREAM_CREDIT_ADD (R271). -/
  | streamCreditAdd (n : Fin 15) (w : HostWrite)
  /-- LANE_RETIRE: a write of LANE_RETIRE (R276). -/
  | laneRetire (w : HostWrite)
  /-- LANE_MOVE: a lane's data moves after marker M (R276). -/
  | laneMove
  /-- LANE_RETURN: a write of LANE_RETURN (R277). -/
  | laneReturn (w : HostWrite)
  /-- LANE_RETURN_ANNOUNCE: the move back is announced (R277). -/
  | laneReturnAnnounce
  /-- LINK_FAULT_RECOVER: the link restarts after a receive loss (R260). -/
  | linkFaultRecover
  /-- READ: a READ message (R289). -/
  | read (q : Request)
  /-- WRITE: a WRITE message (R282). -/
  | write (q : Request)
  /-- DREAD: a DREAD message (R292). -/
  | dread (q : Request)
  /-- DWRITE: a DWRITE message (R291). -/
  | dwrite (q : Request)
  /-- CONNECT: a CONNECT message (R308). -/
  | connect (q : Request)
  /-- ABORT: a ABORT message (R289). -/
  | abort (q : Request)
  /-- OBJECT_WRITE: a write of the object with key index times 256 plus subindex (R282). -/
  | objectWrite (key : Fin 16777216) (w : HostWrite)
  /-- COMMIT: a write of COMMIT (R286). -/
  | commit (w : HostWrite)
  /-- COMMIT_CHECK_DONE: the commit check ends (R287). -/
  | commitCheckDone (cc : Fin 2800)
  /-- COMMIT_ACTIVATE: the groups activate at the tick to come, after a swap of the same tick (R18, R19). -/
  | commitActivate
  /-- DISCARD: a write of DISCARD (R285). -/
  | discard (w : HostWrite)
  /-- CAN_BUS_OFF: what the error counters of a controller make of an event, bus-off and the recovery from it among them (R293). -/
  | canBusOff (m : Fin 2) (e : CanEvent)
  /-- CAN_SETTINGS_APPLY: a controller takes its settings at bus idle (R295). -/
  | canSettingsApply (m : Fin 2)
  /-- CAN_STATUS_FRAME: a status frame (R295). -/
  | canStatusFrame (m : Fin 2)
  /-- QSPI_READ: the READ command (R298). -/
  | qspiRead (addr : Nat) (n : Nat)
  /-- WREAD: the WREAD command (R300). -/
  | wread (addr : Nat) (n : Nat)
  /-- QSPI_WRITE: the WRITE command (R299). -/
  | qspiWrite (addr : Nat) (b : List Byte)
  /-- QSPI_STATUS: the STATUS command (R296). -/
  | qspiStatus
  /-- QSPI_UNKNOWN_COMMAND: an unknown command (R296). -/
  | qspiUnknownCommand
  /-- QSPI_MIRROR_WRITE_APPLY: the oldest queued mirror write (R299). -/
  | qspiMirrorWriteApply (cc : Fin 2800) (ecc : Ecc)
  /-- QDOM_SEL: a write of QDOM_SEL (R300). -/
  | qdomSel (w : HostWrite)
  /-- QDOM_WRITE_LEN: a write of QDOM_WRITE_LEN (R300). -/
  | qdomWriteLen (w : HostWrite)
  /-- QDOM_WRITE_DONE: the DOMAIN window write completes (R300). -/
  | qdomWriteDone (cc : Fin 2800)
  /-- QSPI_DICT_VER: a write of QSPI_DICT_VER (R307). -/
  | qspiDictVer (w : HostWrite)
  /-- SEAL_PROGRAM: an authenticated write of SEAL_PROGRAM (R391). -/
  | sealProgram (a : AuthWrite)
  /-- SEAL_PROGRAM_DONE: seal programming ends (R391). -/
  | sealProgramDone (rows : FuseEnd)
  /-- DEG_ACK: an authenticated write of DEG_ACK (R400). -/
  | degAck (a : AuthWrite)
  /-- RETIRE_BURN: an authenticated write of RETIRE_BURN (R423). -/
  | retireBurn (a : AuthWrite)
  /-- RETIRE_BURN_DONE: retire fuse programming ends (R423). -/
  | retireBurnDone (verified : FuseEnd)
  /-- AUTH_LOCKOUT_END: the lock-out is over (R305). -/
  | authLockoutEnd
  /-- PENNANT_CLEAR: a write of PENNANT_CLEAR (R309). -/
  | pennantClear (w : HostWrite)
  /-- IRQ_ACK: a write of IRQ_ACK (R310). -/
  | irqAck (w : HostWrite)
  /-- REFCLK_LOSS: REFCLK is absent (R314). -/
  | refclkLoss (cc : Fin 2800)
  /-- REFCLK_RETURN: REFCLK is present again (R314). -/
  | refclkReturn
  /-- PLL_WINDOW_END: a window of PLL A, or of PLL B, ends with difference `d` (R318). -/
  | pllWindowEnd (b : Bool) (d : Int) (cc : Fin 2800)
  /-- PLL_FAIL_TIMEOUT: 10 ms without lock (R319). -/
  | pllFailTimeout (b : Bool)
  /-- CLKOUT_RECONFIG: an output takes its committed setting (R324). -/
  | clkoutReconfig (o : Fin 2)
  /-- HK_TRIGGER: triggers of the tick reach the HK ADC (R334). -/
  | hkTrigger
  /-- HK_TIMER_EXPIRE: the HK timer fires (R334). -/
  | hkTimerExpire
  /-- HK_ENTRY: the sequencer takes its next entry (R332). -/
  | hkEntry (cc : Fin 2800)
  /-- HK_CONVERSION_DONE: a conversion ends (R332). -/
  | hkConversionDone (r : HkReading)
  /-- SERVICE_CONVERSION: the conversion of LAS_VS, or of VIN (R335). -/
  | serviceConversion (las : Bool) (code : Int)
  /-- HK_URGENT: a write of HK_URGENT (R338). -/
  | hkUrgent (w : HostWrite)
  /-- URGENT_COMPLETE: the urgent conversion at the head of the queue ends (R339). -/
  | urgentComplete (r : HkReading)
  /-- CA_SAMPLE: a sample of a charge amplifier, the `k`-th of its slot, with its energy check (R341, R380). -/
  | caSample (amp : Fin 5) (k : Fin 4) (m : Int)
  /-- CA_RANGE_CHANGE: a reset instant (R343). -/
  | caRangeChange (amp : Fin 5)
  /-- CAL_PERIOD_END: the period ends at the tick to come (R359). -/
  | calPeriodEnd
  /-- CAL_SNAP: a write of 1 to CAL_SNAP (R366). -/
  | calSnap (a : HostAt)
  /-- CAL_SNAPSHOT_TICK: the values of the tick just passed are captured (R366). -/
  | calSnapshotTick
  /-- CAL_SNAP_WRITTEN: the snapshot is in CAL_IMAGE (R366). -/
  | calSnapWritten
  /-- CAL_IMAGE_WRITE: a write of CAL_IMAGE (R367). -/
  | calImageWrite (w : HostWrite)
  /-- CAL_IMAGE_APPLY: the image is in force from the tick to come (R368). -/
  | calImageApply
  /-- ENSIGN_BIN_STEP: the bin clock steps without a slot tick (R379). -/
  | ensignBinStep
  /-- SAFE_HOLD_ENTRY: SAFE-HOLD at the tick to come (R382). -/
  | safeHoldEntry
  /-- INHIBIT_FALL: INHIBIT_N falls (R383). -/
  | inhibitFall
  /-- INHIBIT_RELEASE: INHIBIT_N has been high for 10 µs (R383). -/
  | inhibitRelease
  /-- PERMIT_FEEDBACK_FAULT: the feedback of permit A, or of B, stands at a level when its time to follow is over (R384). -/
  | permitFeedbackFault (b : Bool) (level : Bool)
  /-- PERMIT_TEST_START: the permit under test goes low (R385). -/
  | permitTestStart
  /-- PERMIT_TEST_END: the off-pulse is judged (R385). -/
  | permitTestEnd (pass : Bool)
  /-- FORCED_TEST_DUE: 100 ms without a test (R386). -/
  | forcedTestDue
  /-- ENSIGN_URGENT_REQUEST: channel B's urgent request (R388). -/
  | ensignUrgentRequest
  /-- ENSIGN_URGENT_TIMEOUT: 20 ms without a result (R388). -/
  | ensignUrgentTimeout
  /-- SEAL_CRC_CHECK: the CRC of the seal copies (R392). -/
  | sealCrcCheck (upset : Bool)
  /-- STRAP_READ: the straps as read (R395). -/
  | strapRead (ohms : List Nat)
  /-- DEGRADED_ENTRY: DEGRADED at the tick to come (R398). -/
  | degradedEntry
  /-- DEG_BUDGET_SPENT: the budget is spent (R399). -/
  | degBudgetSpent
  /-- DEG_CLEAN_REACHED: DEG_CLEAN has reached 2,000 ms (R402). -/
  | degCleanReached
  /-- DEGRADED_RETURN: the return from DEGRADED at the tick to come (R400). -/
  | degradedReturn
  /-- LBIST: a BIST_CMD of kind 1 for a unit (R407). -/
  | lbist (u : Fin 16777216) (a : HostAt)
  /-- MBIST: a BIST_CMD of kind 2 for a unit (R407). -/
  | mbist (u : Fin 16777216) (a : HostAt)
  /-- ALOOP: a BIST_CMD of kind 3 for a unit (R407). -/
  | aloop (u : Fin 16777216) (a : HostAt)
  /-- PRBS: a BIST_CMD of kind 4 for a unit (R407). -/
  | prbs (u : Fin 16777216) (a : HostAt)
  /-- FUSE_TEST: a BIST_CMD of kind 5 for a unit (R407). -/
  | fuseTest (u : Fin 16777216) (a : HostAt)
  /-- BIST_HANDOVER_DONE: the spare serves (R408). -/
  | bistHandoverDone
  /-- BIST_SAVE_DONE: the region is saved (R409). -/
  | bistSaveDone
  /-- BIST_TEST_END: the test logic finishes (R410). -/
  | bistTestEnd (count : Nat) (countExp : Nat) (sig : Nat) (sigExp : Nat) (done : Bool)
  /-- BIST_RESTORE_DONE: the region is restored (R409). -/
  | bistRestoreDone
  /-- BIST_ABORT: a write of 1 to BIST_ABORT (R411). -/
  | bistAbort (a : HostAt)
  /-- UNIT_FAILURE: a unit is found failed (R417). -/
  | unitFailure (u : Nat)
  /-- UNIT_RETIRE: a write of UNIT_RETIRE (R418). -/
  | unitRetire (w : HostWrite)
  /-- UNIT_RETURN: a write of UNIT_RETURN (R421). -/
  | unitReturn (w : HostWrite)
  /-- SHADOW_PHASE_START: the shadow phase starts at the tick to come (R419). -/
  | shadowPhaseStart
  /-- SHADOW_PHASE_END: the shadow phase ends at the tick to come (R419). -/
  | shadowPhaseEnd
  /-- EXTEST: EXTEST: the chain samples the pins and drives what was shifted in (R414). -/
  | extest (pins : List Bool) (outs : List Bool)
  /-- SAMPLE_PRELOAD: SAMPLE/PRELOAD (R414). -/
  | samplePreload (pins : List Bool) (outs : List Bool)
  /-- CLAMP: CLAMP (R414). -/
  | clamp
  /-- HIGHZ: HIGHZ (R414). -/
  | highz
  /-- SCAN_ENTRY: SCAN_ENTRY (R415). -/
  | scanEntry
  /-- BYPASS: BYPASS, or a code of no instruction (R414). -/
  | bypass (ir : Fin 16)
  /-- VAO_START: VIN rises above 7.0 V (R425). -/
  | vaoStart
  /-- AO_RELEASE: the always-on domain is released (R425). -/
  | aoRelease
  /-- VIN_POR: VIN falls below 6.0 V (R425). -/
  | vinPor
  /-- RAIL_START: the rails start (R429). -/
  | railStart
  /-- RAIL_POWER_GOOD: the rail that ramps is good (R429). -/
  | railPowerGood
  /-- RAIL_FAULT: a rail fault of a cause (R430). -/
  | railFault (rail : Fin 3) (cause : Nat)
  /-- RAIL_RESTART: 100 ms after a rail fault (R430). -/
  | railRestart
  /-- SHED_DECLARE: a shed level is declared (R431). -/
  | shedDeclare (level : Fin 5) (cc : Fin 2800)
  /-- SHED_CLEAR: a shed level clears (R435). -/
  | shedClear (level : Fin 5) (cc : Fin 2800)
  /-- OV_DECLARE: overvoltage (R432). -/
  | ovDeclare (cc : Fin 2800)
  /-- OV_CLEAR: the end of overvoltage (R432). -/
  | ovClear (cc : Fin 2800)
  /-- VIN_MINMAX_CLR: a write of 1 to VIN_MINMAX_CLR (R427). -/
  | vinMinmaxClr (a : HostAt)
  /-- TS_READING: the sensors' readings of a millisecond (R436, R444). -/
  | tsReading (codes : List (Option Int))
  /-- TS_BREAK: a sensor is broken (R437). -/
  | tsBreak (i : Fin 12)
  /-- TS_DISAGREE_CHANGE: a zone's sensors differ, or agree again, for 1 s (R438). -/
  | tsDisagreeChange (z : Fin 6)
  /-- THROTTLE_STEP_UP: the throttle step rises (R442). -/
  | throttleStepUp
  /-- THROTTLE_STEP_DOWN: the throttle step falls (R442). -/
  | throttleStepDown
  /-- MODE_REQ: a write of MODE_REQ (R447). -/
  | modeReq (w : HostWrite)
  /-- MODE_REQUEST_JUDGE: the request is judged at the tick to come (R448). -/
  | modeRequestJudge
  /-- MODE_CHANGE_AT_FRAME: an accepted change takes effect at the frame boundary to come (R448). -/
  | modeChangeAtFrame
  /-- BOOT_START: BOOT starts (R452). -/
  | bootStart (i : BootInput)
  /-- BOOT_END: BOOT ends (R452). -/
  | bootEnd
  /-- BOOT_EXIT_TICK: BOOT is left at the tick to come (R448). -/
  | bootExitTick
  /-- SCRIPT_WRITE: a WRITE record (R457). -/
  | scriptWrite (cc : Fin 2800) (ecc : Ecc)
  /-- SCRIPT_DOMAIN: a DOMAIN record (R457). -/
  | scriptDomain (cc : Fin 2800)
  /-- SCRIPT_COMMIT: a COMMIT record (R457). -/
  | scriptCommit
  /-- SCRIPT_WAIT: a WAIT record (R457). -/
  | scriptWait
  /-- SCRIPT_WAIT_TIMEOUT: a WAIT record runs out of time (R457). -/
  | scriptWaitTimeout
  /-- SCRIPT_END: the END record (R457). -/
  | scriptEnd
  /-- RESET_ASSERT: RESET_N low for 20 µs (R459). -/
  | resetAssert
  /-- RESET_STUCK: RESET_N low for 2 s (R460). -/
  | resetStuck
  /-- RESET_RELEASE: RESET_N high for 20 µs (R461). -/
  | resetRelease
  /-- RET_LOG_CLEAR: a write of 1 to RET_LOG_CLEAR (R462). -/
  | retLogClear (a : HostAt)
  /-- RX_MARKER_INTERVAL: a marker position on a receive lane, its cc, the code groups since the last report and the eye (R248, R249, R256). -/
  | rxMarkerInterval (lane : Fin 2) (cc : Fin 2800) (g : List (BitVec 10)) (height : Rat) (width : Rat)
  /-- TEST_EN_CHANGE: TEST_EN changes (R414). -/
  | testEnChange (high : Bool)
  /-- TRST_N_ASSERT: TRST_N (R415). -/
  | trstNAssert
  /-- CAN_FRAME_IGNORED: a frame that is ignored (R293). -/
  | canFrameIgnored (m : Fin 2)
  /-- HOLD_CIRCUIT_THRESHOLD: VIN crosses 3.0 V (R89). -/
  | holdCircuitThreshold (above : Bool)
  deriving DecidableEq, Repr

end Sys2Proof
end

