-- ==== Sys2Proof/Config.lean ====
section
/-! DEFINITION. What the spec leaves open and the machine nevertheless produces: each is an opaque constant, so nothing
can be proved of its value. A free value drawn afresh is the constant applied to the draw counter of State
(log 9); one that is a function of its operands takes them as arguments. -/

namespace Sys2Proof.Config

/-- The on-die entropy source of R304: the n-th value it delivers (log 10). -/
opaque entropy : Nat → Nat

/-- Normalised power of one bin of one spectrum, as numerator and denominator less one: R154 bounds the noise of the block floating-point FFT and
states no result for a bin (log 8). Arguments: draw, bin. -/
opaque binPower : Nat → Nat → Nat × Nat

/-- F32 result of a polynomial of degree (3, 2) where the order of its roundings decides: the spec says
"evaluates in F32 arithmetic" and gives no order (log 9). Arguments: the twelve coefficient patterns, x, t as F32 patterns. -/
opaque polyF32 : List Nat → Nat → Nat → Nat

/-- Code of a unit or rule in CHECK_DETAIL: Table 2.10 names the field and gives no numbering (log 11). Argument: position
in Table 2.6, or 16 plus the subindex of Table 15.1. -/
opaque checkUnit : Nat → Nat

/-- Direction of a rounding the spec does not state, for the quantity named and its exact value as numerator and denominator (log 9). -/
opaque roundUp : String → Int → Nat → Bool

/-- Any other value the spec leaves unstated, by draw number (log 9). -/
opaque freeNat : Nat → Nat

/-- A result unstated for its operands (log 9): arguments are a tag naming the quantity and its operands. -/
opaque unstated : String → List Int → Int

/-- Whether an odd number of training pairs left lane `p` before its `n`-th packet, marker or burst: each pair reverses the lane's running disparity (R248, R249),
and how many there were depends on instants that no rule fixes (log 51). -/
opaque pairsOdd : (n p : Nat) → Bool

end Sys2Proof.Config
end

