-- ==== Sys2Proof/Machine/CalTypes.lean ====
section
/-! DEFINITION. Types of the state of chapter 14: the calibration values that no register holds, the statistics of the period in progress and the restore
targets. -/

namespace Sys2Proof.Machine

/-- Values of one physical ADC slice (Table 14.4). -/
structure SliceCal where
  offset : Int := 0
  gain : Int := 0
  skew : Nat := 32
  deriving DecidableEq, Repr

/-- The cumulative table of a TDC after BOOT (R354). -/
def cumDefault : List Nat := (List.range 128).map fun k => 2 * k + 1

/-- Sums over pairs of samples, from which their correlation follows. -/
structure PairSums where
  n : Nat := 0
  a : Int := 0
  b : Int := 0
  aa : Int := 0
  bb : Int := 0
  ab : Int := 0
  deriving DecidableEq, Repr

/-- Statistics of one channel in the period in progress (R351 to R358). -/
structure ChanStats where
  posHist : List (List (Nat × Nat)) := List.replicate 8 []   -- class 0: by position, how often each code plus 2,048 occurred
  samples : Nat := 0                           -- samples per position, class 0
  shadowHist : List (Nat × Nat) := []          -- the same of the shadow slice, and of the samples taken with it
  besideHist : List (Nat × Nat) := []
  shadowSamples : Nat := 0
  skewSamples : Nat := 0                       -- class 1: samples per position
  pairs : List PairSums := List.replicate 8 {} -- by position p, its samples with those of position p + 1
  shadowBefore : PairSums := {}                -- samples before the shadow slice's own, and the pairs with those after them
  shadowAfter : PairSums := {}
  hits : List Nat := []                        -- class 2: crossings by raw code
  crossings : Nat := 0
  delaySum : Rat := 0                          -- of the stamps without COMP_DELAY less the interpolated instants, in ft
  delays : Nat := 0
  levelSum : Rat := 0                          -- of the ADC levels at the stamped instants less the threshold, in codes
  levels : Nat := 0
  sum : List Int := []                         -- class 3: sum of the waveforms before the crosstalk step
  shots : Nat := 0
  emShots : Nat := 0                           -- shots of its emitter since these sums were cleared
  fineSum : Nat := 0
  cands : Nat := 0                             -- class 4: candidates and bins tested
  bins : Nat := 0
  deriving DecidableEq, Repr

/-- Statistics of one emitter: its shots for class 3; for class 5 the sums of the first 64 values, the waveforms summed, and the shots. -/
structure EmitStats where
  shots : Nat := 0
  xtSum : List Int := []
  waves : Nat := 0
  xtShots : Nat := 0
  deriving DecidableEq, Repr

/-- The calibration engine (R351 to R369). Items are numbered as `Calibration.lean` says. -/
structure Calib where
  slices : List SliceCal := List.replicate 432 {}
  cum : List (List Nat) := List.replicate 49 cumDefault
  xt : List (List Int) := List.replicate 16 (List.replicate 64 0)
  running : Bool := false
  frames : Nat := 0                            -- frame boundaries since the period began
  chans : List ChanStats := List.replicate 48 {}
  levels : List (Option Int) := List.replicate 48 none   -- class 2 thresholds in codes, none before a slot has measured them (R354)
  comps : List Bool := List.replicate 48 false -- the comparators that the engine has taken (R354)
  trigIn : ChanStats := {}                     -- class 2 statistics of TRIG_IN's TDC
  emits : List EmitStats := List.replicate 16 {}
  settled : List Nat := []                     -- items settled since they last became unsettled, rising
  targets : List (Nat × Int) := []             -- restore targets by item (R369)
  shadowPos : List Nat := List.replicate 48 0  -- position each channel's spare slice shadows (R352)
  snapTicks : Nat := 0                         -- ticks to the snapshot that CAL_SNAP requests (R366)
  snapshot : Option (List Byte) := none        -- captured, not yet written into CAL_IMAGE
  snapDue : Bool := false                      -- the present tick is the snapshot tick
  applyTicks : Nat := 0                        -- ticks until an image accepted in STANDBY is in force (R368)
  accepted : List Byte := []                   -- that image
  limRun : List (Nat × Nat) := []              -- slices at a range limit, with the period ends in a row (Table 16.4)
  skip : List (Nat × Nat) := []                -- class and item whose workspace granule faulted in the present slot (R364)
  periodDone : Bool := false                   -- the frame boundary of the tick to come has been counted
  deriving DecidableEq, Repr

end Sys2Proof.Machine
end

