-- ==== Sys2Proof/Machine/ClockTypes.lean ====
section
/-! DEFINITION. Types of the state of chapter 12: the lock detectors of the two PLLs and the clock outputs. -/

namespace Sys2Proof.Machine

/-- Lock detector of one PLL (R318, R319, R323). -/
structure Pll where
  good : Nat := 0                      -- consecutive windows with |d| at most 2
  skip : Bool := false                 -- the window in progress does not count
  ticks : Nat := 0                     -- slot ticks since the PLL's start, at most 5,000 (10 ms)
  deriving DecidableEq, Repr

/-- One clock output: the settings it runs with (R324 to R326). `phase` counts the source periods from the last rising edge to the present
tick, while the divider is known to stand in a fixed relation to the ticks. -/
structure ClkOut where
  en : Bool := false
  src : Nat := 0
  fmt : Nat := 0
  div : Nat := 1
  due : Bool := false                  -- a new setting waits for the first rising edge of its source
  fresh : Bool := false                -- it was committed for the tick in hand, whose slot has not begun
  held : Bool := true                  -- holds its static low state until its source restarts it
  phase : Option Nat := none
  deriving DecidableEq, Repr

/-- What a clock output's balls do (R326). -/
inductive ClkLevel | highZ | low | running
  deriving DecidableEq, Repr

/-- Clocks. `slotLocked` holds in the slots that are no slots of lock loss: from the first locked tick (R321) to the first tick after a
declaration of loss (R320). -/
structure Clocks where
  slotLocked : Bool := false
  declared : Bool := false             -- PLL A has declared lock since BOOT began (R25)
  restarted : Bool := false            -- the dividers have restarted at a 200-cycle boundary (R321)
  a : Pll := {}
  b : Pll := {}
  outs : List ClkOut := [{}, {}]
  deriving DecidableEq, Repr

end Sys2Proof.Machine
end

