-- ==== Sys2Proof/Machine/CoreTypes.lean ====
section
/-! DEFINITION. Types of the state of chapters 1 to 5 and 15: modes, the slot pipeline, Comet and the plan banks,
firing, the reservoir, the mirror, the receive channels, APD bias, echo processing and Ensign. -/

namespace Sys2Proof.Machine

/-- The twelve modes of Table 18.1. -/
inductive Mode
  | off | held | boot | selfTest | standby | calibrate | scan | scanAnalyse | survey | degraded | safeHold
  | thermalLatch
  deriving DecidableEq, Repr

/-- Code of a mode (R446). -/
def Mode.code : Mode → Nat
  | .off => 0 | .held => 1 | .boot => 2 | .selfTest => 3 | .standby => 4 | .calibrate => 5 | .scan => 6
  | .scanAnalyse => 7 | .survey => 8 | .degraded => 9 | .safeHold => 10 | .thermalLatch => 11

/-- The mode of a code (R446). -/
def Mode.ofCode : Nat → Mode
  | 0 => .off | 1 => .held | 2 => .boot | 3 => .selfTest | 4 => .standby | 5 => .calibrate | 6 => .scan
  | 7 => .scanAnalyse | 8 => .survey | 9 => .degraded | 10 => .safeHold | _ => .thermalLatch

/-- Kinds of slot (Table 2.4); `none` is a slot in which Comet does not run. -/
inductive SlotKind | none | slot | calgap | testgap | idle
  deriving DecidableEq, Repr

/-- A FIRE word's fields (Table 2.3). -/
structure FireWord where
  emask : Nat := 0
  eidx : Nat := 0
  dither : Bool := false
  fine : Nat := 0
  deriving DecidableEq, Repr

/-- A MARK word's fields (Table 2.3). -/
structure MarkEv where
  code : Nat := 0
  sample : Nat := 0
  toSlotOut : Bool := false
  toTrig : Bool := false
  toHk : Bool := false
  deriving DecidableEq, Repr

/-- An EMIT word's fields (Table 2.3). -/
structure EmitCfg where
  pts : Bool := false
  lastPref : Bool := false
  maxEcho : Nat := 1
  hdump : Bool := false
  hdumpAs : Nat := 0
  stream : Nat := 0
  deriving DecidableEq, Repr

/-- One bank of the plan store: the plan DOMAIN and its five table DOMAINs (R29, R46). -/
structure PlanBank where
  plan : List Byte := []
  tables : List (List Byte) := [[], [], [], [], []]
  deriving DecidableEq, Repr

/-- The plan store, the load-time checker and the swap (R29, R47, R53 to R56). `swapTicks` counts the ticks to the first
eligible one under R19's rule, 0 while none is set. -/
structure PlanStore where
  active : PlanBank := {}
  pending : PlanBank := {}
  hasActive : Bool := false
  swapped : Bool := false              -- the swap of the tick to come has taken place (R20)
  shadowNonce : Nat := 0
  ditherNonce : Option Nat := none     -- nonce the active Dither Table was generated with, none while zeroised
  swapTicks : Nat := 0
  deriving DecidableEq, Repr

/-- Comet (R32 to R45, R57 to R60). -/
structure Comet where
  running : Bool := false
  startDue : Bool := false             -- the first FRAME word runs at the next tick (R57)
  hold : Bool := false                 -- the tick of the mode entry itself is not over: no word runs yet (R57)
  pc : Nat := 8
  loops : List (Nat × Nat) := []       -- innermost first: address of the LOOP word, repetitions left
  fire : Option FireWord := none
  marks : List MarkEv := []
  accum : Option (Nat × Nat) := none   -- N and bin width in smp
  single : Option (Nat × Nat × Nat) := none
  emit : EmitCfg := {}
  waitCond : Nat := 0
  released : Bool := true
  kind : SlotKind := .none             -- of the slot-producing word in progress
  left : Nat := 0
  wordFire : Option FireWord := none
  wordMarks : List MarkEv := []
  calSel : Nat := 0
  frameLen : Nat := 0
  frameDone : Nat := 0
  frameSeen : List Nat := []           -- addresses of the FRAME words reached, in order
  frameOrd : Nat := 0
  tag : Nat := 0
  resLevel : Nat := 0
  groupPos : Nat := 0                  -- shots of the group in progress already produced
  groupOrd : Nat := 0                  -- ordinal in the frame of the next group to start
  singleReset : Bool := false          -- a FRAME or SINGLE word ran since the last slot (R135)
  throttleFrame : Bool := false        -- throttle step 3 as sampled at the last frame boundary (Table 2.9)
  groupMasked : Bool := false          -- the group in progress is masked by L2 (Table 2.9)
  deriving DecidableEq, Repr

/-- What became of a planned fire. -/
inductive FireFate | planned | withheld | suppressed | fired | truncated | ended
  deriving DecidableEq, Repr

/-- One emitter's fire command of a slot (Table 3.1, R67, R377). -/
structure FireCmd where
  emitter : Nat := 0
  eidx : Nat := 0
  width : Nat := 0                     -- ft
  dither : Nat := 0                    -- effective dither, smp
  dithered : Bool := false
  fine : Nat := 0
  calE : Nat := 0
  energy : Rat := 0                    -- E of R377, 0.1 nJ
  released : Bool := false             -- channel A let the edge go at the tick (R377)
  capEnd : Bool := false               -- channel A cuts the pulse at w in DEGRADED (R377)
  fate : FireFate := .planned
  deriving DecidableEq, Repr

/-- One cadence of a decimator: its reset sample relative to the start of the slot it is held with, its L and its D (R211). -/
structure Cadence where
  at_ : Int := 0
  len : Nat := 256
  dec : Nat := 256
  deriving DecidableEq, Repr

/-- A comparator crossing that the calibration engine counts (R354): channel, or 48 for TRIG_IN, raw code, stamp in ft without COMP_DELAY, and the threshold
where one was measured. -/
structure Crossing where
  ch : Nat := 0
  code : Nat := 0
  at_ : Int := 0
  thr : Option Int := none
  deriving DecidableEq, Repr

/-- One slot of the pipeline with everything its later stages need (R12, R487). `objs` are the register values in force at the
tick that starts the slot. -/
structure SlotCtx where
  live : Bool := false                 -- Comet produced this slot
  no : Nat := 0
  locked : Bool := false
  kind : SlotKind := .none
  frameOrd : Nat := 0
  frameSlot : Nat := 0
  lastOfFrame : Bool := false
  tag : Nat := 0
  newFrame : Bool := false
  fires : List FireCmd := []
  emask : Nat := 0
  withheld : Bool := false             -- fire withheld for the whole slot (R41, R60)
  noEcho : Bool := false               -- no echo work (R59, R60)
  masked : Bool := false
  accum : Option (Nat × Nat) := none
  single : Option (Nat × Nat × Nat) := none
  singleReset : Bool := false
  emit : EmitCfg := {}
  groupPos : Nat := 0                  -- position in its group counted from 1, 0 outside groups
  fine : Nat := 0
  calSel : Nat := 0
  marks : List MarkEv := []            -- mark events of the slot not yet issued (R45)
  objs : List (Nat × Nat) := []
  amb : List Nat := []
  powered : Nat := 0
  active : Nat := 0
  sparePath : Nat := 0                 -- channels of which a slice is the spare (Table 5.7)
  calChannels : Nat := 0               -- channels with a calibration change at this slot's tick (Table 5.7)
  samples : SlotSamples := []
  shadow : SlotSamples := []           -- codes of the shadow slices (R108), with the positions they shadow
  shadowPos : List Nat := []
  crosses : List Crossing := []        -- crossings of a slot of class 2 (R354)
  angle : Int := 0
  target : Int := 0                    -- loop target of the slot (R85, R88)
  angleSrc : Nat := 0
  degMode : Bool := false
  testSlot : Bool := false
  resumed : Bool := false              -- first slot after lock loss (R135)
  overrun : Nat := 0                   -- units that did not finish this slot's work (R16, R61)
  capLost : Nat := 0                   -- emitters whose fire the energy cap withheld (R70)
  cads : List (List Cadence) := []     -- per channel the decimator cadences that served in the slot, newest first (R125)
  gainCommit : Nat := 0                -- channels whose new gain activated at this slot's tick (R100)
  takenOver : Nat := 0                 -- channels whose engine was taken over after a failure at this slot's tick (R127)
  noEngine : Nat := 0                  -- channels whose echo engine is retired with no spare (Table 16.4)
  ee12 : Nat := 255                    -- engine whose duty EE12 has in this slot
  warming : Nat := 0
  bank : PlanBank := {}                -- the plan and tables in force in the slot (R46)
  xt : List (List Int) := []           -- crosstalk templates in force in the slot, 16 of 64 values (R124)
  deriving DecidableEq, Repr

/-- A reported echo of one pass (R131, R132, R136, R137). -/
structure Echo where
  bin : Nat := 0
  t : Int := 0
  rng : Nat := 0
  amp : Nat := 0
  width : Nat := 0
  cls : Nat := 0
  unconfirmed : Bool := false
  deriving DecidableEq, Repr

/-- A formed point record (Table 5.6). -/
structure PointRec where
  ch : Nat := 0
  slot : Nat := 0
  rng : Nat := 0
  echo : Nat := 0
  emitter : Nat := 0
  cls : Nat := 0
  amp : Nat := 0
  width : Nat := 0
  flags : Nat := 0
  amb : Nat := 0
  angle : Int := 0
  deriving DecidableEq, Repr

/-- What the histogram unit holds of a channel's group in progress (R126, R127, R131, R141). -/
structure GroupAcc where
  n : Nat := 0
  fineSum : Nat := 0
  anyDither : Bool := false
  allDither : Bool := true
  amb : Nat := 0
  sunHigh : Bool := false
  degraded : Bool := false
  spare : Bool := false
  cal : Bool := false
  angleSum : Int := 0
  slots : Nat := 0
  lost : Bool := false
  gainLost : Bool := false
  deriving DecidableEq, Repr

/-- Echo state of one channel: two histogram buffers with clip bits, the group in progress, the single-shot history
(newest shot first, each the delays of its echoes) (R121, R128, R134). -/
structure EchoChan where
  bufs : List (List Int) := [[], []]
  clips : List (List Bool) := [[], []]
  cur : Nat := 0
  acc : GroupAcc := {}
  history : List (List Int) := []
  deriving DecidableEq, Repr

/-- Records of one slot waiting for their record stage (R13, R142). -/
structure RecStage where
  valid : Bool := false
  slotNo : Nat := 0
  frameOrd : Nat := 0
  frameSlot : Nat := 0
  lastOfFrame : Bool := false
  tag : Nat := 0
  locked : Bool := false
  stream : Nat := 0
  pts : Bool := false
  overrun : Nat := 0
  recs : List PointRec := []
  deriving DecidableEq, Repr

/-- The slot pipeline (R12): the slot being acquired, the slot before it, the slot before that, and the records that wait. -/
structure Pipeline where
  cur : SlotCtx := {}
  prev : SlotCtx := {}
  prev2 : SlotCtx := {}
  formed : RecStage := {}              -- processing stage's records
  ready : RecStage := {}               -- record stage's records, handed over 310 cc after the tick
  chans : List EchoChan := List.replicate 48 {}
  nextGain : Nat := 0                  -- channels whose RX_GAIN changes at the present tick (R100)
  nextCal : Nat := 0                   -- channels with a calibration change at the present tick (Table 5.7)
  nextTaken : Nat := 0                 -- channels whose engine fails over at the present tick (R127)
  caught : Bool := false               -- a row of the tick to come has brought all that the present slot held (log 5)
  deriving DecidableEq, Repr

/-- Reservoir charger (R78 to R82). The target is in 10 mV, `vlas` in the 2.5 mV of a LAS_VS code (R77) and the set point in 0.5 mV, so that RISE_RATE volts per
millisecond is four times RISE_RATE units per slot. -/
structure Reservoir where
  runs : Bool := false                 -- the charger regulates
  setPoint : Nat := 0
  vlas : Int := 0                      -- newest LAS_VS service conversion
  target : Nat := 2000
  disOn : Bool := true                 -- LAS_DIS
  overRun : Nat := 0                   -- consecutive slots above the target by more than 10 % plus 0.5 V
  faultAges : List Nat := []           -- ages in slots of the faults within the last second
  locked : Bool := false               -- three faults within a second: stopped until the next mode entry
  periodOn : Bool := false             -- a switching period is in progress
  endedEarly : Bool := false           -- the sense voltage reached CHG_ILIM in it
  periodDone : Bool := false           -- the switching period of the present slot has started
  periodAt : Nat := 0                  -- sample index at which it started
  deriving DecidableEq, Repr

/-- A rising edge on SOL_IN whose angle is not yet known: its sample counted from the present slot's tick, the mark it is accepted as, and of its slot the loop
target and whether the sweep ran forward (R90, R397); whether the service path has seen it, and whether Ensign has. -/
structure SolEdge where
  at_ : Int := 0
  mark : Option Nat := none
  target : Int := 0
  forward : Bool := false
  service : Bool := true
  ensign : Bool := true
  deriving DecidableEq, Repr

/-- Mirror loop and angle sources (R84 to R91). -/
structure Mirror where
  driveOn : Bool := false
  integ : Int := 0
  ePrev : Int := 0
  clamped : Bool := false
  target : Int := 0
  pendingDrive : Int := 0
  applied : Bool := true
  parking : Bool := false
  underTol : Nat := 0
  overTol : Nat := 0
  tracking : Bool := false
  frameErrMax : Nat := 0
  half0 : Rat := 0                     -- angle samples of the present slot in au (R84, R344)
  half1 : Rat := 0
  halves : Nat := 0                    -- bit 0, 1: sample usable
  end0 : Rat := 0                      -- the same of the slot that ended, until its angle is measured
  end1 : Rat := 0
  ends : Nat := 0
  angleDue : Bool := false             -- the measured angle of the slot that ended is still to come (R84)
  started : Bool := false              -- the drive has started since it was last off (R86)
  solDiff : Int := 0                   -- measured minus trajectory at the last accepted SOL mark (R91)
  measPrev : Int := 0                  -- angle of the slot before the last
  holdOn : Bool := true                -- hold circuit: low-side gates on (R89)
  sinceA : Nat := 100000               -- slots since the last accepted mark A, at most 100,000
  sinceB : Nat := 100000
  awaitA : Option Nat := none          -- slots since the trajectory crossed mark A's angle with no edge accepted yet
  awaitB : Option Nat := none
  pastA : Nat := 100000                -- slots since the trajectory last crossed a mark's angle forwards, at most 100,000
  pastB : Nat := 100000
  edges : List SolEdge := []           -- edges that wait for the angle samples beside them
  ran : Bool := false                  -- Comet has run since the core die was released (R88)
  deriving DecidableEq, Repr

/-- One receive channel outside its registers (R98 to R105). -/
structure RxChan where
  warm : Nat := 0
  servo : Nat := 0
  satRun : Nat := 0
  deriving DecidableEq, Repr

/-- One APD bias zone (R111 to R118). Voltages are in 2 mV, so that APD_SLEW volts per millisecond is APD_SLEW units per slot; times are in slots. -/
structure ApdZone where
  biased : Bool := false
  out : Nat := 0                       -- set point of the regulator, on its way to APD_SET
  run : Nat := 0                       -- slots within tolerance and not slewing, at most 50 (100 µs)
  settled : Bool := false
  frozen : Bool := false
  atMin : Bool := false
  breakFor : Nat := 0                  -- slots of the unbroken break in progress, at most 5,000,000 (10 s)
  limRun : Nat := 0                    -- slots in current limit, at most 500 (1 ms)
  faulted : Bool := false
  reenable : Bool := false             -- the host committed its enable bit to 0 after a fault (R117)
  deriving DecidableEq, Repr

/-- APD boost and zones. -/
structure Apd where
  zones : List ApdZone := List.replicate 4 {}
  ticks : Nat := 0                     -- slot ticks since the last 1 ms point (R113)
  evaluated : Bool := false            -- the evaluation of the tick to come is done
  boostOn : Bool := false              -- a switching period is in progress
  boostTarget : Nat := 0               -- 10 mV
  boostStopped : Bool := false         -- stopped by overvoltage until the next slot (R111)
  deriving DecidableEq, Repr

/-- Which permit an off-pulse test drives (R385). -/
inductive Permit | a | b
  deriving DecidableEq, Repr

/-- Ensign, both channels (R371 to R402); its registers are dictionary objects. Ages are counted in slots, two
microseconds each under R10. -/
structure Ensign where
  th : List Int := []                  -- angle of each slot, newest first (R373)
  own : Int := 0                       -- capacitive angle of the newest slot, before any substitution (R396)
  end0 : Option Rat := none            -- cap0 and cap1 of the slot that ended
  end1 : Option Rat := none
  cap0 : Option Rat := none            -- usable CA-M integrations of the present slot through the sealed polynomial
  cap1 : Option Rat := none
  lastT : Rat := 0                     -- last valid temperature of the pair TS8 and TS9 in °C
  mexcOk : Bool := true
  badRun : Nat := 0
  goodRun : Nat := 0
  agreedSinceLoss : Bool := false
  subOffset : Int := 0
  lastMarkOffset : Option Int := none
  markA : Bool := false                -- marks seen in the forward run in progress
  markB : Bool := false
  markDisagreed : Bool := false
  missingInRun : Bool := false
  missingRuns : Nat := 0
  agreeRuns : Nat := 0
  crossA : Option Nat := none          -- slots since the angle crossed a sealed mark angle without an edge (R397)
  crossB : Option Nat := none
  deriving DecidableEq, Repr

/-- Ensign's sweep check (R375). -/
structure Sweep where
  lastDir : Nat := 0                   -- last direction that was not none: 1 forward, 2 reverse
  inPeriod : Bool := false
  age : Nat := 0
  lo : Int := 0
  hi : Int := 0
  hasLast : Bool := false
  deriving DecidableEq, Repr

/-- Ensign's energy bins, permits and tests (R379 to R388). -/
structure EnsignB where
  bins100 : List (List Rat) := List.replicate 16 []   -- per emitter, present bin first
  bins10 : List (List Rat) := List.replicate 16 []
  binClock : Nat := 0
  released : List (Nat × Rat) := []    -- released fires of the present slot with their energy
  releasedPrev : List (Nat × Rat) := []
  permitA : Bool := false
  permitB : Bool := false
  fbA : Bool := false                  -- feedback levels
  fbB : Bool := false
  test : Option Permit := none         -- the present slot is a test slot for this permit
  testLow : Bool := false              -- the off-pulse is in progress
  testForced : Bool := false
  passed : Option Nat := none          -- the test of the present slot has passed; TP_PASS before it
  forcedDue : Bool := false
  sinceTest : Int := 0                 -- µs since the last test start, or since the permits came on (R386)
  inhibited : Bool := true
  inhibitLow : Bool := true
  urgentWait : Bool := false           -- a request of Ensign waits or is in progress
  urgentRetry : Bool := false
  sinceUrgent : Nat := 0               -- slots since a request of Ensign completed, at most 10,000 (20 ms)
  sinceRequest : Nat := 0              -- slots since the last request, at most 5,000 (10 ms)
  requested : Bool := false            -- the request of the tick to come is made
  lasDone : Bool := false              -- the service conversion of LAS_VS of the present slot is done
  urgentVal : Option Int := none       -- an urgent result that waits for it
  missedWords : Nat := 0
  oddTicks : Nat := 0
  degAck : Bool := false               -- an accepted DEG_ACK returns at the next tick
  spentDue : Bool := false             -- DEG_USED has reached its limit
  cleanUs : Nat := 0                   -- sub-millisecond part of DEG_CLEAN and DEG_USED, in slots
  usedUs : Nat := 0
  surveyFrom : Bool := false           -- DEGRADED was entered from SURVEY
  deriving DecidableEq, Repr

/-- Seal fuse bank and seal programming (R389 to R392). -/
structure Seal where
  prior : List (Nat × Nat) := []       -- values in force of the RWS objects that the present slot has written (R390)
  fuseImage : List Byte := []
  fuseCrc : Nat := 0
  blown : Bool := false
  request : Option Nat := none
  deriving DecidableEq, Repr

end Sys2Proof.Machine
end

