-- ==== Sys2Proof/Machine/HostTypes.lean ====
section
/-! DEFINITION. Types of the state of chapters 11, 16 (keys, test access) and 18: the access paths and their transfers, commits,
authenticated writes, the CAN controllers, the QSPI port, the Pennant word, mode requests, BOOT and the fuses. -/

namespace Sys2Proof.Machine

/-- A DWRITE transfer that is open on a path (R291). -/
structure OpenWrite where
  key : Nat := 0
  total : Nat := 0
  got : List Byte := []
  deriving DecidableEq, Repr

/-- A request that waits on its path (R275, R290, R295): its bytes, the SEQ of its packet or the identifier its response leaves on, whether the response has the bit
rate switch set, and CAN_NOM_RATE and CAN_DATA_RATE for it, as the settings at its arrival have them. -/
structure Waiting where
  bytes : List Byte := []
  aux : Nat := 0
  brs : Bool := false
  rates : Nat × Nat := (0, 0)
  deriving DecidableEq, Repr

/-- A CAN FD frame as sent, with the CAN_NOM_RATE and CAN_DATA_RATE it was sent at (R293, R295). -/
structure CanFrame where
  ident : Nat := 0
  brs : Bool := false
  rates : Nat × Nat := (0, 0)
  data : List Byte := []
  deriving DecidableEq, Repr

/-- One access path (R280, R283, R290 to R292, R307, R308). -/
structure PathState where
  protoVer : Nat := 1
  dictVer : Option Nat := none         -- version the host declared
  snaps : List (Nat × Nat) := []       -- high halves held for partial reads, oldest first
  domSnap : Option (Nat × List Byte) := none
  openWrite : Option OpenWrite := none
  queue : List Waiting := []           -- requests waiting, oldest first
  response : List Byte := []           -- newest response of the path
  result : Nat := 0                    -- result of the newest write on the path (Table 11.1)
  deriving DecidableEq, Repr

/-- The commit being checked or armed (R286 to R288). -/
structure CommitState where
  mask : Nat := 0
  ticks : Nat := 0
  path : Nat := 0
  deriving DecidableEq, Repr

/-- Authenticated writes (R303 to R305). -/
structure Auth where
  mismatchAges : List Nat := []        -- ages in slots of the tag mismatches within the last second
  lockTicks : Nat := 0                 -- slots of lock-out left
  deriving DecidableEq, Repr

/-- One CAN controller (R293 to R295): the CG00 settings it uses. -/
structure CanCtl where
  node : Nat := 32
  nomRate : Nat := 0
  dataRate : Nat := 2
  enabled : Bool := true
  statusEn : Bool := false
  applyDue : Bool := false             -- new settings wait for bus idle
  statusDue : Bool := false            -- the Pennant word changed since the last status frame
  sinceStatus : Nat := 5000            -- slots since the last status frame, at most 5,000 (10 ms)
  sent : CanFrame := {}                -- newest frame sent
  txErrors : Nat := 0                  -- transmit and receive error counters of ISO 11898-1
  rxErrors : Nat := 0
  busOff : Bool := false
  offAges : List Nat := []             -- ages in slots of the bus-offs within the last second (Table 16.4)
  deriving DecidableEq, Repr

/-- The QSPI host port (R296 to R301). -/
structure Qspi where
  writeQ : List (Nat × List Byte) := []   -- mirror writes waiting: address, data
  staging : List Byte := []               -- 256 KiB buffer, a byte not listed is 0
  bulkOut : List Byte := []
  bulkIn : List Byte := []
  outOwner : Option Nat := none           -- DMA engine whose type-1 descriptor is in progress (R301)
  inOwner : Option Nat := none            -- the same for type 2
  domJob : Option (Nat × List Byte) := none   -- QDOM_WRITE_LEN in progress: QDOM_SEL and the content
  readData : List Byte := []              -- bytes the newest READ, WREAD or STATUS returned
  deriving DecidableEq, Repr

/-- The Pennant word's sticky bits, and the word as it stood after the last command (R309, R310). -/
structure PennState where
  sticky : Nat := 0
  last : Nat := 0
  changed : Bool := false              -- some bit changed in the slot before the tick to come (R274)
  later : Bool := false                -- some bit changed by a row of that tick
  events : List (Nat × Nat × Nat) := []   -- sticky bits set by an event whose cc is known, with its slot and cc, newest first (R309)
  deriving DecidableEq, Repr

/-- A mode request that waits (R447 to R449). -/
structure ModeState where
  reqTicks : Nat := 0                  -- ticks to its judging, 0 none
  frameWait : Option Mode := none      -- accepted, waiting for a frame boundary
  deriving DecidableEq, Repr

/-- One FSCK clock of a read of the flash: the lines among FIO0 to FIO3 that the part drives, and their levels (R455). -/
structure FlashClock where
  lines : Nat := 0
  value : Nat := 0
  deriving DecidableEq, Repr

/-- One read of the flash, with FCS_N low throughout: the clocks before its data, and the bytes read. -/
structure FlashRead where
  head : List FlashClock := []
  bytes : Nat := 0
  deriving DecidableEq, Repr

/-- BOOT and its script (R452 to R458). `step` is 0 before the fuse load, 3 while PLL A has neither locked nor failed, 9 while records are applied, 10 when
only the end of BOOT is left and 11 after it. -/
structure BootState where
  step : Nat := 0
  answers : Bool := false              -- the dictionary answers (end of step 7)
  script : List (List Byte) := []      -- records of the accepted script not yet applied
  recNo : Nat := 0                     -- number of the record in hand
  slotB : Bool := false
  flash : List (Nat × List Byte) := [] -- contents of the flash, by address
  reads : List FlashRead := []         -- reads of it since BOOT began, newest first
  staged : Nat := 0                    -- bytes in the staging frames that belong to DOMAIN records applied
  commitWait : Bool := false           -- a COMMIT record waits for its commit
  ticks : Nat := 0                     -- ticks since BOOT started
  oldCauses : Nat := 0                 -- latched causes of before this BOOT (R402)
  failed : List Nat := []              -- units that the start-up BIST finds failed
  deriving DecidableEq, Repr

/-- Reset and test-access levels (R414, R415, R459 to R461). -/
structure ResetState where
  resetLow : Bool := false             -- RESET_N judged low
  stuck : Bool := false
  testEn : Bool := false
  tapHeld : Bool := false              -- dies held until RESET_N is asserted and released
  resetSince : Bool := false           -- RESET_N was asserted since tapHeld was set
  tapIr : Nat := 15                    -- instruction register: 15 BYPASS
  bypass : Bool := false
  chain : List Bool := []              -- boundary-scan chain contents
  preload : List Bool := []            -- values EXTEST and CLAMP drive
  structural : Bool := false           -- structural scan entered
  pinsHighZ : Bool := false
  pinsFromChain : Bool := false
  deriving DecidableEq, Repr

/-- Fuse contents besides the seal (R413, R422, R423, R456). As built: nothing programmed. -/
structure Fuses where
  uniqueId : Nat := 0
  ditherKey : List Byte := List.replicate 16 0
  authKey : List Byte := List.replicate 16 0
  keyHash : List Byte := List.replicate 32 0
  retire : List Nat := List.replicate 64 0
  rowsUsed : Nat := 0                  -- spare fuse rows that stand in for failed ones (Table 16.4)
  deriving DecidableEq, Repr

end Sys2Proof.Machine
end

