-- ==== Sys2Proof/Machine/LinkTypes.lean ====
section
/-! DEFINITION. Types of the state of chapter 10: packets, streams and the Streamer link. -/

namespace Sys2Proof.Machine

/-- A symbol on a lane: a data octet, or a control symbol of Table 10.2. -/
inductive Symbol
  | data (b : Nat)
  | com | am | sop | eop | pad | sus | res
  deriving DecidableEq, Repr

/-- A packet of the GZ48 (Tables 10.6 to 10.8). `notice` names the logical lane, the old and the new physical lane of a LANE_NOTICE whose marker
count is fixed when the packet ends (R276). -/
structure Packet where
  ty : Nat := 0
  stream : Nat := 0
  aux : Nat := 0
  tstamp : Nat := 0
  flags : Nat := 0
  seq : Nat := 0
  payload : List Byte := []
  notice : Option (Nat × Nat × Nat) := none
  deriving DecidableEq, Repr

/-- One stream (R266 to R272); stream 0 carries the control packets. Sample positions are relative to the present slot. -/
structure Stream where
  running : Bool := false
  seq : Nat := 0                       -- SEQ of the next packet
  loss : Bool := false                 -- a packet was dropped since the previous one sent
  queue : List Packet := []            -- complete packets that wait, oldest first
  start : Bool := false                -- the next packet formed carries START
  rawNext : Int := 0                   -- RAW: first sample of the packet in assembly
  takeFrom : Int := 0                  -- DECIMATED: instants before this sample are not taken
  outStep : Bool := false
  insts : List Nat := []               -- DECIMATED: stamps of the instants in assembly
  words : List (List Nat) := []        -- DECIMATED: the words of each channel in assembly
  deriving DecidableEq, Repr

/-- Receive lane (R251, R256, R278). -/
structure RxLane where
  missed : Nat := 0                    -- marker positions in a row without a valid marker
  errs : Nat := 0                      -- code errors of the present marker interval
  good : Nat := 0                      -- consecutive marker intervals aligned and usable
  last : Nat := 0                      -- count of the last marker received
  slip : Nat := 0                      -- bits the boundary was slipped, modulo 10
  efoms : List Nat := []               -- RX_EFOM of the last intervals while ALIGNING, newest first
  settled : Bool := false              -- RX_EFOM has come to rest since ALIGNING began
  rd : Bool := false                   -- running disparity of the received code groups, positive
  ctle : Nat := 0                      -- peaking code, 0 to 15
  dfe : List Int := [0, 0, 0]          -- taps
  deriving DecidableEq, Repr

/-- What the active receive lane brings (R249): the octets of a marker that are still to come, the bytes since SOP of a packet in progress, and the packets
received whole, header to CRC, that wait to be judged, oldest first, each with the cc of its report. -/
structure HostLine where
  skip : Nat := 0
  bytes : Option (List Byte) := none
  whole : List (List Byte × Nat) := []
  deriving DecidableEq, Repr

/-- The Streamer link (R247 to R278). -/
structure Link where
  streams : List Stream := List.replicate 16 {}
  sending : Option Packet := none
  suspended : Option Packet := none
  sent : List Byte := []               -- the newest packet that ended, header to CRC
  lastServed : List Nat := [0, 0, 0, 0, 0]   -- by class, the stream served last
  up : Bool := false                   -- streams have started (the tick after UP)
  idle : Bool := false                 -- electrical idle
  lines : List (List Symbol) := List.replicate 9 []   -- by physical lane, the newest packet, marker or burst it sent
  codes : List (List Nat) := List.replicate 9 []   -- the code groups that made it (R248)
  txRd : List Bool := List.replicate 9 false       -- running disparity of each lane after it, positive
  sends : Nat := 0                     -- packets, markers and bursts sent
  quiet : Nat := 0                     -- ticks since a packet was last on the lanes, at most 2
  trainTicks : Nat := 0                -- ticks since TRAINING began
  capTicks : Nat := 0                  -- ticks since the first CAPABILITY packet
  capReps : Nat := 0                   -- CAPABILITY packets sent after the first
  statusCount : Nat := 0               -- ticks since the last periodic STATUS packet
  statusFresh : Bool := false          -- the count starts at the tick to come
  statusFirst : Bool := false          -- the next tick is the first in UP
  statusDue : Option (Nat × List Byte) := none   -- a periodic STATUS packet of the present slot still to form: stamp and payload
  tunePreset : Nat := 0
  tuneIv : Nat := 0                    -- marker intervals of the present hold
  tuneNow : List Nat := List.replicate 9 0       -- last report of each lane in the final 32 intervals of the hold
  tuneBest : List (Nat × Nat) := List.replicate 9 (0, 0)   -- best preset so far and its EFOM
  lowRun : List Nat := List.replicate 9 0        -- consecutive reports below EFOM_MIN by physical lane
  retired : Nat := 0                   -- physical lanes out of service
  passed : Nat := 0                    -- retired lanes that have passed their test since
  testing : Nat := 0                   -- lanes under test
  rejoin : Option (Nat × Nat) := none  -- returning lane and its marker intervals
  announced : Bool := false            -- its LANE_NOTICE has been formed
  move : Option (Nat × Nat × Nat) := none        -- logical lane, new physical lane and marker count M
  rxMove : Option (Nat × Nat) := none  -- receive lane to move to and M
  rx : List RxLane := [{}, {}]
  host : HostLine := {}
  txSlip : List Nat := List.replicate 9 0        -- bits of delay of each lane, modulo 10
  txSlipDue : Nat := 0                 -- lanes to delay by a bit at the next marker
  deriving DecidableEq, Repr

end Sys2Proof.Machine
end

