-- ==== Sys2Proof/Machine/ObjTable.lean ====
section
/-! DEFINITION. The Object Dictionary's tables (Tables 2.10, 3.9, 4.7, 5.x to 18.10 of the spec): every object's index and
subindex range, type, access code, default, range, commit group and the modes it may be written in (R280), and a
name for each object's key, which is its index times 256 plus its subindex. -/

namespace Sys2Proof.Machine

/-- Object types (R280, Table 0.4). -/
inductive ObjType | u8 | u16 | u32 | u64 | i8 | i16 | f32 | vstr | domain
  deriving DecidableEq, Repr

/-- Access codes (R5, Table 0.5). -/
inductive ObjAccess | ro | rw | rwc | wo | rws | rwa
  deriving DecidableEq, Repr

/-- Range of an object's value: none stated beyond its type, an unsigned interval with a multiple, a signed
interval, or an interval of F32 values. -/
inductive ObjRange
  | any
  | nat (lo hi mult : Nat)
  | int (lo hi : Int)
  | f32 (lo hi : Rat)
  deriving DecidableEq, Repr

/-- The "Writable in" lists that occur in the object tables. -/
inductive WriteModes
  | never | any | standby | standbyRunning | running | standbySelfRunning | selfRunning | standbySelf
  | bootStandby | degraded
  deriving DecidableEq, Repr

/-- One row of an object table. -/
structure ObjRow where
  idxLo : Nat
  idxHi : Nat
  subLo : Nat
  subHi : Nat
  ty : ObjType
  acc : ObjAccess
  dflt : Nat
  range : ObjRange
  group : Option Nat
  modes : WriteModes
  name : String
  deriving DecidableEq, Repr

/-- The key of object index.sub. -/
def objKey (idx sub : Nat) : Nat := idx * 256 + sub

namespace K

/-- PLAN_FORMAT (R62). -/
def PLAN_FORMAT : Nat := 0x100001
/-- COMET_STATE (R62). -/
def COMET_STATE : Nat := 0x100002
/-- PENDING_PLAN (R62). -/
def PENDING_PLAN : Nat := 0x101000
/-- PENDING_TABLE, index element `i` counted from 0 (R62). -/
def PENDING_TABLE (i : Nat) : Nat := 0x101100 + i * 256
/-- ACTIVE_PLAN (R62). -/
def ACTIVE_PLAN : Nat := 0x101800
/-- PLAN_CHECK (R62). -/
def PLAN_CHECK : Nat := 0x102001
/-- CHECK_RESULT (R62). -/
def CHECK_RESULT : Nat := 0x102002
/-- CHECK_WORD (R62). -/
def CHECK_WORD : Nat := 0x102003
/-- CHECK_SLOT (R62). -/
def CHECK_SLOT : Nat := 0x102004
/-- CHECK_DETAIL (R62). -/
def CHECK_DETAIL : Nat := 0x102005
/-- CHECK_WARN (R62). -/
def CHECK_WARN : Nat := 0x102006
/-- PLAN_SWAP (R62). -/
def PLAN_SWAP : Nat := 0x102101
/-- SWAP_STATE (R62). -/
def SWAP_STATE : Nat := 0x102102
/-- ACTIVE_PLAN_ID (R62). -/
def ACTIVE_PLAN_ID : Nat := 0x103001
/-- FRAME_COUNT (R62). -/
def FRAME_COUNT : Nat := 0x103002
/-- FRAME_POS (R62). -/
def FRAME_POS : Nat := 0x103003
/-- OVERRUN_COUNT (R62). -/
def OVERRUN_COUNT : Nat := 0x104001
/-- OVERRUN_LAST (R62). -/
def OVERRUN_LAST : Nat := 0x104002
/-- OVERRUN_UNITS (R62). -/
def OVERRUN_UNITS : Nat := 0x104003
/-- WITHHELD_SLOTS (R62). -/
def WITHHELD_SLOTS : Nat := 0x104101
/-- MARKS_ISSUED (R62). -/
def MARKS_ISSUED : Nat := 0x104102
/-- MASKED_SLOTS (R62). -/
def MASKED_SLOTS : Nat := 0x105001
/-- MASK_NOW (R62). -/
def MASK_NOW : Nat := 0x105002
/-- SHOTS_FIRED, element `i` counted from 0 (R93). -/
def SHOTS_FIRED (i : Nat) : Nat := 0x200101 + i
/-- SHOTS_SUPPRESSED, element `i` counted from 0 (R93). -/
def SHOTS_SUPPRESSED (i : Nat) : Nat := 0x200201 + i
/-- SHOTS_TRUNCATED, element `i` counted from 0 (R93). -/
def SHOTS_TRUNCATED (i : Nat) : Nat := 0x200301 + i
/-- DITHER_STATE (R93). -/
def DITHER_STATE : Nat := 0x200401
/-- VLAS_TARGET (R93). -/
def VLAS_TARGET : Nat := 0x201001
/-- VLAS_MEAS (R93). -/
def VLAS_MEAS : Nat := 0x201002
/-- RES_STATE (R93). -/
def RES_STATE : Nat := 0x201003
/-- RES_TOL (R93). -/
def RES_TOL : Nat := 0x201004
/-- CHG_PHASE (R93). -/
def CHG_PHASE : Nat := 0x201005
/-- CHG_ILIM (R93). -/
def CHG_ILIM : Nat := 0x201006
/-- RISE_RATE (R93). -/
def RISE_RATE : Nat := 0x201007
/-- RES_FAULTS (R93). -/
def RES_FAULTS : Nat := 0x201008
/-- MIR_KP (R93). -/
def MIR_KP : Nat := 0x202001
/-- MIR_KI (R93). -/
def MIR_KI : Nat := 0x202002
/-- MIR_KD (R93). -/
def MIR_KD : Nat := 0x202003
/-- MIR_ILIM (R93). -/
def MIR_ILIM : Nat := 0x202004
/-- TRACK_TOL (R93). -/
def TRACK_TOL : Nat := 0x202005
/-- PARK_ANGLE (R93). -/
def PARK_ANGLE : Nat := 0x202006
/-- PARK_RATE (R93). -/
def PARK_RATE : Nat := 0x202007
/-- MIR_STATE (R93). -/
def MIR_STATE : Nat := 0x202101
/-- ANGLE_MEAS (R93). -/
def ANGLE_MEAS : Nat := 0x202102
/-- ANGLE_TARGET (R93). -/
def ANGLE_TARGET : Nat := 0x202103
/-- DRIVE_NOW (R93). -/
def DRIVE_NOW : Nat := 0x202104
/-- TRACK_ERR_MAX (R93). -/
def TRACK_ERR_MAX : Nat := 0x202105
/-- CLAMP_SLOTS (R93). -/
def CLAMP_SLOTS : Nat := 0x202106
/-- SOL_ANGLE_A (R93). -/
def SOL_ANGLE_A : Nat := 0x203001
/-- SOL_ANGLE_B (R93). -/
def SOL_ANGLE_B : Nat := 0x203002
/-- SOL_WIN (R93). -/
def SOL_WIN : Nat := 0x203003
/-- SOL_ERR_A (R93). -/
def SOL_ERR_A : Nat := 0x203004
/-- SOL_ERR_B (R93). -/
def SOL_ERR_B : Nat := 0x203005
/-- SOL_FAULTS (R93). -/
def SOL_FAULTS : Nat := 0x203006
/-- ANGLE_SOURCE (R93). -/
def ANGLE_SOURCE : Nat := 0x203007
/-- RX_ENABLE (R120). -/
def RX_ENABLE : Nat := 0x280001
/-- RX_GAIN, element `i` counted from 0 (R120). -/
def RX_GAIN (i : Nat) : Nat := 0x280101 + i
/-- RX_CONN, element `i` counted from 0 (R120). -/
def RX_CONN (i : Nat) : Nat := 0x280201 + i
/-- SERVO_MODE, element `i` counted from 0 (R120). -/
def SERVO_MODE (i : Nat) : Nat := 0x280301 + i
/-- SERVO_FIX, element `i` counted from 0 (R120). -/
def SERVO_FIX (i : Nat) : Nat := 0x280401 + i
/-- SERVO_STEP (R120). -/
def SERVO_STEP : Nat := 0x280501
/-- SERVO_KP (R120). -/
def SERVO_KP : Nat := 0x280502
/-- SUN_HIGH_AMB (R120). -/
def SUN_HIGH_AMB : Nat := 0x280503
/-- AMBIENT, element `i` counted from 0 (R120). -/
def AMBIENT (i : Nat) : Nat := 0x281001 + i
/-- AMB_CODE, element `i` counted from 0 (R120). -/
def AMB_CODE (i : Nat) : Nat := 0x281101 + i
/-- SUN_SAT_MASK (R120). -/
def SUN_SAT_MASK : Nat := 0x281201
/-- CLIP_SAMPLES, element `i` counted from 0 (R120). -/
def CLIP_SAMPLES (i : Nat) : Nat := 0x281301 + i
/-- CH_STATE, element `i` counted from 0 (R120). -/
def CH_STATE (i : Nat) : Nat := 0x281401 + i
/-- SLICE_MAP, element `i` counted from 0 (R120). -/
def SLICE_MAP (i : Nat) : Nat := 0x281501 + i
/-- GAIN_DISCARDS, element `i` counted from 0 (R120). -/
def GAIN_DISCARDS (i : Nat) : Nat := 0x281601 + i
/-- APD_ZONE_EN (R120). -/
def APD_ZONE_EN : Nat := 0x288001
/-- APD_SLEW (R120). -/
def APD_SLEW : Nat := 0x288002
/-- APD_HEADROOM (R120). -/
def APD_HEADROOM : Nat := 0x288003
/-- APD_ILIM (R120). -/
def APD_ILIM : Nat := 0x288004
/-- APD_GAIN, element `i` counted from 0 (R120). -/
def APD_GAIN (i : Nat) : Nat := 0x288101 + i
/-- APD_VMIN, element `i` counted from 0 (R120). -/
def APD_VMIN (i : Nat) : Nat := 0x288201 + i
/-- APD_VMAX, element `i` counted from 0 (R120). -/
def APD_VMAX (i : Nat) : Nat := 0x288301 + i
/-- APD_TSEL, element `i` counted from 0 (R120). -/
def APD_TSEL (i : Nat) : Nat := 0x288401 + i
/-- APD_TOFFS, element `i` counted from 0 (R120). -/
def APD_TOFFS (i : Nat) : Nat := 0x288501 + i
/-- APD_COEF, index element `i` and subindex element `j`, both counted from 0 (R120). -/
def APD_COEF (i j : Nat) : Nat := 0x289001 + i * 256 + j
/-- APD_SET, element `i` counted from 0 (R120). -/
def APD_SET (i : Nat) : Nat := 0x28A001 + i
/-- APD_MEAS, element `i` counted from 0 (R120). -/
def APD_MEAS (i : Nat) : Nat := 0x28A101 + i
/-- APD_STATE, element `i` counted from 0 (R120). -/
def APD_STATE (i : Nat) : Nat := 0x28A201 + i
/-- APD_IMEAS, element `i` counted from 0 (R120). -/
def APD_IMEAS (i : Nat) : Nat := 0x28A301 + i
/-- APD_FLAGS, element `i` counted from 0 (R120). -/
def APD_FLAGS (i : Nat) : Nat := 0x28A401 + i
/-- APD_HV_MEAS (R120). -/
def APD_HV_MEAS : Nat := 0x28A501
/-- APD_FAULTS, element `i` counted from 0 (R120). -/
def APD_FAULTS (i : Nat) : Nat := 0x28A601 + i
/-- EE_STATE, element `i` counted from 0 (R145). -/
def EE_STATE (i : Nat) : Nat := 0x300001 + i
/-- EE12_FOR (R145). -/
def EE12_FOR : Nat := 0x300101
/-- EE_TAKEOVERS (R145). -/
def EE_TAKEOVERS : Nat := 0x300201
/-- NEAR_GATE, element `i` counted from 0 (R145). -/
def NEAR_GATE (i : Nat) : Nat := 0x301001 + i
/-- NEAR_MODE (R145). -/
def NEAR_MODE : Nat := 0x301101
/-- SOFT_WIDTH (R145). -/
def SOFT_WIDTH : Nat := 0x301201
/-- SOFT_AMP (R145). -/
def SOFT_AMP : Nat := 0x301202
/-- BASE_MODE (R145). -/
def BASE_MODE : Nat := 0x301301
/-- BASE_FIX, element `i` counted from 0 (R145). -/
def BASE_FIX (i : Nat) : Nat := 0x301401 + i
/-- RECORDS, element `i` counted from 0 (R145). -/
def RECORDS (i : Nat) : Nat := 0x302001 + i
/-- ECHOES_UNREPORTED, element `i` counted from 0 (R145). -/
def ECHOES_UNREPORTED (i : Nat) : Nat := 0x302101 + i
/-- UNCONFIRMED, element `i` counted from 0 (R145). -/
def UNCONFIRMED (i : Nat) : Nat := 0x302201 + i
/-- GROUPS_LOST, element `i` counted from 0 (R145). -/
def GROUPS_LOST (i : Nat) : Nat := 0x302301 + i
/-- NEAR_DROPPED, element `i` counted from 0 (R145). -/
def NEAR_DROPPED (i : Nat) : Nat := 0x302401 + i
/-- HDUMP_BASE, element `i` counted from 0 (R145). -/
def HDUMP_BASE (i : Nat) : Nat := 0x303001 + i
/-- HDUMP_ENTRIES (R145). -/
def HDUMP_ENTRIES : Nat := 0x303101
/-- HDUMP_COUNT, element `i` counted from 0 (R145). -/
def HDUMP_COUNT (i : Nat) : Nat := 0x303201 + i
/-- LAST_BASE, element `i` counted from 0 (R145). -/
def LAST_BASE (i : Nat) : Nat := 0x304001 + i
/-- SPEC_STATE (R184). -/
def SPEC_STATE : Nat := 0x400001
/-- SP_MODE, element `i` counted from 0 (R184). -/
def SP_MODE (i : Nat) : Nat := 0x400101 + i
/-- SP_SEL, element `i` counted from 0 (R184). -/
def SP_SEL (i : Nat) : Nat := 0x400201 + i
/-- SP_LEN, element `i` counted from 0 (R184). -/
def SP_LEN (i : Nat) : Nat := 0x400301 + i
/-- SP_WIN, element `i` counted from 0 (R184). -/
def SP_WIN (i : Nat) : Nat := 0x400401 + i
/-- SP_KBETA, element `i` counted from 0 (R184). -/
def SP_KBETA (i : Nat) : Nat := 0x400501 + i
/-- SP_OVL, element `i` counted from 0 (R184). -/
def SP_OVL (i : Nat) : Nat := 0x400601 + i
/-- SP_SRC, element `i` counted from 0 (R184). -/
def SP_SRC (i : Nat) : Nat := 0x400701 + i
/-- SP_AVG_MODE, element `i` counted from 0 (R184). -/
def SP_AVG_MODE (i : Nat) : Nat := 0x400801 + i
/-- SP_AVG_N, element `i` counted from 0 (R184). -/
def SP_AVG_N (i : Nat) : Nat := 0x400901 + i
/-- SP_FMT, element `i` counted from 0 (R184). -/
def SP_FMT (i : Nat) : Nat := 0x400A01 + i
/-- SPEC_AS (R184). -/
def SPEC_AS : Nat := 0x400B01
/-- SPEC_BASE, element `i` counted from 0 (R184). -/
def SPEC_BASE (i : Nat) : Nat := 0x400C01 + i
/-- SPEC_ENTRIES (R184). -/
def SPEC_ENTRIES : Nat := 0x400D01
/-- CUSTOM_WIN (R184). -/
def CUSTOM_WIN : Nat := 0x401000
/-- SP_CG, element `i` counted from 0 (R184). -/
def SP_CG (i : Nat) : Nat := 0x401101 + i
/-- SP_ENBW, element `i` counted from 0 (R184). -/
def SP_ENBW (i : Nat) : Nat := 0x401201 + i
/-- SPEC_OUT_RATE (R184). -/
def SPEC_OUT_RATE : Nat := 0x401301
/-- SP_STATE, element `i` counted from 0 (R184). -/
def SP_STATE (i : Nat) : Nat := 0x401401 + i
/-- SPARE_FOR, element `i` counted from 0 (R184). -/
def SPARE_FOR (i : Nat) : Nat := 0x401501 + i
/-- SPEC_SEQ, element `i` counted from 0 (R184). -/
def SPEC_SEQ (i : Nat) : Nat := 0x402001 + i
/-- SPEC_DISCARDS, element `i` counted from 0 (R184). -/
def SPEC_DISCARDS (i : Nat) : Nat := 0x402101 + i
/-- SPEC_DROPPED, element `i` counted from 0 (R184). -/
def SPEC_DROPPED (i : Nat) : Nat := 0x402201 + i
/-- SPEC_FAULTS, element `i` counted from 0 (R184). -/
def SPEC_FAULTS (i : Nat) : Nat := 0x402301 + i
/-- DENS_EN, element `i` counted from 0 (R184). -/
def DENS_EN (i : Nat) : Nat := 0x403001 + i
/-- DENS_STRIDE, element `i` counted from 0 (R184). -/
def DENS_STRIDE (i : Nat) : Nat := 0x403101 + i
/-- DENS_REF, element `i` counted from 0 (R184). -/
def DENS_REF (i : Nat) : Nat := 0x403201 + i
/-- DENS_PERIOD, element `i` counted from 0 (R184). -/
def DENS_PERIOD (i : Nat) : Nat := 0x403301 + i
/-- DENS_DECAY, element `i` counted from 0 (R184). -/
def DENS_DECAY (i : Nat) : Nat := 0x403401 + i
/-- DENS_AS (R184). -/
def DENS_AS : Nat := 0x403501
/-- DENS_BASE, element `i` counted from 0 (R184). -/
def DENS_BASE (i : Nat) : Nat := 0x403601 + i
/-- DENS_LOAD (R184). -/
def DENS_LOAD : Nat := 0x403701
/-- DENS_SEQ, element `i` counted from 0 (R184). -/
def DENS_SEQ (i : Nat) : Nat := 0x403801 + i
/-- DENS_FROZEN, element `i` counted from 0 (R184). -/
def DENS_FROZEN (i : Nat) : Nat := 0x403901 + i
/-- DENS_TAKEN, element `i` counted from 0 (R184). -/
def DENS_TAKEN (i : Nat) : Nat := 0x403A01 + i
/-- DENS_T0, element `i` counted from 0 (R184). -/
def DENS_T0 (i : Nat) : Nat := 0x403B01 + i
/-- DENS_CLAMPED, element `i` counted from 0 (R184). -/
def DENS_CLAMPED (i : Nat) : Nat := 0x403C01 + i
/-- DENS_SATURATED, element `i` counted from 0 (R184). -/
def DENS_SATURATED (i : Nat) : Nat := 0x403D01 + i
/-- MASK, index element `i` counted from 0 (R184). -/
def MASK (i : Nat) : Nat := 0x404000 + i * 256
/-- MASK_SEL, element `i` counted from 0 (R184). -/
def MASK_SEL (i : Nat) : Nat := 0x404801 + i
/-- MASK_SRC, element `i` counted from 0 (R184). -/
def MASK_SRC (i : Nat) : Nat := 0x404901 + i
/-- MASK_VIOL, element `i` counted from 0 (R184). -/
def MASK_VIOL (i : Nat) : Nat := 0x404A01 + i
/-- MASKV_LAST, element `i` counted from 0 (R184). -/
def MASKV_LAST (i : Nat) : Nat := 0x404B01 + i
/-- MASKV_NOW (R184). -/
def MASKV_NOW : Nat := 0x404C01
/-- LINE_THR (R184). -/
def LINE_THR : Nat := 0x405001
/-- LINE_ALERT (R184). -/
def LINE_ALERT : Nat := 0x405002
/-- LINE_SEQ, element `i` counted from 0 (R184). -/
def LINE_SEQ (i : Nat) : Nat := 0x405101 + i
/-- LINES, index element `i` and subindex element `j`, both counted from 0 (R184). -/
def LINES (i j : Nat) : Nat := 0x410001 + i * 256 + j
/-- TRIG_STATE (R209). -/
def TRIG_STATE : Nat := 0x480001
/-- TRIG_STAGE (R209). -/
def TRIG_STAGE : Nat := 0x480002
/-- CAP_CTRL (R209). -/
def CAP_CTRL : Nat := 0x480101
/-- CAP_MODE (R209). -/
def CAP_MODE : Nat := 0x480201
/-- TRIG_NSTAGES (R209). -/
def TRIG_NSTAGES : Nat := 0x481001
/-- TRIG_SOFT (R209). -/
def TRIG_SOFT : Nat := 0x481101
/-- TRIG_TIMER (R209). -/
def TRIG_TIMER : Nat := 0x481201
/-- EXT_POL (R209). -/
def EXT_POL : Nat := 0x481301
/-- ECHO_CLASS (R209). -/
def ECHO_CLASS : Nat := 0x481401
/-- ECHO_AMP (R209). -/
def ECHO_AMP : Nat := 0x481402
/-- ECHO_RMIN (R209). -/
def ECHO_RMIN : Nat := 0x481403
/-- ECHO_RMAX (R209). -/
def ECHO_RMAX : Nat := 0x481404
/-- TRIG_PAT_LO, index element `i` counted from 0 (R209). -/
def TRIG_PAT_LO (i : Nat) : Nat := 0x482001 + i * 256
/-- TRIG_PAT_HI, index element `i` counted from 0 (R209). -/
def TRIG_PAT_HI (i : Nat) : Nat := 0x482002 + i * 256
/-- TRIG_SRC_LO, index element `i` counted from 0 (R209). -/
def TRIG_SRC_LO (i : Nat) : Nat := 0x482003 + i * 256
/-- TRIG_SRC_HI, index element `i` counted from 0 (R209). -/
def TRIG_SRC_HI (i : Nat) : Nat := 0x482004 + i * 256
/-- TRIG_CTRL, index element `i` counted from 0 (R209). -/
def TRIG_CTRL (i : Nat) : Nat := 0x482005 + i * 256
/-- TRIG_WITHIN, index element `i` counted from 0 (R209). -/
def TRIG_WITHIN (i : Nat) : Nat := 0x482006 + i * 256
/-- COMP_LEVEL, element `i` counted from 0 (R209). -/
def COMP_LEVEL (i : Nat) : Nat := 0x483001 + i
/-- COMP_HYST, element `i` counted from 0 (R209). -/
def COMP_HYST (i : Nat) : Nat := 0x483101 + i
/-- COMP_POL, element `i` counted from 0 (R209). -/
def COMP_POL (i : Nat) : Nat := 0x483201 + i
/-- TRIG_OUT_MODE (R209). -/
def TRIG_OUT_MODE : Nat := 0x484001
/-- TRIG_OUT_WIDTH (R209). -/
def TRIG_OUT_WIDTH : Nat := 0x484002
/-- SLOT_OUT_MODE (R209). -/
def SLOT_OUT_MODE : Nat := 0x484101
/-- SLOT_OUT_WIDTH (R209). -/
def SLOT_OUT_WIDTH : Nat := 0x484102
/-- CAP_CHMASK (R209). -/
def CAP_CHMASK : Nat := 0x485001
/-- CAP_FMT (R209). -/
def CAP_FMT : Nat := 0x485002
/-- CAP_AS (R209). -/
def CAP_AS : Nat := 0x485003
/-- CAP_BASE (R209). -/
def CAP_BASE : Nat := 0x485004
/-- CAP_CH_LEN (R209). -/
def CAP_CH_LEN : Nat := 0x485005
/-- CAP_PRE (R209). -/
def CAP_PRE : Nat := 0x485006
/-- CAP_POST (R209). -/
def CAP_POST : Nat := 0x485007
/-- CAP_SETS (R209). -/
def CAP_SETS : Nat := 0x485008
/-- CAP_HDR_BASE (R209). -/
def CAP_HDR_BASE : Nat := 0x485009
/-- CAP_DRAIN_EN (R209). -/
def CAP_DRAIN_EN : Nat := 0x48500A
/-- CAP_MASKSTOP (R209). -/
def CAP_MASKSTOP : Nat := 0x48500B
/-- CAP_DRAINED (R209). -/
def CAP_DRAINED : Nat := 0x485101
/-- TRIG_COUNT (R209). -/
def TRIG_COUNT : Nat := 0x486001
/-- TRIG_LAST (R209). -/
def TRIG_LAST : Nat := 0x486002
/-- TRIG_LAST_POS (R209). -/
def TRIG_LAST_POS : Nat := 0x486003
/-- TRIG_IGNORED (R209). -/
def TRIG_IGNORED : Nat := 0x486004
/-- TRIG_TIMEOUTS (R209). -/
def TRIG_TIMEOUTS : Nat := 0x486005
/-- CAP_SEQ (R209). -/
def CAP_SEQ : Nat := 0x486007
/-- CAP_WRITTEN (R209). -/
def CAP_WRITTEN : Nat := 0x486008
/-- COMP_LOST, element `i` counted from 0 (R209). -/
def COMP_LOST (i : Nat) : Nat := 0x486101 + i
/-- CAP_LAST_HDR (R209). -/
def CAP_LAST_HDR : Nat := 0x486200
/-- DEC_L, element `i` counted from 0 (R219). -/
def DEC_L (i : Nat) : Nat := 0x380001 + i
/-- DEC_D, element `i` counted from 0 (R219). -/
def DEC_D (i : Nat) : Nat := 0x380101 + i
/-- SYNC_IN_MODE (R219). -/
def SYNC_IN_MODE : Nat := 0x381001
/-- DEC_SYNC (R219). -/
def DEC_SYNC : Nat := 0x381101
/-- SYNC_COUNT (R219). -/
def SYNC_COUNT : Nat := 0x382001
/-- SYNC_LAST (R219). -/
def SYNC_LAST : Nat := 0x382002
/-- SYNC_IGNORED (R219). -/
def SYNC_IGNORED : Nat := 0x382003
/-- DEC_RESET_LAST, element `i` counted from 0 (R219). -/
def DEC_RESET_LAST (i : Nat) : Nat := 0x382101 + i
/-- DEC_STATE, element `i` counted from 0 (R219). -/
def DEC_STATE (i : Nat) : Nat := 0x382201 + i
/-- DEC_LAST, element `i` counted from 0 (R219). -/
def DEC_LAST (i : Nat) : Nat := 0x382301 + i
/-- FS_FRAMES (R246). -/
def FS_FRAMES : Nat := 0x500001
/-- BANK_STATE, element `i` counted from 0 (R246). -/
def BANK_STATE (i : Nat) : Nat := 0x500101 + i
/-- BANK_MAP, element `i` counted from 0 (R246). -/
def BANK_MAP (i : Nat) : Nat := 0x500201 + i
/-- BANK_CE, element `i` counted from 0 (R246). -/
def BANK_CE (i : Nat) : Nat := 0x500301 + i
/-- BANK_UE, element `i` counted from 0 (R246). -/
def BANK_UE (i : Nat) : Nat := 0x500401 + i
/-- SCRUB_INTERVAL (R246). -/
def SCRUB_INTERVAL : Nat := 0x500501
/-- BANK_CE_LIMIT (R246). -/
def BANK_CE_LIMIT : Nat := 0x500502
/-- SCRUB_PASSES (R246). -/
def SCRUB_PASSES : Nat := 0x500503
/-- BANK_RETIRE (R246). -/
def BANK_RETIRE : Nat := 0x500601
/-- RETIRE_STATE (R246). -/
def RETIRE_STATE : Nat := 0x500602
/-- RETIRE_PROGRESS (R246). -/
def RETIRE_PROGRESS : Nat := 0x500603
/-- AS_ENABLE (R246). -/
def AS_ENABLE : Nat := 0x501001
/-- MAP_EDIT (R246). -/
def MAP_EDIT : Nat := 0x502001
/-- MAP_EDIT_STATE (R246). -/
def MAP_EDIT_STATE : Nat := 0x502002
/-- FAULT_COUNT (R246). -/
def FAULT_COUNT : Nat := 0x503001
/-- FAULT_LAST (R246). -/
def FAULT_LAST : Nat := 0x503002
/-- FAULT_FIRST (R246). -/
def FAULT_FIRST : Nat := 0x503003
/-- FAULT_LOG (R246). -/
def FAULT_LOG : Nat := 0x503004
/-- FAULT_CLEAR (R246). -/
def FAULT_CLEAR : Nat := 0x503005
/-- DMA_CTRL, index element `i` counted from 0 (R246). -/
def DMA_CTRL (i : Nat) : Nat := 0x504001 + i * 256
/-- DMA_STATE, index element `i` counted from 0 (R246). -/
def DMA_STATE (i : Nat) : Nat := 0x504002 + i * 256
/-- DMA_CHAIN_AS, index element `i` counted from 0 (R246). -/
def DMA_CHAIN_AS (i : Nat) : Nat := 0x504003 + i * 256
/-- DMA_CHAIN_VA, index element `i` counted from 0 (R246). -/
def DMA_CHAIN_VA (i : Nat) : Nat := 0x504004 + i * 256
/-- DMA_CQ_VA, index element `i` counted from 0 (R246). -/
def DMA_CQ_VA (i : Nat) : Nat := 0x504005 + i * 256
/-- DMA_CQ_ENTRIES, index element `i` counted from 0 (R246). -/
def DMA_CQ_ENTRIES (i : Nat) : Nat := 0x504006 + i * 256
/-- DMA_DONE, index element `i` counted from 0 (R246). -/
def DMA_DONE (i : Nat) : Nat := 0x504007 + i * 256
/-- DMA_CUR_DESC, index element `i` counted from 0 (R246). -/
def DMA_CUR_DESC (i : Nat) : Nat := 0x504008 + i * 256
/-- DMA_CUR_DONE, index element `i` counted from 0 (R246). -/
def DMA_CUR_DONE (i : Nat) : Nat := 0x504009 + i * 256
/-- TAGS_IN_USE, element `i` counted from 0 (R246). -/
def TAGS_IN_USE (i : Nat) : Nat := 0x505001 + i
/-- TAGS_PEAK, element `i` counted from 0 (R246). -/
def TAGS_PEAK (i : Nat) : Nat := 0x505005 + i
/-- AS_MAP, index element `i` counted from 0 (R246). -/
def AS_MAP (i : Nat) : Nat := 0x510000 + i * 256
/-- STR_ENABLE (R279). -/
def STR_ENABLE : Nat := 0x580001
/-- STR_STATE (R279). -/
def STR_STATE : Nat := 0x580002
/-- STR_FAULT (R279). -/
def STR_FAULT : Nat := 0x580003
/-- LINK_VER (R279). -/
def LINK_VER : Nat := 0x580004
/-- PKT_VER (R279). -/
def PKT_VER : Nat := 0x580005
/-- STR_NEG (R279). -/
def STR_NEG : Nat := 0x580006
/-- HOST_CAPS (R279). -/
def HOST_CAPS : Nat := 0x580007
/-- STR_CAP_TIMEOUT (R279). -/
def STR_CAP_TIMEOUT : Nat := 0x580008
/-- IDLE_EN (R279). -/
def IDLE_EN : Nat := 0x580009
/-- EFOM_MIN (R279). -/
def EFOM_MIN : Nat := 0x58000A
/-- LANE_MAP, element `i` counted from 0 (R279). -/
def LANE_MAP (i : Nat) : Nat := 0x580201 + i
/-- TX_PRESET, element `i` counted from 0 (R279). -/
def TX_PRESET (i : Nat) : Nat := 0x580301 + i
/-- TX_BITSLIP, element `i` counted from 0 (R279). -/
def TX_BITSLIP (i : Nat) : Nat := 0x580401 + i
/-- TX_TUNE (R279). -/
def TX_TUNE : Nat := 0x580501
/-- TX_PRESET_USE, element `i` counted from 0 (R279). -/
def TX_PRESET_USE (i : Nat) : Nat := 0x580601 + i
/-- TX_HOST_EFOM, element `i` counted from 0 (R279). -/
def TX_HOST_EFOM (i : Nat) : Nat := 0x580701 + i
/-- TX_LANE_STATE, element `i` counted from 0 (R279). -/
def TX_LANE_STATE (i : Nat) : Nat := 0x580801 + i
/-- RX_ALIGN, element `i` counted from 0 (R279). -/
def RX_ALIGN (i : Nat) : Nat := 0x581101 + i
/-- RX_EFOM, element `i` counted from 0 (R279). -/
def RX_EFOM (i : Nat) : Nat := 0x581103 + i
/-- RX_ACTIVE (R279). -/
def RX_ACTIVE : Nat := 0x581105
/-- RX_BITSLIP (R279). -/
def RX_BITSLIP : Nat := 0x581106
/-- RX_COMMA_EN (R279). -/
def RX_COMMA_EN : Nat := 0x581107
/-- RX_CODEERR (R279). -/
def RX_CODEERR : Nat := 0x581108
/-- RX_ADAPT (R279). -/
def RX_ADAPT : Nat := 0x581109
/-- STREAM_TYPE, element `i` counted from 0 (R279). -/
def STREAM_TYPE (i : Nat) : Nat := 0x582001 + i
/-- STREAM_CHMASK, element `i` counted from 0 (R279). -/
def STREAM_CHMASK (i : Nat) : Nat := 0x582101 + i
/-- CREDIT_MODE, element `i` counted from 0 (R279). -/
def CREDIT_MODE (i : Nat) : Nat := 0x582201 + i
/-- CREDIT, element `i` counted from 0 (R279). -/
def CREDIT (i : Nat) : Nat := 0x582301 + i
/-- STREAM_CREDIT_ADD, element `i` counted from 0 (R279). -/
def STREAM_CREDIT_ADD (i : Nat) : Nat := 0x582401 + i
/-- STREAM_PKTS, element `i` counted from 0 (R279). -/
def STREAM_PKTS (i : Nat) : Nat := 0x582501 + i
/-- STREAM_DROPPED, element `i` counted from 0 (R279). -/
def STREAM_DROPPED (i : Nat) : Nat := 0x582601 + i
/-- DMA_PKT, element `i` counted from 0 (R279). -/
def DMA_PKT (i : Nat) : Nat := 0x582701 + i
/-- STREAM_STATE, element `i` counted from 0 (R279). -/
def STREAM_STATE (i : Nat) : Nat := 0x582801 + i
/-- REC_BUDGET (R279). -/
def REC_BUDGET : Nat := 0x583001
/-- STR_LOAD (R279). -/
def STR_LOAD : Nat := 0x583002
/-- STATUS_PERIOD (R279). -/
def STATUS_PERIOD : Nat := 0x583101
/-- LANE_RETIRE (R279). -/
def LANE_RETIRE : Nat := 0x584001
/-- LANE_RETURN (R279). -/
def LANE_RETURN : Nat := 0x584002
/-- AUTOSPARE (R279). -/
def AUTOSPARE : Nat := 0x584003
/-- MARKER_COUNT (R279). -/
def MARKER_COUNT : Nat := 0x585001
/-- RX_DISCARDS (R279). -/
def RX_DISCARDS : Nat := 0x585002
/-- SB_BUSY (R279). -/
def SB_BUSY : Nat := 0x585003
/-- SUSPENDS (R279). -/
def SUSPENDS : Nat := 0x585004
/-- MISROUTED (R279). -/
def MISROUTED : Nat := 0x585005
/-- VENDOR (R312). -/
def VENDOR : Nat := 0x010001
/-- PART_CODE (R312). -/
def PART_CODE : Nat := 0x010002
/-- SILICON_REV (R312). -/
def SILICON_REV : Nat := 0x010003
/-- DICT_VERSION (R312). -/
def DICT_VERSION : Nat := 0x010004
/-- UNIQUE_ID (R312). -/
def UNIQUE_ID : Nat := 0x010005
/-- CAN_PROTO_VERS (R312). -/
def CAN_PROTO_VERS : Nat := 0x010006
/-- PATH_ID (R312). -/
def PATH_ID : Nat := 0x020001
/-- QSPI_DICT_VER (R312). -/
def QSPI_DICT_VER : Nat := 0x020002
/-- PATH_VER, element `i` counted from 0 (R312). -/
def PATH_VER (i : Nat) : Nat := 0x020003 + i
/-- CAN_NODE (R312). -/
def CAN_NODE : Nat := 0x020101
/-- CAN_NOM_RATE (R312). -/
def CAN_NOM_RATE : Nat := 0x020102
/-- CAN_DATA_RATE (R312). -/
def CAN_DATA_RATE : Nat := 0x020103
/-- CAN_EN (R312). -/
def CAN_EN : Nat := 0x020104
/-- CAN_STATUS_EN (R312). -/
def CAN_STATUS_EN : Nat := 0x020105
/-- CAN_STATE, element `i` counted from 0 (R312). -/
def CAN_STATE (i : Nat) : Nat := 0x020301 + i
/-- CAN_BUSOFF, element `i` counted from 0 (R312). -/
def CAN_BUSOFF (i : Nat) : Nat := 0x020303 + i
/-- CAN_IGNORED, element `i` counted from 0 (R312). -/
def CAN_IGNORED (i : Nat) : Nat := 0x020305 + i
/-- COMMIT (R312). -/
def COMMIT : Nat := 0x021001
/-- DISCARD (R312). -/
def DISCARD : Nat := 0x021002
/-- COMMIT_STATE (R312). -/
def COMMIT_STATE : Nat := 0x021101
/-- COMMIT_RESULT (R312). -/
def COMMIT_RESULT : Nat := 0x021102
/-- COMMIT_DETAIL (R312). -/
def COMMIT_DETAIL : Nat := 0x021103
/-- COMMIT_SEQ (R312). -/
def COMMIT_SEQ : Nat := 0x021104
/-- COMMIT_TICK (R312). -/
def COMMIT_TICK : Nat := 0x021105
/-- SHADOW_DIRTY (R312). -/
def SHADOW_DIRTY : Nat := 0x021201
/-- QSPI_WR_RESULT (R312). -/
def QSPI_WR_RESULT : Nat := 0x022001
/-- QSPI_ERRORS (R312). -/
def QSPI_ERRORS : Nat := 0x022002
/-- QDOM_SEL (R312). -/
def QDOM_SEL : Nat := 0x022101
/-- QDOM_WRITE_LEN (R312). -/
def QDOM_WRITE_LEN : Nat := 0x022102
/-- QDOM_RESULT (R312). -/
def QDOM_RESULT : Nat := 0x022103
/-- BULK_OUT_LEVEL (R312). -/
def BULK_OUT_LEVEL : Nat := 0x023001
/-- BULK_IN_SPACE (R312). -/
def BULK_IN_SPACE : Nat := 0x023002
/-- BULK_UNDERRUN (R312). -/
def BULK_UNDERRUN : Nat := 0x023003
/-- BULK_OVERRUN (R312). -/
def BULK_OVERRUN : Nat := 0x023004
/-- AUTH_WRITE (R312). -/
def AUTH_WRITE : Nat := 0x024000
/-- AUTH_EPOCH (R312). -/
def AUTH_EPOCH : Nat := 0x024101
/-- AUTH_COUNTER (R312). -/
def AUTH_COUNTER : Nat := 0x024102
/-- AUTH_FAILS (R312). -/
def AUTH_FAILS : Nat := 0x024103
/-- AUTH_RESULT (R312). -/
def AUTH_RESULT : Nat := 0x024104
/-- PENNANT_CLEAR (R312). -/
def PENNANT_CLEAR : Nat := 0x025001
/-- IRQ_CAUSE (R312). -/
def IRQ_CAUSE : Nat := 0x025002
/-- IRQ_ACK (R312). -/
def IRQ_ACK : Nat := 0x025003
/-- REF_STATE (R328). -/
def REF_STATE : Nat := 0x600001
/-- REF_LOSSES (R328). -/
def REF_LOSSES : Nat := 0x600002
/-- PLLA_N (R328). -/
def PLLA_N : Nat := 0x601001
/-- PLLA_CP (R328). -/
def PLLA_CP : Nat := 0x601002
/-- PLLA_STATE (R328). -/
def PLLA_STATE : Nat := 0x601101
/-- PLLA_DIFF (R328). -/
def PLLA_DIFF : Nat := 0x601102
/-- PLLA_LOSSES (R328). -/
def PLLA_LOSSES : Nat := 0x601103
/-- PLLA_LOSS_LAST (R328). -/
def PLLA_LOSS_LAST : Nat := 0x601104
/-- PLLB_N (R328). -/
def PLLB_N : Nat := 0x602001
/-- PLLB_CP (R328). -/
def PLLB_CP : Nat := 0x602002
/-- PLLB_STATE (R328). -/
def PLLB_STATE : Nat := 0x602101
/-- PLLB_DIFF (R328). -/
def PLLB_DIFF : Nat := 0x602102
/-- PLLB_LOSSES (R328). -/
def PLLB_LOSSES : Nat := 0x602103
/-- PLLB_LOSS_LAST (R328). -/
def PLLB_LOSS_LAST : Nat := 0x602104
/-- CLK_EN, output `n` (R328). -/
def CLK_EN (n : Nat) : Nat := 0x603001 + n * 256
/-- CLK_SRC, output `n` (R328). -/
def CLK_SRC (n : Nat) : Nat := 0x603002 + n * 256
/-- CLK_FMT, output `n` (R328). -/
def CLK_FMT (n : Nat) : Nat := 0x603003 + n * 256
/-- CLK_DIV, output `n` (R328). -/
def CLK_DIV (n : Nat) : Nat := 0x603004 + n * 256
/-- HK_SEQ, element `i` counted from 0 (R350). -/
def HK_SEQ (i : Nat) : Nat := 0x680001 + i
/-- HK_SEQ_LEN (R350). -/
def HK_SEQ_LEN : Nat := 0x680101
/-- HK_TIMER (R350). -/
def HK_TIMER : Nat := 0x680102
/-- HK_STATE (R350). -/
def HK_STATE : Nat := 0x680201
/-- HK_PASS (R350). -/
def HK_PASS : Nat := 0x680202
/-- HK_PASS_TIME (R350). -/
def HK_PASS_TIME : Nat := 0x680203
/-- HK_ENTRY (R350). -/
def HK_ENTRY : Nat := 0x680204
/-- HK_TEST_DAC (R350). -/
def HK_TEST_DAC : Nat := 0x680205
/-- HK_RESULT, element `i` counted from 0 (R350). -/
def HK_RESULT (i : Nat) : Nat := 0x681001 + i
/-- HK_STAMP, element `i` counted from 0 (R350). -/
def HK_STAMP (i : Nat) : Nat := 0x681101 + i
/-- HK_URGENT (R350). -/
def HK_URGENT : Nat := 0x683001
/-- URGENT_RESULT (R350). -/
def URGENT_RESULT : Nat := 0x683002
/-- URGENT_REFUSED (R350). -/
def URGENT_REFUSED : Nat := 0x683003
/-- URGENT_ABORTS (R350). -/
def URGENT_ABORTS : Nat := 0x683004
/-- TRIG_OVERRUN (R350). -/
def TRIG_OVERRUN : Nat := 0x684001
/-- TRIG_LATCHED (R350). -/
def TRIG_LATCHED : Nat := 0x684002
/-- CA_RANGE, element `i` counted from 0 (R350). -/
def CA_RANGE (i : Nat) : Nat := 0x685001 + i
/-- CA_AUTO, element `i` counted from 0 (R350). -/
def CA_AUTO (i : Nat) : Nat := 0x685101 + i
/-- CA_RANGE_NOW, element `i` counted from 0 (R350). -/
def CA_RANGE_NOW (i : Nat) : Nat := 0x685201 + i
/-- CA_LAST, element `i` counted from 0 (R350). -/
def CA_LAST (i : Nat) : Nat := 0x685301 + i
/-- CA_CLIPS, element `i` counted from 0 (R350). -/
def CA_CLIPS (i : Nat) : Nat := 0x685401 + i
/-- CA_ANGLE_HOLDS (R350). -/
def CA_ANGLE_HOLDS : Nat := 0x685406
/-- CA_RANGE_CHANGES, element `i` counted from 0 (R350). -/
def CA_RANGE_CHANGES (i : Nat) : Nat := 0x685501 + i
/-- RTD_WIRING, element `i` counted from 0 (R350). -/
def RTD_WIRING (i : Nat) : Nat := 0x686001 + i
/-- RTD_STATE, element `i` counted from 0 (R350). -/
def RTD_STATE (i : Nat) : Nat := 0x686101 + i
/-- RTD_BREAK_LEADS, element `i` counted from 0 (R350). -/
def RTD_BREAK_LEADS (i : Nat) : Nat := 0x686201 + i
/-- RTD_LEAD_R, element `i` counted from 0 (R350). -/
def RTD_LEAD_R (i : Nat) : Nat := 0x686301 + i
/-- RTD_BREAKS, element `i` counted from 0 (R350). -/
def RTD_BREAKS (i : Nat) : Nat := 0x686401 + i
/-- SENS_TSEL, element `i` counted from 0 (R350). -/
def SENS_TSEL (i : Nat) : Nat := 0x687001 + i
/-- SENS_OUT, element `i` counted from 0 (R350). -/
def SENS_OUT (i : Nat) : Nat := 0x687101 + i
/-- SENS_FLAGS, element `i` counted from 0 (R350). -/
def SENS_FLAGS (i : Nat) : Nat := 0x687201 + i
/-- SENS_COEF, index element `i` and subindex element `j`, both counted from 0 (R350). -/
def SENS_COEF (i j : Nat) : Nat := 0x688001 + i * 256 + j
/-- CAL_ENABLE (R370). -/
def CAL_ENABLE : Nat := 0x700001
/-- CAL_RATE (R370). -/
def CAL_RATE : Nat := 0x700002
/-- FA_TARGET (R370). -/
def FA_TARGET : Nat := 0x700003
/-- WIN_SPAN (R370). -/
def WIN_SPAN : Nat := 0x700004
/-- CAL_AS (R370). -/
def CAL_AS : Nat := 0x700005
/-- CAL_BASE (R370). -/
def CAL_BASE : Nat := 0x700006
/-- WIN_RANGE, element `i` counted from 0 (R370). -/
def WIN_RANGE (i : Nat) : Nat := 0x700101 + i
/-- CAL_UNSETTLED (R370). -/
def CAL_UNSETTLED : Nat := 0x700201
/-- CAL_STEPS (R370). -/
def CAL_STEPS : Nat := 0x700202
/-- CAL_DISCARDS (R370). -/
def CAL_DISCARDS : Nat := 0x700203
/-- CAL_FAULTS (R370). -/
def CAL_FAULTS : Nat := 0x700204
/-- CAL_RESTORE (R370). -/
def CAL_RESTORE : Nat := 0x700205
/-- CAL_CH, element `i` counted from 0 (R370). -/
def CAL_CH (i : Nat) : Nat := 0x702001 + i
/-- CAL_E, element `i` counted from 0 (R370). -/
def CAL_E (i : Nat) : Nat := 0x702101 + i
/-- K0_TRIM, element `i` counted from 0 (R370). -/
def K0_TRIM (i : Nat) : Nat := 0x702201 + i
/-- COMP_DELAY, element `i` counted from 0 (R370). -/
def COMP_DELAY (i : Nat) : Nat := 0x702301 + i
/-- LEVEL_OFS, element `i` counted from 0 (R370). -/
def LEVEL_OFS (i : Nat) : Nat := 0x702401 + i
/-- WIN_MEAS, element `i` counted from 0 (R370). -/
def WIN_MEAS (i : Nat) : Nat := 0x702501 + i
/-- CAL_IMAGE (R370). -/
def CAL_IMAGE : Nat := 0x710000
/-- CAL_SNAP (R370). -/
def CAL_SNAP : Nat := 0x710101
/-- CAL_SNAP_SEQ (R370). -/
def CAL_SNAP_SEQ : Nat := 0x710102
/-- ENS_STATE (R405). -/
def ENS_STATE : Nat := 0x780001
/-- SEAL_STATE (R405). -/
def SEAL_STATE : Nat := 0x780002
/-- SEAL_CRC (R405). -/
def SEAL_CRC : Nat := 0x780003
/-- SEAL_PROGRAM (R405). -/
def SEAL_PROGRAM : Nat := 0x780004
/-- SEAL_RESULT (R405). -/
def SEAL_RESULT : Nat := 0x780005
/-- V_MIN (R405). -/
def V_MIN : Nat := 0x781001
/-- PERIOD_MIN (R405). -/
def PERIOD_MIN : Nat := 0x781002
/-- PERIOD_MAX (R405). -/
def PERIOD_MAX : Nat := 0x781003
/-- AMP_MIN (R405). -/
def AMP_MIN : Nat := 0x781004
/-- AMP_MAX (R405). -/
def AMP_MAX : Nat := 0x781005
/-- JUMP_MAX (R405). -/
def JUMP_MAX : Nat := 0x781006
/-- DIR_ALLOW (R405). -/
def DIR_ALLOW : Nat := 0x781007
/-- POS_MARGIN (R405). -/
def POS_MARGIN : Nat := 0x781008
/-- DEG_MARGIN (R405). -/
def DEG_MARGIN : Nat := 0x781009
/-- AGREE_TOL (R405). -/
def AGREE_TOL : Nat := 0x78100A
/-- T_DEG (R405). -/
def T_DEG : Nat := 0x78100B
/-- EXCL_LO, element `i` counted from 0 (R405). -/
def EXCL_LO (i : Nat) : Nat := 0x781101 + i
/-- EXCL_HI, element `i` counted from 0 (R405). -/
def EXCL_HI (i : Nat) : Nat := 0x781201 + i
/-- EXCL_EMASK, element `i` counted from 0 (R405). -/
def EXCL_EMASK (i : Nat) : Nat := 0x781301 + i
/-- EXCL_PRESET, element `i` counted from 0 (R405). -/
def EXCL_PRESET (i : Nat) : Nat := 0x781401 + i
/-- SHOT_CEIL, element `i` counted from 0 (R405). -/
def SHOT_CEIL (i : Nat) : Nat := 0x781501 + i
/-- BUDGET_100MS, element `i` counted from 0 (R405). -/
def BUDGET_100MS (i : Nat) : Nat := 0x781601 + i
/-- BUDGET_10S, element `i` counted from 0 (R405). -/
def BUDGET_10S (i : Nat) : Nat := 0x781701 + i
/-- WIDTH_MAX, element `i` counted from 0 (R405). -/
def WIDTH_MAX (i : Nat) : Nat := 0x781801 + i
/-- VLAS_MAX (R405). -/
def VLAS_MAX : Nat := 0x781901
/-- EMEAS_MAX (R405). -/
def EMEAS_MAX : Nat := 0x781902
/-- EDARK_MAX (R405). -/
def EDARK_MAX : Nat := 0x781903
/-- ANGLE_COEF, element `i` counted from 0 (R405). -/
def ANGLE_COEF (i : Nat) : Nat := 0x781A01 + i
/-- PEM_COEF, index element `i` and subindex element `j`, both counted from 0 (R405). -/
def PEM_COEF (i j : Nat) : Nat := 0x781B01 + i * 256 + j
/-- SOL_SEALED, element `i` counted from 0 (R405). -/
def SOL_SEALED (i : Nat) : Nat := 0x782001 + i
/-- SH_CAUSE (R405). -/
def SH_CAUSE : Nat := 0x783001
/-- SH_LATCHED (R405). -/
def SH_LATCHED : Nat := 0x783002
/-- SH_LAST (R405). -/
def SH_LAST : Nat := 0x783003
/-- SH_COUNT (R405). -/
def SH_COUNT : Nat := 0x783004
/-- VETO_COUNT, element `i` counted from 0 (R405). -/
def VETO_COUNT (i : Nat) : Nat := 0x783101 + i
/-- E_USED_100MS, element `i` counted from 0 (R405). -/
def E_USED_100MS (i : Nat) : Nat := 0x783201 + i
/-- E_USED_10S, element `i` counted from 0 (R405). -/
def E_USED_10S (i : Nat) : Nat := 0x783301 + i
/-- SPEED_NOW (R405). -/
def SPEED_NOW : Nat := 0x783401
/-- DIR_NOW (R405). -/
def DIR_NOW : Nat := 0x783402
/-- PERIOD_LAST (R405). -/
def PERIOD_LAST : Nat := 0x783403
/-- AMP_LAST (R405). -/
def AMP_LAST : Nat := 0x783404
/-- SWEEP_OK (R405). -/
def SWEEP_OK : Nat := 0x783405
/-- SRC_STATE (R405). -/
def SRC_STATE : Nat := 0x783501
/-- DEG_USED (R405). -/
def DEG_USED : Nat := 0x783601
/-- DEG_ENTRIES (R405). -/
def DEG_ENTRIES : Nat := 0x783602
/-- DEG_CLEAN (R405). -/
def DEG_CLEAN : Nat := 0x783603
/-- DEG_FROM (R405). -/
def DEG_FROM : Nat := 0x783604
/-- DEG_ACK (R405). -/
def DEG_ACK : Nat := 0x783701
/-- TP_NEXT (R405). -/
def TP_NEXT : Nat := 0x783801
/-- TP_PASS (R405). -/
def TP_PASS : Nat := 0x783802
/-- TP_FAIL (R405). -/
def TP_FAIL : Nat := 0x783803
/-- TP_VOID (R405). -/
def TP_VOID : Nat := 0x783804
/-- TESTPULSE_COLLIDE (R405). -/
def TESTPULSE_COLLIDE : Nat := 0x783805
/-- TP_FORCED (R405). -/
def TP_FORCED : Nat := 0x783806
/-- TP_LAST (R405). -/
def TP_LAST : Nat := 0x783807
/-- STRAP_READ (R405). -/
def STRAP_READ : Nat := 0x783901
/-- STRAP_BOOT (R405). -/
def STRAP_BOOT : Nat := 0x783902
/-- CEIL_CODE (R405). -/
def CEIL_CODE : Nat := 0x783903
/-- PRESET_NOW (R405). -/
def PRESET_NOW : Nat := 0x783904
/-- INHIBIT_STATE (R405). -/
def INHIBIT_STATE : Nat := 0x783A01
/-- INHIBIT_COUNT (R405). -/
def INHIBIT_COUNT : Nat := 0x783A02
/-- PERMIT_STATE (R405). -/
def PERMIT_STATE : Nat := 0x783B01
/-- BIST_CMD (R424). -/
def BIST_CMD : Nat := 0x800001
/-- BIST_ABORT (R424). -/
def BIST_ABORT : Nat := 0x800002
/-- BIST_STATE (R424). -/
def BIST_STATE : Nat := 0x800101
/-- BIST_RESULT (R424). -/
def BIST_RESULT : Nat := 0x800102
/-- BIST_REASON (R424). -/
def BIST_REASON : Nat := 0x800103
/-- BIST_LAST_CMD (R424). -/
def BIST_LAST_CMD : Nat := 0x800104
/-- BIST_COUNT (R424). -/
def BIST_COUNT : Nat := 0x800105
/-- BIST_COUNT_EXP (R424). -/
def BIST_COUNT_EXP : Nat := 0x800106
/-- BIST_SIG (R424). -/
def BIST_SIG : Nat := 0x800107
/-- BIST_SIG_EXP (R424). -/
def BIST_SIG_EXP : Nat := 0x800108
/-- BIST_TIME (R424). -/
def BIST_TIME : Nat := 0x800109
/-- BIST_SEQ (R424). -/
def BIST_SEQ : Nat := 0x80010A
/-- PRBS_LEN (R424). -/
def PRBS_LEN : Nat := 0x800201
/-- AUTO_RETIRE (R424). -/
def AUTO_RETIRE : Nat := 0x800202
/-- UNIT_RETIRE (R424). -/
def UNIT_RETIRE : Nat := 0x801001
/-- UNIT_RETURN (R424). -/
def UNIT_RETURN : Nat := 0x801002
/-- SPARE_OP_STATE (R424). -/
def SPARE_OP_STATE : Nat := 0x801003
/-- SPARE_OP_RESULT (R424). -/
def SPARE_OP_RESULT : Nat := 0x801004
/-- SLICE_FREE, element `i` counted from 0 (R424). -/
def SLICE_FREE (i : Nat) : Nat := 0x801101 + i
/-- POOL_FREE, element `i` counted from 0 (R424). -/
def POOL_FREE (i : Nat) : Nat := 0x801201 + i
/-- FUSE_ROWS_FREE (R424). -/
def FUSE_ROWS_FREE : Nat := 0x801206
/-- TAKEOVERS (R424). -/
def TAKEOVERS : Nat := 0x801301
/-- RETURNS (R424). -/
def RETURNS : Nat := 0x801302
/-- RETURN_MISMATCH (R424). -/
def RETURN_MISMATCH : Nat := 0x801303
/-- RETIRED_LIST (R424). -/
def RETIRED_LIST : Nat := 0x802000
/-- RETIRE_BURN (R424). -/
def RETIRE_BURN : Nat := 0x802101
/-- BURN_RESULT (R424). -/
def BURN_RESULT : Nat := 0x802102
/-- RETIRE_FUSES (R424). -/
def RETIRE_FUSES : Nat := 0x802200
/-- KEY_STATE (R424). -/
def KEY_STATE : Nat := 0x803001
/-- ZEROISE_COUNT (R424). -/
def ZEROISE_COUNT : Nat := 0x803002
/-- BOOT_BIST (R424). -/
def BOOT_BIST : Nat := 0x803101
/-- BOOT_BIST_FAILS (R424). -/
def BOOT_BIST_FAILS : Nat := 0x803102
/-- VIN_MEAS (R445). -/
def VIN_MEAS : Nat := 0x880001
/-- VIN_MIN (R445). -/
def VIN_MIN : Nat := 0x880002
/-- VIN_MAX (R445). -/
def VIN_MAX : Nat := 0x880003
/-- VIN_MINMAX_CLR (R445). -/
def VIN_MINMAX_CLR : Nat := 0x880004
/-- SHED_LEVEL (R445). -/
def SHED_LEVEL : Nat := 0x880101
/-- VIN_OV (R445). -/
def VIN_OV : Nat := 0x880102
/-- SHED_LAST (R445). -/
def SHED_LAST : Nat := 0x880103
/-- SHED_ENTRIES, element `i` counted from 0 (R445). -/
def SHED_ENTRIES (i : Nat) : Nat := 0x880201 + i
/-- OV_ENTRIES (R445). -/
def OV_ENTRIES : Nat := 0x880205
/-- RAIL_STATE, element `i` counted from 0 (R445). -/
def RAIL_STATE (i : Nat) : Nat := 0x881001 + i
/-- RAIL_FAULTS, element `i` counted from 0 (R445). -/
def RAIL_FAULTS (i : Nat) : Nat := 0x881101 + i
/-- RAIL_FAULT_CAUSE, element `i` counted from 0 (R445). -/
def RAIL_FAULT_CAUSE (i : Nat) : Nat := 0x881201 + i
/-- TS_READ, element `i` counted from 0 (R445). -/
def TS_READ (i : Nat) : Nat := 0x882001 + i
/-- TS_STATE, element `i` counted from 0 (R445). -/
def TS_STATE (i : Nat) : Nat := 0x882101 + i
/-- ZONE_TEMP, element `i` counted from 0 (R445). -/
def ZONE_TEMP (i : Nat) : Nat := 0x882201 + i
/-- ZONE_JUDGED, element `i` counted from 0 (R445). -/
def ZONE_JUDGED (i : Nat) : Nat := 0x882301 + i
/-- ZONE_WARN_T, element `i` counted from 0 (R445). -/
def ZONE_WARN_T (i : Nat) : Nat := 0x882501 + i
/-- ZONE_PEAK, element `i` counted from 0 (R445). -/
def ZONE_PEAK (i : Nat) : Nat := 0x882401 + i
/-- THROT_STEP (R445). -/
def THROT_STEP : Nat := 0x883001
/-- THROT_RELAX (R445). -/
def THROT_RELAX : Nat := 0x883002
/-- THROT_ENTRIES (R445). -/
def THROT_ENTRIES : Nat := 0x883003
/-- THROT_TIME (R445). -/
def THROT_TIME : Nat := 0x883004
/-- TS_BREAKS (R445). -/
def TS_BREAKS : Nat := 0x883101
/-- MODE_REQ (R466). -/
def MODE_REQ : Nat := 0x900001
/-- MODE_ACT (R466). -/
def MODE_ACT : Nat := 0x900002
/-- MODE_RESULT (R466). -/
def MODE_RESULT : Nat := 0x900003
/-- MODE_CHANGES (R466). -/
def MODE_CHANGES : Nat := 0x900004
/-- MODE_LAST (R466). -/
def MODE_LAST : Nat := 0x900005
/-- PENNANT (R466). -/
def PENNANT : Nat := 0x901001
/-- IRQ_EN (R466). -/
def IRQ_EN : Nat := 0x901002
/-- SLOT_COUNTER (R466). -/
def SLOT_COUNTER : Nat := 0x902001
/-- RET_LOG (R466). -/
def RET_LOG : Nat := 0x903000
/-- RET_LOG_CLEAR (R466). -/
def RET_LOG_CLEAR : Nat := 0x903101
/-- VAO_TIME (R466). -/
def VAO_TIME : Nat := 0x903102
/-- RESET_COUNT (R466). -/
def RESET_COUNT : Nat := 0x903103
/-- BOOT_STATUS (R466). -/
def BOOT_STATUS : Nat := 0x904001
/-- BOOT_TIME (R466). -/
def BOOT_TIME : Nat := 0x904002
/-- SCRIPT_VERSION (R466). -/
def SCRIPT_VERSION : Nat := 0x904003
/-- SCRIPT_RECORDS (R466). -/
def SCRIPT_RECORDS : Nat := 0x904004
/-- SCRIPT_FAIL (R466). -/
def SCRIPT_FAIL : Nat := 0x904005
/-- KEY_HASH (R466). -/
def KEY_HASH : Nat := 0x904006

end K

/-- Object table, part 0. -/
def objTable0 : List ObjRow := [
  ⟨0x1000, 0x1000, 0x01, 0x01, .u16, .ro, 258, .any, none, .never, "PLAN_FORMAT"⟩,
  ⟨0x1000, 0x1000, 0x02, 0x02, .u8, .ro, 0, .any, none, .never, "COMET_STATE"⟩,
  ⟨0x1010, 0x1010, 0x00, 0x00, .domain, .rw, 0, .any, none, .standbyRunning, "PENDING_PLAN"⟩,
  ⟨0x1011, 0x1015, 0x00, 0x00, .domain, .rw, 0, .any, none, .standbyRunning, "PENDING_TABLE"⟩,
  ⟨0x1018, 0x1018, 0x00, 0x00, .domain, .ro, 0, .any, none, .never, "ACTIVE_PLAN"⟩,
  ⟨0x1020, 0x1020, 0x01, 0x01, .u8, .wo, 0, .any, none, .standbyRunning, "PLAN_CHECK"⟩,
  ⟨0x1020, 0x1020, 0x02, 0x02, .u32, .ro, 0, .any, none, .never, "CHECK_RESULT"⟩,
  ⟨0x1020, 0x1020, 0x03, 0x03, .u16, .ro, 0, .any, none, .never, "CHECK_WORD"⟩,
  ⟨0x1020, 0x1020, 0x04, 0x04, .u32, .ro, 0, .any, none, .never, "CHECK_SLOT"⟩,
  ⟨0x1020, 0x1020, 0x05, 0x05, .u16, .ro, 0, .any, none, .never, "CHECK_DETAIL"⟩,
  ⟨0x1020, 0x1020, 0x06, 0x06, .u32, .ro, 0, .any, none, .never, "CHECK_WARN"⟩,
  ⟨0x1021, 0x1021, 0x01, 0x01, .u8, .wo, 0, .any, none, .standbyRunning, "PLAN_SWAP"⟩,
  ⟨0x1021, 0x1021, 0x02, 0x02, .u8, .ro, 0, .any, none, .never, "SWAP_STATE"⟩,
  ⟨0x1030, 0x1030, 0x01, 0x01, .u32, .ro, 0, .any, none, .never, "ACTIVE_PLAN_ID"⟩,
  ⟨0x1030, 0x1030, 0x02, 0x02, .u64, .ro, 0, .any, none, .never, "FRAME_COUNT"⟩,
  ⟨0x1030, 0x1030, 0x03, 0x03, .u32, .ro, 0, .any, none, .never, "FRAME_POS"⟩,
  ⟨0x1040, 0x1040, 0x01, 0x01, .u32, .ro, 0, .any, none, .never, "OVERRUN_COUNT"⟩,
  ⟨0x1040, 0x1040, 0x02, 0x02, .u64, .ro, 0, .any, none, .never, "OVERRUN_LAST"⟩,
  ⟨0x1040, 0x1040, 0x03, 0x03, .u32, .ro, 0, .any, none, .never, "OVERRUN_UNITS"⟩,
  ⟨0x1041, 0x1041, 0x01, 0x01, .u32, .ro, 0, .any, none, .never, "WITHHELD_SLOTS"⟩,
  ⟨0x1041, 0x1041, 0x02, 0x02, .u32, .ro, 0, .any, none, .never, "MARKS_ISSUED"⟩,
  ⟨0x1050, 0x1050, 0x01, 0x01, .u32, .ro, 0, .any, none, .never, "MASKED_SLOTS"⟩,
  ⟨0x1050, 0x1050, 0x02, 0x02, .u8, .ro, 0, .any, none, .never, "MASK_NOW"⟩,
  ⟨0x2001, 0x2001, 0x01, 0x10, .u32, .ro, 0, .any, none, .never, "SHOTS_FIRED"⟩,
  ⟨0x2002, 0x2002, 0x01, 0x10, .u32, .ro, 0, .any, none, .never, "SHOTS_SUPPRESSED"⟩,
  ⟨0x2003, 0x2003, 0x01, 0x10, .u32, .ro, 0, .any, none, .never, "SHOTS_TRUNCATED"⟩,
  ⟨0x2004, 0x2004, 0x01, 0x01, .u8, .ro, 1, .any, none, .never, "DITHER_STATE"⟩,
  ⟨0x2010, 0x2010, 0x01, 0x01, .u8, .ro, 0, .any, none, .never, "VLAS_TARGET"⟩,
  ⟨0x2010, 0x2010, 0x02, 0x02, .u16, .ro, 0, .any, none, .never, "VLAS_MEAS"⟩,
  ⟨0x2010, 0x2010, 0x03, 0x03, .u8, .ro, 0, .any, none, .never, "RES_STATE"⟩,
  ⟨0x2010, 0x2010, 0x04, 0x04, .u16, .rwc, 25, .nat 5 200 1, some 4, .standbyRunning, "RES_TOL"⟩,
  ⟨0x2010, 0x2010, 0x05, 0x05, .u16, .rwc, 10800, .nat 0 11199 1, some 4, .standby, "CHG_PHASE"⟩,
  ⟨0x2010, 0x2010, 0x06, 0x06, .u8, .rwc, 50, .nat 10 100 1, some 4, .standby, "CHG_ILIM"⟩,
  ⟨0x2010, 0x2010, 0x07, 0x07, .u8, .rwc, 20, .nat 1 40 1, some 4, .standbyRunning, "RISE_RATE"⟩,
  ⟨0x2010, 0x2010, 0x08, 0x08, .u32, .ro, 0, .any, none, .never, "RES_FAULTS"⟩,
  ⟨0x2020, 0x2020, 0x01, 0x01, .f32, .rwc, 1109393408, .f32 0 4096, some 5, .standbyRunning, "MIR_KP"⟩,
  ⟨0x2020, 0x2020, 0x02, 0x02, .f32, .rwc, 1056964608, .f32 0 64, some 5, .standbyRunning, "MIR_KI"⟩,
  ⟨0x2020, 0x2020, 0x03, 0x03, .f32, .rwc, 1123024896, .f32 0 8192, some 5, .standbyRunning, "MIR_KD"⟩,
  ⟨0x2020, 0x2020, 0x04, 0x04, .u16, .rwc, 25600, .nat 640 25600 1, some 5, .standbyRunning, "MIR_ILIM"⟩,
  ⟨0x2020, 0x2020, 0x05, 0x05, .u16, .rwc, 64, .nat 1 2048 1, some 5, .standbyRunning, "TRACK_TOL"⟩,
  ⟨0x2020, 0x2020, 0x06, 0x06, .i16, .rwc, 0, .int (-32767) 32767, some 5, .standbyRunning, "PARK_ANGLE"⟩,
  ⟨0x2020, 0x2020, 0x07, 0x07, .u16, .rwc, 8, .nat 1 1024 1, some 5, .standbyRunning, "PARK_RATE"⟩,
  ⟨0x2021, 0x2021, 0x01, 0x01, .u8, .ro, 0, .any, none, .never, "MIR_STATE"⟩,
  ⟨0x2021, 0x2021, 0x02, 0x02, .i16, .ro, 0, .any, none, .never, "ANGLE_MEAS"⟩,
  ⟨0x2021, 0x2021, 0x03, 0x03, .i16, .ro, 0, .any, none, .never, "ANGLE_TARGET"⟩]

/-- Object table, part 1. -/
def objTable1 : List ObjRow := [
  ⟨0x2021, 0x2021, 0x04, 0x04, .i16, .ro, 0, .any, none, .never, "DRIVE_NOW"⟩,
  ⟨0x2021, 0x2021, 0x05, 0x05, .u16, .ro, 0, .any, none, .never, "TRACK_ERR_MAX"⟩,
  ⟨0x2021, 0x2021, 0x06, 0x06, .u32, .ro, 0, .any, none, .never, "CLAMP_SLOTS"⟩,
  ⟨0x2030, 0x2030, 0x01, 0x01, .i16, .rwc, 0, .any, some 5, .standby, "SOL_ANGLE_A"⟩,
  ⟨0x2030, 0x2030, 0x02, 0x02, .i16, .rwc, 0, .any, some 5, .standby, "SOL_ANGLE_B"⟩,
  ⟨0x2030, 0x2030, 0x03, 0x03, .u16, .rwc, 64, .nat 1 1024 1, some 5, .standby, "SOL_WIN"⟩,
  ⟨0x2030, 0x2030, 0x04, 0x04, .i16, .ro, 0, .any, none, .never, "SOL_ERR_A"⟩,
  ⟨0x2030, 0x2030, 0x05, 0x05, .i16, .ro, 0, .any, none, .never, "SOL_ERR_B"⟩,
  ⟨0x2030, 0x2030, 0x06, 0x06, .u32, .ro, 0, .any, none, .never, "SOL_FAULTS"⟩,
  ⟨0x2030, 0x2030, 0x07, 0x07, .u8, .ro, 0, .any, none, .never, "ANGLE_SOURCE"⟩,
  ⟨0x2800, 0x2800, 0x01, 0x01, .u64, .rwc, 0, .nat 0 281474976710655 1, some 6, .standbyRunning, "RX_ENABLE"⟩,
  ⟨0x2801, 0x2801, 0x01, 0x30, .u8, .rwc, 0, .nat 0 3 1, some 6, .standbyRunning, "RX_GAIN"⟩,
  ⟨0x2802, 0x2802, 0x01, 0x30, .u8, .rwc, 0, .nat 0 1 1, some 6, .standby, "RX_CONN"⟩,
  ⟨0x2803, 0x2803, 0x01, 0x30, .u8, .rwc, 1, .nat 0 2 1, some 6, .standbyRunning, "SERVO_MODE"⟩,
  ⟨0x2804, 0x2804, 0x01, 0x30, .u16, .rwc, 0, .nat 0 16000 1, some 6, .standbyRunning, "SERVO_FIX"⟩,
  ⟨0x2805, 0x2805, 0x01, 0x01, .u16, .rwc, 64, .nat 1 1024 1, some 6, .standbyRunning, "SERVO_STEP"⟩,
  ⟨0x2805, 0x2805, 0x02, 0x02, .f32, .rwc, 1048576000, .f32 (1 / 256) 1, some 6, .standbyRunning, "SERVO_KP"⟩,
  ⟨0x2805, 0x2805, 0x03, 0x03, .u8, .rwc, 200, .nat 1 225 1, some 6, .standbyRunning, "SUN_HIGH_AMB"⟩,
  ⟨0x2810, 0x2810, 0x01, 0x30, .u16, .ro, 0, .any, none, .never, "AMBIENT"⟩,
  ⟨0x2811, 0x2811, 0x01, 0x30, .u8, .ro, 0, .any, none, .never, "AMB_CODE"⟩,
  ⟨0x2812, 0x2812, 0x01, 0x01, .u64, .ro, 0, .any, none, .never, "SUN_SAT_MASK"⟩,
  ⟨0x2813, 0x2813, 0x01, 0x30, .u32, .ro, 0, .any, none, .never, "CLIP_SAMPLES"⟩,
  ⟨0x2814, 0x2814, 0x01, 0x30, .u8, .ro, 0, .any, none, .never, "CH_STATE"⟩,
  ⟨0x2815, 0x2815, 0x01, 0x30, .u32, .ro, 1985229328, .any, none, .never, "SLICE_MAP"⟩,
  ⟨0x2816, 0x2816, 0x01, 0x30, .u32, .ro, 0, .any, none, .never, "GAIN_DISCARDS"⟩,
  ⟨0x2880, 0x2880, 0x01, 0x01, .u8, .rwc, 0, .nat 0 15 1, some 7, .standbyRunning, "APD_ZONE_EN"⟩,
  ⟨0x2880, 0x2880, 0x02, 0x02, .u16, .rwc, 20, .nat 1 100 1, some 7, .standbyRunning, "APD_SLEW"⟩,
  ⟨0x2880, 0x2880, 0x03, 0x03, .u16, .rwc, 500, .nat 200 1500 1, some 7, .standby, "APD_HEADROOM"⟩,
  ⟨0x2880, 0x2880, 0x04, 0x04, .u16, .rwc, 300, .nat 10 400 1, some 7, .standbyRunning, "APD_ILIM"⟩,
  ⟨0x2881, 0x2881, 0x01, 0x04, .f32, .rwc, 1092616192, .f32 1 1000, some 7, .standbyRunning, "APD_GAIN"⟩,
  ⟨0x2882, 0x2882, 0x01, 0x04, .u16, .rwc, 2000, .nat 2000 21000 1, some 7, .standbyRunning, "APD_VMIN"⟩,
  ⟨0x2883, 0x2883, 0x01, 0x04, .u16, .rwc, 2000, .nat 2000 21000 1, some 7, .standbyRunning, "APD_VMAX"⟩,
  ⟨0x2884, 0x2884, 0x01, 0x04, .u8, .rwc, 0, .nat 0 2 1, some 7, .standby, "APD_TSEL"⟩,
  ⟨0x2885, 0x2885, 0x01, 0x04, .f32, .rwc, 0, .f32 (-20) 20, some 7, .standbyRunning, "APD_TOFFS"⟩,
  ⟨0x2890, 0x2893, 0x01, 0x0C, .f32, .rwc, 0, .any, some 7, .standbyRunning, "APD_COEF"⟩,
  ⟨0x28A0, 0x28A0, 0x01, 0x04, .u16, .ro, 0, .any, none, .never, "APD_SET"⟩,
  ⟨0x28A1, 0x28A1, 0x01, 0x04, .u16, .ro, 0, .any, none, .never, "APD_MEAS"⟩,
  ⟨0x28A2, 0x28A2, 0x01, 0x04, .u8, .ro, 0, .any, none, .never, "APD_STATE"⟩,
  ⟨0x28A3, 0x28A3, 0x01, 0x04, .u16, .ro, 0, .any, none, .never, "APD_IMEAS"⟩,
  ⟨0x28A4, 0x28A4, 0x01, 0x04, .u8, .ro, 0, .any, none, .never, "APD_FLAGS"⟩,
  ⟨0x28A5, 0x28A5, 0x01, 0x01, .u16, .ro, 0, .any, none, .never, "APD_HV_MEAS"⟩,
  ⟨0x28A6, 0x28A6, 0x01, 0x04, .u32, .ro, 0, .any, none, .never, "APD_FAULTS"⟩,
  ⟨0x3000, 0x3000, 0x01, 0x0D, .u8, .ro, 0, .any, none, .never, "EE_STATE"⟩,
  ⟨0x3001, 0x3001, 0x01, 0x01, .u8, .ro, 255, .any, none, .never, "EE12_FOR"⟩,
  ⟨0x3002, 0x3002, 0x01, 0x01, .u32, .ro, 0, .any, none, .never, "EE_TAKEOVERS"⟩]

/-- Object table, part 2. -/
def objTable2 : List ObjRow := [
  ⟨0x3010, 0x3010, 0x01, 0x30, .u16, .rwc, 0, .nat 0 1023 1, some 8, .standbyRunning, "NEAR_GATE"⟩,
  ⟨0x3011, 0x3011, 0x01, 0x01, .u8, .rwc, 1, .nat 0 1 1, some 8, .standbyRunning, "NEAR_MODE"⟩,
  ⟨0x3012, 0x3012, 0x01, 0x01, .u16, .rwc, 48, .nat 1 1023 1, some 8, .standbyRunning, "SOFT_WIDTH"⟩,
  ⟨0x3012, 0x3012, 0x02, 0x02, .u16, .rwc, 200, .nat 1 65535 1, some 8, .standbyRunning, "SOFT_AMP"⟩,
  ⟨0x3013, 0x3013, 0x01, 0x01, .u8, .rwc, 0, .nat 0 1 1, some 8, .standbyRunning, "BASE_MODE"⟩,
  ⟨0x3014, 0x3014, 0x01, 0x30, .i16, .rwc, 36864, .int (-32767) 32767, some 8, .standbyRunning, "BASE_FIX"⟩,
  ⟨0x3020, 0x3020, 0x01, 0x30, .u32, .ro, 0, .any, none, .never, "RECORDS"⟩,
  ⟨0x3021, 0x3021, 0x01, 0x30, .u32, .ro, 0, .any, none, .never, "ECHOES_UNREPORTED"⟩,
  ⟨0x3022, 0x3022, 0x01, 0x30, .u32, .ro, 0, .any, none, .never, "UNCONFIRMED"⟩,
  ⟨0x3023, 0x3023, 0x01, 0x30, .u32, .ro, 0, .any, none, .never, "GROUPS_LOST"⟩,
  ⟨0x3024, 0x3024, 0x01, 0x30, .u32, .ro, 0, .any, none, .never, "NEAR_DROPPED"⟩,
  ⟨0x3030, 0x3030, 0x01, 0x30, .u32, .rwc, 0, .nat 0 268369920 65536, some 8, .standby, "HDUMP_BASE"⟩,
  ⟨0x3031, 0x3031, 0x01, 0x01, .u16, .rwc, 1, .nat 1 256 1, some 8, .standby, "HDUMP_ENTRIES"⟩,
  ⟨0x3032, 0x3032, 0x01, 0x30, .u32, .ro, 0, .any, none, .never, "HDUMP_COUNT"⟩,
  ⟨0x3040, 0x3040, 0x01, 0x30, .i16, .ro, 0, .any, none, .never, "LAST_BASE"⟩,
  ⟨0x4000, 0x4000, 0x01, 0x01, .u8, .ro, 0, .any, none, .never, "SPEC_STATE"⟩,
  ⟨0x4001, 0x4001, 0x01, 0x18, .u8, .rwc, 0, .nat 0 2 1, some 9, .standbyRunning, "SP_MODE"⟩,
  ⟨0x4002, 0x4002, 0x01, 0x18, .u8, .rwc, 0, .nat 0 1 1, some 9, .standbyRunning, "SP_SEL"⟩,
  ⟨0x4003, 0x4003, 0x01, 0x18, .u8, .rwc, 5, .nat 1 7 1, some 9, .standbyRunning, "SP_LEN"⟩,
  ⟨0x4004, 0x4004, 0x01, 0x18, .u8, .rwc, 1, .nat 0 5 1, some 9, .standbyRunning, "SP_WIN"⟩,
  ⟨0x4005, 0x4005, 0x01, 0x18, .u8, .rwc, 4, .nat 0 7 1, some 9, .standbyRunning, "SP_KBETA"⟩,
  ⟨0x4006, 0x4006, 0x01, 0x18, .u8, .rwc, 1, .nat 0 2 1, some 9, .standbyRunning, "SP_OVL"⟩,
  ⟨0x4007, 0x4007, 0x01, 0x18, .u8, .rwc, 0, .nat 0 1 1, some 9, .standbyRunning, "SP_SRC"⟩,
  ⟨0x4008, 0x4008, 0x01, 0x18, .u8, .rwc, 0, .nat 0 3 1, some 9, .standbyRunning, "SP_AVG_MODE"⟩,
  ⟨0x4009, 0x4009, 0x01, 0x18, .u16, .rwc, 1000, .nat 1 65535 1, some 9, .standbyRunning, "SP_AVG_N"⟩,
  ⟨0x400A, 0x400A, 0x01, 0x18, .u8, .rwc, 0, .nat 0 1 1, some 9, .standbyRunning, "SP_FMT"⟩,
  ⟨0x400B, 0x400B, 0x01, 0x01, .u8, .rwc, 0, .nat 0 15 1, some 9, .standbyRunning, "SPEC_AS"⟩,
  ⟨0x400C, 0x400C, 0x01, 0x30, .u32, .rwc, 0, .nat 0 268369920 65536, some 9, .standbyRunning, "SPEC_BASE"⟩,
  ⟨0x400D, 0x400D, 0x01, 0x01, .u16, .rwc, 1, .nat 1 256 1, some 9, .standbyRunning, "SPEC_ENTRIES"⟩,
  ⟨0x4010, 0x4010, 0x00, 0x00, .domain, .rwc, 0, .any, some 9, .standbyRunning, "CUSTOM_WIN"⟩,
  ⟨0x4011, 0x4011, 0x01, 0x18, .f32, .ro, 1065353216, .any, none, .never, "SP_CG"⟩,
  ⟨0x4012, 0x4012, 0x01, 0x18, .f32, .ro, 1065353216, .any, none, .never, "SP_ENBW"⟩,
  ⟨0x4013, 0x4013, 0x01, 0x01, .u32, .ro, 0, .any, none, .never, "SPEC_OUT_RATE"⟩,
  ⟨0x4014, 0x4014, 0x01, 0x1A, .u8, .ro, 0, .any, none, .never, "SP_STATE"⟩,
  ⟨0x4015, 0x4015, 0x01, 0x02, .u8, .ro, 255, .any, none, .never, "SPARE_FOR"⟩,
  ⟨0x4020, 0x4020, 0x01, 0x30, .u32, .ro, 0, .any, none, .never, "SPEC_SEQ"⟩,
  ⟨0x4021, 0x4021, 0x01, 0x30, .u32, .ro, 0, .any, none, .never, "SPEC_DISCARDS"⟩,
  ⟨0x4022, 0x4022, 0x01, 0x30, .u32, .ro, 0, .any, none, .never, "SPEC_DROPPED"⟩,
  ⟨0x4023, 0x4023, 0x01, 0x30, .u32, .ro, 0, .any, none, .never, "SPEC_FAULTS"⟩,
  ⟨0x4030, 0x4030, 0x01, 0x30, .u8, .rwc, 0, .nat 0 2 1, some 10, .standbyRunning, "DENS_EN"⟩,
  ⟨0x4031, 0x4031, 0x01, 0x30, .u16, .rwc, 1, .nat 1 65535 1, some 10, .standbyRunning, "DENS_STRIDE"⟩,
  ⟨0x4032, 0x4032, 0x01, 0x30, .i16, .rwc, 0, .any, some 10, .standbyRunning, "DENS_REF"⟩,
  ⟨0x4033, 0x4033, 0x01, 0x30, .u16, .rwc, 1024, .nat 1 65535 1, some 10, .standbyRunning, "DENS_PERIOD"⟩,
  ⟨0x4034, 0x4034, 0x01, 0x30, .u8, .rwc, 0, .nat 0 1 1, some 10, .standbyRunning, "DENS_DECAY"⟩,
  ⟨0x4035, 0x4035, 0x01, 0x01, .u8, .rwc, 0, .nat 0 15 1, some 10, .standbyRunning, "DENS_AS"⟩]

/-- Object table, part 3. -/
def objTable3 : List ObjRow := [
  ⟨0x4036, 0x4036, 0x01, 0x30, .u32, .rwc, 0, .nat 0 267386880 1048576, some 10, .standbyRunning, "DENS_BASE"⟩,
  ⟨0x4037, 0x4037, 0x01, 0x01, .u32, .ro, 0, .any, none, .never, "DENS_LOAD"⟩,
  ⟨0x4038, 0x4038, 0x01, 0x30, .u32, .ro, 0, .any, none, .never, "DENS_SEQ"⟩,
  ⟨0x4039, 0x4039, 0x01, 0x30, .u8, .ro, 1, .any, none, .never, "DENS_FROZEN"⟩,
  ⟨0x403A, 0x403A, 0x01, 0x30, .u32, .ro, 0, .any, none, .never, "DENS_TAKEN"⟩,
  ⟨0x403B, 0x403B, 0x01, 0x30, .u64, .ro, 0, .any, none, .never, "DENS_T0"⟩,
  ⟨0x403C, 0x403C, 0x01, 0x30, .u32, .ro, 0, .any, none, .never, "DENS_CLAMPED"⟩,
  ⟨0x403D, 0x403D, 0x01, 0x30, .u32, .ro, 0, .any, none, .never, "DENS_SATURATED"⟩,
  ⟨0x4040, 0x4047, 0x00, 0x00, .domain, .rwc, 0, .any, some 11, .standbyRunning, "MASK"⟩,
  ⟨0x4048, 0x4048, 0x01, 0x30, .u8, .rwc, 0, .nat 0 8 1, some 11, .standbyRunning, "MASK_SEL"⟩,
  ⟨0x4049, 0x4049, 0x01, 0x30, .u8, .rwc, 0, .nat 0 1 1, some 11, .standbyRunning, "MASK_SRC"⟩,
  ⟨0x404A, 0x404A, 0x01, 0x30, .u32, .ro, 0, .any, none, .never, "MASK_VIOL"⟩,
  ⟨0x404B, 0x404B, 0x01, 0x30, .u64, .ro, 0, .any, none, .never, "MASKV_LAST"⟩,
  ⟨0x404C, 0x404C, 0x01, 0x01, .u64, .ro, 0, .any, none, .never, "MASKV_NOW"⟩,
  ⟨0x4050, 0x4050, 0x01, 0x01, .u16, .rwc, 1536, .nat 0 12800 1, some 11, .standbyRunning, "LINE_THR"⟩,
  ⟨0x4050, 0x4050, 0x02, 0x02, .i16, .rwc, 59136, .any, some 11, .standbyRunning, "LINE_ALERT"⟩,
  ⟨0x4051, 0x4051, 0x01, 0x30, .u32, .ro, 0, .any, none, .never, "LINE_SEQ"⟩,
  ⟨0x4100, 0x412F, 0x01, 0x08, .u64, .ro, 0, .any, none, .never, "LINES"⟩,
  ⟨0x4800, 0x4800, 0x01, 0x01, .u8, .ro, 0, .any, none, .never, "TRIG_STATE"⟩,
  ⟨0x4800, 0x4800, 0x02, 0x02, .u8, .ro, 0, .any, none, .never, "TRIG_STAGE"⟩,
  ⟨0x4801, 0x4801, 0x01, 0x01, .u8, .wo, 0, .any, none, .running, "CAP_CTRL"⟩,
  ⟨0x4802, 0x4802, 0x01, 0x01, .u8, .rwc, 0, .nat 0 1 1, some 12, .standbyRunning, "CAP_MODE"⟩,
  ⟨0x4810, 0x4810, 0x01, 0x01, .u8, .rwc, 1, .nat 1 8 1, some 12, .standbyRunning, "TRIG_NSTAGES"⟩,
  ⟨0x4811, 0x4811, 0x01, 0x01, .u8, .wo, 0, .any, none, .running, "TRIG_SOFT"⟩,
  ⟨0x4812, 0x4812, 0x01, 0x01, .u32, .rwc, 1400, .nat 1 4294967295 1, some 12, .standbyRunning, "TRIG_TIMER"⟩,
  ⟨0x4813, 0x4813, 0x01, 0x01, .u8, .rwc, 0, .nat 0 1 1, some 12, .standbyRunning, "EXT_POL"⟩,
  ⟨0x4814, 0x4814, 0x01, 0x01, .u8, .rwc, 1, .nat 0 31 1, some 12, .standbyRunning, "ECHO_CLASS"⟩,
  ⟨0x4814, 0x4814, 0x02, 0x02, .u16, .rwc, 0, .nat 0 65535 1, some 12, .standbyRunning, "ECHO_AMP"⟩,
  ⟨0x4814, 0x4814, 0x03, 0x03, .u32, .rwc, 0, .nat 0 1048575 1, some 12, .standbyRunning, "ECHO_RMIN"⟩,
  ⟨0x4814, 0x4814, 0x04, 0x04, .u32, .rwc, 1048575, .nat 0 1048575 1, some 12, .standbyRunning, "ECHO_RMAX"⟩,
  ⟨0x4820, 0x4827, 0x01, 0x01, .u64, .rwc, 0, .any, some 12, .standbyRunning, "TRIG_PAT_LO"⟩,
  ⟨0x4820, 0x4827, 0x02, 0x02, .u64, .rwc, 0, .any, some 12, .standbyRunning, "TRIG_PAT_HI"⟩,
  ⟨0x4820, 0x4827, 0x03, 0x03, .u64, .rwc, 0, .any, some 12, .standbyRunning, "TRIG_SRC_LO"⟩,
  ⟨0x4820, 0x4827, 0x04, 0x04, .u32, .rwc, 0, .any, some 12, .standbyRunning, "TRIG_SRC_HI"⟩,
  ⟨0x4820, 0x4827, 0x05, 0x05, .u64, .rwc, 281474976710656, .any, some 12, .standbyRunning, "TRIG_CTRL"⟩,
  ⟨0x4820, 0x4827, 0x06, 0x06, .u32, .rwc, 0, .any, some 12, .standbyRunning, "TRIG_WITHIN"⟩,
  ⟨0x4830, 0x4830, 0x01, 0x30, .i16, .rwc, 0, .int (-2048) 2047, some 12, .standbyRunning, "COMP_LEVEL"⟩,
  ⟨0x4831, 0x4831, 0x01, 0x30, .u8, .rwc, 8, .nat 0 255 1, some 12, .standbyRunning, "COMP_HYST"⟩,
  ⟨0x4832, 0x4832, 0x01, 0x30, .u8, .rwc, 0, .nat 0 1 1, some 12, .standbyRunning, "COMP_POL"⟩,
  ⟨0x4840, 0x4840, 0x01, 0x01, .u8, .rwc, 0, .nat 0 2 1, some 12, .standbyRunning, "TRIG_OUT_MODE"⟩,
  ⟨0x4840, 0x4840, 0x02, 0x02, .u16, .rwc, 14, .nat 1 65535 1, some 12, .standbyRunning, "TRIG_OUT_WIDTH"⟩,
  ⟨0x4841, 0x4841, 0x01, 0x01, .u8, .rwc, 0, .nat 0 3 1, some 12, .standbyRunning, "SLOT_OUT_MODE"⟩,
  ⟨0x4841, 0x4841, 0x02, 0x02, .u16, .rwc, 14, .nat 1 2799 1, some 12, .standbyRunning, "SLOT_OUT_WIDTH"⟩,
  ⟨0x4850, 0x4850, 0x01, 0x01, .u64, .rwc, 0, .nat 0 281474976710655 1, some 12, .standbyRunning, "CAP_CHMASK"⟩,
  ⟨0x4850, 0x4850, 0x02, 0x02, .u8, .rwc, 0, .nat 0 2 1, some 12, .standbyRunning, "CAP_FMT"⟩]

/-- Object table, part 4. -/
def objTable4 : List ObjRow := [
  ⟨0x4850, 0x4850, 0x03, 0x03, .u8, .rwc, 0, .nat 0 15 1, some 12, .standbyRunning, "CAP_AS"⟩,
  ⟨0x4850, 0x4850, 0x04, 0x04, .u32, .rwc, 0, .nat 0 268435392 64, some 12, .standbyRunning, "CAP_BASE"⟩,
  ⟨0x4850, 0x4850, 0x05, 0x05, .u32, .rwc, 1024, .nat 1024 134217728 1024, some 12, .standbyRunning, "CAP_CH_LEN"⟩,
  ⟨0x4850, 0x4850, 0x06, 0x06, .u32, .rwc, 0, .nat 0 67108864 1, some 12, .standbyRunning, "CAP_PRE"⟩,
  ⟨0x4850, 0x4850, 0x07, 0x07, .u32, .rwc, 0, .any, some 12, .standbyRunning, "CAP_POST"⟩,
  ⟨0x4850, 0x4850, 0x08, 0x08, .u8, .rwc, 1, .nat 1 8 1, some 12, .standbyRunning, "CAP_SETS"⟩,
  ⟨0x4850, 0x4850, 0x09, 0x09, .u32, .rwc, 0, .nat 0 268435392 64, some 12, .standbyRunning, "CAP_HDR_BASE"⟩,
  ⟨0x4850, 0x4850, 0x0A, 0x0A, .u8, .rwc, 0, .nat 0 1 1, some 12, .standbyRunning, "CAP_DRAIN_EN"⟩,
  ⟨0x4850, 0x4850, 0x0B, 0x0B, .u64, .rwc, 0, .nat 0 281474976710655 1, some 12, .standbyRunning, "CAP_MASKSTOP"⟩,
  ⟨0x4851, 0x4851, 0x01, 0x01, .u64, .rw, 0, .any, none, .running, "CAP_DRAINED"⟩,
  ⟨0x4860, 0x4860, 0x01, 0x01, .u32, .ro, 0, .any, none, .never, "TRIG_COUNT"⟩,
  ⟨0x4860, 0x4860, 0x02, 0x02, .u64, .ro, 0, .any, none, .never, "TRIG_LAST"⟩,
  ⟨0x4860, 0x4860, 0x03, 0x03, .u8, .ro, 63, .any, none, .never, "TRIG_LAST_POS"⟩,
  ⟨0x4860, 0x4860, 0x04, 0x04, .u32, .ro, 0, .any, none, .never, "TRIG_IGNORED"⟩,
  ⟨0x4860, 0x4860, 0x05, 0x05, .u32, .ro, 0, .any, none, .never, "TRIG_TIMEOUTS"⟩,
  ⟨0x4860, 0x4860, 0x07, 0x07, .u32, .ro, 0, .any, none, .never, "CAP_SEQ"⟩,
  ⟨0x4860, 0x4860, 0x08, 0x08, .u64, .ro, 0, .any, none, .never, "CAP_WRITTEN"⟩,
  ⟨0x4861, 0x4861, 0x01, 0x30, .u32, .ro, 0, .any, none, .never, "COMP_LOST"⟩,
  ⟨0x4862, 0x4862, 0x00, 0x00, .domain, .ro, 0, .any, none, .never, "CAP_LAST_HDR"⟩,
  ⟨0x3800, 0x3800, 0x01, 0x30, .u16, .rwc, 256, .nat 1 4096 1, some 13, .standbyRunning, "DEC_L"⟩,
  ⟨0x3801, 0x3801, 0x01, 0x30, .u16, .rwc, 256, .nat 1 4096 1, some 13, .standbyRunning, "DEC_D"⟩,
  ⟨0x3810, 0x3810, 0x01, 0x01, .u8, .rwc, 0, .nat 0 2 1, some 13, .standbyRunning, "SYNC_IN_MODE"⟩,
  ⟨0x3811, 0x3811, 0x01, 0x01, .u8, .wo, 0, .any, none, .standbyRunning, "DEC_SYNC"⟩,
  ⟨0x3820, 0x3820, 0x01, 0x01, .u32, .ro, 0, .any, none, .never, "SYNC_COUNT"⟩,
  ⟨0x3820, 0x3820, 0x02, 0x02, .u64, .ro, 0, .any, none, .never, "SYNC_LAST"⟩,
  ⟨0x3820, 0x3820, 0x03, 0x03, .u32, .ro, 0, .any, none, .never, "SYNC_IGNORED"⟩,
  ⟨0x3821, 0x3821, 0x01, 0x30, .u64, .ro, 0, .any, none, .never, "DEC_RESET_LAST"⟩,
  ⟨0x3822, 0x3822, 0x01, 0x30, .u8, .ro, 0, .any, none, .never, "DEC_STATE"⟩,
  ⟨0x3823, 0x3823, 0x01, 0x30, .i16, .ro, 0, .any, none, .never, "DEC_LAST"⟩,
  ⟨0x5000, 0x5000, 0x01, 0x01, .u16, .ro, 3072, .any, none, .never, "FS_FRAMES"⟩,
  ⟨0x5001, 0x5001, 0x01, 0x32, .u8, .ro, 0, .any, none, .never, "BANK_STATE"⟩,
  ⟨0x5002, 0x5002, 0x01, 0x30, .u8, .ro, 0, .any, none, .never, "BANK_MAP"⟩,
  ⟨0x5003, 0x5003, 0x01, 0x32, .u32, .ro, 0, .any, none, .never, "BANK_CE"⟩,
  ⟨0x5004, 0x5004, 0x01, 0x32, .u32, .ro, 0, .any, none, .never, "BANK_UE"⟩,
  ⟨0x5005, 0x5005, 0x01, 0x01, .u16, .rwc, 1024, .nat 64 65535 1, some 14, .standbyRunning, "SCRUB_INTERVAL"⟩,
  ⟨0x5005, 0x5005, 0x02, 0x02, .u16, .rwc, 16, .nat 1 65535 1, some 14, .standbyRunning, "BANK_CE_LIMIT"⟩,
  ⟨0x5005, 0x5005, 0x03, 0x03, .u32, .ro, 0, .any, none, .never, "SCRUB_PASSES"⟩,
  ⟨0x5006, 0x5006, 0x01, 0x01, .u8, .wo, 0, .any, none, .standbyRunning, "BANK_RETIRE"⟩,
  ⟨0x5006, 0x5006, 0x02, 0x02, .u8, .ro, 0, .any, none, .never, "RETIRE_STATE"⟩,
  ⟨0x5006, 0x5006, 0x03, 0x03, .u32, .ro, 0, .any, none, .never, "RETIRE_PROGRESS"⟩,
  ⟨0x5010, 0x5010, 0x01, 0x01, .u16, .rwc, 0, .any, some 14, .standbyRunning, "AS_ENABLE"⟩,
  ⟨0x5020, 0x5020, 0x01, 0x01, .u64, .wo, 0, .any, none, .standbyRunning, "MAP_EDIT"⟩,
  ⟨0x5020, 0x5020, 0x02, 0x02, .u8, .ro, 0, .any, none, .never, "MAP_EDIT_STATE"⟩,
  ⟨0x5030, 0x5030, 0x01, 0x01, .u32, .ro, 0, .any, none, .never, "FAULT_COUNT"⟩,
  ⟨0x5030, 0x5030, 0x02, 0x02, .domain, .ro, 0, .any, none, .never, "FAULT_LAST"⟩]

/-- Object table, part 5. -/
def objTable5 : List ObjRow := [
  ⟨0x5030, 0x5030, 0x03, 0x03, .domain, .ro, 0, .any, none, .never, "FAULT_FIRST"⟩,
  ⟨0x5030, 0x5030, 0x04, 0x04, .domain, .ro, 0, .any, none, .never, "FAULT_LOG"⟩,
  ⟨0x5030, 0x5030, 0x05, 0x05, .u8, .wo, 0, .any, none, .standbyRunning, "FAULT_CLEAR"⟩,
  ⟨0x5040, 0x5047, 0x01, 0x01, .u8, .wo, 0, .any, none, .standbySelfRunning, "DMA_CTRL"⟩,
  ⟨0x5040, 0x5047, 0x02, 0x02, .u8, .ro, 0, .any, none, .never, "DMA_STATE"⟩,
  ⟨0x5040, 0x5047, 0x03, 0x03, .u8, .rw, 0, .nat 0 15 1, none, .standbySelfRunning, "DMA_CHAIN_AS"⟩,
  ⟨0x5040, 0x5047, 0x04, 0x04, .u32, .rw, 0, .nat 0 268435424 32, none, .standbySelfRunning, "DMA_CHAIN_VA"⟩,
  ⟨0x5040, 0x5047, 0x05, 0x05, .u32, .rw, 0, .nat 0 268435424 32, none, .standbySelfRunning, "DMA_CQ_VA"⟩,
  ⟨0x5040, 0x5047, 0x06, 0x06, .u16, .rw, 16, .nat 1 4096 1, none, .standbySelfRunning, "DMA_CQ_ENTRIES"⟩,
  ⟨0x5040, 0x5047, 0x07, 0x07, .u32, .ro, 0, .any, none, .never, "DMA_DONE"⟩,
  ⟨0x5040, 0x5047, 0x08, 0x08, .u32, .ro, 0, .any, none, .never, "DMA_CUR_DESC"⟩,
  ⟨0x5040, 0x5047, 0x09, 0x09, .u32, .ro, 0, .any, none, .never, "DMA_CUR_DONE"⟩,
  ⟨0x5050, 0x5050, 0x01, 0x04, .u16, .ro, 0, .any, none, .never, "TAGS_IN_USE"⟩,
  ⟨0x5050, 0x5050, 0x05, 0x08, .u16, .ro, 0, .any, none, .never, "TAGS_PEAK"⟩,
  ⟨0x5100, 0x510F, 0x00, 0x00, .domain, .rw, 0, .any, none, .standbyRunning, "AS_MAP"⟩,
  ⟨0x5800, 0x5800, 0x01, 0x01, .u8, .rwc, 0, .nat 0 1 1, some 15, .standbyRunning, "STR_ENABLE"⟩,
  ⟨0x5800, 0x5800, 0x02, 0x02, .u8, .ro, 0, .any, none, .never, "STR_STATE"⟩,
  ⟨0x5800, 0x5800, 0x03, 0x03, .u8, .ro, 0, .any, none, .never, "STR_FAULT"⟩,
  ⟨0x5800, 0x5800, 0x04, 0x04, .u8, .ro, 0, .any, none, .never, "LINK_VER"⟩,
  ⟨0x5800, 0x5800, 0x05, 0x05, .u8, .ro, 0, .any, none, .never, "PKT_VER"⟩,
  ⟨0x5800, 0x5800, 0x06, 0x06, .u8, .ro, 0, .any, none, .never, "STR_NEG"⟩,
  ⟨0x5800, 0x5800, 0x07, 0x07, .u64, .ro, 0, .any, none, .never, "HOST_CAPS"⟩,
  ⟨0x5800, 0x5800, 0x08, 0x08, .u16, .rwc, 100, .nat 1 10000 1, some 15, .standbyRunning, "STR_CAP_TIMEOUT"⟩,
  ⟨0x5800, 0x5800, 0x09, 0x09, .u8, .rwc, 1, .nat 0 1 1, some 15, .standbyRunning, "IDLE_EN"⟩,
  ⟨0x5800, 0x5800, 0x0A, 0x0A, .u8, .rwc, 40, .nat 1 255 1, some 15, .standbyRunning, "EFOM_MIN"⟩,
  ⟨0x5802, 0x5802, 0x01, 0x08, .u8, .ro, 0, .any, none, .never, "LANE_MAP"⟩,
  ⟨0x5803, 0x5803, 0x01, 0x09, .u8, .rwc, 0, .nat 0 7 1, some 15, .standby, "TX_PRESET"⟩,
  ⟨0x5804, 0x5804, 0x01, 0x09, .u8, .wo, 0, .any, none, .standbyRunning, "TX_BITSLIP"⟩,
  ⟨0x5805, 0x5805, 0x01, 0x01, .u8, .rwc, 1, .nat 0 1 1, some 15, .standby, "TX_TUNE"⟩,
  ⟨0x5806, 0x5806, 0x01, 0x09, .u8, .ro, 0, .any, none, .never, "TX_PRESET_USE"⟩,
  ⟨0x5807, 0x5807, 0x01, 0x09, .u8, .ro, 0, .any, none, .never, "TX_HOST_EFOM"⟩,
  ⟨0x5808, 0x5808, 0x01, 0x09, .u8, .ro, 0, .any, none, .never, "TX_LANE_STATE"⟩,
  ⟨0x5811, 0x5811, 0x01, 0x02, .u8, .ro, 0, .any, none, .never, "RX_ALIGN"⟩,
  ⟨0x5811, 0x5811, 0x03, 0x04, .u8, .ro, 0, .any, none, .never, "RX_EFOM"⟩,
  ⟨0x5811, 0x5811, 0x05, 0x05, .u8, .ro, 0, .any, none, .never, "RX_ACTIVE"⟩,
  ⟨0x5811, 0x5811, 0x06, 0x06, .u8, .wo, 0, .any, none, .standbyRunning, "RX_BITSLIP"⟩,
  ⟨0x5811, 0x5811, 0x07, 0x07, .u8, .rwc, 1, .nat 0 1 1, some 15, .standbyRunning, "RX_COMMA_EN"⟩,
  ⟨0x5811, 0x5811, 0x08, 0x08, .u32, .ro, 0, .any, none, .never, "RX_CODEERR"⟩,
  ⟨0x5811, 0x5811, 0x09, 0x09, .u8, .rwc, 1, .nat 0 1 1, some 15, .standbyRunning, "RX_ADAPT"⟩,
  ⟨0x5820, 0x5820, 0x01, 0x0F, .u8, .rwc, 0, .nat 0 4 1, some 15, .standbyRunning, "STREAM_TYPE"⟩,
  ⟨0x5821, 0x5821, 0x01, 0x0F, .u64, .rwc, 0, .nat 0 281474976710655 1, some 15, .standbyRunning, "STREAM_CHMASK"⟩,
  ⟨0x5822, 0x5822, 0x01, 0x0F, .u8, .rwc, 0, .nat 0 1 1, some 15, .standbyRunning, "CREDIT_MODE"⟩,
  ⟨0x5823, 0x5823, 0x01, 0x0F, .u32, .ro, 0, .any, none, .never, "CREDIT"⟩,
  ⟨0x5824, 0x5824, 0x01, 0x0F, .u32, .wo, 0, .any, none, .standbyRunning, "STREAM_CREDIT_ADD"⟩,
  ⟨0x5825, 0x5825, 0x01, 0x0F, .u32, .ro, 0, .any, none, .never, "STREAM_PKTS"⟩]

/-- Object table, part 6. -/
def objTable6 : List ObjRow := [
  ⟨0x5826, 0x5826, 0x01, 0x0F, .u32, .ro, 0, .any, none, .never, "STREAM_DROPPED"⟩,
  ⟨0x5827, 0x5827, 0x01, 0x0F, .u16, .rwc, 16384, .nat 16 16384 16, some 15, .standbyRunning, "DMA_PKT"⟩,
  ⟨0x5828, 0x5828, 0x01, 0x0F, .u8, .ro, 0, .any, none, .never, "STREAM_STATE"⟩,
  ⟨0x5830, 0x5830, 0x01, 0x01, .u16, .rwc, 384, .nat 0 384 1, some 15, .standbyRunning, "REC_BUDGET"⟩,
  ⟨0x5830, 0x5830, 0x02, 0x02, .u32, .ro, 31050, .any, none, .never, "STR_LOAD"⟩,
  ⟨0x5831, 0x5831, 0x01, 0x01, .u16, .rwc, 500, .nat 1 65535 1, some 15, .standbyRunning, "STATUS_PERIOD"⟩,
  ⟨0x5840, 0x5840, 0x01, 0x01, .u8, .wo, 0, .any, none, .standbyRunning, "LANE_RETIRE"⟩,
  ⟨0x5840, 0x5840, 0x02, 0x02, .u8, .wo, 0, .any, none, .standbyRunning, "LANE_RETURN"⟩,
  ⟨0x5840, 0x5840, 0x03, 0x03, .u8, .rwc, 0, .nat 0 1 1, some 15, .standbyRunning, "AUTOSPARE"⟩,
  ⟨0x5850, 0x5850, 0x01, 0x01, .u16, .ro, 0, .any, none, .never, "MARKER_COUNT"⟩,
  ⟨0x5850, 0x5850, 0x02, 0x02, .u32, .ro, 0, .any, none, .never, "RX_DISCARDS"⟩,
  ⟨0x5850, 0x5850, 0x03, 0x03, .u32, .ro, 0, .any, none, .never, "SB_BUSY"⟩,
  ⟨0x5850, 0x5850, 0x04, 0x04, .u32, .ro, 0, .any, none, .never, "SUSPENDS"⟩,
  ⟨0x5850, 0x5850, 0x05, 0x05, .u32, .ro, 0, .any, none, .never, "MISROUTED"⟩,
  ⟨0x0100, 0x0100, 0x01, 0x01, .vstr, .ro, 0, .any, none, .never, "VENDOR"⟩,
  ⟨0x0100, 0x0100, 0x02, 0x02, .vstr, .ro, 0, .any, none, .never, "PART_CODE"⟩,
  ⟨0x0100, 0x0100, 0x03, 0x03, .vstr, .ro, 0, .any, none, .never, "SILICON_REV"⟩,
  ⟨0x0100, 0x0100, 0x04, 0x04, .u16, .ro, 515, .any, none, .never, "DICT_VERSION"⟩,
  ⟨0x0100, 0x0100, 0x05, 0x05, .u64, .ro, 0, .any, none, .never, "UNIQUE_ID"⟩,
  ⟨0x0100, 0x0100, 0x06, 0x06, .u8, .ro, 6, .any, none, .never, "CAN_PROTO_VERS"⟩,
  ⟨0x0200, 0x0200, 0x01, 0x01, .u8, .ro, 0, .any, none, .never, "PATH_ID"⟩,
  ⟨0x0200, 0x0200, 0x02, 0x02, .u16, .rw, 0, .any, none, .any, "QSPI_DICT_VER"⟩,
  ⟨0x0200, 0x0200, 0x03, 0x06, .u32, .ro, 66051, .any, none, .never, "PATH_VER"⟩,
  ⟨0x0201, 0x0201, 0x01, 0x01, .u8, .rwc, 32, .nat 1 127 1, some 0, .bootStandby, "CAN_NODE"⟩,
  ⟨0x0201, 0x0201, 0x02, 0x02, .u8, .rwc, 0, .nat 0 1 1, some 0, .bootStandby, "CAN_NOM_RATE"⟩,
  ⟨0x0201, 0x0201, 0x03, 0x03, .u8, .rwc, 2, .nat 0 4 1, some 0, .bootStandby, "CAN_DATA_RATE"⟩,
  ⟨0x0201, 0x0201, 0x04, 0x04, .u8, .rwc, 3, .nat 0 3 1, some 0, .bootStandby, "CAN_EN"⟩,
  ⟨0x0201, 0x0201, 0x05, 0x05, .u8, .rwc, 0, .nat 0 1 1, some 0, .any, "CAN_STATUS_EN"⟩,
  ⟨0x0203, 0x0203, 0x01, 0x02, .u8, .ro, 0, .any, none, .never, "CAN_STATE"⟩,
  ⟨0x0203, 0x0203, 0x03, 0x04, .u32, .ro, 0, .any, none, .never, "CAN_BUSOFF"⟩,
  ⟨0x0203, 0x0203, 0x05, 0x06, .u32, .ro, 0, .any, none, .never, "CAN_IGNORED"⟩,
  ⟨0x0210, 0x0210, 0x01, 0x01, .u32, .wo, 0, .any, none, .any, "COMMIT"⟩,
  ⟨0x0210, 0x0210, 0x02, 0x02, .u32, .wo, 0, .any, none, .any, "DISCARD"⟩,
  ⟨0x0211, 0x0211, 0x01, 0x01, .u8, .ro, 0, .any, none, .never, "COMMIT_STATE"⟩,
  ⟨0x0211, 0x0211, 0x02, 0x02, .u8, .ro, 0, .any, none, .never, "COMMIT_RESULT"⟩,
  ⟨0x0211, 0x0211, 0x03, 0x03, .u32, .ro, 0, .any, none, .never, "COMMIT_DETAIL"⟩,
  ⟨0x0211, 0x0211, 0x04, 0x04, .u32, .ro, 0, .any, none, .never, "COMMIT_SEQ"⟩,
  ⟨0x0211, 0x0211, 0x05, 0x05, .u64, .ro, 0, .any, none, .never, "COMMIT_TICK"⟩,
  ⟨0x0212, 0x0212, 0x01, 0x01, .u32, .ro, 0, .any, none, .never, "SHADOW_DIRTY"⟩,
  ⟨0x0220, 0x0220, 0x01, 0x01, .u8, .ro, 0, .any, none, .never, "QSPI_WR_RESULT"⟩,
  ⟨0x0220, 0x0220, 0x02, 0x02, .u32, .ro, 0, .any, none, .never, "QSPI_ERRORS"⟩,
  ⟨0x0221, 0x0221, 0x01, 0x01, .u32, .rw, 0, .any, none, .any, "QDOM_SEL"⟩,
  ⟨0x0221, 0x0221, 0x02, 0x02, .u32, .wo, 0, .nat 0 262144 1, none, .any, "QDOM_WRITE_LEN"⟩,
  ⟨0x0221, 0x0221, 0x03, 0x03, .u8, .ro, 0, .any, none, .never, "QDOM_RESULT"⟩,
  ⟨0x0230, 0x0230, 0x01, 0x01, .u16, .ro, 0, .any, none, .never, "BULK_OUT_LEVEL"⟩]

/-- Object table, part 7. -/
def objTable7 : List ObjRow := [
  ⟨0x0230, 0x0230, 0x02, 0x02, .u16, .ro, 32768, .any, none, .never, "BULK_IN_SPACE"⟩,
  ⟨0x0230, 0x0230, 0x03, 0x03, .u32, .ro, 0, .any, none, .never, "BULK_UNDERRUN"⟩,
  ⟨0x0230, 0x0230, 0x04, 0x04, .u32, .ro, 0, .any, none, .never, "BULK_OVERRUN"⟩,
  ⟨0x0240, 0x0240, 0x00, 0x00, .domain, .wo, 0, .any, none, .any, "AUTH_WRITE"⟩,
  ⟨0x0241, 0x0241, 0x01, 0x01, .u32, .ro, 0, .any, none, .never, "AUTH_EPOCH"⟩,
  ⟨0x0241, 0x0241, 0x02, 0x02, .u32, .ro, 0, .any, none, .never, "AUTH_COUNTER"⟩,
  ⟨0x0241, 0x0241, 0x03, 0x03, .u32, .ro, 0, .any, none, .never, "AUTH_FAILS"⟩,
  ⟨0x0241, 0x0241, 0x04, 0x04, .u16, .ro, 0, .any, none, .never, "AUTH_RESULT"⟩,
  ⟨0x0250, 0x0250, 0x01, 0x01, .u64, .wo, 0, .any, none, .any, "PENNANT_CLEAR"⟩,
  ⟨0x0250, 0x0250, 0x02, 0x02, .u64, .ro, 0, .any, none, .never, "IRQ_CAUSE"⟩,
  ⟨0x0250, 0x0250, 0x03, 0x03, .u64, .wo, 0, .any, none, .any, "IRQ_ACK"⟩,
  ⟨0x6000, 0x6000, 0x01, 0x01, .u8, .ro, 1, .any, none, .never, "REF_STATE"⟩,
  ⟨0x6000, 0x6000, 0x02, 0x02, .u32, .ro, 0, .any, none, .never, "REF_LOSSES"⟩,
  ⟨0x6010, 0x6010, 0x01, 0x01, .u8, .rwc, 112, .nat 104 120 1, some 16, .standby, "PLLA_N"⟩,
  ⟨0x6010, 0x6010, 0x02, 0x02, .u8, .rwc, 4, .nat 1 8 1, some 16, .standby, "PLLA_CP"⟩,
  ⟨0x6011, 0x6011, 0x01, 0x01, .u8, .ro, 0, .any, none, .never, "PLLA_STATE"⟩,
  ⟨0x6011, 0x6011, 0x02, 0x02, .i16, .ro, 0, .any, none, .never, "PLLA_DIFF"⟩,
  ⟨0x6011, 0x6011, 0x03, 0x03, .u32, .ro, 0, .any, none, .never, "PLLA_LOSSES"⟩,
  ⟨0x6011, 0x6011, 0x04, 0x04, .u64, .ro, 0, .any, none, .never, "PLLA_LOSS_LAST"⟩,
  ⟨0x6020, 0x6020, 0x01, 0x01, .u8, .ro, 125, .any, none, .never, "PLLB_N"⟩,
  ⟨0x6020, 0x6020, 0x02, 0x02, .u8, .rwc, 4, .nat 1 8 1, some 17, .standby, "PLLB_CP"⟩,
  ⟨0x6021, 0x6021, 0x01, 0x01, .u8, .ro, 0, .any, none, .never, "PLLB_STATE"⟩,
  ⟨0x6021, 0x6021, 0x02, 0x02, .i16, .ro, 0, .any, none, .never, "PLLB_DIFF"⟩,
  ⟨0x6021, 0x6021, 0x03, 0x03, .u32, .ro, 0, .any, none, .never, "PLLB_LOSSES"⟩,
  ⟨0x6021, 0x6021, 0x04, 0x04, .u64, .ro, 0, .any, none, .never, "PLLB_LOSS_LAST"⟩,
  ⟨0x6030, 0x6030, 0x01, 0x01, .u8, .rwc, 0, .nat 0 1 1, some 16, .standbyRunning, "CLK_EN"⟩,
  ⟨0x6031, 0x6031, 0x01, 0x01, .u8, .rwc, 0, .nat 0 1 1, some 17, .standbyRunning, "CLK_EN"⟩,
  ⟨0x6030, 0x6030, 0x02, 0x02, .u8, .rwc, 0, .any, some 16, .standbyRunning, "CLK_SRC"⟩,
  ⟨0x6031, 0x6031, 0x02, 0x02, .u8, .rwc, 0, .any, some 17, .standbyRunning, "CLK_SRC"⟩,
  ⟨0x6030, 0x6030, 0x03, 0x03, .u8, .rwc, 0, .nat 0 3 1, some 16, .standby, "CLK_FMT"⟩,
  ⟨0x6031, 0x6031, 0x03, 0x03, .u8, .rwc, 0, .nat 0 3 1, some 17, .standby, "CLK_FMT"⟩,
  ⟨0x6030, 0x6030, 0x04, 0x04, .u16, .rwc, 1, .nat 1 1024 1, some 16, .standbyRunning, "CLK_DIV"⟩,
  ⟨0x6031, 0x6031, 0x04, 0x04, .u16, .rwc, 1, .nat 1 1024 1, some 17, .standbyRunning, "CLK_DIV"⟩,
  ⟨0x6800, 0x6800, 0x01, 0x40, .u32, .rwc, 0, .any, some 18, .standbySelfRunning, "HK_SEQ"⟩,
  ⟨0x6801, 0x6801, 0x01, 0x01, .u8, .rwc, 64, .nat 1 64 1, some 18, .standbySelfRunning, "HK_SEQ_LEN"⟩,
  ⟨0x6801, 0x6801, 0x02, 0x02, .u16, .rwc, 2000, .nat 1 65535 1, some 18, .standbySelfRunning, "HK_TIMER"⟩,
  ⟨0x6802, 0x6802, 0x01, 0x01, .u8, .ro, 0, .any, none, .never, "HK_STATE"⟩,
  ⟨0x6802, 0x6802, 0x02, 0x02, .u32, .ro, 0, .any, none, .never, "HK_PASS"⟩,
  ⟨0x6802, 0x6802, 0x03, 0x03, .u32, .ro, 0, .any, none, .never, "HK_PASS_TIME"⟩,
  ⟨0x6802, 0x6802, 0x04, 0x04, .u8, .ro, 0, .any, none, .never, "HK_ENTRY"⟩,
  ⟨0x6802, 0x6802, 0x05, 0x05, .i16, .rw, 0, .any, none, .standbySelf, "HK_TEST_DAC"⟩,
  ⟨0x6810, 0x6810, 0x01, 0x40, .u32, .ro, 4026531840, .any, none, .never, "HK_RESULT"⟩,
  ⟨0x6811, 0x6811, 0x01, 0x40, .u64, .ro, 0, .any, none, .never, "HK_STAMP"⟩,
  ⟨0x6830, 0x6830, 0x01, 0x01, .u16, .wo, 0, .any, none, .standbySelfRunning, "HK_URGENT"⟩,
  ⟨0x6830, 0x6830, 0x02, 0x02, .u32, .ro, 4026531840, .any, none, .never, "URGENT_RESULT"⟩]

/-- Object table, part 8. -/
def objTable8 : List ObjRow := [
  ⟨0x6830, 0x6830, 0x03, 0x03, .u32, .ro, 0, .any, none, .never, "URGENT_REFUSED"⟩,
  ⟨0x6830, 0x6830, 0x04, 0x04, .u32, .ro, 0, .any, none, .never, "URGENT_ABORTS"⟩,
  ⟨0x6840, 0x6840, 0x01, 0x01, .u32, .ro, 0, .any, none, .never, "TRIG_OVERRUN"⟩,
  ⟨0x6840, 0x6840, 0x02, 0x02, .u8, .ro, 0, .any, none, .never, "TRIG_LATCHED"⟩,
  ⟨0x6850, 0x6850, 0x01, 0x05, .u8, .rwc, 0, .nat 0 3 1, some 19, .standbyRunning, "CA_RANGE"⟩,
  ⟨0x6851, 0x6851, 0x01, 0x05, .u8, .rwc, 1, .nat 0 1 1, some 19, .standby, "CA_AUTO"⟩,
  ⟨0x6852, 0x6852, 0x01, 0x05, .u8, .ro, 0, .any, none, .never, "CA_RANGE_NOW"⟩,
  ⟨0x6853, 0x6853, 0x01, 0x05, .u16, .ro, 0, .any, none, .never, "CA_LAST"⟩,
  ⟨0x6854, 0x6854, 0x01, 0x05, .u32, .ro, 0, .any, none, .never, "CA_CLIPS"⟩,
  ⟨0x6854, 0x6854, 0x06, 0x06, .u32, .ro, 0, .any, none, .never, "CA_ANGLE_HOLDS"⟩,
  ⟨0x6855, 0x6855, 0x01, 0x05, .u32, .ro, 0, .any, none, .never, "CA_RANGE_CHANGES"⟩,
  ⟨0x6860, 0x6860, 0x01, 0x02, .u8, .rwc, 0, .nat 0 1 1, some 19, .standby, "RTD_WIRING"⟩,
  ⟨0x6861, 0x6861, 0x01, 0x02, .u8, .ro, 2, .any, none, .never, "RTD_STATE"⟩,
  ⟨0x6862, 0x6862, 0x01, 0x02, .u8, .ro, 0, .any, none, .never, "RTD_BREAK_LEADS"⟩,
  ⟨0x6863, 0x6863, 0x01, 0x04, .u16, .ro, 0, .any, none, .never, "RTD_LEAD_R"⟩,
  ⟨0x6864, 0x6864, 0x01, 0x02, .u32, .ro, 0, .any, none, .never, "RTD_BREAKS"⟩,
  ⟨0x6870, 0x6870, 0x01, 0x0F, .u8, .rwc, 0, .nat 0 3 1, some 19, .standbyRunning, "SENS_TSEL"⟩,
  ⟨0x6871, 0x6871, 0x01, 0x0F, .f32, .ro, 0, .any, none, .never, "SENS_OUT"⟩,
  ⟨0x6872, 0x6872, 0x01, 0x0F, .u8, .ro, 0, .any, none, .never, "SENS_FLAGS"⟩,
  ⟨0x6880, 0x688E, 0x01, 0x0C, .f32, .rwc, 0, .any, some 19, .standbyRunning, "SENS_COEF"⟩,
  ⟨0x7000, 0x7000, 0x01, 0x01, .u8, .rwc, 63, .nat 0 63 1, some 20, .standbyRunning, "CAL_ENABLE"⟩,
  ⟨0x7000, 0x7000, 0x02, 0x02, .u8, .rwc, 4, .nat 1 16 1, some 20, .standbyRunning, "CAL_RATE"⟩,
  ⟨0x7000, 0x7000, 0x03, 0x03, .u16, .rwc, 10, .nat 1 10000 1, some 20, .standbyRunning, "FA_TARGET"⟩,
  ⟨0x7000, 0x7000, 0x04, 0x04, .u8, .rwc, 32, .nat 1 64 1, some 20, .standbyRunning, "WIN_SPAN"⟩,
  ⟨0x7000, 0x7000, 0x05, 0x05, .u8, .rwc, 0, .nat 0 15 1, some 20, .standby, "CAL_AS"⟩,
  ⟨0x7000, 0x7000, 0x06, 0x06, .u32, .rwc, 0, .nat 0 268369920 65536, some 20, .standby, "CAL_BASE"⟩,
  ⟨0x7001, 0x7001, 0x01, 0x30, .u16, .rwc, 0, .nat 0 65535 1, some 20, .standbyRunning, "WIN_RANGE"⟩,
  ⟨0x7002, 0x7002, 0x01, 0x01, .u8, .ro, 63, .any, none, .never, "CAL_UNSETTLED"⟩,
  ⟨0x7002, 0x7002, 0x02, 0x02, .u32, .ro, 0, .any, none, .never, "CAL_STEPS"⟩,
  ⟨0x7002, 0x7002, 0x03, 0x03, .u32, .ro, 0, .any, none, .never, "CAL_DISCARDS"⟩,
  ⟨0x7002, 0x7002, 0x04, 0x04, .u32, .ro, 0, .any, none, .never, "CAL_FAULTS"⟩,
  ⟨0x7002, 0x7002, 0x05, 0x05, .u8, .ro, 0, .any, none, .never, "CAL_RESTORE"⟩,
  ⟨0x7020, 0x7020, 0x01, 0x30, .i16, .ro, 0, .any, none, .never, "CAL_CH"⟩,
  ⟨0x7021, 0x7021, 0x01, 0x10, .u8, .ro, 0, .any, none, .never, "CAL_E"⟩,
  ⟨0x7022, 0x7022, 0x01, 0x30, .i16, .ro, 0, .any, none, .never, "K0_TRIM"⟩,
  ⟨0x7023, 0x7023, 0x01, 0x31, .i16, .ro, 0, .any, none, .never, "COMP_DELAY"⟩,
  ⟨0x7024, 0x7024, 0x01, 0x30, .i8, .ro, 0, .any, none, .never, "LEVEL_OFS"⟩,
  ⟨0x7025, 0x7025, 0x01, 0x30, .u16, .ro, 65535, .any, none, .never, "WIN_MEAS"⟩,
  ⟨0x7100, 0x7100, 0x00, 0x00, .domain, .rw, 0, .any, none, .standbyRunning, "CAL_IMAGE"⟩,
  ⟨0x7101, 0x7101, 0x01, 0x01, .u8, .wo, 0, .any, none, .standbyRunning, "CAL_SNAP"⟩,
  ⟨0x7101, 0x7101, 0x02, 0x02, .u32, .ro, 0, .any, none, .never, "CAL_SNAP_SEQ"⟩,
  ⟨0x7800, 0x7800, 0x01, 0x01, .u8, .ro, 0, .any, none, .never, "ENS_STATE"⟩,
  ⟨0x7800, 0x7800, 0x02, 0x02, .u8, .ro, 0, .any, none, .never, "SEAL_STATE"⟩,
  ⟨0x7800, 0x7800, 0x03, 0x03, .u32, .ro, 0, .any, none, .never, "SEAL_CRC"⟩,
  ⟨0x7800, 0x7800, 0x04, 0x04, .u32, .rwa, 0, .any, none, .standby, "SEAL_PROGRAM"⟩]

/-- Object table, part 9. -/
def objTable9 : List ObjRow := [
  ⟨0x7800, 0x7800, 0x05, 0x05, .u8, .ro, 0, .any, none, .never, "SEAL_RESULT"⟩,
  ⟨0x7810, 0x7810, 0x01, 0x01, .u16, .rws, 256, .nat 1 65535 1, none, .standby, "V_MIN"⟩,
  ⟨0x7810, 0x7810, 0x02, 0x02, .u32, .rws, 256, .nat 1 65536 1, none, .standby, "PERIOD_MIN"⟩,
  ⟨0x7810, 0x7810, 0x03, 0x03, .u32, .rws, 65536, .nat 1 65536 1, none, .standby, "PERIOD_MAX"⟩,
  ⟨0x7810, 0x7810, 0x04, 0x04, .u16, .rws, 1280, .nat 0 65535 1, none, .standby, "AMP_MIN"⟩,
  ⟨0x7810, 0x7810, 0x05, 0x05, .u16, .rws, 65535, .nat 1 65535 1, none, .standby, "AMP_MAX"⟩,
  ⟨0x7810, 0x7810, 0x06, 0x06, .u16, .rws, 64, .nat 1 4096 1, none, .standby, "JUMP_MAX"⟩,
  ⟨0x7810, 0x7810, 0x07, 0x07, .u8, .rws, 1, .nat 0 3 1, none, .standby, "DIR_ALLOW"⟩,
  ⟨0x7810, 0x7810, 0x08, 0x08, .u16, .rws, 64, .nat 0 4096 1, none, .standby, "POS_MARGIN"⟩,
  ⟨0x7810, 0x7810, 0x09, 0x09, .u16, .rws, 256, .nat 0 8192 1, none, .standby, "DEG_MARGIN"⟩,
  ⟨0x7810, 0x7810, 0x0A, 0x0A, .u16, .rws, 32, .nat 1 1024 1, none, .standby, "AGREE_TOL"⟩,
  ⟨0x7810, 0x7810, 0x0B, 0x0B, .u16, .rws, 30, .nat 1 600 1, none, .standby, "T_DEG"⟩,
  ⟨0x7811, 0x7811, 0x01, 0x08, .i16, .rws, 0, .any, none, .standby, "EXCL_LO"⟩,
  ⟨0x7812, 0x7812, 0x01, 0x08, .i16, .rws, 0, .any, none, .standby, "EXCL_HI"⟩,
  ⟨0x7813, 0x7813, 0x01, 0x08, .u16, .rws, 0, .any, none, .standby, "EXCL_EMASK"⟩,
  ⟨0x7814, 0x7814, 0x01, 0x08, .u8, .rws, 255, .any, none, .standby, "EXCL_PRESET"⟩,
  ⟨0x7815, 0x7815, 0x01, 0x10, .u16, .rws, 0, .any, none, .standby, "SHOT_CEIL"⟩,
  ⟨0x7816, 0x7816, 0x01, 0x10, .u32, .rws, 0, .any, none, .standby, "BUDGET_100MS"⟩,
  ⟨0x7817, 0x7817, 0x01, 0x10, .u32, .rws, 0, .any, none, .standby, "BUDGET_10S"⟩,
  ⟨0x7818, 0x7818, 0x01, 0x10, .u16, .rws, 0, .nat 0 2867 1, none, .standby, "WIDTH_MAX"⟩,
  ⟨0x7819, 0x7819, 0x01, 0x01, .u16, .rws, 2000, .nat 2000 6000 1, none, .standby, "VLAS_MAX"⟩,
  ⟨0x7819, 0x7819, 0x02, 0x02, .u16, .rws, 320, .nat 256 1024 1, none, .standby, "EMEAS_MAX"⟩,
  ⟨0x7819, 0x7819, 0x03, 0x03, .u16, .rws, 50, .nat 1 65535 1, none, .standby, "EDARK_MAX"⟩,
  ⟨0x781A, 0x781A, 0x01, 0x0C, .f32, .rws, 0, .any, none, .standby, "ANGLE_COEF"⟩,
  ⟨0x781B, 0x781E, 0x01, 0x0C, .f32, .rws, 0, .any, none, .standby, "PEM_COEF"⟩,
  ⟨0x7820, 0x7820, 0x01, 0x02, .i16, .rws, 0, .any, none, .standby, "SOL_SEALED"⟩,
  ⟨0x7830, 0x7830, 0x01, 0x01, .u32, .ro, 0, .any, none, .never, "SH_CAUSE"⟩,
  ⟨0x7830, 0x7830, 0x02, 0x02, .u32, .ro, 0, .any, none, .never, "SH_LATCHED"⟩,
  ⟨0x7830, 0x7830, 0x03, 0x03, .u64, .ro, 0, .any, none, .never, "SH_LAST"⟩,
  ⟨0x7830, 0x7830, 0x04, 0x04, .u32, .ro, 0, .any, none, .never, "SH_COUNT"⟩,
  ⟨0x7831, 0x7831, 0x01, 0x09, .u32, .ro, 0, .any, none, .never, "VETO_COUNT"⟩,
  ⟨0x7832, 0x7832, 0x01, 0x10, .u32, .ro, 0, .any, none, .never, "E_USED_100MS"⟩,
  ⟨0x7833, 0x7833, 0x01, 0x10, .u32, .ro, 0, .any, none, .never, "E_USED_10S"⟩,
  ⟨0x7834, 0x7834, 0x01, 0x01, .i16, .ro, 0, .any, none, .never, "SPEED_NOW"⟩,
  ⟨0x7834, 0x7834, 0x02, 0x02, .u8, .ro, 0, .any, none, .never, "DIR_NOW"⟩,
  ⟨0x7834, 0x7834, 0x03, 0x03, .u32, .ro, 0, .any, none, .never, "PERIOD_LAST"⟩,
  ⟨0x7834, 0x7834, 0x04, 0x04, .u16, .ro, 0, .any, none, .never, "AMP_LAST"⟩,
  ⟨0x7834, 0x7834, 0x05, 0x05, .u8, .ro, 0, .any, none, .never, "SWEEP_OK"⟩,
  ⟨0x7835, 0x7835, 0x01, 0x01, .u8, .ro, 0, .any, none, .never, "SRC_STATE"⟩,
  ⟨0x7836, 0x7836, 0x01, 0x01, .u32, .ro, 0, .any, none, .never, "DEG_USED"⟩,
  ⟨0x7836, 0x7836, 0x02, 0x02, .u32, .ro, 0, .any, none, .never, "DEG_ENTRIES"⟩,
  ⟨0x7836, 0x7836, 0x03, 0x03, .u32, .ro, 0, .any, none, .never, "DEG_CLEAN"⟩,
  ⟨0x7836, 0x7836, 0x04, 0x04, .u8, .ro, 0, .any, none, .never, "DEG_FROM"⟩,
  ⟨0x7837, 0x7837, 0x01, 0x01, .u8, .rwa, 0, .any, none, .degraded, "DEG_ACK"⟩,
  ⟨0x7838, 0x7838, 0x01, 0x01, .u8, .ro, 0, .any, none, .never, "TP_NEXT"⟩]

/-- Object table, part 10. -/
def objTable10 : List ObjRow := [
  ⟨0x7838, 0x7838, 0x02, 0x02, .u32, .ro, 0, .any, none, .never, "TP_PASS"⟩,
  ⟨0x7838, 0x7838, 0x03, 0x03, .u32, .ro, 0, .any, none, .never, "TP_FAIL"⟩,
  ⟨0x7838, 0x7838, 0x04, 0x04, .u32, .ro, 0, .any, none, .never, "TP_VOID"⟩,
  ⟨0x7838, 0x7838, 0x05, 0x05, .u32, .ro, 0, .any, none, .never, "TESTPULSE_COLLIDE"⟩,
  ⟨0x7838, 0x7838, 0x06, 0x06, .u32, .ro, 0, .any, none, .never, "TP_FORCED"⟩,
  ⟨0x7838, 0x7838, 0x07, 0x07, .u64, .ro, 0, .any, none, .never, "TP_LAST"⟩,
  ⟨0x7839, 0x7839, 0x01, 0x01, .u16, .ro, 0, .any, none, .never, "STRAP_READ"⟩,
  ⟨0x7839, 0x7839, 0x02, 0x02, .u16, .ro, 0, .any, none, .never, "STRAP_BOOT"⟩,
  ⟨0x7839, 0x7839, 0x03, 0x03, .u8, .ro, 0, .any, none, .never, "CEIL_CODE"⟩,
  ⟨0x7839, 0x7839, 0x04, 0x04, .u8, .ro, 0, .any, none, .never, "PRESET_NOW"⟩,
  ⟨0x783A, 0x783A, 0x01, 0x01, .u8, .ro, 1, .any, none, .never, "INHIBIT_STATE"⟩,
  ⟨0x783A, 0x783A, 0x02, 0x02, .u32, .ro, 0, .any, none, .never, "INHIBIT_COUNT"⟩,
  ⟨0x783B, 0x783B, 0x01, 0x01, .u8, .ro, 0, .any, none, .never, "PERMIT_STATE"⟩,
  ⟨0x8000, 0x8000, 0x01, 0x01, .u32, .wo, 0, .any, none, .selfRunning, "BIST_CMD"⟩,
  ⟨0x8000, 0x8000, 0x02, 0x02, .u8, .wo, 0, .any, none, .selfRunning, "BIST_ABORT"⟩,
  ⟨0x8001, 0x8001, 0x01, 0x01, .u8, .ro, 0, .any, none, .never, "BIST_STATE"⟩,
  ⟨0x8001, 0x8001, 0x02, 0x02, .u8, .ro, 0, .any, none, .never, "BIST_RESULT"⟩,
  ⟨0x8001, 0x8001, 0x03, 0x03, .u8, .ro, 0, .any, none, .never, "BIST_REASON"⟩,
  ⟨0x8001, 0x8001, 0x04, 0x04, .u32, .ro, 0, .any, none, .never, "BIST_LAST_CMD"⟩,
  ⟨0x8001, 0x8001, 0x05, 0x05, .u32, .ro, 0, .any, none, .never, "BIST_COUNT"⟩,
  ⟨0x8001, 0x8001, 0x06, 0x06, .u32, .ro, 0, .any, none, .never, "BIST_COUNT_EXP"⟩,
  ⟨0x8001, 0x8001, 0x07, 0x07, .u64, .ro, 0, .any, none, .never, "BIST_SIG"⟩,
  ⟨0x8001, 0x8001, 0x08, 0x08, .u64, .ro, 0, .any, none, .never, "BIST_SIG_EXP"⟩,
  ⟨0x8001, 0x8001, 0x09, 0x09, .u32, .ro, 0, .any, none, .never, "BIST_TIME"⟩,
  ⟨0x8001, 0x8001, 0x0A, 0x0A, .u32, .ro, 0, .any, none, .never, "BIST_SEQ"⟩,
  ⟨0x8002, 0x8002, 0x01, 0x01, .u16, .rwc, 1526, .nat 1 65535 1, some 21, .standbySelfRunning, "PRBS_LEN"⟩,
  ⟨0x8002, 0x8002, 0x02, 0x02, .u8, .rwc, 3, .nat 0 3 1, some 21, .standbySelfRunning, "AUTO_RETIRE"⟩,
  ⟨0x8010, 0x8010, 0x01, 0x01, .u32, .wo, 0, .any, none, .standbySelfRunning, "UNIT_RETIRE"⟩,
  ⟨0x8010, 0x8010, 0x02, 0x02, .u32, .wo, 0, .any, none, .standbySelfRunning, "UNIT_RETURN"⟩,
  ⟨0x8010, 0x8010, 0x03, 0x03, .u8, .ro, 0, .any, none, .never, "SPARE_OP_STATE"⟩,
  ⟨0x8010, 0x8010, 0x04, 0x04, .u8, .ro, 0, .any, none, .never, "SPARE_OP_RESULT"⟩,
  ⟨0x8011, 0x8011, 0x01, 0x30, .u8, .ro, 1, .any, none, .never, "SLICE_FREE"⟩,
  ⟨0x8012, 0x8012, 0x01, 0x05, .u8, .ro, 0, .any, none, .never, "POOL_FREE"⟩,
  ⟨0x8012, 0x8012, 0x06, 0x06, .u8, .ro, 16, .any, none, .never, "FUSE_ROWS_FREE"⟩,
  ⟨0x8013, 0x8013, 0x01, 0x01, .u32, .ro, 0, .any, none, .never, "TAKEOVERS"⟩,
  ⟨0x8013, 0x8013, 0x02, 0x02, .u32, .ro, 0, .any, none, .never, "RETURNS"⟩,
  ⟨0x8013, 0x8013, 0x03, 0x03, .u32, .ro, 0, .any, none, .never, "RETURN_MISMATCH"⟩,
  ⟨0x8020, 0x8020, 0x00, 0x00, .domain, .ro, 0, .any, none, .never, "RETIRED_LIST"⟩,
  ⟨0x8021, 0x8021, 0x01, 0x01, .u32, .rwa, 0, .any, none, .standby, "RETIRE_BURN"⟩,
  ⟨0x8021, 0x8021, 0x02, 0x02, .u8, .ro, 0, .any, none, .never, "BURN_RESULT"⟩,
  ⟨0x8022, 0x8022, 0x00, 0x00, .domain, .ro, 0, .any, none, .never, "RETIRE_FUSES"⟩,
  ⟨0x8030, 0x8030, 0x01, 0x01, .u8, .ro, 3, .any, none, .never, "KEY_STATE"⟩,
  ⟨0x8030, 0x8030, 0x02, 0x02, .u32, .ro, 0, .any, none, .never, "ZEROISE_COUNT"⟩,
  ⟨0x8031, 0x8031, 0x01, 0x01, .u8, .ro, 0, .any, none, .never, "BOOT_BIST"⟩,
  ⟨0x8031, 0x8031, 0x02, 0x02, .u16, .ro, 0, .any, none, .never, "BOOT_BIST_FAILS"⟩]

/-- Object table, part 11. -/
def objTable11 : List ObjRow := [
  ⟨0x8800, 0x8800, 0x01, 0x01, .u16, .ro, 0, .any, none, .never, "VIN_MEAS"⟩,
  ⟨0x8800, 0x8800, 0x02, 0x02, .u16, .ro, 65535, .any, none, .never, "VIN_MIN"⟩,
  ⟨0x8800, 0x8800, 0x03, 0x03, .u16, .ro, 0, .any, none, .never, "VIN_MAX"⟩,
  ⟨0x8800, 0x8800, 0x04, 0x04, .u8, .wo, 0, .any, none, .any, "VIN_MINMAX_CLR"⟩,
  ⟨0x8801, 0x8801, 0x01, 0x01, .u8, .ro, 0, .any, none, .never, "SHED_LEVEL"⟩,
  ⟨0x8801, 0x8801, 0x02, 0x02, .u8, .ro, 0, .any, none, .never, "VIN_OV"⟩,
  ⟨0x8801, 0x8801, 0x03, 0x03, .u64, .ro, 0, .any, none, .never, "SHED_LAST"⟩,
  ⟨0x8802, 0x8802, 0x01, 0x04, .u32, .ro, 0, .any, none, .never, "SHED_ENTRIES"⟩,
  ⟨0x8802, 0x8802, 0x05, 0x05, .u32, .ro, 0, .any, none, .never, "OV_ENTRIES"⟩,
  ⟨0x8810, 0x8810, 0x01, 0x03, .u8, .ro, 2, .any, none, .never, "RAIL_STATE"⟩,
  ⟨0x8811, 0x8811, 0x01, 0x03, .u32, .ro, 0, .any, none, .never, "RAIL_FAULTS"⟩,
  ⟨0x8812, 0x8812, 0x01, 0x03, .u8, .ro, 0, .any, none, .never, "RAIL_FAULT_CAUSE"⟩,
  ⟨0x8820, 0x8820, 0x01, 0x0C, .i16, .ro, 32768, .any, none, .never, "TS_READ"⟩,
  ⟨0x8821, 0x8821, 0x01, 0x0C, .u8, .ro, 0, .any, none, .never, "TS_STATE"⟩,
  ⟨0x8822, 0x8822, 0x01, 0x06, .i16, .ro, 32768, .any, none, .never, "ZONE_TEMP"⟩,
  ⟨0x8823, 0x8823, 0x01, 0x06, .i16, .ro, 32768, .any, none, .never, "ZONE_JUDGED"⟩,
  ⟨0x8825, 0x8825, 0x01, 0x06, .i16, .ro, 32768, .any, none, .never, "ZONE_WARN_T"⟩,
  ⟨0x8824, 0x8824, 0x01, 0x06, .i16, .ro, 32768, .any, none, .never, "ZONE_PEAK"⟩,
  ⟨0x8830, 0x8830, 0x01, 0x01, .u8, .ro, 0, .any, none, .never, "THROT_STEP"⟩,
  ⟨0x8830, 0x8830, 0x02, 0x02, .u16, .rwc, 10, .nat 1 6000 1, some 22, .standbyRunning, "THROT_RELAX"⟩,
  ⟨0x8830, 0x8830, 0x03, 0x03, .u32, .ro, 0, .any, none, .never, "THROT_ENTRIES"⟩,
  ⟨0x8830, 0x8830, 0x04, 0x04, .u32, .ro, 0, .any, none, .never, "THROT_TIME"⟩,
  ⟨0x8831, 0x8831, 0x01, 0x01, .u32, .ro, 0, .any, none, .never, "TS_BREAKS"⟩,
  ⟨0x9000, 0x9000, 0x01, 0x01, .u8, .rw, 4, .nat 3 8 1, none, .standbySelfRunning, "MODE_REQ"⟩,
  ⟨0x9000, 0x9000, 0x02, 0x02, .u8, .ro, 2, .any, none, .never, "MODE_ACT"⟩,
  ⟨0x9000, 0x9000, 0x03, 0x03, .u8, .ro, 0, .any, none, .never, "MODE_RESULT"⟩,
  ⟨0x9000, 0x9000, 0x04, 0x04, .u32, .ro, 0, .any, none, .never, "MODE_CHANGES"⟩,
  ⟨0x9000, 0x9000, 0x05, 0x05, .u64, .ro, 0, .any, none, .never, "MODE_LAST"⟩,
  ⟨0x9010, 0x9010, 0x01, 0x01, .u64, .ro, 0, .any, none, .never, "PENNANT"⟩,
  ⟨0x9010, 0x9010, 0x02, 0x02, .u64, .rw, 0, .nat 0 4294967295 1, none, .any, "IRQ_EN"⟩,
  ⟨0x9020, 0x9020, 0x01, 0x01, .u64, .ro, 0, .any, none, .never, "SLOT_COUNTER"⟩,
  ⟨0x9030, 0x9030, 0x00, 0x00, .domain, .ro, 0, .any, none, .never, "RET_LOG"⟩,
  ⟨0x9031, 0x9031, 0x01, 0x01, .u8, .wo, 0, .any, none, .any, "RET_LOG_CLEAR"⟩,
  ⟨0x9031, 0x9031, 0x02, 0x02, .u32, .ro, 0, .any, none, .never, "VAO_TIME"⟩,
  ⟨0x9031, 0x9031, 0x03, 0x03, .u32, .ro, 0, .any, none, .never, "RESET_COUNT"⟩,
  ⟨0x9040, 0x9040, 0x01, 0x01, .u32, .ro, 0, .any, none, .never, "BOOT_STATUS"⟩,
  ⟨0x9040, 0x9040, 0x02, 0x02, .u32, .ro, 0, .any, none, .never, "BOOT_TIME"⟩,
  ⟨0x9040, 0x9040, 0x03, 0x03, .u32, .ro, 0, .any, none, .never, "SCRIPT_VERSION"⟩,
  ⟨0x9040, 0x9040, 0x04, 0x04, .u32, .ro, 0, .any, none, .never, "SCRIPT_RECORDS"⟩,
  ⟨0x9040, 0x9040, 0x05, 0x05, .u32, .ro, 0, .any, none, .never, "SCRIPT_FAIL"⟩,
  ⟨0x9040, 0x9040, 0x06, 0x06, .domain, .ro, 0, .any, none, .never, "KEY_HASH"⟩]

/-- Every object of the dictionary. -/
def objTable : List ObjRow :=
  objTable0 ++ objTable1 ++ objTable2 ++ objTable3 ++ objTable4 ++ objTable5 ++ objTable6 ++ objTable7 ++ objTable8 ++ objTable9 ++ objTable10 ++ objTable11

/-- The parts of the table with the index ranges they hold. -/
def objParts : List (Nat × Nat × List ObjRow) :=
  [(0x1000, 0x1050, objTable0), (0x2001, 0x2021, objTable0), (0x2021, 0x2030, objTable1), (0x2800, 0x28A6, objTable1),
    (0x3000, 0x3002, objTable1), (0x3010, 0x3040, objTable2), (0x4000, 0x4035, objTable2), (0x4036, 0x412F, objTable3),
    (0x4800, 0x4850, objTable3), (0x4850, 0x4862, objTable4), (0x3800, 0x3823, objTable4), (0x5000, 0x5030, objTable4),
    (0x5030, 0x510F, objTable5), (0x5800, 0x5825, objTable5), (0x5826, 0x5850, objTable6), (0x0100, 0x0230, objTable6),
    (0x0230, 0x0250, objTable7), (0x6000, 0x6031, objTable7), (0x6800, 0x6830, objTable7), (0x6830, 0x688E, objTable8),
    (0x7000, 0x7101, objTable8), (0x7800, 0x7800, objTable8), (0x7800, 0x7838, objTable9), (0x7838, 0x783B, objTable10),
    (0x8000, 0x8031, objTable10), (0x8800, 0x8831, objTable11), (0x9000, 0x9040, objTable11)]

/-- The first row of a part that holds `idx.sub`. -/
def objRowIn (idx sub : Nat) : List ObjRow → Option ObjRow
  | [] => none
  | r :: l => if r.idxLo ≤ idx && idx ≤ r.idxHi && r.subLo ≤ sub && sub ≤ r.subHi then some r else objRowIn idx sub l

/-- The row of `idx.sub` among parts, of which only those whose range holds the index are searched. -/
def objRowOf (idx sub : Nat) : List (Nat × Nat × List ObjRow) → Option ObjRow
  | [] => none
  | p :: l => if p.1 ≤ idx && idx ≤ p.2.1 then (objRowIn idx sub p.2.2).orElse (fun _ => objRowOf idx sub l) else objRowOf idx sub l

/-- The row that holds key `k`, if the object exists (R280). -/
def objRow? (k : Nat) : Option ObjRow := objRowOf (k / 256) (k % 256) objParts

/-- Width of a type in bits; a DOMAIN or VSTR has none. -/
def ObjType.width : ObjType → Nat
  | .u8 | .i8 => 8
  | .u16 | .i16 => 16
  | .u32 | .f32 => 32
  | .u64 => 64
  | .vstr | .domain => 0

/-- The defaults that differ from one subindex to the next: CA_RANGE (R350), BANK_STATE and BANK_MAP (R246),
LANE_MAP (R279), POOL_FREE (R424) and the sensor coefficients of R347. -/
def objDefaultSpecial (idx sub : Nat) : Option Nat :=
  if idx = 0x6850 then some (if sub = 1 then 1 else 2)
  else if idx = 0x5001 then some (if sub ≥ 0x31 then 1 else 0)
  else if idx = 0x5002 then some (sub - 1)
  else if idx = 0x5802 then some (sub - 1)
  else if idx = 0x8012 ∧ sub ≤ 5 then some (if sub = 2 ∨ sub = 3 then 2 else 1)
  else if idx = 0x6880 ∨ idx = 0x6881 then
    -- 255.866, 9.674 and 0.731 as F32 patterns at c10, c20, c30
    some (if sub = 2 then 0x437FDDB2 else if sub = 3 then 0x411AC8B4 else if sub = 4 then 0x3F3B22D1 else 0)
  else if 0x6887 ≤ idx ∧ idx ≤ 0x688E then some (if sub = 2 then 0x3F800000 else 0)
  else none

/-- Value of object `k` after BOOT as its table states it. -/
def objDefault (k : Nat) : Nat :=
  match objDefaultSpecial (k / 256) (k % 256) with
  | some v => v
  | none => match objRow? k with
    | some r => r.dflt
    | none => 0

end Sys2Proof.Machine
end

