-- ==== Sys2Proof/Machine/SpectrumTypes.lean ====
section
/-! DEFINITION. Types of the state of chapter 6: the spectrum channels, their averages and mask conditions, and the density maps. -/

namespace Sys2Proof.Machine

/-- One channel of the spectrum engine (R146 to R167, R176 to R179). Sample positions are relative to the start of the present slot. -/
structure SpecChan where
  on : Bool := false                   -- a pipeline serves the channel and its grid runs
  waitWord : Bool := false             -- decimated source: the grid starts at the next VALID word (R163, R167)
  next : Int := 0                      -- first sample of the next spectrum to complete
  words : List (Int × Int) := []       -- decimated source: words from that sample on, each with its instant (R150)
  lastStart : Int := 0                 -- first and last sample of the latest spectrum in the average
  lastEnd : Int := 0
  index : Nat := 0                     -- undiscarded spectra since the grid start (R168)
  count : Nat := 0                     -- spectra in the average in progress
  first : Nat := 0                     -- time stamp of its first spectrum
  acc : List Rat := []                 -- per bin: sum, sum of dB values, maximum or minimum
  clipped : Bool := false
  gap : Bool := false
  spare : Bool := false
  dropNext : Bool := false             -- the next entry carries DROPPED (R160)
  seq : Nat := 0                       -- SEQ of the next entry
  waiting : Nat := 0                   -- complete entries that wait for the Field Store
  violations : List (Int × Nat) := []  -- violating spectra: sample at which MASKV rises, time stamp
  expire : Int := 0                    -- sample at which MASKV falls (R178)
  deriving DecidableEq, Repr

/-- Work on a buffer of a map: the rest of its initialisation and the updates it still takes (R172, R175), with what DENS_TAKEN and DENS_T0 say of it once
it is the frozen one. -/
structure DensJob where
  buf : Nat := 0
  init : Option Nat := none
  halve : Bool := false
  adds : List (Nat × Nat) := []
  held : List Byte := []               -- the granule it has read and has still to write
  taken : Nat := 0
  first : Nat := 0
  deriving DecidableEq, Repr

/-- One density map (R168 to R175). -/
structure DensMap where
  started : Bool := false              -- it has worked since BOOT (R172)
  period : Nat := 1024                 -- DENS_PERIOD of the period in progress (R175)
  late : List DensJob := []            -- buffers swapped out whose work is not over: not shown as frozen yet, oldest first (R173)
  working : Nat := 0
  taken : Nat := 0                     -- updates of the working buffer
  first : Nat := 0                     -- time stamp of its first update
  stride : Nat := 0                    -- spectra or entries since the last update
  init : Option Nat := some 0          -- next granule of the working buffer to initialise
  halve : Bool := false                -- the initialisation halves the frozen counts
  adds : List (Nat × Nat) := []        -- updates that wait: row and column
  held : List Byte := []               -- the granule of the working buffer that is read and has still to be written
  cut : Bool := false                  -- the burst of the initialisation has been pre-empted (R231, R233)
  deriving DecidableEq, Repr

/-- Mask tables and selections from a sample on (R179). -/
structure MaskVer where
  since : Int := 0
  sel : List Nat := []
  src : List Nat := []
  tables : List (List Byte) := []
  deriving DecidableEq, Repr

/-- The spectrum engine. -/
structure Spectrum where
  running : Bool := false
  analysed : Bool := false             -- the mode is SCAN-ANALYSE or SURVEY, or was entered from one of them (R162)
  lastMode : Mode := .off              -- mode at the tick before
  chans : List SpecChan := List.replicate 48 {}
  dens : List DensMap := List.replicate 48 {}
  masks : List MaskVer := []           -- newest first
  deriving DecidableEq, Repr

end Sys2Proof.Machine
end

