-- ==== Sys2Proof/Machine/TriggerTypes.lean ====
section
/-! DEFINITION. Types of the state of chapters 7 and 8: the trigger program, the capture in progress and the decimators. Instants are in cc or in
samples relative to the start of the present slot. -/

namespace Sys2Proof.Machine

/-- The running trigger program (R192 to R194). -/
structure TrigProg where
  stage : Nat := 0
  entered : Int := 0                   -- cc at which the stage was entered
  hits : Nat := 0
  matched : Bool := false              -- the pattern matched in the cc before
  declare : Option (Int × Nat × Nat) := none   -- a trigger to declare: its cc, reference position and stamp
  deriving DecidableEq, Repr

/-- A change of a condition on its way to the trigger engine (Table 7.1): the cc in which it arrives, its position and source, whether a state becomes true or
false, or a pulse comes, and the stamp of a rise. -/
structure Arrival where
  cc : Int := 0
  pos : Nat := 0
  src : Nat := 0
  on : Bool := true
  stamp : Nat := 0
  stamped : Bool := true               -- its stamp is taken: not that of an event in a slot of lock loss (R186)
  deriving DecidableEq, Repr

/-- The trigger engine (R185 to R194). It has judged every cc up to `clock`, in which the pulses in `live` were true. -/
structure Trig where
  comp : List Bool := List.replicate 48 false   -- states of the comparators (R187)
  inputs : List (Option Int) := List.replicate 48 none   -- inputs of the comparators as last seen, in ADC codes
  level : List Bool := List.replicate 48 false   -- LEVEL at the trigger engine, 40 cc later
  maskv : Nat := 0                     -- MASKV at the trigger engine, as bits
  arrivals : List Arrival := []        -- in the order of their ccs
  lastCross : List (Option Int) := List.replicate 48 none    -- ft of each channel's last crossing
  stamps : List (Nat × Nat) := []      -- newest stamp by position times 4 plus source
  prog : TrigProg := {}
  clock : Int := -1
  live : List (Nat × Nat) := []        -- position and source of the pulses true in cc `clock`
  seen : List (Nat × Nat) := []        -- position and source of the states true in cc `clock`
  timerNext : Int := 0
  softDue : Bool := false              -- TRIG_SOFT was written since the last tick
  out : Bool := false                  -- level of TRIG_OUT
  outEnd : Int := 0                    -- cc in which a pulse on it ends (R206)
  slotOut : Bool := false              -- level of SLOT_OUT
  slotEnd : Int := 0                   -- cc in which its pulse ends (R207)
  slotRises : List (Int × Int) := []   -- pulses that rise after that: their rise and their end
  deriving DecidableEq, Repr

/-- Why a capture ended (Table 7.3): the mark's bit. -/
inductive CapEnd | complete | overflow | fault | maskstop | stopped | resync | lockloss
  deriving DecidableEq, Repr

/-- Bit of an end mark. -/
def CapEnd.bit : CapEnd → Nat
  | .complete => 0
  | .overflow => 1
  | .fault => 2
  | .maskstop => 3
  | .stopped => 4
  | .resync => 5
  | .lockloss => 6

/-- The capture in progress (R196 to R205). Samples, or words in format 2, are counted per channel from the arm tick. -/
structure Capture where
  armTicks : Nat := 0
  stopTicks : Nat := 0
  rearm : Bool := false                -- re-arms at the next tick (R201)
  seq : Nat := 0                       -- SEQ of the capture in progress or next
  origin : Int := 0                    -- sample 0 of the arm slot
  staged : Nat := 0                    -- samples of every selected channel handed to the staging buffer
  words : List Nat := List.replicate 48 0    -- format 2: VALID words of each channel handed to the staging buffer
  formed : List (Nat × Int × Int) := []      -- format 2: words formed and not yet staged: channel, instant from the arm tick, value
  decs : List Nat := List.replicate 48 1     -- format 2: D of each channel's words
  word0 : List (Option Int) := List.replicate 48 none   -- format 2: instant of each channel's word 0, from the arm tick
  trig : Option (Nat × Nat × Int) := none    -- reference position, stamp and T counted from the arm tick
  start : Nat := 0                     -- first kept sample, or in format 2 the sample of the declaration, counted from the arm tick
  preShort : Bool := false
  ignored : Nat := 0
  ignoredFirst : Nat := 0
  ended : Option CapEnd := none
  last : Int := -1                     -- last kept sample once ended
  deriving DecidableEq, Repr

/-- One decimator (R210 to R218). `cads` are the cadences that serve in the present slot, newest first; `done` counts the newest one's instants
that have been delivered. -/
structure Decim where
  cads : List Cadence := []
  done : Nat := 0
  deriving DecidableEq, Repr

/-- All decimators. -/
structure Decims where
  running : Bool := false              -- PLL A has locked and no lock loss is in progress (R218)
  chans : List Decim := List.replicate 48 {}
  syncReset : Option Nat := none       -- reset sample of an accepted SYNC_IN edge, counted from the present slot (R214)
  syncTicks : Nat := 0                 -- ticks to the reset that DEC_SYNC requests (R215)
  lastEdge : Option Int := none        -- cc of the last edge seen on SYNC_IN, none when the level counts as old
  lastTaken : Option Int := none       -- cc of the last accepted edge
  deriving DecidableEq, Repr

end Sys2Proof.Machine
end

