-- ==== Sys2Proof/Machine/SpareTypes.lean ====
section
/-! DEFINITION. Types of the state of chapter 16: the self-test in progress, the units that are out of service, and the take-over or return in
progress. -/

namespace Sys2Proof.Machine

/-- What the BIST save RAM of 512 KiB holds of a unit: its registers, tables and memories, as far as State has them (R409). -/
inductive Region
  | empty
  | slice (c : SliceCal)
  | front (c : RxChan)
  | engine (c : List EchoChan)
  | pipeline (c : List SpecChan)
  | can (c : CanCtl)
  | comet (c : Comet) (p : PlanStore)
  | trigger (t : Trig) (c : Capture)
  | density (m : List DensMap)
  | decimators (d : Decims)
  | calibration (c : Calib)
  deriving DecidableEq, Repr

/-- The self-test in progress; its state is BIST_STATE (R407 to R412). -/
structure Bist where
  kind : Nat := 0
  unit : Nat := 0
  handed : Bool := false               -- the unit's duty went to its spare for the test
  wasOut : Bool := false               -- the unit was retired before the test
  outcome : Nat := 0                   -- result as BIST_RESULT codes it, once the test has ended
  stateTicks : Nat := 0                -- ticks in the present state of BIST_STATE
  runTicks : Nat := 0                  -- ticks since the test started
  saved : Region := .empty             -- the BIST save RAM (R409)
  deriving DecidableEq, Repr

/-- The step of a take-over or return that SPARE_OP_STATE reports (R418 to R421). -/
inductive SpareStep | idle | takeOver | wait | shadow | moving
  deriving DecidableEq, Repr

/-- Spares and units out of service. -/
structure Spares where
  bist : Bist := {}
  list : List Nat := []                -- codes of the retired units, oldest first (RETIRED_LIST)
  passed : List Nat := []              -- retired units whose latest test ended in PASS
  failWait : List Nat := []            -- failed units whose duty a spare takes at the next tick
  planned : List (Nat × List Nat) := []  -- units whose planned take-over is pending; for a pipeline the sequence numbers of its averages at the request
  opUnit : Nat := 0
  opStep : SpareStep := .idle
  left : Nat := 0                      -- slots of the shadow phase still to run
  back : List (Nat × Bool) := []       -- units that return at the next tick without a shadow frame; whether results in progress are lost
  residues : List Nat := []            -- echo engines, once for each slot of the frame in progress whose residue check failed
  parity : List (Nat × Nat) := []      -- pipelines with the average in which a spectrum had a buffer parity error
  burn : Option Nat := none            -- unit code RETIRE_BURN judges (R423)
  failedNow : Nat := 0                 -- echo engines that failed in the present slot, as bits (R144)
  served : List (Nat × Nat) := []      -- physical banks that left a logical bank, with that bank (R408, R419)
  decReset : Bool := false             -- the reset of R218 that ends a test comes at the next tick (R409)
  deriving DecidableEq, Repr

end Sys2Proof.Machine
end

