-- ==== Sys2Proof/Machine/StoreTypes.lean ====
section
/-! DEFINITION. Types of the state of chapter 9: the Field Store's memory, its tags and the granules that wait, bank retirement and the DMA engines. -/

namespace Sys2Proof.Machine

/-- What a waiting granule belongs to: it says how its master reacts to a fault and to the granule's completion. -/
inductive Purpose
  | dump (ch : Nat) (last : Bool)
  | calRead (cls idx : Nat)
  | calWork (cls idx : Nat)
  | capture (ch first : Nat)     -- samples of the channel, counted from the arm tick, that its ring wholly holds before this granule
  | captureHeader
  | specBody (ch : Nat)
  | specHeader (ch : Nat)
  deriving DecidableEq, Repr

/-- A granule that waits for its grant (R230, R231): a write of `data`, or a read of 64 bytes, within one 64-byte block. `done` counts the bytes of
its burst before it, `resumed` says that its burst was pre-empted (R233). -/
structure Granule where
  master : Nat := 0
  cls : Nat := 0
  space : Nat := 0
  va : Nat := 0
  data : List Byte := []
  write : Bool := true
  done : Nat := 0
  resumed : Bool := false
  purpose : Purpose := .captureHeader
  deriving DecidableEq, Repr

/-- One transaction in flight (R23): its pool, its master, the physical bank it was issued to, and the page whose translation it used. -/
structure Tag where
  cls : Nat := 0
  master : Nat := 0
  pbank : Nat := 0
  space : Nat := 0
  page : Nat := 0
  oldMap : Bool := false               -- issued under the translation a MAP_EDIT replaced (R229)
  bytes : Nat := 0                     -- bytes that a DMA engine counts as moved when the tag returns (R239)
  deriving DecidableEq, Repr

/-- What a DMA engine has in hand (R236 to R242). -/
inductive DmaPhase | none | fetch | data | complete (status : Nat)
  deriving DecidableEq, Repr

/-- One DMA engine. -/
structure Dma where
  phase : DmaPhase := .none
  desc : Nat := 0                      -- VA of the descriptor in progress
  words : List Nat := [0, 0, 0, 0]
  moved : Nat := 0
  asm : List Byte := []                -- bytes read for the Streamer packet in assembly
  stopAfter : Bool := false            -- a write of 4 is waiting for the descriptor to end (R241)
  cut : Bool := false                  -- its burst has been pre-empted (R231, R233)
  deriving DecidableEq, Repr

/-- The bank retirement in progress (R244); a source of 255 is a logical bank that has no physical bank. -/
structure Retire where
  logical : Nat := 0
  source : Nat := 0
  target : Nat := 0
  startDue : Bool := false             -- the copy starts at the next tick
  copying : Bool := false
  ticks : Nat := 0                     -- ticks to the map switch once the copy ended
  draining : Bool := false
  after : Nat := 4                     -- BANK_STATE of the source at the end: 4 retired, 6 failed, 1 spare again (R408, R418)
  suspect : Bool := false              -- the source was SUSPECT when the copy started (R224)
  deriving DecidableEq, Repr

/-- The Field Store (R220 to R245). `mem` holds the bytes by physical address, bank times 4 MiB plus offset, an unlisted byte being 0 as BOOT leaves it
(R221); `bad` the words whose check bits read as uncorrectable, by word address, with their syndrome. -/
structure FieldStore where
  mem : List Host.Cell := []
  bad : List (Nat × Nat) := []
  queue : List Granule := []
  tags : List Tag := []
  turns : List (Nat × Nat) := []       -- per bank times four plus class, the master that its last grant served (R231)
  cleared : Bool := false              -- every word has been set to zero since the core die was released (R221)
  scrubRow : Nat := 0
  passCe : List (Nat × Nat) := []      -- corrections per physical bank in the present scrub pass
  passUe : List (Nat × Nat) := []      -- BANK_UE of each physical bank when the pass began, where not 0
  faultLog : List (List Byte) := []
  faultFirst : Option (List Byte) := none
  dma : List Dma := List.replicate 8 {}
  retire : Retire := {}
  deriving DecidableEq, Repr

end Sys2Proof.Machine
end

