-- ==== Sys2Proof/Machine/SupplyTypes.lean ====
section
/-! DEFINITION. Types of the state of chapters 13 and 17: the HK sequencer, the charge amplifiers, the RTDs, the supply and the temperature
sensors. -/

namespace Sys2Proof.Machine

/-- One RTD (R348): the lead that the next conversion drives and the leads measured so far in ohms. -/
structure Rtd where
  odd : Bool := false
  leadA : Option Rat := none
  leadB : Option Rat := none
  deriving DecidableEq, Repr

/-- One charge amplifier (R342, R343): the range change that waits for the next reset instant, the count of low samples, and for CA-M the first
integration of the angle sample in progress with its CLIPPED flag. -/
structure ChargeAmp where
  change : Option Nat := none
  low : Nat := 0
  first : Rat := 0
  firstClipped : Bool := false
  deriving DecidableEq, Repr

/-- An urgent request (R338). -/
structure Urgent where
  ensign : Bool := false
  input : Nat := 0
  range : Nat := 0
  deriving DecidableEq, Repr

/-- The HK ADC (R331 to R340). Times are cc relative to the present slot. -/
structure Hk where
  on : Bool := false
  started : Bool := false              -- the entry in progress is connected: it settles or converts
  aborted : Bool := false              -- an urgent request aborted it (R340)
  retried : Bool := false
  vals : List Rat := []                -- conversions of the entry in this pass: codes, mantissas, or r_rtd in ohms
  open_ : Nat := 0                     -- open leads found in them
  gain : Nat := 0                      -- gain code AUTO chose
  passAt : Int := 0                    -- start of the pass in progress
  timer : Int := 0                     -- half-microseconds from the first tick after the HK ADC started to the present slot's tick
  fireAt : Int := 2000                 -- the same at which the HK timer fires next
  tickDue : Bool := false              -- triggers of the last tick, not yet at the HK ADC
  markDue : Nat := 0
  markNext : Nat := 0                  -- MARKs of the present slot, which travel at its end
  urgent : List Urgent := []
  served : Nat := 0                    -- host requests completed
  rtds : List Rtd := [{}, {}]
  rtdAge : Nat := 50000                -- slots since the last RTD0 result, at most 50,000 (100 ms)
  amps : List ChargeAmp := List.replicate 5 {}
  deriving DecidableEq, Repr

/-- Step of the rail start (Table 17.2): which rail ramps. -/
inductive RailStep | idle | vio | vana | vcore
  deriving DecidableEq, Repr

/-- Buck converters and phases (Table 17.1, R428). -/
inductive Converter | core1 | core2 | ana | io
  deriving DecidableEq, Repr

/-- What a converter's switching clock is divided from (R428). -/
inductive ConvClock | refclk | osc32
  deriving DecidableEq, Repr

/-- One converter: whether its newest period ended at 50 mV of sense voltage, and how many in a row did, at most 1,000 (R428, R430). -/
structure Conv where
  early : Bool := false
  limited : Nat := 0
  deriving DecidableEq, Repr

/-- Supply state of the always-on domain (R425 to R435). Bit i of `declared` is shed level L(i + 1). Ages are in ticks of two microseconds. -/
structure Supply where
  vaoOn : Bool := true
  released : Bool := true
  declared : Nat := 0
  step : RailStep := .idle
  faultAges : List Nat := []
  lockOut : Bool := false              -- the third fault in 10 s: rails off until RESET_N or VAO start
  lockRail : Option Nat := none        -- its rail, reported until RET_LOG_CLEAR
  resetInLockOut : Bool := false       -- RESET_N was judged low during it
  restartDue : Bool := false           -- the rails start again 100 ms after a fault
  lostByL4 : Bool := false             -- L4 took the core die's state, and no BOOT has started since (R434)
  conv : List Conv := [{}, {}, {}, {}] -- VCORE phases 1 and 2, VANA, VIO
  deriving DecidableEq, Repr

/-- One temperature sensor (R436, R437). -/
structure TempSensor where
  own : Option Int := none             -- newest reading, 1/16 °C
  missed : Nat := 0                    -- readings missed in a row
  broken : Bool := false
  deriving DecidableEq, Repr

/-- One zone (R438, R444). Times are in readings of 1 ms. -/
structure TempZone where
  disagree : Bool := false
  diffRun : Nat := 0                   -- readings in a row that call for a change of `disagree`, at most 1,001
  hot : Nat := 0                       -- readings in a row at 135.0 °C or more
  deriving DecidableEq, Repr

/-- Temperatures, throttle and thermal latch (R436 to R444). -/
structure Thermal where
  sensors : List TempSensor := List.replicate 12 {}
  zones : List TempZone := List.replicate 6 {}
  warn : Bool := false
  hotFor : Nat := 0                    -- readings in a row with a zone at 120.0 °C or more, from that of the last rise on
  coolFor : Nat := 0                   -- readings in a row with every zone below 115.0 °C, from that of the last fall on
  latched : Bool := false
  deriving DecidableEq, Repr

end Sys2Proof.Machine
end

