-- ==== Sys2Proof/Machine/State.lean ====
section
/-! DEFINITION. The state of the block: plain data holding every register, buffer, counter, mode and pin the spec gives it, and
the queue of commands that wait. -/

namespace Sys2Proof.Machine

/-- Why a step would stop with a fault. No rule of the spec stops the block, so no meaning raises one; the
constructor is raised by nobody (safe). -/
inductive Fault
  | stuck
  deriving DecidableEq, Repr

/-- Why a command is refused. `notModelled`: an arm of `exec` that has no meaning yet; no arm is one (safe). -/
inductive Refusal
  | notModelled (mnemonic : String)
  deriving DecidableEq, Repr

/-- The whole state. Registers that the dictionary lists stand in `objs` by key, the others where their chapter's structure has them. -/
structure State where
  mode : Mode := .boot
  objs : List (Nat × Nat) := []
  shadow : List (Nat × Nat) := []
  doms : List (Nat × List Byte) := []
  domShadow : List (Nat × List Byte) := []
  slot : Nat := 0
  counting : Bool := false
  plan : PlanStore := {}
  comet : Comet := {}
  pipe : Pipeline := {}
  res : Reservoir := {}
  mir : Mirror := {}
  rx : List RxChan := List.replicate 48 {}
  apd : Apd := {}
  ens : Ensign := {}
  sweep : Sweep := {}
  ensB : EnsignB := {}
  sealed : Seal := {}
  paths : List PathState := [{}, {}, {}, {}]
  spec : Spectrum := {}
  trg : Trig := {}
  cap : Capture := {}
  dec : Decims := {}
  cal : Calib := {}
  fs : FieldStore := {}
  link : Link := {}
  clk : Clocks := {}
  hk : Hk := {}
  sup : Supply := {}
  therm : Thermal := {}
  spares : Spares := {}
  commit : CommitState := {}
  auth : Auth := {}
  can : List CanCtl := [{}, {}]
  qspi : Qspi := {}
  penn : PennState := {}
  modeSt : ModeState := {}
  boot : BootState := {}
  rst : ResetState := {}
  fuses : Fuses := {}
  retLog : List (List Byte) := []
  shedTick : Nat := 0
  rxTest : Nat := 0                    -- channels under an analogue loopback test, as bits (R98)
  vaoTime : Nat := 0                   -- ticks of two microseconds since VAO start
  free : Nat := 0
  pending : List Instr := []
  deriving DecidableEq, Repr

/-- The machine right after reset. -/
def State.reset : State := {}

end Sys2Proof.Machine
end

