-- ==== Sys2Proof/Machine/Ops.lean ====
section
/-! DEFINITION. Named operations over the state: the register store of the dictionary, DOMAIN contents, time stamps, mode
classes and draws of free values. -/

namespace Sys2Proof.Machine

/-! ### Sorting -/

/-- Inserts into a list ordered by `le`, after its equals. -/
def insertBy {α : Type} (le : α → α → Bool) (a : α) : List α → List α
  | [] => [a]
  | b :: l => if le b a then b :: insertBy le a l else a :: b :: l

/-- A list ordered by `le`; equals keep their order. -/
def sortBy {α : Type} (le : α → α → Bool) (l : List α) : List α := l.foldl (fun r a => insertBy le a r) []

/-! ### Sparse stores: lists of key and value, keys strictly rising -/

/-- The value a store holds at a key. -/
def storeGet {α : Type} : List (Nat × α) → Nat → Option α
  | [], _ => none
  | (k, v) :: l, q => if k = q then some v else storeGet l q

/-- A store with the value of a key replaced or inserted in its place. -/
def storeSet {α : Type} : List (Nat × α) → Nat → α → List (Nat × α)
  | [], q, a => [(q, a)]
  | (k, v) :: l, q, a => if q < k then (q, a) :: (k, v) :: l else if k = q then (q, a) :: l else (k, v) :: storeSet l q a

/-- A store without a key. -/
def storeDel {α : Type} : List (Nat × α) → Nat → List (Nat × α)
  | [], _ => []
  | (k, v) :: l, q => if k = q then storeDel l q else (k, v) :: storeDel l q

/-- Writes a value that an unlisted key reads as `d`: the default is never listed. -/
def storePut (l : List (Nat × Nat)) (k v d : Nat) : List (Nat × Nat) :=
  if v = d then storeDel l k else storeSet l k v

/-- Keys strictly rising from above `lo`. -/
def storeSorted {α : Type} : (lo : Option Nat) → List (Nat × α) → Bool
  | _, [] => true
  | none, (k, _) :: l => storeSorted (some k) l
  | some b, (k, _) :: l => b < k && storeSorted (some k) l

/-- The canonical form of the register store: keys strictly rising, no default listed. -/
def objsWf (l : List (Nat × Nat)) : Bool :=
  storeSorted none l && l.all fun p => p.2 != objDefault p.1

/-- Value in force of the register with key `k` in a store. -/
def regOf (l : List (Nat × Nat)) (k : Nat) : Nat := (storeGet l k).getD (objDefault k)

/-! ### Registers -/

/-- The register with key `k` (R282: the value in force). -/
def State.reg (s : State) (k : Nat) : Nat := regOf s.objs k

/-- Writes a register. -/
def State.put (s : State) (k v : Nat) : State := { s with objs := storePut s.objs k v (objDefault k) }

/-- A register read as a `w`-bit signed value. -/
def State.regI (s : State) (w k : Nat) : Int := toSigned w (s.reg k)

/-- An RWS object as Ensign applies it: a write of the present slot applies from the next tick (R390). -/
def State.inForce (s : State) (k : Nat) : Nat := (storeGet s.sealed.prior k).getD (s.reg k)

/-- A 16-bit signed RWS object as Ensign applies it. -/
def State.inForceI (s : State) (k : Nat) : Int := toSigned 16 (s.inForce k)

/-- Writes a `w`-bit signed register. -/
def State.putI (s : State) (w k : Nat) (z : Int) : State := s.put k (ofSigned w z)

/-- Counts one event in a saturating U32. -/
def State.count (s : State) (k : Nat) : State := s.put k (incSat 32 (s.reg k))

/-- Counts `n` events in a saturating U32. -/
def State.countBy (s : State) (k n : Nat) : State := s.put k (addSat 32 (s.reg k) n)

/-- Counts one event in a wrapping U32. -/
def State.tally (s : State) (k : Nat) : State := s.put k (addWrap 32 (s.reg k) 1)

/-- Counts `n` events in a wrapping U32. -/
def State.tallyBy (s : State) (k n : Nat) : State := s.put k (addWrap 32 (s.reg k) n)

/-- Sets or clears one bit of a register. -/
def State.putBit (s : State) (k n : Nat) (b : Bool) : State := s.put k (withBit (s.reg k) n b)

/-- One bit of a register. -/
def State.regBit (s : State) (k n : Nat) : Bool := bitAt (s.reg k) n

/-- Contents of a DOMAIN as held, empty when nothing was written. -/
def State.dom (s : State) (k : Nat) : List Byte := (storeGet s.doms k).getD []

/-- Replaces a DOMAIN. -/
def State.putDom (s : State) (k : Nat) (b : List Byte) : State :=
  { s with doms := if b = [] then storeDel s.doms k else storeSet s.doms k b }

/-- Folds an action over the channels, zones or emitters numbered below `n`. -/
def State.forRange (s : State) (n : Nat) (f : State → Nat → State) : State := (List.range n).foldl f s

/-- Folds an action over a list. -/
def State.forEach {α : Type} (s : State) (l : List α) (f : State → α → State) : State := l.foldl f s

/-- Applies an action when a condition holds. -/
def State.onlyIf (s : State) (c : Bool) (f : State → State) : State := if c then f s else s

/-! ### Time (R25 to R27) -/

/-- The present slot is no slot of PLL A lock loss (R59, R320, R321). -/
def State.locked (s : State) : Bool := s.clk.slotLocked

/-- PLL A lock is declared (R318). -/
def State.lockedA (s : State) : Bool := s.reg K.PLLA_STATE == 2

/-- PLL B lock is declared (R318). -/
def State.lockedB (s : State) : Bool := s.reg K.PLLB_STATE == 2

/-- The compact time stamp of Table 1.6. -/
def compactStamp (slot sample ft : Nat) : Nat := slot % 2 ^ 44 * 2 ^ 20 + sample % 2 ^ 14 * 2 ^ 6 + ft % 64

/-- The compact stamp of an event of the present slot: sample and ft fraction are 0 without PLL A lock (R26). -/
def State.stamp (s : State) (sample ft : Nat) : Nat :=
  if s.locked then compactStamp s.slot sample ft else compactStamp s.slot 0 0

/-- Stamp of an event at a cc of the present slot (R9: cc m holds samples 4m to 4m + 3). -/
def State.stampCc (s : State) (cc : Nat) : Nat := s.stamp (4 * cc) 0

/-- Stamp of the tick to come. -/
def State.nextStamp (s : State) : Nat := compactStamp (if s.counting then s.slot + 1 else 0) 0 0

/-- R19: ticks until the first tick more than 40 cc after an instant at `cc` of the present slot. -/
def ticksAfter (cc : Nat) : Nat := if cc + 40 < 2800 then 1 else 2

/-- One slot tick off a count of ticks to wait. -/
def tickDown (n : Nat) : Nat := n - 1

/-- Slots of two microseconds in a time of `ms` milliseconds (R10 scales both alike). -/
def slotsOfMs (ms : Nat) : Nat := ms * 500

/-! ### Mode classes (Table 18.1 and the object tables) -/

/-- "Running" of the object tables. -/
def Mode.isRunning : Mode → Bool
  | .calibrate | .scan | .scanAnalyse | .survey | .degraded | .safeHold => true
  | _ => false

/-- The core die runs: the modes in which objects and engines work. -/
def Mode.coreRuns : Mode → Bool
  | .off | .held | .thermalLatch => false
  | _ => true

/-- The four modes that a request may change among at a frame boundary (R448). -/
def Mode.isScanning : Mode → Bool
  | .calibrate | .scan | .scanAnalyse | .survey => true
  | _ => false

/-- A mode of a "Writable in" list. -/
def WriteModes.holds : WriteModes → Mode → Bool
  | .never, _ => false
  | .any, m => m == .boot || m == .selfTest || m == .standby || m.isRunning
  | .standby, m => m == .standby
  | .standbyRunning, m => m == .standby || m.isRunning
  | .running, m => m.isRunning
  | .standbySelfRunning, m => m == .standby || m == .selfTest || m.isRunning
  | .selfRunning, m => m == .selfTest || m.isRunning
  | .standbySelf, m => m == .standby || m == .selfTest
  | .bootStandby, m => m == .boot || m == .standby
  | .degraded, m => m == .degraded

/-- Comet runs a plan in this mode (Table 18.1); in SAFE-HOLD only when a plan is active. -/
def State.cometMode (s : State) : Bool := s.mode.isRunning && s.plan.hasActive

/-- Every fire is withheld in the mode (R57, R398). -/
def State.fireWithheldByMode (s : State) : Bool :=
  s.mode == .survey || s.mode == .safeHold || (s.mode == .degraded && s.ensB.surveyFrom)

/-- The permits may be on (Table 18.1, R384, R398). -/
def State.permitMode (s : State) : Bool :=
  s.mode == .calibrate || s.mode == .scan || s.mode == .scanAnalyse
    || (s.mode == .degraded && !s.ensB.surveyFrom)

/-! ### Paths (R280) -/

/-- What a path holds. -/
def State.pathState (s : State) (p : Path) : PathState := s.paths.getD p.num {}

/-- Replaces what a path holds. -/
def State.setPath (s : State) (p : Path) (x : PathState) : State := { s with paths := setAt {} s.paths p.num x }

/-! ### Free values and waiting commands -/

/-- Draws the next free value's number and advances the counter (log 9). -/
def State.draw (s : State) : Nat × State := (s.free, { s with free := s.free + 1 })

/-- Latched causes of before that SH_CAUSE and SH_LATCHED show during BOOT (R402). -/
def State.heldCauses (s : State) : Nat := if s.mode = .boot then s.boot.oldCauses else 0

/-- Sets a sticky Pennant bit by its event (R309). -/
def State.stick (s : State) (n : Nat) : State := { s with penn := { s.penn with sticky := withBit s.penn.sticky n true } }

/-- Notes the slot and the cc of a sticky bit's event: a clear in that cc leaves the bit set (R309). Events of earlier slots are forgotten. -/
def State.eventAt (s : State) (n slot cc : Nat) : State :=
  { s with penn := { s.penn with events := (n, slot, cc) :: s.penn.events.filter fun e => decide (slot ≤ e.2.1) } }

/-- The same for the present slot. -/
def State.eventCc (s : State) (n cc : Nat) : State := s.eventAt n (s.slot % 2 ^ 44) cc

/-- The same for the tick whose compact time stamp is `t`. -/
def State.eventTick (s : State) (n t : Nat) : State := s.eventAt n (t / 2 ^ 20) 0

end Sys2Proof.Machine
end

