-- ==== Sys2Proof/Machine/Numbers.lean ====
section
/-! DEFINITION. IEEE 754 single precision patterns (type F32 of Table 0.4) and the two-variable polynomials that R112, R346, R373
and R380 evaluate in F32 arithmetic, together with decibel conversion. -/

namespace Sys2Proof.Machine

/-- Two to an integer power, as a rational. -/
def pow2 (e : Int) : Rat := if 0 ≤ e then ((2 ^ e.toNat : Nat) : Rat) else 1 / ((2 ^ (-e).toNat : Nat) : Rat)

/-- Value of an F32 pattern; none for an infinity or a NaN. -/
def f32Value (p : Nat) : Option Rat :=
  let e := bits p 30 23
  let m := bits p 22 0
  let sgn : Rat := if bitAt p 31 then -1 else 1
  if e = 255 then none
  else if e = 0 then some (sgn * (m : Rat) * pow2 (-149))
  else some (sgn * ((m + 2 ^ 23 : Nat) : Rat) * pow2 ((e : Int) - 150))

/-- Floor of the base 2 logarithm of a positive rational. -/
def log2Rat (x : Rat) : Int :=
  let g : Int := (Nat.log2 x.num.natAbs : Int) - (Nat.log2 x.den : Int)
  if pow2 g ≤ x then (if pow2 (g + 1) ≤ x then g + 1 else g) else g - 1

/-- The F32 pattern nearest to a rational, a tie going to the even pattern. -/
def ratToF32 (x : Rat) : Nat :=
  if x = 0 then 0
  else
    let s := if x < 0 then 2 ^ 31 else 0
    let a := if x < 0 then -x else x
    let e := max (log2Rat a) (-126)
    let q := (rhe (a / pow2 (e - 23))).toNat
    -- the pattern of a subnormal or normal number is linear in q, a carry moving to the next exponent
    let p := ((e + 126).toNat) * 2 ^ 23 + q
    s + min p 0x7F800000

/-- An F32 register's value, 0 where the pattern is no finite number. -/
def f32Or0 (p : Nat) : Rat := (f32Value p).getD 0

/-- Terms of the polynomial with coefficient c_ij at position i + 4j, for i = 0 to 3 and j = 0 to 2. -/
def polyTerms (coefs : List Rat) (x t : Rat) : List Rat :=
  (List.range 12).map fun n => coefs.getD n 0 * x ^ (n % 4) * t ^ (n / 4)

/-- Exact value of the polynomial and a bound on the error of any F32 evaluation of it: at most 18 roundings touch a term, each
within 2^-24 of it. -/
def polyBound (coefs : List Rat) (x t : Rat) : Rat × Rat :=
  let ts := polyTerms coefs x t
  (ts.foldl (· + ·) 0, ts.foldl (fun a b => a + (if b < 0 then -b else b)) 0 * 20 / ((2 ^ 24 : Nat) : Rat))

/-- The polynomial's value rounded half to even after multiplication by `scale`, none when it is not a finite number. Where every
order of evaluation in F32 rounds to the same result, that result; else the unstated value of log 9. DESIGN CHOICE (log 9): the spec gives no order of
evaluation, so a sum below 2^128 in magnitude counts as a finite number also where one order's intermediate terms would overflow. -/
def polyRounded (pats : List Nat) (x t : Rat) (scale : Rat) : Option Int :=
  match pats.mapM f32Value with
  | none => none
  | some cs =>
    let r := polyBound cs x t
    let lo := rhe ((r.1 - r.2) * scale)
    let hi := rhe ((r.1 + r.2) * scale)
    let big : Rat := ((2 ^ 128 : Nat) : Rat)
    if big ≤ r.1 ∨ r.1 ≤ -big then none
    else if lo = hi ∨ r.2 = 0 then some (rhe (r.1 * scale))
    else some (max lo (min hi (Config.unstated "poly" (pats.map fun (p : Nat) => (p : Int)))))

/-- Magnitude of a rational. -/
def absRat (x : Rat) : Rat := if x < 0 then -x else x

/-- Powers of an argument stay normal F32 numbers. -/
def f32Tame (x : Rat) : Bool := x == 0 || (decide (pow2 (-24) ≤ absRat x) && decide (absRat x ≤ pow2 24))

/-- The terms that can stand together in an intermediate sum of some order of evaluation: those with at least `a` powers of x and `b` of t, these
powers left out. -/
def polyReduced (coefs : List Rat) (x t : Rat) (a b : Nat) : List Rat :=
  ((List.range 12).filter fun n => a ≤ n % 4 && b ≤ n / 4).map fun n => coefs.getD n 0 * x ^ (n % 4 - a) * t ^ (n / 4 - b)

/-- The sum of the magnitudes of such terms, the greatest over all orders and sums. -/
def polyPeak (coefs : List Rat) (x t : Rat) : Rat :=
  (List.range 12).foldl (fun m n => max m (((polyReduced coefs x t (n % 4) (n / 4)).map absRat).foldl (· + ·) 0)) 0

/-- The greatest power of two that divides a dyadic rational other than 0, as its exponent. -/
def dyadic (v : Rat) : Int :=
  let n := v.num.natAbs
  (Nat.log2 (n - (n &&& (n - 1))) : Int) - (Nat.log2 v.den : Nat)

/-- No order of evaluation rounds anything: every sum of such terms is a multiple of one power of two and fits the 24 bits above it. -/
def polyExact (coefs : List Rat) (x t : Rat) : Bool :=
  let fits := fun (l : List Rat) =>
    let live := l.filter (· != 0)
    let q := live.foldl (fun m v => min m (dyadic v)) 127
    decide (-149 ≤ q) && decide ((live.map absRat).foldl (· + ·) 0 ≤ pow2 (q + 24))
  (List.range 12).all fun n => fits (polyReduced coefs x t (n % 4) (n / 4)) && fits [x ^ (n % 4)] && fits [t ^ (n / 4)]
    && fits [x ^ (n % 4) * t ^ (n / 4)]

/-- The free result of log 9, within `e` of `y`. -/
def polyWithin (y e : Rat) (free : Nat) : Nat :=
  let v := (f32Value (free % 2 ^ 32)).getD y
  ratToF32 (max (y - e) (min (y + e) v))

/-- The polynomial's F32 result as a pattern, where every order of evaluation agrees on it: at most one linear term beside a constant (one product and one
sum), no rounding at all, or a result beyond the largest finite number by more than any order's roundings. Otherwise the order decides: the result is a free
value within the bound that any order keeps, and wholly free only where some order's intermediate results may leave the range of normal numbers (log 9). A
coefficient or an argument that is no finite number makes none. -/
def polyPattern (pats : List Nat) (xp tp : Nat) : Nat :=
  let live := (List.range 12).filter fun n => pats.getD n 0 % 2 ^ 31 != 0
  let free := Config.polyF32 pats xp tp
  match pats.mapM f32Value, f32Value xp, f32Value tp with
  | some cs, some x, some t =>
    let r := polyBound cs x t
    let linear := fun (k : Nat) (v : Rat) => (f32Value (ratToF32 (cs.getD k 0 * v))).elim (ratToF32 (cs.getD k 0 * v)) fun p => ratToF32 (p + cs.getD 0 0)
    if live = [] then 0
    else if live = [0] then pats.getD 0 0
    else if live = [1] ∨ live = [0, 1] then linear 1 x
    else if live = [4] ∨ live = [0, 4] then linear 4 t
    else if !(f32Tame x && f32Tame t) then free % 2 ^ 32
    else if pow2 128 ≤ absRat r.1 - r.2 then ratToF32 r.1
    else if pow2 127 < polyPeak cs x t then free % 2 ^ 32
    else if polyExact cs x t then ratToF32 r.1
    else polyWithin r.1 (r.2 + pow2 (-70)) free
  | _, _, _ => 0x7FC00000

/-- The pattern is an infinity or a NaN. -/
def f32NotFinite (p : Nat) : Bool := bits p 30 23 == 255

/-- The twelve coefficient registers of the object at `idx`, subindexes 0x01 to 0x0C. -/
def State.coefs (s : State) (idx : Nat) : List Nat := (List.range 12).map fun n => s.reg (objKey idx (n + 1))

/-- Ten times the base 10 logarithm of a positive rational in 1/128 dB, rounded half to even: exact, through integer powers (no tie can
occur, a power of ten being rational only at whole multiples). Result r is the nearest integer to 1280 log10 x: r is the greatest integer
with 10^(2r - 1) at most x^2560. -/
def db128 (x : Rat) : Int :=
  let num := x.num.natAbs ^ 2560
  let den := x.den ^ 2560
  -- number of decimal digits bounds the quotient's logarithm
  let lg : Int := if den ≤ num then (Nat.log 10 (num / den) : Int) else -((Nat.log 10 ((den - 1) / num) : Int) + 1)
  -- lg = floor (2560 log10 x); r = floor ((lg + 1) / 2)
  (lg + 1) / 2

/-- A rational as an integer where the spec states no rounding: its value when whole, else one of the two neighbours (log 9). -/
def roundOpen (tag : String) (x : Rat) : Int :=
  if x.den = 1 then x.num else x.num / (x.den : Int) + (if Config.roundUp tag x.num x.den then 1 else 0)

end Sys2Proof.Machine
end

