-- ==== Sys2Proof/Machine/PlanWords.lean ====
section
/-! DEFINITION. Plan words and plan tables (Tables 2.1 to 2.3, 3.2, 3.3, 5.1 and 5.3) and the checks of the load-time checker that need no walk
through the plan (R31 to R34, R42 to R44). -/

namespace Sys2Proof.Machine

/-- Words of a plan DOMAIN, each least significant byte first (R30). -/
def planWords (b : List Byte) : Array Nat :=
  ((List.range (b.length / 8)).foldl (fun (acc : Array Nat × List Byte) _ =>
    (acc.1.push (ofLe (acc.2.take 8)), acc.2.drop 8)) (#[], b)).1

/-- Opcode of a word (R32). -/
def opOf (w : Nat) : Nat := w / 2 ^ 56

/-- The word at an address, 0 beyond the plan. -/
def wordAt (ws : Array Nat) (a : Nat) : Nat := ws.getD a 0

/-- FRAME's fields: TAG, frame length, RES_LEVEL. -/
def frameFields (w : Nat) : Nat × Nat × Nat := (bits w 55 48, bits w 47 32 + 1, bits w 31 24)

/-- FIRE's fields. -/
def fireFields (w : Nat) : FireWord := ⟨bits w 55 40, bits w 39 37, bitAt w 36, bits w 35 30⟩

/-- MARK's fields. -/
def markFields (w : Nat) : MarkEv := ⟨bits w 55 48, bits w 47 34, bitAt w 33, bitAt w 32, bitAt w 31⟩

/-- EMIT's fields. -/
def emitFields (w : Nat) : EmitCfg :=
  ⟨bitAt w 55, bitAt w 54, bits w 53 51 + 1, bitAt w 50, bits w 49 46, bits w 45 42⟩

/-- ACCUM's setting: N and the bin width in smp, none when not enabled. -/
def accumFields (w : Nat) : Option (Nat × Nat) := if bitAt w 0 then some (bits w 55 48, 2 ^ bits w 47 46) else none

/-- SINGLE's setting: N, M and WIN, none when not enabled. -/
def singleFields (w : Nat) : Option (Nat × Nat × Nat) :=
  if bitAt w 0 then some (bits w 55 52, bits w 51 48, bits w 47 40) else none

/-- Kind of slot a slot-producing opcode produces (Table 2.2). -/
def kindOf : Nat → Option SlotKind
  | 0x02 => some .slot
  | 0x07 => some .calgap
  | 0x08 => some .testgap
  | 0x09 => some .idle
  | _ => none

/-- Reserved bits of an operation word as intervals (Table 2.3). -/
def reservedBits : Nat → List (Nat × Nat)
  | 0x01 => [(23, 0)]
  | 0x02 | 0x08 | 0x09 | 0x0B => [(55, 16)]
  | 0x03 => [(29, 0)]
  | 0x04 => [(39, 1)]
  | 0x05 => [(45, 1)]
  | 0x06 => [(41, 0)]
  | 0x07 => [(47, 16)]
  | 0x0A => [(30, 0)]
  | 0x0C => [(55, 0)]
  | 0x0D => [(55, 52), (47, 0)]
  | 0x0E => [(55, 15)]
  | _ => []

/-- R33: the opcode exists and its reserved bits are 0. -/
def opcodeOk (w : Nat) : Bool :=
  1 ≤ opOf w && opOf w ≤ 14 && (reservedBits (opOf w)).all fun r => bits w r.1 r.2 == 0

/-- R34: every field of the word lies in its range. -/
def fieldOk (w : Nat) : Bool :=
  match opOf w with
  | 0x01 => bits w 31 24 ≤ 160
  | 0x04 =>
    if bitAt w 0 then 2 ≤ bits w 55 52 && bits w 55 52 ≤ 8 && 1 ≤ bits w 51 48 && bits w 51 48 ≤ bits w 55 52
    else bits w 55 52 == 0 && bits w 51 48 == 0
  | 0x05 =>
    bits w 47 46 != 3 && (if bitAt w 0 then 1 ≤ bits w 55 48 && bits w 55 48 ≤ 64 else bits w 55 48 == 0)
  | 0x0A => bits w 47 34 ≤ 11199
  | 0x0E => 8 ≤ bits w 14 0
  | _ => true

/-- A refusal of the checker: code of Table 2.7, word, slot and detail (R47). -/
structure PlanFault where
  code : Nat := 0
  word : Nat := 0
  frame : Nat := 0
  slot : Nat := 0
  detail : Nat := 0
  deriving DecidableEq, Repr

/-- The first refusal of a list of checks. -/
def firstFault : List (Bool × PlanFault) → Option PlanFault
  | [] => none
  | (bad, f) :: l => if bad then some f else firstFault l

/-- Header and CRC stage (R30, R31, Table 2.7). -/
def headerFault (plan : List Byte) (tables : List (List Byte)) (ws : Array Nat) : Option PlanFault :=
  if plan.length < 72 then some { code := 1 }
  else
    let w := wordAt ws
    firstFault [
      (bits (w 0) 63 48 != 0x434D || bits (w 0) 47 32 != 0x0102, { code := 2 }),
      (bits (w 0) 15 0 < 9, { code := 1 }),
      (bits (w 0) 15 0 * 8 != plan.length, { code := 2 }),
      (bits (w 0) 31 16 != 0, { code := 2, word := 0 }),
      (bits (w 1) 31 0 != 0, { code := 2, word := 1 }),
      (bits (w 3) 63 32 != 0, { code := 2, word := 3 }),
      (w 4 != 0, { code := 2, word := 4 }),
      (w 5 != 0, { code := 2, word := 5 }),
      (w 6 != 0, { code := 2, word := 6 }),
      (bits (w 7) 63 32 != 0, { code := 2, word := 7 }),
      (crc32 (plan.take 56 ++ plan.drop 64) != bits (w 7) 31 0, { code := 3, word := 7 }),
      (crc32 tables.flatten != bits (w 3) 31 0, { code := 3, word := 3 })]

/-- Addresses of the operation words. -/
def opAddrs (ws : Array Nat) : List Nat := (List.range (ws.size - 8)).map (· + 8)

/-- Encoding stage over every operation word, skipped bodies included (R33, R34, R43). -/
def encodingFault (ws : Array Nat) : Option PlanFault :=
  (opAddrs ws).findSome? fun a =>
    if !opcodeOk (wordAt ws a) then some { code := 4, word := a }
    else if !fieldOk (wordAt ws a) then some { code := 5, word := a }
    else none

/-- Where a word stands: its frame's FRAME word and the LOOP words around it, innermost first. An ENDLOOP stands in the body it ends. -/
structure WordPlace where
  addr : Nat := 0
  frame : Nat := 0
  loops : List Nat := []
  deriving DecidableEq, Repr

/-- Places of the words from `a` on, or the refusal of R43 that their loops break. `fuel` counts words. -/
def places (ws : Array Nat) : Nat → Nat → Nat → List Nat → List WordPlace → List WordPlace × Option PlanFault
  | 0, _, _, stack, acc =>
    (acc.reverse, stack.head?.map fun l => { code := 6, word := l })
  | n + 1, a, frame, stack, acc =>
    let op := opOf (wordAt ws a)
    if op = 0x01 then
      match stack with
      | l :: _ => (acc.reverse, some { code := 6, word := l })
      | [] => places ws n (a + 1) a [] (⟨a, a, []⟩ :: acc)
    else if op = 0x0B then
      if 4 ≤ stack.length then (acc.reverse, some { code := 6, word := a })
      else places ws n (a + 1) frame (a :: stack) (⟨a, frame, stack⟩ :: acc)
    else if op = 0x0C then
      match stack with
      | [] => (acc.reverse, some { code := 6, word := a })
      | _ :: r => places ws n (a + 1) frame r (⟨a, frame, stack⟩ :: acc)
    else places ws n (a + 1) frame stack (⟨a, frame, stack⟩ :: acc)

/-- The ENDLOOP that matches the LOOP at `a` in a plan whose loops match: the first one at which the depth returns to 0. -/
def matchEnd (ws : Array Nat) : Nat → Nat → Nat → Nat
  | 0, a, _ => a
  | n + 1, a, depth =>
    let op := opOf (wordAt ws a)
    if op = 0x0C then (if depth ≤ 1 then a else matchEnd ws n (a + 1) (depth - 1))
    else matchEnd ws n (a + 1) (if op = 0x0B then depth + 1 else depth)

/-- R44: a JUMP's target is legal. -/
def jumpOk (ws : Array Nat) (ps : List WordPlace) (p : WordPlace) : Bool :=
  let t := bits (wordAt ws p.addr) 14 0
  if ws.size ≤ t then false
  else if opOf (wordAt ws t) = 0x01 then true
  else match ps.find? (fun q => q.addr == t) with
    | some q => p.addr < t && q.frame == p.frame && q.loops == p.loops
    | none => false

/-- The part of the flow stage that needs no walk (R32, R42 to R44). -/
def flowFault (ws : Array Nat) : Option PlanFault :=
  if opOf (wordAt ws 8) ≠ 0x01 then some { code := 7, word := 8 }
  else
    let pf := places ws (ws.size - 8) 8 0 [] []
    match pf.2 with
    | some f => some f
    | none =>
      let frames := pf.1.filter fun p => opOf (wordAt ws p.addr) == 0x01
      if 8 < frames.length then some { code := 7, word := (frames.getD 8 {}).addr }
      else match frames.find? (fun p => bits (wordAt ws p.addr) 47 32 < 255) with
        | some p => some { code := 7, word := p.addr }
        | none =>
          (pf.1.find? fun p => opOf (wordAt ws p.addr) == 0x0E && !jumpOk ws pf.1 p).map fun p =>
            { code := 6, word := p.addr }

/-! ### Tables -/

/-- Entry `i` of `n` bytes of a table. -/
def tableEntry (t : List Byte) (n i : Nat) : Nat := fieldAt t (n * i) n

/-- CHMASK of an emitter (Table 5.1). -/
def chMask (b : PlanBank) (e : Nat) : Nat := bits (tableEntry (b.tables.getD 0 []) 8 e) 47 0

/-- The emitter that lights a channel (R122). -/
def emitterOf (b : PlanBank) (ch : Nat) : Option Nat := (List.range 16).find? fun e => bitAt (chMask b e) ch

/-- Taps of an emitter's template (R129). -/
def templateOf (b : PlanBank) (e : Nat) : List Int :=
  (List.range 32).map fun t => toSigned 16 (tableEntry (b.tables.getD 1 []) 2 (32 * e + t))

/-- K0 and K1A of an ambient code (Table 5.3). -/
def thresholdOf (b : PlanBank) (a : Nat) : Nat × Nat :=
  let v := tableEntry (b.tables.getD 2 []) 8 a
  (bits v 63 48, bits v 47 32)

/-- ANGLE and FF_DRIVE of a frame slot (Table 3.3). -/
def trajOf (b : PlanBank) (slot : Nat) : Int × Int :=
  let v := tableEntry (b.tables.getD 3 []) 8 slot
  (toSigned 16 (bits v 63 48), toSigned 16 (bits v 47 32))

/-- WIDTH and NOM_E40 of an emitter's energy entry (Table 3.2). -/
def energyOf (b : PlanBank) (e idx : Nat) : Nat × Nat :=
  let v := tableEntry (b.tables.getD 4 []) 4 (8 * e + idx)
  (bits v 31 20, bits v 15 0)

/-- Sizes in bytes of the map, the templates, the thresholds, the trajectory's longest and the energy table (Table 2.5). -/
def tableSizes : List Nat := [128, 1024, 2048, 524288, 512]

/-- Every entry of a table, as numbers of `n` bytes. -/
def tableEntries (n : Nat) : Nat → List Byte → List Nat
  | 0, _ => []
  | k + 1, b => ofLe (b.take n) :: tableEntries n k (b.drop n)

/-- Reserved fields and forms of the loaded tables, whatever emitter they serve (R46, R68, R83, R122, R130), in table order. -/
def tableFormOk (b : PlanBank) : Bool :=
  let t := fun i => b.tables.getD i []
  (tableEntries 8 ((t 0).length / 8) (t 0)).all (fun v => bits v 63 48 == 0)
  && (tableEntries 8 ((t 2).length / 8) (t 2)).all (fun v => bits v 31 0 == 0)
  && (tableEntries 8 ((t 3).length / 8) (t 3)).all (fun v =>
      bits v 31 0 == 0 && (toSigned 16 (bits v 47 32)).natAbs ≤ 25600)
  && (tableEntries 4 ((t 4).length / 4) (t 4)).all (fun v => bits v 19 16 == 0)
  -- no channel in the entries of two emitters (R122)
  && (List.range 48).all (fun c => ((List.range 16).filter fun e => bitAt (chMask b e) c).length ≤ 1)

/-- R68: eight widths of an emitter rise strictly within 359 to 2,867 ft. -/
def energyRowOk (b : PlanBank) (e : Nat) : Bool :=
  let w := fun i => (energyOf b e i).1
  (List.range 8).all (fun i => 359 ≤ w i && w i ≤ 2867) && (List.range 7).all fun i => w i < w (i + 1)

/-- R46, R68, R122, R129: the content rules for an emitter that the plan fires. -/
def emitterOk (b : PlanBank) (e : Nat) : Bool :=
  chMask b e != 0 && (templateOf b e).any (· != 0) && energyRowOk b e

end Sys2Proof.Machine
end

