-- ==== Sys2Proof/Machine/Checker.lean ====
section
/-! DEFINITION. The load-time checker (R47 to R52, R403): the walk through one pass of the frame cycle slot by slot, then groups, resources,
slot budget and the rules Ensign can verify. -/

namespace Sys2Proof.Machine

/-- One slot of the walk with what it is charged and judged by. -/
structure WalkSlot where
  kind : SlotKind := .none
  word : Nat := 0
  frameOrd : Nat := 0
  frameSlot : Nat := 0
  frameLen : Nat := 0
  res : Nat := 0
  newFrame : Bool := false
  fire : FireWord := {}
  accum : Option (Nat × Nat) := none
  single : Option (Nat × Nat × Nat) := none
  emit : EmitCfg := {}
  changed : Bool := false      -- ACCUM or SINGLE ran since the slot before
  words : Nat := 0
  deriving DecidableEq, Repr

/-- The walk's position. -/
structure Walk where
  pc : Nat := 8
  loops : List (Nat × Nat × Nat) := []   -- innermost first: LOOP word, passes left, slots walked when the pass began
  started : Bool := false
  frameOrd : Nat := 0
  frameLen : Nat := 0
  fslot : Nat := 0
  res : Nat := 0
  newFrame : Bool := false
  seen : List Nat := []
  fire : Option FireWord := none
  marks : Nat := 0
  accum : Option (Nat × Nat) := none
  single : Option (Nat × Nat × Nat) := none
  emit : EmitCfg := {}
  changed : Bool := false
  words : Nat := 0
  kind : SlotKind := .none
  left : Nat := 0
  prodWord : Nat := 0
  prodFire : FireWord := {}
  closing : Bool := false          -- the cycle has closed; one more slot is looked at
  closeAt : Nat := 0               -- index of the first slot of the frame the cycle returns to
  starts : List (Nat × Nat) := []  -- FRAME address, index of its first slot
  count : Nat := 0
  slots : List WalkSlot := []      -- newest first
  order : Option PlanFault := none
  budgetWords : Option (Nat × PlanFault) := none   -- index of the slot that the 33rd word precedes
  fault : Option PlanFault := none
  done : Bool := false
  deriving DecidableEq, Repr

/-- A refusal at the walk's position. -/
def Walk.at (w : Walk) (code word detail : Nat) : PlanFault :=
  { code := code, word := word, frame := w.frameOrd, slot := w.fslot, detail := detail }

/-- Notes the first ORDER refusal; the stages before it go on (R47). -/
def Walk.misorder (w : Walk) (word : Nat) : Walk :=
  { w with order := w.order.or (some (w.at 8 word 0)) }

/-- The slot the walk's slot-producing word produces next. -/
def Walk.slotHere (w : Walk) : WalkSlot :=
  { kind := w.kind, word := w.prodWord, frameOrd := w.frameOrd, frameSlot := w.fslot, frameLen := w.frameLen, res := w.res,
    newFrame := w.newFrame, fire := w.prodFire, accum := w.accum, single := w.single, emit := w.emit, changed := w.changed,
    words := w.words }

/-- Produces one slot. -/
def Walk.produce (w : Walk) : Walk :=
  if w.frameLen ≤ w.fslot then { w with fault := some (w.at 7 w.prodWord 0), done := true }
  else
    { w with left := w.left - 1, slots := w.slotHere :: w.slots, count := w.count + 1, fslot := w.fslot + 1,
             newFrame := false, changed := false, words := 0, done := w.closing }

/-- Starts a frame (R38, R42), or closes the cycle when its FRAME word was reached before. -/
def Walk.startFrame (w : Walk) (a word : Nat) : Walk :=
  let ff := frameFields word
  let w := if w.fire.isSome ∨ w.marks ≠ 0 then { w.misorder a with fire := none, marks := 0 } else w
  let known := w.seen.findIdx? (· == a)
  let w := { w with started := true, frameLen := ff.2.1, res := ff.2.2, fslot := 0, newFrame := true, loops := [],
                    accum := none, single := none, emit := {}, changed := true, pc := a + 1 }
  match known with
  | some i => { w with frameOrd := i, closing := true,
                       closeAt := ((w.starts.find? fun p => p.1 == a).map (·.2)).getD 0 }
  | none => { w with frameOrd := w.seen.length, seen := w.seen ++ [a], starts := w.starts ++ [(a, w.count)] }

/-- Executes the word at the walk's address. A word beyond the 32 allowed is noted, and the walk goes on, since the stages before the slot budget come
first (R47). From then on a loop without slots is walked six times more at most: each pass leaves what the one before it left, but for MARK words, of which a
fifth is an ORDER refusal. -/
def Walk.word (ws : Array Nat) (w : Walk) : Walk :=
  let a := w.pc
  let word := wordAt ws a
  let op := opOf word
  let full := w.started && w.frameLen ≤ w.fslot
  if ws.size ≤ a then { w with fault := some (w.at 6 a 0), done := true }
  else if full ∧ op ≠ 0x01 ∧ op ≠ 0x0E then { w with fault := some (w.at 7 a 0), done := true }
  else
    let w := { w with words := w.words + 1 }
    let w := if 32 < w.words then { w with budgetWords := w.budgetWords.or (some (w.count, w.at 10 a (Config.checkUnit 6 % 256 * 256))) } else w
    match op with
    | 0x01 =>
      if w.started && !full then { w with fault := some (w.at 7 a 0), done := true } else w.startFrame a word
    | 0x0E => { w with pc := bits word 14 0 }
    | 0x03 =>
      let w := if w.fire.isSome then w.misorder a else w
      { w with fire := some (fireFields word), pc := a + 1 }
    | 0x0A =>
      let w := if 4 ≤ w.marks then w.misorder a else { w with marks := w.marks + 1 }
      { w with pc := a + 1 }
    | 0x04 => { w with single := singleFields word, changed := true, pc := a + 1 }
    | 0x05 => { w with accum := accumFields word, changed := true, pc := a + 1 }
    | 0x06 => { w with emit := emitFields word, pc := a + 1 }
    | 0x0D => { w with pc := a + 1 }
    | 0x0B =>
      if bits word 15 0 = 0 then { w with pc := matchEnd ws ws.size (a + 1) 1 + 1 }
      else { w with loops := (a, bits word 15 0, w.count) :: w.loops, pc := a + 1 }
    | 0x0C =>
      match w.loops with
      | (l, n, c) :: r =>
        if 1 < n then { w with loops := (l, if w.budgetWords.isSome ∧ c = w.count then min (n - 1) 6 else n - 1, w.count) :: r, pc := l + 1 }
        else { w with loops := r, pc := a + 1 }
      | [] => { w with fault := some (w.at 6 a 0), done := true }
    | _ =>
      match kindOf op with
      | some k =>
        let w := if k ≠ .slot ∧ w.fire.isSome then { w.misorder a with fire := none } else w
        let n := bits word 15 0
        if n = 0 then { w with pc := a + 1 }
        else { w with kind := k, left := n, prodWord := a, prodFire := (if k = .slot then w.fire.getD {} else {}),
                      fire := none, marks := 0, pc := a + 1 }
      | none => { w with fault := some (w.at 4 a 0), done := true }

/-- The walk, one word or one slot at a time. -/
def walkPlan (ws : Array Nat) : Nat → Walk → Walk
  | 0, w => w
  | n + 1, w =>
    if w.done then w
    else if 0 < w.left then walkPlan ws n w.produce
    else walkPlan ws n (w.word ws)

/-- Steps that a whole pass can take: 8 frames of 65,536 slots, each after at most 32,768 words of a pass, seven passes of every loop to a depth of 4. -/
def walkFuel : Nat := 7 ^ 4 * 32768 * (8 * 65536 + 2)

/-! ### Groups (R40) -/

/-- Position in the group in progress and the group's EMASK and EIDX. -/
structure GroupWalk where
  cnt : Nat := 0
  emask : Nat := 0
  eidx : Nat := 0
  fault : Option PlanFault := none
  deriving DecidableEq, Repr

/-- Refusal at a walked slot. -/
def WalkSlot.at (s : WalkSlot) (code detail : Nat) : PlanFault :=
  { code := code, word := s.word, frame := s.frameOrd, slot := s.frameSlot, detail := detail }

/-- One slot of the group check; the second result says that the slot ends a group. An ACCUM or SINGLE word inside a group counts as a change even where it
restates the values in force, and a SLOT slot without a FIRE counts as EMASK 0 and EIDX 0 (log 48). -/
def groupStep (g : GroupWalk) (s : WalkSlot) : GroupWalk × Bool :=
  let bad := fun (g : GroupWalk) => { g with fault := g.fault.or (some (s.at 9 0)) }
  let g := if (s.newFrame ∨ s.changed) ∧ g.cnt ≠ 0 then { bad g with cnt := 0 } else g
  match s.accum with
  | none => (g, false)
  | some (n, _) =>
    if s.kind ≠ .slot then (if g.cnt ≠ 0 then { bad g with cnt := 0 } else g, false)
    else
      let g := if g.cnt = 0 then { g with emask := s.fire.emask, eidx := s.fire.eidx }
        else if g.emask ≠ s.fire.emask ∨ g.eidx ≠ s.fire.eidx then bad g else g
      if g.cnt + 1 = n then ({ g with cnt := 0 }, true) else ({ g with cnt := g.cnt + 1 }, false)

/-- Group check over the slots in order, with the slots that end a group marked. -/
def groupWalk : List WalkSlot → GroupWalk → List Bool → GroupWalk × List Bool
  | [], g, acc => (g, acc.reverse)
  | s :: l, g, acc => let r := groupStep g s; groupWalk l r.1 (r.2 :: acc)

/-! ### Resources, budget and Ensign -/

/-- Emitters of a slot's fire. -/
def WalkSlot.emitters (s : WalkSlot) : List Nat := if s.kind = .slot then bitsSet s.fire.emask 16 else []

/-- Limits in force that the checker applies (R378, R403). -/
structure CheckLimits where
  c : Nat := 0
  vMin : Nat := 0
  dirAllow : Nat := 0
  margin : Nat := 0
  windows : List (Int × Int × Nat) := []   -- low, high, emitter mask of the windows in force
  ceil : List Nat := []
  b100 : List Nat := []
  b10 : List Nat := []
  streamPoints : List Bool := []           -- stream n is of type POINTS (R266)
  dumpBank : Nat → Nat → Option Nat := fun _ _ => none   -- bank of a channel's dump in an address space, none when unusable

/-- Resource stage (R46, R68, R83, R122, R129, R266). Where it reports a failure is the model's choice (log 48): one of a whole table at word and slot 0, one
of a slot at that slot with the emitter or stream in CHECK_DETAIL, a trajectory that ends early at the first walked slot it does not reach, so that a FRAME
word which is never reached asks for no entries, and an EMIT word in effect in no slot at its own address and slot 0. -/
def resourceFault (b : PlanBank) (lim : CheckLimits) (ws : Array Nat) (slots : List WalkSlot) :
    Option PlanFault :=
  let fires := (opAddrs ws).any fun a => opOf (wordAt ws a) == 0x03 && (fireFields (wordAt ws a)).emask != 0
  let len := fun i => (b.tables.getD i []).length
  let fixed := [0, 1, 2, 4]
  if fixed.any (fun i => len i ≠ tableSizes.getD i 0 ∧ (fires ∨ len i ≠ 0)) then some { code := 11 }
  else if 524288 < len 3 then some { code := 11 }
  else if !tableFormOk b then some { code := 11 }
  else Option.or (slots.findSome? fun s =>
    match (s.emitters.find? fun e => !emitterOk b e) with
    | some e => some (s.at 11 e)
    | none =>
      if s.emit.pts && !(lim.streamPoints.getD s.emit.stream false) then some (s.at 11 s.emit.stream)
      else if s.emit.hdump && s.accum.isSome && s.emitters.any (fun e =>
          (bitsSet (chMask b e) 48).any fun c => (lim.dumpBank s.emit.hdumpAs c).isNone) then some (s.at 11 0)
      else if len 3 < 8 * (s.frameSlot + 1) then some (s.at 11 0)
      else none)
    ((opAddrs ws).findSome? fun a =>
      let e := emitFields (wordAt ws a)
      if opOf (wordAt ws a) == 0x06 && e.pts && !(lim.streamPoints.getD e.stream false) then some { code := 11, word := a, detail := e.stream } else none)

/-- Charges of Table 2.6 for one slot: unit position in the table and cost, in table order. -/
def slotCharges (b : PlanBank) (lim : CheckLimits) (s : WalkSlot) (last : Bool) : List (Nat × Nat × Nat) :=
  let e := s.emit.maxEcho
  let single := s.kind == .slot && s.single.isSome
  let w := (s.accum.map (·.2)).getD 1
  let hist := if s.kind == .slot && s.accum.isSome then 64 + 11200 * 4 / 20 else 0
  let detS := if single then 64 + 11200 * 4 / 40 + 6 * e * 4 else 0
  let detA := if last then 64 + 11200 / w * 4 / 40 + 6 * e * 4 else 0
  let lit := s.emitters.flatMap fun m => bitsSet (chMask b m) 48
  let perCh := min 8 ((if last then e else 0) + (if single then e else 0))
  let dumpCost := (11200 * 3 + 32 * w - 1) / (32 * w)
  let banks := if last && s.emit.hdump then lit.filterMap (lim.dumpBank s.emit.hdumpAs) else []
  [(1, 0, hist), (2, 0, detS + detA)] ++ (List.range 48).map (fun k => (4, k, (banks.filter (· == k)).length * dumpCost))
    ++ [(5, 0, 310 + perCh * lit.length)]

/-- Slot budget stage (R48). -/
def budgetFault (b : PlanBank) (lim : CheckLimits) : List (WalkSlot × Bool) → Option PlanFault
  | [] => none
  | (s, last) :: l =>
    match (slotCharges b lim s last).find? fun c => 2800 < c.2.2 with
    | some c => some (s.at 10 (Config.checkUnit c.1 % 256 * 256 + c.2.1))
    | none => budgetFault b lim l

/-- Slot budget stage slot by slot, with the words that precede a slot charged last of its units (R48, Table 2.6). -/
def budgetStage (b : PlanBank) (lim : CheckLimits) (l : List (WalkSlot × Bool)) (words : Option (Nat × PlanFault)) : Option PlanFault :=
  match words with
  | none => budgetFault b lim l
  | some (i, f) => (budgetFault b lim (l.take (i + 1))).or (some f)

/-- Slope of the trajectory at a frame slot, never across a frame boundary (R49). -/
def slopeAt (b : PlanBank) (len slot : Nat) : Int :=
  if slot + 1 < len then (trajOf b (slot + 1)).1 - (trajOf b slot).1
  else if 0 < slot then (trajOf b slot).1 - (trajOf b (slot - 1)).1 else 0

/-- Direction of a slope: 1 forward, 2 reverse, 0 none (R49). -/
def dirOfSlope (vMin : Nat) (d : Int) : Nat :=
  if (vMin : Int) ≤ 256 * d then 1 else if 256 * d ≤ -(vMin : Int) then 2 else 0

/-- Nominal energy of an emitter's entry at a reservoir level, in 1/25,600 of 0.1 nJ (R69). -/
def nomEnergy (b : PlanBank) (e eidx res : Nat) : Nat := (energyOf b e eidx).2 * (80 + res) ^ 2

/-- The first rule of Table 15.1 that a planned fire breaks, as its subindex. -/
def fireRule (b : PlanBank) (lim : CheckLimits) (s : WalkSlot) (e : Nat) : Option Nat :=
  let ang := (trajOf b s.frameSlot).1
  let dir := dirOfSlope lim.vMin (slopeAt b s.frameLen s.frameSlot)
  if dir ≠ 0 ∧ !bitAt lim.dirAllow (dir - 1) then some 2
  else if lim.windows.any (fun w => bitAt w.2.2 e && w.1 - lim.margin ≤ ang && ang ≤ w.2.1 + lim.margin) then some 5
  else if lim.c = 0 ∨ lim.ceil.getD e 0 * 25600 < nomEnergy b e s.fire.eidx s.res then some 7
  else none

/-- Largest sum over any window of `win` consecutive elements of a list that repeats as a cycle. -/
def maxCyclic (l : List Nat) (win : Nat) : Nat :=
  let n := l.length
  if n = 0 then 0
  else
    let total := sumNat l
    let part := win % n
    let pre := l.foldl (fun (p : Array Nat × Nat) v => (p.1.push p.2, p.2 + v)) (#[], 0)
    let at' := fun i => if i < n then pre.1.getD i 0 else total + pre.1.getD (i - n) 0
    win / n * total + (List.range n).foldl (fun m i => max m (at' (i + part) - at' i)) 0

/-- Ensign-visible stage (R49, R403). A broken budget is reported at the first slot of the cycle that fires the emitter (log 48). -/
def ensignFault (b : PlanBank) (lim : CheckLimits) (slots : List WalkSlot) (cycle : List WalkSlot) : Option PlanFault :=
  let single := slots.findSome? fun s =>
    s.emitters.findSome? fun e => (fireRule b lim s e).map fun r => s.at 12 (Config.checkUnit (16 + r) % 256 * 256 + e)
  match single with
  | some f => some f
  | none => (List.range 16).findSome? fun e =>
    let used := cycle.map fun s => if s.emitters.contains e then nomEnergy b e s.fire.eidx s.res else 0
    let first := (cycle.find? fun s => s.emitters.contains e).getD {}
    if lim.b100.getD e 0 * 10000 * 25600 < maxCyclic used 50500 then
      some (first.at 12 (Config.checkUnit (16 + 8) % 256 * 256 + e))
    else if lim.b10.getD e 0 * 10000 * 25600 < maxCyclic used 5050000 then
      some (first.at 12 (Config.checkUnit (16 + 9) % 256 * 256 + e))
    else none

/-- Longest run without a TESTGAP slot in a cycle, none when there is no such slot. -/
def longestGap (l : List Bool) : Option Nat :=
  if !l.contains true then none
  else
    let step := fun (p : Nat × Nat) (b : Bool) => if b then (0, max p.1 p.2) else (p.1 + 1, p.2)
    some ((l ++ l).foldl step (0, 0)).2

/-- CHECK_WARN (R51): bits 0 and 1 judge the cycle, bit 3 every fire of the pass. -/
def checkWarn (b : PlanBank) (lim : CheckLimits) (slots cycle : List WalkSlot) (nonce : Nat) (activeNonce : Option Nat) : Nat :=
  let w0 := match longestGap (cycle.map (·.kind == .testgap)) with
    | none => true
    | some n => 50000 ≤ n
  let w3 := slots.any fun s => !s.emitters.isEmpty && dirOfSlope lim.vMin (slopeAt b s.frameLen s.frameSlot) == 0
  ofBool w0 + 2 * ofBool (!cycle.any (·.kind == .calgap)) + 4 * ofBool (activeNonce == some nonce) + 8 * ofBool w3

/-- The slots of one pass of the frame cycle, oldest first, without the one that shows that the cycle has closed. -/
def Walk.pass (w : Walk) : List WalkSlot :=
  let all := w.slots.reverse
  if w.closing && w.done then all.take (all.length - 1) else all

/-- The slots of the cycle that the plan repeats. -/
def Walk.cycle (w : Walk) : List WalkSlot := w.pass.drop w.closeAt

/-- The stages up to the flow rules that need no walk (R47). -/
def textFault (b : PlanBank) : Option PlanFault :=
  let ws := planWords b.plan
  (headerFault b.plan b.tables ws).or ((encodingFault ws).or (flowFault ws))

/-- Outcome of a check: the first refusal in the order of R47, or the warnings. Of several failures of one stage the model reports LOOP, FRAME and JUMP faults
of the plan's text before those met in the walk, and an ORDER failure before a GROUP failure at an earlier slot (log 48). -/
def checkPlan (b : PlanBank) (lim : CheckLimits) (activeNonce : Option Nat) : PlanFault × Nat :=
  let ws := planWords b.plan
  match textFault b with
  | some f => (f, 0)
  | none =>
    let w := walkPlan ws walkFuel {}
    match w.fault with
    | some f => (f, 0)
    | none =>
      let all := w.slots.reverse
      let g := groupWalk all {} []
      let rest := w.order.or (g.1.fault.or ((resourceFault b lim ws w.pass).or
        ((budgetStage b lim (all.zip g.2) w.budgetWords).or (ensignFault b lim w.pass w.cycle))))
      match rest with
      | some f => (f, 0)
      | none => ({}, checkWarn b lim w.pass w.cycle (wordAt ws 2) activeNonce)

end Sys2Proof.Machine
end

