-- ==== Sys2Proof/Machine/Reservoir.lean ====
section
/-! DEFINITION. The reservoir charger (R78 to R82): when it runs, its set point and target, bleeding, faults and the restart after one. -/

namespace Sys2Proof.Machine

/-- The shed level whose effects are in force: a level acts from its declaration, and ends at the first tick after it clears (R433, R435). -/
def State.shedForce (s : State) : Nat := max (s.reg K.SHED_LEVEL) s.shedTick

/-- The charger runs in the mode (R81). -/
def Mode.charges : Mode → Bool
  | .calibrate | .scan | .scanAnalyse | .degraded => true
  | _ => false

/-- R81: the charger may run. -/
def State.resAllowed (s : State) : Bool := s.mode.charges && decide (s.shedForce < 3) && s.lockedA

/-- R79: VLAS differs from the target by no more than the larger of 1 % of the target and RES_TOL. -/
def State.resAtLevel (s : State) : Bool :=
  decide (100 * (s.res.vlas - 4 * s.res.target).natAbs ≤ 4 * max s.res.target (100 * s.reg K.RES_TOL))

/-- The charger while it regulates: RES_STATE reads ramping or at level (R82). -/
def State.resRegulates (s : State) : Bool := s.reg K.RES_STATE == 1 || s.reg K.RES_STATE == 2

/-- RES_STATE follows the level while the charger regulates (R79). -/
def State.resLevel (s : State) : State :=
  if s.resRegulates then s.put K.RES_STATE (if s.resAtLevel then 2 else 1) else s

/-- LAS_DIS is on and the charger stopped until VLAS is at or below the target (R79). -/
def State.resBleed (s : State) : State :=
  { s.put K.RES_STATE 3 with res := { s.res with runs := false, disOn := true, setPoint := 20 * s.res.target } }

/-- The present VLAS as a set point. -/
def State.vlasPoint (s : State) : Nat := (5 * s.res.vlas).toNat

/-- Regulation starts with a ramp from the set point `v` (R79 to R81). -/
def State.resRamp (s : State) (v : Nat) : State :=
  ({ s.put K.RES_STATE 1 with res := { s.res with runs := true, disOn := false, setPoint := v } }).resLevel

/-- The charger starts (R81): from the present VLAS, or, when that lies above the level of a target that fell meanwhile, after the bleed that
the fall calls for (R79). -/
def State.resStart (s : State) : State :=
  if decide (4 * s.res.target < s.res.vlas) && !s.resAtLevel then s.resBleed else s.resRamp s.vlasPoint

/-- A new target (R79, R80): a fall bleeds, and so does a bleed in progress while VLAS lies above the new target; a rise ramps from the set point, or from the
present VLAS when a ramp or a bleed is in progress, as regulation does that resumes after a fall VLAS has already made. A ramp whose target a frame boundary
leaves as it is runs on (log 57). -/
def State.resTarget (s : State) (t : Nat) : State :=
  let old := s.res.target
  let s := { s with res := { s.res with target := t } }
  if t = old then s
  else if s.resRegulates || s.reg K.RES_STATE == 3 then
    if 4 * t < s.res.vlas && (decide (t < old) || s.reg K.RES_STATE == 3) then s.resBleed
    else s.resRamp (if old < t && s.reg K.RES_STATE == 2 then s.res.setPoint else s.vlasPoint)
  else s

/-- R81, after a change of mode, of shed level or of the lock: the charger stops, or starts with a ramp from the present VLAS. A fault waits for its restart in
every mode (R82). -/
def State.resGate (s : State) : State :=
  if s.resAllowed then
    if s.reg K.RES_STATE = 0 then ({ s with res := { s.res with overRun := 0 } }).resStart else s
  else
    let s := { s with res := { s.res with runs := false, disOn := true, periodOn := false, overRun := 0 } }
    if s.reg K.RES_STATE = 4 then s else s.put K.RES_STATE 0

/-- A mode entry lifts the lock-out of three faults, so that the charger restarts (R82). -/
def State.resModeEntry (s : State) : State :=
  let s := if s.res.locked then { s.put K.RES_STATE 0 with res := { s.res with locked := false, faultAges := [] } } else s
  s.resGate

/-- R79: bleeding ends once VLAS is at or below the target, and regulation resumes. -/
def State.bleedEnd (s : State) : State :=
  if s.reg K.RES_STATE = 3 && decide (s.res.vlas ≤ 4 * s.res.target) then s.resRamp s.vlasPoint else s

/-- VLAS above the target by more than 10 % plus 0.5 V while the charger regulates (R82). -/
def State.resOver (s : State) : Bool :=
  s.resRegulates && decide (4 * (11 * s.res.target + 500 : Int) < 10 * s.res.vlas)

/-- A reservoir fault (R82): at the reading `v`, in 2.5 mV, above 63.0 V, in any slot, or after two slots above the target; one that stands already is no new
one. -/
def State.resFault (s : State) (v : Int) : State :=
  if s.reg K.RES_STATE ≠ 4 ∧ (25200 < v ∨ 2 ≤ s.res.overRun) then
    let ages := 0 :: s.res.faultAges
    { (s.put K.RES_STATE 4).count K.RES_FAULTS with
      res := { s.res with runs := false, disOn := true, periodOn := false, overRun := 0, faultAges := ages
                          locked := s.res.locked || decide (3 ≤ ages.length) } }
  else s

/-- R82: at a frame boundary with VLAS below the target the charger restarts, unless three faults stopped it. -/
def State.resRestart (s : State) : State :=
  if s.reg K.RES_STATE = 4 && !s.res.locked && s.resAllowed && decide (s.res.vlas < 4 * s.res.target) then s.resRamp s.vlasPoint else s

/-- CHARGER_PERIOD (R78): the one switching period of a slot starts at CHG_PHASE while the charger regulates, and ends early when the sense voltage, here its
greatest value in mV, reaches CHG_ILIM. -/
def State.chargePeriod (s : State) (sense : Nat) : State :=
  if s.res.runs && !s.res.periodDone then
    let early := decide (s.reg K.CHG_ILIM ≤ sense)
    { s with res := { s.res with periodOn := !early, endedEarly := early, periodDone := true, periodAt := s.reg K.CHG_PHASE } }
  else s

/-- A set point on its way to the target, by RISE_RATE a slot. -/
def State.setPointNext (s : State) : Nat :=
  let r := s.res
  let n := 4 * s.reg K.RISE_RATE
  if r.setPoint < 20 * r.target then min (r.setPoint + n) (20 * r.target) else max (r.setPoint - n) (20 * r.target)

/-- What the reservoir does at a slot tick: the set point moves to the target by RISE_RATE, faults age, and a new switching period may come. -/
def State.resTick (s : State) : State :=
  let s := s.bleedEnd
  let r := s.res
  let r := { r with
    setPoint := if r.runs then s.setPointNext else r.setPoint
    faultAges := (r.faultAges.map (· + 1)).filter (· < 500000), periodOn := false, periodDone := false }
  ({ s with res := r }).resLevel

end Sys2Proof.Machine
end

