-- ==== Sys2Proof/Machine/Comet.lean ====
section
/-! DEFINITION. Comet at run time (R32 to R45, R57, R58): executing the operation words of the active plan, and the slot that a slot-producing
word produces. -/

namespace Sys2Proof.Machine

/-- Words of the active plan. -/
def State.planWords (s : State) : Array Nat := Machine.planWords s.plan.active.plan

/-- The word at Comet's address. -/
def State.cometWord (s : State) : Nat := wordAt s.planWords s.comet.pc

/-- Comet is between two slots, so that the next word of the plan executes. -/
def State.betweenSlots (s : State) : Bool :=
  s.comet.running && !s.comet.hold && s.comet.left == 0 && decide (s.comet.pc < s.planWords.size)

/-- The next word executes and holds operation `op`. -/
def State.wordDue (s : State) (op : Nat) : Bool := s.betweenSlots && opOf s.cometWord == op

/-- Comet's state with a new value. -/
def State.setComet (s : State) (c : Comet) : State := { s with comet := c }

/-- The first FRAME word is at word 8; entering the plan there forgets what was in progress (R32, R57). -/
def State.cometStart (s : State) : State :=
  { s with comet := { running := true, startDue := true, hold := true, throttleFrame := s.comet.throttleFrame } }

/-- Comet stops (R58): no further slot is produced. -/
def State.cometStop (s : State) : State := { s with comet := { throttleFrame := s.comet.throttleFrame } }

/-- Ordinal of the frame whose FRAME word is at `a` (order in which the FRAME words are reached, R42). -/
def frameOrdinal (seen : List Nat) (a : Nat) : Nat := (seen.findIdx? (· == a)).getD seen.length

/-- FRAME (R38, R42, R79): starts a frame; every state word returns to its start value, the single-shot histories are to be emptied
(R135), FRAME_COUNT increments and the charger target becomes RES_LEVEL. -/
def State.wordFrame (s : State) : State :=
  let c := s.comet
  let ff := frameFields s.cometWord
  let seen := if c.frameSeen.contains c.pc then c.frameSeen else c.frameSeen ++ [c.pc]
  let c' : Comet := { c with
    startDue := false, pc := c.pc + 1, loops := [], fire := none, marks := [], accum := none, single := none, emit := {},
    waitCond := 0, released := true, frameLen := ff.2.1, frameDone := 0, frameSeen := seen,
    frameOrd := frameOrdinal c.frameSeen c.pc, tag := ff.1, resLevel := ff.2.2, groupPos := 0, groupOrd := 0, singleReset := true,
    throttleFrame := decide (3 ≤ s.reg K.THROT_STEP), groupMasked := false }
  let s := (s.setComet c').put K.FRAME_COUNT (addWrap 64 (s.reg K.FRAME_COUNT) 1)
  (s.put K.VLAS_TARGET ff.2.2).resTarget (2000 + 25 * ff.2.2)

/-- A slot-producing word (R35): its COUNT slots of kind `k` with the modifiers that are pending; a COUNT of 0 leaves them pending. -/
def State.wordSlots (s : State) (k : SlotKind) : State :=
  let c := s.comet
  let w := s.cometWord
  if bits w 15 0 = 0 then s.setComet { c with pc := c.pc + 1 }
  else s.setComet { c with
    pc := c.pc + 1, kind := k, left := bits w 15 0, wordFire := if k = .slot then c.fire else none, wordMarks := c.marks,
    fire := none, marks := [], calSel := if k = .calgap then bits w 55 48 else 0 }

/-- FIRE (R35). -/
def State.wordFire (s : State) : State :=
  s.setComet { s.comet with pc := s.comet.pc + 1, fire := some (fireFields s.cometWord) }

/-- SINGLE (R38, R135): sets or ends single-shot confirmation; the histories are to be emptied. -/
def State.wordSingle (s : State) : State :=
  s.setComet { s.comet with pc := s.comet.pc + 1, single := singleFields s.cometWord, singleReset := true }

/-- ACCUM (R40): groups restart with the next SLOT slot. -/
def State.wordAccum (s : State) : State :=
  s.setComet { s.comet with pc := s.comet.pc + 1, accum := accumFields s.cometWord, groupPos := 0 }

/-- EMIT (R38). -/
def State.wordEmit (s : State) : State :=
  s.setComet { s.comet with pc := s.comet.pc + 1, emit := emitFields s.cometWord }

/-- MARK (R36): one more mark event for the next slot produced. -/
def State.wordMark (s : State) : State :=
  s.setComet { s.comet with pc := s.comet.pc + 1, marks := s.comet.marks ++ [markFields s.cometWord] }

/-- LOOP (R43). -/
def State.wordLoop (s : State) : State :=
  let c := s.comet
  let n := bits s.cometWord 15 0
  if n = 0 then s.setComet { c with pc := matchEnd s.planWords s.planWords.size (c.pc + 1) 1 + 1 }
  else s.setComet { c with loops := (c.pc, n) :: c.loops, pc := c.pc + 1 }

/-- ENDLOOP (R43). -/
def State.wordEndloop (s : State) : State :=
  let c := s.comet
  match c.loops with
  | (l, n) :: r =>
    if 1 < n then s.setComet { c with loops := (l, n - 1) :: r, pc := l + 1 }
    else s.setComet { c with loops := r, pc := c.pc + 1 }
  | [] => s.setComet { c with pc := c.pc + 1 }

/-- WAITLOCK (R41): a COND other than 0 starts a hold from the next slot produced; 0 releases. -/
def State.wordWaitlock (s : State) : State :=
  let cond := bits s.cometWord 51 48
  s.setComet { s.comet with pc := s.comet.pc + 1, waitCond := cond, released := cond == 0 }

/-- JUMP (R44). -/
def State.wordJump (s : State) : State := s.setComet { s.comet with pc := bits s.cometWord 14 0 }

/-- The word at Comet's address, whichever it is. -/
def State.wordAny (s : State) : State :=
  match opOf s.cometWord with
  | 0x01 => s.wordFrame
  | 0x02 => s.wordSlots .slot
  | 0x03 => s.wordFire
  | 0x04 => s.wordSingle
  | 0x05 => s.wordAccum
  | 0x06 => s.wordEmit
  | 0x07 => s.wordSlots .calgap
  | 0x08 => s.wordSlots .testgap
  | 0x09 => s.wordSlots .idle
  | 0x0A => s.wordMark
  | 0x0B => s.wordLoop
  | 0x0C => s.wordEndloop
  | 0x0D => s.wordWaitlock
  | 0x0E => s.wordJump
  | _ => s.setComet { s.comet with running := false }

/-- Executes words until a slot is produced; a checked plan needs at most 32 (Table 2.6). -/
def State.runWords (s : State) : Nat → State
  | 0 => s
  | n + 1 => if s.betweenSlots then s.wordAny.runWords n else s

/-- The words between two slots. -/
def State.words (s : State) : State := s.runWords 32

/-- The present or next tick is a frame boundary: the frame in progress has produced its last slot, or the first FRAME word is due. -/
def State.atFrameBoundary (s : State) : Bool :=
  s.comet.running && !s.comet.hold && s.comet.left == 0 && (s.comet.startDue || decide (s.comet.frameLen ≤ s.comet.frameDone))

/-- The four conditions of a WAITLOCK word (Table 2.3, R41): PLL B locked, mirror tracking, reservoir at level, APD bias settled. -/
def State.waitConds (s : State) : Nat :=
  let zones := (bitsSet (s.reg K.APD_ZONE_EN) 4).all fun z => (s.apd.zones.getD z {}).settled
  ofBool (s.reg K.PLLB_STATE == 2) + 2 * ofBool s.mir.tracking + 4 * ofBool s.resAtLevel + 8 * ofBool zones

/-- R41: at a tick, fire is released once every condition of COND holds. -/
def State.waitRelease (s : State) : State :=
  if s.comet.running && !s.comet.released && (s.comet.waitCond &&& s.waitConds) == s.comet.waitCond then
    s.setComet { s.comet with released := true }
  else s

end Sys2Proof.Machine
end

