-- ==== Sys2Proof/Machine/Ensign.lean ====
section
/-! DEFINITION. Ensign (R371 to R402): violations and the suppression of fires, the fire decision of a slot, the sweep check, the energy bins,
permits, and the angle sources' bookkeeping. -/

namespace Sys2Proof.Machine

/-! ### Suppression, violations and the retention log -/

/-- A fire that is still to come is suppressed, a pulse in progress is cut short (R67); the emitter's counter says which. -/
def suppressFire (s : State) (f : FireCmd) : State × FireCmd :=
  match f.fate with
  | .planned => (s.count (K.SHOTS_SUPPRESSED f.emitter), { f with fate := .suppressed })
  | .fired => (s.count (K.SHOTS_TRUNCATED f.emitter), { f with fate := .truncated })
  | _ => (s, f)

/-- Applies an action to each fire command of the present slot. -/
def State.mapFires (s : State) (f : State → FireCmd → State × FireCmd) : State :=
  let r := s.pipe.cur.fires.foldl (fun (p : State × List FireCmd) c =>
    let q := f p.1 c
    (q.1, p.2 ++ [q.2])) (s, [])
  { r.1 with pipe := { r.1.pipe with cur := { r.1.pipe.cur with fires := r.2 } } }

/-- Every fire of the present slot that is still to come is suppressed and every pulse is ended (R67, R382, R383). -/
def State.suppressAll (s : State) : State := s.mapFires suppressFire

/-- Adds an entry to the retention log, newest first, eight at most (R462). -/
def State.logRet (s : State) (cause : Nat) (detail : List Byte) : State :=
  { s with retLog := ((leBytes 4 cause ++ leBytes 4 (s.vaoTime / 500 % 2 ^ 32) ++ bytesAt detail 0 8) :: s.retLog).take 8 }

/-- The causes of Table 15.2 that latch: ENERGY, DARK, CH_DISAGREE, PERMIT_FB, SEAL_CRC, STRAP and VLAS_SENSE. -/
def latchedCause (bit : Nat) : Bool := [0, 1, 2, 6, 7, 8, 9].contains bit

/-- A violation detected at a moment with stamp `t` (R382): its cause is set, fires stop, the detection is stamped and a latched cause enters the retention
log. A cause that is found again is stamped again (log 54). -/
def State.violateAt (s : State) (bit t : Nat) : State :=
  let s := s.suppressAll
  let s := (s.putBit K.SH_CAUSE bit true).put K.SH_LAST t
  if latchedCause bit && !s.regBit K.SH_LATCHED bit then
    let s := s.putBit K.SH_LATCHED bit true
    s.logRet 4 (leBytes 4 (s.reg K.SH_LATCHED ||| s.heldCauses))
  else s

/-- A violation at a sample of the present slot. -/
def State.violate (s : State) (bit sample : Nat) : State := s.violateAt bit (s.stamp sample 0)

/-- A violation that a row reports without its moment: the cc within the present slot is a free value. -/
def State.violateNow (s : State) (bit : Nat) : State :=
  let d := s.draw
  d.2.violateAt bit (s.stampCc (Config.freeNat d.1 % 2800))

/-- Clears a cause that does not latch (R402). -/
def State.clearCause (s : State) (bit : Nat) : State := s.putBit K.SH_CAUSE bit false

/-! ### Limits in force (R376, R378) -/

/-- A sealed limit scaled by the laser ceiling code C. -/
def State.scaled (s : State) (k : Nat) : Nat := s.inForce k * s.reg K.CEIL_CODE / 63

/-- Windows in force for an emitter: low and high angle (R376). -/
def State.windowsFor (s : State) (e : Nat) : List (Int × Int) :=
  ((bitsSet (s.inForce (K.EXCL_PRESET (s.reg K.PRESET_NOW))) 8).filter fun w => bitAt (s.inForce (K.EXCL_EMASK w)) e).map fun w =>
    (s.inForceI (K.EXCL_LO w), s.inForceI (K.EXCL_HI w))

/-! ### The fire decision (R374, R377, R381) -/

/-- Four times the speed v of R374: the angle of slot s - 2 less that of slot s - 6. With fewer angles the oldest one stands for the missing. -/
def State.speed4 (s : State) : Int :=
  let last := s.ens.th.getLastD 0
  s.ens.th.getD 0 0 - (if s.ens.th.length < 5 then last else s.ens.th.getD 4 0)

/-- Direction of R374: 1 forward, 2 reverse, 0 none. -/
def State.dirNow (s : State) : Nat :=
  let v := 64 * s.speed4     -- v in 1/256 au per slot
  if (s.inForce K.V_MIN : Int) ≤ v then 1 else if v ≤ -(s.inForce K.V_MIN : Int) then 2 else 0

/-- The interval lo to hi of R374. -/
def State.beamInterval (s : State) : Rat × Rat :=
  let t : Rat := s.ens.th.getD 0 0
  let v : Rat := (s.speed4 : Rat) / 4
  let a := t + 3 / 2 * v
  let b := t + 5 / 2 * v
  let m : Rat := (s.inForce K.POS_MARGIN + (if s.mode = .degraded then s.inForce K.DEG_MARGIN else 0) : Nat)
  (min a b - m, max a b + m)

/-- Sum of an emitter's bins. -/
def binSum (l : List Rat) : Rat := l.foldl (· + ·) 0

/-- The 100 ms and 10 s window sums of an emitter in 0.1 nJ (R379). -/
def State.windowSums (s : State) (e : Nat) : Rat × Rat :=
  (binSum (s.ensB.bins100.getD e []), binSum (s.ensB.bins10.getD e []))

/-- Adds energy to an emitter's present bins. -/
def addToBin (l : List Rat) (x : Rat) : List Rat :=
  match l with
  | [] => [x]
  | b :: r => (b + x) :: r

/-- Charges energy to an emitter (R377, R380). -/
def State.charge (s : State) (e : Nat) (x : Rat) : State :=
  { s with ensB := { s.ensB with
      bins100 := setAt [] s.ensB.bins100 e (addToBin (s.ensB.bins100.getD e []) x)
      bins10 := setAt [] s.ensB.bins10 e (addToBin (s.ensB.bins10.getD e []) x) } }

/-- Width of the pulse Ensign allows: the entry's own, cut in DEGRADED to 25 % of the emitter's entry 7 width (R377). -/
def State.allowedWidth (s : State) (f : FireCmd) : Nat :=
  if s.mode = .degraded then min f.width ((energyOf s.plan.active f.emitter 7).1 / 4) else f.width

/-- Energy E of a fire (R377), in 0.1 nJ, from the service conversion of VLAS in 2.5 mV. -/
def State.fireEnergy (s : State) (f : FireCmd) : Rat :=
  let v : Rat := (s.res.vlas : Int)
  let nom : Rat := ((energyOf s.plan.active f.emitter f.eidx).2 : Nat)
  if f.width = 0 then 0 else nom * (v / 16000) ^ 2 * (s.allowedWidth f : Nat) / (f.width : Nat)

/-- Subindex of the first rule of Table 15.1 that vetoes a fire, none when no rule does. -/
def State.vetoRule (s : State) (f : FireCmd) : Option Nat :=
  let dir := s.dirNow
  let e := f.emitter
  let iv := s.beamInterval
  let x := s.fireEnergy f
  let u := s.windowSums e
  if dir = 0 then some 1
  else if !bitAt (s.inForce K.DIR_ALLOW) (dir - 1) ∨ (dir = 2 ∧ s.mode = .degraded) then some 2
  else if s.reg K.SWEEP_OK = 0 then some 3
  else if ((4 * s.inForce K.VLAS_MAX : Nat) : Int) < s.res.vlas then some 4
  else if (s.windowsFor e).any (fun w => (w.1 : Rat) ≤ iv.2 && iv.1 ≤ (w.2 : Rat)) then some 5
  else if s.inForce (K.WIDTH_MAX e) < s.allowedWidth f then some 6
  else if (s.scaled (K.SHOT_CEIL e) : Rat) < x ∨ s.reg K.CEIL_CODE = 0 then some 7
  else if (10000 * s.scaled (K.BUDGET_100MS e) : Rat) < u.1 + x then some 8
  else if (10000 * s.scaled (K.BUDGET_10S e) : Rat) < u.2 + x then some 9
  else none

/-- A suppression known at the tick (R377): feedbacks not both high, INHIBIT_N not released, a test slot, a cause, or lock loss. -/
def State.suppressedAtTick (s : State) (testSlot : Bool) : Bool :=
  !(s.ensB.fbA && s.ensB.fbB) || s.ensB.inhibited || testSlot || s.reg K.SH_CAUSE != 0 || !s.locked

/-- Decides one planned fire at the tick (R377, R381); every fire of a test slot counts as a collision (R385). -/
def decideFire (testSlot : Bool) (s : State) (f : FireCmd) : State × FireCmd :=
  if f.fate ≠ .planned then (s, f)
  else
    let rule := s.vetoRule f
    let s := s.onlyIf testSlot fun s => s.count K.TESTPULSE_COLLIDE
    match rule with
    | some r =>
      ((s.count (K.VETO_COUNT (r - 1))).count (K.SHOTS_SUPPRESSED f.emitter), { f with fate := .suppressed })
    | none =>
      if s.suppressedAtTick testSlot then (s.count (K.SHOTS_SUPPRESSED f.emitter), { f with fate := .suppressed })
      else
        let x := s.fireEnergy f
        let s := s.charge f.emitter x
        let s := { s with ensB := { s.ensB with released := s.ensB.released ++ [(f.emitter, x)] } }
        (s, { f with energy := x, released := true, width := s.allowedWidth f, capEnd := decide (s.allowedWidth f < f.width) })

/-! ### Bins and sweep at a tick -/

/-- Closes a bin: a new empty one goes in front, 101 are kept. -/
def closeBin (l : List Rat) : List Rat := ((0 : Rat) :: l).take 101

/-- The window sums as the registers report them, in µJ. -/
def State.reportBins (s : State) : State :=
  s.forRange 16 fun s e =>
    let u := s.windowSums e
    (s.put (K.E_USED_100MS e) (roundOpen "E_USED_100MS" (u.1 / 10000)).toNat).put (K.E_USED_10S e)
      (roundOpen "E_USED_10S" (u.2 / 10000)).toNat

/-- One step of the bin clock (R379). -/
def State.binStep (s : State) : State :=
  let n := s.ensB.binClock + 1
  let b := { s.ensB with binClock := n }
  let b := if n % 500 = 0 then { b with bins100 := b.bins100.map closeBin } else b
  let b := if n % 50000 = 0 then { b with bins10 := b.bins10.map closeBin } else b
  { s with ensB := b }

/-- The sweep check restarts (R375, R435, R448): no period has completed. -/
def State.sweepRestart (s : State) : State := { s.put K.SWEEP_OK 0 with sweep := { lastDir := s.sweep.lastDir } }

/-- The sweep check at a tick (R375). -/
def State.sweepTick (s : State) : State :=
  let w := s.sweep
  let dir := s.dirNow
  let t := s.ens.th.getD 0 0
  let starts := decide (dir = 1 ∧ w.lastDir = 2)
  let done := starts && w.inPeriod
  let s := if done then
      (s.put K.PERIOD_LAST (w.age + 1)).put K.AMP_LAST (roundOpen "AMP_LAST" ((w.hi - w.lo : Int) : Rat)).toNat
    else s
  let w' : Sweep :=
    { lastDir := if dir = 0 then w.lastDir else dir
      inPeriod := starts || w.inPeriod
      age := if starts then 0 else w.age + 1
      lo := if starts then t else min w.lo t
      hi := if starts then t else max w.hi t
      hasLast := done || w.hasLast }
  let p := s.reg K.PERIOD_LAST
  let a := s.reg K.AMP_LAST
  let ok := w'.hasLast && decide (s.inForce K.PERIOD_MIN ≤ p) && decide (p ≤ s.inForce K.PERIOD_MAX) && decide (s.inForce K.AMP_MIN ≤ a)
    && decide (a ≤ s.inForce K.AMP_MAX) && decide (w'.age ≤ s.inForce K.PERIOD_MAX)
  let v := 64 * s.speed4
  let sp := if -32768 ≤ v ∧ v ≤ 32767 then v else Config.unstated "SPEED_NOW" [v]
  { ((s.put K.SWEEP_OK (ofBool ok)).put K.DIR_NOW dir).putI 16 K.SPEED_NOW sp with sweep := w' }

/-! ### Permits and their tests (R384 to R387) -/

/-- Every condition of R384 holds. -/
def State.permitCond (s : State) : Bool :=
  s.permitMode && s.reg K.SH_CAUSE == 0 && !s.ensB.inhibited && decide (s.reg K.SHED_LEVEL < 3) && s.reg K.VIN_OV == 0
    && s.reg K.CEIL_CODE != 0 && !s.rst.testEn

/-- The present test slot is void (R387): counted, and a test start all the same. A pass that its off-pulse gave before the demand counts no more, and the
same permit is tested next. -/
def State.voidTest (s : State) : State :=
  match s.ensB.test, s.ensB.passed with
  | some _, _ => { s.count K.TP_VOID with ensB := { s.ensB with test := none, testLow := false } }
  | none, some n =>
    let s := (s.put K.TP_PASS n).put K.TP_NEXT (1 - s.reg K.TP_NEXT)
    { s.count K.TP_VOID with ensB := { s.ensB with passed := none } }
  | none, none => s

/-- The present slot ends, and with it the window of its test; an off-demand that stands voids it before. -/
def State.testOver (s : State) : State :=
  let s := if s.permitCond then s else s.voidTest
  { s with ensB := { s.ensB with passed := none } }

/-- Both permits go off and stay off until a tick; their feedbacks follow (R384, R387). -/
def State.permitsOff (s : State) : State :=
  let s := s.voidTest
  { s with ensB := { s.ensB with permitA := false, permitB := false, fbA := false, fbB := false, forcedDue := false } }

/-- R384 between ticks: the permits are off unless every condition holds. -/
def State.permitGate (s : State) : State := if s.permitCond then s else s.permitsOff

/-- Permits at a tick (R384, R386): on when every condition holds; the instant they come on counts as the start of a test. -/
def State.permitTick (s : State) : State :=
  if s.permitCond then
    if s.ensB.permitA && s.ensB.permitB then s
    else { s with ensB := { s.ensB with permitA := true, permitB := true, fbA := true, fbB := true, sinceTest := 0, forcedDue := false } }
  else s.permitsOff

/-- Whether the slot that starts is a test slot: a TESTGAP slot 50 ms after the last test, or any slot once 100 ms have passed (R386). -/
def State.testSlotDue (s : State) (k : SlotKind) : Bool :=
  s.ensB.permitA && s.ensB.permitB
    && (s.ensB.forcedDue || (k == .testgap && decide (50000 ≤ s.ensB.sinceTest)))

/-- The starting slot becomes a test slot for the permit that TP_NEXT names (R386). The test starts 1 µs after the tick (R385). -/
def State.startTestSlot (s : State) : State :=
  let s := if s.ensB.forcedDue then s.count K.TP_FORCED else s
  let p : Permit := if s.reg K.TP_NEXT = 0 then .a else .b
  { s.put K.TP_LAST (s.stamp 5600 0) with ensB := { s.ensB with
      test := some p, testLow := false, testForced := s.ensB.forcedDue, forcedDue := false, sinceTest := -1 } }

/-! ### The seal image (R389) and the cross-check (R372) -/

/-- Keys of the RWS objects with their sizes in bytes, in increasing order. -/
def sealKeys : List (Nat × Nat) :=
  (objTable.filter fun r => r.acc == .rws).flatMap fun r =>
    (List.range (r.idxHi + 1 - r.idxLo)).flatMap fun i => (List.range (r.subHi + 1 - r.subLo)).map fun j =>
      (objKey (r.idxLo + i) (r.subLo + j), r.ty.width / 8)

/-- The seal image in force. -/
def State.sealImage (s : State) : List Byte := sealKeys.flatMap fun p => leBytes p.2 (s.inForce p.1)

/-- The word a channel sends at the tick that starts the present slot (R372). Its own decisions and the edges released are those of the model's one evaluation of
the chapter (R371). -/
def State.crossWord (s : State) : CrossWord :=
  let l := s.pipe.cur.fires
  { fires := l.map (·.emitter), angle := s.ens.th.getD 0 0
    vetoes := l.filterMap fun f => (s.vetoRule f).map fun r => (f.emitter, r)
    edges := s.ensB.releasedPrev.map (·.1)
    sums100 := (List.range 16).map fun e => (s.windowSums e).1, sums10 := (List.range 16).map fun e => (s.windowSums e).2
    crc := crc32 s.sealImage }

/-- Two energy sums differ by more than 1 % of the larger (log 54). -/
def sumsDiffer (x y : Rat) : Bool := decide (max x y < 100 * (if x ≤ y then y - x else x - y))

/-- What in the other channel's word declares CH_DISAGREE (R372). -/
def CrossWord.differs (own w : CrossWord) : Bool :=
  decide (2 < (own.angle - w.angle).natAbs) || own.edges != w.edges || own.crc != w.crc
    || (List.range 16).any fun e => sumsDiffer (own.sums100.getD e 0) (w.sums100.getD e 0) || sumsDiffer (own.sums10.getD e 0) (w.sums10.getD e 0)

/-- The exchange of cross-check words at a tick: any difference declares CH_DISAGREE. -/
def State.crossCheck (s : State) (i : TickInput) : State :=
  let missed := if i.word = .missing then s.ensB.missedWords + 1 else 0
  let differs : Bool := match i.word with
    | .other w => s.crossWord.differs w
    | _ => false
  let odd := if i.intervalNs < 1750 ∨ 2300 < i.intervalNs then s.ensB.oddTicks + 1 else 0
  let s := { s with ensB := { s.ensB with missedWords := missed, oddTicks := odd } }
  if differs ∨ 2 ≤ missed ∨ 4 ≤ odd then s.violate 2 0 else s

end Sys2Proof.Machine
end

