-- ==== Sys2Proof/Machine/Firing.lean ====
section
/-! DEFINITION. Forming the slot that starts (R18 step 1, R35 to R41, R59, R60), its fire commands (R63 to R75), and what becomes of a
fire at its edge and at the end of its pulse. -/

namespace Sys2Proof.Machine

/-! ### Dither (R71, R72, R75) -/

/-- Entry of emitter `e` of the Dither Table generated with a key and NONCE, for slot counter `slot`. -/
def ditherEntry (key : List Byte) (nonce slot e : Nat) : Nat :=
  ((aes128 key (leBytes 8 nonce ++ beBytes 8 (slot % 4096))).getD e 0).toNat

/-- The dither of emitter `e` in the slot with counter `slot`: 0 while the active table is zeroised (R75). -/
def State.ditherOf (s : State) (slot e : Nat) : Nat :=
  match s.plan.ditherNonce with
  | some n => ditherEntry s.fuses.ditherKey n slot e
  | none => 0

/-! ### Masks (R60, R70, Table 2.9) -/

/-- An energy cap of 50 % applies: shed level L2 or throttle step 4 (R70). -/
def State.capInForce (s : State) : Bool := decide (2 ≤ s.shedTick) || decide (4 ≤ s.reg K.THROT_STEP)

/-- Width an energy cap of 50 % leaves emitter `e`, in whole ft (R70). -/
def State.capWidth (s : State) (e : Nat) : Nat := (energyOf s.plan.active e 7).1 / 2

/-- The energy entry an emitter fires at under the caps in force: its own when that does not exceed the cap width, else the largest that
does not, none when entry 0 exceeds it (R60, R70). -/
def State.cappedEntry (s : State) (e eidx : Nat) : Option Nat :=
  if !s.capInForce || decide ((energyOf s.plan.active e eidx).1 ≤ s.capWidth e) then some eidx
  else ((List.range 8).filter fun i => decide ((energyOf s.plan.active e i).1 ≤ s.capWidth e)).getLast?

/-- The masks of the slot that starts, numbered as in MASK_NOW; `l2` says whether the L2 alternation masks this slot's fire. -/
def State.maskBits (s : State) (l2 : Bool) : Nat :=
  ofBool l2 + 2 * ofBool (decide (3 ≤ s.shedTick))
    + 4 * ofBool (s.comet.throttleFrame && s.reg K.FRAME_COUNT % 2 == 1) + 8 * ofBool s.capInForce
    + 16 * ofBool s.fireWithheldByMode + 32 * ofBool (!s.comet.released)

/-- MASK_NOW (Table 2.10): the causes of Table 2.9 that are in force. -/
def State.maskShow (s : State) : Nat :=
  ofBool (decide (2 ≤ s.shedTick)) + 2 * ofBool (decide (3 ≤ s.shedTick)) + 4 * ofBool s.comet.throttleFrame + 8 * ofBool s.capInForce
    + 16 * ofBool s.fireWithheldByMode + 32 * ofBool (!s.comet.released)

/-- A mask that withholds fire and echo work of the slot as a whole: supply L3, throttle step 3 in an odd frame (Table 2.9). -/
def maskNoWork (m : Nat) : Bool := bitAt m 1 || bitAt m 2

/-! ### Samples of a slot -/

/-- Code of sample `i` of channel `ch`: 0 where none is listed (R99). -/
def codeOf (x : SlotSamples) (ch i : Nat) : Int := (x.getD ch []).getD i 0

/-- The slice that serves a position of a channel (R108). -/
def State.sliceAt (s : State) (ch p : Nat) : Nat := bits (s.reg (K.SLICE_MAP ch)) (4 * p + 3) (4 * p)

/-- The slice of a channel that runs in shadow: the one that serves no position (R108). -/
def State.shadowSlice (s : State) (ch : Nat) : Nat := ((List.range 9).find? fun q => (List.range 8).all fun p => s.sliceAt ch p != q).getD 8

/-- A slice's code as it is delivered: the extreme code beyond the range (R106), corrected by the slice's offset, in 1/16 code, and gain, in 2^-15 (R351). The
spec states neither the order of the two nor the rounding: the result is a free code between those of both orders (log 30). -/
def correctCode (k : SliceCal) (v : Int) : Int :=
  let v := clampInt (-2048) 2047 v
  if k.offset = 0 ∧ k.gain = 0 then v
  else
    let g : Rat := 1 + (k.gain : Rat) / 32768
    let o : Rat := (k.offset : Rat) / 16
    let a := (v : Rat) * g + o
    let b := ((v : Rat) + o) * g
    clampInt (-2048) 2047 (clampInt (min a b).floor (max a b).ceil (Config.unstated "SLICE_CODE" [v, k.offset, k.gain]))

/-- The samples of a slot as the four consumers get them: code 0 for a channel that is not powered or is retired (R99), and of the others the codes of
their slices, corrected (R108, R351). `slice` gives a channel's slice at a position. -/
def deliver (slice : Nat → Nat → SliceCal) (powered : Nat) (x : SlotSamples) : SlotSamples :=
  (List.range 48).map fun ch =>
    if bitAt powered ch then
      let ks := (List.range 8).map (slice ch)
      ((x.getD ch []).take 11200).mapIdx fun i v => correctCode (ks.getD (i % 8) {}) v
    else []

/-- Calibration of the slice at a position of a channel. -/
def State.sliceCalAt (s : State) (ch p : Nat) : SliceCal := s.cal.slices.getD (9 * ch + s.sliceAt ch p) {}

/-- The codes of the shadow slices, corrected by their own calibration. -/
def State.deliverShadow (s : State) (powered : Nat) (x : SlotSamples) : SlotSamples :=
  deliver (fun ch _ => s.cal.slices.getD (9 * ch + s.shadowSlice ch) {}) powered x

/-! ### Samples at positions around the present slot -/

/-- Code of a channel at a sample relative to the start of the present slot, from the three slots the state holds. -/
def State.codeAt (s : State) (ch : Nat) (i : Int) : Int :=
  if 0 ≤ i then codeOf s.pipe.cur.samples ch i.toNat
  else if -11200 ≤ i then codeOf s.pipe.prev.samples ch (i + 11200).toNat
  else codeOf s.pipe.prev2.samples ch (i + 22400).toNat

/-- Time stamp of a sample relative to the start of the present slot; one of the present slot in lock loss is the slot's (R11, R26). -/
def State.stampAt (s : State) (i : Int) : Nat :=
  let a := (s.slot : Int) * 11200 + i
  if a < 0 then 0 else if s.locked || i < 0 then compactStamp (a.toNat / 11200) (a.toNat % 11200) 0 else compactStamp (a.toNat / 11200) 0 0

/-! ### The slot that starts -/

/-- One fire command of a slot (Table 3.1, R67, R69). -/
def State.fireCmd (s : State) (fw : FireWord) (e eidx : Nat) : FireCmd :=
  { emitter := e, eidx := eidx, width := (energyOf s.plan.active e eidx).1
    dither := if fw.dither then s.ditherOf s.slot e else 0
    dithered := fw.dither && s.plan.ditherNonce.isSome
    fine := fw.fine, calE := s.reg (K.CAL_E e) }

/-- Position of the starting slot in its accumulation group counted from 1; 0 where it belongs to none (R40). -/
def State.nextGroupPos (s : State) : Nat :=
  if s.comet.kind = .slot && s.comet.accum.isSome then s.comet.groupPos + 1 else 0

/-- L2 masks the starting slot's fire: an odd frame slot, or a group of odd ordinal (Table 2.9); a group keeps what held at its first slot. -/
def State.l2Masks (s : State) (groupMasked : Bool) : Bool :=
  decide (2 ≤ s.shedTick) && s.comet.kind == .slot
    && (if s.comet.accum.isSome then groupMasked else s.comet.frameDone % 2 == 1)

/-- Whether the group of the starting slot is one that L2 masks. -/
def State.groupMaskNow (s : State) : Bool :=
  if s.nextGroupPos = 1 then decide (2 ≤ s.shedTick) && s.comet.groupOrd % 2 == 1 else s.comet.groupMasked

/-- Fire of the starting slot is withheld as a whole: by a mask, by the mode or by WAITLOCK (R41, R60). -/
def maskWithholds (m : Nat) : Bool := maskNoWork m || bitAt m 0 || bitAt m 4 || bitAt m 5

/-- The fire commands of the starting slot, and the emitters whose fire the cap withholds. -/
def State.slotFires (s : State) (m : Nat) : List FireCmd × Nat :=
  match s.comet.wordFire with
  | some fw =>
    if s.comet.kind = .slot && !maskWithholds m && s.locked then
      let es := (bitsSet fw.emask 16).map fun e => (e, s.cappedEntry e fw.eidx)
      (es.filterMap fun p => p.2.map (s.fireCmd fw p.1), sumNat ((es.filter fun p => p.2.isNone).map fun p => 2 ^ p.1))
    else ([], 0)
  | none => ([], 0)

/-- A mask of Table 2.9 touches the starting slot (MASKED_SLOTS): it withholds something of it or changes a fire. -/
def State.maskTouches (s : State) (m capLost : Nat) (fires : List FireCmd) : Bool :=
  maskNoWork m || (s.comet.kind == .slot && (bitAt m 0 || bitAt m 4 || bitAt m 5)) || capLost != 0
    || (match s.comet.wordFire with
        | some fw => fires.any fun f => f.eidx != fw.eidx
        | none => false)

/-- The context of the slot that starts when Comet produces it. -/
def State.cometSlot (s : State) (m : Nat) : SlotCtx :=
  let c := s.comet
  let fr := s.slotFires m
  { live := true, kind := c.kind, frameOrd := c.frameOrd, frameSlot := c.frameDone, lastOfFrame := c.frameDone + 1 == c.frameLen, tag := c.tag
    newFrame := c.frameDone == 0, fires := fr.1, capLost := fr.2
    emask := if c.kind = .slot then (c.wordFire.map (·.emask)).getD 0 else 0
    withheld := c.kind == .slot && maskWithholds m
    noEcho := maskNoWork m || !s.locked, masked := s.maskTouches m fr.2 fr.1
    accum := if c.kind = .slot then c.accum else none
    single := if c.kind = .slot then c.single else none
    singleReset := c.singleReset, emit := c.emit, groupPos := s.nextGroupPos
    fine := (c.wordFire.map (·.fine)).getD 0, calSel := c.calSel, marks := c.wordMarks }

/-- Comet after producing the slot (R35, R40): marks fall in the first slot of a word only. -/
def Comet.produced (c : Comet) (pos : Nat) (masked : Bool) : Comet :=
  let full := match c.accum with
    | some (n, _) => decide (n ≤ pos)
    | none => false
  { c with left := c.left - 1, frameDone := c.frameDone + 1, singleReset := false, groupMasked := masked, wordMarks := []
           groupPos := if full then 0 else pos, groupOrd := if full then c.groupOrd + 1 else c.groupOrd }

/-- The channels whose CH_STATE satisfies a test, as bits (R98, R99). -/
def State.chanBits (s : State) (p : Nat → Bool) : Nat :=
  sumNat ((List.range 48).map fun ch => if p (s.reg (K.CH_STATE ch)) then 2 ^ ch else 0)

/-- The slot that starts (R12, R18 step 5), with the samples that will be taken in it, `sh` by the shadow slices. -/
def State.formSlot (s : State) (x sh : SlotSamples) : State × SlotCtx :=
  let produces := s.comet.running && decide (0 < s.comet.left)
  let gm := s.groupMaskNow
  let m := s.maskBits (s.l2Masks gm)
  let ctx0 := if produces then s.cometSlot m else {}
  let powered := s.chanBits fun c => c == 1 || c == 2
  let ctx := { ctx0 with
    no := s.slot, locked := s.locked, objs := s.objs
    amb := (List.range 48).map fun ch => s.reg (K.AMB_CODE ch)
    powered := powered, active := s.chanBits (· == 2), warming := s.chanBits (· == 1)
    samples := deliver s.sliceCalAt powered x, shadow := s.deliverShadow powered sh, shadowPos := s.cal.shadowPos
    angleSrc := s.reg K.ANGLE_SOURCE, degMode := s.mode == .degraded }
  let s := s.put K.MASK_NOW s.maskShow
  if produces then
    let s := s.onlyIf ctx.masked fun s => s.count K.MASKED_SLOTS
    let s := s.onlyIf (ctx.kind == .slot && bitAt m 5) fun s => s.count K.WITHHELD_SLOTS
    (s.setComet (s.comet.produced s.nextGroupPos gm), ctx)
  else (s, ctx)

/-! ### The edge and the end of a pulse (R63 to R67) -/

/-- Time of a fire edge from the tick, in ft: (64 + dither) smp + (FINE + calibrated delay) ft (Table 3.1). -/
def FireCmd.time (f : FireCmd) : Nat := (64 + f.dither) * 64 + f.fine + f.calE

/-- Both permit levels are on, so that the external switches pass the edge (R65). -/
def State.permitsOn (s : State) : Bool := s.ensB.permitA && s.ensB.permitB && !s.ensB.testLow

/-- The edge of one fire command: it leaves the ball when channel A released it and still lets it go (R320, R383) and
channel B holds both permits on (R65). -/
def edgeOf (s : State) (f : FireCmd) : State × FireCmd :=
  if f.fate = .planned && f.released then
    if s.permitsOn && !s.ensB.inhibited && s.lockedA then (s.tally (K.SHOTS_FIRED f.emitter), { f with fate := .fired })
    else suppressFire s f
  else (s, f)

/-- The end of one pulse: its width is over, or in DEGRADED channel A ends it at the cap, which counts as a cut (R66, R377). -/
def pulseEndOf (s : State) (f : FireCmd) : State × FireCmd :=
  if f.fate = .fired then
    if f.capEnd then (s.count (K.SHOTS_TRUNCATED f.emitter), { f with fate := .truncated }) else (s, { f with fate := .ended })
  else (s, f)

/-- An action on the fire commands of one emitter in the present slot. -/
def State.onFire (s : State) (e : Nat) (f : State → FireCmd → State × FireCmd) : State :=
  s.mapFires fun s c => if c.emitter = e then f s c else (s, c)

/-- Every edge and pulse end of the present slot that is still to come happens before the slot ends. -/
def State.finishFires (s : State) : State := (s.mapFires edgeOf).mapFires pulseEndOf

/-- The fire was a shot Ensign suppressed (R67, R123). -/
def FireCmd.suppressed (f : FireCmd) : Bool := f.fate == .suppressed || f.fate == .planned

/-- Marks of the present slot take effect in word order (R36, R45); how many there are still to issue. -/
def State.marksLeft (s : State) : Nat := s.pipe.cur.marks.length

end Sys2Proof.Machine
end

