-- ==== Sys2Proof/Machine/Mirror.lean ====
section
/-! DEFINITION. The mirror and the angle (R83 to R92, R486) and Ensign's own angle and its two sources (R373, R396, R397): the measured angle, the
position loop, tracking, parking and braking, and the SOL marks. -/

namespace Sys2Proof.Machine

/-! ### The drive and its target -/

/-- The drive is allowed (R86, R89). -/
def State.driveAllowed (s : State) : Bool :=
  (s.mode == .standby || s.mode == .selfTest || s.mode.isRunning) && decide (s.shedForce < 3)

/-- The mirror brakes or the part is off: the loop stops and integ is cleared (R89). Tracking ends at once, with its counts (log 49). -/
def State.mirBrake (s : State) : State :=
  let m := s.mir
  { (s.put K.MIR_STATE (if s.mode = .off then 0 else 1)).putI 16 K.DRIVE_NOW 0 with
    mir := { m with driveOn := false, started := false, integ := 0, ePrev := 0, clamped := false, pendingDrive := 0, applied := true, tracking := false
                    underTol := 0, overTol := 0 } }

/-- The mirror at every change that may forbid the drive (R89). -/
def State.mirGate (s : State) : State := if s.driveAllowed then s else s.mirBrake

/-- One step of a value towards a goal, by at most `r`. -/
def stepTowards (r : Nat) (goal x : Int) : Int := if x < goal then min (x + r) goal else max (x - r) goal

/-- The loop target and feed-forward of the slot that starts (R85, R86, R88): the trajectory while Comet runs, else the parking target, which feeds
nothing forward and moves from the last target; a drive that starts without a Comet stop before it parks at PARK_ANGLE. -/
def State.mirTargetOf (s : State) (live : Bool) (frameSlot : Nat) : Int × Int :=
  if live then trajOf s.plan.active frameSlot
  else if !s.mir.driveOn && !s.mir.ran then (s.regI 16 K.PARK_ANGLE, 0)
  else (stepTowards (s.reg K.PARK_RATE) (s.regI 16 K.PARK_ANGLE) s.mir.target, 0)

/-- MIR_STATE of a driven mirror (Table 3.5). -/
def State.mirCode (s : State) (live : Bool) : Nat :=
  if live then (if s.mir.tracking then 5 else 4) else if s.mir.target = s.regI 16 K.PARK_ANGLE then 3 else 2

/-- The mirror at a tick, for the slot that starts (R86, R88, R89). A slot without Comet ends tracking at once (log 49). -/
def State.mirTick (s : State) (live : Bool) (frameSlot : Nat) : State :=
  let s := if live then { s with mir := { s.mir with ran := true } } else s
  if s.driveAllowed then
    let tg := (s.mirTargetOf live frameSlot).1
    let m := s.mir
    let m := if m.driveOn then m else { m with driveOn := true, integ := 0, ePrev := 0, clamped := false }
    let m := if live then m else { m with tracking := false, underTol := 0, overTol := 0 }
    let s := { s with mir := { m with target := tg, parking := !live } }
    (s.putI 16 K.ANGLE_TARGET tg).put K.MIR_STATE (s.mirCode live)
  else if live then { s.mirBrake with mir := { s.mirBrake.mir with target := (trajOf s.plan.active frameSlot).1 } }
  else s.mirBrake

/-! ### The position loop (R85, R486) -/

/-- A gain in the loop's fixed point, 16 fractional bits (R486). -/
def State.gain16 (s : State) (k : Nat) : Int := rhe (f32Or0 (s.reg k) * 65536)

/-- The exact u of R85, times 65,536. -/
def State.loopU (s : State) (e integ ff : Int) : Int :=
  65536 * ff + s.gain16 K.MIR_KP * e + s.gain16 K.MIR_KI * integ + s.gain16 K.MIR_KD * (e - s.mir.ePrev)

/-- One pass of the loop with the measured angle of the slot before (R85, R486). -/
def State.loopStep (s : State) (meas ff : Int) : State :=
  let m := s.mir
  let e := m.target - meas
  let integ := if m.clamped then m.integ else clampInt (-2147483647) 2147483647 (m.integ + e)
  let lim : Int := s.reg K.MIR_ILIM
  let u := s.loopU e integ ff
  let cl := decide (65536 * lim < u.natAbs)
  let drive := rheDiv (clampInt (-(65536 * lim)) (65536 * lim) u) 65536
  let s := s.onlyIf cl fun s => s.count K.CLAMP_SLOTS
  { s with mir := { m with integ := integ, ePrev := e, clamped := cl, pendingDrive := drive, applied := false
                           frameErrMax := max m.frameErrMax e.natAbs } }

/-- R85: the computed current is applied. -/
def State.driveApply (s : State) : State :=
  if s.mir.applied || !s.mir.driveOn then s
  else { s.putI 16 K.DRIVE_NOW s.mir.pendingDrive with mir := { s.mir with applied := true } }

/-! ### The measured angle (R84, R87, R91, R344) -/

/-- Mean of two angle samples of which `usable` says which may be used, rounded half to even, none when neither may. -/
def meanOf (usable : Nat) (a b : Rat) : Option Int :=
  match bitAt usable 0, bitAt usable 1 with
  | true, true => some (rhe ((a + b) / 2))
  | true, false => some (rhe a)
  | false, true => some (rhe b)
  | false, false => none

/-- The angle of the slot that ended, and whether the service angle had to be held (R84, R91, R344). -/
def State.angleOf (s : State) : Int × Bool :=
  let c := s.pipe.prev
  if s.reg K.ANGLE_SOURCE = 2 then (c.target, false)
  else if s.reg K.ANGLE_SOURCE = 1 || !c.locked then (c.target + s.mir.solDiff, false)
  else match meanOf s.mir.ends s.mir.end0 s.mir.end1 with
    | some a => (a, false)
    | none => (s.regI 16 K.ANGLE_MEAS, true)

/-- Tracking after the angle of a followed slot (R87). -/
def State.trackStep (s : State) (err : Nat) : State :=
  let m := s.mir
  let under := if err ≤ s.reg K.TRACK_TOL then m.underTol + 1 else 0
  let above := if err ≤ s.reg K.TRACK_TOL then 0 else m.overTol + 1
  let tr := if 16 ≤ under then true else if 4 ≤ above then false else m.tracking
  { s with mir := { m with underTol := min under 16, overTol := min above 4, tracking := tr } }

/-! ### Ensign's angle (R373, R396) -/

/-- Ensign's own capacitive angle of the slot that ended, none when no sample was usable. -/
def Ensign.capAngle (n : Ensign) : Option Int :=
  match n.end0, n.end1 with
  | some a, some b => some (rhe ((a + b) / 2))
  | some a, none => some (rhe a)
  | none, some b => some (rhe b)
  | none, none => none

/-- R91, R397: what the two source losses mean for the service angle. -/
def State.sourceOf (s : State) : Nat :=
  if s.regBit K.SRC_STATE 0 then (if s.regBit K.SRC_STATE 1 then 2 else 1) else 0

/-- Declares or withdraws, at a sample of the present slot, the loss of one source (R396, R397): bit 0 capacitive, bit 1 SOL. Both lost are a cause; any loss restarts DEG_CLEAN. -/
def State.setLost (s : State) (bit sample : Nat) (lost : Bool) : State :=
  if s.regBit K.SRC_STATE bit == lost then s
  else
    let s := s.putBit K.SRC_STATE bit lost
    let s := s.put K.ANGLE_SOURCE s.sourceOf
    let s := s.onlyIf lost fun s => { s.put K.DEG_CLEAN 0 with ensB := { s.ensB with cleanUs := 0 } }
    if s.reg K.SRC_STATE = 3 then s.violate 4 sample else s

/-- Plausibility of the capacitive source in the slot that ended (R396), and the loss or return it leads to. -/
def State.capJudge (s : State) : State :=
  let n := s.ens
  let c := n.capAngle
  let own := c.getD n.own
  let ok := c.isSome && n.mexcOk && decide ((own - n.own).natAbs ≤ s.inForce K.JUMP_MAX)
  let bad := if ok then 0 else n.badRun + 1
  let good := if ok then n.goodRun + 1 else 0
  let s := { s with ens := { n with own := own, badRun := min bad 4, goodRun := min good 16, agreedSinceLoss := n.agreedSinceLoss && decide (16 ≤ good) } }
  if !s.regBit K.SRC_STATE 0 then
    if 4 ≤ bad then { s.setLost 0 200 true with ens := { s.ens with agreedSinceLoss := false } } else s
  else if s.ens.agreedSinceLoss then s.setLost 0 200 false else s

/-- θ_E of the slot that ended enters Ensign's history, the substitute angle while the capacitive source is lost (R373, R396). -/
def State.thPush (s : State) : State :=
  let th := if s.regBit K.SRC_STATE 0 then s.pipe.prev.target + s.ens.subOffset else s.ens.own
  { s with ens := { s.ens with th := (th :: s.ens.th).take 6 } }

/-- Forward crossing of an angle between two successive mid-slot angles, in the later of the two slots (log 49). -/
def crosses (a p q : Int) : Bool := decide (p < a ∧ a ≤ q)

/-- Ensign notes a crossing of a sealed angle by θ_E in a forward run whose mark has not come yet: it must follow within 16 slots (R397). The edge of a mark may
stand just ahead of the angle of its slot's middle, and counts (log 49). -/
def State.crossNote (s : State) : State :=
  let due := fun (k : Nat) (seen : Bool) (p q : Int) => s.reg K.DIR_NOW == 1 && !seen && crosses (s.inForceI (K.SOL_SEALED k)) p q
  match s.ens.th with
  | q :: p :: _ =>
    let a := if due 0 s.ens.markA p q then some 0 else s.ens.crossA
    let b := if due 1 s.ens.markB p q then some 0 else s.ens.crossB
    { s with ens := { s.ens with crossA := a, crossB := b } }
  | _ => s

/-- ANGLE_MEASURED (R84): the angle of the slot that ended is complete; the loop computes the current of the present slot, tracking is
judged and Ensign takes its own angle. In a slot of lock loss the loop holds its last output: integ, e_prev and the counts of the loop stand still
(log 49). -/
def State.angleMeasured (s : State) : State :=
  if !s.mir.angleDue then s
  else
    let q := s.angleOf
    let r : Int × Bool := (if -32768 ≤ q.1 ∧ q.1 ≤ 32767 then q.1 else Config.unstated "ANGLE_MEAS" [q.1], q.2)
    let p := s.pipe.prev
    let s := s.onlyIf r.2 fun s => s.count K.CA_ANGLE_HOLDS
    let s := s.putI 16 K.ANGLE_MEAS r.1
    let s := { s with mir := { s.mir with angleDue := false }
                      pipe := { s.pipe with prev := { p with angle := r.1, angleSrc := max p.angleSrc (s.reg K.ANGLE_SOURCE) } } }
    let s := if p.live then s.trackStep (p.target - r.1).natAbs else s
    let s := if s.mir.driveOn && s.locked then s.loopStep r.1 (s.mirTargetOf s.pipe.cur.live s.pipe.cur.frameSlot).2 else s
    let s := if s.mir.driveOn then s.put K.MIR_STATE (s.mirCode s.pipe.cur.live) else s
    if s.mode.coreRuns then (s.capJudge.thPush).crossNote else s

/-! ### SOL marks (R90, R397) -/

/-- Slots from the present one to the nearest forward crossing of an angle by the trajectory, none beyond SOL_WIN: the one behind it, `past` slots ago, or the
first ahead, where a frame of the same length is taken to follow (log 49). -/
def State.crossGap (s : State) (a : Int) (past : Nat) : Option Nat :=
  let w := s.reg K.SOL_WIN
  let ahead := (List.range (w + 1)).find? fun d =>
    let f := (s.pipe.cur.frameSlot + d) % max 1 s.comet.frameLen
    let before := if f = 0 then s.comet.frameLen - 1 else f - 1
    (decide (0 < f) || decide (0 < d)) && crosses a (trajOf s.plan.active before).1 (trajOf s.plan.active f).1
  match ahead with
  | some d => some (min d past)
  | none => if past ≤ w then some past else none

/-- The mark an edge of the present slot is accepted as: 0 for A, 1 for B, the nearer when both windows hold it (R90). -/
def State.solMark (s : State) : Option Nat :=
  if !s.pipe.cur.live then none
  else match s.crossGap (s.regI 16 K.SOL_ANGLE_A) s.mir.pastA, s.crossGap (s.regI 16 K.SOL_ANGLE_B) s.mir.pastB with
    | some x, some y => some (if x ≤ y then 0 else 1)
    | some _, none => some 0
    | none, some _ => some 1
    | none, none => none

/-- SOL_EDGE: an edge outside both windows is a fault, an accepted one is no longer missing; its angle follows once the angle samples beside it are there. Without
PLL A lock it is ignored (R90). `service` and `ensign` say who has seen it (log 49). -/
def State.solEdge (s : State) (i : Nat) (service ensign : Bool) : State :=
  if !s.locked || !(service || ensign) then s
  else
    let k := if service then s.solMark else none
    let s := if service && k.isNone then s.count K.SOL_FAULTS else s
    let m := { s.mir with edges := s.mir.edges ++ [{ at_ := i, mark := k, target := s.pipe.cur.target, forward := s.reg K.DIR_NOW == 1, service, ensign }] }
    { s with mir := match k with
      | some 0 => { m with sinceA := 0, awaitA := none }
      | some _ => { m with sinceB := 0, awaitB := none }
      | none => m }

/-- The edge counted from the next slot's tick. -/
def SolEdge.shift (e : SolEdge) : SolEdge := { e with at_ := e.at_ - 11200 }

/-- The angle at sample `i` on the line through the two angle samples nearest it, `before` and `after`, whose centres lie at samples 2,800 and 8,400 of each slot
(R90); where only one of them is usable it serves alone (log 49). -/
def interpAngle (i : Int) (before after : Option Rat) : Option Rat :=
  let t0 : Int := if i < 2800 then -2800 else if i < 8400 then 2800 else 8400
  match before, after with
  | some a, some b => some (a + (b - a) * ((i - t0 : Int) : Rat) / 5600)
  | some a, none => some a
  | none, o => o

/-- The service angle samples beside sample `i` of the present slot, or of the end of the slot before it. -/
def Mirror.beside (m : Mirror) (i : Int) : Option Rat × Option Rat :=
  let use := fun (b : Bool) (x : Rat) => if b then some x else none
  let h0 := use (bitAt m.halves 0) m.half0
  if i < 2800 then (use (bitAt m.ends 1) m.end1, h0) else (h0, use (bitAt m.halves 1) m.half1)

/-- The same of Ensign. -/
def Ensign.beside (n : Ensign) (i : Int) : Option Rat × Option Rat := if i < 2800 then (n.end1, n.cap0) else (n.cap0, n.cap1)

/-- The service side of an edge whose angle is known (R90, R91). -/
def State.solService (s : State) (e : SolEdge) (ang : Rat) : State :=
  match e.mark with
  | none => s
  | some k =>
    let known := s.regI 16 (if k = 0 then K.SOL_ANGLE_A else K.SOL_ANGLE_B)
    let s := s.putI 16 (if k = 0 then K.SOL_ERR_A else K.SOL_ERR_B) (roundOpen "SOL_ERR" (ang - (known : Rat)))
    { s with mir := { s.mir with solDiff := roundOpen "SOL_DIFF" (ang - (e.target : Rat)) } }

/-- The cause SRC_CONFLICT (R397); it restarts DEG_CLEAN. -/
def State.srcConflict (s : State) (i : Nat) : State :=
  let s := s.violate 3 i
  { s.put K.DEG_CLEAN 0 with ensB := { s.ensB with cleanUs := 0 } }

/-- A rational's distance from zero is at most `n`. -/
def within (x : Rat) (n : Nat) : Bool := decide (-(n : Rat) ≤ x ∧ x ≤ (n : Rat))

/-- Ensign's side of an edge (R396, R397): the nearer sealed angle says which mark it is, and the capacitive source is plausible as the newest slot judged has
it (log 49). While it is lost, a mark that agrees after 16 plausible slots brings it back. -/
def State.solEnsign (s : State) (e : SolEdge) (own : Rat) : State :=
  let lost := s.regBit K.SRC_STATE 0
  let ang := if lost then ((e.target + s.ens.subOffset : Int) : Rat) else own
  let a : Rat := s.inForceI (K.SOL_SEALED 0)
  let b : Rat := s.inForceI (K.SOL_SEALED 1)
  let da := if ang ≤ a then a - ang else ang - a
  let db := if ang ≤ b then b - ang else ang - b
  let isA := decide (da ≤ db)
  let sa := if isA then a else b
  let off := roundOpen "SOL_OFFSET" (sa - (e.target : Rat))
  let tol := s.inForce K.AGREE_TOL
  let agrees := if lost then
      (match s.ens.lastMarkOffset with
       | some o => within ((off - o : Int) : Rat) tol
       | none => true)
    else within (ang - sa) tol
  let conflict := (!agrees && (lost || (s.reg K.SRC_STATE == 0 && s.ens.badRun == 0))) || (!isA && !s.ens.markA && e.forward)
  let n := s.ens
  let n := { n with
    markA := n.markA || isA, markB := n.markB || !isA, markDisagreed := n.markDisagreed || !agrees
    crossA := if isA then none else n.crossA, crossB := if isA then n.crossB else none
    subOffset := if agrees then off else n.subOffset, lastMarkOffset := some off
    agreedSinceLoss := n.agreedSinceLoss || (lost && agrees && n.goodRun == 16) }
  let s := { s with ens := n }
  if conflict then s.srcConflict e.at_.toNat else s

/-- An angle no sample gives: the spec states none (log 49). -/
def State.angleOr (s : State) (o : Option Rat) : Rat × State :=
  match o with
  | some a => (a, s)
  | none => let d := s.draw; ((Config.unstated "SOL_ANGLE" [(d.1 : Int)] : Rat), d.2)

/-- One edge whose angle samples are there. -/
def State.solTake (s : State) (e : SolEdge) : State :=
  let s := s.onlyIf e.service fun s =>
    let b := s.mir.beside e.at_
    let x := s.angleOr (interpAngle e.at_ b.1 b.2)
    x.2.solService e x.1
  s.onlyIf e.ensign fun s =>
    let c := s.ens.beside e.at_
    let y := s.angleOr (interpAngle e.at_ c.1 c.2)
    y.2.solEnsign e y.1

/-- The edges whose angle samples the present slot has completed (R90, R397). -/
def State.solResolve (s : State) : State :=
  let ready := s.mir.edges.filter fun e => decide (e.at_ < 8400)
  let s := { s with mir := { s.mir with edges := s.mir.edges.filter fun e => decide (8400 ≤ e.at_) } }
  s.forEach ready State.solTake

/-- R397 at the start of a forward run: what the run before showed of the SOL source. -/
def State.solRun (s : State) : State :=
  let n := s.ens
  let miss := if n.missingInRun then n.missingRuns + 1 else 0
  let agree := if n.markA && n.markB && !n.markDisagreed && !n.missingInRun then n.agreeRuns + 1 else 0
  let s := { s with ens := { n with markA := false, markB := false, markDisagreed := false, missingInRun := false, missingRuns := min miss 2, agreeRuns := min agree 2 } }
  if !s.regBit K.SRC_STATE 1 then (if 2 ≤ miss then s.setLost 1 0 true else s)
  else if 2 ≤ agree then s.setLost 1 0 false else s

/-- Ages of what waits for a mark, one slot older. -/
def older (o : Option Nat) : Option Nat := o.map (· + 1)

/-- The marks that count as missing now (R90, R397): Ensign's after 16 slots, the service ones after SOL_WIN slots. -/
def State.solMissing (s : State) : State :=
  let late := fun (o : Option Nat) (n : Nat) => match o with
    | some x => decide (n < x)
    | none => false
  let e := s.mir.edges.isEmpty && (late s.ens.crossA 16 || late s.ens.crossB 16)
  let w := s.reg K.SOL_WIN
  let fa := late s.mir.awaitA w
  let fb := late s.mir.awaitB w
  let s := s.countBy K.SOL_FAULTS (ofBool fa + ofBool fb)
  let n := s.ens
  { s with
    ens := { n with missingInRun := n.missingInRun || e, crossA := if e && late n.crossA 16 then none else n.crossA
                    crossB := if e && late n.crossB 16 then none else n.crossB }
    mir := { s.mir with awaitA := if fa then none else s.mir.awaitA, awaitB := if fb then none else s.mir.awaitB } }

/-- SOL bookkeeping of a tick: one slot older, and the trajectory's own crossings in the slot that starts, those from a frame's last slot among them. In lock loss no mark is awaited, since no edge would
be seen (log 49). -/
def State.solTick (s : State) (c : SlotCtx) : State :=
  let m := s.mir
  let p := s.pipe.prev
  let before : Int := if 0 < c.frameSlot then (trajOf s.plan.active (c.frameSlot - 1)).1 else p.target
  let hit := fun (k : Nat) => c.live && (decide (0 < c.frameSlot) || p.live) && crosses (s.regI 16 k) before (trajOf s.plan.active c.frameSlot).1
  let w := s.reg K.SOL_WIN
  let m := { m with
    sinceA := min (m.sinceA + 1) 100000, sinceB := min (m.sinceB + 1) 100000
    pastA := if hit K.SOL_ANGLE_A then 0 else min (m.pastA + 1) 100000, pastB := if hit K.SOL_ANGLE_B then 0 else min (m.pastB + 1) 100000
    awaitA := if !s.locked then none else if hit K.SOL_ANGLE_A && decide (w < m.sinceA + 1) then some 0 else older m.awaitA
    awaitB := if !s.locked then none else if hit K.SOL_ANGLE_B && decide (w < m.sinceB + 1) then some 0 else older m.awaitB }
  ({ s with mir := m, ens := { s.ens with crossA := older s.ens.crossA, crossB := older s.ens.crossB } }).solMissing

end Sys2Proof.Machine
end

