-- ==== Sys2Proof/Machine/Housekeeping.lean ====
section
/-! DEFINITION. Chapter 13: the HK sequence table, its triggers, urgent requests, service conversions, the charge amplifiers and the
linearisation of the sensors. -/

namespace Sys2Proof.Machine

def State.setHk (s : State) (h : Hk) : State := { s with hk := h }

/-! ### Linearisation (R346) -/

/-- Zone temperature of a sensor pair in 1/16 °C, none while it is in break (R114, R439). -/
def State.pairTemp (s : State) (z : Nat) : Option Int :=
  if s.reg (K.ZONE_TEMP z) = 0x8000 then none else some (s.regI 16 (K.ZONE_TEMP z))

/-- Fields of a sequence table word (Table 13.2). -/
def hkInput (w : Nat) : Nat := bits w 31 27
def hkRange (w : Nat) : Nat := bits w 26 25
def hkAvg (w : Nat) : Nat := bits w 24 23
def hkWait (w : Nat) : Nat := bits w 22 21
def hkRepeat (w : Nat) : Nat := bits w 12 5

/-- Input groups of Table 13.1. -/
def hkGroup (input : Nat) : Nat :=
  if input ≤ 7 then 0 else if input ≤ 13 ∨ input = 26 ∨ input = 27 then 2 else if input = 20 then 4
  else if input = 21 ∨ input = 22 then 3 else if 23 ≤ input ∧ input ≤ 25 then 5 else 1

/-- The newest result of RTD `n` is FRESH. -/
def State.rtdFresh (s : State) (n : Nat) : Bool :=
  (List.range 64).any fun e => hkInput (s.reg (K.HK_SEQ e)) == 21 + n && bitAt (s.reg (K.HK_RESULT e)) 24

/-- The temperature a sensor's polynomial uses, and whether its source is in break or not fresh; then it is the last valid one of that source: an RTD's
output stands at it, and the pair's is kept by `zoneEval`. -/
def State.sensT (s : State) (n : Nat) : Rat × Bool :=
  match s.reg (K.SENS_TSEL n) with
  | 0 => (0, false)
  | 3 => (s.ens.lastT, (s.pairTemp 4).isNone)
  | k => (f32Or0 (s.reg (K.SENS_OUT (k - 1))), !(s.reg (K.RTD_STATE (k - 1)) == 0 && s.rtdFresh (k - 1)))

/-- Evaluates sensor `n` at `x`: SENS_OUT and SENS_FLAGS. -/
def State.sense (s : State) (n : Nat) (x : Rat) : State :=
  let t := s.sensT n
  let p := polyPattern (s.coefs (0x6880 + n)) (ratToF32 x) (ratToF32 t.1)
  let bad := f32NotFinite p
  let s := s.put (K.SENS_FLAGS n) (ofBool t.2 + 2 * ofBool bad)
  if bad then s else s.put (K.SENS_OUT n) p

/-! ### Conversions and results (R330 to R333, R348, R349) -/

/-- Gain code that AUTO chooses: the highest gain whose full scale exceeds the input by at least 20 % (R330). -/
def autoGain (coarse : Int) : Nat :=
  if coarse.natAbs * 16 * 12 ≤ 32768 * 10 then 2 else if coarse.natAbs * 4 * 12 ≤ 32768 * 10 then 1 else 0

/-- Resistance in ohms of a code at gain ×4 under 250 µA: 15.625 µV per code. -/
def rtdOhm (code : Int) : Rat := (code : Rat) / 16

/-- A lead in mΩ as RTD_LEAD_R shows it. -/
def leadReg (r : Rat) : Nat :=
  let v := roundOpen "RTD_LEAD_R" (r * 1000)
  if 0 ≤ v ∧ v ≤ 65535 then v.toNat else (Config.unstated "RTD_LEAD_R" [v]).toNat % 65536

/-- One conversion of RTD `n`: its resistance in ohms, and the state with the lead measured (R348). With an open lead nothing is learnt of the
leads. -/
def State.rtdConvert (s : State) (n : Nat) (r : HkReading) : Rat × State :=
  let d := s.hk.rtds.getD n {}
  let flip := { d with odd := !d.odd }
  let keep := fun (s : State) (d : Rtd) => s.setHk { s.hk with rtds := setAt {} s.hk.rtds n d }
  if s.reg (K.RTD_WIRING n) = 1 then (rtdOhm r.code, s)
  else if r.leads ≠ 0 then (0, keep s flip)
  else
    let lead := rtdOhm (r.code - r.idle)
    let e := if d.odd then { flip with leadB := some lead } else { flip with leadA := some lead }
    let s := (keep s e).put (K.RTD_LEAD_R (2 * n + ofBool d.odd)) (leadReg lead)
    let a := e.leadA.getD lead
    let b := e.leadB.getD lead
    (rtdOhm r.idle - (a + b) / 2, s)

/-- The values of an entry combined as AVG says (R332); the mean of codes and mantissas is rounded half to even, that of resistances is exact. -/
def hkCombine (avg : Nat) (rtd : Bool) (l : List Rat) : Rat :=
  match avg with
  | 1 =>
    let m := l.foldl (· + ·) 0 / (l.length : Rat)
    if rtd then m else (rhe m : Rat)
  | 2 => l.foldl max (l.headD 0)
  | 3 => l.foldl min (l.headD 0)
  | _ => l.getLastD 0

/-- Volts per code or mantissa step at a gain code, at the input of Table 13.1 itself for inputs 0 to 7 (R329, R330). -/
def hkStep (auto : Bool) (gain : Nat) : Rat := (if auto then 250 else 125 / 2) / 1000000 / (4 ^ gain : Nat)

/-- A result register (Table 13.3). -/
def hkWord (group value loop : Nat) (retried broken tagged : Bool) : Nat :=
  group * 2 ^ 28 + ofBool retried * 2 ^ 27 + ofBool broken * 2 ^ 26 + ofBool tagged * 2 ^ 25 + 2 ^ 24 + loop % 256 * 2 ^ 16 + value

/-- The result of an RTD: its state, breaks and output, and the value of its result register (R348, R349). -/
def State.rtdResult (s : State) (n : Nat) (ohm : Rat) (leads : Nat) : Nat × State :=
  let s := s.put (K.RTD_BREAK_LEADS n) leads
  let s := if n = 0 then s.setHk { s.hk with rtdAge := 0 } else s
  if leads ≠ 0 then
    (0xFFFF, (s.onlyIf (s.reg (K.RTD_STATE n) != 1) fun s => s.count (K.RTD_BREAKS n)).put (K.RTD_STATE n) 1)
  else
    let x := ohm / 1000 - 1
    let s := (s.put (K.RTD_STATE n) 0).sense n x
    let v := rhe (f32Or0 (s.reg (K.SENS_OUT n)) * 16)
    (ofSigned 16 (if -32768 ≤ v ∧ v ≤ 32767 then v else Config.unstated "RTD_VALUE" [v]), s)

/-- The result register's value of a combination of conversions, and the sensor it feeds. -/
def State.hkValue (s : State) (input : Nat) (auto : Bool) (gain : Nat) (v : Rat) (leads : Nat) : Nat × State :=
  if input = 21 ∨ input = 22 then s.rtdResult (input - 21) v leads
  else
    let n := rhe v
    (if auto then gain * 2 ^ 14 + ofSigned 14 n else ofSigned 16 n, s)

/-- Level of an input that lies within the GZ48, in codes at gain ×1: the reference, the short and the test DAC (Table 13.1). -/
def State.hkLevel (s : State) (input : Nat) : Option Int :=
  match input with
  | 23 => some 19200
  | 24 => some 0
  | 25 => some (s.regI 16 K.HK_TEST_DAC)
  | _ => none

/-- What the converter makes of an input at a RANGE code: of a level within the GZ48 its code or, under AUTO, its mantissa (R329, R330); of another
input what the reading brings. The spec states no error of the converter (log 53). -/
def State.hkRead (s : State) (input range : Nat) (r : HkReading) : HkReading :=
  match s.hkLevel input with
  | some v =>
    let m := roundOpen "HK_MANTISSA" (((v * (4 : Int) ^ autoGain v : Int) : Rat) / 4)
    { r with coarse := v, code := if range = 3 then clampInt (-8192) 8191 m else clampInt (-32768) 32767 (v * (4 : Int) ^ range) }
  | none => r

/-- Compact stamp of the sampling instant of a conversion that ends at `cc`: 350 cc before (R332). -/
def State.hkStampOf (s : State) (cc : Nat) : Nat := s.stampAt (4 * (cc : Int) - 1400)

/-! ### The sequencer (R331, R332, R334, R336, R337) -/

/-- Word of table entry `e`. -/
def State.hkEntryWord (s : State) (e : Nat) : Nat := s.reg (K.HK_SEQ e)

/-- Entries of the table in force that take part in passes. -/
def State.hkLive (s : State) : List Nat := (List.range (s.reg K.HK_SEQ_LEN)).filter fun e => hkRepeat (s.hkEntryWord e) != 0

/-- The trigger kind `k` (1 slot tick, 2 MARK, 3 HK timer) is armed. -/
def State.hkArmed (s : State) (k : Nat) : Bool := s.hkLive.any fun e => hkWait (s.hkEntryWord e) == k

/-- The entry reached is skipped: its FRESH bit clears. -/
def State.hkSkip (s : State) (e : Nat) : State := s.onlyIf (s.regBit (K.HK_RESULT e) 24) fun s => s.putBit (K.HK_RESULT e) 24 false

/-- Moves on from entry `e`; after the last one the pass is complete. -/
def State.hkNext (s : State) (e cc : Nat) : State :=
  if e + 1 < s.reg K.HK_SEQ_LEN then s.put K.HK_ENTRY (e + 1)
  else
    let t := if s.hkLive.isEmpty then 1 else (roundOpen "HK_PASS_TIME" (((cc : Int) - s.hk.passAt : Int) / (1400 : Rat))).toNat % 2 ^ 32
    (((s.tally K.HK_PASS).put K.HK_PASS_TIME t).put K.HK_ENTRY 0).setHk { s.hk with passAt := cc }

/-- Starts the entry in progress. -/
def State.hkBegin (s : State) : State :=
  (s.put K.HK_STATE 1).setHk { s.hk with started := true, retried := s.hk.aborted, aborted := false, vals := [], open_ := 0 }

/-- Starts the entry in progress, or waits for its trigger; a latch that is set starts it and clears (R334). An entry that an urgent request
aborted does not wait again (R340). -/
def State.hkReach (s : State) : State :=
  let k := hkWait (s.hkEntryWord (s.reg K.HK_ENTRY))
  if k = 0 || s.hk.aborted then s.hkBegin
  else if s.regBit K.TRIG_LATCHED (k - 1) then (s.putBit K.TRIG_LATCHED (k - 1) false).hkBegin
  else s.put K.HK_STATE 2

/-- Passes over skipped entries to the next that converts. -/
def State.hkSeek (s : State) (cc : Nat) : Nat → State
  | 0 => s
  | n + 1 =>
    let e := s.reg K.HK_ENTRY
    if hkRepeat (s.hkEntryWord e) = 0 then ((s.hkSkip e).hkNext e cc).hkSeek cc n else s.hkReach

/-- HK_ENTRY: the sequencer takes up its next entry. A table of skipped entries makes one pass of 1.0 µs. -/
def State.hkEntry (s : State) (cc : Nat) : State :=
  if !s.hk.on || s.hk.started || !s.hk.urgent.isEmpty then s
  else if s.hkLive.isEmpty then s.hkSeek cc (s.reg K.HK_SEQ_LEN - s.reg K.HK_ENTRY)
  else s.hkSeek cc 65

/-- Passes of a table of skipped entries that end in the present slot, 1.0 µs each (R332). -/
def State.hkIdlePasses (s : State) : Nat → State
  | 0 => s
  | n + 1 =>
    let t := s.hk.passAt + 1400
    if s.hk.on && !s.hk.started && s.hk.urgent.isEmpty && decide (t ≤ 2800) && s.hkLive.isEmpty then (s.hkEntry t.toNat).hkIdlePasses n else s

/-- A trigger of kind `k` arrives (R334). -/
def State.hkArrive (s : State) (k : Nat) : State :=
  if !s.hk.on || !s.hkArmed k then s
  else if s.reg K.HK_STATE = 2 && hkWait (s.hkEntryWord (s.reg K.HK_ENTRY)) == k then s.hkBegin
  else if s.regBit K.TRIG_LATCHED (k - 1) then s.count K.TRIG_OVERRUN
  else s.putBit K.TRIG_LATCHED (k - 1) true

/-- HK_TRIGGER: the slot tick and the MARKs of the slot that ended take effect 40 cc after the tick. -/
def State.hkTrigger (s : State) : State :=
  let marks := s.hk.markDue
  let tick := s.hk.tickDue
  let s := s.setHk { s.hk with tickDue := false, markDue := 0 }
  let s := s.onlyIf tick fun s => s.hkArrive 1
  s.forRange marks fun s _ => s.hkArrive 2

/-- The HK timer fires in the present slot. -/
def State.hkTimerDue (s : State) : Bool := s.hk.on && decide (s.hk.fireAt - s.hk.timer < 4)

/-- HK_TIMER_EXPIRE (R334). -/
def State.hkTimerExpire (s : State) : State :=
  if s.hkTimerDue then (s.setHk { s.hk with fireAt := s.hk.fireAt + s.reg K.HK_TIMER }).hkArrive 3 else s

/-- Result of an entry whose conversions are complete (R332, R333). -/
def State.hkWrite (s : State) (e cc : Nat) : State :=
  let w := s.hkEntryWord e
  let input := hkInput w
  let rtd := input == 21 || input == 22
  let auto := hkRange w == 3 && !rtd
  let gain := if auto then s.hk.gain else hkRange w
  let v := hkCombine (hkAvg w) rtd s.hk.vals
  let r := s.hkValue input auto gain v s.hk.open_
  let s := r.2
  let s := s.put (K.HK_RESULT e) (hkWord (hkGroup input) r.1 (s.reg K.HK_PASS) s.hk.retried (rtd && s.hk.open_ != 0) auto)
  let s := s.put (K.HK_STAMP e) (s.hkStampOf cc)
  if input ≤ 7 then s.sense (7 + input) (v * hkStep auto gain) else s

/-- HK_CONVERSION_DONE (R330, R332, R348). -/
def State.hkConversion (s : State) (r : HkReading) : State :=
  if !s.hk.on || !s.hk.started || !s.hk.urgent.isEmpty then s
  else
    let e := s.reg K.HK_ENTRY
    let w := s.hkEntryWord e
    let input := hkInput w
    let r := s.hkRead input (hkRange w) r
    let s := if s.hk.vals.isEmpty then s.setHk { s.hk with gain := autoGain r.coarse } else s
    let q : Rat × State := if input = 21 ∨ input = 22 then s.rtdConvert (input - 21) r else (r.code, s)
    let s := q.2.setHk { q.2.hk with vals := q.2.hk.vals ++ [q.1], open_ := q.2.hk.open_ ||| r.leads }
    if s.hk.vals.length < hkRepeat w then s
    else
      let s := (s.hkWrite e r.cc).hkNext e r.cc
      s.setHk { s.hk with started := false, retried := false, vals := [], open_ := 0 }

/-- Every FRESH bit clears. -/
def State.freshClear (s : State) : State := s.forRange 64 State.hkSkip

/-- The HK ADC starts at entry 0 with the table in force (R336). -/
def State.hkStart (s : State) : State :=
  if s.hk.on then s
  else ((s.put K.HK_STATE 1).put K.HK_ENTRY 0).setHk { s.hk with
    on := true, started := false, aborted := false, vals := [], timer := -4, fireAt := s.reg K.HK_TIMER, passAt := 0, tickDue := false, markDue := 0, urgent := [] }

/-- The HK ADC stops (R336). -/
def State.hkStop (s : State) : State :=
  ((s.freshClear.put K.HK_STATE 0).put K.TRIG_LATCHED 0).setHk { s.hk with
    on := false, started := false, aborted := false, vals := [], urgent := [], tickDue := false, markDue := 0 }

/-- The HK timer's next expiry at or after an instant: the multiples of HK_TIMER, counted from the first tick after the HK ADC started (log 53). -/
def State.timerFrom (s : State) (now : Int) : Int :=
  let t : Int := max 1 (s.reg K.HK_TIMER)
  max t ((now + t - 1) / t * t)

/-- Activation of CG18 (R334, R337); `before` are the registers in force before it, `cc` its tick counted from the present slot. -/
def State.hkCommit (s : State) (before : List (Nat × Nat)) (cc : Int) : State :=
  let s := s.freshClear
  let s := s.forRange 64 fun s e => if regOf before (K.HK_SEQ e) = s.reg (K.HK_SEQ e) then s else s.put (K.HK_RESULT e) 0xF0000000
  let s := (s.put K.TRIG_LATCHED 0).put K.HK_ENTRY 0
  let s := if s.hk.on && s.hk.urgent.isEmpty then s.put K.HK_STATE 1 else s
  let fire := if s.reg K.HK_TIMER = regOf before K.HK_TIMER then s.hk.fireAt else s.timerFrom (s.hk.timer + cc / 700)
  s.setHk { s.hk with started := false, aborted := false, vals := [], open_ := 0, passAt := cc, fireAt := fire }

/-! ### Urgent requests (R338 to R340) -/

/-- Puts a request into the queue, which has room; the first one aborts the table conversion in progress. -/
def State.urgentPush (s : State) (u : Urgent) : State :=
  let s := if s.hk.urgent.isEmpty && s.hk.started then
      (s.count K.URGENT_ABORTS).setHk { s.hk with started := false, aborted := true, vals := [], open_ := 0 }
    else s
  (s.put K.HK_STATE 3).setHk { s.hk with urgent := s.hk.urgent ++ [u] }

/-- The queue can take a request. -/
def State.urgentRoom (s : State) : Bool := s.hk.on && decide (s.hk.urgent.length < 4)

/-- HK_URGENT: a host request; false where it is refused (R338). -/
def State.hkUrgent (s : State) (v : Nat) : Bool × State :=
  if s.urgentRoom then (true, s.urgentPush { input := bits v 4 0, range := bits v 6 5 }) else (false, s.count K.URGENT_REFUSED)

/-- The request at the head completes: the state without it, the code or mantissa at its gain, and whether it is Ensign's (R339). A host request's
result goes to URGENT_RESULT. -/
def State.urgentDone (s : State) (r : HkReading) : State × Option Int :=
  match s.hk.urgent with
  | [] => (s, none)
  | u :: rest =>
    let s := s.setHk { s.hk with urgent := rest }
    let s := if rest.isEmpty then s.put K.HK_STATE (if s.hk.aborted then 1 else if s.hk.started then 1 else
        if hkWait (s.hkEntryWord (s.reg K.HK_ENTRY)) != 0 && hkRepeat (s.hkEntryWord (s.reg K.HK_ENTRY)) != 0 then 2 else 1) else s
    if u.ensign then (s, some (s.hkRead u.input u.range r).code)
    else
      let rtd := u.input == 21 || u.input == 22
      let auto := u.range == 3 && !rtd
      let r := s.hkRead u.input u.range r
      let q : Rat × State := if rtd then s.rtdConvert (u.input - 21) r else (r.code, s)
      let v := q.2.hkValue u.input auto (if auto then autoGain r.coarse else u.range) q.1 r.leads
      let s := v.2.setHk { v.2.hk with served := v.2.hk.served + 1 }
      (s.put K.URGENT_RESULT (hkWord (hkGroup u.input) v.1 s.hk.served false (rtd && r.leads != 0) auto), none)

/-! ### Service conversions (R335, R427, R78) -/

/-- The service conversion of VIN: one code is 3.125 mV (R427). -/
def State.vinService (s : State) (code : Int) : State :=
  let v := (clampInt 0 65535 (roundOpen "VIN_MEAS" ((code : Rat) * 5 / 16))).toNat
  ((s.put K.VIN_MEAS v).put K.VIN_MIN (min (s.reg K.VIN_MIN) v)).put K.VIN_MAX (max (s.reg K.VIN_MAX) v)

/-- VLAS_MEAS in 10 mV of a converter code at gain ×1: one code is 2.5 mV of VLAS (R77). The rest of the device takes the code. -/
def vlasOf (code : Int) : Nat := (clampInt 0 65535 (roundOpen "VLAS_MEAS" ((code : Rat) / 4))).toNat

/-- VIN_MINMAX_CLR (R427). -/
def State.vinClear (s : State) (v : Nat) : State := if v = 1 then (s.put K.VIN_MIN 0xFFFF).put K.VIN_MAX 0 else s

/-! ### Charge amplifiers (R341 to R345) -/

/-- Charge in pC of a mantissa in a range (Table 13.5). -/
def chargeOf (range : Nat) (m : Int) : Rat := (m : Rat) * (4 ^ range : Nat) / 16384

/-- Amplifier `a` holds the range of CA_RANGE in the present mode (R342). -/
def State.caFixed (s : State) (a : Nat) : Bool :=
  s.mode.isScanning || s.mode == .degraded || s.reg (K.CA_AUTO a) == 0

/-- CA_RANGE_CHANGE: the reset instant of amplifier `a` (R342, R343). -/
def State.caReset (s : State) (a : Nat) : State :=
  let c := s.hk.amps.getD a {}
  let now := s.reg (K.CA_RANGE_NOW a)
  let new := if s.caFixed a then s.reg (K.CA_RANGE a) else c.change.getD now
  let s := s.setHk { s.hk with amps := setAt {} s.hk.amps a { c with change := none, low := if new = now then c.low else 0 } }
  if new = now then s else (s.put (K.CA_RANGE_NOW a) new).count (K.CA_RANGE_CHANGES a)

/-- What a sample makes of the amplifier's range (R343). -/
def State.caJudge (s : State) (a : Nat) (m : Int) : State :=
  let c := s.hk.amps.getD a {}
  let now := s.reg (K.CA_RANGE_NOW a)
  let clipped := decide (7372 < m.natAbs)
  let low := if m.natAbs < 1638 then c.low + 1 else 0
  let change := if clipped then (if now < 3 then some (now + 1) else none)
    else if 8 ≤ low then (if 0 < now then some (now - 1) else none) else none
  let s := s.onlyIf clipped fun s => s.count (K.CA_CLIPS a)
  s.setHk { s.hk with amps := setAt {} s.hk.amps a { c with change := change, low := min low 8 } }

/-- The sealed polynomial of Ensign at an angle sample in pC (R373): au, none where the result is not finite. -/
def State.sealedAngle (s : State) (x : Rat) : Option Rat :=
  let p := polyPattern ((List.range 12).map fun n => s.inForce (K.ANGLE_COEF n)) (ratToF32 x) (ratToF32 s.ens.lastT)
  f32Value p

/-- An angle sample of CA-M: the half of the slot it belongs to, its charge, and whether it may be used (R344). -/
def State.angleSample (s : State) (half : Nat) (x : Rat) (usable : Bool) : State :=
  let s := if usable then s.sense 2 x else s
  let y := f32Or0 (s.reg (K.SENS_OUT 2))
  let e := if usable then s.sealedAngle x else none
  let m := s.mir
  if half = 0 then
    { s with mir := { m with half0 := y, halves := withBit m.halves 0 usable }, ens := { s.ens with cap0 := e } }
  else
    { s with mir := { m with half1 := y, halves := withBit m.halves 1 usable }, ens := { s.ens with cap1 := e } }

/-- Reset instants of the pulse-energy monitors at sample 1,008, after their sample of the slot (Table 13.4). -/
def State.caResets (s : State) : State := s.forRange 4 fun s g => s.caReset (g + 1)

/-- CA_SAMPLE for the range, the newest sample and the angle; `k` is the number of the integration in the slot, which only CA-M uses. The reset instant of
an integration of CA-M lies in its slot, that of a pulse-energy monitor at sample 1,008 of the slot before (Table 13.4). -/
def State.caSample (s : State) (a k : Nat) (m : Int) : State :=
  let s := s.onlyIf (a == 0) fun s => s.caReset 0
  let r := s.reg (K.CA_RANGE_NOW a)
  let q := chargeOf r m
  let clipped := decide (7372 < m.natAbs)
  let s := (s.put (K.CA_LAST a) (r * 2 ^ 14 + ofSigned 14 m)).caJudge a m
  if a = 0 then
    let c := s.hk.amps.getD 0 {}
    if k % 2 = 0 then s.setHk { s.hk with amps := setAt {} s.hk.amps 0 { c with first := q, firstClipped := clipped } }
    else s.angleSample (k / 2) (c.first - q) (!c.firstClipped && !clipped)
  else s.sense (2 + a) q

/-- Expiries of the HK timer in the present slot. -/
def State.hkTimerAll (s : State) : Nat → State
  | 0 => s
  | n + 1 => if s.hkTimerDue then (s.hkTimerExpire).hkTimerAll n else s

/-- What the HK ADC's slot still holds: the triggers under way, the timer's expiries and the idle passes. -/
def State.hkRest (s : State) : State := (s.hkTrigger.hkTimerAll 5).hkIdlePasses 3

/-- The HK ADC at a tick, after what the slot that ends still held: time moves on by a slot. -/
def State.hkTick (s : State) : State :=
  let h := s.hk
  s.setHk { h with tickDue := h.on, markDue := h.markNext, markNext := 0, timer := if h.on then h.timer + 4 else h.timer
                   passAt := h.passAt - 2800, rtdAge := min 50000 (h.rtdAge + 1) }

end Sys2Proof.Machine
end

