-- ==== Sys2Proof/Machine/Receive.lean ====
section
/-! DEFINITION. The receive channels at a slot tick (R98 to R106): power and warm-up, the ambient-current servo, the ambient code,
servo saturation and the count of clipped samples. -/

namespace Sys2Proof.Machine

/-- A channel's bit of RX_ENABLE powers it in the modes of R98; in SELF-TEST only channels under test are powered. -/
def State.wantsPower (s : State) (ch : Nat) : Bool :=
  if s.mode.isRunning then s.regBit K.RX_ENABLE ch && decide (s.shedForce < 3)
  else s.mode == .selfTest && bitAt s.rxTest ch && decide (s.shedForce < 3)

/-- Ten slots after power-up a channel is ACTIVE (R98); a count of 1 marks the tick that ends the tenth slot. -/
def State.warmDone (s : State) : State :=
  s.forRange 48 fun s ch =>
    if s.reg (K.CH_STATE ch) = 1 && decide ((s.rx.getD ch {}).warm ≤ 1) then s.put (K.CH_STATE ch) 2 else s

/-- Power and warm-up of one channel at a tick (R98). A retired channel stays retired (R110). -/
def State.chanPower (s : State) (ch : Nat) : State :=
  let st := s.reg (K.CH_STATE ch)
  let r := s.rx.getD ch {}
  if st = 3 then s
  else if !s.wantsPower ch then
    { s.put (K.CH_STATE ch) 0 with rx := setAt {} s.rx ch { r with warm := 0, satRun := 0 } }
  else if st = 0 then { s.put (K.CH_STATE ch) 1 with rx := setAt {} s.rx ch { r with warm := 10, satRun := 0 } }
  else { s with rx := setAt {} s.rx ch { r with warm := r.warm - 1 } }

/-- Input current per code in nA by gain (Table 4.1). -/
def lsbNa : Nat → Rat
  | 0 => 1221 / 10
  | 1 => 4883 / 100
  | 2 => 2035 / 100
  | _ => 8138 / 1000

/-- The ambient code of a servo code (R103). -/
def ambCode (c : Nat) : Nat :=
  if c = 0 then 0
  else
    let p := Nat.log2 c
    16 * p + (c * 16 / 2 ^ p - 16) + 1

/-- Codes above the baseline in the servo window of the slot that ended (R101). -/
def servoError (x : SlotSamples) (ch : Nat) : Rat :=
  let l := x.getD ch []
  let w := (l.drop 10176).take 1024
  ((sumInt w : Int) : Rat) / 1024 + 1792

/-- The servo code of one channel after the tick (R101, R102). -/
def State.servoNext (s : State) (ch : Nat) (e : Rat) (gain : Nat) : Nat :=
  let r := s.rx.getD ch {}
  let step : Int := s.reg K.SERVO_STEP
  match s.reg (K.SERVO_MODE ch) with
  | 0 => s.reg (K.SERVO_FIX ch)
  | 1 =>
    let d := clampInt (-step) step (rhe (e * lsbNa gain / (25 / 2) * f32Or0 (s.reg K.SERVO_KP)))
    (clampInt 0 16000 (r.servo + d)).toNat
  | _ => r.servo

/-- Servo, saturation, ambient code and clip count of one channel at the tick that ends slot `c` (R101 to R106). The servo moves only for a
channel that is ACTIVE and was powered in the slot, and only while PLL A is locked; an unpowered channel has no clipped sample. A RETIRED channel counts as not
powered here (log 57). -/
def State.chanServo (c : SlotCtx) (s : State) (ch : Nat) : State :=
  let r := s.rx.getD ch {}
  let on := s.reg (K.CH_STATE ch) == 1 || s.reg (K.CH_STATE ch) == 2
  let s := s.countBy (K.CLIP_SAMPLES ch) ((c.samples.getD ch []).filter fun v => v == 2047 || v == -2048).length
  let s := if on && bitAt c.powered ch && s.locked then
      let e := servoError c.samples ch
      let code := if s.reg (K.CH_STATE ch) = 2 then s.servoNext ch e (regOf c.objs (K.RX_GAIN ch)) else r.servo
      let run := if code = 16000 && decide (0 < e) then min (r.satRun + 1) 64 else 0
      let s := { s with rx := setAt {} s.rx ch { r with servo := code, satRun := run } }
      s.putBit K.SUN_SAT_MASK ch (run == 64)
    else if on then s
    else s.putBit K.SUN_SAT_MASK ch false
  let code := (s.rx.getD ch {}).servo
  (s.put (K.AMBIENT ch) code).put (K.AMB_CODE ch) (ambCode code)

/-- The receive channels at a tick; `c` is the slot that ended. -/
def State.rxTick (s : State) (c : SlotCtx) : State :=
  (s.warmDone.forRange 48 State.chanPower).forRange 48 (State.chanServo c)

end Sys2Proof.Machine
end

