-- ==== Sys2Proof/Machine/Bias.lean ====
section
/-! DEFINITION. APD bias (R111 to R119): temperature compensation, slewing, settling, freezing on a break, current-limit faults and the boost. -/

namespace Sys2Proof.Machine

def State.zone (s : State) (z : Nat) : ApdZone := s.apd.zones.getD z {}

def State.setZone (s : State) (z : Nat) (a : ApdZone) : State := { s with apd := { s.apd with zones := setAt {} s.apd.zones z a } }

/-- The 100 ms limit of R115 on RTD0 results. -/
def staleAge : Nat := slotsOfMs 100

/-- The temperature source of zone `z` is RTD0 and no result has come for 100 ms. -/
def State.tempStale (s : State) (z : Nat) : Bool := s.reg (K.APD_TSEL z) == 0 && decide (staleAge ≤ s.hk.rtdAge)

/-- The source's reading in °C, none in break or when stale (R114, R115), nor before the source's first reading (log 57). -/
def State.biasTemp (s : State) (z : Nat) : Option Rat :=
  match s.reg (K.APD_TSEL z) with
  | 0 =>
    if s.reg (K.RTD_STATE 0) = 0 && !s.tempStale z then some ((rhe (f32Or0 (s.reg (K.SENS_OUT 0)) * 16) : Rat) / 16) else none
  | k => (s.pairTemp (k + 1)).map fun t => (t : Rat) / 16

/-- Zone `z` is enabled and has not faulted. -/
def State.zoneWanted (s : State) (z : Nat) : Bool := s.regBit K.APD_ZONE_EN z && !(s.zone z).faulted

/-- Modes in which enabled zones are biased (R118); in SELF-TEST only for a loopback test of one of its channels. -/
def State.biasMode (s : State) (z : Nat) : Bool :=
  match s.mode with
  | .selfTest => (List.range 12).any fun i => bitAt s.rxTest (12 * z + i)
  | .standby => true
  | m => m.isRunning

/-- Zone `z` may be biased now (R118). -/
def State.biasAllowed (s : State) (z : Nat) : Bool := s.zoneWanted z && s.biasMode z && decide (s.shedForce < 3)

/-- APD_STATE of a zone (R115 to R117). -/
def zoneCode (a : ApdZone) : Nat :=
  if a.faulted then 5 else if !a.biased then 0 else if a.atMin then 4 else if a.frozen then 3 else if a.settled then 2 else 1

def State.zoneShow (s : State) (z : Nat) : State := s.put (K.APD_STATE z) (zoneCode (s.zone z))

/-- The regulator of zone `z` goes off and discharges its output (R118). The set point of an enabled zone stays frozen or at its minimum, and a break of its
source lasts on (R115). -/
def State.zoneOff (s : State) (z : Nat) : State :=
  let a := s.zone z
  let on := s.regBit K.APD_ZONE_EN z
  (s.setZone z { a with biased := false, out := 0, run := 0, settled := false, frozen := a.frozen && on, atMin := a.atMin && on, limRun := 0 }).zoneShow z

/-- Between ticks a zone that may not be biased goes off, and the boost stops when none is left (R118). -/
def State.biasGate (s : State) : State :=
  let s := s.forRange 4 fun s z => if (s.zone z).biased && !s.biasAllowed z then s.zoneOff z else s
  if s.apd.zones.any (·.biased) then s else { s with apd := { s.apd with boostOn := false } }

/-- A zone that starts slews up from its present voltage (R118); it starts at the tick that allows it. -/
def State.zoneStart (s : State) (z : Nat) : State :=
  if s.biasAllowed z && !(s.zone z).biased then
    (s.setZone z { s.zone z with biased := true, out := 5 * s.reg (K.APD_MEAS z) }).zoneShow z
  else s

/-- Target voltage of zone `z` in 10 mV and the flag bits of its clamping (R112). -/
def State.biasPoint (s : State) (z : Nat) (t : Rat) : Nat × Nat :=
  let lo := s.reg (K.APD_VMIN z)
  let hi := s.reg (K.APD_VMAX z)
  let tf := f32Or0 (ratToF32 (t + f32Or0 (s.reg (K.APD_TOFFS z))))
  match polyRounded (s.coefs (0x2890 + z)) (f32Or0 (s.reg (K.APD_GAIN z))) tf 100 with
  | none => (lo, 4)
  | some v => if v < lo then (lo, 1) else if (hi : Int) < v then (hi, 2) else (v.toNat, 0)

/-- One zone at a 1 ms point (R112, R113, R115). -/
def State.zoneEvaluate (s : State) (z : Nat) : State :=
  if !s.regBit K.APD_ZONE_EN z then s
  else match s.biasTemp z with
    | some t =>
      let p := s.biasPoint z t
      let s := (s.put (K.APD_SET z) p.1).put (K.APD_FLAGS z) p.2
      (s.setZone z { s.zone z with frozen := false, atMin := false }).zoneShow z
    | none =>
      let s := s.putBit (K.APD_FLAGS z) 3 (s.tempStale z)
      let a := s.zone z
      (s.setZone z { a with frozen := !a.atMin }).zoneShow z

/-- APD_EVALUATE: the evaluation of every 500th tick (R113). -/
def State.apdEvaluate (s : State) : State :=
  if s.apd.ticks < 499 ∨ s.apd.evaluated then s
  else { s.forRange 4 State.zoneEvaluate with apd := { (s.forRange 4 State.zoneEvaluate).apd with evaluated := true } }

/-- APD_BREAK_TIMEOUT of zone `z`: 10 s of an unbroken break are over at the tick to come (R115). -/
def State.breakTimeout (s : State) (z : Nat) : State :=
  let a := s.zone z
  if s.regBit K.APD_ZONE_EN z && (s.biasTemp z).isNone && !a.atMin && decide (slotsOfMs 10000 ≤ a.breakFor + 1) then
    ((s.put (K.APD_SET z) (s.reg (K.APD_VMIN z))).setZone z { a with atMin := true, frozen := false }).zoneShow z
  else s

/-- APD_TEMP_STALE of zone `z`: 100 ms without a fresh RTD0 result are over at the tick to come (R115). -/
def State.tempStaleNow (s : State) (z : Nat) : State :=
  let a := s.zone z
  if s.reg (K.APD_TSEL z) = 0 && decide (staleAge ≤ s.hk.rtdAge + 1) && s.regBit K.APD_ZONE_EN z && !s.regBit (K.APD_FLAGS z) 3 then
    ((s.putBit (K.APD_FLAGS z) 3 true).setZone z { a with frozen := !a.atMin }).zoneShow z
  else s

/-- The measured bias of zone `z` is within tolerance of APD_SET (R116). -/
def State.biasNear (s : State) (z : Nat) : Bool :=
  let m := s.reg (K.APD_MEAS z)
  let t := s.reg (K.APD_SET z)
  let d := if m ≤ t then t - m else m - t
  decide (200 * d ≤ max t 4000)

/-- Zone `z` keeps to the test of R116: near its target and not slewing. -/
def State.biasHolds (s : State) (z : Nat) : Bool := (s.zone z).biased && s.biasNear z && (s.zone z).out == 5 * s.reg (K.APD_SET z)

/-- APD_ZONE_SETTLED of zone `z`: 100 µs within tolerance are over at the tick to come (R116). -/
def State.zoneSettled (s : State) (z : Nat) : State :=
  let a := s.zone z
  if s.biasHolds z && decide (50 ≤ a.run + 1) then (s.setZone z { a with settled := true }).zoneShow z else s

/-- Zone `z` is in current limit. -/
def State.inLimit (s : State) (z : Nat) : Bool := (s.zone z).biased && decide (s.reg K.APD_ILIM ≤ s.reg (K.APD_IMEAS z))

/-- APD_ZONE_FAULT of zone `z`: 1 ms in current limit is over at the tick to come (R117). -/
def State.zoneFault (s : State) (z : Nat) : State :=
  if s.inLimit z && decide (500 ≤ (s.zone z).limRun + 1) then
    let s := (s.zoneOff z).count (K.APD_FAULTS z)
    (s.setZone z { s.zone z with faulted := true, reenable := false }).zoneShow z
  else s

/-- A fault of a zone ends at the next mode entry (R117). -/
def State.apdModeEntry (s : State) : State :=
  s.forRange 4 fun s z => (s.setZone z { s.zone z with faulted := false, reenable := false }).zoneShow z

/-- Activation of CG07: an enable bit committed to 0 and then to 1 ends a fault (R117). -/
def State.apdCommit (s : State) : State :=
  s.forRange 4 fun s z =>
    let a := s.zone z
    if !a.faulted then s
    else if !s.regBit K.APD_ZONE_EN z then s.setZone z { a with reenable := true }
    else if a.reenable then (s.setZone z { a with faulted := false, reenable := false }).zoneShow z else s

/-- Highest enabled set point plus the headroom, at most 215 V (R111). -/
def State.boostGoal (s : State) : Nat :=
  min 21500 (((bitsSet (s.reg K.APD_ZONE_EN) 4).map fun z => s.reg (K.APD_SET z)).foldl max 0 + s.reg K.APD_HEADROOM)

/-- APD_BOOST_PERIOD at CHG_PHASE: the readings of the slot, and a switching period while a zone is biased (R111, R116). -/
def State.boostPeriod (s : State) (hv : Nat) (meas imeas : List Nat) : State :=
  let s := s.put K.APD_HV_MEAS hv
  let s := s.forRange 4 fun s z => (s.put (K.APD_MEAS z) (meas.getD z 0)).put (K.APD_IMEAS z) (imeas.getD z 0)
  let runs := s.apd.zones.any (·.biased) && !s.apd.boostStopped
  { s with apd := { s.apd with boostOn := runs, boostTarget := s.boostGoal } }

/-- APD_HV_OVERVOLTAGE: APD_HV above 220 V stops the boost until the next slot (R111). -/
def State.boostOver (s : State) (hv : Nat) : State :=
  if 22000 < hv then { s.put K.APD_HV_MEAS hv with apd := { s.apd with boostOn := false, boostStopped := true } } else s

/-- The output of a zone moves by a slot's slew towards its target. -/
def slew (rate out goal : Nat) : Nat := if out < goal then min goal (out + rate) else max goal (out - rate)

/-- One zone at a slot tick. -/
def State.zoneTick (s : State) (z : Nat) : State :=
  let s := ((s.zoneFault z).breakTimeout z).tempStaleNow z
  let a := s.zone z
  let limRun := if s.inLimit z then min 500 (a.limRun + 1) else 0
  let breakFor := if (s.biasTemp z).isNone then min (slotsOfMs 10000) (a.breakFor + 1) else 0
  let run := if s.biasHolds z then min 50 (a.run + 1) else 0
  let out := if a.biased then slew (s.reg K.APD_SLEW) a.out (5 * s.reg (K.APD_SET z)) else 0
  (s.setZone z { a with limRun := limRun, breakFor := breakFor, run := run, settled := run == 50, out := out }).zoneShow z

/-- The bias at a slot tick. -/
def State.apdTick (s : State) : State :=
  let s := s.apdEvaluate
  let t := s.apd.ticks + 1
  let s := { s with apd := { s.apd with ticks := if 500 ≤ t then 0 else t, evaluated := false, boostStopped := false, boostOn := false } }
  s.forRange 4 State.zoneTick

/-- The zones that the changes of a tick let start. -/
def State.apdStart (s : State) : State := s.forRange 4 State.zoneStart

end Sys2Proof.Machine
end

