-- ==== Sys2Proof/Machine/Echo.lean ====
section
/-! DEFINITION. The echo engines (R121 to R143): waveform, baseline, histogram, detection pass, confirmation, classes, selection and the point
records of one slot. -/

namespace Sys2Proof.Machine

/-! ### Baseline (R125) -/

/-- The decimator value over the `len` samples up to index `i` of a slot, those before the slot coming from the slot before it (R210). -/
def decValue (before now : SlotSamples) (ch len : Nat) (i : Int) : Int :=
  rheDiv (16 * sumInt ((List.range len).map fun k =>
    let j := i - (k : Int)
    if 0 ≤ j then codeOf now ch j.toNat else codeOf before ch (j + 11200).toNat)) len

/-- The cadence that serves at sample `s0`: the newest reset at or before it (R125). -/
def cadenceAt (l : List Cadence) (s0 : Nat) : Option Cadence := l.find? fun c => decide (c.at_ ≤ (s0 : Int))

/-- Index of the last instant before `s0` of a cadence, when its word is VALID (R211). -/
def lastWordBefore (c : Cadence) (s0 : Nat) : Option Int :=
  let j := (((s0 : Int) - c.at_) / (c.dec : Int)).toNat
  if j = 0 ∨ j * c.dec < c.len then none else some (c.at_ + (j * c.dec : Nat) - 1)

/-- Baseline of a shot in slot `c` at fire sample `s0`, in 1/16 code (R125); `before` is the slot before it. -/
def baselineOf (before c : SlotCtx) (ch s0 : Nat) : Int :=
  if regOf c.objs K.BASE_MODE = 1 then toSigned 16 (regOf c.objs (K.BASE_FIX ch))
  else match (cadenceAt (c.cads.getD ch []) s0).bind fun d => (lastWordBefore d s0).map fun i => (d, i) with
    | some (d, i) => decValue before.samples c.samples ch d.len i
    | none => -28672

/-! ### The shot waveform (R124) -/

/-- The codes of a shot's window, slot `c` and the slot after it. -/
def windowCodes (c after : SlotCtx) (ch s0 : Nat) : Array Int :=
  let a := (c.samples.getD ch []).toArray
  let b := (after.samples.getD ch []).toArray
  ((List.range 11200).map fun i => if s0 + i < 11200 then a.getD (s0 + i) 0 else b.getD (s0 + i - 11200) 0).toArray

/-- The waveform before the crosstalk step, in 1/4 code. -/
def rawWave (codes : Array Int) (b : Int) : Array Int := codes.map fun v => rheDiv (16 * v - b) 4

/-- The waveform with the emitter's crosstalk template subtracted from its first 64 values. -/
def crosstalkOff (xt : List Int) (x : Array Int) : Array Int :=
  x.mapIdx fun i v => if i < 64 then v - xt.getD i 0 else v

/-- The clip bits of a window. -/
def clipBits (codes : Array Int) : Array Bool := codes.map fun v => v == -2048 || v == 2047

/-! ### Detection (R129 to R132) -/

/-- Matched filter of a waveform of `z.size` bins (R129). -/
def matched (tpl : List Int) (z : Array Int) : Array Int :=
  ((List.range z.size).map fun i =>
    rheDiv (sumInt (tpl.mapIdx fun t c => if 16 ≤ i + t then c * z.getD (i + t - 16) 0 else 0)) 32768).toArray

/-- The factor q of the threshold: 256 for a single shot, else 256 times the square root of n times W, rounded half to even (R130). -/
def qFactor (accum : Bool) (n w : Nat) : Nat := if accum then rheSqrt (65536 * (n * w)) 1 else 256

/-- The threshold of a pass (R130). -/
def threshold (b : PlanBank) (a : Nat) (trim : Int) (q : Nat) : Int :=
  let k := thresholdOf b a
  max 1 (rheDiv (((k.1 + k.2 : Nat) + trim) * q) 256)

/-- Distance in bins from `i` to the half-height crossing in one direction, none when there is no crossing within 64 bins; `get k` is y at
distance k, none beyond the waveform (R132). -/
def halfCross (peak : Int) (get : Nat → Option Int) : Nat → Nat → Option Rat
  | 0, _ => none
  | n + 1, k =>
    match get k, get (k - 1) with
    | some v, some u =>
      if 2 * v < peak then some ((k - 1 : Nat) + ((u : Rat) - (peak : Rat) / 2) / ((u : Rat) - (v : Rat)))
      else halfCross peak get n (k + 1)
    | _, _ => none

/-- WIDTH of a candidate, in 1/8 smp (R132). -/
def widthOf (y : Array Int) (i w : Nat) : Nat :=
  let p := y.getD i 0
  let up := halfCross p (fun k => y[i + k]?) 64 1
  let dn := halfCross p (fun k => if k ≤ i then y[i - k]? else none) 64 1
  match up, dn with
  | some a, some b => min (rhe ((a + b) * (w : Rat) * 8)).toNat 1023
  | _, _ => 1023

/-- What a pass needs besides its waveform. -/
structure PassArgs where
  w : Nat := 1
  n : Nat := 1
  fine : Int := 0
  calE : Int := 0
  calCh : Int := 0
  thr : Int := 1
  deriving DecidableEq, Repr

/-- The candidate at bin `i`, when the test of R131 holds there. -/
def candidateAt (a : PassArgs) (y : Array Int) (i : Nat) : Option Echo :=
  let p := y.getD i 0
  let l := y.getD (i - 1) 0
  let r := y.getD (i + 1) 0
  if a.thr ≤ p ∧ l < p ∧ r ≤ p then
    let frac : Rat := ((l - r : Int) : Rat) / ((2 * (l - 2 * p + r) : Int) : Rat)
    let t := rhe ((((i : Rat) + frac) * (a.w : Rat) + ((a.w : Rat) - 1) / 2) * 64)
    some { bin := i, t := t, rng := (clampInt 0 1048575 (t - a.fine - a.calE - a.calCh)).toNat
           amp := min (rheDiv p (a.n * a.w)).toNat 65535, width := widthOf y i a.w }
  else none

/-- All candidates of a pass, lowest bin first. -/
def candidates (a : PassArgs) (y : Array Int) : List Echo :=
  (List.range (y.size - 2)).filterMap fun k => candidateAt a y (k + 1)

/-- The clip bit of any bin from i - 16 to i + 15 is set (Table 5.4). -/
def clippedNear (clip : Array Bool) (i : Nat) : Bool :=
  (List.range 32).any fun d => decide (16 ≤ i + d) && clip.getD (i + d - 16) false

/-- The class of a candidate (R136). -/
def classOf (objs : List (Nat × Nat)) (clip : Array Bool) (inGate : Bool) (e : Echo) : Nat :=
  if clippedNear clip e.bin then 4
  else if inGate then 2
  else if e.unconfirmed then 3
  else if regOf objs K.SOFT_WIDTH ≤ e.width ∧ e.amp ≤ regOf objs K.SOFT_AMP then 1
  else 0

/-! ### Selection (R137) -/

/-- Order of preference: greater AMP, then smaller range, then lower bin. -/
def stronger (a b : Echo) : Bool :=
  decide (b.amp < a.amp) || (a.amp == b.amp && (decide (a.rng < b.rng) || (a.rng == b.rng && decide (a.bin ≤ b.bin))))

/-- Order of report: increasing range, then increasing bin. -/
def nearer (a b : Echo) : Bool := decide (a.rng < b.rng) || (a.rng == b.rng && decide (a.bin ≤ b.bin))

/-- The candidate of greatest range, the one in the lowest bin among equals. -/
def lastEcho (l : List Echo) : Option Echo :=
  l.foldl (fun m e => match m with
    | none => some e
    | some x => if x.rng < e.rng || (x.rng == e.rng && decide (e.bin < x.bin)) then some e else some x) none

/-- At most `n` echoes of a pass, in the order of report (R137). -/
def selectEchoes (n : Nat) (lastPref : Bool) (l : List Echo) : List Echo :=
  if l.length ≤ n then sortBy nearer l
  else
    let keep := match lastPref, lastEcho l, n with
      | true, some x, m + 1 => x :: (sortBy stronger (l.filter (· != x))).take m
      | _, _, _ => (sortBy stronger l).take n
    sortBy nearer keep

/-! ### One channel in one slot -/

/-- The shot of a channel in a slot: the fire command of its emitter (R123). -/
def shotOf (c : SlotCtx) (ch : Nat) : Option FireCmd :=
  (emitterOf c.bank ch).bind fun e => c.fires.find? fun f => f.emitter == e

/-- The channel is lit by the slot's fire: its emitter is named in EMASK (R127). -/
def litIn (c : SlotCtx) (ch : Nat) : Bool :=
  match emitterOf c.bank ch with
  | some e => bitAt c.emask e
  | none => false

/-- Adds a shot into a histogram (R126). -/
def addHist (w : Nat) (h : List Int) (x : Array Int) : List Int :=
  let hs := h.toArray
  (List.range (11200 / w)).map fun b => hs.getD b 0 + sumInt ((List.range w).map fun u => x.getD (b * w + u) 0)

/-- Adds the clip bits of a shot. -/
def addClip (w : Nat) (h : List Bool) (c : Array Bool) : List Bool :=
  let hs := h.toArray
  (List.range (11200 / w)).map fun b => hs.getD b false || (List.range w).any fun u => c.getD (b * w + u) false

/-- The sunlight is high at a channel's slot (Table 5.7): by its ambient code, or with its servo saturated (R105). -/
def sunHighAt (c : SlotCtx) (ch : Nat) : Bool :=
  decide (regOf c.objs K.SUN_HIGH_AMB ≤ c.amb.getD ch 0) || bitAt (regOf c.objs K.SUN_SAT_MASK) ch

/-- The group in progress of a channel after one more slot of it (R127, R131, R141); `spare`: a spare slice or engine took part. -/
def GroupAcc.slot (g : GroupAcc) (c : SlotCtx) (ch : Nat) (spare : Bool) (shot : Option FireCmd) : GroupAcc :=
  let e := (emitterOf c.bank ch).getD 16
  let amb := c.amb.getD ch 0
  let later := decide (2 ≤ c.groupPos)
  let gain := later && bitAt c.gainCommit ch
  let ens := match shot with
    | some f => f.suppressed || f.fate == .truncated
    | none => false
  { g with
    slots := g.slots + 1, angleSum := g.angleSum + c.angle, amb := max g.amb amb
    sunHigh := g.sunHigh || sunHighAt c ch
    degraded := g.degraded || c.angleSrc != 0 || c.degMode || ens
    spare := g.spare || spare, cal := g.cal || (later && bitAt c.calChannels ch)
    gainLost := g.gainLost || gain
    lost := g.lost || c.withheld || c.noEcho || bitAt c.capLost e || !bitAt c.active ch || (later && bitAt c.takenOver ch) || bitAt c.noEngine ch }

/-- The group after a shot was added to its histogram. -/
def GroupAcc.shot (g : GroupAcc) (f : FireCmd) : GroupAcc :=
  { g with n := g.n + 1, fineSum := g.fineSum + f.fine, anyDither := g.anyDither || f.dithered, allDither := g.allDither && f.dithered }

/-- FLAGS of a record (Table 5.7), but for OVERRUN. -/
def flagsOf (ambig spare cal degraded sun dither accum : Bool) : Nat :=
  128 * ofBool ambig + 32 * ofBool spare + 16 * ofBool cal + 8 * ofBool degraded + 4 * ofBool sun + 2 * ofBool dither + ofBool accum

/-- Candidates inside the near-range gate are dropped or kept by NEAR_MODE (R133); the rest are classed and selected. -/
def gated (objs : List (Nat × Nat)) (ch : Nat) (l : List Echo) : List Echo × Nat :=
  let g := regOf objs (K.NEAR_GATE ch) * 64
  if regOf objs K.NEAR_MODE = 0 then (l.filter fun e => decide (g ≤ e.rng), (l.filter fun e => decide (e.rng < g)).length) else (l, 0)

/-- The classes of a pass's candidates. -/
def classed (objs : List (Nat × Nat)) (ch : Nat) (clip : Array Bool) (l : List Echo) : List Echo :=
  let g := regOf objs (K.NEAR_GATE ch) * 64
  l.map fun e => { e with cls := classOf objs clip (decide (e.rng < g)) e }

/-- A record made of an echo (Table 5.6). -/
def recordOf (ch slot emitter amb : Nat) (angle : Int) (flags : Nat → Nat) (k : Nat) (e : Echo) : PointRec :=
  { ch := ch, slot := slot, rng := e.rng, echo := k, emitter := emitter, cls := e.cls, amp := e.amp, width := e.width
    flags := flags (ofBool (decide (700416 < e.t))), amb := amb, angle := angle }

/-- The waveform of a channel's shot with its clip bits (R124); the slots are the one before, its own and the one after. -/
def shotWave (before c after : SlotCtx) (ch : Nat) (f : FireCmd) : Int × Array Int × Array Bool :=
  let s0 := 64 + f.dither
  let codes := windowCodes c after ch s0
  let b := baselineOf before c ch s0
  (b, rawWave codes b, clipBits codes)

/-- The arguments of a pass that are the same for both kinds (R130, R131). -/
def passArgs (c : SlotCtx) (ch e w n : Nat) (fine : Int) (amb : Nat) (accum : Bool) : PassArgs :=
  { w := w, n := n, fine := fine, calE := regOf c.objs (K.CAL_E e), calCh := toSigned 16 (regOf c.objs (K.CAL_CH ch))
    thr := threshold c.bank amb (toSigned 16 (regOf c.objs (K.K0_TRIM ch))) (qFactor accum n w) }

/-- Echoes confirmed against the history (R134): how many shots of the history hold an echo within WIN of `t`. -/
def confirmations (hist : List (List Int)) (win : Nat) (t : Int) : Nat :=
  (hist.filter fun l => l.any fun u => decide ((t - u).natAbs ≤ win * 64)).length

/-- The echo state of one channel and what one slot made of it. -/
structure ChanStep where
  chan : EchoChan := {}
  acc : List Echo := []
  single : List Echo := []
  accRecs : List PointRec := []
  singleRecs : List PointRec := []
  nearDropped : Nat := 0
  unreported : Nat := 0
  unconfirmed : Nat := 0
  lost : Nat := 0
  gainLost : Nat := 0
  base : Option Int := none
  dump : Option (Nat × List Int) := none
  deriving DecidableEq, Repr

/-- The single-shot pass of a shot that was not suppressed (R129 to R137): the echoes selected, how many the gate dropped and how many were not
reported. -/
def singlePass (c : SlotCtx) (ch : Nat) (f : FireCmd) (x : Array Int) (clip : Array Bool) (hist : List (List Int))
    (nmw : Nat × Nat × Nat) : List Echo × Nat × Nat :=
  let a := passArgs c ch f.emitter 1 1 f.fine (c.amb.getD ch 0) false
  let y := matched (templateOf c.bank f.emitter) x
  let g := gated c.objs ch (candidates a y)
  let h := hist.take (nmw.1 - 1)
  let l := classed c.objs ch clip (g.1.map fun e => { e with unconfirmed := decide (1 + confirmations h nmw.2.2 e.t < nmw.2.1) })
  let r := selectEchoes c.emit.maxEcho c.emit.lastPref l
  (r, g.2, l.length - r.length)

/-- The accumulated pass of a complete group (R128 to R137). -/
def accumPass (c : SlotCtx) (ch e w : Nat) (g : GroupAcc) (h : List Int) (clip : List Bool) : List Echo × Nat × Nat :=
  let a := passArgs c ch e w g.n (rheDiv g.fineSum g.n) g.amb true
  let y := matched (templateOf c.bank e) h.toArray
  let d := gated c.objs ch (candidates a y)
  let l := classed c.objs ch clip.toArray d.1
  let r := selectEchoes c.emit.maxEcho c.emit.lastPref l
  (r, d.2, l.length - r.length)

/-- The histogram unit's part of a slot of a group: a new group starts in the other buffer (R126, R128). -/
def EchoChan.histStep (k : EchoChan) (c : SlotCtx) (ch w : Nat) (spare : Bool) (shot : Option FireCmd) (wave : Option (Array Int × Array Bool)) : EchoChan :=
  let k := if c.groupPos = 1 then
      let b := 1 - k.cur
      { k with cur := b, acc := {}, bufs := setAt [] k.bufs b [], clips := setAt [] k.clips b [] }
    else k
  let k := { k with acc := k.acc.slot c ch spare shot }
  match shot, wave with
  | some f, some (x, cl) =>
    { k with
      bufs := setAt [] k.bufs k.cur (addHist w (k.bufs.getD k.cur []) x)
      clips := setAt [] k.clips k.cur (addClip w (k.clips.getD k.cur []) cl)
      acc := k.acc.shot f }
  | _, _ => k

/-- Home engine of a channel (R121). -/
def engineOf (ch : Nat) : Nat := ch / 4

/-- The echo work of one slot `c` for one channel, given its echo state (R121 to R143, R320); `before` and `after` are its neighbours, `after` being
the slot of the processing stage. Work that was cut off has come as far as `p` says: what was not done has no result, and the shot then enters neither the
histogram nor, with echoes, the history (R16, log 22). -/
def chanEcho (before c after : SlotCtx) (ch : Nat) (k : EchoChan) (p : Option Progress) : ChanStep :=
  let act := bitAt c.active ch
  let k := if c.singleReset || c.resumed || !act || bitAt after.takenOver ch then { k with history := [] } else k
  let lit := c.kind == .slot && litIn c ch
  if !lit then { chan := k }
  else
    let e := (emitterOf c.bank ch).getD 0
    -- R320: the slot in which lock loss is declared is processed in the first slot of lock loss, which does no echo work
    let dead := !after.locked
    let cmd := if dead then none else shotOf c ch
    let shot := if act then cmd else none
    let fires := match shot with
      | some f => !f.suppressed
      | none => false
    let w0 := match shot with
      | some f => if fires then some (shotWave before c after ch f) else none
      | none => none
    let wave := w0.map fun p => (crosstalkOff (c.xt.getD e []) p.2.1, p.2.2)
    let sp := bitAt c.sparePath ch || after.ee12 == engineOf ch
    let base := if p.all Progress.base then cmd.map fun f => baselineOf before c ch (64 + f.dither) else none
    -- accumulation
    let grp := c.accum.isSome && decide (1 ≤ c.groupPos)
    let w := (c.accum.map (·.2)).getD 1
    let n := (c.accum.map (·.1)).getD 0
    let k := if grp then k.histStep c ch w sp shot (if fires && p.all Progress.added then wave else none) else k
    let g := { k.acc with cal := k.acc.cal || bitAt after.calChannels ch }
    let last := grp && c.groupPos == n
    let cutOff := grp && decide (c.groupPos < n) && after.groupPos != c.groupPos + 1
    let isLost := g.lost || cutOff || dead || (grp && bitAt after.takenOver ch)
    let ends := last || cutOff
    let run := last && !isLost && !g.gainLost
    let pa := if run && decide (1 ≤ g.n) && p.all Progress.accum then accumPass c ch e w g (k.bufs.getD k.cur []) (k.clips.getD k.cur []) else ([], 0, 0)
    let angle := rheDiv g.angleSum (max g.slots 1)
    let accRecs := pa.1.mapIdx (recordOf ch c.frameSlot e g.amb angle fun far =>
      flagsOf (g.anyDither && far == 1) g.spare g.cal g.degraded g.sunHigh g.allDither true)
    -- single shot
    let ps := match c.single, shot, wave with
      | some nmw, some f, some (x, cl) => if bitAt c.noEngine ch || !p.all Progress.single then ([], 0, 0) else singlePass c ch f x cl k.history nmw
      | _, _, _ => ([], 0, 0)
    let k := match c.single, shot with
      | some (nn, _, _), some _ => { k with history := (ps.1.map (·.t) :: k.history).take (nn - 1) }
      | _, _ => k
    let room := 8 - pa.1.length
    let sg := if ps.1.length ≤ room then ps.1 else selectEchoes room c.emit.lastPref ps.1
    let amb := c.amb.getD ch 0
    let deg := c.angleSrc != 0 || c.degMode || (match shot with
      | some f => f.fate == .truncated
      | none => false)
    let dith := match shot with
      | some f => f.dithered
      | none => false
    let sRecs := sg.mapIdx (recordOf ch c.frameSlot e amb c.angle fun far =>
      flagsOf (dith && far == 1) sp (bitAt after.calChannels ch) deg (sunHighAt c ch) dith false)
    { chan := k, acc := pa.1, single := sg, accRecs := accRecs, singleRecs := sRecs
      nearDropped := pa.2.1 + ps.2.1, unreported := pa.2.2 + ps.2.2 + (ps.1.length - sg.length)
      unconfirmed := (sg.filter (·.unconfirmed)).length
      lost := ofBool (ends && isLost && !g.gainLost), gainLost := ofBool (ends && g.gainLost)
      base := base
      dump := if run && c.emit.hdump then some (w, if g.n = 0 then List.replicate (11200 / w) 0 else k.bufs.getD k.cur []) else none }

/-! ### All channels of a slot -/

/-- How far the work of a channel came: what its engine, or EE12 in its place, had done if that did not finish, and what the record formatter had handed on if
that did not (R16, Table 2.10). -/
def State.progress (s : State) (i : TickInput) (units ch : Nat) : Option Progress :=
  let p := i.progress.getD ch {}
  if bitAt units (if s.pipe.cur.ee12 = engineOf ch then 12 else engineOf ch) then some p
  else if bitAt units 13 then some { base := true, added := true, accum := true, single := true, records := p.records }
  else none

/-- The processing stage of slot `pipe.prev` ends at the tick that ends slot `pipe.cur`, with the units given not finished: counters, histories and the records
formed (R12, R16). -/
def State.processSlot (s : State) (i : TickInput) (units : Nat) : State :=
  let before := s.pipe.prev2
  let c := s.pipe.prev
  let after := s.pipe.cur
  let work := (List.range 48).map fun ch => (ch, chanEcho before c after ch (s.pipe.chans.getD ch {}) (s.progress i units ch))
  let s := s.forEach work fun s p =>
    let ch := p.1
    let r := p.2
    let s := s.countBy (K.NEAR_DROPPED ch) r.nearDropped
    let s := s.countBy (K.ECHOES_UNREPORTED ch) r.unreported
    let s := s.countBy (K.UNCONFIRMED ch) r.unconfirmed
    let s := s.countBy (K.GROUPS_LOST ch) r.lost
    let s := s.countBy (K.GAIN_DISCARDS ch) r.gainLost
    match r.base with
    | some b => s.putI 16 (K.LAST_BASE ch) b
    | none => s
  let recs := (work.map fun p =>
    let l := p.2.accRecs ++ p.2.singleRecs
    match s.progress i units p.1 with
    | some q => l.take q.records
    | none => l).foldl (· ++ ·) []
  let recs := if units = 0 then recs else recs.map fun r => { r with flags := r.flags + 64 }
  let st : RecStage := { valid := c.live, slotNo := c.no, frameOrd := c.frameOrd, frameSlot := c.frameSlot, lastOfFrame := c.lastOfFrame, tag := c.tag, locked := c.locked
                         stream := c.emit.stream, pts := c.emit.pts, overrun := units, recs := recs }
  { s with pipe := { s.pipe with chans := work.map (·.2.chan), formed := st } }

/-- R61: an overrun is counted once, stamped with the tick of its slot, and the units are recorded. -/
def State.overrun (s : State) (units : Nat) : State :=
  if units = 0 then s
  else
    let c := s.pipe.prev
    (((((s.count K.OVERRUN_COUNT).put K.OVERRUN_LAST (compactStamp c.no 0 0)).put K.OVERRUN_UNITS units)).stick 20).eventTick 20 s.nextStamp

/-! ### The record on the link (Table 5.6) -/

/-- The 128-bit value of a point record. -/
def PointRec.value (r : PointRec) : Nat :=
  r.slot % 2 ^ 24 + r.ch % 64 * 2 ^ 24 + r.rng % 2 ^ 20 * 2 ^ 32 + r.echo % 8 * 2 ^ 52 + r.emitter % 16 * 2 ^ 56 + r.cls % 8 * 2 ^ 60
    + r.amp % 2 ^ 16 * 2 ^ 64 + r.width % 1024 * 2 ^ 80 + r.flags % 256 * 2 ^ 96 + r.amb % 256 * 2 ^ 104 + ofSigned 16 r.angle * 2 ^ 112

/-- Its 16 bytes, least significant first (R140). -/
def PointRec.bytes (r : PointRec) : List Byte := leBytes 16 r.value

end Sys2Proof.Machine
end

