-- ==== Sys2Proof/Machine/Symbols.lean ====
section
/-! DEFINITION. What the lanes carry (R247 to R250, R253, R257): the 8b/10b code, control symbols, columns, markers, training bursts and presets. -/

namespace Sys2Proof.Machine

/-! ### The 8b/10b code (R248; the table itself is that of IEEE 802.3 Clause 36, log 51) -/

/-- Octet of a symbol, and whether it is a K symbol (Table 10.2). -/
def Symbol.octet : Symbol → Nat × Bool
  | .data b => (b % 256, false)
  | .com => (0xBC, true)
  | .am => (0x3C, true)
  | .sop => (0xFB, true)
  | .eop => (0xFD, true)
  | .pad => (0xF7, true)
  | .sus => (0x1C, true)
  | .res => (0x7C, true)

/-- Sub-block abcdei of bits EDCBA at negative running disparity, a the most significant. -/
def sixTable : List Nat :=
  [0b100111, 0b011101, 0b101101, 0b110001, 0b110101, 0b101001, 0b011001, 0b111000, 0b111001, 0b100101, 0b010101, 0b110100, 0b001101, 0b101100, 0b011100,
   0b010111, 0b011011, 0b100011, 0b010011, 0b110010, 0b001011, 0b101010, 0b011010, 0b111010, 0b110011, 0b100110, 0b010110, 0b110110, 0b001110, 0b101110,
   0b011110, 0b101011]

/-- Sub-block fghj of bits HGF at negative running disparity: of a data symbol, and of a K symbol. -/
def fourTable : List Nat := [0b1011, 0b1001, 0b0101, 0b1100, 0b1101, 0b1010, 0b0110, 0b1110]
/-- See `fourTable`. -/
def fourTableK : List Nat := [0b1011, 0b0110, 0b1010, 0b1100, 0b1101, 0b0101, 0b1001, 0b0111]

/-- Ones among the `w` low bits of a number. -/
def onesOf (w n : Nat) : Nat := (bitsSet n w).length

/-- Running disparity after a sub-block of `w` bits: positive is `true`; a balanced one keeps it. -/
def disparity (rd : Bool) (w n : Nat) : Bool := if w < 2 * onesOf w n then true else if 2 * onesOf w n < w then false else rd

/-- The sub-block abcdei at running disparity `rd`: its complement at a positive one, but for a balanced block that has one form only. -/
def sixBits (rd k : Bool) (x : Nat) : Nat :=
  let p := if k && x == 28 then 0b001111 else sixTable.getD x 0
  if rd && (onesOf 6 p != 3 || x == 7) then 63 - p else p

/-- The sub-block fghj at running disparity `rd`; data symbols whose bits would make a run of five take the alternate form of D.x.7. -/
def fourBits (rd k : Bool) (x y : Nat) : Nat :=
  let alt := y == 7 && (if rd then [11, 13, 14].contains x else [17, 18, 20].contains x)
  let p := if k then fourTableK.getD y 0 else if alt then 0b0111 else fourTable.getD y 0
  if rd && (k || onesOf 4 p != 2 || y == 3) then 15 - p else p

/-- Code group of a symbol at a running disparity, its first bit on the line the most significant, and the running disparity after it. -/
def codeGroup (rd : Bool) (s : Symbol) : Nat × Bool :=
  let o := s.octet
  let six := sixBits rd o.2 (o.1 % 32)
  let mid := disparity rd 6 six
  let four := fourBits mid o.2 (o.1 % 32) (o.1 / 32)
  (six * 16 + four, disparity mid 4 four)

/-- Code groups of a run of symbols on a lane. -/
def codeGroups : Bool → List Symbol → List Nat × Bool
  | rd, [] => ([], rd)
  | rd, s :: l =>
    let g := codeGroup rd s
    let r := codeGroups g.2 l
    (g.1 :: r.1, r.2)

/-- Every symbol that the link knows. -/
def allSymbols : List Symbol := [.com, .am, .sop, .eop, .pad, .sus, .res] ++ (List.range 256).map .data

/-- A received code group: none where it is a code error, a group of the other disparity and a K symbol outside Table 10.2 among them (R248). -/
def symbolOf (rd : Bool) (g : Nat) : Option Symbol := allSymbols.find? fun s => (codeGroup rd s).1 == g

/-- Running disparity after a received code group. -/
def disparityAfter (rd : Bool) (g : Nat) : Bool := disparity (disparity rd 6 (g / 16)) 4 (g % 16)

/-- What received code groups say, and the running disparity after them. -/
def readGroups : Bool → List (BitVec 10) → List (Option Symbol) × Bool
  | rd, [] => ([], rd)
  | rd, g :: l =>
    let r := readGroups (disparityAfter rd g.toNat) l
    (symbolOf rd g.toNat :: r.1, r.2)

/-- Lane `p` sends a run of symbols after the training pairs since its last one, in its running disparity (R248, R249). -/
def Link.sendOn (l : Link) (p : Nat) (x : List Symbol) : Link :=
  let g := codeGroups (l.txRd.getD p false != Config.pairsOdd l.sends p) x
  { l with lines := setAt [] l.lines p x, codes := setAt [] l.codes p g.1, txRd := setAt false l.txRd p g.2 }

/-- Every lane sends its run of symbols. -/
def Link.send (l : Link) (x : Nat → List Symbol) : Link :=
  let l := (List.range 9).foldl (fun l p => l.sendOn p (x p)) l
  { l with sends := l.sends + 1 }

/-! ### Markers and bursts (R250, R257) -/

/-- COM D10.2 pairs in `n` symbols: what a lane sends while it has nothing else to. -/
def pairs (n : Nat) : List Symbol := (List.range n).map fun i => if i % 2 = 0 then .com else .data 0x4A

/-- Alignment marker of a physical lane. -/
def markerSymbols (lane count : Nat) : List Symbol := [.am, .data lane, .data (count % 256), .data (count / 256 % 256)]

/-- Training burst of a lane: 62 COM D10.2 pairs and a marker, 128 symbols. -/
def burst (lane count : Nat) : List Symbol := pairs 124 ++ markerSymbols lane count

/-- Count of the marker that the last four symbols received on lane `i` make, none where they make no valid one. -/
def markerOf (i : Nat) (l : List (Option Symbol)) : Option Nat :=
  match l.reverse with
  | some (.data hi) :: some (.data lo) :: some (.data n) :: some .am :: _ => if n = i then some (lo + hi * 256) else none
  | _ => none

/-! ### Columns (R249, R269) -/

/-- The same symbol on the eight logical lanes. -/
def columnOf (s : Symbol) : List Symbol := List.replicate 8 s

/-- Data columns of `b`: byte i on logical lane i mod 8, PAD after the last one. -/
def dataColumns : Nat → List Byte → List (List Symbol)
  | 0, _ => []
  | n + 1, b => if b.isEmpty then [] else ((b.take 8).map (fun x => Symbol.data x.toNat) ++ columnOf .pad).take 8 :: dataColumns n (b.drop 8)

/-- Columns of a packet whose bytes, header to CRC, are `b`. -/
def packetColumns (b : List Byte) : List (List Symbol) := columnOf .sop :: dataColumns b.length b ++ [columnOf .eop]

/-- A packet between a SUS and a RES column, which suspend another and continue it. -/
def suspending (c : List (List Symbol)) : List (List Symbol) := columnOf .sus :: c ++ [columnOf .res]

/-- A received symbol, one column of the receive lane: a marker stands outside the packets, and a code error or a pair leaves a byte out of the packet. -/
def HostLine.take (cc : Nat) (h : HostLine) (x : Option Symbol) : HostLine :=
  match x with
  | some .am => { h with skip := 3 }
  | some (.data b) => if 0 < h.skip then { h with skip := h.skip - 1 } else { h with bytes := h.bytes.map fun l => l ++ [BitVec.ofNat 8 b] }
  | some .sop => { h with skip := 0, bytes := some [] }
  | some .eop => { skip := 0, bytes := none, whole := match h.bytes with
    | some l => h.whole ++ [(l, cc)]
    | none => h.whole }
  | _ => h

/-! ### Equalisation (R253) -/

/-- Pre-cursor, main and post-cursor of a preset, in 1/32 of the full swing (Table 10.3). -/
def presetTaps : Nat → Int × Int × Int
  | 0 => (0, 32, 0)
  | 1 => (0, 28, -4)
  | 2 => (0, 26, -6)
  | 3 => (0, 24, -8)
  | 4 => (-2, 26, -4)
  | 5 => (-2, 24, -6)
  | 6 => (-3, 23, -6)
  | _ => (-4, 22, -6)

end Sys2Proof.Machine
end

