-- ==== Sys2Proof/Machine/Store.lean ====
section
/-! DEFINITION. The Field Store and its fabric (R220 to R235, R244): memory, translation, granules, tags, faults, scrubbing, map edits
and bank retirement. -/

namespace Sys2Proof.Machine

/-! ### Memory -/

/-- What a byte of the Field Store that nothing has written reads as: BOOT clears every word (R221). -/
def memDefault : Byte := 0

/-- The byte at a physical address. -/
def memGet : List Host.Cell → Nat → Byte
  | [], _ => memDefault
  | (k, v) :: l, a => if k = a then v else memGet l a

/-- Memory with one byte replaced; a byte of the default value is not listed. -/
def memPut (l : List Host.Cell) (a : Nat) (b : Byte) : List Host.Cell := if b = memDefault then storeDel l a else storeSet l a b

/-- Memory with successive bytes replaced. -/
def memPutAll (l : List Host.Cell) (a : Nat) : List Byte → List Host.Cell
  | [] => l
  | b :: bs => memPutAll (memPut l a b) (a + 1) bs

/-- `n` successive bytes. -/
def memRead (l : List Host.Cell) (a n : Nat) : List Byte := (List.range n).map fun i => memGet l (a + i)

/-- The canonical form of the memory list: addresses strictly rising, no default byte listed. -/
def Memory.wf (l : List Host.Cell) : Bool := storeSorted none l && l.all fun c => c.2 != memDefault

/-- Bytes of a physical bank. -/
def bankBytes : Nat := 4194304

/-- Memory of one physical bank copied over another's. -/
def memCopyBank (l : List Host.Cell) (p q : Nat) : List Host.Cell :=
  let keep := l.filter fun c => c.1 / bankBytes != q
  (l.filter fun c => c.1 / bankBytes == p).foldl (fun m c => memPut m (q * bankBytes + c.1 % bankBytes) c.2) keep

/-- Memory with one physical bank cleared. -/
def memClearBank (l : List Host.Cell) (p : Nat) : List Host.Cell := l.filter fun c => c.1 / bankBytes != p

/-- The Field Store with every word of a physical bank set to zero with valid check bits. -/
def FieldStore.clearBank (f : FieldStore) (p : Nat) : FieldStore :=
  { f with mem := memClearBank f.mem p, bad := f.bad.filter fun b => b.1 * 8 / bankBytes != p }

/-- Replaces the Field Store's state. -/
def State.setFs (s : State) (f : FieldStore) : State := { s with fs := f }

/-! ### Translation (R225 to R228, R232) -/

/-- Why a granule faults (Table 9.4). -/
inductive FsFault | unmapped | permission | retired | uncorrectable | descriptor
  deriving DecidableEq, Repr

/-- Code of a fault (Table 9.4). -/
def FsFault.code : FsFault → Nat
  | .unmapped => 1
  | .permission => 2
  | .retired => 3
  | .uncorrectable => 4
  | .descriptor => 5

/-- Entry of a page in an address space's map (Table 9.1). -/
def State.pageEntry (s : State) (space page : Nat) : Nat := fieldAt (s.dom (K.AS_MAP space)) (4 * page) 4

/-- A page entry that may be stored: reserved bits zero, and a frame that exists when it is valid (R226). -/
def pageEntryOk (e : Nat) : Bool := bits e 27 12 == 0 && (!bitAt e 31 || decide (bits e 11 0 < 3072))

/-- Translates a virtual address for an access: the physical address, or the fault with the physical bank known so far (R225, R227, R228, R232). -/
def State.translate (s : State) (space va : Nat) (write typeZero : Bool) : Except (FsFault × Nat) Nat :=
  if !s.regBit K.AS_ENABLE space then .error (.unmapped, 255)
  else
    let e := s.pageEntry space (va / 65536 % 4096)
    if !bitAt e 31 then .error (.unmapped, 255)
    else if write && !bitAt e 29 then .error (.permission, 255)
    else if !write && (!bitAt e 30 || (bitAt e 28 && !typeZero)) then .error (.permission, 255)
    else
      let f := bits e 11 0
      let p := s.reg (K.BANK_MAP (f / 64))
      if p = 255 then .error (.retired, 255) else .ok (p * bankBytes + f % 64 * 65536 + va % 65536)

/-! ### Faults (R232 to R234) -/

/-- A fault record (Table 9.4). -/
def faultRecord (ty master space cls : Nat) (write resumed : Bool) (va time pbank syn done seq : Nat) : List Byte :=
  leBytes 8 (va % 2 ^ 28 + ofBool resumed * 2 ^ 40 + ofBool write * 2 ^ 41 + cls * 2 ^ 42 + space * 2 ^ 44 + master * 2 ^ 48 + ty * 2 ^ 56)
    ++ leBytes 8 time ++ leBytes 8 (done + syn * 2 ^ 48 + pbank * 2 ^ 56) ++ leBytes 8 (seq * 2 ^ 32)

/-- Records a fault: FAULT_LAST, the ring of 16, FAULT_FIRST when empty, FAULT_COUNT and MEM_FAULT (R234). -/
def State.recordFault (s : State) (r : Nat → List Byte) : State :=
  let rec_ := r (s.reg K.FAULT_COUNT)
  let f := s.fs
  let s := (s.putDom K.FAULT_LAST rec_).tally K.FAULT_COUNT
  let s := { s with fs := { f with faultLog := (rec_ :: f.faultLog).take 16, faultFirst := some (f.faultFirst.getD rec_) } }
  s.stick 18

/-- A fault of a master's granule. -/
def State.granuleFault (s : State) (cc : Nat) (f : FsFault) (master space cls : Nat) (write resumed : Bool) (va pbank syn done : Nat) : State :=
  (s.recordFault (faultRecord f.code master space cls write resumed va (s.stampCc cc) pbank syn done)).eventCc 18 cc

/-! ### ECC (R222, R224) -/

/-- The uncorrectable words a byte range of physical memory touches. -/
def badIn (bad : List (Nat × Nat)) (pa n : Nat) : Option Nat :=
  (bad.find? fun b => decide (pa / 8 ≤ b.1 ∧ b.1 ≤ (pa + n - 1) / 8 ∧ 0 < n)).map (·.2)

/-- A write of a whole word ends its uncorrectable state. -/
def mendWords (bad : List (Nat × Nat)) (pa n : Nat) : List (Nat × Nat) :=
  bad.filter fun b => !(decide (pa ≤ 8 * b.1 ∧ 8 * b.1 + 8 ≤ pa + n))

/-- A correction in a physical bank (R222, R224): counted, and a bank that serves, or takes part in a copy, becomes SUSPECT when its pass holds more than
the limit. -/
def State.correct (s : State) (pbank : Nat) : State :=
  let n := (storeGet s.fs.passCe pbank).getD 0 + 1
  let s := s.count (K.BANK_CE pbank)
  let s := { s with fs := { s.fs with passCe := storeSet s.fs.passCe pbank n } }
  if s.reg K.BANK_CE_LIMIT < n && [0, 2, 3].contains (s.reg (K.BANK_STATE pbank)) then s.put (K.BANK_STATE pbank) 5 else s

/-- The part of a write that leaves a 64-bit word partly unwritten reads that word first (R222). -/
def partWords (pa n : Nat) : List (Nat × Nat) :=
  let head := if pa % 8 = 0 ∧ 8 ≤ n then [] else [(pa / 8 * 8, 8)]
  let e := pa + n
  let tail := if e % 8 = 0 ∨ (e / 8 = pa / 8 ∧ head ≠ []) then [] else [(e / 8 * 8, 8)]
  if n = 0 then [] else head ++ tail

/-- What the read of a word finds in it: a single error is corrected, a double one leaves the word uncorrectable, as it stays until it is written. -/
def State.eccFound (s : State) (f : Nat × EccFind) : State :=
  if s.fs.bad.any (·.1 == f.1) then s
  else match f.2 with
    | .single => s.correct (f.1 * 8 / bankBytes)
    | .double syn => { s with fs := { s.fs with bad := storeSet s.fs.bad f.1 syn } }

/-- A read of the words that `n` bytes from `pa` on touch meets the findings among them (R222). -/
def State.eccRead (s : State) (pa n : Nat) (l : Ecc) : State :=
  s.forEach (l.filter fun f => decide (pa / 8 ≤ f.1 ∧ f.1 ≤ (pa + n - 1) / 8 ∧ 0 < n)) State.eccFound

/-! ### Tags (R23, R24) -/

/-- Tags in flight of a class. -/
def State.tagsOf (s : State) (cls : Nat) : Nat := (s.fs.tags.filter (·.cls == cls)).length

/-- A tag is free for a master: 16,384 per class, and 2,048 per DMA engine (R23). -/
def State.tagFree (s : State) (cls master : Nat) : Bool :=
  decide (s.tagsOf cls < 16384) && (cls != 3 || decide ((s.fs.tags.filter (·.master == master)).length < 2048))

/-- Takes a tag for a granule issued to a physical address. -/
def State.takeTag (s : State) (cls master pa space va : Nat) : State :=
  let s := { s with fs := { s.fs with tags := s.fs.tags ++ [({ cls := cls, master := master, pbank := pa / bankBytes, space := space, page := va / 65536 } : Tag)] } }
  s.put (K.TAGS_PEAK cls) (max (s.reg (K.TAGS_PEAK cls)) (s.tagsOf cls))

/-! ### Accesses of a granule -/

/-- Whether writes to a physical bank are mirrored to the copy's target (R244). -/
def State.mirrored (s : State) (pbank : Nat) : Option Nat :=
  let r := s.fs.retire
  if (r.copying || r.ticks != 0 || r.draining) && r.source == pbank then some r.target else none

/-- Stores bytes at a physical address and in the mirror. -/
def State.storeBytes (s : State) (pa : Nat) (d : List Byte) : State :=
  let m := memPutAll s.fs.mem pa d
  let bad := mendWords s.fs.bad pa d.length
  match s.mirrored (pa / bankBytes) with
  | some q =>
    let qa := q * bankBytes + pa % bankBytes
    { s with fs := { s.fs with mem := memPutAll m qa d, bad := mendWords bad qa d.length } }
  | none => { s with fs := { s.fs with mem := m, bad := bad } }

/-- A write of a granule of a master: the fault with its bank and syndrome and the state after the reads of the words written in part, or the state after it
with a tag taken. -/
def State.writeGranule (s : State) (ecc : Ecc) (master cls space va : Nat) (d : List Byte) : Except (FsFault × Nat × Nat × State) State :=
  match s.translate space va true false with
  | .error (f, p) => .error (f, p, 0, s)
  | .ok pa =>
    let parts := partWords pa d.length
    let s := s.forEach parts fun s w => s.eccRead w.1 w.2 ecc
    match parts.findSome? fun w => badIn s.fs.bad w.1 w.2 with
    | some syn => .error (.uncorrectable, pa / bankBytes, syn, s.count (K.BANK_UE (pa / bankBytes)))
    | none => .ok ((s.storeBytes pa d).takeTag cls master pa space va)

/-- A read of a granule of a master. -/
def State.readGranule (s : State) (ecc : Ecc) (master cls space va n : Nat) (typeZero : Bool) : Except (FsFault × Nat × Nat × State) (List Byte × State) :=
  match s.translate space va false typeZero with
  | .error (f, p) => .error (f, p, 0, s)
  | .ok pa =>
    let s := s.eccRead pa n ecc
    match badIn s.fs.bad pa n with
    | some syn => .error (.uncorrectable, pa / bankBytes, syn, s.count (K.BANK_UE (pa / bankBytes)))
    | none => .ok (memRead s.fs.mem pa n, s.takeTag cls master pa space va)

/-- Cuts bytes from virtual address `va` on into granules of at most 64 bytes within their 64-byte blocks. -/
def cutGranules : (fuel : Nat) → (va : Nat) → List Byte → List (Nat × List Byte)
  | 0, _, _ => []
  | _ + 1, _, [] => []
  | n + 1, va, b :: bs =>
    let k := 64 - va % 64
    (va, (b :: bs).take k) :: cutGranules n (va + k) ((b :: bs).drop k)

/-- The granules of a transfer by a writing master, in address order; the bytes done before each count within its burst, a 4 KiB block. -/
def granulesOf (master cls space va : Nat) (d : List Byte) (p : Bool → Purpose) : List Granule :=
  let l := cutGranules (d.length / 64 + 2) va d
  l.mapIdx fun i g =>
    { master := master, cls := cls, space := space, va := g.1, data := g.2, done := g.1 - max va (g.1 / 4096 * 4096)
      purpose := p (i + 1 == l.length) }

/-- Puts granules at the end of the queue. -/
def State.enqueue (s : State) (l : List Granule) : State := { s with fs := { s.fs with queue := s.fs.queue ++ l } }

/-! ### Map edits (R229) -/

/-- The map DOMAIN with one entry replaced. -/
def setEntry (m : List Byte) (page e : Nat) : List Byte :=
  bytesAt m 0 (4 * page) ++ leBytes 4 e ++ bytesAt m (4 * page + 4) (16384 - (4 * page + 4))

/-- MAP_EDIT with a value in range, while not flushing (R229). -/
def State.mapEdit (s : State) (v : Nat) : State :=
  let space := bits v 51 48
  let page := bits v 43 32
  let s := s.putDom (K.AS_MAP space) (setEntry (s.dom (K.AS_MAP space)) page (bits v 31 0))
  let mark := s.regBit K.AS_ENABLE space
  let tags := s.fs.tags.map fun t => if mark && t.space == space && t.page == page then { t with oldMap := true } else t
  let s := { s with fs := { s.fs with tags := tags } }
  s.put K.MAP_EDIT_STATE (if tags.any (·.oldMap) then 1 else 2)

/-- FLUSHING ends once every tag issued under the old translation has returned (R229). -/
def State.mapEditDone (s : State) : State :=
  if s.reg K.MAP_EDIT_STATE = 1 && !s.fs.tags.any (·.oldMap) then s.put K.MAP_EDIT_STATE 2 else s

/-! ### Retirement of a bank (R244, R245) -/

/-- Physical banks that read SPARE, lowest first. -/
def State.spareBanks (s : State) : List Nat := (List.range 50).filter fun p => s.reg (K.BANK_STATE p) == 1

/-- A retirement is under way, from its request to the end of its drain. -/
def Retire.busy (r : Retire) : Bool := r.startDue || r.copying || r.ticks != 0 || r.draining

/-- A request to move logical bank `b` to physical bank `q`, leaving its own bank with state `after`. -/
def State.bankMove (s : State) (b q after : Nat) : State :=
  (s.put K.RETIRE_STATE 0).setFs { s.fs with retire := { logical := b, source := s.reg (K.BANK_MAP b), target := q, startDue := true, after := after } }

/-- A request to retire logical bank `b` (R244): refused without a spare, and unless RETIRE_STATE reads IDLE or REFUSED with no retirement under
way. A bank that has lost its physical bank gets the spare too (log 47). -/
def State.bankRetireAs (s : State) (b after : Nat) : State :=
  if 48 ≤ b then s
  else match s.spareBanks with
    | q :: _ => if !s.fs.retire.busy && (s.reg K.RETIRE_STATE == 0 || s.reg K.RETIRE_STATE == 4) then s.bankMove b q after else s.put K.RETIRE_STATE 4
    | [] => s.put K.RETIRE_STATE 4

/-- BANK_RETIRE. -/
def State.bankRetire (s : State) (b : Nat) : State := s.bankRetireAs b 4

/-- Sets the state of a physical bank. -/
def State.putBank (s : State) (p c : Nat) : State := if p < 50 then s.put (K.BANK_STATE p) c else s

/-- The copy starts at the tick after an accepted request; while it runs, RETIRE_PROGRESS advances by the rows copied in a slot, at most one a cc, of which the
spec states only the bounds (log 47). -/
def State.retireTick (s : State) : State :=
  let r := s.fs.retire
  if r.startDue then
    (((s.put K.RETIRE_STATE 1).put K.RETIRE_PROGRESS 0).putBank r.source 2).putBank r.target 3
      |>.setFs { s.fs with retire := { r with startDue := false, copying := true, suspect := s.reg (K.BANK_STATE r.source) == 5 } }
  else if r.copying then
    let d := s.draw
    d.2.put K.RETIRE_PROGRESS (min (bankBytes - 32) (s.reg K.RETIRE_PROGRESS + Config.freeNat d.1 % 2801 * 32))
  else s

/-- The last row is copied (R244): the copy has read and written every word, so what was uncorrectable in the target is gone, and an uncorrectable word of the
source goes over as such and is recorded with the bank copy as master (R235). -/
def State.copyDone (s : State) (cc : Nat) (ecc : Ecc) : State :=
  let r := s.fs.retire
  if !r.copying then s
  else if r.source = 255 then
    ((s.put K.RETIRE_STATE 2).put K.RETIRE_PROGRESS bankBytes).setFs { s.fs with retire := { r with copying := false, ticks := ticksAfter cc } }
  else
    let s := s.eccRead (r.source * bankBytes) bankBytes ecc
    let s := s.setFs { s.fs with bad := s.fs.bad.filter fun b => b.1 * 8 / bankBytes != r.target }
    let inP := s.fs.bad.filter fun b => b.1 * 8 / bankBytes == r.source
    let s := s.forEach inP fun s b =>
      ((s.count (K.BANK_UE r.source)).recordFault
        (faultRecord 4 0x51 0 0 false false (b.1 * 8 % bankBytes) (s.stampCc cc) r.source b.2 0)).eventCc 18 cc
    let bad := inP.foldl (fun l b => storeSet l (r.target * (bankBytes / 8) + b.1 % (bankBytes / 8)) b.2) s.fs.bad
    let s := (s.put K.RETIRE_STATE 2).put K.RETIRE_PROGRESS bankBytes
    s.setFs { s.fs with mem := memCopyBank s.fs.mem r.source r.target, bad := bad
                        retire := { r with copying := false, ticks := ticksAfter cc } }

/-- At the first eligible tick BANK_MAP points at the spare, whose take-over is counted, or back at the bank that returns (R244, R408, R418). -/
def State.mapSwitch (s : State) : State :=
  let r := s.fs.retire
  if r.ticks = 1 then
    let s := if r.after = 1 then s else s.count K.TAKEOVERS
    let s := if r.source = 255 then s else { s with spares := { s.spares with served := storeSet s.spares.served r.source r.logical } }
    let s := if r.source = 255 then s.put K.FS_FRAMES (s.reg K.FS_FRAMES + 64) else s
    ((s.put (K.BANK_MAP r.logical) r.target).put K.RETIRE_STATE 3).setFs { s.fs with retire := { r with ticks := 0, draining := true } }
  else s

/-- Mirroring ends when every tag issued to the old bank has returned (R244); a target that became SUSPECT stays so. -/
def State.retireDrained (s : State) : State :=
  let r := s.fs.retire
  if r.draining && !s.fs.tags.any (·.pbank == r.source) then
    let keep := s.reg (K.BANK_STATE r.target)
    ((s.putBank r.source r.after).putBank r.target (if keep = 5 then 5 else 0)).put K.RETIRE_STATE 0 |>.setFs { s.fs with retire := {} }
  else s

/-- State of the source of a copy that is called off. -/
def State.sourceBack (s : State) : Nat := if s.fs.retire.suspect || s.reg (K.BANK_STATE s.fs.retire.source) == 5 then 5 else 0

/-- The spare fails before it serves, during the copy or beside it (R244): the source serves on, SUSPECT if it was or has become so. -/
def State.copyFailed (s : State) : State :=
  let r := s.fs.retire
  ((s.put K.RETIRE_STATE 5).putBank r.target 6).putBank r.source s.sourceBack |>.setFs { s.fs with retire := {} }

/-- A logical bank leaves service with no spare (R245): its contents are lost. -/
def State.bankLost (s : State) (b : Nat) : State :=
  let p := s.reg (K.BANK_MAP b)
  if p = 255 then s
  else
    let s := (s.put (K.BANK_MAP b) 255).put K.FS_FRAMES (s.reg K.FS_FRAMES - 64)
    let s := { s with spares := { s.spares with served := storeSet s.spares.served p b } }
    s.setFs (s.fs.clearBank p)

/-! ### Returns of tags (R24) -/

/-- The list without its first element that satisfies a test. -/
def dropFirst {α : Type} (p : α → Bool) : List α → List α
  | [] => []
  | a :: l => if p a then l else a :: dropFirst p l

/-- The oldest transaction of a class completes: the bytes that a DMA engine wrote with it count as moved (R239), and a flush or a drain that waited for it
may end. -/
def State.tagReturn (s : State) (cls : Nat) : State :=
  let u := s.setFs { s.fs with tags := dropFirst (·.cls == cls) s.fs.tags }
  match s.fs.tags.find? (·.cls == cls) with
  | some t => if t.bytes = 0 then u else u.put (K.DMA_CUR_DONE (t.master - 0x48)) (s.reg (K.DMA_CUR_DONE (t.master - 0x48)) + t.bytes)
  | none => u

/-! ### Scrubbing (R223) -/

/-- One row of every active physical bank is read, once the clearing of BOOT has ended (R221, R223). -/
def State.scrubRow (s : State) (cc : Nat) (found : Ecc) : State :=
  if !s.fs.cleared then s
  else
    let row := s.fs.scrubRow
    let active := fun p => [0, 2, 3, 5].contains (s.reg (K.BANK_STATE p))
    let s := s.forEach (found.filter fun f => f.1 * 8 % bankBytes / 32 == row && active (f.1 * 8 / bankBytes)) State.eccFound
    let rows := s.fs.bad.filter fun b => b.1 * 8 % bankBytes / 32 == row && active (b.1 * 8 / bankBytes)
    let s := s.forEach rows fun s b =>
      let p := b.1 * 8 / bankBytes
      ((s.count (K.BANK_UE p)).recordFault (faultRecord 4 0x50 0 0 false false (b.1 * 8 % bankBytes) (s.stampCc cc) p b.2 0)).eventCc 18 cc
    if row + 1 < 131072 then { s with fs := { s.fs with scrubRow := row + 1 } }
    else
      let ue := (List.range 50).filterMap fun p => if s.reg (K.BANK_UE p) = 0 then none else some (p, s.reg (K.BANK_UE p))
      { s.tally K.SCRUB_PASSES with fs := { s.fs with scrubRow := 0, passCe := [], passUe := ue } }

end Sys2Proof.Machine
end

