-- ==== Sys2Proof/Machine/Trigger.lean ====
section
/-! DEFINITION. Triggers and capture (R185 to R207): conditions, stamps, the stage program, the kept window, the ends of a capture and its header. -/

namespace Sys2Proof.Machine

/-! ### Conditions (R185 to R190) -/

/-- Replaces the trigger engine. -/
def State.setTrg (s : State) (t : Trig) : State := { s with trg := t }

/-- Replaces the capture. -/
def State.setCap (s : State) (c : Capture) : State := { s with cap := c }

/-- Source of channel `n` in a stage: 0 LEVEL, 1 SLOPE, 2 ECHO, 3 MASKV (Table 7.2). -/
def State.stageSrc (s : State) (st n : Nat) : Nat :=
  if n < 32 then bits (s.reg (K.TRIG_SRC_LO st)) (2 * n + 1) (2 * n) else bits (s.reg (K.TRIG_SRC_HI st)) (2 * (n - 32) + 1) (2 * (n - 32))

/-- Code of position `p` in a stage's pattern: 0 don't care, 1 true, 2 false (R191). -/
def State.stagePat (s : State) (st p : Nat) : Nat :=
  if p < 32 then bits (s.reg (K.TRIG_PAT_LO st)) (2 * p + 1) (2 * p) else bits (s.reg (K.TRIG_PAT_HI st)) (2 * (p - 32) + 1) (2 * (p - 32))

/-- The channel's comparator works: the channel is powered and not retired (R99, R186). -/
def State.chanLive (s : State) (ch : Nat) : Bool := s.reg (K.CH_STATE ch) == 1 || s.reg (K.CH_STATE ch) == 2

/-- The calibration engine gathers for a class in a slot (R352). -/
def State.calGathers (s : State) (c : SlotCtx) (cls : Nat) : Bool :=
  let kindOk := match cls with
    | 2 => c.kind == .calgap
    | 3 | 5 => c.kind == .slot
    | _ => c.kind == .idle || c.kind == .calgap
  s.cal.running && c.live && c.locked && bitAt (regOf c.objs K.CAL_ENABLE) cls && kindOk
    && (c.kind != .calgap || c.calSel == 0 || bitAt c.calSel cls)

/-- In a CALGAP slot that serves class 2 the engine holds the comparators (R354). -/
def State.calTakesTdc (s : State) : Bool := s.calGathers s.pipe.cur 2

/-- The engine has taken the comparator of channel `ch` in the present slot (R354). -/
def State.calTakes (s : State) (ch : Nat) : Bool := s.calTakesTdc && bitAt s.pipe.cur.active ch

/-- A position is true for a stage, given the pulses of the cc (R185, R186). -/
def State.posTrue (s : State) (st p : Nat) (pulses : List (Nat × Nat)) : Bool :=
  if p = 51 then pulses.contains (51, 0)
  else if !s.locked then false
  else if 48 ≤ p then pulses.contains (p, 0)
  else match s.stageSrc st p with
    | 0 => s.chanLive p && !s.calTakes p && s.trg.level.getD p false
    | 1 => s.chanLive p && !s.calTakes p && pulses.contains (p, 1)
    | 2 => s.chanLive p && pulses.contains (p, 2)
    | _ => bitAt s.trg.maskv p

/-- The stage's pattern matches (R191). -/
def State.stageMatch (s : State) (st : Nat) (pulses : List (Nat × Nat)) : Bool :=
  let ps := List.range 52
  let v := fun p => s.posTrue st p pulses
  let noFalse := ps.all fun p => s.stagePat st p != 2 || !v p
  if bitAt (s.reg (K.TRIG_CTRL st)) 17 then noFalse && ps.any fun p => s.stagePat st p == 1 && v p
  else noFalse && ps.all fun p => s.stagePat st p != 1 || v p

/-- Stamp of the newest rise of a position's source. -/
def State.stampOf (s : State) (st p : Nat) : Nat :=
  (storeGet s.trg.stamps (4 * p + if p < 48 then s.stageSrc st p else 0)).getD 0

/-- The position coded true with the earliest stamp among those given, the lower on equal stamps (R194). -/
def State.earliest (s : State) (st : Nat) (l : List Nat) : Option Nat :=
  l.foldl (fun m p => match m with
    | none => some p
    | some q => if s.stampOf st p < s.stampOf st q then some p else some q) none

/-- Reference position and stamp of a trigger whose last stage is `st` (R194). With COMB 1 and no position that rose in the satisfying cc the spec names
none: a free value (log 9). -/
def State.reference (s : State) (st : Nat) (rose : List (Nat × Nat)) : (Nat × Nat) × State :=
  let c := s.reg (K.TRIG_CTRL st)
  if !bitAt c 17 then let p := bits c 23 18
                      ((p, s.stampOf st p), s)
  else
    let l := (List.range 52).filter fun p => s.stagePat st p == 1 && rose.contains (p, if p < 48 then s.stageSrc st p else 0)
    match s.earliest st l with
    | some p => ((p, s.stampOf st p), s)
    | none => let d := s.draw
              let p := Config.freeNat d.1 % 52
              ((p, s.stampOf st p), d.2)

/-! ### The stage program (R192 to R194) -/

/-- The program runs from the arm tick until the capture ends. -/
def State.trigRuns (s : State) : Bool := s.reg K.TRIG_STATE == 2 || s.reg K.TRIG_STATE == 3

/-- Replaces the program and shows its stage. -/
def State.setProg (s : State) (p : TrigProg) : State := (s.setTrg { s.trg with prog := p }).put K.TRIG_STAGE p.stage

/-- One cc of the program: match, hit, count and satisfaction (R192 to R194). -/
def State.progCc (s : State) (t : Int) (pulses rose : List (Nat × Nat)) : State :=
  let p := s.trg.prog
  if p.declare.isSome ∨ t < p.entered then s
  else
    let c := s.reg (K.TRIG_CTRL p.stage)
    let m := s.stageMatch p.stage pulses
    let hit := m && !p.matched && decide ((bits c 47 24 : Int) ≤ t - p.entered)
    let n := if hit then p.hits + 1 else p.hits
    if hit && bits c 63 48 != 0 && n == bits c 63 48 then
      if p.stage + 1 < s.reg K.TRIG_NSTAGES then s.setProg { stage := p.stage + 1, entered := t + 1 }
      else
        let r := s.reference p.stage rose
        r.2.setProg { p with hits := n, matched := m, declare := some (t + 2, r.1.1, r.1.2) }
    else s.setProg { p with hits := n, matched := m }

/-- The stage's time limit has passed by cc `t` (R193). -/
def State.stageLate (s : State) (t : Int) : Bool :=
  let p := s.trg.prog
  let w := s.reg (K.TRIG_WITHIN p.stage)
  s.trigRuns && w != 0 && p.declare.isNone && decide (p.entered + w ≤ t)

/-- The program returns to stage 0 at the end of a time limit (R193). -/
def State.stageTimeout (s : State) : State :=
  let p := s.trg.prog
  let t := p.entered + s.reg (K.TRIG_WITHIN p.stage)
  (s.count K.TRIG_TIMEOUTS).setProg { stage := 0, entered := t }

/-! ### Triggers (R194, R197, R200, R206) -/

/-- Kept samples are counted from the arm tick; the position of a stamp. -/
def State.sampleOf (s : State) (stamp : Nat) : Int :=
  let d : Int := ((stamp / 2 ^ 20 : Nat) : Int) - ((s.slot % 2 ^ 44 : Nat) : Int)
  let d := if 2 ^ 43 ≤ d then d - 2 ^ 44 else if d < -(2 ^ 43) then d + 2 ^ 44 else d
  d * 11200 + (bits stamp 19 6 : Nat) - s.cap.origin

/-- The capture counts decimator words (R197, R198). One that selects no channel writes only its header and counts samples in every format (R199, log 26). -/
def State.capWords (s : State) : Bool := s.reg K.CAP_FMT == 2 && s.reg K.CAP_CHMASK != 0

/-- The selected channels, in increasing order. -/
def State.capChans (s : State) : List Nat := bitsSet (s.reg K.CAP_CHMASK) 48

/-- The first kept sample, given how many were taken when the trigger was declared (R197). -/
def State.keptStart (s : State) (t : Int) (taken : Nat) : Nat × Bool :=
  let want := t - (s.reg K.CAP_PRE : Nat)
  let oldest : Int := (taken - s.reg K.CAP_CH_LEN : Nat)
  ((max 0 (max want oldest)).toNat, decide (want < max 0 oldest))

/-- A trigger is declared at cc `t` (R200): the first one of a capture sets T and starts POST, a later one is ignored. -/
def State.declareAt (s : State) (t : Int) (pos stamp : Nat) : State :=
  let c := s.cap
  if s.reg K.TRIG_STATE = 2 then
    let tn := s.sampleOf stamp
    let taken := (max 0 (4 * t - c.origin)).toNat
    let k := if s.capWords then ((taken, false) : Nat × Bool) else s.keptStart tn taken
    let s := ((s.put K.TRIG_STATE 3).put K.TRIG_LAST stamp).put K.TRIG_LAST_POS pos
    let s := s.put K.CAP_DRAINED 0
    let s := s.setCap { c with trig := some (pos, stamp, tn), start := k.1, preShort := k.2 }
    if s.reg K.TRIG_OUT_MODE != 0 then s.setTrg { s.trg with out := true, outEnd := t + 6 + (s.reg K.TRIG_OUT_WIDTH : Nat) } else s
  else if s.reg K.TRIG_STATE = 3 ∨ s.reg K.TRIG_STATE = 4 then
    (s.count K.TRIG_IGNORED).setCap { c with ignored := incSat 32 c.ignored, ignoredFirst := if c.ignored = 0 then stamp else c.ignoredFirst }
  else s

/-- The pending trigger is declared, and the program enters stage 0 in the cc that follows (R194). -/
def State.triggerDeclare (s : State) : State :=
  match s.trg.prog.declare with
  | some (t, pos, stamp) => (s.setProg { stage := 0, entered := t + 1 }).declareAt t pos stamp
  | none => s

/-! ### Arrivals at the trigger engine (R185) -/

/-- Puts an arrival after those of the same cc or an earlier one. -/
def arrive (a : Arrival) : List Arrival → List Arrival
  | [] => [a]
  | b :: l => if a.cc < b.cc then a :: b :: l else b :: arrive a l

/-- A condition is on its way; one that would arrive in a cc already judged arrives in the next. -/
def State.sends (s : State) (a : Arrival) : State :=
  s.setTrg { s.trg with arrivals := arrive { a with cc := max a.cc (s.trg.clock + 1) } s.trg.arrivals }

/-- What an arrival does to the states and stamps that the engine sees; no stamp is taken of what happens in slots of lock loss, where a SOFT pulse, which
stays live, is stamped all the same (R186; DESIGN CHOICE, log 26). -/
def State.sees (s : State) (a : Arrival) : State :=
  let g := s.trg
  let g := if a.src = 0 && decide (a.pos < 48) then { g with level := setAt false g.level a.pos a.on }
    else if a.src = 3 then { g with maskv := withBit g.maskv a.pos a.on } else g
  s.setTrg (if a.on && a.stamped then { g with stamps := storeSet g.stamps (4 * a.pos + a.src) a.stamp } else g)

/-- Arrivals that are pulses, by position and source (Table 7.1). -/
def pulsesOf (l : List Arrival) : List (Nat × Nat) :=
  (l.filter fun a => decide (48 ≤ a.pos) || a.src == 1 || a.src == 2).map fun a => (a.pos, a.src)

/-- Positions and sources of the states that are true at the engine (R185, R186). -/
def State.statesTrue (s : State) : List (Nat × Nat) :=
  if !s.locked then []
  else ((List.range 48).filter fun p => s.chanLive p && !s.calTakes p && s.trg.level.getD p false).map (fun p => (p, 0))
    ++ ((List.range 48).filter fun p => bitAt s.trg.maskv p).map fun p => (p, 3)

/-- TRIG_SOFT: a write of 1 asks for a pulse after the next tick. -/
def State.trigSoft (s : State) (v : Nat) : State := if v = 1 then s.setTrg { s.trg with softDue := true } else s

/-! ### Sources (R187 to R190) -/

/-- The compact stamp of an instant in ft from sample 0 of the present slot, carried into a neighbouring slot (R188). -/
def State.stampFt (s : State) (e : Int) : Nat :=
  let a := (s.slot : Int) * 716800 + e
  if a < 0 then 0 else compactStamp (a.toNat / 716800) (a.toNat % 716800 / 64) (a.toNat % 64)

/-- Place of a crossing in ft from its TDC code, without the comparator's delay; table 48 is TRIG_IN. -/
def State.tdcRaw (s : State) (tdc code sNext : Nat) : Int := 64 * (sNext : Int) - rheDiv ((s.cal.cum.getD tdc cumDefault).getD code 0) 4

/-- Place of a crossing in ft from its TDC code (R188). -/
def State.tdcPlace (s : State) (tdc code sNext : Nat) : Int :=
  s.tdcRaw tdc code sNext - s.regI 16 (K.COMP_DELAY tdc)

/-- State of a comparator with a level and a hysteresis; upwards, it is true from the level on until the input has fallen below the level less the
hysteresis. -/
def schmitt (upwards : Bool) (l h : Int) (was : Bool) (v : Int) : Bool :=
  if upwards then (if was then decide (l - h ≤ v) else decide (l ≤ v)) else (if was then decide (v ≤ l + h) else decide (v ≤ l))

/-- Level at which a channel's comparator is set: COMP_LEVEL less LEVEL_OFS (R351). -/
def State.compLevel (s : State) (ch : Nat) : Int := s.regI 16 (K.COMP_LEVEL ch) - s.regI 8 (K.LEVEL_OFS ch)

/-- State of a comparator whose state was `was` once its input is `v`, in ADC codes (R187). An input equal to the level has crossed it. -/
def State.compState (s : State) (ch : Nat) (was : Bool) (v : Int) : Bool :=
  schmitt (s.reg (K.COMP_POL ch) == 0) (s.compLevel ch) (s.reg (K.COMP_HYST ch) : Nat) was v

/-- A comparator's state is `up` from `e` ft after the tick on: LEVEL follows at the trigger engine 40 cc later, stamped unless the channel is not powered
or PLL A not locked (R185, R186). -/
def State.compTo (s : State) (ch : Nat) (up : Bool) (e : Int) : State :=
  (s.setTrg { s.trg with comp := setAt false s.trg.comp ch up }).sends
    { cc := e / 256 + 40, pos := ch, src := 0, on := up, stamp := s.stampFt e, stamped := s.chanLive ch && s.locked }

/-- The states of comparators whose threshold changes at cc `t`, judged by their last inputs (R187; log 26). -/
def State.compCommit (s : State) (l : List Nat) (t : Int) : State :=
  s.forEach l fun s ch => match s.trg.inputs.getD ch none with
    | some v =>
      let was := s.trg.comp.getD ch false
      let up := s.compState ch was v
      if up = was then s else s.compTo ch up (256 * t)
    | none => s

/-! ### Comparators that the calibration engine has taken (R354) -/

/-- Threshold that the engine sets from a slot's samples: the mean code plus twice the rms noise, to the whole code that its open rounding gives (log 9). -/
def calThreshold (x : List Int) : Int :=
  let n : Rat := 11200
  let mean := (sumInt x : Rat) / n
  let var := (x.foldl (fun a v => a + v * v) 0 : Int) / n - mean * mean
  roundOpen "CAL_THRESHOLD" (mean + (Nat.sqrt (4 * var * ((2 ^ 40 : Nat) : Rat)).floor.toNat : Nat) / ((2 ^ 20 : Nat) : Rat))

/-- State of a taken comparator: hysteresis 2 codes about the engine's threshold; before a slot has measured one, every crossing changes it. -/
def State.calState (s : State) (ch : Nat) (was : Bool) (v : Int) : Bool :=
  match s.cal.levels.getD ch none with
  | some l => schmitt true (l - s.regI 8 (K.LEVEL_OFS ch)) 2 was v
  | none => !was

/-- At a tick: after a slot of class 2 its samples give the next thresholds and the comparators are the trigger engine's again; a slot that takes them
begins with their states at the last input. -/
def State.calThresholds (s : State) : State :=
  let p := s.pipe.prev
  let measured := fun ch => if bitAt p.active ch then some (calThreshold (p.samples.getD ch [])) else s.cal.levels.getD ch none
  let s := if s.calGathers p 2 then ({ s with cal := { s.cal with levels := (List.range 48).map measured } }).compCommit (bitsSet p.active 48) 0 else s
  let first := fun ch => match s.cal.levels.getD ch none, s.trg.inputs.getD ch none with
    | some l, some v => schmitt true (l - s.regI 8 (K.LEVEL_OFS ch)) 2 false v
    | _, _ => false
  if s.calTakesTdc then { s with cal := { s.cal with comps := (List.range 48).map first } } else s

/-- A crossing for the class 2 statistics is kept with its slot. -/
def State.keepCrossing (s : State) (x : Crossing) : State :=
  { s with pipe := { s.pipe with cur := { s.pipe.cur with crosses := s.pipe.cur.crosses ++ [x] } } }

/-- A crossing of a taken comparator. -/
def State.calCrossing (s : State) (ch : Nat) (v : Int) (code sNext : Nat) : State :=
  let was := s.cal.comps.getD ch false
  let up := s.calState ch was v
  if up = was then s
  else
    let s := { s with cal := { s.cal with comps := setAt false s.cal.comps ch up } }
    s.keepCrossing { ch := ch, code := code, at_ := s.tdcRaw ch code sNext, thr := s.cal.levels.getD ch none }

/-- The input of a channel's comparator moves to `v`, in ADC codes: where that is a crossing (R187), the TDC gives its place (R188). In lock loss and on a
channel that is not powered the state changes without a stamp and without a SLOPE pulse (R186). The crossing before, of R187's 2 smp, is the last one that
was not lost (DESIGN CHOICE, log 26). -/
def State.crossing (s : State) (ch : Nat) (v : Int) (code sNext : Nat) : State :=
  let was := s.trg.comp.getD ch false
  let up := s.compState ch was v
  let s := s.setTrg { s.trg with inputs := setAt none s.trg.inputs ch (some v) }
  if s.calTakes ch then s.calCrossing ch v code sNext
  else if up = was then s
  else if !s.chanLive ch || !s.locked then s.compTo ch up (s.tdcPlace ch code sNext)
  else
    let e := s.tdcPlace ch code sNext
    let close := match s.trg.lastCross.getD ch none with
      | some l => decide ((e - l).natAbs < 128)
      | none => false
    if close then s.count (K.COMP_LOST ch)
    else
      let s := (s.setTrg { s.trg with lastCross := setAt none s.trg.lastCross ch (some e) }).compTo ch up e
      if up then s.sends { cc := e / 256 + 40, pos := ch, src := 1, stamp := s.stampFt e } else s

/-- An edge on TRIG_IN (R189): accepted in the selected polarity after a level of at least 2 ns. Where the oscillator drives the TDC
of TRIG_IN, the edge is stamped at the next sample-clock edge (R354). -/
def State.extEdge (s : State) (rising : Bool) (heldFt code sNext : Nat) : State :=
  if !s.locked then s
  else
    if rising == (s.reg K.EXT_POL == 0) && decide (3584 ≤ 5 * heldFt) then
      let e := if s.calTakesTdc then 64 * (sNext : Int) else s.tdcPlace 48 code sNext
      s.sends { cc := e / 256 + 40, pos := 48, stamp := s.stampFt e }
    else s

/-- A pulse of SLOT, TIMER or SOFT for sample `i` of the present slot (Table 7.1). -/
def State.pulseAt (s : State) (p : Nat) (i : Int) : State := s.sends { cc := i / 4 + 40, pos := p, stamp := s.stampFt (64 * i) }

/-- TRIG_TIMER_EXPIRE (R189): due while the program runs and the timer's cc lies in the present slot. -/
def State.timerExpire (s : State) : State :=
  let t := s.trg.timerNext
  if s.trigRuns && decide (t < 2800) then
    let s := s.setTrg { s.trg with timerNext := t + (max 1 (s.reg K.TRIG_TIMER) : Nat) }
    if s.locked then s.pulseAt 50 (4 * t) else s
  else s

/-- Every expiry of the timer before cc `t` of the present slot. -/
def State.timerUntil (s : State) (t : Int) : Nat → State
  | 0 => s
  | n + 1 => if s.trigRuns && decide (s.trg.timerNext < min t 2800) then s.timerExpire.timerUntil t n else s

/-- ECHO of a channel: some record sent meets the filters (R190). -/
def State.echoMeets (s : State) (r : PointRec) : Bool :=
  s.regBit K.ECHO_CLASS r.cls && decide (s.reg K.ECHO_AMP ≤ r.amp) && decide (s.reg K.ECHO_RMIN ≤ r.rng) && decide (r.rng ≤ s.reg K.ECHO_RMAX)

/-- ECHO pulses of a record stage, 310 cc into the present slot (R185, R190). -/
def State.echoPulses (s : State) (slotNo : Nat) (sent : List PointRec) : State :=
  let chs := (List.range 48).filter fun ch => sent.any fun r => r.ch == ch && s.echoMeets r
  s.forEach chs fun s ch => s.sends { cc := 310, pos := ch, src := 2, stamp := compactStamp slotNo 0 0 }

/-! ### Capture: rings and samples (R196 to R199) -/

/-- The modes in which capture runs (R196). -/
def State.capMode (s : State) : Bool := s.mode.isRunning

/-- Bytes of one ring (R198). -/
def State.ringBytes (s : State) : Nat := if s.reg K.CAP_FMT = 0 then s.reg K.CAP_CH_LEN * 3 / 2 else s.reg K.CAP_CH_LEN * 2

/-- Address of the ring of the k-th selected channel for the capture in progress (R199). -/
def State.ringBase (s : State) (k : Nat) : Nat :=
  s.reg K.CAP_BASE + s.cap.seq % max 1 (s.reg K.CAP_SETS) * s.capChans.length * s.ringBytes + k * s.ringBytes

/-- Bytes of samples from an even ring index on (R198). In the packed form a pair of samples takes three bytes; a last sample without its partner leaves the
partner's four bits in its second byte as they are, `keep`. -/
def packSamples (fmt keep : Nat) : List Int → List Byte
  | a :: b :: l =>
    if fmt = 0 then leBytes 3 (ofSigned 12 a + 4096 * ofSigned 12 b) ++ packSamples fmt keep l
    else leBytes 2 (ofSigned 16 a) ++ leBytes 2 (ofSigned 16 b) ++ packSamples fmt keep l
  | [a] => leBytes 2 (if fmt = 0 then ofSigned 12 a + 4096 * (keep % 16) else ofSigned 16 a)
  | [] => []

/-- A run of samples from ring index `i` on, split wherever the ring wraps: the index at which each piece starts, and the piece. -/
def ringPieces (len i : Nat) (l : List Int) : Nat → List (Nat × List Int)
  | 0 => []
  | n + 1 => if i + l.length ≤ len then [(i, l)] else (i, l.take (len - i)) :: ringPieces len 0 (l.drop (len - i)) n

/-- Bytes staged ahead of the Field Store (R202). -/
def State.capStagedBytes (s : State) : Nat :=
  sumNat ((s.fs.queue.filter fun g => match g.purpose with
    | .capture _ _ => true
    | _ => false).map fun g => g.data.length)

/-- A byte of a ring as it stands once what is staged is written. -/
def State.ringByte (s : State) (va : Nat) : Byte :=
  let at_ := fun (g : Granule) => (match g.purpose with
    | .capture _ _ => decide (g.va ≤ va ∧ va < g.va + g.data.length)
    | _ => false)
  match s.fs.queue.reverse.find? at_, s.translate (s.reg K.CAP_AS) va true false with
  | some g, _ => g.data.getD (va - g.va) 0
  | none, .ok pa => memGet s.fs.mem pa
  | none, .error _ => 0

/-- The bytes of a run of samples from count `n` on, split where the ring wraps: the samples counted before each piece, its address and its bytes. In the packed
form a pair that `n` cuts is written from its second byte on. -/
def State.ringWrites (s : State) (k n : Nat) (before : Int) (l : List Int) : List (Nat × Nat × List Byte) :=
  let len := max 1 (s.reg K.CAP_CH_LEN)
  let fmt := s.reg K.CAP_FMT
  let odd := fmt == 0 && n % 2 == 1
  let l' := if odd then before :: l else l
  let i := (if odd then n - 1 else n) % len
  let at_ := fun (i : Nat) => s.ringBase k + (if fmt = 0 then i / 2 * 3 else 2 * i)
  let pieces := ringPieces len i l' (l'.length + 1)
  pieces.mapIdx fun j p =>
    let b := packSamples fmt ((s.ringByte (at_ (p.1 + p.2.length - 1) + 1)).toNat / 16) p.2
    if odd && j == 0 then (n, at_ p.1 + 1, b.drop 1) else ((if odd then n - 1 else n) + sumNat ((pieces.take j).map (·.2.length)), at_ p.1, b)

/-- Samples that a ring wholly holds before byte `b` of a run of samples from count `n` on. -/
def heldBefore (fmt n b : Nat) : Nat :=
  if fmt ≠ 0 then n + b / 2 else if n % 2 = 0 then n + 2 * b / 3 else max n (n - 1 + 2 * (b + 1) / 3)

/-- Puts samples of the k-th selected channel into the staging buffer. -/
def State.stageChan (s : State) (k ch n : Nat) (before : Int) (l : List Int) : State :=
  s.forEach (s.ringWrites k n before l) fun s w =>
    s.enqueue ((granulesOf 0x18 1 (s.reg K.CAP_AS) w.2.1 w.2.2 fun _ => .capture ch 0).map fun g =>
      { g with purpose := .capture ch (heldBefore (s.reg K.CAP_FMT) w.1 (g.va - w.2.1)) })

/-- Raw samples of every selected channel that the staging buffer of 512 KiB has room for (R202). -/
def State.stageRoom (s : State) : Nat :=
  let pair := s.capChans.length * (if s.reg K.CAP_FMT = 0 then 3 else 4)
  if pair = 0 then 2 ^ 64 else (524288 - s.capStagedBytes) * 2 / pair

/-- Stages raw samples of the present slot up to sample `upTo` (exclusive, counted from the arm tick) for every selected channel. -/
def State.stageTo (s : State) (upTo : Nat) : State :=
  let c := s.cap
  if s.capWords || decide (upTo ≤ c.staged) then s
  else
    let s := s.forEach (s.capChans.mapIdx fun k ch => (k, ch)) fun s p =>
      let at_ := fun (n : Nat) => s.codeAt p.2 (c.origin + (n : Int))
      s.stageChan p.1 p.2 c.staged (at_ (c.staged - 1)) ((List.range (upTo - c.staged)).map fun d => at_ (c.staged + d))
    s.setCap { s.cap with staged := upTo }

end Sys2Proof.Machine
end

