-- ==== Sys2Proof/Machine/Link.lean ====
section
/-! DEFINITION. The Streamer link (R247 to R278): link-up, packets, arbitration, credit, streams, status, sideband transport, receive lanes and lane
sparing. -/

namespace Sys2Proof.Machine

/-- Replaces the link. -/
def State.setLink (s : State) (l : Link) : State := { s with link := l }

/-- One stream. -/
def State.stream (s : State) (n : Nat) : Stream := s.link.streams.getD n {}

/-- Replaces one stream. -/
def State.setStream (s : State) (n : Nat) (x : Stream) : State := s.setLink { s.link with streams := setAt {} s.link.streams n x }

/-- The object of stream 1 to 15 in an array of per-stream objects. -/
def ofStream (f : Nat → Nat) (n : Nat) : Nat := f (n - 1)

/-- Type of a stream (R266). -/
def State.streamType (s : State) (n : Nat) : Nat := if n = 0 then 0 else s.reg (ofStream K.STREAM_TYPE n)

/-- Channels of a stream, in increasing order. -/
def State.streamChans (s : State) (n : Nat) : List Nat := bitsSet (s.reg (ofStream K.STREAM_CHMASK n)) 48

/-! ### Enabling (R258) -/

/-- A rail is good (R429). -/
def State.railGood (s : State) (i : Nat) : Bool := s.reg (K.RAIL_STATE i) == 2 || s.reg (K.RAIL_STATE i) == 4

/-- The link is enabled (R258). -/
def State.linkEnabled (s : State) : Bool :=
  s.reg K.STR_ENABLE == 1 && s.railGood 0 && s.railGood 1 && (s.mode == .standby || s.mode == .selfTest || s.mode.isRunning)

/-- The transmit lanes send: from 10 µs after TRAINING began, and in FAULT but for PLL B (R258, R260). -/
def State.lanesOn (s : State) : Bool :=
  let st := s.reg K.STR_STATE
  decide (2 ≤ st ∧ st ≤ 5) || (st == 6 && s.reg K.STR_FAULT != 3)

/-- STXC runs whenever the link is enabled and PLL B is locked, from 10 µs after TRAINING began, in electrical idle too (R247, R257, R258). -/
def State.clockOn (s : State) : Bool := s.lanesOn

/-- FFE coefficients of a physical transmit lane (R253). -/
def State.txTaps (s : State) (p : Nat) : Int × Int × Int := presetTaps (s.reg (K.TX_PRESET_USE p))

/-- What physical lane `p` sends while the logical lanes send columns `c`: a lane without a logical lane sends training pairs (R249, R276). -/
def State.linesOf (s : State) (c : List (List Symbol)) (p : Nat) : List Symbol :=
    match (List.range 8).find? fun b => s.reg (K.LANE_MAP b) == p with
    | some b => c.map fun x => x.getD b .com
    | none => pairs c.length

/-- Every lane sends a training burst (R257). -/
def State.burstAll (s : State) : State := s.setLink (s.link.send fun p => burst p (s.reg K.MARKER_COUNT))

/-! ### Packets (R261 to R264) -/

/-- Bytes of a packet from its header to its CRC (Table 10.6, R262). -/
def Packet.bytes (p : Packet) : List Byte :=
  let w0 := p.aux % 256 + p.seq % 65536 * 2 ^ 8 + p.payload.length % 65536 * 2 ^ 24 + p.flags % 16 * 2 ^ 40 + 3 * 2 ^ 44 + p.stream % 16 * 2 ^ 48
    + p.ty % 16 * 2 ^ 52 + 0xA5 * 2 ^ 56
  let b := leBytes 8 w0 ++ leBytes 8 p.tstamp ++ p.payload
  b ++ leBytes 4 (crc32 b)

/-- Class of a packet in arbitration (R269). -/
def Packet.cls (p : Packet) : Nat :=
  match p.ty with
  | 1 => 1
  | 2 => 3
  | 3 => 3
  | 4 => 4
  | _ => 2

/-- Credit units a packet needs (R271). -/
def creditUnits (len : Nat) : Nat := (20 + len + 255) / 256

/-- A packet of stream `n` may start: control packets never need credit (R271). -/
def State.credited (s : State) (n : Nat) (len : Nat) : Bool :=
  n == 0 || s.reg (ofStream K.CREDIT_MODE n) == 0 || decide (creditUnits len ≤ s.reg (ofStream K.CREDIT n))

/-- The stream has a packet that may go on the lanes now: in UP, or a control packet from EXCHANGE on; under L3 control packets only (R268, R275). -/
def State.sendable (s : State) (n : Nat) : Option Packet :=
  match (s.stream n).queue with
  | p :: _ =>
    let st := s.reg K.STR_STATE
    if n = 0 then (if decide (3 ≤ st) && s.lanesOn then some p else none)
    else if st = 5 && decide (s.shedTick < 3) && s.credited n p.payload.length then some p else none
  | [] => none

/-- The streams that have a packet of a class to send, in the turn that follows the stream served last (R269). -/
def State.turn (s : State) (c : Nat) : List Nat :=
  let l := (List.range 16).filter fun n => (s.sendable n).any fun p => p.cls == c
  let b := s.link.lastServed.getD c 0
  l.filter (fun n => decide (b < n)) ++ l.filter fun n => decide (n ≤ b)

/-- The stream that goes next: the highest waiting class, its streams in turn. -/
def State.nextStream (s : State) : Option Nat := ((List.range 4).map fun i => s.turn (i + 1)).flatten.head?

/-- A packet starts: it takes its SEQ, its LOSS flag and its credit (R261, R264, R271). -/
def State.startPacket (s : State) (n : Nat) : State :=
  match (s.stream n).queue with
  | p :: q =>
    let x := s.stream n
    let p := { p with seq := x.seq, flags := p.flags + 8 * ofBool x.loss }
    let s := s.setStream n { x with queue := q, seq := addWrap 16 x.seq 1, loss := false }
    let s := if n != 0 && s.reg (ofStream K.CREDIT_MODE n) == 1 then
        s.put (ofStream K.CREDIT n) (s.reg (ofStream K.CREDIT n) - creditUnits p.payload.length) else s
    s.setLink { s.link with sending := some p, lastServed := setAt 0 s.link.lastServed p.cls n, quiet := 0 }
  | [] => s

/-- The link layer starts what it can: a suspended packet continues, a ready POINTS packet suspends another under link version 2, else the highest
waiting class goes (R269). In electrical idle nothing starts before the exit (R257). -/
def State.linkPump (s : State) : State :=
  let l := s.link
  if l.idle || !s.lanesOn then s
  else
    let l := match l.sending, l.suspended with
      | none, some p => { l with sending := some p, suspended := none }
      | _, _ => l
    match l.sending with
    | none => match s.nextStream with
      | some n => s.startPacket n
      | none => s
    | some p =>
      match (s.setLink l).turn 1 with
      | n :: _ =>
        if s.reg K.LINK_VER = 2 && p.cls != 1 && l.suspended.isNone then
          ((s.setLink { l with suspended := some p, sending := none }).tally K.SUSPENDS).startPacket n
        else s.setLink l
      | [] => s.setLink l

/-- PACKET_SENT: the packet on the lanes ends, between a SUS and a RES column where it suspended another (R269); a LANE_NOTICE takes the count of the
second marker after its end (R249, R276). -/
def State.packetSent (s : State) : State :=
  match s.link.sending with
  | none => s
  | some p =>
    let m := addWrap 16 (s.reg K.MARKER_COUNT) 2
    let p := match p.notice with
      | some (a, b, c) => { p with payload := leBytes 8 (a + b * 2 ^ 8 + c * 2 ^ 16 + m * 2 ^ 32) }
      | none => p
    let mv := match p.notice with
      | some (a, _, c) => some (a, c, m)
      | none => s.link.move
    let c := packetColumns p.bytes
    let c := if s.link.suspended.isSome then suspending c else c
    let s := s.setLink ({ s.link with sending := none, sent := p.bytes, quiet := 0, move := mv } |>.send (s.linesOf c))
    if p.stream = 0 then s else s.tally (ofStream K.STREAM_PKTS p.stream)

/-! ### Queues (R272) -/

/-- Packets of a stream that its buffer holds: those waiting and the one on the lanes or suspended. -/
def State.buffered (s : State) (n : Nat) : Nat :=
  let mine := fun (o : Option Packet) => ofBool (o.any fun p => p.stream == n)
  (s.stream n).queue.length + mine s.link.sending + mine s.link.suspended

/-- Drops `k` packets of a stream: counted, and the next one sent carries LOSS. -/
def State.dropPackets (s : State) (n k : Nat) : State :=
  if k = 0 then s
  else
    let s := s.setStream n { s.stream n with loss := true }
    if n = 0 then s else s.countBy (ofStream K.STREAM_DROPPED n) k

/-- A complete packet enters its stream's buffer of `room` packets or is dropped whole. -/
def State.offer (s : State) (p : Packet) (room : Nat) : State :=
  if s.buffered p.stream < room then s.setStream p.stream { s.stream p.stream with queue := (s.stream p.stream).queue ++ [p] }
  else s.dropPackets p.stream 1

/-- A control packet waits for its turn. -/
def State.queueControl (s : State) (p : Packet) : State := s.setStream 0 { s.stream 0 with queue := (s.stream 0).queue ++ [p] }

/-- A control packet of a type. -/
def State.control (s : State) (ty aux tstamp : Nat) (payload : List Byte) : State :=
  s.queueControl { ty := ty, aux := aux, tstamp := tstamp, payload := payload }

/-- A control packet formed now: the row that forms it names no moment, so the moment within the present slot is a free value (R263). -/
def State.controlNow (s : State) (ty : Nat) (payload : List Byte) (notice : Option (Nat × Nat × Nat)) : State :=
  let d := s.draw
  d.2.queueControl { ty := ty, tstamp := s.stampCc (Config.freeNat d.1 % 2800), payload := payload, notice := notice }

/-! ### Leaving UP, OFF and FAULT (R258, R260, R271, R272) -/

/-- Packets waiting and the assembly of every stream are lost; data packets count as dropped. -/
def State.flushStreams (s : State) : State :=
  let s := s.forRange 16 fun s n => (s.dropPackets n (s.buffered n)).setStream n { s.stream n with
    queue := [], running := false, insts := [], words := [], outStep := false }
  s.setLink { s.link with sending := none, suspended := none, up := false, statusDue := none, idle := false }

/-- The lane moves that are announced but not yet made. -/
def State.movesDue (s : State) : List (Nat × Nat) :=
  ((s.stream 0).queue ++ s.link.sending.toList ++ s.link.suspended.toList).filterMap (fun p => p.notice.map fun m => (m.1, m.2.2))
    ++ s.link.move.toList.map fun m => (m.1, m.2.1)

/-- A logical lane goes to a physical one; the spare that takes its duty is counted (R418). -/
def State.laneTo (s : State) (b p : Nat) : State :=
  let s := s.put (K.LANE_MAP b) p
  if p = 8 then s.count K.TAKEOVERS else s

/-- A logical lane's data leaves a physical lane; a returning lane is in service again (R276, R277). -/
def State.laneOn (s : State) (m : Nat × Nat) : State :=
  let back := s.link.rejoin.any fun r => r.1 == m.2
  (s.onlyIf (decide (m.1 < 8)) fun s => s.laneTo m.1 m.2).setLink { s.link with
    rejoin := if back then none else s.link.rejoin, announced := s.link.announced && !back
    retired := if back then withBit s.link.retired m.2 false else s.link.retired }

/-- When the link goes down or trains anew, the moves announced are made at once: no host follows the lanes then (log 52). -/
def State.movesNow (s : State) : State :=
  let s := s.forEach s.movesDue State.laneOn
  s.setLink { s.link with move := none, rejoin := none, announced := false, rxMove := none }

/-- The waiting notices of moves already made are dropped. -/
def State.noticesDrop (s : State) : State :=
  let x := s.stream 0
  let q := x.queue.filter fun p => p.notice.isNone
  s.setStream 0 { x with queue := q, loss := x.loss || decide (q.length < x.queue.length) }

/-- The link goes to OFF or FAULT: credit is cleared when it leaves UP, and what has come from the host and waits is forgotten. -/
def State.linkDown (s : State) (st fault : Nat) : State :=
  let s := s.movesNow
  let s := (s.setPath .sideband { s.pathState .sideband with queue := [] }).setLink { s.link with host := {} }
  let s := if s.reg K.STR_STATE = 5 then (List.range 15).foldl (fun s i => s.put (K.CREDIT i) 0) s else s
  let s := s.flushStreams
  let s := (List.range 15).foldl (fun s i => s.put (K.STREAM_STATE i) 0) s
  -- lanes that are off hold no alignment
  let s := if st = 0 || fault == 3 then (s.put (K.RX_ALIGN 0) 0).put (K.RX_ALIGN 1) 0 else s
  let s := if st = 0 then (s.put K.LINK_VER 0).put K.PKT_VER 0 else s
  (s.put K.STR_STATE st).put K.STR_FAULT fault

/-- Whenever the link is not enabled it is OFF (R258). -/
def State.linkGate (s : State) : State := if s.linkEnabled || s.reg K.STR_STATE == 0 then s else s.linkDown 0 0

/-- A cause of FAULT: PLL B in every state but OFF, the others in UP (R258, R260). -/
def State.linkFault (s : State) (fault : Nat) : State :=
  let st := s.reg K.STR_STATE
  if fault = 3 then (if st = 0 then s else s.linkDown 6 3) else if st = 5 then s.linkDown 6 fault else s

/-! ### Link-up (R254, R258, R259, Table 10.4) -/

/-- TRAINING begins: SEQ starts again, presets are those of TX_PRESET, and the host's capability is still to come. -/
def State.trainStart (s : State) : State :=
  let s := s.movesNow.noticesDrop
  let s := s.setLink { s.link with streams := s.link.streams.map fun x => { x with seq := 0 }, trainTicks := 0 }
  let s := (List.range 9).foldl (fun s i => s.put (K.TX_PRESET_USE i) (s.reg (K.TX_PRESET i))) s
  (((((s.put K.STR_STATE 1).put K.STR_FAULT 0).put K.LINK_VER 0).put K.PKT_VER 0).put K.STR_NEG 0).put K.HOST_CAPS 0

/-- LINK_START: at the first tick at which the link is enabled and PLL B is locked; from FAULT 3 when the lock has returned (R258, R260). -/
def State.linkStart (s : State) : State :=
  if s.linkEnabled && s.lockedB && (s.reg K.STR_STATE == 0 || (s.reg K.STR_STATE == 6 && s.reg K.STR_FAULT == 3)) then s.trainStart else s

/-- Word 0 and word 1 of the GZ48's capability (Table 10.5). -/
def capabilityBytes : List Byte :=
  leBytes 8 (6 + 8 * 2 ^ 8 + 0x0203 * 2 ^ 16 + 0x0102 * 2 ^ 32 + 15 * 2 ^ 48) ++ leBytes 8 0x4231

/-- A receive lane is out of service: retired or under test (Table 16.4). -/
def State.rxOut (s : State) (l : Nat) : Bool :=
  s.spares.list.contains (0x70000 + l)
    || (s.spares.bist.unit == 0x70000 + l && s.spares.bist.kind == 4 && decide (1 ≤ s.reg K.BIST_STATE ∧ s.reg K.BIST_STATE ≤ 4))

/-- A receive lane is usable (R256), and in service. -/
def State.rxUsable (s : State) (l : Nat) : Bool := !s.rxOut l && s.reg (K.RX_ALIGN l) == 1 && decide (s.reg K.EFOM_MIN ≤ s.reg (K.RX_EFOM l))

/-- In ALIGNING, once the active receive lane is aligned and usable, EXCHANGE begins with the first CAPABILITY packet (Table 10.4). -/
def State.tryExchange (s : State) : State :=
  if s.reg K.STR_STATE = 2 && s.rxUsable (s.reg K.RX_ACTIVE) then
    let s := (s.put K.STR_STATE 3).controlNow 10 capabilityBytes none
    s.setLink { s.link with capTicks := 0, capReps := 0 }
  else s

/-- LINK_TRAINING_DONE: 10 µs after TRAINING began the lanes send and ALIGNING begins. -/
def State.trainingDone (s : State) : State :=
  if s.reg K.STR_STATE = 1 && decide (5 ≤ s.link.trainTicks) then
    ((s.put K.STR_STATE 2).put K.MARKER_COUNT 0).setLink { s.link with
      rx := s.link.rx.map fun r => { r with efoms := [], settled := false } } |>.tryExchange
  else s

/-- CAPABILITY_REPEAT: every 1 ms in EXCHANGE. -/
def State.capRepeat (s : State) : State :=
  let l := s.link
  if s.reg K.STR_STATE = 3 && decide (slotsOfMs (l.capReps + 1) ≤ l.capTicks) then
    let s := s.controlNow 10 capabilityBytes none
    s.setLink { s.link with capReps := l.capReps + 1 }
  else s

/-- UP: streams start at the next tick, which sends the first STATUS packet. -/
def State.linkUp (s : State) : State :=
  (s.put K.STR_STATE 5).setLink { s.link with up := false, statusFirst := true, quiet := 0 }

/-- Versions are fixed (R259); tuning follows when it applies (R254). -/
def State.versions (s : State) (linkVers pktVers : Nat) (efom : Bool) (assumed : Bool) : State :=
  let v := if bitAt linkVers 2 then 2 else if bitAt linkVers 1 then 1 else 0
  if v = 0 ∨ !bitAt pktVers 3 then s.linkDown 6 1
  else
    let s := ((s.put K.LINK_VER v).put K.PKT_VER 3).put K.STR_NEG (ofBool assumed)
    if s.reg K.TX_TUNE = 1 && v == 2 && efom then
      let s := (List.range 9).foldl (fun s i => s.put (K.TX_PRESET_USE i) 0) s
      (s.put K.STR_STATE 4).setLink { s.link with
        tunePreset := 0, tuneIv := 0, tuneNow := List.replicate 9 0, tuneBest := List.replicate 9 (0, 0) }
    else s.linkUp

/-- STR_CAP_TIMEOUT: a host of link version 1 with packet format 3 is assumed. -/
def State.capTimeout (s : State) : State :=
  if s.reg K.STR_STATE = 3 && decide (slotsOfMs (s.reg K.STR_CAP_TIMEOUT) ≤ s.link.capTicks) then s.versions 2 8 false true else s

/-- TX_TUNE_HOLD_END: after 64 marker intervals each lane's report of the hold is compared; the lower preset wins a tie (R254). -/
def State.tuneHoldEnd (s : State) : State :=
  let l := s.link
  if s.reg K.STR_STATE = 4 && decide (64 ≤ l.tuneIv) then
    let best := (List.range 9).map fun i =>
      let b := l.tuneBest.getD i (0, 0)
      let e := l.tuneNow.getD i 0
      if b.2 < e then (l.tunePreset, e) else b
    let s := s.setLink { l with tuneBest := best, tuneNow := List.replicate 9 0, tuneIv := 0, tunePreset := l.tunePreset + 1 }
    if l.tunePreset < 7 then (List.range 9).foldl (fun s i => s.put (K.TX_PRESET_USE i) (l.tunePreset + 1)) s
    else ((List.range 9).foldl (fun s i => s.put (K.TX_PRESET_USE i) (best.getD i (0, 0)).1) s).linkUp
  else s

/-! ### Transmit lanes (R250, R252, R276, R277) -/

/-- State of a transmit lane (TX_LANE_STATE). -/
def State.txLaneState (s : State) (p : Nat) : Nat :=
  let mapped := (List.range 8).any fun b => s.reg (K.LANE_MAP b) == p
  if bitAt s.link.testing p then 3
  else if bitAt s.link.retired p then (if s.link.rejoin.any fun r => r.1 == p then 5 else 4)
  else if !(s.lanesOn || s.reg K.STR_STATE == 1) then 0 else if mapped then 1 else 2

/-- Some logical lane uses the spare (LANE_SPARED). -/
def State.laneSpared (s : State) : Bool := (List.range 8).any fun b => s.reg (K.LANE_MAP b) == 8

/-- A notice that moves a logical lane to the spare is still to be sent. -/
def State.spareNoticed (s : State) : Bool :=
  ((s.stream 0).queue ++ s.link.sending.toList ++ s.link.suspended.toList).any fun p => p.notice.any fun m => m.2.2 == 8

/-- The spare may take a logical lane. -/
def State.spareFree (s : State) : Bool :=
  !s.laneSpared && !s.spareNoticed && !bitAt s.link.retired 8 && !bitAt s.link.testing 8 && (s.link.move.all fun m => m.2.1 != 8)

/-- LANE_NOTICE packets go out: under link version 2, once it is fixed, while the lanes send (R259, R276). -/
def State.notices (s : State) : Bool := s.reg K.LINK_VER == 2 && s.lanesOn

/-- A fuse entry for a unit (R422). -/
def retireEntry (u : Nat) : Nat :=
  u % 2 ^ 24 + ((0xA5 ^^^ (u % 256)) ^^^ (u / 256 % 256) ^^^ (u / 65536 % 256)) * 2 ^ 24

/-- The unit is retired in the retire fuse bank: it cannot return (R423). -/
def State.fuseRetired (s : State) (u : Nat) : Bool := u != 0 && s.fuses.retire.contains (retireEntry u)

/-- A move of a logical lane: announced under link version 2, else made at once, which under version 1 restarts a link in UP (R259, R276). -/
def State.laneShift (s : State) (b old new : Nat) : State :=
  if s.notices then s.controlNow 11 (List.replicate 8 0) (some (b, old, new))
  else
    let s := s.laneTo b new
    if s.reg K.STR_STATE = 5 then (s.linkDown 1 0).trainStart else s

/-- LANE_RETIRE of a logical lane: by the host, by self-test or by AUTOSPARE (R276). -/
def State.laneRetire (s : State) (b : Nat) : State :=
  if 8 ≤ b then s
  else
    let p := s.reg (K.LANE_MAP b)
    if bitAt s.link.retired p then s
    else
      let free := s.spareFree && p != 8
      let s := s.setLink { s.link with retired := withBit s.link.retired p true, passed := withBit s.link.passed p false
                                       lowRun := setAt 0 s.link.lowRun p 0 }
      if free then s.laneShift b p 8 else s.linkFault 2

/-- LANE_RETURN of a physical lane that has passed its test while the spare serves its logical lane: it sends a training burst, then markers (R277). -/
def State.laneReturn (s : State) (p : Nat) : State :=
  if p < 8 && s.reg (K.LANE_MAP p) == 8 && bitAt s.link.retired p && bitAt s.link.passed p && s.link.rejoin.isNone && !s.fuseRetired (0x60000 + p) then
    s.setLink ({ s.link with rejoin := some (p, 0), announced := false, sends := s.link.sends + 1 } |>.sendOn p (burst p (s.reg K.MARKER_COUNT)))
  else s

/-- The logical lanes whose physical lane is out of service. -/
def State.deadLanes (s : State) : List Nat := (List.range 8).filter fun b => bitAt s.link.retired (s.reg (K.LANE_MAP b))

/-- LANE_RETURN_ANNOUNCE: after 16 marker intervals the move back is announced; in FAULT for want of a spare the lane is replaced and the link
restarts (R260, R277). -/
def State.returnAnnounce (s : State) : State :=
  match s.link.rejoin with
  | some (p, n) =>
    if n < 16 ∨ s.link.announced then s
    else if s.reg K.STR_STATE = 6 && s.reg K.STR_FAULT == 2 then
      let s := (s.put (K.LANE_MAP p) p).setLink { s.link with rejoin := none, retired := withBit s.link.retired p false }
      match s.deadLanes with
      | b :: _ => if s.spareFree then (s.put (K.LANE_MAP b) 8).trainStart else s
      | [] => s.trainStart
    else if s.notices then (s.setLink { s.link with announced := true }).laneShift p 8 p
    else (s.setLink { s.link with rejoin := none, retired := withBit s.link.retired p false }).laneShift p 8 p
  | none => s

/-- LANE_MOVE: after marker M the data leaves the new physical lane (R276, R277). -/
def State.laneMove (s : State) : State :=
  match s.link.move with
  | some (b, new, m) =>
    if addWrap 16 (s.reg K.MARKER_COUNT) (65536 - m) < 32768 then
      let s := s.laneOn (b, new)
      s.setLink { s.link with move := none }
    else s
  | none => s

/-- MARKER_INTERVAL: every transmit lane sends its marker (R250); a lane that was told to slips a bit (R252). In electrical idle the count alone goes on (R250,
R257). -/
def State.markerInterval (s : State) : State :=
  if s.lanesOn then
    let l := s.link
    let n := addWrap 16 (s.reg K.MARKER_COUNT) 1
    (s.put K.MARKER_COUNT n).setLink (if l.idle then l
      else ({ l with
        tuneIv := if s.reg K.STR_STATE = 4 then l.tuneIv + 1 else l.tuneIv
        rejoin := l.rejoin.map fun r => (r.1, r.2 + 1)
        txSlip := l.txSlip.mapIdx fun i n => if bitAt l.txSlipDue i then (n + 1) % 10 else n
        txSlipDue := 0 } : Link).send fun p => markerSymbols p n)
  else s

/-- TX_BITSLIP of a transmit lane: it takes effect at the lane's next marker. -/
def State.txBitslip (s : State) (p v : Nat) : State :=
  if v = 1 && p < 9 then s.setLink { s.link with txSlipDue := withBit s.link.txSlipDue p true } else s

/-! ### Receive lanes (R251, R252, R256, R260, R278) -/

/-- One receive lane. -/
def State.rxLane (s : State) (i : Nat) : RxLane := s.link.rx.getD i {}

/-- Replaces one receive lane. -/
def State.setRxLane (s : State) (i : Nat) (r : RxLane) : State := s.setLink { s.link with rx := setAt {} s.link.rx i r }

/-- The receive lanes search and adapt: from ALIGNING on, and in FAULT but for PLL B. -/
def State.rxOn (s : State) : Bool := s.lanesOn

/-- RX_LANE_ALIGNED: a lane that searches has found 8 COM symbols at one boundary, `boundary` bits later than its first one. With RX_COMMA_EN the lane's
boundary moves there; without, only its own boundary counts, which bit slip moves (R251, R252). -/
def State.rxAligned (s : State) (i boundary : Nat) : State :=
  let r := s.rxLane i
  if i < 2 && s.rxOn && s.reg (K.RX_ALIGN i) == 0 && (s.reg K.RX_COMMA_EN == 1 || r.slip == boundary) then
    ((s.put (K.RX_ALIGN i) 1).setRxLane i { r with slip := boundary, missed := 0, errs := 0, good := 0 }).tryExchange
  else s

/-- Code errors on a lane, both lanes counted together, saturating (R248). -/
def State.codeErrors (s : State) (i n : Nat) : State :=
  (s.countBy K.RX_CODEERR n).setRxLane i { s.rxLane i with errs := (s.rxLane i).errs + n }

/-- Code groups come in on a lane: its state with their code errors counted, and their symbols (R248). -/
def State.rxGroups (s : State) (i : Nat) (g : List (BitVec 10)) : State × List (Option Symbol) :=
  let r := readGroups (s.rxLane i).rd g
  let s := s.codeErrors i (r.1.filter Option.isNone).length
  (s.setRxLane i { s.rxLane i with rd := r.2 }, r.1)

/-- One step of a lane's equaliser against the eye monitor: the new settings are free values (R256). -/
def State.rxAdapt (s : State) (i : Nat) : State :=
  let d := s.draw
  d.2.setRxLane i { s.rxLane i with
    ctle := Config.freeNat d.1 % 16, dfe := (List.range 3).map fun (k : Nat) => Config.unstated "DFE_TAP" [(d.1 : Int), (k : Int)] }

/-- The GZ48's own move to the other receive lane, reported with the count of the last marker received on it (R278). -/
def State.rxSwitch (s : State) (new : Nat) : State :=
  let old := s.reg K.RX_ACTIVE
  let s := (s.put K.RX_ACTIVE new).setLink { s.link with rxMove := none }
  if s.notices then s.controlNow 11 (leBytes 8 (old * 2 ^ 8 + new * 2 ^ 16 + (s.rxLane new).last * 2 ^ 32)) none else s

/-- RX_LANE_ALIGN_LOSS, after the code groups `g` (R251): two marker positions in a row without a valid marker, or more than 16 code errors in a marker interval; the link moves
to the other lane or goes to FAULT (R260, R278). -/
def State.rxAlignLoss (s : State) (i : Nat) (g : List (BitVec 10)) : State :=
  if 2 ≤ i ∨ !s.rxOn then s
  else
    let s := (s.rxGroups i g).1
    let r := s.rxLane i
    if s.reg (K.RX_ALIGN i) = 1 && (decide (2 ≤ r.missed) || decide (16 < r.errs)) then
      let s := (s.put (K.RX_ALIGN i) 0).setRxLane i { r with good := 0, missed := 0, errs := 0 }
      if s.reg K.RX_ACTIVE = i then (if s.rxUsable (1 - i) then s.rxSwitch (1 - i) else s.linkFault 4) else s
    else s

/-- RX_MARKER_INTERVAL: the end of a marker interval of a receive lane, its last four symbols at the marker's position: the code groups since the last
report, those of the active lane with the host's packets in them, and the opening of the eye, height and width as fractions (R248, R249, R251, R256, R278). -/
def State.rxMarker (s : State) (i cc : Nat) (g : List (BitVec 10)) (h w : Rat) : State :=
  if 2 ≤ i ∨ !s.rxOn then s
  else
    let in_ := s.rxGroups i g
    let marker := markerOf i in_.2
    let s := if i = s.reg K.RX_ACTIVE then in_.1.setLink { in_.1.link with host := in_.2.foldl (HostLine.take cc) in_.1.link.host } else in_.1
    let one := fun (x : Rat) => if x < 0 then (0 : Rat) else if 1 < x then 1 else x
    let e := (255 * (one h * one w)).floor.toNat
    let s := s.put (K.RX_EFOM i) e
    let r := s.rxLane i
    let efoms := (e :: r.efoms).take 9
    let calm := decide (9 ≤ efoms.length) && decide (efoms.foldl max 0 ≤ efoms.foldl min 255 + 2)
    let ok := s.rxUsable i
    -- more than 16 errors stay visible for the loss of alignment that follows
    let s := s.setRxLane i { r with
      missed := if marker.isSome then 0 else r.missed + 1, errs := if 16 < r.errs then r.errs else 0
      good := if ok then min (r.good + 1) 8 else 0, last := (marker.getD r.last) % 65536, efoms := efoms
      settled := r.settled || calm }
    let s := if s.reg K.RX_ADAPT = 0 && (r.settled || calm) then s else s.rxAdapt i
    let s := match s.link.rxMove, marker with
      | some (n, m), some c =>
        if i = s.reg K.RX_ACTIVE && addWrap 16 c (65536 - m % 65536) < 32768 then (s.put K.RX_ACTIVE n).setLink { s.link with rxMove := none } else s
      | _, _ => s
    s.tryExchange

/-- RX_BITSLIP: the boundary of SRX0 or SRX1 moves one bit later (R252). -/
def State.rxBitslip (s : State) (v : Nat) : State :=
  if v = 1 ∨ v = 2 then s.setRxLane (v - 1) { s.rxLane (v - 1) with slip := ((s.rxLane (v - 1)).slip + 1) % 10 } else s

/-- LINK_FAULT_RECOVER: after a receive loss a lane aligned and usable for 8 consecutive intervals becomes the active one (R260). -/
def State.faultRecover (s : State) : State :=
  if s.reg K.STR_STATE = 6 && s.reg K.STR_FAULT == 4 then
    match (List.range 2).find? fun i => decide (8 ≤ (s.rxLane i).good) && s.rxUsable i with
    | some i => (s.put K.RX_ACTIVE i).trainStart
    | none => s
  else s

/-! ### Host packets (R255, R265, R271, R275, R278) -/

/-- The link takes host packets of its state: from EXCHANGE on while the receive lanes work. -/
def State.rxTakes (s : State) : Bool := decide (3 ≤ s.reg K.STR_STATE) && s.lanesOn

/-- HOST_PACKET_INVALID, and every packet that an acceptance rule discards. -/
def State.discardPacket (s : State) : State := if s.rxTakes then s.count K.RX_DISCARDS else s

/-- A host CAPABILITY packet in EXCHANGE fixes the versions (R259). -/
def State.hostCapability (s : State) (w0 : Nat) : State :=
  if s.reg K.STR_STATE = 3 then (s.put K.HOST_CAPS w0).versions (bits w0 7 0) (bits w0 15 8) (bitAt w0 48) false else s

/-- An EFOM_REPORT payload (R255). -/
def State.efomReport (s : State) (b : List Byte) : State :=
  if !s.rxTakes then s
  else
    let mask := fieldAt b 9 2
    if s.reg K.LINK_VER ≠ 2 ∨ b.length ≠ 16 ∨ 512 ≤ mask ∨ (b.drop 11).any (· != 0) then s.count K.RX_DISCARDS
    else
      let late := s.reg K.STR_STATE == 4 && decide (32 ≤ s.link.tuneIv) && decide (s.link.tuneIv ≤ 64)
      let s := s.forEach (bitsSet mask 9) fun s i =>
        let e := fieldAt b i 1
        let l := s.link
        let run := if e < s.reg K.EFOM_MIN then l.lowRun.getD i 0 + 1 else 0
        (s.put (K.TX_HOST_EFOM i) e).setLink { l with
          tuneNow := if late then setAt 0 l.tuneNow i e else l.tuneNow, lowRun := setAt 0 l.lowRun i run }
      if s.reg K.AUTOSPARE = 1 then
        s.forRange 8 fun s b => if 4 ≤ s.link.lowRun.getD (s.reg (K.LANE_MAP b)) 0 then s.laneRetire b else s
      else s

/-- Adds credit to a stream, saturating at 2^24 units (R271). -/
def State.addCredit (s : State) (n units : Nat) : State :=
  s.put (ofStream K.CREDIT n) (min (s.reg (ofStream K.CREDIT n) + units) (2 ^ 24))

/-- One entry of a CREDIT payload: ignored for stream 0, for a stream without CREDIT_MODE and with a bit set in 59:32. -/
def State.creditEntry (s : State) (w : Nat) : State :=
  let n := bits w 63 60
  if n = 0 ∨ s.reg (ofStream K.CREDIT_MODE n) = 0 ∨ bits w 59 32 ≠ 0 then s else s.addCredit n (bits w 31 0)

/-- A CREDIT packet: 1 to 16 entries (R271); the entries of a longer one after its 16th are ignored (log 52), and over 1,024 bytes it is discarded (R265). -/
def State.creditPacket (s : State) (ws : List Nat) : State :=
  if !s.rxTakes then s
  else if s.reg K.LINK_VER ≠ 2 ∨ 128 < ws.length then s.count K.RX_DISCARDS else s.forEach (ws.take 16) State.creditEntry

/-- A host LANE_NOTICE moves the GZ48 to the other receive lane after marker M (R278). -/
def State.hostNotice (s : State) (w : Nat) : State :=
  if !s.rxTakes then s
  else if s.reg K.LINK_VER ≠ 2 then s.count K.RX_DISCARDS
  else if bits w 23 16 < 2 && bits w 15 8 == s.reg K.RX_ACTIVE then s.setLink { s.link with rxMove := some (bits w 23 16, bits w 47 32) } else s

/-! ### Electrical idle (R257) -/

/-- The lanes may be idle: IDLE_EN, and Comet does not run (R257). -/
def State.mayIdle (s : State) : Bool := s.reg K.IDLE_EN == 1 && !s.comet.running

/-- ELECTRICAL_IDLE_ENTER: no packet is on the lanes, nor was for 4 µs; one that waits for credit is none. -/
def State.idleEnter (s : State) : State :=
  let l := s.link
  if s.mayIdle && s.reg K.STR_STATE == 5 && l.sending.isNone && l.suspended.isNone && s.nextStream.isNone && decide (2 ≤ l.quiet) then
    s.setLink { l with idle := true, lines := List.replicate 9 [], codes := List.replicate 9 [] } else s

/-- The lanes leave electrical idle with a training burst. -/
def State.wake (s : State) : State := (s.burstAll).setLink { (s.burstAll).link with idle := false }

/-- ELECTRICAL_IDLE_EXIT: a packet is ready. -/
def State.idleExit (s : State) : State := if s.link.idle && s.nextStream.isSome then s.wake else s

/-! ### POINTS (R266, R270, R272) -/

/-- Why a stream of a type is stopped, as STREAM_STATE names it; 1 when it runs (Table 10.10). A POINTS stream runs on in PLL A lock loss, whose slots
make no records (R59). -/
def State.streamCause (s : State) (n : Nat) : Nat :=
  let ty := s.streamType n
  if ty = 0 ∨ s.reg K.STR_STATE ≠ 5 ∨ !s.link.up then 0
  else if ty ≠ 4 && !s.mode.isRunning then 6
  else if 3 ≤ s.shedTick ∨ (ty = 3 ∧ 1 ≤ s.shedTick) then 2
  else if ty = 3 && decide (2 ≤ s.reg K.THROT_STEP) then 3
  else if !s.locked && ty != 1 then 5
  else if ty = 2 && (s.stream n).outStep then 4 else 1

/-- The POINTS packet of a record stage (R266, R272): packets of slots acquired before Comet stopped are still sent (R58). -/
def State.pointsPacket (s : State) (r : RecStage) : State :=
  let c := s.streamCause r.stream
  if r.valid && r.pts && s.streamType r.stream == 1 && (c == 1 || c == 6) then
    s.offer { ty := 1, stream := r.stream, aux := r.tag, tstamp := compactStamp r.slotNo 0 0
              flags := 4 * ofBool (r.frameSlot == 0) + 2 * ofBool r.lastOfFrame + ofBool (r.overrun != 0)
              payload := (r.recs.map PointRec.bytes).flatten } 4
  else s

/-! ### DECIMATED and RAW streams (R266 to R268, R272) -/

/-- Instants in a full DECIMATED packet of `n` channels: the largest P with 2nP at most 16,384 and a multiple of 8. -/
def decInstants (n : Nat) : Nat := ((List.range 8193).filter fun p => decide (2 * n * p ≤ 16384) && 2 * n * p % 8 == 0).foldl max 0

/-- A packet of a stream that the samples or words of an assembly make. -/
def State.streamPacket (s : State) (n ty aux tstamp : Nat) (last : Bool) (payload : List Byte) : State :=
  let x := s.stream n
  let p : Packet := { ty := ty, stream := n, aux := aux, tstamp := tstamp, flags := 4 * ofBool x.start + 2 * ofBool last, payload := payload }
  (s.setStream n { x with start := false }).offer p 2

/-- The packet of the first `k` instants in assembly. -/
def State.decPacket (s : State) (n k : Nat) (last : Bool) : State :=
  let x := s.stream n
  let payload := ((List.range k).map fun j => (x.words.map fun w => leBytes 2 (w.getD j 0)).flatten).flatten
  let t := x.insts.getD 0 0
  let s := s.streamPacket n 2 x.words.length t last payload
  let x := s.stream n
  s.setStream n { x with insts := x.insts.drop k, words := x.words.map fun w => w.drop k }

/-- Instants that every channel of a stream has delivered. -/
def Stream.whole (x : Stream) : Nat := match x.words with
  | w :: l => l.foldl (fun m v => min m v.length) w.length
  | [] => 0

/-- RAW samples per packet (Table 10.9). -/
def rawPerPacket : Nat := 10912

/-- A full packet of a DECIMATED or RAW stream stands in assembly. -/
def State.fullPacket (s : State) (n : Nat) : Bool :=
  let x := s.stream n
  let p := decInstants x.words.length
  x.running && ((s.streamType n == 2 && decide (0 < p ∧ p ≤ x.whole)) || (s.streamType n == 3 && decide (x.rawNext + (rawPerPacket : Int) ≤ 11200)))

/-- While a stream's buffer is full and its next packet is still to fill, packets leave the lanes: the load of R273 leaves each of them less time there than the
next of its stream takes to fill (log 51). -/
def State.lanesDrain (s : State) (n : Nat) : Nat → State
  | 0 => s
  | k + 1 =>
    if s.buffered n < 2 then s
    else
      let s := s.idleExit.linkPump
      if s.link.sending.isSome then s.packetSent.lanesDrain n k else s

/-- DECIMATED_PACKET_READY. -/
def State.decReady (s : State) (n : Nat) : State :=
  if (s.stream n).running && s.streamType n == 2 then
    let p := decInstants (s.stream n).words.length
    if 0 < p ∧ p ≤ (s.stream n).whole then s.decPacket n p false else s
  else s

/-- Full packets of a DECIMATED stream that stand in assembly: at most 24 in a slot. -/
def State.decReadyAll (s : State) (n : Nat) : State :=
  (List.range 24).foldl (fun s i => (if 0 < i && s.fullPacket n then s.lanesDrain n 8 else s).decReady n) s

/-- The packet of `k` raw samples from the assembly's first one on. -/
def State.rawPacket (s : State) (n k : Nat) (last : Bool) : State :=
  let x := s.stream n
  let ch := (s.streamChans n).headD 0
  let t := s.stampAt x.rawNext
  let s := s.streamPacket n 3 ch t last (packSamples 0 0 ((List.range k).map fun i => s.codeAt ch (x.rawNext + (i : Int))))
  s.setStream n { s.stream n with rawNext := x.rawNext + (k : Int) }

/-- RAW_PACKET_READY: the packet's last sample lies in the present slot. -/
def State.rawReady (s : State) (n : Nat) : State :=
  let x := s.stream n
  if s.streamType n = 3 && x.running && decide (x.rawNext + (rawPerPacket : Int) ≤ 11200) then s.rawPacket n rawPerPacket false else s

/-- The packet in assembly ends short at sample `at_` (R267, R268); an assembly without a sample or an instant makes none. -/
def State.endAssembly (s : State) (n : Nat) (at_ : Int) : State :=
  let x := s.stream n
  if !x.running then s
  else match s.streamType n with
    | 2 =>
      let k := (s.stream n).whole
      let s := s.decReadyAll n
      let s := if (s.stream n).whole < k && 0 < (s.stream n).whole then s.lanesDrain n 8 else s
      let x := s.stream n
      let s := if 0 < x.whole then s.decPacket n x.whole true else s
      s.setStream n { s.stream n with insts := [], words := (s.stream n).words.map fun _ => [] }
    | 3 => if x.rawNext < at_ then s.rawPacket n (at_ - x.rawNext).toNat true else s
    | _ => s

/-- The channels of a DECIMATED stream share one D and one latest reset sample (R267). -/
def State.inStep (s : State) (n : Nat) : Bool :=
  match s.streamChans n with
  | c :: l => l.all fun d => s.reg (K.DEC_D d) == s.reg (K.DEC_D c) && s.reg (K.DEC_RESET_LAST d) == s.reg (K.DEC_RESET_LAST c)
  | [] => true

/-- The decimators of some channels have been reset at sample `r`, DEC_RESET_LAST saying so (R267); the words before it have been delivered. -/
def State.streamsReset (s : State) (chans : List Nat) (r : Int) : State :=
  s.forRange 16 fun s n =>
    if s.streamType n = 2 && (s.streamChans n).any chans.contains then
      let s := s.endAssembly n r
      let s := s.setStream n { s.stream n with
        start := true, takeFrom := r, outStep := !s.inStep n, insts := [], words := (s.streamChans n).map fun _ => [] }
      s.put (ofStream K.STREAM_STATE n) (s.streamCause n)
    else s

/-- A decimator word reaches the DECIMATED streams of its channel: 0x7FFF for a fill word (R267). -/
def State.streamWord (s : State) (ch : Nat) (i : Int) (w : Option Int) : State :=
  s.forRange 16 fun s n =>
    let x := s.stream n
    if x.running && s.streamType n == 2 && !x.outStep && decide (x.takeFrom ≤ i) then
      match (s.streamChans n).findIdx? (· == ch) with
      | some k =>
        let v := match w with
          | some z => ofSigned 16 z
          | none => 0x7FFF
        s.setStream n { x with
          insts := if k = 0 then x.insts ++ [s.stampAt i] else x.insts, words := setAt [] x.words k (x.words.getD k [] ++ [v]) }
      | none => s
    else s

/-- A stream stops at a tick (R268), whose sample counted from the present slot is `at_`. -/
def State.streamStop (s : State) (n : Nat) (at_ : Int) : State :=
  let s := s.endAssembly n at_
  s.setStream n { s.stream n with running := false, insts := [], words := [] }

/-- A stream starts or restarts at the tick (R268). -/
def State.streamStart (s : State) (n : Nat) : State :=
  s.setStream n { s.stream n with running := true, start := true, rawNext := 0, takeFrom := 0, insts := [], words := (s.streamChans n).map fun _ => [] }

/-- The streams at a tick, after its masks, mode and commits (R268, Table 10.10). -/
def State.streamsTick (s : State) : State :=
  let s := if s.reg K.STR_STATE = 5 then s.setLink { s.link with up := true } else s
  (List.range 15).foldl (fun s i =>
    let n := i + 1
    let s := if s.streamType n = 2 then s.setStream n { s.stream n with outStep := !s.inStep n } else s
    let c := s.streamCause n
    let run := c == 1 || c == 4
    let s := if run == (s.stream n).running then s else if run then s.streamStart n else s.streamStop n 0
    s.put (K.STREAM_STATE i) c) s

/-- Streams whose type or channels a CG15 activation changes stop before it; credit is cleared where CREDIT_MODE changes (R271). -/
def State.streamsCommit (s : State) (new : List (Nat × Nat)) (at_ : Int) : State :=
  s.forRange 15 fun s i =>
    let chg := fun (k : Nat) => s.reg k != regOf new k
    let s := if chg (K.STREAM_TYPE i) || chg (K.STREAM_CHMASK i) then (if (s.stream (i + 1)).running then s.streamStop (i + 1) at_ else s) else s
    if chg (K.CREDIT_MODE i) then s.put (K.CREDIT i) 0 else s

/-- One packet that the slot which ends still completes; where another of its stream completes after it, the lanes go on in between. -/
def State.packetEnd (s : State) (n : Nat) : State :=
  let s := ((s.decReady n).rawReady n).idleExit.linkPump
  if s.fullPacket n then s.lanesDrain n 8 else s

/-- Whole packets of the slot that ends. -/
def State.streamsEndSlot (s : State) : State :=
  (s.forRange 16 fun s n => (List.range 24).foldl (fun s _ => if s.fullPacket n then s.packetEnd n else s) s).idleExit

/-- The move of sample positions at the tick. -/
def State.streamsShift (s : State) : State :=
  s.setLink { s.link with streams := s.link.streams.map fun x => { x with rawNext := x.rawNext - 11200, takeFrom := max (x.takeFrom - 11200) (-11200) } }

/-! ### STATUS (R274) -/

/-- A STATUS payload, given the Pennant word and FRAME_POS. -/
def State.statusPayload (s : State) (penn fpos : Nat) : List Byte :=
  leBytes 8 penn ++ leBytes 8 s.slot
    ++ leBytes 8 (s.reg K.MODE_REQ % 256 + s.mode.code * 2 ^ 8 + s.reg K.SHED_LEVEL * 2 ^ 16 + s.reg K.THROT_STEP * 2 ^ 20)
    ++ leBytes 8 (fpos % 2 ^ 19 + s.reg K.ACTIVE_PLAN_ID * 2 ^ 32) ++ List.replicate 32 0

/-- A STATUS packet of the present slot. -/
def State.status (s : State) (p : List Byte) : State := s.control 8 0 (compactStamp s.slot 0 0) p

/-- STATUS_PERIOD_EXPIRE: the periodic packet of the present slot is formed, with the state at its tick. -/
def State.statusPeriod (s : State) : State :=
  match s.link.statusDue with
  | some (t, p) =>
    let s := s.control 8 0 t p
    s.setLink { s.link with statusDue := none }
  | none => s

/-- STATUS at a tick (R274): a change of the Pennant word in the slot before sends one at once, which serves a periodic one too. -/
def State.statusTick (s : State) (penn fpos : Nat) : State :=
  let s := s.statusPeriod
  let changed := s.penn.changed
  let s := { s with penn := { s.penn with changed := s.penn.later, later := false } }
  if s.reg K.STR_STATE = 5 then
    let l := s.link
    let due := l.statusFirst || (!l.statusFresh && decide (s.reg K.STATUS_PERIOD ≤ l.statusCount + 1))
    let s := s.setLink { l with statusFirst := false, statusFresh := false, statusCount := if due || l.statusFresh then 0 else l.statusCount + 1 }
    let p := s.statusPayload penn fpos
    if changed then s.status p
    else if due then s.setLink { s.link with statusDue := some (compactStamp s.slot 0 0, p) } else s
  else s

/-- A CG15 activation that changes STATUS_PERIOD restarts the count at its tick. -/
def State.statusRestart (s : State) : State := s.setLink { s.link with statusFresh := true }

/-- The counts of ticks of the link; lanes that may not be idle wake (R257). -/
def State.linkTick (s : State) : State :=
  let s := s.linkStart
  let s := if s.link.idle && !s.mayIdle then s.wake else s
  let l := s.link
  s.setLink { l with trainTicks := l.trainTicks + 1, capTicks := l.capTicks + 1, quiet := if l.sending.isSome then 0 else min (l.quiet + 1) 2 }

/-! ### The commit check (R273) -/

/-- Load of a configuration in MB/s (R273). The samples and slots it counts come at the pace of PLL A's N (R10, R315). -/
def linkLoad (o : List (Nat × Nat)) : Rat :=
  let pace : Rat := ((regOf o K.PLLA_N : Nat) : Rat) / 112
  let one := fun (i : Nat) =>
    match regOf o (K.STREAM_TYPE i) with
    | 2 =>
      let ch := bitsSet (regOf o (K.STREAM_CHMASK i)) 48
      let n := ch.length
      let p := decInstants n
      if n = 0 then (0 : Rat)
      else (5600 : Rat) / ((max 1 (regOf o (K.DEC_D (ch.headD 0))) : Nat) : Rat) * ((2 * n : Nat) : Rat) * ((2 * n * p + 40 : Nat) : Rat) / ((2 * n * p : Nat) : Rat)
    | 3 => (8400 : Rat) * 16408 / 16368
    | _ => 0
  pace * (((List.range 15).map one).foldl (· + ·) 0 + ((56 + 16 * regOf o K.REC_BUDGET : Nat) : Rat) / 2) + 5

/-- STR_LOAD in 0.1 MB/s; the spec states no rounding (log 9). -/
def strLoad (o : List (Nat × Nat)) : Nat := (roundOpen "STR_LOAD" (linkLoad o * 10)).toNat

end Sys2Proof.Machine
end

