-- ==== Sys2Proof/Machine/Capture.lean ====
section
/-! DEFINITION. The ends of a capture and its header (R196 to R205), arming, and the outputs TRIG_OUT and SLOT_OUT (R206, R207). -/

namespace Sys2Proof.Machine

/-- A capture is in progress: PRE or POST. -/
def State.capOn (s : State) : Bool := s.reg K.TRIG_STATE == 2 || s.reg K.TRIG_STATE == 3

/-- Samples or words taken so far of every selected channel. -/
def State.capTaken (s : State) : Nat :=
  if s.capWords then (match s.capChans with
    | ch :: l => l.foldl (fun m c => min m (s.cap.words.getD c 0)) (s.cap.words.getD ch 0)
    | [] => 0)
  else s.cap.staged

/-- Number of words of a channel, in format 2, whose instants lie before sample `n` counted from the arm tick: its words follow one another D samples
apart. -/
def State.wordsBefore (s : State) (ch : Nat) (n : Int) : Option Nat :=
  (s.cap.word0.getD ch none).map fun w =>
    let d : Int := (max 1 (s.cap.decs.getD ch 1) : Nat)
    ((n - w + d - 1) / d).toNat

/-- Number of a channel's first word whose instant lies at or after the trigger time, in format 2 (R197). -/
def State.wordTOf (s : State) (ch : Nat) : Option Nat :=
  match s.cap.trig with
  | some (_, stamp, t) => s.wordsBefore ch (t + ofBool (bits stamp 5 0 != 0))
  | none => none

/-- See `wordTOf`, for the first selected channel. -/
def State.wordT (s : State) : Option Nat :=
  match s.capChans with
  | ch :: _ => s.wordTOf ch
  | [] => none

/-- T counted from the arm tick, in samples or in words. -/
def State.capT (s : State) : Option Int :=
  if s.capWords then s.wordT.map fun (n : Nat) => (n : Int) else s.cap.trig.map fun t => t.2.2

/-- First kept sample of the capture, given the last one (R197, R201): an end in PRE keeps the most recent samples the ring holds. -/
def State.capFirst (s : State) (last : Int) : Int × Bool :=
  match s.cap.trig with
  | some _ =>
    if s.capWords then
      let t := s.capT.getD (s.capTaken : Int)
      let want := t - (s.reg K.CAP_PRE : Nat)
      let taken := (s.capChans.head?.bind fun ch => s.wordsBefore ch (s.cap.start : Int)).getD 0
      let oldest : Int := (taken - s.reg K.CAP_CH_LEN : Nat)
      (max 0 (max want oldest), decide (want < max 0 oldest))
    else (s.cap.start, s.cap.preShort)
  | none => (max 0 (last + 1 - (s.reg K.CAP_CH_LEN : Nat)), false)

/-- Kept samples of the capture per channel. -/
def State.capCount (s : State) (last : Int) : Nat := (last + 1 - (s.capFirst last).1).toNat

/-- Samples or words of every selected channel that the Field Store wholly holds, counted from the arm tick: those before the first granule that waits. -/
def State.capHeld (s : State) : Nat :=
  s.fs.queue.foldl (fun m g => match g.purpose with
    | .capture _ n => min m n
    | _ => m) s.capTaken

/-- CAP_WRITTEN follows the kept samples that are written (R202). -/
def State.capProgress (s : State) : State :=
  let n := s.reg K.TRIG_STATE
  let held := if n = 4 then min s.capHeld (s.cap.last + 1).toNat else s.capHeld
  if n = 4 ∨ n = 3 then s.put K.CAP_WRITTEN (held - (s.capFirst (if n = 4 then s.cap.last else s.capTaken - 1)).1).toNat else s

/-- A capture ends (R201) with all samples up to `last`, the count of its last kept sample, staged; TRIG_OUT of mode 2 falls (R206). -/
def State.capClose (s : State) (why : CapEnd) (last : Int) : State :=
  let s := (s.setCap { s.cap with ended := some why, last := last, stopTicks := 0, formed := [] }).put K.TRIG_STATE 4
  let s := if s.reg K.TRIG_OUT_MODE = 2 then s.setTrg { s.trg with out := false } else s
  let s := if why = .overflow then s.stick 19 else s
  s.capProgress

/-- Greatest kept count that draining allows (R202). -/
def State.drainLimit (s : State) : Option Nat :=
  if s.reg K.CAP_DRAIN_EN = 1 && s.cap.trig.isSome then some (s.reg K.CAP_DRAINED + s.reg K.CAP_CH_LEN) else none

/-- The sample T + POST counted from the arm tick, none when there is no end (R197). -/
def State.capGoal (s : State) : Option Int :=
  if s.reg K.CAP_POST = 0xFFFFFFFF then none else s.capT.map fun t => t + (s.reg K.CAP_POST : Nat)

/-- Raw samples before sample `upTo` are staged as they come, none after the last one to keep. The first one for which the staging buffer has no room, or that
draining does not let be kept, ends the capture with OVERFLOW (R197, R202). -/
def State.capFeedRaw (s : State) (upTo : Nat) : State :=
  let upTo := match s.capGoal with
    | some g => min upTo (g + 1).toNat
    | none => upTo
  let room := s.cap.staged + s.stageRoom
  let top := match s.drainLimit with
    | some m => min room (s.cap.start + m)
    | none => room
  let s := s.stageTo (min upTo top)
  if max s.cap.staged top < upTo then s.capClose .overflow ((s.cap.staged : Int) - 1) else s

/-- A word of format 2 is staged (R197, R198): words after the last one to keep are not taken, and one for which the staging buffer has no room, or that
draining does not let be kept, ends the capture (R202). -/
def State.capWord (s : State) (w : Nat × Int × Int) : State :=
  match s.capOn, s.capChans.findIdx? (· == w.1) with
  | true, some k =>
    let n := s.cap.words.getD w.1 0
    let late := s.reg K.CAP_POST != 0xFFFFFFFF && (s.wordTOf w.1).any fun t => decide (t + s.reg K.CAP_POST < n)
    let full := decide (524288 < s.capStagedBytes + 2) || s.drainLimit.any fun m => decide ((s.capFirst ((n : Int) - 1)).1 + (m : Int) ≤ n)
    if late then s
    else if full then s.capClose .overflow ((s.capTaken : Int) - 1)
    else (s.stageChan k w.1 n 0 [w.2.2]).setCap { s.cap with words := setAt 0 s.cap.words w.1 (n + 1) }
  | _, _ => s

/-- The words of format 2 that are formed before sample `upTo` are staged in the order of their instants. -/
def State.capFeedWords (s : State) (upTo : Int) : State :=
  let l := s.cap.formed
  let s := s.setCap { s.cap with formed := l.filter fun w => !decide (w.2.1 < upTo) }
  s.forEach (sortBy (fun a b => decide (a.2.1 ≤ b.2.1)) (l.filter fun w => decide (w.2.1 < upTo))) State.capWord

/-- Samples, or in format 2 words, before sample `upTo` counted from the arm tick are staged as they come. -/
def State.capFeed (s : State) (upTo : Int) : State :=
  if !s.capOn then s else if s.capWords then s.capFeedWords upTo else s.capFeedRaw upTo.toNat

/-- A capture ends (R201) at `last`, the count of its last kept sample, unless it overflows before. -/
def State.capEnd (s : State) (why : CapEnd) (last : Int) : State :=
  let s := if s.capWords then s else s.capFeed (last + 1)
  if s.capOn then s.capClose why last else s

/-- The capture ends at the last sample or word before sample `upTo` counted from the arm tick. -/
def State.capEndBefore (s : State) (why : CapEnd) (upTo : Int) : State :=
  let s := s.capFeed upTo
  s.capEnd why ((if s.capWords then (s.capTaken : Int) else upTo) - 1)

/-- Sample, counted from the arm tick, with which the last sample or word to keep of every selected channel comes. -/
def State.capGoalAt (s : State) : Option Int :=
  if s.capWords then
    s.capChans.foldl (fun m ch => match m, s.wordTOf ch, s.cap.word0.getD ch none with
      | some a, some t, some w => if s.reg K.CAP_POST = 0xFFFFFFFF then none else
          some (max a (w + (((t + s.reg K.CAP_POST) * max 1 (s.cap.decs.getD ch 1) : Nat) : Int)))
      | _, _, _ => none) (some 0)
  else s.capGoal

/-- The capture overflows by the end of cc `cc` where the staging buffer of 512 KiB is full, or a kept sample would lie beyond what the host has drained (R202). -/
def State.overflowBy (s : State) (cc : Nat) : State :=
  let s := s.capFeed (4 * (cc : Int) - s.cap.origin)
  if s.capOn && decide (524288 ≤ s.capStagedBytes) then s.capClose .overflow ((s.capTaken : Int) - 1) else s

/-- CAPTURE_OVERFLOW: its cc is that of the Pennant event (R202, R309). -/
def State.captureOverflow (s : State) (cc : Nat) : State :=
  let t := s.overflowBy cc
  if s.capOn && !t.capOn then t.eventCc 19 cc else t

/-- A fault of a capture write before which its ring holds `held` samples (R203): what every ring wholly holds is kept, the rest of the queue is dropped. -/
def State.captureFault (s : State) (held : Nat) : State :=
  let kept := min held s.capHeld
  let s := { s with fs := { s.fs with queue := s.fs.queue.filter fun g => match g.purpose with
    | .capture _ _ => false
    | _ => true } }
  if s.capOn then
    (s.setCap { s.cap with staged := kept }).capClose .fault ((kept : Int) - 1)
  else if s.cap.ended.isSome then
    (s.setCap { s.cap with ended := some .fault, last := min s.cap.last ((kept : Int) - 1) }).capProgress
  else s

/-- An end at a tick, when instants count from the slot that starts (R201): the last sample before that slot. -/
def State.capEndAtTick (s : State) (why : CapEnd) : State := s.capEndBefore why (-s.cap.origin)

/-! ### The trigger engine runs (R185, R192 to R194, R204) -/

/-- MASKV of a channel rises in POST (R204): the capture ends in the cc in which it arrives. -/
def State.captureMaskstop (s : State) (ch : Nat) (cc : Int) (stamp : Nat) : State :=
  match s.reg K.TRIG_STATE == 3 && s.regBit K.CAP_MASKSTOP ch, s.cap.trig with
  | true, some t =>
    if t.2.2 < s.sampleOf stamp then
      s.capEndBefore .maskstop (4 * cc + 4 - s.cap.origin)
    else s
  | _, _ => s

/-- The next cc in which the engine has something to judge: an arrival, the cc after a pulse, the start of a slot, in which channels may gain or lose their power and
lock, the entry of a stage, a trigger to declare, the end of a time limit. -/
def State.trigNext (s : State) : Option Int :=
  let g := s.trg
  let p := g.prog
  let w := s.reg (K.TRIG_WITHIN p.stage)
  let l := (g.arrivals.head?.map (·.cc)).toList
    ++ (if s.trigRuns then (if g.clock < 0 then [0] else []) ++ (if g.live = [] then [] else [g.clock + 1])
        ++ (if g.clock < p.entered then [p.entered] else []) ++ (if w != 0 && p.declare.isNone then [p.entered + (w : Int)] else []) else [])
    ++ (p.declare.map (·.1)).toList
  match l with
  | [] => none
  | a :: r => some (r.foldl min a)

/-- One cc of the engine: the trigger to declare, the arrivals, the stage's pattern, its time limit. -/
def State.trigCc (s : State) (t : Int) : State :=
  let s := if s.trg.prog.declare.any fun d => decide (d.1 ≤ t) then (s.capFeed (4 * t - s.cap.origin)).triggerDeclare else s
  let now := s.trg.arrivals.filter fun a => decide (a.cc ≤ t)
  let s := s.setTrg { s.trg with arrivals := s.trg.arrivals.filter fun a => !decide (a.cc ≤ t), clock := t, live := pulsesOf now }
  let s := s.forEach now fun s a => (if a.src == 3 && a.on then s.captureMaskstop a.pos t a.stamp else s).sees a
  let states := s.statesTrue
  let rose := pulsesOf now ++ states.filter fun q => !s.trg.seen.contains q
  let s := s.setTrg { s.trg with seen := states }
  let judge := fun (s : State) =>
    if s.trigRuns then s.progCc t (pulsesOf now) (rose.filter fun q => s.posTrue s.trg.prog.stage q.1 (pulsesOf now)) else s
  let s := judge s
  if s.stageLate t then judge s.stageTimeout else s

/-- The engine judges every cc up to `t` in turn, with the timer's pulses among the arrivals, until the program is as `stop` says. -/
def State.trigRun (s : State) (t : Int) (stop : State → Bool) : Nat → State
  | 0 => s
  | n + 1 =>
    if stop s then s
    else
      let s := s.timerUntil (t + 1) 2801
      match s.trigNext with
      | some u => if u ≤ t then (s.trigCc u).trigRun t stop n else s
      | none => s

/-- Steps that the engine takes in a slot at most, with room for late arrivals. -/
def trigSteps : Nat := 12000

/-- Every cc of the present slot up to `t`. -/
def State.trigUpTo (s : State) (t : Int) : State := s.trigRun (min t 2799) (fun _ => false) trigSteps

/-- TRIGGER_DECLARE: the next trigger that is declared in the present slot (R194). -/
def State.triggerNext (s : State) : State :=
  let s := s.trigRun 2799 (fun s => s.trg.prog.declare.isSome) trigSteps
  match s.trg.prog.declare with
  | some d => s.trigUpTo d.1
  | none => s

/-- TRIG_STAGE_TIMEOUT: the time limit of the present stage ends in the present slot, unless the stage is satisfied before (R193). -/
def State.stageEnds (s : State) : State :=
  let p := s.trg.prog
  let e := p.entered + (s.reg (K.TRIG_WITHIN p.stage) : Int)
  if s.reg (K.TRIG_WITHIN p.stage) = 0 ∨ 2800 ≤ e then s else s.trigUpTo e

/-- CAPTURE_COMPLETE: sample T + POST, or in format 2 the last selected channel's word, lies within the present slot or before it, and draining lets it be kept
(R201, R202). -/
def State.captureComplete (s : State) : State :=
  let s := if s.reg K.TRIG_STATE = 2 then s.trigRun 2799 (fun s => s.reg K.TRIG_STATE != 2) trigSteps else s
  match s.reg K.TRIG_STATE == 3, s.capGoalAt with
  | true, some a =>
    if s.cap.origin + a < 11200 then
      let s := (s.trigUpTo ((s.cap.origin + a) / 4)).capFeed (a + 1)
      match s.capOn, s.capGoal with
      | true, some g => if g < (s.capTaken : Int) then s.capClose .complete g else s
      | _, _ => s
    else s
  | _, _ => s

/-! ### MASKV (R178) -/

/-- MASKV is due to fall: its time has come and no further violation extends it (R178). -/
def State.maskvEnds (s : State) (ch : Nat) : Bool :=
  let c := s.spec.chans.getD ch {}
  s.regBit K.MASKV_NOW ch && decide (c.expire < 11200) && !c.violations.any fun v => decide (v.1 ≤ c.expire)

/-- MASKV falls when due. -/
def State.maskvFall (s : State) (ch : Nat) : State :=
  if s.maskvEnds ch then (s.putBit K.MASKV_NOW ch false).sends { cc := (s.spec.chans.getD ch {}).expire / 4, pos := ch, src := 3, on := false } else s

/-- MASKV rises: the condition at the trigger engine and the stop on mask (R178, R204). -/
def State.maskvRise (s : State) (ch : Nat) : State :=
  let s := s.maskvFall ch
  match (s.spec.chans.getD ch {}).violations with
  | (t, stamp) :: r =>
    if t < 11200 then
      let was := s.regBit K.MASKV_NOW ch
      let c := s.spec.chans.getD ch {}
      let hop := 128 * 2 ^ s.reg (K.SP_LEN (ch / 2)) / 2 ^ s.reg (K.SP_OVL (ch / 2)) * (if s.reg (K.SP_SRC (ch / 2)) = 1 then max 1 (s.reg (K.DEC_D ch)) else 1)
      let s := { s with spec := { s.spec with chans := setAt {} s.spec.chans ch { c with violations := r, expire := t + (hop : Nat) } } }
      let s := ((s.count (K.MASK_VIOL ch)).put (K.MASKV_LAST ch) stamp).putBit K.MASKV_NOW ch true
      if was then s else s.sends { cc := t / 4, pos := ch, src := 3, stamp := stamp }
    else s
  | [] => s

/-! ### Header (R205) -/

/-- The 64 bytes of the capture's header. -/
def State.captureHeader (s : State) : List Byte :=
  let c := s.cap
  let f := s.capFirst c.last
  let fmt := s.reg K.CAP_FMT
  let marks := 2 ^ (c.ended.getD CapEnd.complete).bit + 128 * ofBool f.2
  let count := s.capCount c.last
  let d : Nat := match s.capChans with
    | ch :: _ => if s.capWords then c.decs.getD ch 1 else 1
    | [] => 1
  let first := s.stampAt (s.cap.origin + (if s.capWords then ((s.capChans.head?.bind fun c => s.cap.word0.getD c none).getD 0) + f.1 * (d : Int) else f.1))
  let t := c.trig
  let pre := match s.capT with
    | some n => min (n - f.1).toNat count
    | none => 0
  leBytes 8 (c.seq % 2 ^ 32 + fmt * 2 ^ 38 + marks * 2 ^ 40 + 0x4350 * 2 ^ 48)
    ++ leBytes 8 (s.reg K.CAP_CHMASK + (t.map (·.1)).getD 0x3F * 2 ^ 58)
    ++ leBytes 8 ((t.map fun x => x.2.1).getD 0) ++ leBytes 8 first ++ leBytes 8 count
    ++ leBytes 8 (pre % 2 ^ 32 + f.1.toNat % max 1 (s.reg K.CAP_CH_LEN) * 2 ^ 32)
    ++ leBytes 8 (d * 2 ^ 16 + c.ignored * 2 ^ 32) ++ leBytes 8 c.ignoredFirst

/-- The header is due: the capture has ended and none of its samples waits for the Field Store. -/
def State.headerDue (s : State) : Bool :=
  s.reg K.TRIG_STATE == 4 && !s.fs.queue.any fun g => match g.purpose with
    | .capture _ _ => true
    | _ => false

/-- Address of the header (R199, R205). -/
def State.headerVa (s : State) : Nat := s.reg K.CAP_HDR_BASE + s.cap.seq % max 1 (s.reg K.CAP_SETS) * 64

/-- CAPTURE_HEADER_WRITTEN (R201, R203, R205): a fault of the write leaves the header in CAP_LAST_HDR only. With CAP_MODE 1 the engine asks to be armed again at the
first tick to come instead of becoming IDLE. -/
def State.headerWritten (s : State) (cc : Nat) (ecc : Ecc) : State :=
  if !s.headerDue then s
  else
    let h := s.captureHeader
    let space := s.reg K.CAP_AS
    let va := s.headerVa
    let s := match s.writeGranule ecc 0x18 1 space va h with
      | .ok s' => s'
      | .error (f, p, syn, s') => s'.granuleFault cc f 0x18 space 1 true false va p syn 0
    let s := (s.putDom K.CAP_LAST_HDR h).put K.CAP_SEQ s.cap.seq
    let s := if s.cap.trig.isSome then s.tally K.TRIG_COUNT else s
    let again := s.reg K.CAP_MODE == 1 && s.capMode
    (s.setCap { seq := addWrap 32 s.cap.seq 1, rearm := again }).put K.TRIG_STATE (ofBool again)

/-! ### Arming (R196, R201) -/

/-- CAP_ARM: a write of 1 to CAP_CTRL (R196). -/
def State.capArm (s : State) (cc : Nat) : State :=
  if s.reg K.TRIG_STATE = 0 && s.capMode then (s.put K.TRIG_STATE 1).setCap { s.cap with armTicks := ticksAfter cc, rearm := false } else s

/-- The capture is armed at the tick that starts the slot whose sample 0 lies at `at_` (R196). -/
def State.armAt (s : State) (at_ : Int) : State :=
  let s := (s.put K.TRIG_STATE 2).put K.CAP_WRITTEN 0
  let s := s.setCap { seq := s.cap.seq, origin := at_, decs := (List.range 48).map fun ch => s.reg (K.DEC_D ch) }
  let t := at_ / 4
  let s := s.setTrg { s.trg with live := [], arrivals := s.trg.arrivals.filter (·.pos != 50), timerNext := t + (max 1 (s.reg K.TRIG_TIMER) : Nat) }
  s.setProg { stage := 0, entered := t }

/-- CAP_STOP: a write of 2 to CAP_CTRL stops the capture, or the request to arm it, at the tick that R19 gives (R201). -/
def State.capStop (s : State) (cc : Nat) : State :=
  if s.capOn || s.reg K.TRIG_STATE == 1 then s.setCap { s.cap with stopTicks := ticksAfter cc } else s

/-- CAP_CTRL: other values are ignored. -/
def State.capCtrl (s : State) (v cc : Nat) : State := if v = 1 then s.capArm cc else if v = 2 then s.capStop cc else s

/-- A request to arm, or a capture that the tick in hand armed, is dropped. -/
def State.capForget (s : State) : State :=
  if (s.capOn && decide (s.cap.origin < 0)) || s.reg K.TRIG_STATE == 4 then s else (s.put K.TRIG_STATE 0).setCap { seq := s.cap.seq }

/-- The arm tick is the tick in hand, by a write or by re-arming, in a mode of R196. -/
def State.armDue (s : State) : Bool := s.capMode && s.cap.stopTicks != 1 && s.reg K.TRIG_STATE == 1 && decide (s.cap.armTicks ≤ 1)

/-- CAPTURE_ARM_TICK: sample 0 of the slot that starts is at `t`. -/
def State.armTick (s : State) (t : Int) : State := if s.armDue then s.armAt t else s

/-- What a tick does to the capture, once the mode, the shed level and the lock of the slot that starts are settled (R18, R186, R196, R201). -/
def State.capTick (s : State) : State :=
  let stop := s.cap.stopTicks == 1
  let old := decide (s.cap.origin < 0)
  let s := if old && !s.locked && s.pipe.prev.locked then s.capEndAtTick .lockloss
    else if old && (!s.capMode || stop || (decide (1 ≤ s.shedTick) && s.reg K.CAP_FMT != 2)) then s.capEndAtTick .stopped else s
  let s := if stop || !s.capMode then s.capForget else s
  let s := s.armTick 0
  let s := s.setCap { s.cap with armTicks := max 1 s.cap.armTicks - 1 + ofBool (s.cap.armTicks == 1), stopTicks := tickDown s.cap.stopTicks }
  let soft := s.trg.softDue
  let s := s.setTrg { s.trg with softDue := false }
  if soft then s.pulseAt 51 0 else s

/-! ### Outputs (R206, R207) -/

/-- A pulse on SLOT_OUT in the mode given that rises 16 cc after cc `t`, none in slots of lock loss nor outside the modes of R196; one that starts while another
is still high merges with it. -/
def State.slotPulse (s : State) (mode : Nat) (t : Int) : State :=
  if s.reg K.SLOT_OUT_MODE = mode && s.locked && s.capMode then
    let g := s.trg
    let r := t + 16
    let e := r + (s.reg K.SLOT_OUT_WIDTH : Nat)
    s.setTrg (if !g.slotOut then { g with slotOut := true, slotEnd := e }
      else match g.slotRises.getLast? with
        | some p => { g with slotRises := if r < p.2 then g.slotRises.dropLast ++ [(p.1, max p.2 e)] else g.slotRises ++ [(r, e)] }
        | none => if r < g.slotEnd then { g with slotEnd := max g.slotEnd e } else { g with slotRises := [(r, e)] })
  else s

/-- What the outputs' modes allow: both are low outside the modes of R196 and in mode 0, and TRIG_OUT of mode 2 outside POST (R206, R207). -/
def State.outGate (s : State) : State :=
  let g := s.trg
  let m := s.reg K.TRIG_OUT_MODE
  s.setTrg { g with
    out := g.out && s.capMode && (m == 1 || (m == 2 && s.reg K.TRIG_STATE == 3))
    slotOut := g.slotOut && s.capMode && s.reg K.SLOT_OUT_MODE != 0
    slotRises := if s.capMode && s.reg K.SLOT_OUT_MODE != 0 then g.slotRises else [] }

/-- TRIG_OUT falls in pulse mode (R206). -/
def State.trigOutEnd (s : State) : State := if s.reg K.TRIG_OUT_MODE = 1 then s.setTrg { s.trg with out := false } else s

/-- SLOT_OUT falls (R207), and rises with the pulse that follows, if one does. -/
def State.slotOutEnd (s : State) : State :=
  match s.trg.slotRises with
  | p :: l => s.setTrg { s.trg with slotEnd := p.2, slotRises := l }
  | [] => s.setTrg { s.trg with slotOut := false }

/-- Pulses whose time ends in the present slot fall. -/
def State.pulsesEnd (s : State) : State :=
  let s := if s.trg.out && decide (s.trg.outEnd < 2800) then s.trigOutEnd else s
  s.forRange (s.trg.slotRises.length + 1) fun s _ => if s.trg.slotOut && decide (s.trg.slotEnd < 2800) then s.slotOutEnd else s

/-! ### The end of a slot and the move of instants at a tick -/

/-- What the trigger engine, the capture and the outputs still have to do in the slot that ends (R192 to R197, R201, R202, R206, R207). -/
def State.trigEndSlot (s : State) : State :=
  let s := s.captureComplete.trigUpTo 2799
  let s := (s.overflowBy 2800).capProgress.pulsesEnd
  s.setTrg { s.trg with seen := s.statesTrue }

/-- All instants move back by a slot. -/
def State.trigShift (s : State) : State :=
  let g := s.trg
  let p := g.prog
  let g := { g with
    prog := { p with entered := p.entered - 2800, declare := p.declare.map fun d => (d.1 - 2800, d.2) }
    arrivals := g.arrivals.map fun a => { a with cc := a.cc - 2800 }
    clock := min g.clock 2799 - 2800, timerNext := g.timerNext - 2800, outEnd := g.outEnd - 2800, slotEnd := g.slotEnd - 2800
    slotRises := g.slotRises.map fun p => (p.1 - 2800, p.2 - 2800)
    lastCross := g.lastCross.map fun o => o.map (· - 716800) }
  (s.setTrg g).setCap { s.cap with origin := s.cap.origin - 11200 }

end Sys2Proof.Machine
end

