-- ==== Sys2Proof/Machine/Transform.lean ====
section
/-! DEFINITION. Windows, the transform and its arithmetic noise (R151 to R155): w[i] of Table 6.3, |X_b|² of a windowed spectrum, and the bounds between
which R154 lets the engine's power of a bin lie. -/

namespace Sys2Proof.Machine

/-! ### Trigonometric values to 60 binary places -/

/-- π to 35 decimal places. -/
def piRat : Rat := 314159265358979323846264338327950288 / 100000000000000000000000000000000000

/-- `n` terms of the series whose next term is the present one times `-x2 / ((j + 1)(j + 2))`. -/
def altSeries (x2 term : Rat) (j : Nat) : Nat → Rat
  | 0 => 0
  | n + 1 => term + altSeries x2 (-(term * x2) / (((j + 1) * (j + 2) : Nat) : Rat)) (j + 2) n

/-- A value to 60 binary places. -/
def to60 (x : Rat) : Rat := (rhe (x * ((2 ^ 60 : Nat) : Rat)) : Rat) / ((2 ^ 60 : Nat) : Rat)

/-- cos(2πr / n) for an angle of at most a right angle; `n` is a multiple of 4. -/
def cosQuarter (n r : Nat) : Rat :=
  let x := fun (k : Nat) => 2 * piRat * (k : Rat) / (n : Rat)
  if 8 * r ≤ n then to60 (altSeries (x r * x r) 1 0 14) else to60 (altSeries (x (n / 4 - r) * x (n / 4 - r)) (x (n / 4 - r)) 1 14)

/-- cos(2πk / n). -/
def cosAt (n k : Nat) : Rat :=
  let r := if n < 2 * (k % n) then n - k % n else k % n
  if n < 4 * r then -cosQuarter n (n / 2 - r) else cosQuarter n r

/-- sin(2πk / n). -/
def sinAt (n k : Nat) : Rat := cosAt n (k + 3 * (n / 4))

/-! ### Windows (R151 to R153) -/

/-- The values of β that SP_KBETA selects (R152). -/
def kaiserBeta (code : Nat) : Rat := [2, 3, 4, 5, 6, 7, 43 / 5, 10].getD code 0

/-- The modified Bessel function I0(z), with `q` = z² / 4: `n` terms from the `k`-th on. -/
def besselTerms (q term : Rat) (k : Nat) : Nat → Rat
  | 0 => 0
  | n + 1 => term + besselTerms q (term * q / (((k + 1) * (k + 1) : Nat) : Rat)) (k + 1) n

/-- I0(z) with `q` = z² / 4, z at most 10. -/
def besselI0 (q : Rat) : Rat := besselTerms q 1 0 40

/-- The Kaiser window (Table 6.3). -/
def kaiserAt (beta : Rat) (n i : Nat) : Rat :=
  let u : Rat := 2 * (i : Rat) / (n : Rat) - 1
  besselI0 (beta * beta * (1 - u * u) / 4) / besselI0 (beta * beta / 4)

/-- w[i] of a window of length `n` (Table 6.3); `custom` holds the values of CUSTOM_WIN. -/
def windowAt (win beta : Nat) (custom : List Nat) (n i : Nat) : Rat :=
  let c := fun k => cosAt n (k * i)
  match win with
  | 0 => 1
  | 1 => 1 / 2 - c 1 / 2
  | 2 => 35875 / 100000 - 48829 / 100000 * c 1 + 14128 / 100000 * c 2 - 1168 / 100000 * c 3
  | 3 => 21557895 / 100000000 - 41663158 / 100000000 * c 1 + 277263158 / 1000000000 * c 2 - 83578947 / 1000000000 * c 3
      + 6947368 / 1000000000 * c 4
  | 4 => kaiserAt (kaiserBeta beta) n i
  | _ => (custom.getD i 0 : Rat) / 65536

/-- All values of a window. -/
def windowValues (win beta : Nat) (custom : List Nat) (n : Nat) : List Rat := (List.range n).map (windowAt win beta custom n)

def sumRat (l : List Rat) : Rat := l.foldl (· + ·) 0

/-- Coherent gain and equivalent noise bandwidth of a window given by its values. -/
def figuresOf (w : List Rat) : Rat × Rat :=
  let sum := sumRat w
  (sum / (w.length : Rat), (w.length : Rat) * sumRat (w.map fun v => v * v) / (sum * sum))

/-! ### The transform and its noise (R154, R155) -/

/-- |X_b|² of the samples `x` under the window `w`. -/
def binSquare (x w : List Rat) (b : Nat) : Rat :=
  let n := x.length
  let y := List.zipWith (· * ·) x w
  let re := sumRat (y.mapIdx fun i v => v * cosAt n (b * i))
  let im := sumRat (y.mapIdx fun i v => v * sinAt n (b * i))
  re * re + im * im

/-- The greatest power of the engine's own noise in a bin, in codes squared: 20 dB below the quantisation noise of an ideal 12-bit converter, which is one
twelfth of a code squared for each sample (R154). -/
def noiseSquare (w : List Rat) : Rat := sumRat (w.map fun v => v * v) / 1200

/-- A rational number at or above the square root of `x`, by less than 2^-40. -/
def sqrtAbove (x : Rat) : Rat := ((Nat.sqrt (x * ((2 ^ 80 : Nat) : Rat)).ceil.toNat + 1 : Nat) : Rat) / ((2 ^ 40 : Nat) : Rat)

/-- Least and greatest power of a bin that the engine can form where the exact one is `p` and its noise has at most power `e`. -/
def noiseSpan (p e : Rat) : Rat × Rat :=
  let r := 2 * sqrtAbove (p * e)
  (if p ≤ e then 0 else max 0 (p + e - r), p + e + r)

/-- Normalisation of R155: (1,024 × N × CG)². -/
def normSquare (n : Nat) (cg : Rat) : Rat := (1024 * (n : Rat) * cg) * (1024 * (n : Rat) * cg)

end Sys2Proof.Machine
end

