-- ==== Sys2Proof/Machine/Spectrum.lean ====
section
/-! DEFINITION. The spectrum engine (R146 to R183): grids, averages, output entries, density maps, mask tests and the interferer report. The power of
a bin is a free value within the noise of R154 around the windowed transform (log 8). -/

namespace Sys2Proof.Machine

/-! ### Settings of a channel's pipeline (R146 to R150) -/

/-- The spare pipeline that serves a pipeline, if one does (R183). -/
def State.spareOf (s : State) (p : Nat) : Option Nat := (List.range 2).find? fun i => s.reg (K.SPARE_FOR i) == p

/-- A pipeline works: neither retired nor under test, or a spare serves in its place (Table 16.4). -/
def State.pipeWorks (s : State) (p : Nat) : Bool := decide (s.reg (K.SP_STATE p) < 3) || (s.spareOf p).isSome

/-- The channel is served by a pipeline. -/
def State.specServed (s : State) (ch : Nat) : Bool :=
  s.pipeWorks (ch / 2) && match s.reg (K.SP_MODE (ch / 2)) with
  | 1 => true
  | 2 => s.reg (K.SP_SEL (ch / 2)) == ch % 2
  | _ => false

/-- Transform length N. -/
def State.specN (s : State) (ch : Nat) : Nat := 128 * 2 ^ s.reg (K.SP_LEN (ch / 2))

/-- Hop in samples of the source. -/
def State.specHop (s : State) (ch : Nat) : Nat := s.specN ch / 2 ^ s.reg (K.SP_OVL (ch / 2))

/-- Samples per source value: 1 for the raw source, D for the decimator. -/
def State.specStep (s : State) (ch : Nat) : Nat := if s.reg (K.SP_SRC (ch / 2)) = 1 then max 1 (s.reg (K.DEC_D ch)) else 1

/-- The channel uses slice 8 (R109). -/
def State.usesSlice8 (s : State) (ch : Nat) : Bool := (List.range 8).any fun p => bits (s.reg (K.SLICE_MAP ch)) (4 * p + 3) (4 * p) == 8

/-- Entries and spectra of the channel carry SPARE (Table 6.5). -/
def State.specSpare (s : State) (ch : Nat) : Bool := (s.spareOf (ch / 2)).isSome || s.usesSlice8 ch

/-- State of one channel of the engine. -/
def State.spec1 (s : State) (ch : Nat) : SpecChan := s.spec.chans.getD ch {}

/-- Replaces it. -/
def State.setSpec (s : State) (ch : Nat) (c : SpecChan) : State := { s with spec := { s.spec with chans := setAt {} s.spec.chans ch c } }

/-- One density map. -/
def State.dens1 (s : State) (ch : Nat) : DensMap := s.spec.dens.getD ch {}

/-- Replaces it. -/
def State.setDens (s : State) (ch : Nat) (d : DensMap) : State := { s with spec := { s.spec with dens := setAt {} s.spec.dens ch d } }

/-! ### Powers and formats (R155, R156) -/

/-- How a pipeline averages: with A = 1 each spectrum is delivered as it is (R156). -/
def State.avgMode (s : State) (p : Nat) : Nat := if s.reg (K.SP_AVG_N p) = 1 then 0 else s.reg (K.SP_AVG_MODE p)

/-- Power in 1/128 dB: -32,768 for zero or below -256 dBFS (R155). -/
def powerDb (p : Rat) : Int := if p ≤ 0 then -32768 else clampInt (-32768) 32767 (db128 p)

/-- A power's dB value held to 1/1,024 dB; that of a zero power is -256 dBFS, which -32,768 stands for in 1/128 dB (R155, R156). The nearest 1/1,024 dB is
held, and a power below -256 dBFS that is not zero as it is: the spec states neither (DESIGN CHOICE, log 50). -/
def powerDb1024 (p : Rat) : Int :=
  if p ≤ 0 then -262144
  else
    let num := p.num.natAbs ^ 20480
    let den := p.den ^ 20480
    let lg : Int := if den ≤ num then (Nat.log 10 (num / den) : Int) else -((Nat.log 10 ((den - 1) / num) : Int) + 1)
    (lg + 1) / 2

/-- Greatest v at most 2^32 - 1 with 2v - 1 at most 2^25 times ten to the power m / q, by bisection: the nearest integer to 2^24 times that power. -/
def linearOf (m : Int) (q : Nat) : Nat :=
  let ok := fun (v : Nat) =>
    if v = 0 then true
    else if 0 ≤ m then decide ((2 * v - 1) ^ q ≤ 2 ^ (25 * q) * 10 ^ m.toNat) else decide ((2 * v - 1) ^ q * 10 ^ (-m).toNat ≤ 2 ^ (25 * q))
  (List.range 32).foldl (fun v i => if ok (v + 2 ^ (31 - i)) then v + 2 ^ (31 - i) else v) 0

/-- Adds a spectrum's powers to an average (R156). -/
def avgAdd (mode : Nat) (fresh : Bool) (acc p : List Rat) : List Rat :=
  let v := if mode = 1 then p.map fun x => (powerDb1024 x : Rat) else p
  if fresh then v
  else match mode with
    | 2 => List.zipWith max acc v
    | 3 => List.zipWith min acc v
    | _ => List.zipWith (· + ·) acc v

/-- The averaged value of a bin in 1/128 dB. -/
def avgDb (mode a : Nat) (x : Rat) : Int :=
  match mode with
  | 1 => clampInt (-32768) 32767 (rhe (x / (a : Rat) / 8))
  | 0 => powerDb (x / (a : Rat))
  | _ => powerDb x

/-- The averaged value of a bin as U32 (R155 format 1). -/
def avgLinear (mode a : Nat) (x : Rat) : Nat :=
  match mode with
  | 1 => linearOf (x.num) (10240 * a * x.den)
  | 0 => min (rhe (x / (a : Rat) * 16777216)).toNat (maxOf 32)
  | _ => min (rhe (x * 16777216)).toNat (maxOf 32)

/-! ### Density updates (R168 to R172) -/

/-- Value of a column from the bins' values in 1/128 dB (R169). -/
def columnValue (n : Nat) (db : Array Int) (c : Nat) : Int :=
  if 2048 ≤ n then maxInt (-32768) ((List.range (n / 2048)).map fun k => db.getD (c * (n / 2048) + k) (-32768))
  else db.getD (c * n / 2048) (-32768)

/-- Row of a column value, and whether it was clamped (R170). -/
def rowOf (ref p : Int) : Nat × Bool :=
  let r := 255 - (ref - p) / 64
  if 255 < r then (255, true) else if r < 0 then (0, true) else (r.toNat, false)

/-- The work on a map's working buffer. -/
def DensMap.present (d : DensMap) : DensJob :=
  { buf := d.working, init := d.init, halve := d.halve, adds := d.adds, held := d.held, taken := d.taken, first := d.first }

/-- What a map still has to do in its buffers, the oldest buffer first. -/
def DensMap.jobs (d : DensMap) : List DensJob := d.late ++ [d.present]

/-- A buffer's initialisation and updates are all done. -/
def DensJob.over (j : DensJob) : Bool := j.init.isNone && j.adds.isEmpty

/-- The swaps of a map whose frozen buffers have all their work done show in DENS_SEQ, DENS_FROZEN, DENS_TAKEN and DENS_T0, in their order: a buffer
that is shown as frozen changes no more (R172, R173). -/
def State.densShow (s : State) (ch : Nat) : List DensJob → State
  | [] => s.setDens ch { s.dens1 ch with late := [] }
  | j :: l =>
    if j.over then
      ((((s.tally (K.DENS_SEQ ch)).put (K.DENS_FROZEN ch) j.buf).put (K.DENS_TAKEN ch) j.taken).put (K.DENS_T0 ch) j.first).densShow ch l
    else s.setDens ch { s.dens1 ch with late := j :: l }

/-- Swaps the buffers of a map: the buffer that becomes the frozen one first gets the initialisation and the updates it still waits for and shows as
frozen then (DESIGN CHOICE, log 50), and a new period begins with the DENS_PERIOD now in force (R172, R173, R175). -/
def State.densSwap (s : State) (ch : Nat) (halve : Bool) : State :=
  let d := s.dens1 ch
  (s.setDens ch { started := d.started, period := s.reg (K.DENS_PERIOD ch), working := 1 - d.working, stride := d.stride, init := some 0
                  halve := halve }).densShow ch d.jobs

/-- A map that has not worked since BOOT starts: buffer 0 is the working buffer and starts at 0 (R172). -/
def State.densBegin (s : State) (ch : Nat) : State :=
  if s.reg (K.DENS_EN ch) = 0 ∨ (s.dens1 ch).started then s
  else s.setDens ch { started := true, period := s.reg (K.DENS_PERIOD ch) }

/-- What a CG10 commit does to a map whose DENS_EN, DENS_STRIDE or DENS_REF it changes: the buffers of a map that has worked swap, the new working buffer
starts at 0, and the stride count restarts (R175). A map's first start swaps nothing (R172). -/
def State.densCommit (s : State) (ch : Nat) : State :=
  let s := if (s.dens1 ch).started then s.densSwap ch false else s
  let s := s.setDens ch { s.dens1 ch with stride := 0 }
  if s.spec.running then s.densBegin ch else s

/-- A swap is due: the engine runs (R164), the period's updates are taken and the initialisation of the swap before has ended (R172). -/
def State.densSwapDue (s : State) (ch : Nat) : Bool :=
  let d := s.dens1 ch
  s.spec.running && d.started && decide (d.period ≤ d.taken) && d.late.isEmpty && d.init.isNone && s.reg (K.DENS_EN ch) != 0

/-- DENSITY_SWAP when due. -/
def State.densSwapStep (s : State) (ch : Nat) : State := if s.densSwapDue ch then s.densSwap ch (s.reg (K.DENS_DECAY ch) == 1) else s

/-- One spectrum or entry offered to a map (R168): every DENS_STRIDE-th is an update of one cell per column. -/
def State.densTake (s : State) (ch n : Nat) (db : Array Int) (stamp : Nat) : State :=
  let d := s.dens1 ch
  if d.stride + 1 < s.reg (K.DENS_STRIDE ch) then s.setDens ch { d with stride := d.stride + 1 }
  else
    let s := (s.densBegin ch).densSwapStep ch
    let d := s.dens1 ch
    let ref := s.regI 16 (K.DENS_REF ch)
    let rows := (List.range 1024).map fun c => (rowOf ref (columnValue n db c), c)
    let s := s.countBy (K.DENS_CLAMPED ch) (rows.filter (·.1.2)).length
    s.setDens ch { d with stride := 0, taken := d.taken + 1, first := if d.taken = 0 then stamp else d.first
                          adds := d.adds ++ rows.map fun r => (r.1.1, r.2) }

/-! ### Masks (R176 to R179) -/

/-- The masks that a spectrum starting at a sample is tested against (R179). -/
def State.maskFor (s : State) (start : Int) : MaskVer := (s.spec.masks.find? fun m => decide (m.since ≤ start)).getD {}

/-- A new version of tables and selections from the activation slot on. Versions no spectrum in progress can have started under are dropped. -/
def State.maskCommit (s : State) (at_ : Int) : State :=
  let v : MaskVer := { since := at_, sel := (List.range 48).map fun ch => s.reg (K.MASK_SEL ch)
                       src := (List.range 48).map fun ch => s.reg (K.MASK_SRC ch), tables := (List.range 8).map fun i => s.dom (K.MASK i) }
  { s with spec := { s.spec with masks := v :: s.spec.masks } }

/-- Some bin lies outside its segment (R177). -/
def violates (table : List Byte) (n : Nat) (db : Array Int) : Bool :=
  let t := table.toArray
  (List.range db.size).any fun b =>
    let g := b * 2048 / n
    let by_ := fun k => (t.getD (4 * g + k) 0).toNat
    let lo := toSigned 16 (by_ 0 + 256 * by_ 1)
    let hi := toSigned 16 (by_ 2 + 256 * by_ 3)
    let p := db.getD b (-32768)
    (hi != 32767 && decide (hi < p)) || (lo != -32768 && decide (p < lo))

/-- Tests a spectrum or an entry (R177, R178); `last` is the sample that ends it, `stamp` the time stamp MASKV takes. -/
def State.maskTest (s : State) (ch src n : Nat) (db : Array Int) (start last : Int) (stamp : Nat) : State :=
  let m := s.maskFor start
  let k := m.sel.getD ch 0
  if k = 0 ∨ m.src.getD ch 0 ≠ src then s
  else if violates (m.tables.getD (k - 1) []) n db then
    let c := s.spec1 ch
    s.setSpec ch { c with violations := c.violations ++ [(last + 1 + 4 * (n / 8 + 160 : Nat), stamp)] }
  else s

/-! ### The interferer report (R180 to R182) -/

/-- The line candidates of an entry: bins in order of decreasing value, lower bin first (R180); a LINE_THR
of zero accepts any local maximum (Table 6.7). -/
def lineCandidates (thr n : Nat) (db : Array Int) : List Nat :=
  let p := fun b => db.getD b (-32768)
  let near := [3, 4, 5, 6, 7, 8]
  let ok := (List.range (n / 2)).filter fun b =>
    decide (8 ≤ b ∧ b + 9 ≤ n / 2) && decide (p (b - 1) < p b) && decide (p (b + 1) ≤ p b)
      && (thr == 0 || decide (sumInt (near.map fun k => p (b - k)) + sumInt (near.map fun k => p (b + k)) + 12 * (thr : Int) ≤ 12 * p b))
  sortBy (fun a b => decide (p b < p a) || (p a == p b && decide (a ≤ b))) ok

/-- Takes candidates, skipping those within 3 bins of a line already taken, up to eight (R180). -/
def takeLines : List Nat → List Nat → List Nat
  | [], got => got
  | b :: l, got =>
    if 8 ≤ got.length then got
    else if got.any fun g => decide (b ≤ g + 3 ∧ g ≤ b + 3) then takeLines l got else takeLines l (got ++ [b])

/-- The U64 of a line (R181); a flat top cannot occur, P[b] being above P[b - 1]. -/
def lineWord (db : Array Int) (b : Nat) : Nat :=
  let l := db.getD (b - 1) 0
  let p := db.getD b 0
  let r := db.getD (b + 1) 0
  let d : Rat := ((l - r : Int) : Rat) / ((2 * (l - 2 * p + r) : Int) : Rat)
  ofSigned 16 p * 2 ^ 48 + (rhe (((b : Rat) + d) * 64)).toNat % 2 ^ 32

/-- A place without a line (R181). -/
def noLine : Nat := 0x8000 * 2 ^ 48

/-- The eight line words of an entry, strongest first. -/
def lineBlock (thr n : Nat) (db : Array Int) : List Nat :=
  let l := (takeLines (lineCandidates thr n db) []).map (lineWord db)
  l ++ List.replicate (8 - l.length) noLine

/-- Copies a report to its objects (R181, R182). -/
def State.report (s : State) (ch seq : Nat) (lines : List Nat) : State :=
  let s := s.forEach (lines.mapIdx fun i l => (i, l)) fun s p => s.put (K.LINES ch p.1) p.2
  let s := s.put (K.LINE_SEQ ch) seq
  if lines.any fun l => l != noLine && decide (s.regI 16 K.LINE_ALERT ≤ toSigned 16 (bits l 63 48)) then s.stick 28 else s

/-! ### Output entries (R157 to R160) -/

/-- Header of an entry (Table 6.4, Table 6.5). -/
def State.specHeader (s : State) (ch : Nat) (c : SpecChan) (stopped : Bool) : List Byte :=
  let p := ch / 2
  let fl := 16 * ofBool stopped + 8 * ofBool c.clipped + 4 * ofBool c.spare + 2 * ofBool c.dropNext + ofBool c.gap
  let w0 := c.count % 65536 + s.reg (K.SP_AVG_MODE p) * 2 ^ 18 + s.reg (K.SP_FMT p) * 2 ^ 20 + s.reg (K.SP_SRC p) * 2 ^ 21
    + s.reg (K.SP_OVL p) * 2 ^ 22 + s.reg (K.SP_WIN p) * 2 ^ 24 + s.reg (K.SP_LEN p) * 2 ^ 28 + fl * 2 ^ 32 + ch * 2 ^ 40 + 0x5350 * 2 ^ 48
  leBytes 8 w0 ++ leBytes 8 c.first ++ leBytes 8 (s.specStep ch % 65536 * 2 ^ 16 + c.seq % 2 ^ 32 * 2 ^ 32) ++ leBytes 8 0

/-- The values of an entry (R155). -/
def State.specValues (s : State) (ch : Nat) (c : SpecChan) : List Byte :=
  let p := ch / 2
  let mode := s.avgMode p
  if s.reg (K.SP_FMT p) = 0 then (c.acc.map fun x => leBytes 2 (ofSigned 16 (avgDb mode c.count x))).flatten
  else (c.acc.map fun x => leBytes 4 (avgLinear mode c.count x)).flatten

/-- Code of the master that writes a channel's entries (Table 9.3). -/
def State.specMaster (s : State) (p : Nat) : Nat := 0x20 + (match s.spareOf p with
  | some i => 24 + i
  | none => p)

/-- The unit is under test or handed over for one (R407, R408). -/
def State.underTest (s : State) (u : Nat) : Bool := s.reg K.BIST_STATE != 0 && s.spares.bist.unit == u

/-- The spare pipeline that serves next, if one is free. -/
def State.freePipe (s : State) : Option Nat := (List.range 2).find? fun j => s.reg (K.SP_STATE (24 + j)) == 0 && s.reg (K.SPARE_FOR j) == 255

/-- A free spare serves in the place of pipeline `i` (R183). -/
def State.pipeTake (s : State) (i : Nat) : State :=
  match s.freePipe with
  | some j => (s.put (K.SPARE_FOR j) i).put (K.SP_STATE i) (if s.underTest (0x40000 + i) then 3 else 4)
  | none => s

/-- The spare of pipeline `p` has computed a complete average in shadow: each channel that runs has closed the average in progress at the request, and one
more (R183). `from_` holds the sequence numbers of the channels' averages at the request; an average closed early by a stop counts as complete (DESIGN
CHOICE, log 50). -/
def State.shadowed (s : State) (p : Nat) (from_ : List Nat) : Bool :=
  ([2 * p, 2 * p + 1].zip from_).all fun q => !(s.spec1 q.1).on || decide (2 ≤ addWrap 32 (s.spec1 q.1).seq (2 ^ 32 - q.2))

/-- At an average boundary of pipeline `p`, the planned take-over of its duty happens once the spare has computed in shadow (R183). -/
def State.pipeBoundary (s : State) (p : Nat) : State :=
  match s.spares.planned.find? (·.1 == 0x40000 + p) with
  | some q =>
    if s.shadowed p q.2 && s.freePipe.isSome then
      { (s.count K.TAKEOVERS).pipeTake p with spares := { s.spares with planned := s.spares.planned.filter (·.1 != q.1) } }
    else s
  | none => s

/-- Closes the average of a channel (R157): its report, its map update, its mask test and its entry; an average with no spectrum is not written. An entry
that is dropped still gives its report, its update and its test (DESIGN CHOICE, log 50); the masks are those of its last spectrum's start (log 50). -/
def State.closeAverage (s : State) (ch : Nat) (stopped : Bool) : State :=
  let c := s.spec1 ch
  if c.count = 0 then s
  else
    let p := ch / 2
    let n := s.specN ch
    let db := (c.acc.map (avgDb (s.avgMode p) c.count)).toArray
    let lines := lineBlock (s.reg K.LINE_THR) n db
    let va := s.reg (K.SPEC_BASE ch) + c.seq % max 1 (s.reg K.SPEC_ENTRIES) * 65536
    let body := s.specValues ch c ++ (lines.map (leBytes 8)).flatten
    let space := s.reg K.SPEC_AS
    let m := s.specMaster p
    let grans := granulesOf m 2 space (va + 32) body (fun _ => .specBody ch) ++ granulesOf m 2 space va (s.specHeader ch c stopped) (fun _ => .specHeader ch)
    let fresh : SpecChan := { c with count := 0, first := 0, acc := [], clipped := false, gap := false, spare := false
                                     seq := addWrap 32 c.seq 1 }
    let s := if 2 ≤ c.waiting then (s.setSpec ch { fresh with dropNext := true }).count (K.SPEC_DROPPED ch)
      else (s.setSpec ch { fresh with dropNext := false, waiting := c.waiting + 1 }).enqueue grans
    let s := s.report ch c.seq lines
    let s := if s.reg (K.DENS_EN ch) = 2 then s.densTake ch n db c.first else s
    (s.maskTest ch 1 n db c.lastStart c.lastEnd c.first).pipeBoundary p

/-! ### One spectrum (R149 to R157) -/

/-- The samples of the spectrum that starts at `a`, in codes: ADC codes, or decimator words in 1/16 code (R150). -/
def State.specInput (s : State) (ch : Nat) (a : Int) : List Rat :=
  if s.reg (K.SP_SRC (ch / 2)) = 1 then ((s.spec1 ch).words.take (s.specN ch)).map fun w => (w.2 : Rat) / 16
  else (List.range (s.specN ch)).map fun i => (s.codeAt ch (a + i) : Rat)

/-- The value that every sample of a spectrum holds, when they are all the same (R155). -/
def constOf : List Rat → Option Rat
  | [] => none
  | x :: l => if l.all (· == x) then some x else none

/-- Values of the loaded custom window (R153). -/
def State.customWin (s : State) : List Nat :=
  let b := s.dom K.CUSTOM_WIN
  (List.range (b.length / 2)).map fun i => fieldAt b (2 * i) 2

/-- Coherent gain and ENBW of a pipeline's window: in closed form for the sums of cosines of Table 6.3, from the values for the Kaiser window and a custom
one (R151, R152). -/
def State.windowFigures (s : State) (p : Nat) : Rat × Rat :=
  let cosSum := fun (a0 : Rat) (l : List Rat) => (a0, (a0 * a0 + (l.map fun a => a * a / 2).foldl (· + ·) 0) / (a0 * a0))
  match s.reg (K.SP_WIN p) with
  | 0 => (1, 1)
  | 1 => cosSum (1 / 2) [1 / 2]
  | 2 => cosSum (35875 / 100000) [48829 / 100000, 14128 / 100000, 1168 / 100000]
  | 3 => cosSum (21557895 / 100000000) [41663158 / 100000000, 277263158 / 1000000000, 83578947 / 1000000000, 6947368 / 1000000000]
  | w => figuresOf (windowValues w (s.reg (K.SP_KBETA p)) s.customWin (s.specN (2 * p)))

/-- Least and greatest normalised power of a bin that the engine can form from samples `x`: the windowed transform within the noise of R154, normalised by
R155. -/
def State.binSpan (s : State) (ch : Nat) (x : List Rat) (b : Nat) : Rat × Rat :=
  let p := ch / 2
  let w := windowValues (s.reg (K.SP_WIN p)) (s.reg (K.SP_KBETA p)) s.customWin x.length
  let q := noiseSpan (binSquare x w b) (noiseSquare w)
  let k := normSquare x.length (s.windowFigures p).1
  (q.1 / k, q.2 / k)

/-- A raw sample of the spectrum is at an extreme code (Table 6.5). -/
def State.specClips (s : State) (ch : Nat) (a : Int) : Bool :=
  s.reg (K.SP_SRC (ch / 2)) != 1 && ((List.range (s.specN ch)).map fun i => s.codeAt ch (a + i)).any fun v => v == 2047 || v == -2048

/-- A free rational number held between two bounds. -/
def heldIn (lo hi : Rat) (f : Nat × Nat) : Rat := max lo (min hi ((f.1 : Rat) / ((f.2 + 1 : Nat) : Rat)))

/-- The normalised powers of a spectrum: zero for a silent one; a constant input c reads 20 log10(2c / 2,048) dBFS in bin 0 (R155); every other
power is free within the noise that R154 allows the engine (log 8). -/
def State.specPowers (s : State) (ch : Nat) (a : Int) : List Rat × State :=
  let x := s.specInput ch a
  let k := constOf x
  if k = some 0 then (List.replicate (s.specN ch / 2) 0, s)
  else
    let d := s.draw
    ((List.range (s.specN ch / 2)).map fun b => match k, b with
      | some c, 0 => c * c / 1048576
      | _, _ => heldIn (s.binSpan ch x b).1 (s.binSpan ch x b).2 (Config.binPower d.1 b), d.2)

/-- Last sample of the spectrum in progress; a spectrum of decimator words that are not all formed has none yet. -/
def State.specEnd (s : State) (ch : Nat) : Option Int :=
  let c := s.spec1 ch
  if s.reg (K.SP_SRC (ch / 2)) = 1 then (c.words[s.specN ch - 1]?).map (·.1) else some (c.next + ((s.specN ch - 1 : Nat) : Int))

/-- A spectrum of the channel ends in the present slot. -/
def State.specDue (s : State) (ch : Nat) : Bool :=
  let c := s.spec1 ch
  c.on && !c.waitWord && s.specServed ch && (s.specEnd ch).any fun e => decide (e < 11200)

/-- First sample of the next spectrum of the grid, and the words from it on. -/
def State.specHopOn (s : State) (ch : Nat) : Int × List (Int × Int) :=
  let c := s.spec1 ch
  let h := s.specHop ch
  if s.reg (K.SP_SRC (ch / 2)) = 1 then
    (((c.words[h]?).map (·.1)).getD (c.next + (h * s.specStep ch : Nat)), c.words.drop h)
  else (c.next + (h : Int), [])

/-- SPECTRUM_COMPLETE of a channel: the spectrum enters its average, density map and mask test; the average that is complete is written. -/
def State.specComplete (s : State) (ch : Nat) : State :=
  if !s.specDue ch then s
  else
    let c := s.spec1 ch
    let a := c.next
    let n := s.specN ch
    let last := (s.specEnd ch).getD a
    let on := s.specHopOn ch
    let stamp := s.stampAt a
    let pw := s.specPowers ch a
    let clip := s.specClips ch a
    let s := pw.2
    let c' : SpecChan := { c with
      next := on.1, words := on.2, lastStart := a, lastEnd := last, index := c.index + 1, count := c.count + 1
      first := if c.count = 0 then stamp else c.first
      acc := avgAdd (s.avgMode (ch / 2)) (c.count == 0) c.acc pw.1
      clipped := c.clipped || clip, spare := c.spare || s.specSpare ch }
    let s := s.setSpec ch c'
    let db := (pw.1.map powerDb).toArray
    let s := if s.reg (K.DENS_EN ch) = 1 then s.densTake ch n db stamp else s
    let s := s.maskTest ch 0 n db a last stamp
    if s.reg (K.SP_AVG_N (ch / 2)) ≤ c'.count then s.closeAverage ch false else s

/-- The channel of a pipeline whose spectrum ends next, before sample `upTo` of the present slot. -/
def State.specNext (s : State) (p : Nat) (upTo : Int) : Option Nat :=
  let due := fun ch => s.specDue ch && (s.specEnd ch).any fun e => decide (e < upTo)
  match due (2 * p), due (2 * p + 1) with
  | true, true => if (s.specEnd (2 * p + 1)).getD 0 < (s.specEnd (2 * p)).getD 0 then some (2 * p + 1) else some (2 * p)
  | true, false => some (2 * p)
  | false, true => some (2 * p + 1)
  | false, false => none

/-- Every spectrum of a pipeline that ends before sample `upTo` of the present slot, in order: its two channels share one grid (R146, R157). -/
def State.specFinish (s : State) (p : Nat) (upTo : Int) : Nat → State
  | 0 => s
  | k + 1 => match s.specNext p upTo with
    | some ch => (s.specComplete ch).specFinish p upTo k
    | none => s

/-! ### Starting and stopping (R162 to R167) -/

/-- Spectra of a channel that have begun by sample `at_` and have not ended; those of a decimated source begin with a word that is formed. -/
def State.specOpen (s : State) (ch : Nat) (at_ : Int) : Nat :=
  let c := s.spec1 ch
  let h := max 1 (s.specHop ch)
  if !c.on || c.waitWord || !s.specServed ch then 0
  else if s.reg (K.SP_SRC (ch / 2)) = 1 then (c.words.length + h - 1) / h
  else if c.next < at_ then ((at_ - c.next - 1) / (h : Int)).toNat + 1 else 0

/-- Stops one channel at a tick (R164): spectra in progress are discarded and counted, its average is closed, MASKV is released. -/
def State.specStopChan (s : State) (ch : Nat) (at_ : Int) : State :=
  if !(s.spec1 ch).on then s
  else
    let s := s.countBy (K.SPEC_DISCARDS ch) (s.specOpen ch at_)
    let s := s.closeAverage ch true
    let s := s.setSpec ch { s.spec1 ch with on := false, violations := [], words := [] }
    if s.regBit K.MASKV_NOW ch then (s.putBit K.MASKV_NOW ch false).sends { cc := at_ / 4, pos := ch, src := 3, on := false } else s

/-- Instant of the first VALID word of a channel's decimator at or after a sample, in the cadence in force (R211). -/
def State.validFrom (s : State) (ch : Nat) (a : Int) : Int :=
  match (s.dec.chans.getD ch {}).cads with
  | c :: _ =>
    let d : Int := (max 1 c.dec : Nat)
    c.at_ + max (((c.len : Int) + d - 1) / d) ((a - c.at_ + d) / d) * d - 1
  | [] => a

/-- The channels of a pipeline that it serves. -/
def State.pipeChans (s : State) (p : Nat) : List Nat := [2 * p, 2 * p + 1].filter s.specServed

/-- Where a grid of decimator words starts that may not start before `a`: at the first VALID word, for both channels of a dual pipeline at the later one's
(R146, R163). -/
def State.gridFrom (s : State) (p : Nat) (a : Int) : Int := ((s.pipeChans p).map fun ch => s.validFrom ch a).foldl max a

/-- Starts one channel at sample `at_` (R163): a decimated source waits for its first VALID word. The stride of a map with DENS_EN 1 counts from the grid
start; that of one with DENS_EN 2, of which the spec says no start, runs on (R168; DESIGN CHOICE, log 50). -/
def State.specStartChan (s : State) (ch : Nat) (at_ : Int) : State :=
  if s.specServed ch then
    let s := if s.reg (K.DENS_EN ch) = 1 then s.setDens ch { s.dens1 ch with stride := 0 } else s
    let words := s.reg (K.SP_SRC (ch / 2)) == 1
    s.setSpec ch { s.spec1 ch with
      on := true, waitWord := words, next := if words then s.gridFrom (ch / 2) at_ else at_, words := []
      index := 0, count := 0, first := 0, acc := [], clipped := false, gap := false, spare := false }
  else s

/-- Stops every channel; the maps freeze in place, so an entry that closes now swaps none (R164). -/
def State.specStopAll (s : State) (at_ : Int) : State :=
  ({ s with spec := { s.spec with running := false } }).forRange 48 fun s ch => s.specStopChan ch at_

/-- Starts every channel. -/
def State.specStartAll (s : State) (at_ : Int) : State :=
  { s.forRange 48 (fun s ch => (s.specStartChan ch at_).densBegin ch) with spec.running := true }

/-- The mode lets the engine run: SCAN-ANALYSE, SURVEY, or DEGRADED or SAFE-HOLD entered from one of those two (R162). -/
def State.specMode (s : State) : Bool :=
  let two := fun (m : Mode) => m == .scanAnalyse || m == .survey
  two s.mode || ((s.mode == .degraded || s.mode == .safeHold) && (if s.mode = s.spec.lastMode then s.spec.analysed else two s.spec.lastMode))

/-- What stops the engine, as SPEC_STATE names it, 1 when nothing does (R162, R165). No rule says when SPEC_STATE reads 0, off: here only before the first
tick, so an engine whose pipelines are all off reads 1 or its cause of stopping (DESIGN CHOICE, log 50). -/
def State.specCause (s : State) : Nat :=
  if !s.specMode then 2 else if 1 ≤ s.shedTick then 3 else if 1 ≤ s.reg K.THROT_STEP then 4 else if !s.locked then 5 else 1

/-- The engine at a tick, after the mode, the masks and the commits of the tick; sample positions are already those of the slot that starts. -/
def State.specTick (s : State) : State :=
  let an := s.specMode
  let s := { s with spec.analysed := an, spec.lastMode := s.mode }
  let k := s.specCause
  let s := s.put K.SPEC_STATE k
  if k = 1 then (if s.spec.running then s else s.specStartAll 0) else if s.spec.running then s.specStopAll 0 else s

/-- Sample positions at a tick: all move back by a slot. -/
def SpecChan.shift (c : SpecChan) : SpecChan :=
  { c with next := c.next - 11200, lastStart := c.lastStart - 11200, lastEnd := c.lastEnd - 11200, expire := c.expire - 11200
           words := c.words.map fun w => (w.1 - 11200, w.2), violations := c.violations.map fun v => (v.1 - 11200, v.2) }

/-- Every spectrum, swap of a map, violation and fall of MASKV that is still to come in the present slot (R149, R172, R178). -/
def State.specEndSlot (s : State) : State :=
  (s.forRange 24 fun s p => s.specFinish p 11200 800).forRange 48 fun s ch =>
    let s := s.densSwapStep ch
    let n := (s.spec1 ch).violations.length
    ((List.range n).foldl (fun s _ => (s.maskvFall ch).maskvRise ch) s).maskvFall ch

/-- The move of sample positions at a tick. -/
def State.specShift (s : State) : State :=
  let far : Int := -(16384 * 4096 + 11200)
  let vers := s.spec.masks.map fun m => { m with since := m.since - 11200 }
  let old := vers.find? fun m => decide (m.since ≤ far)
  { s with spec := { s.spec with
      chans := s.spec.chans.map SpecChan.shift, masks := vers.filter (fun m => decide (far < m.since)) ++ old.toList } }

/-- A grid of decimator words of a channel ends at sample `at_` and starts again at sample `g`: its open spectra are discarded, the average has a gap, and the
stride of its map counts anew (R167, R168). -/
def State.gridRestart (s : State) (ch : Nat) (at_ g : Int) : State :=
  let c := s.spec1 ch
  if !c.on then s
  else
    let n := s.specOpen ch at_
    let s := if s.reg (K.DENS_EN ch) = 1 then s.setDens ch { s.dens1 ch with stride := 0 } else s
    (s.countBy (K.SPEC_DISCARDS ch) n).setSpec ch { c with waitWord := true, next := g, words := [], gap := c.gap || n != 0 }

/-- A decimator of a channel was reset at sample `at_`: the grid of its pipeline, which both channels of a dual pipeline share, restarts at the first VALID word
of the new cadence (R146, R167). -/
def State.specDecReset (s : State) (ch : Nat) (at_ : Int) : State :=
  let p := ch / 2
  if s.reg (K.SP_SRC p) = 1 ∧ ch ∈ s.pipeChans p then (s.pipeChans p).foldl (fun s c => s.gridRestart c at_ (s.gridFrom p at_)) s else s

/-- A VALID word with value `v` of the channel's decimator at a sample: a grid that waits for it starts there (R163, R167), and a spectrum that has all its words
is complete. -/
def State.specWord (s : State) (ch : Nat) (i v : Int) : State :=
  let c := s.spec1 ch
  if !c.on || s.reg (K.SP_SRC (ch / 2)) != 1 || (c.waitWord && decide (i < c.next)) then s
  else
    let s := s.setSpec ch (if c.waitWord then { c with waitWord := false, next := i, words := [(i, v)] } else { c with words := c.words ++ [(i, v)] })
    s.specComplete ch

/-! ### Reported rates (R161, R174) -/

/-- Samples per second: PLL A's N times 50 MHz (R10, R315). -/
def State.sampleHz (s : State) : Rat := ((50000000 * s.reg K.PLLA_N : Nat) : Rat)

/-- Output rate of a channel in bytes per second (R161). -/
def State.specRate (s : State) (ch : Nat) : Rat :=
  let b := if s.reg (K.SP_FMT (ch / 2)) = 0 then 2 else 4
  ((96 + s.specN ch / 2 * b : Nat) : Rat) * ((s.sampleHz / (s.specStep ch : Rat)) / (s.specHop ch : Rat)) / ((max 1 (s.reg (K.SP_AVG_N (ch / 2))) : Nat) : Rat)

/-- Output rate of all served channels. -/
def State.specOutRate (s : State) : Rat := (((List.range 48).filter s.specServed).map s.specRate).foldl (· + ·) 0

/-- Updates per second of a map (R174). -/
def State.densRate (s : State) (ch : Nat) : Rat :=
  let spectra := (s.sampleHz / (s.specStep ch : Rat)) / (s.specHop ch : Rat)
  let st : Rat := ((max 1 (s.reg (K.DENS_STRIDE ch)) : Nat) : Rat)
  if !s.specServed ch then 0
  else match s.reg (K.DENS_EN ch) with
    | 1 => spectra / st
    | 2 => spectra / ((max 1 (s.reg (K.SP_AVG_N (ch / 2))) : Nat) : Rat) / st
    | _ => 0

/-- Cells per second of all maps. -/
def State.densLoad (s : State) : Rat := ((List.range 48).map fun ch => 1024 * s.densRate ch).foldl (· + ·) 0

end Sys2Proof.Machine
end

