-- ==== Sys2Proof/Machine/Decimators.lean ====
section
/-! DEFINITION. The moving-average decimators (R210 to R218): words, cadences, resets and what the users of a word make of it. -/

namespace Sys2Proof.Machine

/-- One decimator. -/
def State.dec1 (s : State) (ch : Nat) : Decim := s.dec.chans.getD ch {}

/-- Replaces one decimator. -/
def State.setDec (s : State) (ch : Nat) (d : Decim) : State := { s with dec := { s.dec with chans := setAt {} s.dec.chans ch d } }

/-- The next instant of a channel relative to the present slot, with its number and its cadence (R211). -/
def State.nextInstant (s : State) (ch : Nat) : Option (Int × Nat × Cadence) :=
  match (s.dec1 ch).cads with
  | c :: _ =>
    let j := (s.dec1 ch).done + 1
    if s.dec.running then some (c.at_ + (j * c.dec : Nat) - 1, j, c) else none
  | [] => none

/-- The value over the `len` samples up to sample `i` (R210). -/
def State.decSum (s : State) (ch len : Nat) (i : Int) : Int :=
  rheDiv (16 * sumInt ((List.range len).map fun k => s.codeAt ch (i - (k : Int)))) len

/-- A VALID word of a selected channel in a format 2 capture is formed (R197, R198); it is staged once the trigger engine has judged the ccs before it. -/
def State.capTake (s : State) (ch : Nat) (i v : Int) : State :=
  let c := s.cap
  if s.capOn && s.capWords && decide (c.origin ≤ i) && s.capChans.contains ch then
    let d := ((s.dec1 ch).cads.head?.map (·.dec)).getD 1
    let c := if (c.word0.getD ch none).isNone then { c with word0 := setAt none c.word0 ch (some (i - c.origin)), decs := setAt 1 c.decs ch d } else c
    s.setCap { c with formed := c.formed ++ [(ch, i - c.origin, v)] }
  else s

/-- DECIMATION_INSTANT of a channel: the word of the next instant, when it lies in the present slot, reaches its users (R211, R212). -/
def State.decWord (s : State) (ch : Nat) : State :=
  match s.nextInstant ch with
  | some (i, j, c) =>
    if i < 11200 then
      let s := s.setDec ch { s.dec1 ch with done := j }
      if c.len ≤ j * c.dec then
        let v := s.decSum ch c.len i
        let s := (s.putI 16 (K.DEC_LAST ch) v).put (K.DEC_STATE ch) 2
        ((s.specWord ch i v).capTake ch i v).streamWord ch i (some v)
      else s.streamWord ch i none
    else s
  | none => s

/-- The instants of a channel that lie before sample `upTo` of the present slot. -/
def State.decUntil (s : State) (ch : Nat) (upTo : Int) : Nat → State
  | 0 => s
  | n + 1 => match s.nextInstant ch with
    | some (i, _, _) => if i < min upTo 11200 then (s.decWord ch).decUntil ch upTo n else s
    | none => s

/-- The channel of a pair whose next instant comes first, when it lies before a sample. -/
def State.decFirst (s : State) (p : Nat) (upTo : Int) : Option Nat :=
  let at_ := fun ch => (s.nextInstant ch).bind fun x => if x.1 < min upTo 11200 then some x.1 else none
  match at_ (2 * p), at_ (2 * p + 1) with
  | some a, some b => if b < a then some (2 * p + 1) else some (2 * p)
  | some _, none => some (2 * p)
  | none, some _ => some (2 * p + 1)
  | none, none => none

/-- The instants of the two channels of a pipeline before a sample, in order: the spectra that their words complete share one grid (R146, R212). -/
def State.decPair (s : State) (p : Nat) (upTo : Int) : Nat → State
  | 0 => s
  | n + 1 => match s.decFirst p upTo with
    | some ch => (s.decWord ch).decPair p upTo n
    | none => s

/-- Every instant of all channels before a sample. -/
def State.decAll (s : State) (upTo : Int) : State := s.forRange 24 fun s p => s.decPair p upTo 22400

/-- The decimators of some channels reset at sample `r` of the present slot (R211, R213, R217): users see the end of the old cadence. A capture of
decimated words ends with RESYNC (R201), a decimated spectrum grid restarts (R167), a stream ends its packet (R267). -/
def State.decReset (s : State) (l : List Nat) (r : Int) : State :=
  let s := s.decAll r
  let s := if s.capOn && s.capWords && s.capChans.any l.contains then
      (s.trigUpTo (r / 4)).capEndBefore .resync (r - s.cap.origin)
    else s
  let t := s.stampAt r
  let s := s.forEach l fun s ch =>
    let c : Cadence := { at_ := r, len := max 1 (s.reg (K.DEC_L ch)), dec := max 1 (s.reg (K.DEC_D ch)) }
    let s := s.setDec ch { cads := c :: ((s.dec1 ch).cads.filter fun x => decide (x.at_ < r)), done := 0 }
    ((s.put (K.DEC_RESET_LAST ch) t).put (K.DEC_STATE ch) 1).specDecReset ch r
  s.streamsReset l r

/-- A reset of all decimators from SYNC_IN or DEC_SYNC: counted once per reset sample (R217). -/
def State.decSyncReset (s : State) (r : Int) : State :=
  let t := s.stampAt r
  ((s.tally K.SYNC_COUNT).put K.SYNC_LAST t).decReset (List.range 48) r

/-- DECIMATOR_RESET: the reset sample that an edge on SYNC_IN set, once it lies in the present slot (R213, R214). -/
def State.decResetDue (s : State) : State :=
  match s.dec.syncReset with
  | some r => if r < 11200 then ({ s with dec := { s.dec with syncReset := none } }).decSyncReset r else s
  | none => s

/-- A reset that an edge set for a sample at or before `i` comes first (R213). -/
def State.resetBefore (s : State) (i : Int) : State := if s.dec.syncReset.any fun r => decide ((r : Int) ≤ i) then s.decResetDue else s

/-- DECIMATION_INSTANT: the next instant of a channel; a reset that lies before it discards it, and the new cadence's next instant comes (R211, R213). -/
def State.decInstant (s : State) (ch : Nat) : State :=
  match s.nextInstant ch with
  | some (i, _, _) => (s.resetBefore i).decWord ch
  | none => s

/-- Instant of the last word of the spectrum in progress of a channel that analyses its decimator's words. -/
def State.wordsEnd (s : State) (ch : Nat) : Int :=
  let d := ((s.dec1 ch).cads.head?.map (·.dec)).getD 1
  (s.spec1 ch).next + ((s.specN ch - 1) * d : Nat)

/-- DECIMATED_PACKET_READY: the packet in assembly completes in the present slot, by the words that come before its end; a reset before that ends it short
(R266, R267). -/
def State.decPacketReady (s : State) (n : Nat) : State :=
  let x := s.stream n
  let p := decInstants x.words.length
  match s.nextInstant ((s.streamChans n).headD 48) with
  | some (i, _, c) =>
    let last : Int := i + ((p - (x.words.headD []).length - 1) * c.dec : Nat)
    if x.running && s.streamType n == 2 && decide (x.whole < p) && decide (last < 11200) then
      let s := s.resetBefore last
      (s.decAll (last + 1)).decReady n
    else s.decReady n
  | none => s.decReady n

/-- SPECTRUM_COMPLETE: the spectrum in progress ends. One of decimator words ends with its last word, which comes by the words before it (R150, R167). -/
def State.specEnds (s : State) (ch : Nat) : State :=
  if s.reg (K.SP_SRC (ch / 2)) = 1 then
    let s := s.resetBefore (s.wordsEnd ch)
    s.decUntil ch (s.wordsEnd ch + 1) 11200
  else s.specComplete ch

/-- SYNC_IN_EDGE: an edge first seen at the start of cc `cc` of the present slot (R214); while PLL A is unlocked, SYNC_IN is not sampled. -/
def State.syncEdge (s : State) (rising : Bool) (cc : Nat) : State :=
  if !s.dec.running ∨ !s.lockedA ∨ s.reg K.REF_STATE ≠ 1 then s
  else
    let d := s.dec
    let short := d.lastEdge.any fun e => decide ((cc : Int) - e < 2)
    let soon := d.lastTaken.any fun e => decide ((cc : Int) - e < 16)
    let s := { s with dec := { d with lastEdge := some cc } }
    let mode := s.reg K.SYNC_IN_MODE
    if (mode = 1 ∧ rising) ∨ (mode = 2 ∧ !rising) then
      if short || soon then s.count K.SYNC_IGNORED
      else
        let s := s.decResetDue
        { s with dec := { s.dec with lastTaken := some cc, syncReset := some (4 * (cc + 4)) } }
    else s

/-- A write of 1 to DEC_SYNC (R215). -/
def State.decSync (s : State) (cc : Nat) : State :=
  if s.dec.syncTicks = 0 then { s with dec := { s.dec with syncTicks := ticksAfter cc } } else s

/-- The decimators stop at the tick that starts the first slot of lock loss, or with the core die's supply (R218). -/
def State.decStop (s : State) : State :=
  if s.dec.running then
    let s := { s with dec := { s.dec with running := false, chans := List.replicate 48 {}, syncReset := none, lastEdge := none, lastTaken := none } }
    s.forRange 48 fun s ch => s.put (K.DEC_STATE ch) 0
  else s

/-- All decimators reset at sample 0 of the slot that starts: at the first lock and at each return of lock (R218). -/
def State.decStart (s : State) : State :=
  ({ s with dec := { s.dec with running := true, lastEdge := none, lastTaken := none, syncReset := none } }).decReset (List.range 48) 0

/-- Instants and resets of the slot that ends (R211 to R214). -/
def State.decEndSlot (s : State) : State := s.decResetDue.decAll 11200

/-- Positions move back by a slot; only the cadence in force at the start of the slot that begins stays of those that began before. -/
def Decim.shift (d : Decim) : Decim :=
  let l := d.cads.map fun c => { c with at_ := c.at_ - 11200 }
  { d with cads := (l.filter fun c => decide (0 ≤ c.at_)) ++ (l.filter fun c => decide (c.at_ < 0)).take 1 }

/-- See `Decim.shift`. -/
def State.decShift (s : State) : State :=
  let d := s.dec
  { s with dec := { d with
      chans := d.chans.map Decim.shift, syncReset := d.syncReset.map (· - 11200)
      lastEdge := d.lastEdge.map (· - 2800), lastTaken := d.lastTaken.map (· - 2800) } }

/-- DEC_SYNC at a tick (R215): a request whose tick falls in lock loss does nothing of its own. -/
def State.decSyncTick (s : State) : State :=
  let t := s.dec.syncTicks
  let s := { s with dec := { s.dec with syncTicks := t - 1, syncReset := if t = 1 && s.dec.syncReset == some 0 then none else s.dec.syncReset } }
  if t = 1 && s.dec.running then s.decSyncReset 0 else s

/-- Channels whose L or D a CG13 activation changes, given the registers before it (R216): they reset at sample 0 of the slot that starts, `at_`
counted from the present slot. Where that slot is one of lock loss, the decimators are stopped and nothing resets. -/
def State.decCommit (s : State) (before : List (Nat × Nat)) (at_ : Int) : State :=
  if s.dec.running && (if at_ = 0 then s.locked else s.lockedA) then
    let l := (List.range 48).filter fun ch =>
      s.reg (K.DEC_L ch) != regOf before (K.DEC_L ch) || s.reg (K.DEC_D ch) != regOf before (K.DEC_D ch)
    if l.isEmpty then s else s.decReset l at_
  else s

end Sys2Proof.Machine
end

