-- ==== Sys2Proof/Machine/Clocks.lean ====
section
/-! DEFINITION. Chapter 12: the reference, the lock detectors of the PLLs, lock loss and its return, and the clock outputs. -/

namespace Sys2Proof.Machine

def State.setClk (s : State) (c : Clocks) : State := { s with clk := c }

/-- Detector of PLL A (`b` false) or PLL B. -/
def State.pll (s : State) (b : Bool) : Pll := if b then s.clk.b else s.clk.a

def State.setPll (s : State) (b : Bool) (p : Pll) : State := s.setClk (if b then { s.clk with b := p } else { s.clk with a := p })

/-- STATE, DIFF, LOSSES and LOSS_LAST of a PLL. -/
def pllState (b : Bool) : Nat := if b then K.PLLB_STATE else K.PLLA_STATE
def pllDiff (b : Bool) : Nat := if b then K.PLLB_DIFF else K.PLLA_DIFF
def pllLosses (b : Bool) : Nat := if b then K.PLLB_LOSSES else K.PLLA_LOSSES
def pllLossLast (b : Bool) : Nat := if b then K.PLLB_LOSS_LAST else K.PLLA_LOSS_LAST

/-- REFCLK is present (R314). -/
def State.refPresent (s : State) : Bool := s.reg K.REF_STATE == 1

/-- Both PLLs start (R452 step 3, R318). -/
def State.pllStart (s : State) : State :=
  ((s.setClk { s.clk with a := {}, b := {}, restarted := false }).put K.PLLA_STATE 1).put K.PLLB_STATE 1

/-- Both PLLs stop with the receiver die (R459, R430). -/
def State.pllStop (s : State) : State :=
  ((s.setClk { s.clk with a := {}, b := {}, restarted := false, slotLocked := false }).put K.PLLA_STATE 0).put K.PLLB_STATE 0

/-- Clock outputs whose source is PLL B hold low once its lock is lost (R326). -/
def ClkOut.loseB (i : Nat) (o : ClkOut) : ClkOut := if i = 1 && o.src == 1 then { o with held := true, phase := none } else o

/-- A declaration of lock loss with its stamp (R318, R320, R260). Nothing where the PLL was not locked. -/
def State.pllLostAt (s : State) (b : Bool) (stamp : Nat) : State :=
  if s.reg (pllState b) ≠ 2 then s
  else
    let s := ((s.put (pllState b) 3).count (pllLosses b)).put (pllLossLast b) stamp
    let s := s.setPll b { s.pll b with good := 0 }
    if b then (s.setClk { s.clk with outs := s.clk.outs.mapIdx ClkOut.loseB }).linkFault 3
    else s.setClk { s.clk with restarted := false }

/-- The same at a cc of the present slot. -/
def State.pllLost (s : State) (b : Bool) (cc : Nat) : State := s.pllLostAt b (s.stampCc cc)

/-- PLL_WINDOW_END: a detector window ends with difference `d` at a cc of the present slot (R318, R319, R323). -/
def State.pllWindow (s : State) (b : Bool) (d : Int) (cc : Nat) : State :=
  if s.reg (pllState b) = 0 ∨ !s.refPresent then s
  else
    let s := s.putI 16 (pllDiff b) d
    let p := s.pll b
    if p.skip then s.setPll b { p with skip := false, good := 0 }
    else if s.reg (pllState b) = 2 then
      if 8 < d.natAbs then s.pllLost b cc else s
    else
      let good := if d.natAbs ≤ 2 then p.good + 1 else 0
      if good = 4 then
        let s := (s.setPll b { p with good := 0 }).put (pllState b) 2
        if b then s else s.setClk { s.clk with declared := true }
      else s.setPll b { p with good := good }

/-- PLL_FAIL_TIMEOUT: 10 ms without lock since the start (R319). Without REFCLK no tick measures the time, and the event itself says that
it has passed. -/
def State.pllFail (s : State) (b : Bool) : State :=
  if s.reg (pllState b) = 1 && (decide (5000 ≤ (s.pll b).ticks) || !s.refPresent) then
    let s := s.put (pllState b) 4
    if b then s.putBit K.BOOT_STATUS 8 true else s
  else s

/-- REFCLK_LOSS (R314, R326). -/
def State.refLoss (s : State) (cc : Nat) : State :=
  if !s.refPresent then s
  else
    let s := ((s.put K.REF_STATE 0).count K.REF_LOSSES)
    let s := (s.pllLost false cc).pllLost true cc
    let s := { s with pipe := { s.pipe with caught := false } }
    s.setClk { s.clk with a := { s.clk.a with good := 0, skip := false }, b := { s.clk.b with good := 0, skip := false }
                          outs := s.clk.outs.map fun o => { o with held := true, phase := none } }

/-- REFCLK_RETURN: the PLLs acquire again and the CAN clock runs (R314, R327). Every clock output stays held until its PLL has locked (R326). -/
def State.refReturn (s : State) : State := if s.refPresent then s else s.put K.REF_STATE 1

/-- LOCKED_TICK_RESUME: the dividers restart in phase with the 200-cycle boundary at which the next tick falls (R321). -/
def State.tickResume (s : State) : State :=
  if s.lockedA && !s.clk.slotLocked then s.setClk { s.clk with restarted := true } else s

/-! ### Clock outputs (R324 to R326) -/

/-- Source periods in a slot for the sources of CLKOUT0 that PLL A makes and for REFCLK (Table 12.4, R8). -/
def periodsPerSlot : Nat → Nat
  | 0 => 200
  | 1 => 2800
  | _ => 11200

/-- Source of an output runs. -/
def State.sourceRuns (s : State) (i : Nat) (o : ClkOut) : Bool :=
  s.refPresent && (o.src == 0 || (if i = 1 then s.lockedB else s.clk.slotLocked))

/-- Mode in which the clock outputs may drive (R326). -/
def Mode.clocksOut : Mode → Bool
  | .selfTest | .standby => true
  | m => m.isRunning

/-- What the balls of a clock output do (R326). -/
def State.clkLevel (s : State) (i : Nat) : ClkLevel :=
  let o := s.clk.outs.getD i {}
  if !s.mode.clocksOut ∨ !o.en then .highZ else if o.held ∨ !s.sourceRuns i o then .low else .running

/-- CLKOUT_RECONFIG: an output takes its committed setting at the first rising edge of its source (R324). With PLL A as its source the divider
restarts at the activation tick. An output that is held low stays so until the tick at which R326 restarts it. -/
def State.clkReconfig (s : State) (i : Nat) : State :=
  let o := s.clk.outs.getD i {}
  if !o.due || o.fresh then s
  else
    let src := s.reg (K.CLK_SRC i)
    let n : ClkOut := { en := s.reg (K.CLK_EN i) == 1, src := src, fmt := s.reg (K.CLK_FMT i), div := s.reg (K.CLK_DIV i) }
    let runs := s.sourceRuns i n
    let held := !runs || (o.held && o.en)
    let n := { n with held := held, phase := if i = 0 && src != 0 && !held then some 0 else none }
    s.setClk { s.clk with outs := setAt {} s.clk.outs i n }

/-- Activation of CG16 or CG17 (R322 to R324) at the tick stamped `t`; `before` are the registers in force before it. PLL A is declared unlocked at the tick
when its N changes, and the window in progress does not count. -/
def State.clkCommit (s : State) (before : List (Nat × Nat)) (t : Nat) : State :=
  let changed := fun k => regOf before k != s.reg k
  let s := s.forRange 2 fun s i =>
    if changed (K.CLK_EN i) || changed (K.CLK_SRC i) || changed (K.CLK_FMT i) || changed (K.CLK_DIV i) then
      s.setClk { s.clk with outs := setAt {} s.clk.outs i { s.clk.outs.getD i {} with due := true, fresh := true } }
    else s
  if changed K.PLLA_N && s.reg K.PLLA_STATE != 0 then
    let s := s.pllLostAt false t
    { s.setPll false { s.pll false with good := 0, skip := true } with clk.slotLocked := false }
  else s

/-- Each output at a tick: a known phase moves by a slot of source periods; a held output restarts with a full period, CLKOUT0 at the first locked tick and
CLKOUT1 at the first tick after PLL B's lock, whatever its source (R324, R326). -/
def State.outTick (s : State) (first : Bool) (i : Nat) : State :=
  let o := s.clk.outs.getD i {}
  let o' : ClkOut :=
    if o.src ≠ 0 && i == 0 && first then { o with held := false, phase := some 0 }
    else if o.src ≠ 0 && i == 0 && !s.clk.slotLocked then { o with held := true, phase := none }
    else if o.held && (if i = 1 then s.lockedB else first) then { o with held := false, phase := none }
    else { o with phase := o.phase.map fun p => (p + periodsPerSlot o.src) % max 1 o.div }
  s.setClk { s.clk with outs := setAt {} s.clk.outs i o' }

/-- The clocks at a slot tick (R11, R25, R320, R321): whether the slot that starts is one of lock loss, the slot counter's value, and the
clock outputs. -/
def State.clkTick (s : State) : State :=
  let first := s.lockedA && !s.clk.slotLocked
  let count := s.counting || s.lockedA || s.clk.declared
  let s := { s with slot := if s.counting then (s.slot + 1) % 2 ^ 64 else 0, counting := count }
  let up := fun (p : Pll) => { p with ticks := min 5000 (p.ticks + 1) }
  let s := s.setClk { s.clk with slotLocked := s.lockedA, restarted := s.lockedA, a := up s.clk.a, b := up s.clk.b }
  s.forRange 2 fun s i => s.outTick first i

/-- Once the slot has begun, a setting committed for its tick waits for its source's edge (R324). -/
def State.clkBegun (s : State) : State := s.setClk { s.clk with outs := s.clk.outs.map fun o => { o with fresh := false } }

end Sys2Proof.Machine
end

