-- ==== Sys2Proof/Machine/Guard.lean ====
section
/-! DEFINITION. The rest of chapter 15: measured energy, permit tests, INHIBIT_N, urgent conversions, the seal, the straps and the DEGRADED
budget. -/

namespace Sys2Proof.Machine

def State.setB (s : State) (b : EnsignB) : State := { s with ensB := b }

/-! ### Measured energy (R380) -/

/-- Energies of the fires released in the present slot for the emitters of group `g`. -/
def State.groupReleased (s : State) (g : Nat) : List (Nat × Rat) := s.ensB.released.filter fun p => p.1 / 4 == g

/-- Measured energy of a charge in pC by the sealed polynomial of PEMg, in 0.1 nJ, clamped at 0. -/
def State.pemEnergy (s : State) (g : Nat) (x : Rat) : Rat :=
  let pats := (List.range 12).map fun n => s.inForce (K.PEM_COEF g n)
  match f32Value (polyPattern pats (ratToF32 x) (ratToF32 s.ens.lastT)) with
  | some m => max m 0
  | none => max 0 (Config.unstated "PEM" (pats.map fun (p : Nat) => (p : Int)) : Rat)

/-- The energy check of one sample (R380): the cause it raises and what it adds to the window sums. -/
def State.pemCheck (s : State) (g : Nat) (x : Rat) (clipped : Bool) : State :=
  let l := s.groupReleased g
  let n := (l.map (·.2)).foldl (· + ·) 0
  let m := s.pemEnergy g x
  let dark : Rat := (s.inForce K.EDARK_MAX : Nat)
  let s := if clipped then s.violate (if 0 < n then 0 else 1) 1087
    else if n = 0 ∧ dark < m then s.violate 1 1087
    else if n * (s.inForce K.EMEAS_MAX : Nat) / 256 + dark < m then s.violate 0 1087
    else s
  -- a share of no energy is 0 / 0, for which the spec states no value (log 54)
  s.forEach l fun s p => s.charge p.1 (max 0 (if n = 0 then Config.unstated "PEM_SHARE" [(p.1 : Int)] else m * p.2 / n - p.2))

/-! ### INHIBIT_N (R383) -/

/-- INHIBIT_FALL: fires stop, pulses end and the permits go off. -/
def State.inhibitFall (s : State) : State :=
  let s := s.count K.INHIBIT_COUNT
  ((s.setB { s.ensB with inhibitLow := true, inhibited := true }).put K.INHIBIT_STATE 1).suppressAll

/-- INHIBIT_RELEASE: INHIBIT_N has been high for 10 µs. -/
def State.inhibitRelease (s : State) : State := (s.setB { s.ensB with inhibitLow := false, inhibited := false }).put K.INHIBIT_STATE 0

/-! ### Permits (R384 to R387) -/

/-- Level a permit drives. -/
def State.permitLevel (s : State) (b : Bool) : Bool :=
  let n := s.ensB
  let low := n.testLow && (match n.test with
    | some .a => !b
    | some .b => b
    | none => false)
  (if b then n.permitB else n.permitA) && !low

/-- A feedback stands at `level` once its time to follow is over (R384). -/
def State.feedback (s : State) (b level : Bool) : State :=
  let s := s.setB (if b then { s.ensB with fbB := level } else { s.ensB with fbA := level })
  if level == s.permitLevel b then s else s.violateNow 6

/-- PERMIT_TEST_START: the permit under test goes low. -/
def State.testStart (s : State) : State :=
  match s.ensB.test with
  | some p => if s.ensB.testLow then s else
      s.setB { s.ensB with testLow := true, fbA := s.ensB.fbA && p != .a, fbB := s.ensB.fbB && p != .b }
  | none => s

/-- PERMIT_TEST_END: the off-pulse is over and the feedback judged; the window of a passed test lasts to the end of its slot (R385, R387). -/
def State.testEnd (s : State) (pass : Bool) : State :=
  match s.ensB.test with
  | some p =>
    if !s.ensB.testLow then s
    else
      let passes := s.reg K.TP_PASS
      let s := s.setB { s.ensB with test := none, testLow := false, fbA := s.ensB.fbA || p == .a, fbB := s.ensB.fbB || p == .b }
      let s := s.put K.TP_NEXT (1 - s.reg K.TP_NEXT)
      if pass then (s.count K.TP_PASS).setB { s.ensB with passed := some passes } else ((s.count K.TP_FAIL).stick 27).violateNow 6
  | none => s

/-- FORCED_TEST_DUE: 100 ms pass without a test (R386). -/
def State.forcedTest (s : State) : State :=
  if s.ensB.permitA && s.ensB.permitB && decide (100000 ≤ s.ensB.sinceTest + 2) then s.setB { s.ensB with forcedDue := true } else s

/-! ### Urgent conversions (R388) -/

/-- Compares an urgent result with the service conversion of the same slot, both in 2.5 mV. -/
def State.urgentCompare (s : State) (v : Int) : State :=
  if 8 * s.inForce K.VLAS_MAX < 100 * (v - s.res.vlas).natAbs then s.violateNow 9 else s.clearCause 10

/-- An urgent conversion of Ensign has completed. -/
def State.urgentTaken (s : State) (code : Int) : State :=
  let s := s.setB { s.ensB with urgentWait := false, sinceUrgent := 0 }
  if s.ensB.lasDone then s.urgentCompare code else s.setB { s.ensB with urgentVal := some code }

/-- The service conversion of LAS_VS (R78, R388). -/
def State.lasService (s : State) (code : Int) : State :=
  if s.ensB.lasDone then s
  else
    let s := { s.put K.VLAS_MEAS (vlasOf code) with res := { s.res with vlas := code } }
    let s := { s with res := { s.res with overRun := if s.resOver then s.res.overRun + 1 else 0 } }
    let s := s.resFault code
    let s := s.setB { s.ensB with lasDone := true }
    match s.ensB.urgentVal with
    | some v => (s.setB { s.ensB with urgentVal := none }).urgentCompare v
    | none => s

/-- URGENT_COMPLETE. -/
def State.urgentComplete (s : State) (r : HkReading) : State :=
  let p := s.urgentDone r
  match p.2 with
  | some code => p.1.urgentTaken code
  | none => p.1

/-- ENSIGN_URGENT_REQUEST: once every 10 ms, and again at each following slot while it is refused. -/
def State.urgentRequest (s : State) : State :=
  let b := s.ensB
  if !s.hk.on || b.requested || !(b.urgentRetry || decide (5000 ≤ b.sinceRequest + 1)) then s
  else
    let due := decide (5000 ≤ b.sinceRequest + 1)
    let b := { b with requested := true, sinceRequest := if due then 0 else b.sinceRequest }
    if s.urgentRoom then (s.setB { b with urgentRetry := false, urgentWait := true }).urgentPush { ensign := true, input := 8, range := 0 }
    else (s.setB { b with urgentRetry := true }).count K.URGENT_REFUSED

/-- ENSIGN_URGENT_TIMEOUT: no request has completed for 20 ms. -/
def State.urgentTimeout (s : State) : State :=
  if s.hk.on && decide (10000 ≤ s.ensB.sinceUrgent + 1) && !s.regBit K.SH_CAUSE 10 then s.violateNow 10 else s

/-! ### The seal (R389 to R392) -/

/-- Loads a seal image into the RWS objects. -/
def State.sealLoad (s : State) (b : List Byte) : State :=
  (sealKeys.foldl (fun (p : State × List Byte) k => (p.1.put k.1 (ofLe (p.2.take k.2)), p.2.drop k.2)) (s, b)).1

/-- SEAL_CRC_CHECK: each channel recomputes the CRC of its copy; `upset` says that a copy has changed since it was loaded (R392). -/
def State.sealCheck (s : State) (upset : Bool) : State :=
  if s.reg K.SEAL_STATE = 0 then s
  else if upset ∨ crc32 s.sealImage ≠ s.reg K.SEAL_CRC then (s.put K.SEAL_STATE 2).violateNow 7 else s

/-- SEAL_PROGRAM: an accepted record's value (R391). VIN below 18 V is judged by the newest VIN reading. -/
def State.sealProgram (s : State) (v : Nat) : State := { s.put K.SEAL_RESULT 1 with sealed := { s.sealed with request := some v } }

/-- SEAL_PROGRAM_DONE: the result; each fuse row that failed to verify is replaced by a spare row while there are enough (R391, Table 16.4). -/
def State.sealDone (s : State) (e : FuseEnd) : State :=
  match s.sealed.request with
  | none => s
  | some v =>
    let s := { s with sealed := { s.sealed with request := none } }
    let crc := crc32 s.sealImage
    if s.sealed.blown then s.put K.SEAL_RESULT 6
    else if v ≠ crc then s.put K.SEAL_RESULT 3
    else if e.vinLow then s.put K.SEAL_RESULT 4
    else if 16 < s.fuses.rowsUsed + e.rows then { s with fuses := { s.fuses with rowsUsed := 16 } }.put K.SEAL_RESULT 5
    else
      let s := { s with fuses := { s.fuses with rowsUsed := s.fuses.rowsUsed + e.rows } }
      let s := { s with sealed := { s.sealed with fuseImage := s.sealImage, fuseCrc := crc, blown := true } }
      ((s.put K.SEAL_RESULT 2).put K.SEAL_STATE 1).put K.SEAL_CRC crc

/-! ### The straps (R393 to R395) -/

/-- Code of a strap that reads `r` ohms, none between the bands of Table 15.4. -/
def strapBand (r : Nat) : Option Nat :=
  if r < 1000 then some 0
  else if 330000 < r then some 7
  else ([(1900, 2500), (4100, 5400), (8700, 11500), (19000, 25000), (41000, 54000), (87000, 115000)].findIdx?
    fun (b : Nat × Nat) => decide (b.1 ≤ r ∧ r ≤ b.2)).map (· + 1)

/-- Reading of strap `i`, in ohms; nothing at the ball is an open strap. -/
def strapAt (l : List Nat) (i : Nat) : Nat := l.getD i 1000000

/-- Code of a strap; the spec gives one that reads between the bands none (log 54). -/
def strapCode (i r : Nat) : Nat := ((strapBand r).getD ((Config.unstated "STRAP" [(i : Int)]).toNat)) % 8

/-- The four codes in 12 bits, S0 lowest. -/
def strapWord (l : List Nat) : Nat := sumNat ((List.range 4).map fun i => strapCode i (strapAt l i) * 8 ^ i)

/-- The check of R394. -/
def strapCheck (w : Nat) : Bool := bits w 11 9 == (bits w 2 0 + 3 * bits w 5 3 + 5 * bits w 8 6 + 1) % 8

/-- What a reading of the straps leads to (R395). -/
def State.strapJudge (s : State) (l : List Nat) : State :=
  let w := strapWord l
  let s := s.put K.STRAP_READ w
  if (List.range 4).any (fun i => (strapBand (strapAt l i)).isNone) ∨ !strapCheck w ∨ w ≠ s.reg K.STRAP_BOOT then (s.onlyIf s.mode.coreRuns fun s => s.stick 23).violateNow 8 else s

/-- STRAP_READ. -/
def State.strapRead (s : State) (l : List Nat) : State := s.strapJudge l

/-- The reading of BOOT: C and P are fixed by it (R394, R395). -/
def State.strapBoot (s : State) (l : List Nat) : State :=
  let w := strapWord l
  (((s.put K.STRAP_BOOT w).put K.CEIL_CODE (bits w 5 0)).put K.PRESET_NOW (bits w 8 6)).strapJudge l

/-! ### DEGRADED's budget and clean time (R398 to R400, R402) -/

/-- One angle source is lost and the other is not. -/
def State.oneLost (s : State) : Bool := s.reg K.SRC_STATE == 1 || s.reg K.SRC_STATE == 2

/-- The DEGRADED budget in ms. -/
def State.degLimit (s : State) : Nat := s.inForce K.T_DEG * 1000

/-- DEG_BUDGET_SPENT (R399). -/
def State.budgetSpent (s : State) : State :=
  if s.ensB.spentDue then (s.setB { s.ensB with spentDue := false }).violateNow 5 else s

/-- DEG_CLEAN_REACHED (R402). -/
def State.cleanReached (s : State) : State :=
  if 2000 ≤ s.reg K.DEG_CLEAN then ((s.clearCause 3).clearCause 4).clearCause 5 else s

/-- DEG_ACK: an accepted record (R400). -/
def State.degAckWrite (s : State) (v : Nat) : State :=
  if v = 1 ∧ s.mode = .degraded ∧ 2000 ≤ s.reg K.DEG_CLEAN then s.setB { s.ensB with degAck := true } else s

/-- DEG_USED and DEG_CLEAN over the slot that ends. -/
def State.degTime (s : State) : State :=
  let s := if s.mode = .degraded then
      let u := s.ensB.usedUs + 1
      if u < 500 then s.setB { s.ensB with usedUs := u }
      else
        let s := (s.setB { s.ensB with usedUs := 0 }).count K.DEG_USED
        if s.reg K.DEG_USED = s.degLimit then s.setB { s.ensB with spentDue := true } else s
    else s
  if s.reg K.SRC_STATE ≠ 0 then s
  else
    let u := s.ensB.cleanUs + 1
    if u < 500 then s.setB { s.ensB with cleanUs := u } else (s.setB { s.ensB with cleanUs := 0 }).count K.DEG_CLEAN

/-! ### Time -/

/-- Channel B's own time, a step of its bin clock (R379, R462): the always-on domain's ages grow with it. -/
def State.aoTick (s : State) : State :=
  let s := s.binStep
  { s with vaoTime := s.vaoTime + 1
           sup := { s.sup with faultAges := (s.sup.faultAges.map (· + 1)).filter (· < slotsOfMs 10000) } }

/-- What is due of this chapter before a tick acts. -/
def State.guardDue (s : State) : State :=
  let s := (s.testStart).testEnd true
  let s := match s.ensB.urgentVal with
    | some v => (s.setB { s.ensB with urgentVal := none }).urgentCompare v
    | none => s
  let s := (((s.urgentRequest).urgentTimeout).forcedTest).budgetSpent
  -- a cause brings SAFE-HOLD first (R382) and clears there (R402)
  s.onlyIf (s.mode == .safeHold) State.cleanReached

/-- Counts of this chapter at a tick. -/
def State.guardTick (s : State) : State :=
  let s := s.degTime
  let b := s.ensB
  let on := b.permitA && b.permitB
  s.setB { b with lasDone := false, requested := false
                  sinceUrgent := if s.hk.on then min 10000 (b.sinceUrgent + 1) else 0
                  sinceRequest := if s.hk.on then min 5000 (b.sinceRequest + (if b.requested && b.sinceRequest == 0 then 0 else 1)) else 0
                  sinceTest := if on then b.sinceTest + 2 else b.sinceTest
                  releasedPrev := b.released, released := [] }

end Sys2Proof.Machine
end

