-- ==== Sys2Proof/Machine/Marks.lean ====
section
/-! DEFINITION. MARK events (R45): what one does at SLOT_OUT, the trigger engine and the HK ADC. -/

namespace Sys2Proof.Machine

/-- One mark event of the present slot (R45, R189, R207, R334). -/
def State.markEvent (s : State) (m : MarkEv) : State :=
  let s := s.tally K.MARKS_ISSUED
  let s := if m.toSlotOut then s.slotPulse 1 (m.sample / 4) else s
  let s := if m.toTrig && s.locked then s.pulseAt 49 m.sample else s
  if m.toHk then s.setHk { s.hk with markNext := s.hk.markNext + 1 } else s

/-- The next mark event of the present slot is issued. -/
def State.markIssue (s : State) : State :=
  match s.pipe.cur.marks with
  | m :: r => { s with pipe := { s.pipe with cur := { s.pipe.cur with marks := r } } }.markEvent m
  | [] => s

/-- Every mark event of the present slot still to come, in word order. -/
def State.markAll (s : State) : State := s.forRange s.pipe.cur.marks.length fun s _ => s.markIssue

/-- MARK: the next mark event of the present slot, or, between slots, the MARK word at Comet's address (R36, R45). -/
def State.markRow (s : State) : State :=
  if s.pipe.cur.marks.isEmpty then (if s.wordDue 0x0A then s.wordMark else s) else s.markIssue

end Sys2Proof.Machine
end

