-- ==== Sys2Proof/Machine/Reach.lean ====
section
/-! DEFINITION. The record stage's handover, and what the present slot brings up to a cc when a row of that cc looks at the capture (R197, R202, R204). -/

namespace Sys2Proof.Machine

/-- Records of a stage by channel count in RECORDS (R142). -/
def State.countRecords (s : State) (l : List PointRec) : State :=
  s.forRange 48 fun s ch => s.tallyBy (K.RECORDS ch) (l.filter fun r => r.ch == ch).length

/-- POINT_RECORD_HANDOVER (R13, R142, R190): the records of the slot before the last go to the Streamer, and their channels' ECHO conditions pulse. -/
def State.handover (s : State) : State :=
  let r := s.pipe.ready
  if !r.valid then s
  else
    let s := { s with pipe := { s.pipe with ready := {} } }
    let s := if r.pts then (s.countRecords r.recs).echoPulses r.slotNo r.recs else s
    s.pointsPacket r

/-- Rises and falls of MASKV of a channel before sample `upTo` of the present slot (R178). -/
def State.masksUntil (s : State) (ch : Nat) (upTo : Int) : Nat → State
  | 0 => s
  | n + 1 =>
    let c := s.spec1 ch
    if c.violations.any fun v => decide (v.1 < upTo) then (s.maskvRise ch).masksUntil ch upTo n
    else if decide (c.expire < upTo) then s.maskvFall ch else s

/-- Mark events of the present slot before sample `upTo`. -/
def State.marksUntil (s : State) (upTo : Nat) : State :=
  s.forRange s.pipe.cur.marks.length fun s _ => if s.pipe.cur.marks.head?.any fun m => decide (m.sample < upTo) then s.markIssue else s

/-- While a capture runs, what comes before cc `cc` of the present slot comes first: records, marks, decimator words, spectra, the ccs of the trigger engine, and the
samples or words that the engine stages (R185, R197, R202). -/
def State.capReach (s : State) (cc : Nat) : State :=
  if !s.capOn then s
  else
    let s := (s.handover.marksUntil (4 * cc)).resetBefore (4 * (cc : Int) - 1)
    let s := s.decAll (4 * cc)
    let s := (s.forRange 24 fun s p => s.specFinish p (4 * cc) 800).forRange 48 fun s ch => s.masksUntil ch (4 * cc) ((s.spec1 ch).violations.length + 1)
    let s := s.trigUpTo ((cc : Int) - 1)
    s.capFeed (4 * (cc : Int) - s.cap.origin)

end Sys2Proof.Machine
end

