-- ==== Sys2Proof/Machine/Dma.lean ====
section
/-! DEFINITION. The grant of a granule and what every master makes of its granule or its fault (R230 to R235, R143, R160, R172, R364), and the DMA
engines (R236 to R243). -/

namespace Sys2Proof.Machine

/-! ### Reactions of the writing masters (Table 9.5) -/

/-- The queue without the granules of one dump or entry: those of the kind `mine` up to the first that is its `last`. -/
def dropBurst (mine last : Granule → Bool) : List Granule → List Granule
  | [] => []
  | g :: l => if last g then l else if mine g then dropBurst mine last l else g :: dropBurst mine last l

/-- Replaces the queue. -/
def State.setQueue (s : State) (q : List Granule) : State := s.setFs { s.fs with queue := q }

/-- A channel without its class 2 statistics. -/
def ChanStats.noCrossings (k : ChanStats) : ChanStats := { k with hits := [], crossings := 0, delaySum := 0, delays := 0, levelSum := 0, levels := 0 }

/-- A channel without its class 3 statistics, and an emitter without those of class 5. -/
def ChanStats.noShots (k : ChanStats) : ChanStats := { k with sum := [], shots := 0, emShots := 0, fineSum := 0 }

def EmitStats.noWaves (m : EmitStats) : EmitStats := { m with xtSum := [], waves := 0, xtShots := 0 }

/-- The statistics that a granule of the calibration workspace held are cleared (R364). -/
def State.calClear (s : State) (cls i : Nat) : State :=
  let c := s.cal
  let ch := fun (f : ChanStats → ChanStats) => setAt {} c.chans i (f (c.chans.getD i {}))
  let c := match cls with
    | 2 => if i = 48 then { c with trigIn := {} } else { c with chans := ch ChanStats.noCrossings }
    | 3 => { c with chans := ch ChanStats.noShots }
    | _ => { c with emits := setAt {} c.emits i (c.emits.getD i {}).noWaves }
  { s with cal := c }

/-- An access to the workspace of an item faulted (R364): its statistics are cleared, and the slot being gathered gives it none. -/
def State.calLost (s : State) (cls i : Nat) : State :=
  let s := (s.calClear cls i).count K.CAL_FAULTS
  { s with cal := { s.cal with skip := (cls, i) :: s.cal.skip } }

/-- DROPPED set in the next header of a channel that waits, or kept for the next entry (R160). -/
def State.markDropped (s : State) (ch : Nat) : State :=
  let isH := fun (g : Granule) => g.purpose == .specHeader ch
  if s.fs.queue.any isH then
    let rec go : List Granule → List Granule
      | [] => []
      | g :: l => if isH g then { g with data := setAt 0 g.data 4 ((g.data.getD 4 0) ||| 2) } :: l else g :: go l
    s.setQueue (go s.fs.queue)
  else s.setSpec ch { s.spec1 ch with dropNext := true }

/-- The granule `g`, already out of the queue, met a fault: its master acts as Table 9.5 states. -/
def State.granuleLost (s : State) (g : Granule) : State :=
  match g.purpose with
  | .dump ch last =>
    let s := if last then s else
      s.setQueue (dropBurst (fun x => x.purpose == .dump ch false) (fun x => x.purpose == .dump ch true) s.fs.queue)
    s.tally (K.HDUMP_COUNT ch)
  | .calRead cls i => (s.setQueue (dropFirst (fun x => x.purpose == .calWork cls i) s.fs.queue)).calLost cls i
  | .calWork cls i => s.calLost cls i
  | .capture _ n => s.captureFault n
  | .captureHeader => s
  | .specBody ch =>
    let s := s.setQueue (dropBurst (fun x => x.purpose == .specBody ch) (fun x => x.purpose == .specHeader ch) s.fs.queue)
    ((s.count (K.SPEC_FAULTS ch)).setSpec ch { s.spec1 ch with waiting := (s.spec1 ch).waiting - 1 }).markDropped ch
  | .specHeader ch =>
    ((s.count (K.SPEC_FAULTS ch)).setSpec ch { s.spec1 ch with waiting := (s.spec1 ch).waiting - 1 }).markDropped ch

/-- The granule `g` is written: the last one of a dump counts the dump (R143), a header ends its entry (R158). -/
def State.granuleDone (s : State) (g : Granule) : State :=
  match g.purpose with
  | .dump ch true => s.tally (K.HDUMP_COUNT ch)
  | .specHeader ch => (s.put (K.SPEC_SEQ ch) (fieldAt g.data 20 4)).setSpec ch { s.spec1 ch with waiting := (s.spec1 ch).waiting - 1 }
  | .capture _ _ => s.capProgress
  | _ => s

/-! ### What waits for a grant (R231) -/

/-- The logical bank that serves an address of a space, none where the translation faults before a bank is known. -/
def State.bankOf (s : State) (space va : Nat) : Option Nat :=
  let e := s.pageEntry space (va / 65536 % 4096)
  if s.regBit K.AS_ENABLE space && bitAt e 31 then some (bits e 11 0 / 64) else none

/-- A granule at a virtual address may be granted by a logical bank: it lies in it, or its translation faults before a bank is known. -/
def State.atBank (s : State) (bank space va : Nat) : Bool :=
  (s.bankOf space va).all (· == bank)

/-- The first waiting granule of each master, in the order of the queue. -/
def heads : List Granule → List Nat → List Granule
  | [], _ => []
  | g :: l, seen => if seen.contains g.master then heads l seen else g :: heads l (g.master :: seen)

/-- Address of granule `k` of a buffer of a map. -/
def State.densAddr (s : State) (ch buf k : Nat) : Nat := s.reg (K.DENS_BASE ch) + buf * 0x80000 + k * 64

/-- Granules of a buffer. -/
def densGranules : Nat := 8192

/-- Granule of a cell, and the offset of the cell in it. -/
def cellPlace (c : Nat × Nat) : Nat × Nat := ((c.1 * 1024 + c.2) * 2 / 64, (c.1 * 1024 + c.2) * 2 % 64)

/-- The buffer a map works on: the oldest that has work left. -/
def DensMap.job (d : DensMap) : DensJob := d.jobs.headD {}

/-- Puts back the work on that buffer; a swapped buffer whose work is over shows as frozen (R172, R173). -/
def State.densPut (s : State) (ch : Nat) (j : DensJob) : State :=
  match (s.dens1 ch).late with
  | _ :: r => s.densShow ch (j :: r)
  | [] => s.setDens ch { s.dens1 ch with init := j.init, halve := j.halve, adds := j.adds, held := j.held }

/-- Granule `k` of the initialisation reads the frozen buffer first when it halves its cells (R172). -/
def DensJob.reads (j : DensJob) : Bool := j.halve && j.held.isEmpty

/-- The granule a map accesses next: initialisation first, then the updates that wait in order (R172). -/
def State.densNext (s : State) (ch : Nat) : Option Nat :=
  let j := (s.dens1 ch).job
  match j.init, j.adds with
  | some k, _ => some (s.densAddr ch (if j.reads then 1 - j.buf else j.buf) k)
  | none, c :: _ => some (s.densAddr ch j.buf (cellPlace c).1)
  | none, [] => none

/-- Code of the density engine (Table 9.3). -/
def densMaster : Nat := 0x40

/-- Maps with work for a bank. -/
def State.densHeads (s : State) (bank : Nat) : List Nat :=
  (List.range 48).filter fun ch => (s.dens1 ch).started && (s.densNext ch).any fun va => s.atBank bank (s.reg K.DENS_AS) va

/-- One DMA engine. -/
def State.dma1 (s : State) (e : Nat) : Dma := s.fs.dma.getD e {}

/-- Replaces one DMA engine. -/
def State.setDma (s : State) (e : Nat) (d : Dma) : State := s.setFs { s.fs with dma := setAt {} s.fs.dma e d }

/-- DMA_STATE of an engine that works: STOPPING once a write of 4 waits for the descriptor to end. -/
def State.dmaRuns (s : State) (e : Nat) : State := s.put (K.DMA_STATE e) (if (s.dma1 e).stopAfter then 4 else 1)

/-- Type of the descriptor in progress (Table 9.6). -/
def Dma.ty (d : Dma) : Nat := bits (d.words.getD 0 0) 63 60

/-- Its LENGTH. -/
def Dma.len (d : Dma) : Nat := bits (d.words.getD 0 0) 31 0

/-- Bytes of the granule at `va` that belong to a transfer with `left` bytes to go. -/
def granuleLen (va left : Nat) : Nat := min (64 - va % 64) left

/-- Bytes of the present burst before `va` in a transfer that began at `base` (R231, R232). -/
def burstDone (base va : Nat) : Nat := va - max base (va / 4096 * 4096)

/-- The Streamer accepts a DMA packet of `n` bytes of a stream now: the stream is of type DMA, runs, has credit, and no packet of it waits (R242, R268,
R271, R272). -/
def State.streamTakes (s : State) (st n : Nat) : Bool :=
  s.streamType st == 4 && s.streamCause st == 1 && (s.stream st).queue.isEmpty && s.credited st n

/-- What a waiting engine waits for has come (R242). -/
def State.dmaReady (s : State) (e : Nat) : Bool :=
  let d := s.dma1 e
  s.locked && (match d.phase with
    | .data =>
      let left := d.len - d.moved
      match d.ty with
      | 0 =>
        let st := bits (d.words.getD 0 0) 51 48
        s.streamTakes st (min (max 16 (s.reg (ofStream K.DMA_PKT (max 1 st)))) left)
      | 1 => (s.qspi.outOwner.isNone || s.qspi.outOwner == some e)
          && decide (s.qspi.bulkOut.length + granuleLen (bits (d.words.getD 1 0) 27 0 + d.moved) left ≤ 32768)
      | _ => (s.qspi.inOwner.isNone || s.qspi.inOwner == some e)
          && decide (granuleLen (bits (d.words.getD 2 0) 27 0 + d.moved) left ≤ s.qspi.bulkIn.length)
    | _ => true)

/-- Address of the completion record that an engine posts next (R239). -/
def State.dmaCqVa (s : State) (e : Nat) : Nat :=
  s.reg (K.DMA_CQ_VA e) + s.reg (K.DMA_DONE e) % max 1 (s.reg (K.DMA_CQ_ENTRIES e)) * 32

/-- Address of the next granule of the data that an engine moves. -/
def Dma.va (d : Dma) : Nat := bits (d.words.getD (if d.ty = 2 then 2 else 1) 0) 27 0 + d.moved + d.asm.length

/-- First address of that data. -/
def Dma.base (d : Dma) : Nat := bits (d.words.getD (if d.ty = 2 then 2 else 1) 0) 27 0

/-- Address space of that data. -/
def Dma.space (d : Dma) : Nat := if d.ty = 2 then bits (d.words.getD 0 0) 55 52 else bits (d.words.getD 0 0) 59 56

/-- Writes of a type-2 descriptor of an engine are not yet complete in their banks: their tags have not returned (R23, R239). -/
def State.dmaWriting (s : State) (e : Nat) : Bool := s.fs.tags.any fun t => t.master == 0x48 + e && t.bytes != 0

/-- The granule an engine asks for: its address space and address; none while it is idle, waits or has faulted. -/
def State.dmaNext (s : State) (e : Nat) : Option (Nat × Nat) :=
  let d := s.dma1 e
  if s.reg (K.DMA_STATE e) ≠ 1 ∧ s.reg (K.DMA_STATE e) ≠ 4 then none
  else match d.phase with
    | .none => none
    | .fetch => if s.locked then some (s.reg (K.DMA_CHAIN_AS e), d.desc) else none
    | .data => if s.dmaReady e then some (d.space, d.va) else none
    | .complete _ => if s.locked && !s.dmaWriting e then some (s.reg (K.DMA_CHAIN_AS e), s.dmaCqVa e) else none

/-! ### The grant (R231, R233) -/

/-- Masters a bank could grant now, with their classes: those with a granule in it and a free tag of their pool (R24, R231). -/
def State.grantable (s : State) (bank : Nat) : List (Nat × Nat) :=
  let q := ((heads s.fs.queue []).filter fun g => s.atBank bank g.space g.va).map fun g => (g.cls, g.master)
  let h := if s.headerDue && s.atBank bank (s.reg K.CAP_AS) s.headerVa then [(1, 0x18)] else []
  let m := if (s.densHeads bank).isEmpty then [] else [(2, densMaster)]
  let d := ((List.range 8).filter fun e => (s.dmaNext e).any fun a => s.atBank bank a.1 a.2).map fun e => (3, 0x48 + e)
  (q ++ h ++ m ++ d).filter fun p => s.tagFree p.1 p.2

/-- Of masters at a bank, the one it grants: of the highest class, the next in turn (R231). -/
def State.grantFrom (s : State) (bank : Nat) (l : List (Nat × Nat)) : Option (Nat × Nat) :=
  let c := l.foldl (fun m p => min m p.1) 4
  let ms := sortBy (fun a b => decide (a ≤ b)) ((l.filter fun p => p.1 == c).map (·.2))
  ((match storeGet s.fs.turns (bank * 4 + c) with
    | some last => ms.find? fun m => decide (last < m)
    | none => none).or ms.head?).map fun m => (c, m)

/-- The master a bank grants, with its class. -/
def State.grant (s : State) (bank : Nat) : Option (Nat × Nat) := s.grantFrom bank (s.grantable bank)

/-- A granule of a master issues now: a tag of its pool is free, and the bank in which it lies grants it (R24, R231). -/
def State.mayIssue (s : State) (cls master space va : Nat) : Bool :=
  s.tagFree cls master && (s.bankOf space va).all fun b => s.grantFrom b ((cls, master) :: s.grantable b) == some (cls, master)

/-- Bytes of the burst in progress of a map's initialisation before its next granule. -/
def State.densDone (s : State) (ch : Nat) : Nat :=
  let j := (s.dens1 ch).job
  match j.init with
  | some k => let b := if j.reads then 1 - j.buf else j.buf
    burstDone (s.densAddr ch b 0) (s.densAddr ch b k)
  | none => 0

/-- Bytes of the burst in progress of a transfer before its next granule. -/
def Dma.done (d : Dma) : Nat := if d.phase = .data then burstDone d.base d.va else 0

/-- Bursts of lower classes that a grant of class `c` at a bank pre-empts: the remaining granules of those that wait in the queue are marked (R233). -/
def State.preempt (s : State) (bank c : Nat) : List Granule :=
  let hs := (heads s.fs.queue []).filter fun g => decide (c < g.cls ∧ 0 < g.done) && s.bankOf g.space g.va == some bank
  s.fs.queue.map fun g =>
    if hs.any fun h => h.master == g.master && h.space == g.space && h.va / 4096 == g.va / 4096 then { g with resumed := true } else g

/-- The bursts in progress of classes below `c` at a bank lose the grant: what remains of them is marked (R231, R233). -/
def State.cutBursts (s : State) (b c : Nat) : State :=
  let at_ := fun (sp a : Nat) => s.bankOf sp a == some b
  let dma := s.fs.dma.mapIdx fun e d => if c < 3 ∧ 0 < d.done ∧ (s.dmaNext e).any (fun a => at_ a.1 a.2) then { d with cut := true } else d
  let dens := s.spec.dens.mapIdx fun ch d => if 0 < s.densDone ch ∧ (s.densNext ch).any (at_ (s.reg K.DENS_AS)) then { d with cut := true } else d
  let s := s.setFs { s.fs with queue := s.preempt b c, dma := dma }
  if c < 2 then { s with spec := { s.spec with dens := dens } } else s

/-- The bank copy works at a logical bank: it may have taken the bank from the bursts of P1 to P3 in progress there, of which the spec states only bounds
(R231, R244; a free value, log 47). -/
def State.copyCuts (s : State) (b : Nat) : State :=
  if s.fs.retire.copying && s.fs.retire.logical == b then
    let d := s.draw
    if bitAt (Config.freeNat d.1) 0 then d.2.cutBursts b 0 else d.2
  else s

/-- A granule of class `c` issues at an address: it takes its class's turn at the bank, and the bursts of lower classes there lose the grant (R231). -/
def State.issued (s : State) (c master space va : Nat) : State :=
  match s.bankOf space va with
  | none => s
  | some b => ((s.cutBursts b c).setFs { (s.cutBursts b c).fs with turns := storeSet s.fs.turns (b * 4 + c) master }).copyCuts b

/-- SCRUB_ROW: the scrubber reads a row of every bank; whether it found an idle cycle or took one from a burst in progress of P1 to P3 is not known
(R223, R231; a free value, log 47). -/
def State.scrubStep (s : State) (cc : Nat) (found : Ecc) : State :=
  let s := s.scrubRow cc found
  let d := s.draw
  if s.fs.cleared then d.2.forRange 48 fun s b => if bitAt (Config.freeNat d.1) b then s.cutBursts b 0 else s else s

/-! ### The density engine (R168 to R172) -/

/-- Halves every cell of a granule. -/
def halveCells : List Byte → List Byte
  | a :: b :: l => leBytes 2 ((a.toNat + 256 * b.toNat) / 2) ++ halveCells l
  | l => l

/-- Adds updates to the cells of a granule; the second result counts those that saturation lost (R171). -/
def addCells (b : List Byte) : List (Nat × Nat) → List Byte × Nat
  | [] => (b, 0)
  | c :: l =>
    let o := (cellPlace c).2
    let v := fieldAt b o 2
    let r := addCells (if v < 65535 then b.take o ++ leBytes 2 (v + 1) ++ b.drop (o + 2) else b) l
    (r.1, r.2 + ofBool (decide (65535 ≤ v)))

/-- The data of a read is with its master, so its tag returns (R23). -/
def State.tagTaken (s : State) : State := s.setFs { s.fs with tags := s.fs.tags.dropLast }

/-- A fault of the density engine at a granule of a burst that began at `base`: the granule's cells are skipped. -/
def State.densFault (s : State) (cc base va : Nat) (write cut : Bool) (f : FsFault × Nat × Nat) : State :=
  let done := burstDone base va
  s.granuleFault cc f.1 densMaster (s.reg K.DENS_AS) 2 write (cut && decide (0 < done)) va f.2.1 f.2.2 done

/-- Writes a granule of a map that issues, or records its fault. -/
def State.densWrite (s : State) (cc base va : Nat) (cut : Bool) (ecc : Ecc) (d : List Byte) : State :=
  match (s.issued 2 densMaster (s.reg K.DENS_AS) va).writeGranule ecc densMaster 2 (s.reg K.DENS_AS) va d with
  | .ok s' => s'
  | .error (f, p, syn, s') => s'.densFault cc base va true cut (f, p, syn)

/-- Reads a granule of a map that issues: its bytes, none where it faults, which is recorded. -/
def State.densRead (s : State) (cc base va : Nat) (cut : Bool) (ecc : Ecc) : List Byte × State :=
  match (s.issued 2 densMaster (s.reg K.DENS_AS) va).readGranule ecc densMaster 2 (s.reg K.DENS_AS) va 64 false with
  | .ok (b, s') => (b, s'.tagTaken)
  | .error (f, p, syn, s') => ([], s'.densFault cc base va false cut (f, p, syn))

/-- The map's next access may issue. -/
def State.densMay (s : State) (ch : Nat) : Bool := (s.densNext ch).any fun va => s.mayIssue 2 densMaster (s.reg K.DENS_AS) va

/-- A map with one granule of its initialisation done, or given up where the frozen buffer could not be read. -/
def State.densInitNext (s : State) (ch k : Nat) : State :=
  let s := s.densPut ch { (s.dens1 ch).job with init := if k + 1 < densGranules then some (k + 1) else none, held := [] }
  s.setDens ch { s.dens1 ch with cut := (s.dens1 ch).cut && s.densDone ch != 0 }

/-- One access of a map's initialisation: the read of a granule of the frozen buffer that halving needs, or the write of a granule (R172). -/
def State.densInitStep (s : State) (ch k cc : Nat) (ecc : Ecc) : State :=
  let d := s.dens1 ch
  let j := d.job
  if j.reads then
    let r := s.densRead cc (s.densAddr ch (1 - j.buf) 0) (s.densAddr ch (1 - j.buf) k) d.cut ecc
    if r.1.isEmpty then r.2.densInitNext ch k else r.2.densPut ch { (r.2.dens1 ch).job with held := r.1 }
  else
    (s.densWrite cc (s.densAddr ch j.buf 0) (s.densAddr ch j.buf k) d.cut ecc (if j.halve then halveCells j.held else List.replicate 64 0)).densInitNext ch k

/-- One access for the updates that wait at the front for one granule: its read, or the write with them added to their cells (R171, R172). Updates of a granule
that faults are skipped. -/
def State.densAddStep (s : State) (ch cc : Nat) (ecc : Ecc) : State :=
  let j := (s.dens1 ch).job
  match j.adds with
  | [] => s
  | c :: _ =>
    let g := (cellPlace c).1
    let mine := j.adds.takeWhile fun x => (cellPlace x).1 == g
    let va := s.densAddr ch j.buf g
    let skip := { j with adds := j.adds.drop mine.length, held := [] }
    if j.held.isEmpty then
      let r := s.densRead cc va va false ecc
      r.2.densPut ch (if r.1.isEmpty then skip else { j with held := r.1 })
    else
      let r := addCells j.held mine
      ((s.densWrite cc va va false ecc r.1).countBy (K.DENS_SATURATED ch) r.2).densPut ch skip

/-- One access of a map's work, once it may issue. -/
def State.densStep (s : State) (ch cc : Nat) (ecc : Ecc) : State :=
  if !s.densMay ch then s
  else match (s.dens1 ch).job.init with
    | some k => s.densInitStep ch k cc ecc
    | none => s.densAddStep ch cc ecc

/-- The rest of a map's initialisation, with the older buffer's work before it, as far as its granules may issue. -/
def State.densInitAll (s : State) (ch cc : Nat) (ecc : Ecc) : Nat → State
  | 0 => s
  | n + 1 => if (s.dens1 ch).init.isSome then (s.densStep ch cc ecc).densInitAll ch cc ecc n else s

/-- Accesses that the work left in a map's buffers takes at most. -/
def DensMap.left (d : DensMap) : Nat := sumNat (d.jobs.map fun j => 2 * ((if j.init.isSome then densGranules else 0) + j.adds.length))

/-- DENSITY_INIT_DONE: the initialisation of a map's working buffer ends (R172). -/
def State.densInitDone (s : State) (ch cc : Nat) (ecc : Ecc) : State :=
  if (s.dens1 ch).started && (s.dens1 ch).init.isSome then s.densInitAll ch cc ecc (s.dens1 ch).left else s

/-! ### DMA (R236 to R243) -/

/-- R237: the descriptor's words keep the rules. -/
def descriptorOk (w : List Nat) : Bool :=
  let w0 := w.getD 0 0
  let w1 := w.getD 1 0
  let w2 := w.getD 2 0
  let w3 := w.getD 3 0
  let ty := bits w0 63 60
  let len := bits w0 31 0
  let va := if ty = 2 then w2 else w1
  decide (ty < 3) && bits w0 47 34 == 0 && !bitAt w0 32 && bits w1 63 28 == 0 && bits w2 63 28 == 0 && bits w3 31 28 == 0
    && len % 16 == 0 && va % 16 == 0 && decide (va + len ≤ 0x10000000) && (bitAt w0 33 || bits w3 27 0 % 32 == 0)

/-- A fault of a DMA engine: it stops at its checkpoint (R240). A burst that lost a grant and goes on is marked (R233). -/
def State.dmaFault (s : State) (e cc : Nat) (f : FsFault × Nat × Nat) (space va done : Nat) (write : Bool) : State :=
  (s.granuleFault cc f.1 (0x48 + e) space 3 write ((s.dma1 e).cut && decide (0 < done)) va f.2.1 f.2.2 done).put (K.DMA_STATE e) 3

/-- Code of an engine as a master (Table 9.3). -/
def dmaMaster (e : Nat) : Nat := 0x48 + e

/-- A granule of an engine issues at an address; at the first of a burst nothing has pre-empted it yet. -/
def State.dmaIssued (s : State) (e space va done : Nat) : State :=
  (s.setDma e { s.dma1 e with cut := (s.dma1 e).cut && decide (0 < done) }).issued 3 (dmaMaster e) space va

/-- The engine fetches the descriptor at its `desc` once the granule may issue; without PLL A lock it waits (R242). -/
def State.dmaFetch (s : State) (e cc : Nat) (ecc : Ecc) : State :=
  let va := (s.dma1 e).desc
  let space := s.reg (K.DMA_CHAIN_AS e)
  let s := ((s.setDma e { s.dma1 e with phase := .fetch, words := [0, 0, 0, 0], moved := 0, asm := [] }).put (K.DMA_CUR_DESC e) va).put (K.DMA_CUR_DONE e) 0
  if !s.locked then s.put (K.DMA_STATE e) 2
  else if !s.mayIssue 3 (dmaMaster e) space va then s.dmaRuns e
  else
    match (s.dmaIssued e space va 0).readGranule ecc (dmaMaster e) 3 space va 32 false with
    | .error (f, p, syn, s') => s'.dmaFault e cc (f, p, syn) space va 0 false
    | .ok (b, s) =>
      let w := (List.range 4).map fun i => fieldAt b (8 * i) 8
      if !descriptorOk w then s.dmaFault e cc (.descriptor, (match s.translate space va false false with
        | .ok pa => pa / bankBytes
        | .error _ => 255), 0) space va 0 false
      else
        let d := { s.dma1 e with words := w }
        (s.setDma e { d with phase := if d.len = 0 then .complete 0 else .data }).dmaRuns e

/-- DMA_START: accepted only in IDLE (R238). -/
def State.dmaStart (s : State) (e cc : Nat) (ecc : Ecc) : State :=
  if s.reg (K.DMA_STATE e) = 0 then
    ((s.setDma e { desc := s.reg (K.DMA_CHAIN_VA e), stopAfter := false }).put (K.DMA_STATE e) 1).dmaFetch e cc ecc
  else s

/-- An engine that ends its chain gives up what it holds of the QSPI window (R301). -/
def State.dmaRelease (s : State) (e : Nat) : State :=
  let q := s.qspi
  { s with qspi := { q with outOwner := if q.outOwner = some e then none else q.outOwner, inOwner := if q.inOwner = some e then none else q.inOwner } }

/-- The engine returns to IDLE. -/
def State.dmaIdle (s : State) (e : Nat) : State := (s.setDma e {}).put (K.DMA_STATE e) 0

/-- DMA_COMPLETION: the completion record is written once every write of the descriptor is complete in its bank (R239), then the next descriptor is fetched unless the chain ends or the engine was stopped. -/
def State.dmaComplete (s : State) (e cc : Nat) (ecc : Ecc) : State :=
  let d := s.dma1 e
  match d.phase with
  | .complete st =>
    if s.reg (K.DMA_STATE e) ≠ 1 ∧ s.reg (K.DMA_STATE e) ≠ 4 then s
    else if !s.locked then s.put (K.DMA_STATE e) 2
    else if s.dmaWriting e then s
    else
      let seq := s.reg (K.DMA_DONE e)
      let space := s.reg (K.DMA_CHAIN_AS e)
      let va := s.dmaCqVa e
      let w3 := d.words.getD 3 0
      let rec_ := leBytes 8 (d.moved + w3 / 2 ^ 32 * 2 ^ 32) ++ leBytes 8 (s.stampCc cc) ++ leBytes 8 (d.desc + st * 2 ^ 56) ++ leBytes 8 (seq * 2 ^ 32)
      if !s.mayIssue 3 (dmaMaster e) space va then s
      else match (s.dmaIssued e space va 0).writeGranule ecc (dmaMaster e) 3 space va rec_ with
      | .error (f, p, syn, s) =>
        let s := s.dmaFault e cc (f, p, syn) space va 0 true
        if st = 1 then (s.dmaRelease e).dmaIdle e else s
      | .ok s =>
        let s := (s.tally (K.DMA_DONE e)).dmaRelease e
        if st = 1 ∨ bitAt (d.words.getD 0 0) 33 ∨ d.stopAfter then s.dmaIdle e
        else (s.setDma e { s.dma1 e with desc := bits w3 27 0 }).dmaFetch e cc ecc
  | _ => s

/-- DMA_ABORT: a completion with STATUS ABORTED follows (R241). -/
def State.dmaAbort (s : State) (e : Nat) : State :=
  if s.reg (K.DMA_STATE e) = 0 then s
  else (s.setDma e { s.dma1 e with phase := .complete 1, stopAfter := true, asm := [] }).put (K.DMA_STATE e) 4

/-- DMA_STOP: the descriptor in progress is the last one (R241). -/
def State.dmaStop (s : State) (e : Nat) : State :=
  if s.reg (K.DMA_STATE e) = 0 then s
  else
    let s := s.setDma e { s.dma1 e with stopAfter := true }
    if s.reg (K.DMA_STATE e) = 1 then s.put (K.DMA_STATE e) 4 else s

/-- DMA_RESUME: from the checkpoint with a fresh translation (R240). -/
def State.dmaResume (s : State) (e cc : Nat) (ecc : Ecc) : State :=
  if s.reg (K.DMA_STATE e) = 3 then
    match (s.dma1 e).phase with
    | .fetch => s.dmaFetch e cc ecc
    | _ => s.dmaRuns e
  else s

/-- The engine moves data now: it is in that phase and neither waits nor has faulted. -/
def State.dmaMoves (s : State) (e ty : Nat) : Bool :=
  let d := s.dma1 e
  d.phase == .data && d.ty == ty && (s.reg (K.DMA_STATE e) == 1 || s.reg (K.DMA_STATE e) == 4)

/-- The engine waits at a granule boundary (R242). -/
def State.dmaWait (s : State) (e : Nat) : State := s.put (K.DMA_STATE e) 2

/-- Every byte has moved: the completion follows. -/
def State.dmaEnded (s : State) (e : Nat) : State := s.setDma e { s.dma1 e with phase := .complete 0 }

/-- Reads at most the granules given of a type-0 or type-1 descriptor into its assembly until it holds `goal` bytes; the flag says that it does, none having
faulted or found no tag or no grant. -/
def State.dmaRead (s : State) (e cc goal : Nat) (ecc : Ecc) : Nat → State × Bool
  | 0 => (s, decide (goal ≤ (s.dma1 e).asm.length))
  | n + 1 =>
    let d := s.dma1 e
    if goal ≤ d.asm.length then (s, true)
    else if !s.mayIssue 3 (dmaMaster e) d.space d.va then (s, false)
    else
      match (s.dmaIssued e d.space d.va (burstDone d.base d.va)).readGranule ecc (dmaMaster e) 3 d.space d.va
          (granuleLen d.va (goal - d.asm.length)) (d.ty == 0) with
      | .error (f, p, syn, s') => (s'.dmaFault e cc (f, p, syn) d.space d.va (burstDone d.base d.va) false, false)
      | .ok (b, s') => (s'.setDma e { s'.dma1 e with asm := d.asm ++ b }).dmaRead e cc goal ecc n

/-- DMA_FS_TO_STREAMER: packets of a type-0 descriptor go to the link layer until the engine must wait, faults or ends (R236, R266); `reads` bounds the granules read for each. -/
def State.dmaStream (s : State) (e cc reads : Nat) (ecc : Ecc) : Nat → State
  | 0 => s
  | n + 1 =>
    if !s.dmaMoves e 0 then s
    else
      let d := s.dma1 e
      let st := bits (d.words.getD 0 0) 51 48
      let size := min (max 16 (s.reg (ofStream K.DMA_PKT (max 1 st)))) (d.len - d.moved)
      if !s.locked ∨ !s.streamTakes st size then
        let s := s.dmaWait e
        if s.streamType st = 4 then s else s.count K.MISROUTED
      else
        let r := s.dmaRead e cc size ecc reads
        if !r.2 then r.1
        else
          let s := r.1
          let d := s.dma1 e
          let moved := d.moved + d.asm.length
          let p : Packet := { ty := 4, stream := st, aux := e, tstamp := s.stampCc cc
                              flags := 4 * ofBool (d.moved == 0) + 2 * ofBool (moved == d.len), payload := d.asm }
          let s := (s.setStream st { s.stream st with queue := (s.stream st).queue ++ [p] }).linkPump
          let s := (s.setDma e { s.dma1 e with moved := moved, asm := [] }).put (K.DMA_CUR_DONE e) moved
          if moved = d.len then s.dmaEnded e else s.dmaStream e cc reads ecc n

/-- DMA_FS_TO_QSPI: granules of a type-1 descriptor go into the outbound queue of 32 KiB (R301). -/
def State.dmaOut (s : State) (e cc : Nat) (ecc : Ecc) : Nat → State
  | 0 => s
  | n + 1 =>
    if !s.dmaMoves e 1 then s
    else
      let d := s.dma1 e
      let va := bits (d.words.getD 1 0) 27 0 + d.moved
      let k := granuleLen va (d.len - d.moved)
      let mine := s.qspi.outOwner.isNone || s.qspi.outOwner == some e
      if !s.locked ∨ !mine then s.dmaWait e
      else
        let s := { s with qspi := { s.qspi with outOwner := some e } }
        if 32768 < s.qspi.bulkOut.length + k then s.dmaWait e
        else
          let r := s.dmaRead e cc k ecc 2
          if !r.2 then r.1
          else
            let s := r.1
            let b := (s.dma1 e).asm
            let s := { s with qspi := { s.qspi with bulkOut := s.qspi.bulkOut ++ b } }
            let moved := d.moved + b.length
            let s := (s.setDma e { s.dma1 e with moved := moved, asm := [] }).put (K.DMA_CUR_DONE e) moved
            if moved = d.len then s.dmaEnded e else s.dmaOut e cc ecc n

/-- The tag just taken stands for a write of `k` bytes that its engine counts as moved when the tag returns (R239). -/
def State.tagBytes (s : State) (k : Nat) : State :=
  s.setFs { s.fs with tags := s.fs.tags.mapIdx fun i t => if i + 1 = s.fs.tags.length then { t with bytes := k } else t }

/-- DMA_QSPI_TO_FS: granules of a type-2 descriptor empty the inbound queue (R301). -/
def State.dmaIn (s : State) (e cc : Nat) (ecc : Ecc) : Nat → State
  | 0 => s
  | n + 1 =>
    if !s.dmaMoves e 2 then s
    else
      let d := s.dma1 e
      let va := d.va
      let k := granuleLen va (d.len - d.moved)
      let mine := s.qspi.inOwner.isNone || s.qspi.inOwner == some e
      if !s.locked ∨ !mine then s.dmaWait e
      else
        let s := { s with qspi := { s.qspi with inOwner := some e } }
        if s.qspi.bulkIn.length < k then s.dmaWait e
        else if !s.mayIssue 3 (dmaMaster e) d.space va then s
        else
          match (s.dmaIssued e d.space va (burstDone d.base va)).writeGranule ecc (dmaMaster e) 3 d.space va (s.qspi.bulkIn.take k) with
          | .error (f, p, syn, s) => s.dmaFault e cc (f, p, syn) d.space va (burstDone d.base va) true
          | .ok s =>
            let s := ({ s with qspi := { s.qspi with bulkIn := s.qspi.bulkIn.drop k } }).tagBytes k
            let moved := d.moved + k
            let s := s.setDma e { s.dma1 e with moved := moved }
            if moved = d.len then s.dmaEnded e else s.dmaIn e cc ecc n

/-- A fetch waits for its grant or a tag. -/
def State.dmaFetches (s : State) (e : Nat) : Bool := (s.dma1 e).phase == .fetch && (s.reg (K.DMA_STATE e) == 1 || s.reg (K.DMA_STATE e) == 4)

/-- DMA_CONTINUE: what an engine waits for has come (R242), or a descriptor's fetch gets its grant. -/
def State.dmaContinue (s : State) (e cc : Nat) (ecc : Ecc) : State :=
  if (s.reg (K.DMA_STATE e) = 2 && s.dmaReady e) || s.dmaFetches e then
    match (s.dma1 e).phase with
    | .fetch => s.dmaFetch e cc ecc
    | _ => s.dmaRuns e
  else s

/-- The one granule that an engine's bank grants it. -/
def State.dmaStep (s : State) (e cc : Nat) (ecc : Ecc) : State :=
  match (s.dma1 e).phase with
  | .none => s
  | .fetch => s.dmaFetch e cc ecc
  | .complete _ => s.dmaComplete e cc ecc
  | .data => match (s.dma1 e).ty with
    | 0 => s.dmaStream e cc 1 ecc 1
    | 1 => s.dmaOut e cc ecc 1
    | _ => s.dmaIn e cc ecc 1

/-- On entry to a mode in which the engines do not run each of them aborts (R243). -/
def State.dmaAbortAll (s : State) : State := s.forRange 8 fun s e => (s.dmaAbort e).dmaComplete e 0 []

/-- At the tick that starts a slot of lock loss the engines wait (R242). -/
def State.dmaLockLost (s : State) : State := s.forRange 8 fun s e =>
  if s.reg (K.DMA_STATE e) = 1 ∨ s.reg (K.DMA_STATE e) = 4 then s.dmaWait e else s

/-! ### GRANULE_ISSUE (R231 to R235) -/

/-- CAPTURE_HEADER_WRITTEN once the header is due and its granule may issue (R201, R231). -/
def State.headerIssue (s : State) (cc : Nat) (ecc : Ecc) : State :=
  if s.headerDue && s.mayIssue 1 0x18 (s.reg K.CAP_AS) s.headerVa then (s.issued 1 0x18 (s.reg K.CAP_AS) s.headerVa).headerWritten cc ecc else s

/-- The granule `g`, out of the queue, issues: it is translated, and it completes or faults. -/
def State.granuleRun (s : State) (g : Granule) (cc : Nat) (ecc : Ecc) : State :=
  let s := s.issued g.cls g.master g.space g.va
  let fault := fun (f : FsFault) (p syn : Nat) (s : State) =>
    (s.granuleFault cc f g.master g.space g.cls g.write g.resumed g.va p syn g.done).granuleLost g
  if g.write then
    match s.writeGranule ecc g.master g.cls g.space g.va g.data with
    | .ok s' => s'.granuleDone g
    | .error (f, p, syn, s') => fault f p syn s'
  else
    match s.readGranule ecc g.master g.cls g.space g.va 64 false with
    | .ok (_, s') => s'.granuleDone g
    | .error (f, p, syn, s') => fault f p syn s'

/-- GRANULE_ISSUE: a bank grants one granule; the samples of a capture that came before `cc` are staged by then (R202). -/
def State.granuleIssue (s : State) (bank cc : Nat) (ecc : Ecc) : State :=
  let s := s.capReach cc
  match s.grant bank with
  | none => s
  | some (_, m) =>
    if m = densMaster then
      match s.densHeads bank with
      | ch :: _ => s.densStep ch cc ecc
      | [] => s
    else if 0x48 ≤ m then s.dmaStep (m - 0x48) cc ecc
    else match s.fs.queue.find? (·.master == m) with
      | none => s.headerIssue cc ecc
      | some g => (s.setQueue (dropFirst (·.master == m) s.fs.queue)).granuleRun g cc ecc

/-- Histogram dumps of the groups that end with the slot before the present one wait for their grants, as their accumulated passes run (R128, R143). -/
def State.enqueueDumps (s : State) : State :=
  let c := s.pipe.prev
  if !c.emit.hdump || c.accum.isNone then s
  else s.forRange 48 fun s ch => match (chanEcho s.pipe.prev2 c s.pipe.cur ch (s.pipe.chans.getD ch {}) none).dump with
    | none => s
    | some (w, h) =>
      let va := s.reg (K.HDUMP_BASE ch) + s.reg (K.HDUMP_COUNT ch) % max 1 (s.reg K.HDUMP_ENTRIES) * 65536
      let eng := if s.pipe.cur.ee12 = engineOf ch then 12 else engineOf ch
      let bytes := ((List.range (11200 / max 1 w)).map fun b => leBytes 3 (ofSigned 24 (h.getD b 0))).flatten
      s.enqueue (granulesOf eng 0 c.emit.hdumpAs va bytes fun last => .dump ch last)

/-! ### P0 work that the tick cuts off (R16, R17) -/

/-- Units that have not finished the work of the slot in its processing stage, as OVERRUN_UNITS numbers them (Table 2.10): those the tick reports, the engines
that failed in the slot with work to do (R144), and those whose P0 granules still wait (R24): dumps, bit 14, and the calibration workspace, bit 15. -/
def State.overrunUnits (s : State) (reported : Nat) : Nat :=
  let c := s.pipe.prev
  let works := fun (e : Nat) => c.live && c.kind == .slot && (List.range 48).any fun ch => (if s.pipe.cur.ee12 = engineOf ch then 12 else engineOf ch) == e && litIn c ch
  let q := s.fs.queue.filter (·.cls == 0)
  let failed := (List.range 13).foldl (fun u e => withBit u e (bitAt u e || (bitAt s.spares.failedNow e && works e))) reported
  let failed := withBit failed 14 (bitAt failed 14 || q.any (·.master != 0x10))
  withBit failed 15 (bitAt failed 15 || q.any (·.master == 0x10))

/-- P0 granules that still wait at the tick are abandoned; the count of a dump cut off advances, as for one that a fault cuts off (log 22). -/
def State.dropLate (s : State) : State :=
  let cut := (s.fs.queue.filter fun g => match g.purpose with
    | .dump _ true => true
    | _ => false).map (·.purpose)
  let s := s.setQueue (s.fs.queue.filter (·.cls != 0))
  s.forEach cut fun s p => match p with
    | .dump ch _ => s.tally (K.HDUMP_COUNT ch)
    | _ => s

end Sys2Proof.Machine
end

