-- ==== Sys2Proof/Machine/Calibration.lean ====
section
/-! DEFINITION. Chapter 14: the calibration engine's items, statistics, periods and steps, and the calibration image. -/

namespace Sys2Proof.Machine

def State.setCal (s : State) (c : Calib) : State := { s with cal := c }

/-! ### Items (Table 14.1): 0 to 431 slice offsets (9 times the channel plus the slice), then gains, skews, CUM entries, COMP_DELAY, LEVEL_OFS, CAL_E, CAL_CH,
K0_TRIM and crosstalk values -/

def itemGain : Nat := 432
def itemSkew : Nat := 864
def itemCum : Nat := 1296
def itemComp : Nat := 7568
def itemLevel : Nat := 7617
def itemCalE : Nat := 7665
def itemCalCh : Nat := 7681
def itemTrim : Nat := 7729
def itemXt : Nat := 7777
def itemEnd : Nat := 8801

/-- First item and the item after the last of a class. -/
def classItems : Nat → Nat × Nat
  | 0 => (0, itemSkew)
  | 1 => (itemSkew, itemCum)
  | 2 => (itemCum, itemCalE)
  | 3 => (itemCalE, itemTrim)
  | 4 => (itemTrim, itemXt)
  | _ => (itemXt, itemEnd)

/-- Class of an item. -/
def itemClass (i : Nat) : Nat :=
  if i < itemSkew then 0 else if i < itemCum then 1 else if i < itemCalE then 2 else if i < itemTrim then 3 else if i < itemXt then 4 else 5

/-- Items of a class that the engine steps: TRIG_IN's COMP_DELAY is never stepped (R351). -/
def steppedItems (cls : Nat) : Nat := (classItems cls).2 - (classItems cls).1 - (if cls = 2 then 1 else 0)

/-- Range of an item's value (Table 14.1). -/
def itemRange (i : Nat) : Int × Int :=
  if i < itemGain then (-1024, 1024) else if i < itemSkew then (-4096, 4096) else if i < itemCum then (0, 63) else if i < itemComp then (0, 255)
  else if i < itemLevel then (-2048, 2048) else if i < itemCalE then (-64, 64) else if i < itemCalCh then (0, 63)
  else if i < itemTrim then (-32767, 32767) else if i < itemXt then (-8192, 8192) else (-32768, 32767)

/-- Value of an item. -/
def State.item (s : State) (i : Nat) : Int :=
  let sl := fun (j : Nat) => s.cal.slices.getD j {}
  if i < itemGain then (sl i).offset
  else if i < itemSkew then (sl (i - itemGain)).gain
  else if i < itemCum then (sl (i - itemSkew)).skew
  else if i < itemComp then ((s.cal.cum.getD ((i - itemCum) / 128) []).getD ((i - itemCum) % 128) 0 : Nat)
  else if i < itemLevel then s.regI 16 (K.COMP_DELAY (i - itemComp))
  else if i < itemCalE then s.regI 8 (K.LEVEL_OFS (i - itemLevel))
  else if i < itemCalCh then s.reg (K.CAL_E (i - itemCalE))
  else if i < itemTrim then s.regI 16 (K.CAL_CH (i - itemCalCh))
  else if i < itemXt then s.regI 16 (K.K0_TRIM (i - itemTrim))
  else (s.cal.xt.getD ((i - itemXt) / 64) []).getD ((i - itemXt) % 64) 0

/-- Sets an item's value. -/
def State.setItem (s : State) (i : Nat) (v : Int) : State :=
  let sl := fun (j : Nat) (f : SliceCal → SliceCal) =>
    s.setCal { s.cal with slices := setAt {} s.cal.slices j (f (s.cal.slices.getD j {})) }
  if i < itemGain then sl i fun c => { c with offset := v }
  else if i < itemSkew then sl (i - itemGain) fun c => { c with gain := v }
  else if i < itemCum then sl (i - itemSkew) fun c => { c with skew := v.toNat }
  else if i < itemComp then
    let t := (i - itemCum) / 128
    s.setCal { s.cal with cum := setAt [] s.cal.cum t (setAt 0 (s.cal.cum.getD t []) ((i - itemCum) % 128) v.toNat) }
  else if i < itemLevel then s.putI 16 (K.COMP_DELAY (i - itemComp)) v
  else if i < itemCalE then (s.putI 8 (K.LEVEL_OFS (i - itemLevel)) v).compCommit [i - itemLevel] 0
  else if i < itemCalCh then s.put (K.CAL_E (i - itemCalE)) v.toNat
  else if i < itemTrim then s.putI 16 (K.CAL_CH (i - itemCalCh)) v
  else if i < itemXt then s.putI 16 (K.K0_TRIM (i - itemTrim)) v
  else
    let e := (i - itemXt) / 64
    s.setCal { s.cal with xt := setAt [] s.cal.xt e (setAt 0 (s.cal.xt.getD e []) ((i - itemXt) % 64) v) }

/-- Channels to which an item belongs, by themselves or through their emitter (Table 5.7), as bits. -/
def State.itemChans (s : State) (i : Nat) : Nat :=
  let one := fun (c : Nat) => if c < 48 then 2 ^ c else 0
  if i < itemGain then one (i / 9) else if i < itemSkew then one ((i - itemGain) / 9) else if i < itemCum then one ((i - itemSkew) / 9)
  else if i < itemComp then one ((i - itemCum) / 128) else if i < itemLevel then one (i - itemComp) else if i < itemCalE then one (i - itemLevel)
  else if i < itemCalCh then chMask s.plan.active (i - itemCalE) else if i < itemTrim then one (i - itemCalCh)
  else if i < itemXt then one (i - itemTrim) else chMask s.plan.active ((i - itemXt) / 64)

/-! ### Settled items (R361) -/

def insertSorted (i : Nat) : List Nat → List Nat
  | [] => [i]
  | x :: l => if i < x then i :: x :: l else if i = x then x :: l else x :: insertSorted i l

/-- CAL_UNSETTLED and CAL_RESTORE follow the items. -/
def State.calShow (s : State) : State :=
  let en := s.reg K.CAL_ENABLE
  let open_ := fun (c : Nat) =>
    let r := classItems c
    bitAt en c && decide ((s.cal.settled.filter fun i => r.1 ≤ i && i < r.2).length < steppedItems c)
  (s.put K.CAL_UNSETTLED (sumNat ((List.range 6).map fun c => if open_ c then 2 ^ c else 0))).put K.CAL_RESTORE
    (ofBool !s.cal.targets.isEmpty)

/-- Items that satisfy a test become unsettled. -/
def State.unsettle (s : State) (p : Nat → Bool) : State := s.setCal { s.cal with settled := s.cal.settled.filter fun i => !p i }

/-- One item settles. -/
def State.settleItem (s : State) (i : Nat) : State := s.setCal { s.cal with settled := insertSorted i s.cal.settled }

/-! ### Statistics (R351 to R358) -/

def State.chanStats (s : State) (ch : Nat) : ChanStats := s.cal.chans.getD ch {}

def State.setChanStats (s : State) (ch : Nat) (k : ChanStats) : State := s.setCal { s.cal with chans := setAt {} s.cal.chans ch k }

/-- Adds a list of codes to a histogram of codes. -/
def histAdd (h : List (Nat × Nat)) (l : List Int) : List (Nat × Nat) :=
  l.foldl (fun h v => let k := (v + 2048).toNat; storeSet h k ((storeGet h k).getD 0 + 1)) h

/-- Samples of a slot at position `p` of eight. -/
def positionCodes (x : List Int) (p : Nat) : List Int :=
  let a := x.toArray
  (List.range 1400).map fun k => a.getD (8 * k + p) 0

/-- One more pair of samples. -/
def PairSums.add (k : PairSums) (x : Int × Int) : PairSums :=
  { n := k.n + 1, a := k.a + x.1, b := k.b + x.2, aa := k.aa + x.1 * x.1, bb := k.bb + x.2 * x.2, ab := k.ab + x.1 * x.2 }

/-- The correlation coefficient of the pairs, squared with its sign kept; none where one side never changes. -/
def PairSums.corr (k : PairSums) : Option Rat :=
  let cov : Int := k.n * k.ab - k.a * k.b
  let va : Int := k.n * k.aa - k.a * k.a
  let vb : Int := k.n * k.bb - k.b * k.b
  if va * vb = 0 then none else some (((cov * cov.natAbs : Int) : Rat) / ((va * vb : Int) : Rat))

/-- Class 0 of one channel: the codes of each position, of the shadow slice `sh` and of the samples taken with it at position `q`. -/
def ChanStats.offsets (k : ChanStats) (x sh : List Int) (q : Nat) : ChanStats :=
  { k with
    samples := k.samples + 1400, posHist := (List.range 8).map fun p => histAdd (k.posHist.getD p []) (positionCodes x p)
    shadowHist := histAdd k.shadowHist sh, besideHist := histAdd k.besideHist ((positionCodes x q).take sh.length)
    shadowSamples := k.shadowSamples + sh.length }

/-- Class 1 of one channel: neighbouring samples within the slot, and the shadow slice's with the neighbours of its position. -/
def ChanStats.skews (k : ChanStats) (x sh : List Int) (q : Nat) : ChanStats :=
  let pairs := (List.range 8).map fun p =>
    ((positionCodes x p).zip (if p < 7 then positionCodes x (p + 1) else (positionCodes x 0).drop 1)).foldl PairSums.add (k.pairs.getD p {})
  let a := x.toArray
  let near := fun (d : Int) => sh.zipIdx.filterMap fun v =>
    let i : Int := 8 * (v.2 : Int) + (q : Int) + d
    if 0 ≤ i ∧ i < 11200 then some (v.1, a.getD i.toNat 0) else none
  { k with
    skewSamples := k.skewSamples + 1400, pairs := pairs
    shadowBefore := (near (-1)).foldl PairSums.add k.shadowBefore, shadowAfter := (near 1).foldl PairSums.add k.shadowAfter }

/-- Classes 0 and 1 of one channel. -/
def State.gatherSlices (s : State) (c : SlotCtx) (ch : Nat) (c0 c1 : Bool) : State :=
  let k := s.chanStats ch
  let x := c.samples.getD ch []
  let sh := (c.shadow.getD ch []).take 1400
  let q := c.shadowPos.getD ch 0
  let k := if c0 then k.offsets x sh q else k
  s.setChanStats ch (if c1 then k.skews x sh q else k)

/-- Code of a channel at sample `i` counted from the start of slot `c`. -/
def codeAround (before c after : SlotCtx) (ch : Nat) (i : Int) : Int :=
  if i < 0 then codeOf before.samples ch (i + 11200).toNat else if i < 11200 then codeOf c.samples ch i.toNat else codeOf after.samples ch (i - 11200).toNat

/-- ADC level at an instant in ft, between its two samples. -/
def levelAt (x : Int → Int) (e : Int) : Rat := (x (e / 64) : Rat) + ((x (e / 64 + 1) - x (e / 64)) * (e % 64) : Int) / 64

/-- The instant in ft nearest to `e` at which the ADC samples cross a level, none within the 32 samples that COMP_DELAY spans. -/
def crossedAt (x : Int → Int) (l e : Int) : Option Rat :=
  let dist := fun (t : Rat) => if t < (e : Rat) then (e : Rat) - t else t - e
  let ts := (List.range 66).filterMap fun j =>
    let k : Int := e / 64 + (j : Int) - 33
    let a := x k
    let b := x (k + 1)
    if a ≠ b ∧ (a - l) * (b - l) ≤ 0 then some (64 * ((k : Rat) + ((l - a : Int) : Rat) / ((b - a : Int) : Rat))) else none
  ts.foldl (fun m t => match m with
    | some u => if dist t < dist u then some t else m
    | none => some t) none

/-- A crossing counted by its raw code. -/
def ChanStats.hit (c : ChanStats) (code : Nat) : ChanStats :=
  { c with hits := setAt 0 c.hits code (c.hits.getD code 0 + 1), crossings := c.crossings + 1 }

/-- COMP_DELAY and LEVEL_OFS statistics of a crossing, given the samples around it (Table 14.1). -/
def ChanStats.edge (k : ChanStats) (x : Int → Int) (delay : Int) (p : Crossing) : ChanStats :=
  match p.thr with
  | none => k
  | some l =>
    let e := p.at_ - delay
    let k := { k with levelSum := k.levelSum + (levelAt x e - l), levels := k.levels + 1 }
    match crossedAt x l e with
    | some t => { k with delaySum := k.delaySum + (p.at_ - t), delays := k.delays + 1 }
    | none => k

/-- Class 2 statistics of one crossing: the density of its TDC's codes and, of a channel's comparator, delay and level. -/
def State.gatherCross (s : State) (before c after : SlotCtx) (p : Crossing) : State :=
  if p.ch = 48 then s.setCal { s.cal with trigIn := s.cal.trigIn.hit p.code }
  else
    let x := codeAround before c after p.ch
    s.setChanStats p.ch (((s.chanStats p.ch).hit p.code).edge x (toSigned 16 (regOf c.objs (K.COMP_DELAY p.ch))) p)

/-- Class 4 of one channel: the candidates of the slot's waveform (R357). -/
def State.gatherTrim (s : State) (before c after : SlotCtx) (ch : Nat) : State :=
  match emitterOf c.bank ch with
  | none => s
  | some e =>
    let k := s.chanStats ch
    let x := rawWave (windowCodes c after ch 0) (baselineOf before c ch 0)
    let y := matched (templateOf c.bank e) x
    let thr := threshold c.bank (c.amb.getD ch 0) (toSigned 16 (regOf c.objs (K.K0_TRIM ch))) (qFactor false 1 1)
    s.setChanStats ch { k with cands := k.cands + (candidates { thr := thr } y).length, bins := k.bins + 11200 }

/-- A shot that gives statistics: fired in full and not clipped in its first 64 samples (R353). -/
def goodShot (f : FireCmd) (codes : Array Int) : Bool :=
  (f.fate == .fired || f.fate == .ended) && !((List.range 64).any fun i => codes.getD i 0 == -2048 || codes.getD i 0 == 2047)

/-- Adds two waveforms. -/
def addWave (a : List Int) (x : Array Int) (n : Nat) : List Int :=
  let l := a.toArray
  (List.range n).map fun i => l.getD i 0 + x.getD i 0

/-- Classes 3 and 5 of one lit channel. -/
def State.gatherShot (s : State) (before c after : SlotCtx) (ch : Nat) (c3 c5 : Bool) : State × Option Nat :=
  match shotOf c ch with
  | none => (s, none)
  | some f =>
    let s0 := 64 + f.dither
    let codes := windowCodes c after ch s0
    if !bitAt c.active ch || !goodShot f codes then (s, none)
    else
      let x := rawWave codes (baselineOf before c ch s0)
      let k := s.chanStats ch
      let s := if c3 then s.setChanStats ch { k with sum := addWave k.sum x 11200, shots := k.shots + 1, fineSum := k.fineSum + f.fine } else s
      let m := s.cal.emits.getD f.emitter {}
      let s := if c5 then s.setCal { s.cal with emits := setAt {} s.cal.emits f.emitter { m with xtSum := addWave m.xtSum x 64, waves := m.waves + 1 } } else s
      (s, some f.emitter)

/-- A shot of an emitter that gave statistics of class 3 or 5 counts once, and for each of its ACTIVE lit channels. -/
def State.shotCounted (s : State) (c : SlotCtx) (e : Nat) (c3 c5 : Bool) : State :=
  let m := s.cal.emits.getD e {}
  let s := s.setCal { s.cal with emits := setAt {} s.cal.emits e { m with shots := m.shots + ofBool c3, xtShots := m.xtShots + ofBool c5 } }
  s.forEach (bitsSet (chMask c.bank e &&& c.active) 48) fun s ch =>
    s.setChanStats ch { s.chanStats ch with emShots := (s.chanStats ch).emShots + ofBool c3 }

/-- A granule of the workspace that a slot of gathering reads and writes back (R230, R364): the spec gives no layout, so place, contents and item are free
(log 31). -/
def State.calWork (s : State) (cls : Nat) : State :=
  let d := s.draw
  let r := fun (i : Nat) => (Config.unstated "CAL_WORK" [(d.1 : Int), (i : Int)]).toNat
  let n := if cls = 2 then 49 else if cls = 3 then 48 else 16
  let g : Granule := { master := 0x10, cls := 0, space := s.reg K.CAL_AS, va := s.reg K.CAL_BASE + r 64 % 1024 * 64 }
  d.2.enqueue [{ g with write := false, purpose := .calRead cls (r 65 % n) },
    { g with data := (List.range 64).map fun i => BitVec.ofNat 8 (r i), purpose := .calWork cls (r 65 % n) }]

/-- The workspace accesses for the slot whose processing stage begins (R352, R364). -/
def State.calWorks (s : State) : State :=
  let g := s.calGathers s.pipe.prev
  let s := if g 2 then s.calWork 2 else s
  let s := if g 3 then s.calWork 3 else s
  if g 5 then s.calWork 5 else s

/-- Statistics of the slot whose processing stage ends (R352, R353). -/
def State.calSum (s : State) : State :=
  let before := s.pipe.prev2
  let c := s.pipe.prev
  let after := s.pipe.cur
  let g := s.calGathers c
  if !(List.range 6).any g then s
  else
    let s := if g 0 || g 1 then s.forEach (bitsSet c.active 48) fun s ch => s.gatherSlices c ch (g 0) (g 1) else s
    let s := if g 2 then s.forEach c.crosses (State.gatherCross · before c after) else s
    let s := if g 4 then s.forEach (bitsSet c.active 48) fun s ch => s.gatherTrim before c after ch else s
    let s := if g 3 || g 5 then
        let r := (List.range 48).foldl (fun (p : State × List Nat) ch =>
          let q := p.1.gatherShot before c after ch (g 3) (g 5)
          (q.1, match q.2 with
            | some e => insertSorted e p.2
            | none => p.2)) (s, [])
        r.1.forEach r.2 fun s e => s.shotCounted c e (g 3) (g 5)
      else s
    s

/-- See `calSum`; an unfinished engine discards the slot's statistics, and an item whose workspace granule faulted gathers from the next slot on (R364). -/
def State.calGather (s : State) (units : Nat) : State :=
  let skip := s.cal.skip
  let s := s.setCal { s.cal with skip := [] }
  if bitAt units 15 then (if (List.range 6).any (s.calGathers s.pipe.prev) then s.count K.CAL_DISCARDS else s)
  else s.calSum.forEach skip fun s p => s.calClear p.1 p.2

/-- Hits of TRIG_IN's TDC in a slot that serves class 2 (R354). -/
def State.calOsc (s : State) (codes : List Nat) : State :=
  if s.calTakesTdc then s.forEach codes fun s c => s.keepCrossing { ch := 48, code := c % 128 } else s

/-! ### Target errors at a period end (R354 to R359) -/

/-- Minimum statistics of Table 14.2 for classes 0, 1 and 4, and for class 2. -/
def calMin : Nat := 1048576

/-- See `calMin`. -/
def tdcMin : Nat := 65536

/-- Mean of the codes of a histogram, and the sum of their distances from a value. -/
def histSum (h : List (Nat × Nat)) : Int := h.foldl (fun a p => a + ((p.1 : Int) - 2048) * p.2) 0

def histDist (h : List (Nat × Nat)) (m : Rat) : Rat :=
  h.foldl (fun a p => let d : Rat := ((p.1 : Int) - 2048 : Int) - m; a + (if d < 0 then -d else d) * (p.2 : Nat)) 0

/-- A free error of -1, 0 or 1 taps, for a statistic that the spec does not state in full (log 30). -/
def State.freeError (s : State) : Int × State :=
  let d := s.draw
  ((Config.freeNat d.1 % 3 : Nat) - 1, d.2)

/-- Offset and gain error of a slice: its codes against those of a reference, about the channel's mean (Table 14.1). -/
def gainErrors (ch q : Nat) (own ref : Rat × Rat) : List (Nat × Int) :=
  let gain := if ref.2 = 0 then Config.unstated "SLICE_GAIN" [(ch : Int), (q : Int)] else roundOpen "SLICE_GAIN" ((1 - own.2 / ref.2) * 32768)
  [(9 * ch + q, roundOpen "SLICE_OFFSET" ((ref.1 - own.1) * 16)), (itemGain + 9 * ch + q, gain)]

/-- Mean code of a histogram, and the mean distance of its codes from `m`. -/
def histFigures (h : List (Nat × Nat)) (n : Nat) (m : Rat) : Rat × Rat := ((histSum h : Rat) / (n : Nat), histDist h m / (n : Nat))

/-- Errors of the slice offsets and gains of a channel: of its eight positions against all of them, and of the shadow slice against the samples taken with
it, once it has the minimum itself (R351, R352). -/
def State.sliceErrors (s : State) (ch : Nat) : List (Nat × Int) :=
  let k := s.chanStats ch
  let n := k.samples
  let all : Rat := (sumInt (k.posHist.map histSum) : Rat) / (8 * n : Nat)
  let figures := k.posHist.map fun h => histFigures h n all
  let ref : Rat × Rat := (all, (figures.map (·.2)).foldl (· + ·) 0 / 8)
  let l := (List.range 8).flatMap fun p => gainErrors ch (s.sliceAt ch p) (figures.getD p (0, 0)) ref
  let m := k.shadowSamples
  if calMin ≤ m then l ++ gainErrors ch (s.shadowSlice ch) (histFigures k.shadowHist m all) (histFigures k.besideHist m all) else l

/-- Skew error of a slice from the correlations with its two neighbours (Table 14.1). A positive difference asks for a later edge, a higher tap; how many
taps a difference is, the spec does not state, so that only its direction counts, or less than half a tap where the free choice says so (log 30). -/
def State.skewError (s : State) (a b : PairSums) : Int × State :=
  match a.corr, b.corr with
  | some x, some y =>
    let d := s.draw
    if x = y then (0, s) else (if Config.freeNat d.1 % 2 = 0 then 0 else if y < x then 1 else -1, d.2)
  | _, _ => s.freeError

/-- Errors of the skews of a channel's slices. -/
def State.skewErrors (s : State) (ch : Nat) : List (Nat × Int) × State :=
  let k := s.chanStats ch
  let add := fun (r : List (Nat × Int) × State) (q : Nat) (a b : PairSums) =>
    let e := r.2.skewError a b
    (r.1 ++ [(itemSkew + 9 * ch + q, e.1)], e.2)
  let r := (List.range 8).foldl (fun r p => add r (s.sliceAt ch p) (k.pairs.getD ((p + 7) % 8) {}) (k.pairs.getD p {})) ([], s)
  if calMin ≤ min k.shadowBefore.n k.shadowAfter.n then add r (s.shadowSlice ch) k.shadowBefore k.shadowAfter else r

/-- Errors of a comparator's delay and level: COMP_DELAY follows the mean it is to remove, and LEVEL_OFS what of the level is left (Table 14.1). -/
def State.compErrors (s : State) (ch : Nat) (k : ChanStats) : List (Nat × Int) :=
  (if k.delays = 0 then [] else [(itemComp + ch, roundOpen "COMP_DELAY" (k.delaySum / (k.delays : Nat) - s.regI 16 (K.COMP_DELAY ch)))])
    ++ if k.levels = 0 then [] else [(itemLevel + ch, roundOpen "LEVEL_OFS" (k.levelSum / (k.levels : Nat)))]

/-- Target of a TDC's table (R354). -/
def cumTarget (hits : List Nat) (n k : Nat) : Int :=
  let below := sumNat (hits.take k)
  clampInt 0 255 (rheDiv (256 * (2 * below + hits.getD k 0 : Nat)) (2 * n))

/-- Errors of the TDC table `t`. -/
def State.cumErrors (s : State) (t : Nat) (k : ChanStats) : List (Nat × Int) :=
  (List.range 128).map fun i => (itemCum + 128 * t + i, cumTarget k.hits k.crossings i - s.item (itemCum + 128 * t + i))

/-- The window echo of a channel, t_w in ft, none where it is not found (R355, R356). -/
def State.windowEcho (s : State) (ch : Nat) : Option Int :=
  match emitterOf s.plan.active ch with
  | none => none
  | some e =>
    let k := s.chanStats ch
    let y := matched (templateOf s.plan.active e) k.sum.toArray
    let power := y.foldl (fun a v => a + v * v) 0
    let ok := (List.range (s.reg K.WIN_SPAN)).filterMap fun i =>
      if i = 0 then none
      else match candidateAt { thr := 1 } y i with
        | some x => let p := y.getD i 0
          if 64 * power < p * p * 11200 then some (p, x.t) else none
        | none => none
    (ok.foldl (fun (m : Option (Int × Int)) q => match m with
      | some b => if b.1 < q.1 then some q else some b
      | none => some q) none).map (·.2)

/-- n of R355 for a channel, none where the window is not found. -/
def State.windowDelay (s : State) (ch : Nat) : Option Rat :=
  let k := s.chanStats ch
  match emitterOf s.plan.active ch, s.windowEcho ch with
  | some e, some t => some ((t : Rat) - (k.fineSum : Nat) / (k.shots : Nat) - (s.reg (K.CAL_E e) : Nat))
  | _, _ => none

/-- Emitters and channels whose class 3 statistics have the minimum of the emitter's shots (Table 14.2). -/
def State.emitsReady (s : State) : List Nat := (List.range 16).filter fun e => decide (256 ≤ (s.cal.emits.getD e {}).shots)

def State.chansReady (s : State) : List Nat := (List.range 48).filter fun ch => decide (256 ≤ (s.chanStats ch).emShots)

/-- n_e of R355, over the lit channels with the window found. -/
def State.emitterDelay (s : State) (e : Nat) : Option Rat :=
  let l := (bitsSet (chMask s.plan.active e) 48).filterMap s.windowDelay
  if l.isEmpty then none else some (l.foldl (· + ·) 0 / (l.length : Nat))

/-- WIN_MEAS of a channel that has its statistics (R356). -/
def State.winShow (s : State) (ch : Nat) : State :=
  match s.windowDelay ch with
  | some n =>
    let v := rhe n - s.regI 16 (K.CAL_CH ch)
    s.put (K.WIN_MEAS ch) (if 0 ≤ v ∧ v ≤ 65534 then v.toNat else (Config.unstated "WIN_MEAS" [v]).toNat % 65536)
  | none => s.put (K.WIN_MEAS ch) 0xFFFF

/-- Errors of class 3. -/
def State.delayErrors (s : State) : List (Nat × Int) :=
  let ne := s.emitsReady.filterMap fun e => (s.emitterDelay e).map fun d => (e, d)
  let top := ne.foldl (fun m p => max m p.2) ((ne.head?.map (·.2)).getD 0)
  (ne.map fun p => (itemCalE + p.1, max 0 (min 63 (rhe (top - p.2))) - (s.reg (K.CAL_E p.1) : Int)))
    ++ s.chansReady.filterMap fun ch =>
      (s.windowDelay ch).map fun n =>
        (itemCalCh + ch, if s.reg (K.WIN_RANGE ch) = 0 then 0 else rhe (n - (s.reg (K.WIN_RANGE ch) : Nat)) - s.regI 16 (K.CAL_CH ch))

/-- Error of a channel's K0 trim (R357). -/
def State.trimError (s : State) (ch : Nat) : Int :=
  let k := s.chanStats ch
  let f := s.reg K.FA_TARGET
  if 2 * f * k.bins < k.cands * 1000000 then 1 else if k.cands * 2000000 < f * k.bins then -1 else 0

/-- Errors of an emitter's crosstalk template (R358). -/
def State.xtErrors (s : State) (e : Nat) : List (Nat × Int) :=
  let m := s.cal.emits.getD e {}
  (List.range 64).map fun i => (itemXt + 64 * e + i, rheDiv (m.xtSum.getD i 0) m.waves - s.item (itemXt + 64 * e + i))

/-- Every item of an enabled class whose statistics have reached the minimum, with its target error. -/
def State.calErrors (s : State) : List (Nat × Int) × State :=
  let en := bitAt (s.reg K.CAL_ENABLE)
  let chs := List.range 48
  let join := fun (r : List (Nat × Int) × State) (q : List (Nat × Int) × State) => (r.1 ++ q.1, q.2)
  let r : List (Nat × Int) × State := ([], s)
  let r := if en 0 then (r.1 ++ (chs.filter fun ch => decide (calMin ≤ (s.chanStats ch).samples)).flatMap s.sliceErrors, r.2) else r
  let r := if en 1 then (chs.filter fun ch => decide (calMin ≤ (s.chanStats ch).skewSamples)).foldl (fun r ch => join r (r.2.skewErrors ch)) r else r
  let r := if en 2 then
      let r := (r.1 ++ (chs.filter fun ch => decide (tdcMin ≤ (s.chanStats ch).crossings)).flatMap fun ch =>
        s.cumErrors ch (s.chanStats ch) ++ s.compErrors ch (s.chanStats ch), r.2)
      if tdcMin ≤ s.cal.trigIn.crossings then (r.1 ++ s.cumErrors 48 s.cal.trigIn, r.2) else r
    else r
  let r := if en 3 then (r.1 ++ s.delayErrors, r.2) else r
  let r := if en 4 then (r.1 ++ (chs.filter fun ch => decide (calMin ≤ (s.chanStats ch).bins)).map fun ch => (itemTrim + ch, s.trimError ch), r.2) else r
  if en 5 then (r.1 ++ ((List.range 16).filter fun e => decide (256 ≤ (s.cal.emits.getD e {}).xtShots) && decide (1 ≤ (s.cal.emits.getD e {}).waves)).flatMap
      s.xtErrors, r.2) else r

/-! ### Steps (R359 to R363, R369) -/

/-- Moves an item one tap in a direction, within its range: at the range's end there is no step. -/
def State.stepItem (s : State) (i : Nat) (err : Int) : State :=
  let r := itemRange i
  let v := clampInt r.1 r.2 (s.item i + (if 0 < err then 1 else -1))
  if v = s.item i then s
  else
    let s := ((s.setItem i v).tally K.CAL_STEPS).unsettle (· == i)
    { s with pipe := { s.pipe with nextCal := s.pipe.nextCal ||| s.itemChans i } }

/-- One measured item at the period end. -/
def State.measuredItem (s : State) (p : Nat × Int) : State := if p.2 = 0 then s.settleItem p.1 else s.stepItem p.1 p.2

/-- A channel without the class 0 statistics of its positions, or of its shadow slice. -/
def ChanStats.noOffsets (k : ChanStats) (shadow : Bool) : ChanStats :=
  if shadow then { k with shadowHist := [], besideHist := [], shadowSamples := 0 } else { k with samples := 0, posHist := List.replicate 8 [] }

/-- The same for class 1. -/
def ChanStats.noSkews (k : ChanStats) (shadow : Bool) : ChanStats :=
  if shadow then { k with shadowBefore := {}, shadowAfter := {} } else { k with skewSamples := 0, pairs := List.replicate 8 {} }

/-- The statistics that an item of a class and channel or emitter rests on are cleared. -/
def State.clearStats (s : State) (i : Nat) : State :=
  let ch := fun (c : Nat) (f : ChanStats → ChanStats) => if c < 48 then s.setChanStats c (f (s.chanStats c)) else s.setCal { s.cal with trigIn := {} }
  let em := fun (e : Nat) (f : EmitStats → EmitStats) => s.setCal { s.cal with emits := setAt {} s.cal.emits e (f (s.cal.emits.getD e {})) }
  let shadow := fun (c : Nat) => i % 432 % 9 == s.shadowSlice c
  if i < itemSkew then ch (i % 432 / 9) fun k => k.noOffsets (shadow (i % 432 / 9))
  else if i < itemCum then ch (i % 432 / 9) fun k => k.noSkews (shadow (i % 432 / 9))
  else if i < itemCalE then
    ch (if i < itemComp then (i - itemCum) / 128 else if i < itemLevel then i - itemComp else i - itemLevel) ChanStats.noCrossings
  else if i < itemCalCh then em (i - itemCalE) fun m => { m with shots := 0 }
  else if i < itemTrim then ch (i - itemCalCh) ChanStats.noShots
  else if i < itemXt then ch (i - itemTrim) fun k => { k with cands := 0, bins := 0 }
  else em ((i - itemXt) / 64) EmitStats.noWaves

/-- One restore target at the period end (R369): the item moves one tap towards it, or drops it once it is reached. -/
def State.restoreItem (s : State) (p : Nat × Int) : State :=
  let v := s.item p.1
  let s := if v = p.2 then s.setCal { s.cal with targets := storeDel s.cal.targets p.1 } else s.stepItem p.1 (p.2 - v)
  s.clearStats p.1

/-- Class 3 items whose statistics have the minimum: they clear at the period end also where the window was not found (R356, R359). -/
def State.delayItems (s : State) : List Nat :=
  if bitAt (s.reg K.CAL_ENABLE) 3 then s.emitsReady.map (itemCalE + ·) ++ s.chansReady.map (itemCalCh + ·) else []

/-- The period ends: restore targets first, then every measured item without a target; the statistics used clear and the shadow moves on. -/
def State.calStep (s : State) : State :=
  let r := s.calErrors
  let tg := s.cal.targets
  let used := s.delayItems
  let s := r.2.forEach (if bitAt (s.reg K.CAL_ENABLE) 3 then s.chansReady else []) State.winShow
  let s := s.forEach tg State.restoreItem
  let s := s.forEach (r.1.filter fun p => (storeGet tg p.1).isNone) State.measuredItem
  let s := s.forEach (r.1.map (·.1) ++ used) State.clearStats
  (s.setCal { s.cal with frames := 0, shadowPos := s.cal.shadowPos.map fun p => (p + 1) % 8 }).calShow

/-- The tick to come is the frame boundary that ends the period (R359, R362). -/
def State.calPeriodDue (s : State) : Bool :=
  s.cal.running && s.locked && s.lockedA && s.atFrameBoundary && !s.comet.startDue && !s.cal.periodDone
    && decide ((if s.mode = .calibrate then 1 else s.reg K.CAL_RATE) ≤ s.cal.frames + 1)

/-- Slices whose offset, gain or skew is at a limit of its range, with the period ends in a row (Table 16.4). -/
def State.limitCount (s : State) : State :=
  let edge := fun (i : Nat) => s.item i == (itemRange i).1 || s.item i == (itemRange i).2
  let l := (List.range 432).filterMap fun j =>
    if edge j || edge (itemGain + j) || edge (itemSkew + j) then some (j, (storeGet s.cal.limRun j).getD 0 + 1) else none
  s.setCal { s.cal with limRun := l }

/-- The tick to come is a frame boundary that counts and has not been counted. -/
def State.calBoundary (s : State) : Bool := s.cal.running && s.atFrameBoundary && !s.comet.startDue && !s.cal.periodDone

/-- The frame boundary of the tick to come has been counted. -/
def State.periodOver (s : State) : State := s.setCal { s.cal with periodDone := true }

/-- CAL_PERIOD_END. -/
def State.calPeriodEnd (s : State) : State :=
  if s.calPeriodDue then s.calStep.limitCount.periodOver else s

/-- The frame boundary of the tick to come: a period ends, or the frame is counted. -/
def State.calFrame (s : State) : State :=
  if s.calPeriodDue then s.calPeriodEnd
  else if s.calBoundary then (s.setCal { s.cal with frames := s.cal.frames + 1 }).periodOver else s

/-- The engine at a tick. -/
def State.calTick (s : State) : State :=
  let s := s.calFrame
  s.setCal { s.cal with periodDone := false }

/-- All statistics are discarded. -/
def Calib.noStats (c : Calib) : Calib :=
  { c with frames := 0, chans := List.replicate 48 {}, trigIn := {}, emits := List.replicate 16 {}, periodDone := false }

/-- On entry to a mode in which Comet runs the engine starts, on leaving it stops (R362). -/
def State.calEnter (s : State) : State := s.setCal { s.cal.noStats with running := true }

def State.calLeave (s : State) : State := s.setCal { s.cal.noStats with running := false }

/-- A channel's gain commit took effect (R363). -/
def State.calGain (s : State) (ch : Nat) : State :=
  (((s.clearStats (itemCalCh + ch)).clearStats (itemTrim + ch)).unsettle fun i => i == itemCalCh + ch || i == itemTrim + ch).calShow

/-- A slice swap of a channel took effect (R363). -/
def State.calSwap (s : State) (ch : Nat) : State :=
  let mine := fun (i : Nat) => decide (i < itemCum) && i % 432 / 9 == ch
  let k := s.chanStats ch
  ((s.setChanStats ch ((((k.noOffsets false).noOffsets true).noSkews false).noSkews true)).unsettle mine).calShow

/-- Activation of CG20: a class that becomes enabled is unsettled (R361). -/
def State.calCommit (s : State) (before : List (Nat × Nat)) : State :=
  let new := fun (c : Nat) => bitAt (s.reg K.CAL_ENABLE) c && !bitAt (regOf before K.CAL_ENABLE) c
  (s.unsettle fun i => new (itemClass i)).calShow

/-! ### The calibration image (R365 to R369) -/

def calImageLen : Nat := 12212

/-- Sections of the image for given item values (Table 14.4). -/
def calSections (v : Nat → Int) : List Byte :=
  ((List.range 432).flatMap fun j => leBytes 2 (ofSigned 16 (v j)) ++ leBytes 2 (ofSigned 16 (v (itemGain + j)))
      ++ leBytes 4 (v (itemSkew + j)).toNat)
    ++ ((List.range 6272).flatMap fun j => leBytes 1 (v (itemCum + j)).toNat)
    ++ ((List.range 49).flatMap fun j => leBytes 2 (ofSigned 16 (v (itemComp + j)))
      ++ leBytes 2 (if j < 48 then ofSigned 8 (v (itemLevel + j)) else 0))
    ++ ((List.range 16).flatMap fun j => leBytes 1 (v (itemCalE + j)).toNat)
    ++ ((List.range 48).flatMap fun j => leBytes 2 (ofSigned 16 (v (itemCalCh + j))))
    ++ ((List.range 48).flatMap fun j => leBytes 2 (ofSigned 16 (v (itemTrim + j))))
    ++ ((List.range 1024).flatMap fun j => leBytes 2 (ofSigned 16 (v (itemXt + j))))

/-- The whole image (Tables 14.3 and 14.4). -/
def calImage (uid tsnap flags : Nat) (v : Nat → Int) : List Byte :=
  let h := leBytes 2 0x434C ++ leBytes 2 1 ++ leBytes 4 calImageLen ++ leBytes 8 uid ++ leBytes 8 tsnap ++ leBytes 4 flags
  let b := calSections v
  h ++ leBytes 4 (crc32 (h ++ b)) ++ b

/-- Item values after BOOT (Table 14.4). -/
def itemDefault (i : Nat) : Int :=
  if itemSkew ≤ i ∧ i < itemCum then 32 else if itemCum ≤ i ∧ i < itemComp then 2 * ((i - itemCum) % 128 : Nat) + 1 else 0

/-- The image after BOOT. -/
def State.bootImage (s : State) : List Byte := calImage s.fuses.uniqueId 0 0 itemDefault

/-- Value of an item in an image. -/
def imageItem (b : List Byte) (i : Nat) : Int :=
  let u := fun (off n : Nat) => fieldAt b off n
  if i < itemGain then toSigned 16 (u (0x20 + 8 * i) 2)
  else if i < itemSkew then toSigned 16 (u (0x22 + 8 * (i - itemGain)) 2)
  else if i < itemCum then (u (0x24 + 8 * (i - itemSkew)) 1 : Nat)
  else if i < itemComp then (u (0xDA0 + (i - itemCum)) 1 : Nat)
  else if i < itemLevel then toSigned 16 (u (0x2620 + 4 * (i - itemComp)) 2)
  else if i < itemCalE then toSigned 8 (u (0x2622 + 4 * (i - itemLevel)) 1)
  else if i < itemCalCh then (u (0x26E4 + (i - itemCalE)) 1 : Nat)
  else if i < itemTrim then toSigned 16 (u (0x26F4 + 2 * (i - itemCalCh)) 2)
  else if i < itemXt then toSigned 16 (u (0x2754 + 2 * (i - itemTrim)) 2)
  else toSigned 16 (u (0x27B4 + 2 * (i - itemXt)) 2)

/-- Reserved bytes of an image: three of every slice record, one of every COMP record, and TRIG_IN's LEVEL_OFS. -/
def reservedZero (b : List Byte) : Bool :=
  ((List.range 432).all fun j => fieldAt b (0x25 + 8 * j) 3 == 0) && ((List.range 49).all fun j => fieldAt b (0x2623 + 4 * j) 1 == 0)
    && fieldAt b (0x2622 + 4 * 48) 1 == 0 && fieldAt b 24 4 < 64

/-- The refusals of R367: none, LENGTH (0x03) or RANGE (0x04) by `false` and `true`. -/
def State.imageFault (s : State) (b : List Byte) : Option Bool :=
  let head := fieldAt b 0 2 == 0x434C && fieldAt b 2 2 == 1 && fieldAt b 4 4 == calImageLen && fieldAt b 8 8 == s.fuses.uniqueId
    && fieldAt b 28 4 == crc32 (b.take 28 ++ b.drop 32)
  let inRange := (List.range itemEnd).all fun i =>
    (itemCalCh ≤ i) || (let r := itemRange i; decide (r.1 ≤ imageItem b i) && decide (imageItem b i ≤ r.2))
  let rising := (List.range 49).all fun t => (List.range 127).all fun k =>
    decide (imageItem b (itemCum + 128 * t + k) ≤ imageItem b (itemCum + 128 * t + k + 1))
  if b.length ≠ calImageLen then some false
  else if !head || !reservedZero b || !inRange || !rising then some true else none

/-- CAL_IMAGE accepted (R368, R369) by a write that takes effect at `cc`: a restore unsettles every item (R361). -/
def State.imageTake (s : State) (cc : Nat) (b : List Byte) : State :=
  let s := s.putDom K.CAL_IMAGE b
  if s.cal.running then
    (s.setCal { s.cal with settled := [], targets := (List.range itemEnd).map fun i => (i, imageItem b i) }).calShow
  else s.setCal { s.cal with applyTicks := ticksAfter cc, accepted := b }

/-- CAL_IMAGE_APPLY: at the first tick more than 40 cc after the write every value accepted is in force and every enabled item unsettled (R368). -/
def State.imageApply (s : State) : State :=
  if s.cal.applyTicks ≠ 1 then s
  else
    let b := s.cal.accepted
    let s := (List.range itemEnd).foldl (fun s i => s.setItem i (imageItem b i)) s
    ((s.setCal { s.cal with applyTicks := 0, accepted := [], settled := [], targets := [] }).calShow)

/-- CAL_SNAP (R366). -/
def State.calSnap (s : State) (cc v : Nat) : State := if v = 1 then s.setCal { s.cal with snapTicks := ticksAfter cc } else s

/-- CAL_SNAPSHOT_TICK: the values in force after every change of the tick are captured. -/
def State.snapTake (s : State) : State :=
  if !s.cal.snapDue then s
  else s.setCal { s.cal with snapDue := false
                             snapshot := some (calImage s.fuses.uniqueId (compactStamp s.slot 0 0) (s.reg K.CAL_UNSETTLED) s.item) }

/-- CAL_SNAP_WRITTEN. -/
def State.snapWritten (s : State) : State :=
  let s := s.snapTake
  match s.cal.snapshot with
  | some b => (((s.putDom K.CAL_IMAGE b)).tally K.CAL_SNAP_SEQ).setCal { s.cal with snapshot := none }
  | none => s

/-- Counts of ticks of this chapter at a tick. -/
def State.calCounts (s : State) : State :=
  let s := s.snapTake.imageApply
  let n := s.cal.snapTicks
  s.setCal { s.cal with snapTicks := tickDown n, snapDue := n == 1, applyTicks := tickDown s.cal.applyTicks }

end Sys2Proof.Machine
end

