-- ==== Sys2Proof/Machine/Spares.lean ====
section
/-! DEFINITION. Chapter 16: units and their tests, the self-test, spares, failures, take-overs and returns, the retire fuse bank and the secrets. -/

namespace Sys2Proof.Machine

def State.setSpares (s : State) (x : Spares) : State := { s with spares := x }

def State.setBist (s : State) (x : Bist) : State := s.setSpares { s.spares with bist := x }

/-! ### Units (R406, Table 16.1) -/

def unitClass (u : Nat) : Nat := u / 65536

def unitInst (u : Nat) : Nat := u % 65536

/-- The unit exists. -/
def unitKnown (u : Nat) : Bool :=
  let i := unitInst u
  match unitClass u with
  | 1 => decide (i / 16 < 48 ∧ i % 16 < 9)
  | 2 => decide (i < 48)
  | 3 => decide (i < 13)
  | 4 => decide (i < 26)
  | 5 => decide (i < 50)
  | 6 => decide (i < 9)
  | 7 | 8 => decide (i < 2)
  | 10 => decide (i < 4)
  | 16 => decide (i < 7)
  | _ => false

/-- The class accepts a test of this kind. -/
def kindOk (kind u : Nat) : Bool :=
  match unitClass u with
  | 1 | 2 => kind == 3
  | 3 | 4 => kind == 1 || kind == 2
  | 5 => kind == 2
  | 6 | 7 => kind == 4
  | 8 => kind == 1
  | 10 => kind == 5
  | 16 => kind == 1 || (kind == 2 && (unitInst u == 0 || unitInst u == 5 || unitInst u == 6))
  | _ => false

/-- The class has spares for hand-over. -/
def spared (u : Nat) : Bool := [1, 3, 4, 5, 6, 7].contains (unitClass u)

/-- Channels of a unit. -/
def unitChans (u : Nat) : List Nat :=
  let i := unitInst u
  match unitClass u with
  | 1 => [i / 16]
  | 3 => if i < 12 then [4 * i, 4 * i + 1, 4 * i + 2, 4 * i + 3] else []
  | 4 => if i < 24 then [2 * i, 2 * i + 1] else []
  | _ => []

/-- The same as bits. -/
def unitMask (u : Nat) : Nat := sumNat ((unitChans u).map fun c => 2 ^ c)

/-- Code of a slice. -/
def sliceUnit (ch q : Nat) : Nat := 0x10000 + 16 * ch + q

/-- The spare slice of a channel is free (SLICE_FREE). -/
def State.sliceFree (s : State) (ch : Nat) : Bool :=
  let u := sliceUnit ch (s.shadowSlice ch)
  !s.spares.list.contains u && !s.underTest u && !(s.spares.opStep != .idle && s.spares.opUnit == u)

/-- Echo engine spares, spectrum spares, spare banks, transmit and receive lanes free (POOL_FREE). -/
def State.poolFree (s : State) (i : Nat) : Nat :=
  match i with
  | 0 => ofBool (s.reg (K.EE_STATE 12) == 0 && s.reg K.EE12_FOR == 255)
  | 1 => ((List.range 2).filter fun j => s.reg (K.SP_STATE (24 + j)) == 0 && s.reg (K.SPARE_FOR j) == 255).length
  | 2 => s.spareBanks.length
  | 3 => ofBool s.spareFree
  | _ => ofBool (s.reg K.RX_ACTIVE == 0 && !s.rxOut 1)

/-- Whether two units draw on one pool of spares. -/
def samePool (u v : Nat) : Bool := unitClass u == unitClass v && (unitClass u != 1 || unitInst u / 16 == unitInst v / 16)

/-- Units that wait for a spare of the unit's pool. -/
def State.claims (s : State) (u : Nat) : Nat :=
  ((s.spares.failWait ++ s.spares.planned.map (·.1)).filter fun v => samePool u v && v != u).length

/-- A request to move a bank is accepted once a spare reads SPARE (R244). -/
def State.retireOpen (s : State) : Bool := !s.fs.retire.busy && (s.reg K.RETIRE_STATE == 0 || s.reg K.RETIRE_STATE == 4)

/-- A spare of the unit's pool is free at this moment. -/
def State.poolOpen (s : State) (u : Nat) : Bool :=
  match unitClass u with
  | 1 => s.sliceFree (unitInst u / 16)
  | 3 => s.poolFree 0 == 1
  | 4 => decide (1 ≤ s.poolFree 1)
  | 5 => decide (1 ≤ s.spareBanks.length)
  | 6 => s.spareFree
  | _ => false

/-- A spare of the unit's pool is free for it. -/
def State.spareFor (s : State) (u : Nat) : Bool :=
  let n := match unitClass u with
    | 1 => ofBool (s.sliceFree (unitInst u / 16))
    | 3 => s.poolFree 0
    | 4 => s.poolFree 1
    | 5 => if s.retireOpen then s.spareBanks.length else 0
    | 6 => s.poolFree 3
    | 7 => ofBool (s.rxUsable (1 - unitInst u))
    | _ => 0
  decide (s.claims u < n)

/-- The logical bank that a physical bank serves. -/
def State.logicalOf (s : State) (p : Nat) : Option Nat := (List.range 48).find? fun b => s.reg (K.BANK_MAP b) == p

/-- The logical lane that a physical transmit lane serves. -/
def State.lanePos (s : State) (p : Nat) : Option Nat := (List.range 8).find? fun b => s.reg (K.LANE_MAP b) == p

/-- The unit is retired. -/
def State.unitOut (s : State) (u : Nat) : Bool := s.spares.list.contains u

/-- The unit itself serves a duty. -/
def State.hasDuty (s : State) (u : Nat) : Bool :=
  let i := unitInst u
  match unitClass u with
  | 1 => s.shadowSlice (i / 16) != i % 16
  | 3 => if i = 12 then s.reg K.EE12_FOR != 255 else s.reg (K.EE_STATE i) == 0
  | 4 => if 24 ≤ i then s.reg (K.SPARE_FOR (i - 24)) != 255 else s.reg (K.SP_STATE i) == 0
  | 5 => (s.logicalOf i).isSome
  | 6 => (s.lanePos i).isSome && !bitAt s.link.retired i
  | 7 => s.reg K.RX_ACTIVE == i
  | _ => true

/-- A spare serves the unit's duty in its place. -/
def State.spareServes (s : State) (u : Nat) : Bool :=
  let i := unitInst u
  match unitClass u with
  | 1 => s.shadowSlice (i / 16) == i % 16
  | 3 => s.reg K.EE12_FOR == i
  | 4 => (s.spareOf i).isSome
  | 5 => (s.logicalOf i).isNone && !s.fs.retire.busy
  | 6 => (s.lanePos i).isNone
  | 7 => s.reg K.RX_ACTIVE != i
  | _ => false

/-- State code of an engine, a pipeline or a spare bank. -/
def State.putUnit (s : State) (u c : Nat) : State :=
  match unitClass u with
  | 3 => s.put (K.EE_STATE (unitInst u)) c
  | 4 => s.put (K.SP_STATE (unitInst u)) c
  | _ => s

/-- Enters a unit in RETIRED_LIST; a test it passed before no longer counts. -/
def State.listAdd (s : State) (u : Nat) : State :=
  s.setSpares { s.spares with list := if s.spares.list.contains u ∨ 64 ≤ s.spares.list.length then s.spares.list else s.spares.list ++ [u]
                              passed := s.spares.passed.filter (· != u) }

/-- Takes a unit off it. -/
def State.listDel (s : State) (u : Nat) : State :=
  s.setSpares { s.spares with list := s.spares.list.filter (· != u), passed := s.spares.passed.filter (· != u) }

/-- Spare fuse rows still free (FUSE_ROWS_FREE). -/
def State.fuseRows (s : State) : Nat := 16 - s.fuses.rowsUsed

/-- The fuse controller redirects a failed row to a spare one, while there is one. -/
def State.fuseRowOut (s : State) : State := { s with fuses := { s.fuses with rowsUsed := min 16 (s.fuses.rowsUsed + 1) } }

/-! ### A duty changes hands (Table 16.4) -/

/-- An accumulation group of one of the channels is in progress at a tick: its slots, or the pass of its last slot, are not over (R144, R419). `t` is the tick's
sample, 0 once the slots have moved on. -/
def State.groupBusy (s : State) (l : List Nat) (t : Int) : Bool :=
  let c := if t = 0 then s.pipe.prev else s.pipe.cur
  c.live && c.accum.isSome && decide (1 ≤ c.groupPos) && c.kind == .slot && l.any (litIn c)

/-- Replaces a slice of a channel's map by its shadow slice at a tick (R109). -/
def State.sliceSwap (s : State) (ch old : Nat) : State :=
  match (List.range 8).find? fun p => s.sliceAt ch p == old with
  | some p =>
    let m := s.reg (K.SLICE_MAP ch)
    (s.put (K.SLICE_MAP ch) (m - old * 16 ^ p + s.shadowSlice ch * 16 ^ p)).calSwap ch
  | none => s

/-- The averages in progress of a pipeline are dropped, and its channels start anew at sample `t` (R163, R183). -/
def State.pipeRestart (s : State) (p : Nat) (t : Int) : State :=
  s.forEach [2 * p, 2 * p + 1] fun s ch =>
    let on := (s.spec1 ch).on
    let s := s.setSpec ch { s.spec1 ch with count := 0, acc := [], dropNext := true, on := false }
    if on then s.specStartChan ch t else s

/-- A spare takes the duty of a unit at a tick; `t` is the tick's sample. After a failure the groups and averages in progress are lost. -/
def State.takeOver (s : State) (u : Nat) (fail : Bool) (t : Int) : State :=
  let i := unitInst u
  let code := if s.underTest u then 3 else 4
  let s := s.count K.TAKEOVERS
  match unitClass u with
  | 1 => s.sliceSwap (i / 16) (i % 16)
  | 3 =>
    let s := ((s.put K.EE12_FOR i).put (K.EE_STATE i) code).count K.EE_TAKEOVERS
    if fail then { s with pipe := { s.pipe with nextTaken := s.pipe.nextTaken ||| unitMask u } } else s
  | 4 => if fail && s.freePipe.isSome then (s.pipeTake i).pipeRestart i t else s.pipeTake i
  | _ => s

/-- A unit takes its duty back at a tick; with `lossy` the results in progress on the spare are lost (R411, R419), and with
an engine the single-shot histories of its channels (log 57). -/
def State.takeBack (s : State) (u : Nat) (lossy : Bool) (t : Int) : State :=
  let i := unitInst u
  match unitClass u with
  | 1 =>
    let ch := i / 16
    if s.reg (K.CH_STATE ch) = 3 ∧ s.shadowSlice ch ≠ i % 16 then s.put (K.CH_STATE ch) 0
    else if i % 16 < 8 && s.shadowSlice ch == i % 16 then s.sliceSwap ch (s.sliceAt ch (i % 16))
    else s
  | 2 => if s.reg (K.CH_STATE i) = 3 then s.put (K.CH_STATE i) 0 else s
  | 3 =>
    let s := s.put (K.EE_STATE i) 0
    if i < 12 && s.reg K.EE12_FOR == i then
      let s := s.put K.EE12_FOR 255
      if lossy then { s with pipe := { s.pipe with nextTaken := s.pipe.nextTaken ||| unitMask u } } else s
    else s
  | 4 =>
    let s := s.put (K.SP_STATE i) 0
    match s.spareOf i with
    | some j =>
      let s := s.put (K.SPARE_FOR j) 255
      if lossy then s.pipeRestart i t else s
    | none => s
  | _ => s

/-! ### Secrets (R413, R415) -/

/-- Both secrets and the active Dither Table are zeroised. -/
def State.zeroise (s : State) : State :=
  let s := (s.put K.KEY_STATE (s.reg K.KEY_STATE &&& 4)).count K.ZEROISE_COUNT
  { s with plan := { s.plan with ditherNonce := none } }

/-- NONCE of a plan. -/
def planNonce (b : PlanBank) : Nat := fieldAt b.plan 16 8

/-- The secrets are reloaded from the fuses, and the active Dither Table is generated anew. -/
def State.keysReload (s : State) : State :=
  if s.regBit K.KEY_STATE 2 then s
  else
    let s := s.put K.KEY_STATE (s.reg K.KEY_STATE ||| 3)
    if s.plan.hasActive then { s with plan := { s.plan with ditherNonce := some (planNonce s.plan.active) } } else s

/-! ### Returns (R419 to R421) -/

/-- SPARE_OP_STATE goes idle with a result. -/
def State.opDone (s : State) (result : Nat) : State :=
  let u := s.spares.opUnit
  let s := s.setSpares { s.spares with opStep := .idle, left := 0 }
  let s := (s.put K.SPARE_OP_STATE 0).put K.SPARE_OP_RESULT result
  if s.reg K.BIST_STATE = 5 ∧ s.spares.bist.unit = u then s.put K.BIST_STATE 0 else s

/-- A unit is back in its duty, or in its spare state. -/
def State.returned (s : State) (u : Nat) : State :=
  let s := (s.listDel u).count K.RETURNS
  if s.spares.opStep != .idle && s.spares.opUnit == u then s.opDone 0
  else if s.reg K.BIST_STATE = 5 ∧ s.spares.bist.unit = u then s.put K.BIST_STATE 0
  else s

/-- The logical bank that a physical bank returns to: the one it left, unless that one's own bank serves it again; a spare as built has none otherwise
(R408, R419). -/
def State.bankDuty (s : State) (i : Nat) : Option Nat :=
  match storeGet s.spares.served i with
  | some b => if s.reg (K.BANK_MAP b) = b ∧ i ≠ b then none else some b
  | none => if i < 48 then some i else none

/-- Starts the sequence by which a bank or a lane returns, once nothing stands in its way; others wait for a tick. A bank's request that finds RETIRE_STATE
FAILED is refused and made again at the next tick, and a lane whose logical lane has not left it is back at once (log 59). -/
def State.returnTry (s : State) : State :=
  let u := s.spares.opUnit
  let i := unitInst u
  if s.spares.opStep != .wait then s
  else match unitClass u with
  | 5 =>
    if s.fs.retire.busy then s
    else if !s.retireOpen then s.put K.RETIRE_STATE 4
    else match s.bankDuty i with
      | none => (s.put (K.BANK_STATE i) 1).returned u
      | some b => (s.bankMove b i (if s.unitOut (0x50000 + s.reg (K.BANK_MAP b)) then 6 else 1)).setSpares { s.spares with opStep := .moving }
  | 6 =>
    let s := s.setLink { s.link with testing := withBit s.link.testing i false }
    if i = 8 ∨ s.reg (K.LANE_MAP i) ≠ 8 then (s.setLink { s.link with retired := withBit s.link.retired i false }).returned u
    else (({ s with link := { s.link with passed := withBit s.link.passed i true } }).laneReturn i).setSpares { s.spares with opStep := .moving }
  | 7 =>
    let s := s.returned u
    if i = 0 ∧ s.reg K.RX_ACTIVE = 1 ∧ s.rxUsable 0 then s.rxSwitch 0 else s
  | _ => s

/-- A return starts (R419). -/
def State.returnStart (s : State) (u : Nat) : State :=
  (s.setSpares { s.spares with opUnit := u, opStep := .wait }).put K.SPARE_OP_STATE 3

/-- UNIT_RETURN (R421). -/
def State.unitReturn (s : State) (u : Nat) : State :=
  if s.spares.opStep != .idle || s.reg K.BIST_STATE == 5 then s.put K.SPARE_OP_RESULT 4
  else if s.unitOut u && !s.fuseRetired u && s.spares.passed.contains u && !s.underTest u then s.returnStart u
  else s.put K.SPARE_OP_RESULT 1

/-- A mismatch in the shadow phase (R420). -/
def State.shadowMismatch (s : State) : State :=
  let u := s.spares.opUnit
  ((s.putUnit u 4).setSpares { s.spares with passed := s.spares.passed.filter (· != u) } |>.listAdd u |>.count K.RETURN_MISMATCH).opDone 3

/-! ### The self-test (R407 to R412) -/

/-- The tested region is saved and restored. -/
def saves (kind u : Nat) : Bool := decide (kind ≤ 3) && unitClass u != 5

/-- Sets BIST_STATE and starts its count of ticks. -/
def State.bistState (s : State) (n : Nat) : State := (s.setBist { s.spares.bist with stateTicks := 0 }).put K.BIST_STATE n

/-- What the save RAM takes of a unit. A unit without a duty has none of its channels' contents: they are its spare's (R409). -/
def State.region (s : State) (u : Nat) : Region :=
  let i := unitInst u
  match unitClass u with
  | 1 => .slice (s.cal.slices.getD (9 * (i / 16) + i % 16) {})
  | 2 => .front (s.rx.getD i {})
  | 3 => if s.hasDuty u && decide (i < 12) then .engine ((unitChans u).map fun ch => s.pipe.chans.getD ch {}) else .empty
  | 4 => if s.hasDuty u && decide (i < 24) then .pipeline ((unitChans u).map fun ch => s.spec1 ch) else .empty
  | 8 => .can (s.can.getD i {})
  | 16 => match i with
    | 0 => .comet s.comet s.plan
    | 1 => .trigger s.trg s.cap
    | 2 => .density s.spec.dens
    | 3 => .decimators s.dec
    | 4 => .calibration s.cal
    | _ => .empty
  | _ => .empty

/-- The saved contents come back. -/
def State.restore (s : State) (u : Nat) (r : Region) : State :=
  let i := unitInst u
  match r with
  | .empty => s
  | .slice c => s.setCal { s.cal with slices := setAt {} s.cal.slices (9 * (i / 16) + i % 16) c }
  | .front c => { s with rx := setAt {} s.rx i c }
  | .engine l => { s with pipe := { s.pipe with chans := ((unitChans u).zip l).foldl (fun m p => setAt {} m p.1 p.2) s.pipe.chans } }
  | .pipeline l => ((unitChans u).zip l).foldl (fun s p => s.setSpec p.1 p.2) s
  | .can c => { s with can := setAt {} s.can i c }
  | .comet c p => { s with comet := c, plan := p }
  | .trigger t c => { s with trg := t, cap := c }
  | .density m => { s with spec := { s.spec with dens := m } }
  | .decimators d => { s with dec := d }
  | .calibration c => { s with cal := c }

/-- Channels that a test of this kind powers in SELF-TEST: an analogue loopback's own (R98, R118). -/
def loopChans (kind u : Nat) : Nat :=
  match unitClass u with
  | 1 => if kind = 3 then 2 ^ (unitInst u / 16) else 0
  | 2 => if kind = 3 then 2 ^ unitInst u else 0
  | _ => 0

/-- The save or test phase starts. -/
def State.bistBegin (s : State) : State :=
  let b := s.spares.bist
  let s := { s with rxTest := loopChans b.kind b.unit }
  let s := if unitClass b.unit = 16 ∧ 5 ≤ unitInst b.unit then s.zeroise else s
  let s := s.putUnit b.unit 3
  -- a spare bank under test is no spare
  let s := if unitClass b.unit = 5 ∧ s.reg (K.BANK_STATE (unitInst b.unit)) = 1 then s.put (K.BANK_STATE (unitInst b.unit)) 4 else s
  let s := if unitClass b.unit = 6 then s.setLink { s.link with testing := withBit s.link.testing (unitInst b.unit) true } else s
  s.bistState (if saves b.kind b.unit then 2 else 3)

/-- BIST_HANDOVER_DONE. -/
def State.bistHanded (s : State) : State :=
  let u := s.spares.bist.unit
  if s.reg K.BIST_STATE = 1 && s.spareServes u && !s.spares.planned.any (·.1 == u) then
    (s.setBist { s.spares.bist with handed := true }).bistBegin
  else s

/-- BIST_SAVE_DONE: the unit's region stands in the save RAM. -/
def State.bistSaved (s : State) : State :=
  if s.reg K.BIST_STATE = 2 then (s.setBist { s.spares.bist with saved := s.region s.spares.bist.unit }).bistState 3 else s

/-- A test command is refused. -/
def State.bistRefuse (s : State) (r : Nat) : State := (s.put K.BIST_RESULT 5).put K.BIST_REASON r

/-- The mode allows the test (R407); a CAN controller only while its CAN_EN bit is 0. -/
def State.bistModeOk (s : State) (u : Nat) : Bool :=
  (s.mode == .selfTest || (s.mode.isRunning && (unitClass u == 10 || spared u || s.unitOut u)))
    && (unitClass u != 8 || !s.regBit K.CAN_EN (unitInst u))

/-- A planned take-over begins. -/
def State.planTakeOver (s : State) (u : Nat) : State :=
  let i := unitInst u
  match unitClass u with
  | 5 => match s.logicalOf i with
    | some b => s.bankRetireAs b 4
    | none => s
  | 6 => match s.lanePos i with
    | some b => s.laneRetire b
    | none => s
  | 7 => (s.count K.TAKEOVERS).rxSwitch (1 - i)
  | _ => s.setSpares { s.spares with planned := s.spares.planned ++ [(u, (unitChans u).map fun ch => (s.spec1 ch).seq)] }

/-- A write to BIST_CMD (R407). -/
def State.bistCmd (s : State) (v : Nat) : State :=
  let kind := bits v 31 28
  let u := bits v 23 0
  let out := s.unitOut u
  let hand := !out && s.hasDuty u && spared u && (s.mode.isRunning || unitClass u == 5)
  if s.reg K.BIST_STATE ≠ 0 then s.bistRefuse 1
  else if bits v 27 24 ≠ 0 || !unitKnown u || !kindOk kind u then s.bistRefuse 4
  else if s.fuseRetired u then s.bistRefuse 5
  else if !s.bistModeOk u then s.bistRefuse 2
  else if hand && !s.spareFor u then s.bistRefuse 3
  else
    let s := s.setBist { kind := kind, unit := u, wasOut := out }
    let s := ((s.put K.BIST_LAST_CMD v).put K.BIST_RESULT 1).put K.BIST_REASON 0
    if hand then (s.bistState 1).planTakeOver u else s.bistBegin

/-- Duration in µs of a test that runs to its end (Table 16.1): a bank's March test takes 1,310,720 cc, a marker interval 6.5536 µs and a receive marker
interval 26.2144 µs (R250), and a core block's LBIST a time within the bounds the table gives. -/
def State.testTime (s : State) (kind u : Nat) : Rat × State :=
  match unitClass u with
  | 1 => (200, s)
  | 3 => (if kind = 1 then 3200 else 1100, s)
  | 4 => (if kind = 1 then 2400 else 800, s)
  | 5 => (1310720 / 1400, s)
  | 6 => ((s.reg K.PRBS_LEN : Nat) * 65536 / 10000, s)
  | 7 => ((s.reg K.PRBS_LEN : Nat) * 262144 / 10000, s)
  | 10 => (200, s)
  | 16 => if kind = 1 then (let d := s.draw; ((400 + Config.freeNat d.1 % 1601 : Nat), d.2)) else (500, s)
  | _ => (500, s)

/-- The test is over, whatever its result; `full` when it ran to its end. Its time is counted in ticks otherwise. -/
def State.bistOver (s : State) (outcome reason : Nat) (full : Bool) : State :=
  let b := s.spares.bist
  let d := if full then s.testTime b.kind b.unit else ((2 * b.runTicks : Nat), s)
  let s := d.2.setBist { b with outcome := outcome }
  (((s.put K.BIST_RESULT outcome).put K.BIST_REASON reason).tally K.BIST_SEQ).put K.BIST_TIME (roundOpen "BIST_TIME" d.1).toNat

/-- A unit out of its duty returns at the next tick without a shadow frame, as an aborted test demands (R411). -/
def State.bistBack (s : State) : State :=
  let u := s.spares.bist.unit
  let s := s.put K.BIST_STATE 5
  if [1, 3, 4].contains (unitClass u) then s.setSpares { s.spares with back := s.spares.back ++ [(u, true)] } else s

/-- A unit is marked failed for good and entered in RETIRED_LIST, without a look at its duty (R418). -/
def State.markFailed (s : State) (u : Nat) : State :=
  let i := unitInst u
  let s := (s.listAdd u).putUnit u 4
  match unitClass u with
  | 2 => s.put (K.CH_STATE i) 3
  | 5 => if (s.logicalOf i).isNone then s.put (K.BANK_STATE i) 6 else s
  | 6 => s.setLink { s.link with retired := withBit s.link.retired i true, passed := withBit s.link.passed i false }
  | _ => s

/-- A spare bank that was tested without a duty reads SPARE again. -/
def State.bankIdle (s : State) (u : Nat) : State := if unitClass u = 5 ∧ (s.logicalOf (unitInst u)).isNone then s.put (K.BANK_STATE (unitInst u)) 1 else s

/-- Stops the test in progress for a reason of Table 16.2, before its done flag is set (R411). -/
def State.bistStop (s : State) (reason : Nat) : State :=
  let b := s.spares.bist
  let st := s.reg K.BIST_STATE
  if st = 0 ∨ 4 ≤ st then s
  else
    let s := s.bistOver 4 reason false
    if st = 1 then
      let served := s.spareServes b.unit && !s.spares.planned.any (·.1 == b.unit)
      let s := s.setSpares { s.spares with planned := s.spares.planned.filter (·.1 != b.unit) }
      if unitClass b.unit = 5 && !s.fs.retire.draining && !served then
        let r := s.fs.retire
        let s := if r.copying || r.ticks != 0 then (s.putBank r.source s.sourceBack).putBank r.target (if s.reg (K.BANK_STATE r.target) = 5 then 5 else 1) else s
        ((s.onlyIf r.busy fun s => s.put K.RETIRE_STATE 0).setFs { s.fs with retire := {} }).put K.BIST_STATE 0
      else if served || unitClass b.unit == 5 || unitClass b.unit == 6 then s.bistBack
      else s.put K.BIST_STATE 0
    else if saves b.kind b.unit then s.bistState 4
    else if b.handed then s.bistBack
    else
      let s := if unitClass b.unit = 6 then s.setLink { s.link with testing := withBit s.link.testing (unitInst b.unit) false } else s
      let s := if b.wasOut then s else s.bankIdle b.unit
      (s.setSpares { s.spares with passed := s.spares.passed.filter (· != b.unit) }).put K.BIST_STATE 0

/-- The target of a bank copy fails before it serves (R244, R418): it is listed. A source that is failing itself waits for another spare, a self-test whose
hand-over it was is aborted (R411), and a retirement on request ends without one. -/
def State.targetFailed (s : State) : State :=
  let r := s.fs.retire
  let p := 0x50000 + r.source
  let s := s.copyFailed.listAdd (0x50000 + r.target)
  let s := if r.after = 6 ∧ r.source < 50 then s.setSpares { s.spares with failWait := s.spares.failWait ++ [p] } else s
  if s.reg K.BIST_STATE = 1 ∧ s.spares.bist.unit = p then s.bistStop 0x12
  else if s.spares.opStep = .takeOver ∧ s.spares.opUnit = p then s.opDone 2
  else s

/-- A failed bank that serves logical bank `l` (R244, R245, R411): the test it serves is aborted, and the tested bank takes its duty back; else a spare takes
it, at once or when the fabric is free for it, a self-test that holds the last one giving it up; with none the contents are lost. -/
def State.bankFailed (s : State) (i l : Nat) (testing : Bool) : State :=
  let wait := s.setSpares { s.spares with failWait := s.spares.failWait ++ [0x50000 + i] }
  if testing && s.spares.bist.handed && s.bankDuty (unitInst s.spares.bist.unit) == some l then s.bistStop 0x12
  else if !s.retireOpen then wait
  else if !s.spareBanks.isEmpty then s.bankRetireAs l 6
  else if testing then wait.bistStop 0x11
  else (s.bankLost l).put (K.BANK_STATE i) 6

/-- A failed transmit lane that serves logical lane `l` (R276, R411). -/
def State.laneFailed (s : State) (i l : Nat) (testing : Bool) : State :=
  if bitAt s.link.retired i then s
  else if testing && i == 8 then (s.setLink { s.link with retired := withBit s.link.retired 8 true }).bistStop 0x12
  else if testing && !s.spareFree then (s.setSpares { s.spares with failWait := s.spares.failWait ++ [0x60000 + i] }).bistStop 0x11
  else s.laneRetire l

/-- A failed unit leaves its duty: it is marked FAILED and listed, and a free spare takes over at the next tick; a spare that serves a self-test or a
return of the pool is called off (R411, R417, R418, R420). -/
def State.unitFail (s : State) (u : Nat) : State :=
  let i := unitInst u
  if !unitKnown u || !([1, 3, 4, 5, 6, 7, 8].contains (unitClass u)) || (s.unitOut u && !(s.spares.opStep != .idle && s.spares.opUnit == u)) then s
  else if s.spares.bist.unit == u && s.reg K.BIST_STATE != 0 && s.reg K.BIST_STATE != 5 then s
  else if s.spares.opStep != .idle && s.spares.opStep != .takeOver && s.spares.opUnit == u then ((s.putUnit u 4).listAdd u).opDone 3
  else
    let duty := s.hasDuty u
    let b := s.spares.bist
    let testing := s.reg K.BIST_STATE != 0 && (b.handed || s.reg K.BIST_STATE == 1) && samePool b.unit u
    let returning := s.spares.opStep == .shadow && samePool s.spares.opUnit u
    let s := s.listAdd u
    match unitClass u with
    | 5 =>
      let r := s.fs.retire
      if r.busy && !r.draining && r.target == i then s.targetFailed
      else if r.busy && r.source == i then s.setFs { s.fs with retire := { r with after := 6 } }
      else match s.logicalOf i with
        | none => s.put (K.BANK_STATE i) 6
        | some l => s.bankFailed i l testing
    | 6 =>
      match s.lanePos i with
      | some l => s.laneFailed i l testing
      | none => s.setLink { s.link with retired := withBit s.link.retired i true }
    | 7 =>
      if s.reg K.RX_ACTIVE = i then
        let s := if testing then s.bistStop 0x12 else s.onlyIf (s.rxUsable (1 - i)) fun s => s.count K.TAKEOVERS
        if s.rxUsable (1 - i) then s.rxSwitch (1 - i) else if s.rxOn then s.linkFault 4 else s
      else s
    | 8 => s
    | _ =>
      let s := if duty && unitClass u == 3 then s.setSpares { s.spares with failedNow := withBit s.spares.failedNow i true } else s
      let s := if !duty then s else s.setSpares { s.spares with failWait := s.spares.failWait ++ [u], planned := s.spares.planned.filter (·.1 != u) }
      let s := s.putUnit u 4
      let serving := (unitClass u == 3 && i == 12) || (unitClass u == 4 && decide (24 ≤ i)) || (unitClass u == 1 && i % 16 == 8)
      let s := if testing && serving && duty then s.bistStop 0x12 else s
      -- what a failed spare served goes to the other one
      let p := 0x40000 + s.reg (K.SPARE_FOR (i - 24))
      let moves := serving && unitClass u == 4 && duty && !s.underTest p
      let s := if serving && unitClass u == 3 then (s.put K.EE12_FOR 255).setSpares { s.spares with failWait := s.spares.failWait.filter (· != u) }
        else if serving && unitClass u == 4 then (s.put (K.SPARE_FOR (i - 24)) 255).setSpares
          { s.spares with failWait := s.spares.failWait.filter (· != u) ++ (if moves then [p] else []) }
        else s
      let s := if testing && ((duty && !serving && !s.spareFor u) || (moves && !s.spareFor p)) then s.bistStop 0x11 else s
      if returning then s.setSpares { s.spares with back := s.spares.back ++ [(s.spares.opUnit, false)] } else s

/-- The tested region is restored, or there is none: the unit returns, is retired, or stays as it was (R409, R411 to R413). -/
def State.bistFinish (s : State) : State :=
  let b := s.spares.bist
  let u := b.unit
  let s := { s with rxTest := 0 }
  let s := if unitClass u = 16 ∧ 5 ≤ unitInst u ∧ b.outcome ≠ 3 then s.keysReload else s
  let s := if (unitClass u = 2 ∧ b.kind = 3) ∨ (u = 0x100003 ∧ b.kind = 1) then s.setSpares { s.spares with decReset := true } else s
  let s := if unitClass u = 6 then s.setLink { s.link with testing := withBit s.link.testing (unitInst u) false } else s
  let auto := s.regBit K.AUTO_RETIRE 1
  let s := if b.outcome = 2 then s.setSpares { s.spares with passed := s.spares.passed ++ [u] } else s.setSpares { s.spares with passed := s.spares.passed.filter (· != u) }
  let s := if unitClass u = 6 then s.setLink { s.link with passed := withBit s.link.passed (unitInst u) (b.outcome == 2) } else s
  if b.handed then
    if b.outcome = 2 then
      if auto then s.put K.BIST_STATE 5
      else
        let s := (s.listAdd u).putUnit u 4
        (s.setSpares { s.spares with passed := s.spares.passed ++ [u] }).put K.BIST_STATE 0
    else if b.outcome = 3 then (s.markFailed u).put K.BIST_STATE 0
    else s.bistBack
  else if b.wasOut then
    let s := s.putUnit u 4
    s.put K.BIST_STATE (if b.outcome = 2 ∧ auto ∧ spared u then 5 else 0)
  else
    let s := ((s.putUnit u 0).bankIdle u).put K.BIST_STATE 0
    let s := s.setSpares { s.spares with passed := s.spares.passed.filter (· != u) }
    if b.outcome ≠ 3 then s
    else if unitClass u = 10 then s.fuseRowOut
    else if spared u && s.hasDuty u then s.unitFail u
    else s.markFailed u

/-- BIST_TEST_END: what the test left in its counter and signature registers (R410). An analogue loopback, a PRBS or a fuse test leaves a summary word, 0 when no
limit was missed. -/
def State.bistEnd (s : State) (count countExp sig sigExp : Nat) (done : Bool) : State :=
  if s.reg K.BIST_STATE ≠ 3 then s
  else
    let sigExp := if 3 ≤ s.spares.bist.kind then 0 else sigExp
    let pass := done && count % 2 ^ 32 == countExp % 2 ^ 32 && sig % 2 ^ 64 == sigExp % 2 ^ 64
    let s := (((s.put K.BIST_COUNT (count % 2 ^ 32)).put K.BIST_COUNT_EXP (countExp % 2 ^ 32)).put K.BIST_SIG (sig % 2 ^ 64)).put K.BIST_SIG_EXP (sigExp % 2 ^ 64)
    let s := s.bistOver (if pass then 2 else 3) 0 done
    if saves s.spares.bist.kind s.spares.bist.unit then s.bistState 4 else s.bistFinish

/-- BIST_RESTORE_DONE: the unit has its saved contents again. -/
def State.bistRestored (s : State) : State :=
  if s.reg K.BIST_STATE = 4 then
    let b := s.spares.bist
    ((s.restore b.unit b.saved).setBist { b with saved := .empty }).bistFinish
  else s

/-- The test in progress is no longer allowed in the mode (R411). -/
def State.bistMode (s : State) : State :=
  let b := s.spares.bist
  let ok := s.mode == .selfTest || (s.mode.isRunning && (unitClass b.unit == 10 || spared b.unit || b.wasOut))
  if ok then s else s.bistStop 0x13

/-- A lock is lost (R411). -/
def State.bistLock (s : State) (pllB : Bool) : State :=
  if !pllB ∨ s.spares.bist.kind = 4 then s.bistStop 0x14 else s

/-! ### Retirement on request (R418) -/

/-- UNIT_RETIRE. -/
def State.unitRetire (s : State) (u : Nat) : State :=
  if s.spares.opStep != .idle || s.reg K.BIST_STATE == 5 then s.put K.SPARE_OP_RESULT 4
  else if !unitKnown u || s.unitOut u || !s.hasDuty u || s.underTest u then s.put K.SPARE_OP_RESULT 1
  else if !spared u || !s.spareFor u then s.put K.SPARE_OP_RESULT 2
  else ((s.planTakeOver u).put K.SPARE_OP_STATE 1).setSpares { (s.planTakeOver u).spares with opUnit := u, opStep := .takeOver }

/-! ### At a tick -/

/-- A planned take-over may happen now (R109, R144, R183): no group in progress; for a pipeline, one complete average computed in shadow. -/
def State.plannedDue (s : State) (p : Nat × List Nat) (t : Int) : Bool :=
  match unitClass p.1 with
  | 3 => !s.groupBusy (unitChans p.1) t
  | 4 => s.shadowed (unitInst p.1) p.2
  | _ => true

/-- The planned take-overs of a class that are due; one whose spare a failed unit has taken meanwhile is called off (R411, R418). -/
def State.plannedTick (s : State) (cls : Nat) (t : Int) : State :=
  s.forEach (s.spares.planned.filter fun p => unitClass p.1 == cls) fun s p =>
    if s.plannedDue p t then
      let off := s.setSpares { s.spares with planned := s.spares.planned.filter (·.1 != p.1) }
      if s.poolOpen p.1 then off.takeOver p.1 false t
      else if s.spares.opStep == .takeOver && s.spares.opUnit == p.1 then off.opDone 2
      else off.bistStop 0x11
    else s

/-- The failed units of a class whose spare is free are relieved; those with no spare to come stay without (Table 16.4). -/
def State.failTick (s : State) (cls : Nat) (t : Int) : State :=
  s.forEach (s.spares.failWait.filter fun u => unitClass u == cls) fun s u =>
    let b := s.spares.bist
    let handed := s.reg K.BIST_STATE != 0 && (b.handed || s.reg K.BIST_STATE == 1)
    let hope := (handed && samePool b.unit u && b.unit != u) || s.spares.back.any fun p => samePool p.1 u
    let off := s.setSpares { s.spares with failWait := s.spares.failWait.filter (· != u) }
    let free := s.poolOpen u
    if cls = 5 then
      if s.fs.retire.busy then s
      else match s.logicalOf (unitInst u) with
        | some l =>
          if free then (if s.retireOpen then off else s).bankRetireAs l 6
          else if hope then s
          else (off.bankLost l).put (K.BANK_STATE (unitInst u)) 6
        | none => off
    else if cls = 6 then
      match s.lanePos (unitInst u) with
      | some l => if free || !hope then off.laneRetire l else s
      | none => off
    else if free then off.takeOver u true t
    else if hope then s
    else if cls = 1 then off.put (K.CH_STATE (unitInst u / 16)) 3
    else off

/-- Units that return without a shadow frame (R411, R420). -/
def State.backTick (s : State) (t : Int) : State :=
  let l := s.spares.back
  (s.setSpares { s.spares with back := [] }).forEach l fun s p =>
    let s := s.takeBack p.1 p.2 t
    if s.unitOut p.1 ∨ s.spares.opStep != .idle && s.spares.opUnit == p.1 then s.returned p.1
    else if s.reg K.BIST_STATE = 5 ∧ s.spares.bist.unit = p.1 then s.put K.BIST_STATE 0
    else s

/-- SHADOW_PHASE_START: the return in progress begins its shadow phase, or needs none (R419). -/
def State.shadowStart (s : State) (t : Int) : State :=
  let u := s.spares.opUnit
  let l := unitChans u
  if s.spares.opStep != .wait || [5, 6, 7].contains (unitClass u) then s
  else if !s.comet.running || !s.spareServes u || l.isEmpty || (unitClass u == 1 && unitInst u % 16 == 8) then
    ((s.takeBack u false t)).returned u
  else if s.groupBusy l t then s
  else ((s.putUnit u 2).put K.SPARE_OP_STATE 2).setSpares { s.spares with opStep := .shadow, left := s.comet.frameLen }

/-- SHADOW_PHASE_END: the frame has passed without a mismatch (R419); the phase also ends when Comet no longer runs. -/
def State.shadowEnd (s : State) (t : Int) : State :=
  let u := s.spares.opUnit
  if s.spares.opStep == .shadow && (!s.comet.running || (s.spares.left == 0 && !s.groupBusy (unitChans u) t)) then
    (s.takeBack u false t).returned u
  else s

/-- ENGINE_TAKEOVER, PIPELINE_TAKEOVER, SLICE_SWAP: what the tick to come does for one class. -/
def State.classTick (s : State) (cls : Nat) (t : Int) : State := (s.plannedTick cls t).failTick cls t

/-- Take-overs by way of the bank and lane sequences, and returns by them, are complete. -/
def State.opCheck (s : State) : State :=
  let u := s.spares.opUnit
  match s.spares.opStep with
  | .takeOver => if s.spareServes u && !s.spares.planned.any (·.1 == u) then
      ((s.listAdd u).putUnit u 4).opDone 0
    else s
  | .moving =>
    let back := if unitClass u = 5 then (s.logicalOf (unitInst u)).isSome && !s.fs.retire.busy else (s.lanePos (unitInst u)).isSome
    if back then s.returned u
    else if unitClass u = 5 ∧ !s.fs.retire.busy then s.opDone 3
    else s
  | .wait => s.returnTry
  | _ => s

/-- The self-test's own return starts when no other return is under way (R412). -/
def State.bistReturn (s : State) : State :=
  let b := s.spares.bist
  if s.reg K.BIST_STATE = 5 && s.spares.opStep == .idle && !s.spares.back.any (·.1 == b.unit) then s.returnStart b.unit else s

/-- Banks and lanes that the host or AUTOSPARE took out of service, or brought back, are listed (R418). -/
def State.listSync (s : State) : State :=
  let out := fun (u : Nat) (b : Bool) (s : State) =>
    if b && !s.unitOut u && !s.underTest u && !(s.spares.opStep != .idle && s.spares.opUnit == u) then s.listAdd u else s
  let s := s.forRange 50 fun s p => out (0x50000 + p) (s.reg (K.BANK_STATE p) == 4) s
  s.forRange 9 fun s p =>
    let u := 0x60000 + p
    let s := out u (bitAt s.link.retired p) s
    if s.unitOut u && !bitAt s.link.retired p && !s.spares.failWait.contains u && !(s.spares.opStep != .idle && s.spares.opUnit == u) then (s.listDel u).count K.RETURNS else s

/-- Run-time detection that rests on registers: SUSPECT banks under AUTO_RETIRE, banks with two uncorrectable errors in a scrub pass, slices four period
ends at a limit (Table 16.4). -/
def State.detectFailures (s : State) : State :=
  let banks := (List.range 50).filter fun p =>
    let st := s.reg (K.BANK_STATE p)
    (st == 5 && s.regBit K.AUTO_RETIRE 0) || ([0, 2, 3, 5].contains st && decide ((storeGet s.fs.passUe p).getD 0 + 2 ≤ s.reg (K.BANK_UE p)))
  let s := s.forEach banks fun s p => s.unitFail (0x50000 + p)
  let cans := (List.range 2).filter fun m => decide (16 ≤ (s.can.getD m {}).offAges.length)
  let s := s.forEach cans fun s m => s.unitFail (0x80000 + m)
  s.forEach (s.cal.limRun.filter fun q => decide (4 ≤ q.2)) fun s q => s.unitFail (sliceUnit (q.1 / 9) (q.1 % 9))

/-- Run-time failures of the slot that ends (Table 16.4): a residue check that fails in two slots of one frame, a buffer parity error in two spectra of one
average. -/
def State.checksFail (s : State) (i : TickInput) : State :=
  let res := (if s.pipe.cur.newFrame then [] else s.spares.residues) ++ bitsSet i.residue 13
  let avg := fun (p : Nat) => (s.spec1 (2 * (if 24 ≤ p then s.reg (K.SPARE_FOR (p - 24)) else p))).seq
  let par := (s.spares.parity.filter fun q => q.2 == avg q.1) ++ i.parity.map fun p => (p, avg p)
  let s := s.setSpares { s.spares with residues := res, parity := par }
  let s := s.forEach ((bitsSet i.residue 13).filter fun e => decide (2 ≤ res.count e)) fun s e => s.unitFail (0x30000 + e)
  s.forEach (i.parity.filter fun p => decide (2 ≤ par.count (p, avg p))) fun s p => s.unitFail (0x40000 + p)

/-- A slice in its shadow phase differs from the slice that serves by more than 4 codes, in the slot that has just ended (R419). -/
def State.sliceDiffers (s : State) : Bool :=
  let u := s.spares.opUnit
  let ch := unitInst u / 16
  let c := s.pipe.prev
  unitClass u == 1 && ((c.shadow.getD ch []).zip (positionCodes (c.samples.getD ch []) (c.shadowPos.getD ch 0))).any fun p => decide (4 < (p.1 - p.2).natAbs)

/-- Everything of this chapter at a tick whose sample is `t`; `differs` reports a mismatch of the shadow phase in the slot that ends. -/
def State.sparesTick (s : State) (differs : Bool) (t : Int) : State :=
  let b := s.spares.bist
  let s := s.setBist { b with stateTicks := b.stateTicks + 1, runTicks := if s.reg K.BIST_STATE = 3 then b.runTicks + 1 else b.runTicks }
  let s := s.detectFailures
  let s := if s.reg K.BIST_STATE = 2 ∧ 10 ≤ s.spares.bist.stateTicks then s.bistSaved else s
  let s := if s.reg K.BIST_STATE = 4 ∧ 10 ≤ s.spares.bist.stateTicks then s.bistRestored else s
  let s := if (differs || s.sliceDiffers) && s.spares.opStep == .shadow then s.shadowMismatch else s
  let s := s.backTick t
  let s := (s.bistReturn).shadowEnd t
  let s := ((((s.classTick 1 t).classTick 3 t).classTick 4 t).failTick 5 t).failTick 6 t
  let s := (s.opCheck).shadowStart t
  let s := (s.listSync).bistHanded
  let s := if s.spares.opStep == .shadow && s.locked then s.setSpares { s.spares with left := s.spares.left - 1 } else s
  let s := if s.spares.decReset && s.dec.running then s.decReset (List.range 48) t else s
  s.setSpares { s.spares with decReset := false }

/-! ### The retire fuse bank and BOOT (R416, R422, R423) -/

/-- RETIRE_BURN: an accepted record's value. -/
def State.retireBurn (s : State) (u : Nat) : State := (s.setSpares { s.spares with burn := some u }).put K.BURN_RESULT 1

/-- RETIRE_BURN_DONE; a row that failed to verify gives its place to a spare row (Table 16.4). -/
def State.retireBurned (s : State) (e : FuseEnd) : State :=
  match s.spares.burn with
  | none => s
  | some u =>
    let s := s.setSpares { s.spares with burn := none }
    if s.fuseRetired u then s.put K.BURN_RESULT 7
    else if !s.unitOut u then s.put K.BURN_RESULT 3
    else if e.vinLow then s.put K.BURN_RESULT 4
    else match (List.range 64).find? fun j => s.fuses.retire.getD j 0 == 0 with
      | none => s.put K.BURN_RESULT 5
      | some j =>
        if 0 < e.rows ∧ s.fuseRows = 0 then s.put K.BURN_RESULT 6
        else
          let s := if e.rows = 0 then s else s.fuseRowOut
          ({ s with fuses := { s.fuses with retire := setAt 0 s.fuses.retire j (retireEntry u) } }).put K.BURN_RESULT 2

/-- A unit leaves its duty during BOOT: by a fuse entry, or failed in the start-up BIST. Its spare serves from the first slot. -/
def State.bootOut (s : State) (u : Nat) (failed : Bool) : State :=
  let i := unitInst u
  if !unitKnown u || s.unitOut u then s
  else
    let duty := s.hasDuty u
    let free := s.spareFor u
    let s := s.listAdd u
    let mark := if failed then 6 else 4
    match unitClass u with
    | 1 => if !duty then s else if free then s.takeOver u false 0 else s.put (K.CH_STATE (i / 16)) 3
    | 2 => s.put (K.CH_STATE i) 3
    | 3 =>
      let s := s.putUnit u 4
      if i = 12 then s.put K.EE12_FOR 255 else if duty && free then s.takeOver u false 0 else s
    | 4 =>
      let s := s.putUnit u 4
      if 24 ≤ i then
        let p := s.reg (K.SPARE_FOR (i - 24))
        let s := s.put (K.SPARE_FOR (i - 24)) 255
        if p < 24 && s.poolOpen u then s.takeOver (0x40000 + p) false 0 else s
      else if duty && free then s.takeOver u false 0 else s
    | 5 =>
      match s.logicalOf i, s.spareBanks.filter (· != i) with
      | some b, q :: _ => ((((s.put (K.BANK_MAP b) q).put (K.BANK_STATE q) 0).put (K.BANK_STATE i) mark)).count K.TAKEOVERS
      | some b, [] => (s.bankLost b).put (K.BANK_STATE i) mark
      | none, _ => s.put (K.BANK_STATE i) mark
    | 6 =>
      let s := s.setLink { s.link with retired := withBit s.link.retired i true }
      match s.lanePos i with
      | some b => if !s.laneSpared && !bitAt s.link.retired 8 then (s.put (K.LANE_MAP b) 8).count K.TAKEOVERS else s
      | none => s
    | 7 => if s.reg K.RX_ACTIVE = i ∧ !s.rxOut (1 - i) then (s.put K.RX_ACTIVE (1 - i)).count K.TAKEOVERS else s
    | _ => s

/-- The unit is a spare as built (Table 16.4). -/
def spareUnit (u : Nat) : Bool :=
  let i := unitInst u
  match unitClass u with
  | 1 => i % 16 == 8
  | 3 => i == 12
  | 4 => decide (24 ≤ i)
  | 5 => decide (48 ≤ i)
  | 6 => i == 8
  | 7 => i == 1
  | _ => false

/-- Units in the order in which they leave at BOOT: spares first, so that none of them takes a duty that it could not hold. -/
def sparesFirst (l : List Nat) : List Nat := l.filter spareUnit ++ l.filter fun u => !spareUnit u

/-- BOOT reads the retire fuse bank (R422). -/
def State.bootRetire (s : State) : State :=
  let valid := fun (e : Nat) => e == retireEntry (e % 2 ^ 24)
  let l := s.fuses.retire.filter (· != 0)
  let s := s.forEach (sparesFirst ((l.filter valid).map (· % 2 ^ 24))) fun s u => s.bootOut u false
  s.put K.BOOT_BIST_FAILS (addSat 16 (s.reg K.BOOT_BIST_FAILS) (l.filter fun e => !valid e).length)

/-- Units that the start-up BIST tests (R416). -/
def startUpUnits : List Nat :=
  (List.range 432).map (fun j => sliceUnit (j / 9) (j % 9)) ++ (List.range 13).map (0x30000 + ·) ++ (List.range 26).map (0x40000 + ·)
    ++ (List.range 50).map (0x50000 + ·) ++ (List.range 4).map (0xA0000 + ·) ++ (List.range 5).map (0x100000 + ·)

/-- The outcome of the start-up BIST: `fails` are the units that failed. -/
def State.startUpBist (s : State) (fails : List Nat) : State :=
  let l := startUpUnits.filter fails.contains
  let s := s.forEach (sparesFirst l) fun s u =>
    if unitClass u = 10 then s.fuseRowOut else s.bootOut u true
  let s := s.put K.BOOT_BIST_FAILS (addSat 16 (s.reg K.BOOT_BIST_FAILS) l.length)
  s.put K.BOOT_BIST (if l.isEmpty then 1 else 2)

/-! ### What the registers show -/

/-- EE_STATE: an engine with a duty reads ACTIVE while Comet runs (R145). -/
def State.eeState (s : State) (i : Nat) : Nat :=
  let v := s.reg (K.EE_STATE i)
  if v = 0 && s.comet.running && (decide (i < 12) || s.reg K.EE12_FOR != 255) then 1 else v

/-- A spare pipeline computes in shadow for a planned take-over (R183): the free spares serve those that wait in turn. -/
def State.shadows (s : State) (i : Nat) : Bool :=
  let free := (List.range 2).filter fun j => s.reg (K.SP_STATE (24 + j)) == 0 && s.reg (K.SPARE_FOR j) == 255
  (free.take (s.spares.planned.filter fun p => unitClass p.1 == 4).length).contains (i - 24)

/-- SP_STATE: a pipeline with a duty reads ACTIVE while the engine runs (R184). -/
def State.spState (s : State) (i : Nat) : Nat :=
  let v := s.reg (K.SP_STATE i)
  if v = 0 && decide (24 ≤ i) && s.spec.running && s.shadows i then 2
  else if v = 0 && s.spec.running && (if i < 24 then s.reg (K.SP_MODE i) != 0 else s.reg (K.SPARE_FOR (i - 24)) != 255) then 1 else v

/-- Some spare serves a duty (SPARE_IN_USE). -/
def State.spareInUse (s : State) : Bool :=
  s.reg K.EE12_FOR != 255 || s.reg (K.SPARE_FOR 0) != 255 || s.reg (K.SPARE_FOR 1) != 255 || s.laneSpared || s.reg K.RX_ACTIVE == 1
    || (List.range 48).any (fun b => 48 ≤ s.reg (K.BANK_MAP b) && s.reg (K.BANK_MAP b) != 255) || (List.range 48).any s.usesSlice8

/-- Some pool has no free spare (SPARE_EXHAUSTED). -/
def State.spareGone (s : State) : Bool :=
  (List.range 5).any (fun i => s.poolFree i == 0) || (List.range 48).any fun ch => !s.sliceFree ch

/-- Channels with no echo engine to serve them. -/
def State.noEngine (s : State) : Nat :=
  sumNat ((List.range 12).map fun m => if 3 ≤ s.reg (K.EE_STATE m) ∧ s.reg K.EE12_FOR ≠ m then unitMask (0x30000 + m) else 0)

end Sys2Proof.Machine
end

