-- ==== Sys2Proof/Machine/Thermal.lean ====
section
/-! DEFINITION. Temperature sensors, zones, warning and throttle (R436 to R443). The latch (R444) is reported to `Modes.lean`, which enters
THERMAL-LATCH. -/

namespace Sys2Proof.Machine

def State.setTherm (s : State) (t : Thermal) : State := { s with therm := t }

/-- Sixteenths of a degree Celsius. -/
def deg (t : Nat) : Int := 16 * t

/-- A rail is on and good (Table 17.1, RAIL_STATE 2 or 4). -/
def State.railOn (s : State) (i : Nat) : Bool := s.reg (K.RAIL_STATE i) == 2 || s.reg (K.RAIL_STATE i) == 4

/-- Sensor `i` is judged: its die has its supply and is not held in HELD (R436, Table 17.7). -/
def State.tsJudged (s : State) (i : Nat) : Bool :=
  if i < 4 then s.railOn 0 && s.mode.coreRuns else if i < 8 then s.railOn 1 && s.mode.coreRuns else true

def State.tsensor (s : State) (i : Nat) : TempSensor := s.therm.sensors.getD i {}

def State.setSensor (s : State) (i : Nat) (t : TempSensor) : State := s.setTherm { s.therm with sensors := setAt {} s.therm.sensors i t }

def State.tzone (s : State) (z : Nat) : TempZone := s.therm.zones.getD z {}

def State.setTzone (s : State) (z : Nat) (t : TempZone) : State := s.setTherm { s.therm with zones := setAt {} s.therm.zones z t }

/-- Sensor `i` is judged broken until the next BOOT (R437). -/
def State.tsBreakNow (s : State) (i : Nat) : State :=
  if (s.tsensor i).broken then s
  else (s.setSensor i { s.tsensor i with broken := true, own := none }).count K.TS_BREAKS

/-- The new reading of sensor `i`, none where it gives none (R436, R437). -/
def State.tsTake (s : State) (i : Nat) (code : Option Int) : State :=
  let t := s.tsensor i
  if !s.tsJudged i then s.setSensor i { t with own := none, missed := 0 }
  else if t.broken then s
  else match code with
    | none => s.setSensor i { t with missed := min 10 (t.missed + 1) }
    | some c =>
      if c < -(deg 55) ∨ deg 175 < c then s.tsBreakNow i else s.setSensor i { t with own := some c, missed := 0 }

/-- Own readings of the sensors of zone `z` that are not broken, in order. -/
def State.zoneOwn (s : State) (z : Nat) : List Int := [s.tsensor (2 * z), s.tsensor (2 * z + 1)].filterMap (·.own)

/-- Broken sensors of zone `z`. -/
def State.zoneBroken (s : State) (z : Nat) : Nat := ofBool (s.tsensor (2 * z)).broken + ofBool (s.tsensor (2 * z + 1)).broken

/-- Effective readings of the sensors of zone `z` that are not broken (R438). -/
def State.zoneEff (s : State) (z : Nat) : List Int :=
  let l := s.zoneOwn z
  if (s.tzone z).disagree && l.length == 2 then l.map fun _ => l.foldl max (l.headD 0) else l

/-- Effective reading of a broken sensor: 121.0 °C. -/
def brokenEff : Int := deg 121

/-- The zone registers of zone `z`: temperature, judged temperature, peak and warning temperature (R438, R439). The last valid temperature of TS8 and TS9
is kept for the polynomials (R346, R373). -/
def State.zoneEval (s : State) (z : Nat) : State :=
  let b := s.zoneBroken z
  let eff := s.zoneEff z
  let st := fun (i : Nat) => let t := s.tsensor i
    if t.broken then 3 else if t.own.isNone then 0 else if (s.tzone z).disagree then 2 else 1
  let s := s.forEach [2 * z, 2 * z + 1] fun s i =>
    (s.put (K.TS_STATE i) (st i)).put (K.TS_READ i) (match (s.tsensor i).own with
      | some v => ofSigned 16 v
      | none => 0x8000)
  if !s.tsJudged (2 * z) ∨ eff.length + b < 2 then
    ((s.put (K.ZONE_TEMP z) 0x8000).put (K.ZONE_JUDGED z) 0x8000).put (K.ZONE_WARN_T z) 0x8000
  else
    let all := eff ++ List.replicate b brokenEff
    let judged := all.foldl max (all.headD 0)
    let s := s.putI 16 (K.ZONE_JUDGED z) judged
    let s := s.putI 16 (K.ZONE_PEAK z) (max judged (s.regI 16 (K.ZONE_PEAK z)))
    match eff with
    | [] => (s.put (K.ZONE_TEMP z) 0x8000).put (K.ZONE_WARN_T z) 0x8000
    | a :: _ =>
      let mean := if b = 0 then roundOpen "ZONE_TEMP" ((sumInt eff : Rat) / 2) else a
      let s := s.onlyIf (z == 4) fun s => { s with ens := { s.ens with lastT := (mean : Rat) / 16 } }
      (s.putI 16 (K.ZONE_TEMP z) mean).putI 16 (K.ZONE_WARN_T z) (eff.foldl max a)

/-- The two valid sensors of zone `z` differ by more than 15 °C. -/
def State.zoneDiffers (s : State) (z : Nat) : Bool :=
  match s.zoneOwn z with
  | [a, b] => decide (deg 15 < (a - b).natAbs)
  | _ => false

/-- The count of readings that call for a change of a zone's disagreement (R438). -/
def State.zoneDiff (s : State) (z : Nat) : State :=
  let t := s.tzone z
  if (s.zoneOwn z).length < 2 then s.setTzone z { t with disagree := false, diffRun := 0 }
  else s.setTzone z { t with diffRun := if s.zoneDiffers z == t.disagree then 0 else min 1001 (t.diffRun + 1) }

/-- TS_DISAGREE_CHANGE of zone `z`: the sensors have differed, or agreed again, for 1 s (R438). -/
def State.disagreeChange (s : State) (z : Nat) : State :=
  let t := s.tzone z
  if 1000 < t.diffRun then (s.setTzone z { t with disagree := !t.disagree, diffRun := 0 }).zoneEval z else s

/-- TS_BREAK of sensor `i`: no new reading for 10 ms while judged (R437). -/
def State.tsBreak (s : State) (i : Nat) : State :=
  if s.tsJudged i && decide (10 ≤ (s.tsensor i).missed) then
    let s := s.tsBreakNow i
    (s.setTzone (i / 2) { s.tzone (i / 2) with disagree := false, diffRun := 0 }).zoneEval (i / 2)
  else s

/-- Some zone has both sensors broken: the thermal latch sets (R440). -/
def State.zoneDead (s : State) : Bool := (List.range 6).any fun z => s.zoneBroken z == 2

/-- A zone register at or above a temperature; 0x8000 is no temperature. -/
def State.zoneAt (s : State) (k : Nat → Nat) (t : Int) : Bool :=
  (List.range 6).any fun z => s.reg (k z) != 0x8000 && decide (t ≤ s.regI 16 (k z))

/-- THERMAL_WARN after the evaluation (R441). -/
def State.thermWarn (s : State) : State :=
  let w := if s.zoneAt K.ZONE_WARN_T (deg 110) then true else if s.zoneAt K.ZONE_WARN_T (deg 105) then s.therm.warn else false
  s.setTherm { s.therm with warn := w }

/-- Runs of readings for the throttle (R442) and its time. -/
def State.throtCount (s : State) : State :=
  let hot := s.zoneAt K.ZONE_JUDGED (deg 120)
  let warm := s.zoneAt K.ZONE_JUDGED (deg 115)
  let s := s.setTherm { s.therm with hotFor := if hot then s.therm.hotFor + 1 else 0, coolFor := if warm then 0 else s.therm.coolFor + 1 }
  s.onlyIf (1 ≤ s.reg K.THROT_STEP) fun s => s.count K.THROT_TIME

/-- The throttle step rises: at once from 0, and every 100 ms after that while a zone stays at or above 120.0 °C (R442). -/
def State.throtUpDue (s : State) : Bool :=
  s.zoneAt K.ZONE_JUDGED (deg 120) && decide (s.reg K.THROT_STEP < 4) && (s.reg K.THROT_STEP == 0 || decide (100 < s.therm.hotFor))

/-- THROTTLE_STEP_UP. -/
def State.throtUp (s : State) : State :=
  if s.throtUpDue then
    let s := s.onlyIf (s.reg K.THROT_STEP == 0) fun s => s.count K.THROT_ENTRIES
    (s.put K.THROT_STEP (s.reg K.THROT_STEP + 1)).setTherm { s.therm with hotFor := 1 }
  else s

/-- THROTTLE_STEP_DOWN: every zone has stayed below 115.0 °C for THROT_RELAX (R442). -/
def State.throtDown (s : State) : State :=
  if 100 * s.reg K.THROT_RELAX < s.therm.coolFor then
    (if s.reg K.THROT_STEP = 0 then s else (s.put K.THROT_STEP (s.reg K.THROT_STEP - 1)).setTherm { s.therm with coolFor := 1 })
  else s

/-- What is due of the events of this chapter. -/
def State.thermDue (s : State) : State :=
  (((s.forRange 12 State.tsBreak).forRange 6 State.disagreeChange).throtUp).throtDown

/-- The runs that R444 counts: consecutive readings with the warning temperature at 135.0 °C or more. -/
def State.hotCount (s : State) : State :=
  s.forRange 6 fun s z =>
    let hot := s.reg (K.ZONE_WARN_T z) != 0x8000 && decide (deg 135 ≤ s.regI 16 (K.ZONE_WARN_T z))
    s.setTzone z { s.tzone z with hot := if hot then min 2 ((s.tzone z).hot + 1) else 0 }

/-- TS_READING: the readings of a millisecond (R436 to R442). -/
def State.tsReading (s : State) (codes : List (Option Int)) : State :=
  let s := s.thermDue
  let s := s.forRange 12 fun s i => s.tsTake i (codes.getD i none)
  let s := (s.forRange 6 State.zoneDiff).forRange 6 State.zoneEval
  ((s.thermWarn).throtCount).hotCount

/-- The thermal latch is to set (R440, R444). -/
def State.latchDue (s : State) : Bool := s.zoneDead || s.therm.zones.any fun z => decide (2 ≤ z.hot)

end Sys2Proof.Machine
end

