-- ==== Sys2Proof/Machine/Modes.lean ====
section
/-! DEFINITION. Chapters 17 and 18: supply, shed levels, rails, the thermal latch, modes and their changes, HELD and reset, BOOT up to its script, and the
test access port. -/

namespace Sys2Proof.Machine

/-! ### Entering a mode (R57, R58, R446 to R450) -/


/-- The mode changes at a tick stamped `t`: Comet stops and starts anew, and with it calibration and the sweep check, and blocks take note of the entry
(R57, R58, R82, R117, R243, R362, R375, R411, R450). An acknowledgement of DEGRADED that has not led back yet lapses (R400). -/
def State.enterMode (s : State) (m : Mode) (t : Nat) : State :=
  let was := s.cometMode
  let s := if s.comet.running then s.cometStop else s
  let s := if was then s.calLeave else s
  let s := { s with mode := m, ensB := { s.ensB with degAck := false } }
  let s := (s.tally K.MODE_CHANGES).put K.MODE_LAST t
  let s := if s.cometMode then ((s.cometStart).sweepRestart).calEnter else s
  let s := (s.resModeEntry).apdModeEntry
  let s := if m = .standby ∨ m = .selfTest ∨ m.isRunning then s else s.dmaAbortAll
  s.bistMode

/-- Entry to SAFE-HOLD (R382). -/
def State.enterSafeHold (s : State) (t : Nat) : State := (s.enterMode .safeHold t).count K.SH_COUNT

/-- Entry to DEGRADED (R398, R399). -/
def State.enterDegraded (s : State) (t : Nat) : State :=
  let was := s.mode
  let s := { s with ensB := { s.ensB with surveyFrom := decide (was = Mode.survey) } }
  ((s.enterMode .degraded t).put K.DEG_FROM was.code).count K.DEG_ENTRIES

/-! ### Automatic transitions (Table 18.2) -/

/-- A cause takes the GZ48 to SAFE-HOLD at the tick to come (R382). -/
def State.safeHoldDue (s : State) : Bool :=
  s.reg K.SH_CAUSE != 0 && (s.mode == .selfTest || s.mode == .standby || (s.mode.isRunning && s.mode != .safeHold))

/-- BOOT is over: the tick to come leaves it (R448). -/
def State.bootExitDue (s : State) : Bool := s.mode == .boot && s.boot.step == 11

/-- One source is lost in a mode that DEGRADED can be entered from (R398). -/
def State.degradedDue (s : State) : Bool := s.oneLost && s.mode.isScanning

/-- The budget is spent (R399). -/
def State.degSpent (s : State) : Bool := decide (s.degLimit ≤ s.reg K.DEG_USED)

/-- Some automatic transition takes effect at the tick to come. -/
def State.autoDue (s : State) : Bool := s.safeHoldDue || s.bootExitDue || (s.degradedDue && !s.degSpent)

/-- A mode request that meets an automatic transition is refused as OVERTAKEN, waiting for its tick or for its frame (R449). -/
def State.overtake (s : State) : State :=
  if s.modeSt.reqTicks = 1 ∨ s.modeSt.frameWait.isSome then
    ({ s with modeSt := { reqTicks := if s.modeSt.reqTicks = 1 then 0 else s.modeSt.reqTicks } }).put K.MODE_RESULT 7
  else s

/-- SAFE_HOLD_ENTRY. -/
def State.safeHoldStep (s : State) (t : Nat) : State := if s.safeHoldDue then (s.overtake).enterSafeHold t else s

/-- BOOT_EXIT_TICK. -/
def State.bootExitStep (s : State) (t : Nat) : State :=
  if !s.bootExitDue then s
  else
    let s := { s.overtake with boot := { s.boot with step := 0 } }
    if s.reg K.SH_CAUSE ≠ 0 then s.enterSafeHold t else s.enterMode .standby t

/-- DEGRADED_ENTRY: with the budget spent, the cause DEG_SPENT instead. -/
def State.degradedStep (s : State) (t : Nat) : State :=
  if s.safeHoldDue || !s.degradedDue then s
  else if s.degSpent then s.violateAt 5 t
  else (s.overtake).enterDegraded t

/-- DEGRADED_RETURN (R400). -/
def State.degReturnStep (s : State) (t : Nat) : State :=
  if s.safeHoldDue || !s.ensB.degAck || s.mode != .degraded then s
  else s.enterMode (Mode.ofCode (s.reg K.DEG_FROM)) t

/-! ### Requests (R447 to R449) -/

/-- MODE_REQ with a code from 3 to 8, written at a cc of the present slot. -/
def State.modeReq (s : State) (v cc : Nat) : State :=
  let s := s.put K.MODE_REQ v
  if Mode.ofCode v = s.mode then ({ s with modeSt := {} }).put K.MODE_RESULT 0
  else ({ s with modeSt := { reqTicks := ticksAfter cc } }).put K.MODE_RESULT 1

/-- Result code of a request for mode `m` judged now; 1 means that it waits for its frame boundary. -/
def State.modeVerdict (s : State) (m : Mode) : Nat :=
  if m = s.mode then 0
  else match m with
    | .standby =>
      if s.mode = .selfTest ∨ s.mode.isScanning ∨ s.mode = .degraded then 0
      else if s.mode = .safeHold then (if s.reg K.SH_CAUSE = 0 then 0 else 5)
      else 2
    | .selfTest => if s.mode = .standby then 0 else 2
    | _ =>
      if s.mode = .degraded then 6
      else if s.mode ≠ .standby ∧ !s.mode.isScanning then 2
      else if !s.plan.hasActive then 3
      else if !s.lockedA then 4
      else if s.mode = .standby then 0
      else 1

/-- The request that is due is judged (R448). -/
def State.judge (s : State) (t : Nat) : State :=
  if s.modeSt.reqTicks ≠ 1 then s
  else
    let m := Mode.ofCode (s.reg K.MODE_REQ)
    let s := { s with modeSt := {} }
    match s.modeVerdict m with
    | 0 => if m = s.mode then s.put K.MODE_RESULT 0 else (s.enterMode m t).put K.MODE_RESULT 0
    | 1 => { s with modeSt := { frameWait := some m } }
    | r => s.put K.MODE_RESULT r

/-- A change that waits for its frame boundary takes effect at it (R448). -/
def State.frameChange (s : State) (t : Nat) : State :=
  match s.modeSt.frameWait with
  | some m => if s.atFrameBoundary then ({ s with modeSt := { s.modeSt with frameWait := none } }.enterMode m t).put K.MODE_RESULT 0 else s
  | none => s

/-- MODE_REQUEST_JUDGE: an automatic transition of the same tick overtakes the request, a DEG_ACK comes before it (R449). -/
def State.judgeStep (s : State) (t : Nat) : State := if s.autoDue then s else (s.degReturnStep t).judge t

/-- Every change of mode at a tick stamped `t`. -/
def State.modeTick (s : State) (t : Nat) : State :=
  let auto := s.autoDue
  let s := ((s.bootExitStep t).safeHoldStep t)
  let s := s.degradedStep t
  let s := if auto then s else ((s.degReturnStep t).judge t).frameChange t
  { s with modeSt := { s.modeSt with reqTicks := s.modeSt.reqTicks - 1 } }

/-! ### HELD and the loss of the core die's state (R434, R459) -/

/-- Registers that the always-on domain keeps while the core die loses its state; channel B's copy of the seal is among them. -/
def keptInHeld (k : Nat) : Bool :=
  k / 65536 == 0x88 || decide (0x7810 ≤ k / 256 ∧ k / 256 ≤ 0x7820)
    || [K.SEAL_STATE, K.SEAL_CRC, K.SH_CAUSE, K.SH_LATCHED, K.DEG_USED, K.DEG_ENTRIES, K.RESET_COUNT, K.STRAP_BOOT, K.CEIL_CODE, K.PRESET_NOW, K.STRAP_READ,
      K.KEY_STATE, K.REF_STATE, K.INHIBIT_STATE].contains k

/-- Those of them that a BOOT leaves as they are: what the always-on domain goes on showing, and the counters cleared only at VAO start. After L4 every
other object returns to its default, and so the causes of rail faults too (R434). -/
def keptInBoot (l4 : Bool) (k : Nat) : Bool :=
  [0x8802, 0x8810, 0x8811].contains (k / 256) || (k / 256 == 0x8812 && !l4)
    || [K.SHED_LEVEL, K.VIN_OV, K.DEG_USED, K.DEG_ENTRIES, K.RESET_COUNT, K.KEY_STATE, K.REF_STATE, K.INHIBIT_STATE].contains k

/-- The registers that satisfy a test; the others read their defaults. -/
def State.keepRegs (s : State) (p : Nat → Bool) : List (Nat × Nat) := s.objs.filter fun q => p q.1

/-- The core and receiver dies lose their state; the always-on domain, the drive die's charges and what lies outside stay. -/
def State.coreReset (s : State) (m : Mode) : State :=
  let b := s.ensB
  { mode := m, objs := s.keepRegs keptInHeld, retLog := s.retLog, vaoTime := s.vaoTime, sup := s.sup, therm := s.therm, rst := s.rst
    fuses := s.fuses, sealed := { s.sealed with request := none, prior := [] }, free := s.free, pending := s.pending, shedTick := s.reg K.SHED_LEVEL
    mir := { holdOn := s.mir.holdOn }
    ensB := { bins100 := b.bins100, bins10 := b.bins10, binClock := b.binClock, inhibited := b.inhibited, inhibitLow := b.inhibitLow, usedUs := b.usedUs }
    boot := { oldCauses := s.reg K.SH_LATCHED ||| s.boot.oldCauses }
    clk := {} }

/-- Entry to HELD from any mode except OFF and THERMAL-LATCH (Table 18.2). -/
def State.enterHeld (s : State) : State :=
  if s.mode = .off ∨ s.mode = .thermalLatch then s
  else
    let s := s.coreReset .held
    (s.put K.PLLA_STATE 0).put K.PLLB_STATE 0

/-- BOOT begins with step 1 (R461): the state is that of a part whose core die has just been released. -/
def State.enterBoot (s : State) : State := if s.mode = .off ∨ s.mode = .held then s.coreReset .boot else s

/-- The rails are good. -/
def State.railsGood (s : State) : Bool := s.railOn 0 && s.railOn 1 && s.railOn 2

/-- The dies are held by a pin or by what test access left behind (R414, R415, R459). -/
def State.pinsHold (s : State) : Bool := s.rst.resetLow || s.rst.testEn || s.rst.tapHeld

/-- With the rails good the part goes to BOOT or to HELD (Table 18.2). -/
def State.released (s : State) : State :=
  if s.pinsHold then (if s.mode = .off then (s.coreReset .held) else s) else s.enterBoot

/-! ### The shed ladder (R431 to R435) -/

/-- Deepest level declared, L4 apart; 3 under overvoltage. -/
def State.shedNow (s : State) : Nat :=
  let d := s.sup.declared
  if bitAt d 3 ∨ bitAt d 2 ∨ s.reg K.VIN_OV = 1 then 3 else if bitAt d 1 then 2 else if bitAt d 0 then 1 else 0

/-- SHED_LEVEL follows the levels; its change is stamped. -/
def State.shedShow (s : State) (cc : Nat) : State :=
  if s.shedNow = s.reg K.SHED_LEVEL then s else (s.put K.SHED_LEVEL s.shedNow).put K.SHED_LAST (s.stampCc cc)

def State.setSup (s : State) (x : Supply) : State := { s with sup := x }

/-- The rails of the core and receiver dies go off, VIO as well when `all` (R430, R434, R444); a converter that is off has no periods. -/
def State.railsOff (s : State) (all : Bool) : State :=
  let s := ((s.put (K.RAIL_STATE 0) 0).put (K.RAIL_STATE 1) 0).setSup
    { s.sup with step := .idle, conv := [{}, {}, {}, if all then {} else s.sup.conv.getD 3 {}] }
  if all then s.put (K.RAIL_STATE 2) 0 else s

/-- The start of the rails begins with VIO (R429). -/
def State.railsStart (s : State) : State :=
  let go := s.sup.released && !s.sup.lockOut && !bitAt s.sup.declared 3 && s.sup.step == .idle && !s.railsGood && s.mode != .thermalLatch
  if go then
    if s.railOn 2 then (s.put (K.RAIL_STATE 1) 1).setSup { s.sup with step := .vana }
    else (s.put (K.RAIL_STATE 2) 1).setSup { s.sup with step := .vio }
  else s

/-- SHED_DECLARE of level `l` (R431, R434). -/
def State.shedDeclare (s : State) (l cc : Nat) : State :=
  if !s.sup.released ∨ l = 0 ∨ 4 < l ∨ bitAt s.sup.declared (l - 1) then s
  else
    let s := (s.setSup { s.sup with declared := withBit s.sup.declared (l - 1) true }).count (K.SHED_ENTRIES (l - 1))
    let s := s.shedShow cc
    let s := if 3 ≤ l then s.bistStop 0x15 else s
    if l < 4 then s
    else (((s.logRet 3 []).setSup { s.sup with lostByL4 := true }).enterHeld).railsOff false

/-- RAIL_START: the start condition of R429 holds; not while the rails wait out a fault. -/
def State.railStart (s : State) : State := if s.sup.restartDue then s else s.railsStart

/-- RAIL_RESTART: 100 ms after a rail fault without lock-out the rails start, or wait for what else keeps them off. -/
def State.railRestart (s : State) : State := if s.sup.restartDue then (s.setSup { s.sup with restartDue := false }).railsStart else s

/-- SHED_CLEAR of level `l` (R431, R434, R435): when L4 clears the rails start, unless a rail fault still keeps them off (R430). -/
def State.shedClear (s : State) (l cc : Nat) : State :=
  if !s.sup.released ∨ l = 0 ∨ 4 < l ∨ !bitAt s.sup.declared (l - 1) then s
  else
    let s := (s.setSup { s.sup with declared := withBit s.sup.declared (l - 1) false }).shedShow cc
    if l = 4 then s.railStart else s

/-- OV_DECLARE (R432). -/
def State.ovDeclare (s : State) (cc : Nat) : State :=
  if !s.sup.released ∨ s.reg K.VIN_OV = 1 then s else ((((s.put K.VIN_OV 1).count K.OV_ENTRIES).shedShow cc).bistStop 0x15)

/-- OV_CLEAR (R432). -/
def State.ovClear (s : State) (cc : Nat) : State := if s.reg K.VIN_OV = 1 then (s.put K.VIN_OV 0).shedShow cc else s

/-! ### The always-on domain and the rails (R425, R429, R430) -/

/-- The part without its always-on domain: what lies outside it and its fuses stay. -/
def State.powerDown (s : State) (vao : Bool) : State :=
  let s' : State :=
    { mode := .off, fuses := s.fuses, sealed := { s.sealed with request := none, prior := [] }, free := s.free, pending := s.pending
      rst := { testEn := s.rst.testEn, resetLow := false }, mir := { holdOn := s.mir.holdOn }, sup := { vaoOn := vao, released := false }
      ensB := { inhibitLow := s.ensB.inhibitLow }, clk := {} }
  (((s'.put (K.RAIL_STATE 0) 0).put (K.RAIL_STATE 1) 0).put (K.RAIL_STATE 2) 0)

/-- VAO_START: VIN rises above 7.0 V. -/
def State.vaoStart (s : State) : State := if s.sup.vaoOn then s else s.powerDown true

/-- AO_RELEASE: the always-on domain is released. -/
def State.aoRelease (s : State) : State := if s.sup.vaoOn && !s.sup.released then s.setSup { s.sup with released := true } else s

/-- VIN_POR: VIN falls below 6.0 V. -/
def State.vinPor (s : State) : State := s.powerDown false

/-- RAIL_STATE of a rail at power-good: 4 for the rail of a lock-out that is still to be reported. -/
def State.railGoodCode (s : State) (i : Nat) : Nat := if s.sup.lockRail = some i then 4 else 2

/-- RAIL_POWER_GOOD: the rail that ramps is good, and the next is enabled; after VCORE the part is released. -/
def State.railPowerGood (s : State) : State :=
  match s.sup.step with
  | .vio => ((s.put (K.RAIL_STATE 2) (s.railGoodCode 2)).put (K.RAIL_STATE 1) 1).setSup { s.sup with step := .vana }
  | .vana => ((s.put (K.RAIL_STATE 1) (s.railGoodCode 1)).put (K.RAIL_STATE 0) 1).setSup { s.sup with step := .vcore }
  | .vcore => ((s.put (K.RAIL_STATE 0) (s.railGoodCode 0)).setSup { s.sup with step := .idle }).released
  | .idle => s

/-- RAIL_FAULT of a rail for a cause of RAIL_FAULT_CAUSE. -/
def State.railFault (s : State) (i cause : Nat) : State :=
  let st := s.reg (K.RAIL_STATE i)
  let fits := if cause = 1 then st == 1 else if cause = 4 then st == 1 || st == 2 || st == 4 else (cause == 2 || cause == 3) && (st == 2 || st == 4)
  if 3 ≤ i ∨ !fits then s
  else
    let ages := 0 :: s.sup.faultAges
    let lock := decide (3 ≤ ages.length)
    let s := (s.put (K.RAIL_FAULT_CAUSE i) cause).count (K.RAIL_FAULTS i)
    let s := s.logRet 2 [BitVec.ofNat 8 (i + 1), BitVec.ofNat 8 cause, BitVec.ofNat 8 (ofBool lock)]
    let s := (s.enterHeld).railsOff true
    let s := s.put (K.RAIL_STATE i) 3
    s.setSup { s.sup with faultAges := ages, lockOut := lock, lockRail := if lock then some i else s.sup.lockRail
                          resetInLockOut := lock && s.rst.resetLow, restartDue := !lock }

/-! ### The converters (R428) -/

/-- The converters in the order of `Supply.conv`. -/
def Converter.all : List Converter := [.core1, .core2, .ana, .io]

/-- Rail of a converter, as the rail objects number it. -/
def Converter.rail : Converter → Nat
  | .core1 => 0
  | .core2 => 0
  | .ana => 1
  | .io => 2

/-- cc of the slot at which the periods of a converter start while REFCLK is present: VCORE phase 1 at the tick and midway to the next, phase 2 half a period,
VANA a quarter and VIO three quarters of a period later. -/
def Converter.starts (c : Converter) : List Nat :=
  let d := match c with
    | .core1 => 0
    | .core2 => 700
    | .ana => 350
    | .io => 1050
  [d, d + 1400]

/-- Source of the switching clock: REFCLK while it is present, else the 32 MHz oscillator. -/
def State.convClock (s : State) : ConvClock := if s.refPresent then .refclk else .osc32

/-- The frequency of a source in MHz, and what it is divided by: 1.000 MHz from either. -/
def ConvClock.mhz : ConvClock → Nat
  | .refclk => 100
  | .osc32 => 32

def ConvClock.divider : ConvClock → Nat
  | .refclk => 100
  | .osc32 => 32

/-- Periods of a converter in the two microseconds of a slot. -/
def ConvClock.periods (c : ConvClock) : Nat := 2 * c.mhz / c.divider

/-- One period of a converter whose sense voltage reached `mv`: at 50 mV it ends at once. -/
def Conv.period (k : Conv) (mv : Nat) : Conv :=
  if 50 ≤ mv then { early := true, limited := min 1000 (k.limited + 1) } else { early := false, limited := 0 }

/-- The periods of two microseconds, `mv` giving the highest sense voltage of each by converter and period: of a converter that is on or starting. -/
def State.convStep (s : State) (mv : Nat → Nat → Nat) : State :=
  let runs := fun (c : Converter) => s.railOn c.rail || s.reg (K.RAIL_STATE c.rail) == 1
  let l := Converter.all.mapIdx fun i c =>
    if runs c then (List.range s.convClock.periods).foldl (fun k j => k.period (mv i j)) (s.sup.conv.getD i {}) else {}
  s.setSup { s.sup with conv := l }

/-- Those of an interval without a slot tick, in HELD, at the start of the rails or without REFCLK: their sense voltages are free, and a rail fault comes as
RAIL_FAULT alone (log 45). -/
def State.convFree (s : State) : State :=
  let d := s.draw
  d.2.convStep fun i j => Config.freeNat d.1 / 2 ^ (8 * (2 * i + j)) % 64

/-- The periods of the slot that ends, given the highest sense voltage of each; 1,000 limited ones in a row are a fault of the rail (R430). -/
def State.convPeriods (s : State) (sense : List (List Nat)) : State :=
  let s := s.convStep fun i j => (sense.getD i []).getD j 0
  let l := s.sup.conv
  match (Converter.all.zip l).find? fun p => decide (1000 ≤ p.2.limited) with
  | some p => (s.setSup { s.sup with conv := [{}, {}, {}, {}] }).railFault p.1.rail 4
  | none => s

/-- HOLD_CIRCUIT_THRESHOLD: VIN crosses 3.0 V (R89). -/
def State.holdCircuit (s : State) (above : Bool) : State := { s with mir := { s.mir with holdOn := above } }

/-! ### The thermal latch (R440, R444) -/

/-- The latch sets when a reading or a break calls for it. -/
def State.latchStep (s : State) : State :=
  if s.mode = .off ∨ s.therm.latched ∨ !s.latchDue then s
  else
    let s := s.coreReset .thermalLatch
    ({ s with therm := { s.therm with latched := true } }).railsOff false

/-! ### RESET_N, TEST_EN and TRST_N (R414, R415, R459 to R462) -/

def State.setRst (s : State) (r : ResetState) : State := { s with rst := r }

/-- RESET_ASSERT: RESET_N is judged low. -/
def State.resetAssert (s : State) : State :=
  if !s.sup.released ∨ s.rst.resetLow then s
  else if s.mode = .thermalLatch then s.setRst { s.rst with resetLow := true }
  else
    let s := s.count K.RESET_COUNT
    let s := s.setRst { s.rst with resetLow := true, resetSince := true }
    (s.setSup { s.sup with resetInLockOut := s.sup.lockOut }).enterHeld

/-- RESET_STUCK: RESET_N has been low for 2 s. -/
def State.resetStuck (s : State) : State :=
  if s.rst.resetLow ∧ !s.rst.stuck ∧ s.mode ≠ .thermalLatch then (s.setRst { s.rst with stuck := true }).logRet 1 [] else s

/-- RESET_RELEASE: RESET_N has been high for 20 µs. -/
def State.resetRelease (s : State) : State :=
  if !s.rst.resetLow then s
  else
    let s := s.setRst { s.rst with resetLow := false, stuck := false, tapHeld := s.rst.tapHeld && !s.rst.resetSince, resetSince := false }
    if s.mode = .thermalLatch then s
    else if s.sup.lockOut ∧ s.sup.resetInLockOut then (s.setSup { s.sup with lockOut := false, resetInLockOut := false }).railsStart
    else if s.mode = .held ∧ s.railsGood ∧ !s.pinsHold then s.enterBoot
    else s

/-- Structural scan is left, by TEST_EN or TRST_N: the dies stay held until RESET_N is asserted and released (R415). -/
def State.leaveScan (s : State) : State :=
  if s.rst.structural then (s.setRst { s.rst with structural := false, tapHeld := true, resetSince := false }).enterHeld else s

/-- TEST_EN_CHANGE. -/
def State.testEnChange (s : State) (high : Bool) : State :=
  if high then (s.setRst { s.rst with testEn := true }).enterHeld
  else if !s.rst.testEn then s
  else s.setRst
    { s.rst with testEn := false, structural := false, tapHeld := s.rst.tapHeld || s.rst.structural, resetSince := s.rst.resetSince && !s.rst.structural, tapIr := 15, bypass := true, pinsHighZ := false
                 pinsFromChain := false }

/-- TRST_N_ASSERT. -/
def State.trst (s : State) : State :=
  let r := { s.rst with tapIr := 15, bypass := true, pinsHighZ := false, pinsFromChain := false }
  (s.setRst r).leaveScan

/-- BYPASS, and every instruction that is not decoded. -/
def State.tapBypass (s : State) (ir : Nat) : State :=
  s.setRst { s.rst with tapIr := ir, bypass := true, pinsHighZ := false, pinsFromChain := false }

/-- An instruction that needs TEST_EN high (Table 16.5). -/
def State.tapTest (s : State) (ir : Nat) (f : ResetState → ResetState) : State :=
  if s.rst.testEn then s.setRst (f { s.rst with tapIr := ir, bypass := false, pinsHighZ := false, pinsFromChain := false }) else s.tapBypass 15

/-- SCAN_ENTRY (R415). -/
def State.scanEntry (s : State) : State :=
  if s.rst.testEn then
    let s := s.zeroise.put K.KEY_STATE 4
    s.tapTest 10 fun r => { r with structural := true }
  else s.tapBypass 15

/-- RET_LOG_CLEAR (R462): the rail of a lock-out no longer reads LOCKED_OUT (R430). -/
def State.retLogClear (s : State) (v : Nat) : State :=
  if v ≠ 1 then s
  else
    let s := { s with retLog := [] }
    match s.sup.lockRail with
    | some i =>
      let s := s.setSup { s.sup with lockRail := none }
      if s.reg (K.RAIL_STATE i) = 4 then s.put (K.RAIL_STATE i) 2 else s
    | none => s

/-- FAULT_N is driven low (R311, R382, R402, R444, R460). -/
def State.faultLow (s : State) : Bool :=
  s.reg K.SH_CAUSE != 0 || s.reg K.SH_LATCHED != 0 || s.boot.oldCauses != 0 || s.mode == .safeHold || s.mode == .thermalLatch
    || s.reg K.SEAL_STATE == 2 || s.rst.stuck

/-! ### BOOT (R452 to R456) -/

/-- What the part drives on FIO0 to FIO3 at the FSCK clocks of a read before its data (R455): the command 0xEB on FIO0, a 24-bit address, two mode clocks
of 0xF0 and four dummy clocks in which it drives nothing. -/
def flashHead (a : Nat) : List FlashClock :=
  ((List.range 8).map fun j => { lines := 1, value := 0xEB / 2 ^ (7 - j) % 2 })
    ++ ((List.range 6).map fun j => { lines := 15, value := a / 16 ^ (5 - j) % 16 })
    ++ [{ lines := 15, value := 15 }, { lines := 15, value := 0 }] ++ List.replicate 4 { lines := 0 }

/-- Data of a read: addresses have 24 bits, and a byte that nothing lists is erased. -/
def flashRead (f : List (Nat × List Byte)) (a n : Nat) : List Byte :=
  (List.range n).map fun i =>
    let x := (a + i) % 2 ^ 24
    match f.find? fun r => decide (r.1 ≤ x ∧ x < r.1 + r.2.length) with
    | some r => r.2.getD (x - r.1) 255
    | none => 255

/-- The part has read `n` bytes of the flash from address `a`. -/
def State.flashNote (s : State) (a n : Nat) : State :=
  { s with boot := { s.boot with reads := { head := flashHead a, bytes := n } :: s.boot.reads } }

/-- BOOT_START: steps 1 to 3, from the fuse load to the start of the PLLs. -/
def State.bootStart (s : State) (i : BootInput) : State :=
  if s.mode ≠ .boot ∨ s.boot.step ≠ 0 then s
  else
    let old := s.boot.oldCauses ||| s.reg K.SH_LATCHED
    let stuck := s.retLog.any fun e => fieldAt e 0 4 == 1
    let s := { s with objs := s.keepRegs (keptInBoot s.sup.lostByL4), sup := { s.sup with lostByL4 := false }, therm := { latched := s.therm.latched } }
    let s := s.put K.KEY_STATE (if s.regBit K.KEY_STATE 2 then 4 else 3)
    let s := { s with boot := { step := 3, flash := i.flash, failed := i.fails, oldCauses := old } }
    let s := if s.sealed.blown then ((s.sealLoad s.sealed.fuseImage).put K.SEAL_STATE 1).put K.SEAL_CRC s.sealed.fuseCrc else s
    let s := s.bootRetire
    let s := if stuck then s.stick 26 else s
    let s := (s.strapBoot i.straps).sealCheck false
    (s.pllStart).hkStart

/-- The header of script slot A or B. -/
def scriptBase (b : Bool) : Nat := if b then 0x400000 else 0

def State.scriptHeader (s : State) (b : Bool) : List Byte := flashRead s.boot.flash (scriptBase b) 64

/-- The slot holds MAGIC. -/
def State.scriptMagic (s : State) (b : Bool) : Bool := fieldAt (s.scriptHeader b) 0 2 == 0x4253

/-- Size of a script record by its type, 0 for no type (Table 18.6). -/
def recordSize : Nat → Nat
  | 1 => 16
  | 2 => 48
  | 3 => 8
  | 4 => 16
  | 15 => 8
  | _ => 0

/-- Cuts the records; none where they do not fit. -/
def cutRecords : Nat → List Byte → Option (List (List Byte))
  | _, [] => some []
  | 0, _ => none
  | n + 1, b :: l =>
    let k := recordSize b.toNat
    if k = 0 ∨ (b :: l).length < k then none else (cutRecords n ((b :: l).drop k)).map ((b :: l).take k :: ·)

/-- Bytes `lo` to `hi - 1` of a record are 0. -/
def zeroBytes (r : List Byte) (lo hi : Nat) : Bool := (bytesAt r lo (hi - lo)).all (· == 0)

/-- A record's reserved bytes are 0 and its fields within their ranges. -/
def recordOk (r : List Byte) : Bool :=
  match fieldAt r 0 1 with
  | 1 => decide (1 ≤ fieldAt r 1 1 ∧ fieldAt r 1 1 ≤ 8) && zeroBytes r 5 8
  | 2 => zeroBytes r 1 2 && zeroBytes r 5 8
  | 3 => zeroBytes r 1 4
  | 4 => zeroBytes r 1 2 && decide (1 ≤ fieldAt r 5 1 ∧ fieldAt r 5 1 ≤ 50) && zeroBytes r 6 8
  | _ => zeroBytes r 1 8

/-- Byte `o` of the staging frames 2,048 to 3,071 in physical memory, none in a bank without a physical one. -/
def State.stageAddr (s : State) (o : Nat) : Option Nat :=
  let f := 2048 + o / 65536
  let p := s.reg (K.BANK_MAP (f / 64))
  if p = 255 then none else some (p * bankBytes + f % 64 * 65536 + o % 65536)

/-- Content goes into the staging frames from byte `o` on. -/
def State.stagePut (s : State) (o : Nat) (b : List Byte) : State :=
  s.setFs { s.fs with mem := b.zipIdx.foldl (fun m x => (s.stageAddr (o + x.2)).elim m fun a => memPut m a x.1) s.fs.mem }

/-- Content of the staging frames. -/
def State.stageGet (s : State) (o n : Nat) : List Byte :=
  (List.range n).map fun i => (s.stageAddr (o + i)).elim memDefault (memGet s.fs.mem)

/-- The contents of the DOMAIN records go into the staging frames, one after the other from byte `o` on; whether each matches its SHA-256 there. -/
def State.stageAll (s : State) : Nat → List (List Byte) → Bool × State
  | _, [] => (true, s)
  | o, r :: l =>
    let a := fieldAt r 8 4
    let n := fieldAt r 12 4
    let s := (s.stagePut o (flashRead s.boot.flash a n)).flashNote a n
    let q := s.stageAll (o + n) l
    (sha256 (s.stageGet o n) == bytesAt r 16 32 && q.1, q.2)

/-- The records of a slot that passes every check of R456 on the script itself. -/
def State.scriptText (s : State) (b : Bool) : Option (List (List Byte)) :=
  let h := s.scriptHeader b
  let base := scriptBase b
  let len := fieldAt h 4 4
  if fieldAt h 2 2 ≠ 1 ∨ len < 72 ∨ 65536 < len ∨ len % 8 ≠ 0 ∨ 2 ≤ fieldAt h 16 4 ∨ 2097152 < fieldAt h 20 4 ∨ !zeroBytes h 24 64 then none
  else
    let all := flashRead s.boot.flash base len
    let sig := flashRead s.boot.flash (base + len) 64
    let pub := flashRead s.boot.flash (base + len + 64) 64
    match cutRecords 8192 (all.drop 64) with
    | none => none
    | some l =>
      let doms := l.filter fun r => fieldAt r 0 1 == 2
      let ok := l.length == fieldAt h 12 4 && fieldAt (l.getLastD []) 0 1 == 15 && (l.dropLast.all fun r => fieldAt r 0 1 != 15) && l.all recordOk
        && sha256 pub == s.fuses.keyHash && ecdsaVerify (sha256 all) sig pub
        && sumNat (doms.map fun r => fieldAt r 12 4) == fieldAt h 20 4
      if ok then some l else none

/-- A slot is read and checked: its records when it is accepted. Its DOMAIN contents stand in the staging frames then. -/
def State.scriptAccept (s : State) (b : Bool) : Option (List (List Byte)) × State :=
  let len := fieldAt (s.scriptHeader b) 4 4
  let s := if 72 ≤ len ∧ len ≤ 65536 then s.flashNote (scriptBase b) (len + 128) else s
  match s.scriptText b with
  | none => (none, s)
  | some l =>
    let q := s.stageAll 0 (l.filter fun r => fieldAt r 0 1 == 2)
    (if q.1 then some l else none, q.2)

/-- KEY_HASH reads all zero. -/
def State.noKeyHash (s : State) : Bool := s.fuses.keyHash.all (· == 0)

/-- Slots of the script are tried in order (R456): BOOT_STATUS, and the records to apply. -/
def State.scriptPick (s : State) : State :=
  let a := s.scriptMagic false
  let accept := fun (s : State) (b : Bool) => if s.noKeyHash then (none, s) else s.scriptAccept b
  let take := fun (s : State) (b : Bool) (l : List (List Byte)) =>
    ({ s with boot := { s.boot with script := l, recNo := 0, slotB := b, step := 9, staged := 0 } }).put K.SCRIPT_VERSION (fieldAt (s.scriptHeader b) 8 4)
  let s := if s.noKeyHash then s.putBit K.BOOT_STATUS 4 true else s
  let s := if !a && !s.scriptMagic true then s.putBit K.BOOT_STATUS 5 true else s
  let none_ := fun (s : State) => ({ s with boot := { s.boot with step := 10 } })
  let second := fun (s : State) =>
    let s := if a then s.flashNote (scriptBase true) 64 else s
    if s.scriptMagic true then
      let q := accept s true
      match q.1 with
      | some l => take q.2 true l
      | none => none_ (q.2.putBit K.BOOT_STATUS 3 true)
    else none_ s
  if a then
    let q := accept s false
    match q.1 with
    | some l => take q.2 false l
    | none => second (q.2.putBit K.BOOT_STATUS 2 true)
  else second s

/-- The headers are read (R456, Table 18.4 step 5): that of slot B only where slot A does not hold MAGIC. -/
def State.headersRead (s : State) : State :=
  let s := s.flashNote (scriptBase false) 64
  if s.scriptMagic false then s else s.flashNote (scriptBase true) 64

/-- FLAGS bit 0 of the first header read that holds MAGIC (R456). -/
def State.wantsBist (s : State) : Bool :=
  if s.scriptMagic false then fieldAt (s.scriptHeader false) 16 1 % 2 == 1
  else s.scriptMagic true && fieldAt (s.scriptHeader true) 16 1 % 2 == 1

/-- A new AUTH_EPOCH from the entropy source, and no counter used yet (R304). -/
def State.newEpoch (s : State) : State :=
  let d := s.draw
  (d.2.put K.AUTH_EPOCH (Config.entropy d.1 % 2 ^ 32)).put K.AUTH_COUNTER 0

/-- The Field Store is cleared, and host paths answer (R221, Table 18.4 step 7). -/
def State.storeClear (s : State) : State :=
  { s with fs := { s.fs with mem := [], bad := [], cleared := true }, boot := { s.boot with answers := true } }

/-- Steps 4 to 8 at the first lock of PLL A in BOOT (R452). -/
def State.bootLocked (s : State) : State :=
  if s.mode ≠ .boot ∨ s.boot.step ≠ 3 then s
  else
    let s := s.newEpoch.headersRead
    let s := if s.wantsBist then (s.startUpBist s.boot.failed).putBit K.BOOT_STATUS 9 true else s
    (s.storeClear).scriptPick

/-- PLL A is FAILED at step 3: steps 5, 6, 8 and 9 are skipped (R453). -/
def State.bootFailed (s : State) : State :=
  if s.mode ≠ .boot ∨ s.boot.step ≠ 3 then s
  else
    let s := (s.newEpoch.putBit K.BOOT_STATUS 7 true).storeClear
    { s with boot := { s.boot with step := 10 } }

/-- BOOT_END: the staging frames are zeroed, and latched causes that did not come up again are gone (R402). -/
def State.bootEnd (s : State) : State :=
  if s.mode ≠ .boot ∨ s.boot.step ≠ 10 then s
  else
    let s := s.forRange 16 fun s i => s.setFs (s.fs.clearBank (s.reg (K.BANK_MAP (32 + i))))
    ({ s with boot := { s.boot with step := 11, oldCauses := 0, script := [], flash := [], reads := [] } }).put K.BOOT_TIME (2 * s.boot.ticks % 2 ^ 32)

/-! ### Locks (R318 to R320, R411, R452) -/

/-- What follows a change of the lock declarations, given those before it. -/
def State.lockFollow (s : State) (a b : Bool) : State :=
  let s := if !a && s.lockedA then s.bootLocked else s
  let s := if a && !s.lockedA then s.bistLock false else s
  if b && !s.lockedB then s.bistLock true else s

/-- PLL_WINDOW_END. -/
def State.pllWindowEnd (s : State) (b : Bool) (d : Int) (cc : Nat) : State := (s.pllWindow b d cc).lockFollow s.lockedA s.lockedB

/-- PLL_FAIL_TIMEOUT. -/
def State.pllFailed (s : State) (b : Bool) : State :=
  let s' := s.pllFail b
  if !b && s'.reg K.PLLA_STATE == 4 then s'.bootFailed else s'

/-- REFCLK_LOSS. -/
def State.refLost (s : State) (cc : Nat) : State := (s.refLoss cc).lockFollow s.lockedA s.lockedB

end Sys2Proof.Machine
end

