-- ==== Sys2Proof/Machine/Plan.lean ====
section
/-! DEFINITION. The plan store (chapter 2): writes of the pending bank, the load-time check, the swap request and the swap. -/

namespace Sys2Proof.Machine

def State.setPlan (s : State) (p : PlanStore) : State := { s with plan := p }

/-- A swap is requested: SWAP_STATE reads GENERATING or ARMED (R52). -/
def State.swapHolds (s : State) : Bool := s.reg K.SWAP_STATE == 1 || s.reg K.SWAP_STATE == 2

/-- State code of CHECK_RESULT: 0 unchecked, 1 checking, 2 accepted, 3 refused. -/
def State.checkState (s : State) : Nat := s.reg K.CHECK_RESULT / 2 ^ 24

/-- The pending bank is held by a check or a swap (R52). -/
def State.planHeld (s : State) : Bool := s.checkState == 1 || s.swapHolds

/-- The pending plan is replaced and CHECK_RESULT reads UNCHECKED (R52). -/
def State.planTake (s : State) (b : List Byte) : State :=
  (s.setPlan { s.plan with pending := { s.plan.pending with plan := b } }).put K.CHECK_RESULT 0

/-- Table `i` of the pending bank is replaced (R52). -/
def State.tableTake (s : State) (i : Nat) (b : List Byte) : State :=
  (s.setPlan { s.plan with pending := { s.plan.pending with tables := setAt [] s.plan.pending.tables i b } }).put K.CHECK_RESULT 0

/-- A plan length that the write accepts (R30). -/
def planLenOk (n : Nat) : Bool := n % 8 == 0 && decide (n ≤ 262144)

/-- A table length that the write accepts: a wrong one is RESOURCE at the check (R30, R46). -/
def tableLenOk (n : Nat) : Bool := n % 8 == 0 && decide (n ≤ 524288)

/-- The limits in force that the checker applies (R48, R266, R403). A dump is charged to the bank of the page at HDUMP_BASE, whichever of the entries beyond
it the dump will fill (log 48). -/
def State.checkLimits (s : State) : CheckLimits :=
  { c := s.reg K.CEIL_CODE, vMin := s.inForce K.V_MIN, dirAllow := s.inForce K.DIR_ALLOW, margin := s.inForce K.POS_MARGIN
    windows := (bitsSet (s.inForce (K.EXCL_PRESET (s.reg K.PRESET_NOW))) 8).map fun w =>
      (s.inForceI (K.EXCL_LO w), s.inForceI (K.EXCL_HI w), s.inForce (K.EXCL_EMASK w))
    ceil := (List.range 16).map fun e => s.scaled (K.SHOT_CEIL e)
    b100 := (List.range 16).map fun e => s.scaled (K.BUDGET_100MS e)
    b10 := (List.range 16).map fun e => s.scaled (K.BUDGET_10S e)
    streamPoints := (List.range 16).map fun n => s.streamType n == 1
    dumpBank := fun space ch =>
      match s.translate space (s.reg (K.HDUMP_BASE ch)) true false with
      | .ok _ => some (bits (s.pageEntry space (s.reg (K.HDUMP_BASE ch) / 65536 % 4096)) 11 0 / 64)
      | .error _ => none }

/-- A write of `v` to PLAN_CHECK while nothing holds the bank: 1 starts the check, other values are ignored (R47). -/
def State.planCheck (s : State) (v : Nat) : State := if v = 1 then s.put K.CHECK_RESULT (2 ^ 24) else s

/-- NONCE of the active plan. -/
def State.activeNonce (s : State) : Option Nat := if s.plan.hasActive then some (planNonce s.plan.active) else none

/-- PLAN_CHECK_COMPLETE: the outcome of the check in its registers (R47, R50, R51). -/
def State.planChecked (s : State) : State :=
  if s.checkState ≠ 1 then s
  else
    let r := checkPlan s.plan.pending s.checkLimits s.activeNonce
    let f := r.1
    let s := (((s.put K.CHECK_RESULT ((if f.code = 0 then 2 else 3) * 2 ^ 24 + f.code)).put K.CHECK_WORD (f.word % 65536)).put K.CHECK_SLOT
      (f.frame % 8 * 65536 + f.slot % 65536)).put K.CHECK_DETAIL (f.detail % 65536)
    s.put K.CHECK_WARN r.2

/-- A plan with a FIRE word that asks for dither (R74). -/
def dithers (b : PlanBank) : Bool :=
  let ws := planWords b.plan
  (opAddrs ws).any fun a => opOf (wordAt ws a) == 0x03 && (fireFields (wordAt ws a)).dither

/-- The Dither Key is present (R74, R413). -/
def State.ditherKey (s : State) : Bool := s.regBit K.KEY_STATE 0

/-- A write of 1 to PLAN_SWAP (R53, R54, R74). -/
def State.swapRequest (s : State) : State :=
  if s.swapHolds then s
  else if s.checkState ≠ 2 ∨ (!s.ditherKey ∧ dithers s.plan.pending) then s.put K.SWAP_STATE 3
  else (s.setPlan { s.plan with shadowNonce := planNonce s.plan.pending, swapTicks := 0 }).put K.SWAP_STATE 1

/-- The swap takes place at the tick to come (R54): a frame boundary where a frame runs, any tick where none does. -/
def State.swapDue (s : State) : Bool :=
  s.reg K.SWAP_STATE == 2 && s.plan.swapTicks == 1 && (!s.comet.running || s.atFrameBoundary)

/-- A write of 2 to PLAN_SWAP at a cc of the present slot (R56). -/
def State.swapCancel (s : State) (cc : Nat) : State :=
  if !s.swapHolds || (s.swapDue && decide (2800 ≤ cc + 40)) then s
  else (s.setPlan { s.plan with swapTicks := 0 }).put K.SWAP_STATE 0

/-- PLAN_SWAP (R53, R56): other values have no effect. -/
def State.planSwap (s : State) (v cc : Nat) : State :=
  if v = 1 then s.swapRequest else if v = 2 then s.swapCancel cc else s

/-- DITHER_TABLE_READY at a cc of the present slot (R54). -/
def State.ditherReady (s : State) (cc : Nat) : State :=
  if s.reg K.SWAP_STATE = 1 then (s.setPlan { s.plan with swapTicks := ticksAfter cc }).put K.SWAP_STATE 2 else s

/-- The swap, when it is due at the tick to come (R55): the banks exchange roles, the new table is active, and Comet starts at the first FRAME word
of the new plan. -/
def State.swapTick (s : State) : State :=
  if !s.swapDue then s
  else
    let s := s.calFrame
    let p := s.plan
    let s := s.setPlan { active := p.pending, pending := p.active, hasActive := true, swapped := true, shadowNonce := p.shadowNonce
                         ditherNonce := if s.ditherKey then some p.shadowNonce else none, swapTicks := 0 }
    let s := (((s.put K.SWAP_STATE 0).put K.CHECK_RESULT (if p.hasActive then 2 ^ 25 else 0)).put K.FRAME_COUNT 0).stick 30
    let s := s.eventTick 30 s.nextStamp
    let s := s.put K.ACTIVE_PLAN_ID (fieldAt s.plan.active.plan 12 4)
    if !s.cometMode then s
    else if p.hasActive then s.setComet { running := true, startDue := true, throttleFrame := s.comet.throttleFrame }
    else ((s.setComet { running := true, startDue := true, throttleFrame := s.comet.throttleFrame }).sweepRestart).calEnter

/-- Counts of ticks of the plan store at a tick. -/
def State.planCounts (s : State) : State :=
  s.setPlan { s.plan with swapTicks := if 1 < s.plan.swapTicks then s.plan.swapTicks - 1 else s.plan.swapTicks, swapped := false }

end Sys2Proof.Machine
end

