-- ==== Sys2Proof/Machine/Operands.lean ====
section
/-! DEFINITION. Every operand form of a dictionary access: which objects a path reaches, the value or bytes a read returns, partial reads with
their snapshots, and the checks a write passes (R5, R7, R280 to R283, R289, R292, R297, R307, R308). -/

namespace Sys2Proof.Machine

/-! ### Paths and versions -/

/-- The dictionary server answers (chapter 18): the core die runs, and in BOOT from the end of step 7. -/
def State.answers (s : State) : Bool := s.mode.coreRuns && (s.mode != .boot || s.boot.answers)

/-- Dictionary version in force on a path (R307); with another major version declared, that version. -/
def State.dictVer (s : State) (p : Path) : Nat :=
  match (s.pathState p).dictVer with
  | none => 0x0203
  | some v => if v / 256 = 2 then min v 0x0203 else v

/-- Protocol version in force on a path, 0 for QSPI (R302, R308). -/
def State.protoVer (s : State) (p : Path) : Nat :=
  match p with
  | .qspi => 0
  | .sideband => 2
  | _ => (s.pathState p).protoVer

/-- PATH_VER of a path. -/
def State.pathVer (s : State) (p : Path) : Nat := s.protoVer p * 65536 + s.dictVer p

/-- The path's version serves the object (R307). -/
def State.serves (s : State) (p : Path) (k : Nat) : Bool := s.dictVer p / 256 == 2 || (decide (0x0100 ≤ k / 256) && decide (k / 256 ≤ 0x02FF))

/-- The object, where the path reaches it; else the result that the access ends with (R7, R281). -/
def State.find (s : State) (p : Path) (k : Nat) : Except Nat ObjRow :=
  if !s.serves p k then .error 9
  else match objRow? k with
    | some r => .ok r
    | none => .error 1

/-! ### What a read returns -/

/-- COMET_STATE (R59, R62). -/
def State.cometState (s : State) : Nat :=
  if !s.plan.hasActive then 0 else if !s.comet.running then 1 else if s.locked then 2 else 3

/-- FRAME_POS: ordinal of the frame and slot in it of the present slot (R62). -/
def State.framePos (s : State) : Nat := s.pipe.cur.frameOrd % 8 * 65536 + s.pipe.cur.frameSlot % 65536

/-- ENS_STATE (R62's counterpart of chapter 15). -/
def State.ensState (s : State) : Nat :=
  if s.mode = .safeHold then 3 else if s.mode = .degraded then 2 else if s.mode.isRunning then 1 else 0

/-- PERMIT_STATE: the permits as driven and their feedbacks (R384). -/
def State.permitShow (s : State) : Nat :=
  ofBool (s.permitLevel false) + 2 * ofBool (s.permitLevel true) + 4 * ofBool s.ensB.fbA + 8 * ofBool s.ensB.fbB

/-- The groups with a shadow that differs from its value in force (R285). -/
def State.dirty (s : State) : Nat :=
  let g := fun (k : Nat) => (objRow? k).bind (·.group)
  let regs := s.shadow.filterMap fun p => if p.2 = s.reg p.1 then none else g p.1
  let doms := s.domShadow.filterMap fun p => if p.2 = s.dom p.1 then none else g p.1
  sumNat (((List.range 32).filter (regs ++ doms).contains).map fun n => 2 ^ n)

/-- A controller is error-passive: an error counter has reached 128 (ISO 11898-1, log 46). -/
def CanCtl.passive (c : CanCtl) : Bool := decide (128 ≤ c.txErrors ∨ 128 ≤ c.rxErrors)

/-- CAN_STATE: off while not enabled or without the CAN clock (R293, R327). -/
def State.canState (s : State) (i : Nat) : Nat :=
  let c := s.can.getD i {}
  if !c.enabled || s.reg K.REF_STATE == 0 then 0 else if c.busOff then 3 else if c.passive then 2 else 1

/-- Live bits of the Pennant word (R309, Table 18.8). -/
def State.pennantLive (s : State) : List Bool :=
  let rtd := (List.range 2).any fun n => s.reg (K.RTD_STATE n) == 1
  let hk := (List.range 64).any fun e => bitAt (s.reg (K.HK_RESULT e)) 26
  [ s.mode.coreRuns && (s.mode != .boot || s.boot.step == 11),
    s.cometState == 2,
    s.spec.running && (List.range 24).any (fun p => s.reg (K.SP_MODE p) != 0),
    s.mode == .degraded,
    s.mode == .safeHold,
    s.therm.warn,
    s.reg K.THROT_STEP != 0,
    decide (1 ≤ s.reg K.SHED_LEVEL),
    decide (2 ≤ s.reg K.SHED_LEVEL),
    decide (3 ≤ s.reg K.SHED_LEVEL),
    s.lockedA,
    s.lockedB,
    s.reg K.STR_STATE == 5,
    s.laneSpared,
    s.reg K.CAL_UNSETTLED != 0 || s.reg K.CAL_RESTORE == 1,
    decide (1 ≤ s.reg K.BIST_STATE) && decide (s.reg K.BIST_STATE ≤ 4),
    s.spareInUse,
    s.spareGone,
    false, false, false,
    s.therm.sensors.any (·.broken),
    s.reg K.SEAL_STATE == 1,
    false, false, false, false, false, false,
    s.reg K.SUN_SAT_MASK != 0,
    false,
    rtd || hk ]

/-- The Pennant word (R309, R465). -/
def State.pennant (s : State) : Nat :=
  let live := s.pennantLive
  sumNat ((List.range 32).map fun n => if live.getD n false || bitAt s.penn.sticky n then 2 ^ n else 0)

/-- Registers whose value is computed from the rest of the state; the others are stored. -/
def State.computed (s : State) (p : Path) (k : Nat) : Option Nat :=
  let sub := k % 256
  match k / 256 with
  | 0x1000 => if sub = 2 then some s.cometState else none
  | 0x1030 => if sub = 3 then some s.framePos else none
  | 0x2004 => some (ofBool s.ditherKey + 2 * ofBool s.plan.ditherNonce.isSome)
  | 0x3000 => some (s.eeState (sub - 1))
  | 0x4013 => some (min 0xFFFFFFFF (roundOpen "SPEC_OUT_RATE" (s.specOutRate / 1000)).toNat)
  | 0x4014 => some (s.spState (sub - 1))
  | 0x4037 => some (min 0xFFFFFFFF (roundOpen "DENS_LOAD" (s.densLoad / 1000)).toNat)
  | 0x5050 => if sub ≤ 4 then some (s.tagsOf (sub - 1)) else none
  | 0x5808 => some (s.txLaneState (sub - 1))
  | 0x5830 => if sub = 2 then some (strLoad s.objs) else none
  | 0x0100 => if sub = 5 then some s.fuses.uniqueId else none
  | 0x0200 => if sub = 1 then some p.num
              else if sub = 3 then some (s.pathVer .canA) else if sub = 4 then some (s.pathVer .canB)
              else if sub = 5 then some (s.pathVer .qspi) else if sub = 6 then some (s.pathVer .sideband) else none
  | 0x0203 => if sub ≤ 2 then some (s.canState (sub - 1)) else none
  | 0x0212 => some s.dirty
  | 0x0230 => if sub = 1 then some s.qspi.bulkOut.length else if sub = 2 then some (32768 - s.qspi.bulkIn.length) else none
  | 0x7800 => if sub = 1 then some s.ensState else none
  | 0x7830 => if sub = 1 ∨ sub = 2 then some (s.reg k ||| s.heldCauses) else none
  | 0x783B => some s.permitShow
  | 0x8011 => some (ofBool (s.sliceFree (sub - 1)))
  | 0x8012 => some (if sub = 6 then s.fuseRows else s.poolFree (sub - 1))
  | 0x9000 => if sub = 2 then some s.mode.code else none
  | 0x9010 => if sub = 1 then some s.pennant else none
  | 0x9020 => some (s.slot % 2 ^ 64)
  | 0x9031 => if sub = 2 then some (s.vaoTime / 500 % 2 ^ 32) else none
  | _ => none

/-- Value that a read of a register on a path returns; a WO or RWA object reads zero (R5, R282, R306). -/
def State.view (s : State) (p : Path) (k : Nat) : Nat :=
  if (objRow? k).any fun r => r.acc == .wo || r.acc == .rwa then 0 else (s.computed p k).getD (s.reg k)

/-- A list of bytes filled with zeros to a length. -/
def padTo (n : Nat) (b : List Byte) : List Byte := b ++ List.replicate (n - b.length) 0

/-- Bytes of a text. -/
def textBytes (t : String) : List Byte := t.toUTF8.toList.map fun c => BitVec.ofNat 8 c.toNat

/-- Content of a DOMAIN or VSTR as a read returns it (R5, R282). -/
def State.domView (s : State) (k : Nat) : List Byte :=
  match k / 256 with
  | 0x0100 => textBytes (if k % 256 = 1 then "Opistel" else if k % 256 = 2 then "GZ48" else "B1")
  | 0x0240 => List.replicate 32 0
  | 0x1010 => s.plan.pending.plan
  | 0x1011 => s.plan.pending.tables.getD 0 []
  | 0x1012 => s.plan.pending.tables.getD 1 []
  | 0x1013 => s.plan.pending.tables.getD 2 []
  | 0x1014 => s.plan.pending.tables.getD 3 []
  | 0x1015 => s.plan.pending.tables.getD 4 []
  | 0x1018 => if s.plan.hasActive then s.plan.active.plan else []
  | 0x4862 => padTo 64 (s.dom k)
  | 0x5030 => if k % 256 = 4 then padTo 512 s.fs.faultLog.flatten else if k % 256 = 3 then padTo 32 (s.fs.faultFirst.getD [])
              else padTo 32 (s.dom k)
  | 0x7100 => if s.dom k = [] then s.bootImage else s.dom k
  | 0x8020 => s.spares.list.flatMap (leBytes 4)
  | 0x8022 => s.fuses.retire.flatMap (leBytes 4)
  | 0x9030 => padTo 128 s.retLog.flatten
  | 0x9040 => s.fuses.keyHash
  | i => if 0x5100 ≤ i ∧ i ≤ 0x510F then padTo 16384 (s.dom k) else s.dom k

/-- Size in bytes of a register. -/
def ObjRow.size (r : ObjRow) : Nat := r.ty.width / 8

/-- A DOMAIN. -/
def ObjRow.isDomain (r : ObjRow) : Bool := r.ty == .domain

/-- Bytes that a read of the whole object returns. -/
def State.objBytes (s : State) (p : Path) (r : ObjRow) (k : Nat) : List Byte :=
  if r.ty == .domain || r.ty == .vstr then s.domView k else leBytes r.size (s.view p k)

/-! ### Partial reads (R283, R289) -/

/-- High half of a register's value. -/
def highHalf (r : ObjRow) (v : Nat) : Nat := v / 2 ^ (r.ty.width / 2)

/-- The object is one whose halves are kept coherent: U64 in 32-bit halves, U32 in 16-bit halves. -/
def ObjRow.halves (r : ObjRow) : Bool := r.ty == .u64 || r.ty == .u32

/-- A partial read of `width` bytes from `off`: its bytes, and the path's snapshots after it (R283). -/
def State.partRead (s : State) (p : Path) (r : ObjRow) (k width off : Nat) : List Byte × State :=
  let x := s.pathState p
  let v := s.view p k
  let live := bytesAt (leBytes r.size v) off width
  if !r.halves || 2 * width ≠ r.size then (live, s)
  else if off = 0 then
    (live, s.setPath p { x with snaps := let l := x.snaps.filter (·.1 != k) ++ [(k, highHalf r v)]; l.drop (l.length - 4) })
  else match x.snaps.find? (·.1 == k) with
    | some h => (leBytes width h.2, s.setPath p { x with snaps := x.snaps.filter (·.1 != k) })
    | none => (live, s)

/-- Result of a READ of an object: 0 with its bytes and the state after it, or the access result (R289, R308). `width` 0 reads the whole. -/
def State.readObj (s : State) (p : Path) (k width off : Nat) : Nat × List Byte × State :=
  match s.find p k with
  | .error e => (e, [], s)
  | .ok r =>
    if r.isDomain then (2, [], s)
    else if width = 0 then (if off = 0 then (0, s.objBytes p r k, s) else (3, [], s))
    else if s.protoVer p = 1 ∨ !(width = 1 ∨ width = 2 ∨ width = 4) then (3, [], s)
    else
      let size := (s.objBytes p r k).length
      if off % width ≠ 0 ∨ size < off + width then (3, [], s)
      else if r.ty == .vstr then (0, bytesAt (s.domView k) off width, s)
      else let q := s.partRead p r k width off; (0, q.1, q.2)

/-- A DOMAIN that the GZ48 itself updates, of at most 4 KiB (R292). -/
def State.snapsDomain (s : State) (r : ObjRow) (k : Nat) : Bool := r.acc == .ro && decide ((s.domView k).length ≤ 4096)

/-- A DREAD of `len` bytes from `off`: result, the bytes, the DOMAIN's length, the state after it (R289, R292). -/
def State.readDomain (s : State) (p : Path) (k len off : Nat) : Nat × List Byte × Nat × State :=
  match s.find p k with
  | .error e => (e, [], 0, s)
  | .ok r =>
    if !r.isDomain then (2, [], 0, s)
    else
      let x := s.pathState p
      let s' := if off = 0 && s.protoVer p != 1 then
          s.setPath p { x with domSnap := if s.snapsDomain r k then some (k, s.domView k) else none } else s
      let b := match (s'.pathState p).domSnap with
        | some d => if d.1 = k && s.protoVer p != 1 then d.2 else s.domView k
        | none => s.domView k
      (0, (b.drop off).take len, b.length, s')

/-! ### Checks of a write (R281, R282) -/

/-- Ranges that a row of the tables cannot state: the sources of Table 12.4, and the orders that Table 15.6 states against the value in
force of the other object (R325, R405). -/
def State.extraRange (s : State) (k v : Nat) : Bool :=
  let sv := toSigned 16 v
  if k = K.CLK_SRC 0 then decide (v ≤ 2)
  else if k = K.CLK_SRC 1 then decide (v ≤ 1)
  else if k = K.PERIOD_MIN then decide (v ≤ s.inForce K.PERIOD_MAX)
  else if k = K.PERIOD_MAX then decide (s.inForce K.PERIOD_MIN ≤ v)
  else if k = K.AMP_MIN then decide (v ≤ s.inForce K.AMP_MAX)
  else if k = K.AMP_MAX then decide (s.inForce K.AMP_MIN ≤ v)
  else if k / 256 = 0x7811 then decide (sv ≤ toSigned 16 (s.inForce (K.EXCL_HI (k % 256 - 1))))
  else if k / 256 = 0x7812 then decide (toSigned 16 (s.inForce (K.EXCL_LO (k % 256 - 1))) ≤ sv)
  else true

/-- The value lies in the range of the row (R282). -/
def ObjRow.inRange (r : ObjRow) (v : Nat) : Bool :=
  match r.range with
  | .any => true
  | .nat lo hi m => decide (lo ≤ v) && decide (v ≤ hi) && v % m == 0
  | .int lo hi => decide (lo ≤ toSigned r.ty.width v) && decide (toSigned r.ty.width v ≤ hi)
  | .f32 lo hi => (f32Value v).any fun x => decide (lo ≤ x) && decide (x ≤ hi)

def State.valueOk (s : State) (r : ObjRow) (k v : Nat) : Bool := r.inRange v && s.extraRange k v

/-- The group is held by a check or an armed commit (R286). -/
def State.commitBusy (s : State) : Bool := s.reg K.COMMIT_STATE == 1 || s.reg K.COMMIT_STATE == 2

def State.groupHeld (s : State) (g : Option Nat) : Bool := s.commitBusy && g.any fun n => bitAt s.commit.mask n

/-- First refusal of a write of a register, 0 when none: access, seal, length, range, mode and commit (R5, R281, R282, R286, R390). -/
def State.writeRefusal (s : State) (m : Mode) (r : ObjRow) (k : Nat) (data : List Byte) : Nat :=
  if r.acc == .ro || r.acc == .rwa then 2
  else if r.acc == .rws && s.sealed.blown then 7
  else if data.length ≠ r.size then 3
  else if r.acc != .rwc && !s.valueOk r k (ofLe data) then 4
  else if !r.modes.holds m then 5
  else if r.acc == .rwc && s.groupHeld r.group then 6
  else 0

end Sys2Proof.Machine
end

