-- ==== Sys2Proof/Machine/Flags.lean ====
section
/-! DEFINITION. What follows the state at every moment: the outputs that shed levels, modes and Ensign gate, the packet on the lanes, the Pennant word and
the interrupt it raises (R309, R310); every meaning ends in it. -/

namespace Sys2Proof.Machine

/-- Outputs that go off as soon as a condition for them fails: permits (R384), mirror drive (R86, R89), TRIG_OUT and SLOT_OUT, reservoir (R81), APD bias (R118)
and the Streamer link (R258); the link sends what waits (R269). -/
def State.gates (s : State) : State := ((((((s.permitGate).mirGate).outGate).resGate).biasGate).linkGate).linkPump

/-- Bits of `a` that are not in `b`, below 32. -/
def newBits (a b : Nat) : Nat := sumNat (((List.range 32).filter fun n => bitAt a n && !bitAt b n).map fun n => 2 ^ n)

/-- The Pennant word is compared with the one before: a rise of an enabled bit sets IRQ_CAUSE, any change is noted for STATUS packets and CAN status frames (R274, R295, R310). -/
def State.raise (s : State) : State :=
  if !s.mode.coreRuns then { s.put K.IRQ_CAUSE 0 with penn := { s.penn with last := 0, changed := false, later := false } }
  else
    let w := s.pennant
    let rise := newBits w s.penn.last &&& s.reg K.IRQ_EN
    let s' := if rise = 0 then s else s.put K.IRQ_CAUSE (s.reg K.IRQ_CAUSE ||| rise)
    let moved := w != s.penn.last
    let at_ := s.pipe.caught
    { s' with penn := { s.penn with last := w, changed := s.penn.changed || (moved && !at_), later := s.penn.later || (moved && at_) }
              can := if moved then s.can.map fun c => { c with statusDue := c.statusDue || (c.statusEn && c.enabled) } else s.can }

/-- See `State.gates` and `State.raise`. -/
def State.settle (s : State) : State := s.gates.raise

/-- IRQ_N is low (R310). -/
def State.irqLow (s : State) : Bool := s.reg K.IRQ_CAUSE != 0

/-- A meaning's answer: the next state, settled. -/
def finish (s : State) : Host.Outcome State Fault Refusal := .next s.settle

end Sys2Proof.Machine
end

