-- ==== Sys2Proof/Machine/Balls.lean ====
section
/-! DEFINITION. The balls in each state (R414, R464, R469, Tables 18.7 and 19.4): what the block does at each of its signal balls, as its state has it, its pull, and
the boundary-scan chain over them. Levels and tolerances of chapter 19 are analogue figures (log 6). -/

namespace Sys2Proof.Machine

/-- Signal balls, those of one row of Table 18.7 together where the row says the same of them. -/
inductive Ball
  | rx (ch : Nat) | fire (e : Nat) | stx (lane : Nat) | stxc | srx | refclk | clkout (i : Nat) | loopFilter
  | canTxd (i : Nat) | canRxd (i : Nat) | hsck | hcsN | hio (i : Nat) | irqN | flashCs | flashClk | flashIo (i : Nat)
  | syncIn | trigIn | trigOut | slotOut
  | permit (b : Bool) | feedback (b : Bool) | inhibit | solIn | strap | mirrorDrive (p : Bool) | mirrorExcite | mirrorSense | chargeInput
  | apdOut (z : Nat) | apdGate | apdCs | apdHv | lasGate (high : Bool) | lasDis | lasCs | lasVs | rtdDrive | rtdSense | hkInput
  | convPwm (c : Converter) | convEn (rail : Nat) | convSense (c : Converter) | resetN | testEn | faultN | tck | tms | tdi | trstN | tdo
  deriving DecidableEq, Repr

/-- What a ball does. `active`: it carries the signal that its chapter describes. -/
inductive BallState
  | highZ
  | pulled (kohm : Nat)                -- high-impedance with a resistor to GND on each ball
  | input
  | unterminated                       -- an input with its termination off
  | ignored
  | watched
  | low
  | high
  | diffLow
  | closed                             -- a charge amplifier's input with its reset closed
  | active
  | still                              -- a lane in electrical idle: it does not toggle (R257)
  deriving DecidableEq, Repr

/-- The columns of Table 18.7; `runs` stands for SAFE-HOLD and for every other mode of the core die. -/
inductive BallColumn | off | held | unpowered | runs
  deriving DecidableEq, Repr

/-- The core die has no supply in THERMAL-LATCH, under L4 and after a rail fault (R464). -/
def State.ballColumn (s : State) : BallColumn :=
  if s.mode = .off then .off
  else if s.mode = .thermalLatch ∨ !s.railsGood then .unpowered
  else if s.mode = .held then .held
  else .runs

/-- A driven level. -/
def BallState.level (b : Bool) : BallState := if b then .high else .low

/-- The boundary-scan chain (R414): every digital signal ball but those of the port itself; the RX balls, the Streamer lanes, REFCLK, CLKOUT0, CLKOUT1 and every
analogue, high-voltage and supply ball lie outside it. MIRD and the others that R414 names are in it, observed only. The order of the cells is a DESIGN CHOICE
(log 44). -/
def chainBalls : List Ball :=
  List.flatten [
    (List.range 16).map Ball.fire,
    [.canTxd 0, .canTxd 1, .canRxd 0, .canRxd 1, .hsck, .hcsN, .hio 0, .hio 1, .hio 2, .hio 3, .irqN, .flashClk, .flashCs, .flashIo 0, .flashIo 1, .flashIo 2, .flashIo 3],
    [.syncIn, .trigIn, .trigOut, .slotOut, .permit true, .permit false, .feedback true, .feedback false, .inhibit, .solIn, .mirrorDrive true, .mirrorDrive false],
    [.apdGate, .lasGate true, .lasGate false, .lasDis, .convPwm .core1, .convPwm .core2, .convPwm .ana, .convPwm .io, .convEn 0, .convEn 1, .convEn 2],
    [.resetN, .testEn, .faultN]]

/-- The balls of the chain that it drives; the inputs and the observe-only balls (R414) it samples alone. -/
def Ball.inChain : Ball → Bool
  | .canTxd i => decide (i < 2)
  | .hio i | .flashIo i => decide (i < 4)
  | .irqN | .flashCs | .flashClk | .trigOut | .slotOut | .lasDis | .faultN => true
  | _ => false

/-- An open-drain output drives low or not at all (Table 19.4). -/
def Ball.openDrain (b : Ball) : Bool := b = .irqN || b = .faultN

/-- A receive input's front end is powered (R98). -/
def State.frontOn (s : State) (ch : Nat) : Bool := decide (1 ≤ s.reg (K.CH_STATE ch) ∧ s.reg (K.CH_STATE ch) ≤ 2)

/-- What a ball does by Table 18.7, the test access port apart. -/
def State.ballOf (s : State) (b : Ball) : BallState :=
  let c := s.ballColumn
  match b with
  | .rx ch => if c = .runs ∧ s.frontOn ch then .active else .highZ
  | .fire _ => match c with
    | .off | .unpowered => .pulled 50
    | .held => .diffLow
    | .runs => if s.mode = .safeHold then .diffLow else .active
  | .stx p => if c = .runs ∧ s.lanesOn ∧ s.txLaneState p ≠ 0 then (if s.link.idle then .still else .active) else .highZ
  | .stxc => if c = .runs ∧ s.clockOn then .active else .highZ
  | .srx => if c = .runs then .active else .unterminated
  | .refclk => if c = .held then .watched else .input
  | .clkout i => if c = .runs then
      (match s.clkLevel i with
       | .highZ => .highZ
       | .low => if (s.clk.outs.getD i {}).fmt = 3 then .low else .diffLow
       | .running => .active)
    else .highZ
  | .loopFilter => if c = .runs then .active else .highZ
  | .canTxd i => match c with
    | .off | .unpowered => .highZ
    | .held => .high
    | .runs => if s.canState i = 0 then .high else .active
  | .canRxd _ | .hsck | .hcsN | .syncIn | .trigIn => if c = .held then .ignored else .input
  | .hio _ => if c = .runs then .active else .highZ
  | .irqN => if c = .runs ∧ s.irqLow then .low else .highZ
  | .flashCs => match c with
    | .off | .unpowered => .highZ
    | .held => .high
    | .runs => if s.mode = .boot then .active else .high
  | .flashClk => match c with
    | .off | .unpowered => .highZ
    | .held => .low
    | .runs => if s.mode = .boot then .active else .low
  | .flashIo _ => if c = .runs ∧ s.mode = .boot then .active else .highZ
  | .trigOut => match c with
    | .off => .highZ
    | .unpowered => .pulled 100
    | .held => .low
    | .runs => .level s.trg.out
  | .slotOut => match c with
    | .off => .highZ
    | .unpowered => .pulled 100
    | .held => .low
    | .runs => .level s.trg.slotOut
  | .permit p => if c = .off then .pulled 100 else if c = .runs then .level (s.permitLevel p) else .low
  | .feedback _ | .solIn => if c = .held ∨ c = .unpowered then .watched else .input
  | .inhibit => .input
  | .strap => if c = .off then .highZ else .active
  | .mirrorDrive _ => match c with
    | .off => if s.mir.holdOn then .low else .pulled 10
    | .held | .unpowered => .low
    | .runs => if s.mir.driveOn then .active else .low
  | .mirrorExcite => if c = .off then .highZ else if c = .runs then .active else .low
  | .mirrorSense | .apdCs | .apdHv | .lasCs | .lasVs | .hkInput | .convSense _ => if c = .off then .highZ else .input
  | .chargeInput => if c = .off then .input else if c = .runs then .active else .closed
  | .apdOut z => if c = .off then .highZ else if c = .runs ∧ (s.apd.zones.getD z {}).biased then .active else .low
  | .apdGate => if c = .off then .highZ else if c = .runs ∧ s.apd.zones.any (·.biased) then .active else .low
  | .lasGate _ => if c = .off then .highZ else if c = .runs ∧ s.res.runs then .active else .low
  | .lasDis => if c = .off then .highZ else .level (c ≠ .runs ∨ s.res.disOn)
  | .rtdDrive => if c = .runs then .active else .highZ
  | .rtdSense => if c = .runs then .input else .highZ
  | .convPwm k => if c ≠ .off ∧ (s.railOn k.rail ∨ s.reg (K.RAIL_STATE k.rail) = 1) then .active else .highZ
  | .convEn r => if c = .off then .highZ else .level (s.railOn r || s.reg (K.RAIL_STATE r) == 1)
  | .resetN | .testEn => .input
  | .faultN => if c ≠ .off ∧ s.faultLow then .low else .highZ
  | .tck | .tms | .tdi | .trstN => .input
  | .tdo => if c = .off ∨ c = .unpowered then .highZ else .active

/-- The value that was shifted in for a ball's cell of the chain. -/
def State.preloaded (s : State) (b : Ball) : Bool := s.rst.preload.getD (chainBalls.idxOf b) false

/-- What a ball does: the chain drives, or leaves floating, the balls it may drive (R414, Table 16.5). -/
def State.ball (s : State) (b : Ball) : BallState :=
  if s.rst.testEn && b.inChain && s.rst.pinsHighZ then .highZ
  else if s.rst.testEn && b.inChain && s.rst.pinsFromChain then (if b.openDrain && s.preloaded b then .highZ else .level (s.preloaded b))
  else s.ballOf b

/-- The level that the block itself puts on a ball, if it does. -/
def BallState.driven : BallState → Option Bool
  | .low | .diffLow | .closed => some false
  | .high => some true
  | _ => none

/-- What the chain samples: at each cell the level the block drives there, else the level that stands at the ball from outside or from the signal it carries
(`pins`, in the chain's order; log 44). -/
def State.chainSample (s : State) (pins : List Bool) : List Bool :=
  chainBalls.zipIdx.map fun (b, i) => (s.ball b).driven.getD (pins.getD i false)

/-! ### Pulls (R469, Table 19.4) -/

/-- An internal pull. -/
inductive Pull
  | up (kohm : Nat)
  | down (kohm : Nat)
  | sink (nA : Nat)
  deriving DecidableEq, Repr

/-- The always-on domain is powered. -/
def State.vaoOn (s : State) : Bool := decide (s.mode ≠ .off)

/-- VIO is on. -/
def State.vioOn (s : State) : Bool := s.vaoOn && s.railOn Converter.io.rail

/-- The drive die's analogue circuits: enabled while VANA is on (R336). -/
def State.driveOn (s : State) : Bool := s.vaoOn && s.railOn Converter.ana.rail

/-- A pull of a powered ball is there while its domain is powered (R469); the pulls of Table 18.7 while it is not. The pull of a safety input is that of its
domain alone. -/
def State.pull (s : State) (b : Ball) : Option Pull :=
  match b with
  | .fire _ => if s.vioOn then none else some (.down 50)
  | .hcsN | .canRxd _ | .flashIo _ => if s.vioOn then some (.up 50) else none
  | .syncIn | .trigIn => if s.vioOn then some (.down 50) else none
  | .trigOut | .slotOut => if s.vaoOn && s.ballColumn = .unpowered then some (.down 100) else none
  | .permit _ => some (.down 100)
  | .feedback _ | .inhibit | .solIn | .convEn _ => if s.vaoOn then some (.down 100) else none
  | .mirrorDrive _ => if s.mode = .off ∧ !s.mir.holdOn then some (.down 10) else none
  | .rtdSense => if s.driveOn then some (.sink 20) else none
  | .resetN => if s.vaoOn then some (.up 100) else none
  | .testEn => if s.vaoOn then some (.down 50) else none
  | .tms | .tdi => if s.vioOn then some (.up 50) else none
  | .tck | .trstN => if s.vioOn then some (.down 50) else none
  | _ => none

end Sys2Proof.Machine
end

