-- ==== Sys2Proof/Machine/Auth.lean ====
section
/-! DEFINITION. Authenticated writes (R303 to R306, R488): the record of AUTH_WRITE, its tag, its freshness and its target. -/

namespace Sys2Proof.Machine

/-- The RWA objects (Table 11.11). -/
def authTarget (k : Nat) : Option ObjRow := (objRow? k).filter fun r => r.acc == .rwa

/-- The authentication key is present (R305, R413). -/
def State.authKey (s : State) : Bool := s.regBit K.KEY_STATE 1

/-- The bytes under the tag: UNIQUE_ID, AUTH_EPOCH and the record's first 16 (R304). -/
def State.authMessage (s : State) (b : List Byte) : List Byte := leBytes 8 s.fuses.uniqueId ++ leBytes 4 (s.reg K.AUTH_EPOCH) ++ bytesAt b 0 16

/-- The tag that a record must carry. -/
def State.authTag (s : State) (b : List Byte) : List Byte := (aesCmac s.fuses.authKey (s.authMessage b)).take 8

/-- A record refused with AUTH_RESULT `r` ends its write with AUTH (R305). -/
def State.authRefuse (s : State) (r : Nat) : Nat × State := (8, ((s.put K.AUTH_RESULT r).count K.AUTH_FAILS).stick 25)

/-- Slots in the second of R305. -/
def authSecond : Nat := slotsOfMs 1000

/-- A tag mismatch: the eighth within a second locks the records out (R305). -/
def State.authMismatch (s : State) : Nat × State :=
  let ages := 0 :: s.auth.mismatchAges
  let s := { s with auth := { mismatchAges := ages, lockTicks := if 8 ≤ ages.length then authSecond else s.auth.lockTicks } }
  s.authRefuse 1

/-- What an accepted record does at its target. -/
def State.authApply (s : State) (k v : Nat) : State :=
  if k = K.SEAL_PROGRAM then s.sealProgram v else if k = K.DEG_ACK then s.degAckWrite v else s.retireBurn v

/-- A write of `b` to AUTH_WRITE in mode `m`: its access result and the state after it (R488). -/
def State.authWrite (s : State) (m : Mode) (b : List Byte) : Nat × State :=
  let len := fieldAt b 3 1
  let k := objKey (fieldAt b 0 2) (fieldAt b 2 1)
  if b.length ≠ 32 ∨ len = 0 ∨ 8 < len then (3, s)
  else if (bytesAt b 24 8).any (· != 0) ∨ (bytesAt b (8 + len) (8 - len)).any (· != 0) then (4, s)
  else if !s.authKey then s.authRefuse 3
  else if s.auth.lockTicks ≠ 0 then s.authRefuse 4
  else match authTarget k with
    | none => s.authRefuse 5
    | some r =>
      if len ≠ r.size then (3, s)
      else if bytesAt b 16 8 ≠ s.authTag b then s.authMismatch
      else if fieldAt b 4 4 ≤ s.reg K.AUTH_COUNTER then s.authRefuse 2
      else
        let s := s.put K.AUTH_COUNTER (fieldAt b 4 4)
        if !r.modes.holds m then s.authRefuse (6 + 5 * 256) else (0, (s.authApply k (fieldAt b 8 len)).put K.AUTH_RESULT 0)

/-- The bytes of a record for target `k` (Table 11.9). -/
def authRecord (k len counter data : Nat) (tag : List Byte) : List Byte :=
  leBytes 2 (k / 256) ++ leBytes 1 (k % 256) ++ leBytes 1 len ++ leBytes 4 counter ++ leBytes 8 data ++ bytesAt tag 0 8 ++ leBytes 8 0

/-- AUTH_LOCKOUT_END: the second of lock-out is over at the tick to come (R305). -/
def State.authLockEnd (s : State) : State := if s.auth.lockTicks = 1 then { s with auth := { s.auth with lockTicks := 0 } } else s

/-- Ages of this chapter at a tick. -/
def State.authTick (s : State) : State :=
  { s with auth := { mismatchAges := (s.auth.mismatchAges.map (· + 1)).filter (· < authSecond), lockTicks := s.auth.lockTicks - 1 } }

/-- The same at a cc, which AUTH_FAIL's event takes (R309). -/
def State.authAt (s : State) (m : Mode) (b : List Byte) (cc : Nat) : Nat × State :=
  let f := s.authWrite m b
  (f.1, if f.1 = 8 then f.2.eventCc 25 cc else f.2)

end Sys2Proof.Machine
end

