-- ==== Sys2Proof/Machine/Commit.lean ====
section
/-! DEFINITION. Commit groups (R284 to R288): shadows, the check of a commit with the combination rules of every chapter, and the activation at a
tick with what it does to each block. -/

namespace Sys2Proof.Machine

/-! ### Shadows (R285) -/

/-- Commit group of an object. -/
def groupOf (k : Nat) : Option Nat := (objRow? k).bind (·.group)

/-- The object belongs to a group of the mask. -/
def inMask (mask k : Nat) : Bool := (groupOf k).any (bitAt mask)

/-- A write of an RWC register replaces its shadow; a shadow equal to the value in force is not listed. -/
def State.shadowPut (s : State) (k v : Nat) : State :=
  { s with shadow := if v = s.reg k then storeDel s.shadow k else storeSet s.shadow k v }

/-- The same for an RWC DOMAIN. -/
def State.shadowDom (s : State) (k : Nat) (b : List Byte) : State :=
  { s with domShadow := if b = s.dom k then storeDel s.domShadow k else storeSet s.domShadow k b }

/-- The shadows of the groups named equal the values in force again (DISCARD). -/
def State.shadowDrop (s : State) (mask : Nat) : State :=
  { s with shadow := s.shadow.filter (fun p => !inMask mask p.1), domShadow := s.domShadow.filter fun p => !inMask mask p.1 }

/-- The objects of one group whose shadow differs, in increasing index and subindex. -/
def State.changedIn (s : State) (g : Nat) : List Nat :=
  let mine := fun (k : Nat) => groupOf k == some g
  sortBy (fun (a b : Nat) => decide (a ≤ b)) ((s.shadow.map (·.1) ++ s.domShadow.map (·.1)).filter mine)

/-- The changed objects of the groups named, group by group (R287). -/
def State.changed (s : State) (mask : Nat) : List Nat := (bitsSet mask 32).flatMap s.changedIn

/-- The state with the shadows of the groups named in force, as a commit would put them. -/
def State.withShadows (s : State) (mask : Nat) : State :=
  let s := (s.shadow.filter fun p => inMask mask p.1).foldl (fun (s : State) p => s.put p.1 p.2) s
  (s.domShadow.filter fun p => inMask mask p.1).foldl (fun (s : State) p => s.putDom p.1 p.2) s

/-! ### The combination rules (R119, R145 to R161, R174, R176, R195, R199, R273, R325)

Each rule is a test that holds when the rule is broken, the code it refuses with, and the objects that take part. They are evaluated on the state with the
shadows of the groups named in force. -/

/-- A broken rule: its code of Table 11.3 and the objects that take part. -/
abbrev Broken := Nat × (Nat → Bool)

/-- The object is an element `i` of one of the families. -/
def oneOf (l : List Nat) : Nat → Bool := fun k => l.contains k

/-- An inconsistent combination. -/
def clash (bad : Bool) (part : Nat → Bool) : Option Broken := if bad then some (2, part) else none

/-- The first broken rule of a list. -/
def firstBroken (l : List (Option Broken)) : Option Broken := l.findSome? id

/-- CG07 (R119). -/
def State.rules07 (s : State) : Option Broken :=
  (List.range 4).findSome? fun z => firstBroken [
    clash (decide (s.reg (K.APD_VMAX z) < s.reg (K.APD_VMIN z))) (oneOf [K.APD_VMIN z, K.APD_VMAX z]),
    clash (decide (21500 < s.reg (K.APD_VMAX z) + s.reg K.APD_HEADROOM)) (oneOf [K.APD_VMAX z, K.APD_HEADROOM])]

/-- CG08 (R145). -/
def State.rules08 (s : State) : Option Broken :=
  (List.range 48).findSome? fun ch =>
    clash (decide (0x10000000 < s.reg (K.HDUMP_BASE ch) + s.reg K.HDUMP_ENTRIES * 0x10000)) (oneOf [K.HDUMP_BASE ch, K.HDUMP_ENTRIES])

/-- Settings of a pipeline. -/
def pipeKeys (p : Nat) : List Nat :=
  [K.SP_MODE p, K.SP_SEL p, K.SP_LEN p, K.SP_WIN p, K.SP_KBETA p, K.SP_OVL p, K.SP_SRC p, K.SP_AVG_MODE p, K.SP_AVG_N p, K.SP_FMT p]

/-- Some setting of some pipeline. -/
def isPipeKey (k : Nat) : Bool := decide (0x4001 ≤ k / 256) && decide (k / 256 ≤ 0x400A)

/-- The map load of R174 exceeds the limit. -/
def State.densOver (s : State) : Bool := decide ((1400000000 : Rat) < s.densLoad)

/-- CG09 (R147, R153, R159, R161, R174); `old` is the load in force. -/
def State.rules09 (s : State) (old : Rat) : Option Broken :=
  let w := s.customWin
  firstBroken [
    (List.range 24).findSome? fun p => clash (s.reg (K.SP_MODE p) == 1 && s.reg (K.SP_OVL p) == 2) (oneOf [K.SP_MODE p, K.SP_OVL p]),
    (List.range 24).findSome? fun p => clash (s.reg (K.SP_WIN p) == 5 && (w.length != s.specN (2 * p) || sumNat w == 0))
      (oneOf [K.SP_WIN p, K.SP_LEN p, K.CUSTOM_WIN]),
    (List.range 48).findSome? fun ch => clash (s.specServed ch && decide (0x10000000 < s.reg (K.SPEC_BASE ch) + s.reg K.SPEC_ENTRIES * 0x10000))
      (oneOf ([K.SPEC_BASE ch, K.SPEC_ENTRIES] ++ pipeKeys (ch / 2))),
    clash (decide ((8000000000 : Rat) < s.specOutRate)) isPipeKey,
    clash (s.densOver && decide (old < s.densLoad)) isPipeKey]

/-- CG10 (R174); the 10 µs scale with PLL A's N (R10). -/
def State.rules10 (s : State) : Option Broken :=
  firstBroken [
    clash s.densOver (fun k => k / 256 == 0x4030 || k / 256 == 0x4031),
    (List.range 48).findSome? fun ch => clash (decide ((s.reg (K.DENS_PERIOD ch) * 100000 * s.reg K.PLLA_N : Nat) < 112 * s.densRate ch))
      (oneOf [K.DENS_EN ch, K.DENS_STRIDE ch, K.DENS_PERIOD ch])]

/-- Source of a channel at a stage (Table 7.2). -/
def State.srcOf (s : State) (st ch : Nat) : Nat :=
  if ch < 32 then bits (s.reg (K.TRIG_SRC_LO st)) (2 * ch + 1) (2 * ch) else bits (s.reg (K.TRIG_SRC_HI st)) (2 * (ch - 32) + 1) (2 * (ch - 32))

/-- Code of a position at a stage (Table 7.2). -/
def State.patOf (s : State) (st p : Nat) : Nat :=
  if p < 32 then bits (s.reg (K.TRIG_PAT_LO st)) (2 * p + 1) (2 * p) else bits (s.reg (K.TRIG_PAT_HI st)) (2 * (p - 32) + 1) (2 * (p - 32))

/-- Objects of a stage. -/
def stageKeys (st : Nat) : List Nat :=
  [K.TRIG_PAT_LO st, K.TRIG_PAT_HI st, K.TRIG_SRC_LO st, K.TRIG_SRC_HI st, K.TRIG_CTRL st, K.TRIG_WITHIN st]

/-- A stage below TRIG_NSTAGES uses MASKV of a channel whose MASK_SEL is 0 (R195). -/
def State.maskvClash (s : State) : Option Broken :=
  (List.range (min 8 (s.reg K.TRIG_NSTAGES))).findSome? fun st => (List.range 48).findSome? fun ch =>
    clash (s.patOf st ch != 0 && s.srcOf st ch == 3 && s.reg (K.MASK_SEL ch) == 0) (oneOf (K.MASK_SEL ch :: K.TRIG_NSTAGES :: stageKeys st))

/-- CG11 (R176, R195 and the rule below Table 6.7). -/
def State.rules11 (s : State) : Option Broken :=
  firstBroken [
    (List.range 8).findSome? fun t =>
      let b := s.dom (K.MASK t)
      clash ((List.range (b.length / 4)).any fun i => decide (toSigned 16 (fieldAt b (4 * i + 2) 2) < toSigned 16 (fieldAt b (4 * i) 2))) (oneOf [K.MASK t]),
    (List.range 48).findSome? fun ch =>
      let m := s.reg (K.MASK_SEL ch)
      clash (m != 0 && s.dom (K.MASK (m - 1)) == []) (oneOf [K.MASK_SEL ch, K.MASK (m - 1)]),
    s.maskvClash]

/-- CG12: the stages (R191, R195). -/
def State.stageRules (s : State) (st : Nat) : Option Broken :=
  let ps := List.range 52
  let ctrl := s.reg (K.TRIG_CTRL st)
  let comb := bitAt ctrl 17
  let tpos := bits ctrl 23 18
  let mine := oneOf (K.TRIG_NSTAGES :: stageKeys st)
  firstBroken [
    clash (ps.any (fun p => s.patOf st p == 3) || bits (s.reg (K.TRIG_PAT_HI st)) 63 40 != 0 || bits ctrl 16 0 != 0) mine,
    clash (ps.all fun p => s.patOf st p == 0) mine,
    clash (comb && !(ps.any fun p => s.patOf st p == 1)) mine,
    clash (!comb && (decide (51 < tpos) || s.patOf st tpos != 1)) mine]

/-- Bytes of a ring (R198). -/
def State.ringSize (s : State) : Nat := if s.reg K.CAP_FMT = 0 then s.reg K.CAP_CH_LEN * 3 / 2 else s.reg K.CAP_CH_LEN * 2

/-- CG12 (R195, R199, Table 7.7). -/
def State.rules12 (s : State) : Option Broken :=
  let n := (bitsSet (s.reg K.CAP_CHMASK) 48).length
  firstBroken [
    (List.range (min 8 (s.reg K.TRIG_NSTAGES))).findSome? s.stageRules,
    s.maskvClash,
    clash (decide (s.reg K.ECHO_RMAX < s.reg K.ECHO_RMIN)) (oneOf [K.ECHO_RMIN, K.ECHO_RMAX]),
    clash (decide (0x10000000 < s.reg K.CAP_BASE + s.reg K.CAP_SETS * n * s.ringSize))
      (oneOf [K.CAP_BASE, K.CAP_SETS, K.CAP_CHMASK, K.CAP_FMT, K.CAP_CH_LEN]),
    clash (decide (0x10000000 < s.reg K.CAP_HDR_BASE + s.reg K.CAP_SETS * 64)) (oneOf [K.CAP_HDR_BASE, K.CAP_SETS]),
    clash (decide (s.reg K.CAP_CH_LEN < s.reg K.CAP_PRE + 1)) (oneOf [K.CAP_PRE, K.CAP_CH_LEN]),
    clash (s.reg K.CAP_DRAIN_EN == 0 && (decide (s.reg K.CAP_CH_LEN < s.reg K.CAP_PRE + s.reg K.CAP_POST + 1) || s.reg K.CAP_POST == 0xFFFFFFFF))
      (oneOf [K.CAP_DRAIN_EN, K.CAP_PRE, K.CAP_POST, K.CAP_CH_LEN])]

/-- Decimated streams, numbered from 0 as elements of STREAM_TYPE. -/
def State.streamsOf (s : State) (ty : Nat) : List Nat := (List.range 15).filter fun i => s.reg (K.STREAM_TYPE i) == ty

/-- Objects of a stream's channels. -/
def State.streamKeys (s : State) (i : Nat) : List Nat :=
  [K.STREAM_TYPE i, K.STREAM_CHMASK i] ++ (s.streamChans (i + 1)).map K.DEC_D

/-- A DECIMATED stream whose channels do not share D (R273). -/
def State.sharedD (s : State) : Option Broken :=
  (s.streamsOf 2).findSome? fun i =>
    let c := s.streamChans (i + 1)
    clash (c.any fun ch => s.reg (K.DEC_D ch) != s.reg (K.DEC_D (c.headD 0))) (oneOf (s.streamKeys i))

/-- The load of R273 exceeds the limit. -/
def State.loadOver (s : State) : Option Broken :=
  clash (decide ((19995 : Rat) < linkLoad s.objs)) fun k =>
    k / 256 == 0x5820 || k / 256 == 0x5821 || k == K.REC_BUDGET || (s.streamsOf 2).any fun i => (s.streamKeys i).contains k

/-- CG13 (R273). -/
def State.rules13 (s : State) : Option Broken := firstBroken [s.sharedD, s.loadOver]

/-- Streams that a plan names with EMIT.PTS = 1. -/
def planStreams (b : PlanBank) : List Nat :=
  let ws := planWords b.plan
  ((opAddrs ws).filter fun a => opOf (wordAt ws a) == 0x06 && (emitFields (wordAt ws a)).pts).map fun a => (emitFields (wordAt ws a)).stream

/-- Streams named by the active plan and by an accepted pending plan (R273, R287). -/
def State.namedStreams (s : State) : List Nat :=
  (if s.plan.hasActive then planStreams s.plan.active else []) ++ (if s.checkState = 2 then planStreams s.plan.pending else [])

/-- The plan rule of R273, for the streams listed. -/
def State.planRule (s : State) (l : List Nat) : Option Broken :=
  l.findSome? fun n => clash (n == 0 || s.reg (ofStream K.STREAM_TYPE n) != 1) (oneOf [ofStream K.STREAM_TYPE n])

/-- CG15 (R273). -/
def State.rules15 (s : State) : Option Broken :=
  let twice := fun ty => (s.streamsOf ty).findSome? fun i => (s.streamsOf ty).findSome? fun j =>
    clash (decide (i < j) && (s.streamChans (i + 1)).any (s.streamChans (j + 1)).contains)
      (oneOf [K.STREAM_TYPE i, K.STREAM_CHMASK i, K.STREAM_TYPE j, K.STREAM_CHMASK j])
  firstBroken [
    (s.streamsOf 2).findSome? fun i => clash (s.streamChans (i + 1)).isEmpty (oneOf (s.streamKeys i)),
    s.sharedD,
    (s.streamsOf 3).findSome? fun i => clash ((s.streamChans (i + 1)).length != 1) (oneOf (s.streamKeys i)),
    twice 2, twice 3, s.planRule s.namedStreams, s.loadOver]

/-- Frequency in MHz of a source of Table 12.4, with PLL A's N (R10) for the clocks that it makes. -/
def State.sourceMhz (s : State) (i src : Nat) : Rat :=
  if src = 0 then 100
  else if i = 1 then 3125
  else if src = 1 then (1400 * s.reg K.PLLA_N : Nat) / 112 else (5600 * s.reg K.PLLA_N : Nat) / 112

/-- Highest output frequency of a format in MHz (Table 12.5). -/
def formatMhz : Nat → Nat
  | 0 => 1600
  | 1 => 400
  | 2 => 3200
  | _ => 200

/-- CG16 and CG17: output `i` (R325). -/
def State.rulesClk (s : State) (i : Nat) : Option Broken :=
  clash (decide ((formatMhz (s.reg (K.CLK_FMT i)) : Rat) < s.sourceMhz i (s.reg (K.CLK_SRC i)) / ((max 1 (s.reg (K.CLK_DIV i)) : Nat) : Rat)))
    (oneOf ([K.CLK_EN i, K.CLK_SRC i, K.CLK_FMT i, K.CLK_DIV i] ++ if i = 0 then [K.PLLA_N] else []))

/-- The rules of one group on the state with the shadows in force. -/
def State.groupRules (s : State) (old : Rat) (g : Nat) : Option Broken :=
  match g with
  | 7 => s.rules07
  | 8 => s.rules08
  | 9 => s.rules09 old
  | 10 => s.rules10
  | 11 => s.rules11
  | 12 => s.rules12
  | 13 => s.rules13
  | 15 => s.rules15
  | 16 => s.rulesClk 0
  | 17 => s.rulesClk 1
  | _ => none

/-! ### The check (R287, Table 11.3) -/

/-- A reserved group (R284). -/
def groupReserved (g : Nat) : Bool := (decide (1 ≤ g) && decide (g ≤ 3)) || decide (23 ≤ g)

/-- COMMIT_DETAIL of an object. -/
def detailOf (k : Nat) : Nat := k * 256 + (groupOf k).getD 0

/-- Mode in which a commit is judged: a boot script's records count as host writes in STANDBY (R457). -/
def State.commitMode (s : State) : Mode := if s.mode = .boot ∧ s.commit.path = 4 then .standby else s.mode

/-- A changed object of the group outside its range or not writable in the mode (codes RANGE and MODE). -/
def State.objectFault (s : State) (m : Mode) (g : Nat) : Option (Nat × Nat) :=
  (s.changedIn g).findSome? fun k =>
    match objRow? k, storeGet s.shadow k with
    | some r, some v => if !s.valueOk r k v then some (1, k) else if !r.modes.holds m then some (3, k) else none
    | some r, none => if !r.modes.holds m then some (3, k) else none
    | none, _ => none

/-- The first failure in one group: its code and COMMIT_DETAIL. `c` is the state with the shadows in force. -/
def State.groupFault (s c : State) (mask g : Nat) : Option (Nat × Nat) :=
  let ch := s.changed mask
  let firstOf := fun (p : Nat → Bool) => ((ch.find? p).map detailOf).getD 0
  if groupReserved g then some (5, 0)
  else if g = 12 ∧ s.reg K.TRIG_STATE ≠ 0 then some (7, firstOf fun k => groupOf k == some 12)
  else match s.objectFault s.commitMode g with
    | some f => some (f.1, detailOf f.2)
    | none => (c.groupRules s.densLoad g).map fun b => (b.1, firstOf b.2)

/-- The outcome of a check: none when it accepts, else code and COMMIT_DETAIL. -/
def State.commitFault (s : State) (mask : Nat) : Option (Nat × Nat) :=
  let c := s.withShadows mask
  (bitsSet mask 32).findSome? (s.groupFault c mask)

/-- A commit is refused (R287). -/
def State.commitRefuse (s : State) (f : Nat × Nat) : State :=
  ((((s.put K.COMMIT_STATE 3).put K.COMMIT_RESULT f.1).put K.COMMIT_DETAIL f.2).stick 24)

/-- COMMIT: a mask that is not 0 starts a check while none runs or is armed (R286). -/
def State.commitStart (s : State) (mask path : Nat) : State :=
  if mask = 0 then s else { s.put K.COMMIT_STATE 1 with commit := { mask := mask, path := path } }

/-- COMMIT_CHECK_DONE at a cc of the present slot (R287, R288). -/
def State.commitChecked (s : State) (cc : Nat) : State :=
  if s.reg K.COMMIT_STATE ≠ 1 then s
  else match s.commitFault s.commit.mask with
    | some f => (s.commitRefuse f).eventCc 24 cc
    | none => { ((s.put K.COMMIT_STATE 2).put K.COMMIT_RESULT 0).put K.COMMIT_DETAIL 0 with commit := { s.commit with ticks := ticksAfter cc } }

/-! ### Activation (R18 step 4, R19, R20, R288) -/

/-- A figure of a window whose values are computed to 18-bit precision: free within eight steps of that precision of its exact value (R151, log 8). -/
def windowFigure (tag : String) (win beta n : Nat) (x : Rat) : Nat :=
  let z := Config.unstated tag [(win : Int), (beta : Int), (n : Int)]
  if win = 0 ∨ win = 5 then ratToF32 x else ratToF32 (x + (clampInt (-8) 8 z : Rat) / 262144)

/-- SP_CG and SP_ENBW of a pipeline that is on (R151). -/
def State.windowShow (s : State) (p : Nat) : State :=
  if s.reg (K.SP_MODE p) = 0 then s
  else
    let f := s.windowFigures p
    let win := s.reg (K.SP_WIN p)
    let fig := fun tag x => windowFigure tag win (if win = 4 then s.reg (K.SP_KBETA p) else 0) (s.specN (2 * p)) x
    (s.put (K.SP_CG p) (fig "SP_CG" f.1)).put (K.SP_ENBW p) (fig "SP_ENBW" f.2)

/-- Channels of the pipelines that a CG09 commit changes (R166). -/
def pipesTouched (ch : List Nat) (s c : State) : List Nat :=
  let all := ch.any fun k => k / 256 == 0x400B || k / 256 == 0x400D
  let p := (List.range 24).filter fun p => all || (pipeKeys p).any ch.contains || ch.contains (K.SPEC_BASE (2 * p)) || ch.contains (K.SPEC_BASE (2 * p + 1))
    || (ch.contains K.CUSTOM_WIN && (s.reg (K.SP_WIN p) == 5 || c.reg (K.SP_WIN p) == 5))
  (List.range 48).filter fun n => p.contains (n / 2)

/-- Maps that a CG10 commit swaps (R175). -/
def densTouched (ch : List Nat) : List Nat :=
  (List.range 48).filter fun n => [K.DENS_EN n, K.DENS_STRIDE n, K.DENS_REF n].any ch.contains

/-- The gains of the loop become the nearest values that its fixed point holds (R93, R486). -/
def State.gainsRound (s : State) : State :=
  s.forEach [K.MIR_KP, K.MIR_KI, K.MIR_KD] fun s k => s.put k (ratToF32 ((rhe (f32Or0 (s.reg k) * 65536) : Rat) / 65536))

/-- The groups named activate: `t` is the stamp of the tick, and `at_` its sample counted from the present slot. -/
def State.activate (s : State) (t : Nat) (at_ : Int) : State :=
  let mask := s.commit.mask
  let ch := s.changed mask
  let c := s.withShadows mask
  let before := s.objs
  let on := bitAt mask
  let pipes := if on 9 then pipesTouched ch s c else []
  let gains := if on 6 then (List.range 48).filter fun n => ch.contains (K.RX_GAIN n) else []
  -- what ends with the old settings
  let s := if s.spec.running then s.forEach pipes fun s n => s.specStopChan n at_ else s
  let s := s.onlyIf (on 15) fun s => s.streamsCommit c.objs at_
  -- the new settings
  let s := (s.withShadows mask).shadowDrop mask
  let s := s.forEach (if on 10 then densTouched ch else []) State.densCommit
  let s := s.onlyIf (on 0) fun s => { s with can := s.can.map fun k => { k with applyDue := true } }
  let s := s.onlyIf (on 5) State.gainsRound
  let s := s.forEach gains State.calGain
  let s := { s with pipe := { s.pipe with nextGain := s.pipe.nextGain ||| sumNat (gains.map fun n => 2 ^ n) } }
  let s := s.onlyIf (on 7) State.apdCommit
  let s := s.onlyIf (on 9) fun s => s.forRange 24 State.windowShow
  let s := if s.spec.running then s.forEach pipes fun s n => s.specStartChan n at_ else s
  let s := s.onlyIf (on 11) fun s => s.maskCommit at_
  let s := s.onlyIf (on 12) fun s => s.compCommit ((List.range 48).filter fun n => [K.COMP_LEVEL n, K.COMP_HYST n, K.COMP_POL n].any ch.contains) (at_ / 4)
  let s := s.onlyIf (on 16 || on 17) fun s => s.clkCommit before t
  let s := s.onlyIf (on 13) fun s => s.decCommit before at_
  let s := s.onlyIf (on 15 && ch.contains K.STATUS_PERIOD) State.statusRestart
  let s := s.onlyIf (on 18) fun s => s.hkCommit before (at_ / 4)
  let s := s.onlyIf (on 20) fun s => s.calCommit before
  let s := ((s.put K.COMMIT_STATE 0).tally K.COMMIT_SEQ).put K.COMMIT_TICK t
  { s with commit := {} }

/-- A refusal at the activation tick: MODE, or PLAN_CONFLICT where a swap falls on the tick (R20, R288). -/
def State.tickFault (s : State) : Option (Nat × Nat) :=
  let mask := s.commit.mask
  let ch := s.changed mask
  match ch.find? fun k => (objRow? k).any fun r => !r.modes.holds s.commitMode with
  | some k => some (3, detailOf k)
  | none =>
    if s.plan.swapped && bitAt mask 15 then
      ((s.withShadows mask).planRule (planStreams s.plan.active)).map fun b => (6, ((ch.find? b.2).map detailOf).getD 0)
    else none

/-- A commit activates at the tick to come (R19). -/
def State.commitDue (s : State) : Bool := s.reg K.COMMIT_STATE == 2 && s.commit.ticks == 1

/-- Step 4 of R18 at a tick stamped `t` at sample `at_` of the present slot, after step 3. -/
def State.commitTick (s : State) (t : Nat) (at_ : Int) : State :=
  if !s.commitDue then s
  else match s.tickFault with
    | some f => { (s.commitRefuse f).eventTick 24 t with commit := {} }
    | none =>
      let a := s.lockedA
      let b := s.lockedB
      (s.activate t at_).lockFollow a b

/-- Count of ticks of the commit at a tick. -/
def State.commitCounts (s : State) : State :=
  { s with commit := { s.commit with ticks := if 1 < s.commit.ticks then s.commit.ticks - 1 else s.commit.ticks } }

end Sys2Proof.Machine
end

