-- ==== Sys2Proof/Machine/Access.lean ====
section
/-! DEFINITION. Host writes (R281, R282): what a write of each register and each DOMAIN does once its checks have passed, and the write itself on every path. -/

namespace Sys2Proof.Machine

/-- Bits of `a` that are not set in `b`. -/
def clearBits (a b : Nat) : Nat := a - (a &&& b)

/-! ### Registers with a meaning of their own -/

/-- A write of MAP_EDIT (R226, R229). -/
def State.mapEditWrite (s : State) (v : Nat) : Nat × State :=
  let busy := s.reg K.MAP_EDIT_STATE == 1
  if bits v 63 52 ≠ 0 ∨ bits v 47 44 ≠ 0 ∨ !pageEntryOk (bits v 31 0) then (4, if busy then s else s.put K.MAP_EDIT_STATE 3)
  else if busy then (6, s) else (0, s.mapEdit v)

/-- FAULT_CLEAR (R234). -/
def State.faultClear (s : State) (v : Nat) : State := if v = 1 then s.setFs { s.fs with faultFirst := none, faultLog := [] } else s

/-- DMA_CTRL of engine `e` (R238 to R241): a start whose completion ring passes the end of the address space is refused (R239). -/
def State.dmaCtrl (s : State) (e v cc : Nat) (ecc : Ecc) : Nat × State :=
  match v with
  | 1 => if s.reg (K.DMA_STATE e) = 0 ∧ 0x10000000 < s.reg (K.DMA_CQ_VA e) + s.reg (K.DMA_CQ_ENTRIES e) * 32 then (4, s) else (0, s.dmaStart e cc ecc)
  | 2 => (0, s.dmaAbort e)
  | 3 => (0, s.dmaResume e cc ecc)
  | 4 => (0, s.dmaStop e)
  | _ => (0, s)

/-- A write of one of an engine's registers (R243). -/
def State.dmaWrite (s : State) (e k v cc : Nat) (ecc : Ecc) : Nat × State :=
  if k = K.DMA_CTRL e then s.dmaCtrl e v cc ecc else if s.reg (K.DMA_STATE e) ≠ 0 then (6, s) else (0, s.put k v)

/-- COMMIT (R286): `path` is 4 for a boot script. -/
def State.commitWrite (s : State) (mask path : Nat) : Nat × State := if s.commitBusy then (6, s) else (0, s.commitStart mask path)

/-- DISCARD (R285, R286). -/
def State.discardWrite (s : State) (mask : Nat) : Nat × State := if s.commitBusy then (6, s) else (0, s.shadowDrop mask)

/-- PENNANT_CLEAR: live and reserved bits are not among the sticky ones. A bit whose event falls in the cc of the clear stays at 1 and counts as a rise
(R309, R310). -/
def State.pennantClear (s : State) (v cc : Nat) : State :=
  let again := sumNat (((List.range 32).filter fun n => bitAt v n && bitAt s.penn.sticky n && s.penn.events.contains (n, s.slot % 2 ^ 44, cc)).map fun n => 2 ^ n)
  let s := s.put K.IRQ_CAUSE (s.reg K.IRQ_CAUSE ||| (again &&& s.reg K.IRQ_EN))
  { s with penn := { s.penn with sticky := clearBits s.penn.sticky (clearBits v again) } }

/-- IRQ_ACK (R310). -/
def State.irqAck (s : State) (v : Nat) : State := s.put K.IRQ_CAUSE (clearBits (s.reg K.IRQ_CAUSE) v)

/-- QSPI_DICT_VER: zero means undeclared (R307). -/
def State.qspiVer (s : State) (v : Nat) : State :=
  let x := s.pathState .qspi
  (s.put K.QSPI_DICT_VER v).setPath .qspi { x with dictVer := if v = 0 then none else some v }

/-- Key of the DOMAIN that a value of QDOM_SEL names. -/
def selKey (v : Nat) : Nat := objKey (bits v 31 16) (bits v 15 8)

/-- QDOM_SEL: the DOMAIN window reads from a snapshot under the conditions of R292 (R300). -/
def State.qdomSel (s : State) (v : Nat) : State :=
  let s := s.put K.QDOM_SEL v
  let x := s.pathState .qspi
  let k := selKey v
  let snap := match s.find .qspi k with
    | .ok r => if r.isDomain && s.snapsDomain r k then some (k, s.domView k) else none
    | .error _ => none
  s.setPath .qspi { x with domSnap := snap }

/-- QDOM_WRITE_LEN: the content is taken from the staging buffer, a second write while one is in progress being refused (R300). -/
def State.qdomStart (s : State) (n : Nat) : Nat × State :=
  if s.qspi.domJob.isSome then (6, s)
  else (0, ({ s with qspi := { s.qspi with domJob := some (s.reg K.QDOM_SEL, bytesAt s.qspi.staging 0 n) } }).put K.QDOM_RESULT 0xFF)

/-- BIST_ABORT (R411). -/
def State.bistAbort (s : State) (v : Nat) : State := if v = 1 then s.bistStop 0x10 else s

/-- CAP_DRAINED at a cc of the present slot, once what came before it is staged: a write that would lower it is ignored (R202). -/
def State.capDrained (s : State) (v cc : Nat) : State :=
  let s := s.capReach cc
  if v < s.reg K.CAP_DRAINED then s else s.put K.CAP_DRAINED v

/-- Before a write of an RWS object: its value stays in force until the next tick (R390). -/
def State.keepForce (s : State) (k : Nat) : State :=
  if (storeGet s.sealed.prior k).isSome then s else { s with sealed := { s.sealed with prior := storeSet s.sealed.prior k (s.reg k) } }

/-- What a write of the value `v` does to an RW, WO or RWS register once its checks have passed: its result, and the state after it. -/
def State.writeReg (s : State) (path k v cc : Nat) (ecc : Ecc) : Nat × State :=
  let sub := k % 256
  let done := fun (t : State) => ((0, t) : Nat × State)
  match k / 256 with
  | 0x1020 => if s.planHeld then (6, s) else done (s.planCheck v)
  | 0x1021 => done (s.planSwap v cc)
  | 0x4801 => done (s.capCtrl v cc)
  | 0x4811 => done (s.trigSoft v)
  | 0x4851 => done (s.capDrained v cc)
  | 0x3811 => done (if v = 1 then s.decSync cc else s)
  | 0x5006 => done (s.bankRetire v)
  | 0x5020 => s.mapEditWrite v
  | 0x5030 => done (s.faultClear v)
  | 0x5804 => done (s.txBitslip (sub - 1) v)
  | 0x5811 => done (s.rxBitslip v)
  | 0x5824 => done (s.addCredit sub v)
  | 0x5840 => done (if sub = 1 then s.laneRetire v else s.laneReturn v)
  | 0x0200 => done (s.qspiVer v)
  | 0x0210 => if sub = 1 then s.commitWrite v path else s.discardWrite v
  | 0x0221 => if sub = 1 then done (s.qdomSel v) else s.qdomStart v
  | 0x0250 => done (if sub = 1 then s.pennantClear v cc else s.irqAck v)
  | 0x6830 => let r := s.hkUrgent v; (if r.1 then 0 else 6, r.2)
  | 0x7101 => done (s.calSnap cc v)
  | 0x8000 => done (if sub = 1 then s.bistCmd v else s.bistAbort v)
  | 0x8010 => done (if sub = 1 then s.unitRetire v else s.unitReturn v)
  | 0x8800 => done (s.vinClear v)
  | 0x9000 => done (s.modeReq v cc)
  | 0x9031 => done (s.retLogClear v)
  | i => if 0x5040 ≤ i ∧ i ≤ 0x5047 then s.dmaWrite (i - 0x5040) k v cc ecc else done (s.put k v)

/-- A write of a register that the path reaches, judged in mode `m` (R281, R282). -/
def State.writeFound (s : State) (m : Mode) (path : Nat) (r : ObjRow) (k cc : Nat) (ecc : Ecc) (data : List Byte) : Nat × State :=
  let f := s.writeRefusal m r k data
  if r.isDomain then (2, s)
  else if f ≠ 0 then (f, s)
  else if r.acc == .rwc then (0, s.shadowPut k (ofLe data))
  else (s.onlyIf (r.acc == .rws) fun s => s.keepForce k).writeReg path k (ofLe data) cc ecc

/-! ### DOMAINs -/

/-- The address space may take a whole map: it is disabled in force and no pending commit enables it (R228). -/
def State.mapOpen (s : State) (space : Nat) : Bool :=
  let shadow := (storeGet s.shadow K.AS_ENABLE).getD (s.reg K.AS_ENABLE)
  !s.regBit K.AS_ENABLE space && !(s.groupHeld (some 14) && bitAt shadow space)

/-- Entries of a whole map (R226). -/
def mapEntriesOk (b : List Byte) : Bool := (List.range 4096).all fun i => pageEntryOk (fieldAt b (4 * i) 4)

/-- The first refusal among length, range, mode and busy, in this order, or the effect. -/
def domainResult (s t : State) (lenOk rangeOk modeOk free : Bool) : Nat × State :=
  if !lenOk then (3, s) else if !rangeOk then (4, s) else if !modeOk then (5, s) else if !free then (6, s) else (0, t)

/-- A custom window holds 2N bytes, N a length of Table 6.1 (R153). -/
def customLenOk (n : Nat) : Bool := (List.range 8).any fun c => c != 0 && n == 2 * (128 * 2 ^ c)

/-- A write of a whole DOMAIN that the path reaches, judged in mode `m` under its owner's rules (R30, R46, R52, R153, R176, R228, R303, R367). -/
def State.writeDomain (s : State) (m : Mode) (r : ObjRow) (k cc : Nat) (b : List Byte) : Nat × State :=
  let ok := r.modes.holds m
  let n := b.length
  if !r.isDomain ∨ r.acc == .ro then (2, s)
  else match k / 256 with
    | 0x1010 => domainResult s (s.planTake b) (planLenOk n) true ok (!s.planHeld)
    | 0x4010 => domainResult s (s.shadowDom k b) (customLenOk n) true ok (!s.groupHeld r.group)
    | 0x7100 =>
      let f := s.imageFault b
      domainResult s (s.imageTake cc b) (f != some false) (f != some true) ok true
    | 0x0240 => s.authAt m b cc
    | i =>
      if 0x1011 ≤ i ∧ i ≤ 0x1015 then domainResult s (s.tableTake (i - 0x1011) b) (tableLenOk n) true ok (!s.planHeld)
      else if 0x4040 ≤ i ∧ i ≤ 0x4047 then domainResult s (s.shadowDom k b) (n == 4096) true ok (!s.groupHeld r.group)
      else domainResult s (s.putDom k (if b.all (· == 0) then [] else b)) (n == 16384) (mapEntriesOk b) ok (s.mapOpen (i - 0x5100))

/-! ### Host writes -/

/-- The result of a write stands as the newest of its path; over QSPI it goes to QSPI_WR_RESULT (R299). -/
def noteResult (p : Path) (r : Nat × State) : State :=
  let t := r.2
  let x := t.pathState p
  let t := t.setPath p { x with result := r.1 }
  if p = .qspi then t.put K.QSPI_WR_RESULT r.1 else t

/-- The result of a write of a whole DOMAIN; over QSPI it came through the DOMAIN window and goes to QDOM_RESULT (R300). -/
def noteDomain (p : Path) (r : Nat × State) : State :=
  let t := r.2
  let t := t.setPath p { t.pathState p with result := r.1 }
  if p = .qspi then t.put K.QDOM_RESULT r.1 else t

/-- Result and state of a host write of register `k`. -/
def State.regWrite (s : State) (k : Nat) (w : HostWrite) : Nat × State :=
  match s.find w.path k with
  | .error e => (e, s)
  | .ok r => s.writeFound s.mode w.path.num r k w.cc w.ecc w.data

/-- Result and state of a host write of the whole DOMAIN `k`. -/
def State.domWrite (s : State) (k : Nat) (p : Path) (cc : Nat) (b : List Byte) : Nat × State :=
  match s.find p k with
  | .error e => (e, s)
  | .ok r => s.writeDomain s.mode r k cc b

/-- A host write of register `k` takes effect; nothing happens while the dictionary does not answer. -/
def State.hostWrite (s : State) (k : Nat) (w : HostWrite) : State := if s.answers then noteResult w.path (s.regWrite k w) else s

/-- A host write of DOMAIN `k` takes effect. -/
def State.hostDomain (s : State) (k : Nat) (w : HostWrite) : State :=
  if s.answers then noteDomain w.path (s.domWrite k w.path w.cc w.data) else s

/-- A host write of the value `v` of `n` bytes. -/
def HostAt.write (a : HostAt) (n v : Nat) : HostWrite := { path := a.path, cc := a.cc, data := leBytes n v, ecc := a.ecc }

end Sys2Proof.Machine
end

