-- ==== Sys2Proof/Machine/BootScript.lean ====
section
/-! DEFINITION. The records of an accepted boot script (R457): each is applied as a host write in STANDBY would be. -/

namespace Sys2Proof.Machine

/-- The record in hand, when BOOT applies records and it is of the type given. -/
def State.record (s : State) (ty : Nat) : Option (List Byte) :=
  if s.mode = .boot ∧ s.boot.step = 9 then s.boot.script.head?.filter fun r => fieldAt r 0 1 == ty else none

/-- Key of the object that a record names. -/
def recordKey (r : List Byte) : Nat := objKey (fieldAt r 2 2) (fieldAt r 4 1)

/-- The script goes on with the next record. -/
def State.scriptNext (s : State) : State :=
  ({ s with boot := { s.boot with script := s.boot.script.drop 1, recNo := s.boot.recNo + 1, commitWait := false } }).count K.SCRIPT_RECORDS

/-- Number of the first record in SCRIPT_FAIL: the spec does not say whether records count from 0 or from 1 (log 9). -/
def recordBase : Nat := (Config.unstated "RECORD_BASE" []).toNat % 2

/-- The script stops at the record in hand. -/
def State.scriptStop (s : State) (code : Nat) : State :=
  let t := (s.putBit K.BOOT_STATUS 6 true).put K.SCRIPT_FAIL ((s.boot.recNo + recordBase) % 2 ^ 24 * 256 + code)
  { t with boot := { t.boot with script := [], step := 10, commitWait := false } }

/-- The script goes on or stops by a record's result. -/
def scriptResult (r : Nat × State) : State := if r.1 = 0 then r.2.scriptNext else r.2.scriptStop r.1

/-- SCRIPT_WRITE. -/
def State.scriptWrite (s : State) (cc : Nat) (ecc : Ecc) : State :=
  match s.record 1 with
  | some r =>
    scriptResult (match objRow? (recordKey r) with
      | some o => s.writeFound .standby 4 o (recordKey r) cc ecc (bytesAt r 8 (fieldAt r 1 1))
      | none => (1, s))
  | none => s

/-- SCRIPT_DOMAIN: the content stands in the staging frames, where it was verified when the script was accepted. -/
def State.scriptDomain (s : State) (cc : Nat) : State :=
  match s.record 2 with
  | some r =>
    let n := fieldAt r 12 4
    let b := s.stageGet s.boot.staged n
    let s := { s with boot := { s.boot with staged := s.boot.staged + n } }
    scriptResult (match objRow? (recordKey r) with
      | some o => s.writeDomain .standby o (recordKey r) cc b
      | none => (1, s))
  | none => s

/-- SCRIPT_COMMIT: the commit starts, and the record ends once COMMIT_STATE has left CHECKING and ARMED. -/
def State.scriptCommit (s : State) : State :=
  match s.record 3 with
  | some r =>
    if !s.boot.commitWait then
      let c := s.commitWrite (fieldAt r 4 4) 4
      if c.1 ≠ 0 then c.2.scriptStop c.1
      else if !c.2.commitBusy then c.2.scriptNext
      else { c.2 with boot := { c.2.boot with commitWait := true } }
    else if s.commitBusy then s
    else if s.reg K.COMMIT_STATE = 3 then s.scriptStop (s.reg K.COMMIT_RESULT)
    else s.scriptNext
  | none => s

/-- Low 32 bits of the object that a WAIT record names, or the result that reading it ends with. -/
def State.waitValue (s : State) (k : Nat) : Except Nat Nat :=
  match objRow? k with
  | some o => if o.isDomain then .error 2 else .ok (ofLe ((s.objBytes .canA o k).take 4))
  | none => .error 1

/-- SCRIPT_WAIT: the record ends when its condition holds. -/
def State.scriptWait (s : State) : State :=
  match s.record 4 with
  | some r =>
    match s.waitValue (recordKey r) with
    | .ok v => if v &&& fieldAt r 8 4 = fieldAt r 12 4 then s.scriptNext else s
    | .error e => s.scriptStop e
  | none => s

/-- Result in SCRIPT_FAIL after a WAIT that timed out: it is neither an access result nor a commit code (log 9). -/
def timeoutCode : Nat := (Config.unstated "WAIT_TIMEOUT" []).toNat % 256

/-- SCRIPT_WAIT_TIMEOUT: the condition did not hold in time. -/
def State.scriptTimeout (s : State) : State :=
  match s.record 4 with
  | some r =>
    match s.waitValue (recordKey r) with
    | .ok v => if v &&& fieldAt r 8 4 = fieldAt r 12 4 then s.scriptNext else s.scriptStop timeoutCode
    | .error e => s.scriptStop e
  | none => s

/-- SCRIPT_END: the whole script is applied. -/
def State.scriptEnd (s : State) : State :=
  match s.record 15 with
  | some _ =>
    let t := (s.scriptNext).putBit K.BOOT_STATUS (if s.boot.slotB then 1 else 0) true
    { t with boot := { t.boot with script := [], step := 10 } }
  | none => s

end Sys2Proof.Machine
end

