-- ==== Sys2Proof/Machine/QspiPort.lean ====
section
/-! DEFINITION. The QSPI host port (R296 to R301): the mirror with its snapshots, the write queue, the bulk and DOMAIN windows. -/

namespace Sys2Proof.Machine

def State.setQspi (s : State) (q : Qspi) : State := { s with qspi := q }

/-- First address above the mirror. -/
def mirrorEnd : Nat := 0x10000000

/-- The address lies in the bulk window. -/
def inBulk (a : Nat) : Bool := decide (0x10000000 ≤ a ∧ a ≤ 0x1000FFFF)

/-- The address lies in the DOMAIN window. -/
def inWindow (a : Nat) : Bool := decide (0x20000000 ≤ a ∧ a ≤ 0x2003FFFF)

/-- Key of the object whose slot holds a mirror address (R297). -/
def slotKey (a : Nat) : Nat := objKey (a / 0x1000) (a / 16 % 256)

/-! ### READ (R283, R297, R298) -/

/-- The bytes of a slot. An object that the path does not reach, or that has no readable value, reads as zeros. -/
def State.slotBytes (s : State) (k : Nat) : List Byte :=
  match s.find .qspi k with
  | .error _ => List.replicate 16 0
  | .ok r => padTo 16 (if r.isDomain then leBytes 4 (s.domView k).length else (s.objBytes .qspi r k).take 16)

/-- `n` bytes of one slot from offset `off`: a read of exactly one half of a U64 or U32 follows R283. -/
def State.slotRead (s : State) (k off n : Nat) : List Byte × State :=
  let live := ((s.slotBytes k).drop off).take n
  match s.find .qspi k with
  | .ok r => if r.halves && 2 * n == r.size && (off == 0 || off == n) then s.partRead .qspi r k n off else (live, s)
  | .error _ => (live, s)

/-- The bytes from an address, slot by slot; addresses above the mirror read 0xFF. -/
def State.mirrorRead (s : State) (a : Nat) : (slots n : Nat) → List Byte × State
  | 0, _ => ([], s)
  | _, 0 => ([], s)
  | m + 1, n + 1 =>
    let off := a % 16
    let k := min (16 - off) (n + 1)
    let r := if mirrorEnd ≤ a then (List.replicate k (255 : Byte), s) else s.slotRead (slotKey a) off k
    let t := r.2.mirrorRead (a + k) m (n + 1 - k)
    (r.1 ++ t.1, t.2)

/-- QSPI_READ of `n` bytes; one that reaches beyond the mirror counts in QSPI_ERRORS. -/
def State.qspiRead (s : State) (a n : Nat) : State :=
  if !s.answers then s
  else
    let r := s.mirrorRead a (n / 16 + 2) n
    let t := r.2.setQspi { r.2.qspi with readData := r.1 }
    if n ≠ 0 ∧ mirrorEnd < a + n then t.count K.QSPI_ERRORS else t

/-! ### WREAD (R300, R301) -/

/-- Content of the selected DOMAIN as the window shows it: its snapshot where one was taken. -/
def State.windowView (s : State) : List Byte :=
  let k := selKey (s.reg K.QDOM_SEL)
  let live := match s.find .qspi k with
    | .ok r => if r.isDomain then s.domView k else []
    | .error _ => []
  match (s.pathState .qspi).domSnap with
  | some d => if d.1 = k then d.2 else live
  | none => live

/-- Bytes of a WREAD that leave the bulk queue, with what an empty queue gives. -/
def State.bulkTake (s : State) (n : Nat) : List Byte × State :=
  let q := s.qspi.bulkOut
  let k := n - q.length
  let t := s.setQspi { s.qspi with bulkOut := q.drop n }
  (q.take n ++ List.replicate k 255, if k = 0 then t else t.countBy K.BULK_UNDERRUN k)

/-- WREAD of `n` bytes from an address; outside both windows the bytes are 0xFF and the read counts as misdirected. -/
def State.wread (s : State) (a n : Nat) : State :=
  if !s.answers then s
  else
    let r := if inBulk a then s.bulkTake (min n (0x10010000 - a))
      else if inWindow a then
        let v := s.windowView
        ((List.range (min n (0x20040000 - a))).map fun i => v.getD (a - 0x20000000 + i) 255, s)
      else ([], s)
    let t := r.2.setQspi { r.2.qspi with readData := r.1 ++ List.replicate (n - r.1.length) 255 }
    if r.1.length < n then t.count K.QSPI_ERRORS else t

/-! ### WRITE (R299 to R301) -/

/-- Bytes placed into the staging buffer of 256 KiB. -/
def splice (buf : List Byte) (o : Nat) (d : List Byte) : List Byte :=
  let d := d.take (262144 - o)
  padTo o (buf.take o) ++ d ++ buf.drop (o + d.length)

/-- QSPI_WRITE: a mirror write is queued, up to eight; the windows take bytes at once. -/
def State.qspiWrite (s : State) (a : Nat) (d : List Byte) : State :=
  if !s.answers then s
  else if a < mirrorEnd then
    if s.qspi.writeQ.length < 8 then s.setQspi { s.qspi with writeQ := s.qspi.writeQ ++ [(a, d)] } else noteResult .qspi (6, s)
  else if inBulk a then
    let room := 32768 - s.qspi.bulkIn.length
    let t := s.setQspi { s.qspi with bulkIn := s.qspi.bulkIn ++ d.take room }
    if room < d.length then t.countBy K.BULK_OVERRUN (d.length - room) else t
  else if inWindow a then s.setQspi { s.qspi with staging := splice s.qspi.staging (a - 0x20000000) d }
  else s

/-- Result and state of a mirror write: it starts at a slot and carries the object's size (R299). -/
def State.mirrorWrite (s : State) (a cc : Nat) (ecc : Ecc) (d : List Byte) : Nat × State :=
  match s.find .qspi (slotKey a) with
  | .error e => (e, s)
  | .ok r =>
    if r.isDomain ∨ r.acc == .ro ∨ r.acc == .rwa then (2, s)
    else if a % 16 ≠ 0 then (3, s)
    else s.writeFound s.mode Path.qspi.num r (slotKey a) cc ecc d

/-- QSPI_MIRROR_WRITE_APPLY: the oldest queued write takes effect. -/
def State.mirrorApply (s : State) (cc : Nat) (ecc : Ecc) : State :=
  match s.qspi.writeQ with
  | w :: l => if s.answers then noteResult .qspi ((s.setQspi { s.qspi with writeQ := l }).mirrorWrite w.1 cc ecc w.2) else s
  | [] => s

/-- QDOM_WRITE_DONE: the DOMAIN window write completes with its result (R300). -/
def State.qdomDone (s : State) (cc : Nat) : State :=
  match s.qspi.domJob with
  | some j =>
    let r := (s.setQspi { s.qspi with domJob := none }).domWrite (selKey j.1) .qspi cc j.2
    r.2.put K.QDOM_RESULT r.1
  | none => s

/-! ### STATUS and unknown commands (R296) -/

/-- The status byte. -/
def State.statusByte (s : State) : Nat :=
  ofBool (decide (8 ≤ s.qspi.writeQ.length)) + 2 * ofBool (s.reg K.QSPI_WR_RESULT != 0) + 4 * ofBool (decide (64 ≤ s.qspi.bulkOut.length))
    + 8 * ofBool (decide (4096 ≤ 32768 - s.qspi.bulkIn.length)) + 64 * ofBool (s.reg K.IRQ_CAUSE != 0) + 128 * ofBool (bitAt s.pennant 0)

/-- QSPI_STATUS. -/
def State.qspiStatus (s : State) : State := if s.mode.coreRuns then s.setQspi { s.qspi with readData := leBytes 1 s.statusByte } else s

/-- QSPI_UNKNOWN_COMMAND. -/
def State.qspiUnknown (s : State) : State := if s.mode.coreRuns then s.count K.QSPI_ERRORS else s

end Sys2Proof.Machine
end

