-- ==== Sys2Proof/Machine/Messages.lean ====
section
/-! DEFINITION. Parameter-channel messages over CAN FD and the Streamer sideband (R289 to R292, R302, R307, R308), the CAN controllers (R293 to R295) and
the sideband's queue (R275). -/

namespace Sys2Proof.Machine

/-! ### Fields of a message (Tables 11.5, 11.6) -/

def msgCmd (b : List Byte) : Nat := bits (fieldAt b 0 1) 3 0

/-- Key of the object that a message names. -/
def msgKey (b : List Byte) : Nat := objKey (fieldAt b 2 2) (fieldAt b 4 1)

/-- A response: the request's header with STATUS, its bytes 5 to 7 replaced, and data. -/
def reply (b : List Byte) (status : Nat) (mid data : List Byte) : List Byte :=
  bytesAt b 0 1 ++ leBytes 1 status ++ bytesAt b 2 3 ++ mid ++ data

/-- The header alone with a status. -/
def headerOnly (b : List Byte) (status : Nat) : List Byte := reply b status (bytesAt b 5 3) []

/-- Largest LEN of a DREAD or DWRITE on a path (R289). -/
def maxLen (p : Path) : Nat := if p = .sideband then 1008 else 48

/-- Bytes of the CAN FD frame that carries a message of `n` bytes. -/
def frameLen (n : Nat) : Nat := if n ≤ 8 then n else ([12, 16, 20, 24, 32, 48, 64].find? fun k => decide (n ≤ k)).getD 64

/-- A message of `n` bytes fills what arrived: on CAN FD up to the padding of its frame. -/
def fills (p : Path) (b : List Byte) (n : Nat) : Bool := b.length == n || (p != .sideband && b.length == frameLen n)

/-! ### The commands -/

/-- READ: the response, and the state with the path's snapshots. -/
def State.serveRead (s : State) (p : Path) (b : List Byte) : List Byte × State :=
  let r := s.readObj p (msgKey b) (fieldAt b 5 1) (fieldAt b 6 1)
  (reply b r.1 (bytesAt b 5 3) r.2.1, r.2.2)

/-- Length check of a WRITE: WIDTH is 0 and the data is the whole object. -/
def writeLenOk (p : Path) (r : ObjRow) (b : List Byte) : Bool := fieldAt b 5 1 == 0 && fills p b (8 + r.size)

/-- WRITE. -/
def State.serveWrite (s : State) (q : Request) : List Byte × State :=
  let b := q.bytes
  let p := q.path
  let res := match s.find p (msgKey b) with
    | .error e => ((e, s) : Nat × State)
    | .ok r =>
      if r.isDomain || r.acc == .ro || r.acc == .rwa then (2, s)
      else if !writeLenOk p r b then (3, s)
      else s.writeFound s.mode p.num r (msgKey b) q.cc q.ecc (bytesAt b 8 r.size)
  (headerOnly b res.1, noteResult p res)

/-- DREAD. -/
def State.serveDread (s : State) (p : Path) (b : List Byte) : List Byte × State :=
  let len := fieldAt b 5 2
  let off := fieldAt b 8 4
  if b.length < 16 ∨ maxLen p < len then (headerOnly b 3, s)
  else
    let r := s.readDomain p (msgKey b) len off
    if r.1 ≠ 0 then (headerOnly b r.1, r.2.2.2)
    else (reply b 0 (leBytes 2 r.2.1.length ++ bytesAt b 7 1) (leBytes 4 off ++ leBytes 4 r.2.2.1 ++ r.2.1), r.2.2.2)

/-- The open transfer of a path. -/
def State.setOpen (s : State) (p : Path) (o : Option OpenWrite) : State := s.setPath p { s.pathState p with openWrite := o }

/-- A transfer as far as received: complete, its DOMAIN is written whole and the transfer closes (R291). -/
def State.takeSegment (s : State) (q : Request) (o : OpenWrite) : Nat × State :=
  if o.total < o.got.length then (10, s.setOpen q.path none)
  else if o.got.length = o.total then
    let r := s.domWrite o.key q.path q.cc o.got
    (r.1, (noteResult q.path r).setOpen q.path none)
  else (0, s.setOpen q.path (some o))

/-- A DWRITE segment: its result and the state after it (R291). A DOMAIN that no write reaches opens no transfer. -/
def State.dwriteStep (s : State) (q : Request) : Nat × State :=
  let b := q.bytes
  let p := q.path
  let k := msgKey b
  let len := fieldAt b 5 2
  let off := fieldAt b 8 4
  let total := fieldAt b 12 4
  let data := bytesAt b 16 len
  match s.find p k with
  | .error e => (e, s)
  | .ok r =>
    if !r.isDomain ∨ r.acc == .ro then (2, s)
    else if maxLen p < len ∨ !fills p b (16 + len) then (3, s)
    else if off = 0 then s.takeSegment q { key := k, total := total, got := data }
    else match (s.pathState p).openWrite with
      | some o =>
        if o.key = k ∧ o.total = total ∧ o.got.length = off then s.takeSegment q { o with got := o.got ++ data } else (10, s.setOpen p none)
      | none => (10, s)

/-- DWRITE: LEN and OFFSET are echoed. -/
def State.serveDwrite (s : State) (q : Request) : List Byte × State :=
  let r := s.dwriteStep q
  (reply q.bytes r.1 (bytesAt q.bytes 5 3) (bytesAt q.bytes 8 4), r.2)

/-- Protocol version that a CONNECT selects: the highest that both sides list, none without one; the sideband runs version 2 in any case (R302, R308). -/
def connectVer (p : Path) (mask : Nat) : Option Nat :=
  if p = .sideband then some 2 else if bitAt mask 2 then some 2 else if bitAt mask 1 then some 1 else none

/-- Bytes 8 to 11 of a CONNECT response: the versions in force. -/
def State.versionsOf (s : State) (p : Path) : List Byte := leBytes 2 (s.protoVer p) ++ leBytes 2 (s.dictVer p)

/-- CONNECT. -/
def State.serveConnect (s : State) (p : Path) (b : List Byte) : List Byte × State :=
  if b.length < 12 then (headerOnly b 3, s)
  else
    match connectVer p (fieldAt b 8 1) with
    | none => (reply b 9 (bytesAt b 5 3) (s.versionsOf p), s)
    | some v =>
      let x := s.pathState p
      let t := s.setPath p { x with protoVer := v, dictVer := some (fieldAt b 10 2) }
      (reply b 0 (bytesAt b 5 3) (t.versionsOf p), t)

/-- ABORT. -/
def State.serveAbort (s : State) (p : Path) (b : List Byte) : List Byte × State := (headerOnly b 0, s.setOpen p none)

/-! ### Serving a request (R275, R290) -/

/-- A CAN controller sends and receives. -/
def State.canUp (s : State) (i : Nat) : Bool := s.canState i == 1 || s.canState i == 2

/-- The sideband works: both capability words set CAPS bit 2 and the link is in a state of R275. -/
def State.sidebandUp (s : State) : Bool := s.rxTakes && bitAt (s.reg K.HOST_CAPS) 50

/-- The path takes messages. -/
def State.pathUp (s : State) (p : Path) : Bool :=
  s.answers && (match p with
    | .canA => s.canUp 0
    | .canB => s.canUp 1
    | .sideband => s.sidebandUp
    | .qspi => false)

def State.can1 (s : State) (i : Nat) : CanCtl := s.can.getD i {}

def State.setCan (s : State) (i : Nat) (c : CanCtl) : State := { s with can := setAt {} s.can i c }

/-- The controller of a CAN path. -/
def Path.can : Path → Option Nat
  | .canA => some 0
  | .canB => some 1
  | _ => none

/-- Data of a frame padded with zeros to a CAN FD length. -/
def framed (b : List Byte) : List Byte := padTo (frameLen b.length) b

/-- A controller sends a frame: on success the transmit error counter falls by one (ISO 11898-1, log 46). -/
def State.canSend (s : State) (i : Nat) (f : CanFrame) : State :=
  let c := s.can1 i
  s.setCan i { c with sent := f, txErrors := c.txErrors - 1 }

/-- The response to request `w` leaves: over CAN FD as a frame on the identifier that its arrival settled, over the sideband as a packet with AUX from its
request (R263, R275, R295). -/
def State.answer (s : State) (p : Path) (w : Waiting) (b : List Byte) (cc : Nat) : State :=
  let s := s.setPath p { s.pathState p with response := b }
  match p.can with
  | some i => s.canSend i { ident := w.aux, brs := w.brs, rates := w.rates, data := framed b }
  | none => s.control 9 w.aux (s.stampCc cc) b

/-- A CAN request in the queue, or to be answered at once: its response follows the settings at its arrival (R295). -/
def CanCtl.waiting (c : CanCtl) (b : List Byte) : Waiting := { bytes := b, aux := 0x640 + c.node, brs := c.dataRate != 0, rates := (c.nomRate, c.dataRate) }

/-- A frame received without error lowers the receive error counter, from above 127 to a value of 119 to 127 (ISO 11898-1, log 46). -/
def CanCtl.received (c : CanCtl) : CanCtl :=
  { c with rxErrors := if 127 < c.rxErrors then 119 + (Config.unstated "CAN_RX_ERRORS" [(c.rxErrors : Int)]).toNat % 9 else c.rxErrors - 1 }

/-- A request frame arrives on a controller: it waits, a fifth is answered BUSY at once (R290, R295). A frame on another identifier is not for this node. -/
def State.canArrive (s : State) (q : Request) (i : Nat) : State :=
  let s := s.setCan i (s.can1 i).received
  let c := s.can1 i
  let x := s.pathState q.path
  if q.ident ≠ 0x540 + c.node then s
  else if 4 ≤ x.queue.length then s.answer q.path (c.waiting q.bytes) (headerOnly q.bytes 6) q.cc
  else s.setPath q.path { x with queue := x.queue ++ [c.waiting q.bytes] }

/-- Takes the oldest request from its path's queue. -/
def State.dequeue (s : State) (p : Path) : State := s.setPath p { s.pathState p with queue := (s.pathState p).queue.drop 1 }

/-- The request is the oldest that waits on its path. -/
def State.isNext (s : State) (q : Request) : Bool := (s.pathState q.path).queue.head?.any fun w => w.bytes == q.bytes

/-- The request that its path serves next. -/
def State.oldest (s : State) (p : Path) : Waiting := (s.pathState p).queue.head?.getD {}

/-- A controller that the settings now in use have turned off still answers what arrived before them (R295). -/
def State.mayAnswer (s : State) (p : Path) : Bool :=
  s.answers && s.reg K.REF_STATE != 0 && p.can.any fun i => !(s.can1 i).enabled && !(s.can1 i).busOff

/-- A request arrives over CAN FD, or the oldest one is served: `cmd` is its row's command, `f` makes response and state. A header cut short is answered
LENGTH, and a command of no row COMMAND (R281, R289, R290). -/
def State.serve (s : State) (q : Request) (cmd : Nat) (f : State → List Byte × State) : State :=
  let c := msgCmd q.bytes
  let known := decide (8 ≤ q.bytes.length ∧ 1 ≤ c ∧ c ≤ 6)
  if !(s.pathUp q.path || (!q.arrives && s.mayAnswer q.path)) || (known && c != cmd) then s
  else match q.arrives, q.path.can with
    | true, some i => s.canArrive q i
    | true, none => s
    | false, _ =>
      if !s.isNext q then s
      else
        let w := s.oldest q.path
        let t := s.dequeue q.path
        if q.bytes.length < 8 then t.answer q.path w (headerOnly q.bytes 3) q.cc
        else if !known then t.answer q.path w (headerOnly q.bytes 11) q.cc
        else let r := f t; r.2.answer q.path w r.1 q.cc

/-- SIDEBAND: a host packet with a request (R275); `seq` is its SEQ. A fifth is answered BUSY. -/
def State.sidebandPacket (s : State) (seq cc : Nat) (b : List Byte) : State :=
  if !s.rxTakes then s
  else if 1024 < b.length then s.discardPacket
  else if !s.pathUp .sideband then s
  else
    let x := s.pathState .sideband
    let w : Waiting := { bytes := b, aux := seq % 256 }
    if 4 ≤ x.queue.length then (s.count K.SB_BUSY).answer .sideband w (headerOnly b 6) cc
    else s.setPath .sideband { x with queue := x.queue ++ [w] }

/-- CAPABILITY: the host's DICT_VER declares the sideband's dictionary version, whenever it comes (R302); in EXCHANGE it decides the link's version too. -/
def State.capabilityPacket (s : State) (w0 : Nat) : State :=
  if !s.rxTakes then s
  else
    let s := s.setPath .sideband { s.pathState .sideband with dictVer := some (bits w0 31 16) }
    if s.reg K.STR_STATE = 3 then s.hostCapability w0 else s

/-- A host packet that R265 discards: SYNC, TYPE, STREAM, LENGTH or CRC. A packet that is not as long as its LENGTH says has no CRC in its place. -/
def hostPacketBad (b : List Byte) : Bool :=
  let w0 := fieldAt b 0 8
  let ty := bits w0 55 52
  let len := bits w0 39 24
  decide (bits w0 63 56 ≠ 0xA5 ∨ 1024 < len ∨ b.length ≠ 20 + len) || bytesAt b (16 + len) 4 != leBytes 4 (crc32 (bytesAt b 0 (16 + len)))
    || !([9, 10, 11, 12, 13].contains ty) || (ty != 12 && bits w0 51 48 != 0)

/-- A host packet of the bytes `b`, header to CRC, is judged (R265); one that is good takes its effect. -/
def State.hostPacket (s : State) (b : List Byte) (cc : Nat) : State :=
  let w0 := fieldAt b 0 8
  let p := bytesAt b 16 (bits w0 39 24)
  if hostPacketBad b then s.discardPacket
  else match bits w0 55 52 with
    | 9 => s.sidebandPacket (bits w0 23 8) cc p
    | 10 => s.capabilityPacket (fieldAt p 0 8)
    | 11 => s.hostNotice (fieldAt p 0 8)
    | 12 => s.creditPacket ((List.range (p.length / 8)).map fun i => fieldAt p (8 * i) 8)
    | _ => s.efomReport p

/-- HOST_PACKET_INVALID: the oldest packet from the receive lanes is judged; with none there, one that R265 refuses is discarded. -/
def State.hostPacketNext (s : State) : State :=
  match s.link.host.whole with
  | [] => s.discardPacket
  | (b, cc) :: l => (s.setLink { s.link with host := { s.link.host with whole := l } }).hostPacket b cc

/-! ### CAN controllers (R293 to R295, R308) -/

/-- Time quanta of 25 ns per bit and sample point in per cent of a nominal rate (Table 11.7). -/
def nomTiming : Nat → Nat × Nat
  | 0 => (80, 80)
  | _ => (40, 80)

/-- The same of a data rate, none without the bit rate switch (Table 11.7). -/
def dataTiming : Nat → Option (Nat × Nat)
  | 0 => none
  | 1 => some (20, 75)
  | 2 => some (10, 70)
  | 3 => some (8, 75)
  | _ => some (5, 80)

/-- Phase segment 2, which the resynchronisation jump width equals: the quanta after the sample point (R294). -/
def jumpWidth (t : Nat × Nat) : Nat := t.1 - t.1 * t.2 / 100

/-- Transmitter delay compensation is on: the data rate is 4 Mbit/s or more, at most 10 quanta of 25 ns (R293). -/
def CanCtl.delayCompensated (c : CanCtl) : Bool := (dataTiming c.dataRate).any fun t => decide (t.1 ≤ 10)

/-- CAN_BUS_OFF: the error counters follow an event on the bus; a transmit error counter of 256 is bus-off, which the recovery ends with both counters at 0
(R293, log 46). -/
def State.canBusOff (s : State) (i : Nat) (e : CanEvent) : State :=
  let c := s.can1 i
  if 2 ≤ i then s
  else match e with
    | .recovered => if c.busOff then s.setCan i { c with busOff := false, txErrors := 0, rxErrors := 0 } else s
    | .txError =>
      if !s.canUp i then s
      else if c.txErrors + 8 < 256 then s.setCan i { c with txErrors := c.txErrors + 8 }
      else (s.setCan i { c with txErrors := 256, busOff := true, offAges := 0 :: c.offAges }).count (K.CAN_BUSOFF i)
    | .rxError heavy => if s.canUp i then s.setCan i { c with rxErrors := min 255 (c.rxErrors + (if heavy then 8 else 1)) } else s
    | .txGood => if s.canUp i then s.setCan i { c with txErrors := c.txErrors - 1 } else s
    | .rxGood => if s.canUp i then s.setCan i c.received else s

/-- CAN_SETTINGS_APPLY: the first bus-idle moment after a CG00 activation. -/
def State.canApply (s : State) (i : Nat) : State :=
  let c := s.can1 i
  if c.applyDue then
    s.setCan i { c with node := s.reg K.CAN_NODE, nomRate := s.reg K.CAN_NOM_RATE, dataRate := s.reg K.CAN_DATA_RATE
                        enabled := s.regBit K.CAN_EN i, statusEn := s.regBit K.CAN_STATUS_EN 0, applyDue := false }
  else s

/-- Path of a controller. -/
def canPath (i : Nat) : Path := if i = 0 then .canA else .canB

/-- A status frame is due: a change, 10 ms since the last one, and protocol version 2 on the path. -/
def State.canStatusDue (s : State) (i : Nat) : Bool :=
  let c := s.can1 i
  c.statusDue && c.statusEn && decide (5000 ≤ c.sinceStatus) && s.canUp i && s.answers && s.protoVer (canPath i) == 2

/-- CAN_STATUS_FRAME: the Pennant word as 8 bytes on identifier 0x0C0 + m. -/
def State.canStatus (s : State) (i : Nat) : State :=
  if s.canStatusDue i then
    let s := s.setCan i { s.can1 i with statusDue := false, sinceStatus := 0 }
    s.canSend i { ident := 0x0C0 + (s.can1 i).node, brs := (s.can1 i).dataRate != 0, rates := ((s.can1 i).nomRate, (s.can1 i).dataRate), data := leBytes 8 s.pennant }
  else s

/-- CAN_FRAME_IGNORED. -/
def State.canIgnore (s : State) (i : Nat) : State := if s.canUp i then s.count (K.CAN_IGNORED i) else s

/-- Ages of the controllers at a tick; a status frame that is still due then goes out. -/
def State.canTick (s : State) : State :=
  let s := (s.canStatus 0).canStatus 1
  { s with can := s.can.map fun c =>
      { c with sinceStatus := min 5000 (c.sinceStatus + 1), offAges := (c.offAges.map (· + 1)).filter (· < slotsOfMs 1000) } }

end Sys2Proof.Machine
end

