-- ==== Sys2Proof/Machine/Tick.lean ====
section
/-! DEFINITION. The slot tick (R11 to R20, R57 to R61): what the slot that ends still holds, the actions of a tick in the order of Table 1.3, and the slot that
starts. -/

namespace Sys2Proof.Machine

/-! ### What the slot that ends still holds -/

/-- Edges and pulse ends of the present slot before `t` ft from its tick. -/
def State.firesBefore (s : State) (t : Nat) : State :=
  (s.mapFires fun s f => if f.time < t then edgeOf s f else (s, f)).mapFires fun s f =>
    if f.time + f.width < t then pulseEndOf s f else (s, f)

/-- Everything that the present slot still has to bring by itself (log 5): records, edges, the angle and the drive current, marks, decimator words,
spectra, triggers and capture, and what this part's watches find due. -/
def State.slotRest (s : State) : State :=
  let s := s.handover
  let s := ((s.firesBefore 12800).angleMeasured).finishFires
  let s := ((s.driveApply).solResolve).markAll
  let s := s.chargePeriod 0
  let s := s.decEndSlot.streamsEndSlot
  let s := (s.specEndSlot).trigEndSlot
  let s := s.statusPeriod
  let s := (s.clkReconfig 0).clkReconfig 1
  let s := (s.pllFailed false).pllFailed true
  ((s.guardDue).thermDue.caResets.snapTake.hkRest).latchStep.testOver

/-- The same once only: after a row of the tick to come has brought it, SLOT_TICK and further rows of that tick bring no more (log 5). -/
def State.slotCatchUp (s : State) : State :=
  if s.pipe.caught then s
  else
    let s := s.slotRest.raise
    { s with pipe := { s.pipe with caught := true } }

/-- Slot ticks come: REFCLK is present and the core die runs (R11, R314, R459). -/
def State.ticking (s : State) : Bool := s.refPresent && s.mode.coreRuns

/-- An action at the tick to come that is sent ahead of SLOT_TICK: when it is due and a tick comes, what the present slot still holds comes first. -/
def State.tickRow (s : State) (due : Bool) (f : State → State) : State := if due && s.ticking then f s.slotCatchUp.calFrame else s

/-! ### Processing stage (R12, R16) -/

/-- The slot before the one that ends leaves its processing stage: overrun, statistics and records, and P0 granules that still wait are abandoned. -/
def State.processTick (s : State) (i : TickInput) : State :=
  let cads := s.dec.chans.map (·.cads)
  let s := { s with pipe := { s.pipe with cur := { s.pipe.cur with cads := cads } } }
  let units := s.overrunUnits i.overrun
  let s := (s.calGather units).overrun units
  let s := (s.processSlot i units).dropLate
  { s with pipe := { s.pipe with ready := s.pipe.formed, formed := {} }, spares := { s.spares with failedNow := 0 } }

/-! ### The move to the next slot -/

/-- Instants, sample positions and the pipeline move on by a slot. -/
def State.shiftSlot (s : State) (i : TickInput) : State :=
  let p := s.pipe
  let s := { s with pipe := { p with prev2 := p.prev, prev := p.cur, cur := {}, caught := false } }
  let s := (((s.decShift).streamsShift).specShift).trigShift
  { s with
    mir := { s.mir with end0 := s.mir.half0, end1 := s.mir.half1, ends := s.mir.halves, halves := 0, angleDue := true, edges := s.mir.edges.map SolEdge.shift }
    ens := { s.ens with mexcOk := decide (800 ≤ i.mexc ∧ i.mexc ≤ 1200), end0 := s.ens.cap0, end1 := s.ens.cap1, cap0 := none, cap1 := none } }

/-- The lock that the slot which starts has lost, or has again (R59, R218, R242). -/
def State.lockTick (s : State) : State :=
  let s := if s.locked then s else (s.decStop).dmaLockLost
  if s.locked && !s.dec.running then s.decStart else s

/-- A count of ticks of the bank copy. -/
def State.retireCount (s : State) : State :=
  let r := s.fs.retire
  if 1 < r.ticks then s.setFs { s.fs with retire := { r with ticks := r.ticks - 1 } } else s

/-- TRACK_ERR_MAX at the end of a frame (Table 3.6's registers, R85). -/
def State.frameError (s : State) : State :=
  let c := s.pipe.prev
  if c.live && c.lastOfFrame then
    { s.put K.TRACK_ERR_MAX s.mir.frameErrMax with mir := { s.mir with frameErrMax := 0 } }
  else if c.live then s else { s with mir := { s.mir with frameErrMax := 0 } }

/-! ### The slot that starts -/

/-- The context of the slot that starts, with what the units of this tick add to it. -/
def State.startContext (s : State) (i : TickInput) : State :=
  let was := s.pipe.prev.locked
  let r := s.formSlot i.samples i.shadow
  let s := r.1
  let p := s.pipe
  let ee := s.reg K.EE12_FOR
  let spare := sumNat ((List.range 48).map fun ch => if s.usesSlice8 ch then 2 ^ ch else 0)
  let c := { r.2 with
    bank := s.plan.active, xt := s.cal.xt, sparePath := spare, ee12 := ee, noEngine := s.noEngine
    calChannels := p.nextCal, gainCommit := p.nextGain, takenOver := p.nextTaken, resumed := s.locked && !was }
  { s with pipe := { p with cur := c, nextGain := 0, nextCal := 0, nextTaken := 0 } }

/-- The mirror of the slot that starts, and the target its angle is held to (R85, R88). -/
def State.mirrorTick (s : State) : State :=
  let c := s.pipe.cur
  let s := (s.mirTick c.live c.frameSlot).solTick c
  { s with pipe := { s.pipe with cur := { s.pipe.cur with target := s.mir.target } } }

/-- Ensign at the tick (R372, R374 to R377, R384 to R386): sweep, which must complete a period after level L3 (R435), cross-check, the fire decisions with the feedbacks as they stand, then the permits and a
test slot. -/
def State.ensignTick (s : State) (i : TickInput) : State :=
  let run := decide (s.dirNow = 1 ∧ s.sweep.lastDir = 2)
  let s := if 3 ≤ s.shedTick then s.sweepRestart else s
  let s := s.sweepTick
  let s := if run then s.solRun else s
  let s := s.crossCheck i
  let kind := s.pipe.cur.kind
  let test := s.permitTick.testSlotDue kind
  let s := { s with pipe := { s.pipe with cur := { s.pipe.cur with testSlot := test } } }
  let s := s.mapFires (decideFire test)
  let s := s.permitTick
  let s := if test then s.startTestSlot else s
  s.reportBins

/-- SLOT_OUT's pulses of modes 2 and 3 (R207). -/
def State.slotOutTick (s : State) : State :=
  let s := s.slotPulse 2 0
  if s.pipe.cur.newFrame then s.slotPulse 3 0 else s

/-- Steps 1 to 4 of Table 1.3 with the processing stage that ends. -/
def State.tickChanges (s : State) (i : TickInput) : State :=
  let s := { s with shedTick := s.reg K.SHED_LEVEL }
  let s := (((s.checksFail i).swapTick).calTick).processTick i
  let s := (s.shiftSlot i).clkTick
  let s := (((s.aoTick).guardTick).apdTick).hkTick
  let s := { s with sealed := { s.sealed with prior := [] } }
  let t := compactStamp s.slot 0 0
  let s := s.commitTick t 0
  let s := s.calCounts
  let s := s.sparesTick i.shadowDiffers 0
  let s := s.modeTick t
  let s := s.lockTick.apdStart
  let s := ((s.retireTick).mapSwitch).retireCount
  s.capTick

/-- Step 5 of Table 1.3: the slot starts. -/
def State.tickStart (s : State) (i : TickInput) : State :=
  let s := s.rxTick s.pipe.prev
  let s := (s.resTick).words.caReset 0
  let s := s.waitRelease
  let s := (s.startContext i).calThresholds
  let s := if s.pipe.cur.newFrame then s.resRestart else s
  let s := s.frameError.mirrorTick
  let s := s.ensignTick i
  let s := (s.decSyncTick).specTick
  let s := ((s.linkTick).streamsTick).slotOutTick
  let s := s.enqueueDumps.calWorks
  s.statusTick s.pennant s.framePos

/-- Counts of ticks that end with the tick. -/
def State.tickCounts (s : State) : State :=
  let s := ((((s.planCounts).commitCounts).authTick).canTick).clkBegun
  let s := s.setComet { s.comet with hold := false }
  if s.mode = .boot then { s with boot := { s.boot with ticks := s.boot.ticks + 1 } } else s

/-- SLOT_TICK. -/
def State.slotTick (s : State) (i : TickInput) : State :=
  if !s.ticking then s
  else
    let s := (s.slotCatchUp.calOsc i.oscCodes).convPeriods i.sense
    if !s.ticking then s
    else ((s.tickChanges i).tickStart i).tickCounts

/-- ENSIGN_BIN_STEP: channel B's own clock in an interval without a slot tick (R379), in which the converters that are on go on switching (R428). -/
def State.binTick (s : State) : State := if s.ticking then s else s.aoTick.convFree

end Sys2Proof.Machine
end

