-- ==== Sys2Proof/Machine/Rows.lean ====
section
/-! DEFINITION. What the meanings of several commands share: the die an event needs, the turn of a word, and the small effects that no chapter's file holds. -/

namespace Sys2Proof.Machine

/-- An event of a unit on the core or receiver die: nothing where they do not run (R434, R444, R459). -/
def State.core (s : State) (f : State → State) : State := if s.mode.coreRuns then f s else s

/-- An event that only needs the part to be powered (Table 18.1). -/
def State.powered (s : State) (f : State → State) : State := if s.mode = .off then s else f s

/-! ### Words (R35, R55, R57, R448) -/

/-- The word with operation `op` executes next and nothing that comes before it at the tick to come is still due: no swap, no change of mode. -/
def State.wordTurn (s : State) (op : Nat) : Bool :=
  s.wordDue op && !s.swapDue && !s.autoDue && s.modeSt.reqTicks != 1 && !(s.modeSt.frameWait.isSome && s.atFrameBoundary)
    && !(s.ensB.degAck && s.mode == .degraded)

/-- A word executes at the tick to come. -/
def State.wordRow (s : State) (op : Nat) (f : State → State) : State :=
  s.tickRow (s.wordTurn op) fun s => if s.wordTurn op then f s else s

/-! ### Spectrum engine and outputs -/

/-- Some unit of a class waits for its spare. -/
def State.classDue (s : State) (cls : Nat) : Bool :=
  s.spares.planned.any (fun p => unitClass p.1 == cls) || s.spares.failWait.any fun u => unitClass u == cls

/-- Nothing will stop the spectrum engine at the tick to come, and it does not run (R162, R163). -/
def State.specStartDue (s : State) : Bool :=
  !s.spec.running && s.specMode && s.reg K.SHED_LEVEL == 0 && s.reg K.THROT_STEP == 0 && s.lockedA

/-- The spectrum engine starts at the tick to come. -/
def State.specStart (s : State) : State := (s.put K.SPEC_STATE 1).specStartAll 11200

/-! ### Samples of the charge amplifiers (R341, R380) -/

/-- CA_SAMPLE: amplifier 0 is CA-M, amplifiers 1 to 4 are PEM0 to PEM3, whose sample Ensign compares with what it released. -/
def State.ampSample (s : State) (amp k : Nat) (m : Int) : State :=
  let s := s.caSample amp k m
  if amp = 0 then s
  else s.pemCheck (amp - 1) (chargeOf (s.reg (K.CA_RANGE_NOW amp)) m) (decide (7372 < m.natAbs))

/-! ### Host access and test access -/

/-- An authenticated write for target `k` reaches AUTH_WRITE (R303). -/
def State.authRow (s : State) (k : Nat) (a : AuthWrite) : State :=
  s.hostDomain K.AUTH_WRITE { path := a.path, cc := a.cc, data := authRecord k a.len a.counter a.data a.tag }

/-- SAMPLE/PRELOAD: the chain holds the levels as sampled, and the values that EXTEST and CLAMP will drive are shifted in (R414). -/
def State.tapSample (s : State) (pins outs : List Bool) : State :=
  s.setRst { s.rst with tapIr := 1, bypass := false, pinsHighZ := false, pinsFromChain := false, chain := s.chainSample pins, preload := outs }

end Sys2Proof.Machine
end

