-- ==== Sys2Proof/Machine/Analyser.lean ====
section
/-! DEFINITION. The spectrum engine (chapter 6): one meaning for each command. -/

namespace Sys2Proof.Machine

/-- SPECTRUM_COMPLETE: a spectrum of a channel is complete (R157). -/
def execSpectrumComplete (ch : Fin 48) (s : State) : Host.Outcome State Fault Refusal :=
  finish (s.core fun s => s.specEnds ch)

/-- SPECTRUM_ENGINE_START: the engine restarts at the tick to come (R163). -/
def execSpectrumEngineStart (s : State) : Host.Outcome State Fault Refusal :=
  finish (s.tickRow s.specStartDue State.specStart)

/-- MASKV_ASSERT: MASKV of a channel rises (R178). -/
def execMaskvAssert (ch : Fin 48) (s : State) : Host.Outcome State Fault Refusal :=
  finish (s.core fun s => s.maskvRise ch)

/-- MASKV_EXPIRE: MASKV of a channel falls (R178). -/
def execMaskvExpire (ch : Fin 48) (s : State) : Host.Outcome State Fault Refusal :=
  finish (s.core fun s => s.maskvFall ch)

/-- DENSITY_SWAP: a map's buffers swap (R172). -/
def execDensitySwap (ch : Fin 48) (s : State) : Host.Outcome State Fault Refusal :=
  finish (s.core fun s => s.densSwapStep ch)

/-- DENSITY_INIT_DONE: a working buffer is initialised (R172). -/
def execDensityInitDone (ch : Fin 48) (e : StoreEnd) (s : State) : Host.Outcome State Fault Refusal :=
  finish (s.core fun s => s.densInitDone ch e.cc e.ecc)

/-- PIPELINE_TAKEOVER: a spare pipeline takes over at the tick to come (R183). -/
def execPipelineTakeover (s : State) : Host.Outcome State Fault Refusal :=
  finish (s.tickRow (s.classDue 4) fun s => s.classTick 4 11200)

end Sys2Proof.Machine
end

