-- ==== Sys2Proof/Machine/Dictionary.lean ====
section
/-! DEFINITION. Host access (chapter 11): messages, writes, commits, CAN, QSPI, authenticated writes, interrupts: one meaning for each command. -/

namespace Sys2Proof.Machine

/-- READ: a READ message (R289). -/
def execRead (q : Request) (s : State) : Host.Outcome State Fault Refusal :=
  finish (s.serve q 1 fun s => s.serveRead q.path q.bytes)

/-- WRITE: a WRITE message (R282). -/
def execWrite (q : Request) (s : State) : Host.Outcome State Fault Refusal :=
  finish (s.serve q 2 fun s => s.serveWrite q)

/-- DREAD: a DREAD message (R292). -/
def execDread (q : Request) (s : State) : Host.Outcome State Fault Refusal :=
  finish (s.serve q 3 fun s => s.serveDread q.path q.bytes)

/-- DWRITE: a DWRITE message (R291). -/
def execDwrite (q : Request) (s : State) : Host.Outcome State Fault Refusal :=
  finish (s.serve q 4 fun s => s.serveDwrite q)

/-- CONNECT: a CONNECT message (R308). -/
def execConnect (q : Request) (s : State) : Host.Outcome State Fault Refusal :=
  finish (s.serve q 5 fun s => s.serveConnect q.path q.bytes)

/-- ABORT: a ABORT message (R289). -/
def execAbort (q : Request) (s : State) : Host.Outcome State Fault Refusal :=
  finish (s.serve q 6 fun s => s.serveAbort q.path q.bytes)

/-- OBJECT_WRITE: a write of the object with key index times 256 plus subindex (R282). -/
def execObjectWrite (key : Fin 16777216) (w : HostWrite) (s : State) : Host.Outcome State Fault Refusal :=
  finish (s.hostWrite key w)

/-- COMMIT: a write of COMMIT (R286). -/
def execCommit (w : HostWrite) (s : State) : Host.Outcome State Fault Refusal :=
  finish (s.hostWrite K.COMMIT w)

/-- COMMIT_CHECK_DONE: the commit check ends (R287). -/
def execCommitCheckDone (cc : Fin 2800) (s : State) : Host.Outcome State Fault Refusal :=
  finish (s.core fun s => s.commitChecked cc)

/-- COMMIT_ACTIVATE: the groups activate at the tick to come, after a swap of the same tick (R18, R19). -/
def execCommitActivate (s : State) : Host.Outcome State Fault Refusal :=
  finish (s.tickRow s.commitDue fun s => s.swapTick.commitTick s.nextStamp 11200)

/-- DISCARD: a write of DISCARD (R285). -/
def execDiscard (w : HostWrite) (s : State) : Host.Outcome State Fault Refusal :=
  finish (s.hostWrite K.DISCARD w)

/-- CAN_BUS_OFF: what the error counters of a controller make of an event (R293). -/
def execCanBusOff (m : Fin 2) (e : CanEvent) (s : State) : Host.Outcome State Fault Refusal :=
  finish (s.core fun s => s.canBusOff m e)

/-- CAN_SETTINGS_APPLY: a controller takes its settings at bus idle (R295). -/
def execCanSettingsApply (m : Fin 2) (s : State) : Host.Outcome State Fault Refusal :=
  finish (s.core fun s => s.canApply m)

/-- CAN_STATUS_FRAME: a status frame (R295). -/
def execCanStatusFrame (m : Fin 2) (s : State) : Host.Outcome State Fault Refusal :=
  finish (s.core fun s => s.canStatus m)

/-- QSPI_READ: the READ command (R298). -/
def execQspiRead (addr : Nat) (n : Nat) (s : State) : Host.Outcome State Fault Refusal :=
  finish (s.core fun s => s.qspiRead addr n)

/-- WREAD: the WREAD command (R300). -/
def execWread (addr : Nat) (n : Nat) (s : State) : Host.Outcome State Fault Refusal :=
  finish (s.core fun s => s.wread addr n)

/-- QSPI_WRITE: the WRITE command (R299). -/
def execQspiWrite (addr : Nat) (b : List Byte) (s : State) : Host.Outcome State Fault Refusal :=
  finish (s.core fun s => s.qspiWrite addr b)

/-- QSPI_STATUS: the STATUS command (R296). -/
def execQspiStatus (s : State) : Host.Outcome State Fault Refusal :=
  finish (s.qspiStatus)

/-- QSPI_UNKNOWN_COMMAND: an unknown command (R296). -/
def execQspiUnknownCommand (s : State) : Host.Outcome State Fault Refusal :=
  finish (s.qspiUnknown)

/-- QSPI_MIRROR_WRITE_APPLY: the oldest queued mirror write (R299). -/
def execQspiMirrorWriteApply (cc : Fin 2800) (ecc : Ecc) (s : State) : Host.Outcome State Fault Refusal :=
  finish (s.core fun s => s.mirrorApply cc ecc)

/-- QDOM_SEL: a write of QDOM_SEL (R300). -/
def execQdomSel (w : HostWrite) (s : State) : Host.Outcome State Fault Refusal :=
  finish (s.hostWrite K.QDOM_SEL w)

/-- QDOM_WRITE_LEN: a write of QDOM_WRITE_LEN (R300). -/
def execQdomWriteLen (w : HostWrite) (s : State) : Host.Outcome State Fault Refusal :=
  finish (s.hostWrite K.QDOM_WRITE_LEN w)

/-- QDOM_WRITE_DONE: the DOMAIN window write completes (R300). -/
def execQdomWriteDone (cc : Fin 2800) (s : State) : Host.Outcome State Fault Refusal :=
  finish (s.core fun s => s.qdomDone cc)

/-- QSPI_DICT_VER: a write of QSPI_DICT_VER (R307). -/
def execQspiDictVer (w : HostWrite) (s : State) : Host.Outcome State Fault Refusal :=
  finish (s.hostWrite K.QSPI_DICT_VER w)

/-- SEAL_PROGRAM: an authenticated write of SEAL_PROGRAM (R391). -/
def execSealProgram (a : AuthWrite) (s : State) : Host.Outcome State Fault Refusal :=
  finish (s.authRow K.SEAL_PROGRAM a)

/-- SEAL_PROGRAM_DONE: seal programming ends (R391). -/
def execSealProgramDone (rows : FuseEnd) (s : State) : Host.Outcome State Fault Refusal :=
  finish (s.core fun s => s.sealDone rows)

/-- DEG_ACK: an authenticated write of DEG_ACK (R400). -/
def execDegAck (a : AuthWrite) (s : State) : Host.Outcome State Fault Refusal :=
  finish (s.authRow K.DEG_ACK a)

/-- RETIRE_BURN: an authenticated write of RETIRE_BURN (R423). -/
def execRetireBurn (a : AuthWrite) (s : State) : Host.Outcome State Fault Refusal :=
  finish (s.authRow K.RETIRE_BURN a)

/-- RETIRE_BURN_DONE: retire fuse programming ends (R423). -/
def execRetireBurnDone (verified : FuseEnd) (s : State) : Host.Outcome State Fault Refusal :=
  finish (s.core fun s => s.retireBurned verified)

/-- AUTH_LOCKOUT_END: the lock-out is over (R305). -/
def execAuthLockoutEnd (s : State) : Host.Outcome State Fault Refusal :=
  finish (s.core State.authLockEnd)

/-- PENNANT_CLEAR: a write of PENNANT_CLEAR (R309). -/
def execPennantClear (w : HostWrite) (s : State) : Host.Outcome State Fault Refusal :=
  finish (s.hostWrite K.PENNANT_CLEAR w)

/-- IRQ_ACK: a write of IRQ_ACK (R310). -/
def execIrqAck (w : HostWrite) (s : State) : Host.Outcome State Fault Refusal :=
  finish (s.hostWrite K.IRQ_ACK w)

end Sys2Proof.Machine
end

