-- ==== Sys2Proof/Machine/Fires.lean ====
section
/-! DEFINITION. Fires, reservoir and mirror (chapter 3): one meaning for each command. -/

namespace Sys2Proof.Machine

/-- FIRE_EDGE: the rising edge of an emitter's pulse (R63, R65). -/
def execFireEdge (e : Fin 16) (s : State) : Host.Outcome State Fault Refusal :=
  finish (s.onFire e edgeOf)

/-- FIRE_PULSE_END: the end of an emitter's pulse (R66). -/
def execFirePulseEnd (e : Fin 16) (s : State) : Host.Outcome State Fault Refusal :=
  finish (s.onFire e pulseEndOf)

/-- CHARGER_PERIOD: a switching period of the charger; `ilim` says that the current ended it early (R78). -/
def execChargerPeriod (sense : Nat) (s : State) : Host.Outcome State Fault Refusal :=
  finish (s.core fun s => s.chargePeriod sense)

/-- RESERVOIR_BLEED_END: VLAS has fallen to the target (R79). -/
def execReservoirBleedEnd (s : State) : Host.Outcome State Fault Refusal :=
  finish (s.core State.bleedEnd)

/-- RESERVOIR_FAULT: VLAS in 2.5 mV at the fault (R77, R82). -/
def execReservoirFault (vlas : Nat) (s : State) : Host.Outcome State Fault Refusal :=
  finish (s.core fun s => s.resFault vlas)

/-- CHARGER_RESTART: the charger restarts at the frame boundary just passed (R82). -/
def execChargerRestart (s : State) : Host.Outcome State Fault Refusal :=
  finish (s.core fun s => if s.pipe.cur.newFrame then s.resRestart else s)

/-- ANGLE_MEASURED: the angle of the slot that ended (R84). -/
def execAngleMeasured (s : State) : Host.Outcome State Fault Refusal :=
  finish (s.core State.angleMeasured)

/-- MIRROR_DRIVE_APPLY: the computed coil current (R85). -/
def execMirrorDriveApply (s : State) : Host.Outcome State Fault Refusal :=
  finish (s.core fun s => s.angleMeasured.driveApply)

/-- SOL_EDGE: the level of SOL_IN before sample `i` and at it, as the service path takes it and as Ensign does (R90, R397). -/
def execSolEdge (i : Fin 11200) (before after eBefore eAfter : Bool) (s : State) : Host.Outcome State Fault Refusal :=
  finish (s.core fun s => s.solEdge i (!before && after) (!eBefore && eAfter))

/-- SOL_MARK_MISSING: a mark counts as missing (R397). -/
def execSolMarkMissing (s : State) : Host.Outcome State Fault Refusal :=
  finish (s.core State.solMissing)

end Sys2Proof.Machine
end

