-- ==== Sys2Proof/Machine/Memory.lean ====
section
/-! DEFINITION. The Field Store and DMA (chapter 9): one meaning for each command. -/

namespace Sys2Proof.Machine

/-- GRANULE_ISSUE: a logical bank grants a granule (R231). -/
def execGranuleIssue (bank : Fin 48) (cc : Fin 2800) (ecc : Ecc) (s : State) : Host.Outcome State Fault Refusal :=
  finish (s.core fun s => s.granuleIssue bank cc ecc)

/-- SCRUB_ROW: one row of every active bank, with what was found (R223). -/
def execScrubRow (cc : Fin 2800) (found : Ecc) (s : State) : Host.Outcome State Fault Refusal :=
  finish (s.core fun s => s.scrubStep cc found)

/-- AS_MAP_WRITE: a write of a whole map (R228). -/
def execAsMapWrite (space : Fin 16) (w : HostWrite) (s : State) : Host.Outcome State Fault Refusal :=
  finish (s.hostDomain (K.AS_MAP space) w)

/-- MAP_EDIT: a write of MAP_EDIT (R229). -/
def execMapEdit (w : HostWrite) (s : State) : Host.Outcome State Fault Refusal :=
  finish (s.hostWrite K.MAP_EDIT w)

/-- MAP_EDIT_DONE: the old translation is flushed (R229). -/
def execMapEditDone (s : State) : Host.Outcome State Fault Refusal :=
  finish (s.core State.mapEditDone)

/-- FAULT_CLEAR: a write of 1 to FAULT_CLEAR (R234). -/
def execFaultClear (a : HostAt) (s : State) : Host.Outcome State Fault Refusal :=
  finish (s.hostWrite K.FAULT_CLEAR (a.write 1 1))

/-- DMA_START: a write of 1 to DMA_CTRL of an engine (R238). -/
def execDmaStart (e : Fin 8) (a : HostAt) (s : State) : Host.Outcome State Fault Refusal :=
  finish (s.hostWrite (K.DMA_CTRL e) (a.write 1 1))

/-- DMA_ABORT: a write of 2 to DMA_CTRL of an engine (R241). -/
def execDmaAbort (e : Fin 8) (a : HostAt) (s : State) : Host.Outcome State Fault Refusal :=
  finish (s.hostWrite (K.DMA_CTRL e) (a.write 1 2))

/-- DMA_RESUME: a write of 3 to DMA_CTRL of an engine (R240). -/
def execDmaResume (e : Fin 8) (a : HostAt) (s : State) : Host.Outcome State Fault Refusal :=
  finish (s.hostWrite (K.DMA_CTRL e) (a.write 1 3))

/-- DMA_STOP: a write of 4 to DMA_CTRL of an engine (R241). -/
def execDmaStop (e : Fin 8) (a : HostAt) (s : State) : Host.Outcome State Fault Refusal :=
  finish (s.hostWrite (K.DMA_CTRL e) (a.write 1 4))

/-- DMA_FS_TO_STREAMER: an engine moves packets to its stream (R236). -/
def execDmaFsToStreamer (e : Fin 8) (cc : Fin 2800) (ecc : Ecc) (s : State) : Host.Outcome State Fault Refusal :=
  finish (s.core fun s => s.dmaStream e cc 300 ecc 4096)

/-- DMA_FS_TO_QSPI: an engine fills the outbound bulk queue (R301). -/
def execDmaFsToQspi (e : Fin 8) (cc : Fin 2800) (ecc : Ecc) (s : State) : Host.Outcome State Fault Refusal :=
  finish (s.core fun s => s.dmaOut e cc ecc 4096)

/-- DMA_QSPI_TO_FS: an engine empties the inbound bulk queue (R301). -/
def execDmaQspiToFs (e : Fin 8) (cc : Fin 2800) (ecc : Ecc) (s : State) : Host.Outcome State Fault Refusal :=
  finish (s.core fun s => s.dmaIn e cc ecc 4096)

/-- DMA_COMPLETION: a completion record (R239). -/
def execDmaCompletion (e : Fin 8) (cc : Fin 2800) (ecc : Ecc) (s : State) : Host.Outcome State Fault Refusal :=
  finish (s.core fun s => s.dmaComplete e cc ecc)

/-- DMA_CONTINUE: what an engine waits for has come (R242). -/
def execDmaContinue (e : Fin 8) (cc : Fin 2800) (ecc : Ecc) (s : State) : Host.Outcome State Fault Refusal :=
  finish (s.core fun s => s.dmaContinue e cc ecc)

/-- BANK_RETIRE: a write of BANK_RETIRE (R244). -/
def execBankRetire (w : HostWrite) (s : State) : Host.Outcome State Fault Refusal :=
  finish (s.hostWrite K.BANK_RETIRE w)

/-- BANK_COPY_DONE: the last row is copied, with what the copy's reads found (R244). -/
def execBankCopyDone (e : StoreEnd) (s : State) : Host.Outcome State Fault Refusal :=
  finish (s.core fun s => s.copyDone e.cc e.ecc)

/-- BANK_MAP_SWITCH: the map points at the spare at the tick to come (R244). -/
def execBankMapSwitch (s : State) : Host.Outcome State Fault Refusal :=
  finish (s.tickRow (s.fs.retire.ticks == 1) State.mapSwitch)

/-- BANK_RETIRE_DRAINED: the old bank's tags have returned (R244). -/
def execBankRetireDrained (s : State) : Host.Outcome State Fault Refusal :=
  finish (s.core State.retireDrained)

/-- BANK_COPY_FAILED: the spare fails (R244). -/
def execBankCopyFailed (s : State) : Host.Outcome State Fault Refusal :=
  finish (s.core fun s => if s.fs.retire.copying then s.targetFailed else s)

end Sys2Proof.Machine
end

