-- ==== Sys2Proof/Machine/Plans.lean ====
section
/-! DEFINITION. Plans (chapter 2): writes of the pending bank, the check, the swap: one meaning for each command. -/

namespace Sys2Proof.Machine

/-- PENDING_PLAN_WRITE: a write of PENDING_PLAN (R30, R52). -/
def execPendingPlanWrite (w : HostWrite) (s : State) : Host.Outcome State Fault Refusal :=
  finish (s.hostDomain K.PENDING_PLAN w)

/-- PENDING_TABLE_WRITE: a write of pending table `n`, counted from 0x1011 (R46, R52). -/
def execPendingTableWrite (n : Fin 5) (w : HostWrite) (s : State) : Host.Outcome State Fault Refusal :=
  finish (s.hostDomain (K.PENDING_TABLE n) w)

/-- PLAN_CHECK: a write of 1 to PLAN_CHECK (R47). -/
def execPlanCheck (a : HostAt) (s : State) : Host.Outcome State Fault Refusal :=
  finish (s.hostWrite K.PLAN_CHECK (a.write 1 1))

/-- PLAN_CHECK_COMPLETE: the checker ends (R47, R52). -/
def execPlanCheckComplete (s : State) : Host.Outcome State Fault Refusal :=
  finish (s.core State.planChecked)

/-- PLAN_SWAP_REQUEST: a write of 1 to PLAN_SWAP (R53). -/
def execPlanSwapRequest (a : HostAt) (s : State) : Host.Outcome State Fault Refusal :=
  finish (s.hostWrite K.PLAN_SWAP (a.write 1 1))

/-- PLAN_SWAP_CANCEL: a write of 2 to PLAN_SWAP (R56). -/
def execPlanSwapCancel (a : HostAt) (s : State) : Host.Outcome State Fault Refusal :=
  finish (s.hostWrite K.PLAN_SWAP (a.write 1 2))

/-- DITHER_TABLE_READY: the shadow Dither Table is complete (R54). -/
def execDitherTableReady (cc : Fin 2800) (s : State) : Host.Outcome State Fault Refusal :=
  finish (s.core fun s => s.ditherReady cc)

/-- PLAN_SWAP_TICK: the plan banks exchange roles at the tick to come (R55). -/
def execPlanSwapTick (s : State) : Host.Outcome State Fault Refusal :=
  finish (s.tickRow s.swapDue State.swapTick)

end Sys2Proof.Machine
end

