-- ==== Sys2Proof/Machine/Power.lean ====
section
/-! DEFINITION. Supply, shed levels and temperature (chapter 17): one meaning for each command. -/

namespace Sys2Proof.Machine

/-- VAO_START: VIN rises above 7.0 V (R425). -/
def execVaoStart (s : State) : Host.Outcome State Fault Refusal :=
  finish (s.vaoStart)

/-- AO_RELEASE: the always-on domain is released (R425). -/
def execAoRelease (s : State) : Host.Outcome State Fault Refusal :=
  finish (s.aoRelease)

/-- VIN_POR: VIN falls below 6.0 V (R425). -/
def execVinPor (s : State) : Host.Outcome State Fault Refusal :=
  finish (s.vinPor)

/-- RAIL_START: the rails start (R429). -/
def execRailStart (s : State) : Host.Outcome State Fault Refusal :=
  finish (s.railStart)

/-- RAIL_POWER_GOOD: the rail that ramps is good (R429). -/
def execRailPowerGood (s : State) : Host.Outcome State Fault Refusal :=
  finish (s.railPowerGood)

/-- RAIL_FAULT: a rail fault of a cause (R430). -/
def execRailFault (rail : Fin 3) (cause : Nat) (s : State) : Host.Outcome State Fault Refusal :=
  finish (s.railFault rail cause)

/-- RAIL_RESTART: 100 ms after a rail fault (R430). -/
def execRailRestart (s : State) : Host.Outcome State Fault Refusal :=
  finish (s.railRestart)

/-- SHED_DECLARE: a shed level is declared (R431). -/
def execShedDeclare (level : Fin 5) (cc : Fin 2800) (s : State) : Host.Outcome State Fault Refusal :=
  finish (s.shedDeclare level cc)

/-- SHED_CLEAR: a shed level clears (R435). -/
def execShedClear (level : Fin 5) (cc : Fin 2800) (s : State) : Host.Outcome State Fault Refusal :=
  finish (s.shedClear level cc)

/-- OV_DECLARE: overvoltage (R432). -/
def execOvDeclare (cc : Fin 2800) (s : State) : Host.Outcome State Fault Refusal :=
  finish (s.ovDeclare cc)

/-- OV_CLEAR: the end of overvoltage (R432). -/
def execOvClear (cc : Fin 2800) (s : State) : Host.Outcome State Fault Refusal :=
  finish (s.ovClear cc)

/-- VIN_MINMAX_CLR: a write of 1 to VIN_MINMAX_CLR (R427). -/
def execVinMinmaxClr (a : HostAt) (s : State) : Host.Outcome State Fault Refusal :=
  finish (s.hostWrite K.VIN_MINMAX_CLR (a.write 1 1))

/-- TS_READING: the sensors' readings of a millisecond (R436, R444). -/
def execTsReading (codes : List (Option Int)) (s : State) : Host.Outcome State Fault Refusal :=
  finish (s.powered fun s => (s.tsReading codes).latchStep)

/-- TS_BREAK: a sensor is broken (R437). -/
def execTsBreak (i : Fin 12) (s : State) : Host.Outcome State Fault Refusal :=
  finish (s.powered fun s => (s.tsBreak i).latchStep)

/-- TS_DISAGREE_CHANGE: a zone's sensors differ, or agree again, for 1 s (R438). -/
def execTsDisagreeChange (z : Fin 6) (s : State) : Host.Outcome State Fault Refusal :=
  finish (s.powered fun s => s.disagreeChange z)

/-- THROTTLE_STEP_UP: the throttle step rises (R442). -/
def execThrottleStepUp (s : State) : Host.Outcome State Fault Refusal :=
  finish (s.core State.throtUp)

/-- THROTTLE_STEP_DOWN: the throttle step falls (R442). -/
def execThrottleStepDown (s : State) : Host.Outcome State Fault Refusal :=
  finish (s.core State.throtDown)

end Sys2Proof.Machine
end

