-- ==== Sys2Proof/Machine/Protection.lean ====
section
/-! DEFINITION. Ensign (chapter 15): one meaning for each command. -/

namespace Sys2Proof.Machine

/-- ENSIGN_BIN_STEP: the bin clock steps without a slot tick (R379). -/
def execEnsignBinStep (s : State) : Host.Outcome State Fault Refusal :=
  finish (s.binTick)

/-- SAFE_HOLD_ENTRY: SAFE-HOLD at the tick to come (R382). -/
def execSafeHoldEntry (s : State) : Host.Outcome State Fault Refusal :=
  finish (s.tickRow s.safeHoldDue fun s => s.safeHoldStep s.nextStamp)

/-- INHIBIT_FALL: INHIBIT_N falls (R383). -/
def execInhibitFall (s : State) : Host.Outcome State Fault Refusal :=
  finish (s.inhibitFall)

/-- INHIBIT_RELEASE: INHIBIT_N has been high for 10 µs (R383). -/
def execInhibitRelease (s : State) : Host.Outcome State Fault Refusal :=
  finish (s.inhibitRelease)

/-- PERMIT_FEEDBACK_FAULT: the feedback of permit A, or of B, stands at a level when its time to follow is over (R384). Channel B watches the feedbacks, the
straps and its copy of the seal wherever the always-on domain has its supply, in HELD and with the core unpowered as well (R371, R459, Table 18.7). -/
def execPermitFeedbackFault (b : Bool) (level : Bool) (s : State) : Host.Outcome State Fault Refusal :=
  finish (s.powered fun s => s.feedback b level)

/-- PERMIT_TEST_START: the permit under test goes low (R385). -/
def execPermitTestStart (s : State) : Host.Outcome State Fault Refusal :=
  finish (s.core State.testStart)

/-- PERMIT_TEST_END: the off-pulse is judged (R385). -/
def execPermitTestEnd (pass : Bool) (s : State) : Host.Outcome State Fault Refusal :=
  finish (s.core fun s => s.testEnd pass)

/-- FORCED_TEST_DUE: 100 ms without a test (R386). -/
def execForcedTestDue (s : State) : Host.Outcome State Fault Refusal :=
  finish (s.core State.forcedTest)

/-- ENSIGN_URGENT_REQUEST: channel B's urgent request (R388). -/
def execEnsignUrgentRequest (s : State) : Host.Outcome State Fault Refusal :=
  finish (s.core State.urgentRequest)

/-- ENSIGN_URGENT_TIMEOUT: 20 ms without a result (R388). -/
def execEnsignUrgentTimeout (s : State) : Host.Outcome State Fault Refusal :=
  finish (s.core State.urgentTimeout)

/-- SEAL_CRC_CHECK: the CRC of the seal copies (R392). -/
def execSealCrcCheck (upset : Bool) (s : State) : Host.Outcome State Fault Refusal :=
  finish (s.powered fun s => s.sealCheck upset)

/-- STRAP_READ: the straps as read (R395). -/
def execStrapRead (ohms : List Nat) (s : State) : Host.Outcome State Fault Refusal :=
  finish (s.powered fun s => s.strapRead ohms)

/-- DEGRADED_ENTRY: DEGRADED at the tick to come (R398). -/
def execDegradedEntry (s : State) : Host.Outcome State Fault Refusal :=
  finish (s.tickRow (s.degradedDue && !s.safeHoldDue) fun s => s.degradedStep s.nextStamp)

/-- DEG_BUDGET_SPENT: the budget is spent (R399). -/
def execDegBudgetSpent (s : State) : Host.Outcome State Fault Refusal :=
  finish (s.core State.budgetSpent)

/-- DEG_CLEAN_REACHED: DEG_CLEAN has reached 2,000 ms (R402). -/
def execDegCleanReached (s : State) : Host.Outcome State Fault Refusal :=
  finish (s.core State.cleanReached)

/-- DEGRADED_RETURN: the return from DEGRADED at the tick to come (R400). -/
def execDegradedReturn (s : State) : Host.Outcome State Fault Refusal :=
  finish (s.tickRow (s.ensB.degAck && s.mode == .degraded && !s.safeHoldDue) fun s => s.degReturnStep s.nextStamp)

end Sys2Proof.Machine
end

