-- ==== Sys2Proof/Machine/Receiver.lean ====
section
/-! DEFINITION. The receive channels and APD bias (chapter 4), engine take-over: one meaning for each command. -/

namespace Sys2Proof.Machine

/-- CHANNEL_WARM_DONE: ten slots after power-up (R98). -/
def execChannelWarmDone (s : State) : Host.Outcome State Fault Refusal :=
  finish (s.core State.warmDone)

/-- SLICE_SWAP: shadow slices take their positions at the tick to come (R109). -/
def execSliceSwap (s : State) : Host.Outcome State Fault Refusal :=
  finish (s.tickRow (s.classDue 1) fun s => s.classTick 1 11200)

/-- APD_BOOST_PERIOD: a switching period of the boost with the readings of the slot (R111). -/
def execApdBoostPeriod (hv : Nat) (meas : List Nat) (imeas : List Nat) (s : State) : Host.Outcome State Fault Refusal :=
  finish (s.core fun s => s.boostPeriod hv meas imeas)

/-- APD_HV_OVERVOLTAGE: APD_HV in 10 mV (R111). -/
def execApdHvOvervoltage (hv : Nat) (s : State) : Host.Outcome State Fault Refusal :=
  finish (s.core fun s => s.boostOver hv)

/-- APD_EVALUATE: the evaluation of every 500th tick (R113). -/
def execApdEvaluate (s : State) : Host.Outcome State Fault Refusal :=
  finish (s.core State.apdEvaluate)

/-- APD_BREAK_TIMEOUT: ten seconds of an unbroken break (R115). -/
def execApdBreakTimeout (z : Fin 4) (s : State) : Host.Outcome State Fault Refusal :=
  finish (s.core fun s => s.breakTimeout z)

/-- APD_TEMP_STALE: 100 ms without a fresh RTD0 result (R115). -/
def execApdTempStale (z : Fin 4) (s : State) : Host.Outcome State Fault Refusal :=
  finish (s.core fun s => s.tempStaleNow z)

/-- APD_ZONE_SETTLED: 100 µs within tolerance (R116). -/
def execApdZoneSettled (z : Fin 4) (s : State) : Host.Outcome State Fault Refusal :=
  finish (s.core fun s => s.zoneSettled z)

/-- APD_ZONE_FAULT: 1 ms in current limit (R117). -/
def execApdZoneFault (z : Fin 4) (s : State) : Host.Outcome State Fault Refusal :=
  finish (s.core fun s => s.zoneFault z)

/-- ENGINE_TAKEOVER: EE12 takes over at the tick to come (R144). -/
def execEngineTakeover (s : State) : Host.Outcome State Fault Refusal :=
  finish (s.tickRow (s.classDue 3) fun s => s.classTick 3 11200)

end Sys2Proof.Machine
end

