-- ==== Sys2Proof/Machine/Reference.lean ====
section
/-! DEFINITION. References, PLLs and clock outputs (chapter 12): one meaning for each command. -/

namespace Sys2Proof.Machine

/-- REFCLK_LOSS: REFCLK is absent (R314). -/
def execRefclkLoss (cc : Fin 2800) (s : State) : Host.Outcome State Fault Refusal :=
  finish (s.refLost cc)

/-- REFCLK_RETURN: REFCLK is present again (R314). -/
def execRefclkReturn (s : State) : Host.Outcome State Fault Refusal :=
  finish (s.refReturn)

/-- PLL_WINDOW_END: a window of PLL A, or of PLL B, ends with difference `d` (R318). -/
def execPllWindowEnd (b : Bool) (d : Int) (cc : Fin 2800) (s : State) : Host.Outcome State Fault Refusal :=
  finish (s.core fun s => s.pllWindowEnd b d cc)

/-- PLL_FAIL_TIMEOUT: 10 ms without lock (R319). -/
def execPllFailTimeout (b : Bool) (s : State) : Host.Outcome State Fault Refusal :=
  finish (s.core fun s => s.pllFailed b)

/-- CLKOUT_RECONFIG: an output takes its committed setting (R324). -/
def execClkoutReconfig (o : Fin 2) (s : State) : Host.Outcome State Fault Refusal :=
  finish (s.core fun s => s.clkReconfig o)

end Sys2Proof.Machine
end

