-- ==== Sys2Proof/Machine/SelfTests.lean ====
section
/-! DEFINITION. Self-tests, spares and test access (chapter 16): one meaning for each command. -/

namespace Sys2Proof.Machine

/-- LBIST: a BIST_CMD of kind 1 for a unit (R407). -/
def execLbist (u : Fin 16777216) (a : HostAt) (s : State) : Host.Outcome State Fault Refusal :=
  finish (s.hostWrite K.BIST_CMD (a.write 4 (1 * 2 ^ 28 + u)))

/-- MBIST: a BIST_CMD of kind 2 for a unit (R407). -/
def execMbist (u : Fin 16777216) (a : HostAt) (s : State) : Host.Outcome State Fault Refusal :=
  finish (s.hostWrite K.BIST_CMD (a.write 4 (2 * 2 ^ 28 + u)))

/-- ALOOP: a BIST_CMD of kind 3 for a unit (R407). -/
def execAloop (u : Fin 16777216) (a : HostAt) (s : State) : Host.Outcome State Fault Refusal :=
  finish (s.hostWrite K.BIST_CMD (a.write 4 (3 * 2 ^ 28 + u)))

/-- PRBS: a BIST_CMD of kind 4 for a unit (R407). -/
def execPrbs (u : Fin 16777216) (a : HostAt) (s : State) : Host.Outcome State Fault Refusal :=
  finish (s.hostWrite K.BIST_CMD (a.write 4 (4 * 2 ^ 28 + u)))

/-- FUSE_TEST: a BIST_CMD of kind 5 for a unit (R407). -/
def execFuseTest (u : Fin 16777216) (a : HostAt) (s : State) : Host.Outcome State Fault Refusal :=
  finish (s.hostWrite K.BIST_CMD (a.write 4 (5 * 2 ^ 28 + u)))

/-- BIST_HANDOVER_DONE: the spare serves (R408). -/
def execBistHandoverDone (s : State) : Host.Outcome State Fault Refusal :=
  finish (s.core State.bistHanded)

/-- BIST_SAVE_DONE: the region is saved (R409). -/
def execBistSaveDone (s : State) : Host.Outcome State Fault Refusal :=
  finish (s.core State.bistSaved)

/-- BIST_TEST_END: the test logic finishes (R410). -/
def execBistTestEnd (count : Nat) (countExp : Nat) (sig : Nat) (sigExp : Nat) (done : Bool) (s : State) : Host.Outcome State Fault Refusal :=
  finish (s.core fun s => s.bistEnd count countExp sig sigExp done)

/-- BIST_RESTORE_DONE: the region is restored (R409). -/
def execBistRestoreDone (s : State) : Host.Outcome State Fault Refusal :=
  finish (s.core State.bistRestored)

/-- BIST_ABORT: a write of 1 to BIST_ABORT (R411). -/
def execBistAbort (a : HostAt) (s : State) : Host.Outcome State Fault Refusal :=
  finish (s.hostWrite K.BIST_ABORT (a.write 1 1))

/-- UNIT_FAILURE: a unit is found failed (R417). -/
def execUnitFailure (u : Nat) (s : State) : Host.Outcome State Fault Refusal :=
  finish (s.core fun s => s.unitFail u)

/-- UNIT_RETIRE: a write of UNIT_RETIRE (R418). -/
def execUnitRetire (w : HostWrite) (s : State) : Host.Outcome State Fault Refusal :=
  finish (s.hostWrite K.UNIT_RETIRE w)

/-- UNIT_RETURN: a write of UNIT_RETURN (R421). -/
def execUnitReturn (w : HostWrite) (s : State) : Host.Outcome State Fault Refusal :=
  finish (s.hostWrite K.UNIT_RETURN w)

/-- SHADOW_PHASE_START: the shadow phase starts at the tick to come (R419). -/
def execShadowPhaseStart (s : State) : Host.Outcome State Fault Refusal :=
  finish (s.tickRow (s.spares.opStep == .wait) fun s => s.shadowStart 11200)

/-- SHADOW_PHASE_END: the shadow phase ends at the tick to come (R419). -/
def execShadowPhaseEnd (s : State) : Host.Outcome State Fault Refusal :=
  finish (s.tickRow (s.spares.opStep == .shadow) fun s => s.shadowEnd 11200)

/-- EXTEST: EXTEST: the chain samples the pins and drives what was shifted in (R414). -/
def execExtest (pins : List Bool) (outs : List Bool) (s : State) : Host.Outcome State Fault Refusal :=
  finish (s.powered fun s => s.tapTest 0 fun r => { r with chain := s.chainSample pins, preload := outs, pinsFromChain := true })

/-- SAMPLE_PRELOAD: SAMPLE/PRELOAD (R414). -/
def execSamplePreload (pins : List Bool) (outs : List Bool) (s : State) : Host.Outcome State Fault Refusal :=
  finish (s.powered fun s => s.tapSample pins outs)

/-- CLAMP: CLAMP (R414). -/
def execClamp (s : State) : Host.Outcome State Fault Refusal :=
  finish (s.powered fun s => s.tapTest 2 fun r => { r with bypass := true, pinsFromChain := true })

/-- HIGHZ: HIGHZ (R414). -/
def execHighz (s : State) : Host.Outcome State Fault Refusal :=
  finish (s.powered fun s => s.tapTest 3 fun r => { r with bypass := true, pinsHighZ := true })

/-- SCAN_ENTRY: SCAN_ENTRY (R415). -/
def execScanEntry (s : State) : Host.Outcome State Fault Refusal :=
  finish (s.powered State.scanEntry)

/-- BYPASS: BYPASS, or a code of no instruction (R414). -/
def execBypass (ir : Fin 16) (s : State) : Host.Outcome State Fault Refusal :=
  finish (s.powered fun s => s.tapBypass ir)

end Sys2Proof.Machine
end

