-- ==== Sys2Proof/Machine/Sensors.lean ====
section
/-! DEFINITION. The HK ADC and the charge amplifiers (chapter 13): one meaning for each command. -/

namespace Sys2Proof.Machine

/-- HK_TRIGGER: triggers of the tick reach the HK ADC (R334). -/
def execHkTrigger (s : State) : Host.Outcome State Fault Refusal :=
  finish (s.core State.hkTrigger)

/-- HK_TIMER_EXPIRE: the HK timer fires (R334). -/
def execHkTimerExpire (s : State) : Host.Outcome State Fault Refusal :=
  finish (s.core State.hkTimerExpire)

/-- HK_ENTRY: the sequencer takes its next entry (R332). -/
def execHkEntry (cc : Fin 2800) (s : State) : Host.Outcome State Fault Refusal :=
  finish (s.core fun s => s.hkEntry cc)

/-- HK_CONVERSION_DONE: a conversion ends (R332). -/
def execHkConversionDone (r : HkReading) (s : State) : Host.Outcome State Fault Refusal :=
  finish (s.core fun s => s.hkConversion r)

/-- SERVICE_CONVERSION: the conversion of LAS_VS, or of VIN (R335). -/
def execServiceConversion (las : Bool) (code : Int) (s : State) : Host.Outcome State Fault Refusal :=
  finish (s.core fun s => if las then s.lasService code else s.vinService code)

/-- HK_URGENT: a write of HK_URGENT (R338). -/
def execHkUrgent (w : HostWrite) (s : State) : Host.Outcome State Fault Refusal :=
  finish (s.hostWrite K.HK_URGENT w)

/-- URGENT_COMPLETE: the urgent conversion at the head of the queue ends (R339). -/
def execUrgentComplete (r : HkReading) (s : State) : Host.Outcome State Fault Refusal :=
  finish (s.core fun s => s.urgentComplete r)

/-- CA_SAMPLE: a sample of a charge amplifier, the `k`-th of its slot, with its energy check (R341, R380). -/
def execCaSample (amp : Fin 5) (k : Fin 4) (m : Int) (s : State) : Host.Outcome State Fault Refusal :=
  finish (s.core fun s => s.ampSample amp k m)

/-- CA_RANGE_CHANGE: a reset instant (R343). -/
def execCaRangeChange (amp : Fin 5) (s : State) : Host.Outcome State Fault Refusal :=
  finish (s.core fun s => s.caReset amp)

end Sys2Proof.Machine
end

