-- ==== Sys2Proof/Machine/Slots.lean ====
section
/-! DEFINITION. Slot timing (chapter 1): the slot tick, its return to the core clock, the records of a slot and the tags of the Field Store: one meaning for each command. -/

namespace Sys2Proof.Machine

/-- SLOT_TICK: the slot tick (R11 to R20). -/
def execSlotTick (i : TickInput) (s : State) : Host.Outcome State Fault Refusal :=
  finish (s.slotTick i)

/-- LOCKED_TICK_RESUME: the dividers restart for the next tick (R321). -/
def execLockedTickResume (s : State) : Host.Outcome State Fault Refusal :=
  finish (s.core State.tickResume)

/-- POINT_RECORD_HANDOVER: the records of the slot before the last go to the link (R13). -/
def execPointRecordHandover (s : State) : Host.Outcome State Fault Refusal :=
  finish (s.core State.handover)

/-- TAG_RETURN: the oldest transaction of a class completes (R24). -/
def execTagReturn (cls : Fin 4) (s : State) : Host.Outcome State Fault Refusal :=
  finish (s.core fun s => s.tagReturn cls)

end Sys2Proof.Machine
end

