-- ==== Sys2Proof/Machine/Starting.lean ====
section
/-! DEFINITION. Modes, BOOT and reset (chapter 18), with the rows that stand last in the table: one meaning for each command. -/

namespace Sys2Proof.Machine

/-- MODE_REQ: a write of MODE_REQ (R447). -/
def execModeReq (w : HostWrite) (s : State) : Host.Outcome State Fault Refusal :=
  finish (s.hostWrite K.MODE_REQ w)

/-- MODE_REQUEST_JUDGE: the request is judged at the tick to come (R448). -/
def execModeRequestJudge (s : State) : Host.Outcome State Fault Refusal :=
  finish (s.tickRow (s.modeSt.reqTicks == 1) fun s => s.judgeStep s.nextStamp)

/-- MODE_CHANGE_AT_FRAME: an accepted change takes effect at the frame boundary to come (R448). -/
def execModeChangeAtFrame (s : State) : Host.Outcome State Fault Refusal :=
  finish (s.tickRow (s.modeSt.frameWait.isSome && s.atFrameBoundary && !s.autoDue) fun s => s.frameChange s.nextStamp)

/-- BOOT_START: BOOT starts (R452). -/
def execBootStart (i : BootInput) (s : State) : Host.Outcome State Fault Refusal :=
  finish (s.bootStart i)

/-- BOOT_END: BOOT ends (R452). -/
def execBootEnd (s : State) : Host.Outcome State Fault Refusal :=
  finish (s.bootEnd)

/-- BOOT_EXIT_TICK: BOOT is left at the tick to come (R448). -/
def execBootExitTick (s : State) : Host.Outcome State Fault Refusal :=
  finish (s.tickRow s.bootExitDue fun s => s.bootExitStep s.nextStamp)

/-- SCRIPT_WRITE: a WRITE record (R457). -/
def execScriptWrite (cc : Fin 2800) (ecc : Ecc) (s : State) : Host.Outcome State Fault Refusal :=
  finish (s.scriptWrite cc ecc)

/-- SCRIPT_DOMAIN: a DOMAIN record (R457). -/
def execScriptDomain (cc : Fin 2800) (s : State) : Host.Outcome State Fault Refusal :=
  finish (s.scriptDomain cc)

/-- SCRIPT_COMMIT: a COMMIT record (R457). -/
def execScriptCommit (s : State) : Host.Outcome State Fault Refusal :=
  finish (s.scriptCommit)

/-- SCRIPT_WAIT: a WAIT record (R457). -/
def execScriptWait (s : State) : Host.Outcome State Fault Refusal :=
  finish (s.scriptWait)

/-- SCRIPT_WAIT_TIMEOUT: a WAIT record runs out of time (R457). -/
def execScriptWaitTimeout (s : State) : Host.Outcome State Fault Refusal :=
  finish (s.scriptTimeout)

/-- SCRIPT_END: the END record (R457). -/
def execScriptEnd (s : State) : Host.Outcome State Fault Refusal :=
  finish (s.scriptEnd)

/-- RESET_ASSERT: RESET_N low for 20 µs (R459). -/
def execResetAssert (s : State) : Host.Outcome State Fault Refusal :=
  finish (s.resetAssert)

/-- RESET_STUCK: RESET_N low for 2 s (R460). -/
def execResetStuck (s : State) : Host.Outcome State Fault Refusal :=
  finish (s.resetStuck)

/-- RESET_RELEASE: RESET_N high for 20 µs (R461). -/
def execResetRelease (s : State) : Host.Outcome State Fault Refusal :=
  finish (s.resetRelease)

/-- RET_LOG_CLEAR: a write of 1 to RET_LOG_CLEAR (R462). -/
def execRetLogClear (a : HostAt) (s : State) : Host.Outcome State Fault Refusal :=
  finish (s.hostWrite K.RET_LOG_CLEAR (a.write 1 1))

/-- RX_MARKER_INTERVAL: a marker position on a receive lane, its cc, the code groups since the last report and the eye (R248, R249, R256). -/
def execRxMarkerInterval (lane : Fin 2) (cc : Fin 2800) (g : List (BitVec 10)) (height : Rat) (width : Rat) (s : State) : Host.Outcome State Fault Refusal :=
  finish (s.core fun s => s.rxMarker lane cc g height width)

/-- TEST_EN_CHANGE: TEST_EN changes (R414). -/
def execTestEnChange (high : Bool) (s : State) : Host.Outcome State Fault Refusal :=
  finish (s.testEnChange high)

/-- TRST_N_ASSERT: TRST_N (R415). -/
def execTrstNAssert (s : State) : Host.Outcome State Fault Refusal :=
  finish (s.trst)

/-- CAN_FRAME_IGNORED: a frame that is ignored (R293). -/
def execCanFrameIgnored (m : Fin 2) (s : State) : Host.Outcome State Fault Refusal :=
  finish (s.core fun s => s.canIgnore m)

/-- HOLD_CIRCUIT_THRESHOLD: VIN crosses 3.0 V (R89). -/
def execHoldCircuitThreshold (above : Bool) (s : State) : Host.Outcome State Fault Refusal :=
  finish (s.holdCircuit above)

end Sys2Proof.Machine
end

