-- ==== Sys2Proof/Machine/Streamer.lean ====
section
/-! DEFINITION. The Streamer link (chapter 10): one meaning for each command. -/

namespace Sys2Proof.Machine

/-- LINK_START: the link enters TRAINING (R258). -/
def execLinkStart (s : State) : Host.Outcome State Fault Refusal :=
  finish (s.core State.linkStart)

/-- LINK_TRAINING_DONE: TRAINING ends (R258). -/
def execLinkTrainingDone (s : State) : Host.Outcome State Fault Refusal :=
  finish (s.core State.trainingDone)

/-- RX_LANE_ALIGNED: a receive lane has found COM at a symbol boundary (R251). -/
def execRxLaneAligned (b : LaneBoundary) (s : State) : Host.Outcome State Fault Refusal :=
  finish (s.core fun s => s.rxAligned b.lane b.boundary)

/-- RX_LANE_ALIGN_LOSS: a receive lane loses alignment, after the code groups `g` (R248, R251). -/
def execRxLaneAlignLoss (lane : Fin 2) (g : List (BitVec 10)) (s : State) : Host.Outcome State Fault Refusal :=
  finish (s.core fun s => s.rxAlignLoss lane g)

/-- MARKER_INTERVAL: an alignment marker (R250). -/
def execMarkerInterval (s : State) : Host.Outcome State Fault Refusal :=
  finish (s.core State.markerInterval)

/-- RX_BITSLIP: a write of RX_BITSLIP (R252). -/
def execRxBitslip (w : HostWrite) (s : State) : Host.Outcome State Fault Refusal :=
  finish (s.hostWrite K.RX_BITSLIP w)

/-- TX_BITSLIP: a write of 1 to TX_BITSLIP (R252). -/
def execTxBitslip (lane : Fin 9) (a : HostAt) (s : State) : Host.Outcome State Fault Refusal :=
  finish (s.hostWrite (K.TX_BITSLIP lane) (a.write 1 1))

/-- CAPABILITY_REPEAT: CAPABILITY is sent again (R258). -/
def execCapabilityRepeat (s : State) : Host.Outcome State Fault Refusal :=
  finish (s.core State.capRepeat)

/-- CAPABILITY: a host CAPABILITY packet (R259). -/
def execCapability (w0 : BitVec 64) (s : State) : Host.Outcome State Fault Refusal :=
  finish (s.core fun s => s.capabilityPacket w0.toNat)

/-- STR_CAP_TIMEOUT: no host CAPABILITY has come (R259). -/
def execStrCapTimeout (s : State) : Host.Outcome State Fault Refusal :=
  finish (s.core State.capTimeout)

/-- TX_TUNE_HOLD_END: a preset's hold ends (R254). -/
def execTxTuneHoldEnd (s : State) : Host.Outcome State Fault Refusal :=
  finish (s.core State.tuneHoldEnd)

/-- EFOM_REPORT: a host EFOM_REPORT packet (R255). -/
def execEfomReport (b : List Byte) (s : State) : Host.Outcome State Fault Refusal :=
  finish (s.core fun s => s.efomReport b)

/-- CREDIT: the entries of a host CREDIT packet (R271). -/
def execCredit (ws : List Nat) (s : State) : Host.Outcome State Fault Refusal :=
  finish (s.core fun s => s.creditPacket ws)

/-- SIDEBAND: a host SIDEBAND packet (R275). -/
def execSideband (seq : Nat) (cc : Fin 2800) (b : List Byte) (s : State) : Host.Outcome State Fault Refusal :=
  finish (s.core fun s => s.sidebandPacket seq cc b)

/-- LANE_NOTICE: a host LANE_NOTICE packet (R278). -/
def execLaneNotice (w0 : BitVec 64) (s : State) : Host.Outcome State Fault Refusal :=
  finish (s.core fun s => s.hostNotice w0.toNat)

/-- HOST_PACKET_INVALID: the oldest host packet that the receive lanes have brought is judged, and discarded where R265 says so; with none there, one that
R265 refuses is discarded. -/
def execHostPacketInvalid (s : State) : Host.Outcome State Fault Refusal :=
  finish (s.core State.hostPacketNext)

/-- ELECTRICAL_IDLE_ENTER: the lanes go idle (R257). -/
def execElectricalIdleEnter (s : State) : Host.Outcome State Fault Refusal :=
  finish (s.core State.idleEnter)

/-- ELECTRICAL_IDLE_EXIT: the lanes leave idle (R257). -/
def execElectricalIdleExit (s : State) : Host.Outcome State Fault Refusal :=
  finish (s.core State.idleExit)

/-- DECIMATED_PACKET_READY: a DECIMATED packet of a stream (R266). -/
def execDecimatedPacketReady (n : Fin 16) (s : State) : Host.Outcome State Fault Refusal :=
  finish (s.core fun s => s.decPacketReady n)

/-- RAW_PACKET_READY: a RAW packet of a stream (R266). -/
def execRawPacketReady (n : Fin 16) (s : State) : Host.Outcome State Fault Refusal :=
  finish (s.core fun s => s.rawReady n)

/-- PACKET_SENT: the packet on the lanes ends (R269). -/
def execPacketSent (s : State) : Host.Outcome State Fault Refusal :=
  finish (s.core State.packetSent)

/-- STATUS_PERIOD_EXPIRE: a periodic STATUS packet (R274). -/
def execStatusPeriodExpire (s : State) : Host.Outcome State Fault Refusal :=
  finish (s.core State.statusPeriod)

/-- STREAM_CREDIT_ADD: a write of STREAM_CREDIT_ADD (R271). -/
def execStreamCreditAdd (n : Fin 15) (w : HostWrite) (s : State) : Host.Outcome State Fault Refusal :=
  finish (s.hostWrite (K.STREAM_CREDIT_ADD n) w)

/-- LANE_RETIRE: a write of LANE_RETIRE (R276). -/
def execLaneRetire (w : HostWrite) (s : State) : Host.Outcome State Fault Refusal :=
  finish (s.hostWrite K.LANE_RETIRE w)

/-- LANE_MOVE: a lane's data moves after marker M (R276). -/
def execLaneMove (s : State) : Host.Outcome State Fault Refusal :=
  finish (s.core State.laneMove)

/-- LANE_RETURN: a write of LANE_RETURN (R277). -/
def execLaneReturn (w : HostWrite) (s : State) : Host.Outcome State Fault Refusal :=
  finish (s.hostWrite K.LANE_RETURN w)

/-- LANE_RETURN_ANNOUNCE: the move back is announced (R277). -/
def execLaneReturnAnnounce (s : State) : Host.Outcome State Fault Refusal :=
  finish (s.core State.returnAnnounce)

/-- LINK_FAULT_RECOVER: the link restarts after a receive loss (R260). -/
def execLinkFaultRecover (s : State) : Host.Outcome State Fault Refusal :=
  finish (s.core State.faultRecover)

end Sys2Proof.Machine
end

