-- ==== Sys2Proof/Machine/Triggers.lean ====
section
/-! DEFINITION. Triggers, capture and decimation (chapters 7 and 8): one meaning for each command. -/

namespace Sys2Proof.Machine

/-- COMPARATOR_CROSSING: the input of a comparator moves to a level, in ADC codes, with the TDC code and the sample that follows the crossing (R187, R188). -/
def execComparatorCrossing (ch : Fin 48) (input : Int) (code : Fin 128) (next : Fin 11201) (s : State) : Host.Outcome State Fault Refusal :=
  finish (s.core fun s => s.crossing ch input code next)

/-- TRIG_IN_EDGE: an edge on TRIG_IN, `held` ft after the one before (R189). -/
def execTrigInEdge (rising : Bool) (held : Nat) (code : Fin 128) (next : Fin 11201) (s : State) : Host.Outcome State Fault Refusal :=
  finish (s.core fun s => s.extEdge rising held code next)

/-- TRIG_TIMER_EXPIRE: the TIMER condition (R189). -/
def execTrigTimerExpire (s : State) : Host.Outcome State Fault Refusal :=
  finish (s.core State.timerExpire)

/-- TRIG_SOFT: a write of 1 to TRIG_SOFT (R189). -/
def execTrigSoft (a : HostAt) (s : State) : Host.Outcome State Fault Refusal :=
  finish (s.hostWrite K.TRIG_SOFT (a.write 1 1))

/-- TRIG_STAGE_TIMEOUT: a stage runs out of time in the present slot (R193). -/
def execTrigStageTimeout (s : State) : Host.Outcome State Fault Refusal :=
  finish (s.core State.stageEnds)

/-- TRIGGER_DECLARE: a trigger whose cc lies in the present slot is declared (R194). -/
def execTriggerDeclare (s : State) : Host.Outcome State Fault Refusal :=
  finish (s.core State.triggerNext)

/-- TRIG_OUT_PULSE_END: TRIG_OUT falls in pulse mode (R206). -/
def execTrigOutPulseEnd (s : State) : Host.Outcome State Fault Refusal :=
  finish (s.core State.trigOutEnd)

/-- SLOT_OUT_PULSE_END: SLOT_OUT falls (R207). -/
def execSlotOutPulseEnd (s : State) : Host.Outcome State Fault Refusal :=
  finish (s.core State.slotOutEnd)

/-- CAP_ARM: a write of 1 to CAP_CTRL (R196). -/
def execCapArm (a : HostAt) (s : State) : Host.Outcome State Fault Refusal :=
  finish (s.hostWrite K.CAP_CTRL (a.write 1 1))

/-- CAPTURE_ARM_TICK: capture is armed at the tick to come (R196). -/
def execCaptureArmTick (s : State) : Host.Outcome State Fault Refusal :=
  finish (s.tickRow (s.armDue && !s.cap.rearm) fun s => s.armTick 11200)

/-- CAP_STOP: a write of 2 to CAP_CTRL (R201). -/
def execCapStop (a : HostAt) (s : State) : Host.Outcome State Fault Refusal :=
  finish (s.hostWrite K.CAP_CTRL (a.write 1 2))

/-- CAPTURE_COMPLETE: sample T + POST is written (R201). -/
def execCaptureComplete (s : State) : Host.Outcome State Fault Refusal :=
  finish (s.core State.captureComplete)

/-- CAPTURE_OVERFLOW: staging is full, or draining is behind (R202). -/
def execCaptureOverflow (cc : Fin 2800) (s : State) : Host.Outcome State Fault Refusal :=
  finish (s.core fun s => (s.capReach cc).captureOverflow cc)

/-- CAPTURE_HEADER_WRITTEN: the header is written (R205). -/
def execCaptureHeaderWritten (cc : Fin 2800) (ecc : Ecc) (s : State) : Host.Outcome State Fault Refusal :=
  finish (s.core fun s => s.headerIssue cc ecc)

/-- CAPTURE_REARM: re-arm at the tick to come (R201). -/
def execCaptureRearm (s : State) : Host.Outcome State Fault Refusal :=
  finish (s.tickRow (s.armDue && s.cap.rearm) fun s => s.armTick 11200)

/-- CAP_DRAINED_WRITE: a write of CAP_DRAINED (R202). -/
def execCapDrainedWrite (w : HostWrite) (s : State) : Host.Outcome State Fault Refusal :=
  finish (s.hostWrite K.CAP_DRAINED w)

/-- DECIMATION_INSTANT: the next word of a channel (R211). -/
def execDecimationInstant (ch : Fin 48) (s : State) : Host.Outcome State Fault Refusal :=
  finish (s.core fun s => s.decInstant ch)

/-- SYNC_IN_EDGE: an edge on SYNC_IN (R214). -/
def execSyncInEdge (rising : Bool) (cc : Fin 2800) (s : State) : Host.Outcome State Fault Refusal :=
  finish (s.core fun s => s.syncEdge rising cc)

/-- DEC_SYNC: a write of 1 to DEC_SYNC (R215). -/
def execDecSync (a : HostAt) (s : State) : Host.Outcome State Fault Refusal :=
  finish (s.hostWrite K.DEC_SYNC (a.write 1 1))

/-- DECIMATOR_RESET: the reset sample of an accepted edge (R213). -/
def execDecimatorReset (s : State) : Host.Outcome State Fault Refusal :=
  finish (s.core State.decResetDue)

end Sys2Proof.Machine
end

