-- ==== Sys2Proof/Machine/Trimming.lean ====
section
/-! DEFINITION. Calibration (chapter 14): one meaning for each command. -/

namespace Sys2Proof.Machine

/-- CAL_PERIOD_END: the period ends at the tick to come (R359). -/
def execCalPeriodEnd (s : State) : Host.Outcome State Fault Refusal :=
  finish (s.tickRow s.calPeriodDue State.calFrame)

/-- CAL_SNAP: a write of 1 to CAL_SNAP (R366). -/
def execCalSnap (a : HostAt) (s : State) : Host.Outcome State Fault Refusal :=
  finish (s.hostWrite K.CAL_SNAP (a.write 1 1))

/-- CAL_SNAPSHOT_TICK: the values of the tick just passed are captured (R366). -/
def execCalSnapshotTick (s : State) : Host.Outcome State Fault Refusal :=
  finish (s.core State.snapTake)

/-- CAL_SNAP_WRITTEN: the snapshot is in CAL_IMAGE (R366). -/
def execCalSnapWritten (s : State) : Host.Outcome State Fault Refusal :=
  finish (s.core State.snapWritten)

/-- CAL_IMAGE_WRITE: a write of CAL_IMAGE (R367). -/
def execCalImageWrite (w : HostWrite) (s : State) : Host.Outcome State Fault Refusal :=
  finish (s.hostDomain K.CAL_IMAGE w)

/-- CAL_IMAGE_APPLY: the image is in force from the tick to come (R368). -/
def execCalImageApply (s : State) : Host.Outcome State Fault Refusal :=
  finish (s.tickRow (s.cal.applyTicks == 1) State.imageApply)

end Sys2Proof.Machine
end

