-- ==== Sys2Proof/Machine/Words.lean ====
section
/-! DEFINITION. The operation words of a plan (R32 to R45): the word at Comet's address, once the tick to come has done what precedes it: one meaning for each command. -/

namespace Sys2Proof.Machine

/-- FRAME: FRAME (R42). -/
def execFrame (s : State) : Host.Outcome State Fault Refusal :=
  finish (s.wordRow 0x01 fun s => s.wordFrame)

/-- SLOT: SLOT (R35). -/
def execSlot (s : State) : Host.Outcome State Fault Refusal :=
  finish (s.wordRow 0x02 fun s => s.wordSlots .slot)

/-- FIRE: FIRE (R35). -/
def execFire (s : State) : Host.Outcome State Fault Refusal :=
  finish (s.wordRow 0x03 fun s => s.wordFire)

/-- SINGLE: SINGLE (R134). -/
def execSingle (s : State) : Host.Outcome State Fault Refusal :=
  finish (s.wordRow 0x04 fun s => s.wordSingle)

/-- ACCUM: ACCUM (R40). -/
def execAccum (s : State) : Host.Outcome State Fault Refusal :=
  finish (s.wordRow 0x05 fun s => s.wordAccum)

/-- EMIT: EMIT (R38). -/
def execEmit (s : State) : Host.Outcome State Fault Refusal :=
  finish (s.wordRow 0x06 fun s => s.wordEmit)

/-- CALGAP: CALGAP (R37). -/
def execCalgap (s : State) : Host.Outcome State Fault Refusal :=
  finish (s.wordRow 0x07 fun s => s.wordSlots .calgap)

/-- TESTGAP: TESTGAP (R37). -/
def execTestgap (s : State) : Host.Outcome State Fault Refusal :=
  finish (s.wordRow 0x08 fun s => s.wordSlots .testgap)

/-- IDLE: IDLE (R37). -/
def execIdle (s : State) : Host.Outcome State Fault Refusal :=
  finish (s.wordRow 0x09 fun s => s.wordSlots .idle)

/-- MARK: the next MARK event of the present slot, else the MARK word (R36, R45). -/
def execMark (s : State) : Host.Outcome State Fault Refusal :=
  finish (if s.pipe.cur.marks.isEmpty then s.wordRow 0x0A State.wordMark else s.markIssue)

/-- LOOP: LOOP (R43). -/
def execLoop (s : State) : Host.Outcome State Fault Refusal :=
  finish (s.wordRow 0x0B fun s => s.wordLoop)

/-- ENDLOOP: ENDLOOP (R43). -/
def execEndloop (s : State) : Host.Outcome State Fault Refusal :=
  finish (s.wordRow 0x0C fun s => s.wordEndloop)

/-- WAITLOCK: WAITLOCK (R41). -/
def execWaitlock (s : State) : Host.Outcome State Fault Refusal :=
  finish (s.wordRow 0x0D fun s => s.wordWaitlock)

/-- WAITLOCK_RELEASE: fire is released at the tick to come (R41). -/
def execWaitlockRelease (s : State) : Host.Outcome State Fault Refusal :=
  finish (s.tickRow (s.comet.running && !s.comet.released) State.waitRelease)

/-- JUMP: JUMP (R44). -/
def execJump (s : State) : Host.Outcome State Fault Refusal :=
  finish (s.wordRow 0x0E fun s => s.wordJump)

end Sys2Proof.Machine
end

