-- ==== Sys2Proof/Machine/Dispatch.lean ====
section
/-! DEFINITION. The meaning of every command: one arm for each constructor. -/

namespace Sys2Proof.Machine

/-- What a command does to everything but the queue. -/
def exec (i : Instr) (s : State) : Host.Outcome State Fault Refusal :=
  match i with
  | .slotTick i0 => Sys2Proof.Machine.execSlotTick i0 s
  | .lockedTickResume => Sys2Proof.Machine.execLockedTickResume s
  | .pointRecordHandover => Sys2Proof.Machine.execPointRecordHandover s
  | .tagReturn cls => Sys2Proof.Machine.execTagReturn cls s
  | .pendingPlanWrite w => Sys2Proof.Machine.execPendingPlanWrite w s
  | .pendingTableWrite n w => Sys2Proof.Machine.execPendingTableWrite n w s
  | .planCheck a => Sys2Proof.Machine.execPlanCheck a s
  | .planCheckComplete => Sys2Proof.Machine.execPlanCheckComplete s
  | .planSwapRequest a => Sys2Proof.Machine.execPlanSwapRequest a s
  | .planSwapCancel a => Sys2Proof.Machine.execPlanSwapCancel a s
  | .ditherTableReady cc => Sys2Proof.Machine.execDitherTableReady cc s
  | .planSwapTick => Sys2Proof.Machine.execPlanSwapTick s
  | .frame => Sys2Proof.Machine.execFrame s
  | .slot => Sys2Proof.Machine.execSlot s
  | .fire => Sys2Proof.Machine.execFire s
  | .single => Sys2Proof.Machine.execSingle s
  | .accum => Sys2Proof.Machine.execAccum s
  | .emit => Sys2Proof.Machine.execEmit s
  | .calgap => Sys2Proof.Machine.execCalgap s
  | .testgap => Sys2Proof.Machine.execTestgap s
  | .idle => Sys2Proof.Machine.execIdle s
  | .mark => Sys2Proof.Machine.execMark s
  | .loop => Sys2Proof.Machine.execLoop s
  | .endloop => Sys2Proof.Machine.execEndloop s
  | .waitlock => Sys2Proof.Machine.execWaitlock s
  | .waitlockRelease => Sys2Proof.Machine.execWaitlockRelease s
  | .jump => Sys2Proof.Machine.execJump s
  | .fireEdge e => Sys2Proof.Machine.execFireEdge e s
  | .firePulseEnd e => Sys2Proof.Machine.execFirePulseEnd e s
  | .chargerPeriod sense => Sys2Proof.Machine.execChargerPeriod sense s
  | .reservoirBleedEnd => Sys2Proof.Machine.execReservoirBleedEnd s
  | .reservoirFault vlas => Sys2Proof.Machine.execReservoirFault vlas s
  | .chargerRestart => Sys2Proof.Machine.execChargerRestart s
  | .angleMeasured => Sys2Proof.Machine.execAngleMeasured s
  | .mirrorDriveApply => Sys2Proof.Machine.execMirrorDriveApply s
  | .solEdge i0 before after eBefore eAfter => Sys2Proof.Machine.execSolEdge i0 before after eBefore eAfter s
  | .solMarkMissing => Sys2Proof.Machine.execSolMarkMissing s
  | .channelWarmDone => Sys2Proof.Machine.execChannelWarmDone s
  | .sliceSwap => Sys2Proof.Machine.execSliceSwap s
  | .apdBoostPeriod hv meas imeas => Sys2Proof.Machine.execApdBoostPeriod hv meas imeas s
  | .apdHvOvervoltage hv => Sys2Proof.Machine.execApdHvOvervoltage hv s
  | .apdEvaluate => Sys2Proof.Machine.execApdEvaluate s
  | .apdBreakTimeout z => Sys2Proof.Machine.execApdBreakTimeout z s
  | .apdTempStale z => Sys2Proof.Machine.execApdTempStale z s
  | .apdZoneSettled z => Sys2Proof.Machine.execApdZoneSettled z s
  | .apdZoneFault z => Sys2Proof.Machine.execApdZoneFault z s
  | .engineTakeover => Sys2Proof.Machine.execEngineTakeover s
  | .spectrumComplete ch => Sys2Proof.Machine.execSpectrumComplete ch s
  | .spectrumEngineStart => Sys2Proof.Machine.execSpectrumEngineStart s
  | .maskvAssert ch => Sys2Proof.Machine.execMaskvAssert ch s
  | .maskvExpire ch => Sys2Proof.Machine.execMaskvExpire ch s
  | .densitySwap ch => Sys2Proof.Machine.execDensitySwap ch s
  | .densityInitDone ch e => Sys2Proof.Machine.execDensityInitDone ch e s
  | .pipelineTakeover => Sys2Proof.Machine.execPipelineTakeover s
  | .comparatorCrossing ch input code next => Sys2Proof.Machine.execComparatorCrossing ch input code next s
  | .trigInEdge rising held code next => Sys2Proof.Machine.execTrigInEdge rising held code next s
  | .trigTimerExpire => Sys2Proof.Machine.execTrigTimerExpire s
  | .trigSoft a => Sys2Proof.Machine.execTrigSoft a s
  | .trigStageTimeout => Sys2Proof.Machine.execTrigStageTimeout s
  | .triggerDeclare => Sys2Proof.Machine.execTriggerDeclare s
  | .trigOutPulseEnd => Sys2Proof.Machine.execTrigOutPulseEnd s
  | .slotOutPulseEnd => Sys2Proof.Machine.execSlotOutPulseEnd s
  | .capArm a => Sys2Proof.Machine.execCapArm a s
  | .captureArmTick => Sys2Proof.Machine.execCaptureArmTick s
  | .capStop a => Sys2Proof.Machine.execCapStop a s
  | .captureComplete => Sys2Proof.Machine.execCaptureComplete s
  | .captureOverflow cc => Sys2Proof.Machine.execCaptureOverflow cc s
  | .captureHeaderWritten cc ecc => Sys2Proof.Machine.execCaptureHeaderWritten cc ecc s
  | .captureRearm => Sys2Proof.Machine.execCaptureRearm s
  | .capDrainedWrite w => Sys2Proof.Machine.execCapDrainedWrite w s
  | .decimationInstant ch => Sys2Proof.Machine.execDecimationInstant ch s
  | .syncInEdge rising cc => Sys2Proof.Machine.execSyncInEdge rising cc s
  | .decSync a => Sys2Proof.Machine.execDecSync a s
  | .decimatorReset => Sys2Proof.Machine.execDecimatorReset s
  | .granuleIssue bank cc ecc => Sys2Proof.Machine.execGranuleIssue bank cc ecc s
  | .scrubRow cc found => Sys2Proof.Machine.execScrubRow cc found s
  | .asMapWrite space w => Sys2Proof.Machine.execAsMapWrite space w s
  | .mapEdit w => Sys2Proof.Machine.execMapEdit w s
  | .mapEditDone => Sys2Proof.Machine.execMapEditDone s
  | .faultClear a => Sys2Proof.Machine.execFaultClear a s
  | .dmaStart e a => Sys2Proof.Machine.execDmaStart e a s
  | .dmaAbort e a => Sys2Proof.Machine.execDmaAbort e a s
  | .dmaResume e a => Sys2Proof.Machine.execDmaResume e a s
  | .dmaStop e a => Sys2Proof.Machine.execDmaStop e a s
  | .dmaFsToStreamer e cc ecc => Sys2Proof.Machine.execDmaFsToStreamer e cc ecc s
  | .dmaFsToQspi e cc ecc => Sys2Proof.Machine.execDmaFsToQspi e cc ecc s
  | .dmaQspiToFs e cc ecc => Sys2Proof.Machine.execDmaQspiToFs e cc ecc s
  | .dmaCompletion e cc ecc => Sys2Proof.Machine.execDmaCompletion e cc ecc s
  | .dmaContinue e cc ecc => Sys2Proof.Machine.execDmaContinue e cc ecc s
  | .bankRetire w => Sys2Proof.Machine.execBankRetire w s
  | .bankCopyDone e => Sys2Proof.Machine.execBankCopyDone e s
  | .bankMapSwitch => Sys2Proof.Machine.execBankMapSwitch s
  | .bankRetireDrained => Sys2Proof.Machine.execBankRetireDrained s
  | .bankCopyFailed => Sys2Proof.Machine.execBankCopyFailed s
  | .linkStart => Sys2Proof.Machine.execLinkStart s
  | .linkTrainingDone => Sys2Proof.Machine.execLinkTrainingDone s
  | .rxLaneAligned b => Sys2Proof.Machine.execRxLaneAligned b s
  | .rxLaneAlignLoss lane g => Sys2Proof.Machine.execRxLaneAlignLoss lane g s
  | .markerInterval => Sys2Proof.Machine.execMarkerInterval s
  | .rxBitslip w => Sys2Proof.Machine.execRxBitslip w s
  | .txBitslip lane a => Sys2Proof.Machine.execTxBitslip lane a s
  | .capabilityRepeat => Sys2Proof.Machine.execCapabilityRepeat s
  | .capability w0 => Sys2Proof.Machine.execCapability w0 s
  | .strCapTimeout => Sys2Proof.Machine.execStrCapTimeout s
  | .txTuneHoldEnd => Sys2Proof.Machine.execTxTuneHoldEnd s
  | .efomReport b => Sys2Proof.Machine.execEfomReport b s
  | .credit ws => Sys2Proof.Machine.execCredit ws s
  | .sideband seq cc b => Sys2Proof.Machine.execSideband seq cc b s
  | .laneNotice w0 => Sys2Proof.Machine.execLaneNotice w0 s
  | .hostPacketInvalid => Sys2Proof.Machine.execHostPacketInvalid s
  | .electricalIdleEnter => Sys2Proof.Machine.execElectricalIdleEnter s
  | .electricalIdleExit => Sys2Proof.Machine.execElectricalIdleExit s
  | .decimatedPacketReady n => Sys2Proof.Machine.execDecimatedPacketReady n s
  | .rawPacketReady n => Sys2Proof.Machine.execRawPacketReady n s
  | .packetSent => Sys2Proof.Machine.execPacketSent s
  | .statusPeriodExpire => Sys2Proof.Machine.execStatusPeriodExpire s
  | .streamCreditAdd n w => Sys2Proof.Machine.execStreamCreditAdd n w s
  | .laneRetire w => Sys2Proof.Machine.execLaneRetire w s
  | .laneMove => Sys2Proof.Machine.execLaneMove s
  | .laneReturn w => Sys2Proof.Machine.execLaneReturn w s
  | .laneReturnAnnounce => Sys2Proof.Machine.execLaneReturnAnnounce s
  | .linkFaultRecover => Sys2Proof.Machine.execLinkFaultRecover s
  | .read q => Sys2Proof.Machine.execRead q s
  | .write q => Sys2Proof.Machine.execWrite q s
  | .dread q => Sys2Proof.Machine.execDread q s
  | .dwrite q => Sys2Proof.Machine.execDwrite q s
  | .connect q => Sys2Proof.Machine.execConnect q s
  | .abort q => Sys2Proof.Machine.execAbort q s
  | .objectWrite key w => Sys2Proof.Machine.execObjectWrite key w s
  | .commit w => Sys2Proof.Machine.execCommit w s
  | .commitCheckDone cc => Sys2Proof.Machine.execCommitCheckDone cc s
  | .commitActivate => Sys2Proof.Machine.execCommitActivate s
  | .discard w => Sys2Proof.Machine.execDiscard w s
  | .canBusOff m e => Sys2Proof.Machine.execCanBusOff m e s
  | .canSettingsApply m => Sys2Proof.Machine.execCanSettingsApply m s
  | .canStatusFrame m => Sys2Proof.Machine.execCanStatusFrame m s
  | .qspiRead addr n => Sys2Proof.Machine.execQspiRead addr n s
  | .wread addr n => Sys2Proof.Machine.execWread addr n s
  | .qspiWrite addr b => Sys2Proof.Machine.execQspiWrite addr b s
  | .qspiStatus => Sys2Proof.Machine.execQspiStatus s
  | .qspiUnknownCommand => Sys2Proof.Machine.execQspiUnknownCommand s
  | .qspiMirrorWriteApply cc ecc => Sys2Proof.Machine.execQspiMirrorWriteApply cc ecc s
  | .qdomSel w => Sys2Proof.Machine.execQdomSel w s
  | .qdomWriteLen w => Sys2Proof.Machine.execQdomWriteLen w s
  | .qdomWriteDone cc => Sys2Proof.Machine.execQdomWriteDone cc s
  | .qspiDictVer w => Sys2Proof.Machine.execQspiDictVer w s
  | .sealProgram a => Sys2Proof.Machine.execSealProgram a s
  | .sealProgramDone rows => Sys2Proof.Machine.execSealProgramDone rows s
  | .degAck a => Sys2Proof.Machine.execDegAck a s
  | .retireBurn a => Sys2Proof.Machine.execRetireBurn a s
  | .retireBurnDone verified => Sys2Proof.Machine.execRetireBurnDone verified s
  | .authLockoutEnd => Sys2Proof.Machine.execAuthLockoutEnd s
  | .pennantClear w => Sys2Proof.Machine.execPennantClear w s
  | .irqAck w => Sys2Proof.Machine.execIrqAck w s
  | .refclkLoss cc => Sys2Proof.Machine.execRefclkLoss cc s
  | .refclkReturn => Sys2Proof.Machine.execRefclkReturn s
  | .pllWindowEnd b d cc => Sys2Proof.Machine.execPllWindowEnd b d cc s
  | .pllFailTimeout b => Sys2Proof.Machine.execPllFailTimeout b s
  | .clkoutReconfig o => Sys2Proof.Machine.execClkoutReconfig o s
  | .hkTrigger => Sys2Proof.Machine.execHkTrigger s
  | .hkTimerExpire => Sys2Proof.Machine.execHkTimerExpire s
  | .hkEntry cc => Sys2Proof.Machine.execHkEntry cc s
  | .hkConversionDone r => Sys2Proof.Machine.execHkConversionDone r s
  | .serviceConversion las code => Sys2Proof.Machine.execServiceConversion las code s
  | .hkUrgent w => Sys2Proof.Machine.execHkUrgent w s
  | .urgentComplete r => Sys2Proof.Machine.execUrgentComplete r s
  | .caSample amp k m => Sys2Proof.Machine.execCaSample amp k m s
  | .caRangeChange amp => Sys2Proof.Machine.execCaRangeChange amp s
  | .calPeriodEnd => Sys2Proof.Machine.execCalPeriodEnd s
  | .calSnap a => Sys2Proof.Machine.execCalSnap a s
  | .calSnapshotTick => Sys2Proof.Machine.execCalSnapshotTick s
  | .calSnapWritten => Sys2Proof.Machine.execCalSnapWritten s
  | .calImageWrite w => Sys2Proof.Machine.execCalImageWrite w s
  | .calImageApply => Sys2Proof.Machine.execCalImageApply s
  | .ensignBinStep => Sys2Proof.Machine.execEnsignBinStep s
  | .safeHoldEntry => Sys2Proof.Machine.execSafeHoldEntry s
  | .inhibitFall => Sys2Proof.Machine.execInhibitFall s
  | .inhibitRelease => Sys2Proof.Machine.execInhibitRelease s
  | .permitFeedbackFault b level => Sys2Proof.Machine.execPermitFeedbackFault b level s
  | .permitTestStart => Sys2Proof.Machine.execPermitTestStart s
  | .permitTestEnd pass => Sys2Proof.Machine.execPermitTestEnd pass s
  | .forcedTestDue => Sys2Proof.Machine.execForcedTestDue s
  | .ensignUrgentRequest => Sys2Proof.Machine.execEnsignUrgentRequest s
  | .ensignUrgentTimeout => Sys2Proof.Machine.execEnsignUrgentTimeout s
  | .sealCrcCheck upset => Sys2Proof.Machine.execSealCrcCheck upset s
  | .strapRead ohms => Sys2Proof.Machine.execStrapRead ohms s
  | .degradedEntry => Sys2Proof.Machine.execDegradedEntry s
  | .degBudgetSpent => Sys2Proof.Machine.execDegBudgetSpent s
  | .degCleanReached => Sys2Proof.Machine.execDegCleanReached s
  | .degradedReturn => Sys2Proof.Machine.execDegradedReturn s
  | .lbist u a => Sys2Proof.Machine.execLbist u a s
  | .mbist u a => Sys2Proof.Machine.execMbist u a s
  | .aloop u a => Sys2Proof.Machine.execAloop u a s
  | .prbs u a => Sys2Proof.Machine.execPrbs u a s
  | .fuseTest u a => Sys2Proof.Machine.execFuseTest u a s
  | .bistHandoverDone => Sys2Proof.Machine.execBistHandoverDone s
  | .bistSaveDone => Sys2Proof.Machine.execBistSaveDone s
  | .bistTestEnd count countExp sig sigExp done => Sys2Proof.Machine.execBistTestEnd count countExp sig sigExp done s
  | .bistRestoreDone => Sys2Proof.Machine.execBistRestoreDone s
  | .bistAbort a => Sys2Proof.Machine.execBistAbort a s
  | .unitFailure u => Sys2Proof.Machine.execUnitFailure u s
  | .unitRetire w => Sys2Proof.Machine.execUnitRetire w s
  | .unitReturn w => Sys2Proof.Machine.execUnitReturn w s
  | .shadowPhaseStart => Sys2Proof.Machine.execShadowPhaseStart s
  | .shadowPhaseEnd => Sys2Proof.Machine.execShadowPhaseEnd s
  | .extest pins outs => Sys2Proof.Machine.execExtest pins outs s
  | .samplePreload pins outs => Sys2Proof.Machine.execSamplePreload pins outs s
  | .clamp => Sys2Proof.Machine.execClamp s
  | .highz => Sys2Proof.Machine.execHighz s
  | .scanEntry => Sys2Proof.Machine.execScanEntry s
  | .bypass ir => Sys2Proof.Machine.execBypass ir s
  | .vaoStart => Sys2Proof.Machine.execVaoStart s
  | .aoRelease => Sys2Proof.Machine.execAoRelease s
  | .vinPor => Sys2Proof.Machine.execVinPor s
  | .railStart => Sys2Proof.Machine.execRailStart s
  | .railPowerGood => Sys2Proof.Machine.execRailPowerGood s
  | .railFault rail cause => Sys2Proof.Machine.execRailFault rail cause s
  | .railRestart => Sys2Proof.Machine.execRailRestart s
  | .shedDeclare level cc => Sys2Proof.Machine.execShedDeclare level cc s
  | .shedClear level cc => Sys2Proof.Machine.execShedClear level cc s
  | .ovDeclare cc => Sys2Proof.Machine.execOvDeclare cc s
  | .ovClear cc => Sys2Proof.Machine.execOvClear cc s
  | .vinMinmaxClr a => Sys2Proof.Machine.execVinMinmaxClr a s
  | .tsReading codes => Sys2Proof.Machine.execTsReading codes s
  | .tsBreak i0 => Sys2Proof.Machine.execTsBreak i0 s
  | .tsDisagreeChange z => Sys2Proof.Machine.execTsDisagreeChange z s
  | .throttleStepUp => Sys2Proof.Machine.execThrottleStepUp s
  | .throttleStepDown => Sys2Proof.Machine.execThrottleStepDown s
  | .modeReq w => Sys2Proof.Machine.execModeReq w s
  | .modeRequestJudge => Sys2Proof.Machine.execModeRequestJudge s
  | .modeChangeAtFrame => Sys2Proof.Machine.execModeChangeAtFrame s
  | .bootStart i0 => Sys2Proof.Machine.execBootStart i0 s
  | .bootEnd => Sys2Proof.Machine.execBootEnd s
  | .bootExitTick => Sys2Proof.Machine.execBootExitTick s
  | .scriptWrite cc ecc => Sys2Proof.Machine.execScriptWrite cc ecc s
  | .scriptDomain cc => Sys2Proof.Machine.execScriptDomain cc s
  | .scriptCommit => Sys2Proof.Machine.execScriptCommit s
  | .scriptWait => Sys2Proof.Machine.execScriptWait s
  | .scriptWaitTimeout => Sys2Proof.Machine.execScriptWaitTimeout s
  | .scriptEnd => Sys2Proof.Machine.execScriptEnd s
  | .resetAssert => Sys2Proof.Machine.execResetAssert s
  | .resetStuck => Sys2Proof.Machine.execResetStuck s
  | .resetRelease => Sys2Proof.Machine.execResetRelease s
  | .retLogClear a => Sys2Proof.Machine.execRetLogClear a s
  | .rxMarkerInterval lane cc g height width => Sys2Proof.Machine.execRxMarkerInterval lane cc g height width s
  | .testEnChange high => Sys2Proof.Machine.execTestEnChange high s
  | .trstNAssert => Sys2Proof.Machine.execTrstNAssert s
  | .canFrameIgnored m => Sys2Proof.Machine.execCanFrameIgnored m s
  | .holdCircuitThreshold above => Sys2Proof.Machine.execHoldCircuitThreshold above s

end Sys2Proof.Machine
end

