-- ==== Sys2Proof/Safety.lean ====
section
/-! DEFINITION. What the invariants and the hypotheses of the statements say of a state. -/

namespace Sys2Proof.Machine

/-- The dictionary answers, the version in force on the path serves object `k`, and the mode is one the object may be written in. -/
def State.mayWrite (s : State) (p : Path) (k : Nat) : Bool := s.answers && s.serves p k && (objRow? k).any fun r => r.modes.holds s.mode

/-- The dictionary answers, and a write of a register without a shadow passes every check of R281 and R282. -/
def State.accepts (s : State) (k : Nat) (w : HostWrite) : Bool :=
  s.answers && s.serves w.path k && (objRow? k).any fun r => !r.isDomain && r.acc != .rwc && s.writeRefusal s.mode r k w.data == 0

/-- The state once what the present slot still brings by itself has happened, before the actions of the tick to come. -/
def State.atTick (s : State) : State := s.slotCatchUp.calFrame

/-- The word with operation `op` is Comet's turn now and still is when the present slot has ended, and a tick comes. -/
def State.wordReady (s : State) (op : Nat) : Bool := s.ticking && s.wordTurn op && s.atTick.wordTurn op

/-- The state with other fire commands in the present slot. -/
def State.withFires (s : State) (l : List FireCmd) : State := { s with pipe := { s.pipe with cur := { s.pipe.cur with fires := l } } }

/-- The trigger engine has judged its stage's entry, nothing is on its way to it, and no pulse of its timer comes up to cc `t`. -/
def State.trigQuiet (s : State) (t : Int) : Bool :=
  s.trg.arrivals.isEmpty && s.trg.live.isEmpty && decide (0 ≤ s.trg.clock) && decide (s.trg.prog.entered ≤ s.trg.clock) && decide (t < s.trg.timerNext)

/-- Every register outside a list of keys has the same value in two states. -/
def State.keeps (s t : State) (ks : List Nat) : Prop := ∀ k, k ∉ ks → t.reg k = s.reg k

/-- Neither permit is driven on where a condition of R384 fails. -/
def State.permitsSafe (s : State) : Bool := s.permitCond || (!s.ensB.permitA && !s.ensB.permitB)

/-- The memory of the Field Store keeps its canonical form. -/
def State.memoryWf (s : State) : Bool := Memory.wf s.fs.mem

/-- The mirror is driven only where R86 and R89 allow it. -/
def State.driveSafe (s : State) : Bool := s.driveAllowed || !s.mir.driveOn

/-- The reservoir charger regulates only where R81 allows it. -/
def State.chargerSafe (s : State) : Bool := s.resAllowed || !s.res.runs

/-- No APD zone is biased where R118 forbids it. -/
def State.biasSafe (s : State) : Bool := (List.range 4).all fun z => !(s.zone z).biased || s.biasAllowed z

/-- TRIG_OUT and SLOT_OUT are low outside the modes of R196. -/
def State.outsSafe (s : State) : Bool := s.capMode || (!s.trg.out && !s.trg.slotOut)

/-- The Streamer link is off while it is not enabled (R258). -/
def State.linkSafe (s : State) : Bool := s.linkEnabled || s.reg K.STR_STATE == 0

/-- Every output that modes, shed levels and Ensign gate is off where its rule forbids it. -/
def State.outputsSafe (s : State) : Bool := s.permitsSafe && s.driveSafe && s.chargerSafe && s.biasSafe && s.outsSafe && s.linkSafe

/-- The registers that bring the outputs up to date: what shows the state of an output that a gate turns off or lets start. -/
def gateKeys : List Nat :=
  [K.TP_VOID, K.TP_PASS, K.TP_NEXT, K.TAKEOVERS, K.MIR_STATE, K.DRIVE_NOW, K.RES_STATE, K.STR_STATE, K.STR_FAULT, K.LINK_VER, K.PKT_VER, K.RX_ALIGN 0, K.RX_ALIGN 1, K.SUSPENDS, K.IRQ_CAUSE]
    ++ (List.range 8).map K.LANE_MAP ++ (List.range 4).map K.APD_STATE ++ (List.range 15).map K.CREDIT ++ (List.range 15).map K.STREAM_STATE ++ (List.range 16).map (ofStream K.STREAM_DROPPED)

end Sys2Proof.Machine
end

