-- ==== Sys2Proof/Certificates/Slice0/Obligations.lean ====
section
/-! DEFINITION. The statements for the provers. `exec c s = .next t.settle` says that the command completes in `t` after the outputs that follow the state have been
brought up to date (R309, R310, R384, R81, R86, R118, R258, R269), which `Obligations.SettlingFrame` bounds. -/

open Sys2Proof Sys2Proof.Machine

/-! ### Plans (chapter 2) -/

/-- R30, R46, R52: a write of PENDING_PLAN or of a pending table replaces it and CHECK_RESULT reads UNCHECKED; while a check runs or a swap is requested it is
refused as BUSY and nothing changes. R47, R51, R52: PLAN_CHECK starts the check of the pending bank, or is BUSY while a check runs or a swap is requested;
when the checker ends, CHECK_RESULT holds ACCEPTED or REFUSED with the code found, and the other result registers say where. The verdict: the first wrong header
field, CRC, operation word or field is refused under its code with its place (R31, R33, R34); an accepted plan has a right header, legal words, 1 to 8 frames of
256 slots or more of which the first is at word 8, jumps that reach a FRAME or go forward, and in every walked slot no more than 32 words and 2,800 cc of each
unit, tables for what it fires and no fire that Ensign's rules forbid (R32, R42, R44, R46, R48, R49); the walk refuses what runs past the plan or its frame and
notes the first modifier out of order (R36, R42, R44); a group that changes, crosses a frame or meets another kind of slot is refused (R40); of several
failures the first stage counts (R47); and warnings come with acceptance alone (R51). Where within a stage the first failure lies, and the EMASK of a slot
without a FIRE in a group, is the model's choice (log 48). -/
def Obligations.PendingBank : Prop :=
  ((∀ (s : State) (w : HostWrite), s.mayWrite w.path K.PENDING_PLAN = true → planLenOk w.data.length = true →
    (s.planHeld = false → exec (.pendingPlanWrite w) s = .next (noteDomain w.path (0,
      (s.setPlan { s.plan with pending := { s.plan.pending with plan := w.data } }).put K.CHECK_RESULT 0)).settle)
    ∧ (s.planHeld = true → exec (.pendingPlanWrite w) s = .next (noteDomain w.path (6, s)).settle))
  ∧ ∀ (s : State) (n : Fin 5) (w : HostWrite), s.mayWrite w.path (K.PENDING_TABLE n) = true → tableLenOk w.data.length = true →
    (s.planHeld = false → exec (.pendingTableWrite n w) s = .next (noteDomain w.path (0,
      (s.setPlan { s.plan with pending := { s.plan.pending with tables := setAt [] s.plan.pending.tables n w.data } }).put K.CHECK_RESULT 0)).settle)
    ∧ (s.planHeld = true → exec (.pendingTableWrite n w) s = .next (noteDomain w.path (6, s)).settle))
  ∧ ((∀ (s : State) (a : HostAt), s.mayWrite a.path K.PLAN_CHECK = true →
    (s.planHeld = false → exec (.planCheck a) s = .next (noteResult a.path (0, s.put K.CHECK_RESULT (2 ^ 24))).settle)
    ∧ (s.planHeld = true → exec (.planCheck a) s = .next (noteResult a.path (6, s)).settle))
  ∧ ∀ s : State, s.mode.coreRuns = true → s.checkState = 1 →
    let r := checkPlan s.plan.pending s.checkLimits s.activeNonce
    exec .planCheckComplete s = .next (((((s.put K.CHECK_RESULT ((if r.1.code = 0 then 2 else 3) * 2 ^ 24 + r.1.code)).put K.CHECK_WORD
      (r.1.word % 65536)).put K.CHECK_SLOT (r.1.frame % 8 * 65536 + r.1.slot % 65536)).put K.CHECK_DETAIL (r.1.detail % 65536)).put K.CHECK_WARN r.2).settle)
  ∧ (∀ (p : List Byte) (i : Nat), 8 * i + 8 ≤ p.length → wordAt (planWords p) i = fieldAt p (8 * i) 8)
  ∧ (∀ (b : PlanBank) (lim : CheckLimits) (n : Option Nat),
    let v := checkPlan b lim n
    let ws := planWords b.plan
    let h := wordAt ws
    let resv := fun i => if i = 0 then bits (h 0) 31 16 else if i = 1 then bits (h 1) 31 0 else if i = 3 ∨ i = 7 then bits (h i) 63 32 else h i
    let magic := bits (h 0) 63 48 = 0x434D ∧ bits (h 0) 47 32 = 0x0102
    let sized := 72 ≤ b.plan.length ∧ magic ∧ 9 ≤ bits (h 0) 15 0 ∧ bits (h 0) 15 0 * 8 = b.plan.length
    let planCrc := crc32 (b.plan.take 56 ++ b.plan.drop 64) = bits (h 7) 31 0
    let tableCrc := crc32 b.tables.flatten = bits (h 3) 31 0
    let good := sized ∧ (∀ i ∈ [0, 1, 3, 4, 5, 6, 7], resv i = 0) ∧ planCrc ∧ tableCrc
    (b.plan.length < 72 → v = ({ code := 1 }, 0))
    ∧ (72 ≤ b.plan.length → ¬magic → v = ({ code := 2 }, 0))
    ∧ (72 ≤ b.plan.length → magic → bits (h 0) 15 0 < 9 → v = ({ code := 1 }, 0))
    ∧ (72 ≤ b.plan.length → magic → 9 ≤ bits (h 0) 15 0 → bits (h 0) 15 0 * 8 ≠ b.plan.length → v = ({ code := 2 }, 0))
    ∧ (sized → ∀ i ∈ [0, 1, 3, 4, 5, 6, 7], resv i ≠ 0 → (∀ j ∈ [0, 1, 3, 4, 5, 6, 7], j < i → resv j = 0) → v = ({ code := 2, word := i }, 0))
    ∧ (sized → (∀ i ∈ [0, 1, 3, 4, 5, 6, 7], resv i = 0) → ¬planCrc → v = ({ code := 3, word := 7 }, 0))
    ∧ (sized → (∀ i ∈ [0, 1, 3, 4, 5, 6, 7], resv i = 0) → planCrc → ¬tableCrc → v = ({ code := 3, word := 3 }, 0))
    ∧ (good → ∀ a, 8 ≤ a → a < ws.size → (∀ i, 8 ≤ i → i < a → opcodeOk (h i) = true ∧ fieldOk (h i) = true) →
      (opcodeOk (h a) = false → v = ({ code := 4, word := a }, 0))
      ∧ (opcodeOk (h a) = true → fieldOk (h a) = false → v = ({ code := 5, word := a }, 0)))
    ∧ (good → (∀ a, 8 ≤ a → a < ws.size → opcodeOk (h a) = true ∧ fieldOk (h a) = true) → opOf (h 8) ≠ 1 → v = ({ code := 7, word := 8 }, 0))
    ∧ (v.1.code ≠ 0 → v.2 = 0)
    ∧ (v.1.code = 0 →
      let w := walkPlan ws walkFuel {}
      let cycle := w.cycle
      good ∧ (∀ a, 8 ≤ a → a < ws.size → opcodeOk (h a) = true ∧ fieldOk (h a) = true) ∧ opOf (h 8) = 1
      ∧ ((opAddrs ws).filter fun a => opOf (h a) == 1).length ≤ 8
      ∧ (∀ a ∈ opAddrs ws, opOf (h a) = 1 → 256 ≤ (frameFields (h a)).2.1)
      ∧ (∀ a ∈ opAddrs ws, opOf (h a) = 0x0E → bits (h a) 14 0 < ws.size ∧ (opOf (h (bits (h a) 14 0)) = 1 ∨ a < bits (h a) 14 0))
      ∧ w.fault = none ∧ w.order = none
      ∧ (∀ x ∈ w.pass, x.frameSlot < x.frameLen ∧ x.words ≤ 32 ∧ 8 * (x.frameSlot + 1) ≤ (b.tables.getD 3 []).length
        ∧ (x.emit.pts = true → lim.streamPoints.getD x.emit.stream false = true)
        ∧ ∀ e ∈ x.emitters, emitterOk b e = true ∧ fireRule b lim x e = none)
      ∧ (∀ x ∈ w.slots.reverse.zip (groupWalk w.slots.reverse {} []).2, ∀ y ∈ slotCharges b lim x.1 x.2, y.2.2 ≤ 2800)
      ∧ (bitAt v.2 1 = !cycle.any fun x => x.kind == .calgap) ∧ (bitAt v.2 2 = (n == some (h 2)))
      ∧ (bitAt v.2 3 = w.pass.any fun x => !x.emitters.isEmpty && dirOfSlope lim.vMin (slopeAt b x.frameLen x.frameSlot) == 0)
      ∧ ((∀ x ∈ cycle, x.kind ≠ .testgap) → bitAt v.2 0 = true))
    ∧ (textFault b = none →
      let w := walkPlan ws walkFuel {}
      let g := groupWalk w.slots.reverse {} []
      (∀ f, w.fault = some f → v = (f, 0))
      ∧ (w.fault = none → ∀ f, w.order = some f → v = (f, 0))
      ∧ (w.fault = none → w.order = none → ∀ f, g.1.fault = some f → v = (f, 0))
      ∧ (w.fault = none → w.order = none → g.1.fault = none → ∀ f, resourceFault b lim ws w.pass = some f → v = (f, 0))
      ∧ (w.fault = none → w.order = none → g.1.fault = none → resourceFault b lim ws w.pass = none →
        ∀ f, budgetStage b lim (w.slots.reverse.zip g.2) w.budgetWords = some f → v = (f, 0))))
  ∧ (∀ (ws : Array Nat) (w : Walk), let op := opOf (wordAt ws w.pc); let t := w.word ws
    (ws.size ≤ w.pc → t.done = true ∧ t.fault = some (w.at 6 w.pc 0))
    ∧ (w.pc < ws.size → w.started = true → w.frameLen ≤ w.fslot → op ≠ 1 → op ≠ 0x0E → t.done = true ∧ t.fault = some (w.at 7 w.pc 0))
    ∧ (w.pc < ws.size → w.started = true → w.fslot < w.frameLen → op = 1 → t.done = true ∧ t.fault = some (w.at 7 w.pc 0))
    ∧ (w.pc < ws.size → (w.started = false ∨ w.fslot < w.frameLen) →
      (op = 3 → t.fire = some (fireFields (wordAt ws w.pc)) ∧ t.order = if w.fire.isSome then w.order.or (some (w.at 8 w.pc 0)) else w.order)
      ∧ ((op = 7 ∨ op = 8 ∨ op = 9) → t.order = if w.fire.isSome then w.order.or (some (w.at 8 w.pc 0)) else w.order)
      ∧ (op = 0x0A → t.order = if 4 ≤ w.marks then w.order.or (some (w.at 8 w.pc 0)) else w.order))
    ∧ (w.frameLen ≤ w.fslot → w.produce.done = true ∧ w.produce.fault = some (w.at 7 w.prodWord 0))
    ∧ (w.fslot < w.frameLen → w.produce.slots = w.slotHere :: w.slots ∧ w.produce.fslot = w.fslot + 1 ∧ w.produce.fault = w.fault))
  ∧ ∀ (g : GroupWalk) (x : WalkSlot) (n k : Nat), g.fault = none → let t := groupStep g x
    (g.cnt ≠ 0 → (x.newFrame = true ∨ x.changed = true) → t.1.fault = some (x.at 9 0))
    ∧ (x.newFrame = false → x.changed = false → x.accum = some (n, k) → x.kind ≠ .slot → g.cnt ≠ 0 → t.1.fault = some (x.at 9 0))
    ∧ (x.newFrame = false → x.changed = false → x.accum = some (n, k) → x.kind = .slot → g.cnt ≠ 0 →
      (t.1.fault = if g.emask = x.fire.emask ∧ g.eidx = x.fire.eidx then none else some (x.at 9 0))
      ∧ t.2 = decide (g.cnt + 1 = n) ∧ t.1.cnt = if g.cnt + 1 = n then 0 else g.cnt + 1)
    ∧ (x.accum = some (n, k) → x.kind = .slot → g.cnt = 0 → t.1.fault = none ∧ t.2 = decide (1 = n))

/-- R53, R54, R56, R74: a swap request on an accepted plan starts the generation of the Dither Table and anything else is REFUSED; a request while one holds
has no effect; the ready table arms the swap; a cancel takes it back unless the swap's tick comes within 40 cc. R55: at the swap the banks exchange roles, the
swap and its state end, the former active plan is pending and accepted, FRAME_COUNT restarts and ACTIVE_PLAN_ID is the new plan's; where a plan ran, Comet
goes on at the first FRAME word of the new one. That a bank in which no plan was active reads UNCHECKED after the swap, that no Dither Table stands without a key, and
that a plan swaps at any tick while Comet stands is the model's reading of these rules (log 15). -/
def Obligations.PlanSwap : Prop :=
  ((∀ (s : State) (a : HostAt), s.mayWrite a.path K.PLAN_SWAP = true →
    (s.swapHolds = true → exec (.planSwapRequest a) s = .next (noteResult a.path (0, s)).settle)
    ∧ (s.swapHolds = false → s.checkState = 2 → (s.ditherKey = true ∨ dithers s.plan.pending = false) →
      exec (.planSwapRequest a) s = .next (noteResult a.path (0,
        (s.setPlan { s.plan with shadowNonce := planNonce s.plan.pending, swapTicks := 0 }).put K.SWAP_STATE 1)).settle)
    ∧ (s.swapHolds = false → (s.checkState ≠ 2 ∨ (s.ditherKey = false ∧ dithers s.plan.pending = true)) →
      exec (.planSwapRequest a) s = .next (noteResult a.path (0, s.put K.SWAP_STATE 3)).settle)
    ∧ (s.swapHolds = true → s.swapDue = false ∨ a.cc.val + 40 < 2800 →
      exec (.planSwapCancel a) s = .next (noteResult a.path (0, (s.setPlan { s.plan with swapTicks := 0 }).put K.SWAP_STATE 0)).settle)
    ∧ ((s.swapHolds = false ∨ (s.swapDue = true ∧ 2800 ≤ a.cc.val + 40)) →
      exec (.planSwapCancel a) s = .next (noteResult a.path (0, s)).settle))
  ∧ ∀ (s : State) (cc : Fin 2800), s.mode.coreRuns = true → s.reg K.SWAP_STATE = 1 →
    exec (.ditherTableReady cc) s = .next ((s.setPlan { s.plan with swapTicks := if cc.val + 40 < 2800 then 1 else 2 }).put K.SWAP_STATE 2).settle)
  ∧ (∀ s : State, s.ticking = true → s.swapDue = true → s.atTick.swapDue = true →
    let u := s.atTick.calFrame
    let t := ((((u.setPlan { active := u.plan.pending, pending := u.plan.active, hasActive := true, swapped := true, shadowNonce := u.plan.shadowNonce
                             ditherNonce := if u.ditherKey then some u.plan.shadowNonce else none, swapTicks := 0 }).put K.SWAP_STATE 0).put K.CHECK_RESULT
      (if u.plan.hasActive then 2 ^ 25 else 0)).put K.FRAME_COUNT 0).stick 30 |>.put K.ACTIVE_PLAN_ID (fieldAt u.plan.pending.plan 12 4)
    (u.mode.isRunning = false → exec .planSwapTick s = .next t.settle)
    ∧ (u.mode.isRunning = true → u.plan.hasActive = true →
      exec .planSwapTick s = .next (t.setComet { running := true, startDue := true, throttleFrame := u.comet.throttleFrame }).settle))

/-- R35: FIRE and MARK wait for the next slot-producing word; such a word with a COUNT makes that many slots of its kind, of which a SLOT's take the FIRE that
waits and the first takes the MARKs; one with COUNT 0 makes none and leaves what waits. R38, R40, R41: a state word holds from the next slot produced; ACCUM
restarts the groups, SINGLE empties the confirmation histories, WAITLOCK with a COND starts a hold and with none releases; at a tick at which every condition
of COND holds fire is released. The slot that starts (R57 to R60, Table 2.9): where Comet makes one it is of the word's kind, takes the word's waiting marks and
moves the word, the frame and the group on by one. A SLOT slot fires the emitters of its FIRE's EMASK, each at its own entry or, under an energy cap of 50 %, at
the largest entry no wider than half of entry 7, or not at all where none is so narrow (R70); nothing fires in lock loss, under L3, in an odd frame of throttle
step 3, in an odd slot or group of L2, in SURVEY, SAFE-HOLD or DEGRADED entered from SURVEY, or before WAITLOCK's release. L3, throttle step 3 and lock loss
take the echo work with it. Every slot a mask touches is counted, and every slot WAITLOCK withholds. -/
def Obligations.SlotAndStateWords : Prop :=
  ((∀ s : State, let u := s.atTick; let c := u.comet; let n := bits u.cometWord 15 0
    (s.wordReady 2 = true → n ≠ 0 → exec .slot s = .next (u.setComet { c with
      pc := c.pc + 1, kind := .slot, left := n, wordFire := c.fire, wordMarks := c.marks, fire := none, marks := [], calSel := 0 }).settle)
    ∧ (s.wordReady 7 = true → n ≠ 0 → exec .calgap s = .next (u.setComet { c with
      pc := c.pc + 1, kind := .calgap, left := n, wordFire := none, wordMarks := c.marks, fire := none, marks := [], calSel := bits u.cometWord 55 48 }).settle)
    ∧ (s.wordReady 8 = true → n ≠ 0 → exec .testgap s = .next (u.setComet { c with
      pc := c.pc + 1, kind := .testgap, left := n, wordFire := none, wordMarks := c.marks, fire := none, marks := [], calSel := 0 }).settle)
    ∧ (s.wordReady 9 = true → n ≠ 0 → exec .idle s = .next (u.setComet { c with
      pc := c.pc + 1, kind := .idle, left := n, wordFire := none, wordMarks := c.marks, fire := none, marks := [], calSel := 0 }).settle)
    ∧ (s.wordReady 2 = true → n = 0 → exec .slot s = .next (u.setComet { c with pc := c.pc + 1 }).settle))
  ∧ (∀ s : State, s.wordReady 3 = true →
      exec .fire s = .next (s.atTick.setComet { s.atTick.comet with pc := s.atTick.comet.pc + 1, fire := some (fireFields s.atTick.cometWord) }).settle)
  ∧ (∀ s : State, s.pipe.cur.marks = [] → s.wordReady 0x0A = true →
      exec .mark s = .next (s.atTick.setComet { s.atTick.comet with
        pc := s.atTick.comet.pc + 1, marks := s.atTick.comet.marks ++ [markFields s.atTick.cometWord] }).settle)
  ∧ ∀ (s : State) (m : MarkEv) (l : List MarkEv), s.pipe.cur.marks = m :: l → m.toSlotOut = false → m.toTrig = false → m.toHk = false →
      exec .mark s = .next ({ s with pipe := { s.pipe with cur := { s.pipe.cur with marks := l } } }.put K.MARKS_ISSUED
        ((s.reg K.MARKS_ISSUED + 1) % 2 ^ 32)).settle)
  ∧ ((∀ s : State, let u := s.atTick; let c := u.comet
    (s.wordReady 4 = true → exec .single s = .next (u.setComet { c with pc := c.pc + 1, single := singleFields u.cometWord, singleReset := true }).settle)
    ∧ (s.wordReady 5 = true → exec .accum s = .next (u.setComet { c with pc := c.pc + 1, accum := accumFields u.cometWord, groupPos := 0 }).settle)
    ∧ (s.wordReady 6 = true → exec .emit s = .next (u.setComet { c with pc := c.pc + 1, emit := emitFields u.cometWord }).settle)
    ∧ (s.wordReady 0x0D = true → exec .waitlock s = .next (u.setComet { c with
      pc := c.pc + 1, waitCond := bits u.cometWord 51 48, released := bits u.cometWord 51 48 == 0 }).settle))
  ∧ ∀ s : State, s.ticking = true → s.comet.running = true → s.comet.released = false → s.atTick.comet.running = true → s.atTick.comet.released = false →
    (s.atTick.comet.waitCond &&& s.atTick.waitConds = s.atTick.comet.waitCond →
      exec .waitlockRelease s = .next (s.atTick.setComet { s.atTick.comet with released := true }).settle)
    ∧ (s.atTick.comet.waitCond &&& s.atTick.waitConds ≠ s.atTick.comet.waitCond → exec .waitlockRelease s = .next s.atTick.settle))
  ∧ (∀ (s : State) (x sh : SlotSamples), let r := s.formSlot x sh; let c := r.2; let q := s.comet
    let makes := q.running = true ∧ 0 < q.left
    let dark := 3 ≤ s.shedTick ∨ (q.throttleFrame = true ∧ s.reg K.FRAME_COUNT % 2 = 1)
    let alternate := 2 ≤ s.shedTick ∧ ((q.accum = none ∧ q.frameDone % 2 = 1)
      ∨ (q.accum.isSome = true ∧ ((q.groupPos = 0 ∧ q.groupOrd % 2 = 1) ∨ (q.groupPos ≠ 0 ∧ q.groupMasked = true))))
    let byMode := s.mode = .survey ∨ s.mode = .safeHold ∨ (s.mode = .degraded ∧ s.ensB.surveyFrom = true)
    let noFire := dark ∨ alternate ∨ byMode ∨ q.released = false
    (∀ k, k ≠ K.MASK_NOW → k ≠ K.MASKED_SLOTS → k ≠ K.WITHHELD_SLOTS → r.1.reg k = s.reg k)
    ∧ (¬makes → c.live = false ∧ c.fires = [] ∧ r.1.comet = q ∧ r.1.reg K.MASKED_SLOTS = s.reg K.MASKED_SLOTS
      ∧ r.1.reg K.WITHHELD_SLOTS = s.reg K.WITHHELD_SLOTS)
    ∧ (makes → c.live = true ∧ c.kind = q.kind ∧ c.frameSlot = q.frameDone ∧ c.marks = q.wordMarks ∧ c.tag = q.tag ∧ c.emit = q.emit
      ∧ r.1.comet.left = q.left - 1 ∧ r.1.comet.frameDone = q.frameDone + 1 ∧ r.1.comet.wordMarks = [] ∧ r.1.comet.pc = q.pc
      ∧ (c.noEcho = true ↔ dark ∨ s.locked = false)
      ∧ (q.kind ≠ .slot → c.fires = [] ∧ c.accum = none ∧ c.single = none ∧ c.groupPos = 0 ∧ r.1.reg K.WITHHELD_SLOTS = s.reg K.WITHHELD_SLOTS
        ∧ r.1.reg K.MASKED_SLOTS = if dark then incSat 32 (s.reg K.MASKED_SLOTS) else s.reg K.MASKED_SLOTS)
      ∧ (q.kind = .slot → c.accum = q.accum ∧ c.single = q.single
        ∧ (∀ n w, q.accum = some (n, w) → c.groupPos = q.groupPos + 1
          ∧ (n ≤ q.groupPos + 1 → r.1.comet.groupPos = 0 ∧ r.1.comet.groupOrd = q.groupOrd + 1)
          ∧ (q.groupPos + 1 < n → r.1.comet.groupPos = q.groupPos + 1 ∧ r.1.comet.groupOrd = q.groupOrd))
        ∧ (r.1.reg K.WITHHELD_SLOTS = if q.released = false then incSat 32 (s.reg K.WITHHELD_SLOTS) else s.reg K.WITHHELD_SLOTS)
        ∧ (noFire → c.fires = [] ∧ c.withheld = true ∧ r.1.reg K.MASKED_SLOTS = incSat 32 (s.reg K.MASKED_SLOTS))
        ∧ ((s.locked = false ∨ q.wordFire = none) → c.fires = [])
        ∧ (¬noFire → (s.locked = false ∨ q.wordFire = none) → r.1.reg K.MASKED_SLOTS = s.reg K.MASKED_SLOTS)
        ∧ ∀ fw, s.locked = true → ¬noFire → q.wordFire = some fw → c.withheld = false
          ∧ (∀ f, f ∈ c.fires ↔ f.emitter < 16 ∧ bitAt fw.emask f.emitter = true ∧ s.cappedEntry f.emitter fw.eidx = some f.eidx ∧ f = {
              emitter := f.emitter, eidx := f.eidx, width := (energyOf s.plan.active f.emitter f.eidx).1
              dither := if fw.dither then s.ditherOf s.slot f.emitter else 0
              dithered := fw.dither && s.plan.ditherNonce.isSome, fine := fw.fine, calE := s.reg (K.CAL_E f.emitter) })
          ∧ c.capLost = sumNat (((bitsSet fw.emask 16).filter fun e => (s.cappedEntry e fw.eidx).isNone).map fun e => 2 ^ e)
          ∧ (let capped := ∃ e < 16, bitAt fw.emask e = true ∧ s.cappedEntry e fw.eidx ≠ some fw.eidx
            (capped → r.1.reg K.MASKED_SLOTS = incSat 32 (s.reg K.MASKED_SLOTS)) ∧ (¬capped → r.1.reg K.MASKED_SLOTS = s.reg K.MASKED_SLOTS)))))
  ∧ (∀ (s : State) (e i : Nat), let w := fun k => (energyOf s.plan.active e k).1; let cap := w 7 / 2
    let caps := 2 ≤ s.shedTick ∨ 4 ≤ s.reg K.THROT_STEP
    ((¬caps ∨ w i ≤ cap) → s.cappedEntry e i = some i)
    ∧ (caps → cap < w i → (∀ k < 8, cap < w k) → s.cappedEntry e i = none)
    ∧ (caps → cap < w i → ∀ k < 8, w k ≤ cap → (∀ j, k < j → j < 8 → cap < w j) → s.cappedEntry e i = some k))

/-- R43, R44: LOOP enters its body COUNT times or skips past the matching ENDLOOP; ENDLOOP goes back to the word after its LOOP while repetitions are left;
JUMP goes to its target. R38, R42, R79: FRAME starts a frame of SLOTS_M1 + 1 slots with its TAG, returns every state word to its start value, ends loops and
modifiers that wait, counts in FRAME_COUNT and makes RES_LEVEL the charger's level. -/
def Obligations.ControlWords : Prop :=
  (∀ s : State, let u := s.atTick; let c := u.comet; let n := bits u.cometWord 15 0
    (s.wordReady 0x0B = true → n ≠ 0 → exec .loop s = .next (u.setComet { c with loops := (c.pc, n) :: c.loops, pc := c.pc + 1 }).settle)
    ∧ (s.wordReady 0x0B = true → n = 0 →
      exec .loop s = .next (u.setComet { c with pc := matchEnd u.planWords u.planWords.size (c.pc + 1) 1 + 1 }).settle)
    ∧ (∀ a k l, s.wordReady 0x0C = true → c.loops = (a, k) :: l → 1 < k →
      exec .endloop s = .next (u.setComet { c with loops := (a, k - 1) :: l, pc := a + 1 }).settle)
    ∧ (∀ a k l, s.wordReady 0x0C = true → c.loops = (a, k) :: l → k ≤ 1 →
      exec .endloop s = .next (u.setComet { c with loops := l, pc := c.pc + 1 }).settle)
    ∧ (s.wordReady 0x0E = true → exec .jump s = .next (u.setComet { c with pc := bits u.cometWord 14 0 }).settle))
  ∧ (∀ s : State, s.wordReady 1 = true → let u := s.atTick
    ∃ t : State, exec .frame s = .next t.settle ∧ t.comet.pc = u.comet.pc + 1 ∧ t.comet.accum = none ∧ t.comet.single = none ∧ t.comet.emit = {}
      ∧ t.comet.released = true ∧ t.comet.loops = [] ∧ t.comet.fire = none ∧ t.comet.marks = [] ∧ t.comet.frameDone = 0
      ∧ t.comet.frameLen = (frameFields u.cometWord).2.1 ∧ t.comet.tag = (frameFields u.cometWord).1 ∧ t.comet.groupOrd = 0
      ∧ t.reg K.FRAME_COUNT = (u.reg K.FRAME_COUNT + 1) % 2 ^ 64 ∧ t.reg K.VLAS_TARGET = (frameFields u.cometWord).2.2
      ∧ t.res.target = 2000 + 25 * (frameFields u.cometWord).2.2
      ∧ ∀ k, k ≠ K.FRAME_COUNT → k ≠ K.VLAS_TARGET → k ≠ K.RES_STATE → t.reg k = u.reg k)

/-! ### Fires, reservoir and mirror (chapter 3) -/

/-- R63, R65, R66, R67: a released edge leaves the ball while both permits are on, INHIBIT_N is released and PLL A is locked, and is counted in SHOTS_FIRED of
its emitter; otherwise it is suppressed and counted so. A pulse ends at its width; one that channel A cuts at the cap of DEGRADED counts as truncated. The
slot's other fires stay as they are. What channel A decides of a fire at the tick (R374, R376 to R378, R381): the first rule of Table 15.1 that the fire breaks
vetoes it and is counted with a suppressed shot; else a suppression known at the tick, namely feedbacks not both high, INHIBIT_N, a test slot, a cause or lock
loss, counts it as suppressed; else it is released, cut in DEGRADED to a quarter of entry 7, and its energy, by the conversion of VLAS, enters both window
sums of its emitter and of no other. -/
def Obligations.FireEdges : Prop :=
  (∀ (s : State) (e : Fin 16) (l r : List FireCmd) (f : FireCmd), s.pipe.cur.fires = l ++ f :: r → f.emitter = e.val →
    (∀ g ∈ l ++ r, g.emitter ≠ e.val) →
    (f.fate = .planned → f.released = true → s.permitsOn = true → s.ensB.inhibited = false → s.lockedA = true →
      exec (.fireEdge e) s = .next ((s.put (K.SHOTS_FIRED e) ((s.reg (K.SHOTS_FIRED e) + 1) % 2 ^ 32)).withFires (l ++ { f with fate := .fired } :: r)).settle)
    ∧ (f.fate = .planned → f.released = true → (s.permitsOn && !s.ensB.inhibited && s.lockedA) = false →
      exec (.fireEdge e) s = .next ((s.put (K.SHOTS_SUPPRESSED e) (min (s.reg (K.SHOTS_SUPPRESSED e) + 1) (2 ^ 32 - 1))).withFires
        (l ++ { f with fate := .suppressed } :: r)).settle)
    ∧ (f.fate = .fired → f.capEnd = false → exec (.firePulseEnd e) s = .next (s.withFires (l ++ { f with fate := .ended } :: r)).settle)
    ∧ (f.fate = .fired → f.capEnd = true →
      exec (.firePulseEnd e) s = .next ((s.put (K.SHOTS_TRUNCATED e) (min (s.reg (K.SHOTS_TRUNCATED e) + 1) (2 ^ 32 - 1))).withFires
        (l ++ { f with fate := .truncated } :: r)).settle))
  ∧ (∀ s : State, 5 ≤ s.ens.th.length → let v := s.ens.th.getD 0 0 - s.ens.th.getD 4 0; let least : Int := s.inForce K.V_MIN
    (0 < least → (s.dirNow = 1 ↔ least ≤ 64 * v) ∧ (s.dirNow = 2 ↔ 64 * v ≤ -least) ∧ (s.dirNow = 0 ↔ -least < 64 * v ∧ 64 * v < least))
    ∧ let near : Rat := (s.ens.th.getD 0 0 : Rat) + 3 / 2 * ((v : Rat) / 4)
      let far : Rat := (s.ens.th.getD 0 0 : Rat) + 5 / 2 * ((v : Rat) / 4)
      let m : Rat := (s.inForce K.POS_MARGIN : Rat) + if s.mode = .degraded then (s.inForce K.DEG_MARGIN : Rat) else 0
      s.beamInterval = (min near far - m, max near far + m))
  ∧ (∀ (s : State) (f : FireCmd), f.width ≠ 0 →
    s.fireEnergy f = ((energyOf s.plan.active f.emitter f.eidx).2 : Rat) * (((s.res.vlas : Int) : Rat) * (25 / 10000) / 40) ^ 2
      * ((if s.mode = .degraded then min f.width ((energyOf s.plan.active f.emitter 7).1 / 4) else f.width : Nat) : Rat) / (f.width : Rat))
  ∧ (∀ (s : State) (f : FireCmd), let e := f.emitter; let x := s.fireEnergy f; let c := s.reg K.CEIL_CODE
    let w := if s.mode = .degraded then min f.width ((energyOf s.plan.active e 7).1 / 4) else f.width
    let inWindow := ∃ i < 8, bitAt (s.inForce (K.EXCL_PRESET (s.reg K.PRESET_NOW))) i = true ∧ bitAt (s.inForce (K.EXCL_EMASK i)) e = true
      ∧ (s.inForceI (K.EXCL_LO i) : Rat) ≤ s.beamInterval.2 ∧ s.beamInterval.1 ≤ (s.inForceI (K.EXCL_HI i) : Rat)
    let broken : Nat → Prop := fun r => match r with
      | 1 => s.dirNow = 0
      | 2 => bitAt (s.inForce K.DIR_ALLOW) (s.dirNow - 1) = false ∨ (s.dirNow = 2 ∧ s.mode = .degraded)
      | 3 => s.reg K.SWEEP_OK = 0
      | 4 => ((4 * s.inForce K.VLAS_MAX : Nat) : Int) < s.res.vlas
      | 5 => inWindow
      | 6 => s.inForce (K.WIDTH_MAX e) < w
      | 7 => ((s.inForce (K.SHOT_CEIL e) * c / 63 : Nat) : Rat) < x ∨ c = 0
      | 8 => ((10000 * (s.inForce (K.BUDGET_100MS e) * c / 63) : Nat) : Rat) < (s.windowSums e).1 + x
      | 9 => ((10000 * (s.inForce (K.BUDGET_10S e) * c / 63) : Nat) : Rat) < (s.windowSums e).2 + x
      | _ => False
    (∀ r, s.vetoRule f = some r ↔ broken r ∧ ∀ q < r, ¬broken q) ∧ (s.vetoRule f = none ↔ ∀ q, ¬broken q))
  ∧ (∀ (s : State) (f : FireCmd) (test : Bool),
    let counted := if test then s.count K.TESTPULSE_COLLIDE else s
    let lost := counted.count (K.SHOTS_SUPPRESSED f.emitter)
    let held := s.ensB.fbA = false ∨ s.ensB.fbB = false ∨ s.ensB.inhibited = true ∨ test = true ∨ s.reg K.SH_CAUSE ≠ 0 ∨ s.locked = false
    (f.fate ≠ .planned → decideFire test s f = (s, f))
    ∧ (∀ r, f.fate = .planned → s.vetoRule f = some r →
      decideFire test s f = ((counted.count (K.VETO_COUNT (r - 1))).count (K.SHOTS_SUPPRESSED f.emitter), { f with fate := .suppressed }))
    ∧ (f.fate = .planned → s.vetoRule f = none → held → decideFire test s f = (lost, { f with fate := .suppressed }))
    ∧ (f.fate = .planned → s.vetoRule f = none → ¬held → let r := decideFire test s f; let w := s.allowedWidth f
      r.2 = { f with energy := s.fireEnergy f, released := true, width := w, capEnd := decide (w < f.width) }
      ∧ (r.1.windowSums f.emitter).1 = (s.windowSums f.emitter).1 + s.fireEnergy f
      ∧ (r.1.windowSums f.emitter).2 = (s.windowSums f.emitter).2 + s.fireEnergy f
      ∧ (∀ e, e ≠ f.emitter → r.1.windowSums e = s.windowSums e)
      ∧ r.1.ensB.released = s.ensB.released ++ [(f.emitter, s.fireEnergy f)] ∧ ∀ k, r.1.reg k = s.reg k))

/-- R78, R79, R82: the one switching period of a slot of a charger that regulates, which ends early at the sense voltage of CHG_ILIM; bleeding that has reached the target gives way to regulation from the present VLAS; a fault
that does not stand already stops the charger, the third within its window for good; at a frame boundary a fault ends while VLAS lies below the target. -/
def Obligations.ReservoirEvents : Prop :=
  (∀ (s : State) (sense : Nat), s.mode.coreRuns = true → s.res.runs = true →
    (s.res.periodDone = false → exec (.chargerPeriod sense) s = .next ({ s with res := { s.res with
      periodOn := decide (sense < s.reg K.CHG_ILIM), endedEarly := decide (s.reg K.CHG_ILIM ≤ sense), periodDone := true, periodAt := s.reg K.CHG_PHASE } }).settle)
    ∧ (s.res.periodDone = true → exec (.chargerPeriod sense) s = .next s.settle))
  ∧ (∀ s : State, s.mode.coreRuns = true → s.reg K.RES_STATE = 3 → s.res.vlas ≤ 4 * s.res.target →
    ∃ t : State, exec .reservoirBleedEnd s = .next t.settle ∧ t.reg K.RES_STATE = (if s.resAtLevel = true then 2 else 1)
      ∧ t.res = { s.res with runs := true, disOn := false, setPoint := (5 * s.res.vlas).toNat } ∧ ∀ k, k ≠ K.RES_STATE → t.reg k = s.reg k)
  ∧ (∀ (s : State) (v : Nat), s.mode.coreRuns = true → s.reg K.RES_STATE ≠ 4 → (25200 < v ∨ 2 ≤ s.res.overRun) →
    ∃ t : State, exec (.reservoirFault v) s = .next t.settle ∧ t.reg K.RES_STATE = 4 ∧ t.reg K.RES_FAULTS = min (s.reg K.RES_FAULTS + 1) (2 ^ 32 - 1)
      ∧ t.res.runs = false ∧ t.res.disOn = true ∧ t.res.locked = (s.res.locked || decide (2 ≤ s.res.faultAges.length))
      ∧ ∀ k, k ≠ K.RES_STATE → k ≠ K.RES_FAULTS → t.reg k = s.reg k)
  ∧ ∀ s : State, s.mode.coreRuns = true → s.pipe.cur.newFrame = true → s.reg K.RES_STATE = 4 → s.res.locked = false → s.resAllowed = true →
    s.res.vlas < 4 * s.res.target →
    ∃ t : State, exec .chargerRestart s = .next t.settle ∧ t.reg K.RES_STATE = (if s.resAtLevel = true then 2 else 1)
      ∧ t.res = { s.res with runs := true, disOn := false, setPoint := (5 * s.res.vlas).toNat } ∧ ∀ k, k ≠ K.RES_STATE → t.reg k = s.reg k

/-- R84: the measured angle of a slot whose two angle samples are both usable is their mean, rounded half to even. R85, R486: the coil current for the slot is
the exact PID sum of target, feed-forward and the gains in force, limited to MIR_ILIM and rounded half to even; a clamped pass leaves integ as it was. R85,
R90, R397: the computed coil current is applied; an edge of SOL_IN outside both windows counts as a fault, one within a window is awaited no longer, and each
waits for the angle samples beside it, while without PLL A lock it is ignored; its angle lies on the line through those samples, and its error is that angle
less the mark's; a mark that has waited longer than its window counts as missing, one fault each on the service side. That an edge without lock counts on neither
path, that each path takes its own level of the edge, and that an edge waits for its samples is the model's choice (log 49). -/
def Obligations.MirrorLoop : Prop :=
  (∀ s : State, s.mode.coreRuns = true → s.mir.angleDue = true → s.reg K.ANGLE_SOURCE = 0 → s.pipe.prev.locked = true → s.mir.ends = 3 →
    (∀ f ∈ s.pipe.cur.fires, f.emitter < 16) → ∀ m : Int, m = rhe ((s.mir.end0 + s.mir.end1) / 2) → -32768 ≤ m → m ≤ 32767 →
    ∃ t : State, exec .angleMeasured s = .next t.settle ∧ t.regI 16 K.ANGLE_MEAS = m ∧ t.pipe.prev.angle = m ∧ t.mir.angleDue = false)
  ∧ (∀ (s t : State) (meas ff e i u lim : Int), t = s.loopStep meas ff → e = s.mir.target - meas →
    i = (if s.mir.clamped = true then s.mir.integ else max (-2147483647) (min 2147483647 (s.mir.integ + e))) →
    u = 65536 * ff + s.gain16 K.MIR_KP * e + s.gain16 K.MIR_KI * i + s.gain16 K.MIR_KD * (e - s.mir.ePrev) → lim = 65536 * (s.reg K.MIR_ILIM : Int) →
    t.mir.integ = i ∧ t.mir.ePrev = e ∧ t.mir.pendingDrive = rheDiv (max (-lim) (min lim u)) 65536
    ∧ (u ≤ lim → -lim ≤ u → t.mir.clamped = false ∧ t.reg K.CLAMP_SLOTS = s.reg K.CLAMP_SLOTS)
    ∧ (lim < u ∨ u < -lim → t.mir.clamped = true ∧ t.reg K.CLAMP_SLOTS = min (s.reg K.CLAMP_SLOTS + 1) (2 ^ 32 - 1))
    ∧ ∀ k, k ≠ K.CLAMP_SLOTS → t.reg k = s.reg k)
  ∧ ((∀ s : State, s.mode.coreRuns = true → s.mir.angleDue = false → s.mir.applied = false → s.mir.driveOn = true →
    exec .mirrorDriveApply s = .next ({ s.putI 16 K.DRIVE_NOW s.mir.pendingDrive with mir := { s.mir with applied := true } }).settle)
  ∧ (∀ (s : State) (i : Fin 11200) (b a eb ea : Bool), s.mode.coreRuns = true → (s.locked = false ∨ (b = false → a = false) ∧ (eb = false → ea = false)) →
    exec (.solEdge i b a eb ea) s = .next s.settle)
  ∧ (∀ (s : State) (i : Fin 11200) (x : SolEdge), s.mode.coreRuns = true → s.locked = true →
    x = { at_ := i, mark := s.solMark, target := s.pipe.cur.target, forward := s.reg K.DIR_NOW == 1 } →
    (s.solMark = none → exec (.solEdge i false true false true) s =
      .next ({ s.put K.SOL_FAULTS (min (s.reg K.SOL_FAULTS + 1) (2 ^ 32 - 1)) with mir := { s.mir with edges := s.mir.edges ++ [x] } }).settle)
    ∧ (s.solMark = some 0 → exec (.solEdge i false true false true) s = .next ({ s with mir := { s.mir with edges := s.mir.edges ++ [x], sinceA := 0, awaitA := none } }).settle)
    ∧ (s.solMark = some 1 → exec (.solEdge i false true false true) s = .next ({ s with mir := { s.mir with edges := s.mir.edges ++ [x], sinceB := 0, awaitB := none } }).settle))
  ∧ (∀ (s : State) (e : SolEdge) (a b ang : Rat) (k err at_ : Nat), e.mark = some k → e.at_ = 2800 + at_ → at_ < 5600 → ang = a + (b - a) * at_ / 5600 →
    k = 0 ∧ err = K.SOL_ERR_A ∨ k = 1 ∧ err = K.SOL_ERR_B →
    interpAngle e.at_ (some a) (some b) = some ang ∧ (s.solService e ang).reg err = ofSigned 16 (roundOpen "SOL_ERR" (ang - (s.regI 16 (if k = 0 then K.SOL_ANGLE_A else K.SOL_ANGLE_B) : Int)))
    ∧ s.keeps (s.solService e ang) [err])
  ∧ ∀ (s : State) (x : Nat), s.mode.coreRuns = true → s.mir.awaitA = some x → s.reg K.SOL_WIN < x → s.mir.awaitB = none → s.ens.crossA = none → s.ens.crossB = none →
    ∃ t : State, exec .solMarkMissing s = .next t.settle ∧ t.reg K.SOL_FAULTS = min (s.reg K.SOL_FAULTS + 1) (2 ^ 32 - 1) ∧ t.mir = { s.mir with awaitA := none }
      ∧ t.ens = s.ens ∧ ∀ k, k ≠ K.SOL_FAULTS → t.reg k = s.reg k)

/-! ### Receive channels and APD bias (chapter 4) -/

/-- R111, R115, R116, R117: what the bias generator's events do to its boost and to the zone they name. -/
def Obligations.BiasEvents : Prop :=
  (∀ (s : State) (hv : Nat) (m im : List Nat), s.mode.coreRuns = true →
    ∃ t : State, exec (.apdBoostPeriod hv m im) s = .next t.settle ∧ t.reg K.APD_HV_MEAS = hv
      ∧ (∀ z, z < 4 → t.reg (K.APD_MEAS z) = m.getD z 0 ∧ t.reg (K.APD_IMEAS z) = im.getD z 0)
      ∧ t.apd.boostOn = (s.apd.zones.any (·.biased) && !s.apd.boostStopped) ∧ t.apd.zones = s.apd.zones)
  ∧ (∀ (s : State) (hv : Nat), s.mode.coreRuns = true → 22000 < hv →
    exec (.apdHvOvervoltage hv) s = .next ({ s.put K.APD_HV_MEAS hv with apd := { s.apd with boostOn := false, boostStopped := true } }).settle)
  ∧ (∀ (s : State) (z : Fin 4), s.mode.coreRuns = true → s.regBit K.APD_ZONE_EN z = true → s.biasTemp z = none → (s.zone z).atMin = false →
      5000000 ≤ (s.zone z).breakFor + 1 →
    exec (.apdBreakTimeout z) s = .next (((s.put (K.APD_SET z) (s.reg (K.APD_VMIN z))).setZone z { s.zone z with atMin := true, frozen := false }).zoneShow z).settle)
  ∧ (∀ (s : State) (z : Fin 4), s.mode.coreRuns = true → s.reg (K.APD_TSEL z) = 0 → 50000 ≤ s.hk.rtdAge + 1 → s.regBit K.APD_ZONE_EN z = true →
      s.regBit (K.APD_FLAGS z) 3 = false →
    exec (.apdTempStale z) s = .next (((s.putBit (K.APD_FLAGS z) 3 true).setZone z { s.zone z with frozen := !(s.zone z).atMin }).zoneShow z).settle)
  ∧ (∀ (s : State) (z : Fin 4), s.mode.coreRuns = true → s.biasHolds z = true → 50 ≤ (s.zone z).run + 1 →
    exec (.apdZoneSettled z) s = .next ((s.setZone z { s.zone z with settled := true }).zoneShow z).settle)
  ∧ ∀ (s : State) (z : Fin 4), s.mode.coreRuns = true → s.inLimit z = true → 500 ≤ (s.zone z).limRun + 1 →
    ∃ t : State, exec (.apdZoneFault z) s = .next t.settle ∧ t.reg (K.APD_STATE z) = 5 ∧ t.reg (K.APD_FAULTS z) = min (s.reg (K.APD_FAULTS z) + 1) (2 ^ 32 - 1)
      ∧ (t.zone z).faulted = true ∧ (t.zone z).biased = false ∧ (t.zone z).out = 0
      ∧ ∀ k, k ≠ K.APD_STATE z → k ≠ K.APD_FAULTS z → t.reg k = s.reg k

/-- R98: exactly the channels that have warmed for ten slots become ACTIVE; every other register keeps its value. R112, R113: at an evaluation every enabled
zone whose temperature is known takes the set point and the clamp flags that the polynomial gives, and every other zone keeps its set point. R101 to R105: at a
tick the servo of a powered channel that is ACTIVE goes, by its mode, to its fixed code, to the code that the mean of the servo window and the gain of the slot
that ended give within SERVO_STEP and 0 to 16,000, or stays; while a channel warms or is unpowered, and in lock loss, it stays. The ambient code is the logarithm
of the servo code; SUN_SAT_MASK shows a channel whose code was 16,000 with the window above the baseline at 64 ticks running, holds in lock loss and is clear
without power. That a RETIRED channel counts as unpowered there is the model's choice (log 57). -/
def Obligations.ChannelsAndBiasPoints : Prop :=
  (∀ s : State, s.mode.coreRuns = true → ∃ t : State, exec .channelWarmDone s = .next t.settle
    ∧ (∀ ch, ch < 48 → s.reg (K.CH_STATE ch) = 1 → (s.rx.getD ch {}).warm ≤ 1 → t.reg (K.CH_STATE ch) = 2)
    ∧ (∀ ch, ch < 48 → (s.reg (K.CH_STATE ch) ≠ 1 ∨ 1 < (s.rx.getD ch {}).warm) → t.reg (K.CH_STATE ch) = s.reg (K.CH_STATE ch))
    ∧ (∀ k, (∀ ch, ch < 48 → k ≠ K.CH_STATE ch) → t.reg k = s.reg k) ∧ t.rx = s.rx ∧ t.mode = s.mode)
  ∧ (∀ s : State, s.mode.coreRuns = true → 499 ≤ s.apd.ticks → s.apd.evaluated = false →
    ∃ t : State, exec .apdEvaluate s = .next t.settle ∧ t.apd.evaluated = true
      ∧ ∀ z, z < 4 →
        (∀ x, s.regBit K.APD_ZONE_EN z = true → s.biasTemp z = some x →
          t.reg (K.APD_SET z) = (s.biasPoint z x).1 ∧ t.reg (K.APD_FLAGS z) = (s.biasPoint z x).2 ∧ (t.zone z).frozen = false)
        ∧ ((s.regBit K.APD_ZONE_EN z = false ∨ s.biasTemp z = none) → t.reg (K.APD_SET z) = s.reg (K.APD_SET z)))
  ∧ (∀ (s : State) (c : SlotCtx) (ch : Nat), ch < 48 →
    let t := State.chanServo c s ch
    let st := s.reg (K.CH_STATE ch)
    let old := (s.rx.getD ch {}).servo
    let new := (t.rx.getD ch {}).servo
    let e : Rat := ((sumInt (((c.samples.getD ch []).drop 10176).take 1024) : Int) : Rat) / 1024 - (-1792)
    let d : Int := rhe (e * lsbNa (regOf c.objs (K.RX_GAIN ch)) / (25 / 2) * f32Or0 (s.reg K.SERVO_KP))
    let step : Int := s.reg K.SERVO_STEP
    let formed := (st = 1 ∨ st = 2) ∧ bitAt c.powered ch = true ∧ s.locked = true
    let full := formed ∧ new = 16000 ∧ 0 < e
    (st ≠ 2 ∨ ¬formed → new = old)
    ∧ (st = 2 → formed → s.reg (K.SERVO_MODE ch) = 0 → new = s.reg (K.SERVO_FIX ch))
    ∧ (st = 2 → formed → s.reg (K.SERVO_MODE ch) = 1 → (new : Int) = min (max ((old : Int) + min (max d (-step)) step) 0) 16000)
    ∧ (st = 2 → formed → s.reg (K.SERVO_MODE ch) = 2 → new = old)
    ∧ t.reg (K.AMBIENT ch) = new ∧ t.reg (K.AMB_CODE ch) = ambCode new
    ∧ (full → (t.rx.getD ch {}).satRun = min ((s.rx.getD ch {}).satRun + 1) 64)
    ∧ (formed → ¬full → (t.rx.getD ch {}).satRun = 0)
    ∧ (¬formed → (t.rx.getD ch {}).satRun = (s.rx.getD ch {}).satRun)
    ∧ (formed → bitAt (t.reg K.SUN_SAT_MASK) ch = decide ((t.rx.getD ch {}).satRun = 64))
    ∧ (¬formed → (st = 1 ∨ st = 2) → t.reg K.SUN_SAT_MASK = s.reg K.SUN_SAT_MASK)
    ∧ ((st = 0 ∨ st = 3) → bitAt (t.reg K.SUN_SAT_MASK) ch = false)
    ∧ (∀ i, i < 48 → i ≠ ch → bitAt (t.reg K.SUN_SAT_MASK) i = bitAt (s.reg K.SUN_SAT_MASK) i ∧ t.rx.getD i {} = s.rx.getD i {})
    ∧ ∀ k, k ≠ K.AMBIENT ch → k ≠ K.AMB_CODE ch → k ≠ K.SUN_SAT_MASK → k ≠ K.CLIP_SAMPLES ch → t.reg k = s.reg k)
  ∧ (ambCode 0 = 0 ∧ ∀ c, 0 < c → c ≤ 16000 → ∃ p m, p ≤ 13 ∧ m < 16 ∧ 2 ^ p ≤ c ∧ c < 2 ^ (p + 1) ∧ (if 4 ≤ p then m = c / 2 ^ (p - 4) % 16 else m = c * 2 ^ (4 - p) % 16)
    ∧ ambCode c = 16 * p + m + 1)

/-! ### Slot timing and take-overs (chapters 1 and 16) -/

/-- R11, R25, R57, R321: a tick takes what the slot still brings, then the steps of Table 1.3, then the counts of ticks; the slot counter counts by 1 once it
counts and is 0 before, and it counts from the tick at or after the first declaration of PLL A's lock; a slot is one of lock loss as long as that lock is not
declared at its tick; without REFCLK or core die, or where what the slot still brings takes the core die away, no tick comes. R13, R24,
R142, R239, R321: records whose stage has come leave it and count in RECORDS of their channel; a tag of a class is returned, the oldest first, and what a DMA
engine wrote with it counts as moved; the dividers restart once lock is declared in a slot of lock loss. That a tick first takes what the slot still brings, and the order of the three parts, is the model's choice (log 5); that
RECORDS counts whatever the link does with the packet is its reading (log 23). What the echo engines make of a slot: the waveform from the fire sample less its
baseline and its crosstalk (R124, R125), the histogram of a group in its own buffer (R126, R128), the matched filter, threshold, candidates and their widths
(R129 to R132), the near gate, the confirmation, the classes and the selection (R133, R134, R136, R137), which groups give no records (R127), at most eight
records of a channel (R138), the layout of a record (R140), and the dumps (R143). -/
def Obligations.SlotTicks : Prop :=
  ((∀ (s u : State) (i : TickInput), s.ticking = true → u = (s.slotCatchUp.calOsc i.oscCodes).convPeriods i.sense →
    (u.ticking = true → exec (.slotTick i) s = .next (((u.tickChanges i).tickStart i).tickCounts).settle)
    ∧ (u.ticking = false → exec (.slotTick i) s = .next u.settle))
  ∧ (∀ (s : State) (i : TickInput), s.ticking = false → exec (.slotTick i) s = .next s.settle)
  ∧ (∀ s : State, s.clkTick.slot = (if s.counting = true then (s.slot + 1) % 2 ^ 64 else 0) ∧ s.clkTick.counting = (s.counting || s.lockedA || s.clk.declared)
    ∧ s.clkTick.clk.slotLocked = s.lockedA ∧ ∀ k, s.clkTick.reg k = s.reg k)
  ∧ ∀ s : State, s.tickCounts.comet = { s.comet with hold := false } ∧ s.tickCounts.slot = s.slot)
  ∧ ((∀ s : State, s.mode.coreRuns = true → s.pipe.ready.valid = true → s.pipe.ready.pts = true →
    ∃ t : State, exec .pointRecordHandover s = .next t.settle ∧ t.pipe.ready = {} ∧ t.pipe.formed = s.pipe.formed
      ∧ ∀ ch, ch < 48 → t.reg (K.RECORDS ch) = (s.reg (K.RECORDS ch) + (s.pipe.ready.recs.filter fun r => r.ch == ch).length) % 2 ^ 32)
  ∧ (∀ s : State, s.mode.coreRuns = true → s.pipe.ready.valid = false → exec .pointRecordHandover s = .next s.settle)
  ∧ (∀ (s : State) (c : Fin 4) (l r : List Tag) (x : Tag), s.mode.coreRuns = true → s.fs.tags = l ++ x :: r → x.cls = c.val → (∀ y ∈ l, y.cls ≠ c.val) →
    exec (.tagReturn c) s = .next ((if x.bytes = 0 then s else s.put (K.DMA_CUR_DONE (x.master - 0x48)) (s.reg (K.DMA_CUR_DONE (x.master - 0x48)) + x.bytes)).setFs
      { s.fs with tags := l ++ r }).settle)
  ∧ ∀ s : State, s.mode.coreRuns = true → s.lockedA = true → s.clk.slotLocked = false →
    exec .lockedTickResume s = .next ({ s with clk := { s.clk with restarted := true } }).settle)
  ∧ (∀ (before c after : SlotCtx) (ch : Nat) (f : FireCmd), let s0 := 64 + f.dither; let r := shotWave before c after ch f
    r.1 = baselineOf before c ch s0 ∧ r.2.1.size = 11200 ∧ r.2.2.size = 11200
    ∧ ∀ i < 11200, let code := if s0 + i < 11200 then codeOf c.samples ch (s0 + i) else codeOf after.samples ch (s0 + i - 11200)
      r.2.1.getD i 0 = rheDiv (16 * code - r.1) 4 ∧ r.2.2.getD i false = decide (code = -2048 ∨ code = 2047))
  ∧ (∀ (xt : List Int) (x : Array Int) (i : Nat), i < x.size →
    (crosstalkOff xt x).getD i 0 = if i < 64 then x.getD i 0 - xt.getD i 0 else x.getD i 0)
  ∧ (∀ (before c : SlotCtx) (ch s0 : Nat), let l := c.cads.getD ch []
    (regOf c.objs K.BASE_MODE = 1 → baselineOf before c ch s0 = toSigned 16 (regOf c.objs (K.BASE_FIX ch)))
    ∧ (regOf c.objs K.BASE_MODE ≠ 1 → cadenceAt l s0 = none → baselineOf before c ch s0 = -28672)
    ∧ ∀ d, regOf c.objs K.BASE_MODE ≠ 1 → cadenceAt l s0 = some d → let j := (((s0 : Int) - d.at_) / (d.dec : Int)).toNat
      ((j = 0 ∨ j * d.dec < d.len) → baselineOf before c ch s0 = -28672)
      ∧ (0 < j → d.len ≤ j * d.dec → baselineOf before c ch s0 = rheDiv (16 * sumInt ((List.range d.len).map fun k =>
          let i : Int := d.at_ + (j * d.dec : Nat) - 1 - (k : Int)
          if 0 ≤ i then codeOf c.samples ch i.toNat else codeOf before.samples ch (i + 11200).toNat)) d.len))
  ∧ (∀ (d : Cadence) (l : List Cadence) (s0 : Nat), cadenceAt [] s0 = none ∧ cadenceAt (d :: l) s0 = if d.at_ ≤ (s0 : Int) then some d else cadenceAt l s0)
  ∧ (∀ (w : Nat) (h : List Int) (hc : List Bool) (x : Array Int) (cl : Array Bool) (b : Nat), b < 11200 / w →
    (addHist w h x).getD b 0 = h.getD b 0 + sumInt ((List.range w).map fun u => x.getD (b * w + u) 0)
    ∧ ((addClip w hc cl).getD b false = true ↔ hc.getD b false = true ∨ ∃ u < w, cl.getD (b * w + u) false = true))
  ∧ (∀ (k : EchoChan) (c : SlotCtx) (ch w : Nat) (sp : Bool) (shot : Option FireCmd) (wave : Option (Array Int × Array Bool)),
    let t := k.histStep c ch w sp shot wave
    let first := c.groupPos = 1
    let old := if first then [] else k.bufs.getD k.cur []
    let oldClip := if first then [] else k.clips.getD k.cur []
    let n := if first then 0 else k.acc.n
    t.cur = (if first then 1 - k.cur else k.cur) ∧ t.history = k.history
    ∧ ((shot = none ∨ wave = none) → t.acc.n = n ∧ t.bufs.getD t.cur [] = (if first then [] else k.bufs.getD k.cur []))
    ∧ (∀ f x cl, shot = some f → wave = some (x, cl) → t.acc.n = n + 1 ∧ (first → t.bufs.getD t.cur [] = addHist w [] x ∧ t.clips.getD t.cur [] = addClip w [] cl)
      ∧ (¬first → t.bufs.getD t.cur [] = addHist w old x ∧ t.clips.getD t.cur [] = addClip w oldClip cl)))
  ∧ (∀ (tpl : List Int) (z : Array Int) (i : Nat), i < z.size → (matched tpl z).size = z.size
    ∧ (matched tpl z).getD i 0 = rheDiv (sumInt ((List.range tpl.length).map fun t => if 16 ≤ i + t then tpl.getD t 0 * z.getD (i + t - 16) 0 else 0)) 32768)
  ∧ (∀ (b : PlanBank) (a : Nat) (trim : Int) (q n w : Nat),
    threshold b a trim q = max 1 (rheDiv ((((thresholdOf b a).1 + (thresholdOf b a).2 : Nat) + trim) * q) 256) ∧ qFactor false n w = 256
    ∧ (0 < n * w → let r := qFactor true n w; 0 < r ∧ (2 * r - 1) ^ 2 < 4 * (65536 * (n * w)) ∧ 4 * (65536 * (n * w)) < (2 * r + 1) ^ 2))
  ∧ (∀ (a : PassArgs) (y : Array Int) (x : Echo), x ∈ candidates a y ↔ ∃ i, 1 ≤ i ∧ i + 2 ≤ y.size
    ∧ a.thr ≤ y.getD i 0 ∧ y.getD (i - 1) 0 < y.getD i 0 ∧ y.getD (i + 1) 0 ≤ y.getD i 0
    ∧ (let l : Rat := (y.getD (i - 1) 0 : Int); let p : Rat := (y.getD i 0 : Int); let r : Rat := (y.getD (i + 1) 0 : Int)
      let t := rhe ((((i : Rat) + (l - r) / (2 * (l - 2 * p + r))) * (a.w : Rat) + ((a.w : Rat) - 1) / 2) * 64)
      x.bin = i ∧ x.t = t ∧ (x.rng : Int) = min (max (t - a.fine - a.calE - a.calCh) 0) 1048575
      ∧ x.amp = min (rheDiv (y.getD i 0) (a.n * a.w)).toNat 65535 ∧ x.width = widthOf y i a.w ∧ x.cls = 0 ∧ x.unconfirmed = false))
  ∧ (∀ (y : Array Int) (i w : Nat), i < y.size → let p := y.getD i 0
    ((∀ k, 1 ≤ k → k ≤ 64 → i + k < y.size → p ≤ 2 * y.getD (i + k) 0) → widthOf y i w = 1023)
    ∧ ((∀ k, 1 ≤ k → k ≤ 64 → k ≤ i → p ≤ 2 * y.getD (i - k) 0) → widthOf y i w = 1023)
    ∧ ∀ m n, 1 ≤ m → m ≤ 64 → i + m < y.size → 2 * y.getD (i + m) 0 < p → (∀ k, 1 ≤ k → k < m → p ≤ 2 * y.getD (i + k) 0) →
      1 ≤ n → n ≤ 64 → n ≤ i → 2 * y.getD (i - n) 0 < p → (∀ k, 1 ≤ k → k < n → p ≤ 2 * y.getD (i - k) 0) →
      let cut : Int → Int → Rat := fun u v => ((u : Rat) - (p : Rat) / 2) / ((u : Rat) - (v : Rat))
      widthOf y i w = min (rhe ((((m : Rat) - 1 + cut (y.getD (i + (m - 1)) 0) (y.getD (i + m) 0))
        + ((n : Rat) - 1 + cut (y.getD (i - (n - 1)) 0) (y.getD (i - n) 0))) * (w : Rat) * 8)).toNat 1023)
  ∧ (∀ (objs : List (Nat × Nat)) (ch : Nat) (l : List Echo), let g := regOf objs (K.NEAR_GATE ch) * 64
    (regOf objs K.NEAR_MODE = 0 → (gated objs ch l).1.length + (gated objs ch l).2 = l.length ∧ ∀ e, e ∈ (gated objs ch l).1 ↔ e ∈ l ∧ g ≤ e.rng)
    ∧ (regOf objs K.NEAR_MODE ≠ 0 → gated objs ch l = (l, 0)))
  ∧ (∀ (objs : List (Nat × Nat)) (clip : Array Bool) (near : Bool) (e : Echo), let clipped := ∃ j, e.bin ≤ j + 16 ∧ j ≤ e.bin + 15 ∧ clip.getD j false = true
    let soft := regOf objs K.SOFT_WIDTH ≤ e.width ∧ e.amp ≤ regOf objs K.SOFT_AMP
    (clipped → classOf objs clip near e = 4) ∧ (¬clipped → near = true → classOf objs clip near e = 2)
    ∧ (¬clipped → near = false → e.unconfirmed = true → classOf objs clip near e = 3)
    ∧ (¬clipped → near = false → e.unconfirmed = false → soft → classOf objs clip near e = 1)
    ∧ (¬clipped → near = false → e.unconfirmed = false → ¬soft → classOf objs clip near e = 0))
  ∧ (∀ (n : Nat) (last : Bool) (l : List Echo), (l.map (·.bin)).Nodup → let r := selectEchoes n last l
    r.length = min n l.length ∧ (∀ e ∈ r, e ∈ l) ∧ r.Pairwise (fun a b => a.rng < b.rng ∨ (a.rng = b.rng ∧ a.bin < b.bin))
    ∧ (last = false → ∀ a ∈ r, ∀ b ∈ l, b ∉ r → b.amp < a.amp ∨ (a.amp = b.amp ∧ (a.rng < b.rng ∨ (a.rng = b.rng ∧ a.bin < b.bin))))
    ∧ (last = true → 0 < n → l ≠ [] → ∃ x ∈ r, (∀ b ∈ l, b.rng < x.rng ∨ (b.rng = x.rng ∧ x.bin ≤ b.bin))
      ∧ ∀ a ∈ r, a ≠ x → ∀ b ∈ l, b ∉ r → b.amp < a.amp ∨ (a.amp = b.amp ∧ (a.rng < b.rng ∨ (a.rng = b.rng ∧ a.bin < b.bin)))))
  ∧ (∀ (c : SlotCtx) (ch : Nat) (f : FireCmd) (x : Array Int) (clip : Array Bool) (hist : List (List Int)) (n m win : Nat),
    let trim := toSigned 16 (regOf c.objs (K.K0_TRIM ch))
    let a : PassArgs := { w := 1, n := 1, fine := f.fine, calE := regOf c.objs (K.CAL_E f.emitter), calCh := toSigned 16 (regOf c.objs (K.CAL_CH ch))
                          thr := threshold c.bank (c.amb.getD ch 0) trim 256 }
    let d := gated c.objs ch (candidates a (matched (templateOf c.bank f.emitter) x))
    let held := fun (t : Int) => ((hist.take (n - 1)).filter fun q => q.any fun u => decide ((t - u).natAbs ≤ win * 64)).length
    let all := classed c.objs ch clip (d.1.map fun e => { e with unconfirmed := decide (1 + held e.t < m) })
    let r := singlePass c ch f x clip hist (n, m, win)
    r.1 = selectEchoes c.emit.maxEcho c.emit.lastPref all ∧ r.2.1 = d.2 ∧ r.2.2 + r.1.length = all.length)
  ∧ (∀ (c : SlotCtx) (ch e w : Nat) (g : GroupAcc) (h : List Int) (clip : List Bool),
    let trim := toSigned 16 (regOf c.objs (K.K0_TRIM ch))
    let a : PassArgs := { w := w, n := g.n, fine := rheDiv g.fineSum g.n, calE := regOf c.objs (K.CAL_E e), calCh := toSigned 16 (regOf c.objs (K.CAL_CH ch))
                          thr := threshold c.bank g.amb trim (qFactor true g.n w) }
    let d := gated c.objs ch (candidates a (matched (templateOf c.bank e) h.toArray))
    let all := classed c.objs ch clip.toArray d.1
    let r := accumPass c ch e w g h clip
    r.1 = selectEchoes c.emit.maxEcho c.emit.lastPref all ∧ r.2.1 = d.2 ∧ r.2.2 + r.1.length = all.length)
  ∧ (∀ (before c after : SlotCtx) (ch : Nat) (k : EchoChan) (p : Option Progress), let r := chanEcho before c after ch k p
    let lit := c.kind = .slot ∧ litIn c ch = true
    let dropped := c.withheld = true ∨ c.noEcho = true ∨ bitAt c.active ch = false ∨ after.locked = false ∨ bitAt after.takenOver ch = true ∨ bitAt c.noEngine ch = true
    (¬lit → r.accRecs = [] ∧ r.singleRecs = [] ∧ r.lost = 0 ∧ r.gainLost = 0 ∧ r.dump = none ∧ r.chan.bufs = k.bufs)
    ∧ (c.emit.maxEcho ≤ 8 → r.accRecs.length + r.singleRecs.length ≤ 8)
    ∧ (c.single = none → r.singleRecs = []) ∧ ((c.accum = none ∨ c.groupPos = 0) → r.accRecs = [] ∧ r.dump = none ∧ r.lost = 0 ∧ r.gainLost = 0)
    ∧ (∀ x ∈ r.accRecs, x.ch = ch ∧ x.slot = c.frameSlot ∧ bitAt x.flags 0 = true) ∧ (∀ x ∈ r.singleRecs, x.ch = ch ∧ x.slot = c.frameSlot ∧ bitAt x.flags 0 = false)
    ∧ r.accRecs.map (·.echo) = List.range r.accRecs.length ∧ r.singleRecs.map (·.echo) = List.range r.singleRecs.length
    ∧ (bitAt c.active ch = false → r.singleRecs = [] ∧ r.chan.history = [])
    ∧ (∀ n w, lit → c.accum = some (n, w) → 1 ≤ c.groupPos → c.groupPos < n → r.accRecs = [] ∧ r.dump = none
      ∧ (after.groupPos ≠ c.groupPos + 1 → r.lost + r.gainLost = 1) ∧ (after.groupPos = c.groupPos + 1 → r.lost = 0 ∧ r.gainLost = 0))
    ∧ (∀ n w, lit → c.accum = some (n, w) → 1 ≤ c.groupPos → c.groupPos = n → dropped → r.accRecs = [] ∧ r.dump = none ∧ r.lost + r.gainLost = 1)
    ∧ (∀ n w, lit → c.accum = some (n, w) → 1 ≤ c.groupPos → c.groupPos = n → r.chan.acc.lost = true ∨ r.chan.acc.gainLost = true →
      r.accRecs = [] ∧ r.dump = none ∧ r.lost + r.gainLost = 1 ∧ (r.gainLost = 1 ↔ r.chan.acc.gainLost = true))
    ∧ (∀ n w e, lit → emitterOf c.bank ch = some e → c.accum = some (n, w) → 1 ≤ c.groupPos → c.groupPos = n → ¬dropped → r.chan.acc.lost = false →
      r.chan.acc.gainLost = false → p = none → r.lost = 0 ∧ r.gainLost = 0
      ∧ (r.chan.acc.n = 0 → r.accRecs = [])
      ∧ (0 < r.chan.acc.n → r.acc = (accumPass c ch e w r.chan.acc (r.chan.bufs.getD r.chan.cur []) (r.chan.clips.getD r.chan.cur [])).1
        ∧ r.accRecs.map (fun x => (x.rng, x.amp, x.cls, x.width)) = r.acc.map (fun x => (x.rng, x.amp, x.cls, x.width)))
      ∧ (c.emit.hdump = true → 0 < r.chan.acc.n → r.dump = some (w, r.chan.bufs.getD r.chan.cur [])) ∧ (c.emit.hdump = false → r.dump = none))
    ∧ ∀ n m win f, lit → c.single = some (n, m, win) → bitAt c.active ch = true → after.locked = true → shotOf c ch = some f →
      let old := if c.singleReset = true ∨ c.resumed = true ∨ bitAt after.takenOver ch = true then [] else k.history
      (r.acc.length + c.emit.maxEcho ≤ 8 → r.chan.history = (r.single.map (·.t) :: old).take (n - 1))
      ∧ (f.suppressed = true → r.singleRecs = [] ∧ r.chan.history = ([] :: old).take (n - 1)))
  ∧ (∀ x : PointRec, let v := x.value
    bits v 23 0 = x.slot % 2 ^ 24 ∧ bits v 29 24 = x.ch % 64 ∧ bits v 31 30 = 0 ∧ bits v 51 32 = x.rng % 2 ^ 20 ∧ bits v 54 52 = x.echo % 8 ∧ bits v 55 55 = 0
    ∧ bits v 59 56 = x.emitter % 16 ∧ bits v 62 60 = x.cls % 8 ∧ bits v 63 63 = 0 ∧ bits v 79 64 = x.amp % 2 ^ 16 ∧ bits v 89 80 = x.width % 1024 ∧ bits v 95 90 = 0
    ∧ bits v 103 96 = x.flags % 256 ∧ bits v 111 104 = x.amb % 256 ∧ (-32768 ≤ x.angle → x.angle < 32768 → toSigned 16 (bits v 127 112) = x.angle)
    ∧ x.bytes.length = 16 ∧ ofLe x.bytes = v)
  ∧ ∀ s : State, let c := s.pipe.prev; let t := s.enqueueDumps
    ((c.emit.hdump = false ∨ c.accum = none) → t = s)
    ∧ (c.emit.hdump = true → c.accum.isSome = true → t.objs = s.objs ∧ t.fs.queue = s.fs.queue ++ (List.range 48).flatMap fun ch =>
        match (chanEcho s.pipe.prev2 c s.pipe.cur ch (s.pipe.chans.getD ch {}) none).dump with
        | none => []
        | some (w, h) =>
          granulesOf (if s.pipe.cur.ee12 = ch / 4 then 12 else ch / 4) 0 c.emit.hdumpAs
            (s.reg (K.HDUMP_BASE ch) + s.reg (K.HDUMP_COUNT ch) % max 1 (s.reg K.HDUMP_ENTRIES) * 0x10000)
            ((List.range (11200 / max 1 w)).flatMap fun b => leBytes 3 (ofSigned 24 (h.getD b 0))) fun last => .dump ch last)

/-- R109, R144, R183, R418: at the tick to come the one unit of a class whose take-over is due hands its duty over, once no accumulation group of an engine is
in progress and a pipeline's shadow average is complete. R109, R144, R183: what a planned take-over does: the shadow slice takes the slice's positions in the
map, EE12 the engine's channels, a free spare pipeline the pipeline's. R18: the tick itself, with what the slot still brings first, then its changes, its starts and
its counts, which is the model's order (log 5). -/
def Obligations.TakeOvers : Prop :=
  (∀ (s u : State) (x : Nat) (q : List Nat), s.ticking = true → u = s.atTick → u.spares.failWait = [] → u.spares.planned = [(x, q)] → u.plannedDue (x, q) 11200 = true → u.poolOpen x = true →
    (s.classDue 1 = true → unitClass x = 1 →
      exec .sliceSwap s = .next ((u.setSpares { u.spares with planned := [] }).takeOver x false 11200).settle)
    ∧ (s.classDue 3 = true → unitClass x = 3 →
      exec .engineTakeover s = .next ((u.setSpares { u.spares with planned := [] }).takeOver x false 11200).settle)
    ∧ (s.classDue 4 = true → unitClass x = 4 →
      exec .pipelineTakeover s = .next ((u.setSpares { u.spares with planned := [] }).takeOver x false 11200).settle))
  ∧ (∀ (s : State) (i : TickInput), (s.ticking = true → ((s.slotCatchUp.calOsc i.oscCodes).convPeriods i.sense).ticking = true →
      exec (.slotTick i) s = .next (((((s.slotCatchUp.calOsc i.oscCodes).convPeriods i.sense).tickChanges i).tickStart i).tickCounts).settle)
    ∧ (s.ticking = false → exec (.slotTick i) s = .next s.settle))
  ∧ (∀ (s t : State) (at_ : Int),
    (∀ i, i < 12 → t = s.takeOver (0x30000 + i) false at_ → s.underTest (0x30000 + i) = false →
      t.reg K.EE12_FOR = i ∧ t.reg (K.EE_STATE i) = 4 ∧ t.reg K.EE_TAKEOVERS = min (s.reg K.EE_TAKEOVERS + 1) (2 ^ 32 - 1)
      ∧ t.reg K.TAKEOVERS = min (s.reg K.TAKEOVERS + 1) (2 ^ 32 - 1)
      ∧ s.keeps t [K.EE12_FOR, K.EE_STATE i, K.EE_TAKEOVERS, K.TAKEOVERS] ∧ t = { s with objs := t.objs })
    ∧ (∀ i j, i < 24 → j < 2 → t = s.takeOver (0x40000 + i) false at_ → s.underTest (0x40000 + i) = false → s.reg (K.SP_STATE (24 + j)) = 0 → s.reg (K.SPARE_FOR j) = 255 →
      (j = 1 → s.reg (K.SP_STATE 24) ≠ 0 ∨ s.reg (K.SPARE_FOR 0) ≠ 255) →
      t.reg (K.SPARE_FOR j) = i ∧ t.reg (K.SP_STATE i) = 4 ∧ t.reg K.TAKEOVERS = min (s.reg K.TAKEOVERS + 1) (2 ^ 32 - 1)
      ∧ s.keeps t [K.SPARE_FOR j, K.SP_STATE i, K.TAKEOVERS] ∧ t = { s with objs := t.objs })
    ∧ ∀ ch p q, ch < 48 → p < 8 → q < 9 → t = s.takeOver (sliceUnit ch q) false at_ → s.sliceAt ch p = q → (∀ p', p' < p → s.sliceAt ch p' ≠ q) →
      t.reg (K.SLICE_MAP ch) = s.reg (K.SLICE_MAP ch) - q * 16 ^ p + s.shadowSlice ch * 16 ^ p)

/-! ### Spectra, masks and density maps (chapter 6) -/

/-- R149, R156, R163: a spectrum of raw samples that completes enters the average in progress, and the grid moves on by its hop; one of decimator words ends by
the word that completes it; starting the engine starts the grid of every served channel, one of decimator words at its first VALID word. R154, R155: a
silent spectrum has no power, a constant one has its value in bin 0, and every other power lies within the noise that the engine may have, which is the model's
reading of R154 (log 8). R157, R158, R160, R181: the spectrum that completes an average closes it: LINE_SEQ bears its number, the next average starts
from nothing, its entry waits for the Field Store, the values and the lines first and the header that bears its number last, and a third entry waiting is dropped and
counted. That LINE_SEQ follows an entry that is dropped too, and where a dual pipeline's grid of decimator words starts, is the model's choice (log 50). -/
def Obligations.SpectraAndAverages : Prop :=
  ((∀ (s : State) (ch : Fin 48) (c : SpecChan) (pw : List Rat × State), s.mode.coreRuns = true → s.specDue ch = true → c = s.spec1 ch → pw = s.specPowers ch c.next →
    s.reg (K.SP_SRC (ch.val / 2)) ≠ 1 → s.reg (K.DENS_EN ch) ≠ 1 → (s.maskFor c.next).sel.getD ch 0 = 0 → c.count + 1 < s.reg (K.SP_AVG_N (ch.val / 2)) →
    exec (.spectrumComplete ch) s = .next (pw.2.setSpec ch { c with
      next := c.next + (s.specHop ch : Int), words := [], lastStart := c.next, lastEnd := c.next + ((s.specN ch - 1 : Nat) : Int), index := c.index + 1, count := c.count + 1
      first := if c.count = 0 then s.stampAt c.next else c.first, acc := avgAdd (s.avgMode (ch.val / 2)) (c.count == 0) c.acc pw.1
      clipped := c.clipped || s.specClips ch c.next, spare := c.spare || s.specSpare ch }).settle)
  ∧ (∀ (s : State) (ch : Fin 48), s.mode.coreRuns = true → s.reg (K.SP_SRC (ch.val / 2)) ≠ 1 → s.specDue ch = false → exec (.spectrumComplete ch) s = .next s.settle)
  ∧ (∀ (s : State) (ch : Fin 48) (x : Int × Nat × Cadence), s.mode.coreRuns = true → s.reg (K.SP_SRC (ch.val / 2)) = 1 → s.dec.syncReset = none →
    s.nextInstant ch = some x → x.1 = s.wordsEnd ch → x.1 < 11200 →
    exec (.spectrumComplete ch) s = .next ((s.decWord ch).decUntil ch (s.wordsEnd ch + 1) 11199).settle)
  ∧ ∀ s : State, s.ticking = true → s.specStartDue = true →
    ∃ t : State, exec .spectrumEngineStart s = .next t.settle ∧ t.reg K.SPEC_STATE = 1 ∧ t.spec.running = true
      ∧ (∀ ch, ch < 48 → s.atTick.specServed ch = true → (t.spec1 ch).on = true ∧ (t.spec1 ch).index = 0 ∧ (t.spec1 ch).count = 0
        ∧ (t.spec1 ch).next = (if s.atTick.reg (K.SP_SRC (ch / 2)) = 1 then s.atTick.gridFrom (ch / 2) 11200 else 11200)
        ∧ (t.spec1 ch).waitWord = (s.atTick.reg (K.SP_SRC (ch / 2)) == 1))
      ∧ (∀ ch, ch < 48 → s.atTick.specServed ch = false → t.spec1 ch = s.atTick.spec1 ch)
      ∧ s.atTick.keeps t [K.SPEC_STATE])
  ∧ (∀ (s : State) (ch : Nat) (a : Int),
    (constOf (s.specInput ch a) = some 0 → (s.specPowers ch a).1 = List.replicate (s.specN ch / 2) 0)
    ∧ (∀ b, constOf (s.specInput ch a) ≠ some 0 → b < s.specN ch / 2 →
      (∀ c, b = 0 → constOf (s.specInput ch a) = some c → (s.specPowers ch a).1.getD b 0 = c * c / 1048576)
      ∧ ((b ≠ 0 ∨ constOf (s.specInput ch a) = none) → (s.binSpan ch (s.specInput ch a) b).1 ≤ (s.specPowers ch a).1.getD b 0
        ∧ (s.specPowers ch a).1.getD b 0 ≤ max (s.binSpan ch (s.specInput ch a) b).1 (s.binSpan ch (s.specInput ch a) b).2)))
  ∧ ∀ (s t : State) (ch va : Nat), ch < 48 → (s.spec1 ch).count ≠ 0 → s.reg (K.DENS_EN ch) ≠ 2 → (s.maskFor (s.spec1 ch).lastStart).sel.getD ch 0 = 0 →
    (∀ q ∈ s.spares.planned, q.1 ≠ 0x40000 + ch / 2) → t = s.closeAverage ch false →
    va = s.reg (K.SPEC_BASE ch) + (s.spec1 ch).seq % max 1 (s.reg K.SPEC_ENTRIES) * 65536 →
    t.reg (K.LINE_SEQ ch) = (s.spec1 ch).seq ∧ (t.spec1 ch).count = 0 ∧ (t.spec1 ch).acc = [] ∧ (t.spec1 ch).seq = ((s.spec1 ch).seq + 1) % 2 ^ 32
    ∧ (2 ≤ (s.spec1 ch).waiting → t.reg (K.SPEC_DROPPED ch) = min (s.reg (K.SPEC_DROPPED ch) + 1) (2 ^ 32 - 1) ∧ (t.spec1 ch).dropNext = true ∧ t.fs = s.fs)
    ∧ ((s.spec1 ch).waiting < 2 → t.reg (K.SPEC_DROPPED ch) = s.reg (K.SPEC_DROPPED ch) ∧ (t.spec1 ch).dropNext = false
      ∧ (t.spec1 ch).waiting = (s.spec1 ch).waiting + 1 ∧ t.fs.mem = s.fs.mem ∧ fieldAt (s.specHeader ch (s.spec1 ch) false) 20 4 = (s.spec1 ch).seq % 2 ^ 32
      ∧ ∃ lines : List Nat, lines.length = 8 ∧ (∀ i, i < 8 → t.reg (K.LINES ch i) = lines.getD i 0) ∧ t.fs.queue = s.fs.queue
        ++ granulesOf (s.specMaster (ch / 2)) 2 (s.reg K.SPEC_AS) (va + 32) (s.specValues ch (s.spec1 ch) ++ (lines.map (leBytes 8)).flatten) (fun _ => .specBody ch)
        ++ granulesOf (s.specMaster (ch / 2)) 2 (s.reg K.SPEC_AS) va (s.specHeader ch (s.spec1 ch) false) (fun _ => .specHeader ch))

/-- R157, R163: a spectrum of raw samples ends once its last sample is there, and the engine starts at a tick at which it is due. R178: MASKV rises with the violation's stamp, which counts in MASK_VIOL, and falls one hop after the last violation; a rise goes to the trigger engine. R172, R173:
a swap that is due starts a period in the other buffer with the DENS_PERIOD in force (R175) and reports the buffer that freezes, at once where none of its updates waits; one that
still waits for updates gets them first and shows as frozen then, which is the model's choice (log 50); the last granule of an initialisation, once it may issue, ends it, one
that halves reads the frozen buffer before, and one that may not issue waits. -/
def Obligations.MasksAndDensityMaps : Prop :=
  ((∀ (s : State) (ch : Fin 48) (x : Int) (stamp : Nat) (r : List (Int × Nat)), s.mode.coreRuns = true → (s.spec1 ch).violations = (x, stamp) :: r → x < 11200 →
    ∃ t : State, exec (.maskvAssert ch) s = .next t.settle ∧ t.regBit K.MASKV_NOW ch = true ∧ t.reg (K.MASKV_LAST ch) = stamp
      ∧ t.reg (K.MASK_VIOL ch) = min (s.reg (K.MASK_VIOL ch) + 1) (2 ^ 32 - 1) ∧ (t.spec1 ch).violations = r
      ∧ (∀ n, n < 48 → n ≠ ch.val → t.regBit K.MASKV_NOW n = s.regBit K.MASKV_NOW n)
      ∧ (s.regBit K.MASKV_NOW ch = false →
        t.trg = { s.trg with arrivals := arrive { cc := max (x / 4) (s.trg.clock + 1), pos := ch, src := 3, stamp := stamp } s.trg.arrivals })
      ∧ s.keeps t [K.MASKV_NOW, K.MASKV_LAST ch, K.MASK_VIOL ch])
  ∧ (∀ (s : State) (ch : Fin 48), s.mode.coreRuns = true → s.maskvEnds ch = true →
    ∃ t : State, exec (.maskvExpire ch) s = .next t.settle ∧ t.regBit K.MASKV_NOW ch = false
      ∧ (∀ n, n < 48 → n ≠ ch.val → t.regBit K.MASKV_NOW n = s.regBit K.MASKV_NOW n) ∧ s.keeps t [K.MASKV_NOW] ∧ t.spec = s.spec)
  ∧ (∀ (s : State) (ch : Fin 48), s.mode.coreRuns = true → s.maskvEnds ch = false → exec (.maskvExpire ch) s = .next s.settle)
  ∧ (∀ (s : State) (ch : Fin 48), s.mode.coreRuns = true → s.reg (K.SP_SRC (ch.val / 2)) ≠ 1 →
    (s.specDue ch = true → exec (.spectrumComplete ch) s = .next (s.specComplete ch).settle) ∧ (s.specDue ch = false → exec (.spectrumComplete ch) s = .next s.settle))
  ∧ ∀ s : State, s.ticking = true → s.specStartDue = true → exec .spectrumEngineStart s = .next (s.atTick.specStart).settle)
  ∧ (∀ (s : State) (ch : Fin 48), s.mode.coreRuns = true → s.densSwapDue ch = true →
    ∃ t : State, exec (.densitySwap ch) s = .next t.settle
      ∧ ((s.dens1 ch).adds = [] → t.reg (K.DENS_SEQ ch) = (s.reg (K.DENS_SEQ ch) + 1) % 2 ^ 32
        ∧ t.reg (K.DENS_FROZEN ch) = (s.dens1 ch).working ∧ t.reg (K.DENS_TAKEN ch) = (s.dens1 ch).taken ∧ t.reg (K.DENS_T0 ch) = (s.dens1 ch).first
        ∧ s.keeps t [K.DENS_SEQ ch, K.DENS_FROZEN ch, K.DENS_TAKEN ch, K.DENS_T0 ch])
      ∧ ((s.dens1 ch).adds ≠ [] → s.keeps t [])
      ∧ t.dens1 ch = { started := true, period := s.reg (K.DENS_PERIOD ch), working := 1 - (s.dens1 ch).working, stride := (s.dens1 ch).stride, init := some 0
                       halve := s.reg (K.DENS_DECAY ch) == 1, late := if (s.dens1 ch).adds = [] then [] else [(s.dens1 ch).present] }
      ∧ t.fs = s.fs)
  ∧ (∀ (s : State) (ch : Nat) (j0 j : DensJob) (l : List DensJob), (s.dens1 ch).late = j0 :: l →
    (j.over = true → s.densPut ch j = ((((s.put (K.DENS_SEQ ch) ((s.reg (K.DENS_SEQ ch) + 1) % 2 ^ 32)).put (K.DENS_FROZEN ch) j.buf).put (K.DENS_TAKEN ch) j.taken).put
      (K.DENS_T0 ch) j.first).densShow ch l)
    ∧ (j.over = false → s.densPut ch j = s.setDens ch { s.dens1 ch with late := j :: l }))
  ∧ ∀ (s : State) (ch : Fin 48) (cc : Fin 2800) (ecc : Ecc) (k : Nat), s.mode.coreRuns = true → (s.dens1 ch).started = true → (s.dens1 ch).late = [] →
    (s.dens1 ch).init = some k →
    (s.densMay ch = true → densGranules ≤ k + 1 → (s.dens1 ch).halve = false ∨ (s.dens1 ch).held ≠ [] →
      ∃ t : State, exec (.densityInitDone ch { cc, ecc }) s = .next t.settle ∧ (t.dens1 ch).init = none ∧ (t.dens1 ch).working = (s.dens1 ch).working
        ∧ (t.dens1 ch).adds = (s.dens1 ch).adds ∧ (t.dens1 ch).taken = (s.dens1 ch).taken)
    ∧ (s.densMay ch = true → densGranules ≤ k + 1 → (s.dens1 ch).halve = true → (s.dens1 ch).held = [] →
      ∃ t : State, exec (.densityInitDone ch { cc, ecc }) s = .next t.settle ∧ ((t.dens1 ch).init = none ∨ (t.dens1 ch).init = some k ∧ (t.dens1 ch).held ≠ [])
        ∧ (t.dens1 ch).working = (s.dens1 ch).working ∧ (t.dens1 ch).adds = (s.dens1 ch).adds ∧ (t.dens1 ch).taken = (s.dens1 ch).taken)
    ∧ (s.densMay ch = false → exec (.densityInitDone ch { cc, ecc }) s = .next s.settle)

/-! ### Triggers, capture and decimators (chapters 7 and 8) -/

/-- R187, R351: the state of a comparator, with its polarity, its level less LEVEL_OFS and its hysteresis; an input equal to the level has crossed it, and a threshold
that changes judges the last input, which is the model's reading (log 26). R186, R187, R188, R189: a crossing changes the comparator's state and sends
LEVEL and, into the true state, SLOPE with its stamp to the trigger engine, which they reach 40 cc later; one within 2 ns of the one before is
lost and counted; an edge on TRIG_IN of the selected polarity after a level of at least 2 ns and the timer's pulse send theirs; what arrives sets the
engine's state and takes the stamp, unless it came in a slot of lock loss. -/
def Obligations.TriggerSources : Prop :=
  (∀ (s : State) (ch : Nat) (v l : Int), l = s.regI 16 (K.COMP_LEVEL ch) - s.regI 8 (K.LEVEL_OFS ch) →
    (s.reg (K.COMP_POL ch) = 0 → s.compState ch false v = decide (l ≤ v) ∧ s.compState ch true v = decide (l - (s.reg (K.COMP_HYST ch) : Int) ≤ v))
    ∧ (s.reg (K.COMP_POL ch) ≠ 0 → s.compState ch false v = decide (v ≤ l) ∧ s.compState ch true v = decide (v ≤ l + (s.reg (K.COMP_HYST ch) : Int))))
  ∧ (∀ (s t : State) (ch : Nat) (v cc : Int) (was up : Bool), ch < 48 → s.trg.inputs.getD ch none = some v → was = s.trg.comp.getD ch false → up = s.compState ch was v →
    t = s.compCommit [ch] cc →
    (up = was → t = s)
    ∧ (up ≠ was → t.trg.comp.getD ch false = up ∧ t.trg.level = s.trg.level ∧ s.keeps t []
      ∧ t.trg.arrivals = arrive { cc := max (256 * cc / 256 + 40) (s.trg.clock + 1), pos := ch, src := 0, on := up, stamp := s.stampFt (256 * cc)
                                  stamped := s.chanLive ch && s.locked } s.trg.arrivals))
  ∧ (∀ (s : State) (ch : Fin 48) (v : Int) (code : Fin 128) (next : Fin 11201) (e : Int) (was up : Bool), s.mode.coreRuns = true → s.chanLive ch = true → s.locked = true →
    s.calTakes ch = false → e = s.tdcPlace ch code next → was = s.trg.comp.getD ch false → up = s.compState ch was v →
    (up ≠ was → (∀ l, s.trg.lastCross.getD ch none = some l → 128 ≤ (e - l).natAbs) →
      ∃ t : State, exec (.comparatorCrossing ch v code next) s = .next t.settle ∧ t.trg.comp.getD ch false = up ∧ t.trg.lastCross.getD ch none = some e
        ∧ ({ cc := max (e / 256 + 40) (s.trg.clock + 1), pos := ch, src := 0, on := up, stamp := s.stampFt e } : Arrival) ∈ t.trg.arrivals
        ∧ (up = true → ({ cc := max (e / 256 + 40) (s.trg.clock + 1), pos := ch, src := 1, stamp := s.stampFt e } : Arrival) ∈ t.trg.arrivals)
        ∧ (∀ a ∈ s.trg.arrivals, a ∈ t.trg.arrivals) ∧ t.trg.level = s.trg.level ∧ s.keeps t [])
    ∧ (∀ l, up ≠ was → s.trg.lastCross.getD ch none = some l → (e - l).natAbs < 128 →
      exec (.comparatorCrossing ch v code next) s = .next (({ s with trg := { s.trg with inputs := setAt none s.trg.inputs ch (some v) } }).put (K.COMP_LOST ch)
        (min (s.reg (K.COMP_LOST ch) + 1) (2 ^ 32 - 1))).settle)
    ∧ (up = was → exec (.comparatorCrossing ch v code next) s = .next ({ s with trg := { s.trg with inputs := setAt none s.trg.inputs ch (some v) } }).settle))
  ∧ (∀ (s : State) (rising : Bool) (held : Nat) (code : Fin 128) (next : Fin 11201) (e : Int), s.mode.coreRuns = true →
    e = (if s.calTakesTdc = true then 64 * (next.val : Int) else s.tdcPlace 48 code next) →
    (s.locked = true → rising = (s.reg K.EXT_POL == 0) → 3584 ≤ 5 * held →
      exec (.trigInEdge rising held code next) s = .next ({ s with trg := { s.trg with
        arrivals := arrive { cc := max (e / 256 + 40) (s.trg.clock + 1), pos := 48, stamp := s.stampFt e } s.trg.arrivals } }).settle)
    ∧ ((s.locked = false ∨ rising ≠ (s.reg K.EXT_POL == 0) ∨ 5 * held < 3584) → exec (.trigInEdge rising held code next) s = .next s.settle))
  ∧ (∀ s : State, s.mode.coreRuns = true → s.trigRuns = true → s.trg.timerNext < 2800 → s.locked = true →
    exec .trigTimerExpire s = .next ({ s with trg := { s.trg with
      timerNext := s.trg.timerNext + (max 1 (s.reg K.TRIG_TIMER) : Nat)
      arrivals := arrive { cc := max (s.trg.timerNext + 40) (s.trg.clock + 1), pos := 50, stamp := s.stampFt (256 * s.trg.timerNext) } s.trg.arrivals } }).settle)
  ∧ ∀ (s t : State) (a : Arrival), t = s.sees a →
    (a.src = 0 → a.pos < 48 → t.trg.level.getD a.pos false = a.on)
    ∧ (a.src = 3 → bitAt t.trg.maskv a.pos = a.on)
    ∧ (a.on = true → a.stamped = true → storeGet t.trg.stamps (4 * a.pos + a.src) = some a.stamp)
    ∧ ((a.on = false ∨ a.stamped = false) → t.trg.stamps = s.trg.stamps)

/-- R192, R193, R194: a stage counts a hit when its pattern comes to match, not before its hold-off is over; the hit that makes its count enters the next
stage in the cc that follows, or after the last one declares a trigger two cc later, of the stage's reference position or with COMB 1 of the earliest one
that rose; a stage that runs out of time counts in TRIG_TIMEOUTS and stage 0 is
entered. R194, R197, R200, R206: the first trigger of a capture sets T, its position and its stamp, starts POST and raises TRIG_OUT unless that is off; a
later one is ignored and counted; the samples before it are staged first, which is the model's order (log 5). TRIG_OUT in pulse mode and SLOT_OUT fall at the end
of their pulses, SLOT_OUT to rise again with the pulse that follows, if one waits. -/
def Obligations.TriggerProgram : Prop :=
  ((∀ (s : State) (now : Int) (pulses rose : List (Nat × Nat)) (p : TrigProg) (c n : Nat), p = s.trg.prog → c = s.reg (K.TRIG_CTRL p.stage) → n = bits c 63 48 →
    p.declare = none → p.entered ≤ now →
    (s.stageMatch p.stage pulses = true → p.matched = false → (bits c 47 24 : Int) ≤ now - p.entered → n = p.hits + 1 → p.stage + 1 < s.reg K.TRIG_NSTAGES →
      s.progCc now pulses rose = s.setProg { stage := p.stage + 1, entered := now + 1 })
    ∧ (s.stageMatch p.stage pulses = true → p.matched = false → (bits c 47 24 : Int) ≤ now - p.entered → n = p.hits + 1 → s.reg K.TRIG_NSTAGES ≤ p.stage + 1 →
      (bitAt c 17 = false →
        s.progCc now pulses rose = s.setProg { p with hits := n, matched := true, declare := some (now + 2, bits c 23 18, s.stampOf p.stage (bits c 23 18)) })
      ∧ (∀ q, bitAt c 17 = true →
        s.earliest p.stage ((List.range 52).filter fun k => s.stagePat p.stage k == 1 && rose.contains (k, if k < 48 then s.stageSrc p.stage k else 0)) = some q →
        s.progCc now pulses rose = s.setProg { p with hits := n, matched := true, declare := some (now + 2, q, s.stampOf p.stage q) }))
    ∧ (s.stageMatch p.stage pulses = true → p.matched = false → (bits c 47 24 : Int) ≤ now - p.entered → n ≠ p.hits + 1 →
      s.progCc now pulses rose = s.setProg { p with hits := p.hits + 1, matched := true })
    ∧ ((s.stageMatch p.stage pulses = false ∨ p.matched = true ∨ now - p.entered < (bits c 47 24 : Int)) →
      s.progCc now pulses rose = s.setProg { p with matched := s.stageMatch p.stage pulses }))
  ∧ (∀ (s : State) (a : HostAt), s.accepts K.TRIG_SOFT (a.write 1 1) = true →
    exec (.trigSoft a) s = .next (noteResult a.path (0, { s with trg := { s.trg with softDue := true } })).settle)
  ∧ ∀ (s : State) (e : Int), s.mode.coreRuns = true → e = s.trg.prog.entered + (s.reg (K.TRIG_WITHIN s.trg.prog.stage) : Int) →
    (s.reg (K.TRIG_WITHIN s.trg.prog.stage) ≠ 0 → e < 2800 → s.trigRuns = true → s.trigQuiet e = true → s.trg.prog.declare = none →
      s.stageMatch s.trg.prog.stage [] = false → s.stageMatch 0 [] = false →
      ∃ t : State, exec .trigStageTimeout s = .next t.settle ∧ t.reg K.TRIG_TIMEOUTS = min (s.reg K.TRIG_TIMEOUTS + 1) (2 ^ 32 - 1) ∧ t.reg K.TRIG_STAGE = 0
        ∧ t.trg = { s.trg with prog := { stage := 0, entered := e }, clock := e, seen := s.statesTrue } ∧ t.cap = s.cap ∧ s.keeps t [K.TRIG_TIMEOUTS, K.TRIG_STAGE])
    ∧ ((s.reg (K.TRIG_WITHIN s.trg.prog.stage) = 0 ∨ 2800 ≤ e) → exec .trigStageTimeout s = .next s.settle))
  ∧ ((∀ (s v : State) (now : Int) (pos stamp : Nat), s.mode.coreRuns = true → s.trg.prog.declare = some (now, pos, stamp) → now < 2800 → s.trigQuiet now = true →
    v = s.capFeed (4 * now - s.cap.origin) →
    (v.reg K.TRIG_STATE = 2 →
      ∃ t : State, exec .triggerDeclare s = .next t.settle ∧ t.reg K.TRIG_STATE = 3 ∧ t.reg K.TRIG_LAST = stamp ∧ t.reg K.TRIG_LAST_POS = pos ∧ t.reg K.CAP_DRAINED = 0
        ∧ t.cap.trig = some (pos, stamp, v.sampleOf stamp) ∧ t.trg.out = (v.trg.out || v.reg K.TRIG_OUT_MODE != 0)
        ∧ (v.reg K.TRIG_OUT_MODE ≠ 0 → t.trg.outEnd = now + 6 + (v.reg K.TRIG_OUT_WIDTH : Int)) ∧ t.trg.prog = { stage := 0, entered := now + 1 }
        ∧ v.keeps t [K.TRIG_STATE, K.TRIG_STAGE, K.TRIG_LAST, K.TRIG_LAST_POS, K.CAP_DRAINED])
    ∧ ((v.reg K.TRIG_STATE = 3 ∨ v.reg K.TRIG_STATE = 4) →
      ∃ t : State, exec .triggerDeclare s = .next t.settle ∧ t.reg K.TRIG_IGNORED = min (v.reg K.TRIG_IGNORED + 1) (2 ^ 32 - 1)
        ∧ t.cap = { v.cap with ignored := incSat 32 v.cap.ignored, ignoredFirst := if v.cap.ignored = 0 then stamp else v.cap.ignoredFirst }
        ∧ t.trg.out = v.trg.out ∧ v.keeps t [K.TRIG_IGNORED, K.TRIG_STAGE]))
  ∧ (∀ s : State, s.mode.coreRuns = true →
    (s.reg K.TRIG_OUT_MODE = 1 → exec .trigOutPulseEnd s = .next ({ s with trg := { s.trg with out := false } }).settle)
    ∧ (s.reg K.TRIG_OUT_MODE ≠ 1 → exec .trigOutPulseEnd s = .next s.settle))
  ∧ ∀ s : State, s.mode.coreRuns = true →
    (s.trg.slotRises = [] → exec .slotOutPulseEnd s = .next ({ s with trg := { s.trg with slotOut := false } }).settle)
    ∧ ∀ p l, s.trg.slotRises = p :: l → exec .slotOutPulseEnd s = .next ({ s with trg := { s.trg with slotEnd := p.2, slotRises := l } }).settle)

/-- R196, R201: CAP_ARM asks for a capture while TRIG_STATE is IDLE in a running mode and nothing otherwise; the capture is armed, or armed again, at its tick
with sample 0 of the slot that starts; CAP_STOP asks for its end. R201, R202: a capture of raw samples is complete once sample T + POST lies in the present
slot or before it, as far as draining and the staging buffer let it be kept, and ends with OVERFLOW when its staging buffer is full; CAP_DRAINED only rises; what comes before the cc of either in the slot comes first (log 5). R201, R203,
R205: once no sample waits for the Field Store the header is written, as its bank grants it, and stands in CAP_LAST_HDR even where the write faults; CAP_SEQ is
its number, TRIG_STATE becomes IDLE or, with CAP_MODE 1, ARMING, and a triggered capture counts. -/
def Obligations.Captures : Prop :=
  ((∀ (s : State) (a : HostAt), s.accepts K.CAP_CTRL (a.write 1 1) = true →
    (s.reg K.TRIG_STATE = 0 → s.mode.isRunning = true →
      exec (.capArm a) s = .next (noteResult a.path (0, (s.put K.TRIG_STATE 1).setCap { s.cap with armTicks := ticksAfter a.cc, rearm := false })).settle)
    ∧ ((s.reg K.TRIG_STATE ≠ 0 ∨ s.mode.isRunning = false) → exec (.capArm a) s = .next (noteResult a.path (0, s)).settle))
  ∧ (∀ (s : State) (a : HostAt), s.accepts K.CAP_CTRL (a.write 1 2) = true →
    (s.reg K.TRIG_STATE = 1 ∨ s.reg K.TRIG_STATE = 2 ∨ s.reg K.TRIG_STATE = 3 →
      exec (.capStop a) s = .next (noteResult a.path (0, { s with cap := { s.cap with stopTicks := ticksAfter a.cc } })).settle)
    ∧ ((s.reg K.TRIG_STATE = 0 ∨ 4 ≤ s.reg K.TRIG_STATE) → exec (.capStop a) s = .next (noteResult a.path (0, s)).settle))
  ∧ ∀ s u : State, s.ticking = true → s.armDue = true → u = s.atTick → u.armDue = true →
    ∃ t : State, (s.cap.rearm = false → exec .captureArmTick s = .next t.settle) ∧ (s.cap.rearm = true → exec .captureRearm s = .next t.settle) ∧ t.reg K.TRIG_STATE = 2 ∧ t.reg K.CAP_WRITTEN = 0
      ∧ t.cap = { seq := u.cap.seq, origin := 11200, decs := (List.range 48).map fun ch => u.reg (K.DEC_D ch) }
      ∧ t.trg.timerNext = 2800 + (max 1 (u.reg K.TRIG_TIMER) : Nat) ∧ t.trg.prog = { stage := 0, entered := 2800 } ∧ u.keeps t [K.TRIG_STATE, K.TRIG_STAGE, K.CAP_WRITTEN])
  ∧ ((∀ (s : State) (g : Int), s.mode.coreRuns = true → s.reg K.TRIG_STATE = 3 → s.capWords = false → s.capGoal = some g → s.cap.origin + g < 11200 →
    s.trigUpTo ((s.cap.origin + g) / 4) = s → g + 1 ≤ (s.cap.staged + s.stageRoom : Nat) → (∀ m, s.drainLimit = some m → g + 1 ≤ (s.cap.start + m : Nat)) →
    ∃ t : State, exec .captureComplete s = .next t.settle ∧ t.reg K.TRIG_STATE = 4 ∧ t.cap.ended = some .complete ∧ t.cap.last = g
      ∧ t.reg K.CAP_WRITTEN ≤ s.capCount g ∧ s.keeps t [K.TRIG_STATE, K.CAP_WRITTEN] ∧ t.penn = s.penn)
  ∧ (∀ (s u : State) (cc : Fin 2800), s.mode.coreRuns = true → u = s.capReach cc → u.capOn = true → u.drainLimit = none → u.capChans ≠ [] → 524288 ≤ u.capStagedBytes →
    ∃ t : State, exec (.captureOverflow cc) s = .next t.settle ∧ t.reg K.TRIG_STATE = 4 ∧ t.cap.ended = some .overflow ∧ t.cap.last = (u.capTaken : Int) - 1
      ∧ bitAt t.penn.sticky 19 = true ∧ u.keeps t [K.TRIG_STATE, K.CAP_WRITTEN])
  ∧ ∀ (s u : State) (w : HostWrite), s.accepts K.CAP_DRAINED w = true → u = s.capReach w.cc →
    (u.reg K.CAP_DRAINED ≤ ofLe w.data → exec (.capDrainedWrite w) s = .next (noteResult w.path (0, u.put K.CAP_DRAINED (ofLe w.data))).settle)
    ∧ (ofLe w.data < u.reg K.CAP_DRAINED → exec (.capDrainedWrite w) s = .next (noteResult w.path (0, u)).settle))
  ∧ (∀ (s : State) (cc : Fin 2800) (ecc : Ecc) (again : Bool), s.mode.coreRuns = true → s.headerDue = true → again = (s.reg K.CAP_MODE == 1 && s.mode.isRunning) →
    (s.mayIssue 1 0x18 (s.reg K.CAP_AS) s.headerVa = true →
      ∃ t : State, exec (.captureHeaderWritten cc ecc) s = .next t.settle ∧ t.dom K.CAP_LAST_HDR = s.captureHeader ∧ t.reg K.CAP_SEQ = s.cap.seq
        ∧ t.reg K.TRIG_STATE = (if again = true then 1 else 0)
        ∧ t.reg K.TRIG_COUNT = (if s.cap.trig.isSome = true then (s.reg K.TRIG_COUNT + 1) % 2 ^ 32 else s.reg K.TRIG_COUNT)
        ∧ t.cap = { seq := (s.cap.seq + 1) % 2 ^ 32, rearm := again } ∧ t.trg = s.trg)
    ∧ (s.mayIssue 1 0x18 (s.reg K.CAP_AS) s.headerVa = false → exec (.captureHeaderWritten cc ecc) s = .next s.settle))

/-- R210, R211, R213, R214, R215, R217: an instant of the present slot before which no reset lies makes a word, VALID once the window is full, whose value is the rounded
mean times 16;
an accepted edge sets the reset sample 16 samples after the cc that sees it and a short or early one is ignored and counted, while PLL A is locked and REFCLK
present; at the reset sample every channel
restarts with its L and D; DEC_SYNC asks for the reset of a tick. -/
def Obligations.Decimation : Prop :=
  (∀ (s : State) (ch : Fin 48) (i : Int) (j : Nat) (c : Cadence), s.mode.coreRuns = true → s.nextInstant ch = some (i, j, c) → i < 11200 →
    (∀ r, s.dec.syncReset = some r → i < (r : Int)) →
    (c.len ≤ j * c.dec → ∃ t : State, exec (.decimationInstant ch) s = .next t.settle ∧ t.reg (K.DEC_LAST ch) = ofSigned 16 (s.decSum ch c.len i)
      ∧ t.reg (K.DEC_STATE ch) = 2 ∧ t.dec1 ch = { s.dec1 ch with done := j }
      ∧ (s.reg (K.SP_SRC (ch.val / 2)) ≠ 1 → s.capWords = false → s.keeps t [K.DEC_LAST ch, K.DEC_STATE ch]))
    ∧ (j * c.dec < c.len → ∃ t : State, exec (.decimationInstant ch) s = .next t.settle ∧ t.dec1 ch = { s.dec1 ch with done := j } ∧ s.keeps t []))
  ∧ (∀ (s : State) (rising : Bool) (cc : Fin 2800), s.mode.coreRuns = true → s.dec.running = true →
    (s.lockedA = true → s.reg K.REF_STATE = 1 → s.reg K.SYNC_IN_MODE = (if rising = true then 1 else 2) →
      ((∀ e, s.dec.lastEdge = some e → e + 2 ≤ (cc.val : Int)) → (∀ e, s.dec.lastTaken = some e → e + 16 ≤ (cc.val : Int)) →
        ∃ t : State, exec (.syncInEdge rising cc) s = .next t.settle ∧ t.dec.syncReset = some (4 * (cc.val + 4)) ∧ t.dec.lastTaken = some (cc.val : Int)
          ∧ t.reg K.SYNC_IGNORED = s.reg K.SYNC_IGNORED)
      ∧ (((∃ e, s.dec.lastEdge = some e ∧ (cc.val : Int) < e + 2) ∨ ∃ e, s.dec.lastTaken = some e ∧ (cc.val : Int) < e + 16) →
        exec (.syncInEdge rising cc) s = .next (({ s with dec := { s.dec with lastEdge := some (cc.val : Int) } }).put K.SYNC_IGNORED
          (min (s.reg K.SYNC_IGNORED + 1) (2 ^ 32 - 1))).settle))
    ∧ ((s.lockedA = false ∨ s.reg K.REF_STATE ≠ 1) → exec (.syncInEdge rising cc) s = .next s.settle))
  ∧ (∀ (s : State) (r : Nat), s.mode.coreRuns = true → s.dec.syncReset = some r → r < 11200 →
    ∃ t : State, exec .decimatorReset s = .next t.settle ∧ t.reg K.SYNC_COUNT = (s.reg K.SYNC_COUNT + 1) % 2 ^ 32 ∧ t.reg K.SYNC_LAST = s.stampAt r ∧ t.dec.syncReset = none
      ∧ ∀ ch, ch < 48 → t.reg (K.DEC_RESET_LAST ch) = s.stampAt r ∧ t.reg (K.DEC_STATE ch) = 1 ∧ (t.dec1 ch).done = 0
        ∧ (t.dec1 ch).cads.head? = some { at_ := r, len := max 1 (s.reg (K.DEC_L ch)), dec := max 1 (s.reg (K.DEC_D ch)) })
  ∧ ∀ (s : State) (a : HostAt), s.accepts K.DEC_SYNC (a.write 1 1) = true →
    (s.dec.syncTicks = 0 → exec (.decSync a) s = .next (noteResult a.path (0, { s with dec := { s.dec with syncTicks := ticksAfter a.cc } })).settle)
    ∧ (s.dec.syncTicks ≠ 0 → exec (.decSync a) s = .next (noteResult a.path (0, s)).settle)

/-! ### The Field Store and DMA (chapter 9) -/

/-- R231: of the masters that ask for a bank it grants one of the highest class, the next in turn. The granule that a bank grants leaves the queue and,
translated as it issues, is written with its master's reaction, read for its master, or faults and is recorded; a grant of the density engine, of a DMA engine or of the
capture's header makes their next step, which log 22 names; a bank with nothing to grant changes nothing beyond what a running capture has of the slot by then (log 5). -/
def Obligations.GranuleGrants : Prop :=
  (∀ (s : State) (bank : Nat) (l : List (Nat × Nat)) (c m : Nat), s.grantFrom bank l = some (c, m) →
    (c, m) ∈ l ∧ (∀ x ∈ l, c ≤ x.1)
    ∧ (storeGet s.fs.turns (bank * 4 + c) = none → ∀ x ∈ l, x.1 = c → m ≤ x.2)
    ∧ (∀ last, storeGet s.fs.turns (bank * 4 + c) = some last →
      (last < m → ∀ x ∈ l, x.1 = c → last < x.2 → m ≤ x.2) ∧ (m ≤ last → ∀ x ∈ l, x.1 = c → x.2 ≤ last ∧ m ≤ x.2)))
  ∧ ∀ (s u : State) (bank : Fin 48) (cc : Fin 2800) (ecc : Ecc), s.mode.coreRuns = true → u = s.capReach cc →
    (u.grant bank = none → exec (.granuleIssue bank cc ecc) s = .next u.settle)
    ∧ (∀ c m l r g v, u.grant bank = some (c, m) → m ≠ densMaster → m < 0x48 → u.fs.queue = l ++ g :: r → g.master = m → (∀ x ∈ l, x.master ≠ m) →
      v = (u.setFs { u.fs with queue := l ++ r }).issued g.cls m g.space g.va →
      (∀ x, g.write = true → v.writeGranule ecc m g.cls g.space g.va g.data = .ok x → exec (.granuleIssue bank cc ecc) s = .next (x.granuleDone g).settle)
      ∧ (∀ b x, g.write = false → v.readGranule ecc m g.cls g.space g.va 64 false = .ok (b, x) → exec (.granuleIssue bank cc ecc) s = .next (x.granuleDone g).settle)
      ∧ ∀ f p syn x, (g.write = true ∧ v.writeGranule ecc m g.cls g.space g.va g.data = .error (f, p, syn, x)
          ∨ g.write = false ∧ v.readGranule ecc m g.cls g.space g.va 64 false = .error (f, p, syn, x)) →
        exec (.granuleIssue bank cc ecc) s = .next ((x.granuleFault cc f m g.space g.cls g.write g.resumed g.va p syn g.done).granuleLost g).settle)
    ∧ (∀ c ch l, u.grant bank = some (c, densMaster) → u.densHeads bank = ch :: l → exec (.granuleIssue bank cc ecc) s = .next (u.densStep ch cc ecc).settle)
    ∧ (∀ c e, u.grant bank = some (c, 0x48 + e) → exec (.granuleIssue bank cc ecc) s = .next (u.dmaStep e cc ecc).settle)
    ∧ ∀ c m, u.grant bank = some (c, m) → m ≠ densMaster → m < 0x48 → (∀ x ∈ u.fs.queue, x.master ≠ m) →
      exec (.granuleIssue bank cc ecc) s = .next (u.headerIssue cc ecc).settle

/-- R222, R225, R244: a granule that is written reads back at the physical address its translation gives, takes a tag of its class and mends whole words, and
every byte outside it and outside the mirror of a bank that is being copied keeps its value: no word that it covers stays uncorrectable, there and in the mirror, and no
other word is mended. R24, R239: a transaction that completes returns the oldest tag of its class, and what a DMA engine wrote with it counts as moved; with none of
it in flight nothing changes. -/
def Obligations.GranulesStored : Prop :=
  (∀ (s t : State) (ecc : Ecc) (master cls space va pa : Nat) (d : List Byte), s.translate space va true false = .ok pa → s.writeGranule ecc master cls space va d = .ok t →
    pa % 64 + d.length ≤ 64 →
    memRead t.fs.mem pa d.length = d
    ∧ t.fs.tags = s.fs.tags ++ [{ cls := cls, master := master, pbank := pa / bankBytes, space := space, page := va / 65536 }]
    ∧ (∀ a, (a < pa ∨ pa + d.length ≤ a) → s.mirrored (pa / bankBytes) = none → memGet t.fs.mem a = memGet s.fs.mem a)
    ∧ (∀ q a, s.mirrored (pa / bankBytes) = some q → (a < pa ∨ pa + d.length ≤ a) → (a < q * bankBytes + pa % bankBytes ∨ q * bankBytes + pa % bankBytes + d.length ≤ a) →
      memGet t.fs.mem a = memGet s.fs.mem a)
    ∧ (∀ q, s.mirrored (pa / bankBytes) = some q → memRead t.fs.mem (q * bankBytes + pa % bankBytes) d.length = d)
    ∧ (∀ x ∈ t.fs.bad, ¬(pa ≤ 8 * x.1 ∧ 8 * x.1 + 8 ≤ pa + d.length))
    ∧ (∀ q, s.mirrored (pa / bankBytes) = some q → ∀ x ∈ t.fs.bad, ¬(q * bankBytes + pa % bankBytes ≤ 8 * x.1 ∧ 8 * x.1 + 8 ≤ q * bankBytes + pa % bankBytes + d.length))
    ∧ (∀ x ∈ s.fs.bad, ¬(pa ≤ 8 * x.1 ∧ 8 * x.1 + 8 ≤ pa + d.length) →
      (∀ q, s.mirrored (pa / bankBytes) = some q → ¬(q * bankBytes + pa % bankBytes ≤ 8 * x.1 ∧ 8 * x.1 + 8 ≤ q * bankBytes + pa % bankBytes + d.length)) → x ∈ t.fs.bad)
    ∧ t.fs.queue = s.fs.queue ∧ t.doms = s.doms)
  ∧ ∀ (s : State) (c : Fin 4), s.mode.coreRuns = true →
    (∀ (l r : List Tag) (x : Tag), s.fs.tags = l ++ x :: r → x.cls = c.val → (∀ y ∈ l, y.cls ≠ c.val) →
      exec (.tagReturn c) s = .next ((if x.bytes = 0 then s else s.put (K.DMA_CUR_DONE (x.master - 0x48)) (s.reg (K.DMA_CUR_DONE (x.master - 0x48)) + x.bytes)).setFs
        { s.fs with tags := l ++ r }).settle)
    ∧ ((∀ y ∈ s.fs.tags, y.cls ≠ c.val) → exec (.tagReturn c) s = .next s.settle)

/-- R225, R226, R227, R228: a disabled address space, an invalid page and a retired bank fault as such, a page without the permission the access needs faults
as PERMISSION, and otherwise the address is the frame's, in the physical bank that serves its logical bank. R226, R228, R229: a whole map is taken while its
address space is disabled, is a LENGTH or RANGE error when its bytes are no map and is BUSY otherwise; a MAP_EDIT in range replaces one entry and flushes
while tags of its page, issued while its address space is enabled, are in flight under the old translation; a value out of range is ERROR; one that flushes is BUSY. -/
def Obligations.MapsAndTranslation : Prop :=
  (∀ (s : State) (space va e : Nat) (write typeZero : Bool), e = s.pageEntry space (va / 65536 % 4096) →
    (s.regBit K.AS_ENABLE space = false ∨ bitAt e 31 = false → s.translate space va write typeZero = .error (.unmapped, 255))
    ∧ (s.regBit K.AS_ENABLE space = true → bitAt e 31 = true →
      (write = true → bitAt e 29 = false → s.translate space va write typeZero = .error (.permission, 255))
      ∧ (write = false → (bitAt e 30 = false ∨ (bitAt e 28 = true ∧ typeZero = false)) → s.translate space va write typeZero = .error (.permission, 255))
      ∧ ((write = true ∧ bitAt e 29 = true ∨ write = false ∧ bitAt e 30 = true ∧ (bitAt e 28 = false ∨ typeZero = true)) →
        (s.reg (K.BANK_MAP (bits e 11 0 / 64)) = 255 → s.translate space va write typeZero = .error (.retired, 255))
        ∧ (s.reg (K.BANK_MAP (bits e 11 0 / 64)) ≠ 255 →
          s.translate space va write typeZero = .ok (s.reg (K.BANK_MAP (bits e 11 0 / 64)) * 4194304 + bits e 11 0 % 64 * 65536 + va % 65536)))))
  ∧ ((∀ (s : State) (i : Fin 16) (w : HostWrite), s.mayWrite w.path (K.AS_MAP i) = true →
    (w.data.length ≠ 16384 → exec (.asMapWrite i w) s = .next (noteDomain w.path (3, s)).settle)
    ∧ (w.data.length = 16384 → mapEntriesOk w.data = false → exec (.asMapWrite i w) s = .next (noteDomain w.path (4, s)).settle)
    ∧ (w.data.length = 16384 → mapEntriesOk w.data = true → s.mapOpen i = false → exec (.asMapWrite i w) s = .next (noteDomain w.path (6, s)).settle)
    ∧ (w.data.length = 16384 → mapEntriesOk w.data = true → s.mapOpen i = true →
      exec (.asMapWrite i w) s = .next (noteDomain w.path (0, s.putDom (K.AS_MAP i) (if w.data.all (· == 0) then [] else w.data))).settle))
  ∧ (∀ (s : State) (w : HostWrite) (v : Nat), s.accepts K.MAP_EDIT w = true → v = ofLe w.data → bits v 63 52 = 0 → bits v 47 44 = 0 →
    (pageEntryOk (bits v 31 0) = true → s.reg K.MAP_EDIT_STATE ≠ 1 →
      ∃ t : State, exec (.mapEdit w) s = .next (noteResult w.path (0, t)).settle
        ∧ t.dom (K.AS_MAP (bits v 51 48)) = setEntry (s.dom (K.AS_MAP (bits v 51 48))) (bits v 43 32) (bits v 31 0)
        ∧ (s.regBit K.AS_ENABLE (bits v 51 48) = true → (∃ x ∈ s.fs.tags, x.space = bits v 51 48 ∧ x.page = bits v 43 32) → t.reg K.MAP_EDIT_STATE = 1)
        ∧ (s.regBit K.AS_ENABLE (bits v 51 48) = true → ∀ x ∈ t.fs.tags, x.space = bits v 51 48 → x.page = bits v 43 32 → x.oldMap = true)
        ∧ ((∀ x ∈ s.fs.tags, x.oldMap = false ∧ (s.regBit K.AS_ENABLE (bits v 51 48) = false ∨ x.space ≠ bits v 51 48 ∨ x.page ≠ bits v 43 32)) → t.reg K.MAP_EDIT_STATE = 2)
        ∧ s.keeps t [K.MAP_EDIT_STATE] ∧ t.fs.mem = s.fs.mem ∧ t.fs.queue = s.fs.queue)
    ∧ (pageEntryOk (bits v 31 0) = true → s.reg K.MAP_EDIT_STATE = 1 → exec (.mapEdit w) s = .next (noteResult w.path (6, s)).settle)
    ∧ (pageEntryOk (bits v 31 0) = false → s.reg K.MAP_EDIT_STATE ≠ 1 → exec (.mapEdit w) s = .next (noteResult w.path (4, s.put K.MAP_EDIT_STATE 3)).settle))
  ∧ ∀ s : State, s.mode.coreRuns = true → s.reg K.MAP_EDIT_STATE = 1 → (∀ x ∈ s.fs.tags, x.oldMap = false) →
    exec .mapEditDone s = .next (s.put K.MAP_EDIT_STATE 2).settle)

/-- R221, R223, R234: once the clearing of BOOT has ended a scrub row moves the scrub on, or counts a pass; it changes no byte and no map, and nothing of a granule that waits
but whether its burst was pre-empted, and before that nothing. Every fault that is recorded stands in FAULT_LAST and, when
none stood there, in the first fault, counts, and sets MEM_FAULT; FAULT_CLEAR empties the fault log. -/
def Obligations.ScrubAndFaults : Prop :=
  (∀ (s : State) (cc : Fin 2800) (found : Ecc), s.mode.coreRuns = true → s.fs.cleared = false → exec (.scrubRow cc found) s = .next s.settle)
  ∧ (∀ (s : State) (cc : Fin 2800) (found : Ecc), s.mode.coreRuns = true → s.fs.cleared = true →
    ∃ t : State, exec (.scrubRow cc found) s = .next t.settle ∧ t.fs.mem = s.fs.mem ∧ t.fs.tags = s.fs.tags ∧ t.fs.retire = s.fs.retire
      ∧ (t.fs.queue.map fun g => { g with resumed := false }) = (s.fs.queue.map fun g => { g with resumed := false }) ∧ t.fs.scrubRow = (if s.fs.scrubRow + 1 < 131072 then s.fs.scrubRow + 1 else 0)
      ∧ t.reg K.SCRUB_PASSES = (if s.fs.scrubRow + 1 < 131072 then s.reg K.SCRUB_PASSES else (s.reg K.SCRUB_PASSES + 1) % 2 ^ 32)
      ∧ ∀ b, b < 48 → t.reg (K.BANK_MAP b) = s.reg (K.BANK_MAP b))
  ∧ (∀ (s : State) (r : Nat → List Byte), (∀ n, r n ≠ []) → (s.recordFault r).dom K.FAULT_LAST = r (s.reg K.FAULT_COUNT)
    ∧ (s.recordFault r).reg K.FAULT_COUNT = (s.reg K.FAULT_COUNT + 1) % 2 ^ 32 ∧ (s.recordFault r).fs.faultFirst = some (s.fs.faultFirst.getD (r (s.reg K.FAULT_COUNT)))
    ∧ bitAt (s.recordFault r).penn.sticky 18 = true ∧ s.keeps (s.recordFault r) [K.FAULT_COUNT] ∧ (s.recordFault r).fs.mem = s.fs.mem)
  ∧ ∀ (s : State) (a : HostAt), s.accepts K.FAULT_CLEAR (a.write 1 1) = true →
    exec (.faultClear a) s = .next (noteResult a.path (0, { s with fs := { s.fs with faultFirst := none, faultLog := [] } })).settle

/-- R238, R240, R241, R243: what a write of DMA_CTRL does: a start works in IDLE alone, from the chain's first descriptor; an abort ends with a completion
ABORTED; a stop makes the descriptor in hand the last one; a resume works from the checkpoint of a faulted engine. R231, R239, R241: once its bank
grants it and every write of the descriptor is complete, a completion is written into its entry of the completion ring and counts in DMA_DONE; the last descriptor of a chain, an
aborted one and one after a stop end in IDLE; without PLL A lock the engine waits. -/
def Obligations.DmaControlAndCompletions : Prop :=
  (∀ (s : State) (e : Fin 8) (a : HostAt),
    (s.accepts (K.DMA_CTRL e) (a.write 1 1) = true →
      (s.reg (K.DMA_STATE e) = 0 → s.reg (K.DMA_CQ_VA e) + s.reg (K.DMA_CQ_ENTRIES e) * 32 ≤ 0x10000000 →
        exec (.dmaStart e a) s = .next (noteResult a.path (0, ((s.setDma e { desc := s.reg (K.DMA_CHAIN_VA e) }).put (K.DMA_STATE e) 1).dmaFetch e a.cc a.ecc)).settle)
      ∧ (s.reg (K.DMA_STATE e) ≠ 0 → exec (.dmaStart e a) s = .next (noteResult a.path (0, s)).settle))
    ∧ (s.accepts (K.DMA_CTRL e) (a.write 1 2) = true →
      (s.reg (K.DMA_STATE e) ≠ 0 → exec (.dmaAbort e a) s = .next (noteResult a.path (0,
        (s.setDma e { s.dma1 e with phase := .complete 1, stopAfter := true, asm := [] }).put (K.DMA_STATE e) 4)).settle)
      ∧ (s.reg (K.DMA_STATE e) = 0 → exec (.dmaAbort e a) s = .next (noteResult a.path (0, s)).settle))
    ∧ (s.accepts (K.DMA_CTRL e) (a.write 1 3) = true →
      (s.reg (K.DMA_STATE e) = 3 → (s.dma1 e).phase = .fetch → exec (.dmaResume e a) s = .next (noteResult a.path (0, s.dmaFetch e a.cc a.ecc)).settle)
      ∧ (s.reg (K.DMA_STATE e) = 3 → (s.dma1 e).phase ≠ .fetch →
        exec (.dmaResume e a) s = .next (noteResult a.path (0, s.put (K.DMA_STATE e) (if (s.dma1 e).stopAfter = true then 4 else 1))).settle)
      ∧ (s.reg (K.DMA_STATE e) ≠ 3 → exec (.dmaResume e a) s = .next (noteResult a.path (0, s)).settle))
    ∧ (s.accepts (K.DMA_CTRL e) (a.write 1 4) = true →
      (s.reg (K.DMA_STATE e) = 1 → exec (.dmaStop e a) s = .next (noteResult a.path (0, (s.setDma e { s.dma1 e with stopAfter := true }).put (K.DMA_STATE e) 4)).settle)
      ∧ (2 ≤ s.reg (K.DMA_STATE e) → exec (.dmaStop e a) s = .next (noteResult a.path (0, s.setDma e { s.dma1 e with stopAfter := true })).settle)
      ∧ (s.reg (K.DMA_STATE e) = 0 → exec (.dmaStop e a) s = .next (noteResult a.path (0, s)).settle)))
  ∧ (∀ (s v : State) (e : Fin 8) (cc : Fin 2800) (ecc : Ecc) (d : Dma) (st : Nat), s.mode.coreRuns = true → d = s.dma1 e → d.phase = .complete st →
    (s.reg (K.DMA_STATE e) = 1 ∨ s.reg (K.DMA_STATE e) = 4) →
    (s.locked = false → exec (.dmaCompletion e cc ecc) s = .next (s.put (K.DMA_STATE e) 2).settle)
    ∧ (s.locked = true → (s.dmaWriting e = true ∨ s.mayIssue 3 (dmaMaster e) (s.reg (K.DMA_CHAIN_AS e)) (s.dmaCqVa e) = false) →
      exec (.dmaCompletion e cc ecc) s = .next s.settle)
    ∧ (s.locked = true → s.dmaWriting e = false → (st = 1 ∨ bitAt (d.words.getD 0 0) 33 = true ∨ d.stopAfter = true) →
      s.mayIssue 3 (dmaMaster e) (s.reg (K.DMA_CHAIN_AS e)) (s.dmaCqVa e) = true →
      (s.dmaIssued e (s.reg (K.DMA_CHAIN_AS e)) (s.dmaCqVa e) 0).writeGranule ecc (dmaMaster e) 3 (s.reg (K.DMA_CHAIN_AS e)) (s.dmaCqVa e)
        (leBytes 8 (d.moved + d.words.getD 3 0 / 2 ^ 32 * 2 ^ 32) ++ leBytes 8 (s.stampCc cc)
        ++ leBytes 8 (d.desc + st * 2 ^ 56) ++ leBytes 8 (s.reg (K.DMA_DONE e) * 2 ^ 32)) = .ok v →
      ∃ t : State, exec (.dmaCompletion e cc ecc) s = .next t.settle ∧ t.reg (K.DMA_DONE e) = (s.reg (K.DMA_DONE e) + 1) % 2 ^ 32 ∧ t.reg (K.DMA_STATE e) = 0
        ∧ t.dma1 e = {} ∧ t.fs.mem = v.fs.mem ∧ v.keeps t [K.DMA_DONE e, K.DMA_STATE e] ∧ t.qspi.outOwner ≠ some e.val ∧ t.qspi.inOwner ≠ some e.val))

/-- R236, R239, R240, R242, R301: an engine that moves data waits where the Streamer or the bulk queue does not take or hold its next piece, or PLL A is not locked;
the last granule that it reads goes to the outbound queue, which it owns from then on, and counts as moved; the last one of the inbound queue is written and counts as
moved when its tag returns; the completion follows; the engine continues once what it waits for has come. R236, R242, R266: a
type-0 descriptor whose last bytes make one packet that the Streamer takes: the packet carries the bytes read, the engine's number and FIRST where no packet
came before it and LAST, and the completion follows. -/
def Obligations.DmaMoves : Prop :=
  (∀ (s : State) (e : Fin 8) (cc : Fin 2800) (ecc : Ecc) (d : Dma), s.mode.coreRuns = true → d = s.dma1 e →
    (s.dmaMoves e 0 = true → s.locked = false → s.streamType (bits (d.words.getD 0 0) 51 48) = 4 →
      exec (.dmaFsToStreamer e cc ecc) s = .next (s.put (K.DMA_STATE e) 2).settle)
    ∧ (s.dmaMoves e 0 = true → s.streamType (bits (d.words.getD 0 0) 51 48) ≠ 4 →
      exec (.dmaFsToStreamer e cc ecc) s = .next ((s.put (K.DMA_STATE e) 2).put K.MISROUTED (min (s.reg K.MISROUTED + 1) (2 ^ 32 - 1))).settle)
    ∧ (s.dmaMoves e 0 = false → exec (.dmaFsToStreamer e cc ecc) s = .next s.settle)
    ∧ (s.dmaMoves e 1 = true → s.locked = true → s.qspi.outOwner = none →
      32768 < s.qspi.bulkOut.length + granuleLen (bits (d.words.getD 1 0) 27 0 + d.moved) (d.len - d.moved) →
      exec (.dmaFsToQspi e cc ecc) s = .next (({ s with qspi := { s.qspi with outOwner := some e.val } }).put (K.DMA_STATE e) 2).settle)
    ∧ (∀ f, f ≠ e.val → s.dmaMoves e 1 = true → s.qspi.outOwner = some f → exec (.dmaFsToQspi e cc ecc) s = .next (s.put (K.DMA_STATE e) 2).settle)
    ∧ (s.dmaMoves e 1 = true → s.locked = false → exec (.dmaFsToQspi e cc ecc) s = .next (s.put (K.DMA_STATE e) 2).settle)
    ∧ (s.dmaMoves e 1 = false → exec (.dmaFsToQspi e cc ecc) s = .next s.settle)
    ∧ (∀ u v k b, s.dmaMoves e 1 = true → s.locked = true → (s.qspi.outOwner = none ∨ s.qspi.outOwner = some e.val) → d.asm = [] → k = granuleLen d.va (d.len - d.moved) →
      0 < k → s.qspi.bulkOut.length + k ≤ 32768 → d.moved + k = d.len → u = { s with qspi := { s.qspi with outOwner := some e.val } } →
      u.mayIssue 3 (dmaMaster e) d.space d.va = true →
      (u.dmaIssued e d.space d.va (burstDone d.base d.va)).readGranule ecc (dmaMaster e) 3 d.space d.va k false = .ok (b, v) →
      ∃ t : State, exec (.dmaFsToQspi e cc ecc) s = .next t.settle ∧ t.qspi = { s.qspi with outOwner := some e.val, bulkOut := s.qspi.bulkOut ++ b } ∧ t.fs.mem = s.fs.mem
        ∧ (t.dma1 e).phase = .complete 0 ∧ (t.dma1 e).moved = d.len ∧ (t.dma1 e).words = d.words ∧ (t.dma1 e).desc = d.desc ∧ (t.dma1 e).asm = []
        ∧ t.reg (K.DMA_CUR_DONE e) = d.len ∧ v.keeps t [K.DMA_CUR_DONE e])
    ∧ (s.dmaMoves e 2 = true → s.locked = true → s.qspi.inOwner = none → s.qspi.bulkIn.length < granuleLen d.va (d.len - d.moved) →
      exec (.dmaQspiToFs e cc ecc) s = .next (({ s with qspi := { s.qspi with inOwner := some e.val } }).put (K.DMA_STATE e) 2).settle)
    ∧ (∀ f, f ≠ e.val → s.dmaMoves e 2 = true → s.qspi.inOwner = some f → exec (.dmaQspiToFs e cc ecc) s = .next (s.put (K.DMA_STATE e) 2).settle)
    ∧ (s.dmaMoves e 2 = true → s.locked = false → exec (.dmaQspiToFs e cc ecc) s = .next (s.put (K.DMA_STATE e) 2).settle)
    ∧ (s.dmaMoves e 2 = false → exec (.dmaQspiToFs e cc ecc) s = .next s.settle)
    ∧ (∀ u v k, s.dmaMoves e 2 = true → s.locked = true → (s.qspi.inOwner = none ∨ s.qspi.inOwner = some e.val) → k = granuleLen d.va (d.len - d.moved) →
      k ≤ s.qspi.bulkIn.length → d.moved + k = d.len → u = { s with qspi := { s.qspi with inOwner := some e.val } } →
      u.mayIssue 3 (dmaMaster e) d.space d.va = true →
      (u.dmaIssued e d.space d.va (burstDone d.base d.va)).writeGranule ecc (dmaMaster e) 3 d.space d.va (s.qspi.bulkIn.take k) = .ok v →
      ∃ t : State, exec (.dmaQspiToFs e cc ecc) s = .next t.settle ∧ t.fs.mem = v.fs.mem ∧ t.qspi = { s.qspi with inOwner := some e.val, bulkIn := s.qspi.bulkIn.drop k }
        ∧ (t.dma1 e).phase = .complete 0 ∧ (t.dma1 e).moved = d.len ∧ (t.dma1 e).words = d.words ∧ (t.dma1 e).desc = d.desc
        ∧ t.fs.tags.length = s.fs.tags.length + 1 ∧ (∃ x, t.fs.tags.getLast? = some x ∧ x.bytes = k ∧ x.master = 0x48 + e.val ∧ x.cls = 3) ∧ v.keeps t [])
    ∧ (s.reg (K.DMA_STATE e) = 2 → s.dmaReady e = true → d.phase ≠ .fetch →
      exec (.dmaContinue e cc ecc) s = .next (s.put (K.DMA_STATE e) (if d.stopAfter = true then 4 else 1)).settle)
    ∧ (d.phase = .fetch → (s.reg (K.DMA_STATE e) = 2 ∧ s.dmaReady e = true ∨ s.reg (K.DMA_STATE e) = 1 ∨ s.reg (K.DMA_STATE e) = 4) →
      exec (.dmaContinue e cc ecc) s = .next (s.dmaFetch e cc ecc).settle)
    ∧ (s.reg (K.DMA_STATE e) = 2 → s.dmaReady e = false → exec (.dmaContinue e cc ecc) s = .next s.settle))
  ∧ (∀ (s v w x : State) (e : Fin 8) (cc : Fin 2800) (ecc : Ecc) (d : Dma) (b : List Byte) (st : Nat) (p : Packet), s.mode.coreRuns = true → d = s.dma1 e → s.dmaMoves e 0 = true →
    s.locked = true → d.asm = [] → d.moved < d.len → d.len - d.moved ≤ 16 → d.base % 64 + d.len ≤ 64 → s.mayIssue 3 (dmaMaster e) d.space d.va = true →
    st = bits (d.words.getD 0 0) 51 48 → s.streamTakes st (d.len - d.moved) = true →
    (s.dmaIssued e d.space d.va (burstDone d.base d.va)).readGranule ecc (dmaMaster e) 3 d.space d.va (d.len - d.moved) true = .ok (b, v) →
    w = v.setDma e { v.dma1 e with asm := b } →
    p = { ty := 4, stream := st, aux := e.val, tstamp := s.stampCc cc, flags := (if d.moved = 0 then 6 else 2), payload := b } →
    x = (w.setStream st { w.stream st with queue := (w.stream st).queue ++ [p] }).linkPump →
    exec (.dmaFsToStreamer e cc ecc) s = .next (((x.setDma e { x.dma1 e with moved := d.len, asm := [] }).put (K.DMA_CUR_DONE e) d.len).dmaEnded e).settle)

/-- R244: a request with a spare and no retirement under way names the lowest spare; the copy's end waits for its tick with every byte of the source in the
target; the tick maps the logical bank to the spare; once its tags have returned the source takes its end state and the retirement is over; a failed copy
leaves the source in service, SUSPECT if it was, and lists the target. R418: the tick of the map counts a take-over unless the bank returns. A logical bank that has lost its physical one takes a spare with nothing to copy, which is the model's choice (log 47). -/
def Obligations.BankRetirement : Prop :=
  (∀ (s : State) (w : HostWrite) (q : Nat) (l : List Nat), s.accepts K.BANK_RETIRE w = true → ofLe w.data < 48 →
    (s.spareBanks = q :: l → s.fs.retire.busy = false → (s.reg K.RETIRE_STATE = 0 ∨ s.reg K.RETIRE_STATE = 4) →
      exec (.bankRetire w) s = .next (noteResult w.path (0, (s.put K.RETIRE_STATE 0).setFs { s.fs with retire :=
        { logical := ofLe w.data, source := s.reg (K.BANK_MAP (ofLe w.data)), target := q, startDue := true, after := 4 } })).settle)
    ∧ ((s.spareBanks = [] ∨ s.fs.retire.busy = true) → exec (.bankRetire w) s = .next (noteResult w.path (0, s.put K.RETIRE_STATE 4)).settle))
  ∧ (∀ (s : State) (cc : Fin 2800) (ecc : Ecc), s.mode.coreRuns = true → s.fs.retire.copying = true →
    (s.fs.retire.source ≠ 255 → s.fs.retire.source ≠ s.fs.retire.target → s.memoryWf = true →
      ∃ t : State, exec (.bankCopyDone { cc, ecc }) s = .next t.settle ∧ t.reg K.RETIRE_STATE = 2 ∧ t.reg K.RETIRE_PROGRESS = 4194304
        ∧ t.fs.retire = { s.fs.retire with copying := false, ticks := ticksAfter cc }
        ∧ (∀ i, i < 4194304 → memGet t.fs.mem (s.fs.retire.target * 4194304 + i) = memGet s.fs.mem (s.fs.retire.source * 4194304 + i))
        ∧ ∀ a, a / 4194304 ≠ s.fs.retire.target → memGet t.fs.mem a = memGet s.fs.mem a)
    ∧ (s.fs.retire.source = 255 → exec (.bankCopyDone { cc, ecc }) s = .next (((s.put K.RETIRE_STATE 2).put K.RETIRE_PROGRESS 4194304).setFs
      { s.fs with retire := { s.fs.retire with copying := false, ticks := ticksAfter cc } }).settle))
  ∧ (∀ s u c v : State, s.ticking = true → s.fs.retire.ticks = 1 → u = s.atTick → u.fs.retire.ticks = 1 →
    c = (if u.fs.retire.after = 1 then u else u.put K.TAKEOVERS (min (u.reg K.TAKEOVERS + 1) (2 ^ 32 - 1))) →
    v = (if u.fs.retire.source = 255 then c.put K.FS_FRAMES (u.reg K.FS_FRAMES + 64)
      else { c with spares := { u.spares with served := storeSet u.spares.served u.fs.retire.source u.fs.retire.logical } }) →
    exec .bankMapSwitch s = .next (((v.put (K.BANK_MAP u.fs.retire.logical) u.fs.retire.target).put K.RETIRE_STATE 3).setFs
      { u.fs with retire := { u.fs.retire with ticks := 0, draining := true } }).settle)
  ∧ (∀ s : State, s.mode.coreRuns = true → s.fs.retire.draining = true →
    ((∀ x ∈ s.fs.tags, x.pbank ≠ s.fs.retire.source) →
      exec .bankRetireDrained s = .next ((((s.putBank s.fs.retire.source s.fs.retire.after).putBank s.fs.retire.target
        (if s.reg (K.BANK_STATE s.fs.retire.target) = 5 then 5 else 0)).put K.RETIRE_STATE 0).setFs { s.fs with retire := {} }).settle)
    ∧ ((∃ x ∈ s.fs.tags, x.pbank = s.fs.retire.source) → exec .bankRetireDrained s = .next s.settle))
  ∧ (∀ s u : State, s.mode.coreRuns = true → s.fs.retire.copying = true →
    (s.reg K.BIST_STATE ≠ 1 ∨ s.spares.bist.unit ≠ 0x50000 + s.fs.retire.source) → (s.spares.opStep ≠ .takeOver ∨ s.spares.opUnit ≠ 0x50000 + s.fs.retire.source) →
    u = ((((s.put K.RETIRE_STATE 5).putBank s.fs.retire.target 6).putBank s.fs.retire.source
      (if s.fs.retire.suspect = true ∨ s.reg (K.BANK_STATE s.fs.retire.source) = 5 then 5 else 0)).setFs { s.fs with retire := {} }).listAdd (0x50000 + s.fs.retire.target) →
    (s.fs.retire.after ≠ 6 → exec .bankCopyFailed s = .next u.settle)
    ∧ (s.fs.retire.after = 6 → s.fs.retire.source < 50 →
      exec .bankCopyFailed s = .next (u.setSpares { u.spares with failWait := u.spares.failWait ++ [0x50000 + s.fs.retire.source] }).settle))
  ∧ (∀ s : State, s.mode.coreRuns = true → s.fs.retire.copying = false → exec .bankCopyFailed s = .next s.settle)
  ∧ ∀ (s : State) (x : Nat), s.spares.list.contains x = false → s.spares.list.length < 64 → (s.listAdd x).spares.list = s.spares.list ++ [x]

/-! ### The Streamer link (chapter 10) -/

/-- R254, R258, R259: the link starts TRAINING when it is enabled and PLL B locked, sends from the end of TRAINING on, repeats CAPABILITY in EXCHANGE, fixes
the versions by the host's CAPABILITY or, after the time-out, by assumption, and steps through the presets of a tuning. R302: a CAPABILITY that comes later still
declares the sideband's dictionary version. That LINK_VER, PKT_VER and STR_FAULT read 0 from the start of TRAINING on is deduced (log 41); that HOST_CAPS does, that the
moves announced are made then, and that the moment in the slot at which a CAPABILITY of this part is formed is free, are the model's choice (log 52). -/
def Obligations.LinkStartsUp : Prop :=
  (∀ s : State, s.mode.coreRuns = true → s.linkEnabled = true → s.lockedB = true → (s.reg K.STR_STATE = 0 ∨ s.reg K.STR_STATE = 6 ∧ s.reg K.STR_FAULT = 3) →
    ∃ t : State, exec .linkStart s = .next t.settle ∧ t.reg K.STR_STATE = 1 ∧ t.reg K.STR_FAULT = 0 ∧ t.reg K.LINK_VER = 0 ∧ t.reg K.PKT_VER = 0 ∧ t.reg K.STR_NEG = 0
      ∧ t.reg K.HOST_CAPS = 0
      ∧ (∀ i, i < 9 → t.reg (K.TX_PRESET_USE i) = s.reg (K.TX_PRESET i)) ∧ (∀ x ∈ t.link.streams, x.seq = 0) ∧ t.link.trainTicks = 0
      ∧ ∀ k, k ∉ [K.STR_STATE, K.STR_FAULT, K.LINK_VER, K.PKT_VER, K.STR_NEG, K.HOST_CAPS, K.TAKEOVERS] → (∀ i, i < 9 → k ≠ K.TX_PRESET_USE i) → (∀ b, b < 8 → k ≠ K.LANE_MAP b) →
        t.reg k = s.reg k)
  ∧ (∀ s : State, s.mode.coreRuns = true → s.reg K.STR_STATE = 1 → 5 ≤ s.link.trainTicks →
    ∃ t : State, exec .linkTrainingDone s = .next t.settle ∧ t.reg K.STR_STATE = (if s.rxUsable (s.reg K.RX_ACTIVE) = true then 3 else 2) ∧ t.reg K.MARKER_COUNT = 0
      ∧ t.lanesOn = true ∧ s.keeps t [K.STR_STATE, K.MARKER_COUNT])
  ∧ (∀ s : State, s.mode.coreRuns = true → s.reg K.STR_STATE = 3 → (s.link.capReps + 1) * 500 ≤ s.link.capTicks →
    ∃ t : State, exec .capabilityRepeat s = .next t.settle ∧ t.link.capReps = s.link.capReps + 1 ∧ s.keeps t []
      ∧ ∃ cc, cc < 2800 ∧ (t.stream 0).queue = (s.stream 0).queue ++ [{ ty := 10, tstamp := s.stampCc cc, payload := capabilityBytes }])
  ∧ (∀ (s : State) (w : BitVec 64), s.mode.coreRuns = true → s.reg K.STR_STATE = 3 →
    (bitAt w.toNat 11 = true → (bitAt w.toNat 1 = true ∨ bitAt w.toNat 2 = true) → (s.reg K.TX_TUNE ≠ 1 ∨ bitAt w.toNat 2 = false ∨ bitAt w.toNat 48 = false) →
      ∃ t : State, exec (.capability w) s = .next t.settle ∧ t.reg K.STR_STATE = 5 ∧ t.reg K.LINK_VER = (if bitAt w.toNat 2 = true then 2 else 1) ∧ t.reg K.PKT_VER = 3
        ∧ t.reg K.STR_NEG = 0 ∧ t.reg K.HOST_CAPS = w.toNat ∧ (t.pathState .sideband).dictVer = some (bits w.toNat 31 16)
        ∧ s.keeps t [K.STR_STATE, K.LINK_VER, K.PKT_VER, K.STR_NEG, K.HOST_CAPS])
    ∧ (bitAt w.toNat 11 = true → bitAt w.toNat 2 = true → s.reg K.TX_TUNE = 1 → bitAt w.toNat 48 = true →
      ∃ t : State, exec (.capability w) s = .next t.settle ∧ t.reg K.STR_STATE = 4 ∧ ∀ i, i < 9 → t.reg (K.TX_PRESET_USE i) = 0)
    ∧ ((bitAt w.toNat 11 = false ∨ bitAt w.toNat 1 = false ∧ bitAt w.toNat 2 = false) →
      ∃ t : State, exec (.capability w) s = .next t.settle ∧ t.reg K.STR_STATE = 6 ∧ t.reg K.STR_FAULT = 1))
  ∧ (∀ (s : State) (w : BitVec 64), s.mode.coreRuns = true → (s.reg K.STR_STATE = 4 ∨ s.reg K.STR_STATE = 5) →
    exec (.capability w) s = .next (s.setPath .sideband { s.pathState .sideband with dictVer := some (bits w.toNat 31 16) }).settle)
  ∧ (∀ s : State, s.mode.coreRuns = true → s.reg K.STR_STATE = 3 → s.reg K.STR_CAP_TIMEOUT * 500 ≤ s.link.capTicks →
    ∃ t : State, exec .strCapTimeout s = .next t.settle ∧ t.reg K.STR_STATE = 5 ∧ t.reg K.LINK_VER = 1 ∧ t.reg K.PKT_VER = 3 ∧ t.reg K.STR_NEG = 1
      ∧ s.keeps t [K.STR_STATE, K.LINK_VER, K.PKT_VER, K.STR_NEG])
  ∧ ∀ s : State, s.mode.coreRuns = true → s.reg K.STR_STATE = 4 → 64 ≤ s.link.tuneIv →
    (s.link.tunePreset < 7 → ∃ t : State, exec .txTuneHoldEnd s = .next t.settle ∧ t.reg K.STR_STATE = 4 ∧ t.link.tunePreset = s.link.tunePreset + 1 ∧ t.link.tuneIv = 0
      ∧ ∀ i, i < 9 → t.reg (K.TX_PRESET_USE i) = s.link.tunePreset + 1)
    ∧ (7 ≤ s.link.tunePreset → ∃ t : State, exec .txTuneHoldEnd s = .next t.settle ∧ t.reg K.STR_STATE = 5
      ∧ ∀ i, i < 9 → t.reg (K.TX_PRESET_USE i) = (if (s.link.tuneBest.getD i (0, 0)).2 < s.link.tuneNow.getD i 0 then s.link.tunePreset else (s.link.tuneBest.getD i (0, 0)).1))

/-- R248, R251, R252, R256, R260, R278: what a receive lane's alignment at a symbol boundary, its loss and its markers do, read from the code groups that come in, a
bit slip, a host LANE_NOTICE, and the recovery from a receive loss. R265: a host packet that an acceptance rule refuses is discarded and counted, and a good one
takes the effect of its type. -/
def Obligations.ReceiveLanes : Prop :=
  (∀ (s : State) (i : Fin 2) (b : Fin 10), s.mode.coreRuns = true → s.lanesOn = true →
    (s.reg (K.RX_ALIGN i) = 0 → (s.reg K.RX_COMMA_EN = 1 ∨ (s.rxLane i).slip = b.val) →
      ∃ t : State, exec (.rxLaneAligned { lane := i, boundary := b }) s = .next t.settle ∧ t.reg (K.RX_ALIGN i) = 1 ∧ t.rxLane i = { s.rxLane i with slip := b, missed := 0, errs := 0, good := 0 }
        ∧ s.keeps t [K.RX_ALIGN i, K.STR_STATE])
    ∧ ((s.reg (K.RX_ALIGN i) ≠ 0 ∨ s.reg K.RX_COMMA_EN ≠ 1 ∧ (s.rxLane i).slip ≠ b.val) → exec (.rxLaneAligned { lane := i, boundary := b }) s = .next s.settle))
  ∧ (∀ (s : State) (i : Fin 2) (g : List (BitVec 10)) (n : Nat), s.mode.coreRuns = true → s.lanesOn = true → s.reg (K.RX_ALIGN i) = 1 →
    n = ((readGroups (s.rxLane i).rd g).1.filter Option.isNone).length →
    ((2 ≤ (s.rxLane i).missed ∨ 16 < (s.rxLane i).errs + n) → s.reg K.RX_ACTIVE = i.val → s.rxUsable (1 - i.val) = true →
      ∃ t : State, exec (.rxLaneAlignLoss i g) s = .next t.settle ∧ t.reg (K.RX_ALIGN i) = 0 ∧ t.reg K.RX_ACTIVE = 1 - i.val
        ∧ t.reg K.RX_CODEERR = min (s.reg K.RX_CODEERR + n) (2 ^ 32 - 1) ∧ s.keeps t [K.RX_ALIGN i, K.RX_ACTIVE, K.RX_CODEERR])
    ∧ ((2 ≤ (s.rxLane i).missed ∨ 16 < (s.rxLane i).errs + n) → s.reg K.RX_ACTIVE = i.val → s.rxUsable (1 - i.val) = false → s.reg K.STR_STATE = 5 →
      ∃ t : State, exec (.rxLaneAlignLoss i g) s = .next t.settle ∧ t.reg (K.RX_ALIGN i) = 0 ∧ t.reg K.STR_STATE = 6 ∧ t.reg K.STR_FAULT = 4)
    ∧ ((s.rxLane i).missed < 2 → (s.rxLane i).errs + n ≤ 16 →
      ∃ t : State, exec (.rxLaneAlignLoss i g) s = .next t.settle
        ∧ t.rxLane i = { s.rxLane i with errs := (s.rxLane i).errs + n, rd := (readGroups (s.rxLane i).rd g).2 } ∧ s.keeps t [K.RX_CODEERR]))
  ∧ (∀ (s : State) (i : Fin 2) (cc : Fin 2800) (g : List (BitVec 10)) (r : List (Option Symbol) × Bool) (h w : Rat), s.mode.coreRuns = true → s.lanesOn = true →
    0 ≤ h → h ≤ 1 → 0 ≤ w → w ≤ 1 → r = readGroups (s.rxLane i).rd g →
    ∃ t : State, exec (.rxMarkerInterval i cc g h w) s = .next t.settle ∧ t.reg (K.RX_EFOM i) = (255 * (h * w)).floor.toNat
      ∧ t.reg K.RX_CODEERR = min (s.reg K.RX_CODEERR + (r.1.filter Option.isNone).length) (2 ^ 32 - 1)
      ∧ (t.rxLane i).missed = (if (markerOf i r.1).isSome = true then 0 else (s.rxLane i).missed + 1)
      ∧ t.link.host = (if s.reg K.RX_ACTIVE = i.val then r.1.foldl (HostLine.take cc) s.link.host else s.link.host)
      ∧ s.keeps t [K.RX_EFOM i, K.RX_CODEERR, K.RX_ACTIVE, K.STR_STATE])
  ∧ (∀ (s : State) (w : HostWrite) (i : Nat), s.accepts K.RX_BITSLIP w = true → i < 2 → ofLe w.data = i + 1 →
    exec (.rxBitslip w) s = .next (noteResult w.path (0, s.setRxLane i { s.rxLane i with slip := ((s.rxLane i).slip + 1) % 10 })).settle)
  ∧ (∀ (s : State) (w : BitVec 64), s.mode.coreRuns = true → s.rxTakes = true →
    (s.reg K.LINK_VER = 2 → bits w.toNat 23 16 < 2 → bits w.toNat 15 8 = s.reg K.RX_ACTIVE →
      exec (.laneNotice w) s = .next (s.setLink { s.link with rxMove := some (bits w.toNat 23 16, bits w.toNat 47 32) }).settle)
    ∧ (s.reg K.LINK_VER ≠ 2 → exec (.laneNotice w) s = .next (s.put K.RX_DISCARDS (min (s.reg K.RX_DISCARDS + 1) (2 ^ 32 - 1))).settle))
  ∧ (∀ s : State, s.mode.coreRuns = true → s.rxTakes = true → s.link.host.whole = [] →
    exec .hostPacketInvalid s = .next (s.put K.RX_DISCARDS (min (s.reg K.RX_DISCARDS + 1) (2 ^ 32 - 1))).settle)
  ∧ (∀ (s u : State) (b p : List Byte) (cc : Fin 2800) (l : List (List Byte × Nat)), s.mode.coreRuns = true → s.rxTakes = true →
    s.link.host.whole = (b, cc.val) :: l → u = s.setLink { s.link with host := { s.link.host with whole := l } } → p = bytesAt b 16 (bits (fieldAt b 0 8) 39 24) →
    (hostPacketBad b = true → exec .hostPacketInvalid s = .next (u.put K.RX_DISCARDS (min (s.reg K.RX_DISCARDS + 1) (2 ^ 32 - 1))).settle)
    ∧ (hostPacketBad b = false →
      (bits (fieldAt b 0 8) 55 52 = 9 → exec .hostPacketInvalid s = exec (.sideband (bits (fieldAt b 0 8) 23 8) cc p) u)
      ∧ (bits (fieldAt b 0 8) 55 52 = 10 → exec .hostPacketInvalid s = exec (.capability (BitVec.ofNat 64 (fieldAt p 0 8))) u)
      ∧ (bits (fieldAt b 0 8) 55 52 = 11 → exec .hostPacketInvalid s = exec (.laneNotice (BitVec.ofNat 64 (fieldAt p 0 8))) u)
      ∧ (bits (fieldAt b 0 8) 55 52 = 12 → exec .hostPacketInvalid s = exec (.credit ((List.range (p.length / 8)).map fun i => fieldAt p (8 * i) 8)) u)
      ∧ (bits (fieldAt b 0 8) 55 52 = 13 → exec .hostPacketInvalid s = exec (.efomReport p) u)))
  ∧ ∀ (s : State) (i : Nat), s.mode.coreRuns = true → s.reg K.STR_STATE = 6 → s.reg K.STR_FAULT = 4 → i < 2 → 8 ≤ (s.rxLane i).good → s.rxUsable i = true →
    (i = 1 → ((s.rxLane 0).good < 8 ∨ s.rxUsable 0 = false)) →
    ∃ t : State, exec .linkFaultRecover s = .next t.settle ∧ t.reg K.RX_ACTIVE = i ∧ t.reg K.STR_STATE = 1 ∧ t.reg K.STR_FAULT = 0

/-- R255, R271, R275: what the host's packets and STREAM_CREDIT_ADD do: credit is added up to 2^24 units and ignored without CREDIT_MODE; an EFOM report
stands in TX_HOST_EFOM; a sideband request is queued, the fifth answered BUSY and one too long discarded. R249, R257, R261, R264, R266, R269, R272, R274: packets of
assemblies that are full are formed; a packet enters its stream's buffer of the room it has, or is dropped whole and counted; one that ends counts for its
stream and stands as sent, with the columns that carried it on the lanes; the periodic STATUS packet is formed; the lanes go idle when nothing may be sent and
leave it with a training burst when something may. -/
def Obligations.HostPacketsAndFlow : Prop :=
  ((∀ (s : State) (w : Nat), s.mode.coreRuns = true → s.rxTakes = true →
    (s.reg K.LINK_VER = 2 → bits w 63 60 ≠ 0 → bits w 59 32 = 0 → s.reg (K.CREDIT_MODE (bits w 63 60 - 1)) ≠ 0 →
      exec (.credit [w]) s = .next (s.put (K.CREDIT (bits w 63 60 - 1)) (min (s.reg (K.CREDIT (bits w 63 60 - 1)) + bits w 31 0) (2 ^ 24))).settle)
    ∧ (s.reg K.LINK_VER = 2 → (bits w 63 60 = 0 ∨ bits w 59 32 ≠ 0 ∨ s.reg (K.CREDIT_MODE (bits w 63 60 - 1)) = 0) → exec (.credit [w]) s = .next s.settle)
    ∧ (∀ ws, (s.reg K.LINK_VER ≠ 2 ∨ 128 < ws.length) → exec (.credit ws) s = .next (s.put K.RX_DISCARDS (min (s.reg K.RX_DISCARDS + 1) (2 ^ 32 - 1))).settle))
  ∧ (∀ (s : State) (n : Fin 15) (w : HostWrite), s.accepts (K.STREAM_CREDIT_ADD n) w = true →
    exec (.streamCreditAdd n w) s = .next (noteResult w.path (0, s.put (K.CREDIT n) (min (s.reg (K.CREDIT n) + ofLe w.data) (2 ^ 24)))).settle)
  ∧ (∀ (s : State) (b : List Byte), s.mode.coreRuns = true → s.rxTakes = true → s.reg K.LINK_VER = 2 → b.length = 16 → fieldAt b 9 2 < 512 → (∀ x ∈ b.drop 11, x = 0) → s.reg K.AUTOSPARE ≠ 1 →
    ∃ t : State, exec (.efomReport b) s = .next t.settle
      ∧ (∀ i, i < 9 → t.reg (K.TX_HOST_EFOM i) = (if bitAt (fieldAt b 9 2) i = true then fieldAt b i 1 else s.reg (K.TX_HOST_EFOM i)))
      ∧ (∀ i, i < 9 → bitAt (fieldAt b 9 2) i = true → t.link.lowRun.getD i 0 = (if fieldAt b i 1 < s.reg K.EFOM_MIN then s.link.lowRun.getD i 0 + 1 else 0))
      ∧ ∀ k, (∀ i, i < 9 → k ≠ K.TX_HOST_EFOM i) → t.reg k = s.reg k)
  ∧ ∀ (s : State) (q : Nat) (cc : Fin 2800) (b : List Byte) (x : PathState), s.mode.coreRuns = true → s.rxTakes = true → x = s.pathState .sideband →
    (b.length ≤ 1024 → s.pathUp .sideband = true → x.queue.length < 4 → exec (.sideband q cc b) s =
      .next (s.setPath .sideband { x with queue := x.queue ++ [{ bytes := b, aux := q % 256 }] }).settle)
    ∧ (b.length ≤ 1024 → s.pathUp .sideband = true → 4 ≤ x.queue.length → exec (.sideband q cc b) s = .next
      ((s.put K.SB_BUSY (min (s.reg K.SB_BUSY + 1) (2 ^ 32 - 1))).answer .sideband { bytes := b, aux := q % 256 } (headerOnly b 6) cc).settle)
    ∧ (b.length ≤ 1024 → s.pathUp .sideband = false → exec (.sideband q cc b) s = .next s.settle)
    ∧ (1024 < b.length → exec (.sideband q cc b) s = .next (s.put K.RX_DISCARDS (min (s.reg K.RX_DISCARDS + 1) (2 ^ 32 - 1))).settle))
  ∧ ((∀ (s : State) (n : Fin 16), s.mode.coreRuns = true → (s.stream n).running = true → s.streamType n = 2 → 0 < decInstants (s.stream n).words.length →
    decInstants (s.stream n).words.length ≤ (s.stream n).whole →
    exec (.decimatedPacketReady n) s = .next (s.decPacket n (decInstants (s.stream n).words.length) false).settle)
  ∧ (∀ (s : State) (n : Fin 16), s.mode.coreRuns = true → (s.stream n).running = true → s.streamType n = 3 → (s.stream n).rawNext + 10912 ≤ 11200 →
    exec (.rawPacketReady n) s = .next (s.rawPacket n 10912 false).settle)
  ∧ (∀ (s : State) (p : Packet) (room : Nat), (s.buffered p.stream < room →
      ((s.offer p room).stream p.stream).queue = (s.stream p.stream).queue ++ [p] ∧ s.keeps (s.offer p room) [])
    ∧ (room ≤ s.buffered p.stream → p.stream ≠ 0 → ((s.offer p room).stream p.stream).queue = (s.stream p.stream).queue ∧ ((s.offer p room).stream p.stream).loss = true
      ∧ (s.offer p room).reg (K.STREAM_DROPPED (p.stream - 1)) = min (s.reg (K.STREAM_DROPPED (p.stream - 1)) + 1) (2 ^ 32 - 1)
      ∧ s.keeps (s.offer p room) [K.STREAM_DROPPED (p.stream - 1)])
    ∧ (room ≤ s.buffered p.stream → p.stream = 0 → ((s.offer p room).stream 0).loss = true ∧ s.keeps (s.offer p room) []))
  ∧ (∀ (s u : State) (p : Packet) (c : List (List Symbol)), s.mode.coreRuns = true → s.link.sending = some p → p.notice = none →
    c = (if s.link.suspended.isSome = true then suspending (packetColumns p.bytes) else packetColumns p.bytes) →
    u = s.setLink (({ s.link with sending := none, sent := p.bytes, quiet := 0 } : Link).send (s.linesOf c)) →
    (p.stream ≠ 0 → exec .packetSent s = .next (u.put (K.STREAM_PKTS (p.stream - 1)) ((s.reg (K.STREAM_PKTS (p.stream - 1)) + 1) % 2 ^ 32)).settle)
    ∧ (p.stream = 0 → exec .packetSent s = .next u.settle))
  ∧ (∀ s u : State, s.mode.coreRuns = true → u = { s with pipe := { s.pipe with ready := {} } } →
    (s.pipe.ready.valid = true → s.pipe.ready.pts = true →
      exec .pointRecordHandover s = .next (((u.countRecords s.pipe.ready.recs).echoPulses s.pipe.ready.slotNo s.pipe.ready.recs).pointsPacket s.pipe.ready).settle)
    ∧ (s.pipe.ready.valid = true → s.pipe.ready.pts = false → exec .pointRecordHandover s = .next u.settle)
    ∧ (s.pipe.ready.valid = false → exec .pointRecordHandover s = .next s.settle))
  ∧ (∀ (s : State) (stamp : Nat) (p : List Byte), s.mode.coreRuns = true → s.link.statusDue = some (stamp, p) →
    ∃ t : State, exec .statusPeriodExpire s = .next t.settle ∧ t.link.statusDue = none ∧ s.keeps t []
      ∧ (t.stream 0).queue = (s.stream 0).queue ++ [{ ty := 8, tstamp := stamp, payload := p }])
  ∧ (∀ s : State, s.mode.coreRuns = true → s.reg K.IDLE_EN = 1 → s.comet.running = false → s.reg K.STR_STATE = 5 → s.link.sending = none → s.link.suspended = none →
    s.nextStream = none → 2 ≤ s.link.quiet → exec .electricalIdleEnter s = .next (s.setLink { s.link with
      idle := true, lines := List.replicate 9 [], codes := List.replicate 9 [] }).settle)
  ∧ ∀ s : State, s.mode.coreRuns = true →
    (∀ n, s.link.idle = true → s.nextStream = some n → exec .electricalIdleExit s =
      .next (s.setLink { s.link.send (fun p => burst p (s.reg K.MARKER_COUNT)) with idle := false }).settle)
    ∧ ((s.link.idle = false ∨ s.nextStream = none) → exec .electricalIdleExit s = .next s.settle))

/-- R248, R250, R252, R257, R276, R277, R418: a marker counts, goes out on every lane in the code groups of its running disparity and makes the bit slips that wait,
and in electrical idle only counts; a lane that retires while the lanes send under version 2 gives
notice of its move to the spare, under version 1 restarts the link in UP, and otherwise moves at once; without a spare the link faults; the notice names the second marker
after its end, and the data moves after it; a lane that returns sends a training burst and, after 16 intervals, gives notice of the move back, and is in service again
once its data has moved; a lane that the retire fuses name cannot return (R423). A spare lane that takes a duty counts in TAKEOVERS as LANE_MAP changes (log 59).
The disparity that the training pairs between two runs of symbols leave is free (log 51), and so is the moment in the slot that a notice is formed at (log 52). -/
def Obligations.LaneSparing : Prop :=
  (∀ s : State, s.mode.coreRuns = true → s.lanesOn = true → s.link.idle = true →
    exec .markerInterval s = .next (s.put K.MARKER_COUNT ((s.reg K.MARKER_COUNT + 1) % 2 ^ 16)).settle)
  ∧ (∀ s : State, s.mode.coreRuns = true → s.lanesOn = true → s.link.idle = false →
    ∃ t : State, exec .markerInterval s = .next t.settle ∧ t.reg K.MARKER_COUNT = (s.reg K.MARKER_COUNT + 1) % 2 ^ 16 ∧ t.link.txSlipDue = 0
      ∧ (∀ i, i < s.link.txSlip.length → t.link.txSlip.getD i 0 = (if bitAt s.link.txSlipDue i = true then (s.link.txSlip.getD i 0 + 1) % 10 else s.link.txSlip.getD i 0))
      ∧ (∀ p, p < 9 → t.link.lines.getD p [] = markerSymbols p ((s.reg K.MARKER_COUNT + 1) % 2 ^ 16)
        ∧ (t.link.codes.getD p [], t.link.txRd.getD p false) = codeGroups (s.link.txRd.getD p false != Config.pairsOdd s.link.sends p)
          (markerSymbols p ((s.reg K.MARKER_COUNT + 1) % 2 ^ 16)))
      ∧ s.keeps t [K.MARKER_COUNT])
  ∧ (∀ (s : State) (i : Fin 9) (a : HostAt), s.accepts (K.TX_BITSLIP i) (a.write 1 1) = true →
    exec (.txBitslip i a) s = .next (noteResult a.path (0, s.setLink { s.link with txSlipDue := withBit s.link.txSlipDue i true })).settle)
  ∧ (∀ (s : State) (w : HostWrite) (b p : Nat), s.accepts K.LANE_RETIRE w = true → b = ofLe w.data → b < 8 → p = s.reg (K.LANE_MAP b) → bitAt s.link.retired p = false →
    (s.spareFree = true → p ≠ 8 → s.lanesOn = true → s.reg K.LINK_VER = 2 →
      ∃ t : State, exec (.laneRetire w) s = .next (noteResult w.path (0, t)).settle ∧ t.link.retired = withBit s.link.retired p true ∧ s.keeps t []
        ∧ ∃ cc, cc < 2800 ∧ (t.stream 0).queue = (s.stream 0).queue ++ [{ ty := 11, tstamp := s.stampCc cc, payload := List.replicate 8 0, notice := some (b, p, 8) }])
    ∧ (s.spareFree = true → p ≠ 8 → s.reg K.STR_STATE = 5 → s.reg K.LINK_VER ≠ 2 → s.movesDue = [] →
      ∃ t : State, exec (.laneRetire w) s = .next (noteResult w.path (0, t)).settle ∧ t.link.retired = withBit s.link.retired p true ∧ t.reg (K.LANE_MAP b) = 8
        ∧ t.reg K.TAKEOVERS = min (s.reg K.TAKEOVERS + 1) (2 ^ 32 - 1) ∧ t.reg K.STR_STATE = 1)
    ∧ (s.spareFree = true → p ≠ 8 → s.reg K.STR_STATE ≠ 5 → (s.lanesOn = false ∨ s.reg K.LINK_VER ≠ 2) →
      ∃ t : State, exec (.laneRetire w) s = .next (noteResult w.path (0, t)).settle ∧ t.link.retired = withBit s.link.retired p true ∧ t.reg (K.LANE_MAP b) = 8
        ∧ t.reg K.TAKEOVERS = min (s.reg K.TAKEOVERS + 1) (2 ^ 32 - 1) ∧ s.keeps t [K.LANE_MAP b, K.TAKEOVERS])
    ∧ ((s.spareFree = false ∨ p = 8) → s.reg K.STR_STATE = 5 → s.movesDue = [] →
      ∃ t : State, exec (.laneRetire w) s = .next (noteResult w.path (0, t)).settle ∧ t.link.retired = withBit s.link.retired p true ∧ t.reg K.STR_STATE = 6 ∧ t.reg K.STR_FAULT = 2))
  ∧ (∀ (s : State) (p : Packet) (a b c m : Nat), s.mode.coreRuns = true → s.link.sending = some p → p.notice = some (a, b, c) → p.stream = 0 →
    m = (s.reg K.MARKER_COUNT + 2) % 2 ^ 16 →
    ∃ t : State, exec .packetSent s = .next t.settle ∧ t.link.move = some (a, c, m) ∧ t.link.sending = none ∧ s.keeps t []
      ∧ t.link.sent = ({ p with payload := leBytes 8 (a + b * 2 ^ 8 + c * 2 ^ 16 + m * 2 ^ 32) } : Packet).bytes)
  ∧ (∀ (s u v : State) (b new m : Nat), s.mode.coreRuns = true → s.link.move = some (b, new, m) → b < 8 → m < 65536 → u = s.put (K.LANE_MAP b) new →
    v = (if new = 8 then u.put K.TAKEOVERS (min (u.reg K.TAKEOVERS + 1) (2 ^ 32 - 1)) else u) →
    ((s.reg K.MARKER_COUNT + (65536 - m)) % 65536 < 32768 →
      (s.link.rejoin = none → exec .laneMove s = .next (v.setLink { s.link with move := none }).settle)
      ∧ (∀ n, s.link.rejoin = some (new, n) → exec .laneMove s = .next (v.setLink { s.link with
        move := none, rejoin := none, announced := false, retired := withBit s.link.retired new false }).settle))
    ∧ (32768 ≤ (s.reg K.MARKER_COUNT + (65536 - m)) % 65536 → exec .laneMove s = .next s.settle))
  ∧ (∀ (s : State) (w : HostWrite) (p : Nat), s.accepts K.LANE_RETURN w = true → p = ofLe w.data → p < 8 → s.reg (K.LANE_MAP p) = 8 → bitAt s.link.retired p = true →
    bitAt s.link.passed p = true → s.link.rejoin = none →
    (s.fuseRetired (0x60000 + p) = false → exec (.laneReturn w) s = .next (noteResult w.path (0, s.setLink
      (({ s.link with rejoin := some (p, 0), announced := false, sends := s.link.sends + 1 } : Link).sendOn p (burst p (s.reg K.MARKER_COUNT))))).settle)
    ∧ (s.fuseRetired (0x60000 + p) = true → exec (.laneReturn w) s = .next (noteResult w.path (0, s)).settle))
  ∧ ∀ (s : State) (p n : Nat), s.mode.coreRuns = true → s.link.rejoin = some (p, n) → 16 ≤ n → s.link.announced = false → s.reg K.STR_STATE = 5 → s.reg K.LINK_VER = 2 →
    ∃ t : State, exec .laneReturnAnnounce s = .next t.settle ∧ t.link.announced = true ∧ s.keeps t []
      ∧ ∃ cc, cc < 2800 ∧ (t.stream 0).queue = (s.stream 0).queue ++ [{ ty := 11, tstamp := s.stampCc cc, payload := List.replicate 8 0, notice := some (p, 8, p) }]

/-! ### The dictionary, its paths and its commits (chapter 11) -/

/-- R281, R282, R285, R307, R390: a write of an object that the path's version does not serve ends with VERSION, of one that is not there with OBJECT, and of a
register with the first of access, seal, length, range, mode and busy that refuses it, changing nothing (the order is the model's choice, log 13, but for the seal,
which refuses every write of an RWS object); a DOMAIN is written by DWRITE alone, and this write of one ends with ACCESS; a write of a register with a shadow replaces the
shadow and leaves the value in force; one without has its register's effect, and one that Ensign seals keeps the value in force until the next tick. While the dictionary does not answer nothing happens. -/
def Obligations.ObjectWrites : Prop :=
  ∀ (s : State) (k : Fin 16777216) (w : HostWrite),
    (s.answers = false → exec (.objectWrite k w) s = .next s.settle)
    ∧ (s.answers = true → s.serves w.path k = false → exec (.objectWrite k w) s = .next (noteResult w.path (9, s)).settle)
    ∧ (s.answers = true → s.serves w.path k = true → objRow? k = none → exec (.objectWrite k w) s = .next (noteResult w.path (1, s)).settle)
    ∧ (∀ r : ObjRow, s.answers = true → s.serves w.path k = true → objRow? k = some r → r.isDomain = true →
      exec (.objectWrite k w) s = .next (noteResult w.path (2, s)).settle)
    ∧ (∀ r : ObjRow, s.answers = true → s.serves w.path k = true → objRow? k = some r → r.isDomain = false →
      (r.acc = .ro ∨ r.acc = .rwa → exec (.objectWrite k w) s = .next (noteResult w.path (2, s)).settle)
      ∧ (r.acc = .rws → s.sealed.blown = true → exec (.objectWrite k w) s = .next (noteResult w.path (7, s)).settle)
      ∧ ((r.acc = .rw ∨ r.acc = .wo ∨ r.acc = .rws ∧ s.sealed.blown = false) →
        (w.data.length ≠ r.size → exec (.objectWrite k w) s = .next (noteResult w.path (3, s)).settle)
        ∧ (w.data.length = r.size → s.valueOk r k (ofLe w.data) = false → exec (.objectWrite k w) s = .next (noteResult w.path (4, s)).settle)
        ∧ (w.data.length = r.size → s.valueOk r k (ofLe w.data) = true → r.modes.holds s.mode = false → exec (.objectWrite k w) s = .next (noteResult w.path (5, s)).settle)
        ∧ (w.data.length = r.size → s.valueOk r k (ofLe w.data) = true → r.modes.holds s.mode = true →
          exec (.objectWrite k w) s = .next (noteResult w.path ((if r.acc = .rws then s.keepForce k else s).writeReg w.path.num k (ofLe w.data) w.cc w.ecc)).settle))
      ∧ (r.acc = .rwc → w.data.length ≠ r.size → exec (.objectWrite k w) s = .next (noteResult w.path (3, s)).settle)
      ∧ (r.acc = .rwc → w.data.length = r.size → r.modes.holds s.mode = false → exec (.objectWrite k w) s = .next (noteResult w.path (5, s)).settle)
      ∧ (r.acc = .rwc → w.data.length = r.size → r.modes.holds s.mode = true →
        (s.groupHeld r.group = true → exec (.objectWrite k w) s = .next (noteResult w.path (6, s)).settle)
        ∧ (s.groupHeld r.group = false → ∃ t : State, exec (.objectWrite k w) s = .next (noteResult w.path (0, t)).settle ∧ t.objs = s.objs
          ∧ (storeGet t.shadow k).getD (t.reg k) = ofLe w.data ∧ ∀ j, j ≠ k.val → storeGet t.shadow j = storeGet s.shadow j)))

/-- R289, R290, R295: a request frame on the node's identifier waits on its CAN path with the identifier, the bit rate switch and the bit rates of its response, a fifth being answered
BUSY, and is answered though the settings now in use turn the controller off; the oldest request of a path is answered with what its command makes of it, over CAN FD in a frame padded with zeros; one shorter than a header is a LENGTH
error. R283, R289, R291, R292, R308: what the commands make of a request: READ of a whole object gives
its bytes and changes nothing; a WRITE has the write's result; a DREAD gives the bytes from OFFSET; the last segment of a DWRITE writes the whole DOMAIN;
CONNECT selects the highest protocol version of both sides. -/
def Obligations.RequestsAndCommands : Prop :=
  (∀ (s : State) (q : Request) (i : Nat) (c : CanCtl) (w : Waiting), s.pathUp q.path = true → q.arrives = true → q.path.can = some i →
    msgCmd q.bytes = 1 → 8 ≤ q.bytes.length → c = (s.can1 i).received → w = { bytes := q.bytes, aux := 0x640 + c.node, brs := c.dataRate != 0, rates := (c.nomRate, c.dataRate) } →
    (q.ident ≠ 0x540 + c.node → exec (.read q) s = .next (s.setCan i c).settle)
    ∧ (q.ident = 0x540 + c.node → (s.pathState q.path).queue.length < 4 →
      exec (.read q) s = .next ((s.setCan i c).setPath q.path { s.pathState q.path with queue := (s.pathState q.path).queue ++ [w] }).settle)
    ∧ (q.ident = 0x540 + c.node → 4 ≤ (s.pathState q.path).queue.length →
      exec (.read q) s = .next ((s.setCan i c).answer q.path w (headerOnly q.bytes 6) q.cc).settle))
  ∧ (∀ (s : State) (p : Path) (i : Nat) (w : Waiting) (b : List Byte) (cc : Nat), p.can = some i → i < s.can.length →
    (s.answer p w b cc).can1 i = { s.can1 i with sent := { ident := w.aux, brs := w.brs, rates := w.rates, data := b ++ List.replicate (frameLen b.length - b.length) 0 }, txErrors := (s.can1 i).txErrors - 1 })
  ∧ (∀ (s d : State) (q : Request) (aux : Waiting), (s.pathUp q.path = true ∨ s.mayAnswer q.path = true) → q.arrives = false → s.isNext q = true → d = s.dequeue q.path → aux = s.oldest q.path →
    (8 ≤ q.bytes.length →
      (msgCmd q.bytes = 1 → exec (.read q) s = .next ((d.serveRead q.path q.bytes).2.answer q.path aux (d.serveRead q.path q.bytes).1 q.cc).settle)
      ∧ (msgCmd q.bytes = 2 → exec (.write q) s = .next ((d.serveWrite q).2.answer q.path aux (d.serveWrite q).1 q.cc).settle)
      ∧ (msgCmd q.bytes = 3 → exec (.dread q) s = .next ((d.serveDread q.path q.bytes).2.answer q.path aux (d.serveDread q.path q.bytes).1 q.cc).settle)
      ∧ (msgCmd q.bytes = 4 → exec (.dwrite q) s = .next ((d.serveDwrite q).2.answer q.path aux (d.serveDwrite q).1 q.cc).settle)
      ∧ (msgCmd q.bytes = 5 → exec (.connect q) s = .next ((d.serveConnect q.path q.bytes).2.answer q.path aux (d.serveConnect q.path q.bytes).1 q.cc).settle)
      ∧ (msgCmd q.bytes = 6 → exec (.abort q) s = .next ((d.setOpen q.path none).answer q.path aux (headerOnly q.bytes 0) q.cc).settle))
    ∧ (8 ≤ q.bytes.length → (msgCmd q.bytes = 0 ∨ 6 < msgCmd q.bytes) → exec (.read q) s = .next (d.answer q.path aux (headerOnly q.bytes 11) q.cc).settle)
    ∧ (q.bytes.length < 8 → exec (.read q) s = .next (d.answer q.path aux (headerOnly q.bytes 3) q.cc).settle))
  ∧ (∀ (s : State) (p : Path) (b : List Byte) (r : ObjRow),
    (s.find p (msgKey b) = .ok r → r.isDomain = false → fieldAt b 5 1 = 0 → fieldAt b 6 1 = 0 →
      s.serveRead p b = (reply b 0 (bytesAt b 5 3) (s.objBytes p r (msgKey b)), s))
    ∧ (∀ e, s.find p (msgKey b) = .error e → s.serveRead p b = (reply b e (bytesAt b 5 3) [], s))
    ∧ (∀ q : Request, q.path = p → q.bytes = b → s.find p (msgKey b) = .ok r → r.isDomain = false → r.acc ≠ .ro → r.acc ≠ .rwa → writeLenOk p r b = true →
      s.serveWrite q = (headerOnly b (s.writeFound s.mode p.num r (msgKey b) q.cc q.ecc (bytesAt b 8 r.size)).1,
        noteResult p (s.writeFound s.mode p.num r (msgKey b) q.cc q.ecc (bytesAt b 8 r.size))))
    ∧ (s.find p (msgKey b) = .ok r → r.isDomain = true → 16 ≤ b.length → fieldAt b 5 2 ≤ maxLen p → s.protoVer p ≠ 1 → fieldAt b 8 4 = 0 →
      (s.serveDread p b).1 = reply b 0 (leBytes 2 ((s.domView (msgKey b)).take (fieldAt b 5 2)).length ++ bytesAt b 7 1)
        (leBytes 4 0 ++ leBytes 4 (s.domView (msgKey b)).length ++ (s.domView (msgKey b)).take (fieldAt b 5 2)))
    ∧ (∀ q : Request, q.path = p → q.bytes = b → s.find p (msgKey b) = .ok r → r.isDomain = true → r.acc ≠ .ro → fieldAt b 5 2 ≤ maxLen p → fills p b (16 + fieldAt b 5 2) = true →
      fieldAt b 8 4 = 0 → (bytesAt b 16 (fieldAt b 5 2)).length = fieldAt b 12 4 →
      s.dwriteStep q = ((s.domWrite (msgKey b) p q.cc (bytesAt b 16 (fieldAt b 5 2))).1,
        (noteResult p (s.domWrite (msgKey b) p q.cc (bytesAt b 16 (fieldAt b 5 2)))).setOpen p none))
    ∧ (p ≠ .sideband → 12 ≤ b.length → ∀ v, (v = 2 ∧ bitAt (fieldAt b 8 1) 2 = true ∨ v = 1 ∧ bitAt (fieldAt b 8 1) 2 = false ∧ bitAt (fieldAt b 8 1) 1 = true) →
      (s.serveConnect p b).2 = s.setPath p { s.pathState p with protoVer := v, dictVer := some (fieldAt b 10 2) }))

/-- R285, R286, R287: COMMIT of a mask that is not 0 starts a check; while one runs or is armed COMMIT and DISCARD are BUSY; DISCARD drops the shadows of its
groups; the check's end arms the activation or refuses with its code and sets COMMIT_REFUSED. R18, R20, R285, R288: at its tick a commit of the groups of
plain settings (8, 14, 19, 21, 22, and 12 where no threshold changes) puts every shadow of its groups in force, drops them, counts and is over; one that its tick refuses changes no value in
force. -/
def Obligations.Commits : Prop :=
  ((∀ (s : State) (w : HostWrite), s.accepts K.COMMIT w = true →
    (s.commitBusy = false → ofLe w.data ≠ 0 →
      exec (.commit w) s = .next (noteResult w.path (0, { s.put K.COMMIT_STATE 1 with commit := { mask := ofLe w.data, path := w.path.num } })).settle)
    ∧ (s.commitBusy = false → ofLe w.data = 0 → exec (.commit w) s = .next (noteResult w.path (0, s)).settle)
    ∧ (s.commitBusy = true → exec (.commit w) s = .next (noteResult w.path (6, s)).settle))
  ∧ (∀ (s : State) (w : HostWrite), s.accepts K.DISCARD w = true →
    (s.commitBusy = false → ∃ t : State, exec (.discard w) s = .next (noteResult w.path (0, t)).settle ∧ t.objs = s.objs
      ∧ (∀ k v, (k, v) ∈ t.shadow ↔ (k, v) ∈ s.shadow ∧ inMask (ofLe w.data) k = false) ∧ ∀ k b, (k, b) ∈ t.domShadow ↔ (k, b) ∈ s.domShadow ∧ inMask (ofLe w.data) k = false)
    ∧ (s.commitBusy = true → exec (.discard w) s = .next (noteResult w.path (6, s)).settle))
  ∧ ∀ (s : State) (cc : Fin 2800), s.mode.coreRuns = true → s.reg K.COMMIT_STATE = 1 →
    (∀ c d, s.commitFault s.commit.mask = some (c, d) →
      exec (.commitCheckDone cc) s = .next ((((s.put K.COMMIT_STATE 3).put K.COMMIT_RESULT c).put K.COMMIT_DETAIL d).stick 24).settle)
    ∧ (s.commitFault s.commit.mask = none → exec (.commitCheckDone cc) s = .next
      { ((s.put K.COMMIT_STATE 2).put K.COMMIT_RESULT 0).put K.COMMIT_DETAIL 0 with commit := { s.commit with ticks := ticksAfter cc } }.settle))
  ∧ ((∀ s u v c : State, s.ticking = true → s.commitDue = true → u = s.atTick → v = u.swapTick → v.commitDue = true → c = (v.withShadows v.commit.mask).shadowDrop v.commit.mask →
    (v.tickFault = none → (∀ g, bitAt v.commit.mask g = true → g ∈ [8, 12, 14, 19, 21, 22]) →
      (bitAt v.commit.mask 12 = true → ∀ n, n < 48 → ∀ k ∈ [K.COMP_LEVEL n, K.COMP_HYST n, K.COMP_POL n], k ∉ v.changed v.commit.mask) → v.lockedA = c.lockedA → v.lockedB = c.lockedB →
      exec .commitActivate s = .next { ((c.put K.COMMIT_STATE 0).put K.COMMIT_SEQ ((c.reg K.COMMIT_SEQ + 1) % 2 ^ 32)).put K.COMMIT_TICK u.nextStamp with commit := {} }.settle)
    ∧ ∀ f d, v.tickFault = some (f, d) →
      exec .commitActivate s = .next { (((v.put K.COMMIT_STATE 3).put K.COMMIT_RESULT f).put K.COMMIT_DETAIL d).stick 24 with commit := {} }.settle)
  ∧ ∀ (s : State) (mask k v : Nat), storeSorted none s.shadow = true → storeGet s.shadow k = some v →
    (s.withShadows mask).reg k = (if inMask mask k = true then v else s.reg k))

/-- R293, R295: the error counters follow what happens on the bus, bus-off is entered at 256 and counted, and its recovery clears both (the counters' steps are
ISO 11898-1's, log 46); CAN_STATE tells error-passive from error-active; a controller takes its settings at bus idle after an activation; a due status frame
carries the Pennant word on 0x0C0 + m with the bit rates in use and the bit rate switch of the data rate. -/
def Obligations.CanControllers : Prop :=
  ∀ (s : State) (m : Fin 2) (c : CanCtl), s.mode.coreRuns = true → c = s.can1 m →
    ((s.canState m = 1 ∨ s.canState m = 2) → 248 ≤ c.txErrors → exec (.canBusOff m .txError) s = .next ((s.setCan m { c with
      txErrors := 256, busOff := true, offAges := 0 :: c.offAges }).put (K.CAN_BUSOFF m) (min (s.reg (K.CAN_BUSOFF m) + 1) (2 ^ 32 - 1))).settle)
    ∧ ((s.canState m = 1 ∨ s.canState m = 2) → c.txErrors < 248 → exec (.canBusOff m .txError) s = .next (s.setCan m { c with txErrors := c.txErrors + 8 }).settle)
    ∧ (c.busOff = true → exec (.canBusOff m .recovered) s = .next (s.setCan m { c with busOff := false, txErrors := 0, rxErrors := 0 }).settle)
    ∧ (c.enabled = true → s.reg K.REF_STATE ≠ 0 → c.busOff = false → s.canState m = (if 128 ≤ c.txErrors ∨ 128 ≤ c.rxErrors then 2 else 1))
    ∧ (c.applyDue = true → exec (.canSettingsApply m) s = .next (s.setCan m { c with
        node := s.reg K.CAN_NODE, nomRate := s.reg K.CAN_NOM_RATE, dataRate := s.reg K.CAN_DATA_RATE, enabled := s.regBit K.CAN_EN m
        statusEn := s.regBit K.CAN_STATUS_EN 0, applyDue := false }).settle)
    ∧ (s.canStatusDue m = true → exec (.canStatusFrame m) s = .next (s.setCan m { c with statusDue := false, sinceStatus := 0, txErrors := c.txErrors - 1, sent := { ident := 0x0C0 + c.node, brs := c.dataRate != 0, rates := (c.nomRate, c.dataRate), data := leBytes 8 s.pennant } }).settle)
    ∧ ((s.canState m = 1 ∨ s.canState m = 2) → exec (.canFrameIgnored m) s = .next (s.put (K.CAN_IGNORED m) (min (s.reg (K.CAN_IGNORED m) + 1) (2 ^ 32 - 1))).settle)

/-- R296, R297, R298, R299, R300, R301: the QSPI commands: a READ returns the mirror's bytes, and one that reaches beyond it reads 0xFF there and counts as an error; WREAD of the bulk window takes the
oldest bytes and fills with 0xFF; a WRITE queues a mirror write, the ninth ending BUSY, or enters the bulk queue, counting what does not fit; STATUS returns
the status byte. R300, R307: the registers of the DOMAIN window: QDOM_SEL selects, QDOM_WRITE_LEN starts the write of the staged bytes and is BUSY while one
runs, its end leaves the result in QDOM_RESULT; QSPI_DICT_VER declares the path's version. -/
def Obligations.QspiPort : Prop :=
  ((∀ (s : State) (a n : Nat), s.mode.coreRuns = true → s.answers = true →
    (a + n ≤ mirrorEnd → exec (.qspiRead a n) s = .next ((s.mirrorRead a (n / 16 + 2) n).2.setQspi { (s.mirrorRead a (n / 16 + 2) n).2.qspi with
      readData := (s.mirrorRead a (n / 16 + 2) n).1 }).settle)
    ∧ (0 < n → a < mirrorEnd → mirrorEnd < a + n → exec (.qspiRead a n) s =
      .next (((s.mirrorRead a (n / 16 + 2) n).2.setQspi { (s.mirrorRead a (n / 16 + 2) n).2.qspi with readData := (s.mirrorRead a (n / 16 + 2) n).1 }).put K.QSPI_ERRORS
        (min ((s.mirrorRead a (n / 16 + 2) n).2.reg K.QSPI_ERRORS + 1) (2 ^ 32 - 1))).settle)
    ∧ (0 < n → mirrorEnd ≤ a → exec (.qspiRead a n) s =
      .next ((s.setQspi { s.qspi with readData := List.replicate n 255 }).put K.QSPI_ERRORS (min (s.reg K.QSPI_ERRORS + 1) (2 ^ 32 - 1))).settle)
    ∧ (0x10000000 ≤ a → a + n ≤ 0x10010000 → 0 < n → n ≤ s.qspi.bulkOut.length →
      exec (.wread a n) s = .next (s.setQspi { s.qspi with bulkOut := s.qspi.bulkOut.drop n, readData := s.qspi.bulkOut.take n }).settle)
    ∧ (0x10000000 ≤ a → a + n ≤ 0x10010000 → s.qspi.bulkOut.length < n →
      ∃ t : State, exec (.wread a n) s = .next t.settle ∧ t.qspi.readData = s.qspi.bulkOut ++ List.replicate (n - s.qspi.bulkOut.length) 255 ∧ t.qspi.bulkOut = []
        ∧ t.reg K.BULK_UNDERRUN = min (s.reg K.BULK_UNDERRUN + (n - s.qspi.bulkOut.length)) (2 ^ 32 - 1) ∧ s.keeps t [K.BULK_UNDERRUN])
    ∧ (0x20000000 ≤ a → a + n ≤ 0x20040000 → 0 < n →
      exec (.wread a n) s = .next (s.setQspi { s.qspi with readData := (List.range n).map fun i => s.windowView.getD (a - 0x20000000 + i) 255 }).settle))
  ∧ (∀ (s : State) (a : Nat) (d : List Byte), s.mode.coreRuns = true → s.answers = true →
    (a < mirrorEnd → s.qspi.writeQ.length < 8 → exec (.qspiWrite a d) s = .next (s.setQspi { s.qspi with writeQ := s.qspi.writeQ ++ [(a, d)] }).settle)
    ∧ (a < mirrorEnd → 8 ≤ s.qspi.writeQ.length → exec (.qspiWrite a d) s = .next (noteResult .qspi (6, s)).settle)
    ∧ (0x10000000 ≤ a → a ≤ 0x1000FFFF → s.qspi.bulkIn.length + d.length ≤ 32768 → exec (.qspiWrite a d) s = .next (s.setQspi { s.qspi with bulkIn := s.qspi.bulkIn ++ d }).settle)
    ∧ (0x10000000 ≤ a → a ≤ 0x1000FFFF → s.qspi.bulkIn.length ≤ 32768 → 32768 < s.qspi.bulkIn.length + d.length →
      exec (.qspiWrite a d) s = .next ((s.setQspi { s.qspi with bulkIn := s.qspi.bulkIn ++ d.take (32768 - s.qspi.bulkIn.length) }).put K.BULK_OVERRUN
        (min (s.reg K.BULK_OVERRUN + (d.length - (32768 - s.qspi.bulkIn.length))) (2 ^ 32 - 1))).settle)
    ∧ (0x20000000 ≤ a → a ≤ 0x2003FFFF → exec (.qspiWrite a d) s = .next (s.setQspi { s.qspi with staging := splice s.qspi.staging (a - 0x20000000) d }).settle))
  ∧ (∀ s : State, s.mode.coreRuns = true → exec .qspiStatus s = .next (s.setQspi { s.qspi with readData := leBytes 1 s.statusByte }).settle
    ∧ exec .qspiUnknownCommand s = .next (s.put K.QSPI_ERRORS (min (s.reg K.QSPI_ERRORS + 1) (2 ^ 32 - 1))).settle)
  ∧ ∀ (s : State) (cc : Fin 2800) (ecc : Ecc) (a : Nat) (d : List Byte) (l : List (Nat × List Byte)), s.mode.coreRuns = true → s.answers = true → s.qspi.writeQ = (a, d) :: l →
    exec (.qspiMirrorWriteApply cc ecc) s = .next (noteResult .qspi ((s.setQspi { s.qspi with writeQ := l }).mirrorWrite a cc ecc d)).settle)
  ∧ ((∀ (s : State) (w : HostWrite), s.accepts K.QDOM_SEL w = true →
    ∃ t : State, exec (.qdomSel w) s = .next (noteResult w.path (0, t)).settle ∧ t.reg K.QDOM_SEL = ofLe w.data ∧ s.keeps t [K.QDOM_SEL] ∧ t.qspi = s.qspi)
  ∧ (∀ (s : State) (w : HostWrite), s.accepts K.QDOM_WRITE_LEN w = true →
    (s.qspi.domJob = none → exec (.qdomWriteLen w) s = .next (noteResult w.path (0,
      ({ s with qspi := { s.qspi with domJob := some (s.reg K.QDOM_SEL, bytesAt s.qspi.staging 0 (ofLe w.data)) } }).put K.QDOM_RESULT 255)).settle)
    ∧ (∀ j, s.qspi.domJob = some j → exec (.qdomWriteLen w) s = .next (noteResult w.path (6, s)).settle))
  ∧ (∀ (s : State) (cc : Fin 2800) (j : Nat × List Byte) (r : Nat × State), s.mode.coreRuns = true → s.qspi.domJob = some j →
    r = ({ s with qspi := { s.qspi with domJob := none } }).domWrite (selKey j.1) .qspi cc j.2 → exec (.qdomWriteDone cc) s = .next (r.2.put K.QDOM_RESULT r.1).settle)
  ∧ ∀ (s : State) (w : HostWrite), s.accepts K.QSPI_DICT_VER w = true →
    exec (.qspiDictVer w) s = .next (noteResult w.path (0, (s.put K.QSPI_DICT_VER (ofLe w.data)).setPath .qspi
      { s.pathState .qspi with dictVer := if ofLe w.data = 0 then none else some (ofLe w.data) })).settle)

/-- R303, R304, R305: an authenticated write is judged as a record; one whose tag, counter, length and mode hold takes effect and raises the counter; a wrong
tag is refused, counted with its age and shown in the Pennant word, the eighth of a second locking records out; while locked out every record is refused. R305, R391, R423: the ends of programming
the seal and the retire fuses judge the request in the order of their rules, VIN below 18 V during the programming being what the supply brings, and a fuse row that fails being redirected to one of the 16 spare ones while there is
one; the lock-out ends after its second. The order in which the failures of one request are judged is the model's choice (logs 54 and 55). -/
def Obligations.AuthenticatedWrites : Prop :=
  ((∀ (s : State) (a : AuthWrite), s.mayWrite a.path K.AUTH_WRITE = true →
    exec (.sealProgram a) s = .next (noteDomain a.path (s.authAt s.mode (authRecord K.SEAL_PROGRAM a.len a.counter a.data a.tag) a.cc)).settle
    ∧ exec (.degAck a) s = .next (noteDomain a.path (s.authAt s.mode (authRecord K.DEG_ACK a.len a.counter a.data a.tag) a.cc)).settle
    ∧ exec (.retireBurn a) s = .next (noteDomain a.path (s.authAt s.mode (authRecord K.RETIRE_BURN a.len a.counter a.data a.tag) a.cc)).settle)
  ∧ ∀ (s : State) (m : Mode) (b : List Byte) (k len : Nat) (r : ObjRow), b.length = 32 → len = fieldAt b 3 1 → 1 ≤ len → len ≤ 8 → (∀ x ∈ bytesAt b 24 8, x = 0) →
    (∀ x ∈ bytesAt b (8 + len) (8 - len), x = 0) → k = objKey (fieldAt b 0 2) (fieldAt b 2 1) → authTarget k = some r → len = r.size →
    (∀ cc, (s.authAt m b cc).1 = (s.authWrite m b).1 ∧ ∀ j, (s.authAt m b cc).2.reg j = (s.authWrite m b).2.reg j)
    ∧ (s.authKey = false → s.authWrite m b = (8, ((s.put K.AUTH_RESULT 3).put K.AUTH_FAILS (min (s.reg K.AUTH_FAILS + 1) (2 ^ 32 - 1))).stick 25))
    ∧ (s.authKey = true → s.auth.lockTicks ≠ 0 → s.authWrite m b = (8, ((s.put K.AUTH_RESULT 4).put K.AUTH_FAILS (min (s.reg K.AUTH_FAILS + 1) (2 ^ 32 - 1))).stick 25))
    ∧ (s.authKey = true → s.auth.lockTicks = 0 → bytesAt b 16 8 ≠ s.authTag b → s.authWrite m b = (8, ((({ s with auth := { s.auth with
      mismatchAges := 0 :: s.auth.mismatchAges, lockTicks := if 7 ≤ s.auth.mismatchAges.length then 500000 else 0 } }).put K.AUTH_RESULT 1).put K.AUTH_FAILS
        (min (s.reg K.AUTH_FAILS + 1) (2 ^ 32 - 1))).stick 25))
    ∧ (s.authKey = true → s.auth.lockTicks = 0 → bytesAt b 16 8 = s.authTag b → fieldAt b 4 4 ≤ s.reg K.AUTH_COUNTER →
      s.authWrite m b = (8, ((s.put K.AUTH_RESULT 2).put K.AUTH_FAILS (min (s.reg K.AUTH_FAILS + 1) (2 ^ 32 - 1))).stick 25))
    ∧ (s.authKey = true → s.auth.lockTicks = 0 → bytesAt b 16 8 = s.authTag b → s.reg K.AUTH_COUNTER < fieldAt b 4 4 → r.modes.holds m = true →
      s.authWrite m b = (0, ((s.put K.AUTH_COUNTER (fieldAt b 4 4)).authApply k (fieldAt b 8 len)).put K.AUTH_RESULT 0)))
  ∧ ((∀ (s : State) (v : Nat) (e : FuseEnd) (u : State), s.mode.coreRuns = true → s.sealed.request = some v → u = { s with sealed := { s.sealed with request := none } } →
    (s.sealed.blown = true → exec (.sealProgramDone e) s = .next (u.put K.SEAL_RESULT 6).settle)
    ∧ (s.sealed.blown = false → v ≠ crc32 u.sealImage → exec (.sealProgramDone e) s = .next (u.put K.SEAL_RESULT 3).settle)
    ∧ (s.sealed.blown = false → v = crc32 u.sealImage → e.vinLow = true → exec (.sealProgramDone e) s = .next (u.put K.SEAL_RESULT 4).settle)
    ∧ (s.sealed.blown = false → v = crc32 u.sealImage → e.vinLow = false → 16 < s.fuses.rowsUsed + e.rows →
      exec (.sealProgramDone e) s = .next ({ u with fuses := { u.fuses with rowsUsed := 16 } }.put K.SEAL_RESULT 5).settle)
    ∧ (s.sealed.blown = false → v = crc32 u.sealImage → e.vinLow = false → s.fuses.rowsUsed + e.rows ≤ 16 →
      ∃ t : State, exec (.sealProgramDone e) s = .next t.settle ∧ t.reg K.SEAL_RESULT = 2 ∧ t.reg K.SEAL_STATE = 1 ∧ t.reg K.SEAL_CRC = v ∧ t.sealed.blown = true ∧ t.sealed.fuseCrc = v
        ∧ t.sealed.fuseImage = u.sealImage ∧ t.fuses = { s.fuses with rowsUsed := s.fuses.rowsUsed + e.rows } ∧ s.keeps t [K.SEAL_RESULT, K.SEAL_STATE, K.SEAL_CRC]))
  ∧ (∀ (s : State) (x : Nat) (e : FuseEnd) (u : State), s.mode.coreRuns = true → s.spares.burn = some x → u = s.setSpares { s.spares with burn := none } →
    (s.fuseRetired x = true → exec (.retireBurnDone e) s = .next (u.put K.BURN_RESULT 7).settle)
    ∧ (s.fuseRetired x = false → s.unitOut x = false → exec (.retireBurnDone e) s = .next (u.put K.BURN_RESULT 3).settle)
    ∧ (s.fuseRetired x = false → s.unitOut x = true → e.vinLow = true → exec (.retireBurnDone e) s = .next (u.put K.BURN_RESULT 4).settle)
    ∧ (s.fuseRetired x = false → s.unitOut x = true → e.vinLow = false →
      ((∀ i, i < 64 → s.fuses.retire.getD i 0 ≠ 0) → exec (.retireBurnDone e) s = .next (u.put K.BURN_RESULT 5).settle)
      ∧ ∀ j, j < 64 → s.fuses.retire.getD j 0 = 0 → (∀ i, i < j → s.fuses.retire.getD i 0 ≠ 0) →
        (e.rows = 0 → exec (.retireBurnDone e) s = .next (({ u with
          fuses := { s.fuses with retire := setAt 0 s.fuses.retire j (retireEntry x) } }).put K.BURN_RESULT 2).settle)
        ∧ (0 < e.rows → 16 ≤ s.fuses.rowsUsed → exec (.retireBurnDone e) s = .next (u.put K.BURN_RESULT 6).settle)
        ∧ (0 < e.rows → s.fuses.rowsUsed < 16 → exec (.retireBurnDone e) s = .next (({ u with
          fuses := { s.fuses with rowsUsed := s.fuses.rowsUsed + 1, retire := setAt 0 s.fuses.retire j (retireEntry x) } }).put K.BURN_RESULT 2).settle)))
  ∧ ∀ s : State, s.mode.coreRuns = true → s.auth.lockTicks = 1 → exec .authLockoutEnd s = .next { s with auth := { s.auth with lockTicks := 0 } }.settle)

/-- R309, R310, R465: PENNANT_CLEAR clears the sticky bits it names and no live one, but for those whose event falls in its cc, which stay and count as a rise; IRQ_ACK the causes it names; when a command ends the Pennant word that
was noted is the one that holds, and every rise of an enabled bit stands in IRQ_CAUSE. -/
def Obligations.PennantAndInterrupt : Prop :=
  (∀ (s : State) (w : HostWrite), s.accepts K.PENNANT_CLEAR w = true →
    ∃ t : State, exec (.pennantClear w) s = .next (noteResult w.path (0, t)).settle ∧ s.keeps t [K.IRQ_CAUSE]
      ∧ ∀ n e, e = (decide (n < 32) && s.penn.events.contains (n, s.slot % 2 ^ 44, w.cc.val)) →
        bitAt t.penn.sticky n = (bitAt s.penn.sticky n && (!bitAt (ofLe w.data) n || e))
        ∧ bitAt (t.reg K.IRQ_CAUSE) n = (bitAt (s.reg K.IRQ_CAUSE) n || (bitAt (ofLe w.data) n && bitAt s.penn.sticky n && e && bitAt (s.reg K.IRQ_EN) n)))
  ∧ (∀ (s : State) (w : HostWrite), s.accepts K.IRQ_ACK w = true →
    ∃ t : State, exec (.irqAck w) s = .next (noteResult w.path (0, t)).settle ∧ s.keeps t [K.IRQ_CAUSE]
      ∧ ∀ n, bitAt (t.reg K.IRQ_CAUSE) n = (bitAt (s.reg K.IRQ_CAUSE) n && !bitAt (ofLe w.data) n))
  ∧ ∀ s t : State, t = s.settle →
    (t.mode.coreRuns = true → t.penn.last = t.pennant
      ∧ ∀ n, n < 32 → bitAt t.pennant n = true → bitAt s.penn.last n = false → bitAt (s.reg K.IRQ_EN) n = true → bitAt (t.reg K.IRQ_CAUSE) n = true)
    ∧ (t.mode.coreRuns = false → t.reg K.IRQ_CAUSE = 0 ∧ t.penn.last = 0)

/-! ### References, housekeeping and calibration (chapters 12 to 14) -/

/-- R314, R318, R319, R321, R324, R326: losing REFCLK is counted, ends both locks and holds every clock output low, and its return shows in REF_STATE; a detector
window leaves its difference; the fourth good one in a row declares lock, a bad one loses it with count and stamp; 10 ms without lock is FAILED; an output
takes its committed setting. The resumption of locked ticks restarts the dividers where PLL A has locked and the slots are not yet locked. -/
def Obligations.ReferenceAndLocks : Prop :=
  (∀ (s : State) (cc : Fin 2800), s.reg K.REF_STATE = 1 → s.fs.retire.source < 50 → s.fs.retire.target < 50 →
    ∃ t : State, exec (.refclkLoss cc) s = .next t.settle ∧ t.reg K.REF_STATE = 0 ∧ t.reg K.REF_LOSSES = min (s.reg K.REF_LOSSES + 1) (2 ^ 32 - 1)
      ∧ (∀ o ∈ t.clk.outs, o.held = true ∧ o.phase = none)
      ∧ ∀ b, (s.reg (pllState b) = 2 → t.reg (pllState b) = 3 ∧ t.reg (pllLosses b) = min (s.reg (pllLosses b) + 1) (2 ^ 32 - 1) ∧ t.reg (pllLossLast b) = s.stampCc cc)
        ∧ (s.reg (pllState b) ≠ 2 → t.reg (pllState b) = s.reg (pllState b) ∧ t.reg (pllLosses b) = s.reg (pllLosses b)))
  ∧ (∀ s : State, (s.reg K.REF_STATE ≠ 1 → exec .refclkReturn s = .next (s.put K.REF_STATE 1).settle) ∧ (s.reg K.REF_STATE = 1 → exec .refclkReturn s = .next s.settle))
  ∧ (∀ s : State, s.mode.coreRuns = true →
    (s.lockedA = true → s.clk.slotLocked = false → exec .lockedTickResume s = .next (s.setClk { s.clk with restarted := true }).settle)
    ∧ ((s.lockedA = false ∨ s.clk.slotLocked = true) → exec .lockedTickResume s = .next s.settle))
  ∧ (∀ (s : State) (b : Bool) (d : Int) (cc : Fin 2800) (u w : State), s.mode.coreRuns = true → s.reg K.REF_STATE = 1 → s.reg (pllState b) ≠ 0 → (s.pll b).skip = false →
      u = s.putI 16 (pllDiff b) d → w = (u.setPll b { s.pll b with good := 0 }).put (pllState b) 2 →
    (s.reg (pllState b) = 2 → d.natAbs ≤ 8 → exec (.pllWindowEnd b d cc) s = .next u.settle)
    ∧ (s.reg (pllState b) = 2 → 8 < d.natAbs → s.fs.retire.source < 50 → s.fs.retire.target < 50 → ∃ t : State, exec (.pllWindowEnd b d cc) s = .next t.settle ∧ t.reg (pllState b) = 3
      ∧ t.reg (pllDiff b) = ofSigned 16 d ∧ t.reg (pllLosses b) = min (s.reg (pllLosses b) + 1) (2 ^ 32 - 1) ∧ t.reg (pllLossLast b) = s.stampCc cc)
    ∧ (s.reg (pllState b) ≠ 2 → 2 < d.natAbs → exec (.pllWindowEnd b d cc) s = .next (u.setPll b { s.pll b with good := 0 }).settle)
    ∧ (s.reg (pllState b) ≠ 2 → d.natAbs ≤ 2 → (s.pll b).good ≠ 3 →
      exec (.pllWindowEnd b d cc) s = .next (u.setPll b { s.pll b with good := (s.pll b).good + 1 }).settle)
    ∧ (s.reg (pllState b) ≠ 2 → d.natAbs ≤ 2 → (s.pll b).good = 3 → s.mode ≠ .boot →
      exec (.pllWindowEnd b d cc) s = .next (if b = true then w else w.setClk { w.clk with declared := true }).settle))
  ∧ (∀ s : State, s.mode.coreRuns = true → s.mode ≠ .boot →
    (s.reg K.PLLA_STATE = 1 → 5000 ≤ s.clk.a.ticks → exec (.pllFailTimeout false) s = .next (s.put K.PLLA_STATE 4).settle)
    ∧ (s.reg K.PLLB_STATE = 1 → 5000 ≤ s.clk.b.ticks → exec (.pllFailTimeout true) s = .next ((s.put K.PLLB_STATE 4).putBit K.BOOT_STATUS 8 true).settle))
  ∧ ∀ (s : State) (o : Fin 2), s.mode.coreRuns = true → (s.clk.outs.getD o {}).due = true → (s.clk.outs.getD o {}).fresh = false →
    ∃ n : ClkOut, exec (.clkoutReconfig o) s = .next (s.setClk { s.clk with outs := setAt {} s.clk.outs o n }).settle
      ∧ n.en = (s.reg (K.CLK_EN o) == 1) ∧ n.src = s.reg (K.CLK_SRC o) ∧ n.fmt = s.reg (K.CLK_FMT o) ∧ n.div = s.reg (K.CLK_DIV o) ∧ n.due = false

/-- R334: a trigger of an armed kind starts the entry that waits for it; else it latches; a second one before the latch is taken counts as an overrun. The
slot tick, the MARKs of the slot that ended and the HK timer are the kinds 1, 2 and 3. R332, R333, R334, R348: an entry that waits for nothing starts, one
whose trigger is latched takes the latch, any other waits; its conversions gather until REPEAT of them are in, and then the result, with its group, PASS and
FRESH, and the stamp stand in the entry's registers; an RTD with an open lead is in break. R329: of the reference, the short and the test DAC the code is that of their level, whatever the operand
says (hkRead, log 53). The timer's expiries are HK_TIMER µs apart. -/
def Obligations.Housekeeping : Prop :=
  ((∀ (s u : State) (k : Nat), s.mode.coreRuns = true → s.hk.on = true → u = s.setHk { s.hk with tickDue := false, markDue := 0 } →
      (s.hk.tickDue = true ∧ s.hk.markDue = 0 ∧ k = 1 ∨ s.hk.tickDue = false ∧ s.hk.markDue = 1 ∧ k = 2) →
    (s.hkArmed k = true → exec .hkTrigger s = .next (if s.reg K.HK_STATE = 2 ∧ hkWait (s.hkEntryWord (s.reg K.HK_ENTRY)) = k then
        (u.put K.HK_STATE 1).setHk { u.hk with started := true, retried := s.hk.aborted, aborted := false, vals := [], open_ := 0 }
      else if s.regBit K.TRIG_LATCHED (k - 1) = true then u.put K.TRIG_OVERRUN (min (s.reg K.TRIG_OVERRUN + 1) (2 ^ 32 - 1))
      else u.putBit K.TRIG_LATCHED (k - 1) true).settle)
    ∧ (s.hkArmed k = false → exec .hkTrigger s = .next u.settle))
  ∧ (∀ s : State, s.mode.coreRuns = true → s.hk.tickDue = false → s.hk.markDue = 0 → exec .hkTrigger s = .next s.settle)
  ∧ ∀ s u : State, s.mode.coreRuns = true → u = s.setHk { s.hk with fireAt := s.hk.fireAt + s.reg K.HK_TIMER } →
    (s.hk.on = true → s.hk.fireAt - s.hk.timer < 4 → s.hkArmed 3 = true →
      exec .hkTimerExpire s = .next (if s.reg K.HK_STATE = 2 ∧ hkWait (s.hkEntryWord (s.reg K.HK_ENTRY)) = 3 then
        (u.put K.HK_STATE 1).setHk { u.hk with started := true, retried := s.hk.aborted, aborted := false, vals := [], open_ := 0 }
      else if s.regBit K.TRIG_LATCHED 2 = true then u.put K.TRIG_OVERRUN (min (s.reg K.TRIG_OVERRUN + 1) (2 ^ 32 - 1))
      else u.putBit K.TRIG_LATCHED 2 true).settle)
    ∧ (s.hk.on = true → s.hk.fireAt - s.hk.timer < 4 → s.hkArmed 3 = false → exec .hkTimerExpire s = .next u.settle)
    ∧ ((s.hk.on = false ∨ 4 ≤ s.hk.fireAt - s.hk.timer) → exec .hkTimerExpire s = .next s.settle))
  ∧ ((∀ (s : State) (cc : Fin 2800) (w : Nat), s.mode.coreRuns = true → s.hk.on = true → s.hk.started = false → s.hk.urgent = [] → s.reg K.HK_ENTRY < s.reg K.HK_SEQ_LEN →
      w = s.hkEntryWord (s.reg K.HK_ENTRY) → hkRepeat w ≠ 0 →
    (hkWait w = 0 ∨ s.hk.aborted = true → exec (.hkEntry cc) s = .next ((s.put K.HK_STATE 1).setHk
      { s.hk with started := true, retried := s.hk.aborted, aborted := false, vals := [], open_ := 0 }).settle)
    ∧ (hkWait w ≠ 0 → s.hk.aborted = false → s.regBit K.TRIG_LATCHED (hkWait w - 1) = true →
      exec (.hkEntry cc) s = .next (((s.putBit K.TRIG_LATCHED (hkWait w - 1) false).put K.HK_STATE 1).setHk
        { s.hk with started := true, retried := false, aborted := false, vals := [], open_ := 0 }).settle)
    ∧ (hkWait w ≠ 0 → s.hk.aborted = false → s.regBit K.TRIG_LATCHED (hkWait w - 1) = false → exec (.hkEntry cc) s = .next (s.put K.HK_STATE 2).settle))
  ∧ (∀ (s : State) (r rr : HkReading) (e w gain n : Nat) (v : Int), s.mode.coreRuns = true → s.hk.on = true → s.hk.started = true → s.hk.urgent = [] → e = s.reg K.HK_ENTRY → e < 64 →
      w = s.hkEntryWord e → hkInput w ≠ 21 → hkInput w ≠ 22 → rr = s.hkRead (hkInput w) (hkRange w) r → n = s.hk.vals.length + 1 →
      gain = (if s.hk.vals = [] then autoGain rr.coarse else s.hk.gain) →
    (n < hkRepeat w → exec (.hkConversionDone r) s = .next (s.setHk { s.hk with gain := gain, vals := s.hk.vals ++ [(rr.code : Rat)], open_ := s.hk.open_ ||| r.leads }).settle)
    ∧ (hkRepeat w ≤ n → v = rhe (hkCombine (hkAvg w) false (s.hk.vals ++ [(rr.code : Rat)])) →
      ∃ t : State, exec (.hkConversionDone r) s = .next t.settle ∧ t.hk.started = false ∧ t.hk.vals = []
        ∧ t.reg (K.HK_RESULT e) = hkWord (hkGroup (hkInput w)) (if hkRange w = 3 then gain * 2 ^ 14 + ofSigned 14 v else ofSigned 16 v) (s.reg K.HK_PASS) s.hk.retried false (hkRange w == 3)
        ∧ t.reg (K.HK_STAMP e) = s.stampAt (4 * (r.cc : Int) - 1400)
        ∧ (e + 1 < s.reg K.HK_SEQ_LEN → t.reg K.HK_ENTRY = e + 1 ∧ s.keeps t ([K.HK_RESULT e, K.HK_STAMP e, K.HK_ENTRY]
          ++ if hkInput w ≤ 7 then [K.SENS_OUT (7 + hkInput w), K.SENS_FLAGS (7 + hkInput w)] else []))
        ∧ (s.reg K.HK_SEQ_LEN ≤ e + 1 → t.reg K.HK_ENTRY = 0 ∧ t.reg K.HK_PASS = (s.reg K.HK_PASS + 1) % 2 ^ 32)))
  ∧ ∀ (s : State) (r : HkReading) (e x : Nat), s.mode.coreRuns = true → s.hk.on = true → s.hk.started = true → s.hk.urgent = [] → e = s.reg K.HK_ENTRY → e < 64 → x < 2 →
      hkInput (s.hkEntryWord e) = 21 + x → hkRepeat (s.hkEntryWord e) ≤ s.hk.vals.length + 1 → s.hk.open_ ||| r.leads ≠ 0 →
    ∃ t : State, exec (.hkConversionDone r) s = .next t.settle ∧ t.reg (K.RTD_STATE x) = 1 ∧ t.reg (K.RTD_BREAK_LEADS x) = s.hk.open_ ||| r.leads
      ∧ t.reg (K.HK_RESULT e) = hkWord 3 0xFFFF (s.reg K.HK_PASS) s.hk.retried true false
      ∧ t.reg (K.RTD_BREAKS x) = (if s.reg (K.RTD_STATE x) = 1 then s.reg (K.RTD_BREAKS x) else min (s.reg (K.RTD_BREAKS x) + 1) (2 ^ 32 - 1)))

/-- R332, R334: the sequencer's own events, a trigger, an expiry of its timer, an entry taken up and a conversion that ends. R82, R335, R338, R339, R340, R388: the service conversions of VIN and LAS_VS, one of LAS_VS a slot, which faults the reservoir above 63.0 V; a request that HK_URGENT takes enters the queue of four and aborts the conversion
in progress, one with no room is BUSY and counted; the request at the head that completes leaves the host's result in URGENT_RESULT, and Ensign's is compared
with the service conversion. -/
def Obligations.ServiceAndUrgent : Prop :=
  (∀ s : State, s.mode.coreRuns = true → exec .hkTrigger s = .next s.hkTrigger.settle ∧ exec .hkTimerExpire s = .next s.hkTimerExpire.settle
    ∧ (∀ cc : Fin 2800, exec (.hkEntry cc) s = .next (s.hkEntry cc).settle) ∧ ∀ r : HkReading, exec (.hkConversionDone r) s = .next (s.hkConversion r).settle)
  ∧ (∀ (s : State) (code : Int) (v : Nat), s.mode.coreRuns = true → v = (max 0 (min 65535 (roundOpen "VIN_MEAS" ((code : Rat) * 5 / 16)))).toNat →
    exec (.serviceConversion false code) s = .next (((s.put K.VIN_MEAS v).put K.VIN_MIN (min (s.reg K.VIN_MIN) v)).put K.VIN_MAX (max (s.reg K.VIN_MAX) v)).settle)
  ∧ ((∀ (s : State) (code : Int) (v : Nat), s.mode.coreRuns = true → s.ensB.lasDone = false → (∀ f ∈ s.pipe.cur.fires, f.emitter < 16) →
      v = (max 0 (min 65535 (roundOpen "VLAS_MEAS" ((code : Rat) / 4)))).toNat →
    ∃ t : State, exec (.serviceConversion true code) s = .next t.settle ∧ t.reg K.VLAS_MEAS = v ∧ t.res.vlas = code ∧ t.ensB.lasDone = true ∧ t.ensB.urgentVal = none
      ∧ (25200 < code → t.reg K.RES_STATE = 4 ∧ (s.reg K.RES_STATE ≠ 4 → t.reg K.RES_FAULTS = min (s.reg K.RES_FAULTS + 1) (2 ^ 32 - 1) ∧ t.res.runs = false))
      ∧ (s.ensB.urgentVal = none → s.keeps t [K.VLAS_MEAS, K.RES_STATE, K.RES_FAULTS])
      ∧ ∀ x, s.ensB.urgentVal = some x → (8 * s.inForce K.VLAS_MAX < 100 * (x - code).natAbs → t.regBit K.SH_CAUSE 9 = true)
        ∧ (100 * (x - code).natAbs ≤ 8 * s.inForce K.VLAS_MAX →
          t.regBit K.SH_CAUSE 10 = false ∧ s.keeps t [K.VLAS_MEAS, K.RES_STATE, K.RES_FAULTS, K.SH_CAUSE]))
  ∧ ∀ (s : State) (code : Int), s.mode.coreRuns = true → s.ensB.lasDone = true → exec (.serviceConversion true code) s = .next s.settle)
  ∧ (∀ (s : State) (w : HostWrite) (q : Urgent), s.accepts K.HK_URGENT w = true → q = { input := bits (ofLe w.data) 4 0, range := bits (ofLe w.data) 6 5 } →
    (s.hk.on = true → s.hk.urgent.length < 4 → (s.hk.urgent ≠ [] ∨ s.hk.started = false) →
      exec (.hkUrgent w) s = .next (noteResult w.path (0, (s.put K.HK_STATE 3).setHk { s.hk with urgent := s.hk.urgent ++ [q] })).settle)
    ∧ (s.hk.on = true → s.hk.urgent = [] → s.hk.started = true →
      exec (.hkUrgent w) s = .next (noteResult w.path (0, ((s.put K.URGENT_ABORTS (min (s.reg K.URGENT_ABORTS + 1) (2 ^ 32 - 1))).put K.HK_STATE 3).setHk
        { s.hk with urgent := [q], started := false, aborted := true, vals := [], open_ := 0 })).settle)
    ∧ ((s.hk.on = false ∨ 4 ≤ s.hk.urgent.length) →
      exec (.hkUrgent w) s = .next (noteResult w.path (6, s.put K.URGENT_REFUSED (min (s.reg K.URGENT_REFUSED + 1) (2 ^ 32 - 1)))).settle))
  ∧ ∀ (s : State) (r rr : HkReading) (q : Urgent) (l : List Urgent), s.mode.coreRuns = true → (∀ f ∈ s.pipe.cur.fires, f.emitter < 16) → s.hk.urgent = q :: l →
      rr = s.hkRead q.input q.range r →
    ∃ t : State, exec (.urgentComplete r) s = .next t.settle ∧ t.hk.urgent = l
      ∧ (q.ensign = false → q.input ≠ 21 → q.input ≠ 22 → t.hk.served = s.hk.served + 1 ∧ t.reg K.URGENT_RESULT = hkWord (hkGroup q.input)
        (if q.range = 3 then autoGain rr.coarse * 2 ^ 14 + ofSigned 14 rr.code else ofSigned 16 rr.code) (s.hk.served + 1) false false (q.range == 3))
      ∧ (q.ensign = true → t.ensB.urgentWait = false ∧ t.ensB.sinceUrgent = 0 ∧ t.reg K.URGENT_RESULT = s.reg K.URGENT_RESULT
        ∧ (s.ensB.lasDone = false → t.ensB.urgentVal = some rr.code)
        ∧ ∀ d, s.ensB.lasDone = true → d = (rr.code - s.res.vlas).natAbs →
          (8 * s.inForce K.VLAS_MAX < 100 * d → t.regBit K.SH_CAUSE 9 = true) ∧ (100 * d ≤ 8 * s.inForce K.VLAS_MAX → t.regBit K.SH_CAUSE 10 = false))

/-- R341, R342, R343, R380: a sample stands in CA_LAST with the range it was taken in and is counted when it clips; at a reset instant the range changes as
fixed or as judged, which is counted; a sample of a monitor whose emitters released nothing declares DARK when it clips, or when its energy lies above
EDARK_MAX; after a release a clipped one, or one above EMEAS_MAX of what was released and EDARK_MAX, declares ENERGY. The reset instant of CA-M lies at its
sample, those of the pulse-energy monitors after it. -/
def Obligations.ChargeAmplifiers : Prop :=
  (∀ (s : State) (amp : Fin 5) (k : Fin 4) (m : Int) (rng : Nat), s.mode.coreRuns = true → (∀ f ∈ s.pipe.cur.fires, f.emitter < 16) →
      rng = (if amp.val ≠ 0 then s.reg (K.CA_RANGE_NOW amp) else if s.caFixed 0 = true then s.reg (K.CA_RANGE 0) else (s.hk.amps.getD 0 {}).change.getD (s.reg (K.CA_RANGE_NOW 0))) →
    ∃ t : State, exec (.caSample amp k m) s = .next t.settle ∧ t.reg (K.CA_LAST amp) = rng * 2 ^ 14 + ofSigned 14 m ∧ t.reg (K.CA_RANGE_NOW amp) = rng
      ∧ t.reg (K.CA_CLIPS amp) = (if 7372 < m.natAbs then min (s.reg (K.CA_CLIPS amp) + 1) (2 ^ 32 - 1) else s.reg (K.CA_CLIPS amp))
      ∧ (amp.val ≠ 0 → s.groupReleased (amp.val - 1) = [] →
        (7372 < m.natAbs ∨ (s.inForce K.EDARK_MAX : Rat) < s.pemEnergy (amp.val - 1) (chargeOf rng m) → t.regBit K.SH_CAUSE 1 = true)
        ∧ (m.natAbs ≤ 7372 → s.pemEnergy (amp.val - 1) (chargeOf rng m) ≤ (s.inForce K.EDARK_MAX : Rat) → t.reg K.SH_CAUSE = s.reg K.SH_CAUSE ∧ t.ensB = s.ensB))
      ∧ (amp.val ≠ 0 → 0 < ((s.groupReleased (amp.val - 1)).map (·.2)).foldl (· + ·) 0 →
        (7372 < m.natAbs ∨ ((s.groupReleased (amp.val - 1)).map (·.2)).foldl (· + ·) 0 * (s.inForce K.EMEAS_MAX : Rat) / 256 + (s.inForce K.EDARK_MAX : Rat)
          < s.pemEnergy (amp.val - 1) (chargeOf rng m) → t.regBit K.SH_CAUSE 0 = true)))
  ∧ ∀ (s : State) (amp : Fin 5) (rng : Nat) (c : ChargeAmp), s.mode.coreRuns = true → c = s.hk.amps.getD amp {} →
      rng = (if s.caFixed amp = true then s.reg (K.CA_RANGE amp) else c.change.getD (s.reg (K.CA_RANGE_NOW amp))) →
    (rng = s.reg (K.CA_RANGE_NOW amp) → exec (.caRangeChange amp) s = .next (s.setHk { s.hk with amps := setAt {} s.hk.amps amp { c with change := none } }).settle)
    ∧ (rng ≠ s.reg (K.CA_RANGE_NOW amp) → exec (.caRangeChange amp) s = .next (((s.setHk { s.hk with amps := setAt {} s.hk.amps amp { c with change := none, low := 0 } }).put
      (K.CA_RANGE_NOW amp) rng).put (K.CA_RANGE_CHANGES amp) (min (s.reg (K.CA_RANGE_CHANGES amp) + 1) (2 ^ 32 - 1))).settle)

/-- R359, R361, R366, R367, R368: at its frame boundary a period ends with a step of every measured item; CAL_SNAP captures the values of the first tick more
than 40 cc later, which then replace CAL_IMAGE and count; a written image is LENGTH, RANGE or taken: where Comet runs its values are the targets and every item is unsettled, else
the values accepted are in force, with every item unsettled, at their tick, whatever has come into CAL_IMAGE since. -/
def Obligations.CalibrationImage : Prop :=
  (∀ s u : State, s.ticking = true → s.calPeriodDue = true → u = s.slotCatchUp → u.calPeriodDue = true →
    exec .calPeriodEnd s = .next ((u.calStep.limitCount).setCal { u.calStep.limitCount.cal with periodDone := true }).settle ∧ u.calStep.cal.frames = 0)
  ∧ (∀ (s : State) (a : HostAt), s.mayWrite a.path K.CAL_SNAP = true →
    exec (.calSnap a) s = .next (noteResult a.path (0, s.setCal { s.cal with snapTicks := if a.cc.val + 40 < 2800 then 1 else 2 })).settle)
  ∧ (∀ s : State, s.mode.coreRuns = true → s.cal.snapDue = true → exec .calSnapshotTick s = .next (s.setCal { s.cal with
      snapDue := false, snapshot := some (calImage s.fuses.uniqueId (compactStamp s.slot 0 0) (s.reg K.CAL_UNSETTLED) s.item) }).settle)
  ∧ (∀ (s : State) (b : List Byte), s.mode.coreRuns = true → s.cal.snapDue = false → s.cal.snapshot = some b →
    exec .calSnapWritten s = .next (((s.putDom K.CAL_IMAGE b).put K.CAL_SNAP_SEQ ((s.reg K.CAL_SNAP_SEQ + 1) % 2 ^ 32)).setCal { s.cal with snapshot := none }).settle)
  ∧ (∀ (s : State) (w : HostWrite), s.mayWrite w.path K.CAL_IMAGE = true →
    (s.imageFault w.data = some false → exec (.calImageWrite w) s = .next (noteDomain w.path (3, s)).settle)
    ∧ (s.imageFault w.data = some true → exec (.calImageWrite w) s = .next (noteDomain w.path (4, s)).settle)
    ∧ (s.imageFault w.data = none → s.cal.running = false → exec (.calImageWrite w) s = .next (noteDomain w.path (0,
      (s.putDom K.CAL_IMAGE w.data).setCal { s.cal with applyTicks := if w.cc.val + 40 < 2800 then 1 else 2, accepted := w.data })).settle)
    ∧ (s.imageFault w.data = none → s.cal.running = true → ∃ t : State, exec (.calImageWrite w) s = .next (noteDomain w.path (0, t)).settle ∧ t.dom K.CAL_IMAGE = w.data
      ∧ t.cal = { s.cal with settled := [], targets := (List.range itemEnd).map fun i => (i, imageItem w.data i) } ∧ t.reg K.CAL_RESTORE = 1 ∧ s.keeps t [K.CAL_RESTORE, K.CAL_UNSETTLED]))
  ∧ ∀ s : State, s.ticking = true → s.cal.applyTicks = 1 → s.atTick.cal.applyTicks = 1 →
    ∃ t : State, exec .calImageApply s = .next t.settle ∧ t.cal.applyTicks = 0 ∧ t.cal.settled = [] ∧ t.cal.targets = []
      ∧ ∀ i, i < itemEnd → t.item i = imageItem s.atTick.cal.accepted i

/-! ### Ensign (chapter 15) -/

/-- R379, R382, R383: without slot ticks the bin clock and the age of the always-on domain still step, a window closing its bin every 500 or 50,000 steps;
the converters go on switching, with sense voltages that no rule states (log 45);
INHIBIT_N falling ends every fire and both permits and is counted; its release ends the inhibition. A violation sets its cause, ends every fire,
stamps SH_LAST and enters the retention log the first time it latches, with what SH_LATCHED reads, in BOOT the causes of before it too. The cc of one that is found without its moment is free (log 54). -/
def Obligations.BinsInhibitAndViolations : Prop :=
  (∀ s : State, s.ticking = false → ∃ t : State, exec .ensignBinStep s = .next t.settle ∧ t.vaoTime = s.vaoTime + 1 ∧ t.objs = s.objs
    ∧ t.ensB = { s.ensB with binClock := s.ensB.binClock + 1
                             bins100 := if (s.ensB.binClock + 1) % 500 = 0 then s.ensB.bins100.map fun l => ((0 : Rat) :: l).take 101 else s.ensB.bins100
                             bins10 := if (s.ensB.binClock + 1) % 50000 = 0 then s.ensB.bins10.map fun l => ((0 : Rat) :: l).take 101 else s.ensB.bins10 }
    ∧ t.sup.faultAges = (s.sup.faultAges.map (· + 1)).filter (· < 5000000))
  ∧ (∀ s : State, s.ticking = true → exec .ensignBinStep s = .next s.settle)
  ∧ (∀ s : State, (∀ f ∈ s.pipe.cur.fires, f.emitter < 16) →
    ∃ t : State, exec .inhibitFall s = .next t.settle ∧ t.ensB = { s.ensB with inhibitLow := true, inhibited := true } ∧ t.reg K.INHIBIT_STATE = 1
      ∧ t.reg K.INHIBIT_COUNT = min (s.reg K.INHIBIT_COUNT + 1) (2 ^ 32 - 1)
      ∧ (∀ f ∈ t.pipe.cur.fires, f.fate ≠ .planned ∧ f.fate ≠ .fired) ∧ t.settle.ensB.permitA = false ∧ t.settle.ensB.permitB = false)
  ∧ (∀ s : State, exec .inhibitRelease s = .next ((s.setB { s.ensB with inhibitLow := false, inhibited := false }).put K.INHIBIT_STATE 0).settle)
  ∧ (∀ (s : State) (bit : Fin 11), (∀ sample, s.violate bit sample = s.violateAt bit (s.stamp sample 0))
    ∧ ∃ cc, cc < 2800 ∧ s.violateNow bit = { s with free := s.free + 1 }.violateAt bit (s.stampCc cc))
  ∧ ∀ (s t : State) (bit : Fin 11) (stamp : Nat), (∀ f ∈ s.pipe.cur.fires, f.emitter < 16) → t = s.violateAt bit stamp →
    t.regBit K.SH_CAUSE bit = true ∧ (∀ n, n < 32 → n ≠ bit.val → t.regBit K.SH_CAUSE n = s.regBit K.SH_CAUSE n) ∧ t.reg K.SH_LAST = stamp
    ∧ (∀ f ∈ t.pipe.cur.fires, f.fate ≠ .planned ∧ f.fate ≠ .fired) ∧ t.mode = s.mode ∧ t.ensB = s.ensB
    ∧ (bit.val ∈ [3, 4, 5, 10] → t.retLog = s.retLog ∧ t.reg K.SH_LATCHED = s.reg K.SH_LATCHED)
    ∧ (bit.val ∉ [3, 4, 5, 10] → t.regBit K.SH_LATCHED bit = true
      ∧ (s.regBit K.SH_LATCHED bit = true → t.retLog = s.retLog)
      ∧ (s.regBit K.SH_LATCHED bit = false → t.retLog = ((leBytes 4 4 ++ leBytes 4 (s.vaoTime / 500 % 2 ^ 32) ++ bytesAt (leBytes 4 (t.reg K.SH_LATCHED ||| t.heldCauses)) 0 8) :: s.retLog).take 8))

/-- R384, R385, R386, R387, R388: a feedback that stands at its permit's level is taken and any other declares PERMIT_FB, in HELD and with the core unpowered too; the off-pulse takes the feedback of its
permit low; a test that passes is counted and the other permit is next, unless an off-demand in the rest of its slot makes it void, one that fails is counted, sets TESTPULSE_FAIL and declares PERMIT_FB; 100 ms without
a test force one; Ensign's urgent request enters the queue, or is counted as refused and tried again; 20 ms without a result declare URGENT. -/
def Obligations.PermitsAndUrgents : Prop :=
  (∀ (s : State) (b level : Bool) (u : State), s.mode ≠ .off → u = s.setB (if b = true then { s.ensB with fbB := level } else { s.ensB with fbA := level }) →
    (s.permitLevel b = level → exec (.permitFeedbackFault b level) s = .next u.settle)
    ∧ (s.permitLevel b ≠ level → exec (.permitFeedbackFault b level) s = .next (u.violateNow 6).settle))
  ∧ (∀ (s : State) (p : Permit), s.mode.coreRuns = true → s.ensB.test = some p → s.ensB.testLow = false →
    exec .permitTestStart s = .next (s.setB { s.ensB with testLow := true, fbA := s.ensB.fbA && p != .a, fbB := s.ensB.fbB && p != .b }).settle)
  ∧ (∀ (s : State) (p : Permit) (u : State), s.mode.coreRuns = true → s.ensB.test = some p → s.ensB.testLow = true →
      u = (s.setB { s.ensB with test := none, testLow := false, fbA := s.ensB.fbA || p == .a, fbB := s.ensB.fbB || p == .b }).put K.TP_NEXT (1 - s.reg K.TP_NEXT) →
    exec (.permitTestEnd true) s = .next ((u.put K.TP_PASS (min (s.reg K.TP_PASS + 1) (2 ^ 32 - 1))).setB { u.ensB with passed := some (s.reg K.TP_PASS) }).settle
    ∧ exec (.permitTestEnd false) s = .next (((u.put K.TP_FAIL (min (s.reg K.TP_FAIL + 1) (2 ^ 32 - 1))).stick 27).violateNow 6).settle)
  ∧ (∀ (s : State) (n : Nat), s.ensB.passed = some n → s.ensB.test = none → s.voidTest = (((s.put K.TP_PASS n).put K.TP_NEXT (1 - s.reg K.TP_NEXT)).put K.TP_VOID
    (min (s.reg K.TP_VOID + 1) (2 ^ 32 - 1))).setB { s.ensB with passed := none })
  ∧ (∀ s : State, s.ensB.test ≠ none →
    s.voidTest = (s.put K.TP_VOID (min (s.reg K.TP_VOID + 1) (2 ^ 32 - 1))).setB { s.ensB with test := none, testLow := false })
  ∧ (∀ s : State, s.mode.coreRuns = true → s.ensB.permitA = true → s.ensB.permitB = true →
    (99998 ≤ s.ensB.sinceTest → exec .forcedTestDue s = .next (s.setB { s.ensB with forcedDue := true }).settle)
    ∧ (s.ensB.sinceTest < 99998 → exec .forcedTestDue s = .next s.settle))
  ∧ (∀ (s : State) (n : Nat), s.mode.coreRuns = true → s.hk.on = true → s.ensB.requested = false → (s.ensB.urgentRetry = true ∨ 4999 ≤ s.ensB.sinceRequest) →
      n = (if 4999 ≤ s.ensB.sinceRequest then 0 else s.ensB.sinceRequest) →
    (s.hk.urgent.length < 4 → ∃ t : State, exec .ensignUrgentRequest s = .next t.settle ∧ t.hk.urgent = s.hk.urgent ++ [{ ensign := true, input := 8, range := 0 }]
      ∧ t.ensB = { s.ensB with requested := true, sinceRequest := n, urgentRetry := false, urgentWait := true } ∧ t.reg K.HK_STATE = 3
      ∧ t.reg K.URGENT_REFUSED = s.reg K.URGENT_REFUSED)
    ∧ (4 ≤ s.hk.urgent.length → exec .ensignUrgentRequest s = .next ((s.setB { s.ensB with requested := true, sinceRequest := n, urgentRetry := true }).put
      K.URGENT_REFUSED (min (s.reg K.URGENT_REFUSED + 1) (2 ^ 32 - 1))).settle))
  ∧ ∀ s : State, s.mode.coreRuns = true → s.hk.on = true → s.regBit K.SH_CAUSE 10 = false →
    (9999 ≤ s.ensB.sinceUrgent → exec .ensignUrgentTimeout s = .next (s.violateNow 10).settle)
    ∧ (s.ensB.sinceUrgent < 9999 → exec .ensignUrgentTimeout s = .next s.settle)

/-- R390, R392, R393, R394, R395: a sealed object keeps its value in force over a write of the slot; while the seal is programmed a copy that has changed, or whose CRC is not SEAL_CRC, declares SEAL_CRC; straps that read between the bands of Table 15.4,
that fail their check or that differ from BOOT's reading set STRAP_MISMATCH and declare STRAP, and others only show in STRAP_READ. Channel B does both in HELD and with
the core unpowered too, where no Pennant word takes the mismatch. -/
def Obligations.SealAndStraps : Prop :=
  (∀ (s : State) (upset : Bool), s.mode ≠ .off →
    (s.reg K.SEAL_STATE = 0 → exec (.sealCrcCheck upset) s = .next s.settle)
    ∧ (s.reg K.SEAL_STATE ≠ 0 → upset = false → crc32 s.sealImage = s.reg K.SEAL_CRC → exec (.sealCrcCheck upset) s = .next s.settle)
    ∧ (s.reg K.SEAL_STATE ≠ 0 → (upset = true ∨ crc32 s.sealImage ≠ s.reg K.SEAL_CRC) → exec (.sealCrcCheck upset) s = .next ((s.put K.SEAL_STATE 2).violateNow 7).settle))
  ∧ (∀ (s : State) (k v : Nat), (s.keepForce k).inForce k = s.inForce k ∧ ((s.keepForce k).put k v).inForce k = s.inForce k
    ∧ (s.sealed.prior = [] → s.inForce k = s.reg k ∧ (s.keepForce k).inForce k = s.reg k))
  ∧ (∀ r : Nat, (r < 1000 → strapBand r = some 0) ∧ (1900 ≤ r → r ≤ 2500 → strapBand r = some 1) ∧ (4100 ≤ r → r ≤ 5400 → strapBand r = some 2)
    ∧ (8700 ≤ r → r ≤ 11500 → strapBand r = some 3) ∧ (19000 ≤ r → r ≤ 25000 → strapBand r = some 4) ∧ (41000 ≤ r → r ≤ 54000 → strapBand r = some 5)
    ∧ (87000 ≤ r → r ≤ 115000 → strapBand r = some 6) ∧ (330000 < r → strapBand r = some 7)
    ∧ (1000 ≤ r ∧ r < 1900 ∨ 2500 < r ∧ r < 4100 ∨ 5400 < r ∧ r < 8700 ∨ 11500 < r ∧ r < 19000 ∨ 25000 < r ∧ r < 41000 ∨ 54000 < r ∧ r < 87000 ∨ 115000 < r ∧ r ≤ 330000 →
      strapBand r = none))
  ∧ ∀ (s u : State) (l : List Nat) (w : Nat), s.mode ≠ .off → w = strapWord l → l.length = 4 →
    u = (if s.mode.coreRuns = true then (s.put K.STRAP_READ w).stick 23 else s.put K.STRAP_READ w) →
    (∀ a b c d, strapBand (l.getD 0 0) = some a → strapBand (l.getD 1 0) = some b → strapBand (l.getD 2 0) = some c → strapBand (l.getD 3 0) = some d →
      w = a + 8 * b + 64 * c + 512 * d
      ∧ (d = (a + 3 * b + 5 * c + 1) % 8 → w = s.reg K.STRAP_BOOT → exec (.strapRead l) s = .next (s.put K.STRAP_READ w).settle)
      ∧ ((d ≠ (a + 3 * b + 5 * c + 1) % 8 ∨ w ≠ s.reg K.STRAP_BOOT) → exec (.strapRead l) s = .next (u.violateNow 8).settle))
    ∧ ((∃ r ∈ l, strapBand r = none) → exec (.strapRead l) s = .next (u.violateNow 8).settle)

/-- R382, R398, R399, R400, R402, R449: a cause takes the GZ48 to SAFE-HOLD at the tick; one source lost takes it from a scanning mode to DEGRADED, or declares
DEG_SPENT once the budget is spent; 2,000 ms clean end the causes of the sources; an acknowledged DEGRADED returns to the mode it came from. Each of these mode changes is
counted and stamped and ends an acknowledgement that waits, and a request that SAFE-HOLD or DEGRADED meets is OVERTAKEN. -/
def Obligations.SafeHoldAndDegraded : Prop :=
  (∀ s u : State, s.ticking = true → s.safeHoldDue = true → u = s.atTick → u.safeHoldDue = true → u.fs.retire.source < 50 → u.fs.retire.target < 50 →
    ∃ t : State, exec .safeHoldEntry s = .next t.settle ∧ t.mode = .safeHold ∧ t.reg K.SH_COUNT = min (u.reg K.SH_COUNT + 1) (2 ^ 32 - 1)
      ∧ t.reg K.MODE_CHANGES = (u.reg K.MODE_CHANGES + 1) % 2 ^ 32 ∧ t.reg K.MODE_LAST = u.nextStamp ∧ t.reg K.SH_CAUSE = u.reg K.SH_CAUSE
      ∧ (u.modeSt.reqTicks = 1 ∨ u.modeSt.frameWait.isSome = true → t.reg K.MODE_RESULT = 7 ∧ t.modeSt.reqTicks ≠ 1 ∧ t.modeSt.frameWait = none)
      ∧ t.ensB.degAck = false ∧ t.settle.ensB.permitA = false ∧ t.settle.ensB.permitB = false)
  ∧ (∀ s u : State, s.ticking = true → s.degradedDue = true → s.safeHoldDue = false → u = s.atTick → u.degradedDue = true → u.safeHoldDue = false →
    (u.degSpent = false → u.fs.retire.source < 50 → u.fs.retire.target < 50 →
      ∃ t : State, exec .degradedEntry s = .next t.settle ∧ t.mode = .degraded ∧ t.reg K.DEG_FROM = u.mode.code ∧ t.reg K.DEG_ENTRIES = min (u.reg K.DEG_ENTRIES + 1) (2 ^ 32 - 1)
        ∧ t.reg K.MODE_CHANGES = (u.reg K.MODE_CHANGES + 1) % 2 ^ 32 ∧ t.reg K.MODE_LAST = u.nextStamp ∧ t.ensB.surveyFrom = decide (u.mode = .survey)
        ∧ (u.modeSt.reqTicks = 1 ∨ u.modeSt.frameWait.isSome = true → t.reg K.MODE_RESULT = 7 ∧ t.modeSt.reqTicks ≠ 1 ∧ t.modeSt.frameWait = none)
        ∧ t.ensB.degAck = false)
    ∧ (u.degSpent = true → exec .degradedEntry s = .next (u.violateAt 5 u.nextStamp).settle))
  ∧ (∀ s : State, s.mode.coreRuns = true →
    (s.ensB.spentDue = true → exec .degBudgetSpent s = .next ((s.setB { s.ensB with spentDue := false }).violateNow 5).settle)
    ∧ (2000 ≤ s.reg K.DEG_CLEAN → exec .degCleanReached s = .next (((s.putBit K.SH_CAUSE 3 false).putBit K.SH_CAUSE 4 false).putBit K.SH_CAUSE 5 false).settle)
    ∧ (s.reg K.DEG_CLEAN < 2000 → exec .degCleanReached s = .next s.settle))
  ∧ ∀ s u : State, s.ticking = true → s.ensB.degAck = true → s.mode = .degraded → s.safeHoldDue = false → u = s.atTick → u.ensB.degAck = true → u.mode = .degraded →
      u.safeHoldDue = false →
    ∃ t : State, exec .degradedReturn s = .next t.settle ∧ t.mode = Mode.ofCode (u.reg K.DEG_FROM) ∧ t.ensB.degAck = false
      ∧ (u.fs.retire.source < 50 → u.fs.retire.target < 50 → t.reg K.MODE_CHANGES = (u.reg K.MODE_CHANGES + 1) % 2 ^ 32 ∧ t.reg K.MODE_LAST = u.nextStamp)

/-! ### Self-tests, spares and test access (chapter 16) -/

/-- R407, R408, R410: a test command is refused with reason 1 while a test runs, 4 for a unit or kind that is not there, 5 for a unit retired by fuse, 2 in a
mode that does not allow it and 3 without a spare for a unit in duty; else it is in BIST_LAST_CMD, runs, and the unit's duty is handed over first where it has
one. R408, R409, R410, R411: once the spare serves, the unit's contents go to the save RAM where its test saves them, and come back after the test; the test passes when it is done with the
counter and the signature expected, which stand in the registers, the signature of a loopback, PRBS or fuse test being 0 where no limit was missed; a test that
ran to its end took the time of Table 16.1, whose rounding is open (log 55); a unit that passes with AUTO_RETIRE returns; an abort before the end is reported as such. -/
def Obligations.SelfTests : Prop :=
  (∀ (s : State) (u : Fin 16777216) (a : HostAt), s.mayWrite a.path K.BIST_CMD = true →
    exec (.lbist u a) s = .next (noteResult a.path (0, s.bistCmd (1 * 2 ^ 28 + u))).settle ∧ exec (.mbist u a) s = .next (noteResult a.path (0, s.bistCmd (2 * 2 ^ 28 + u))).settle
    ∧ exec (.aloop u a) s = .next (noteResult a.path (0, s.bistCmd (3 * 2 ^ 28 + u))).settle ∧ exec (.prbs u a) s = .next (noteResult a.path (0, s.bistCmd (4 * 2 ^ 28 + u))).settle
    ∧ exec (.fuseTest u a) s = .next (noteResult a.path (0, s.bistCmd (5 * 2 ^ 28 + u))).settle)
  ∧ (∀ (s r : State) (u : Fin 16777216) (a : HostAt) (c : Instr) (k : Nat) (hand : Bool), s.mayWrite a.path K.BIST_CMD = true →
      (c = .lbist u a ∧ k = 1 ∨ c = .mbist u a ∧ k = 2 ∨ c = .aloop u a ∧ k = 3 ∨ c = .prbs u a ∧ k = 4 ∨ c = .fuseTest u a ∧ k = 5) → r = s.put K.BIST_RESULT 5 →
      hand = (!s.unitOut u && s.hasDuty u && spared u && (s.mode.isRunning || unitClass u == 5)) →
    (s.reg K.BIST_STATE ≠ 0 → exec c s = .next (noteResult a.path (0, r.put K.BIST_REASON 1)).settle)
    ∧ (s.reg K.BIST_STATE = 0 → (unitKnown u = false ∨ kindOk k u = false) → exec c s = .next (noteResult a.path (0, r.put K.BIST_REASON 4)).settle)
    ∧ (s.reg K.BIST_STATE = 0 → unitKnown u = true → kindOk k u = true →
      (s.fuseRetired u = true → exec c s = .next (noteResult a.path (0, r.put K.BIST_REASON 5)).settle)
      ∧ (s.fuseRetired u = false → s.bistModeOk u = false → exec c s = .next (noteResult a.path (0, r.put K.BIST_REASON 2)).settle)
      ∧ (s.fuseRetired u = false → s.bistModeOk u = true → hand = true → s.spareFor u = false → exec c s = .next (noteResult a.path (0, r.put K.BIST_REASON 3)).settle)
      ∧ (s.fuseRetired u = false → s.bistModeOk u = true → (hand = true → s.spareFor u = true) →
        ∃ t : State, exec c s = .next (noteResult a.path (0, t)).settle ∧ t.reg K.BIST_LAST_CMD = k * 2 ^ 28 + u.val ∧ t.reg K.BIST_RESULT = 1 ∧ t.reg K.BIST_REASON = 0
          ∧ t.spares.bist = { kind := k, unit := u.val, wasOut := s.unitOut u }
          ∧ t.reg K.BIST_STATE = (if hand = true then 1 else if k ≤ 3 ∧ unitClass u ≠ 5 then 2 else 3))))
  ∧ ((∀ s : State, s.mode.coreRuns = true → s.reg K.BIST_STATE = 1 → s.spareServes s.spares.bist.unit = true → (∀ p ∈ s.spares.planned, p.1 ≠ s.spares.bist.unit) →
    ∃ t : State, exec .bistHandoverDone s = .next t.settle ∧ t.spares.bist = { s.spares.bist with handed := true, stateTicks := 0 }
      ∧ t.reg K.BIST_STATE = (if s.spares.bist.kind ≤ 3 ∧ unitClass s.spares.bist.unit ≠ 5 then 2 else 3))
  ∧ (∀ s : State, s.mode.coreRuns = true → s.reg K.BIST_STATE = 2 →
    exec .bistSaveDone s = .next ((s.setBist { s.spares.bist with saved := s.region s.spares.bist.unit, stateTicks := 0 }).put K.BIST_STATE 3).settle)
  ∧ (∀ (s : State) (n nE g gE gX : Nat) (done : Bool), s.mode.coreRuns = true → s.reg K.BIST_STATE = 3 → s.fs.retire.source < 50 → s.fs.retire.target < 50 →
      gX = (if 3 ≤ s.spares.bist.kind then 0 else gE % 2 ^ 64) →
    ∃ t : State, exec (.bistTestEnd n nE g gE done) s = .next t.settle ∧ t.reg K.BIST_COUNT = n % 2 ^ 32 ∧ t.reg K.BIST_COUNT_EXP = nE % 2 ^ 32 ∧ t.reg K.BIST_SIG = g % 2 ^ 64
      ∧ t.reg K.BIST_SIG_EXP = gX ∧ t.reg K.BIST_RESULT = (if done = true ∧ n % 2 ^ 32 = nE % 2 ^ 32 ∧ g % 2 ^ 64 = gX then 2 else 3) ∧ t.reg K.BIST_REASON = 0
      ∧ t.reg K.BIST_SEQ = (s.reg K.BIST_SEQ + 1) % 2 ^ 32
      ∧ t.reg K.BIST_TIME = (if done = true then (roundOpen "BIST_TIME" (s.testTime s.spares.bist.kind s.spares.bist.unit).1).toNat else 2 * s.spares.bist.runTicks)
      ∧ (s.spares.bist.kind ≤ 3 → unitClass s.spares.bist.unit ≠ 5 → t.reg K.BIST_STATE = 4))
  ∧ (∀ s : State, s.mode.coreRuns = true → s.reg K.BIST_STATE = 4 → s.fs.retire.source < 50 → s.fs.retire.target < 50 →
    ∃ t : State, exec .bistRestoreDone s = .next t.settle ∧ t.reg K.BIST_RESULT = s.reg K.BIST_RESULT
      ∧ (s.spares.bist.unit = 0x100001 → ∀ x c, s.spares.bist.saved = .trigger x c → t.trg = x ∧ t.cap = c)
      ∧ (s.spares.bist.unit = 0x100003 → ∀ d, s.spares.bist.saved = .decimators d → t.dec = d)
      ∧ (s.spares.bist.handed = true → s.spares.bist.outcome = 2 → s.regBit K.AUTO_RETIRE 1 = true → t.reg K.BIST_STATE = 5)
      ∧ (s.spares.bist.handed = true → s.spares.bist.outcome = 2 → s.regBit K.AUTO_RETIRE 1 = false → t.reg K.BIST_STATE = 0 ∧ (s.spares.list.length < 64 → t.unitOut s.spares.bist.unit = true))
      ∧ (s.spares.bist.handed = true → s.spares.bist.outcome = 3 → t.reg K.BIST_STATE = 0 ∧ (s.spares.list.length < 64 → t.unitOut s.spares.bist.unit = true))
      ∧ (s.spares.bist.handed = false → s.spares.bist.wasOut = false → t.reg K.BIST_STATE = 0))
  ∧ ∀ (s : State) (a : HostAt), s.mayWrite a.path K.BIST_ABORT = true → s.fs.retire.source < 50 → s.fs.retire.target < 50 →
    ((s.reg K.BIST_STATE = 0 ∨ 4 ≤ s.reg K.BIST_STATE) → exec (.bistAbort a) s = .next (noteResult a.path (0, s)).settle)
    ∧ (s.reg K.BIST_STATE ≠ 0 → s.reg K.BIST_STATE < 4 → ∃ t : State, exec (.bistAbort a) s = .next (noteResult a.path (0, t)).settle ∧ t.reg K.BIST_RESULT = 4 ∧ t.reg K.BIST_REASON = 16
      ∧ t.reg K.BIST_SEQ = (s.reg K.BIST_SEQ + 1) % 2 ^ 32 ∧ t.reg K.BIST_TIME = 2 * s.spares.bist.runTicks
      ∧ (2 ≤ s.reg K.BIST_STATE → s.spares.bist.kind ≤ 3 → unitClass s.spares.bist.unit ≠ 5 → t.reg K.BIST_STATE = 4)))

/-- R245, R417, R418, R419, R420, R421: a failed unit is listed, an engine or pipeline FAILED as well, and one of these or a slice, in duty, waits for its spare; a failed
bank moves to the lowest spare one, or with none is lost with its contents, and a spare bank is FAILED; a core block whose test fails is listed, and a fuse bank's
failed test uses a spare row. UNIT_RETIRE and UNIT_RETURN are refused with 4 while an operation runs, 1 for a unit they do not fit and 2 without a spare, else they
start. A return of an engine or a slice runs its duty in shadow for a frame and then takes it back, a bank moves back to the logical bank that it left, and a unit
without channels is back at the tick, each of which is counted; a mismatch in the shadow phase ends the return. -/
def Obligations.UnitsOutAndBack : Prop :=
  (∀ (s : State) (u i : Nat), s.mode.coreRuns = true →
    (unitKnown u = false → exec (.unitFailure u) s = .next s.settle)
    ∧ (u = 0x30000 + i → i < 12 → s.unitOut u = false → s.spares.list.length < 64 → s.reg K.BIST_STATE = 0 → s.spares.opStep = .idle → s.reg (K.EE_STATE i) = 0 →
      ∃ t : State, exec (.unitFailure u) s = .next t.settle ∧ t.reg (K.EE_STATE i) = 4 ∧ s.keeps t [K.EE_STATE i] ∧ t.spares.list = s.spares.list ++ [u]
        ∧ t.spares.failWait = s.spares.failWait ++ [u] ∧ t.spares.planned = s.spares.planned.filter (·.1 != u))
    ∧ (u = 0x40000 + i → i < 24 → s.unitOut u = false → s.spares.list.length < 64 → s.reg K.BIST_STATE = 0 → s.spares.opStep = .idle → s.reg (K.SP_STATE i) = 0 →
      ∃ t : State, exec (.unitFailure u) s = .next t.settle ∧ t.reg (K.SP_STATE i) = 4 ∧ s.keeps t [K.SP_STATE i] ∧ t.spares.list = s.spares.list ++ [u]
        ∧ t.spares.failWait = s.spares.failWait ++ [u] ∧ t.spares.planned = s.spares.planned.filter (·.1 != u)))
  ∧ (∀ (s : State) (ch q : Nat), s.mode.coreRuns = true → ch < 48 → q < 9 → s.unitOut (sliceUnit ch q) = false → s.spares.list.length < 64 → s.reg K.BIST_STATE = 0 →
      s.spares.opStep = .idle →
    ∃ t : State, exec (.unitFailure (sliceUnit ch q)) s = .next t.settle ∧ t.spares.list = s.spares.list ++ [sliceUnit ch q] ∧ s.keeps t []
      ∧ t.spares.failWait = (if s.shadowSlice ch = q then s.spares.failWait else s.spares.failWait ++ [sliceUnit ch q]))
  ∧ (∀ (s : State) (p : Nat), s.mode.coreRuns = true → p < 50 → s.unitOut (0x50000 + p) = false → s.spares.list.length < 64 → s.reg K.BIST_STATE = 0 →
      s.spares.opStep = .idle → s.fs.retire.busy = false →
    (s.logicalOf p = none → exec (.unitFailure (0x50000 + p)) s = .next ((s.listAdd (0x50000 + p)).put (K.BANK_STATE p) 6).settle)
    ∧ (∀ b q l, s.logicalOf p = some b → s.spareBanks = q :: l → (s.reg K.RETIRE_STATE = 0 ∨ s.reg K.RETIRE_STATE = 4) →
      exec (.unitFailure (0x50000 + p)) s = .next (((s.listAdd (0x50000 + p)).put K.RETIRE_STATE 0).setFs { s.fs with retire :=
        { logical := b, source := p, target := q, startDue := true, after := 6 } }).settle)
    ∧ (∀ b, s.logicalOf p = some b → s.spareBanks = [] → (s.reg K.RETIRE_STATE = 0 ∨ s.reg K.RETIRE_STATE = 4) →
      ∃ t : State, exec (.unitFailure (0x50000 + p)) s = .next t.settle ∧ t.reg (K.BANK_STATE p) = 6 ∧ t.reg (K.BANK_MAP b) = 255
        ∧ t.spares.list = s.spares.list ++ [0x50000 + p] ∧ s.keeps t [K.BANK_STATE p, K.BANK_MAP b, K.FS_FRAMES]))
  ∧ (∀ (s : State) (i n nE g gE : Nat) (done : Bool), s.mode.coreRuns = true → s.reg K.BIST_STATE = 3 → i < 4 → s.spares.bist.kind = 5 → s.spares.bist.unit = 0xA0000 + i →
      s.spares.bist.handed = false → s.spares.bist.wasOut = false → ¬ (done = true ∧ n % 2 ^ 32 = nE % 2 ^ 32 ∧ g % 2 ^ 64 = 0) →
    ∃ t : State, exec (.bistTestEnd n nE g gE done) s = .next t.settle ∧ t.fuses = { s.fuses with rowsUsed := min 16 (s.fuses.rowsUsed + 1) } ∧ t.spares.list = s.spares.list)
  ∧ (∀ (s : State) (i : Nat), s.mode.coreRuns = true → s.reg K.BIST_STATE = 4 → i < 7 → s.spares.bist.unit = 0x100000 + i → s.spares.bist.handed = false →
      s.spares.bist.wasOut = false → s.spares.bist.outcome = 3 → s.unitOut (0x100000 + i) = false → s.spares.list.length < 64 →
    ∃ t : State, exec .bistRestoreDone s = .next t.settle ∧ t.spares.list = s.spares.list ++ [0x100000 + i] ∧ t.reg K.BIST_STATE = 0 ∧ t.reg K.KEY_STATE = s.reg K.KEY_STATE)
  ∧ (∀ (s : State) (w : HostWrite) (v : Nat), s.accepts K.UNIT_RETIRE w = true → v = ofLe w.data →
    ((s.spares.opStep ≠ .idle ∨ s.reg K.BIST_STATE = 5) → exec (.unitRetire w) s = .next (noteResult w.path (0, s.put K.SPARE_OP_RESULT 4)).settle)
    ∧ (s.spares.opStep = .idle → s.reg K.BIST_STATE ≠ 5 →
      ((unitKnown v && !s.unitOut v && s.hasDuty v && !s.underTest v) = false → exec (.unitRetire w) s = .next (noteResult w.path (0, s.put K.SPARE_OP_RESULT 1)).settle)
      ∧ ((unitKnown v && !s.unitOut v && s.hasDuty v && !s.underTest v) = true →
        ((spared v && s.spareFor v) = false → exec (.unitRetire w) s = .next (noteResult w.path (0, s.put K.SPARE_OP_RESULT 2)).settle)
        ∧ (s.spareFor v = true → spared v = true → ∃ t : State, exec (.unitRetire w) s = .next (noteResult w.path (0, t)).settle ∧ t.reg K.SPARE_OP_STATE = 1
          ∧ t.spares.opUnit = v ∧ t.spares.opStep = .takeOver ∧ (unitClass v < 5 → ∃ q, t.spares.planned = s.spares.planned ++ [(v, q)])))))
  ∧ (∀ (s : State) (w : HostWrite) (v : Nat), s.accepts K.UNIT_RETURN w = true → v = ofLe w.data →
    ((s.spares.opStep ≠ .idle ∨ s.reg K.BIST_STATE = 5) → exec (.unitReturn w) s = .next (noteResult w.path (0, s.put K.SPARE_OP_RESULT 4)).settle)
    ∧ (s.spares.opStep = .idle → s.reg K.BIST_STATE ≠ 5 →
      ((s.unitOut v && !s.fuseRetired v && s.spares.passed.contains v && !s.underTest v) = false → exec (.unitReturn w) s = .next (noteResult w.path (0, s.put K.SPARE_OP_RESULT 1)).settle)
      ∧ ((s.unitOut v && !s.fuseRetired v && s.spares.passed.contains v && !s.underTest v) = true →
        exec (.unitReturn w) s = .next (noteResult w.path (0, (s.setSpares { s.spares with opUnit := v, opStep := .wait }).put K.SPARE_OP_STATE 3)).settle)))
  ∧ (∀ (s t : State) (u : Nat), u = s.spares.opUnit → unitKnown u = true → t = s.shadowMismatch → t.reg K.SPARE_OP_RESULT = 3 ∧ t.reg K.SPARE_OP_STATE = 0 ∧ t.spares.opStep = .idle
    ∧ t.reg K.RETURN_MISMATCH = min (s.reg K.RETURN_MISMATCH + 1) (2 ^ 32 - 1) ∧ (s.spares.list.length < 64 → t.unitOut u = true)
    ∧ (unitClass u = 3 → t.reg (K.EE_STATE (unitInst u)) = 4) ∧ (unitClass u = 4 → t.reg (K.SP_STATE (unitInst u)) = 4))
  ∧ (∀ (s t : State) (p : Nat), s.spares.opStep = .wait → s.spares.opUnit = 0x50000 + p → p < 50 → s.fs.retire.busy = false →
      (s.reg K.RETIRE_STATE = 0 ∨ s.reg K.RETIRE_STATE = 4) → t = s.returnTry →
    (∀ b, (storeGet s.spares.served p = some b ∧ (s.reg (K.BANK_MAP b) ≠ b ∨ p = b) ∨ storeGet s.spares.served p = none ∧ p < 48 ∧ p = b) →
      t.spares.opStep = .moving ∧ t.fs.retire = { logical := b, source := s.reg (K.BANK_MAP b), target := p, startDue := true
                                                  after := if s.unitOut (0x50000 + s.reg (K.BANK_MAP b)) = true then 6 else 1 })
    ∧ (s.bankDuty p = none → t.spares.opStep = .idle ∧ t.reg (K.BANK_STATE p) = 1 ∧ t.reg K.RETURNS = min (s.reg K.RETURNS + 1) (2 ^ 32 - 1)
      ∧ t.unitOut (0x50000 + p) = false))
  ∧ (∀ (s t : State) (p : Nat), s.spares.opStep = .moving → s.spares.opUnit = 0x50000 + p → p < 50 → s.fs.retire.busy = false → s.logicalOf p ≠ none → t = s.opCheck →
    t.spares.opStep = .idle ∧ t.reg K.SPARE_OP_RESULT = 0 ∧ t.reg K.RETURNS = min (s.reg K.RETURNS + 1) (2 ^ 32 - 1) ∧ t.unitOut (0x50000 + p) = false)
  ∧ (∀ (s v : State) (u i : Nat), s.ticking = true → v = s.atTick → u = v.spares.opUnit → (u = 0x100000 + i ∧ i < 7 ∨ u = 0xA0000 + i ∧ i < 4) →
      s.spares.opStep = .wait → v.spares.opStep = .wait →
    ∃ t : State, exec .shadowPhaseStart s = .next t.settle ∧ t.reg K.SPARE_OP_STATE = 0 ∧ t.reg K.SPARE_OP_RESULT = 0 ∧ t.reg K.RETURNS = min (v.reg K.RETURNS + 1) (2 ^ 32 - 1)
      ∧ t.spares.opStep = .idle ∧ t.unitOut u = false)
  ∧ (∀ (s v : State) (u ch q : Nat), s.ticking = true → v = s.atTick → u = v.spares.opUnit → u = sliceUnit ch q → ch < 48 → q < 8 → v.shadowSlice ch = q →
    (s.spares.opStep = .wait → v.spares.opStep = .wait → v.comet.running = true → v.groupBusy [ch] 11200 = false →
      exec .shadowPhaseStart s = .next ((v.put K.SPARE_OP_STATE 2).setSpares { v.spares with opStep := .shadow, left := v.comet.frameLen }).settle)
    ∧ (s.spares.opStep = .shadow → v.spares.opStep = .shadow → (v.comet.running = false ∨ v.spares.left = 0 ∧ v.groupBusy [ch] 11200 = false) →
      (∀ p, p < q → v.sliceAt ch p ≠ v.sliceAt ch q) →
      ∃ t : State, exec .shadowPhaseEnd s = .next t.settle ∧ t.sliceAt ch q = q ∧ (∀ p, p < 8 → p ≠ q → t.sliceAt ch p = v.sliceAt ch p) ∧ t.reg K.SPARE_OP_STATE = 0
        ∧ t.reg K.SPARE_OP_RESULT = 0 ∧ t.reg K.RETURNS = min (v.reg K.RETURNS + 1) (2 ^ 32 - 1) ∧ t.spares.opStep = .idle ∧ t.unitOut u = false))
  ∧ ∀ (s v : State) (u i : Nat), s.ticking = true → v = s.atTick → u = v.spares.opUnit → u = 0x30000 + i → i < 12 → v.reg K.EE12_FOR = i →
    (s.spares.opStep = .wait → v.spares.opStep = .wait → v.comet.running = true → v.groupBusy (unitChans u) 11200 = false →
      exec .shadowPhaseStart s = .next (((v.put (K.EE_STATE i) 2).put K.SPARE_OP_STATE 2).setSpares { v.spares with opStep := .shadow, left := v.comet.frameLen }).settle)
    ∧ (s.spares.opStep = .shadow → v.spares.opStep = .shadow → (v.comet.running = false ∨ v.spares.left = 0 ∧ v.groupBusy (unitChans u) 11200 = false) →
      ∃ t : State, exec .shadowPhaseEnd s = .next t.settle ∧ t.reg (K.EE_STATE i) = 0 ∧ t.reg K.EE12_FOR = 255 ∧ t.reg K.SPARE_OP_STATE = 0 ∧ t.reg K.SPARE_OP_RESULT = 0
        ∧ t.reg K.RETURNS = min (v.reg K.RETURNS + 1) (2 ^ 32 - 1) ∧ t.spares.opStep = .idle ∧ t.unitOut u = false)

/-- R414, R415, Table 16.5: an instruction that needs TEST_EN runs while it is high and is BYPASS while it is low; SAMPLE/PRELOAD and BYPASS run always;
structural scan zeroises both secrets first and locks them out. What the chain samples is, cell by cell in the model's order of the balls, the level that the block drives
there, else the one that stands at the ball (log 44). -/
def Obligations.TestAccess : Prop :=
  ∀ (s : State) (r : ResetState), s.mode ≠ .off → r = { s.rst with bypass := false, pinsHighZ := false, pinsFromChain := false } →
    (∀ pins outs, exec (.samplePreload pins outs) s = .next (s.setRst { r with tapIr := 1, chain := s.chainSample pins, preload := outs }).settle)
    ∧ (∀ ir : Fin 16, exec (.bypass ir) s = .next (s.setRst { r with tapIr := ir, bypass := true }).settle)
    ∧ (s.rst.testEn = true →
      (∀ pins outs, exec (.extest pins outs) s = .next (s.setRst { r with tapIr := 0, chain := s.chainSample pins, preload := outs, pinsFromChain := true }).settle)
      ∧ exec .clamp s = .next (s.setRst { r with tapIr := 2, bypass := true, pinsFromChain := true }).settle
      ∧ exec .highz s = .next (s.setRst { r with tapIr := 3, bypass := true, pinsHighZ := true }).settle
      ∧ ∃ t : State, exec .scanEntry s = .next t.settle ∧ t.rst = { r with tapIr := 10, structural := true } ∧ t.reg K.KEY_STATE = 4
        ∧ t.reg K.ZEROISE_COUNT = min (s.reg K.ZEROISE_COUNT + 1) (2 ^ 32 - 1) ∧ t.plan = { s.plan with ditherNonce := none } ∧ s.keeps t [K.KEY_STATE, K.ZEROISE_COUNT])
    ∧ (s.rst.testEn = false → ∀ c : Instr, (c = .clamp ∨ c = .highz ∨ c = .scanEntry ∨ ∃ pins outs, c = .extest pins outs) →
      exec c s = .next (s.setRst { r with tapIr := 15, bypass := true }).settle)
    ∧ ∀ (pins : List Bool) (n : Nat) (b : Ball), chainBalls[n]? = some b → (s.chainSample pins)[n]? = some ((s.ball b).driven.getD (pins.getD n false))

/-! ### Supply and temperature (chapter 17) -/

/-- R425, R428, R429, R430: VAO start and the fall of VIN leave a part that is OFF with what its dies held gone and its fuses kept; the rails rise VIO, VANA, VCORE,
and after VCORE the part boots or is held; a rail fault takes every rail off, is reported and holds the part, the third in 10 s for good, others until the
rails start again 100 ms later. The converters' periods start at their places in the slot and end early at 50 mV of sense voltage, those of a converter
that is on or starting are counted while they are limited in a row, and the periods of a slot fault a rail when one of its converters has come to 1,000, and only then. -/
def Obligations.RailsAndSupply : Prop :=
  ((∀ s : State, (s.sup.vaoOn = true → exec .vaoStart s = .next s.settle) ∧ (s.sup.vaoOn = false → exec .vaoStart s = .next (s.powerDown true).settle)
    ∧ exec .vinPor s = .next (s.powerDown false).settle)
  ∧ ∀ (s t : State) (on : Bool), t = s.powerDown on →
    t.mode = .off ∧ t.sup = { vaoOn := on, released := false } ∧ t.retLog = [] ∧ t.fuses = s.fuses ∧ t.fs = {} ∧ t.spares = {} ∧ t.vaoTime = 0
      ∧ t.sealed = { s.sealed with request := none, prior := [] } ∧ (∀ i, i < 3 → t.reg (K.RAIL_STATE i) = 0) ∧ ∀ k, (∀ i, i < 3 → k ≠ K.RAIL_STATE i) → t.reg k = objDefault k)
  ∧ ((∀ s : State, ∀ c : Converter, s.convClock = (if s.reg K.REF_STATE = 1 then .refclk else .osc32) ∧ ConvClock.refclk.divider = 100 ∧ ConvClock.osc32.divider = 32
      ∧ c.starts = (match c with
        | .core1 => [0, 1400]
        | .core2 => [700, 2100]
        | .ana => [350, 1750]
        | .io => [1050, 2450]))
    ∧ (∀ (k : Conv) (mv : Nat), (50 ≤ mv → (k.period mv).early = true ∧ (k.period mv).limited = min 1000 (k.limited + 1)) ∧ (mv < 50 → k.period mv = {}))
    ∧ ∀ (s t u : State) (sense : List (List Nat)), u = s.convStep (fun i j => (sense.getD i []).getD j 0) → t = s.convPeriods sense →
      u = s.setSup { s.sup with conv := u.sup.conv }
      ∧ (∀ i, i < 4 → u.sup.conv.getD i {} = (if s.railOn (Converter.all.getD i .io).rail = true ∨ s.reg (K.RAIL_STATE (Converter.all.getD i .io).rail) = 1 then
          (s.sup.conv.getD i {}).period ((sense.getD i []).getD 0 0) |>.period ((sense.getD i []).getD 1 0) else {}))
      ∧ ((∀ i, i < 4 → (u.sup.conv.getD i {}).limited < 1000) → t = u)
      ∧ ((∃ i, i < 4 ∧ 1000 ≤ (u.sup.conv.getD i {}).limited) → ∃ i, i < 4 ∧ 1000 ≤ (u.sup.conv.getD i {}).limited
        ∧ t = ((s.setSup { s.sup with conv := [{}, {}, {}, {}] }).railFault (Converter.all.getD i .io).rail 4)))
  ∧ (∀ s : State, s.sup.vaoOn = true → s.sup.released = false → exec .aoRelease s = .next (s.setSup { s.sup with released := true }).settle)
  ∧ (∀ s w : State, s.sup.released = true → s.sup.lockOut = false → bitAt s.sup.declared 3 = false → s.sup.step = .idle → s.railsGood = false → s.mode ≠ .thermalLatch →
      w = (if s.railOn 2 = false then (s.put (K.RAIL_STATE 2) 1).setSup { s.sup with step := .vio, restartDue := false }
        else (s.put (K.RAIL_STATE 1) 1).setSup { s.sup with step := .vana, restartDue := false }) →
    (s.sup.restartDue = false → exec .railStart s = .next w.settle ∧ exec .railRestart s = .next s.settle)
    ∧ (s.sup.restartDue = true → exec .railRestart s = .next w.settle ∧ exec .railStart s = .next s.settle))
  ∧ (∀ s : State, (s.sup.step = .vio → exec .railPowerGood s = .next (((s.put (K.RAIL_STATE 2) (s.railGoodCode 2)).put (K.RAIL_STATE 1) 1).setSup { s.sup with step := .vana }).settle)
    ∧ (s.sup.step = .vana → exec .railPowerGood s = .next (((s.put (K.RAIL_STATE 1) (s.railGoodCode 1)).put (K.RAIL_STATE 0) 1).setSup { s.sup with step := .vcore }).settle)
    ∧ (s.sup.step = .vcore → ∃ t : State, exec .railPowerGood s = .next t.settle ∧ t.reg (K.RAIL_STATE 0) = s.railGoodCode 0 ∧ t.sup = { s.sup with step := .idle }
      ∧ (s.pinsHold = false → s.mode = .off ∨ s.mode = .held → t.mode = .boot ∧ t.boot.step = 0) ∧ (s.pinsHold = true → s.mode = .off → t.mode = .held)))
  ∧ ∀ (s : State) (i : Fin 3) (cause : Nat), (cause = 1 ∧ s.reg (K.RAIL_STATE i) = 1 ∨ (cause = 2 ∨ cause = 3) ∧ (s.reg (K.RAIL_STATE i) = 2 ∨ s.reg (K.RAIL_STATE i) = 4)
      ∨ cause = 4 ∧ (s.reg (K.RAIL_STATE i) = 1 ∨ s.reg (K.RAIL_STATE i) = 2 ∨ s.reg (K.RAIL_STATE i) = 4)) →
    ∃ t : State, exec (.railFault i cause) s = .next t.settle ∧ t.reg (K.RAIL_STATE i) = 3 ∧ (∀ j, j < 3 → j ≠ i.val → t.reg (K.RAIL_STATE j) = 0) ∧ t.reg (K.RAIL_FAULT_CAUSE i) = cause
      ∧ t.reg (K.RAIL_FAULTS i) = min (s.reg (K.RAIL_FAULTS i) + 1) (2 ^ 32 - 1) ∧ (s.mode ≠ .off → s.mode ≠ .thermalLatch → t.mode = .held)
      ∧ t.sup.faultAges = 0 :: s.sup.faultAges ∧ t.sup.lockOut = decide (2 ≤ s.sup.faultAges.length) ∧ t.sup.restartDue = !t.sup.lockOut ∧ t.sup.step = .idle
      ∧ t.retLog = ((leBytes 4 2 ++ leBytes 4 (s.vaoTime / 500 % 2 ^ 32) ++ bytesAt (leBytes 1 (i.val + 1) ++ leBytes 1 cause ++ leBytes 1 (if t.sup.lockOut = true then 1 else 0)) 0 8) :: s.retLog).take 8

/-- R427, R431, R432, R434, R435: a shed level that is declared is counted and SHED_LEVEL, with its stamp, follows the deepest one, L3 under overvoltage; L4
enters the retention log, holds the part and takes off the rails of its dies, which start again when it clears unless a rail fault keeps them off; VIN_MINMAX_CLR starts the extremes anew. -/
def Obligations.ShedLevels : Prop :=
  (∀ (s u : State) (l : Fin 5) (cc : Fin 2800), s.sup.released = true → 0 < l.val → bitAt s.sup.declared (l.val - 1) = false → s.fs.retire.source < 50 → s.fs.retire.target < 50 →
      u = (s.setSup { s.sup with declared := withBit s.sup.declared (l.val - 1) true }).put (K.SHED_ENTRIES (l.val - 1)) (min (s.reg (K.SHED_ENTRIES (l.val - 1)) + 1) (2 ^ 32 - 1)) →
    (l.val < 3 → u.shedNow = s.reg K.SHED_LEVEL → exec (.shedDeclare l cc) s = .next u.settle)
    ∧ (l.val < 3 → u.shedNow ≠ s.reg K.SHED_LEVEL → exec (.shedDeclare l cc) s = .next ((u.put K.SHED_LEVEL u.shedNow).put K.SHED_LAST (s.stampCc cc)).settle)
    ∧ (l.val = 3 → ∃ t : State, exec (.shedDeclare l cc) s = .next t.settle ∧ t.reg K.SHED_LEVEL = 3 ∧ t.sup = u.sup ∧ t.reg (K.SHED_ENTRIES 2) = u.reg (K.SHED_ENTRIES 2)
      ∧ t.settle.ensB.permitA = false ∧ t.settle.ensB.permitB = false)
    ∧ (l.val = 4 → ∃ t : State, exec (.shedDeclare l cc) s = .next t.settle ∧ t.reg K.SHED_LEVEL = 3 ∧ t.sup = { u.sup with step := .idle, lostByL4 := true, conv := [{}, {}, {}, u.sup.conv.getD 3 {}] } ∧ t.reg (K.RAIL_STATE 0) = 0 ∧ t.reg (K.RAIL_STATE 1) = 0
      ∧ (s.mode ≠ .off → s.mode ≠ .thermalLatch → t.mode = .held)
      ∧ t.retLog = ((leBytes 4 3 ++ leBytes 4 (s.vaoTime / 500 % 2 ^ 32) ++ bytesAt [] 0 8) :: s.retLog).take 8))
  ∧ (∀ (s u : State) (l : Fin 5) (cc : Fin 2800), s.sup.released = true → 0 < l.val → bitAt s.sup.declared (l.val - 1) = true →
      u = s.setSup { s.sup with declared := withBit s.sup.declared (l.val - 1) false } →
    (l.val < 4 → u.shedNow = s.reg K.SHED_LEVEL → exec (.shedClear l cc) s = .next u.settle)
    ∧ (l.val < 4 → u.shedNow ≠ s.reg K.SHED_LEVEL → exec (.shedClear l cc) s = .next ((u.put K.SHED_LEVEL u.shedNow).put K.SHED_LAST (s.stampCc cc)).settle)
    ∧ (l.val = 4 → s.sup.restartDue = true → u.shedNow = s.reg K.SHED_LEVEL → exec (.shedClear l cc) s = .next u.settle)
    ∧ (l.val = 4 → s.sup.restartDue = false → s.sup.lockOut = false → s.sup.step = .idle → s.railOn 0 = false → s.railOn 2 = true → s.mode ≠ .thermalLatch →
      ∃ t : State, exec (.shedClear l cc) s = .next t.settle ∧ t.reg (K.RAIL_STATE 1) = 1 ∧ t.sup = { u.sup with step := .vana, restartDue := false } ∧ t.reg K.SHED_LEVEL = u.shedNow))
  ∧ (∀ (s : State) (cc : Fin 2800), s.sup.released = true → s.reg K.VIN_OV ≠ 1 → s.fs.retire.source < 50 → s.fs.retire.target < 50 →
    ∃ t : State, exec (.ovDeclare cc) s = .next t.settle ∧ t.reg K.VIN_OV = 1 ∧ t.reg K.OV_ENTRIES = min (s.reg K.OV_ENTRIES + 1) (2 ^ 32 - 1) ∧ t.reg K.SHED_LEVEL = 3
      ∧ t.settle.ensB.permitA = false ∧ t.settle.ensB.permitB = false)
  ∧ (∀ (s : State) (cc : Fin 2800), s.reg K.VIN_OV = 1 → ∃ t : State, exec (.ovClear cc) s = .next t.settle ∧ t.reg K.VIN_OV = 0
    ∧ t.reg K.SHED_LEVEL = (if bitAt s.sup.declared 3 = true ∨ bitAt s.sup.declared 2 = true then 3 else if bitAt s.sup.declared 1 = true then 2 else if bitAt s.sup.declared 0 = true then 1 else 0)
    ∧ s.keeps t [K.VIN_OV, K.SHED_LEVEL, K.SHED_LAST])
  ∧ ∀ (s : State) (a : HostAt), s.mayWrite a.path K.VIN_MINMAX_CLR = true →
    exec (.vinMinmaxClr a) s = .next (noteResult a.path (0, (s.put K.VIN_MIN 0xFFFF).put K.VIN_MAX 0)).settle

/-- R436, R437, R438, R440, R442, R444: a reading in range of a sensor that is judged shows, one out of range or ten missed break the sensor; a zone's
disagreement changes after 1 s; two broken sensors of a zone, or two readings of its warning temperature at 135.0 °C, set the thermal latch, which takes off
the rails of the dies; the throttle steps up at 120.0 °C and down after THROT_RELAX below 115.0 °C. -/
def Obligations.TemperaturesAndThrottle : Prop :=
  (∀ s : State, s.mode ≠ .off → (∀ codes, (s.tsReading codes).latchDue = false → exec (.tsReading codes) s = .next (s.tsReading codes).settle)
    ∧ ∀ i : Fin 12, (s.tsBreak i).latchDue = false → exec (.tsBreak i) s = .next (s.tsBreak i).settle)
  ∧ (∀ (s v : State) (c : Instr), s.mode ≠ .off → s.therm.latched = false →
      ((∃ codes, c = .tsReading codes ∧ v = s.tsReading codes) ∨ ∃ i : Fin 12, c = .tsBreak i ∧ v = s.tsBreak i) →
    (v.latchDue = false → exec c s = .next v.settle)
    ∧ (v.latchDue = true → ∃ t : State, exec c s = .next t.settle ∧ t.mode = .thermalLatch ∧ t.therm.latched = true ∧ t.reg (K.RAIL_STATE 0) = 0 ∧ t.reg (K.RAIL_STATE 1) = 0
      ∧ t.reg (K.RAIL_STATE 2) = v.reg (K.RAIL_STATE 2) ∧ t.retLog = v.retLog ∧ t.fuses = s.fuses))
  ∧ (∀ s : State, s.latchDue = true ↔ (∃ z, z < 6 ∧ (s.tsensor (2 * z)).broken = true ∧ (s.tsensor (2 * z + 1)).broken = true) ∨ ∃ z ∈ s.therm.zones, 2 ≤ z.hot)
  ∧ (∀ (s u v : State) (codes : List (Option Int)) (i : Nat) (c : Int), i < 12 → u = s.thermDue → v = s.tsReading codes → u.tsJudged i = true → (u.tsensor i).broken = false →
      codes.getD i none = some c →
    (-880 ≤ c → c ≤ 2800 → v.tsensor i = { own := some c, missed := 0, broken := false } ∧ v.reg (K.TS_READ i) = ofSigned 16 c
      ∧ v.reg (K.TS_STATE i) = (if (v.tzone (i / 2)).disagree = true then 2 else 1))
    ∧ ((c < -880 ∨ 2800 < c) → (v.tsensor i).broken = true ∧ (v.tsensor i).own = none ∧ v.reg (K.TS_READ i) = 0x8000 ∧ v.reg (K.TS_STATE i) = 3))
  ∧ (∀ (s : State) (i : Nat), i < 12 → s.tsJudged i = true → 10 ≤ (s.tsensor i).missed → (s.tsensor i).broken = false →
    ((s.tsBreak i).tsensor i).broken = true ∧ ((s.tsBreak i).tsensor i).own = none ∧ (s.tsBreak i).reg (K.TS_STATE i) = 3 ∧ (s.tsBreak i).reg (K.TS_READ i) = 0x8000
      ∧ (s.tsBreak i).reg K.TS_BREAKS = min (s.reg K.TS_BREAKS + 1) (2 ^ 32 - 1))
  ∧ (∀ (s : State) (z : Fin 6), s.mode ≠ .off →
    (1000 < (s.tzone z).diffRun → ∃ t : State, exec (.tsDisagreeChange z) s = .next t.settle ∧ t.tzone z = { s.tzone z with disagree := !(s.tzone z).disagree, diffRun := 0 }
      ∧ t.therm.sensors = s.therm.sensors ∧ ∀ i, i / 2 = z.val → (s.tsensor i).broken = false → (s.tsensor i).own.isSome = true →
        t.reg (K.TS_STATE i) = (if (s.tzone z).disagree = true then 1 else 2))
    ∧ ((s.tzone z).diffRun ≤ 1000 → exec (.tsDisagreeChange z) s = .next s.settle))
  ∧ ∀ s : State, s.mode.coreRuns = true →
    (s.zoneAt K.ZONE_JUDGED 1920 = true → s.reg K.THROT_STEP = 0 → exec .throttleStepUp s = .next (((s.put K.THROT_ENTRIES (min (s.reg K.THROT_ENTRIES + 1) (2 ^ 32 - 1))).put
      K.THROT_STEP 1).setTherm { s.therm with hotFor := 1 }).settle)
    ∧ (s.zoneAt K.ZONE_JUDGED 1920 = true → 0 < s.reg K.THROT_STEP → s.reg K.THROT_STEP < 4 → 100 < s.therm.hotFor →
      exec .throttleStepUp s = .next ((s.put K.THROT_STEP (s.reg K.THROT_STEP + 1)).setTherm { s.therm with hotFor := 1 }).settle)
    ∧ (s.reg K.THROT_STEP ≠ 0 → 100 * s.reg K.THROT_RELAX < s.therm.coolFor →
      exec .throttleStepDown s = .next ((s.put K.THROT_STEP (s.reg K.THROT_STEP - 1)).setTherm { s.therm with coolFor := 1 }).settle)

/-! ### Modes, BOOT and reset (chapter 18) -/

/-- R447: a write of MODE_REQ with a code from 3 to 8 makes a request, any other is refused with RANGE; a request for the present mode reads DONE at once, any
other PENDING, judged at the tick more than 40 cc later and replacing one not yet judged. R448, R449: at its tick a request is judged by Tables 18.2 and 18.3,
takes effect, waits for its frame boundary or is refused with its code, and gives way to an automatic transition. -/
def Obligations.ModeRequests : Prop :=
  (∀ (s : State) (w : HostWrite) (v : Nat), s.mayWrite w.path K.MODE_REQ = true → w.data.length = 1 → v = ofLe w.data →
    ((v < 3 ∨ 8 < v) → exec (.modeReq w) s = .next (noteResult w.path (4, s)).settle)
    ∧ (3 ≤ v → v ≤ 8 → Mode.ofCode v = s.mode →
      exec (.modeReq w) s = .next (noteResult w.path (0, ({ s.put K.MODE_REQ v with modeSt := {} }).put K.MODE_RESULT 0)).settle)
    ∧ (3 ≤ v → v ≤ 8 → Mode.ofCode v ≠ s.mode →
      exec (.modeReq w) s = .next (noteResult w.path (0, ({ s.put K.MODE_REQ v with
        modeSt := { reqTicks := if w.cc.val + 40 < 2800 then 1 else 2, frameWait := none } }).put K.MODE_RESULT 1)).settle))
  ∧ (∀ (s u : State) (m : Mode), s.ticking = true → s.modeSt.reqTicks = 1 → u = s.atTick → u.modeSt.reqTicks = 1 → m = Mode.ofCode (u.reg K.MODE_REQ) →
    (u.autoDue = true → exec .modeRequestJudge s = .next u.settle)
    ∧ (u.autoDue = false → u.ensB.degAck = false →
      (u.modeVerdict m = 0 → m = u.mode → exec .modeRequestJudge s = .next (({ u with modeSt := {} }).put K.MODE_RESULT 0).settle)
      ∧ (u.modeVerdict m = 0 → m ≠ u.mode → u.fs.retire.source < 50 → u.fs.retire.target < 50 →
        ∃ t : State, exec .modeRequestJudge s = .next t.settle ∧ t.mode = m ∧ t.reg K.MODE_RESULT = 0 ∧ t.reg K.MODE_REQ = u.reg K.MODE_REQ ∧ t.modeSt = {}
          ∧ (m = .standby ∨ m = .selfTest ∨ m.isRunning = true → t.reg K.MODE_CHANGES = (u.reg K.MODE_CHANGES + 1) % 2 ^ 32 ∧ t.reg K.MODE_LAST = u.nextStamp))
      ∧ (u.modeVerdict m = 1 → exec .modeRequestJudge s = .next ({ u with modeSt := { reqTicks := 0, frameWait := some m } }).settle)
      ∧ (2 ≤ u.modeVerdict m → exec .modeRequestJudge s = .next (({ u with modeSt := {} }).put K.MODE_RESULT (u.modeVerdict m)).settle)))
  ∧ (∀ (s : State) (x : Nat), s.modeSt.reqTicks = 2 → (s.modeTick x).modeSt.reqTicks = 1)
  ∧ (∀ s : State, s.modeVerdict s.mode = 0
    ∧ (s.mode ≠ .standby → s.modeVerdict .standby = (match s.mode with
        | .selfTest | .calibrate | .scan | .scanAnalyse | .survey | .degraded => 0
        | .safeHold => if s.reg K.SH_CAUSE = 0 then 0 else 5
        | _ => 2))
    ∧ (s.mode ≠ .selfTest → s.modeVerdict .selfTest = if s.mode = .standby then 0 else 2)
    ∧ ∀ m : Mode, m.isScanning = true → s.mode ≠ m → s.modeVerdict m =
      if s.mode = .degraded then 6 else if s.mode ≠ .standby ∧ s.mode.isScanning = false then 2 else if s.plan.hasActive = false then 3 else if s.lockedA = false then 4
      else if s.mode = .standby then 0 else 1)
  ∧ ∀ (s u : State) (m : Mode), s.ticking = true → s.modeSt.frameWait.isSome = true → s.atFrameBoundary = true → s.autoDue = false → u = s.atTick → u.modeSt.frameWait = some m →
      u.atFrameBoundary = true → u.fs.retire.source < 50 → u.fs.retire.target < 50 →
    ∃ t : State, exec .modeChangeAtFrame s = .next t.settle ∧ t.mode = m ∧ t.modeSt.frameWait = none ∧ t.reg K.MODE_RESULT = 0
      ∧ (m.isRunning = true → t.reg K.MODE_CHANGES = (u.reg K.MODE_CHANGES + 1) % 2 ^ 32 ∧ t.reg K.MODE_LAST = u.nextStamp)

/-- R221, R452, R453, R454, R456, R460: BOOT loads the fuses, reads straps and flash, starts the PLLs and the HK ADC; at PLL A's lock, or its failure, the Field Store is
clear but for the staging frames, where the DOMAIN contents of the script stand, AUTH_COUNTER starts again and the dictionary answers; at its end BOOT_TIME is known, and the tick to come leads to STANDBY, or to SAFE-HOLD with a
cause. -/
def Obligations.BootSteps : Prop :=
  (∀ (s : State) (i : BootInput), s.mode = .boot → s.boot.step = 0 → (∀ f ∈ s.pipe.cur.fires, f.emitter < 16) →
    ∃ t : State, exec (.bootStart i) s = .next t.settle ∧ t.mode = .boot ∧ t.boot.step = 3 ∧ t.boot.flash = i.flash ∧ t.boot.failed = i.fails ∧ t.reg K.PLLA_STATE = 1 ∧ t.reg K.PLLB_STATE = 1
      ∧ t.hk.on = true ∧ t.reg K.KEY_STATE = (if s.regBit K.KEY_STATE 2 = true then 4 else 3) ∧ t.reg K.STRAP_BOOT = strapWord i.straps ∧ t.reg K.STRAP_READ = strapWord i.straps
      ∧ t.reg K.CEIL_CODE = bits (strapWord i.straps) 5 0 ∧ t.reg K.PRESET_NOW = bits (strapWord i.straps) 8 6
      ∧ (s.sealed.blown = true → t.reg K.SEAL_CRC = s.sealed.fuseCrc ∧ (t.reg K.SEAL_STATE = 1 ∨ t.reg K.SEAL_STATE = 2 ∧ t.regBit K.SH_CAUSE 7 = true))
      ∧ ((∃ e ∈ s.retLog, fieldAt e 0 4 = 1) → bitAt t.penn.sticky 26 = true))
  ∧ (∀ (s : State) (d : Int) (cc : Fin 2800), s.mode = .boot → s.boot.step = 3 → s.reg K.REF_STATE = 1 → s.reg K.PLLA_STATE ≠ 0 → s.reg K.PLLA_STATE ≠ 2 → s.clk.a.skip = false → s.clk.a.good = 3 →
      d.natAbs ≤ 2 →
    ∃ t : State, exec (.pllWindowEnd false d cc) s = .next t.settle ∧ t.reg K.PLLA_STATE = 2 ∧ t.boot.answers = true ∧ t.fs.bad = [] ∧ t.reg K.AUTH_COUNTER = 0
      ∧ (∀ a, (∀ o, t.stageAddr o ≠ some a) → memGet t.fs.mem a = 0) ∧ (s.noKeyHash = true → t.fs.mem = [])
      ∧ (t.boot.step = 9 ∨ t.boot.step = 10 ∧ t.boot.script = s.boot.script)
      ∧ (s.noKeyHash = true → t.boot.step = 10 ∧ t.regBit K.BOOT_STATUS 4 = true) ∧ (s.wantsBist = true → t.regBit K.BOOT_STATUS 9 = true ∧ t.reg K.BOOT_BIST ≠ 0))
  ∧ (∀ s : State, s.mode = .boot → s.boot.step = 3 → s.reg K.PLLA_STATE = 1 → (5000 ≤ s.clk.a.ticks ∨ s.reg K.REF_STATE ≠ 1) →
    ∃ t : State, exec (.pllFailTimeout false) s = .next t.settle ∧ t.reg K.PLLA_STATE = 4 ∧ t.boot = { s.boot with answers := true, step := 10 } ∧ t.fs.mem = [] ∧ t.reg K.AUTH_COUNTER = 0
      ∧ t.regBit K.BOOT_STATUS 7 = true)
  ∧ (∀ s : State, s.mode = .boot → s.boot.step = 10 →
    ∃ t : State, exec .bootEnd s = .next t.settle ∧ t.boot = { s.boot with step := 11, oldCauses := 0, script := [], flash := [], reads := [] } ∧ t.reg K.BOOT_TIME = 2 * s.boot.ticks % 2 ^ 32
      ∧ s.keeps t [K.BOOT_TIME] ∧ ∀ i a, i < 16 → a < bankBytes → memGet t.fs.mem (s.reg (K.BANK_MAP (32 + i)) * bankBytes + a) = 0)
  ∧ ∀ s u : State, s.ticking = true → s.bootExitDue = true → u = s.atTick → u.bootExitDue = true → u.fs.retire.source < 50 → u.fs.retire.target < 50 →
    ∃ t : State, exec .bootExitTick s = .next t.settle ∧ t.mode = (if u.reg K.SH_CAUSE = 0 then .standby else .safeHold) ∧ t.boot.step = 0
      ∧ t.reg K.MODE_CHANGES = (u.reg K.MODE_CHANGES + 1) % 2 ^ 32 ∧ t.reg K.MODE_LAST = u.nextStamp

/-- R457: a record that ends with OK is counted and the script goes on; one that does not stops the script, with bit 6 of BOOT_STATUS and SCRIPT_FAIL; WRITE
and DOMAIN are host writes in STANDBY, the content of a DOMAIN being what the staging frames hold after those of the DOMAIN records before it (log 58), COMMIT waits for its commit, WAIT for its condition; the END record ends the script with its slot's bit. The number of
the first record in SCRIPT_FAIL and the code of a WAIT that times out are free (log 9). -/
def Obligations.ScriptRecords : Prop :=
  ∀ (s : State) (r : List Byte) (l : List (List Byte)) (next : State → State) (stop : State → Nat → State) (u : Nat → State), s.mode = .boot → s.boot.step = 9 → s.boot.script = r :: l →
      (∀ t, next t = ({ t with boot := { t.boot with script := t.boot.script.drop 1, recNo := t.boot.recNo + 1, commitWait := false } }).put K.SCRIPT_RECORDS
        (min (t.reg K.SCRIPT_RECORDS + 1) (2 ^ 32 - 1))) →
      (∀ t c, stop t c = { (t.putBit K.BOOT_STATUS 6 true).put K.SCRIPT_FAIL ((t.boot.recNo + recordBase) % 2 ^ 24 * 256 + c) with
        boot := { t.boot with script := [], step := 10, commitWait := false } }) →
      (∀ n, u n = { s with boot := { s.boot with staged := s.boot.staged + n } }) →
    (∀ (cc : Fin 2800) (ecc : Ecc) (o : ObjRow) (k c : Nat) (t : State), fieldAt r 0 1 = 1 → k = objKey (fieldAt r 2 2) (fieldAt r 4 1) →
      (objRow? k = none → exec (.scriptWrite cc ecc) s = .next (stop s 1).settle)
      ∧ (objRow? k = some o → s.writeFound .standby 4 o k cc ecc (bytesAt r 8 (fieldAt r 1 1)) = (c, t) → exec (.scriptWrite cc ecc) s = .next (if c = 0 then next t else stop t c).settle))
    ∧ (∀ (cc : Fin 2800) (o : ObjRow) (k c : Nat) (t : State), fieldAt r 0 1 = 2 → k = objKey (fieldAt r 2 2) (fieldAt r 4 1) →
      (objRow? k = none → exec (.scriptDomain cc) s = .next (stop (u (fieldAt r 12 4)) 1).settle)
      ∧ (objRow? k = some o → (u (fieldAt r 12 4)).writeDomain .standby o k cc (s.stageGet s.boot.staged (fieldAt r 12 4)) = (c, t) →
        exec (.scriptDomain cc) s = .next (if c = 0 then next t else stop t c).settle))
    ∧ (fieldAt r 0 1 = 3 →
      (s.boot.commitWait = false → s.commitBusy = true → exec .scriptCommit s = .next (stop s 6).settle)
      ∧ (s.boot.commitWait = false → s.commitBusy = false → fieldAt r 4 4 = 0 → exec .scriptCommit s = .next (next s).settle)
      ∧ (s.boot.commitWait = false → s.commitBusy = false → fieldAt r 4 4 ≠ 0 → exec .scriptCommit s = .next { s.put K.COMMIT_STATE 1 with
          commit := { mask := fieldAt r 4 4, path := 4 }, boot := { s.boot with commitWait := true } }.settle)
      ∧ (s.boot.commitWait = true → s.commitBusy = true → exec .scriptCommit s = .next s.settle)
      ∧ (s.boot.commitWait = true → s.reg K.COMMIT_STATE = 3 → exec .scriptCommit s = .next (stop s (s.reg K.COMMIT_RESULT)).settle)
      ∧ (s.boot.commitWait = true → s.reg K.COMMIT_STATE = 0 → exec .scriptCommit s = .next (next s).settle))
    ∧ (∀ v : Nat, fieldAt r 0 1 = 4 → s.waitValue (objKey (fieldAt r 2 2) (fieldAt r 4 1)) = .ok v →
      (v &&& fieldAt r 8 4 = fieldAt r 12 4 → exec .scriptWait s = .next (next s).settle ∧ exec .scriptWaitTimeout s = .next (next s).settle)
      ∧ (v &&& fieldAt r 8 4 ≠ fieldAt r 12 4 → exec .scriptWait s = .next s.settle ∧ exec .scriptWaitTimeout s = .next (stop s timeoutCode).settle))
    ∧ (∀ e : Nat, fieldAt r 0 1 = 4 → s.waitValue (objKey (fieldAt r 2 2) (fieldAt r 4 1)) = .error e →
      exec .scriptWait s = .next (stop s e).settle ∧ exec .scriptWaitTimeout s = .next (stop s e).settle)
    ∧ (fieldAt r 0 1 = 15 → ∃ t : State, exec .scriptEnd s = .next t.settle ∧ t.boot = { s.boot with script := [], step := 10, recNo := s.boot.recNo + 1, commitWait := false }
      ∧ t.reg K.SCRIPT_RECORDS = min (s.reg K.SCRIPT_RECORDS + 1) (2 ^ 32 - 1) ∧ t.regBit K.BOOT_STATUS (if s.boot.slotB = true then 1 else 0) = true ∧ s.keeps t [K.SCRIPT_RECORDS, K.BOOT_STATUS])

/-- R89, R414, R415, R459, R460, R461, R462, R464: RESET_N judged low is counted and holds the dies, whose registers lose their values; low for 2 s it is stuck,
which FAULT_N and the retention log show until its release; released with the rails good and TEST_EN low it starts BOOT; TEST_EN high holds the dies and its
fall leaves them held, TRST_N in structural scan too, or its fall then, until RESET_N has been low; RET_LOG_CLEAR empties the retention log. R414, R464: the
balls in each state: in OFF, without its supply and in HELD no fire pair is driven and no permit is on, and in SAFE-HOLD the fire pairs stand at differential low; with
TEST_EN high the chain may drive the balls it is allowed to and no other, each with its cell's value, an open-drain one low or not at all. R469: the pulls of powered balls. -/
def Obligations.ResetAndPins : Prop :=
  (∀ s : State, s.sup.released = true → s.rst.resetLow = false →
    (s.mode = .thermalLatch → exec .resetAssert s = .next (s.setRst { s.rst with resetLow := true }).settle)
    ∧ (s.mode ≠ .thermalLatch → ∃ t : State, exec .resetAssert s = .next t.settle ∧ t.rst = { s.rst with resetLow := true, resetSince := true }
      ∧ t.reg K.RESET_COUNT = min (s.reg K.RESET_COUNT + 1) (2 ^ 32 - 1) ∧ t.sup = { s.sup with resetInLockOut := s.sup.lockOut } ∧ t.retLog = s.retLog ∧ t.therm = s.therm ∧ t.fuses = s.fuses
      ∧ (s.mode ≠ .off → t.mode = .held ∧ t.ensB.bins100 = s.ensB.bins100 ∧ t.ensB.bins10 = s.ensB.bins10 ∧ t.settle.ensB.permitA = false ∧ t.settle.ensB.permitB = false
        ∧ (∀ k, keptInHeld k = true → k ≠ K.RESET_COUNT → t.reg k = s.reg k)
        ∧ ∀ k, keptInHeld k = false → k ≠ K.PLLA_STATE → k ≠ K.PLLB_STATE → t.reg k = objDefault k)))
  ∧ (∀ s : State, s.rst.resetLow = true → s.rst.stuck = false → s.mode ≠ .thermalLatch →
    ∃ t : State, exec .resetStuck s = .next t.settle ∧ t.rst = { s.rst with stuck := true } ∧ t.faultLow = true ∧ t.objs = s.objs
      ∧ t.retLog = ((leBytes 4 1 ++ leBytes 4 (s.vaoTime / 500 % 2 ^ 32) ++ bytesAt [] 0 8) :: s.retLog).take 8)
  ∧ (∀ s : State, s.rst.resetLow = true →
    (s.mode = .thermalLatch → ∃ t : State, exec .resetRelease s = .next t.settle ∧ t.mode = .thermalLatch ∧ t.rst.resetLow = false ∧ t.rst.stuck = false)
    ∧ (s.mode = .held → s.railsGood = true → s.rst.testEn = false → (s.rst.tapHeld = false ∨ s.rst.resetSince = true) → (s.sup.lockOut = false ∨ s.sup.resetInLockOut = false) →
      ∃ t : State, exec .resetRelease s = .next t.settle ∧ t.mode = .boot ∧ t.boot.step = 0 ∧ t.rst.resetLow = false ∧ t.rst.stuck = false ∧ t.rst.tapHeld = false ∧ t.retLog = s.retLog
        ∧ t.boot.oldCauses = s.reg K.SH_LATCHED ||| s.boot.oldCauses))
  ∧ (∀ (s : State) (a : HostAt), s.mayWrite a.path K.RET_LOG_CLEAR = true →
    (s.sup.lockRail = none → exec (.retLogClear a) s = .next (noteResult a.path (0, { s with retLog := [] })).settle)
    ∧ ∀ i, s.sup.lockRail = some i → ∃ t : State, exec (.retLogClear a) s = .next (noteResult a.path (0, t)).settle ∧ t.retLog = [] ∧ t.sup = { s.sup with lockRail := none }
      ∧ t.reg (K.RAIL_STATE i) = (if s.reg (K.RAIL_STATE i) = 4 then 2 else s.reg (K.RAIL_STATE i)) ∧ s.keeps t [K.RAIL_STATE i])
  ∧ (∀ s : State, s.rst.testEn = true → exec (.testEnChange false) s = .next (s.setRst { s.rst with
      testEn := false, structural := false, tapHeld := s.rst.tapHeld || s.rst.structural, resetSince := s.rst.resetSince && !s.rst.structural
      tapIr := 15, bypass := true, pinsHighZ := false, pinsFromChain := false }).settle)
  ∧ (∀ s : State, ∃ t : State, exec (.testEnChange true) s = .next t.settle ∧ t.rst = { s.rst with testEn := true } ∧ (s.mode ≠ .off → s.mode ≠ .thermalLatch → t.mode = .held)
    ∧ t.settle.ensB.permitA = false ∧ t.settle.ensB.permitB = false)
  ∧ (∀ (s : State) (r : ResetState), r = { s.rst with tapIr := 15, bypass := true, pinsHighZ := false, pinsFromChain := false } →
    (s.rst.structural = false → exec .trstNAssert s = .next (s.setRst r).settle)
    ∧ (s.rst.structural = true → ∃ t : State, exec .trstNAssert s = .next t.settle ∧ t.rst = { r with structural := false, tapHeld := true, resetSince := false }
      ∧ (s.mode ≠ .off → s.mode ≠ .thermalLatch → t.mode = .held)))
  ∧ (∀ (s : State) (above : Bool), exec (.holdCircuitThreshold above) s = .next ({ s with mir := { s.mir with holdOn := above } }).settle)
  ∧ ∀ (s : State) (e i ch : Nat) (p : Bool) (b : Ball),
    (s.mode = .off → s.ballOf (.fire e) = .pulled 50 ∧ s.ballOf (.permit p) = .pulled 100 ∧ s.ballOf (.stx i) = .highZ ∧ s.ballOf (.rx ch) = .highZ ∧ s.ballOf .lasDis = .highZ
      ∧ s.ballOf .faultN = .highZ ∧ s.ballOf (.mirrorDrive p) = (if s.mir.holdOn = true then .low else .pulled 10))
    ∧ (s.mode ≠ .off → s.mode = .thermalLatch ∨ s.railsGood = false → s.ballOf (.fire e) = .pulled 50 ∧ s.ballOf (.permit p) = .low ∧ s.ballOf .lasDis = .high ∧ s.ballOf .trigOut = .pulled 100
      ∧ s.ballOf (.canTxd i) = .highZ ∧ s.ballOf (.stx i) = .highZ ∧ s.ballOf (.mirrorDrive p) = .low ∧ s.ballOf (.feedback p) = .watched)
    ∧ (s.mode = .held → s.railsGood = true → s.ballOf (.fire e) = .diffLow ∧ s.ballOf (.permit p) = .low ∧ s.ballOf .lasDis = .high ∧ s.ballOf .trigOut = .low ∧ s.ballOf (.canTxd i) = .high
      ∧ s.ballOf (.stx i) = .highZ ∧ s.ballOf (.mirrorDrive p) = .low ∧ s.ballOf .srx = .unterminated ∧ s.ballOf (.feedback p) = .watched)
    ∧ (s.mode = .safeHold → s.railsGood = true → s.ballOf (.fire e) = .diffLow ∧ s.ballOf (.permit p) = (if s.permitLevel p = true then .high else .low))
    ∧ (s.rst.testEn = false ∨ b.inChain = false → s.ball b = s.ballOf b)
    ∧ (s.rst.testEn = true → b.inChain = true → s.rst.pinsHighZ = true → s.ball b = .highZ)
    ∧ (s.rst.testEn = true → b.inChain = true → s.rst.pinsHighZ = false → s.rst.pinsFromChain = true →
      s.ball b = (if s.preloaded b = false then .low else if b = .irqN ∨ b = .faultN then .highZ else .high))
    ∧ (s.mode ≠ .off → s.pull .resetN = some (.up 100) ∧ s.pull .testEn = some (.down 50) ∧ s.pull .inhibit = some (.down 100) ∧ s.pull (.feedback p) = some (.down 100)
      ∧ s.pull .solIn = some (.down 100) ∧ (s.railOn 2 = true → s.pull .hcsN = some (.up 50) ∧ s.pull (.canRxd i) = some (.up 50) ∧ s.pull .syncIn = some (.down 50)
        ∧ s.pull .trigIn = some (.down 50) ∧ s.pull .tms = some (.up 50) ∧ s.pull .trstN = some (.down 50)))

/-! ### The block as a whole -/

/-- A step takes the command at the front of the queue and executes it on the state with the queue's rest. With nothing queued the block idles, which is the
model's choice (log 1). -/
def Obligations.StepRunsFront : Prop :=
  (∀ (s : State) (c : Instr) (l : List Instr), s.pending = c :: l → step s = exec c { s with pending := l })
  ∧ ∀ s : State, s.pending = [] → step s = .next s

/-- Every command of the table ends in a next state, whatever the state and whatever it carries, with the outputs brought up to date: none ends in a fault or
a refusal. -/
def Obligations.EveryCommandCompletes : Prop :=
  ∀ (c : Instr) (s : State), ∃ t : State, exec c s = .next t.settle

/-- R25, R29, R221, R446, R461: the machine at the start of the first BOOT: mode BOOT before its first step, both plan banks empty with no plan active, the
slot counter not counting, the Field Store clear, no command waiting; every register of the dictionary holds its default, and every output that is gated is
off. -/
def Obligations.ResetState : Prop :=
  State.reset.mode = .boot ∧ State.reset.boot.step = 0 ∧ State.reset.pending = [] ∧ State.reset.plan.hasActive = false ∧ State.reset.plan.pending.plan = [] ∧ State.reset.plan.active.plan = []
    ∧ State.reset.slot = 0 ∧ State.reset.counting = false ∧ State.reset.comet.running = false ∧ State.reset.fs.mem = [] ∧ State.reset.fs.queue = [] ∧ State.reset.retLog = [] ∧ State.reset.shadow = []
    ∧ (∀ k, State.reset.reg k = objDefault k) ∧ State.reset.reg K.PLLA_STATE = 0 ∧ State.reset.reg K.REF_STATE = 1 ∧ State.reset.reg K.SH_CAUSE = 0 ∧ State.reset.reg K.COMMIT_STATE = 0
    ∧ State.reset.memoryWf = true ∧ State.reset.outputsSafe = true

/-- R81, R86, R89, R118, R196, R258, R269, R310, R384, R387, R418: bringing the outputs up to date changes no register but those that show them, and no part of the state
but the permits, the mirror, the reservoir, the trigger outputs, the bias zones, the link with the sideband requests and the lane moves that end with it, the
Pennant word and the CAN status frames that follow it. R206, R207: a trigger output in mode 0 is low, and TRIG_OUT of mode 2 outside POST. -/
def Obligations.SettlingFrame : Prop :=
  ∀ s t : State, t = s.settle →
    t = { s with objs := t.objs, ensB := t.ensB, mir := t.mir, trg := t.trg, res := t.res, apd := t.apd, link := t.link, paths := t.paths, penn := t.penn, can := t.can }
    ∧ s.keeps t gateKeys
    ∧ (s.permitCond = true → t.ensB = s.ensB ∧ t.reg K.TP_VOID = s.reg K.TP_VOID ∧ t.reg K.TP_PASS = s.reg K.TP_PASS ∧ t.reg K.TP_NEXT = s.reg K.TP_NEXT)
    ∧ (s.permitCond = false → t.ensB = { s.ensB with
        permitA := false, permitB := false, fbA := false, fbB := false, forcedDue := false, test := none
        testLow := if s.ensB.test = none then s.ensB.testLow else false, passed := if s.ensB.test = none then none else s.ensB.passed })
    ∧ (s.driveAllowed = true → t.mir = s.mir) ∧ (s.driveAllowed = false → t.mir.driveOn = false ∧ t.mir.integ = 0 ∧ t.mir.holdOn = s.mir.holdOn)
    ∧ t.penn.sticky = s.penn.sticky ∧ t.trg = { s.trg with
        out := s.trg.out && s.capMode && (s.reg K.TRIG_OUT_MODE == 1 || (s.reg K.TRIG_OUT_MODE == 2 && s.reg K.TRIG_STATE == 3))
        slotOut := s.trg.slotOut && s.capMode && s.reg K.SLOT_OUT_MODE != 0
        slotRises := if s.capMode = true ∧ s.reg K.SLOT_OUT_MODE ≠ 0 then s.trg.slotRises else [] }
    ∧ (s.linkEnabled = true ∨ s.reg K.STR_STATE = 0 → t.paths = s.paths ∧ ∀ l, l < 8 → t.reg (K.LANE_MAP l) = s.reg (K.LANE_MAP l))

/-- R81, R86, R89, R118, R196, R258, R384: whatever command a step takes, in the state it leaves no permit is on, no mirror driven, no reservoir charged, no
zone biased, no trigger output high and no link up where the rules forbid it. -/
def Obligations.OutputsStaySafe : Prop :=
  ∀ s t : State, s.outputsSafe = true → step s = .next t → t.outputsSafe = true

/-- R220, R221, R231, R239, R244: the Field Store's memory keeps its canonical form whatever a command does, and whatever a step takes: a granule that is granted, a capture
header, a completion, a DMA move, the copy of a bank, a tick with the slot it ends, an abort of the engines, BOOT and its end. -/
def Obligations.StoreKeepsForm : Prop :=
  (∀ (s t : State) (c : Instr), s.memoryWf = true → exec c s = .next t → t.memoryWf = true) ∧ ∀ s t : State, s.memoryWf = true → step s = .next t → t.memoryWf = true
end

