-- ==== Sys2Proof/Laws/State.lean ====
section
/-! SUPPORT. What each named update does to each field of the state: one lemma per field per update. -/

namespace Sys2Proof.Machine

variable (s : State)

/-! ### put -/

@[simp] theorem State.put_mode (k v : Nat) : (s.put k v).mode = s.mode := rfl
@[simp] theorem State.put_objs (k v : Nat) : (s.put k v).objs = storePut s.objs k v (objDefault k) := rfl
@[simp] theorem State.put_shadow (k v : Nat) : (s.put k v).shadow = s.shadow := rfl
@[simp] theorem State.put_doms (k v : Nat) : (s.put k v).doms = s.doms := rfl
@[simp] theorem State.put_domShadow (k v : Nat) : (s.put k v).domShadow = s.domShadow := rfl
@[simp] theorem State.put_slot (k v : Nat) : (s.put k v).slot = s.slot := rfl
@[simp] theorem State.put_counting (k v : Nat) : (s.put k v).counting = s.counting := rfl
@[simp] theorem State.put_plan (k v : Nat) : (s.put k v).plan = s.plan := rfl
@[simp] theorem State.put_comet (k v : Nat) : (s.put k v).comet = s.comet := rfl
@[simp] theorem State.put_pipe (k v : Nat) : (s.put k v).pipe = s.pipe := rfl
@[simp] theorem State.put_res (k v : Nat) : (s.put k v).res = s.res := rfl
@[simp] theorem State.put_mir (k v : Nat) : (s.put k v).mir = s.mir := rfl
@[simp] theorem State.put_rx (k v : Nat) : (s.put k v).rx = s.rx := rfl
@[simp] theorem State.put_apd (k v : Nat) : (s.put k v).apd = s.apd := rfl
@[simp] theorem State.put_ens (k v : Nat) : (s.put k v).ens = s.ens := rfl
@[simp] theorem State.put_sweep (k v : Nat) : (s.put k v).sweep = s.sweep := rfl
@[simp] theorem State.put_ensB (k v : Nat) : (s.put k v).ensB = s.ensB := rfl
@[simp] theorem State.put_sealed (k v : Nat) : (s.put k v).sealed = s.sealed := rfl
@[simp] theorem State.put_paths (k v : Nat) : (s.put k v).paths = s.paths := rfl
@[simp] theorem State.put_spec (k v : Nat) : (s.put k v).spec = s.spec := rfl
@[simp] theorem State.put_trg (k v : Nat) : (s.put k v).trg = s.trg := rfl
@[simp] theorem State.put_cap (k v : Nat) : (s.put k v).cap = s.cap := rfl
@[simp] theorem State.put_dec (k v : Nat) : (s.put k v).dec = s.dec := rfl
@[simp] theorem State.put_cal (k v : Nat) : (s.put k v).cal = s.cal := rfl
@[simp] theorem State.put_fs (k v : Nat) : (s.put k v).fs = s.fs := rfl
@[simp] theorem State.put_link (k v : Nat) : (s.put k v).link = s.link := rfl
@[simp] theorem State.put_clk (k v : Nat) : (s.put k v).clk = s.clk := rfl
@[simp] theorem State.put_hk (k v : Nat) : (s.put k v).hk = s.hk := rfl
@[simp] theorem State.put_sup (k v : Nat) : (s.put k v).sup = s.sup := rfl
@[simp] theorem State.put_therm (k v : Nat) : (s.put k v).therm = s.therm := rfl
@[simp] theorem State.put_spares (k v : Nat) : (s.put k v).spares = s.spares := rfl
@[simp] theorem State.put_commit (k v : Nat) : (s.put k v).commit = s.commit := rfl
@[simp] theorem State.put_auth (k v : Nat) : (s.put k v).auth = s.auth := rfl
@[simp] theorem State.put_can (k v : Nat) : (s.put k v).can = s.can := rfl
@[simp] theorem State.put_qspi (k v : Nat) : (s.put k v).qspi = s.qspi := rfl
@[simp] theorem State.put_penn (k v : Nat) : (s.put k v).penn = s.penn := rfl
@[simp] theorem State.put_modeSt (k v : Nat) : (s.put k v).modeSt = s.modeSt := rfl
@[simp] theorem State.put_boot (k v : Nat) : (s.put k v).boot = s.boot := rfl
@[simp] theorem State.put_rst (k v : Nat) : (s.put k v).rst = s.rst := rfl
@[simp] theorem State.put_fuses (k v : Nat) : (s.put k v).fuses = s.fuses := rfl
@[simp] theorem State.put_retLog (k v : Nat) : (s.put k v).retLog = s.retLog := rfl
@[simp] theorem State.put_shedTick (k v : Nat) : (s.put k v).shedTick = s.shedTick := rfl
@[simp] theorem State.put_rxTest (k v : Nat) : (s.put k v).rxTest = s.rxTest := rfl
@[simp] theorem State.put_vaoTime (k v : Nat) : (s.put k v).vaoTime = s.vaoTime := rfl
@[simp] theorem State.put_free (k v : Nat) : (s.put k v).free = s.free := rfl
@[simp] theorem State.put_pending (k v : Nat) : (s.put k v).pending = s.pending := rfl

/-! ### putDom -/

@[simp] theorem State.putDom_mode (k : Nat) (b : List Byte) : (s.putDom k b).mode = s.mode := rfl
@[simp] theorem State.putDom_objs (k : Nat) (b : List Byte) : (s.putDom k b).objs = s.objs := rfl
@[simp] theorem State.putDom_shadow (k : Nat) (b : List Byte) : (s.putDom k b).shadow = s.shadow := rfl
@[simp] theorem State.putDom_doms (k : Nat) (b : List Byte) : (s.putDom k b).doms = if b = [] then storeDel s.doms k else storeSet s.doms k b := rfl
@[simp] theorem State.putDom_domShadow (k : Nat) (b : List Byte) : (s.putDom k b).domShadow = s.domShadow := rfl
@[simp] theorem State.putDom_slot (k : Nat) (b : List Byte) : (s.putDom k b).slot = s.slot := rfl
@[simp] theorem State.putDom_counting (k : Nat) (b : List Byte) : (s.putDom k b).counting = s.counting := rfl
@[simp] theorem State.putDom_plan (k : Nat) (b : List Byte) : (s.putDom k b).plan = s.plan := rfl
@[simp] theorem State.putDom_comet (k : Nat) (b : List Byte) : (s.putDom k b).comet = s.comet := rfl
@[simp] theorem State.putDom_pipe (k : Nat) (b : List Byte) : (s.putDom k b).pipe = s.pipe := rfl
@[simp] theorem State.putDom_res (k : Nat) (b : List Byte) : (s.putDom k b).res = s.res := rfl
@[simp] theorem State.putDom_mir (k : Nat) (b : List Byte) : (s.putDom k b).mir = s.mir := rfl
@[simp] theorem State.putDom_rx (k : Nat) (b : List Byte) : (s.putDom k b).rx = s.rx := rfl
@[simp] theorem State.putDom_apd (k : Nat) (b : List Byte) : (s.putDom k b).apd = s.apd := rfl
@[simp] theorem State.putDom_ens (k : Nat) (b : List Byte) : (s.putDom k b).ens = s.ens := rfl
@[simp] theorem State.putDom_sweep (k : Nat) (b : List Byte) : (s.putDom k b).sweep = s.sweep := rfl
@[simp] theorem State.putDom_ensB (k : Nat) (b : List Byte) : (s.putDom k b).ensB = s.ensB := rfl
@[simp] theorem State.putDom_sealed (k : Nat) (b : List Byte) : (s.putDom k b).sealed = s.sealed := rfl
@[simp] theorem State.putDom_paths (k : Nat) (b : List Byte) : (s.putDom k b).paths = s.paths := rfl
@[simp] theorem State.putDom_spec (k : Nat) (b : List Byte) : (s.putDom k b).spec = s.spec := rfl
@[simp] theorem State.putDom_trg (k : Nat) (b : List Byte) : (s.putDom k b).trg = s.trg := rfl
@[simp] theorem State.putDom_cap (k : Nat) (b : List Byte) : (s.putDom k b).cap = s.cap := rfl
@[simp] theorem State.putDom_dec (k : Nat) (b : List Byte) : (s.putDom k b).dec = s.dec := rfl
@[simp] theorem State.putDom_cal (k : Nat) (b : List Byte) : (s.putDom k b).cal = s.cal := rfl
@[simp] theorem State.putDom_fs (k : Nat) (b : List Byte) : (s.putDom k b).fs = s.fs := rfl
@[simp] theorem State.putDom_link (k : Nat) (b : List Byte) : (s.putDom k b).link = s.link := rfl
@[simp] theorem State.putDom_clk (k : Nat) (b : List Byte) : (s.putDom k b).clk = s.clk := rfl
@[simp] theorem State.putDom_hk (k : Nat) (b : List Byte) : (s.putDom k b).hk = s.hk := rfl
@[simp] theorem State.putDom_sup (k : Nat) (b : List Byte) : (s.putDom k b).sup = s.sup := rfl
@[simp] theorem State.putDom_therm (k : Nat) (b : List Byte) : (s.putDom k b).therm = s.therm := rfl
@[simp] theorem State.putDom_spares (k : Nat) (b : List Byte) : (s.putDom k b).spares = s.spares := rfl
@[simp] theorem State.putDom_commit (k : Nat) (b : List Byte) : (s.putDom k b).commit = s.commit := rfl
@[simp] theorem State.putDom_auth (k : Nat) (b : List Byte) : (s.putDom k b).auth = s.auth := rfl
@[simp] theorem State.putDom_can (k : Nat) (b : List Byte) : (s.putDom k b).can = s.can := rfl
@[simp] theorem State.putDom_qspi (k : Nat) (b : List Byte) : (s.putDom k b).qspi = s.qspi := rfl
@[simp] theorem State.putDom_penn (k : Nat) (b : List Byte) : (s.putDom k b).penn = s.penn := rfl
@[simp] theorem State.putDom_modeSt (k : Nat) (b : List Byte) : (s.putDom k b).modeSt = s.modeSt := rfl
@[simp] theorem State.putDom_boot (k : Nat) (b : List Byte) : (s.putDom k b).boot = s.boot := rfl
@[simp] theorem State.putDom_rst (k : Nat) (b : List Byte) : (s.putDom k b).rst = s.rst := rfl
@[simp] theorem State.putDom_fuses (k : Nat) (b : List Byte) : (s.putDom k b).fuses = s.fuses := rfl
@[simp] theorem State.putDom_retLog (k : Nat) (b : List Byte) : (s.putDom k b).retLog = s.retLog := rfl
@[simp] theorem State.putDom_shedTick (k : Nat) (b : List Byte) : (s.putDom k b).shedTick = s.shedTick := rfl
@[simp] theorem State.putDom_rxTest (k : Nat) (b : List Byte) : (s.putDom k b).rxTest = s.rxTest := rfl
@[simp] theorem State.putDom_vaoTime (k : Nat) (b : List Byte) : (s.putDom k b).vaoTime = s.vaoTime := rfl
@[simp] theorem State.putDom_free (k : Nat) (b : List Byte) : (s.putDom k b).free = s.free := rfl
@[simp] theorem State.putDom_pending (k : Nat) (b : List Byte) : (s.putDom k b).pending = s.pending := rfl

/-! ### stick -/

@[simp] theorem State.stick_mode (n : Nat) : (s.stick n).mode = s.mode := rfl
@[simp] theorem State.stick_objs (n : Nat) : (s.stick n).objs = s.objs := rfl
@[simp] theorem State.stick_shadow (n : Nat) : (s.stick n).shadow = s.shadow := rfl
@[simp] theorem State.stick_doms (n : Nat) : (s.stick n).doms = s.doms := rfl
@[simp] theorem State.stick_domShadow (n : Nat) : (s.stick n).domShadow = s.domShadow := rfl
@[simp] theorem State.stick_slot (n : Nat) : (s.stick n).slot = s.slot := rfl
@[simp] theorem State.stick_counting (n : Nat) : (s.stick n).counting = s.counting := rfl
@[simp] theorem State.stick_plan (n : Nat) : (s.stick n).plan = s.plan := rfl
@[simp] theorem State.stick_comet (n : Nat) : (s.stick n).comet = s.comet := rfl
@[simp] theorem State.stick_pipe (n : Nat) : (s.stick n).pipe = s.pipe := rfl
@[simp] theorem State.stick_res (n : Nat) : (s.stick n).res = s.res := rfl
@[simp] theorem State.stick_mir (n : Nat) : (s.stick n).mir = s.mir := rfl
@[simp] theorem State.stick_rx (n : Nat) : (s.stick n).rx = s.rx := rfl
@[simp] theorem State.stick_apd (n : Nat) : (s.stick n).apd = s.apd := rfl
@[simp] theorem State.stick_ens (n : Nat) : (s.stick n).ens = s.ens := rfl
@[simp] theorem State.stick_sweep (n : Nat) : (s.stick n).sweep = s.sweep := rfl
@[simp] theorem State.stick_ensB (n : Nat) : (s.stick n).ensB = s.ensB := rfl
@[simp] theorem State.stick_sealed (n : Nat) : (s.stick n).sealed = s.sealed := rfl
@[simp] theorem State.stick_paths (n : Nat) : (s.stick n).paths = s.paths := rfl
@[simp] theorem State.stick_spec (n : Nat) : (s.stick n).spec = s.spec := rfl
@[simp] theorem State.stick_trg (n : Nat) : (s.stick n).trg = s.trg := rfl
@[simp] theorem State.stick_cap (n : Nat) : (s.stick n).cap = s.cap := rfl
@[simp] theorem State.stick_dec (n : Nat) : (s.stick n).dec = s.dec := rfl
@[simp] theorem State.stick_cal (n : Nat) : (s.stick n).cal = s.cal := rfl
@[simp] theorem State.stick_fs (n : Nat) : (s.stick n).fs = s.fs := rfl
@[simp] theorem State.stick_link (n : Nat) : (s.stick n).link = s.link := rfl
@[simp] theorem State.stick_clk (n : Nat) : (s.stick n).clk = s.clk := rfl
@[simp] theorem State.stick_hk (n : Nat) : (s.stick n).hk = s.hk := rfl
@[simp] theorem State.stick_sup (n : Nat) : (s.stick n).sup = s.sup := rfl
@[simp] theorem State.stick_therm (n : Nat) : (s.stick n).therm = s.therm := rfl
@[simp] theorem State.stick_spares (n : Nat) : (s.stick n).spares = s.spares := rfl
@[simp] theorem State.stick_commit (n : Nat) : (s.stick n).commit = s.commit := rfl
@[simp] theorem State.stick_auth (n : Nat) : (s.stick n).auth = s.auth := rfl
@[simp] theorem State.stick_can (n : Nat) : (s.stick n).can = s.can := rfl
@[simp] theorem State.stick_qspi (n : Nat) : (s.stick n).qspi = s.qspi := rfl
@[simp] theorem State.stick_penn (n : Nat) : (s.stick n).penn = { s.penn with sticky := withBit s.penn.sticky n true } := rfl
@[simp] theorem State.stick_modeSt (n : Nat) : (s.stick n).modeSt = s.modeSt := rfl
@[simp] theorem State.stick_boot (n : Nat) : (s.stick n).boot = s.boot := rfl
@[simp] theorem State.stick_rst (n : Nat) : (s.stick n).rst = s.rst := rfl
@[simp] theorem State.stick_fuses (n : Nat) : (s.stick n).fuses = s.fuses := rfl
@[simp] theorem State.stick_retLog (n : Nat) : (s.stick n).retLog = s.retLog := rfl
@[simp] theorem State.stick_shedTick (n : Nat) : (s.stick n).shedTick = s.shedTick := rfl
@[simp] theorem State.stick_rxTest (n : Nat) : (s.stick n).rxTest = s.rxTest := rfl
@[simp] theorem State.stick_vaoTime (n : Nat) : (s.stick n).vaoTime = s.vaoTime := rfl
@[simp] theorem State.stick_free (n : Nat) : (s.stick n).free = s.free := rfl
@[simp] theorem State.stick_pending (n : Nat) : (s.stick n).pending = s.pending := rfl

/-! ### withPending -/

@[simp] theorem State.withPending_mode (q : List Instr) : (s.withPending q).mode = s.mode := rfl
@[simp] theorem State.withPending_objs (q : List Instr) : (s.withPending q).objs = s.objs := rfl
@[simp] theorem State.withPending_shadow (q : List Instr) : (s.withPending q).shadow = s.shadow := rfl
@[simp] theorem State.withPending_doms (q : List Instr) : (s.withPending q).doms = s.doms := rfl
@[simp] theorem State.withPending_domShadow (q : List Instr) : (s.withPending q).domShadow = s.domShadow := rfl
@[simp] theorem State.withPending_slot (q : List Instr) : (s.withPending q).slot = s.slot := rfl
@[simp] theorem State.withPending_counting (q : List Instr) : (s.withPending q).counting = s.counting := rfl
@[simp] theorem State.withPending_plan (q : List Instr) : (s.withPending q).plan = s.plan := rfl
@[simp] theorem State.withPending_comet (q : List Instr) : (s.withPending q).comet = s.comet := rfl
@[simp] theorem State.withPending_pipe (q : List Instr) : (s.withPending q).pipe = s.pipe := rfl
@[simp] theorem State.withPending_res (q : List Instr) : (s.withPending q).res = s.res := rfl
@[simp] theorem State.withPending_mir (q : List Instr) : (s.withPending q).mir = s.mir := rfl
@[simp] theorem State.withPending_rx (q : List Instr) : (s.withPending q).rx = s.rx := rfl
@[simp] theorem State.withPending_apd (q : List Instr) : (s.withPending q).apd = s.apd := rfl
@[simp] theorem State.withPending_ens (q : List Instr) : (s.withPending q).ens = s.ens := rfl
@[simp] theorem State.withPending_sweep (q : List Instr) : (s.withPending q).sweep = s.sweep := rfl
@[simp] theorem State.withPending_ensB (q : List Instr) : (s.withPending q).ensB = s.ensB := rfl
@[simp] theorem State.withPending_sealed (q : List Instr) : (s.withPending q).sealed = s.sealed := rfl
@[simp] theorem State.withPending_paths (q : List Instr) : (s.withPending q).paths = s.paths := rfl
@[simp] theorem State.withPending_spec (q : List Instr) : (s.withPending q).spec = s.spec := rfl
@[simp] theorem State.withPending_trg (q : List Instr) : (s.withPending q).trg = s.trg := rfl
@[simp] theorem State.withPending_cap (q : List Instr) : (s.withPending q).cap = s.cap := rfl
@[simp] theorem State.withPending_dec (q : List Instr) : (s.withPending q).dec = s.dec := rfl
@[simp] theorem State.withPending_cal (q : List Instr) : (s.withPending q).cal = s.cal := rfl
@[simp] theorem State.withPending_fs (q : List Instr) : (s.withPending q).fs = s.fs := rfl
@[simp] theorem State.withPending_link (q : List Instr) : (s.withPending q).link = s.link := rfl
@[simp] theorem State.withPending_clk (q : List Instr) : (s.withPending q).clk = s.clk := rfl
@[simp] theorem State.withPending_hk (q : List Instr) : (s.withPending q).hk = s.hk := rfl
@[simp] theorem State.withPending_sup (q : List Instr) : (s.withPending q).sup = s.sup := rfl
@[simp] theorem State.withPending_therm (q : List Instr) : (s.withPending q).therm = s.therm := rfl
@[simp] theorem State.withPending_spares (q : List Instr) : (s.withPending q).spares = s.spares := rfl
@[simp] theorem State.withPending_commit (q : List Instr) : (s.withPending q).commit = s.commit := rfl
@[simp] theorem State.withPending_auth (q : List Instr) : (s.withPending q).auth = s.auth := rfl
@[simp] theorem State.withPending_can (q : List Instr) : (s.withPending q).can = s.can := rfl
@[simp] theorem State.withPending_qspi (q : List Instr) : (s.withPending q).qspi = s.qspi := rfl
@[simp] theorem State.withPending_penn (q : List Instr) : (s.withPending q).penn = s.penn := rfl
@[simp] theorem State.withPending_modeSt (q : List Instr) : (s.withPending q).modeSt = s.modeSt := rfl
@[simp] theorem State.withPending_boot (q : List Instr) : (s.withPending q).boot = s.boot := rfl
@[simp] theorem State.withPending_rst (q : List Instr) : (s.withPending q).rst = s.rst := rfl
@[simp] theorem State.withPending_fuses (q : List Instr) : (s.withPending q).fuses = s.fuses := rfl
@[simp] theorem State.withPending_retLog (q : List Instr) : (s.withPending q).retLog = s.retLog := rfl
@[simp] theorem State.withPending_shedTick (q : List Instr) : (s.withPending q).shedTick = s.shedTick := rfl
@[simp] theorem State.withPending_rxTest (q : List Instr) : (s.withPending q).rxTest = s.rxTest := rfl
@[simp] theorem State.withPending_vaoTime (q : List Instr) : (s.withPending q).vaoTime = s.vaoTime := rfl
@[simp] theorem State.withPending_free (q : List Instr) : (s.withPending q).free = s.free := rfl
@[simp] theorem State.withPending_pending (q : List Instr) : (s.withPending q).pending = q := rfl

/-! ### setPath -/

@[simp] theorem State.setPath_mode (p : Path) (x : PathState) : (s.setPath p x).mode = s.mode := rfl
@[simp] theorem State.setPath_objs (p : Path) (x : PathState) : (s.setPath p x).objs = s.objs := rfl
@[simp] theorem State.setPath_shadow (p : Path) (x : PathState) : (s.setPath p x).shadow = s.shadow := rfl
@[simp] theorem State.setPath_doms (p : Path) (x : PathState) : (s.setPath p x).doms = s.doms := rfl
@[simp] theorem State.setPath_domShadow (p : Path) (x : PathState) : (s.setPath p x).domShadow = s.domShadow := rfl
@[simp] theorem State.setPath_slot (p : Path) (x : PathState) : (s.setPath p x).slot = s.slot := rfl
@[simp] theorem State.setPath_counting (p : Path) (x : PathState) : (s.setPath p x).counting = s.counting := rfl
@[simp] theorem State.setPath_plan (p : Path) (x : PathState) : (s.setPath p x).plan = s.plan := rfl
@[simp] theorem State.setPath_comet (p : Path) (x : PathState) : (s.setPath p x).comet = s.comet := rfl
@[simp] theorem State.setPath_pipe (p : Path) (x : PathState) : (s.setPath p x).pipe = s.pipe := rfl
@[simp] theorem State.setPath_res (p : Path) (x : PathState) : (s.setPath p x).res = s.res := rfl
@[simp] theorem State.setPath_mir (p : Path) (x : PathState) : (s.setPath p x).mir = s.mir := rfl
@[simp] theorem State.setPath_rx (p : Path) (x : PathState) : (s.setPath p x).rx = s.rx := rfl
@[simp] theorem State.setPath_apd (p : Path) (x : PathState) : (s.setPath p x).apd = s.apd := rfl
@[simp] theorem State.setPath_ens (p : Path) (x : PathState) : (s.setPath p x).ens = s.ens := rfl
@[simp] theorem State.setPath_sweep (p : Path) (x : PathState) : (s.setPath p x).sweep = s.sweep := rfl
@[simp] theorem State.setPath_ensB (p : Path) (x : PathState) : (s.setPath p x).ensB = s.ensB := rfl
@[simp] theorem State.setPath_sealed (p : Path) (x : PathState) : (s.setPath p x).sealed = s.sealed := rfl
@[simp] theorem State.setPath_paths (p : Path) (x : PathState) : (s.setPath p x).paths = setAt {} s.paths p.num x := rfl
@[simp] theorem State.setPath_spec (p : Path) (x : PathState) : (s.setPath p x).spec = s.spec := rfl
@[simp] theorem State.setPath_trg (p : Path) (x : PathState) : (s.setPath p x).trg = s.trg := rfl
@[simp] theorem State.setPath_cap (p : Path) (x : PathState) : (s.setPath p x).cap = s.cap := rfl
@[simp] theorem State.setPath_dec (p : Path) (x : PathState) : (s.setPath p x).dec = s.dec := rfl
@[simp] theorem State.setPath_cal (p : Path) (x : PathState) : (s.setPath p x).cal = s.cal := rfl
@[simp] theorem State.setPath_fs (p : Path) (x : PathState) : (s.setPath p x).fs = s.fs := rfl
@[simp] theorem State.setPath_link (p : Path) (x : PathState) : (s.setPath p x).link = s.link := rfl
@[simp] theorem State.setPath_clk (p : Path) (x : PathState) : (s.setPath p x).clk = s.clk := rfl
@[simp] theorem State.setPath_hk (p : Path) (x : PathState) : (s.setPath p x).hk = s.hk := rfl
@[simp] theorem State.setPath_sup (p : Path) (x : PathState) : (s.setPath p x).sup = s.sup := rfl
@[simp] theorem State.setPath_therm (p : Path) (x : PathState) : (s.setPath p x).therm = s.therm := rfl
@[simp] theorem State.setPath_spares (p : Path) (x : PathState) : (s.setPath p x).spares = s.spares := rfl
@[simp] theorem State.setPath_commit (p : Path) (x : PathState) : (s.setPath p x).commit = s.commit := rfl
@[simp] theorem State.setPath_auth (p : Path) (x : PathState) : (s.setPath p x).auth = s.auth := rfl
@[simp] theorem State.setPath_can (p : Path) (x : PathState) : (s.setPath p x).can = s.can := rfl
@[simp] theorem State.setPath_qspi (p : Path) (x : PathState) : (s.setPath p x).qspi = s.qspi := rfl
@[simp] theorem State.setPath_penn (p : Path) (x : PathState) : (s.setPath p x).penn = s.penn := rfl
@[simp] theorem State.setPath_modeSt (p : Path) (x : PathState) : (s.setPath p x).modeSt = s.modeSt := rfl
@[simp] theorem State.setPath_boot (p : Path) (x : PathState) : (s.setPath p x).boot = s.boot := rfl
@[simp] theorem State.setPath_rst (p : Path) (x : PathState) : (s.setPath p x).rst = s.rst := rfl
@[simp] theorem State.setPath_fuses (p : Path) (x : PathState) : (s.setPath p x).fuses = s.fuses := rfl
@[simp] theorem State.setPath_retLog (p : Path) (x : PathState) : (s.setPath p x).retLog = s.retLog := rfl
@[simp] theorem State.setPath_shedTick (p : Path) (x : PathState) : (s.setPath p x).shedTick = s.shedTick := rfl
@[simp] theorem State.setPath_rxTest (p : Path) (x : PathState) : (s.setPath p x).rxTest = s.rxTest := rfl
@[simp] theorem State.setPath_vaoTime (p : Path) (x : PathState) : (s.setPath p x).vaoTime = s.vaoTime := rfl
@[simp] theorem State.setPath_free (p : Path) (x : PathState) : (s.setPath p x).free = s.free := rfl
@[simp] theorem State.setPath_pending (p : Path) (x : PathState) : (s.setPath p x).pending = s.pending := rfl

/-! ### setCan -/

@[simp] theorem State.setCan_mode (i : Nat) (c : CanCtl) : (s.setCan i c).mode = s.mode := rfl
@[simp] theorem State.setCan_objs (i : Nat) (c : CanCtl) : (s.setCan i c).objs = s.objs := rfl
@[simp] theorem State.setCan_shadow (i : Nat) (c : CanCtl) : (s.setCan i c).shadow = s.shadow := rfl
@[simp] theorem State.setCan_doms (i : Nat) (c : CanCtl) : (s.setCan i c).doms = s.doms := rfl
@[simp] theorem State.setCan_domShadow (i : Nat) (c : CanCtl) : (s.setCan i c).domShadow = s.domShadow := rfl
@[simp] theorem State.setCan_slot (i : Nat) (c : CanCtl) : (s.setCan i c).slot = s.slot := rfl
@[simp] theorem State.setCan_counting (i : Nat) (c : CanCtl) : (s.setCan i c).counting = s.counting := rfl
@[simp] theorem State.setCan_plan (i : Nat) (c : CanCtl) : (s.setCan i c).plan = s.plan := rfl
@[simp] theorem State.setCan_comet (i : Nat) (c : CanCtl) : (s.setCan i c).comet = s.comet := rfl
@[simp] theorem State.setCan_pipe (i : Nat) (c : CanCtl) : (s.setCan i c).pipe = s.pipe := rfl
@[simp] theorem State.setCan_res (i : Nat) (c : CanCtl) : (s.setCan i c).res = s.res := rfl
@[simp] theorem State.setCan_mir (i : Nat) (c : CanCtl) : (s.setCan i c).mir = s.mir := rfl
@[simp] theorem State.setCan_rx (i : Nat) (c : CanCtl) : (s.setCan i c).rx = s.rx := rfl
@[simp] theorem State.setCan_apd (i : Nat) (c : CanCtl) : (s.setCan i c).apd = s.apd := rfl
@[simp] theorem State.setCan_ens (i : Nat) (c : CanCtl) : (s.setCan i c).ens = s.ens := rfl
@[simp] theorem State.setCan_sweep (i : Nat) (c : CanCtl) : (s.setCan i c).sweep = s.sweep := rfl
@[simp] theorem State.setCan_ensB (i : Nat) (c : CanCtl) : (s.setCan i c).ensB = s.ensB := rfl
@[simp] theorem State.setCan_sealed (i : Nat) (c : CanCtl) : (s.setCan i c).sealed = s.sealed := rfl
@[simp] theorem State.setCan_paths (i : Nat) (c : CanCtl) : (s.setCan i c).paths = s.paths := rfl
@[simp] theorem State.setCan_spec (i : Nat) (c : CanCtl) : (s.setCan i c).spec = s.spec := rfl
@[simp] theorem State.setCan_trg (i : Nat) (c : CanCtl) : (s.setCan i c).trg = s.trg := rfl
@[simp] theorem State.setCan_cap (i : Nat) (c : CanCtl) : (s.setCan i c).cap = s.cap := rfl
@[simp] theorem State.setCan_dec (i : Nat) (c : CanCtl) : (s.setCan i c).dec = s.dec := rfl
@[simp] theorem State.setCan_cal (i : Nat) (c : CanCtl) : (s.setCan i c).cal = s.cal := rfl
@[simp] theorem State.setCan_fs (i : Nat) (c : CanCtl) : (s.setCan i c).fs = s.fs := rfl
@[simp] theorem State.setCan_link (i : Nat) (c : CanCtl) : (s.setCan i c).link = s.link := rfl
@[simp] theorem State.setCan_clk (i : Nat) (c : CanCtl) : (s.setCan i c).clk = s.clk := rfl
@[simp] theorem State.setCan_hk (i : Nat) (c : CanCtl) : (s.setCan i c).hk = s.hk := rfl
@[simp] theorem State.setCan_sup (i : Nat) (c : CanCtl) : (s.setCan i c).sup = s.sup := rfl
@[simp] theorem State.setCan_therm (i : Nat) (c : CanCtl) : (s.setCan i c).therm = s.therm := rfl
@[simp] theorem State.setCan_spares (i : Nat) (c : CanCtl) : (s.setCan i c).spares = s.spares := rfl
@[simp] theorem State.setCan_commit (i : Nat) (c : CanCtl) : (s.setCan i c).commit = s.commit := rfl
@[simp] theorem State.setCan_auth (i : Nat) (c : CanCtl) : (s.setCan i c).auth = s.auth := rfl
@[simp] theorem State.setCan_can (i : Nat) (c : CanCtl) : (s.setCan i c).can = setAt {} s.can i c := rfl
@[simp] theorem State.setCan_qspi (i : Nat) (c : CanCtl) : (s.setCan i c).qspi = s.qspi := rfl
@[simp] theorem State.setCan_penn (i : Nat) (c : CanCtl) : (s.setCan i c).penn = s.penn := rfl
@[simp] theorem State.setCan_modeSt (i : Nat) (c : CanCtl) : (s.setCan i c).modeSt = s.modeSt := rfl
@[simp] theorem State.setCan_boot (i : Nat) (c : CanCtl) : (s.setCan i c).boot = s.boot := rfl
@[simp] theorem State.setCan_rst (i : Nat) (c : CanCtl) : (s.setCan i c).rst = s.rst := rfl
@[simp] theorem State.setCan_fuses (i : Nat) (c : CanCtl) : (s.setCan i c).fuses = s.fuses := rfl
@[simp] theorem State.setCan_retLog (i : Nat) (c : CanCtl) : (s.setCan i c).retLog = s.retLog := rfl
@[simp] theorem State.setCan_shedTick (i : Nat) (c : CanCtl) : (s.setCan i c).shedTick = s.shedTick := rfl
@[simp] theorem State.setCan_rxTest (i : Nat) (c : CanCtl) : (s.setCan i c).rxTest = s.rxTest := rfl
@[simp] theorem State.setCan_vaoTime (i : Nat) (c : CanCtl) : (s.setCan i c).vaoTime = s.vaoTime := rfl
@[simp] theorem State.setCan_free (i : Nat) (c : CanCtl) : (s.setCan i c).free = s.free := rfl
@[simp] theorem State.setCan_pending (i : Nat) (c : CanCtl) : (s.setCan i c).pending = s.pending := rfl

/-! ### setPlan -/

@[simp] theorem State.setPlan_mode (x : PlanStore) : (s.setPlan x).mode = s.mode := rfl
@[simp] theorem State.setPlan_objs (x : PlanStore) : (s.setPlan x).objs = s.objs := rfl
@[simp] theorem State.setPlan_shadow (x : PlanStore) : (s.setPlan x).shadow = s.shadow := rfl
@[simp] theorem State.setPlan_doms (x : PlanStore) : (s.setPlan x).doms = s.doms := rfl
@[simp] theorem State.setPlan_domShadow (x : PlanStore) : (s.setPlan x).domShadow = s.domShadow := rfl
@[simp] theorem State.setPlan_slot (x : PlanStore) : (s.setPlan x).slot = s.slot := rfl
@[simp] theorem State.setPlan_counting (x : PlanStore) : (s.setPlan x).counting = s.counting := rfl
@[simp] theorem State.setPlan_plan (x : PlanStore) : (s.setPlan x).plan = x := rfl
@[simp] theorem State.setPlan_comet (x : PlanStore) : (s.setPlan x).comet = s.comet := rfl
@[simp] theorem State.setPlan_pipe (x : PlanStore) : (s.setPlan x).pipe = s.pipe := rfl
@[simp] theorem State.setPlan_res (x : PlanStore) : (s.setPlan x).res = s.res := rfl
@[simp] theorem State.setPlan_mir (x : PlanStore) : (s.setPlan x).mir = s.mir := rfl
@[simp] theorem State.setPlan_rx (x : PlanStore) : (s.setPlan x).rx = s.rx := rfl
@[simp] theorem State.setPlan_apd (x : PlanStore) : (s.setPlan x).apd = s.apd := rfl
@[simp] theorem State.setPlan_ens (x : PlanStore) : (s.setPlan x).ens = s.ens := rfl
@[simp] theorem State.setPlan_sweep (x : PlanStore) : (s.setPlan x).sweep = s.sweep := rfl
@[simp] theorem State.setPlan_ensB (x : PlanStore) : (s.setPlan x).ensB = s.ensB := rfl
@[simp] theorem State.setPlan_sealed (x : PlanStore) : (s.setPlan x).sealed = s.sealed := rfl
@[simp] theorem State.setPlan_paths (x : PlanStore) : (s.setPlan x).paths = s.paths := rfl
@[simp] theorem State.setPlan_spec (x : PlanStore) : (s.setPlan x).spec = s.spec := rfl
@[simp] theorem State.setPlan_trg (x : PlanStore) : (s.setPlan x).trg = s.trg := rfl
@[simp] theorem State.setPlan_cap (x : PlanStore) : (s.setPlan x).cap = s.cap := rfl
@[simp] theorem State.setPlan_dec (x : PlanStore) : (s.setPlan x).dec = s.dec := rfl
@[simp] theorem State.setPlan_cal (x : PlanStore) : (s.setPlan x).cal = s.cal := rfl
@[simp] theorem State.setPlan_fs (x : PlanStore) : (s.setPlan x).fs = s.fs := rfl
@[simp] theorem State.setPlan_link (x : PlanStore) : (s.setPlan x).link = s.link := rfl
@[simp] theorem State.setPlan_clk (x : PlanStore) : (s.setPlan x).clk = s.clk := rfl
@[simp] theorem State.setPlan_hk (x : PlanStore) : (s.setPlan x).hk = s.hk := rfl
@[simp] theorem State.setPlan_sup (x : PlanStore) : (s.setPlan x).sup = s.sup := rfl
@[simp] theorem State.setPlan_therm (x : PlanStore) : (s.setPlan x).therm = s.therm := rfl
@[simp] theorem State.setPlan_spares (x : PlanStore) : (s.setPlan x).spares = s.spares := rfl
@[simp] theorem State.setPlan_commit (x : PlanStore) : (s.setPlan x).commit = s.commit := rfl
@[simp] theorem State.setPlan_auth (x : PlanStore) : (s.setPlan x).auth = s.auth := rfl
@[simp] theorem State.setPlan_can (x : PlanStore) : (s.setPlan x).can = s.can := rfl
@[simp] theorem State.setPlan_qspi (x : PlanStore) : (s.setPlan x).qspi = s.qspi := rfl
@[simp] theorem State.setPlan_penn (x : PlanStore) : (s.setPlan x).penn = s.penn := rfl
@[simp] theorem State.setPlan_modeSt (x : PlanStore) : (s.setPlan x).modeSt = s.modeSt := rfl
@[simp] theorem State.setPlan_boot (x : PlanStore) : (s.setPlan x).boot = s.boot := rfl
@[simp] theorem State.setPlan_rst (x : PlanStore) : (s.setPlan x).rst = s.rst := rfl
@[simp] theorem State.setPlan_fuses (x : PlanStore) : (s.setPlan x).fuses = s.fuses := rfl
@[simp] theorem State.setPlan_retLog (x : PlanStore) : (s.setPlan x).retLog = s.retLog := rfl
@[simp] theorem State.setPlan_shedTick (x : PlanStore) : (s.setPlan x).shedTick = s.shedTick := rfl
@[simp] theorem State.setPlan_rxTest (x : PlanStore) : (s.setPlan x).rxTest = s.rxTest := rfl
@[simp] theorem State.setPlan_vaoTime (x : PlanStore) : (s.setPlan x).vaoTime = s.vaoTime := rfl
@[simp] theorem State.setPlan_free (x : PlanStore) : (s.setPlan x).free = s.free := rfl
@[simp] theorem State.setPlan_pending (x : PlanStore) : (s.setPlan x).pending = s.pending := rfl

/-! ### setComet -/

@[simp] theorem State.setComet_mode (x : Comet) : (s.setComet x).mode = s.mode := rfl
@[simp] theorem State.setComet_objs (x : Comet) : (s.setComet x).objs = s.objs := rfl
@[simp] theorem State.setComet_shadow (x : Comet) : (s.setComet x).shadow = s.shadow := rfl
@[simp] theorem State.setComet_doms (x : Comet) : (s.setComet x).doms = s.doms := rfl
@[simp] theorem State.setComet_domShadow (x : Comet) : (s.setComet x).domShadow = s.domShadow := rfl
@[simp] theorem State.setComet_slot (x : Comet) : (s.setComet x).slot = s.slot := rfl
@[simp] theorem State.setComet_counting (x : Comet) : (s.setComet x).counting = s.counting := rfl
@[simp] theorem State.setComet_plan (x : Comet) : (s.setComet x).plan = s.plan := rfl
@[simp] theorem State.setComet_comet (x : Comet) : (s.setComet x).comet = x := rfl
@[simp] theorem State.setComet_pipe (x : Comet) : (s.setComet x).pipe = s.pipe := rfl
@[simp] theorem State.setComet_res (x : Comet) : (s.setComet x).res = s.res := rfl
@[simp] theorem State.setComet_mir (x : Comet) : (s.setComet x).mir = s.mir := rfl
@[simp] theorem State.setComet_rx (x : Comet) : (s.setComet x).rx = s.rx := rfl
@[simp] theorem State.setComet_apd (x : Comet) : (s.setComet x).apd = s.apd := rfl
@[simp] theorem State.setComet_ens (x : Comet) : (s.setComet x).ens = s.ens := rfl
@[simp] theorem State.setComet_sweep (x : Comet) : (s.setComet x).sweep = s.sweep := rfl
@[simp] theorem State.setComet_ensB (x : Comet) : (s.setComet x).ensB = s.ensB := rfl
@[simp] theorem State.setComet_sealed (x : Comet) : (s.setComet x).sealed = s.sealed := rfl
@[simp] theorem State.setComet_paths (x : Comet) : (s.setComet x).paths = s.paths := rfl
@[simp] theorem State.setComet_spec (x : Comet) : (s.setComet x).spec = s.spec := rfl
@[simp] theorem State.setComet_trg (x : Comet) : (s.setComet x).trg = s.trg := rfl
@[simp] theorem State.setComet_cap (x : Comet) : (s.setComet x).cap = s.cap := rfl
@[simp] theorem State.setComet_dec (x : Comet) : (s.setComet x).dec = s.dec := rfl
@[simp] theorem State.setComet_cal (x : Comet) : (s.setComet x).cal = s.cal := rfl
@[simp] theorem State.setComet_fs (x : Comet) : (s.setComet x).fs = s.fs := rfl
@[simp] theorem State.setComet_link (x : Comet) : (s.setComet x).link = s.link := rfl
@[simp] theorem State.setComet_clk (x : Comet) : (s.setComet x).clk = s.clk := rfl
@[simp] theorem State.setComet_hk (x : Comet) : (s.setComet x).hk = s.hk := rfl
@[simp] theorem State.setComet_sup (x : Comet) : (s.setComet x).sup = s.sup := rfl
@[simp] theorem State.setComet_therm (x : Comet) : (s.setComet x).therm = s.therm := rfl
@[simp] theorem State.setComet_spares (x : Comet) : (s.setComet x).spares = s.spares := rfl
@[simp] theorem State.setComet_commit (x : Comet) : (s.setComet x).commit = s.commit := rfl
@[simp] theorem State.setComet_auth (x : Comet) : (s.setComet x).auth = s.auth := rfl
@[simp] theorem State.setComet_can (x : Comet) : (s.setComet x).can = s.can := rfl
@[simp] theorem State.setComet_qspi (x : Comet) : (s.setComet x).qspi = s.qspi := rfl
@[simp] theorem State.setComet_penn (x : Comet) : (s.setComet x).penn = s.penn := rfl
@[simp] theorem State.setComet_modeSt (x : Comet) : (s.setComet x).modeSt = s.modeSt := rfl
@[simp] theorem State.setComet_boot (x : Comet) : (s.setComet x).boot = s.boot := rfl
@[simp] theorem State.setComet_rst (x : Comet) : (s.setComet x).rst = s.rst := rfl
@[simp] theorem State.setComet_fuses (x : Comet) : (s.setComet x).fuses = s.fuses := rfl
@[simp] theorem State.setComet_retLog (x : Comet) : (s.setComet x).retLog = s.retLog := rfl
@[simp] theorem State.setComet_shedTick (x : Comet) : (s.setComet x).shedTick = s.shedTick := rfl
@[simp] theorem State.setComet_rxTest (x : Comet) : (s.setComet x).rxTest = s.rxTest := rfl
@[simp] theorem State.setComet_vaoTime (x : Comet) : (s.setComet x).vaoTime = s.vaoTime := rfl
@[simp] theorem State.setComet_free (x : Comet) : (s.setComet x).free = s.free := rfl
@[simp] theorem State.setComet_pending (x : Comet) : (s.setComet x).pending = s.pending := rfl

/-! ### setTrg -/

@[simp] theorem State.setTrg_mode (x : Trig) : (s.setTrg x).mode = s.mode := rfl
@[simp] theorem State.setTrg_objs (x : Trig) : (s.setTrg x).objs = s.objs := rfl
@[simp] theorem State.setTrg_shadow (x : Trig) : (s.setTrg x).shadow = s.shadow := rfl
@[simp] theorem State.setTrg_doms (x : Trig) : (s.setTrg x).doms = s.doms := rfl
@[simp] theorem State.setTrg_domShadow (x : Trig) : (s.setTrg x).domShadow = s.domShadow := rfl
@[simp] theorem State.setTrg_slot (x : Trig) : (s.setTrg x).slot = s.slot := rfl
@[simp] theorem State.setTrg_counting (x : Trig) : (s.setTrg x).counting = s.counting := rfl
@[simp] theorem State.setTrg_plan (x : Trig) : (s.setTrg x).plan = s.plan := rfl
@[simp] theorem State.setTrg_comet (x : Trig) : (s.setTrg x).comet = s.comet := rfl
@[simp] theorem State.setTrg_pipe (x : Trig) : (s.setTrg x).pipe = s.pipe := rfl
@[simp] theorem State.setTrg_res (x : Trig) : (s.setTrg x).res = s.res := rfl
@[simp] theorem State.setTrg_mir (x : Trig) : (s.setTrg x).mir = s.mir := rfl
@[simp] theorem State.setTrg_rx (x : Trig) : (s.setTrg x).rx = s.rx := rfl
@[simp] theorem State.setTrg_apd (x : Trig) : (s.setTrg x).apd = s.apd := rfl
@[simp] theorem State.setTrg_ens (x : Trig) : (s.setTrg x).ens = s.ens := rfl
@[simp] theorem State.setTrg_sweep (x : Trig) : (s.setTrg x).sweep = s.sweep := rfl
@[simp] theorem State.setTrg_ensB (x : Trig) : (s.setTrg x).ensB = s.ensB := rfl
@[simp] theorem State.setTrg_sealed (x : Trig) : (s.setTrg x).sealed = s.sealed := rfl
@[simp] theorem State.setTrg_paths (x : Trig) : (s.setTrg x).paths = s.paths := rfl
@[simp] theorem State.setTrg_spec (x : Trig) : (s.setTrg x).spec = s.spec := rfl
@[simp] theorem State.setTrg_trg (x : Trig) : (s.setTrg x).trg = x := rfl
@[simp] theorem State.setTrg_cap (x : Trig) : (s.setTrg x).cap = s.cap := rfl
@[simp] theorem State.setTrg_dec (x : Trig) : (s.setTrg x).dec = s.dec := rfl
@[simp] theorem State.setTrg_cal (x : Trig) : (s.setTrg x).cal = s.cal := rfl
@[simp] theorem State.setTrg_fs (x : Trig) : (s.setTrg x).fs = s.fs := rfl
@[simp] theorem State.setTrg_link (x : Trig) : (s.setTrg x).link = s.link := rfl
@[simp] theorem State.setTrg_clk (x : Trig) : (s.setTrg x).clk = s.clk := rfl
@[simp] theorem State.setTrg_hk (x : Trig) : (s.setTrg x).hk = s.hk := rfl
@[simp] theorem State.setTrg_sup (x : Trig) : (s.setTrg x).sup = s.sup := rfl
@[simp] theorem State.setTrg_therm (x : Trig) : (s.setTrg x).therm = s.therm := rfl
@[simp] theorem State.setTrg_spares (x : Trig) : (s.setTrg x).spares = s.spares := rfl
@[simp] theorem State.setTrg_commit (x : Trig) : (s.setTrg x).commit = s.commit := rfl
@[simp] theorem State.setTrg_auth (x : Trig) : (s.setTrg x).auth = s.auth := rfl
@[simp] theorem State.setTrg_can (x : Trig) : (s.setTrg x).can = s.can := rfl
@[simp] theorem State.setTrg_qspi (x : Trig) : (s.setTrg x).qspi = s.qspi := rfl
@[simp] theorem State.setTrg_penn (x : Trig) : (s.setTrg x).penn = s.penn := rfl
@[simp] theorem State.setTrg_modeSt (x : Trig) : (s.setTrg x).modeSt = s.modeSt := rfl
@[simp] theorem State.setTrg_boot (x : Trig) : (s.setTrg x).boot = s.boot := rfl
@[simp] theorem State.setTrg_rst (x : Trig) : (s.setTrg x).rst = s.rst := rfl
@[simp] theorem State.setTrg_fuses (x : Trig) : (s.setTrg x).fuses = s.fuses := rfl
@[simp] theorem State.setTrg_retLog (x : Trig) : (s.setTrg x).retLog = s.retLog := rfl
@[simp] theorem State.setTrg_shedTick (x : Trig) : (s.setTrg x).shedTick = s.shedTick := rfl
@[simp] theorem State.setTrg_rxTest (x : Trig) : (s.setTrg x).rxTest = s.rxTest := rfl
@[simp] theorem State.setTrg_vaoTime (x : Trig) : (s.setTrg x).vaoTime = s.vaoTime := rfl
@[simp] theorem State.setTrg_free (x : Trig) : (s.setTrg x).free = s.free := rfl
@[simp] theorem State.setTrg_pending (x : Trig) : (s.setTrg x).pending = s.pending := rfl

/-! ### setCap -/

@[simp] theorem State.setCap_mode (x : Capture) : (s.setCap x).mode = s.mode := rfl
@[simp] theorem State.setCap_objs (x : Capture) : (s.setCap x).objs = s.objs := rfl
@[simp] theorem State.setCap_shadow (x : Capture) : (s.setCap x).shadow = s.shadow := rfl
@[simp] theorem State.setCap_doms (x : Capture) : (s.setCap x).doms = s.doms := rfl
@[simp] theorem State.setCap_domShadow (x : Capture) : (s.setCap x).domShadow = s.domShadow := rfl
@[simp] theorem State.setCap_slot (x : Capture) : (s.setCap x).slot = s.slot := rfl
@[simp] theorem State.setCap_counting (x : Capture) : (s.setCap x).counting = s.counting := rfl
@[simp] theorem State.setCap_plan (x : Capture) : (s.setCap x).plan = s.plan := rfl
@[simp] theorem State.setCap_comet (x : Capture) : (s.setCap x).comet = s.comet := rfl
@[simp] theorem State.setCap_pipe (x : Capture) : (s.setCap x).pipe = s.pipe := rfl
@[simp] theorem State.setCap_res (x : Capture) : (s.setCap x).res = s.res := rfl
@[simp] theorem State.setCap_mir (x : Capture) : (s.setCap x).mir = s.mir := rfl
@[simp] theorem State.setCap_rx (x : Capture) : (s.setCap x).rx = s.rx := rfl
@[simp] theorem State.setCap_apd (x : Capture) : (s.setCap x).apd = s.apd := rfl
@[simp] theorem State.setCap_ens (x : Capture) : (s.setCap x).ens = s.ens := rfl
@[simp] theorem State.setCap_sweep (x : Capture) : (s.setCap x).sweep = s.sweep := rfl
@[simp] theorem State.setCap_ensB (x : Capture) : (s.setCap x).ensB = s.ensB := rfl
@[simp] theorem State.setCap_sealed (x : Capture) : (s.setCap x).sealed = s.sealed := rfl
@[simp] theorem State.setCap_paths (x : Capture) : (s.setCap x).paths = s.paths := rfl
@[simp] theorem State.setCap_spec (x : Capture) : (s.setCap x).spec = s.spec := rfl
@[simp] theorem State.setCap_trg (x : Capture) : (s.setCap x).trg = s.trg := rfl
@[simp] theorem State.setCap_cap (x : Capture) : (s.setCap x).cap = x := rfl
@[simp] theorem State.setCap_dec (x : Capture) : (s.setCap x).dec = s.dec := rfl
@[simp] theorem State.setCap_cal (x : Capture) : (s.setCap x).cal = s.cal := rfl
@[simp] theorem State.setCap_fs (x : Capture) : (s.setCap x).fs = s.fs := rfl
@[simp] theorem State.setCap_link (x : Capture) : (s.setCap x).link = s.link := rfl
@[simp] theorem State.setCap_clk (x : Capture) : (s.setCap x).clk = s.clk := rfl
@[simp] theorem State.setCap_hk (x : Capture) : (s.setCap x).hk = s.hk := rfl
@[simp] theorem State.setCap_sup (x : Capture) : (s.setCap x).sup = s.sup := rfl
@[simp] theorem State.setCap_therm (x : Capture) : (s.setCap x).therm = s.therm := rfl
@[simp] theorem State.setCap_spares (x : Capture) : (s.setCap x).spares = s.spares := rfl
@[simp] theorem State.setCap_commit (x : Capture) : (s.setCap x).commit = s.commit := rfl
@[simp] theorem State.setCap_auth (x : Capture) : (s.setCap x).auth = s.auth := rfl
@[simp] theorem State.setCap_can (x : Capture) : (s.setCap x).can = s.can := rfl
@[simp] theorem State.setCap_qspi (x : Capture) : (s.setCap x).qspi = s.qspi := rfl
@[simp] theorem State.setCap_penn (x : Capture) : (s.setCap x).penn = s.penn := rfl
@[simp] theorem State.setCap_modeSt (x : Capture) : (s.setCap x).modeSt = s.modeSt := rfl
@[simp] theorem State.setCap_boot (x : Capture) : (s.setCap x).boot = s.boot := rfl
@[simp] theorem State.setCap_rst (x : Capture) : (s.setCap x).rst = s.rst := rfl
@[simp] theorem State.setCap_fuses (x : Capture) : (s.setCap x).fuses = s.fuses := rfl
@[simp] theorem State.setCap_retLog (x : Capture) : (s.setCap x).retLog = s.retLog := rfl
@[simp] theorem State.setCap_shedTick (x : Capture) : (s.setCap x).shedTick = s.shedTick := rfl
@[simp] theorem State.setCap_rxTest (x : Capture) : (s.setCap x).rxTest = s.rxTest := rfl
@[simp] theorem State.setCap_vaoTime (x : Capture) : (s.setCap x).vaoTime = s.vaoTime := rfl
@[simp] theorem State.setCap_free (x : Capture) : (s.setCap x).free = s.free := rfl
@[simp] theorem State.setCap_pending (x : Capture) : (s.setCap x).pending = s.pending := rfl

/-! ### setClk -/

@[simp] theorem State.setClk_mode (x : Clocks) : (s.setClk x).mode = s.mode := rfl
@[simp] theorem State.setClk_objs (x : Clocks) : (s.setClk x).objs = s.objs := rfl
@[simp] theorem State.setClk_shadow (x : Clocks) : (s.setClk x).shadow = s.shadow := rfl
@[simp] theorem State.setClk_doms (x : Clocks) : (s.setClk x).doms = s.doms := rfl
@[simp] theorem State.setClk_domShadow (x : Clocks) : (s.setClk x).domShadow = s.domShadow := rfl
@[simp] theorem State.setClk_slot (x : Clocks) : (s.setClk x).slot = s.slot := rfl
@[simp] theorem State.setClk_counting (x : Clocks) : (s.setClk x).counting = s.counting := rfl
@[simp] theorem State.setClk_plan (x : Clocks) : (s.setClk x).plan = s.plan := rfl
@[simp] theorem State.setClk_comet (x : Clocks) : (s.setClk x).comet = s.comet := rfl
@[simp] theorem State.setClk_pipe (x : Clocks) : (s.setClk x).pipe = s.pipe := rfl
@[simp] theorem State.setClk_res (x : Clocks) : (s.setClk x).res = s.res := rfl
@[simp] theorem State.setClk_mir (x : Clocks) : (s.setClk x).mir = s.mir := rfl
@[simp] theorem State.setClk_rx (x : Clocks) : (s.setClk x).rx = s.rx := rfl
@[simp] theorem State.setClk_apd (x : Clocks) : (s.setClk x).apd = s.apd := rfl
@[simp] theorem State.setClk_ens (x : Clocks) : (s.setClk x).ens = s.ens := rfl
@[simp] theorem State.setClk_sweep (x : Clocks) : (s.setClk x).sweep = s.sweep := rfl
@[simp] theorem State.setClk_ensB (x : Clocks) : (s.setClk x).ensB = s.ensB := rfl
@[simp] theorem State.setClk_sealed (x : Clocks) : (s.setClk x).sealed = s.sealed := rfl
@[simp] theorem State.setClk_paths (x : Clocks) : (s.setClk x).paths = s.paths := rfl
@[simp] theorem State.setClk_spec (x : Clocks) : (s.setClk x).spec = s.spec := rfl
@[simp] theorem State.setClk_trg (x : Clocks) : (s.setClk x).trg = s.trg := rfl
@[simp] theorem State.setClk_cap (x : Clocks) : (s.setClk x).cap = s.cap := rfl
@[simp] theorem State.setClk_dec (x : Clocks) : (s.setClk x).dec = s.dec := rfl
@[simp] theorem State.setClk_cal (x : Clocks) : (s.setClk x).cal = s.cal := rfl
@[simp] theorem State.setClk_fs (x : Clocks) : (s.setClk x).fs = s.fs := rfl
@[simp] theorem State.setClk_link (x : Clocks) : (s.setClk x).link = s.link := rfl
@[simp] theorem State.setClk_clk (x : Clocks) : (s.setClk x).clk = x := rfl
@[simp] theorem State.setClk_hk (x : Clocks) : (s.setClk x).hk = s.hk := rfl
@[simp] theorem State.setClk_sup (x : Clocks) : (s.setClk x).sup = s.sup := rfl
@[simp] theorem State.setClk_therm (x : Clocks) : (s.setClk x).therm = s.therm := rfl
@[simp] theorem State.setClk_spares (x : Clocks) : (s.setClk x).spares = s.spares := rfl
@[simp] theorem State.setClk_commit (x : Clocks) : (s.setClk x).commit = s.commit := rfl
@[simp] theorem State.setClk_auth (x : Clocks) : (s.setClk x).auth = s.auth := rfl
@[simp] theorem State.setClk_can (x : Clocks) : (s.setClk x).can = s.can := rfl
@[simp] theorem State.setClk_qspi (x : Clocks) : (s.setClk x).qspi = s.qspi := rfl
@[simp] theorem State.setClk_penn (x : Clocks) : (s.setClk x).penn = s.penn := rfl
@[simp] theorem State.setClk_modeSt (x : Clocks) : (s.setClk x).modeSt = s.modeSt := rfl
@[simp] theorem State.setClk_boot (x : Clocks) : (s.setClk x).boot = s.boot := rfl
@[simp] theorem State.setClk_rst (x : Clocks) : (s.setClk x).rst = s.rst := rfl
@[simp] theorem State.setClk_fuses (x : Clocks) : (s.setClk x).fuses = s.fuses := rfl
@[simp] theorem State.setClk_retLog (x : Clocks) : (s.setClk x).retLog = s.retLog := rfl
@[simp] theorem State.setClk_shedTick (x : Clocks) : (s.setClk x).shedTick = s.shedTick := rfl
@[simp] theorem State.setClk_rxTest (x : Clocks) : (s.setClk x).rxTest = s.rxTest := rfl
@[simp] theorem State.setClk_vaoTime (x : Clocks) : (s.setClk x).vaoTime = s.vaoTime := rfl
@[simp] theorem State.setClk_free (x : Clocks) : (s.setClk x).free = s.free := rfl
@[simp] theorem State.setClk_pending (x : Clocks) : (s.setClk x).pending = s.pending := rfl

/-! ### setHk -/

@[simp] theorem State.setHk_mode (x : Hk) : (s.setHk x).mode = s.mode := rfl
@[simp] theorem State.setHk_objs (x : Hk) : (s.setHk x).objs = s.objs := rfl
@[simp] theorem State.setHk_shadow (x : Hk) : (s.setHk x).shadow = s.shadow := rfl
@[simp] theorem State.setHk_doms (x : Hk) : (s.setHk x).doms = s.doms := rfl
@[simp] theorem State.setHk_domShadow (x : Hk) : (s.setHk x).domShadow = s.domShadow := rfl
@[simp] theorem State.setHk_slot (x : Hk) : (s.setHk x).slot = s.slot := rfl
@[simp] theorem State.setHk_counting (x : Hk) : (s.setHk x).counting = s.counting := rfl
@[simp] theorem State.setHk_plan (x : Hk) : (s.setHk x).plan = s.plan := rfl
@[simp] theorem State.setHk_comet (x : Hk) : (s.setHk x).comet = s.comet := rfl
@[simp] theorem State.setHk_pipe (x : Hk) : (s.setHk x).pipe = s.pipe := rfl
@[simp] theorem State.setHk_res (x : Hk) : (s.setHk x).res = s.res := rfl
@[simp] theorem State.setHk_mir (x : Hk) : (s.setHk x).mir = s.mir := rfl
@[simp] theorem State.setHk_rx (x : Hk) : (s.setHk x).rx = s.rx := rfl
@[simp] theorem State.setHk_apd (x : Hk) : (s.setHk x).apd = s.apd := rfl
@[simp] theorem State.setHk_ens (x : Hk) : (s.setHk x).ens = s.ens := rfl
@[simp] theorem State.setHk_sweep (x : Hk) : (s.setHk x).sweep = s.sweep := rfl
@[simp] theorem State.setHk_ensB (x : Hk) : (s.setHk x).ensB = s.ensB := rfl
@[simp] theorem State.setHk_sealed (x : Hk) : (s.setHk x).sealed = s.sealed := rfl
@[simp] theorem State.setHk_paths (x : Hk) : (s.setHk x).paths = s.paths := rfl
@[simp] theorem State.setHk_spec (x : Hk) : (s.setHk x).spec = s.spec := rfl
@[simp] theorem State.setHk_trg (x : Hk) : (s.setHk x).trg = s.trg := rfl
@[simp] theorem State.setHk_cap (x : Hk) : (s.setHk x).cap = s.cap := rfl
@[simp] theorem State.setHk_dec (x : Hk) : (s.setHk x).dec = s.dec := rfl
@[simp] theorem State.setHk_cal (x : Hk) : (s.setHk x).cal = s.cal := rfl
@[simp] theorem State.setHk_fs (x : Hk) : (s.setHk x).fs = s.fs := rfl
@[simp] theorem State.setHk_link (x : Hk) : (s.setHk x).link = s.link := rfl
@[simp] theorem State.setHk_clk (x : Hk) : (s.setHk x).clk = s.clk := rfl
@[simp] theorem State.setHk_hk (x : Hk) : (s.setHk x).hk = x := rfl
@[simp] theorem State.setHk_sup (x : Hk) : (s.setHk x).sup = s.sup := rfl
@[simp] theorem State.setHk_therm (x : Hk) : (s.setHk x).therm = s.therm := rfl
@[simp] theorem State.setHk_spares (x : Hk) : (s.setHk x).spares = s.spares := rfl
@[simp] theorem State.setHk_commit (x : Hk) : (s.setHk x).commit = s.commit := rfl
@[simp] theorem State.setHk_auth (x : Hk) : (s.setHk x).auth = s.auth := rfl
@[simp] theorem State.setHk_can (x : Hk) : (s.setHk x).can = s.can := rfl
@[simp] theorem State.setHk_qspi (x : Hk) : (s.setHk x).qspi = s.qspi := rfl
@[simp] theorem State.setHk_penn (x : Hk) : (s.setHk x).penn = s.penn := rfl
@[simp] theorem State.setHk_modeSt (x : Hk) : (s.setHk x).modeSt = s.modeSt := rfl
@[simp] theorem State.setHk_boot (x : Hk) : (s.setHk x).boot = s.boot := rfl
@[simp] theorem State.setHk_rst (x : Hk) : (s.setHk x).rst = s.rst := rfl
@[simp] theorem State.setHk_fuses (x : Hk) : (s.setHk x).fuses = s.fuses := rfl
@[simp] theorem State.setHk_retLog (x : Hk) : (s.setHk x).retLog = s.retLog := rfl
@[simp] theorem State.setHk_shedTick (x : Hk) : (s.setHk x).shedTick = s.shedTick := rfl
@[simp] theorem State.setHk_rxTest (x : Hk) : (s.setHk x).rxTest = s.rxTest := rfl
@[simp] theorem State.setHk_vaoTime (x : Hk) : (s.setHk x).vaoTime = s.vaoTime := rfl
@[simp] theorem State.setHk_free (x : Hk) : (s.setHk x).free = s.free := rfl
@[simp] theorem State.setHk_pending (x : Hk) : (s.setHk x).pending = s.pending := rfl

/-! ### setSup -/

@[simp] theorem State.setSup_mode (x : Supply) : (s.setSup x).mode = s.mode := rfl
@[simp] theorem State.setSup_objs (x : Supply) : (s.setSup x).objs = s.objs := rfl
@[simp] theorem State.setSup_shadow (x : Supply) : (s.setSup x).shadow = s.shadow := rfl
@[simp] theorem State.setSup_doms (x : Supply) : (s.setSup x).doms = s.doms := rfl
@[simp] theorem State.setSup_domShadow (x : Supply) : (s.setSup x).domShadow = s.domShadow := rfl
@[simp] theorem State.setSup_slot (x : Supply) : (s.setSup x).slot = s.slot := rfl
@[simp] theorem State.setSup_counting (x : Supply) : (s.setSup x).counting = s.counting := rfl
@[simp] theorem State.setSup_plan (x : Supply) : (s.setSup x).plan = s.plan := rfl
@[simp] theorem State.setSup_comet (x : Supply) : (s.setSup x).comet = s.comet := rfl
@[simp] theorem State.setSup_pipe (x : Supply) : (s.setSup x).pipe = s.pipe := rfl
@[simp] theorem State.setSup_res (x : Supply) : (s.setSup x).res = s.res := rfl
@[simp] theorem State.setSup_mir (x : Supply) : (s.setSup x).mir = s.mir := rfl
@[simp] theorem State.setSup_rx (x : Supply) : (s.setSup x).rx = s.rx := rfl
@[simp] theorem State.setSup_apd (x : Supply) : (s.setSup x).apd = s.apd := rfl
@[simp] theorem State.setSup_ens (x : Supply) : (s.setSup x).ens = s.ens := rfl
@[simp] theorem State.setSup_sweep (x : Supply) : (s.setSup x).sweep = s.sweep := rfl
@[simp] theorem State.setSup_ensB (x : Supply) : (s.setSup x).ensB = s.ensB := rfl
@[simp] theorem State.setSup_sealed (x : Supply) : (s.setSup x).sealed = s.sealed := rfl
@[simp] theorem State.setSup_paths (x : Supply) : (s.setSup x).paths = s.paths := rfl
@[simp] theorem State.setSup_spec (x : Supply) : (s.setSup x).spec = s.spec := rfl
@[simp] theorem State.setSup_trg (x : Supply) : (s.setSup x).trg = s.trg := rfl
@[simp] theorem State.setSup_cap (x : Supply) : (s.setSup x).cap = s.cap := rfl
@[simp] theorem State.setSup_dec (x : Supply) : (s.setSup x).dec = s.dec := rfl
@[simp] theorem State.setSup_cal (x : Supply) : (s.setSup x).cal = s.cal := rfl
@[simp] theorem State.setSup_fs (x : Supply) : (s.setSup x).fs = s.fs := rfl
@[simp] theorem State.setSup_link (x : Supply) : (s.setSup x).link = s.link := rfl
@[simp] theorem State.setSup_clk (x : Supply) : (s.setSup x).clk = s.clk := rfl
@[simp] theorem State.setSup_hk (x : Supply) : (s.setSup x).hk = s.hk := rfl
@[simp] theorem State.setSup_sup (x : Supply) : (s.setSup x).sup = x := rfl
@[simp] theorem State.setSup_therm (x : Supply) : (s.setSup x).therm = s.therm := rfl
@[simp] theorem State.setSup_spares (x : Supply) : (s.setSup x).spares = s.spares := rfl
@[simp] theorem State.setSup_commit (x : Supply) : (s.setSup x).commit = s.commit := rfl
@[simp] theorem State.setSup_auth (x : Supply) : (s.setSup x).auth = s.auth := rfl
@[simp] theorem State.setSup_can (x : Supply) : (s.setSup x).can = s.can := rfl
@[simp] theorem State.setSup_qspi (x : Supply) : (s.setSup x).qspi = s.qspi := rfl
@[simp] theorem State.setSup_penn (x : Supply) : (s.setSup x).penn = s.penn := rfl
@[simp] theorem State.setSup_modeSt (x : Supply) : (s.setSup x).modeSt = s.modeSt := rfl
@[simp] theorem State.setSup_boot (x : Supply) : (s.setSup x).boot = s.boot := rfl
@[simp] theorem State.setSup_rst (x : Supply) : (s.setSup x).rst = s.rst := rfl
@[simp] theorem State.setSup_fuses (x : Supply) : (s.setSup x).fuses = s.fuses := rfl
@[simp] theorem State.setSup_retLog (x : Supply) : (s.setSup x).retLog = s.retLog := rfl
@[simp] theorem State.setSup_shedTick (x : Supply) : (s.setSup x).shedTick = s.shedTick := rfl
@[simp] theorem State.setSup_rxTest (x : Supply) : (s.setSup x).rxTest = s.rxTest := rfl
@[simp] theorem State.setSup_vaoTime (x : Supply) : (s.setSup x).vaoTime = s.vaoTime := rfl
@[simp] theorem State.setSup_free (x : Supply) : (s.setSup x).free = s.free := rfl
@[simp] theorem State.setSup_pending (x : Supply) : (s.setSup x).pending = s.pending := rfl

/-! ### setRst -/

@[simp] theorem State.setRst_mode (x : ResetState) : (s.setRst x).mode = s.mode := rfl
@[simp] theorem State.setRst_objs (x : ResetState) : (s.setRst x).objs = s.objs := rfl
@[simp] theorem State.setRst_shadow (x : ResetState) : (s.setRst x).shadow = s.shadow := rfl
@[simp] theorem State.setRst_doms (x : ResetState) : (s.setRst x).doms = s.doms := rfl
@[simp] theorem State.setRst_domShadow (x : ResetState) : (s.setRst x).domShadow = s.domShadow := rfl
@[simp] theorem State.setRst_slot (x : ResetState) : (s.setRst x).slot = s.slot := rfl
@[simp] theorem State.setRst_counting (x : ResetState) : (s.setRst x).counting = s.counting := rfl
@[simp] theorem State.setRst_plan (x : ResetState) : (s.setRst x).plan = s.plan := rfl
@[simp] theorem State.setRst_comet (x : ResetState) : (s.setRst x).comet = s.comet := rfl
@[simp] theorem State.setRst_pipe (x : ResetState) : (s.setRst x).pipe = s.pipe := rfl
@[simp] theorem State.setRst_res (x : ResetState) : (s.setRst x).res = s.res := rfl
@[simp] theorem State.setRst_mir (x : ResetState) : (s.setRst x).mir = s.mir := rfl
@[simp] theorem State.setRst_rx (x : ResetState) : (s.setRst x).rx = s.rx := rfl
@[simp] theorem State.setRst_apd (x : ResetState) : (s.setRst x).apd = s.apd := rfl
@[simp] theorem State.setRst_ens (x : ResetState) : (s.setRst x).ens = s.ens := rfl
@[simp] theorem State.setRst_sweep (x : ResetState) : (s.setRst x).sweep = s.sweep := rfl
@[simp] theorem State.setRst_ensB (x : ResetState) : (s.setRst x).ensB = s.ensB := rfl
@[simp] theorem State.setRst_sealed (x : ResetState) : (s.setRst x).sealed = s.sealed := rfl
@[simp] theorem State.setRst_paths (x : ResetState) : (s.setRst x).paths = s.paths := rfl
@[simp] theorem State.setRst_spec (x : ResetState) : (s.setRst x).spec = s.spec := rfl
@[simp] theorem State.setRst_trg (x : ResetState) : (s.setRst x).trg = s.trg := rfl
@[simp] theorem State.setRst_cap (x : ResetState) : (s.setRst x).cap = s.cap := rfl
@[simp] theorem State.setRst_dec (x : ResetState) : (s.setRst x).dec = s.dec := rfl
@[simp] theorem State.setRst_cal (x : ResetState) : (s.setRst x).cal = s.cal := rfl
@[simp] theorem State.setRst_fs (x : ResetState) : (s.setRst x).fs = s.fs := rfl
@[simp] theorem State.setRst_link (x : ResetState) : (s.setRst x).link = s.link := rfl
@[simp] theorem State.setRst_clk (x : ResetState) : (s.setRst x).clk = s.clk := rfl
@[simp] theorem State.setRst_hk (x : ResetState) : (s.setRst x).hk = s.hk := rfl
@[simp] theorem State.setRst_sup (x : ResetState) : (s.setRst x).sup = s.sup := rfl
@[simp] theorem State.setRst_therm (x : ResetState) : (s.setRst x).therm = s.therm := rfl
@[simp] theorem State.setRst_spares (x : ResetState) : (s.setRst x).spares = s.spares := rfl
@[simp] theorem State.setRst_commit (x : ResetState) : (s.setRst x).commit = s.commit := rfl
@[simp] theorem State.setRst_auth (x : ResetState) : (s.setRst x).auth = s.auth := rfl
@[simp] theorem State.setRst_can (x : ResetState) : (s.setRst x).can = s.can := rfl
@[simp] theorem State.setRst_qspi (x : ResetState) : (s.setRst x).qspi = s.qspi := rfl
@[simp] theorem State.setRst_penn (x : ResetState) : (s.setRst x).penn = s.penn := rfl
@[simp] theorem State.setRst_modeSt (x : ResetState) : (s.setRst x).modeSt = s.modeSt := rfl
@[simp] theorem State.setRst_boot (x : ResetState) : (s.setRst x).boot = s.boot := rfl
@[simp] theorem State.setRst_rst (x : ResetState) : (s.setRst x).rst = x := rfl
@[simp] theorem State.setRst_fuses (x : ResetState) : (s.setRst x).fuses = s.fuses := rfl
@[simp] theorem State.setRst_retLog (x : ResetState) : (s.setRst x).retLog = s.retLog := rfl
@[simp] theorem State.setRst_shedTick (x : ResetState) : (s.setRst x).shedTick = s.shedTick := rfl
@[simp] theorem State.setRst_rxTest (x : ResetState) : (s.setRst x).rxTest = s.rxTest := rfl
@[simp] theorem State.setRst_vaoTime (x : ResetState) : (s.setRst x).vaoTime = s.vaoTime := rfl
@[simp] theorem State.setRst_free (x : ResetState) : (s.setRst x).free = s.free := rfl
@[simp] theorem State.setRst_pending (x : ResetState) : (s.setRst x).pending = s.pending := rfl

/-! ### setSpares -/

@[simp] theorem State.setSpares_mode (x : Spares) : (s.setSpares x).mode = s.mode := rfl
@[simp] theorem State.setSpares_objs (x : Spares) : (s.setSpares x).objs = s.objs := rfl
@[simp] theorem State.setSpares_shadow (x : Spares) : (s.setSpares x).shadow = s.shadow := rfl
@[simp] theorem State.setSpares_doms (x : Spares) : (s.setSpares x).doms = s.doms := rfl
@[simp] theorem State.setSpares_domShadow (x : Spares) : (s.setSpares x).domShadow = s.domShadow := rfl
@[simp] theorem State.setSpares_slot (x : Spares) : (s.setSpares x).slot = s.slot := rfl
@[simp] theorem State.setSpares_counting (x : Spares) : (s.setSpares x).counting = s.counting := rfl
@[simp] theorem State.setSpares_plan (x : Spares) : (s.setSpares x).plan = s.plan := rfl
@[simp] theorem State.setSpares_comet (x : Spares) : (s.setSpares x).comet = s.comet := rfl
@[simp] theorem State.setSpares_pipe (x : Spares) : (s.setSpares x).pipe = s.pipe := rfl
@[simp] theorem State.setSpares_res (x : Spares) : (s.setSpares x).res = s.res := rfl
@[simp] theorem State.setSpares_mir (x : Spares) : (s.setSpares x).mir = s.mir := rfl
@[simp] theorem State.setSpares_rx (x : Spares) : (s.setSpares x).rx = s.rx := rfl
@[simp] theorem State.setSpares_apd (x : Spares) : (s.setSpares x).apd = s.apd := rfl
@[simp] theorem State.setSpares_ens (x : Spares) : (s.setSpares x).ens = s.ens := rfl
@[simp] theorem State.setSpares_sweep (x : Spares) : (s.setSpares x).sweep = s.sweep := rfl
@[simp] theorem State.setSpares_ensB (x : Spares) : (s.setSpares x).ensB = s.ensB := rfl
@[simp] theorem State.setSpares_sealed (x : Spares) : (s.setSpares x).sealed = s.sealed := rfl
@[simp] theorem State.setSpares_paths (x : Spares) : (s.setSpares x).paths = s.paths := rfl
@[simp] theorem State.setSpares_spec (x : Spares) : (s.setSpares x).spec = s.spec := rfl
@[simp] theorem State.setSpares_trg (x : Spares) : (s.setSpares x).trg = s.trg := rfl
@[simp] theorem State.setSpares_cap (x : Spares) : (s.setSpares x).cap = s.cap := rfl
@[simp] theorem State.setSpares_dec (x : Spares) : (s.setSpares x).dec = s.dec := rfl
@[simp] theorem State.setSpares_cal (x : Spares) : (s.setSpares x).cal = s.cal := rfl
@[simp] theorem State.setSpares_fs (x : Spares) : (s.setSpares x).fs = s.fs := rfl
@[simp] theorem State.setSpares_link (x : Spares) : (s.setSpares x).link = s.link := rfl
@[simp] theorem State.setSpares_clk (x : Spares) : (s.setSpares x).clk = s.clk := rfl
@[simp] theorem State.setSpares_hk (x : Spares) : (s.setSpares x).hk = s.hk := rfl
@[simp] theorem State.setSpares_sup (x : Spares) : (s.setSpares x).sup = s.sup := rfl
@[simp] theorem State.setSpares_therm (x : Spares) : (s.setSpares x).therm = s.therm := rfl
@[simp] theorem State.setSpares_spares (x : Spares) : (s.setSpares x).spares = x := rfl
@[simp] theorem State.setSpares_commit (x : Spares) : (s.setSpares x).commit = s.commit := rfl
@[simp] theorem State.setSpares_auth (x : Spares) : (s.setSpares x).auth = s.auth := rfl
@[simp] theorem State.setSpares_can (x : Spares) : (s.setSpares x).can = s.can := rfl
@[simp] theorem State.setSpares_qspi (x : Spares) : (s.setSpares x).qspi = s.qspi := rfl
@[simp] theorem State.setSpares_penn (x : Spares) : (s.setSpares x).penn = s.penn := rfl
@[simp] theorem State.setSpares_modeSt (x : Spares) : (s.setSpares x).modeSt = s.modeSt := rfl
@[simp] theorem State.setSpares_boot (x : Spares) : (s.setSpares x).boot = s.boot := rfl
@[simp] theorem State.setSpares_rst (x : Spares) : (s.setSpares x).rst = s.rst := rfl
@[simp] theorem State.setSpares_fuses (x : Spares) : (s.setSpares x).fuses = s.fuses := rfl
@[simp] theorem State.setSpares_retLog (x : Spares) : (s.setSpares x).retLog = s.retLog := rfl
@[simp] theorem State.setSpares_shedTick (x : Spares) : (s.setSpares x).shedTick = s.shedTick := rfl
@[simp] theorem State.setSpares_rxTest (x : Spares) : (s.setSpares x).rxTest = s.rxTest := rfl
@[simp] theorem State.setSpares_vaoTime (x : Spares) : (s.setSpares x).vaoTime = s.vaoTime := rfl
@[simp] theorem State.setSpares_free (x : Spares) : (s.setSpares x).free = s.free := rfl
@[simp] theorem State.setSpares_pending (x : Spares) : (s.setSpares x).pending = s.pending := rfl

/-! ### setTherm -/

@[simp] theorem State.setTherm_mode (x : Thermal) : (s.setTherm x).mode = s.mode := rfl
@[simp] theorem State.setTherm_objs (x : Thermal) : (s.setTherm x).objs = s.objs := rfl
@[simp] theorem State.setTherm_shadow (x : Thermal) : (s.setTherm x).shadow = s.shadow := rfl
@[simp] theorem State.setTherm_doms (x : Thermal) : (s.setTherm x).doms = s.doms := rfl
@[simp] theorem State.setTherm_domShadow (x : Thermal) : (s.setTherm x).domShadow = s.domShadow := rfl
@[simp] theorem State.setTherm_slot (x : Thermal) : (s.setTherm x).slot = s.slot := rfl
@[simp] theorem State.setTherm_counting (x : Thermal) : (s.setTherm x).counting = s.counting := rfl
@[simp] theorem State.setTherm_plan (x : Thermal) : (s.setTherm x).plan = s.plan := rfl
@[simp] theorem State.setTherm_comet (x : Thermal) : (s.setTherm x).comet = s.comet := rfl
@[simp] theorem State.setTherm_pipe (x : Thermal) : (s.setTherm x).pipe = s.pipe := rfl
@[simp] theorem State.setTherm_res (x : Thermal) : (s.setTherm x).res = s.res := rfl
@[simp] theorem State.setTherm_mir (x : Thermal) : (s.setTherm x).mir = s.mir := rfl
@[simp] theorem State.setTherm_rx (x : Thermal) : (s.setTherm x).rx = s.rx := rfl
@[simp] theorem State.setTherm_apd (x : Thermal) : (s.setTherm x).apd = s.apd := rfl
@[simp] theorem State.setTherm_ens (x : Thermal) : (s.setTherm x).ens = s.ens := rfl
@[simp] theorem State.setTherm_sweep (x : Thermal) : (s.setTherm x).sweep = s.sweep := rfl
@[simp] theorem State.setTherm_ensB (x : Thermal) : (s.setTherm x).ensB = s.ensB := rfl
@[simp] theorem State.setTherm_sealed (x : Thermal) : (s.setTherm x).sealed = s.sealed := rfl
@[simp] theorem State.setTherm_paths (x : Thermal) : (s.setTherm x).paths = s.paths := rfl
@[simp] theorem State.setTherm_spec (x : Thermal) : (s.setTherm x).spec = s.spec := rfl
@[simp] theorem State.setTherm_trg (x : Thermal) : (s.setTherm x).trg = s.trg := rfl
@[simp] theorem State.setTherm_cap (x : Thermal) : (s.setTherm x).cap = s.cap := rfl
@[simp] theorem State.setTherm_dec (x : Thermal) : (s.setTherm x).dec = s.dec := rfl
@[simp] theorem State.setTherm_cal (x : Thermal) : (s.setTherm x).cal = s.cal := rfl
@[simp] theorem State.setTherm_fs (x : Thermal) : (s.setTherm x).fs = s.fs := rfl
@[simp] theorem State.setTherm_link (x : Thermal) : (s.setTherm x).link = s.link := rfl
@[simp] theorem State.setTherm_clk (x : Thermal) : (s.setTherm x).clk = s.clk := rfl
@[simp] theorem State.setTherm_hk (x : Thermal) : (s.setTherm x).hk = s.hk := rfl
@[simp] theorem State.setTherm_sup (x : Thermal) : (s.setTherm x).sup = s.sup := rfl
@[simp] theorem State.setTherm_therm (x : Thermal) : (s.setTherm x).therm = x := rfl
@[simp] theorem State.setTherm_spares (x : Thermal) : (s.setTherm x).spares = s.spares := rfl
@[simp] theorem State.setTherm_commit (x : Thermal) : (s.setTherm x).commit = s.commit := rfl
@[simp] theorem State.setTherm_auth (x : Thermal) : (s.setTherm x).auth = s.auth := rfl
@[simp] theorem State.setTherm_can (x : Thermal) : (s.setTherm x).can = s.can := rfl
@[simp] theorem State.setTherm_qspi (x : Thermal) : (s.setTherm x).qspi = s.qspi := rfl
@[simp] theorem State.setTherm_penn (x : Thermal) : (s.setTherm x).penn = s.penn := rfl
@[simp] theorem State.setTherm_modeSt (x : Thermal) : (s.setTherm x).modeSt = s.modeSt := rfl
@[simp] theorem State.setTherm_boot (x : Thermal) : (s.setTherm x).boot = s.boot := rfl
@[simp] theorem State.setTherm_rst (x : Thermal) : (s.setTherm x).rst = s.rst := rfl
@[simp] theorem State.setTherm_fuses (x : Thermal) : (s.setTherm x).fuses = s.fuses := rfl
@[simp] theorem State.setTherm_retLog (x : Thermal) : (s.setTherm x).retLog = s.retLog := rfl
@[simp] theorem State.setTherm_shedTick (x : Thermal) : (s.setTherm x).shedTick = s.shedTick := rfl
@[simp] theorem State.setTherm_rxTest (x : Thermal) : (s.setTherm x).rxTest = s.rxTest := rfl
@[simp] theorem State.setTherm_vaoTime (x : Thermal) : (s.setTherm x).vaoTime = s.vaoTime := rfl
@[simp] theorem State.setTherm_free (x : Thermal) : (s.setTherm x).free = s.free := rfl
@[simp] theorem State.setTherm_pending (x : Thermal) : (s.setTherm x).pending = s.pending := rfl

/-! ### setCal -/

@[simp] theorem State.setCal_mode (x : Calib) : (s.setCal x).mode = s.mode := rfl
@[simp] theorem State.setCal_objs (x : Calib) : (s.setCal x).objs = s.objs := rfl
@[simp] theorem State.setCal_shadow (x : Calib) : (s.setCal x).shadow = s.shadow := rfl
@[simp] theorem State.setCal_doms (x : Calib) : (s.setCal x).doms = s.doms := rfl
@[simp] theorem State.setCal_domShadow (x : Calib) : (s.setCal x).domShadow = s.domShadow := rfl
@[simp] theorem State.setCal_slot (x : Calib) : (s.setCal x).slot = s.slot := rfl
@[simp] theorem State.setCal_counting (x : Calib) : (s.setCal x).counting = s.counting := rfl
@[simp] theorem State.setCal_plan (x : Calib) : (s.setCal x).plan = s.plan := rfl
@[simp] theorem State.setCal_comet (x : Calib) : (s.setCal x).comet = s.comet := rfl
@[simp] theorem State.setCal_pipe (x : Calib) : (s.setCal x).pipe = s.pipe := rfl
@[simp] theorem State.setCal_res (x : Calib) : (s.setCal x).res = s.res := rfl
@[simp] theorem State.setCal_mir (x : Calib) : (s.setCal x).mir = s.mir := rfl
@[simp] theorem State.setCal_rx (x : Calib) : (s.setCal x).rx = s.rx := rfl
@[simp] theorem State.setCal_apd (x : Calib) : (s.setCal x).apd = s.apd := rfl
@[simp] theorem State.setCal_ens (x : Calib) : (s.setCal x).ens = s.ens := rfl
@[simp] theorem State.setCal_sweep (x : Calib) : (s.setCal x).sweep = s.sweep := rfl
@[simp] theorem State.setCal_ensB (x : Calib) : (s.setCal x).ensB = s.ensB := rfl
@[simp] theorem State.setCal_sealed (x : Calib) : (s.setCal x).sealed = s.sealed := rfl
@[simp] theorem State.setCal_paths (x : Calib) : (s.setCal x).paths = s.paths := rfl
@[simp] theorem State.setCal_spec (x : Calib) : (s.setCal x).spec = s.spec := rfl
@[simp] theorem State.setCal_trg (x : Calib) : (s.setCal x).trg = s.trg := rfl
@[simp] theorem State.setCal_cap (x : Calib) : (s.setCal x).cap = s.cap := rfl
@[simp] theorem State.setCal_dec (x : Calib) : (s.setCal x).dec = s.dec := rfl
@[simp] theorem State.setCal_cal (x : Calib) : (s.setCal x).cal = x := rfl
@[simp] theorem State.setCal_fs (x : Calib) : (s.setCal x).fs = s.fs := rfl
@[simp] theorem State.setCal_link (x : Calib) : (s.setCal x).link = s.link := rfl
@[simp] theorem State.setCal_clk (x : Calib) : (s.setCal x).clk = s.clk := rfl
@[simp] theorem State.setCal_hk (x : Calib) : (s.setCal x).hk = s.hk := rfl
@[simp] theorem State.setCal_sup (x : Calib) : (s.setCal x).sup = s.sup := rfl
@[simp] theorem State.setCal_therm (x : Calib) : (s.setCal x).therm = s.therm := rfl
@[simp] theorem State.setCal_spares (x : Calib) : (s.setCal x).spares = s.spares := rfl
@[simp] theorem State.setCal_commit (x : Calib) : (s.setCal x).commit = s.commit := rfl
@[simp] theorem State.setCal_auth (x : Calib) : (s.setCal x).auth = s.auth := rfl
@[simp] theorem State.setCal_can (x : Calib) : (s.setCal x).can = s.can := rfl
@[simp] theorem State.setCal_qspi (x : Calib) : (s.setCal x).qspi = s.qspi := rfl
@[simp] theorem State.setCal_penn (x : Calib) : (s.setCal x).penn = s.penn := rfl
@[simp] theorem State.setCal_modeSt (x : Calib) : (s.setCal x).modeSt = s.modeSt := rfl
@[simp] theorem State.setCal_boot (x : Calib) : (s.setCal x).boot = s.boot := rfl
@[simp] theorem State.setCal_rst (x : Calib) : (s.setCal x).rst = s.rst := rfl
@[simp] theorem State.setCal_fuses (x : Calib) : (s.setCal x).fuses = s.fuses := rfl
@[simp] theorem State.setCal_retLog (x : Calib) : (s.setCal x).retLog = s.retLog := rfl
@[simp] theorem State.setCal_shedTick (x : Calib) : (s.setCal x).shedTick = s.shedTick := rfl
@[simp] theorem State.setCal_rxTest (x : Calib) : (s.setCal x).rxTest = s.rxTest := rfl
@[simp] theorem State.setCal_vaoTime (x : Calib) : (s.setCal x).vaoTime = s.vaoTime := rfl
@[simp] theorem State.setCal_free (x : Calib) : (s.setCal x).free = s.free := rfl
@[simp] theorem State.setCal_pending (x : Calib) : (s.setCal x).pending = s.pending := rfl

/-! ### setFs -/

@[simp] theorem State.setFs_mode (x : FieldStore) : (s.setFs x).mode = s.mode := rfl
@[simp] theorem State.setFs_objs (x : FieldStore) : (s.setFs x).objs = s.objs := rfl
@[simp] theorem State.setFs_shadow (x : FieldStore) : (s.setFs x).shadow = s.shadow := rfl
@[simp] theorem State.setFs_doms (x : FieldStore) : (s.setFs x).doms = s.doms := rfl
@[simp] theorem State.setFs_domShadow (x : FieldStore) : (s.setFs x).domShadow = s.domShadow := rfl
@[simp] theorem State.setFs_slot (x : FieldStore) : (s.setFs x).slot = s.slot := rfl
@[simp] theorem State.setFs_counting (x : FieldStore) : (s.setFs x).counting = s.counting := rfl
@[simp] theorem State.setFs_plan (x : FieldStore) : (s.setFs x).plan = s.plan := rfl
@[simp] theorem State.setFs_comet (x : FieldStore) : (s.setFs x).comet = s.comet := rfl
@[simp] theorem State.setFs_pipe (x : FieldStore) : (s.setFs x).pipe = s.pipe := rfl
@[simp] theorem State.setFs_res (x : FieldStore) : (s.setFs x).res = s.res := rfl
@[simp] theorem State.setFs_mir (x : FieldStore) : (s.setFs x).mir = s.mir := rfl
@[simp] theorem State.setFs_rx (x : FieldStore) : (s.setFs x).rx = s.rx := rfl
@[simp] theorem State.setFs_apd (x : FieldStore) : (s.setFs x).apd = s.apd := rfl
@[simp] theorem State.setFs_ens (x : FieldStore) : (s.setFs x).ens = s.ens := rfl
@[simp] theorem State.setFs_sweep (x : FieldStore) : (s.setFs x).sweep = s.sweep := rfl
@[simp] theorem State.setFs_ensB (x : FieldStore) : (s.setFs x).ensB = s.ensB := rfl
@[simp] theorem State.setFs_sealed (x : FieldStore) : (s.setFs x).sealed = s.sealed := rfl
@[simp] theorem State.setFs_paths (x : FieldStore) : (s.setFs x).paths = s.paths := rfl
@[simp] theorem State.setFs_spec (x : FieldStore) : (s.setFs x).spec = s.spec := rfl
@[simp] theorem State.setFs_trg (x : FieldStore) : (s.setFs x).trg = s.trg := rfl
@[simp] theorem State.setFs_cap (x : FieldStore) : (s.setFs x).cap = s.cap := rfl
@[simp] theorem State.setFs_dec (x : FieldStore) : (s.setFs x).dec = s.dec := rfl
@[simp] theorem State.setFs_cal (x : FieldStore) : (s.setFs x).cal = s.cal := rfl
@[simp] theorem State.setFs_fs (x : FieldStore) : (s.setFs x).fs = x := rfl
@[simp] theorem State.setFs_link (x : FieldStore) : (s.setFs x).link = s.link := rfl
@[simp] theorem State.setFs_clk (x : FieldStore) : (s.setFs x).clk = s.clk := rfl
@[simp] theorem State.setFs_hk (x : FieldStore) : (s.setFs x).hk = s.hk := rfl
@[simp] theorem State.setFs_sup (x : FieldStore) : (s.setFs x).sup = s.sup := rfl
@[simp] theorem State.setFs_therm (x : FieldStore) : (s.setFs x).therm = s.therm := rfl
@[simp] theorem State.setFs_spares (x : FieldStore) : (s.setFs x).spares = s.spares := rfl
@[simp] theorem State.setFs_commit (x : FieldStore) : (s.setFs x).commit = s.commit := rfl
@[simp] theorem State.setFs_auth (x : FieldStore) : (s.setFs x).auth = s.auth := rfl
@[simp] theorem State.setFs_can (x : FieldStore) : (s.setFs x).can = s.can := rfl
@[simp] theorem State.setFs_qspi (x : FieldStore) : (s.setFs x).qspi = s.qspi := rfl
@[simp] theorem State.setFs_penn (x : FieldStore) : (s.setFs x).penn = s.penn := rfl
@[simp] theorem State.setFs_modeSt (x : FieldStore) : (s.setFs x).modeSt = s.modeSt := rfl
@[simp] theorem State.setFs_boot (x : FieldStore) : (s.setFs x).boot = s.boot := rfl
@[simp] theorem State.setFs_rst (x : FieldStore) : (s.setFs x).rst = s.rst := rfl
@[simp] theorem State.setFs_fuses (x : FieldStore) : (s.setFs x).fuses = s.fuses := rfl
@[simp] theorem State.setFs_retLog (x : FieldStore) : (s.setFs x).retLog = s.retLog := rfl
@[simp] theorem State.setFs_shedTick (x : FieldStore) : (s.setFs x).shedTick = s.shedTick := rfl
@[simp] theorem State.setFs_rxTest (x : FieldStore) : (s.setFs x).rxTest = s.rxTest := rfl
@[simp] theorem State.setFs_vaoTime (x : FieldStore) : (s.setFs x).vaoTime = s.vaoTime := rfl
@[simp] theorem State.setFs_free (x : FieldStore) : (s.setFs x).free = s.free := rfl
@[simp] theorem State.setFs_pending (x : FieldStore) : (s.setFs x).pending = s.pending := rfl

/-! ### setLink -/

@[simp] theorem State.setLink_mode (x : Link) : (s.setLink x).mode = s.mode := rfl
@[simp] theorem State.setLink_objs (x : Link) : (s.setLink x).objs = s.objs := rfl
@[simp] theorem State.setLink_shadow (x : Link) : (s.setLink x).shadow = s.shadow := rfl
@[simp] theorem State.setLink_doms (x : Link) : (s.setLink x).doms = s.doms := rfl
@[simp] theorem State.setLink_domShadow (x : Link) : (s.setLink x).domShadow = s.domShadow := rfl
@[simp] theorem State.setLink_slot (x : Link) : (s.setLink x).slot = s.slot := rfl
@[simp] theorem State.setLink_counting (x : Link) : (s.setLink x).counting = s.counting := rfl
@[simp] theorem State.setLink_plan (x : Link) : (s.setLink x).plan = s.plan := rfl
@[simp] theorem State.setLink_comet (x : Link) : (s.setLink x).comet = s.comet := rfl
@[simp] theorem State.setLink_pipe (x : Link) : (s.setLink x).pipe = s.pipe := rfl
@[simp] theorem State.setLink_res (x : Link) : (s.setLink x).res = s.res := rfl
@[simp] theorem State.setLink_mir (x : Link) : (s.setLink x).mir = s.mir := rfl
@[simp] theorem State.setLink_rx (x : Link) : (s.setLink x).rx = s.rx := rfl
@[simp] theorem State.setLink_apd (x : Link) : (s.setLink x).apd = s.apd := rfl
@[simp] theorem State.setLink_ens (x : Link) : (s.setLink x).ens = s.ens := rfl
@[simp] theorem State.setLink_sweep (x : Link) : (s.setLink x).sweep = s.sweep := rfl
@[simp] theorem State.setLink_ensB (x : Link) : (s.setLink x).ensB = s.ensB := rfl
@[simp] theorem State.setLink_sealed (x : Link) : (s.setLink x).sealed = s.sealed := rfl
@[simp] theorem State.setLink_paths (x : Link) : (s.setLink x).paths = s.paths := rfl
@[simp] theorem State.setLink_spec (x : Link) : (s.setLink x).spec = s.spec := rfl
@[simp] theorem State.setLink_trg (x : Link) : (s.setLink x).trg = s.trg := rfl
@[simp] theorem State.setLink_cap (x : Link) : (s.setLink x).cap = s.cap := rfl
@[simp] theorem State.setLink_dec (x : Link) : (s.setLink x).dec = s.dec := rfl
@[simp] theorem State.setLink_cal (x : Link) : (s.setLink x).cal = s.cal := rfl
@[simp] theorem State.setLink_fs (x : Link) : (s.setLink x).fs = s.fs := rfl
@[simp] theorem State.setLink_link (x : Link) : (s.setLink x).link = x := rfl
@[simp] theorem State.setLink_clk (x : Link) : (s.setLink x).clk = s.clk := rfl
@[simp] theorem State.setLink_hk (x : Link) : (s.setLink x).hk = s.hk := rfl
@[simp] theorem State.setLink_sup (x : Link) : (s.setLink x).sup = s.sup := rfl
@[simp] theorem State.setLink_therm (x : Link) : (s.setLink x).therm = s.therm := rfl
@[simp] theorem State.setLink_spares (x : Link) : (s.setLink x).spares = s.spares := rfl
@[simp] theorem State.setLink_commit (x : Link) : (s.setLink x).commit = s.commit := rfl
@[simp] theorem State.setLink_auth (x : Link) : (s.setLink x).auth = s.auth := rfl
@[simp] theorem State.setLink_can (x : Link) : (s.setLink x).can = s.can := rfl
@[simp] theorem State.setLink_qspi (x : Link) : (s.setLink x).qspi = s.qspi := rfl
@[simp] theorem State.setLink_penn (x : Link) : (s.setLink x).penn = s.penn := rfl
@[simp] theorem State.setLink_modeSt (x : Link) : (s.setLink x).modeSt = s.modeSt := rfl
@[simp] theorem State.setLink_boot (x : Link) : (s.setLink x).boot = s.boot := rfl
@[simp] theorem State.setLink_rst (x : Link) : (s.setLink x).rst = s.rst := rfl
@[simp] theorem State.setLink_fuses (x : Link) : (s.setLink x).fuses = s.fuses := rfl
@[simp] theorem State.setLink_retLog (x : Link) : (s.setLink x).retLog = s.retLog := rfl
@[simp] theorem State.setLink_shedTick (x : Link) : (s.setLink x).shedTick = s.shedTick := rfl
@[simp] theorem State.setLink_rxTest (x : Link) : (s.setLink x).rxTest = s.rxTest := rfl
@[simp] theorem State.setLink_vaoTime (x : Link) : (s.setLink x).vaoTime = s.vaoTime := rfl
@[simp] theorem State.setLink_free (x : Link) : (s.setLink x).free = s.free := rfl
@[simp] theorem State.setLink_pending (x : Link) : (s.setLink x).pending = s.pending := rfl

/-! ### setQspi -/

@[simp] theorem State.setQspi_mode (x : Qspi) : (s.setQspi x).mode = s.mode := rfl
@[simp] theorem State.setQspi_objs (x : Qspi) : (s.setQspi x).objs = s.objs := rfl
@[simp] theorem State.setQspi_shadow (x : Qspi) : (s.setQspi x).shadow = s.shadow := rfl
@[simp] theorem State.setQspi_doms (x : Qspi) : (s.setQspi x).doms = s.doms := rfl
@[simp] theorem State.setQspi_domShadow (x : Qspi) : (s.setQspi x).domShadow = s.domShadow := rfl
@[simp] theorem State.setQspi_slot (x : Qspi) : (s.setQspi x).slot = s.slot := rfl
@[simp] theorem State.setQspi_counting (x : Qspi) : (s.setQspi x).counting = s.counting := rfl
@[simp] theorem State.setQspi_plan (x : Qspi) : (s.setQspi x).plan = s.plan := rfl
@[simp] theorem State.setQspi_comet (x : Qspi) : (s.setQspi x).comet = s.comet := rfl
@[simp] theorem State.setQspi_pipe (x : Qspi) : (s.setQspi x).pipe = s.pipe := rfl
@[simp] theorem State.setQspi_res (x : Qspi) : (s.setQspi x).res = s.res := rfl
@[simp] theorem State.setQspi_mir (x : Qspi) : (s.setQspi x).mir = s.mir := rfl
@[simp] theorem State.setQspi_rx (x : Qspi) : (s.setQspi x).rx = s.rx := rfl
@[simp] theorem State.setQspi_apd (x : Qspi) : (s.setQspi x).apd = s.apd := rfl
@[simp] theorem State.setQspi_ens (x : Qspi) : (s.setQspi x).ens = s.ens := rfl
@[simp] theorem State.setQspi_sweep (x : Qspi) : (s.setQspi x).sweep = s.sweep := rfl
@[simp] theorem State.setQspi_ensB (x : Qspi) : (s.setQspi x).ensB = s.ensB := rfl
@[simp] theorem State.setQspi_sealed (x : Qspi) : (s.setQspi x).sealed = s.sealed := rfl
@[simp] theorem State.setQspi_paths (x : Qspi) : (s.setQspi x).paths = s.paths := rfl
@[simp] theorem State.setQspi_spec (x : Qspi) : (s.setQspi x).spec = s.spec := rfl
@[simp] theorem State.setQspi_trg (x : Qspi) : (s.setQspi x).trg = s.trg := rfl
@[simp] theorem State.setQspi_cap (x : Qspi) : (s.setQspi x).cap = s.cap := rfl
@[simp] theorem State.setQspi_dec (x : Qspi) : (s.setQspi x).dec = s.dec := rfl
@[simp] theorem State.setQspi_cal (x : Qspi) : (s.setQspi x).cal = s.cal := rfl
@[simp] theorem State.setQspi_fs (x : Qspi) : (s.setQspi x).fs = s.fs := rfl
@[simp] theorem State.setQspi_link (x : Qspi) : (s.setQspi x).link = s.link := rfl
@[simp] theorem State.setQspi_clk (x : Qspi) : (s.setQspi x).clk = s.clk := rfl
@[simp] theorem State.setQspi_hk (x : Qspi) : (s.setQspi x).hk = s.hk := rfl
@[simp] theorem State.setQspi_sup (x : Qspi) : (s.setQspi x).sup = s.sup := rfl
@[simp] theorem State.setQspi_therm (x : Qspi) : (s.setQspi x).therm = s.therm := rfl
@[simp] theorem State.setQspi_spares (x : Qspi) : (s.setQspi x).spares = s.spares := rfl
@[simp] theorem State.setQspi_commit (x : Qspi) : (s.setQspi x).commit = s.commit := rfl
@[simp] theorem State.setQspi_auth (x : Qspi) : (s.setQspi x).auth = s.auth := rfl
@[simp] theorem State.setQspi_can (x : Qspi) : (s.setQspi x).can = s.can := rfl
@[simp] theorem State.setQspi_qspi (x : Qspi) : (s.setQspi x).qspi = x := rfl
@[simp] theorem State.setQspi_penn (x : Qspi) : (s.setQspi x).penn = s.penn := rfl
@[simp] theorem State.setQspi_modeSt (x : Qspi) : (s.setQspi x).modeSt = s.modeSt := rfl
@[simp] theorem State.setQspi_boot (x : Qspi) : (s.setQspi x).boot = s.boot := rfl
@[simp] theorem State.setQspi_rst (x : Qspi) : (s.setQspi x).rst = s.rst := rfl
@[simp] theorem State.setQspi_fuses (x : Qspi) : (s.setQspi x).fuses = s.fuses := rfl
@[simp] theorem State.setQspi_retLog (x : Qspi) : (s.setQspi x).retLog = s.retLog := rfl
@[simp] theorem State.setQspi_shedTick (x : Qspi) : (s.setQspi x).shedTick = s.shedTick := rfl
@[simp] theorem State.setQspi_rxTest (x : Qspi) : (s.setQspi x).rxTest = s.rxTest := rfl
@[simp] theorem State.setQspi_vaoTime (x : Qspi) : (s.setQspi x).vaoTime = s.vaoTime := rfl
@[simp] theorem State.setQspi_free (x : Qspi) : (s.setQspi x).free = s.free := rfl
@[simp] theorem State.setQspi_pending (x : Qspi) : (s.setQspi x).pending = s.pending := rfl

/-! ### setB -/

@[simp] theorem State.setB_mode (x : EnsignB) : (s.setB x).mode = s.mode := rfl
@[simp] theorem State.setB_objs (x : EnsignB) : (s.setB x).objs = s.objs := rfl
@[simp] theorem State.setB_shadow (x : EnsignB) : (s.setB x).shadow = s.shadow := rfl
@[simp] theorem State.setB_doms (x : EnsignB) : (s.setB x).doms = s.doms := rfl
@[simp] theorem State.setB_domShadow (x : EnsignB) : (s.setB x).domShadow = s.domShadow := rfl
@[simp] theorem State.setB_slot (x : EnsignB) : (s.setB x).slot = s.slot := rfl
@[simp] theorem State.setB_counting (x : EnsignB) : (s.setB x).counting = s.counting := rfl
@[simp] theorem State.setB_plan (x : EnsignB) : (s.setB x).plan = s.plan := rfl
@[simp] theorem State.setB_comet (x : EnsignB) : (s.setB x).comet = s.comet := rfl
@[simp] theorem State.setB_pipe (x : EnsignB) : (s.setB x).pipe = s.pipe := rfl
@[simp] theorem State.setB_res (x : EnsignB) : (s.setB x).res = s.res := rfl
@[simp] theorem State.setB_mir (x : EnsignB) : (s.setB x).mir = s.mir := rfl
@[simp] theorem State.setB_rx (x : EnsignB) : (s.setB x).rx = s.rx := rfl
@[simp] theorem State.setB_apd (x : EnsignB) : (s.setB x).apd = s.apd := rfl
@[simp] theorem State.setB_ens (x : EnsignB) : (s.setB x).ens = s.ens := rfl
@[simp] theorem State.setB_sweep (x : EnsignB) : (s.setB x).sweep = s.sweep := rfl
@[simp] theorem State.setB_ensB (x : EnsignB) : (s.setB x).ensB = x := rfl
@[simp] theorem State.setB_sealed (x : EnsignB) : (s.setB x).sealed = s.sealed := rfl
@[simp] theorem State.setB_paths (x : EnsignB) : (s.setB x).paths = s.paths := rfl
@[simp] theorem State.setB_spec (x : EnsignB) : (s.setB x).spec = s.spec := rfl
@[simp] theorem State.setB_trg (x : EnsignB) : (s.setB x).trg = s.trg := rfl
@[simp] theorem State.setB_cap (x : EnsignB) : (s.setB x).cap = s.cap := rfl
@[simp] theorem State.setB_dec (x : EnsignB) : (s.setB x).dec = s.dec := rfl
@[simp] theorem State.setB_cal (x : EnsignB) : (s.setB x).cal = s.cal := rfl
@[simp] theorem State.setB_fs (x : EnsignB) : (s.setB x).fs = s.fs := rfl
@[simp] theorem State.setB_link (x : EnsignB) : (s.setB x).link = s.link := rfl
@[simp] theorem State.setB_clk (x : EnsignB) : (s.setB x).clk = s.clk := rfl
@[simp] theorem State.setB_hk (x : EnsignB) : (s.setB x).hk = s.hk := rfl
@[simp] theorem State.setB_sup (x : EnsignB) : (s.setB x).sup = s.sup := rfl
@[simp] theorem State.setB_therm (x : EnsignB) : (s.setB x).therm = s.therm := rfl
@[simp] theorem State.setB_spares (x : EnsignB) : (s.setB x).spares = s.spares := rfl
@[simp] theorem State.setB_commit (x : EnsignB) : (s.setB x).commit = s.commit := rfl
@[simp] theorem State.setB_auth (x : EnsignB) : (s.setB x).auth = s.auth := rfl
@[simp] theorem State.setB_can (x : EnsignB) : (s.setB x).can = s.can := rfl
@[simp] theorem State.setB_qspi (x : EnsignB) : (s.setB x).qspi = s.qspi := rfl
@[simp] theorem State.setB_penn (x : EnsignB) : (s.setB x).penn = s.penn := rfl
@[simp] theorem State.setB_modeSt (x : EnsignB) : (s.setB x).modeSt = s.modeSt := rfl
@[simp] theorem State.setB_boot (x : EnsignB) : (s.setB x).boot = s.boot := rfl
@[simp] theorem State.setB_rst (x : EnsignB) : (s.setB x).rst = s.rst := rfl
@[simp] theorem State.setB_fuses (x : EnsignB) : (s.setB x).fuses = s.fuses := rfl
@[simp] theorem State.setB_retLog (x : EnsignB) : (s.setB x).retLog = s.retLog := rfl
@[simp] theorem State.setB_shedTick (x : EnsignB) : (s.setB x).shedTick = s.shedTick := rfl
@[simp] theorem State.setB_rxTest (x : EnsignB) : (s.setB x).rxTest = s.rxTest := rfl
@[simp] theorem State.setB_vaoTime (x : EnsignB) : (s.setB x).vaoTime = s.vaoTime := rfl
@[simp] theorem State.setB_free (x : EnsignB) : (s.setB x).free = s.free := rfl
@[simp] theorem State.setB_pending (x : EnsignB) : (s.setB x).pending = s.pending := rfl

end Sys2Proof.Machine
end

