-- ==== Sys2Proof/Laws/Store.lean ====
section
/-! SUPPORT. Laws of the sparse stores, of the register store over them, and of the Field Store's memory: a read after a write, every other place left alone, and the
canonical form kept by every memory operation. -/

namespace Sys2Proof.Machine

/-! ### Sparse stores -/

variable {α : Type}

theorem storeGet_storeSet (l : List (Nat × α)) (q k : Nat) (a : α) :
    storeGet (storeSet l q a) k = if k = q then some a else storeGet l k := by
  induction l with
  | nil => simp [storeSet, storeGet, eq_comm]
  | cons p l ih =>
    obtain ⟨j, v⟩ := p
    simp only [storeSet]
    split
    · by_cases h : k = q
      · simp [storeGet, h]
      · simp [storeGet, h, Ne.symm h]
    · split
      · next h2 =>
        subst h2
        by_cases h : k = j
        · simp [storeGet, h]
        · simp [storeGet, h, Ne.symm h]
      · next h2 =>
        by_cases h : j = k
        · subst h
          simp [storeGet, h2]
        · simp [storeGet, h, ih]

@[simp] theorem storeGet_storeSet_self (l : List (Nat × α)) (q : Nat) (a : α) : storeGet (storeSet l q a) q = some a := by
  simp [storeGet_storeSet]

theorem storeGet_storeDel (l : List (Nat × α)) (q k : Nat) :
    storeGet (storeDel l q) k = if k = q then none else storeGet l k := by
  induction l with
  | nil => simp [storeDel, storeGet]
  | cons p l ih =>
    obtain ⟨j, v⟩ := p
    simp only [storeDel]
    split
    · next h2 =>
      subst h2
      by_cases h : k = j
      · subst h
        simpa using ih
      · simp [ih, storeGet, h, Ne.symm h]
    · next h2 =>
      by_cases h : j = k
      · subst h
        simp [storeGet, h2]
      · simp [storeGet, h, ih]

theorem storeSorted_mono (l : List (Nat × α)) (a b : Nat) (hab : a ≤ b) (h : storeSorted (some b) l = true) : storeSorted (some a) l = true := by
  cases l with
  | nil => rfl
  | cons p l =>
    simp only [storeSorted, Bool.and_eq_true, decide_eq_true_eq] at h ⊢
    exact ⟨by omega, h.2⟩

theorem storeSorted_none (l : List (Nat × α)) (b : Nat) (h : storeSorted (some b) l = true) : storeSorted none l = true := by
  cases l with
  | nil => rfl
  | cons p l =>
    simp only [storeSorted, Bool.and_eq_true] at h ⊢
    exact h.2

theorem storeSorted_set_some (l : List (Nat × α)) (b q : Nat) (a : α) (hb : b < q) (h : storeSorted (some b) l = true) :
    storeSorted (some b) (storeSet l q a) = true := by
  induction l generalizing b with
  | nil => simpa [storeSet, storeSorted] using hb
  | cons p l ih =>
    obtain ⟨j, v⟩ := p
    simp only [storeSorted, Bool.and_eq_true, decide_eq_true_eq] at h
    by_cases h1 : q < j
    · simpa [storeSet, storeSorted, h1, hb] using h.2
    · by_cases h2 : j = q
      · subst h2
        simpa [storeSet, storeSorted, hb] using h.2
      · simpa [storeSet, storeSorted, h1, h2, h.1] using ih j (by omega) h.2

theorem storeSorted_set (l : List (Nat × α)) (q : Nat) (a : α) (h : storeSorted none l = true) : storeSorted none (storeSet l q a) = true := by
  cases l with
  | nil => rfl
  | cons p l =>
    obtain ⟨j, v⟩ := p
    simp only [storeSorted] at h
    by_cases h1 : q < j
    · simpa [storeSet, storeSorted, h1] using h
    · by_cases h2 : j = q
      · subst h2
        simpa [storeSet, storeSorted] using h
      · simpa [storeSet, storeSorted, h1, h2] using storeSorted_set_some l j q a (by omega) h

theorem storeSorted_del_some (l : List (Nat × α)) (b q : Nat) (h : storeSorted (some b) l = true) : storeSorted (some b) (storeDel l q) = true := by
  induction l generalizing b with
  | nil => rfl
  | cons p l ih =>
    obtain ⟨j, v⟩ := p
    simp only [storeSorted, Bool.and_eq_true, decide_eq_true_eq] at h
    by_cases h2 : j = q
    · simpa [storeDel, h2] using ih b (storeSorted_mono l b j (by omega) h.2)
    · simpa [storeDel, storeSorted, h2, h.1] using ih j h.2

theorem storeSorted_del (l : List (Nat × α)) (q : Nat) (h : storeSorted none l = true) : storeSorted none (storeDel l q) = true := by
  induction l with
  | nil => rfl
  | cons p l ih =>
    obtain ⟨j, v⟩ := p
    simp only [storeSorted] at h
    by_cases h2 : j = q
    · simpa [storeDel, h2] using ih (storeSorted_none l j h)
    · simpa [storeDel, storeSorted, h2] using storeSorted_del_some l j q h

theorem storeSorted_filter_some (l : List (Nat × α)) (b : Nat) (f : Nat × α → Bool) (h : storeSorted (some b) l = true) :
    storeSorted (some b) (l.filter f) = true := by
  induction l generalizing b with
  | nil => rfl
  | cons p l ih =>
    obtain ⟨j, v⟩ := p
    simp only [storeSorted, Bool.and_eq_true, decide_eq_true_eq] at h
    by_cases hf : f (j, v) = true
    · simpa [List.filter, hf, storeSorted, h.1] using ih j h.2
    · simpa [List.filter, hf] using ih b (storeSorted_mono l b j (by omega) h.2)

theorem storeSorted_filter (l : List (Nat × α)) (f : Nat × α → Bool) (h : storeSorted none l = true) : storeSorted none (l.filter f) = true := by
  induction l with
  | nil => rfl
  | cons p l ih =>
    obtain ⟨j, v⟩ := p
    simp only [storeSorted] at h
    by_cases hf : f (j, v) = true
    · simpa [List.filter, hf, storeSorted] using storeSorted_filter_some l j f h
    · simpa [List.filter, hf] using ih (storeSorted_none l j h)

theorem mem_storeSet (l : List (Nat × α)) (q : Nat) (a : α) (p : Nat × α) (h : p ∈ storeSet l q a) : p = (q, a) ∨ p ∈ l := by
  induction l with
  | nil => simpa [storeSet] using h
  | cons x l ih =>
    obtain ⟨j, v⟩ := x
    by_cases h1 : q < j
    · simpa [storeSet, h1] using h
    · by_cases h2 : j = q
      · subst h2
        simp [storeSet] at h
        rcases h with h | h <;> simp [h]
      · simp [storeSet, h1, h2] at h
        rcases h with h | h
        · simp [h]
        · rcases ih h with h | h <;> simp [h]

theorem mem_storeDel (l : List (Nat × α)) (q : Nat) (p : Nat × α) (h : p ∈ storeDel l q) : p ∈ l := by
  induction l with
  | nil => simp [storeDel] at h
  | cons x l ih =>
    obtain ⟨j, v⟩ := x
    by_cases h2 : j = q
    · simp [storeDel, h2] at h
      simp [ih h]
    · simp [storeDel, h2] at h
      rcases h with h | h
      · simp [h]
      · simp [ih h]

/-! ### Registers -/

theorem regOf_storePut (l : List (Nat × Nat)) (k q v : Nat) :
    regOf (storePut l k v (objDefault k)) q = if q = k then v else regOf l q := by
  by_cases h : v = objDefault k
  · by_cases hq : q = k <;> simp [regOf, storePut, h, storeGet_storeDel, hq]
  · by_cases hq : q = k <;> simp [regOf, storePut, h, storeGet_storeSet, hq]

/-- Every register after one was written. -/
theorem State.reg_put (s : State) (k q v : Nat) : (s.put k v).reg q = if q = k then v else s.reg q := regOf_storePut s.objs k q v

@[simp] theorem State.reg_put_self (s : State) (k v : Nat) : (s.put k v).reg k = v := by simp [State.reg_put]

theorem State.reg_put_ne (s : State) (k q v : Nat) (h : q ≠ k) : (s.put k v).reg q = s.reg q := by simp [State.reg_put, h]

/-- A state whose register store is another's has its registers. -/
theorem State.reg_congr (s t : State) (h : t.objs = s.objs) (k : Nat) : t.reg k = s.reg k := by simp [State.reg, h]

/-! ### The Field Store's memory -/

/-- A read after a write of one byte. -/
theorem memGet_memPut (l : List Host.Cell) (a k : Nat) (b : Byte) : memGet (memPut l a b) k = if k = a then b else memGet l k := by
  have key : ∀ m : List Host.Cell, ∀ q, memGet m q = (storeGet m q).getD memDefault := by
    intro m q
    induction m with
    | nil => rfl
    | cons x m ih =>
      obtain ⟨j, v⟩ := x
      by_cases h : j = q <;> simp [memGet, storeGet, h, ih]
  by_cases h : b = memDefault
  · by_cases hk : k = a <;> simp [key, memPut, h, storeGet_storeDel, hk]
  · by_cases hk : k = a <;> simp [key, memPut, h, storeGet_storeSet, hk]

/-- Bytes outside those written stay. -/
theorem memGet_memPutAll_out (bs : List Byte) (l : List Host.Cell) (a k : Nat) (h : k < a ∨ a + bs.length ≤ k) :
    memGet (memPutAll l a bs) k = memGet l k := by
  induction bs generalizing l a with
  | nil => rfl
  | cons b bs ih =>
    simp only [List.length_cons] at h
    rw [memPutAll, ih _ _ (by omega), memGet_memPut, if_neg (by omega)]

/-- Bytes written read back. -/
theorem memGet_memPutAll_in (bs : List Byte) (l : List Host.Cell) (a i : Nat) (h : i < bs.length) :
    memGet (memPutAll l a bs) (a + i) = bs[i] := by
  induction bs generalizing l a i with
  | nil => simp at h
  | cons b bs ih =>
    cases i with
    | zero =>
      rw [memPutAll, memGet_memPutAll_out _ _ _ _ (by omega), memGet_memPut]
      simp
    | succ i =>
      have h' : i < bs.length := by simpa using h
      have := ih (memPut l a b) (a + 1) i h'
      rw [memPutAll, show a + (i + 1) = a + 1 + i by omega, this]
      simp

theorem memPut_wf (l : List Host.Cell) (a : Nat) (b : Byte) (h : Memory.wf l = true) : Memory.wf (memPut l a b) = true := by
  simp only [Memory.wf, Bool.and_eq_true, List.all_eq_true] at h ⊢
  by_cases hb : b = memDefault
  · simp only [memPut, hb, if_true]
    exact ⟨storeSorted_del l a h.1, fun c hc => h.2 c (mem_storeDel l a c hc)⟩
  · simp only [memPut, hb, if_false]
    refine ⟨storeSorted_set l a b h.1, fun c hc => ?_⟩
    rcases mem_storeSet l a b c hc with hc | hc
    · simpa [hc] using hb
    · exact h.2 c hc

theorem memPutAll_wf (bs : List Byte) (l : List Host.Cell) (a : Nat) (h : Memory.wf l = true) : Memory.wf (memPutAll l a bs) = true := by
  induction bs generalizing l a with
  | nil => exact h
  | cons b bs ih => exact ih _ _ (memPut_wf l a b h)

theorem memFilter_wf (l : List Host.Cell) (f : Host.Cell → Bool) (h : Memory.wf l = true) : Memory.wf (l.filter f) = true := by
  simp only [Memory.wf, Bool.and_eq_true, List.all_eq_true] at h ⊢
  exact ⟨storeSorted_filter l f h.1, fun c hc => h.2 c (List.mem_filter.mp hc).1⟩

theorem memClearBank_wf (l : List Host.Cell) (p : Nat) (h : Memory.wf l = true) : Memory.wf (memClearBank l p) = true := memFilter_wf l _ h

theorem memCopyBank_wf (l : List Host.Cell) (p q : Nat) (h : Memory.wf l = true) : Memory.wf (memCopyBank l p q) = true := by
  have fold : ∀ (cs m : List Host.Cell), Memory.wf m = true →
      Memory.wf (cs.foldl (fun m c => memPut m (q * bankBytes + c.1 % bankBytes) c.2) m) = true := by
    intro cs
    induction cs with
    | nil => exact fun _ h => h
    | cons c cs ih => exact fun m hm => ih _ (memPut_wf m _ _ hm)
  exact fold _ _ (memFilter_wf l _ h)

theorem reset_memory_wf : Memory.wf State.reset.fs.mem = true := rfl

end Sys2Proof.Machine
end

