-- ==== Sys2Proof/Laws/Rows.lean ====
section
/-! SUPPORT. What the operations that the commands share do: one lemma for each case of the die an event needs, the turn of a tick row and the steps of a
host write. -/

namespace Sys2Proof.Machine

variable (s : State)

/-! ### The die an event needs -/

theorem State.core_on (f : State → State) (h : s.mode.coreRuns = true) : s.core f = f s := by simp [State.core, h]

theorem State.core_off (f : State → State) (h : s.mode.coreRuns = false) : s.core f = s := by simp [State.core, h]

theorem State.powered_on (f : State → State) (h : s.mode ≠ .off) : s.powered f = f s := by simp [State.powered, h]

theorem State.powered_off (f : State → State) (h : s.mode = .off) : s.powered f = s := by simp [State.powered, h]

theorem State.onlyIf_true (f : State → State) (c : Bool) (h : c = true) : s.onlyIf c f = f s := by simp [State.onlyIf, h]

theorem State.onlyIf_false (f : State → State) (c : Bool) (h : c = false) : s.onlyIf c f = s := by simp [State.onlyIf, h]

/-! ### Rows of the tick to come -/

theorem State.tickRow_due (d : Bool) (f : State → State) (hd : d = true) (ht : s.ticking = true) : s.tickRow d f = f s.slotCatchUp.calFrame := by
  simp [State.tickRow, hd, ht]

theorem State.tickRow_not_due (d : Bool) (f : State → State) (h : d = false ∨ s.ticking = false) : s.tickRow d f = s := by
  rcases h with h | h <;> simp [State.tickRow, h]

theorem State.wordRow_turn (op : Nat) (f : State → State) (h : s.wordTurn op = true) (ht : s.ticking = true)
    (hu : s.slotCatchUp.calFrame.wordTurn op = true) : s.wordRow op f = f s.slotCatchUp.calFrame := by
  simp [State.wordRow, State.tickRow, h, ht, hu]

theorem State.wordRow_no_turn (op : Nat) (f : State → State) (h : s.wordTurn op = false) : s.wordRow op f = s := by
  simp [State.wordRow, State.tickRow, h]

/-! ### Host writes -/

theorem State.find_ok (p : Path) (k : Nat) (r : ObjRow) (hs : s.serves p k = true) (hr : objRow? k = some r) : s.find p k = .ok r := by
  simp [State.find, hs, hr]

theorem State.hostWrite_silent (k : Nat) (w : HostWrite) (h : s.answers = false) : s.hostWrite k w = s := by simp [State.hostWrite, h]

theorem State.hostDomain_silent (k : Nat) (w : HostWrite) (h : s.answers = false) : s.hostDomain k w = s := by simp [State.hostDomain, h]

/-- A write that some check refuses changes nothing but its path's result. -/
theorem State.hostWrite_refused (k : Nat) (w : HostWrite) (r : ObjRow) (ha : s.answers = true) (hs : s.serves w.path k = true)
    (hr : objRow? k = some r) (hd : r.isDomain = false) (hf : s.writeRefusal s.mode r k w.data ≠ 0) :
    s.hostWrite k w = noteResult w.path (s.writeRefusal s.mode r k w.data, s) := by
  simp [State.hostWrite, ha, State.regWrite, s.find_ok w.path k r hs hr, State.writeFound, hd, hf]

/-- A write whose checks pass has its register's effect. -/
theorem State.hostWrite_ok (k : Nat) (w : HostWrite) (r : ObjRow) (ha : s.answers = true) (hs : s.serves w.path k = true)
    (hr : objRow? k = some r) (hd : r.isDomain = false) (hf : s.writeRefusal s.mode r k w.data = 0) (hc : (r.acc == .rwc) = false) :
    s.hostWrite k w = noteResult w.path ((s.onlyIf (r.acc == .rws) fun s => s.keepForce k).writeReg w.path.num k (ofLe w.data) w.cc w.ecc) := by
  simp [State.hostWrite, ha, State.regWrite, s.find_ok w.path k r hs hr, State.writeFound, hd, hf, hc]

/-- A write of a register with a shadow changes the shadow. -/
theorem State.hostWrite_shadow (k : Nat) (w : HostWrite) (r : ObjRow) (ha : s.answers = true) (hs : s.serves w.path k = true)
    (hr : objRow? k = some r) (hd : r.isDomain = false) (hf : s.writeRefusal s.mode r k w.data = 0) (hc : (r.acc == .rwc) = true) :
    s.hostWrite k w = noteResult w.path (0, s.shadowPut k (ofLe w.data)) := by
  simp [State.hostWrite, ha, State.regWrite, s.find_ok w.path k r hs hr, State.writeFound, hd, hf, hc]

/-- A write of a DOMAIN has its owner's result and effect. -/
theorem State.hostDomain_ok (k : Nat) (w : HostWrite) (r : ObjRow) (ha : s.answers = true) (hs : s.serves w.path k = true)
    (hr : objRow? k = some r) : s.hostDomain k w = noteDomain w.path (s.writeDomain s.mode r k w.cc w.data) := by
  simp [State.hostDomain, ha, State.domWrite, s.find_ok w.path k r hs hr]

/-! ### The end of every meaning -/

theorem finish_next : finish s = .next s.settle := rfl

end Sys2Proof.Machine
end

