-- ==== Sys2Proof/WellFormed.lean ====
section
/-! DEFINITION. Which commands are well formed: what a command carries has the shape its source gives it. A meaning does not rest on it: what a command
carries beyond its shape has no effect or is refused as the rules say. -/

namespace Sys2Proof

open Machine

/-- Every channel listed, no more samples than a slot has, codes of the converter's 12 bits (R9, R99), units of OVERRUN_UNITS, TDC codes of 7 bits. -/
def tickWf (i : TickInput) : Bool :=
  decide (i.samples.length ≤ 48) && i.samples.all (fun l => decide (l.length ≤ 11200) && l.all fun c => decide (-2048 ≤ c ∧ c ≤ 2047))
    && decide (i.overrun < 65536) && decide (i.progress.length ≤ 48) && i.oscCodes.all fun c => decide (c < 128)

/-- No host write is longer than the longest DOMAIN (R46). -/
def writeWf (w : HostWrite) : Bool := decide (w.data.length ≤ 524288)

/-- A CAN FD frame holds 64 bytes, a sideband packet 1,024 (R275, R294); the QSPI port carries no messages. -/
def requestWf (q : Request) : Bool :=
  match q.path with
  | .canA | .canB => decide (q.bytes.length ≤ 64)
  | .sideband => decide (q.bytes.length ≤ 1024)
  | .qspi => false

/-- Fields of a record of AUTH_WRITE (Table 11.9). -/
def authWf (a : AuthWrite) : Bool :=
  decide (a.len < 256) && decide (a.counter < 2 ^ 32) && decide (a.data < 2 ^ 64) && a.tag.length == 8

/-- A 16-bit conversion within the present slot, leads of an RTD (R330, R348). -/
def readingWf (r : HkReading) : Bool :=
  decide (-32768 ≤ r.code ∧ r.code ≤ 32767) && decide (-32768 ≤ r.coarse ∧ r.coarse ≤ 32767) && decide (r.leads < 16) && decide (r.cc < 2800)

/-- The resistances of four straps (R393). -/
def strapsWf (l : List Nat) : Bool := l.length == 4

/-- Finds name words of the 50 physical banks (R220). -/
def eccWf (l : Ecc) : Bool := l.all fun f => decide (f.1 < 50 * 524288)

/-- A command is well formed. -/
def Instr.wf : Instr → Bool
  | .slotTick i => tickWf i
  | .pendingPlanWrite w | .pendingTableWrite _ w | .objectWrite _ w | .asMapWrite _ w | .calImageWrite w => writeWf w
  | .read q | .write q | .dread q | .dwrite q | .connect q | .abort q => requestWf q
  | .sealProgram a | .degAck a | .retireBurn a => authWf a
  | .hkConversionDone r | .urgentComplete r => readingWf r
  | .strapRead l => strapsWf l
  | .bootStart i => strapsWf i.straps
  | .apdBoostPeriod _ meas imeas => meas.length == 4 && imeas.length == 4
  | .tsReading l => l.length == 12
  | .bankCopyDone e | .densityInitDone _ e => eccWf e.ecc
  | .scrubRow _ l | .granuleIssue _ _ l | .captureHeaderWritten _ l | .dmaFsToStreamer _ _ l
  | .dmaFsToQspi _ _ l | .dmaQspiToFs _ _ l | .dmaCompletion _ _ l | .dmaContinue _ _ l => eccWf l
  | .sideband _ _ b => decide (b.length ≤ 16384)
  | _ => true

end Sys2Proof
end

