-- ==== Sys2Proof/Tests/Slice0.lean ====
section
/-! SUPPORT. The model's own tests: for every statement with hypotheses a state and operands that meet them, clause by clause (`test_hyp_…`), the commands that are
not well formed, worked examples of the manual and single steps. -/

open Sys2Proof Sys2Proof.Machine
namespace Sys2Proof.Tests
set_option maxRecDepth 100000
set_option Elab.async false

/-- A state with other values in some registers. -/
def setRegs (s : State) (l : List (Nat × Nat)) : State := l.foldl (fun t p => t.put p.1 p.2) s

/-- STANDBY after BOOT, both PLLs locked, slots counted. -/
def stby : State :=
  setRegs { State.reset with mode := .standby, boot := { answers := true }, counting := true, clk := { slotLocked := true } }
    [(K.PLLA_STATE, 2), (K.PLLB_STATE, 2), (K.MIR_STATE, 1)]

/-- A plan DOMAIN with these operation words after an empty header. -/
def planOf (l : List Nat) : List Byte := List.replicate 64 0 ++ l.flatMap (leBytes 8)

/-- SCAN with Comet at the first word of an active plan. -/
def runs (l : List Nat) : State :=
  { stby with mode := .scan, plan := { active := { plan := planOf l }, hasActive := true }, comet := { running := true, frameLen := 8 } }

/-- A write of `v` in `n` bytes over CAN port A at cc 0. -/
def wr (n v : Nat) : HostWrite := { path := .canA, cc := 0, data := leBytes n v }

/-- A write over CAN port A whose value its row names. -/
def at0 : HostAt := { path := .canA, cc := 0 }
/-! ### Hypotheses that a state meets: chapters 1 to 3 -/

theorem test_hyp_PendingBank :
    (stby.mayWrite (wr 1 0).path K.PENDING_PLAN = true ∧ planLenOk (planOf [0, 0, 0]).length = true ∧ planLenOk ([] : List Byte).length = true ∧ stby.planHeld = false)
    ∧ (stby.put K.SWAP_STATE 2).planHeld = true ∧ (stby.put K.CHECK_RESULT (2 ^ 24)).planHeld = true
    ∧ (stby.put K.SWAP_STATE 2).mayWrite .canA K.PENDING_PLAN = true
    ∧ (stby.mayWrite .canA (K.PENDING_TABLE 4) = true ∧ tableLenOk (List.replicate 64 (0 : Byte)).length = true)
    ∧ stby.mayWrite .canA K.PLAN_CHECK = true ∧ (stby.put K.SWAP_STATE 2).mayWrite .canA K.PLAN_CHECK = true
    ∧ stby.mode.coreRuns = true ∧ (stby.put K.CHECK_RESULT (2 ^ 24)).checkState = 1 := by decide +kernel

/-- A plan of these words behind a header that is right for them and for these tables. -/
def planBank (body : List Nat) (tables : List (List Byte)) : PlanBank :=
  let head := leBytes 8 (0x434D0102 * 2 ^ 32 + body.length + 8) ++ leBytes 16 0 ++ leBytes 8 (crc32 tables.flatten) ++ leBytes 24 0
  let rest := body.flatMap (leBytes 8)
  { plan := head ++ leBytes 8 (crc32 (head ++ rest)) ++ rest, tables := tables }

/-- FRAME of 256 slots, ACCUM of groups of 2, SLOT, IDLE with a COUNT, and a JUMP to the first word. -/
def frameW : Nat := 2 ^ 56 + 255 * 2 ^ 32
/-- See `frameW`. -/
def accumW : Nat := 5 * 2 ^ 56 + 2 * 2 ^ 48 + 1
/-- See `frameW`. -/
def slotW (n : Nat) : Nat := 2 * 2 ^ 56 + n
/-- See `frameW`. -/
def idleW (n : Nat) : Nat := 9 * 2 ^ 56 + n
/-- See `frameW`. -/
def jumpW : Nat := 14 * 2 ^ 56 + 8

/-- A plan that fires nothing, over a trajectory of 256 slots at rest. -/
def idlePlan : PlanBank := planBank [frameW, 7 * 2 ^ 56 + 100, idleW 156, jumpW] [[], [], [], List.replicate 2048 0, []]

theorem maxCyclic_zeros (n win : Nat) : maxCyclic (List.replicate n 0) win = 0 := by
  have hs : ∀ n, sumNat (List.replicate n 0) = 0 := by
    intro n
    induction n with
    | zero => rfl
    | succ n ih => simpa [sumNat, List.replicate_succ] using ih
  have hf : ∀ n (a : Array Nat), (∀ i, a.getD i 0 = 0) → ∀ i,
      ((List.replicate n 0).foldl (fun (p : Array Nat × Nat) v => (p.1.push p.2, p.2 + v)) (a, 0)).1.getD i 0 = 0 := by
    intro n
    induction n with
    | zero => intro a h; exact h
    | succ n ih =>
      intro a h
      rw [List.replicate_succ, List.foldl_cons]
      apply ih
      intro i
      have hi := h i
      simp only [Array.getD_eq_getD_getElem?, Array.getElem?_push] at hi ⊢
      split <;> simp_all
  have hm : ∀ l : List Nat, l.foldl (fun m _ => max m 0) 0 = 0 := by
    intro l
    induction l with
    | nil => rfl
    | cons a l ih => simp
  have hz := hf n #[] (by intro i; rfl)
  simp only [maxCyclic, List.length_replicate, hs, hz, Nat.add_zero, Nat.sub_zero, ite_self, hm, Nat.mul_zero]

theorem idlePlan_fires : ((List.range 16).all fun e => ((walkPlan (planWords idlePlan.plan) walkFuel {}).cycle.map fun s =>
    if s.emitters.contains e then nomEnergy idlePlan e s.fire.eidx s.res else 0) == List.replicate 256 0) = true := by decide +kernel

theorem idlePlan_ensign : ensignFault idlePlan {} (walkPlan (planWords idlePlan.plan) walkFuel {}).pass (walkPlan (planWords idlePlan.plan) walkFuel {}).cycle = none := by
  have h1 : ((walkPlan (planWords idlePlan.plan) walkFuel {}).pass.findSome? fun s =>
    s.emitters.findSome? fun e => (fireRule idlePlan {} s e).map fun r => s.at 12 (Config.checkUnit (16 + r) % 256 * 256 + e)) = none := by decide +kernel
  have h2 := idlePlan_fires
  simp only [List.all_eq_true, beq_iff_eq] at h2
  rw [ensignFault, h1]
  dsimp only
  rw [List.findSome?_eq_none_iff]
  intro e he
  rw [h2 e he, maxCyclic_zeros, maxCyclic_zeros, if_neg (Nat.not_lt_zero _), if_neg (Nat.not_lt_zero _)]

theorem idlePlan_walk : textFault idlePlan = none ∧ (walkPlan (planWords idlePlan.plan) walkFuel {}).fault = none
    ∧ (walkPlan (planWords idlePlan.plan) walkFuel {}).order = none
    ∧ (groupWalk (walkPlan (planWords idlePlan.plan) walkFuel {}).slots.reverse {} []).1.fault = none
    ∧ resourceFault idlePlan {} (planWords idlePlan.plan) (walkPlan (planWords idlePlan.plan) walkFuel {}).pass = none
    ∧ budgetStage idlePlan {} ((walkPlan (planWords idlePlan.plan) walkFuel {}).slots.reverse.zip
        (groupWalk (walkPlan (planWords idlePlan.plan) walkFuel {}).slots.reverse {} []).2) (walkPlan (planWords idlePlan.plan) walkFuel {}).budgetWords = none := by decide +kernel

theorem checkPlan_passes (b : PlanBank) (lim : CheckLimits) (n : Option Nat) (w : Walk) (hw : walkPlan (planWords b.plan) walkFuel {} = w) (h1 : textFault b = none)
    (h2 : w.fault = none) (h3 : w.order = none) (h4 : (groupWalk w.slots.reverse {} []).1.fault = none) (h5 : resourceFault b lim (planWords b.plan) w.pass = none)
    (h6 : budgetStage b lim (w.slots.reverse.zip (groupWalk w.slots.reverse {} []).2) w.budgetWords = none) (h7 : ensignFault b lim w.pass w.cycle = none) :
    (checkPlan b lim n).1.code = 0 := by
  simp only [checkPlan, hw, h1, h2, h3, h4, h5, h6, h7, Option.none_or]

/-- A plan that does nothing is accepted. -/
theorem test_hyp_PendingBank_accepted : (checkPlan idlePlan {} none).1.code = 0 :=
  have ⟨h1, h2, h3, h4, h5, h6⟩ := idlePlan_walk
  checkPlan_passes _ _ _ _ rfl h1 h2 h3 h4 h5 h6 idlePlan_ensign

theorem test_hyp_PendingBank_refused :
    ([] : List Byte).length < 72 ∧ wordAt (planWords (List.replicate 72 0)) 0 = 0
    ∧ (let h := wordAt (planWords (leBytes 8 (0x434D0102 * 2 ^ 32 + 8) ++ leBytes 64 0)); bits (h 0) 63 48 = 0x434D ∧ bits (h 0) 47 32 = 0x0102 ∧ bits (h 0) 15 0 < 9)
    ∧ (let h := wordAt (planWords (leBytes 8 (0x434D0102 * 2 ^ 32 + 10) ++ leBytes 64 0)); 9 ≤ bits (h 0) 15 0 ∧ bits (h 0) 15 0 * 8 ≠ 72)
    ∧ (let h := wordAt (planWords (leBytes 8 (0x434D0102 * 2 ^ 32 + 9) ++ leBytes 24 0 ++ leBytes 8 1 ++ leBytes 32 0))
       bits (h 0) 15 0 * 8 = 72 ∧ bits (h 0) 31 16 = 0 ∧ bits (h 1) 31 0 = 0 ∧ bits (h 3) 63 32 = 0 ∧ h 4 ≠ 0)
    ∧ (let p := leBytes 8 (0x434D0102 * 2 ^ 32 + 9) ++ leBytes 64 0; crc32 (p.take 56 ++ p.drop 64) ≠ bits (wordAt (planWords p) 7) 31 0)
    ∧ (let b : PlanBank := { planBank [frameW] [] with tables := [[1]] }
       crc32 (b.plan.take 56 ++ b.plan.drop 64) = bits (wordAt (planWords b.plan) 7) 31 0 ∧ crc32 b.tables.flatten ≠ bits (wordAt (planWords b.plan) 3) 31 0)
    ∧ (let h := wordAt (planWords (planBank [frameW, 0] []).plan); opcodeOk (h 8) = true ∧ fieldOk (h 8) = true ∧ opcodeOk (h 9) = false)
    ∧ (let h := wordAt (planWords (planBank [frameW, 4 * 2 ^ 56 + 2 ^ 52] []).plan); opcodeOk (h 9) = true ∧ fieldOk (h 9) = false)
    ∧ (let h := wordAt (planWords (planBank [idleW 1] []).plan); opcodeOk (h 8) = true ∧ fieldOk (h 8) = true ∧ opOf (h 8) ≠ 1)
    ∧ (checkPlan (planBank [idleW 1] []) {} none).1.code = 7 := by decide +kernel

/-- The walk of a plan that faults in it, one with its words out of order, one with an IDLE in a group, one without its tables and one with 33 words before a slot. -/
theorem test_hyp_PendingBank_stages :
    (let b := planBank [frameW] []; textFault b = none ∧ (walkPlan (planWords b.plan) walkFuel {}).fault.isSome = true)
    ∧ (let b := planBank [frameW, 3 * 2 ^ 56, idleW 256, jumpW] []; let w := walkPlan (planWords b.plan) walkFuel {}
       textFault b = none ∧ w.fault = none ∧ w.order.isSome = true)
    ∧ (let b := planBank [frameW, accumW, slotW 1, idleW 255, jumpW] []; let w := walkPlan (planWords b.plan) walkFuel {}
       textFault b = none ∧ w.fault = none ∧ w.order = none ∧ (groupWalk w.slots.reverse {} []).1.fault.isSome = true)
    ∧ (let b := planBank [frameW, idleW 256, jumpW] []; let w := walkPlan (planWords b.plan) walkFuel {}
       textFault b = none ∧ w.fault = none ∧ w.order = none ∧ (groupWalk w.slots.reverse {} []).1.fault = none ∧ (resourceFault b {} (planWords b.plan) w.pass).isSome = true)
    ∧ (let b := planBank ([frameW] ++ List.replicate 33 accumW ++ [idleW 256, jumpW]) [[], [], [], List.replicate 2048 0, []]; let w := walkPlan (planWords b.plan) walkFuel {}
       let g := groupWalk w.slots.reverse {} []
       textFault b = none ∧ w.fault = none ∧ w.order = none ∧ g.1.fault = none ∧ resourceFault b {} (planWords b.plan) w.pass = none
        ∧ (budgetStage b {} (w.slots.reverse.zip g.2) w.budgetWords).isSome = true) := by decide +kernel

theorem test_hyp_PendingBank_walk :
    (let ws := #[0, 0, 0, 0, 0, 0, 0, 0, 2 ^ 56, 3 * 2 ^ 56, 9 * 2 ^ 56, 10 * 2 ^ 56]
     ws.size ≤ ({ pc := 12 } : Walk).pc ∧ opOf (wordAt ws 8) = 1 ∧ opOf (wordAt ws 9) = 3 ∧ opOf (wordAt ws 10) = 9 ∧ opOf (wordAt ws 11) = 0x0A
      ∧ (let w : Walk := { pc := 9, started := true, frameLen := 256, fslot := 256 }; w.pc < ws.size ∧ w.started = true ∧ w.frameLen ≤ w.fslot)
      ∧ (let w : Walk := { pc := 8, started := true, frameLen := 256, fslot := 255 }; w.pc < ws.size ∧ w.started = true ∧ w.fslot < w.frameLen)
      ∧ ({} : Walk).started = false)
    ∧ (let g : GroupWalk := { cnt := 1 }; let x : WalkSlot := { newFrame := true }; g.fault = none ∧ g.cnt ≠ 0 ∧ x.newFrame = true)
    ∧ (let g : GroupWalk := { cnt := 1 }; let x : WalkSlot := { kind := .idle, accum := some (2, 1) }; g.cnt ≠ 0 ∧ x.newFrame = false ∧ x.changed = false ∧ x.accum = some (2, 1) ∧ x.kind ≠ .slot)
    ∧ (let g : GroupWalk := { cnt := 1, emask := 5, eidx := 7 }; let x : WalkSlot := { kind := .slot, accum := some (2, 1) }
       g.fault = none ∧ x.kind = .slot ∧ x.accum = some (2, 1) ∧ ¬(g.emask = x.fire.emask ∧ g.eidx = x.fire.eidx) ∧ ({} : GroupWalk).cnt = 0) := by decide +kernel

/-- A swap that is due at the tick to come, where no plan runs and where one does. -/
def swapOff : State := { setRegs stby [(K.SWAP_STATE, 2)] with plan := { swapTicks := 1 } }
/-- See `swapOff`. -/
def swapOn : State := { setRegs (runs []) [(K.SWAP_STATE, 2)] with plan := { (runs []).plan with swapTicks := 1 }, comet := { running := true, startDue := true } }

theorem test_hyp_PlanSwap :
    (stby.mayWrite .canA K.PLAN_SWAP = true ∧ (stby.put K.SWAP_STATE 1).swapHolds = true ∧ (stby.put K.SWAP_STATE 1).swapDue = false)
    ∧ (stby.swapHolds = false ∧ (stby.put K.CHECK_RESULT (2 * 2 ^ 24)).checkState = 2 ∧ dithers stby.plan.pending = false)
    ∧ stby.checkState ≠ 2
    ∧ (swapOff.swapDue = true ∧ 2800 ≤ (2760 : Fin 2800).val + 40 ∧ (2759 : Fin 2800).val + 40 < 2800)
    ∧ (stby.put K.SWAP_STATE 1).reg K.SWAP_STATE = 1
    ∧ (swapOff.ticking = true ∧ swapOff.atTick.swapDue = true ∧ swapOff.atTick.calFrame.mode.isRunning = false)
    ∧ (swapOn.ticking = true ∧ swapOn.swapDue = true ∧ swapOn.atTick.swapDue = true ∧ swapOn.atTick.calFrame.mode.isRunning = true
      ∧ swapOn.atTick.calFrame.plan.hasActive = true) := by decide +kernel

/-- A state in which a MARK of the present slot waits. -/
def marked : State := { stby with pipe := { stby.pipe with cur := { marks := [{ code := 1, sample := 11199 }] } } }

theorem test_hyp_SlotAndStateWords :
    ((runs [2 * 2 ^ 56 + 1]).wordReady 2 = true ∧ bits (runs [2 * 2 ^ 56 + 1]).atTick.cometWord 15 0 = 1)
    ∧ ((runs [7 * 2 ^ 56 + 65535]).wordReady 7 = true ∧ bits (runs [7 * 2 ^ 56 + 65535]).atTick.cometWord 15 0 = 65535)
    ∧ (runs [8 * 2 ^ 56 + 1]).wordReady 8 = true ∧ (runs [9 * 2 ^ 56 + 1]).wordReady 9 = true
    ∧ ((runs [2 * 2 ^ 56]).wordReady 2 = true ∧ bits (runs [2 * 2 ^ 56]).atTick.cometWord 15 0 = 0)
    ∧ (runs [3 * 2 ^ 56]).wordReady 3 = true ∧ (runs [10 * 2 ^ 56]).wordReady 0x0A = true ∧ (runs [10 * 2 ^ 56]).pipe.cur.marks = []
    ∧ marked.pipe.cur.marks = { code := 1, sample := 11199 } :: []
    ∧ ({ code := 1, sample := 11199 } : MarkEv).toSlotOut = false ∧ ({ code := 1, sample := 11199 } : MarkEv).toTrig = false ∧ ({ code := 1, sample := 11199 } : MarkEv).toHk = false := by decide +kernel

theorem test_hyp_SlotAndStateWords_state :
    (runs [4 * 2 ^ 56]).wordReady 4 = true ∧ (runs [5 * 2 ^ 56]).wordReady 5 = true ∧ (runs [6 * 2 ^ 56]).wordReady 6 = true
    ∧ (runs [13 * 2 ^ 56]).wordReady 0x0D = true
    ∧ (let s : State := { runs [] with comet := { running := true, released := false, waitCond := 1, left := 2 } }
       s.ticking = true ∧ s.comet.running = true ∧ s.comet.released = false ∧ s.atTick.comet.running = true ∧ s.atTick.comet.released = false ∧ s.atTick.comet.waitCond &&& s.atTick.waitConds = 1)
    ∧ (let s : State := { runs [] with comet := { running := true, released := false, waitCond := 4, left := 2 } }
       s.atTick.comet.released = false ∧ s.atTick.comet.waitCond &&& s.atTick.waitConds ≠ s.atTick.comet.waitCond) := by decide +kernel

/-- SCAN with Comet at a slot, over energy entries of which emitter 15 has two no wider than half of its widest and emitter 14 none. -/
def forming (c : Comet) : State :=
  { stby with mode := .scan, comet := c
              plan := { active := { tables := [[], [], [], [], List.replicate 448 0 ++ ([2000, 2000, 2000, 2000, 2000, 2000, 2000, 2000] ++ [500, 900, 1500, 1800, 1900, 1950, 1990, 2000]).flatMap fun w => leBytes 4 (w * 2 ^ 20)] }
                        hasActive := true } }
/-- A SLOT of a plan that fires emitters 14 and 15 at entry 7. -/
def firing : Comet := { running := true, left := 2, kind := .slot, wordFire := some { emask := 0xC000, eidx := 7 } }

theorem test_hyp_SlotAndStateWords_formed :
    ¬((forming {}).comet.running = true ∧ 0 < (forming {}).comet.left)
    ∧ (let q := (forming { running := true, left := 1, kind := .idle }).comet; q.running = true ∧ 0 < q.left ∧ q.kind ≠ .slot)
    ∧ (let s := forming firing; s.comet.running = true ∧ 0 < s.comet.left ∧ s.comet.kind = .slot ∧ s.locked = true ∧ s.shedTick < 2 ∧ s.comet.throttleFrame = false ∧ s.mode = .scan
      ∧ s.comet.released = true ∧ s.comet.wordFire = some { emask := 0xC000, eidx := 7 } ∧ s.cappedEntry 15 7 = some 7)
    ∧ (let s : State := { forming firing with shedTick := 3 }; 3 ≤ s.shedTick)
    ∧ (let s := (forming { firing with throttleFrame := true }).put K.FRAME_COUNT 7; s.comet.throttleFrame = true ∧ s.reg K.FRAME_COUNT % 2 = 1)
    ∧ (let s : State := { forming { firing with frameDone := 5 } with shedTick := 2 }; 2 ≤ s.shedTick ∧ s.comet.accum = none ∧ s.comet.frameDone % 2 = 1)
    ∧ (let s : State := { forming { firing with accum := some (4, 8), groupOrd := 1 } with shedTick := 2 }; s.comet.accum.isSome = true ∧ s.comet.groupPos = 0 ∧ s.comet.groupOrd % 2 = 1)
    ∧ (let s : State := { forming { firing with accum := some (4, 8), groupPos := 3, groupMasked := true } with shedTick := 2 }
       s.comet.groupPos ≠ 0 ∧ s.comet.groupMasked = true ∧ s.comet.accum = some (4, 8) ∧ 4 ≤ s.comet.groupPos + 1)
    ∧ (let s : State := { forming firing with mode := .degraded, ensB := { surveyFrom := true } }; s.mode = .degraded ∧ s.ensB.surveyFrom = true)
    ∧ (forming { firing with released := false }).comet.released = false
    ∧ ({ forming firing with clk := {} } : State).locked = false ∧ (forming { firing with wordFire := none }).comet.wordFire = none
    ∧ (let s : State := { forming { firing with frameDone := 4 } with shedTick := 2 }
       s.comet.frameDone % 2 ≠ 1 ∧ bitAt 0xC000 15 = true ∧ s.cappedEntry 15 7 = some 1 ∧ s.cappedEntry 14 7 = none) := by decide +kernel

theorem test_hyp_SlotAndStateWords_capped :
    (let s := forming {}; let w : Nat → Nat := fun k => (energyOf s.plan.active 15 k).1; s.shedTick < 2 ∧ s.reg K.THROT_STEP < 4 ∧ w 1 ≤ w 7 / 2)
    ∧ (let s := (forming {}).put K.THROT_STEP 4; let w : Nat → Nat := fun k => (energyOf s.plan.active 14 k).1; 4 ≤ s.reg K.THROT_STEP ∧ w 7 / 2 < w 0 ∧ ∀ k < 8, w 7 / 2 < w k)
    ∧ (let s := (forming {}).put K.THROT_STEP 4; let w : Nat → Nat := fun k => (energyOf s.plan.active 15 k).1; w 7 / 2 < w 2 ∧ w 1 ≤ w 7 / 2 ∧ ∀ j < 8, 1 < j → w 7 / 2 < w j) := by decide +kernel

theorem test_hyp_ControlWords :
    ((runs [11 * 2 ^ 56 + 1, 12 * 2 ^ 56]).wordReady 0x0B = true ∧ bits (runs [11 * 2 ^ 56 + 1, 12 * 2 ^ 56]).atTick.cometWord 15 0 = 1)
    ∧ ((runs [11 * 2 ^ 56, 12 * 2 ^ 56]).wordReady 0x0B = true ∧ bits (runs [11 * 2 ^ 56, 12 * 2 ^ 56]).atTick.cometWord 15 0 = 0)
    ∧ (let s : State := { runs [12 * 2 ^ 56] with comet := { running := true, loops := [(8, 2)] } }
       s.wordReady 0x0C = true ∧ s.atTick.comet.loops = (8, 2) :: [])
    ∧ (let s : State := { runs [12 * 2 ^ 56] with comet := { running := true, loops := [(8, 1)] } }
       s.wordReady 0x0C = true ∧ s.atTick.comet.loops = (8, 1) :: [])
    ∧ (runs [14 * 2 ^ 56 + 8]).wordReady 0x0E = true ∧ (runs [2 ^ 56]).wordReady 1 = true := by decide +kernel

/-- SCAN with the permits on. -/
def fires : State := { stby with mode := .scan, ensB := { permitA := true, permitB := true, inhibited := false, inhibitLow := false } }

theorem test_hyp_FireEdges :
    (let f : FireCmd := { emitter := 15, released := true }
     let s := fires.withFires [f]
     s.pipe.cur.fires = [] ++ f :: [] ∧ f.emitter = (15 : Fin 16).val ∧ (∀ g ∈ ([] : List FireCmd) ++ [], g.emitter ≠ 15) ∧ f.fate = .planned ∧ f.released = true
      ∧ s.permitsOn = true ∧ s.ensB.inhibited = false ∧ s.lockedA = true)
    ∧ (let f : FireCmd := { emitter := 0, released := true }
       let s := ({ stby with mode := .scan }).withFires [{ emitter := 3 }, f, { emitter := 15 }]
       s.pipe.cur.fires = [{ emitter := 3 }] ++ f :: [{ emitter := 15 }] ∧ (∀ g ∈ [({ emitter := 3 } : FireCmd)] ++ [{ emitter := 15 }], g.emitter ≠ 0) ∧ f.fate = .planned
        ∧ f.released = true ∧ (s.permitsOn && !s.ensB.inhibited && s.lockedA) = false)
    ∧ (let f : FireCmd := { emitter := 0, fate := .fired }; f.fate = .fired ∧ f.capEnd = false ∧ (fires.withFires [f]).pipe.cur.fires = [] ++ f :: [])
    ∧ (let f : FireCmd := { emitter := 0, fate := .fired, capEnd := true }; f.fate = .fired ∧ f.capEnd = true ∧ (fires.withFires [f]).pipe.cur.fires = [] ++ f :: []) := by
  decide +kernel

/-- SCAN with the beam going forward at 64 au a slot and nothing that vetoes a fire. -/
def clear (n : EnsignB) : State :=
  { setRegs fires [(K.V_MIN, 16), (K.DIR_ALLOW, 1), (K.SWEEP_OK, 1), (K.CEIL_CODE, 63), (K.WIDTH_MAX 15, 2000), (K.SHOT_CEIL 15, 65535), (K.BUDGET_100MS 15, 65535), (K.BUDGET_10S 15, 65535)] with
    ens := { fires.ens with th := [64, 48, 32, 16, 0] }, ensB := n }

theorem test_hyp_FireEdges_released :
    (let s := clear {}; 5 ≤ s.ens.th.length ∧ (0 : Int) < s.inForce K.V_MIN ∧ (s.inForce K.V_MIN : Int) ≤ 64 * (s.ens.th.getD 0 0 - s.ens.th.getD 4 0))
    ∧ (let s : State := { clear {} with ens := { fires.ens with th := [0, 0, 0, 0, 0] } }; s.dirNow = 0)
    ∧ (let s : State := { clear {} with ens := { fires.ens with th := [-1, 0, 0, 0, 0] } }; 64 * (s.ens.th.getD 0 0 - s.ens.th.getD 4 0) ≤ -(s.inForce K.V_MIN : Int))
    ∧ ({ emitter := 15, width := 100 } : FireCmd).width ≠ 0
    ∧ (let f : FireCmd := { emitter := 15, width := 100 }; let s := clear { fbA := true, fbB := true, inhibited := false }
       f.fate = .planned ∧ s.vetoRule f = none ∧ s.ensB.fbA = true ∧ s.ensB.fbB = true ∧ s.ensB.inhibited = false ∧ s.reg K.SH_CAUSE = 0 ∧ s.locked = true)
    ∧ (let f : FireCmd := { emitter := 15, width := 100 }; let s := clear { fbA := false, fbB := true }; s.vetoRule f = none ∧ s.ensB.fbA = false)
    ∧ (let f : FireCmd := { emitter := 15, width := 2001 }; (clear {}).vetoRule f = some 6)
    ∧ ({ fate := .fired } : FireCmd).fate ≠ .planned := by decide +kernel

theorem test_hyp_ReservoirEvents :
    (let s : State := { stby with res := { runs := true } }; s.mode.coreRuns = true ∧ s.res.runs = true ∧ s.res.periodDone = false)
    ∧ (let s : State := { stby with res := { runs := true, periodDone := true } }; s.res.runs = true ∧ s.res.periodDone = true)
    ∧ (let s := setRegs { stby with res := { target := 2000, disOn := true, vlas := 8000 } } [(K.RES_STATE, 3)]
       s.mode.coreRuns = true ∧ s.reg K.RES_STATE = 3 ∧ s.res.vlas ≤ 4 * s.res.target)
    ∧ stby.reg K.RES_STATE ≠ 4 ∧ ((25200 : Int) < 25201 ∨ 2 ≤ stby.res.overRun) ∧ 2 ≤ ({ stby with res := { overRun := 2 } } : State).res.overRun
    ∧ (let s := setRegs { stby with mode := .scan, pipe := { cur := { newFrame := true } }, res := { vlas := 7999 } } [(K.RES_STATE, 4)]
       s.mode.coreRuns = true ∧ s.pipe.cur.newFrame = true ∧ s.reg K.RES_STATE = 4 ∧ s.res.locked = false ∧ s.resAllowed = true ∧ s.res.vlas < 4 * s.res.target) := by
  decide +kernel

/-- A plan whose trajectory stands at 0 and then at 1000 au, in frame slot 1. -/
def solState : State :=
  { stby with plan := { active := { plan := [], tables := [[], [], [], leBytes 8 0 ++ leBytes 8 (1000 * 2 ^ 48), []] }, hasActive := true }
              comet := { running := true, frameLen := 2 }, pipe := { cur := { live := true, frameSlot := 1 } } }

theorem test_hyp_MirrorLoop :
    (let s : State := { stby with mir := { angleDue := true, ends := 3, end0 := 65534, end1 := 65534 }, pipe := { prev := { locked := true } } }
     s.mode.coreRuns = true ∧ s.mir.angleDue = true ∧ s.reg K.ANGLE_SOURCE = 0 ∧ s.pipe.prev.locked = true ∧ s.mir.ends = 3 ∧ (∀ f ∈ s.pipe.cur.fires, f.emitter < 16))
    ∧ ((-32768 : Int) = rhe ((-32768 + -32768) / 2) ∧ (32767 : Int) = rhe ((32767 + 32767) / 2))
    ∧ (let s : State := stby; let u := 65536 * (25600 : Int) + s.gain16 K.MIR_KP * 0 + s.gain16 K.MIR_KI * 0 + s.gain16 K.MIR_KD * (0 - s.mir.ePrev)
       let lim := 65536 * (s.reg K.MIR_ILIM : Int); u ≤ lim ∧ -lim ≤ u)
    ∧ (let s : State := stby; 65536 * (s.reg K.MIR_ILIM : Int) < 65536 * (25601 : Int) + s.gain16 K.MIR_KP * 0 + s.gain16 K.MIR_KI * 0 + s.gain16 K.MIR_KD * (0 - s.mir.ePrev))
    ∧ (let s : State := { stby with mir := { applied := false, driveOn := true } }
       s.mode.coreRuns = true ∧ s.mir.angleDue = false ∧ s.mir.applied = false ∧ s.mir.driveOn = true)
    ∧ (stby.locked = true ∧ stby.solMark = none ∧ ({ stby with clk := {} } : State).locked = false)
    ∧ (stby.locked = true ∧ ((true = false → true = false) ∧ (false = false → false = false)))
    ∧ (let e : SolEdge := { at_ := 2800 + 5599, mark := some 1, target := 0, forward := true }
       e.mark = some 1 ∧ e.at_ = 2800 + 5599 ∧ 5599 < 5600 ∧ (0 : Rat) + (5600 - 0) * (5599 : Nat) / 5600 = 5599 ∧ K.SOL_ERR_B = K.SOL_ERR_B)
    ∧ (let s : State := { stby with mir := { awaitA := some 65 } }
       s.mode.coreRuns = true ∧ s.mir.awaitA = some 65 ∧ s.reg K.SOL_WIN < 65 ∧ s.mir.awaitB = none ∧ s.ens.crossA = none ∧ s.ens.crossB = none) := by decide +kernel

theorem test_hyp_MirrorLoop_mark :
    let s := setRegs solState [(K.SOL_ANGLE_A, 1000), (K.SOL_ANGLE_B, 5000)]
    (s.mode.coreRuns = true ∧ s.locked = true ∧ s.solMark = some 0)
      ∧ (setRegs solState [(K.SOL_ANGLE_A, 5000), (K.SOL_ANGLE_B, 1000)]).solMark = some 1 := by decide +kernel

theorem test_hyp_BiasEvents :
    stby.mode.coreRuns = true ∧ 22000 < 22001
    ∧ (let s := setRegs { stby with apd := { stby.apd with zones := [{}, {}, {}, { breakFor := 4999999 }] } } [(K.APD_ZONE_EN, 8), (K.RTD_STATE 0, 1)]
       s.regBit K.APD_ZONE_EN (3 : Fin 4) = true ∧ s.biasTemp (3 : Fin 4) = none ∧ (s.zone (3 : Fin 4)).atMin = false ∧ 5000000 ≤ (s.zone (3 : Fin 4)).breakFor + 1)
    ∧ (let s := setRegs { stby with hk := { rtdAge := 49999 } } [(K.APD_ZONE_EN, 1)]
       s.reg (K.APD_TSEL (0 : Fin 4)) = 0 ∧ 50000 ≤ s.hk.rtdAge + 1 ∧ s.regBit K.APD_ZONE_EN (0 : Fin 4) = true ∧ s.regBit (K.APD_FLAGS (0 : Fin 4)) 3 = false)
    ∧ (let s := setRegs { stby with apd := { stby.apd with zones := [{ biased := true, run := 49 }] } } [(K.APD_SET 0, 0)]
       s.biasHolds (0 : Fin 4) = true ∧ 50 ≤ (s.zone (0 : Fin 4)).run + 1)
    ∧ (let s := setRegs { stby with apd := { stby.apd with zones := [{ biased := true, limRun := 499 }] } } [(K.APD_IMEAS 0, 300)]
       s.inLimit (0 : Fin 4) = true ∧ 500 ≤ (s.zone (0 : Fin 4)).limRun + 1) := by decide +kernel

theorem test_hyp_ChannelsAndBiasPoints :
    stby.mode.coreRuns = true
    ∧ ((stby.put (K.CH_STATE 47) 1).reg (K.CH_STATE 47) = 1 ∧ (stby.rx.getD 47 {}).warm ≤ 1)
    ∧ stby.reg (K.CH_STATE 0) ≠ 1
    ∧ (let s : State := { stby with apd := { stby.apd with ticks := 499 } }; 499 ≤ s.apd.ticks ∧ s.apd.evaluated = false)
    ∧ (let s := setRegs { stby with hk := { rtdAge := 0 }, apd := { stby.apd with ticks := 499 } } [(K.APD_ZONE_EN, 8), (K.RTD_STATE 0, 0)]
       s.regBit K.APD_ZONE_EN 3 = true ∧ (s.biasTemp 3).isSome = true ∧ s.regBit K.APD_ZONE_EN 0 = false)
    ∧ (let s := setRegs { stby with apd := { stby.apd with ticks := 499 } } [(K.APD_ZONE_EN, 8), (K.RTD_STATE 0, 1)]; s.biasTemp 3 = none) := by decide +kernel

/-- Channel 47 in a state of CH_STATE, with a servo mode and a servo code. -/
def servoAt (st mode code : Nat) : State :=
  { setRegs stby [(K.CH_STATE 47, st), (K.SERVO_MODE 47, mode)] with rx := List.replicate 47 {} ++ [{ servo := code, satRun := 63 }] }
/-- A slot in which channel 47 was powered. -/
def lastPowered : SlotCtx := { powered := 2 ^ 47 }

theorem test_hyp_ChannelsAndBiasPoints_servo :
    (let s := servoAt 2 0 0; s.reg (K.CH_STATE 47) = 2 ∧ bitAt lastPowered.powered 47 = true ∧ s.locked = true ∧ s.reg (K.SERVO_MODE 47) = 0)
    ∧ (servoAt 2 1 0).reg (K.SERVO_MODE 47) = 1 ∧ (servoAt 2 2 0).reg (K.SERVO_MODE 47) = 2
    ∧ ((State.chanServo lastPowered (servoAt 2 2 16000) 47).rx.getD 47 {}).servo = 16000
    ∧ ((State.chanServo lastPowered (servoAt 2 2 15999) 47).rx.getD 47 {}).servo ≠ 16000
    ∧ ((servoAt 1 0 0).reg (K.CH_STATE 47) = 1 ∧ (servoAt 0 0 0).reg (K.CH_STATE 47) = 0 ∧ (servoAt 3 0 0).reg (K.CH_STATE 47) = 3)
    ∧ (bitAt ({} : SlotCtx).powered 47 = false ∧ ({ servoAt 2 0 0 with clk := {} } : State).locked = false) := by decide +kernel

/-- Its window lies above the baseline. -/
theorem test_hyp_ChannelsAndBiasPoints_bright : (0 : Rat) < ((sumInt (((lastPowered.samples.getD 47 []).drop 10176).take 1024) : Int) : Rat) / 1024 - (-1792) := by
  have h : sumInt (((lastPowered.samples.getD 47 []).drop 10176).take 1024) = 0 := by decide +kernel
  rw [h]; norm_num

theorem test_hyp_SlotTicks :
    (stby.ticking = true ∧ ((stby.slotCatchUp.calOsc []).convPeriods []).ticking = true)
    ∧ (let s : State := { stby.put (K.RAIL_STATE 0) 2 with sup := { stby.sup with conv := [{ limited := 998 }, {}, {}, {}] } }
       s.ticking = true ∧ ((s.slotCatchUp.calOsc []).convPeriods [[50, 50]]).ticking = false ∧ ((s.slotCatchUp.calOsc []).convPeriods [[49, 50]]).ticking = true)
    ∧ (setRegs stby [(K.REF_STATE, 0)]).ticking = false
    ∧ (let s : State := { stby with pipe := { ready := { valid := true, pts := true, recs := [{ ch := 47 }] } } }; s.mode.coreRuns = true ∧ s.pipe.ready.valid = true ∧ s.pipe.ready.pts = true)
    ∧ stby.pipe.ready.valid = false
    ∧ (let s : State := { stby with fs := { tags := [{ cls := 1 }, { cls := 3 }] } }
       s.fs.tags = [{ cls := 1 }] ++ { cls := 3 } :: [] ∧ (({ cls := 3 } : Tag).cls = (3 : Fin 4).val) ∧ ∀ y ∈ [({ cls := 1 } : Tag)], y.cls ≠ (3 : Fin 4).val)
    ∧ (let s : State := { stby with clk := {} }; s.mode.coreRuns = true ∧ s.lockedA = true ∧ s.clk.slotLocked = false) := by decide +kernel

/-- A SLOT slot whose fire of emitter 15 lights channel 47 alone, which is ACTIVE. -/
def lights (c : SlotCtx) : SlotCtx :=
  { c with kind := .slot, live := true, locked := true, active := 2 ^ 47, emask := 0x8000, fires := [{ emitter := 15, fate := .fired }]
           bank := { tables := [List.replicate 120 0 ++ leBytes 8 (2 ^ 47)] } }
/-- The slot after it. -/
def nextSlot (g : Nat) : SlotCtx := { locked := true, groupPos := g }

theorem test_hyp_SlotTicks_shots :
    (64 < #[(0 : Int)].size + 64 ∧ regOf [(K.BASE_MODE, 1)] K.BASE_MODE = 1 ∧ regOf [] K.BASE_MODE ≠ 1)
    ∧ cadenceAt (({} : SlotCtx).cads.getD 0 []) 64 = none
    ∧ (let d : Cadence := { at_ := 64, len := 4, dec := 4 }
       cadenceAt [d] 64 = some d ∧ (((64 : Nat) : Int) - d.at_) / (d.dec : Int) = 0 ∧ cadenceAt [d] 68 = some d ∧ (((68 : Nat) : Int) - d.at_) / (d.dec : Int) = 1 ∧ d.len ≤ 1 * d.dec)
    ∧ (let d : Cadence := { at_ := 0, len := 256, dec := 64 }; cadenceAt [d] 128 = some d ∧ (((128 : Nat) : Int) - d.at_) / (d.dec : Int) = 2 ∧ 2 * d.dec < d.len)
    ∧ (1399 < 11200 / 8 ∧ 11199 < 11200 / 1)
    ∧ (({ groupPos := 1 } : SlotCtx).groupPos = 1 ∧ ({ groupPos := 2 } : SlotCtx).groupPos ≠ 1)
    ∧ (0 < 64 * 8)
    ∧ (let y : Array Int := #[0, 4, 10, 6, 5]; let p := y.getD 2 0
       2 < y.size ∧ (∀ k, 1 ≤ k → k ≤ 64 → 2 + k < y.size → p ≤ 2 * y.getD (2 + k) 0)) := by
  refine ⟨by decide +kernel, by decide +kernel, by decide +kernel, by decide +kernel, by decide +kernel, by decide +kernel, by decide +kernel, by decide +kernel, ?_⟩
  intro k h1 h2 h3
  have : k = 1 ∨ k = 2 := by simp at h3; omega
  rcases this with rfl | rfl <;> decide +kernel

theorem test_hyp_SlotTicks_echoes :
    (let y : Array Int := #[0, 4, 10, 6, 1]; let p := y.getD 2 0
       2 < y.size ∧ 2 + 2 < y.size ∧ 2 * y.getD (2 + 2) 0 < p ∧ p ≤ 2 * y.getD (2 + 1) 0 ∧ 1 ≤ 2 ∧ 2 * y.getD (2 - 1) 0 < p)
    ∧ (regOf [(K.NEAR_MODE, 0)] K.NEAR_MODE = 0 ∧ regOf [(K.NEAR_MODE, 1)] K.NEAR_MODE ≠ 0)
    ∧ (let e : Echo := { bin := 16, width := 9, unconfirmed := true }; let clip := #[true]
       (e.bin ≤ 0 + 16 ∧ 0 ≤ e.bin + 15 ∧ clip.getD 0 false = true) ∧ e.unconfirmed = true ∧ regOf [(K.SOFT_WIDTH, 9)] K.SOFT_WIDTH ≤ e.width ∧ e.amp ≤ regOf [(K.SOFT_AMP, 0)] K.SOFT_AMP
        ∧ ¬ regOf [(K.SOFT_WIDTH, 10)] K.SOFT_WIDTH ≤ e.width)
    ∧ (([{ bin := 1, rng := 5, amp := 2 }, { bin := 3, rng := 9, amp := 1 }] : List Echo).map (·.bin)).Nodup ∧ 0 < 1 ∧ ([{ bin := 1 }] : List Echo) ≠ []
    ∧ (-32768 ≤ ({ angle := -32768 } : PointRec).angle ∧ ({ angle := -32768 } : PointRec).angle < 32768)
    ∧ (let s : State := { stby with pipe := { stby.pipe with prev := { emit := { hdump := true }, accum := some (4, 8) } } }; s.pipe.prev.emit.hdump = true ∧ s.pipe.prev.accum.isSome = true)
    ∧ stby.pipe.prev.emit.hdump = false := by decide +kernel

theorem test_hyp_SlotTicks_groups :
    (litIn (lights {}) 47 = true ∧ (lights {}).kind = .slot ∧ litIn (lights {}) 0 = false ∧ (lights {}).emit.maxEcho ≤ 8 ∧ (lights {}).single = none ∧ (lights {}).accum = none)
    ∧ bitAt ({ lights {} with active := 0 } : SlotCtx).active 47 = false
    ∧ (let c := lights { accum := some (4, 1), groupPos := 2 }
       c.accum = some (4, 1) ∧ 1 ≤ c.groupPos ∧ c.groupPos < 4 ∧ (nextSlot 3).groupPos = c.groupPos + 1 ∧ (nextSlot 1).groupPos ≠ c.groupPos + 1)
    ∧ (let c := lights { accum := some (4, 1), groupPos := 4, withheld := true }; c.groupPos = 4 ∧ c.withheld = true)
    ∧ (let c := lights { accum := some (4, 1), groupPos := 4 }; let r := chanEcho {} c (nextSlot 1) 47 { acc := { n := 3, lost := true } } none
       r.chan.acc.lost = true ∧ (chanEcho {} c (nextSlot 1) 47 { acc := { n := 3, gainLost := true } } none).chan.acc.gainLost = true)
    ∧ (let c := lights { accum := some (4, 1), groupPos := 4, emit := { hdump := true } }; let r := chanEcho {} c (nextSlot 1) 47 { acc := { n := 3 } } none
       emitterOf c.bank 47 = some 15 ∧ c.withheld = false ∧ c.noEcho = false ∧ bitAt c.active 47 = true ∧ (nextSlot 1).locked = true ∧ bitAt (nextSlot 1).takenOver 47 = false
        ∧ bitAt c.noEngine 47 = false ∧ r.chan.acc.lost = false ∧ r.chan.acc.gainLost = false ∧ 0 < r.chan.acc.n ∧ c.emit.hdump = true)
    ∧ (let c := lights { accum := some (4, 1), groupPos := 4, fires := [] }; (chanEcho {} { c with fires := [] } (nextSlot 1) 47 {} none).chan.acc.n = 0)
    ∧ (let c := lights { single := some (3, 2, 1) }; c.single = some (3, 2, 1) ∧ bitAt c.active 47 = true ∧ shotOf c 47 = some { emitter := 15, fate := .fired }
      ∧ ({ fate := .suppressed } : FireCmd).suppressed = true) := by decide +kernel

/-- The unit `x` waits for its planned take-over. -/
def planned (x : Nat) : State := { stby with spares := { planned := [(x, [])] } }

theorem test_hyp_TakeOvers :
    ((planned 0x10000).ticking = true ∧ (planned 0x10000).atTick.spares.failWait = [] ∧ (planned 0x10000).atTick.spares.planned = [(0x10000, [])]
      ∧ (planned 0x10000).atTick.plannedDue (0x10000, []) 11200 = true ∧ (planned 0x10000).classDue 1 = true ∧ unitClass 0x10000 = 1 ∧ (planned 0x10000).atTick.poolOpen 0x10000 = true)
    ∧ ((planned 0x3000B).ticking = true ∧ (planned 0x3000B).atTick.spares.failWait = [] ∧ (planned 0x3000B).atTick.spares.planned = [(0x3000B, [])]
      ∧ (planned 0x3000B).atTick.plannedDue (0x3000B, []) 11200 = true ∧ (planned 0x3000B).classDue 3 = true ∧ unitClass 0x3000B = 3 ∧ (planned 0x3000B).atTick.poolOpen 0x3000B = true)
    ∧ ((planned 0x40017).ticking = true ∧ (planned 0x40017).atTick.spares.failWait = [] ∧ (planned 0x40017).atTick.spares.planned = [(0x40017, [])]
      ∧ (planned 0x40017).atTick.plannedDue (0x40017, []) 11200 = true ∧ (planned 0x40017).classDue 4 = true ∧ unitClass 0x40017 = 4 ∧ (planned 0x40017).atTick.poolOpen 0x40017 = true)
    ∧ stby.underTest 0x3000B = false
    ∧ (stby.underTest 0x40017 = false ∧ stby.reg (K.SP_STATE (24 + 0)) = 0 ∧ stby.reg (K.SPARE_FOR 0) = 255)
    ∧ (let s := setRegs stby [(K.SPARE_FOR 0, 3)]; s.reg (K.SP_STATE (24 + 1)) = 0 ∧ s.reg (K.SPARE_FOR 1) = 255 ∧ s.reg (K.SPARE_FOR 0) ≠ 255)
    ∧ (stby.sliceAt 47 7 = 7 ∧ (∀ p', p' < 7 → stby.sliceAt 47 p' ≠ 7)) := by decide +kernel

/-- A channel whose spectrum of raw samples completes in the slot, and one of decimator words. -/
def spectra (src : Nat) (c : SpecChan) : State :=
  setRegs { stby with mode := .scanAnalyse, spec := { stby.spec with running := true, chans := [c] }, dec := { stby.dec with running := true, chans := [{ cads := [{ at_ := 0, len := 1, dec := 1 }], done := 511 }] } }
    [(K.SP_MODE 0, 1), (K.SP_AVG_N 0, 2), (K.SP_SRC 0, src), (K.SP_LEN 0, 2), (K.CH_STATE 0, 2)]

theorem test_hyp_SpectraAndAverages :
    (let s := spectra 0 { on := true, next := 0 }
     s.mode.coreRuns = true ∧ s.specDue (0 : Fin 48) = true ∧ s.reg (K.SP_SRC ((0 : Fin 48).val / 2)) ≠ 1 ∧ s.reg (K.DENS_EN (0 : Fin 48)) ≠ 1
      ∧ (s.maskFor (s.spec1 (0 : Fin 48)).next).sel.getD (0 : Fin 48) 0 = 0 ∧ (s.spec1 (0 : Fin 48)).count + 1 < s.reg (K.SP_AVG_N ((0 : Fin 48).val / 2)))
    ∧ (spectra 0 {}).specDue (0 : Fin 48) = false
    ∧ (let s := spectra 1 { on := true, next := 0 }
       s.reg (K.SP_SRC ((0 : Fin 48).val / 2)) = 1 ∧ s.dec.syncReset = none ∧ s.specN 0 = 512 ∧ s.nextInstant (0 : Fin 48) = some (511, 512, { at_ := 0, len := 1, dec := 1 })
        ∧ (511 : Int) = s.wordsEnd (0 : Fin 48) ∧ (511 : Int) < 11200)
    ∧ (let s := setRegs { stby with mode := .scanAnalyse } [(K.SP_MODE 23, 1)]
       s.ticking = true ∧ s.specStartDue = true ∧ s.atTick.specServed 47 = true ∧ s.atTick.specServed 0 = false)
    ∧ (let s : State := { stby with spec := { stby.spec with chans := [{ on := true, count := 1, waiting := 2 }, { on := true, count := 1, waiting := 1 }] } }
       (s.spec1 0).count ≠ 0 ∧ s.reg (K.DENS_EN 0) ≠ 2 ∧ (s.maskFor (s.spec1 0).lastStart).sel.getD 0 0 = 0 ∧ (∀ q ∈ s.spares.planned, q.1 ≠ 0x40000 + 0 / 2) ∧ 2 ≤ (s.spec1 0).waiting
        ∧ (s.spec1 1).count ≠ 0 ∧ (s.spec1 1).waiting < 2) := by decide +kernel

/-- A spectrum without a signal, one of a constant signal and one of neither, of 128 samples. -/
theorem test_hyp_SpectraAndAverages_powers :
    (let s := spectra 0 {}; constOf (s.specInput 0 0) = some 0)
    ∧ (let s : State := { spectra 0 {} with pipe := { cur := { samples := [List.replicate 512 7] } } }; constOf (s.specInput 0 0) = some 7 ∧ (some (7 : Rat) ≠ some 0) ∧ 0 < s.specN 0 / 2)
    ∧ (let s : State := { spectra 0 {} with pipe := { cur := { samples := [[7]] } } }; constOf (s.specInput 0 0) = none ∧ s.specN 0 / 2 - 1 < s.specN 0 / 2) := by decide +kernel

/-- A density map in a state, of channel 0, in the page of `store` that may be written. -/
def mapIn (d : DensMap) (b : Nat) : State :=
  setRegs { stby with doms := [(K.AS_MAP 0, leBytes 4 0xE0000000 ++ leBytes 4 0x60000001)], spec := { stby.spec with running := true, dens := [d] } }
    [(K.AS_ENABLE, 1), (K.DENS_EN 0, 1), (K.DENS_BASE 0, b)]

theorem test_hyp_MasksAndDensityMaps :
    (let s : State := { stby with spec := { stby.spec with chans := [{ violations := [(11199, 7)] }] } }
     s.mode.coreRuns = true ∧ (s.spec1 (0 : Fin 48)).violations = (11199, 7) :: [] ∧ (11199 : Int) < 11200 ∧ s.regBit K.MASKV_NOW (0 : Fin 48) = false)
    ∧ (let s := setRegs { stby with spec := { stby.spec with chans := [{ expire := 11199 }] } } [(K.MASKV_NOW, 1)]; s.maskvEnds (0 : Fin 48) = true)
    ∧ (let s := setRegs { stby with spec := { stby.spec with chans := [{ expire := 11200 }] } } [(K.MASKV_NOW, 1)]; s.maskvEnds (0 : Fin 48) = false)
    ∧ (let s := mapIn { started := true, init := none, period := 1000000, taken := 1000000, adds := [(3, 4)] } 0; s.densSwapDue (0 : Fin 48) = true ∧ (s.dens1 (0 : Fin 48)).adds ≠ [])
    ∧ (let s := mapIn { started := true, init := none, period := 1000000, taken := 1000000 } 0; s.densSwapDue (0 : Fin 48) = true ∧ (s.dens1 (0 : Fin 48)).adds = [])
    ∧ (let s := mapIn { late := [{ buf := 1, adds := [(3, 4)] }] } 0
       (s.dens1 0).late = { buf := 1, adds := [(3, 4)] } :: [] ∧ ({ buf := 1 } : DensJob).over = true ∧ ({ buf := 1, adds := [(3, 4)] } : DensJob).over = false)
    ∧ (let s := mapIn { started := true, init := some (densGranules - 1) } (0x10000 - densGranules * 64 % 0x10000)
       (s.dens1 (0 : Fin 48)).started = true ∧ (s.dens1 (0 : Fin 48)).late = [] ∧ (s.dens1 (0 : Fin 48)).init = some (densGranules - 1)
        ∧ densGranules ≤ densGranules - 1 + 1 ∧ s.densMay (0 : Fin 48) = true ∧ (s.dens1 (0 : Fin 48)).halve = false)
    ∧ (let s := mapIn { started := true, init := some (densGranules - 1), halve := true } (0x10000 - densGranules * 64 % 0x10000)
       (s.dens1 (0 : Fin 48)).init = some (densGranules - 1) ∧ s.densMay (0 : Fin 48) = true ∧ (s.dens1 (0 : Fin 48)).halve = true ∧ (s.dens1 (0 : Fin 48)).held = [])
    ∧ (let s := mapIn { started := true, init := some (densGranules - 1), halve := true, held := [1] } (0x10000 - densGranules * 64 % 0x10000)
       s.densMay (0 : Fin 48) = true ∧ (s.dens1 (0 : Fin 48)).held ≠ [])
    ∧ (let s := (mapIn { started := true, init := some 0 } 0).setFs { stby.fs with queue := [{ master := 0x10, cls := 0, va := 0 }] }
       (s.dens1 (0 : Fin 48)).started = true ∧ (s.dens1 (0 : Fin 48)).late = [] ∧ (s.dens1 (0 : Fin 48)).init = some 0 ∧ s.densMay (0 : Fin 48) = false) := by decide +kernel

/-- Channel 47 live, its last crossing at ft 128. -/
def crossed : State := setRegs { stby with trg := { stby.trg with lastCross := List.replicate 47 none ++ [some 128] } } [(K.CH_STATE 47, 1)]

theorem test_hyp_TriggerSources :
    (crossed.mode.coreRuns = true ∧ crossed.chanLive (47 : Fin 48) = true ∧ crossed.locked = true ∧ crossed.calTakes (47 : Fin 48) = false ∧ crossed.compState (47 : Fin 48) false (crossed.regI 16 (K.COMP_LEVEL 47) - crossed.regI 8 (K.LEVEL_OFS 47)) = true
      ∧ crossed.trg.comp.getD (47 : Fin 48) false = false ∧ crossed.compState (47 : Fin 48) false (crossed.regI 16 (K.COMP_LEVEL 47) - crossed.regI 8 (K.LEVEL_OFS 47) - 1) = false ∧ crossed.reg (K.COMP_POL 47) = 0
      ∧ (crossed.put (K.COMP_POL 47) 1).reg (K.COMP_POL 47) ≠ 0)
    ∧ (∀ l, crossed.trg.lastCross.getD (47 : Fin 48) none = some l → 128 ≤ (crossed.tdcPlace (47 : Fin 48) (127 : Fin 128) (5 : Fin 11201) - l).natAbs)
    ∧ (crossed.trg.lastCross.getD (47 : Fin 48) none = some 128 ∧ (crossed.tdcPlace (47 : Fin 48) (0 : Fin 128) (3 : Fin 11201) - 128).natAbs < 128)
    ∧ (true = (stby.reg K.EXT_POL == 0) ∧ 3584 ≤ 5 * 717) ∧ (false ≠ (stby.reg K.EXT_POL == 0) ∨ 5 * 716 < 3584) ∧ 5 * 716 < 3584
    ∧ (let s := setRegs { stby with trg := { stby.trg with timerNext := 2799 } } [(K.TRIG_STATE, 2)]; s.mode.coreRuns = true ∧ s.trigRuns = true ∧ s.trg.timerNext < 2800 ∧ s.locked = true)
    ∧ (let a : Arrival := { cc := 2839, pos := 47, src := 3, on := true, stamp := 7 }; a.src = 3 ∧ a.on = true ∧ a.stamped = true ∧ ({ a with stamped := false } : Arrival).stamped = false)
    ∧ (let a : Arrival := { cc := 2839, pos := 47, src := 0, on := false }; a.src = 0 ∧ a.pos < 48 ∧ a.on = false)
    ∧ (let s : State := { crossed with trg := { crossed.trg with inputs := List.replicate 47 none ++ [some 2047] } }
       s.trg.inputs.getD 47 none = some 2047 ∧ s.trg.comp.getD 47 false = false ∧ s.compState 47 false 2047 = true ∧ (s.put (K.COMP_LEVEL 47) 2000).compState 47 false 1999 = false) := by
  refine ⟨by decide +kernel, fun l h => ?_, by decide +kernel, by decide +kernel, by decide +kernel, by decide +kernel, by decide +kernel, by decide +kernel, by decide +kernel, by decide +kernel⟩
  rw [show crossed.trg.lastCross.getD (47 : Fin 48) none = some 128 by decide +kernel] at h
  cases h; decide +kernel

/-- Stage 0 waits for a SOFT pulse with this TRIG_CTRL word, of `n` stages. -/
def staged (ctrl n : Nat) : State := setRegs stby [(K.TRIG_STATE, 2), (K.TRIG_NSTAGES, n), (K.TRIG_CTRL 0, ctrl)]

theorem test_hyp_TriggerProgram :
    (let s := staged (2 ^ 48) 2; let p := s.trg.prog
     p.declare = none ∧ p.entered ≤ 0 ∧ s.stageMatch p.stage [] = true ∧ p.matched = false ∧ (bits (s.reg (K.TRIG_CTRL p.stage)) 47 24 : Int) ≤ 0 - p.entered
      ∧ bits (s.reg (K.TRIG_CTRL p.stage)) 63 48 = p.hits + 1 ∧ p.stage + 1 < s.reg K.TRIG_NSTAGES)
    ∧ (let s := staged (2 ^ 48) 1
       s.stageMatch 0 [] = true ∧ bits (s.reg (K.TRIG_CTRL 0)) 63 48 = s.trg.prog.hits + 1 ∧ s.reg K.TRIG_NSTAGES ≤ s.trg.prog.stage + 1 ∧ bitAt (s.reg (K.TRIG_CTRL 0)) 17 = false)
    ∧ (let s := (staged (2 ^ 48 + 2 ^ 17) 1).put (K.TRIG_PAT_LO 0) 1
       bitAt (s.reg (K.TRIG_CTRL 0)) 17 = true ∧ s.earliest 0 ((List.range 52).filter fun k => s.stagePat 0 k == 1 && [(0, s.stageSrc 0 0)].contains (k, if k < 48 then s.stageSrc 0 k else 0)) = some 0)
    ∧ (let s := staged (2 * 2 ^ 48) 1; s.stageMatch 0 [] = true ∧ bits (s.reg (K.TRIG_CTRL 0)) 63 48 ≠ s.trg.prog.hits + 1)
    ∧ (let s := staged (2 ^ 48 + 2 ^ 24) 1; (0 : Int) - s.trg.prog.entered < (bits (s.reg (K.TRIG_CTRL 0)) 47 24 : Int))
    ∧ ({ stby with mode := .scan } : State).accepts K.TRIG_SOFT (at0.write 1 1) = true
    ∧ (setRegs stby [(K.TRIG_OUT_MODE, 1)]).reg K.TRIG_OUT_MODE = 1 ∧ stby.reg K.TRIG_OUT_MODE ≠ 1 := by decide +kernel

/-- The trigger engine runs, has judged cc 0 and declares at the cc given. -/
def declares (st : Nat) (d : Option (Int × Nat × Nat)) : State :=
  { setRegs stby [(K.TRIG_STATE, st), (K.TRIG_WITHIN 0, 2799), (K.TRIG_CTRL 0, 2 ^ 48), (K.TRIG_PAT_LO 0, 1)] with trg := { stby.trg with prog := { declare := d }, clock := 0, timerNext := 2800 } }

theorem test_hyp_TriggerProgram_judged :
    (let s := declares 2 none
     s.trg.prog.entered + (s.reg (K.TRIG_WITHIN s.trg.prog.stage) : Int) = 2799 ∧ s.reg (K.TRIG_WITHIN s.trg.prog.stage) ≠ 0 ∧ s.trigRuns = true ∧ s.trigQuiet 2799 = true
      ∧ s.trg.prog.declare = none ∧ s.stageMatch s.trg.prog.stage [] = false ∧ s.stageMatch 0 [] = false)
    ∧ stby.reg (K.TRIG_WITHIN stby.trg.prog.stage) = 0
    ∧ (let s := declares 2 (some (2799, 51, 7)); s.trg.prog.declare = some (2799, 51, 7) ∧ (2799 : Int) < 2800 ∧ s.trigQuiet 2799 = true ∧ (s.capFeed (4 * 2799 - s.cap.origin)).reg K.TRIG_STATE = 2
      ∧ ((s.put K.TRIG_OUT_MODE 2).capFeed (4 * 2799 - s.cap.origin)).reg K.TRIG_OUT_MODE ≠ 0)
    ∧ (let s := declares 4 (some (0, 51, 7)); s.trg.prog.declare = some (0, 51, 7) ∧ s.trigQuiet 0 = true ∧ (s.capFeed (4 * 0 - s.cap.origin)).reg K.TRIG_STATE = 4)
    ∧ stby.trg.slotRises = [] ∧ ({ stby with trg := { stby.trg with slotRises := [(2784, 5583)] } } : State).trg.slotRises = (2784, 5583) :: [] := by decide +kernel

/-- A capture armed at the tick to come, and one that waits to be armed again. -/
def armed : State := { setRegs stby [(K.TRIG_STATE, 1)] with mode := .scan, cap := { armTicks := 1 } }
/-- See `armed`. -/
def rearmed : State := { armed with cap := { rearm := true } }

/-- A capture that has ended, its header in a page that may be written, with the requests given waiting. -/
def ended (q : List Granule) : State :=
  setRegs { stby with doms := [(K.AS_MAP 0, leBytes 4 0xE0000000)], fs := { queue := q } } [(K.TRIG_STATE, 4), (K.AS_ENABLE, 1)]

theorem test_hyp_Captures :
    (let s : State := { stby with mode := .scan }; s.accepts K.CAP_CTRL (at0.write 1 1) = true ∧ s.reg K.TRIG_STATE = 0 ∧ s.mode.isRunning = true
      ∧ s.accepts K.CAP_CTRL (at0.write 1 2) = true)
    ∧ (armed.accepts K.CAP_CTRL (at0.write 1 1) = true ∧ armed.reg K.TRIG_STATE ≠ 0 ∧ armed.reg K.TRIG_STATE = 1 ∧ armed.accepts K.CAP_CTRL (at0.write 1 2) = true)
    ∧ (armed.ticking = true ∧ armed.armDue = true ∧ armed.atTick.armDue = true ∧ armed.cap.rearm = false)
    ∧ (rearmed.ticking = true ∧ rearmed.armDue = true ∧ rearmed.atTick.armDue = true ∧ rearmed.cap.rearm = true)
    ∧ (let s := setRegs { stby with cap := { trig := some (0, 0, 11199) }, trg := { stby.trg with clock := 2799, timerNext := 2801 } } [(K.TRIG_STATE, 3), (K.CAP_POST, 0), (K.CAP_CHMASK, 1)]
       s.mode.coreRuns = true ∧ s.reg K.TRIG_STATE = 3 ∧ s.capWords = false ∧ s.capGoal = some 11199 ∧ s.cap.origin + 11199 < 11200 ∧ s.trigUpTo ((s.cap.origin + 11199) / 4) = s
        ∧ (11199 : Int) + 1 ≤ (s.cap.staged + s.stageRoom : Nat) ∧ s.drainLimit = none)
    ∧ (let s : State := { stby with mode := .scan }; s.accepts K.CAP_DRAINED (wr 8 0) = true ∧ (s.capReach (wr 8 0).cc).reg K.CAP_DRAINED ≤ ofLe (wr 8 0).data)
    ∧ (let s := setRegs { stby with mode := .scan } [(K.CAP_DRAINED, 1)]; s.accepts K.CAP_DRAINED (wr 8 0) = true ∧ ofLe (wr 8 0).data < (s.capReach (wr 8 0).cc).reg K.CAP_DRAINED)
    ∧ (let s := ended []; s.mode.coreRuns = true ∧ s.headerDue = true ∧ s.mayIssue 1 0x18 (s.reg K.CAP_AS) s.headerVa = true)
    ∧ (let s := ended [{ master := 0x10, cls := 0, va := 63 }]; s.headerDue = true ∧ s.mayIssue 1 0x18 (s.reg K.CAP_AS) s.headerVa = false) := by decide +kernel

/-- A capture whose staging buffer is full. -/
def staged512 : State := { setRegs stby [(K.TRIG_STATE, 2), (K.CAP_CHMASK, 1)] with
  fs := { queue := List.replicate 512 { data := List.replicate 1024 0, purpose := .capture 0 0 } } }

theorem test_hyp_Captures_full : staged512.mode.coreRuns = true ∧ (staged512.capReach (0 : Fin 2800)).capOn = true
    ∧ (staged512.capReach (0 : Fin 2800)).drainLimit = none ∧ (staged512.capReach (0 : Fin 2800)).capChans ≠ []
    ∧ 524288 ≤ (staged512.capReach (0 : Fin 2800)).capStagedBytes := by decide +kernel

theorem test_hyp_Decimation :
    (let s : State := { stby with dec := { stby.dec with running := true, chans := [{ cads := [{ at_ := 10944 }] }] } }
     s.nextInstant (0 : Fin 48) = some (11199, 1, { at_ := 10944 }) ∧ s.dec.syncReset = none ∧ s.reg (K.SP_SRC ((0 : Fin 48).val / 2)) ≠ 1 ∧ s.capWords = false ∧ (11199 : Int) < 11200 ∧ ({ at_ := 10944 } : Cadence).len ≤ 1 * ({ at_ := 10944 } : Cadence).dec)
    ∧ (let s : State := { stby with dec := { stby.dec with running := true, chans := [{ cads := [{ at_ := 0, len := 256, dec := 255 }] }] } }
       s.nextInstant (0 : Fin 48) = some (254, 1, { at_ := 0, len := 256, dec := 255 }) ∧ 1 * 255 < 256)
    ∧ (let s := setRegs { stby with dec := { stby.dec with running := true, lastEdge := some 0, lastTaken := some (-14) } } [(K.SYNC_IN_MODE, 1)]
       s.dec.running = true ∧ s.lockedA = true ∧ s.reg K.REF_STATE = 1 ∧ (s.put K.REF_STATE 0).reg K.REF_STATE ≠ 1 ∧ s.reg K.SYNC_IN_MODE = (if true = true then 1 else 2) ∧ s.dec.lastEdge = some 0 ∧ (0 : Int) + 2 ≤ ((2 : Fin 2800).val : Int)
        ∧ s.dec.lastTaken = some (-14) ∧ (-14 : Int) + 16 ≤ ((2 : Fin 2800).val : Int) ∧ ((1 : Fin 2800).val : Int) < 0 + 2)
    ∧ (let s : State := { stby with dec := { stby.dec with syncReset := some 11199 } }; s.mode.coreRuns = true ∧ s.dec.syncReset = some 11199 ∧ 11199 < 11200)
    ∧ (let s : State := { stby with mode := .scan }; s.accepts K.DEC_SYNC (at0.write 1 1) = true ∧ s.dec.syncTicks = 0) := by decide +kernel

/-- Address space 0 with page 0 readable and writable, page 1 readable alone, page 2 for streams alone, page 3 invalid and page 4 in bank 1. -/
def store : State :=
  setRegs { stby with doms := [(K.AS_MAP 0, leBytes 4 0xE0000000 ++ leBytes 4 0xC0000001 ++ leBytes 4 0xD0000002 ++ leBytes 4 0x60000003 ++ leBytes 4 0xE0000040)] }
    [(K.AS_ENABLE, 1)]

/-- A granule that waits in the store, in page 0 and in page 1. -/
def granted (va : Nat) : State := store.setFs { store.fs with queue := [{ master := 0x21, cls := 2, va := va, data := [5] }] }

/-- The granule of `granted`. -/
def granuleAt (va : Nat) : Granule := { master := 0x21, cls := 2, va := va, data := [5] }
/-- A granule of master 0x21 issues: the queue is empty, its turn taken. -/
def issuing (va : Nat) : State := ((granted va).setFs { (granted va).fs with queue := [] ++ [] }).issued 2 0x21 0 va

/-- Engine 7 with a completion to write into page 0, and a map of channel 0 to initialise there. -/
def lowMasters : State :=
  { setRegs (store.setDma 7 { phase := .complete 0 }) [(K.DMA_STATE 7, 1), (K.DENS_EN 0, 1)] with spec := { stby.spec with dens := [{ started := true }] } }

theorem test_hyp_GranuleGrants :
    (let s : State := stby.setFs { stby.fs with turns := [(3, 0x4F)] }
     s.grantFrom 0 [(3, 0x4F), (3, 0x48)] = some (3, 0x48) ∧ storeGet s.fs.turns (0 * 4 + 3) = some 0x4F ∧ stby.grantFrom 0 [(3, 0x4F), (3, 0x48)] = some (3, 0x48)
      ∧ storeGet stby.fs.turns (0 * 4 + 3) = none ∧ s.grantFrom 0 [(3, 0x4F), (2, 0x60)] = some (2, 0x60) ∧ (s.setFs { s.fs with turns := [(3, 0x48)] }).grantFrom 0 [(3, 0x4F), (3, 0x48)] = some (3, 0x4F))
    ∧ (stby.mode.coreRuns = true ∧ (stby.capReach (0 : Fin 2800)).grant (0 : Fin 48) = none)
    ∧ (let u := (granted 63).capReach (0 : Fin 2800); let g := granuleAt 63
       u.grant (0 : Fin 48) = some (2, 0x21) ∧ 0x21 ≠ densMaster ∧ 0x21 < 0x48 ∧ u.fs.queue = [] ++ g :: [] ∧ g.master = 0x21 ∧ g.write = true
        ∧ ((u.setFs { u.fs with queue := [] ++ [] }).issued g.cls 0x21 g.space g.va) = issuing 63 ∧ ((issuing 63).writeGranule [] 0x21 2 0 63 [5]).isOk = true)
    ∧ (match (issuing 65536).writeGranule [] 0x21 2 0 65536 [5] with
        | .error e => e.1 == .permission && e.2.1 == 255 && e.2.2.1 == 0
        | .ok _ => false) = true
    ∧ (match (issuing 1).writeGranule [(0, .double 7)] 0x21 2 0 1 [5] with
        | .error e => e.1 == .uncorrectable && e.2.1 == 0 && e.2.2.1 == 7
        | .ok _ => false) = true
    ∧ ((store.readGranule [] 0x21 2 0 65536 64 false).isOk = true ∧ (store.readGranule [] 0x21 2 0 (2 * 65536) 64 false).isOk = false)
    ∧ (let u := lowMasters.capReach (0 : Fin 2800); u.grant (0 : Fin 48) = some (2, densMaster) ∧ u.densHeads 0 = 0 :: [])
    ∧ (let u := (lowMasters.put (K.DENS_EN 0) 0); let v : State := { u with spec := stby.spec }; (v.capReach (0 : Fin 2800)).grant (0 : Fin 48) = some (3, 0x48 + 7))
    ∧ (let u := (ended []).capReach (0 : Fin 2800); u.grant (0 : Fin 48) = some (1, 0x18) ∧ 0x18 ≠ densMaster ∧ 0x18 < 0x48 ∧ (∀ x ∈ u.fs.queue, x.master ≠ 0x18)) := by decide +kernel

theorem test_hyp_GranulesStored :
    (store.translate 0 63 true false = .ok 63 ∧ (store.writeGranule [] 0x21 2 0 63 [5]).isOk = true ∧ 63 % 64 + [(5 : Byte)].length ≤ 64 ∧ store.mirrored (63 / bankBytes) = none)
    ∧ (let s := store.setFs { store.fs with retire := { source := 0, target := 48, copying := true } }
       s.translate 0 63 true false = .ok 63 ∧ (s.writeGranule [(7, .single)] 0x21 2 0 63 [5]).isOk = true ∧ s.mirrored (63 / bankBytes) = some 48)
    ∧ (let s := store.setFs { store.fs with bad := [(7, 9), (100, 3)] }
       (s.writeGranule [] 0x21 2 0 0 (List.replicate 64 5)).isOk = true ∧ (7, 9) ∈ s.fs.bad ∧ (100, 3) ∈ s.fs.bad ∧ 0 ≤ 8 * 7 ∧ 8 * 7 + 8 ≤ 0 + 64 ∧ ¬ 8 * 100 + 8 ≤ 0 + 64)
    ∧ (let s := stby.setFs { stby.fs with tags := [{ cls := 2, bytes := 0 }, { cls := 3, master := 0x4F, bytes := 64 }] }
       s.mode.coreRuns = true ∧ (∀ y ∈ s.fs.tags.take 1, y.cls ≠ (3 : Fin 4).val) ∧ s.fs.tags.map (·.cls) = [2, (3 : Fin 4).val] ∧ s.fs.tags.map (·.bytes) = [0, 64])
    ∧ (∀ y ∈ stby.fs.tags, y.cls ≠ (3 : Fin 4).val) := by decide +kernel

theorem test_hyp_MapsAndTranslation :
    (stby.regBit K.AS_ENABLE 0 = false ∧ bitAt (store.pageEntry 0 (3 * 65536 / 65536 % 4096)) 31 = false)
    ∧ (store.regBit K.AS_ENABLE 0 = true ∧ bitAt (store.pageEntry 0 1) 31 = true ∧ bitAt (store.pageEntry 0 1) 29 = false)
    ∧ (bitAt (store.pageEntry 0 2) 31 = true ∧ bitAt (store.pageEntry 0 2) 28 = true ∧ bitAt (store.pageEntry 0 2) 30 = true)
    ∧ (bitAt (store.pageEntry 0 4) 29 = true ∧ (store.put (K.BANK_MAP 1) 255).reg (K.BANK_MAP (bits ((store.put (K.BANK_MAP 1) 255).pageEntry 0 4) 11 0 / 64)) = 255)
    ∧ store.reg (K.BANK_MAP (bits (store.pageEntry 0 4) 11 0 / 64)) ≠ 255
    ∧ (stby.mayWrite .canA (K.AS_MAP (15 : Fin 16)) = true ∧ [(0 : Byte)].length ≠ 16384 ∧ stby.mapOpen (15 : Fin 16) = true ∧ store.mapOpen (0 : Fin 16) = false)
    ∧ (stby.accepts K.MAP_EDIT (wr 8 (15 * 2 ^ 48 + 4095 * 2 ^ 32 + 0xE0000BFF)) = true ∧ pageEntryOk 0xE0000BFF = true ∧ stby.reg K.MAP_EDIT_STATE ≠ 1
      ∧ bits (ofLe (wr 8 (15 * 2 ^ 48 + 4095 * 2 ^ 32 + 0xE0000BFF)).data) 63 52 = 0 ∧ bits (ofLe (wr 8 (15 * 2 ^ 48 + 4095 * 2 ^ 32 + 0xE0000BFF)).data) 47 44 = 0)
    ∧ (let s := store.setFs { store.fs with tags := [{ space := 0, page := 1 }] }
       let v := 2 ^ 32 + 0xE0000BFF
       s.accepts K.MAP_EDIT (wr 8 v) = true ∧ bits v 63 52 = 0 ∧ bits v 47 44 = 0 ∧ pageEntryOk (bits v 31 0) = true ∧ s.reg K.MAP_EDIT_STATE ≠ 1
        ∧ s.regBit K.AS_ENABLE (bits v 51 48) = true ∧ (∃ x ∈ s.fs.tags, x.space = bits v 51 48 ∧ x.page = bits v 43 32)
        ∧ (∀ x ∈ store.fs.tags, x.oldMap = false) ∧ (∀ x ∈ s.fs.tags, x.oldMap = false ∧ x.page ≠ bits (2 * 2 ^ 32) 43 32))
    ∧ (stby.reg K.MAP_EDIT_STATE ≠ 1 ∧ stby.accepts K.MAP_EDIT (wr 8 0x80000C00) = true ∧ bits 0x80000C00 63 52 = 0 ∧ bits 0x80000C00 47 44 = 0)
    ∧ pageEntryOk 0xE0000C00 = false
    ∧ (let s := store.put K.MAP_EDIT_STATE 1; s.mode.coreRuns = true ∧ s.reg K.MAP_EDIT_STATE = 1 ∧ s.accepts K.MAP_EDIT (wr 8 0) = true ∧ ∀ x ∈ s.fs.tags, x.oldMap = false) := by
  decide +kernel

/-- A map of zeros is one. -/
theorem test_hyp_MapsAndTranslation_map :
    (List.replicate 16384 (0 : Byte)).length = 16384 ∧ mapEntriesOk (List.replicate 16384 0) = true ∧ mapEntriesOk (leBytes 4 0x80000C00 ++ List.replicate 16380 0) = false := by
  have h : ∀ i, fieldAt (List.replicate 16384 (0 : Byte)) (4 * i) 4 = 0 := by
    intro i
    have hb : bytesAt (List.replicate 16384 (0 : Byte)) (4 * i) 4 = List.replicate 4 0 := by
      simp only [bytesAt, List.drop_replicate, List.take_replicate, List.length_replicate, List.replicate_append_replicate]
      congr 1; omega
    rw [fieldAt, hb]; decide
  refine ⟨List.length_replicate, ?_, by decide +kernel⟩
  simp only [mapEntriesOk, h, List.all_eq_true]
  decide +kernel

theorem test_hyp_ScrubAndFaults :
    stby.mode.coreRuns = true ∧ (∀ n : Nat, (fun k => leBytes 8 k) n ≠ []) ∧ stby.accepts K.FAULT_CLEAR (at0.write 1 1) = true ∧ State.reset.fs.cleared = false
      ∧ (stby.setFs { stby.fs with cleared := true, scrubRow := 131071 }).fs.cleared = true := by
  refine ⟨rfl, fun n h => ?_, by decide +kernel, by decide +kernel, by decide +kernel⟩
  simp [leBytes] at h

/-- Engine 7 in a state of DMA_STATE with a phase. -/
def dmaIn (st : Nat) (d : Dma) : State := setRegs (store.setDma 7 d) [(K.DMA_STATE 7, st)]

theorem test_hyp_DmaControlAndCompletions :
    (stby.accepts (K.DMA_CTRL (7 : Fin 8)) (at0.write 1 1) = true ∧ stby.reg (K.DMA_STATE (7 : Fin 8)) = 0
      ∧ stby.reg (K.DMA_CQ_VA (7 : Fin 8)) + stby.reg (K.DMA_CQ_ENTRIES (7 : Fin 8)) * 32 ≤ 0x10000000)
    ∧ (let s := dmaIn 1 {}; s.accepts (K.DMA_CTRL (7 : Fin 8)) (at0.write 1 1) = true ∧ s.accepts (K.DMA_CTRL (7 : Fin 8)) (at0.write 1 2) = true
      ∧ s.accepts (K.DMA_CTRL (7 : Fin 8)) (at0.write 1 4) = true ∧ s.reg (K.DMA_STATE (7 : Fin 8)) = 1)
    ∧ (let s := dmaIn 3 { phase := .fetch }; s.accepts (K.DMA_CTRL (7 : Fin 8)) (at0.write 1 3) = true ∧ s.reg (K.DMA_STATE (7 : Fin 8)) = 3 ∧ (s.dma1 (7 : Fin 8)).phase = .fetch)
    ∧ (let s := dmaIn 3 { phase := .data }; s.reg (K.DMA_STATE (7 : Fin 8)) = 3 ∧ (s.dma1 (7 : Fin 8)).phase ≠ .fetch ∧ 2 ≤ s.reg (K.DMA_STATE (7 : Fin 8)))
    ∧ (let s : State := { dmaIn 1 { phase := .complete 0 } with clk := {} }
       s.mode.coreRuns = true ∧ (s.dma1 (7 : Fin 8)).phase = .complete 0 ∧ s.reg (K.DMA_STATE (7 : Fin 8)) = 1 ∧ s.locked = false)
    ∧ (let s := (dmaIn 1 { phase := .complete 0 }).setFs { (dmaIn 1 { phase := .complete 0 }).fs with tags := [{ cls := 3, master := 0x4F, bytes := 64 }] }
       (s.dma1 (7 : Fin 8)).phase = .complete 0 ∧ s.reg (K.DMA_STATE (7 : Fin 8)) = 1 ∧ s.locked = true ∧ s.dmaWriting (7 : Fin 8) = true)
    ∧ (let s := dmaIn 4 { phase := .complete 1 }
       (s.dma1 (7 : Fin 8)).phase = .complete 1 ∧ s.reg (K.DMA_STATE (7 : Fin 8)) = 4 ∧ s.locked = true ∧ s.dmaWriting (7 : Fin 8) = false ∧ s.dmaCqVa (7 : Fin 8) = 0
        ∧ s.mayIssue 3 (dmaMaster (7 : Fin 8)) (s.reg (K.DMA_CHAIN_AS (7 : Fin 8))) (s.dmaCqVa (7 : Fin 8)) = true
        ∧ ∀ d : Fin 4, ((s.dmaIssued 7 (s.reg (K.DMA_CHAIN_AS (7 : Fin 8))) 0 0).writeGranule [] (dmaMaster 7) 3 (s.reg (K.DMA_CHAIN_AS (7 : Fin 8))) 0
          (leBytes 8 d.val ++ leBytes 8 (s.stampCc 2799) ++ leBytes 8 0 ++ leBytes 8 0)).isOk = true)
    ∧ (let s := (dmaIn 1 { phase := .complete 0 }).setFs { (dmaIn 1 { phase := .complete 0 }).fs with queue := [{ master := 0x21, cls := 2, va := 63 }] }
       s.mayIssue 3 (dmaMaster (7 : Fin 8)) (s.reg (K.DMA_CHAIN_AS (7 : Fin 8))) (s.dmaCqVa (7 : Fin 8)) = false) := by
  decide +kernel

/-- Engine 0 moving `n` bytes by a descriptor of a type, for stream 1, in a state of DMA_STATE. -/
def moving (ty n st : Nat) : State :=
  setRegs (store.setDma 0 { phase := .data, words := [ty * 2 ^ 60 + 2 ^ 48 + n, 0, 0, 0] }) [(K.DMA_STATE 0, st), (ofStream K.STREAM_TYPE 1, 4), (K.STR_STATE, 5)]

theorem test_hyp_DmaMoves :
    (let s : State := { moving 0 16 1 with clk := {} }
     s.mode.coreRuns = true ∧ s.dmaMoves (0 : Fin 8) 0 = true ∧ s.locked = false ∧ s.streamType (bits ((s.dma1 0).words.getD 0 0) 51 48) = 4)
    ∧ (let s := (moving 0 16 1).put (ofStream K.STREAM_TYPE 1) 3; s.dmaMoves (0 : Fin 8) 0 = true ∧ s.streamType (bits ((s.dma1 0).words.getD 0 0) 51 48) ≠ 4)
    ∧ (moving 1 16 1).dmaMoves (0 : Fin 8) 0 = false
    ∧ (let s := moving 1 64 1
       s.dmaMoves (0 : Fin 8) 1 = true ∧ s.locked = true ∧ s.qspi.outOwner = none ∧ granuleLen (bits ((s.dma1 0).words.getD 1 0) 27 0 + (s.dma1 0).moved) ((s.dma1 0).len - (s.dma1 0).moved) = 64)
    ∧ (let s : State := { moving 1 64 1 with clk := {} }; s.dmaMoves (0 : Fin 8) 1 = true ∧ s.locked = false)
    ∧ (moving 0 16 1).dmaMoves (0 : Fin 8) 1 = false
    ∧ (let s := moving 1 64 1; let d := s.dma1 0; let u : State := { s with qspi := { s.qspi with outOwner := some 0 } }
       s.dmaMoves (0 : Fin 8) 1 = true ∧ s.locked = true ∧ s.qspi.outOwner = none ∧ d.asm = [] ∧ granuleLen d.va (d.len - d.moved) = 64 ∧ s.qspi.bulkOut.length + 64 ≤ 32768
        ∧ d.moved + 64 = d.len ∧ u.mayIssue 3 (dmaMaster (0 : Fin 8)) d.space d.va = true
        ∧ ((u.dmaIssued 0 d.space d.va (burstDone d.base d.va)).readGranule [] (dmaMaster (0 : Fin 8)) 3 d.space d.va 64 false).isOk = true)
    ∧ (let s : State := { moving 1 64 4 with qspi := { outOwner := some 7 } }; (7 : Nat) ≠ (0 : Fin 8).val ∧ s.dmaMoves (0 : Fin 8) 1 = true ∧ s.qspi.outOwner = some 7)
    ∧ (let s := moving 2 2 1
       s.dmaMoves (0 : Fin 8) 2 = true ∧ s.locked = true ∧ s.qspi.inOwner = none
        ∧ s.qspi.bulkIn.length < granuleLen (bits ((s.dma1 0).words.getD 2 0) 27 0 + (s.dma1 0).moved) ((s.dma1 0).len - (s.dma1 0).moved))
    ∧ (let s : State := { moving 2 2 1 with qspi := { inOwner := some 7 } }; (7 : Nat) ≠ (0 : Fin 8).val ∧ s.dmaMoves (0 : Fin 8) 2 = true ∧ s.qspi.inOwner = some 7)
    ∧ (let s : State := { moving 2 2 1 with clk := {} }; s.dmaMoves (0 : Fin 8) 2 = true ∧ s.locked = false)
    ∧ (moving 0 16 1).dmaMoves (0 : Fin 8) 2 = false
    ∧ (let s : State := { moving 2 2 1 with qspi := { bulkIn := [1, 2] } }
       s.dmaMoves (0 : Fin 8) 2 = true ∧ granuleLen 0 ((s.dma1 0).len - (s.dma1 0).moved) = 2 ∧ 2 ≤ s.qspi.bulkIn.length ∧ (s.dma1 0).moved + 2 = (s.dma1 0).len
        ∧ (let u : State := { s with qspi := { s.qspi with inOwner := some 0 } }; let d := s.dma1 0
           u.mayIssue 3 (dmaMaster (0 : Fin 8)) d.space d.va = true
            ∧ ((u.dmaIssued 0 d.space d.va (burstDone d.base d.va)).writeGranule [] (dmaMaster 0) 3 d.space d.va (s.qspi.bulkIn.take 2)).isOk = true))
    ∧ (let s : State := { moving 2 2 2 with qspi := { bulkIn := [1, 2] } }; s.reg (K.DMA_STATE (0 : Fin 8)) = 2 ∧ s.dmaReady (0 : Fin 8) = true ∧ (s.dma1 (0 : Fin 8)).phase ≠ .fetch)
    ∧ (let s := setRegs (store.setDma 0 { phase := .fetch }) [(K.DMA_STATE 0, 2)]; s.mode.coreRuns = true ∧ s.reg (K.DMA_STATE (0 : Fin 8)) = 2 ∧ s.dmaReady (0 : Fin 8) = true ∧ (s.dma1 (0 : Fin 8)).phase = .fetch)
    ∧ (moving 2 2 2).dmaReady (0 : Fin 8) = false
    ∧ (let s := (moving 0 16 1).setLink { (moving 0 16 1).link with up := true }; let d := s.dma1 0
       s.dmaMoves (0 : Fin 8) 0 = true ∧ d.asm = [] ∧ d.moved < d.len ∧ d.len - d.moved ≤ 16 ∧ d.base % 64 + d.len ≤ 64 ∧ s.locked = true ∧ s.mayIssue 3 (dmaMaster (0 : Fin 8)) d.space d.va = true
        ∧ bits (d.words.getD 0 0) 51 48 = 1 ∧ s.streamTakes 1 (d.len - d.moved) = true
        ∧ ((s.dmaIssued 0 d.space d.va (burstDone d.base d.va)).readGranule [] (dmaMaster (0 : Fin 8)) 3 d.space d.va (d.len - d.moved) true).isOk = true) := by
  decide +kernel

/-- A full bulk queue leaves no room for a granule. -/
theorem test_hyp_DmaMoves_full : 32768 < ({ moving 1 64 1 with qspi := { bulkOut := List.replicate 32705 0 } } : State).qspi.bulkOut.length + 64 := by
  rw [List.length_replicate]; decide

/-- A retirement of bank 0 to the spare bank 48 in a step. -/
def retiring (r : Retire) : State := stby.setFs { stby.fs with retire := { r with source := 0, target := 48 } }

theorem test_hyp_BankRetirement :
    (stby.accepts K.BANK_RETIRE (wr 1 47) = true ∧ ofLe (wr 1 47).data < 48 ∧ stby.spareBanks = 48 :: [49]
      ∧ stby.fs.retire.busy = false ∧ stby.reg K.RETIRE_STATE = 0)
    ∧ (setRegs stby [(K.BANK_STATE 48, 0), (K.BANK_STATE 49, 0)]).spareBanks = [] ∧ (retiring { copying := true }).fs.retire.busy = true
    ∧ (let s := retiring { copying := true }; s.mode.coreRuns = true ∧ s.fs.retire.copying = true ∧ s.fs.retire.source ≠ 255 ∧ s.fs.retire.source ≠ s.fs.retire.target ∧ s.memoryWf = true)
    ∧ (stby.setFs { stby.fs with retire := { source := 255, target := 48, copying := true } }).fs.retire.source = 255
    ∧ (let s := retiring { ticks := 1 }; s.ticking = true ∧ s.fs.retire.ticks = 1 ∧ s.atTick.fs.retire.ticks = 1)
    ∧ (let s := retiring { draining := true }; s.fs.retire.draining = true ∧ (∀ x ∈ s.fs.tags, x.pbank ≠ s.fs.retire.source)
      ∧ ∃ x ∈ (s.setFs { s.fs with tags := [{ pbank := 0 }] }).fs.tags, x.pbank = s.fs.retire.source)
    ∧ (let s := retiring { ticks := 1, after := 1 }; s.ticking = true ∧ s.fs.retire.ticks = 1 ∧ s.atTick.fs.retire.ticks = 1 ∧ s.atTick.fs.retire.after = 1)
    ∧ (let s := stby.setFs { stby.fs with retire := { source := 255, target := 48, ticks := 1 } }; s.ticking = true ∧ s.fs.retire.ticks = 1 ∧ s.atTick.fs.retire.ticks = 1)
    ∧ (let s := retiring { copying := true }
       s.mode.coreRuns = true ∧ s.fs.retire.copying = true ∧ s.reg K.BIST_STATE ≠ 1 ∧ (s.spares.opStep ≠ .takeOver ∨ s.spares.opUnit ≠ 0x50000) ∧ s.fs.retire.after ≠ 6)
    ∧ (let s := (retiring { copying := true, after := 6 }).put K.BIST_STATE 1
       s.mode.coreRuns = true ∧ s.fs.retire.copying = true ∧ s.spares.bist.unit ≠ 0x50000 + s.fs.retire.source
        ∧ (s.spares.opStep ≠ .takeOver ∨ s.spares.opUnit ≠ 0x50000) ∧ s.fs.retire.after = 6 ∧ s.fs.retire.source < 50)
    ∧ stby.fs.retire.copying = false ∧ (stby.spares.list.contains 0x50030 = false ∧ stby.spares.list.length < 64) := by decide +kernel

/-- The link in a state of STR_STATE, receive lane 0 aligned and usable. -/
def linkIn (st : Nat) (l : Link) : State :=
  setRegs { stby with link := l } [(K.STR_ENABLE, 1), (K.RAIL_STATE 0, 2), (K.RAIL_STATE 1, 2), (K.STR_STATE, st), (K.RX_ALIGN 0, 1), (K.RX_EFOM 0, 255), (K.LINK_VER, 2)]

theorem test_hyp_LinkStartsUp :
    (let s := linkIn 0 {}; s.mode.coreRuns = true ∧ s.linkEnabled = true ∧ s.lockedB = true ∧ s.reg K.STR_STATE = 0)
    ∧ (let s := (linkIn 6 {}).put K.STR_FAULT 3; s.linkEnabled = true ∧ s.lockedB = true ∧ s.reg K.STR_STATE = 6 ∧ s.reg K.STR_FAULT = 3)
    ∧ (let s := linkIn 1 { trainTicks := 5 }; s.reg K.STR_STATE = 1 ∧ 5 ≤ s.link.trainTicks ∧ s.rxUsable (s.reg K.RX_ACTIVE) = true)
    ∧ ((linkIn 1 { trainTicks := 5 }).put (K.RX_ALIGN 0) 0).rxUsable 0 = false
    ∧ (let s := linkIn 3 { capTicks := 500 }; s.reg K.STR_STATE = 3 ∧ (s.link.capReps + 1) * 500 ≤ s.link.capTicks)
    ∧ (bitAt (BitVec.ofNat 64 0x804).toNat 11 = true ∧ bitAt (BitVec.ofNat 64 0x804).toNat 2 = true ∧ bitAt (BitVec.ofNat 64 0x804).toNat 48 = false)
    ∧ (let s := (linkIn 3 {}).put K.TX_TUNE 1; let w := BitVec.ofNat 64 (2 ^ 48 + 0x804)
       s.reg K.STR_STATE = 3 ∧ bitAt w.toNat 11 = true ∧ bitAt w.toNat 2 = true ∧ s.reg K.TX_TUNE = 1 ∧ bitAt w.toNat 48 = true)
    ∧ (bitAt (BitVec.ofNat 64 4).toNat 11 = false ∧ bitAt (BitVec.ofNat 64 0x800).toNat 1 = false ∧ bitAt (BitVec.ofNat 64 0x800).toNat 2 = false)
    ∧ ((linkIn 4 {}).reg K.STR_STATE = 4 ∧ (linkIn 5 {}).reg K.STR_STATE = 5)
    ∧ (let s := linkIn 3 { capTicks := 500000 }; s.reg K.STR_STATE = 3 ∧ s.reg K.STR_CAP_TIMEOUT * 500 ≤ s.link.capTicks)
    ∧ (let s := linkIn 4 { tuneIv := 64, tunePreset := 6 }; s.reg K.STR_STATE = 4 ∧ 64 ≤ s.link.tuneIv ∧ s.link.tunePreset < 7)
    ∧ (let s := linkIn 4 { tuneIv := 64, tunePreset := 7 }; s.reg K.STR_STATE = 4 ∧ 64 ≤ s.link.tuneIv ∧ 7 ≤ s.link.tunePreset) := by decide +kernel

theorem test_hyp_ReceiveLanes :
    (let s := linkIn 5 {}; s.mode.coreRuns = true ∧ s.lanesOn = true ∧ s.reg (K.RX_ALIGN (0 : Fin 2)) = 1 ∧ s.rxTakes = true ∧ s.reg K.LINK_VER = 2)
    ∧ (let s := setRegs (linkIn 5 {}) [(K.RX_ALIGN 0, 0), (K.RX_COMMA_EN, 1)]; s.reg (K.RX_ALIGN (0 : Fin 2)) = 0 ∧ s.reg K.RX_COMMA_EN = 1)
    ∧ (let s := setRegs (linkIn 5 { rx := [{ slip := 9 }, {}] }) [(K.RX_ALIGN 0, 0), (K.RX_COMMA_EN, 0)]
       (s.rxLane (0 : Fin 2)).slip = (9 : Fin 10).val ∧ s.reg K.RX_COMMA_EN ≠ 1 ∧ (s.rxLane (0 : Fin 2)).slip ≠ (0 : Fin 10).val)
    ∧ (let s := setRegs (linkIn 5 {}) [(K.RX_ALIGN 1, 1), (K.RX_EFOM 1, 255)]
       17 = ((readGroups (s.rxLane (0 : Fin 2)).rd (List.replicate 17 0)).1.filter Option.isNone).length ∧ 16 < (s.rxLane (0 : Fin 2)).errs + 17 ∧ s.reg K.RX_ACTIVE = (0 : Fin 2).val
        ∧ s.rxUsable (1 - (0 : Fin 2).val) = true)
    ∧ (let s := linkIn 5 { rx := [{ missed := 2 }, {}] }; 2 ≤ (s.rxLane (0 : Fin 2)).missed ∧ s.rxUsable (1 - (0 : Fin 2).val) = false ∧ s.reg K.STR_STATE = 5)
    ∧ (let s := linkIn 5 { rx := [{ missed := 1 }, {}] }
       16 = ((readGroups (s.rxLane (0 : Fin 2)).rd (List.replicate 16 0)).1.filter Option.isNone).length ∧ (s.rxLane (0 : Fin 2)).missed < 2 ∧ (s.rxLane (0 : Fin 2)).errs + 16 ≤ 16)
    ∧ ((0 : Rat) ≤ 1 ∧ (1 : Rat) ≤ 1)
    ∧ ((linkIn 5 {}).accepts K.RX_BITSLIP (wr 1 2) = true ∧ ofLe (wr 1 2).data = 1 + 1)
    ∧ (let w := BitVec.ofNat 64 (2 ^ 16); bits w.toNat 23 16 < 2 ∧ bits w.toNat 15 8 = (linkIn 5 {}).reg K.RX_ACTIVE)
    ∧ ((linkIn 5 {}).put K.LINK_VER 1).reg K.LINK_VER ≠ 2
    ∧ (linkIn 5 {}).link.host.whole = [] ∧ (let s := linkIn 5 { host := { whole := [([], 2799), ([1], 0)] } }
       s.mode.coreRuns = true ∧ s.rxTakes = true ∧ s.link.host.whole = ([], (2799 : Fin 2800).val) :: [([1], 0)])
    ∧ hostPacketBad [] = true ∧ hostPacketBad ({ ty := 9, payload := List.replicate 1025 0 } : Packet).bytes = true
    ∧ ([9, 10, 11, 12, 13].all fun ty => let b := ({ ty := ty, payload := leBytes 8 0x804 } : Packet).bytes
       !hostPacketBad b && bits (fieldAt b 0 8) 55 52 == ty && bytesAt b 16 (bits (fieldAt b 0 8) 39 24) == leBytes 8 0x804) = true
    ∧ (let s := setRegs (linkIn 6 { rx := [{ good := 7 }, { good := 8 }] }) [(K.STR_FAULT, 4), (K.RX_ALIGN 1, 1), (K.RX_EFOM 1, 255)]
       s.reg K.STR_STATE = 6 ∧ s.reg K.STR_FAULT = 4 ∧ 8 ≤ (s.rxLane 1).good ∧ s.rxUsable 1 = true ∧ (s.rxLane 0).good < 8) := by decide +kernel

/-- R248, R249: a packet of an empty payload comes over the lane with a marker in its middle, and is judged whole. -/
theorem test_host_line :
    let b := ({ ty := 9 } : Packet).bytes
    let d := b.map fun x => Symbol.data x.toNat
    let g := (codeGroups false ([.com, .data 0x4A, .sop] ++ d.take 7 ++ markerSymbols 0 513 ++ d.drop 7 ++ [.eop])).1.map (BitVec.ofNat 10)
    ((readGroups false g).1.foldl (HostLine.take 44) {}) = { whole := [(b, 44)] } ∧ hostPacketBad b = false := by decide +kernel

/-- The link in UP with the sideband agreed. -/
def linkUp (l : Link) : State := (linkIn 5 l).put K.HOST_CAPS (2 ^ 50)

theorem test_hyp_HostPacketsAndFlow :
    (let s := (linkUp {}).put (K.CREDIT_MODE 14) 1; let w := 15 * 2 ^ 60 + (2 ^ 32 - 1)
     s.mode.coreRuns = true ∧ s.rxTakes = true ∧ s.reg K.LINK_VER = 2 ∧ bits w 63 60 ≠ 0 ∧ bits w 59 32 = 0 ∧ s.reg (K.CREDIT_MODE (bits w 63 60 - 1)) ≠ 0)
    ∧ (bits (2 ^ 32 - 1) 63 60 = 0 ∧ (linkUp {}).reg (K.CREDIT_MODE (bits (15 * 2 ^ 60) 63 60 - 1)) = 0 ∧ ((linkUp {}).put K.LINK_VER 1).reg K.LINK_VER ≠ 2 ∧ 128 < (List.replicate 129 0).length)
    ∧ (linkUp {}).accepts (K.STREAM_CREDIT_ADD (14 : Fin 15)) (wr 4 (2 ^ 32 - 1)) = true
    ∧ (let b : List Byte := List.replicate 9 255 ++ [255, 1, 0, 0, 0, 0, 0]; b.length = 16 ∧ fieldAt b 9 2 < 512 ∧ (∀ x ∈ b.drop 11, x = 0) ∧ (linkUp {}).reg K.AUTOSPARE ≠ 1)
    ∧ (let s := linkUp {}; s.pathUp .sideband = true ∧ ((s.pathState .sideband).queue.length < 4) ∧ ([] : List Byte).length ≤ 1024)
    ∧ (let s : State := { linkUp {} with paths := [{}, {}, {}, { queue := [{}, {}, {}, {}] }] }; s.pathUp .sideband = true ∧ 4 ≤ (s.pathState .sideband).queue.length)
    ∧ (linkIn 5 {}).pathUp .sideband = false ∧ 1024 < (List.replicate 1025 (0 : Byte)).length := by decide +kernel

/-- Stream 15 with an assembly, of a type. -/
def streaming (ty : Nat) (x : Stream) : State := ((linkUp {}).setStream 15 x).put (ofStream K.STREAM_TYPE 15) ty

theorem test_hyp_HostPacketsAndFlow_stream :
    (let s := streaming 3 { running := true, rawNext := 288 }; s.mode.coreRuns = true ∧ (s.stream (15 : Fin 16)).running = true ∧ s.streamType (15 : Fin 16) = 3
      ∧ (s.stream (15 : Fin 16)).rawNext + 10912 ≤ 11200)
    ∧ (linkUp {}).buffered 15 < 2
    ∧ (let s := (linkUp {}).setStream 15 { queue := [{ stream := 15 }, { stream := 15 }] }; 2 ≤ s.buffered 15 ∧ 15 ≠ 0)
    ∧ (let s := linkUp { sending := some { stream := 15 } }; s.link.sending = some { stream := 15 } ∧ ({ stream := 15 } : Packet).notice = none ∧ ({ stream := 15 } : Packet).stream ≠ 0)
    ∧ (let s := linkUp { sending := some {}, suspended := some { stream := 15 } }; s.link.sending = some {} ∧ ({} : Packet).stream = 0 ∧ s.link.suspended.isSome = true)
    ∧ (let s : State := { linkUp {} with pipe := { ready := { valid := true, pts := true } } }; s.pipe.ready.valid = true ∧ s.pipe.ready.pts = true)
    ∧ (let s : State := { linkUp {} with pipe := { ready := { valid := true } } }; s.pipe.ready.valid = true ∧ s.pipe.ready.pts = false ∧ (linkUp {}).pipe.ready.valid = false)
    ∧ (let s := linkUp { statusDue := some (7, []) }; s.mode.coreRuns = true ∧ s.link.statusDue = some (7, []))
    ∧ (let s := (linkUp { quiet := 2 }).put K.IDLE_EN 1; s.reg K.IDLE_EN = 1 ∧ s.comet.running = false ∧ s.reg K.STR_STATE = 5 ∧ s.link.sending = none ∧ s.link.suspended = none
      ∧ s.nextStream = none ∧ 2 ≤ s.link.quiet)
    ∧ (let s := linkUp { idle := true, streams := [{ queue := [{}] }] }; s.link.idle = true ∧ s.nextStream = some 0)
    ∧ (linkUp {}).link.idle = false ∧ (linkUp { idle := true }).nextStream = none := by decide +kernel

theorem test_hyp_HostPacketsAndFlow_decimated :
    let s := streaming 2 { running := true, words := [List.replicate 8192 0] }
    (s.stream (15 : Fin 16)).running = true ∧ s.streamType (15 : Fin 16) = 2 ∧ 0 < decInstants (s.stream (15 : Fin 16)).words.length
      ∧ decInstants (s.stream (15 : Fin 16)).words.length ≤ (s.stream (15 : Fin 16)).whole := by decide +kernel

/-- The link with physical lane 3 retired and its bit on the spare. -/
def laneOut (l : Link) : State := (linkIn 5 { l with retired := 8 }).put (K.LANE_MAP 3) 8

theorem test_hyp_LaneSparing :
    (linkIn 5 {}).lanesOn = true ∧ (linkIn 5 {}).link.idle = false ∧ (linkIn 5 { idle := true }).lanesOn = true ∧ (linkIn 5 { idle := true }).link.idle = true
    ∧ (linkIn 5 {}).accepts (K.TX_BITSLIP (8 : Fin 9)) (at0.write 1 1) = true
    ∧ (let s := linkIn 5 {}; s.accepts K.LANE_RETIRE (wr 1 7) = true ∧ ofLe (wr 1 7).data < 8 ∧ bitAt s.link.retired (s.reg (K.LANE_MAP 7)) = false ∧ s.spareFree = true
      ∧ s.reg (K.LANE_MAP 7) ≠ 8 ∧ s.lanesOn = true ∧ s.reg K.LINK_VER = 2)
    ∧ (let s := (linkIn 5 {}).put K.LINK_VER 1; s.accepts K.LANE_RETIRE (wr 1 0) = true ∧ bitAt s.link.retired (s.reg (K.LANE_MAP 0)) = false ∧ s.spareFree = true
      ∧ s.reg (K.LANE_MAP 0) ≠ 8 ∧ s.reg K.STR_STATE = 5 ∧ s.reg K.LINK_VER ≠ 2 ∧ s.movesDue = [])
    ∧ (let s := linkIn 0 {}; s.accepts K.LANE_RETIRE (wr 1 0) = true ∧ s.spareFree = true ∧ s.reg (K.LANE_MAP 0) ≠ 8 ∧ s.reg K.STR_STATE ≠ 5 ∧ bitAt s.link.retired (s.reg (K.LANE_MAP 0)) = false
      ∧ s.lanesOn = false ∧ ((linkIn 3 {}).put K.LINK_VER 0).reg K.LINK_VER ≠ 2)
    ∧ (let s := laneOut {}; s.accepts K.LANE_RETIRE (wr 1 0) = true ∧ s.spareFree = false ∧ s.reg K.STR_STATE = 5 ∧ s.movesDue = [] ∧ bitAt s.link.retired (s.reg (K.LANE_MAP 0)) = false)
    ∧ (let s := laneOut {}; s.reg (K.LANE_MAP 3) = 8 ∧ bitAt s.link.retired 8 = false ∧ s.accepts K.LANE_RETIRE (wr 1 3) = true) := by decide +kernel

theorem test_hyp_LaneSparing_moves :
    (let p : Packet := { ty := 11, payload := List.replicate 8 0, notice := some (3, 3, 8) }; let s := (linkIn 5 { sending := some p }).put K.MARKER_COUNT 65534
       s.link.sending = some p ∧ p.notice = some (3, 3, 8) ∧ p.stream = 0 ∧ 0 = (s.reg K.MARKER_COUNT + 2) % 2 ^ 16)
    ∧ (let s := (linkIn 5 { move := some (3, 8, 65535) }).put K.MARKER_COUNT 65535
       s.link.move = some (3, 8, 65535) ∧ 65535 < 65536 ∧ s.link.rejoin = none ∧ (s.reg K.MARKER_COUNT + (65536 - 65535)) % 65536 < 32768)
    ∧ (let s := laneOut { move := some (3, 3, 0), rejoin := some (3, 17) }
       s.link.move = some (3, 3, 0) ∧ s.link.rejoin = some (3, 17) ∧ (s.reg K.MARKER_COUNT + (65536 - 0)) % 65536 < 32768)
    ∧ (let s := (linkIn 5 { move := some (3, 8, 0) }).put K.MARKER_COUNT 65535; 32768 ≤ (s.reg K.MARKER_COUNT + (65536 - 0)) % 65536)
    ∧ (let s := laneOut { passed := 8 }; s.accepts K.LANE_RETURN (wr 1 3) = true ∧ ofLe (wr 1 3).data < 8 ∧ s.reg (K.LANE_MAP 3) = 8 ∧ bitAt s.link.retired 3 = true
      ∧ bitAt s.link.passed 3 = true ∧ s.link.rejoin = none ∧ s.fuseRetired (0x60000 + 3) = false)
    ∧ (let s : State := { laneOut { passed := 8 } with fuses := { retire := [retireEntry 0x60003] } }; s.accepts K.LANE_RETURN (wr 1 3) = true ∧ s.fuseRetired (0x60000 + 3) = true
      ∧ s.reg (K.LANE_MAP 3) = 8 ∧ bitAt s.link.retired 3 = true ∧ bitAt s.link.passed 3 = true ∧ s.link.rejoin = none)
    ∧ (let s := laneOut { rejoin := some (3, 16) }; s.link.rejoin = some (3, 16) ∧ s.link.announced = false ∧ s.reg K.STR_STATE = 5 ∧ s.reg K.LINK_VER = 2) := by decide +kernel

/-- The row of an object. -/
def rowOf (k : Nat) : ObjRow := (objRow? k).getD ⟨0, 0, 0, 0, .u8, .ro, 0, .any, none, .never, ""⟩

theorem test_hyp_ObjectWrites :
    State.reset.answers = false
    ∧ (let s : State := { stby with paths := [{ dictVer := some 0x0100 }, {}, {}, {}] }; s.answers = true ∧ s.serves .canA K.RES_TOL = false)
    ∧ (stby.serves .canA 0xFFFFFF = true ∧ objRow? 0xFFFFFF = none)
    ∧ (objRow? K.BIST_STATE = some (rowOf K.BIST_STATE) ∧ (rowOf K.BIST_STATE).isDomain = false ∧ (rowOf K.BIST_STATE).acc = .ro)
    ∧ (let r := rowOf (K.DMA_CQ_ENTRIES 0); r.acc = .rw ∧ r.isDomain = false ∧ [(0 : Byte)].length ≠ r.size ∧ (wr 2 0).data.length = r.size
      ∧ stby.valueOk r (K.DMA_CQ_ENTRIES 0) 0 = false ∧ stby.valueOk r (K.DMA_CQ_ENTRIES 0) 4096 = true ∧ r.modes.holds .boot = false ∧ r.modes.holds stby.mode = true)
    ∧ (objRow? (K.AS_MAP 15) = some (rowOf (K.AS_MAP 15)) ∧ (rowOf (K.AS_MAP 15)).isDomain = true ∧ stby.serves .canA (K.AS_MAP 15) = true)
    ∧ (let k := K.POS_MARGIN; let r := rowOf k; let s : State := { stby with sealed := { blown := true } }
       objRow? k = some r ∧ r.isDomain = false ∧ r.acc = .rws ∧ s.sealed.blown = true ∧ stby.sealed.blown = false ∧ (leBytes r.size (stby.reg k)).length = r.size
      ∧ stby.valueOk r k (ofLe (leBytes r.size (stby.reg k))) = true ∧ r.modes.holds stby.mode = true)
    ∧ ((rowOf (K.DMA_CQ_ENTRIES 0)).acc ≠ .rws ∧ (rowOf K.COMMIT).acc = .wo ∧ (objRow? K.AUTH_COUNTER).isSome = true)
    ∧ (let r := rowOf K.RES_TOL; let s : State := { setRegs stby [(K.COMMIT_STATE, 1)] with commit := { mask := 2 ^ 4 } }
       r.acc = .rwc ∧ (wr 1 5).data.length ≠ r.size ∧ r.modes.holds .boot = false ∧ (wr 2 5).data.length = r.size ∧ r.modes.holds s.mode = true ∧ s.groupHeld r.group = true ∧ stby.groupHeld r.group = false) := by decide +kernel

/-- A request over CAN port A. -/
def req (b : List Byte) : Request := { path := .canA, cc := 2799, bytes := b }
/-- A message with a command for an object. -/
def msg (c k : Nat) (b : List Byte) : List Byte := leBytes 2 c ++ leBytes 2 (k / 256) ++ leBytes 1 (k % 256) ++ b

/-- Requests wait on CAN port A. -/
def asked (l : List Waiting) : State := { stby with paths := [{ queue := l }, {}, {}, {}] }

theorem test_hyp_RequestsAndCommands :
    (let q : Request := { req (msg 1 0 [0, 0, 0]) with arrives := true, ident := 0x560 }; let c := (stby.can1 0).received
     stby.pathUp q.path = true ∧ q.arrives = true ∧ q.path.can = some 0 ∧ msgCmd q.bytes = 1 ∧ 8 ≤ q.bytes.length ∧ q.ident = 0x540 + c.node
      ∧ (stby.pathState q.path).queue.length < 4 ∧ (req []).ident ≠ 0x540 + c.node ∧ 4 ≤ ((asked [{}, {}, {}, {}]).pathState q.path).queue.length ∧ 0 < stby.can.length)
    ∧ (let b := msg 1 0 [0, 0, 0]; let s := asked [{ bytes := b, aux := 0x660, brs := true }]
       s.pathUp (req b).path = true ∧ (req b).arrives = false ∧ s.isNext (req b) = true ∧ 8 ≤ b.length ∧ msgCmd (msg 7 0 [0, 0, 0]) = 7)
    ∧ (msgCmd (msg 1 0 [0, 0, 0]) = 1 ∧ msgCmd (msg 2 0 [0, 0, 0]) = 2 ∧ msgCmd (msg 3 0 [0, 0, 0]) = 3 ∧ msgCmd (msg 4 0 [0, 0, 0]) = 4 ∧ msgCmd (msg 5 0 [0, 0, 0]) = 5 ∧ msgCmd (msg 6 0 [0, 0, 0]) = 6)
    ∧ ((asked [{ bytes := msg 1 0 [0, 0] }]).isNext (req (msg 1 0 [0, 0])) = true ∧ (req (msg 1 0 [0, 0])).bytes.length < 8)
    ∧ (let s : State := { linkUp {} with paths := [{}, {}, {}, { queue := [{ bytes := msg 1 0 [0, 0, 0] }] }] }; let q : Request := { req (msg 1 0 [0, 0, 0]) with path := .sideband }
       s.pathUp q.path = true ∧ s.isNext q = true)
    ∧ (let s : State := { asked [{ bytes := msg 1 0 [0, 0, 0], rates := (1, 2) }] with can := [{ enabled := false }, {}] }
       s.pathUp .canA = false ∧ s.mayAnswer .canA = true ∧ s.isNext (req (msg 1 0 [0, 0, 0])) = true) := by decide +kernel

theorem test_hyp_RequestsAndCommands_found :
    (let b := msg 1 K.RES_TOL [0, 0, 0]
     (match stby.find .canA (msgKey b) with
      | .ok r => r == rowOf K.RES_TOL
      | .error _ => false) = true ∧ (rowOf K.RES_TOL).isDomain = false ∧ fieldAt b 5 1 = 0 ∧ fieldAt b 6 1 = 0)
    ∧ (match stby.find .canA (msgKey (msg 1 0xFFFFFF [0, 0, 0])) with
      | .ok _ => false
      | .error e => e == 1) = true
    ∧ (let b := msg 2 K.RES_TOL ([0, 0, 0] ++ leBytes 2 5); msgKey b = K.RES_TOL ∧ (rowOf K.RES_TOL).acc ≠ .ro ∧ (rowOf K.RES_TOL).acc ≠ .rwa ∧ writeLenOk .canA (rowOf K.RES_TOL) b = true)
    ∧ (let b := msg 3 K.CAL_IMAGE ([48, 0, 0] ++ leBytes 8 0)
       msgKey b = K.CAL_IMAGE ∧ stby.serves .canA (msgKey b) = true ∧ objRow? (msgKey b) = some (rowOf K.CAL_IMAGE) ∧ (rowOf K.CAL_IMAGE).isDomain = true ∧ 16 ≤ b.length
        ∧ fieldAt b 5 2 ≤ maxLen .canA ∧ fieldAt b 8 4 = 0 ∧ ({ stby with paths := [{ protoVer := 2 }] } : State).protoVer .canA ≠ 1)
    ∧ (let b := msg 4 K.PENDING_PLAN ([8, 0, 0] ++ leBytes 4 0 ++ leBytes 4 8 ++ leBytes 8 7)
       objRow? (msgKey b) = some (rowOf K.PENDING_PLAN) ∧ (rowOf K.PENDING_PLAN).isDomain = true ∧ (rowOf K.PENDING_PLAN).acc ≠ .ro ∧ fieldAt b 5 2 ≤ maxLen .canA
        ∧ fills .canA b (16 + fieldAt b 5 2) = true ∧ fieldAt b 8 4 = 0 ∧ (bytesAt b 16 (fieldAt b 5 2)).length = fieldAt b 12 4)
    ∧ (let b := msg 5 0 ([0, 0, 0] ++ leBytes 4 6); 12 ≤ b.length ∧ bitAt (fieldAt b 8 1) 2 = true)
    ∧ (let b := msg 5 0 ([0, 0, 0] ++ leBytes 4 2); 12 ≤ b.length ∧ bitAt (fieldAt b 8 1) 2 = false ∧ bitAt (fieldAt b 8 1) 1 = true) := by decide +kernel

/-- A commit of group 8 that is armed, with a shadow. -/
def commits (k v mask : Nat) : State := { setRegs stby [(K.COMMIT_STATE, 2)] with shadow := [(k, v)], commit := { mask := mask, ticks := 1 } }

theorem test_hyp_Commits :
    (stby.accepts K.COMMIT (wr 4 (2 ^ 22)) = true ∧ stby.commitBusy = false ∧ ofLe (wr 4 (2 ^ 22)).data ≠ 0 ∧ ofLe (wr 4 0).data = 0 ∧ stby.accepts K.COMMIT (wr 4 0) = true)
    ∧ (let s := stby.put K.COMMIT_STATE 2; s.accepts K.COMMIT (wr 4 1) = true ∧ s.commitBusy = true ∧ s.accepts K.DISCARD (wr 4 1) = true)
    ∧ stby.accepts K.DISCARD (wr 4 1) = true
    ∧ (let s : State := { setRegs stby [(K.COMMIT_STATE, 1)] with shadow := [(K.RES_TOL, 4)], commit := { mask := 2 ^ 4 } }
       s.mode.coreRuns = true ∧ s.reg K.COMMIT_STATE = 1 ∧ (s.commitFault s.commit.mask).isSome = true)
    ∧ (let s : State := { setRegs stby [(K.COMMIT_STATE, 1)] with shadow := [(K.RES_TOL, 5)], commit := { mask := 2 ^ 4 } }; s.commitFault s.commit.mask = none)
    ∧ (storeSorted none [(K.RES_TOL, 5)] = true ∧ storeGet [(K.RES_TOL, 5)] K.RES_TOL = some 5) := by decide +kernel

theorem test_hyp_Commits_tick :
    (let s := commits (K.MASK_SEL 0) 3 (2 ^ 12); let v := s.atTick.swapTick
     s.ticking = true ∧ s.commitDue = true ∧ v.commitDue = true ∧ v.tickFault = none ∧ v.commit.mask = 2 ^ 12 ∧ (∀ g, g < 32 → bitAt (2 ^ 12) g = true → g ∈ [8, 12, 14, 19, 21, 22])
      ∧ (∀ n, n < 48 → ∀ k ∈ [K.COMP_LEVEL n, K.COMP_HYST n, K.COMP_POL n], k ∉ v.changed v.commit.mask) ∧ v.lockedA = ((v.withShadows v.commit.mask).shadowDrop v.commit.mask).lockedA ∧ v.lockedB = ((v.withShadows v.commit.mask).shadowDrop v.commit.mask).lockedB)
    ∧ (let s : State := { commits K.SOL_WIN 3 (2 ^ 5) with mode := .scan }; let v := s.atTick.swapTick; s.ticking = true ∧ s.commitDue = true ∧ v.commitDue = true ∧ v.tickFault.isSome = true) := by
  decide +kernel

/-- CAN controller 1 in a state. -/
def canIn (c : CanCtl) : State := { stby with can := [{}, c], paths := [{}, { protoVer := 2 }, {}, {}] }

theorem test_hyp_CanControllers :
    stby.mode.coreRuns = true ∧ stby.canState (1 : Fin 2) = 1 ∧ 248 ≤ ((canIn { txErrors := 255 }).can1 (1 : Fin 2)).txErrors ∧ (canIn { txErrors := 255 }).canState (1 : Fin 2) = 2
    ∧ (stby.can1 (1 : Fin 2)).txErrors < 248 ∧ (stby.can1 (1 : Fin 2)).enabled = true ∧ stby.reg K.REF_STATE ≠ 0 ∧ (stby.can1 (1 : Fin 2)).busOff = false
    ∧ ((canIn { busOff := true }).can1 (1 : Fin 2)).busOff = true ∧ ((canIn { applyDue := true }).can1 (1 : Fin 2)).applyDue = true
    ∧ (canIn { statusEn := true, statusDue := true }).canStatusDue (1 : Fin 2) = true := by decide +kernel

/-- The QSPI port in a state. -/
def port (q : Qspi) : State := { stby with qspi := q }

theorem test_hyp_QspiPort :
    (stby.mode.coreRuns = true ∧ stby.answers = true ∧ mirrorEnd - 16 + 16 ≤ mirrorEnd ∧ mirrorEnd - 16 < mirrorEnd ∧ mirrorEnd < mirrorEnd - 16 + 17)
    ∧ (0x10000000 ≤ 0x1000FFFF ∧ 0x1000FFFF + 1 ≤ 0x10010000 ∧ 0 < 1 ∧ 1 ≤ (port { bulkOut := [7] }).qspi.bulkOut.length ∧ (port { bulkOut := [] }).qspi.bulkOut.length < 1)
    ∧ (0x20000000 ≤ 0x2003FFFF ∧ 0x2003FFFF + 1 ≤ 0x20040000)
    ∧ ((port { writeQ := List.replicate 7 (0, []) }).qspi.writeQ.length < 8 ∧ 8 ≤ (port { writeQ := List.replicate 8 (0, []) }).qspi.writeQ.length)
    ∧ (port {}).qspi.bulkIn.length + [(7 : Byte)].length ≤ 32768
    ∧ (port { writeQ := [(0, [1])] }).qspi.writeQ = (0, [1]) :: []
    ∧ (stby.accepts K.QDOM_SEL (wr 4 0x10100000) = true ∧ stby.accepts K.QDOM_WRITE_LEN (wr 4 8) = true ∧ stby.qspi.domJob = none)
    ∧ ((port { domJob := some (0x10100000, []) }).qspi.domJob = some (0x10100000, []) ∧ (port { domJob := some (0x10100000, []) }).accepts K.QDOM_WRITE_LEN (wr 4 8) = true)
    ∧ stby.accepts K.QSPI_DICT_VER (wr 2 0x0200) = true := by decide +kernel

/-- A bulk queue that is full takes no more. -/
theorem test_hyp_QspiPort_full : (port { bulkIn := List.replicate 32768 0 }).qspi.bulkIn.length ≤ 32768
    ∧ 32768 < (port { bulkIn := List.replicate 32768 0 }).qspi.bulkIn.length + [(7 : Byte)].length := by
  have h : (port { bulkIn := List.replicate 32768 0 }).qspi.bulkIn.length = 32768 := List.length_replicate
  rw [h]; decide

/-- The keys are loaded. -/
def keyed : State := stby.put K.KEY_STATE 3
/-- A record for DEG_ACK with a counter and a tag. -/
def record (k n c : Nat) (tag : List Byte) : List Byte := authRecord k n c 7 tag

theorem test_hyp_AuthenticatedWrites :
    stby.mayWrite .canA K.AUTH_WRITE = true
    ∧ (let k := K.SEAL_PROGRAM; let b := record k 4 1 []
       b.length = 32 ∧ fieldAt b 3 1 = 4 ∧ (∀ x ∈ bytesAt b 24 8, x = 0) ∧ (∀ x ∈ bytesAt b (8 + 4) (8 - 4), x = 0) ∧ objKey (fieldAt b 0 2) (fieldAt b 2 1) = k
        ∧ authTarget k = some (rowOf k) ∧ (rowOf k).size = 4 ∧ (rowOf k).modes.holds .standby = true)
    ∧ (setRegs stby [(K.KEY_STATE, 4)]).authKey = false ∧ keyed.authKey = true ∧ keyed.auth.lockTicks = 0 ∧ ({ keyed with auth := { lockTicks := 1 } } : State).auth.lockTicks ≠ 0
    ∧ fieldAt (record K.SEAL_PROGRAM 4 0 []) 4 4 ≤ keyed.reg K.AUTH_COUNTER ∧ keyed.reg K.AUTH_COUNTER < fieldAt (record K.SEAL_PROGRAM 4 1 []) 4 4
    ∧ (let s : State := { stby with sealed := { request := some 0 } }
       s.sealed.request = some 0 ∧ s.sealed.blown = false ∧ (0 : Nat) ≠ crc32 stby.sealImage ∧ ({ stby with sealed := { request := some 0, blown := true } } : State).sealed.blown = true)
    ∧ (let s : State := { stby with spares := { list := [0x30000], burn := some 0x30000 } }
       s.spares.burn = some 0x30000 ∧ s.fuseRetired 0x30000 = false ∧ s.unitOut 0x30000 = true ∧ s.fuses.retire.getD 0 0 = 0 ∧ s.fuses.rowsUsed < 16
        ∧ ({ rows := 0, vinLow := true } : FuseEnd).vinLow = true ∧ ({ rows := 1, vinLow := false } : FuseEnd).vinLow = false ∧ 0 < ({ rows := 1, vinLow := false } : FuseEnd).rows ∧ 16 ≤ ({ s with fuses := { rowsUsed := 16 } } : State).fuses.rowsUsed)
    ∧ (let s : State := { stby with spares := { list := [0x30000], burn := some 0x30000 }, fuses := { retire := List.replicate 64 1 } }
       s.fuseRetired 0x30000 = false ∧ s.unitOut 0x30000 = true ∧ ∀ i, i < 64 → s.fuses.retire.getD i 0 ≠ 0)
    ∧ (let s : State := { stby with spares := { burn := some 0x30000 } }; s.fuseRetired 0x30000 = false ∧ s.unitOut 0x30000 = false)
    ∧ (let s : State := { stby with fuses := { retire := [retireEntry 0x30000] }, spares := { burn := some 0x30000 } }; s.spares.burn = some 0x30000 ∧ s.fuseRetired 0x30000 = true)
    ∧ ({ keyed with auth := { lockTicks := 1 } } : State).auth.lockTicks = 1 := by decide +kernel

/-- A record that carries its own tag, and one that does not. -/
theorem test_hyp_AuthenticatedWrites_tag :
    let t := keyed.authTag (record K.SEAL_PROGRAM 4 1 [])
    bytesAt (record K.SEAL_PROGRAM 4 1 t) 16 8 = keyed.authTag (record K.SEAL_PROGRAM 4 1 t)
      ∧ bytesAt (record K.SEAL_PROGRAM 4 1 (t.map (· + 1))) 16 8 ≠ keyed.authTag (record K.SEAL_PROGRAM 4 1 (t.map (· + 1))) := by decide +kernel

/-- The CRC of the seal image as reset leaves it. -/
theorem test_hyp_AuthenticatedWrites_seal :
    let s : State := { stby with sealed := { request := some (crc32 stby.sealImage) } }
    s.sealed.request = some (crc32 ({ s with sealed := { s.sealed with request := none } } : State).sealImage)
      ∧ s.fuses.rowsUsed + 16 ≤ 16 ∧ 16 < s.fuses.rowsUsed + 17 ∧ s.sealed.blown = false ∧ crc32 stby.sealImage + 1 ≠ crc32 stby.sealImage := by decide +kernel

theorem test_hyp_PennantAndInterrupt :
    stby.accepts K.PENNANT_CLEAR (wr 8 (2 ^ 18)) = true ∧ stby.accepts K.IRQ_ACK (wr 8 1) = true ∧ stby.settle.mode.coreRuns = true
    ∧ ({ stby with mode := .off } : State).settle.mode.coreRuns = false := by decide +kernel

theorem test_hyp_ReferenceAndLocks :
    (stby.reg K.REF_STATE = 1 ∧ stby.fs.retire.source < 50 ∧ stby.fs.retire.target < 50 ∧ stby.reg (pllState true) = 2 ∧ ((stby.put K.PLLB_STATE 1).reg (pllState true) ≠ 2))
    ∧ (stby.put K.REF_STATE 0).reg K.REF_STATE ≠ 1
    ∧ (stby.mode.coreRuns = true ∧ stby.reg (pllState false) ≠ 0 ∧ (stby.pll false).skip = false ∧ stby.reg (pllState false) = 2 ∧ (-8 : Int).natAbs ≤ 8 ∧ 8 < (9 : Int).natAbs)
    ∧ (let s := stby.put K.PLLA_STATE 1; s.reg (pllState false) ≠ 2 ∧ 2 < (3 : Int).natAbs ∧ (-2 : Int).natAbs ≤ 2 ∧ (s.pll false).good ≠ 3)
    ∧ (let s : State := ({ stby with clk := { a := { good := 3 } } }).put K.PLLA_STATE 1; s.reg (pllState false) ≠ 2 ∧ (s.pll false).good = 3 ∧ s.mode ≠ .boot)
    ∧ (let s : State := ({ stby with clk := { a := { ticks := 5000 } } }).put K.PLLA_STATE 1; s.reg K.PLLA_STATE = 1 ∧ 5000 ≤ s.clk.a.ticks)
    ∧ (let s : State := ({ stby with clk := { b := { ticks := 5000 } } }).put K.PLLB_STATE 1; s.reg K.PLLB_STATE = 1 ∧ 5000 ≤ s.clk.b.ticks)
    ∧ (let s : State := { stby with clk := {} }; s.lockedA = true ∧ s.clk.slotLocked = false ∧ stby.clk.slotLocked = true)
    ∧ (let s : State := { stby with clk := { outs := [{}, { due := true }] } }; (s.clk.outs.getD (1 : Fin 2) {}).due = true ∧ (s.clk.outs.getD (1 : Fin 2) {}).fresh = false) := by decide +kernel

/-- An HK table of one entry, in a state of HK_STATE. -/
def seq (w st : Nat) (h : Hk) : State := setRegs { stby with hk := { h with on := true } } [(K.HK_SEQ 0, w), (K.HK_SEQ_LEN, 1), (K.HK_STATE, st)]
/-- An entry: input, wait kind and REPEAT. -/
def entry (input wait rep : Nat) : Nat := input * 2 ^ 27 + wait * 2 ^ 21 + rep * 2 ^ 5

theorem test_hyp_Housekeeping :
    (let s := seq (entry 0 1 1) 2 { tickDue := true }
     s.mode.coreRuns = true ∧ s.hk.on = true ∧ s.hkArmed 1 = true ∧ s.hk.tickDue = true ∧ s.hk.markDue = 0 ∧ s.reg K.HK_STATE = 2 ∧ hkWait (s.hkEntryWord (s.reg K.HK_ENTRY)) = 1)
    ∧ (let s := seq (entry 0 2 1) 1 { markDue := 1 }
       s.hk.on = true ∧ s.hkArmed 2 = true ∧ s.hk.tickDue = false ∧ s.hk.markDue = 1 ∧ s.reg K.HK_STATE ≠ 2 ∧ s.regBit K.TRIG_LATCHED (2 - 1) = false ∧ (s.put K.TRIG_LATCHED 2).regBit K.TRIG_LATCHED (2 - 1) = true)
    ∧ ((seq (entry 0 2 1) 1 { tickDue := true }).hkArmed 1 = false ∧ stby.hk.tickDue = false ∧ stby.hk.markDue = 0)
    ∧ (let s := seq (entry 0 3 1) 2 { timer := 1997, fireAt := 2000 }; s.hk.on = true ∧ s.hkArmed 3 = true ∧ s.hk.fireAt - s.hk.timer < 4)
    ∧ (let s := seq (entry 0 2 1) 2 { timer := 1997, fireAt := 2000 }; s.hkArmed 3 = false ∧ s.hk.fireAt - s.hk.timer < 4)
    ∧ (let s := seq (entry 0 3 1) 2 { timer := 1996, fireAt := 2000 }; 4 ≤ s.hk.fireAt - s.hk.timer)
    ∧ (let s := seq (entry 0 0 1) 0 {}
       s.hk.started = false ∧ s.hk.urgent = [] ∧ s.reg K.HK_ENTRY < s.reg K.HK_SEQ_LEN ∧ hkRepeat (s.hkEntryWord (s.reg K.HK_ENTRY)) ≠ 0 ∧ hkWait (s.hkEntryWord (s.reg K.HK_ENTRY)) = 0)
    ∧ (let s := (seq (entry 0 1 1) 0 {}).put K.TRIG_LATCHED 1
       hkWait (s.hkEntryWord 0) ≠ 0 ∧ s.hk.aborted = false ∧ s.regBit K.TRIG_LATCHED (hkWait (s.hkEntryWord 0) - 1) = true)
    ∧ (let s := seq (entry 0 1 1) 0 {}; s.regBit K.TRIG_LATCHED (hkWait (s.hkEntryWord 0) - 1) = false)
    ∧ (let s := seq (entry 20 0 2) 1 { started := true }
       s.hk.started = true ∧ s.hk.urgent = [] ∧ s.reg K.HK_ENTRY < 64 ∧ hkInput (s.hkEntryWord 0) ≠ 21 ∧ hkInput (s.hkEntryWord 0) ≠ 22 ∧ s.hk.vals.length + 1 < hkRepeat (s.hkEntryWord 0))
    ∧ (let s := seq (entry 7 0 1) 1 { started := true }; hkRepeat (s.hkEntryWord 0) ≤ s.hk.vals.length + 1 ∧ s.reg K.HK_SEQ_LEN ≤ 0 + 1 ∧ hkInput (s.hkEntryWord 0) ≤ 7
      ∧ 0 + 1 < (s.put K.HK_SEQ_LEN 2).reg K.HK_SEQ_LEN)
    ∧ (let s := seq (entry 22 0 1) 1 { started := true }
       s.reg K.HK_ENTRY = 0 ∧ hkInput (s.hkEntryWord 0) = 21 + 1 ∧ hkRepeat (s.hkEntryWord 0) ≤ s.hk.vals.length + 1 ∧ s.hk.open_ ||| ({ leads := 1 } : HkReading).leads ≠ 0) := by
  decide +kernel

theorem test_hyp_ServiceAndUrgent :
    (stby.mode.coreRuns = true ∧ (∀ f ∈ stby.pipe.cur.fires, f.emitter < 16) ∧ stby.ensB.urgentVal = none ∧ stby.ensB.lasDone = false ∧ stby.reg K.RES_STATE ≠ 4 ∧ (25200 : Int) < 25201)
    ∧ ({ stby with ensB := { lasDone := true } } : State).ensB.lasDone = true
    ∧ (let s : State := { stby with ensB := { urgentVal := some 161 } }
       s.ensB.urgentVal = some 161 ∧ 8 * s.inForce K.VLAS_MAX < 100 * ((161 : Int) - 0).natAbs ∧ 100 * ((161 : Int) - 1).natAbs ≤ 8 * s.inForce K.VLAS_MAX)
    ∧ (let s := seq 0 0 {}; s.accepts K.HK_URGENT (wr 2 8) = true ∧ s.hk.on = true ∧ s.hk.urgent.length < 4 ∧ s.hk.started = false)
    ∧ (let s := seq 0 1 { started := true }; s.accepts K.HK_URGENT (wr 2 8) = true ∧ s.hk.urgent = [] ∧ s.hk.started = true)
    ∧ (let s := seq 0 3 { urgent := [{}, {}, {}, {}] }; s.accepts K.HK_URGENT (wr 2 8) = true ∧ 4 ≤ s.hk.urgent.length)
    ∧ stby.hk.on = false
    ∧ (let s : State := { seq 0 3 { urgent := [{ ensign := true }] } with ensB := { lasDone := true } }; s.hk.urgent = { ensign := true } :: [] ∧ s.ensB.lasDone = true)
    ∧ (let s := seq 0 3 { urgent := [{ input := 8, range := 3 }] }; s.hk.urgent = { input := 8, range := 3 } :: [] ∧ ({ input := 8, range := 3 } : Urgent).input ≠ 21) := by decide +kernel

theorem test_hyp_ChargeAmplifiers :
    (stby.mode.coreRuns = true ∧ (∀ f ∈ stby.pipe.cur.fires, f.emitter < 16) ∧ (4 : Fin 5).val ≠ 0 ∧ stby.groupReleased (4 - 1) = [] ∧ 7372 < (-7373 : Int).natAbs ∧ (7372 : Int).natAbs ≤ 7372)
    ∧ (stby.pemEnergy (4 - 1) (chargeOf 0 0) ≤ (stby.inForce K.EDARK_MAX : Rat))
    ∧ (let s : State := { stby with ensB := { released := [(12, 5)] } }; 0 < ((s.groupReleased (4 - 1)).map (·.2)).foldl (· + ·) 0)
    ∧ (let s := setRegs stby [(K.CA_AUTO 4, 0), (K.CA_RANGE 4, stby.reg (K.CA_RANGE_NOW 4))]; s.caFixed (4 : Fin 5) = true ∧ s.reg (K.CA_RANGE (4 : Fin 5)) = s.reg (K.CA_RANGE_NOW (4 : Fin 5)))
    ∧ (let s := setRegs stby [(K.CA_AUTO 4, 0), (K.CA_RANGE 4, stby.reg (K.CA_RANGE_NOW 4) + 1)]; s.caFixed (4 : Fin 5) = true ∧ s.reg (K.CA_RANGE (4 : Fin 5)) ≠ s.reg (K.CA_RANGE_NOW (4 : Fin 5))) := by decide +kernel

/-- Calibration at the last slot of a frame that ends a period. -/
def calEnds : State :=
  { stby with mode := .calibrate, cal := { stby.cal with running := true }, plan := { hasActive := true }, comet := { running := true, frameLen := 1, frameDone := 1 } }

theorem test_hyp_CalibrationImage :
    (calEnds.ticking = true ∧ calEnds.calPeriodDue = true ∧ calEnds.slotCatchUp.calPeriodDue = true)
    ∧ stby.mayWrite .canA K.CAL_SNAP = true
    ∧ ({ stby with cal := { stby.cal with snapDue := true } } : State).cal.snapDue = true
    ∧ (let s : State := { stby with cal := { stby.cal with snapshot := some [1] } }; s.cal.snapDue = false ∧ s.cal.snapshot = some [1])
    ∧ (stby.mayWrite .canA K.CAL_IMAGE = true ∧ stby.imageFault [] = some false ∧ stby.cal.running = false ∧ calEnds.cal.running = true)
    ∧ (let s : State := { stby with cal := { stby.cal with applyTicks := 1 } }; s.ticking = true ∧ s.cal.applyTicks = 1 ∧ s.atTick.cal.applyTicks = 1) := by decide +kernel

/-- An image whose values are all 0. -/
def zeroHead : List Byte := leBytes 2 0x434C ++ leBytes 2 1 ++ leBytes 4 calImageLen ++ leBytes 20 0
/-- See `zeroHead`. -/
def zeroImage : List Byte := zeroHead ++ leBytes 4 (crc32 (zeroHead ++ List.replicate 12180 0)) ++ List.replicate 12180 0

theorem crcBits_lt (n c : Nat) (h : c < 2 ^ 32) : crcBits n c < 2 ^ 32 := by
  induction n generalizing c with
  | zero => exact h
  | succ n ih =>
    rw [crcBits]; apply ih
    split
    · exact Nat.xor_lt_two_pow (by omega) (by decide)
    · omega

theorem crc32_lt (l : List Byte) : crc32 l < 2 ^ 32 := by
  have h : ∀ (l : List Byte) (c : Nat), c < 2 ^ 32 → l.foldl (fun c b => crcBits 8 (c ^^^ b.toNat)) c < 2 ^ 32 := by
    intro l
    induction l with
    | nil => intro c hc; exact hc
    | cons b l ih => intro c hc; exact ih _ (crcBits_lt _ _ (Nat.xor_lt_two_pow hc (by have := b.isLt; omega)))
  exact Nat.xor_lt_two_pow (h l _ (by decide)) (by decide)

theorem zeroImage_field (off n : Nat) (h : 32 ≤ off) : fieldAt zeroImage off n = 0 := by
  have hd : zeroImage.drop off = List.replicate (12180 - (off - 32)) 0 := by
    have hl : (zeroHead ++ leBytes 4 (crc32 (zeroHead ++ List.replicate 12180 0))).length = 32 := by
      rw [List.length_append]; rfl
    rw [zeroImage, List.drop_append, List.drop_eq_nil_of_le (by omega), hl, List.drop_replicate, List.nil_append]
  have h0 : ∀ k, ofLe (List.replicate k (0 : Byte)) = 0 := by
    intro k
    induction k with
    | zero => rfl
    | succ k ih => rw [List.replicate_succ, ofLe, ih]; rfl
  rw [fieldAt, bytesAt, hd]
  simp only [List.take_replicate, List.length_replicate, List.replicate_append_replicate, h0]

theorem zeroImage_item (i : Nat) : imageItem zeroImage i = 0 := by
  unfold imageItem
  dsimp only
  split_ifs <;> rw [zeroImage_field _ _ (by omega)] <;> rfl

theorem ofLe_leBytes4 (v : Nat) (h : v < 2 ^ 32) : ofLe (leBytes 4 v) = v := by
  simp only [leBytes, ofLe, BitVec.toNat_ofNat]; omega

theorem test_hyp_CalibrationImage_accepted : stby.imageFault zeroImage = none := by
  have hlen : zeroImage.length = calImageLen := by
    rw [zeroImage, List.length_append, List.length_append, List.length_replicate]; rfl
  have h28 : zeroHead.length = 28 := rfl
  have hcrc : fieldAt zeroImage 28 4 = crc32 (zeroImage.take 28 ++ zeroImage.drop 32) := by
    have ht : zeroImage.take 28 = zeroHead := by
      rw [zeroImage, List.append_assoc, List.take_append_of_le_length (by omega), ← h28, List.take_length]
    have hd : zeroImage.drop 32 = List.replicate 12180 0 := by
      have hl : (zeroHead ++ leBytes 4 (crc32 (zeroHead ++ List.replicate 12180 0))).length = 32 := by
        rw [List.length_append]; rfl
      rw [zeroImage, List.drop_append, List.drop_eq_nil_of_le (by omega), hl]; rfl
    have hf : bytesAt zeroImage 28 4 = leBytes 4 (crc32 (zeroHead ++ List.replicate 12180 0)) := by
      rw [bytesAt, zeroImage, List.append_assoc, List.drop_append, List.drop_eq_nil_of_le (by omega), h28]; rfl
    rw [ht, hd, fieldAt, hf, ofLe_leBytes4 _ (crc32_lt _)]
  have hres : reservedZero zeroImage = true := by
    have h1 : ∀ j, fieldAt zeroImage (0x25 + 8 * j) 3 = 0 := fun j => zeroImage_field _ _ (by omega)
    have h2 : ∀ j, fieldAt zeroImage (0x2623 + 4 * j) 1 = 0 := fun j => zeroImage_field _ _ (by omega)
    have h3 : fieldAt zeroImage (0x2622 + 4 * 48) 1 = 0 := zeroImage_field _ _ (by omega)
    have h4 : fieldAt zeroImage 24 4 < 64 := by decide +kernel
    simp only [reservedZero, h1, h2, h3, h4, beq_self_eq_true, decide_true, Bool.and_true]
    decide +kernel
  have hrange : ∀ i, (itemRange i).1 ≤ 0 ∧ 0 ≤ (itemRange i).2 := by
    intro i; unfold itemRange; split_ifs <;> decide
  have hhead : (fieldAt zeroImage 0 2 == 0x434C && fieldAt zeroImage 2 2 == 1 && fieldAt zeroImage 4 4 == calImageLen && fieldAt zeroImage 8 8 == stby.fuses.uniqueId) = true := by
    decide +kernel
  simp only [State.imageFault, hhead, hcrc, hres, hlen, zeroImage_item, hrange, beq_self_eq_true, Bool.and_self, decide_true, Bool.or_true, le_refl, ne_eq,
    not_true, if_false, Bool.not_true, Bool.or_self, Bool.false_or]
  have h1 : ((List.range itemEnd).all fun _ => true) = true := by decide +kernel
  have h2 : ((List.range 49).all fun _ => (List.range 127).all fun _ => true) = true := by decide +kernel
  simp only [h1, h2, Bool.not_true, if_false, Bool.false_eq_true, Bool.or_false]

theorem test_hyp_CalibrationImage_refused : stby.imageFault (List.replicate 12212 0) = some true := by decide +kernel

theorem test_hyp_BinsInhibitAndViolations :
    (setRegs stby [(K.REF_STATE, 0)]).ticking = false ∧ stby.ticking = true ∧ (∀ f ∈ (fires.withFires [{ emitter := 15, fate := .fired }]).pipe.cur.fires, f.emitter < 16)
    ∧ fires.ensB.inhibitLow = false ∧ State.reset.ensB.inhibitLow = true
    ∧ (3 : Fin 11).val ∈ [3, 4, 5, 10] ∧ (10 : Fin 11).val ∈ [3, 4, 5, 10] ∧ (0 : Fin 11).val ∉ [3, 4, 5, 10] ∧ (9 : Fin 11).val ∉ [3, 4, 5, 10]
    ∧ stby.regBit K.SH_LATCHED (9 : Fin 11) = false ∧ (stby.put K.SH_LATCHED 512).regBit K.SH_LATCHED (9 : Fin 11) = true := by decide +kernel

theorem test_hyp_PermitsAndUrgents :
    (({ fires with mode := .held } : State).mode ≠ .off ∧ fires.permitLevel true = true ∧ fires.permitLevel false ≠ false)
    ∧ (let s : State := { stby with ensB := { passed := some 7 } }; s.ensB.passed = some 7 ∧ s.ensB.test = none)
    ∧ (let s : State := { stby with ensB := { test := some .a } }; s.ensB.test = some .a ∧ s.ensB.testLow = false)
    ∧ (let s : State := { stby with ensB := { test := some .b, testLow := true } }; s.ensB.test = some .b ∧ s.ensB.testLow = true)
    ∧ (let s : State := { stby with ensB := { permitA := true, permitB := true, sinceTest := 99998 } }; s.ensB.permitA = true ∧ s.ensB.permitB = true ∧ 99998 ≤ s.ensB.sinceTest)
    ∧ (let s : State := { stby with ensB := { permitA := true, permitB := true, sinceTest := 99997 } }; s.ensB.sinceTest < 99998)
    ∧ (let s : State := { seq 0 0 {} with ensB := { sinceRequest := 4999 } }; s.hk.on = true ∧ s.ensB.requested = false ∧ 4999 ≤ s.ensB.sinceRequest ∧ s.hk.urgent.length < 4)
    ∧ (let s : State := { seq 0 0 { urgent := [{}, {}, {}, {}] } with ensB := { urgentRetry := true } }; s.ensB.urgentRetry = true ∧ 4 ≤ s.hk.urgent.length)
    ∧ (let s : State := { seq 0 0 {} with ensB := { sinceUrgent := 9999 } }; s.regBit K.SH_CAUSE 10 = false ∧ 9999 ≤ s.ensB.sinceUrgent)
    ∧ (let s : State := { seq 0 0 {} with ensB := { sinceUrgent := 9998 } }; s.ensB.sinceUrgent < 9999) := by decide +kernel

theorem test_hyp_SealAndStraps :
    (({ stby with mode := .held } : State).mode ≠ .off ∧ ({ stby with mode := .held } : State).mode.coreRuns = false ∧ stby.mode.coreRuns = true ∧ stby.reg K.SEAL_STATE = 0)
    ∧ (let s := setRegs stby [(K.SEAL_STATE, 1), (K.SEAL_CRC, crc32 stby.sealImage)]; s.reg K.SEAL_STATE ≠ 0 ∧ crc32 s.sealImage = s.reg K.SEAL_CRC)
    ∧ (let s := setRegs stby [(K.SEAL_STATE, 1), (K.SEAL_CRC, crc32 stby.sealImage + 1)]; crc32 s.sealImage ≠ s.reg K.SEAL_CRC)
    ∧ stby.sealed.prior = []
    ∧ (let l := [1000000, 330001, 999, 999]; let s := stby.put K.STRAP_BOOT (7 + 8 * 7 + 64 * 0 + 512 * 0)
       l.length = 4 ∧ strapBand (l.getD 0 0) = some 7 ∧ strapBand (l.getD 1 0) = some 7 ∧ strapBand (l.getD 2 0) = some 0 ∧ strapBand (l.getD 3 0) = some 0
        ∧ (5 : Nat) = (7 + 3 * 7 + 5 * 0 + 1) % 8 ∧ (0 : Nat) ≠ (7 + 3 * 7 + 5 * 0 + 1) % 8 ∧ strapWord l = s.reg K.STRAP_BOOT)
    ∧ (let l := [1900, 4100, 8700, 54000]; let s := stby.put K.STRAP_BOOT (1 + 8 * 2 + 64 * 3 + 512 * 7)
       strapBand (l.getD 0 0) = some 1 ∧ strapBand (l.getD 1 0) = some 2 ∧ strapBand (l.getD 2 0) = some 3 ∧ strapBand (l.getD 3 0) = some 5 ∧ (7 : Nat) = (1 + 3 * 2 + 5 * 3 + 1) % 8
        ∧ strapWord l ≠ s.reg K.STRAP_BOOT ∧ strapBand 330001 = some 7 ∧ strapWord [1900, 4100, 8700, 330001] = s.reg K.STRAP_BOOT)
    ∧ (∃ x ∈ [999, 999, 999, 1000], strapBand x = none) ∧ (∃ x ∈ [330000, 999, 999, 999], strapBand x = none) := by decide +kernel

/-- SCAN with one angle source lost. -/
def oneLost : State := { setRegs stby [(K.SRC_STATE, 1)] with mode := .scan }

theorem test_hyp_SafeHoldAndDegraded :
    (let s := stby.put K.SH_CAUSE 1; s.ticking = true ∧ s.safeHoldDue = true ∧ s.atTick.safeHoldDue = true ∧ s.atTick.fs.retire.source < 50 ∧ s.atTick.fs.retire.target < 50)
    ∧ ({ stby with modeSt := { reqTicks := 1 } } : State).modeSt.reqTicks = 1 ∧ ({ stby with modeSt := { frameWait := some .survey } } : State).modeSt.frameWait.isSome = true
    ∧ (oneLost.ticking = true ∧ oneLost.degradedDue = true ∧ oneLost.safeHoldDue = false ∧ oneLost.atTick.degradedDue = true ∧ oneLost.atTick.safeHoldDue = false
      ∧ oneLost.atTick.degSpent = false ∧ oneLost.atTick.fs.retire.source < 50)
    ∧ (let s := oneLost.put K.DEG_USED oneLost.degLimit; s.degradedDue = true ∧ s.safeHoldDue = false ∧ s.atTick.degradedDue = true ∧ s.atTick.safeHoldDue = false ∧ s.atTick.degSpent = true)
    ∧ (let s : State := { stby with ensB := { spentDue := true } }; s.mode.coreRuns = true ∧ s.ensB.spentDue = true)
    ∧ (2000 ≤ (stby.put K.DEG_CLEAN 2000).reg K.DEG_CLEAN ∧ (stby.put K.DEG_CLEAN 1999).reg K.DEG_CLEAN < 2000)
    ∧ (let s : State := { stby with mode := .degraded, ensB := { degAck := true } }
       s.ticking = true ∧ s.ensB.degAck = true ∧ s.safeHoldDue = false ∧ s.atTick.ensB.degAck = true ∧ s.atTick.mode = .degraded ∧ s.atTick.safeHoldDue = false
        ∧ s.atTick.fs.retire.source < 50 ∧ s.atTick.fs.retire.target < 50) := by decide +kernel

/-- SELF-TEST with a self-test in a state of BIST_STATE. -/
def testing (st : Nat) (b : Bist) : State := { stby.put K.BIST_STATE st with mode := .selfTest, spares := { bist := b } }

theorem test_hyp_SelfTests :
    ((testing 0 {}).mayWrite .canA K.BIST_CMD = true ∧ (testing 3 {}).mayWrite .canA K.BIST_CMD = true ∧ (testing 3 {}).reg K.BIST_STATE ≠ 0)
    ∧ ((testing 0 {}).reg K.BIST_STATE = 0 ∧ unitKnown 0xFFFFFF = false ∧ kindOk 1 0x10000 = false)
    ∧ (unitKnown 0x40000 = true ∧ kindOk 1 0x40000 = true ∧ kindOk 2 0x50000 = true ∧ kindOk 3 0x10000 = true ∧ kindOk 4 0x60000 = true ∧ kindOk 5 0xA0000 = true
      ∧ unitKnown 0x50000 = true ∧ unitKnown 0x10000 = true ∧ unitKnown 0x60000 = true ∧ unitKnown 0xA0000 = true)
    ∧ (let s : State := { testing 0 {} with fuses := { retire := [retireEntry 0x40000] } }; s.fuseRetired 0x40000 = true)
    ∧ ((testing 0 {}).fuseRetired 0x40000 = false ∧ stby.bistModeOk 0x40000 = false ∧ (testing 0 {}).bistModeOk 0x40000 = true)
    ∧ (let s : State := { stby with mode := .scan }; let hand := !s.unitOut 0x40000 && s.hasDuty 0x40000 && spared 0x40000 && (s.mode.isRunning || unitClass 0x40000 == 5)
       s.mayWrite .canA K.BIST_CMD = true ∧ s.bistModeOk 0x40000 = true ∧ hand = true ∧ s.spareFor 0x40000 = true
        ∧ (setRegs s [(K.SP_STATE 24, 3), (K.SP_STATE 25, 3)]).spareFor 0x40000 = false)
    ∧ (let s := (testing 1 { kind := 1, unit := 0x30000 }).put K.EE12_FOR 0; s.mode.coreRuns = true ∧ s.reg K.BIST_STATE = 1 ∧ s.spareServes s.spares.bist.unit = true
      ∧ ∀ p ∈ s.spares.planned, p.1 ≠ s.spares.bist.unit)
    ∧ (testing 2 {}).reg K.BIST_STATE = 2
    ∧ (let s := testing 4 { unit := 0x100001, saved := .trigger stby.trg stby.cap }; s.reg K.BIST_STATE = 4 ∧ s.spares.bist.saved = .trigger stby.trg stby.cap)
    ∧ (let s := testing 4 { unit := 0x100003, saved := .decimators stby.dec }; s.reg K.BIST_STATE = 4 ∧ s.spares.bist.saved = .decimators stby.dec)
    ∧ (let s := testing 3 { kind := 3, unit := 0x10000 }; s.reg K.BIST_STATE = 3 ∧ s.fs.retire.source < 50 ∧ s.fs.retire.target < 50 ∧ s.spares.bist.kind ≤ 3 ∧ unitClass s.spares.bist.unit ≠ 5)
    ∧ (let s := (testing 4 { handed := true, outcome := 2 }).put K.AUTO_RETIRE 2; s.reg K.BIST_STATE = 4 ∧ s.spares.bist.handed = true ∧ s.spares.bist.outcome = 2 ∧ s.regBit K.AUTO_RETIRE 1 = true)
    ∧ (let s := (testing 4 { handed := true, outcome := 2 }).put K.AUTO_RETIRE 0; s.regBit K.AUTO_RETIRE 1 = false ∧ s.spares.list.length < 64)
    ∧ (let s := testing 4 { handed := true, outcome := 3 }; s.spares.bist.outcome = 3)
    ∧ (let s := testing 4 {}; s.spares.bist.handed = false ∧ s.spares.bist.wasOut = false)
    ∧ ((testing 3 {}).mayWrite .canA K.BIST_ABORT = true ∧ (testing 3 {}).reg K.BIST_STATE < 4 ∧ 2 ≤ (testing 3 {}).reg K.BIST_STATE ∧ 4 ≤ (testing 4 {}).reg K.BIST_STATE
      ∧ (testing 4 {}).mayWrite .canA K.BIST_ABORT = true) := by decide +kernel

/-- A return of engine 11 in a step, with EE12 in its duty. -/
def returning (st : SpareStep) (c : Comet) : State :=
  { stby.put K.EE12_FOR 11 with mode := .scan, plan := { hasActive := true }, comet := c, spares := { opUnit := 0x3000B, opStep := st, list := [0x3000B] } }

theorem test_hyp_UnitsOutAndBack :
    (stby.mode.coreRuns = true ∧ unitKnown 0xFFFFFF = false)
    ∧ (stby.unitOut 0x3000B = false ∧ stby.spares.list.length < 64 ∧ stby.reg K.BIST_STATE = 0 ∧ stby.spares.opStep = .idle ∧ stby.reg (K.EE_STATE 11) = 0)
    ∧ (stby.unitOut 0x40017 = false ∧ stby.reg (K.SP_STATE 23) = 0)
    ∧ (let s : State := { stby with spares := { opStep := .wait } }; s.accepts K.UNIT_RETIRE (wr 4 0x3000B) = true ∧ s.accepts K.UNIT_RETURN (wr 4 0x3000B) = true ∧ s.spares.opStep ≠ .idle)
    ∧ (stby.accepts K.UNIT_RETIRE (wr 4 0xFFFFFF) = true ∧ stby.reg K.BIST_STATE ≠ 5 ∧ ofLe (wr 4 0xFFFFFF).data = 0xFFFFFF
      ∧ (unitKnown 0xFFFFFF && !stby.unitOut 0xFFFFFF && stby.hasDuty 0xFFFFFF && !stby.underTest 0xFFFFFF) = false)
    ∧ (let v := ofLe (wr 4 0x3000B).data
       (unitKnown v && !stby.unitOut v && stby.hasDuty v && !stby.underTest v) = true ∧ stby.spareFor v = true ∧ spared v = true ∧ unitClass v < 5
        ∧ (spared v && (stby.put K.EE12_FOR 0).spareFor v) = false ∧ (unitKnown v && !(stby.put K.EE12_FOR 0).unitOut v && (stby.put K.EE12_FOR 0).hasDuty v && !(stby.put K.EE12_FOR 0).underTest v) = true)
    ∧ (stby.accepts K.UNIT_RETURN (wr 4 0x3000B) = true ∧ (stby.unitOut 0x3000B && !stby.fuseRetired 0x3000B && stby.spares.passed.contains 0x3000B && !stby.underTest 0x3000B) = false)
    ∧ (let s : State := { stby with spares := { list := [0x3000B], passed := [0x3000B] } }
       s.accepts K.UNIT_RETURN (wr 4 0x3000B) = true ∧ (s.unitOut 0x3000B && !s.fuseRetired 0x3000B && s.spares.passed.contains 0x3000B && !s.underTest 0x3000B) = true) := by decide +kernel

/-- A return of a bank in a step. -/
def bankBack (st : SpareStep) (p : Nat) (served : List (Nat × Nat)) : State :=
  { stby with spares := { opUnit := 0x50000 + p, opStep := st, list := [0x50000 + p], served := served } }

theorem test_hyp_UnitsOutAndBack_more :
    (stby.unitOut (sliceUnit 47 8) = false ∧ stby.shadowSlice 47 = 8 ∧ stby.unitOut (sliceUnit 0 7) = false ∧ stby.shadowSlice 0 ≠ 7)
    ∧ (stby.unitOut 0x50031 = false ∧ stby.fs.retire.busy = false ∧ stby.logicalOf 49 = none ∧ stby.logicalOf 0 = some 0 ∧ stby.spareBanks = 48 :: [49] ∧ stby.reg K.RETIRE_STATE = 0)
    ∧ (let s := setRegs stby [(K.BANK_STATE 48, 0), (K.BANK_STATE 49, 0), (K.RETIRE_STATE, 4)]; s.logicalOf 47 = some 47 ∧ s.spareBanks = [] ∧ s.reg K.RETIRE_STATE = 4 ∧ s.fs.retire.busy = false)
    ∧ (let s := testing 3 { kind := 5, unit := 0xA0003 }; s.mode.coreRuns = true ∧ s.reg K.BIST_STATE = 3 ∧ s.spares.bist.handed = false ∧ s.spares.bist.wasOut = false
      ∧ ¬ (true = true ∧ 1 % 2 ^ 32 = 2 % 2 ^ 32 ∧ 0 % 2 ^ 64 = 0))
    ∧ (let s := testing 4 { kind := 1, unit := 0x100006, outcome := 3 }; s.reg K.BIST_STATE = 4 ∧ s.spares.bist.outcome = 3 ∧ s.unitOut 0x100006 = false ∧ s.spares.list.length < 64)
    ∧ (unitKnown 0x3000B = true ∧ unitClass 0x3000B = 3 ∧ unitKnown 0x40017 = true ∧ unitClass 0x40017 = 4)
    ∧ (let s := (bankBack .wait 0 [(0, 5)]).put (K.BANK_MAP 5) 48; s.spares.opStep = .wait ∧ s.spares.opUnit = 0x50000 + 0 ∧ s.fs.retire.busy = false ∧ s.reg K.RETIRE_STATE = 0
      ∧ storeGet s.spares.served 0 = some 5 ∧ s.reg (K.BANK_MAP 5) ≠ 5)
    ∧ (storeGet (bankBack .wait 47 []).spares.served 47 = none ∧ storeGet (bankBack .wait 3 [(3, 3)]).spares.served 3 = some 3)
    ∧ (bankBack .wait 49 []).bankDuty 49 = none
    ∧ (let s := bankBack .moving 0 []; s.spares.opStep = .moving ∧ s.fs.retire.busy = false ∧ s.logicalOf 0 ≠ none)
    ∧ (let s : State := { stby with spares := { opUnit := 0x100006, opStep := .wait, list := [0x100006] } }; s.ticking = true ∧ s.atTick.spares.opUnit = 0x100000 + 6 ∧ s.atTick.spares.opStep = .wait)
    ∧ (let s : State := { stby with spares := { opUnit := 0xA0003, opStep := .wait, list := [0xA0003] } }; s.atTick.spares.opUnit = 0xA0000 + 3 ∧ s.atTick.spares.opStep = .wait)
    ∧ (let s : State := { setRegs stby [(K.SLICE_MAP 47, 0x86543210)] with mode := .scan, plan := { hasActive := true }, comet := { running := true, left := 1 },
                                                                            spares := { opUnit := sliceUnit 47 7, opStep := .wait, list := [sliceUnit 47 7] } }
       let v := s.atTick
       s.ticking = true ∧ v.spares.opUnit = sliceUnit 47 7 ∧ v.shadowSlice 47 = 7 ∧ v.spares.opStep = .wait ∧ v.comet.running = true ∧ v.groupBusy [47] 11200 = false)
    ∧ (let s : State := { setRegs stby [(K.SLICE_MAP 47, 0x86543210)] with spares := { opUnit := sliceUnit 47 7, opStep := .shadow, list := [sliceUnit 47 7] } }
       let v := s.atTick
       s.ticking = true ∧ v.spares.opStep = .shadow ∧ v.comet.running = false ∧ v.shadowSlice 47 = 7 ∧ ∀ p, p < 7 → v.sliceAt 47 p ≠ v.sliceAt 47 7) := by decide +kernel

theorem test_hyp_UnitsOutAndBack_return :
    (let s := returning .wait { running := true, left := 1 }; let v := s.atTick
     s.ticking = true ∧ v.spares.opUnit = 0x30000 + 11 ∧ v.reg K.EE12_FOR = 11 ∧ s.spares.opStep = .wait ∧ v.spares.opStep = .wait ∧ v.comet.running = true
      ∧ v.groupBusy (unitChans 0x3000B) 11200 = false)
    ∧ (let s := returning .shadow {}; let v := s.atTick
       s.ticking = true ∧ v.spares.opUnit = 0x30000 + 11 ∧ v.reg K.EE12_FOR = 11 ∧ s.spares.opStep = .shadow ∧ v.spares.opStep = .shadow ∧ v.comet.running = false) := by decide +kernel

theorem test_hyp_TestAccess :
    stby.mode ≠ .off ∧ ({ stby with rst := { testEn := true } } : State).rst.testEn = true ∧ stby.rst.testEn = false
      ∧ chainBalls[0]? = some (.fire 0) ∧ chainBalls[chainBalls.length - 1]? = some .faultN := by decide +kernel

/-- HELD with the rails in a step of their start. -/
def rails (x : Supply) : State := { setRegs State.reset [(K.RAIL_STATE 0, 0), (K.RAIL_STATE 1, 0), (K.RAIL_STATE 2, 0)] with mode := .held, sup := x }

theorem test_hyp_RailsAndSupply :
    (rails { vaoOn := false, released := false }).sup.vaoOn = false
    ∧ ((rails { released := false }).sup.vaoOn = true ∧ (rails { released := false }).sup.released = false)
    ∧ (let s := rails {}; s.sup.restartDue = false ∧ s.sup.released = true ∧ s.sup.lockOut = false ∧ bitAt s.sup.declared 3 = false ∧ s.sup.step = .idle ∧ s.railsGood = false
      ∧ s.mode ≠ .thermalLatch ∧ s.railOn 2 = false ∧ (s.put (K.RAIL_STATE 2) 2).railOn 2 = true ∧ (s.put (K.RAIL_STATE 2) 2).railsGood = false)
    ∧ (rails { restartDue := true }).sup.restartDue = true
    ∧ ((rails { step := .vio }).sup.step = .vio ∧ (rails { step := .vana }).sup.step = .vana ∧ (rails { step := .vcore }).sup.step = .vcore ∧ (rails { step := .vcore }).pinsHold = false
      ∧ (let s : State := { rails { step := .vcore } with mode := .off, rst := { resetLow := true } }; s.pinsHold = true ∧ s.mode = .off))
    ∧ (let s : State := { stby.put (K.RAIL_STATE 0) 2 with sup := { stby.sup with conv := [{ limited := 998 }, {}, {}, {}] } }; let t := s.convPeriods [[50, 50]]
       t ≠ s.setSup { s.sup with conv := t.sup.conv })
    ∧ (let s : State := stby.put (K.RAIL_STATE 0) 2
       (∀ i, i < 4 → ((s.convStep fun _ _ => 50).sup.conv.getD i {}).limited < 1000)
        ∧ ∃ i, i < 4 ∧ 1000 ≤ ((({ s with sup := { s.sup with conv := [{ limited := 999 }, {}, {}, {}] } } : State).convStep fun _ _ => 50).sup.conv.getD i {}).limited)
    ∧ (({} : Conv).period 50).early = true ∧ ({ limited := 9 } : Conv).period 49 = {}
    ∧ ((stby.put (K.RAIL_STATE 2) 1).reg (K.RAIL_STATE (2 : Fin 3)) = 1 ∧ (stby.put (K.RAIL_STATE 0) 4).reg (K.RAIL_STATE (0 : Fin 3)) = 4) := by decide +kernel

theorem test_hyp_ShedLevels :
    (stby.sup.released = true ∧ 0 < (1 : Fin 5).val ∧ bitAt stby.sup.declared ((1 : Fin 5).val - 1) = false ∧ stby.fs.retire.source < 50 ∧ stby.fs.retire.target < 50)
    ∧ (let u := (stby.setSup { stby.sup with declared := withBit stby.sup.declared 1 true }).put (K.SHED_ENTRIES 1) 1; (2 : Fin 5).val < 3 ∧ u.shedNow ≠ stby.reg K.SHED_LEVEL)
    ∧ (let s := (stby.setSup { declared := 4 }).put K.SHED_LEVEL 3; let u := (s.setSup { s.sup with declared := withBit s.sup.declared 0 true }).put (K.SHED_ENTRIES 0) 1
       u.shedNow = s.reg K.SHED_LEVEL)
    ∧ (bitAt stby.sup.declared 2 = false ∧ bitAt stby.sup.declared 3 = false)
    ∧ (let s := (stby.setSup { declared := 1 }).put K.SHED_LEVEL 1; bitAt s.sup.declared ((1 : Fin 5).val - 1) = true
      ∧ (s.setSup { s.sup with declared := withBit s.sup.declared 0 false }).shedNow ≠ s.reg K.SHED_LEVEL)
    ∧ (let s := (stby.setSup { declared := 5 }).put K.SHED_LEVEL 3; bitAt s.sup.declared ((3 : Fin 5).val - 1) = true ∧ bitAt s.sup.declared 0 = true
      ∧ (s.setSup { s.sup with declared := withBit s.sup.declared 0 false }).shedNow = s.reg K.SHED_LEVEL)
    ∧ (let s := (rails { declared := 8 }).put (K.RAIL_STATE 2) 2; bitAt s.sup.declared ((4 : Fin 5).val - 1) = true ∧ s.sup.lockOut = false ∧ s.sup.step = .idle ∧ s.railOn 0 = false
      ∧ s.railOn 2 = true ∧ s.mode ≠ .thermalLatch ∧ s.sup.restartDue = false)
    ∧ (let s := (rails { declared := 9, restartDue := true }).put K.SHED_LEVEL 1; bitAt s.sup.declared ((4 : Fin 5).val - 1) = true ∧ s.sup.restartDue = true
      ∧ (s.setSup { s.sup with declared := withBit s.sup.declared 3 false }).shedNow = s.reg K.SHED_LEVEL)
    ∧ stby.reg K.VIN_OV ≠ 1 ∧ (stby.put K.VIN_OV 1).reg K.VIN_OV = 1 ∧ stby.mayWrite .canA K.VIN_MINMAX_CLR = true := by decide +kernel

/-- Sensor 11 in a state. -/
def sensor (x : TempSensor) : State := stby.setSensor 11 x

theorem test_hyp_TemperaturesAndThrottle :
    (stby.mode ≠ .off ∧ stby.therm.latched = false ∧ (stby.tsBreak 11).latchDue = false)
    ∧ (let s := (sensor { missed := 10 }).setSensor 10 { broken := true }; (s.tsBreak 11).latchDue = true)
    ∧ (let u := (sensor {}).thermDue; u.tsJudged 11 = true ∧ (u.tsensor 11).broken = false ∧ (List.replicate 11 none ++ [some (2800 : Int)]).getD 11 none = some 2800
      ∧ (List.replicate 11 none ++ [some (2801 : Int)]).getD 11 none = some 2801)
    ∧ (let s := sensor { missed := 10 }; s.tsJudged 11 = true ∧ 10 ≤ (s.tsensor 11).missed ∧ (s.tsensor 11).broken = false)
    ∧ (let s : State := stby.setTherm { stby.therm with zones := List.replicate 5 {} ++ [{ diffRun := 1001 }] }; 1000 < (s.tzone (5 : Fin 6)).diffRun)
    ∧ (let s : State := stby.setTherm { stby.therm with zones := List.replicate 5 {} ++ [{ diffRun := 1000 }] }; (s.tzone (5 : Fin 6)).diffRun ≤ 1000)
    ∧ (let s := setRegs stby [(K.ZONE_JUDGED 5, 1920)]; s.zoneAt K.ZONE_JUDGED 1920 = true ∧ s.reg K.THROT_STEP = 0)
    ∧ (let s := (setRegs stby [(K.ZONE_JUDGED 5, 1920), (K.THROT_STEP, 3)]).setTherm { stby.therm with hotFor := 101 }
       s.zoneAt K.ZONE_JUDGED 1920 = true ∧ 0 < s.reg K.THROT_STEP ∧ s.reg K.THROT_STEP < 4 ∧ 100 < s.therm.hotFor)
    ∧ (let s := (setRegs stby [(K.THROT_STEP, 1)]).setTherm { stby.therm with coolFor := 100 * stby.reg K.THROT_RELAX + 1 }; s.reg K.THROT_STEP ≠ 0 ∧ 100 * s.reg K.THROT_RELAX < s.therm.coolFor) := by
  decide +kernel

/-- A mode request that is judged at the tick to come. -/
def asks (m v : Nat) : State := { stby.put K.MODE_REQ v with mode := Mode.ofCode m, modeSt := { reqTicks := 1 } }

theorem test_hyp_ModeRequests :
    (stby.mayWrite .canA K.MODE_REQ = true ∧ (wr 1 9).data.length = 1 ∧ 8 < ofLe (wr 1 9).data ∧ ofLe (wr 1 2).data < 3)
    ∧ (Mode.ofCode 4 = stby.mode ∧ Mode.ofCode 3 ≠ stby.mode ∧ Mode.ofCode 8 ≠ stby.mode)
    ∧ (let s := (asks 4 3).put K.SH_CAUSE 1; s.ticking = true ∧ s.modeSt.reqTicks = 1 ∧ s.atTick.modeSt.reqTicks = 1 ∧ s.atTick.autoDue = true)
    ∧ (let u := (asks 4 4).atTick; u.modeSt.reqTicks = 1 ∧ u.autoDue = false ∧ u.ensB.degAck = false ∧ u.modeVerdict (Mode.ofCode (u.reg K.MODE_REQ)) = 0 ∧ Mode.ofCode (u.reg K.MODE_REQ) = u.mode)
    ∧ (let u := (asks 4 3).atTick; u.modeSt.reqTicks = 1 ∧ u.autoDue = false ∧ u.modeVerdict (Mode.ofCode (u.reg K.MODE_REQ)) = 0 ∧ Mode.ofCode (u.reg K.MODE_REQ) ≠ u.mode ∧ u.fs.retire.source < 50)
    ∧ (let u := (asks 4 6).atTick; u.modeSt.reqTicks = 1 ∧ u.autoDue = false ∧ 2 ≤ u.modeVerdict (Mode.ofCode (u.reg K.MODE_REQ))) := by decide +kernel

theorem test_hyp_ModeRequests_frame :
    (let s : State := { asks 6 7 with plan := { hasActive := true }, comet := { running := true, frameLen := 8 } }; let u := s.atTick
     s.ticking = true ∧ u.modeSt.reqTicks = 1 ∧ u.autoDue = false ∧ u.modeVerdict (Mode.ofCode (u.reg K.MODE_REQ)) = 1)
    ∧ (let s : State := { stby with modeSt := { reqTicks := 2 } }; s.modeSt.reqTicks = 2)
    ∧ (let s : State := { stby with mode := .scan, plan := { hasActive := true }, comet := { running := true, frameLen := 8, frameDone := 8 }, modeSt := { frameWait := some .survey } }
       s.ticking = true ∧ s.modeSt.frameWait.isSome = true ∧ s.atFrameBoundary = true ∧ s.autoDue = false ∧ s.atTick.modeSt.frameWait = some .survey ∧ s.atTick.atFrameBoundary = true
        ∧ s.atTick.fs.retire.source < 50 ∧ s.atTick.fs.retire.target < 50) := by decide +kernel

/-- BOOT at a step, PLL A starting. -/
def boots (n : Nat) (p : Pll) : State := { State.reset.put K.PLLA_STATE 1 with boot := { step := n }, clk := { a := p } }

theorem test_hyp_BootSteps :
    (State.reset.mode = .boot ∧ State.reset.boot.step = 0 ∧ (∀ f ∈ State.reset.pipe.cur.fires, f.emitter < 16) ∧ ({ State.reset with sealed := { blown := true } } : State).sealed.blown = true
      ∧ (∃ e ∈ [leBytes 4 1], fieldAt e 0 4 = 1))
    ∧ (let s := boots 3 { good := 3 }; s.mode = .boot ∧ s.boot.step = 3 ∧ s.reg K.REF_STATE = 1 ∧ s.reg K.PLLA_STATE ≠ 0 ∧ s.reg K.PLLA_STATE ≠ 2 ∧ s.clk.a.skip = false ∧ s.clk.a.good = 3
      ∧ (2 : Int).natAbs ≤ 2 ∧ s.noKeyHash = true)
    ∧ (let s := boots 3 { ticks := 5000 }; s.mode = .boot ∧ s.boot.step = 3 ∧ s.reg K.PLLA_STATE = 1 ∧ 5000 ≤ s.clk.a.ticks)
    ∧ (let s := (boots 3 {}).put K.REF_STATE 0; s.reg K.REF_STATE ≠ 1)
    ∧ (boots 10 {}).boot.step = 10
    ∧ (let s := boots 11 {}; s.ticking = true ∧ s.bootExitDue = true ∧ s.atTick.bootExitDue = true ∧ s.atTick.fs.retire.source < 50 ∧ s.atTick.fs.retire.target < 50) := by decide +kernel

/-- BOOT with a script record in hand. -/
def scripts (r : List Byte) (w : Bool) : State := { State.reset with boot := { step := 9, answers := true, script := [r], commitWait := w } }

theorem test_hyp_ScriptRecords :
    (let s := scripts (msg 1 K.MIR_KP []) false; s.mode = .boot ∧ s.boot.step = 9 ∧ s.boot.script = msg 1 K.MIR_KP [] :: [])
    ∧ (let r : List Byte := [1, 4, 0x20, 0x20, 1, 0, 0, 0] ++ leBytes 4 0; fieldAt r 0 1 = 1 ∧ objKey (fieldAt r 2 2) (fieldAt r 4 1) = K.MIR_KP ∧ objRow? K.MIR_KP = some (rowOf K.MIR_KP)
      ∧ objRow? (objKey 0xFFFF 255) = none)
    ∧ (let r : List Byte := [2, 0] ++ leBytes 2 (K.PENDING_PLAN / 256) ++ [0, 0, 0, 0] ++ leBytes 4 0 ++ leBytes 4 8
       fieldAt r 0 1 = 2 ∧ objRow? (objKey (fieldAt r 2 2) (fieldAt r 4 1)) = some (rowOf K.PENDING_PLAN))
    ∧ (let s := (scripts [3, 0, 0, 0, 1, 0, 0, 0] false).put K.COMMIT_STATE 1; s.boot.commitWait = false ∧ s.commitBusy = true)
    ∧ (let s := scripts [3, 0, 0, 0, 1, 0, 0, 0] false; s.commitBusy = false ∧ fieldAt [3, 0, 0, 0, 1, 0, 0, 0] 4 4 ≠ 0 ∧ fieldAt [3, 0, 0, 0, 0, 0, 0, 0] 4 4 = 0)
    ∧ (let s := scripts [3, 0, 0, 0, 1, 0, 0, 0] true; s.boot.commitWait = true ∧ s.reg K.COMMIT_STATE = 0 ∧ (s.put K.COMMIT_STATE 2).commitBusy = true ∧ (s.put K.COMMIT_STATE 3).reg K.COMMIT_STATE = 3)
    ∧ fieldAt [15] 0 1 = 15 := by decide +kernel

theorem test_hyp_ScriptRecords_wait :
    (match (scripts [4] false).waitValue K.REF_STATE with
      | .ok v => v == 1 && (v &&& 1 == 1) && (v &&& 1 != 0)
      | .error _ => false) = true
    ∧ (match (scripts [4] false).waitValue 0xFFFFFF with
      | .ok _ => false
      | .error e => e == 1) = true := by decide +kernel

theorem test_hyp_ResetAndPins :
    (stby.sup.released = true ∧ stby.rst.resetLow = false ∧ stby.mode ≠ .thermalLatch ∧ ({ stby with mode := .thermalLatch } : State).mode = .thermalLatch)
    ∧ (let s : State := { stby with mode := .held, rst := { resetLow := true } }; s.rst.resetLow = true ∧ s.rst.stuck = false ∧ s.mode ≠ .thermalLatch)
    ∧ (let s : State := { setRegs stby [(K.RAIL_STATE 0, 2), (K.RAIL_STATE 1, 2), (K.RAIL_STATE 2, 2)] with mode := .held, rst := { resetLow := true, tapHeld := true, resetSince := true } }
       s.mode = .held ∧ s.railsGood = true ∧ s.rst.testEn = false ∧ s.rst.resetSince = true ∧ s.sup.lockOut = false)
    ∧ (stby.mayWrite .canA K.RET_LOG_CLEAR = true ∧ stby.sup.lockRail = none ∧ ({ stby with sup := { lockRail := some 2 } } : State).sup.lockRail = some 2)
    ∧ ({ stby with rst := { testEn := true } } : State).rst.testEn = true ∧ stby.rst.structural = false ∧ ({ stby with rst := { structural := true } } : State).rst.structural = true := by decide +kernel

theorem test_hyp_StepRunsFront :
    ({ stby with pending := [.slot, .fire] } : State).pending = .slot :: [.fire] ∧ stby.pending = [] := by decide +kernel

theorem test_hyp_SettlingFrame :
    stby.permitCond = false ∧ (fires.put K.CEIL_CODE 1).permitCond = true ∧ stby.driveAllowed = true ∧ ({ stby with mode := .held } : State).driveAllowed = false
    ∧ (linkIn 5 {}).linkEnabled = true ∧ stby.reg K.STR_STATE = 0 := by decide +kernel

/-- The rails of a part are good. -/
def powered (m : Mode) (r : ResetState) : State := { setRegs stby [(K.RAIL_STATE 0, 2), (K.RAIL_STATE 1, 2), (K.RAIL_STATE 2, 2)] with mode := m, rst := r }

theorem test_hyp_ResetAndPins_balls :
    (powered .off {}).mode = .off ∧ (powered .thermalLatch {}).mode ≠ .off ∧ (let s := (powered .held {}).put (K.RAIL_STATE 1) 1; s.mode ≠ .off ∧ s.railsGood = false)
    ∧ ((powered .held {}).mode = .held ∧ (powered .held {}).railsGood = true) ∧ ((powered .safeHold {}).mode = .safeHold ∧ (powered .safeHold {}).railsGood = true)
    ∧ (let s := powered .held { testEn := true, pinsHighZ := true, pinsFromChain := true }; s.rst.testEn = true ∧ Ball.irqN.inChain = true ∧ s.rst.pinsHighZ = true)
    ∧ (let s := powered .held { testEn := true, pinsFromChain := true }; s.rst.testEn = true ∧ s.rst.pinsHighZ = false ∧ s.rst.pinsFromChain = true)
    ∧ (let s := powered .held { testEn := true, pinsFromChain := true, preload := List.replicate 80 true }
       s.preloaded .irqN = true ∧ s.preloaded (.fire 0) = true ∧ (powered .held {}).preloaded .faultN = false ∧ Ball.faultN ≠ Ball.irqN)
    ∧ (powered .held {}).rst.testEn = false ∧ (Ball.permit true).inChain = false ∧ (powered .held {}).mode ≠ .off ∧ (powered .held {}).railOn 2 = true := by decide +kernel

theorem test_hyp_OutputsStaySafe :
    ({ stby with pending := [.inhibitFall] } : State).outputsSafe = true ∧ State.reset.outputsSafe = true
      ∧ ∃ t, step { stby with pending := [.inhibitFall] } = .next t := ⟨by decide +kernel, by decide +kernel, _, rfl⟩

theorem test_hyp_StoreKeepsForm : (granted 63).memoryWf = true ∧ ∃ t, exec (.granuleIssue 0 0 []) (granted 63) = .next t := ⟨by decide +kernel, _, rfl⟩

/-! ### Commands that are not well formed are refused by each check -/

theorem test_wf_tick : (Instr.slotTick { samples := [List.replicate 3 (-2048)] }).wf = true ∧ (Instr.slotTick { samples := [[2048]] }).wf = false
    ∧ (Instr.slotTick { samples := List.replicate 49 [] }).wf = false ∧ (Instr.slotTick { overrun := 65536 }).wf = false ∧ (Instr.slotTick { progress := List.replicate 49 {} }).wf = false
    ∧ (Instr.slotTick { oscCodes := [128] }).wf = false := by decide +kernel

/-- A DOMAIN is no longer than the longest of them. -/
theorem test_wf_write (w : HostWrite) (h : w.data = List.replicate 524289 0) : (Instr.pendingPlanWrite w).wf = false := by
  simp only [Instr.wf, writeWf, h, List.length_replicate]; decide

theorem test_wf_request : (Instr.read (req (List.replicate 64 0))).wf = true ∧ (Instr.read (req (List.replicate 65 0))).wf = false
    ∧ (Instr.write { req [] with path := .qspi }).wf = false ∧ (Instr.dread { req (List.replicate 1025 0) with path := .sideband }).wf = false := by decide +kernel

theorem test_wf_auth : (Instr.sealProgram { path := .canA, cc := 0, len := 4, counter := 1, data := 0, tag := List.replicate 8 0 }).wf = true
    ∧ (Instr.degAck { path := .canA, cc := 0, len := 256, counter := 1, data := 0, tag := List.replicate 8 0 }).wf = false
    ∧ (Instr.degAck { path := .canA, cc := 0, len := 1, counter := 2 ^ 32, data := 0, tag := List.replicate 8 0 }).wf = false
    ∧ (Instr.degAck { path := .canA, cc := 0, len := 1, counter := 1, data := 2 ^ 64, tag := List.replicate 8 0 }).wf = false
    ∧ (Instr.retireBurn { path := .canA, cc := 0, len := 4, counter := 1, data := 0, tag := [] }).wf = false := by decide +kernel

theorem test_wf_reading : (Instr.hkConversionDone { code := -32768, leads := 15, cc := 2799 }).wf = true ∧ (Instr.hkConversionDone { code := 32768 }).wf = false
    ∧ (Instr.hkConversionDone { coarse := -32769 }).wf = false ∧ (Instr.urgentComplete { leads := 16 }).wf = false ∧ (Instr.urgentComplete { cc := 2800 }).wf = false := by decide +kernel

theorem test_wf_straps : (Instr.strapRead [1000000, 0, 2200, 100]).wf = true ∧ (Instr.strapRead [1]).wf = false ∧ (Instr.bootStart {}).wf = false
    ∧ (Instr.bootStart { straps := [0, 0, 0, 0] }).wf = true := by decide +kernel

theorem test_wf_lists : (Instr.apdBoostPeriod 0 [1, 2, 3] [1, 2, 3, 4]).wf = false ∧ (Instr.apdBoostPeriod 0 [1, 2, 3, 4] [1]).wf = false ∧ (Instr.tsReading [none]).wf = false
    ∧ (Instr.scrubRow 0 [(50 * 524288, .single)]).wf = false ∧ (Instr.granuleIssue 0 0 [(50 * 524288 - 1, .double 7)]).wf = true := by decide +kernel

theorem test_wf_sideband (b : List Byte) (h : b = List.replicate 16385 0) : (Instr.sideband 0 0 b).wf = false := by
  subst h; simp only [Instr.wf, List.length_replicate]; decide

/-! ### Worked examples of the manual -/

/-- The compact stamp of chapter 1's example. -/
theorem test_stamp : compactStamp 1234567890 201 20 = 0x000499602D203254 := by decide +kernel

/-- The ambient code of chapter 4's tunnel, and the ends of R103's range. -/
theorem test_ambient : ambCode 3680 = 189 ∧ ambCode 0 = 0 ∧ ambCode 1 = 1 ∧ ambCode 16383 = 224 := by decide +kernel

/-- The crossing of chapter 7's example: raw code 77 before sample 650. -/
theorem test_crossing : (stby.put (K.COMP_DELAY 16) 12).tdcPlace 16 77 650 = 41549 := by decide +kernel

/-- The traced reset of chapter 8: an edge at cc 1,000 sets the reset sample 4,016. -/
theorem test_sync_in : (match exec (.syncInEdge true 1000) (setRegs { stby with dec := { stby.dec with running := true } } [(K.SYNC_IN_MODE, 1)]) with
    | .next t => t.dec.syncReset == some 4016
    | _ => false) = true := by decide +kernel

/-- The straps of chapter 15's example: C = 50, P = 1, and STRAP3 = 2 passes the check. -/
theorem test_straps : bits (strapWord [4700, 100000, 2200, 4700]) 5 0 = 50 ∧ bits (strapWord [4700, 100000, 2200, 4700]) 8 6 = 1
    ∧ strapCheck (strapWord [4700, 100000, 2200, 4700]) = true := by decide +kernel

/-- The captured range step of chapter 13: a sample of 7,500 at range 1 clips and the next reset instant takes range 2. -/
theorem test_charge_amplifier : (match exec (.caSample 1 0 7500) ((stby.put (K.CA_RANGE_NOW 1) 1)) with
    | .next t => t.reg (K.CA_CLIPS 1) == 1 && (t.hk.amps.getD 1 {}).change == some 2
    | _ => false) = true := by decide +kernel

/-- The mirror address of chapter 11's COMMIT. -/
theorem test_commit_key : K.COMMIT = 0x021001 ∧ K.DEC_D 47 = 0x380130 := by decide +kernel

/-- CRC-32 of IEEE 802.3 over "123456789" (its published check value). -/
theorem test_crc32 : crc32 [0x31, 0x32, 0x33, 0x34, 0x35, 0x36, 0x37, 0x38, 0x39] = 0xCBF43926 := by decide +kernel

/-- AES-CMAC of the empty message (NIST SP 800-38B, example 1 for AES-128). -/
theorem test_cmac : aesCmac [0x2B, 0x7E, 0x15, 0x16, 0x28, 0xAE, 0xD2, 0xA6, 0xAB, 0xF7, 0x15, 0x88, 0x09, 0xCF, 0x4F, 0x3C] [] =
    [0xBB, 0x1D, 0x69, 0x29, 0xE9, 0x59, 0x37, 0x28, 0x7F, 0xA3, 0x7D, 0x12, 0x9B, 0x75, 0x67, 0x46] := by decide +kernel

/-! ### Single steps -/

/-- R25: a slot that counts is followed by the next number. -/
theorem test_slot_count : ({ stby with slot := 41 } : State).clkTick.slot = 42 ∧ State.reset.clkTick.slot = 0 := by decide +kernel

/-- R446, R448: a mode request of SELF-TEST from STANDBY. -/
theorem test_mode_request : (match exec .modeRequestJudge (asks 4 3) with
    | .next t => t.mode == .selfTest && t.reg K.MODE_RESULT == 0
    | _ => false) = true := by decide +kernel

/-- R35: a SLOT word with COUNT 2 leaves two slots to produce. -/
theorem test_slot_word : (match exec .slot (runs [2 * 2 ^ 56 + 2]) with
    | .next t => t.comet.left == 2 && t.comet.pc == 9 && t.comet.kind == .slot
    | _ => false) = true := by decide +kernel

/-- R220, R225: a granule granted in page 0 is stored at its frame. -/
theorem test_granule : (match exec (.granuleIssue 0 0 []) (granted 63) with
    | .next t => memGet t.fs.mem 63 == 5 && memGet t.fs.mem 64 == 0 && t.fs.queue == []
    | _ => false) = true := by decide +kernel

/-- R309: a bank fault is sticky in the Pennant word until PENNANT_CLEAR. -/
theorem test_pennant_clear : (match exec (.pennantClear (wr 8 (2 ^ 18))) (stby.stick 18) with
    | .next t => !bitAt t.penn.sticky 18
    | _ => false) = true := by decide +kernel

end Sys2Proof.Tests
end

section
/-! PROOFS. Chapter 14: where the value of each calibration item is held, and what a write of it leaves in force. -/

namespace Sys2Proof.Machine

/-! ### Two's complement and padded lists -/

theorem toSigned_ofSigned (w : Nat) (z : Int) (hw : 0 < w) (lo : -2 ^ (w - 1) ≤ z) (hi : z < 2 ^ (w - 1)) : toSigned w (ofSigned w z) = z := by
  obtain ⟨n, rfl⟩ := Nat.exists_eq_succ_of_ne_zero hw.ne'
  have hp : (2 : Int) ^ (n + 1) = 2 * 2 ^ n := by ring
  simp only [Nat.succ_eq_add_one, Nat.add_sub_cancel] at lo hi
  have hz : (0 : Int) ≤ z % 2 ^ (n + 1) ∧ z % 2 ^ (n + 1) < 2 ^ (n + 1) := ⟨Int.emod_nonneg _ (by positivity), Int.emod_lt_of_pos _ (by positivity)⟩
  have hc : ((ofSigned (n + 1) z : Nat) : Int) = z % 2 ^ (n + 1) := by simp [ofSigned, hz.1]
  have hlt : ofSigned (n + 1) z < 2 ^ (n + 1) := by zify; omega
  have hcmp : ofSigned (n + 1) z < 2 ^ n ↔ z % 2 ^ (n + 1) < 2 ^ n := by zify; rw [hc]
  simp only [toSigned, Nat.succ_eq_add_one, Nat.add_sub_cancel, Nat.mod_eq_of_lt hlt, hcmp, hc, Int.emod_emod_of_dvd, dvd_refl]
  rcases lt_or_ge z 0 with hn | hn
  · have he : z % 2 ^ (n + 1) = z + 2 ^ (n + 1) := by
      rw [← Int.add_emod_right, Int.emod_eq_of_lt] <;> omega
    rw [if_neg (by omega), he]; omega
  · have he : z % 2 ^ (n + 1) = z := Int.emod_eq_of_lt hn (by omega)
    rw [if_pos (by omega), he]

theorem toSigned_range (w v : Nat) (hw : 0 < w) : -2 ^ (w - 1) ≤ toSigned w v ∧ toSigned w v < 2 ^ (w - 1) := by
  obtain ⟨n, rfl⟩ := Nat.exists_eq_succ_of_ne_zero hw.ne'
  have hp : (2 : Int) ^ (n + 1) = 2 * 2 ^ n := by ring
  have hlt : v % 2 ^ (n + 1) < 2 ^ (n + 1) := Nat.mod_lt _ (by positivity)
  simp only [toSigned, Nat.succ_eq_add_one, Nat.add_sub_cancel]
  zify at hlt ⊢
  split_ifs <;> omega

theorem getD_setAt {α : Type} (d : α) (l : List α) (i j : Nat) (a : α) : (setAt d l i a).getD j d = if j = i then a else l.getD j d := by
  induction i generalizing l j with
  | zero => cases l <;> cases j <;> simp [setAt]
  | succ i ih => cases l <;> cases j <;> simp [setAt, List.getD_cons_zero, List.getD_cons_succ, ih, -List.getD_eq_getElem?_getD]

/-- One entry of a padded table of rows. -/
theorem getD_setAt_row {α : Type} (d : α) (m : List (List α)) (i j u l : Nat) (a : α) :
    ((setAt [] m i (setAt d (m.getD i []) j a)).getD u []).getD l d = if u = i ∧ l = j then a else (m.getD u []).getD l d := by
  rw [getD_setAt]
  by_cases h : u = i
  · subst h
    simp only [if_true, getD_setAt, true_and]
  · rw [if_neg h, if_neg fun e => h e.1]

/-! ### Where an item's value is held (Table 14.1) -/

/-- The place that holds an item: a field of a slice, an entry of a TDC's table, a signed register of `w` bits, an unsigned register, a value of a template. -/
inductive ItemPlace
  | offset (j : Nat) | gain (j : Nat) | skew (j : Nat) | cum (t k : Nat) | signed (w k : Nat) | plain (k : Nat) | xt (e k : Nat)

/-- The place of an item. -/
def itemPlace (i : Nat) : ItemPlace :=
  if i < itemGain then .offset i
  else if i < itemSkew then .gain (i - itemGain)
  else if i < itemCum then .skew (i - itemSkew)
  else if i < itemComp then .cum ((i - itemCum) / 128) ((i - itemCum) % 128)
  else if i < itemLevel then .signed 16 (K.COMP_DELAY (i - itemComp))
  else if i < itemCalE then .signed 8 (K.LEVEL_OFS (i - itemLevel))
  else if i < itemCalCh then .plain (K.CAL_E (i - itemCalE))
  else if i < itemTrim then .signed 16 (K.CAL_CH (i - itemCalCh))
  else if i < itemXt then .signed 16 (K.K0_TRIM (i - itemTrim))
  else .xt ((i - itemXt) / 64) ((i - itemXt) % 64)

/-- The item whose value a register holds. -/
def regItem (k : Nat) : Nat :=
  if k < K.CAL_E 0 then itemCalCh + (k - K.CAL_CH 0)
  else if k < K.K0_TRIM 0 then itemCalE + (k - K.CAL_E 0)
  else if k < K.COMP_DELAY 0 then itemTrim + (k - K.K0_TRIM 0)
  else if k < K.LEVEL_OFS 0 then itemComp + (k - K.COMP_DELAY 0)
  else itemLevel + (k - K.LEVEL_OFS 0)

/-- The item that a place holds. -/
def ItemPlace.item : ItemPlace → Nat
  | .offset j => j
  | .gain j => itemGain + j
  | .skew j => itemSkew + j
  | .cum t k => itemCum + (128 * t + k)
  | .signed _ k | .plain k => regItem k
  | .xt e k => itemXt + (64 * e + k)

/-- The value a place holds. -/
def State.readPlace (s : State) : ItemPlace → Int
  | .offset j => (s.cal.slices.getD j {}).offset
  | .gain j => (s.cal.slices.getD j {}).gain
  | .skew j => (s.cal.slices.getD j {}).skew
  | .cum t k => ((s.cal.cum.getD t []).getD k 0 : Nat)
  | .signed w k => s.regI w k
  | .plain k => s.reg k
  | .xt e k => (s.cal.xt.getD e []).getD k 0

/-- One slice takes its values. -/
def State.setSlice (s : State) (j : Nat) (c : SliceCal) : State := s.setCal { s.cal with slices := setAt {} s.cal.slices j c }

/-- A place takes a value. -/
def State.writePlace (s : State) (p : ItemPlace) (v : Int) : State :=
  match p with
  | .offset j => s.setSlice j { s.cal.slices.getD j {} with offset := v }
  | .gain j => s.setSlice j { s.cal.slices.getD j {} with gain := v }
  | .skew j => s.setSlice j { s.cal.slices.getD j {} with skew := v.toNat }
  | .cum t k => s.setCal { s.cal with cum := setAt [] s.cal.cum t (setAt 0 (s.cal.cum.getD t []) k v.toNat) }
  | .signed w k => s.putI w k v
  | .plain k => s.put k v.toNat
  | .xt e k => s.setCal { s.cal with xt := setAt [] s.cal.xt e (setAt 0 (s.cal.xt.getD e []) k v) }

/-- A place can hold a value. -/
def ItemPlace.holds (v : Int) : ItemPlace → Prop
  | .offset _ | .gain _ | .xt _ _ => True
  | .skew _ | .cum _ _ | .plain _ => 0 ≤ v
  | .signed w _ => 0 < w ∧ -2 ^ (w - 1) ≤ v ∧ v < 2 ^ (w - 1)

theorem regItem_calCh (n : Nat) (h : itemCalCh + n < itemTrim) : regItem (K.CAL_CH n) = itemCalCh + n := by
  unfold regItem
  split_ifs <;> simp only [K.CAL_CH, K.CAL_E, itemCalCh, itemTrim] at * <;> omega

theorem regItem_calE (n : Nat) (h : itemCalE + n < itemCalCh) : regItem (K.CAL_E n) = itemCalE + n := by
  unfold regItem
  split_ifs <;> simp only [K.CAL_E, K.K0_TRIM, itemCalE, itemCalCh] at * <;> omega

theorem regItem_k0Trim (n : Nat) (h : itemTrim + n < itemXt) : regItem (K.K0_TRIM n) = itemTrim + n := by
  unfold regItem
  split_ifs <;> simp only [K.CAL_E, K.K0_TRIM, K.COMP_DELAY, itemTrim, itemXt] at * <;> omega

theorem regItem_compDelay (n : Nat) (h : itemComp + n < itemLevel) : regItem (K.COMP_DELAY n) = itemComp + n := by
  unfold regItem
  split_ifs <;> simp only [K.CAL_E, K.K0_TRIM, K.COMP_DELAY, K.LEVEL_OFS, itemComp, itemLevel] at * <;> omega

theorem regItem_levelOfs (n : Nat) : regItem (K.LEVEL_OFS n) = itemLevel + n := by
  unfold regItem
  split_ifs <;> simp only [K.CAL_E, K.K0_TRIM, K.COMP_DELAY, K.LEVEL_OFS] at * <;> omega

/-- An item's place names the item, so different items have different places. -/
theorem item_itemPlace (i : Nat) : (itemPlace i).item = i := by
  unfold itemPlace
  split_ifs <;> simp only [ItemPlace.item]
  · omega
  · omega
  · omega
  · rw [regItem_compDelay] <;> omega
  · rw [regItem_levelOfs]; omega
  · rw [regItem_calE] <;> omega
  · rw [regItem_calCh] <;> omega
  · rw [regItem_k0Trim] <;> omega
  · omega

theorem State.item_eq_readPlace (s : State) (i : Nat) : s.item i = s.readPlace (itemPlace i) := by
  unfold State.item itemPlace
  split_ifs <;> rfl

/-! ### Reading after writing -/

theorem State.regI_putI_self (s : State) (w k : Nat) (z : Int) (hw : 0 < w) (lo : -2 ^ (w - 1) ≤ z) (hi : z < 2 ^ (w - 1)) :
    (s.putI w k z).regI w k = z := by
  rw [State.regI, State.putI, State.reg_put_self, toSigned_ofSigned w z hw lo hi]

theorem State.slices_setSlice (s : State) (i j : Nat) (c : SliceCal) :
    (s.setSlice j c).cal.slices.getD i {} = if i = j then c else s.cal.slices.getD i {} := getD_setAt _ _ _ _ _

theorem State.readPlace_writePlace_self (s : State) (p : ItemPlace) (v : Int) (h : p.holds v) : (s.writePlace p v).readPlace p = v := by
  cases p with
  | offset j | gain j => simp only [State.readPlace, State.writePlace, State.slices_setSlice, if_true]
  | skew j => simpa only [State.readPlace, State.writePlace, State.slices_setSlice, if_true] using Int.toNat_of_nonneg h
  | cum t k => simpa only [State.readPlace, State.writePlace, State.setCal, getD_setAt_row, and_self, if_true] using Int.toNat_of_nonneg h
  | signed w k => exact s.regI_putI_self w k v h.1 h.2.1 h.2.2
  | plain k => simpa only [State.readPlace, State.writePlace, State.reg_put_self] using Int.toNat_of_nonneg h
  | xt e k => simp only [State.readPlace, State.writePlace, State.setCal, getD_setAt_row, and_self, if_true]

/-- A write of a register leaves every place that is not that register. -/
theorem State.readPlace_put (s : State) (q : ItemPlace) (k v : Nat) (hs : ∀ w, q ≠ .signed w k) (hp : q ≠ .plain k) :
    (s.put k v).readPlace q = s.readPlace q := by
  cases q with
  | signed w j =>
    have hj : j ≠ k := fun e => hs w (e ▸ rfl)
    simp only [State.readPlace, State.regI, s.reg_put_ne k j v hj]
  | plain j =>
    have hj : j ≠ k := fun e => hp (e ▸ rfl)
    simp only [State.readPlace, s.reg_put_ne k j v hj]
  | offset j | gain j | skew j | cum t j | xt e j => rfl

/-- A write of a slice leaves every place that is none of its fields, and each of its fields that has the value from before. -/
theorem State.readPlace_setSlice (s : State) (q : ItemPlace) (j : Nat) (c : SliceCal) (ho : q = .offset j → c.offset = (s.cal.slices.getD j {}).offset)
    (hg : q = .gain j → c.gain = (s.cal.slices.getD j {}).gain) (hk : q = .skew j → c.skew = (s.cal.slices.getD j {}).skew) :
    (s.setSlice j c).readPlace q = s.readPlace q := by
  cases q with
  | offset i | gain i | skew i =>
    simp only [State.readPlace, s.slices_setSlice]
    split_ifs with h
    · subst h; simp_all only [forall_const]
    · rfl
  | cum t k | signed w k | plain k | xt e k => rfl

/-- A write of another item's place leaves a place as it is. -/
theorem State.readPlace_writePlace_ne (s : State) (p q : ItemPlace) (v : Int) (h : q.item ≠ p.item) : (s.writePlace p v).readPlace q = s.readPlace q := by
  cases p with
  | offset j => exact s.readPlace_setSlice q j _ (fun e => absurd (e ▸ rfl) h) (fun _ => rfl) (fun _ => rfl)
  | gain j => exact s.readPlace_setSlice q j _ (fun _ => rfl) (fun e => absurd (e ▸ rfl) h) (fun _ => rfl)
  | skew j => exact s.readPlace_setSlice q j _ (fun _ => rfl) (fun _ => rfl) (fun e => absurd (e ▸ rfl) h)
  | signed w k | plain k => exact s.readPlace_put q k _ (fun _ e => h (e ▸ rfl)) (fun e => h (e ▸ rfl))
  | cum t k =>
    cases q with
    | cum u l =>
      have hne : ¬(u = t ∧ l = k) := fun e => h (by rw [e.1, e.2])
      simp only [State.readPlace, State.writePlace, State.setCal, getD_setAt_row, if_neg hne]
    | offset i | gain i | skew i | signed w i | plain i | xt e i => rfl
  | xt e k =>
    cases q with
    | xt u l =>
      have hne : ¬(u = e ∧ l = k) := fun e => h (by rw [e.1, e.2])
      simp only [State.readPlace, State.writePlace, State.setCal, getD_setAt_row, if_neg hne]
    | offset i | gain i | skew i | signed w i | plain i | cum t i => rfl

/-! ### Writing an item -/

theorem State.compCommit_frame (s : State) (l : List Nat) (t : Int) : (s.compCommit l t).cal = s.cal ∧ (s.compCommit l t).objs = s.objs := by
  unfold State.compCommit State.forEach
  induction l generalizing s with
  | nil => exact ⟨rfl, rfl⟩
  | cons ch l ih =>
    rw [List.foldl_cons]
    split
    · dsimp only
      split_ifs
      · exact ih s
      · exact ih _
    · exact ih s

/-- A place is read from the calibration engine and the register store alone. -/
theorem State.readPlace_congr (s t : State) (hc : t.cal = s.cal) (ho : t.objs = s.objs) (p : ItemPlace) : t.readPlace p = s.readPlace p := by
  cases p <;> simp only [State.readPlace, State.regI, State.reg, hc, ho]

/-- An item's write is its place's; the comparator that a LEVEL_OFS moves beside holds no item. -/
theorem State.setItem_frame (s : State) (i : Nat) (v : Int) :
    (s.setItem i v).cal = (s.writePlace (itemPlace i) v).cal ∧ (s.setItem i v).objs = (s.writePlace (itemPlace i) v).objs := by
  unfold State.setItem itemPlace
  split_ifs
  · exact ⟨rfl, rfl⟩
  · exact ⟨rfl, rfl⟩
  · exact ⟨rfl, rfl⟩
  · exact ⟨rfl, rfl⟩
  · exact ⟨rfl, rfl⟩
  · exact State.compCommit_frame _ _ _
  · exact ⟨rfl, rfl⟩
  · exact ⟨rfl, rfl⟩
  · exact ⟨rfl, rfl⟩
  · exact ⟨rfl, rfl⟩

/-- Every item after one was written a value that its place holds. -/
theorem State.item_setItem (s : State) (i j : Nat) (v : Int) (h : (itemPlace j).holds v) :
    (s.setItem j v).item i = if i = j then v else s.item i := by
  obtain ⟨hc, ho⟩ := s.setItem_frame j v
  rw [State.item_eq_readPlace, State.readPlace_congr _ _ hc ho]
  split_ifs with hij
  · rw [hij, State.readPlace_writePlace_self _ _ _ h]
  · have hne : (itemPlace i).item ≠ (itemPlace j).item := by rwa [item_itemPlace, item_itemPlace]
    rw [State.readPlace_writePlace_ne _ _ _ _ hne, State.item_eq_readPlace]

/-- Items written one after another: those of the list hold their new values, the others are as before. -/
theorem State.item_foldl_setItem (f : Nat → Int) (hf : ∀ i, (itemPlace i).holds (f i)) (l : List Nat) (s : State) (i : Nat) :
    (l.foldl (fun s i => s.setItem i (f i)) s).item i = if i ∈ l then f i else s.item i := by
  induction l generalizing s with
  | nil => rfl
  | cons j l ih =>
    rw [List.foldl_cons, ih, State.item_setItem _ _ _ _ (hf j)]
    by_cases hl : i ∈ l <;> by_cases hj : i = j <;> simp [hl, hj]

/-- A register below those of the items holds no item. -/
theorem State.item_put (s : State) (i k v : Nat) (h : k < K.CAL_CH 0) : (s.put k v).item i = s.item i := by
  have hne : ∀ j, K.CAL_CH 0 ≤ j → (s.put k v).reg j = s.reg j := fun j hj => s.reg_put_ne k j v (by omega)
  simp only [State.item, State.put_cal, State.regI]
  rw [hne (K.COMP_DELAY _) (Nat.le_add_right_of_le (by decide)), hne (K.LEVEL_OFS _) (Nat.le_add_right_of_le (by decide)),
    hne (K.CAL_E _) (Nat.le_add_right_of_le (by decide)), hne (K.CAL_CH _) (Nat.le_add_right_of_le (by decide)),
    hne (K.K0_TRIM _) (Nat.le_add_right_of_le (by decide))]

/-! ### The values of an image (Table 14.4) -/

/-- A value that an image can hold fits its item's place. -/
theorem imageItem_holds (b : List Byte) (i : Nat) : (itemPlace i).holds (imageItem b i) := by
  unfold itemPlace imageItem
  split_ifs
  · trivial
  · trivial
  · exact Int.natCast_nonneg _
  · exact Int.natCast_nonneg _
  · exact ⟨by decide, toSigned_range 16 _ (by decide)⟩
  · exact ⟨by decide, toSigned_range 8 _ (by decide)⟩
  · exact Int.natCast_nonneg _
  · exact ⟨by decide, toSigned_range 16 _ (by decide)⟩
  · exact ⟨by decide, toSigned_range 16 _ (by decide)⟩
  · trivial

theorem State.calShow_cal (s : State) : s.calShow.cal = s.cal := rfl

theorem State.calShow_item (s : State) (i : Nat) : s.calShow.item i = s.item i := by
  unfold State.calShow
  rw [State.item_put _ _ _ _ (by decide), State.item_put _ _ _ _ (by decide)]

theorem State.calShow_reg (s : State) (k : Nat) (h : k ∉ [K.CAL_RESTORE, K.CAL_UNSETTLED]) : s.calShow.reg k = s.reg k := by
  simp only [List.mem_cons, List.not_mem_nil, or_false, not_or] at h
  unfold State.calShow
  rw [State.reg_put_ne _ _ _ _ h.1, State.reg_put_ne _ _ _ _ h.2]

theorem State.calShow_restore (s : State) : s.calShow.reg K.CAL_RESTORE = ofBool !s.cal.targets.isEmpty := by
  unfold State.calShow
  rw [State.reg_put_self]

/-! ### The image is in force (R368) -/

/-- What an accepted image does at its tick, for the items of a list. -/
def State.applyItems (s : State) (l : List Nat) : State :=
  let b := s.cal.accepted
  let s := l.foldl (fun s i => s.setItem i (imageItem b i)) s
  ((s.setCal { s.cal with applyTicks := 0, accepted := [], settled := [], targets := [] }).calShow)

theorem State.item_applyItems (s : State) (l : List Nat) (i : Nat) (h : i ∈ l) : (s.applyItems l).item i = imageItem s.cal.accepted i := by
  have hall := State.item_foldl_setItem _ (imageItem_holds s.cal.accepted) l s i
  rw [if_pos h] at hall
  exact (State.calShow_item _ i).trans hall

theorem State.applyItems_cal (s : State) (l : List Nat) :
    (s.applyItems l).cal.applyTicks = 0 ∧ (s.applyItems l).cal.settled = [] ∧ (s.applyItems l).cal.targets = [] := ⟨rfl, rfl, rfl⟩

theorem State.imageApply_due (s : State) (h : s.cal.applyTicks = 1) : s.imageApply = s.applyItems (List.range itemEnd) :=
  if_neg (not_not_intro h)

/-! ### A period's end (R359) -/

/-- A frame boundary that has been counted is not counted again. -/
theorem State.calFrame_of_periodDone (s : State) (h : s.cal.periodDone = true) : s.calFrame = s := by
  simp [State.calFrame, State.calPeriodDue, State.calBoundary, h]

theorem State.calFrame_due (s : State) (h : s.calPeriodDue = true) : s.calFrame = s.calStep.limitCount.periodOver := by
  simp [State.calFrame, State.calPeriodEnd, h]

/-! ### Writes of CAL_SNAP and CAL_IMAGE (R366, R367) -/

/-- The row of CAL_SNAP (R370). -/
def calSnapRow : ObjRow := ⟨0x7101, 0x7101, 0x01, 0x01, .u8, .wo, 0, .any, none, .standbyRunning, "CAL_SNAP"⟩

/-- The row of CAL_IMAGE (R370). -/
def calImageRow : ObjRow := ⟨0x7100, 0x7100, 0x00, 0x00, .domain, .rw, 0, .any, none, .standbyRunning, "CAL_IMAGE"⟩

theorem objRow_calSnap : objRow? K.CAL_SNAP = some calSnapRow := by decide +kernel

theorem objRow_calImage : objRow? K.CAL_IMAGE = some calImageRow := by decide +kernel

/-- What allows a write: the dictionary answers, the path is served, and the object's row has the mode. -/
theorem State.mayWrite_row (s : State) (p : Path) (k : Nat) (r : ObjRow) (h : s.mayWrite p k = true) (hr : objRow? k = some r) :
    s.answers = true ∧ s.serves p k = true ∧ r.modes.holds s.mode = true := by
  simpa [State.mayWrite, hr, and_assoc] using h

/-- A write-only register takes a value of its size and range in a mode of its row. -/
theorem State.writeRefusal_wo (s : State) (r : ObjRow) (k : Nat) (data : List Byte) (ha : r.acc = .wo) (hl : data.length = r.size)
    (hv : s.valueOk r k (ofLe data) = true) (hm : r.modes.holds s.mode = true) : s.writeRefusal s.mode r k data = 0 := by
  simp [State.writeRefusal, ha, hl, hv, hm]

theorem State.hostWrite_calSnap (s : State) (a : HostAt) (h : s.mayWrite a.path K.CAL_SNAP = true) :
    s.hostWrite K.CAL_SNAP (a.write 1 1) = noteResult a.path (0, s.setCal { s.cal with snapTicks := ticksAfter a.cc }) := by
  obtain ⟨ha, hs, hm⟩ := s.mayWrite_row _ _ _ h objRow_calSnap
  exact s.hostWrite_ok K.CAL_SNAP (a.write 1 1) calSnapRow ha hs objRow_calSnap rfl (s.writeRefusal_wo _ _ _ rfl rfl rfl hm) rfl

/-- A write of CAL_IMAGE in a mode that allows it is judged by its length and its values alone. -/
theorem State.hostDomain_calImage (s : State) (w : HostWrite) (h : s.mayWrite w.path K.CAL_IMAGE = true) :
    s.hostDomain K.CAL_IMAGE w = noteDomain w.path
      (domainResult s (s.imageTake w.cc w.data) (s.imageFault w.data != some false) (s.imageFault w.data != some true) true true) := by
  obtain ⟨ha, hs, hm⟩ := s.mayWrite_row _ _ _ h objRow_calImage
  have hwd : s.writeDomain s.mode calImageRow K.CAL_IMAGE w.cc w.data = domainResult s (s.imageTake w.cc w.data)
      (s.imageFault w.data != some false) (s.imageFault w.data != some true) (calImageRow.modes.holds s.mode) true := rfl
  rw [s.hostDomain_ok K.CAL_IMAGE w _ ha hs objRow_calImage, hwd, hm]

/-- While Comet runs, an accepted image gives every item its target. -/
theorem State.imageTake_running (s : State) (cc : Nat) (b : List Byte) (h : s.cal.running = true) : s.imageTake cc b
    = ((s.putDom K.CAL_IMAGE b).setCal { s.cal with settled := [], targets := (List.range itemEnd).map fun i => (i, imageItem b i) }).calShow := by
  rw [State.imageTake, State.putDom_cal, if_pos h]

theorem State.imageTake_standby (s : State) (cc : Nat) (b : List Byte) (h : s.cal.running = false) :
    s.imageTake cc b = (s.putDom K.CAL_IMAGE b).setCal { s.cal with applyTicks := ticksAfter cc, accepted := b } := by
  rw [State.imageTake, State.putDom_cal, h, if_neg Bool.false_ne_true]

theorem State.dom_putDom_self (s : State) (k : Nat) (b : List Byte) : (s.putDom k b).dom k = b := by
  rw [State.dom, State.putDom_doms]
  split_ifs with h
  · simp [storeGet_storeDel, h]
  · simp

end Sys2Proof.Machine
end

section
/-! PROOFS. The obligation of chapter 14. -/

namespace Sys2Proof.Machine

theorem exec_calPeriodEnd (s : State) (ht : s.ticking = true) (hd : s.calPeriodDue = true) (hu : s.slotCatchUp.calPeriodDue = true) :
    exec .calPeriodEnd s = .next s.slotCatchUp.calStep.limitCount.periodOver.settle := by
  have hf : s.slotCatchUp.calFrame = s.slotCatchUp.calStep.limitCount.periodOver := State.calFrame_due _ hu
  calc exec .calPeriodEnd s = .next (s.tickRow s.calPeriodDue State.calFrame).settle := rfl
    _ = .next s.slotCatchUp.calFrame.calFrame.settle := by rw [s.tickRow_due _ _ hd ht]
    _ = .next s.slotCatchUp.calStep.limitCount.periodOver.settle := by rw [hf, State.calFrame_of_periodDone _ rfl]

theorem exec_calSnap (s : State) (a : HostAt) (h : s.mayWrite a.path K.CAL_SNAP = true) :
    exec (.calSnap a) s = .next (noteResult a.path (0, s.setCal { s.cal with snapTicks := ticksAfter a.cc })).settle := by
  calc exec (.calSnap a) s = .next (s.hostWrite K.CAL_SNAP (a.write 1 1)).settle := rfl
    _ = _ := by rw [s.hostWrite_calSnap a h]

theorem exec_calSnapshotTick (s : State) (hm : s.mode.coreRuns = true) (hd : s.cal.snapDue = true) : exec .calSnapshotTick s = .next (s.setCal { s.cal with
      snapDue := false, snapshot := some (calImage s.fuses.uniqueId (compactStamp s.slot 0 0) (s.reg K.CAL_UNSETTLED) s.item) }).settle := by
  calc exec .calSnapshotTick s = .next (s.core State.snapTake).settle := rfl
    _ = .next s.snapTake.settle := by rw [s.core_on _ hm]
    _ = _ := by simp only [State.snapTake, hd, Bool.not_true, Bool.false_eq_true, if_false]

theorem exec_calSnapWritten (s : State) (b : List Byte) (hm : s.mode.coreRuns = true) (hd : s.cal.snapDue = false) (hb : s.cal.snapshot = some b) :
    exec .calSnapWritten s = .next (((s.putDom K.CAL_IMAGE b).put K.CAL_SNAP_SEQ ((s.reg K.CAL_SNAP_SEQ + 1) % 2 ^ 32)).setCal { s.cal with snapshot := none }).settle := by
  have ht : s.snapTake = s := by simp only [State.snapTake, hd, Bool.not_false, if_true]
  calc exec .calSnapWritten s = .next (s.core State.snapWritten).settle := rfl
    _ = .next s.snapWritten.settle := by rw [s.core_on _ hm]
    _ = _ := by simp only [State.snapWritten, ht, hb]; rfl

theorem exec_calImageWrite (s : State) (w : HostWrite) (h : s.mayWrite w.path K.CAL_IMAGE = true) :
    exec (.calImageWrite w) s = .next (noteDomain w.path
      (domainResult s (s.imageTake w.cc w.data) (s.imageFault w.data != some false) (s.imageFault w.data != some true) true true)).settle := by
  calc exec (.calImageWrite w) s = .next (s.hostDomain K.CAL_IMAGE w).settle := rfl
    _ = _ := by rw [s.hostDomain_calImage w h]

theorem exec_calImageApply (s : State) (ht : s.ticking = true) (ha : s.cal.applyTicks = 1) : exec .calImageApply s = .next s.atTick.imageApply.settle := by
  calc exec .calImageApply s = .next (s.tickRow (s.cal.applyTicks == 1) State.imageApply).settle := rfl
    _ = .next s.atTick.imageApply.settle := by rw [s.tickRow_due _ _ (beq_iff_eq.mpr ha) ht, State.atTick]

/-- A restore that starts: the image is held, its values are the targets of unsettled items, and no other register moves. -/
theorem State.imageTake_restore (s : State) (cc : Nat) (b : List Byte) (h : s.cal.running = true) : let t := s.imageTake cc b
    t.dom K.CAL_IMAGE = b ∧ t.cal = { s.cal with settled := [], targets := (List.range itemEnd).map fun i => (i, imageItem b i) }
      ∧ t.reg K.CAL_RESTORE = 1 ∧ s.keeps t [K.CAL_RESTORE, K.CAL_UNSETTLED] := by
  dsimp only
  rw [s.imageTake_running cc b h]
  have hne : ((List.range itemEnd).map fun i => (i, imageItem b i)).isEmpty = false := by
    simp [itemEnd]
  generalize ((List.range itemEnd).map fun i => (i, imageItem b i)) = l at hne ⊢
  refine ⟨s.dom_putDom_self _ b, rfl, ?_, fun k hk => (State.calShow_reg _ k hk).trans rfl⟩
  rw [State.calShow_restore, State.setCal_cal, hne]
  rfl

/-- Settles O40: the steps of a period's end, a snapshot and a write follow the commands' own equations; an image that applies does so because the items' places are
apart and each holds every value that its field of the image can have. -/
theorem calibrationImage : Obligations.CalibrationImage := by
  refine ⟨?_, ?_, exec_calSnapshotTick, exec_calSnapWritten, ?_, ?_⟩
  · intro s u ht hd hu hdu
    subst hu
    exact ⟨exec_calPeriodEnd s ht hd hdu, rfl⟩
  · exact exec_calSnap
  · intro s w hw
    rw [exec_calImageWrite s w hw]
    refine ⟨fun hf => by rw [hf]; rfl, fun hf => by rw [hf]; rfl, fun hf hr => ?_, fun hf hr => ?_⟩
    · rw [hf, s.imageTake_standby _ _ hr]
      rfl
    · rw [hf]
      exact ⟨_, rfl, s.imageTake_restore _ _ hr⟩
  · intro s ht ha hat
    obtain ⟨hticks, hsettled, htargets⟩ := s.atTick.applyItems_cal (List.range itemEnd)
    exact ⟨s.atTick.applyItems (List.range itemEnd), s.atTick.imageApply_due hat ▸ exec_calImageApply s ht ha, hticks, hsettled, htargets,
      fun i hi => s.atTick.item_applyItems _ i (List.mem_range.mpr hi)⟩

end Sys2Proof.Machine
end

section
/-! PROOFS. Chapter 18: bringing the outputs up to date leaves every register of the chapter as it is. -/

namespace Sys2Proof.Machine

/-! ### States with the same registers of chapter 18 -/

/-- Every register of chapter 18 (Table 18.10; its keys are the highest of the dictionary) has the same value in two states. -/
def State.keepsModeRegs (s t : State) : Prop := ∀ k, 0x900000 ≤ k → t.reg k = s.reg k

variable {s t u : State}

theorem State.keepsModeRegs.refl (s : State) : s.keepsModeRegs s := fun _ _ => rfl

theorem State.keepsModeRegs.trans (h : s.keepsModeRegs t) (h' : t.keepsModeRegs u) : s.keepsModeRegs u :=
  fun k hk => (h' k hk).trans (h k hk)

/-- What changes no register at all. -/
theorem State.keepsModeRegs.of_objs (h : s.keepsModeRegs t) (ho : u.objs = t.objs) : s.keepsModeRegs u :=
  fun k hk => (t.reg_congr u ho k).trans (h k hk)

/-- A write of a register of an earlier chapter. -/
theorem State.keepsModeRegs.put (h : s.keepsModeRegs t) (j v : Nat) (hj : j < 0x900000) : s.keepsModeRegs (t.put j v) :=
  fun k hk => (t.reg_put_ne j k v (by omega)).trans (h k hk)

/-- What happens only under a condition. -/
theorem State.keepsModeRegs.onlyWhen {c : Prop} [Decidable c] (h : s.keepsModeRegs t) (h' : t.keepsModeRegs u) : s.keepsModeRegs (if c then u else t) := by
  split
  · exact h.trans h'
  · exact h

theorem State.keepsModeRegs.foldl {α : Type} (h : s.keepsModeRegs t) (f : State → α → State) (l : List α)
    (hf : ∀ x, ∀ a ∈ l, State.keepsModeRegs x (f x a)) : s.keepsModeRegs (l.foldl f t) := by
  induction l generalizing t with
  | nil => exact h
  | cons a l ih => exact ih (h.trans (hf t a (List.mem_cons_self ..))) fun x b hb => hf x b (List.mem_cons_of_mem _ hb)

/-! ### The gates of the outputs -/

theorem State.permitGate_keepsModeRegs (s : State) : s.keepsModeRegs s.permitGate := by
  have hvoid : s.keepsModeRegs s.voidTest := by
    unfold State.voidTest
    split
    · exact ((State.keepsModeRegs.refl s).put K.TP_VOID _ (by decide)).of_objs rfl
    · exact ((((State.keepsModeRegs.refl s).put K.TP_PASS _ (by decide)).put K.TP_NEXT _ (by decide)).put K.TP_VOID _ (by decide)).of_objs rfl
    · exact .refl s
  unfold State.permitGate
  split
  · exact .refl s
  · exact hvoid.of_objs rfl

theorem State.mirGate_keepsModeRegs (s : State) : s.keepsModeRegs s.mirGate := by
  unfold State.mirGate
  split
  · exact .refl s
  · exact (((State.keepsModeRegs.refl s).put K.MIR_STATE (if s.mode = .off then 0 else 1) (by decide)).put K.DRIVE_NOW (ofSigned 16 0) (by decide)).of_objs rfl

theorem State.resStart_keepsModeRegs (s : State) : s.keepsModeRegs s.resStart := by
  unfold State.resStart State.resBleed State.resRamp State.resLevel
  split
  · exact ((State.keepsModeRegs.refl s).put K.RES_STATE 3 (by decide)).of_objs rfl
  · have hramp := ((State.keepsModeRegs.refl s).put K.RES_STATE 1 (by decide)).of_objs (u := { s.put K.RES_STATE 1 with res := { s.res with
      runs := true, disOn := false, setPoint := s.vlasPoint } }) rfl
    exact hramp.onlyWhen ((State.keepsModeRegs.refl _).put K.RES_STATE _ (by decide))

theorem State.resGate_keepsModeRegs (s : State) : s.keepsModeRegs s.resGate := by
  unfold State.resGate
  split
  · split
    · exact ((State.keepsModeRegs.refl s).of_objs rfl).trans (State.resStart_keepsModeRegs _)
    · exact .refl s
  · dsimp only
    split
    · exact (State.keepsModeRegs.refl s).of_objs rfl
    · exact ((State.keepsModeRegs.refl s).of_objs rfl).put K.RES_STATE 0 (by decide)

theorem State.biasGate_keepsModeRegs (s : State) : s.keepsModeRegs s.biasGate := by
  have hoff : s.keepsModeRegs (s.forRange 4 fun s z => if (s.zone z).biased && !s.biasAllowed z then s.zoneOff z else s) :=
    (State.keepsModeRegs.refl s).foldl _ _ fun x z hz => by
      have hkey : K.APD_STATE z < 0x900000 := by
        have := List.mem_range.mp hz
        unfold K.APD_STATE
        omega
      exact (State.keepsModeRegs.refl x).onlyWhen (((State.keepsModeRegs.refl x).of_objs rfl).put _ _ hkey)
  unfold State.biasGate
  dsimp only
  split
  · exact hoff
  · exact hoff.of_objs rfl

/-! ### The link -/

theorem State.laneTo_keepsModeRegs (s : State) (b p : Nat) (hb : b < 8) : s.keepsModeRegs (s.laneTo b p) := by
  have hkey : K.LANE_MAP b < 0x900000 := by
    unfold K.LANE_MAP
    omega
  exact ((State.keepsModeRegs.refl s).put _ p hkey).onlyWhen ((State.keepsModeRegs.refl _).put K.TAKEOVERS _ (by decide))

theorem State.movesNow_keepsModeRegs (s : State) : s.keepsModeRegs s.movesNow := by
  have hmove : ∀ (x : State) (m : Nat × Nat), x.keepsModeRegs (x.laneOn m) := by
    intro x m
    have hto : x.keepsModeRegs (x.onlyIf (decide (m.1 < 8)) fun s => s.laneTo m.1 m.2) := by
      unfold State.onlyIf
      split
      next h => exact x.laneTo_keepsModeRegs m.1 m.2 (of_decide_eq_true h)
      · exact .refl x
    exact hto.of_objs rfl
  exact ((State.keepsModeRegs.refl s).foldl State.laneOn s.movesDue fun x m _ => hmove x m).of_objs rfl

theorem State.dropPackets_keepsModeRegs (s : State) (n k : Nat) (hn : n < 16) : s.keepsModeRegs (s.dropPackets n k) := by
  have hkey : ofStream K.STREAM_DROPPED n < 0x900000 := by
    unfold ofStream K.STREAM_DROPPED
    omega
  unfold State.dropPackets
  split
  · exact .refl s
  · dsimp only
    split
    · exact (State.keepsModeRegs.refl s).of_objs rfl
    · exact ((State.keepsModeRegs.refl s).of_objs rfl).put _ _ hkey

theorem State.flushStreams_keepsModeRegs (s : State) : s.keepsModeRegs s.flushStreams := by
  unfold State.flushStreams State.forRange
  refine .of_objs ((State.keepsModeRegs.refl s).foldl _ (List.range 16) fun x n hn => ?_) (State.setLink_objs ..)
  exact (x.dropPackets_keepsModeRegs n (x.buffered n) (List.mem_range.mp hn)).of_objs (State.setLink_objs ..)

/-- Per-stream objects of an earlier chapter are cleared. -/
theorem State.keepsModeRegs.clearStreams (h : s.keepsModeRegs t) (f : Nat → Nat) (hf : ∀ i < 15, f i < 0x900000) :
    s.keepsModeRegs ((List.range 15).foldl (fun s i => s.put (f i) 0) t) :=
  h.foldl _ _ fun x i hi => (State.keepsModeRegs.refl x).put _ 0 (hf i (List.mem_range.mp hi))

theorem State.linkDown_keepsModeRegs (s : State) (st fault : Nat) : s.keepsModeRegs (s.linkDown st fault) := by
  unfold State.linkDown
  extract_lets moved _ _ quiet credit flushed cleared aligned versioned
  have hquiet : s.keepsModeRegs quiet := s.movesNow_keepsModeRegs.of_objs (State.setLink_objs ..)
  have hcredit : s.keepsModeRegs credit :=
    hquiet.onlyWhen (.clearStreams (.refl quiet) K.CREDIT (by unfold K.CREDIT; omega))
  have hcleared : s.keepsModeRegs cleared :=
    .clearStreams (hcredit.trans credit.flushStreams_keepsModeRegs) K.STREAM_STATE (by unfold K.STREAM_STATE; omega)
  have haligned : s.keepsModeRegs aligned :=
    hcleared.onlyWhen (.put (.put (.refl cleared) (K.RX_ALIGN 0) 0 (by decide)) (K.RX_ALIGN 1) 0 (by decide))
  have hversioned : s.keepsModeRegs versioned :=
    haligned.onlyWhen (.put (.put (.refl aligned) K.LINK_VER 0 (by decide)) K.PKT_VER 0 (by decide))
  exact (hversioned.put K.STR_STATE st (by decide)).put K.STR_FAULT fault (by decide)

theorem State.linkGate_keepsModeRegs (s : State) : s.keepsModeRegs s.linkGate := by
  unfold State.linkGate
  split
  · exact .refl s
  · exact s.linkDown_keepsModeRegs 0 0

theorem State.startPacket_keepsModeRegs (s : State) (n : Nat) (hn : n < 16) : s.keepsModeRegs (s.startPacket n) := by
  have hkey : ofStream K.CREDIT n < 0x900000 := by
    unfold ofStream K.CREDIT
    omega
  unfold State.startPacket
  split
  · extract_lets x p t v
    have ht : s.keepsModeRegs t := (State.keepsModeRegs.refl s).of_objs (State.setLink_objs ..)
    have hv : s.keepsModeRegs v := ht.onlyWhen ((State.keepsModeRegs.refl t).put _ _ hkey)
    exact hv.of_objs (State.setLink_objs ..)
  · exact .refl s

/-- Only a stream of the link has its turn. -/
theorem State.lt_of_mem_turn (s : State) (c n : Nat) (h : n ∈ s.turn c) : n < 16 := by
  unfold State.turn at h
  simp only [List.mem_append, List.mem_filter, List.mem_range] at h
  omega

theorem State.lt_of_nextStream (s : State) (n : Nat) (h : s.nextStream = some n) : n < 16 := by
  have hmem : n ∈ ((List.range 4).map fun i => s.turn (i + 1)).flatten := List.mem_of_head? h
  simp only [List.mem_flatten, List.mem_map] at hmem
  obtain ⟨_, ⟨i, _, rfl⟩, hn⟩ := hmem
  exact s.lt_of_mem_turn _ n hn

theorem State.linkPump_keepsModeRegs (s : State) : s.keepsModeRegs s.linkPump := by
  unfold State.linkPump
  extract_lets now l
  clear_value l
  split
  · exact .refl s
  · split
    · split
      next n hn => exact s.startPacket_keepsModeRegs n (s.lt_of_nextStream n hn)
      · exact .refl s
    · split
      next n _ hturn =>
        have hn : n < 16 := State.lt_of_mem_turn _ 1 n (hturn ▸ List.mem_cons_self ..)
        split
        · refine .trans ?_ (State.startPacket_keepsModeRegs _ n hn)
          exact .put ((State.keepsModeRegs.refl s).of_objs (State.setLink_objs ..)) K.SUSPENDS _ (by decide)
        · exact (State.keepsModeRegs.refl s).of_objs (State.setLink_objs ..)
      · exact (State.keepsModeRegs.refl s).of_objs (State.setLink_objs ..)

/-! ### Settling -/

theorem State.raise_keepsModeRegs (s : State) : s.keepsModeRegs s.raise := by
  unfold State.raise
  split
  · exact ((State.keepsModeRegs.refl s).put K.IRQ_CAUSE 0 (by decide)).of_objs rfl
  · dsimp only
    split
    · exact (State.keepsModeRegs.refl s).of_objs rfl
    · exact ((State.keepsModeRegs.refl s).put K.IRQ_CAUSE _ (by decide)).of_objs rfl

theorem State.outGate_keepsModeRegs (s : State) : s.keepsModeRegs s.outGate := (State.keepsModeRegs.refl s).of_objs (State.setTrg_objs ..)

/-- Bringing the outputs up to date leaves the registers of chapter 18. -/
theorem State.settle_keepsModeRegs (s : State) : s.keepsModeRegs s.settle :=
  ((((((s.permitGate_keepsModeRegs.trans (State.mirGate_keepsModeRegs _)).trans (State.outGate_keepsModeRegs _)).trans
    (State.resGate_keepsModeRegs _)).trans (State.biasGate_keepsModeRegs _)).trans (State.linkGate_keepsModeRegs _)).trans
    (State.linkPump_keepsModeRegs _)).trans (State.raise_keepsModeRegs _)

end Sys2Proof.Machine
end

section
/-! PROOFS. The obligation of chapter 18 on mode requests. -/

namespace Sys2Proof.Machine

/-- STANDBY with a plan active, and a request for OFF that no write makes: MODE_REQ holds 0. DMA engine 0 has a completion record to post that begins within a
word; BANK_MAP sends it to a physical bank whose number is so large that the key of its BANK_UE is MODE_REQ's, and the word is uncorrectable. -/
def strayRequest : State :=
  let s : State := { State.reset with
    mode := .standby, counting := true, clk := { slotLocked := true }, pipe := { caught := true }, plan := { hasActive := true }, modeSt := { reqTicks := 1 }
    doms := [(K.AS_MAP 0, leBytes 4 0xA0000000)]
    fs := { dma := [{ phase := .complete 0 }], bad := [((K.MODE_REQ - K.BANK_UE 0) * bankBytes / 8, 0)] } }
  [(K.PLLA_STATE, 2), (K.MODE_REQ, 0), (K.AS_ENABLE, 1), (K.BANK_MAP 0, K.MODE_REQ - K.BANK_UE 0), (K.DMA_STATE 0, 1), (K.DMA_CQ_VA 0, 4)].foldl
    (fun s p => s.put p.1 p.2) s

/-- The state in which MODE_REQUEST_JUDGE judges a request, before the outputs are brought up to date. -/
def State.judged (s : State) : State := s.atTick.judgeStep s.atTick.nextStamp

theorem exec_modeRequestJudge (s : State) (ht : s.ticking = true) (hr : s.modeSt.reqTicks = 1) : exec .modeRequestJudge s = .next s.judged.settle := by
  calc exec .modeRequestJudge s = .next (s.tickRow (s.modeSt.reqTicks == 1) fun s => s.judgeStep s.nextStamp).settle := rfl
    _ = .next s.judged.settle := by rw [s.tickRow_due _ _ (beq_iff_eq.mpr hr) ht, State.judged, State.atTick]

theorem strayRequest_due : strayRequest.ticking = true ∧ strayRequest.modeSt.reqTicks = 1 := by decide +kernel

/-- The request is granted: it meets no automatic transition, and nothing of Table 18.3 stands against it. -/
theorem strayRequest_granted : let u := strayRequest.atTick
    u.modeSt.reqTicks = 1 ∧ u.reg K.MODE_REQ = 0 ∧ u.autoDue = false ∧ u.ensB.degAck = false ∧ u.modeVerdict (Mode.ofCode (u.reg K.MODE_REQ)) = 0
      ∧ Mode.ofCode (u.reg K.MODE_REQ) ≠ u.mode ∧ u.fs.retire.source < 50 ∧ u.fs.retire.target < 50 := by decide +kernel

/-- Entry to OFF aborts the engine, whose completion record meets the uncorrectable word, and the count of its bank is MODE_REQ. -/
theorem strayRequest_judged : strayRequest.judged.reg K.MODE_REQ = 1 := by decide +kernel

/-- Refutes O51: of a request that takes effect MODE_REQ is to stay as it is, whatever it and the registers of the banks hold. Where MODE_REQ holds 0, which no
write leaves in it, the engines abort at the entry to OFF (R243), and a completion record that faults counts in BANK_UE of the bank that BANK_MAP names: with
`strayRequest` that is MODE_REQ, which then reads 1. -/
theorem not_modeRequests : ¬ Obligations.ModeRequests := by
  unfold Obligations.ModeRequests
  intro ⟨_, hjudge, _⟩
  obtain ⟨hticking, hdue⟩ := strayRequest_due
  obtain ⟨hreq, hzero, hauto, hack, hverdict, hother, hsource, htarget⟩ := strayRequest_granted
  obtain ⟨_, hgrant⟩ := hjudge strayRequest _ _ hticking hdue rfl hreq rfl
  obtain ⟨_, hchange, _⟩ := hgrant hauto hack
  obtain ⟨t, hexec, _, _, hkept, _⟩ := hchange hverdict hother hsource htarget
  have hsettled : strayRequest.judged.settle = t.settle := Host.Outcome.next.inj ((exec_modeRequestJudge _ hticking hdue).symm.trans hexec)
  have hcounted : t.reg K.MODE_REQ = 1 := calc
    t.reg K.MODE_REQ = t.settle.reg K.MODE_REQ := (t.settle_keepsModeRegs K.MODE_REQ (by decide)).symm
    _ = strayRequest.judged.settle.reg K.MODE_REQ := by rw [hsettled]
    _ = strayRequest.judged.reg K.MODE_REQ := strayRequest.judged.settle_keepsModeRegs K.MODE_REQ (by decide)
    _ = 1 := strayRequest_judged
  exact absurd (hcounted.symm.trans (hkept.trans hzero)) (by decide)

end Sys2Proof.Machine
end

section
/-! PROOFS. What bringing the outputs up to date may change: the parts of the state and the registers of each gate. -/

namespace Sys2Proof.Machine

/-! ### Registers outside a list of keys -/

section
variable {s t u : State} {ks : List Nat}

theorem State.keeps.refl (s : State) (ks : List Nat) : s.keeps s ks := fun _ _ => rfl

theorem State.keeps.trans (h : s.keeps t ks) (h' : t.keeps u ks) : s.keeps u ks := fun k hk => (h' k hk).trans (h k hk)

theorem State.keeps.mono {js : List Nat} (h : s.keeps t js) (hs : js ⊆ ks) : s.keeps t ks := fun k hk => h k fun hj => hk (hs hj)

theorem State.keeps.put (h : s.keeps t ks) (j v : Nat) (hj : j ∈ ks) : s.keeps (t.put j v) ks :=
  fun k hk => (t.reg_put_ne j k v fun e => hk (e ▸ hj)).trans (h k hk)

/-- What changes no register. -/
theorem State.keeps.of_objs (h : s.keeps t ks) (ho : u.objs = t.objs) : s.keeps u ks := fun k hk => (t.reg_congr u ho k).trans (h k hk)

theorem State.keeps.onlyWhen {c : Prop} [Decidable c] (h : s.keeps t ks) (h' : t.keeps u ks) : s.keeps (if c then u else t) ks := by
  split
  · exact h.trans h'
  · exact h

theorem State.keeps.foldl {α : Type} (h : s.keeps t ks) (f : State → α → State) (l : List α) (hf : ∀ x, ∀ a ∈ l, State.keeps x (f x a) ks) :
    s.keeps (l.foldl f t) ks := by
  induction l generalizing t with
  | nil => exact h
  | cons a l ih => exact ih (h.trans (hf t a (List.mem_cons_self ..))) fun x b hb => hf x b (List.mem_cons_of_mem _ hb)

end

/-! ### Parts of the state: the link -/

/-- The state with another register store and link, and another state of the host paths. -/
def State.withLink (s t : State) : State := { s with objs := t.objs, link := t.link, paths := t.paths }

/-- `t` differs from `s` in registers, the link and the paths alone. -/
def State.linkOnly (s t : State) : Prop := t = s.withLink t

section
variable {s t u : State}

theorem State.linkOnly.trans (h : s.linkOnly t) (h' : t.linkOnly u) : s.linkOnly u := by
  calc u = t.withLink u := h'
    _ = (s.withLink t).withLink u := congrArg (State.withLink · u) h
    _ = s.withLink u := rfl

theorem State.linkOnly.onlyWhen {c : Prop} [Decidable c] (h : s.linkOnly t) (h' : t.linkOnly u) : s.linkOnly (if c then u else t) := by
  split
  · exact h.trans h'
  · exact h

theorem State.linkOnly.foldl {α : Type} (h : s.linkOnly t) (f : State → α → State) (l : List α) (hf : ∀ x a, State.linkOnly x (f x a)) :
    s.linkOnly (l.foldl f t) := by
  induction l generalizing t with
  | nil => exact h
  | cons a l ih => exact ih (h.trans (hf t a))

end

theorem State.linkOnly_refl (s : State) : s.linkOnly s := rfl

theorem State.linkOnly_put (s : State) (k v : Nat) : s.linkOnly (s.put k v) := rfl

theorem State.linkOnly_setLink (s : State) (l : Link) : s.linkOnly (s.setLink l) := rfl

theorem State.linkOnly_setPath (s : State) (p : Path) (x : PathState) : s.linkOnly (s.setPath p x) := rfl

theorem State.laneOn_linkOnly (s : State) (m : Nat × Nat) : s.linkOnly (s.laneOn m) := by
  unfold State.laneOn State.onlyIf State.laneTo
  split
  · exact (State.linkOnly.onlyWhen (s.linkOnly_put _ _) (State.linkOnly_put _ _ _)).trans (State.linkOnly_setLink _ _)
  · exact s.linkOnly_setLink _

theorem State.movesNow_linkOnly (s : State) : s.linkOnly s.movesNow :=
  (s.linkOnly_refl.foldl State.laneOn s.movesDue State.laneOn_linkOnly).trans (State.linkOnly_setLink _ _)

theorem State.dropPackets_linkOnly (s : State) (n k : Nat) : s.linkOnly (s.dropPackets n k) := by
  unfold State.dropPackets
  split
  · rfl
  · dsimp only
    split <;> rfl

theorem State.flushStreams_linkOnly (s : State) : s.linkOnly s.flushStreams :=
  (s.linkOnly_refl.foldl _ (List.range 16) fun x n => (x.dropPackets_linkOnly n (x.buffered n)).trans (State.linkOnly_setLink _ _)).trans
    (State.linkOnly_setLink _ _)

theorem State.linkDown_linkOnly (s : State) (st fault : Nat) : s.linkOnly (s.linkDown st fault) := by
  unfold State.linkDown
  extract_lets moved _ _ quiet credit flushed cleared aligned versioned
  have hquiet : s.linkOnly quiet := (s.movesNow_linkOnly.trans (moved.linkOnly_setPath _ _)).trans (State.linkOnly_setLink _ _)
  have hcredit : s.linkOnly credit := hquiet.onlyWhen (quiet.linkOnly_refl.foldl _ _ fun x i => x.linkOnly_put _ _)
  have hcleared : s.linkOnly cleared := (hcredit.trans credit.flushStreams_linkOnly).foldl _ _ fun x i => x.linkOnly_put _ _
  have haligned : s.linkOnly aligned := hcleared.onlyWhen ((cleared.linkOnly_put _ _).trans (State.linkOnly_put _ _ _))
  have hversioned : s.linkOnly versioned := haligned.onlyWhen ((aligned.linkOnly_put _ _).trans (State.linkOnly_put _ _ _))
  exact (hversioned.trans (versioned.linkOnly_put _ _)).trans (State.linkOnly_put _ _ _)

theorem State.linkGate_linkOnly (s : State) : s.linkOnly s.linkGate := by
  unfold State.linkGate
  split
  · rfl
  · exact s.linkDown_linkOnly 0 0

theorem State.startPacket_linkOnly (s : State) (n : Nat) : s.linkOnly (s.startPacket n) := by
  unfold State.startPacket
  split
  · extract_lets x p t v
    have hv : s.linkOnly v := State.linkOnly.onlyWhen (s.linkOnly_setLink _) (t.linkOnly_put _ _)
    exact hv.trans (v.linkOnly_setLink _)
  · rfl

theorem State.linkPump_linkOnly (s : State) : s.linkOnly s.linkPump := by
  unfold State.linkPump
  extract_lets now l
  clear_value l
  split
  · rfl
  · split
    · split
      · exact s.startPacket_linkOnly _
      · rfl
    · split
      · split
        · exact .trans (.trans (s.linkOnly_setLink _) (State.linkOnly_put _ _ _)) (State.startPacket_linkOnly _ _)
        · rfl
      · rfl

/-- The packet that starts leaves the paths. -/
theorem State.startPacket_paths (s : State) (n : Nat) : (s.startPacket n).paths = s.paths := by
  unfold State.startPacket
  split
  · dsimp only
    split <;> rfl
  · rfl

@[simp] theorem State.linkPump_paths (s : State) : s.linkPump.paths = s.paths := by
  unfold State.linkPump
  extract_lets now l
  clear_value l
  split
  · rfl
  · split
    · split
      · exact s.startPacket_paths _
      · rfl
    · split
      · split
        · exact State.startPacket_paths _ _
        · rfl
      · rfl

/-! ### Parts of the state: the other gates -/

theorem State.permitGate_parts (s : State) : s.permitGate = { s with objs := s.permitGate.objs, ensB := s.permitGate.ensB } := by
  unfold State.permitGate State.permitsOff State.voidTest
  split
  · rfl
  · split <;> rfl

theorem State.mirGate_parts (s : State) : s.mirGate = { s with objs := s.mirGate.objs, mir := s.mirGate.mir } := by
  unfold State.mirGate
  split <;> rfl

theorem State.resRamp_parts (s : State) (v : Nat) : s.resRamp v = { s with objs := (s.resRamp v).objs, res := (s.resRamp v).res } := by
  unfold State.resRamp State.resLevel
  split <;> rfl

theorem State.resStart_parts (s : State) : s.resStart = { s with objs := s.resStart.objs, res := s.resStart.res } := by
  unfold State.resStart
  split
  · rfl
  · exact s.resRamp_parts _

theorem State.resGate_parts (s : State) : s.resGate = { s with objs := s.resGate.objs, res := s.resGate.res } := by
  unfold State.resGate
  split
  · split
    · exact State.resStart_parts _
    · rfl
  · dsimp only
    split <;> rfl

/-- Zones of the bias generator go off one after another. -/
theorem State.zonesOff_parts (l : List Nat) (s : State) : let t := l.foldl (fun s z => if (s.zone z).biased && !s.biasAllowed z then s.zoneOff z else s) s
    t = { s with objs := t.objs, apd := t.apd } := by
  induction l generalizing s with
  | nil => rfl
  | cons z l ih =>
    dsimp only [List.foldl_cons] at ih ⊢
    split
    · exact ih (s.zoneOff z)
    · exact ih s

theorem State.biasGate_parts (s : State) : s.biasGate = { s with objs := s.biasGate.objs, apd := s.biasGate.apd } := by
  have h := State.zonesOff_parts (List.range 4) s
  unfold State.biasGate State.forRange
  dsimp only at h ⊢
  generalize (List.range 4).foldl _ s = t at h ⊢
  split
  · exact h
  · exact congrArg (fun x : State => { x with apd := { x.apd with boostOn := false } }) h

theorem State.raise_parts (s : State) : s.raise = { s with objs := s.raise.objs, penn := s.raise.penn, can := s.raise.can } := by
  unfold State.raise
  split
  · rfl
  · dsimp only
    split <;> rfl

end Sys2Proof.Machine
end

section
/-! PROOFS. The registers that each gate of the outputs may change. -/

namespace Sys2Proof.Machine

/-- The registers of the link that its end may change. -/
def linkKeys : List Nat :=
  [K.TAKEOVERS, K.STR_STATE, K.STR_FAULT, K.LINK_VER, K.PKT_VER, K.RX_ALIGN 0, K.RX_ALIGN 1] ++ (List.range 8).map K.LANE_MAP
    ++ (List.range 15).map K.CREDIT ++ (List.range 15).map K.STREAM_STATE ++ (List.range 16).map (ofStream K.STREAM_DROPPED)

theorem linkKeys_range {k : Nat} (h : k ∈ linkKeys) : k = K.TAKEOVERS ∨ 0x580000 ≤ k ∧ k < 0x590000 := by
  simp only [linkKeys, List.mem_append, List.mem_cons, List.not_mem_nil, or_false, List.mem_map, List.mem_range, K.STR_STATE, K.STR_FAULT, K.LINK_VER, K.PKT_VER, K.RX_ALIGN,
    K.LANE_MAP, K.CREDIT, K.STREAM_STATE, ofStream, K.STREAM_DROPPED] at h
  rcases h with ((((h | h) | ⟨i, hi, h⟩) | ⟨i, hi, h⟩) | ⟨i, hi, h⟩) | ⟨i, hi, h⟩
  · exact .inl h
  all_goals exact .inr (by omega)

/-- The registers of them that change though the lanes stay on. -/
def downKeys : List Nat :=
  [K.TAKEOVERS, K.STR_STATE, K.STR_FAULT] ++ (List.range 8).map K.LANE_MAP
    ++ (List.range 15).map K.CREDIT ++ (List.range 15).map K.STREAM_STATE ++ (List.range 16).map (ofStream K.STREAM_DROPPED)

/-- The registers that a packet which starts may change. -/
def pumpKeys : List Nat := K.SUSPENDS :: (List.range 15).map K.CREDIT

theorem mem_map_range {f : Nat → Nat} {n i : Nat} (h : i < n) : f i ∈ (List.range n).map f := List.mem_map_of_mem (List.mem_range.mpr h)

section
variable (s : State)

theorem State.permitGate_keeps : s.keeps s.permitGate [K.TP_VOID, K.TP_PASS, K.TP_NEXT] := by
  have hvoid : s.keeps s.voidTest [K.TP_VOID, K.TP_PASS, K.TP_NEXT] := by
    unfold State.voidTest
    split
    · exact ((State.keeps.refl s _).put K.TP_VOID _ (by decide)).of_objs rfl
    · exact ((((State.keeps.refl s _).put K.TP_PASS _ (by decide)).put K.TP_NEXT _ (by decide)).put K.TP_VOID _ (by decide)).of_objs rfl
    · exact .refl s _
  unfold State.permitGate
  split
  · exact .refl s _
  · exact hvoid.of_objs rfl

theorem State.mirGate_keeps : s.keeps s.mirGate [K.MIR_STATE, K.DRIVE_NOW] := by
  unfold State.mirGate
  split
  · exact .refl s _
  · exact (((State.keeps.refl s _).put K.MIR_STATE (if s.mode = .off then 0 else 1) (by decide)).put K.DRIVE_NOW (ofSigned 16 0) (by decide)).of_objs rfl

theorem State.resRamp_keeps (v : Nat) : s.keeps (s.resRamp v) [K.RES_STATE] := by
  unfold State.resRamp State.resLevel
  have hramp := ((State.keeps.refl s [K.RES_STATE]).put K.RES_STATE 1 (by decide)).of_objs (u := { s.put K.RES_STATE 1 with res := { s.res with
    runs := true, disOn := false, setPoint := v } }) rfl
  exact hramp.onlyWhen ((State.keeps.refl _ _).put K.RES_STATE _ (by decide))

theorem State.resStart_keeps : s.keeps s.resStart [K.RES_STATE] := by
  unfold State.resStart
  split
  · exact ((State.keeps.refl s _).put K.RES_STATE 3 (by decide)).of_objs rfl
  · exact s.resRamp_keeps _

theorem State.resGate_keeps : s.keeps s.resGate [K.RES_STATE] := by
  unfold State.resGate
  split
  · split
    · exact ((State.keeps.refl s _).of_objs rfl).trans (State.resStart_keeps _)
    · exact .refl s _
  · dsimp only
    split
    · exact (State.keeps.refl s _).of_objs rfl
    · exact ((State.keeps.refl s _).of_objs rfl).put K.RES_STATE 0 (by decide)

theorem State.biasGate_keeps : s.keeps s.biasGate ((List.range 4).map K.APD_STATE) := by
  have hoff : s.keeps (s.forRange 4 fun s z => if (s.zone z).biased && !s.biasAllowed z then s.zoneOff z else s) ((List.range 4).map K.APD_STATE) :=
    (State.keeps.refl s _).foldl _ _ fun x z hz =>
      (State.keeps.refl x _).onlyWhen (((State.keeps.refl x _).of_objs rfl).put _ _ (mem_map_range (List.mem_range.mp hz)))
  unfold State.biasGate
  dsimp only
  split
  · exact hoff
  · exact hoff.of_objs rfl

/-! ### The link -/

theorem State.laneOn_keeps (m : Nat × Nat) : s.keeps (s.laneOn m) downKeys := by
  have hto : s.keeps (s.onlyIf (decide (m.1 < 8)) fun s => s.laneTo m.1 m.2) downKeys := by
    unfold State.onlyIf State.laneTo
    split
    next h =>
      have hlane : K.LANE_MAP m.1 ∈ downKeys := by simp [downKeys, mem_map_range (f := K.LANE_MAP) (of_decide_eq_true h)]
      exact ((State.keeps.refl s _).put _ _ hlane).onlyWhen ((State.keeps.refl _ _).put K.TAKEOVERS _ (by decide))
    · exact .refl s _
  exact hto.of_objs rfl

theorem State.movesNow_keeps : s.keeps s.movesNow downKeys :=
  ((State.keeps.refl s _).foldl State.laneOn s.movesDue fun x m _ => x.laneOn_keeps m).of_objs rfl

theorem State.dropPackets_keeps (n k : Nat) (hn : n < 16) : s.keeps (s.dropPackets n k) downKeys := by
  have hkey : ofStream K.STREAM_DROPPED n ∈ downKeys := by simp [downKeys, mem_map_range (f := ofStream K.STREAM_DROPPED) hn]
  unfold State.dropPackets
  split
  · exact .refl s _
  · dsimp only
    split
    · exact (State.keeps.refl s _).of_objs rfl
    · exact ((State.keeps.refl s _).of_objs rfl).put _ _ hkey

theorem State.flushStreams_keeps : s.keeps s.flushStreams downKeys := by
  unfold State.flushStreams State.forRange
  refine .of_objs ((State.keeps.refl s _).foldl _ (List.range 16) fun x n hn => ?_) (State.setLink_objs ..)
  exact (x.dropPackets_keeps n (x.buffered n) (List.mem_range.mp hn)).of_objs (State.setLink_objs ..)

variable {s} in
/-- Registers of every stream are cleared. -/
theorem State.keeps.clearStreams {t : State} {ks : List Nat} (h : s.keeps t ks) (f : Nat → Nat) (hf : ∀ i < 15, f i ∈ ks) :
    s.keeps ((List.range 15).foldl (fun s i => s.put (f i) 0) t) ks :=
  h.foldl _ _ fun x i hi => (State.keeps.refl x _).put _ 0 (hf i (List.mem_range.mp hi))

/-- The lanes' own registers change only where they go off. -/
theorem State.linkDown_keepsIn (st fault : Nat) (ks : List Nat) (hks : downKeys ⊆ ks)
    (hoff : st = 0 ∨ fault = 3 → [K.RX_ALIGN 0, K.RX_ALIGN 1, K.LINK_VER, K.PKT_VER] ⊆ ks) : s.keeps (s.linkDown st fault) ks := by
  have hstreams : ∀ i < 15, K.CREDIT i ∈ downKeys ∧ K.STREAM_STATE i ∈ downKeys := fun i hi => by
    simp [downKeys, mem_map_range (f := K.CREDIT) hi, mem_map_range (f := K.STREAM_STATE) hi]
  unfold State.linkDown
  extract_lets moved _ _ quiet credit flushed cleared aligned versioned
  have hquiet : s.keeps quiet downKeys := s.movesNow_keeps.of_objs (State.setLink_objs ..)
  have hcredit : s.keeps credit downKeys := hquiet.onlyWhen ((State.keeps.refl quiet _).clearStreams K.CREDIT fun i hi => (hstreams i hi).1)
  have hcleared : s.keeps cleared downKeys := (hcredit.trans credit.flushStreams_keeps).clearStreams K.STREAM_STATE fun i hi => (hstreams i hi).2
  have haligned : s.keeps aligned ks := by
    by_cases h : (decide (st = 0) || fault == 3) = true
    · have hmem := hoff (by simpa using h)
      rw [show aligned = (cleared.put (K.RX_ALIGN 0) 0).put (K.RX_ALIGN 1) 0 from if_pos h]
      exact ((hcleared.mono hks).put _ 0 (hmem (by simp))).put _ 0 (hmem (by simp))
    · rw [show aligned = cleared from if_neg h]
      exact hcleared.mono hks
  have hversioned : s.keeps versioned ks := by
    by_cases h : st = 0
    · have hmem := hoff (.inl h)
      rw [show versioned = (aligned.put K.LINK_VER 0).put K.PKT_VER 0 from if_pos h]
      exact (haligned.put _ 0 (hmem (by simp))).put _ 0 (hmem (by simp))
    · rw [show versioned = aligned from if_neg h]
      exact haligned
  exact (hversioned.put K.STR_STATE st (hks (by decide))).put K.STR_FAULT fault (hks (by decide))

theorem State.linkDown_keeps (st fault : Nat) : s.keeps (s.linkDown st fault) linkKeys :=
  s.linkDown_keepsIn st fault linkKeys (by decide) fun _ => by decide

theorem State.linkGate_keeps : s.keeps s.linkGate linkKeys := by
  unfold State.linkGate
  split
  · exact .refl s _
  · exact s.linkDown_keeps 0 0

theorem State.startPacket_keeps (n : Nat) (hn : n < 16) : s.keeps (s.startPacket n) pumpKeys := by
  have hkey : ofStream K.CREDIT n ∈ pumpKeys := List.mem_cons_of_mem _ (mem_map_range (by omega))
  unfold State.startPacket
  split
  · extract_lets x p t v
    have ht : s.keeps t pumpKeys := (State.keeps.refl s _).of_objs (State.setLink_objs ..)
    have hv : s.keeps v pumpKeys := ht.onlyWhen ((State.keeps.refl t _).put _ _ hkey)
    exact hv.of_objs (State.setLink_objs ..)
  · exact .refl s _

theorem State.linkPump_keeps : s.keeps s.linkPump pumpKeys := by
  unfold State.linkPump
  extract_lets now l
  clear_value l
  split
  · exact .refl s _
  · split
    · split
      next n hn => exact s.startPacket_keeps n (s.lt_of_nextStream n hn)
      · exact .refl s _
    · split
      next n _ hturn =>
        have hn : n < 16 := State.lt_of_mem_turn _ 1 n (hturn ▸ List.mem_cons_self ..)
        split
        · refine .trans ?_ (State.startPacket_keeps _ n hn)
          exact .put ((State.keeps.refl s _).of_objs (State.setLink_objs ..)) K.SUSPENDS _ (by decide)
        · exact (State.keeps.refl s _).of_objs (State.setLink_objs ..)
      · exact (State.keeps.refl s _).of_objs (State.setLink_objs ..)

theorem State.raise_keeps : s.keeps s.raise [K.IRQ_CAUSE] := by
  unfold State.raise
  split
  · exact ((State.keeps.refl s _).put K.IRQ_CAUSE 0 (by decide)).of_objs rfl
  · dsimp only
    split
    · exact (State.keeps.refl s _).of_objs rfl
    · exact ((State.keeps.refl s _).put K.IRQ_CAUSE _ (by decide)).of_objs rfl

theorem State.outGate_keeps (ks : List Nat) : s.keeps s.outGate ks := (State.keeps.refl s ks).of_objs (State.setTrg_objs ..)

/-! ### All gates in turn -/

theorem State.settle_eq : s.settle = s.permitGate.mirGate.outGate.resGate.biasGate.linkGate.linkPump.raise := rfl

/-- The registers that the gates of the mirror, the reservoir and the bias zones may change. -/
def driveKeys : List Nat := [K.MIR_STATE, K.DRIVE_NOW, K.RES_STATE] ++ (List.range 4).map K.APD_STATE

/-- The registers that the link's gate, its next packet and the interrupt may change. -/
def endKeys : List Nat := linkKeys ++ [K.SUSPENDS, K.IRQ_CAUSE]

theorem State.mirGate_driveKeeps : s.keeps s.mirGate.outGate driveKeys := (s.mirGate_keeps.mono (by decide)).trans (State.outGate_keeps _ _)

theorem State.resGate_driveKeeps : s.keeps s.mirGate.outGate.resGate driveKeys := s.mirGate_driveKeeps.trans ((State.resGate_keeps _).mono (by decide))

theorem State.biasGate_driveKeeps : s.keeps s.mirGate.outGate.resGate.biasGate driveKeys :=
  s.resGate_driveKeeps.trans ((State.biasGate_keeps _).mono (by decide))

theorem State.linkPump_endKeeps : s.keeps s.linkPump.raise endKeys :=
  (s.linkPump_keeps.mono (by decide)).trans ((State.raise_keeps _).mono (by decide))

theorem State.linkGate_endKeeps : s.keeps s.linkGate.linkPump.raise endKeys := (s.linkGate_keeps.mono (by decide)).trans (State.linkPump_endKeeps _)

theorem State.permitGate_gateKeeps : s.keeps s.permitGate gateKeys := s.permitGate_keeps.mono (by decide)

theorem State.outStage_keeps : s.keeps s.permitGate.mirGate.outGate gateKeys :=
  s.permitGate_gateKeeps.trans ((State.mirGate_driveKeeps _).mono (by decide))

theorem State.resStage_keeps : s.keeps s.permitGate.mirGate.outGate.resGate gateKeys :=
  s.permitGate_gateKeeps.trans ((State.resGate_driveKeeps _).mono (by decide))

theorem State.biasStage_keeps : s.keeps s.permitGate.mirGate.outGate.resGate.biasGate gateKeys :=
  s.permitGate_gateKeeps.trans ((State.biasGate_driveKeeps _).mono (by decide))

/-- Bringing the outputs up to date changes only the registers that show them. -/
theorem State.settle_keeps : s.keeps s.settle gateKeys := by
  have hend : endKeys ⊆ gateKeys := by decide
  rw [State.settle_eq]
  exact s.biasStage_keeps.trans ((State.linkGate_endKeeps _).mono hend)

/-! ### What each gate leaves of the other parts -/

@[simp] theorem State.permitGate_mode : s.permitGate.mode = s.mode := (congrArg State.mode s.permitGate_parts :)
@[simp] theorem State.permitGate_mir : s.permitGate.mir = s.mir := (congrArg State.mir s.permitGate_parts :)
@[simp] theorem State.permitGate_trg : s.permitGate.trg = s.trg := (congrArg State.trg s.permitGate_parts :)
@[simp] theorem State.permitGate_res : s.permitGate.res = s.res := (congrArg State.res s.permitGate_parts :)
@[simp] theorem State.permitGate_apd : s.permitGate.apd = s.apd := (congrArg State.apd s.permitGate_parts :)
@[simp] theorem State.permitGate_paths : s.permitGate.paths = s.paths := (congrArg State.paths s.permitGate_parts :)
@[simp] theorem State.permitGate_penn : s.permitGate.penn = s.penn := (congrArg State.penn s.permitGate_parts :)
@[simp] theorem State.permitGate_rst : s.permitGate.rst = s.rst := (congrArg State.rst s.permitGate_parts :)
@[simp] theorem State.permitGate_rxTest : s.permitGate.rxTest = s.rxTest := (congrArg State.rxTest s.permitGate_parts :)
@[simp] theorem State.permitGate_shedTick : s.permitGate.shedTick = s.shedTick := (congrArg State.shedTick s.permitGate_parts :)

@[simp] theorem State.mirGate_mode : s.mirGate.mode = s.mode := (congrArg State.mode s.mirGate_parts :)
@[simp] theorem State.mirGate_ensB : s.mirGate.ensB = s.ensB := (congrArg State.ensB s.mirGate_parts :)
@[simp] theorem State.mirGate_trg : s.mirGate.trg = s.trg := (congrArg State.trg s.mirGate_parts :)
@[simp] theorem State.mirGate_res : s.mirGate.res = s.res := (congrArg State.res s.mirGate_parts :)
@[simp] theorem State.mirGate_apd : s.mirGate.apd = s.apd := (congrArg State.apd s.mirGate_parts :)
@[simp] theorem State.mirGate_paths : s.mirGate.paths = s.paths := (congrArg State.paths s.mirGate_parts :)
@[simp] theorem State.mirGate_penn : s.mirGate.penn = s.penn := (congrArg State.penn s.mirGate_parts :)
@[simp] theorem State.mirGate_rst : s.mirGate.rst = s.rst := (congrArg State.rst s.mirGate_parts :)
@[simp] theorem State.mirGate_rxTest : s.mirGate.rxTest = s.rxTest := (congrArg State.rxTest s.mirGate_parts :)
@[simp] theorem State.mirGate_shedTick : s.mirGate.shedTick = s.shedTick := (congrArg State.shedTick s.mirGate_parts :)

@[simp] theorem State.outGate_mode : s.outGate.mode = s.mode := rfl
@[simp] theorem State.outGate_ensB : s.outGate.ensB = s.ensB := rfl
@[simp] theorem State.outGate_mir : s.outGate.mir = s.mir := rfl
@[simp] theorem State.outGate_res : s.outGate.res = s.res := rfl
@[simp] theorem State.outGate_apd : s.outGate.apd = s.apd := rfl
@[simp] theorem State.outGate_paths : s.outGate.paths = s.paths := rfl
@[simp] theorem State.outGate_penn : s.outGate.penn = s.penn := rfl
@[simp] theorem State.outGate_rst : s.outGate.rst = s.rst := rfl
@[simp] theorem State.outGate_rxTest : s.outGate.rxTest = s.rxTest := rfl
@[simp] theorem State.outGate_shedTick : s.outGate.shedTick = s.shedTick := rfl

@[simp] theorem State.resGate_mode : s.resGate.mode = s.mode := (congrArg State.mode s.resGate_parts :)
@[simp] theorem State.resGate_ensB : s.resGate.ensB = s.ensB := (congrArg State.ensB s.resGate_parts :)
@[simp] theorem State.resGate_mir : s.resGate.mir = s.mir := (congrArg State.mir s.resGate_parts :)
@[simp] theorem State.resGate_trg : s.resGate.trg = s.trg := (congrArg State.trg s.resGate_parts :)
@[simp] theorem State.resGate_apd : s.resGate.apd = s.apd := (congrArg State.apd s.resGate_parts :)
@[simp] theorem State.resGate_paths : s.resGate.paths = s.paths := (congrArg State.paths s.resGate_parts :)
@[simp] theorem State.resGate_penn : s.resGate.penn = s.penn := (congrArg State.penn s.resGate_parts :)
@[simp] theorem State.resGate_rst : s.resGate.rst = s.rst := (congrArg State.rst s.resGate_parts :)
@[simp] theorem State.resGate_rxTest : s.resGate.rxTest = s.rxTest := (congrArg State.rxTest s.resGate_parts :)
@[simp] theorem State.resGate_shedTick : s.resGate.shedTick = s.shedTick := (congrArg State.shedTick s.resGate_parts :)

@[simp] theorem State.biasGate_mode : s.biasGate.mode = s.mode := (congrArg State.mode s.biasGate_parts :)
@[simp] theorem State.biasGate_ensB : s.biasGate.ensB = s.ensB := (congrArg State.ensB s.biasGate_parts :)
@[simp] theorem State.biasGate_mir : s.biasGate.mir = s.mir := (congrArg State.mir s.biasGate_parts :)
@[simp] theorem State.biasGate_trg : s.biasGate.trg = s.trg := (congrArg State.trg s.biasGate_parts :)
@[simp] theorem State.biasGate_res : s.biasGate.res = s.res := (congrArg State.res s.biasGate_parts :)
@[simp] theorem State.biasGate_paths : s.biasGate.paths = s.paths := (congrArg State.paths s.biasGate_parts :)
@[simp] theorem State.biasGate_penn : s.biasGate.penn = s.penn := (congrArg State.penn s.biasGate_parts :)
@[simp] theorem State.biasGate_rst : s.biasGate.rst = s.rst := (congrArg State.rst s.biasGate_parts :)
@[simp] theorem State.biasGate_rxTest : s.biasGate.rxTest = s.rxTest := (congrArg State.rxTest s.biasGate_parts :)
@[simp] theorem State.biasGate_shedTick : s.biasGate.shedTick = s.shedTick := (congrArg State.shedTick s.biasGate_parts :)

@[simp] theorem State.linkGate_mode : s.linkGate.mode = s.mode := (congrArg State.mode s.linkGate_linkOnly :)
@[simp] theorem State.linkGate_ensB : s.linkGate.ensB = s.ensB := (congrArg State.ensB s.linkGate_linkOnly :)
@[simp] theorem State.linkGate_mir : s.linkGate.mir = s.mir := (congrArg State.mir s.linkGate_linkOnly :)
@[simp] theorem State.linkGate_trg : s.linkGate.trg = s.trg := (congrArg State.trg s.linkGate_linkOnly :)
@[simp] theorem State.linkGate_res : s.linkGate.res = s.res := (congrArg State.res s.linkGate_linkOnly :)
@[simp] theorem State.linkGate_apd : s.linkGate.apd = s.apd := (congrArg State.apd s.linkGate_linkOnly :)
@[simp] theorem State.linkGate_penn : s.linkGate.penn = s.penn := (congrArg State.penn s.linkGate_linkOnly :)
@[simp] theorem State.linkGate_rst : s.linkGate.rst = s.rst := (congrArg State.rst s.linkGate_linkOnly :)
@[simp] theorem State.linkGate_rxTest : s.linkGate.rxTest = s.rxTest := (congrArg State.rxTest s.linkGate_linkOnly :)
@[simp] theorem State.linkGate_shedTick : s.linkGate.shedTick = s.shedTick := (congrArg State.shedTick s.linkGate_linkOnly :)

@[simp] theorem State.linkPump_mode : s.linkPump.mode = s.mode := (congrArg State.mode s.linkPump_linkOnly :)
@[simp] theorem State.linkPump_ensB : s.linkPump.ensB = s.ensB := (congrArg State.ensB s.linkPump_linkOnly :)
@[simp] theorem State.linkPump_mir : s.linkPump.mir = s.mir := (congrArg State.mir s.linkPump_linkOnly :)
@[simp] theorem State.linkPump_trg : s.linkPump.trg = s.trg := (congrArg State.trg s.linkPump_linkOnly :)
@[simp] theorem State.linkPump_res : s.linkPump.res = s.res := (congrArg State.res s.linkPump_linkOnly :)
@[simp] theorem State.linkPump_apd : s.linkPump.apd = s.apd := (congrArg State.apd s.linkPump_linkOnly :)
@[simp] theorem State.linkPump_penn : s.linkPump.penn = s.penn := (congrArg State.penn s.linkPump_linkOnly :)
@[simp] theorem State.linkPump_rst : s.linkPump.rst = s.rst := (congrArg State.rst s.linkPump_linkOnly :)
@[simp] theorem State.linkPump_rxTest : s.linkPump.rxTest = s.rxTest := (congrArg State.rxTest s.linkPump_linkOnly :)
@[simp] theorem State.linkPump_shedTick : s.linkPump.shedTick = s.shedTick := (congrArg State.shedTick s.linkPump_linkOnly :)

@[simp] theorem State.raise_mode : s.raise.mode = s.mode := (congrArg State.mode s.raise_parts :)
@[simp] theorem State.raise_ensB : s.raise.ensB = s.ensB := (congrArg State.ensB s.raise_parts :)
@[simp] theorem State.raise_mir : s.raise.mir = s.mir := (congrArg State.mir s.raise_parts :)
@[simp] theorem State.raise_trg : s.raise.trg = s.trg := (congrArg State.trg s.raise_parts :)
@[simp] theorem State.raise_res : s.raise.res = s.res := (congrArg State.res s.raise_parts :)
@[simp] theorem State.raise_apd : s.raise.apd = s.apd := (congrArg State.apd s.raise_parts :)
@[simp] theorem State.raise_paths : s.raise.paths = s.paths := (congrArg State.paths s.raise_parts :)
@[simp] theorem State.raise_rst : s.raise.rst = s.rst := (congrArg State.rst s.raise_parts :)
@[simp] theorem State.raise_rxTest : s.raise.rxTest = s.rxTest := (congrArg State.rxTest s.raise_parts :)
@[simp] theorem State.raise_shedTick : s.raise.shedTick = s.shedTick := (congrArg State.shedTick s.raise_parts :)

/-! ### The parts that all gates together may change -/

/-- The state with the parts of another that show the outputs. -/
def State.withShown (s t : State) : State :=
  { s with objs := t.objs, ensB := t.ensB, mir := t.mir, trg := t.trg, res := t.res, apd := t.apd, link := t.link, paths := t.paths, penn := t.penn, can := t.can }

/-- `t` differs from `s` in the parts that show the outputs alone. -/
def State.shows (s t : State) : Prop := t = s.withShown t

variable {s} in
theorem State.shows.trans {t u : State} (h : s.shows t) (h' : t.shows u) : s.shows u := by
  calc u = t.withShown u := h'
    _ = (s.withShown t).withShown u := congrArg (State.withShown · u) h
    _ = s.withShown u := rfl

variable {s} in
/-- What writes some of those parts. -/
theorem State.shows.of_eq {t u : State} (h : t = u) (hu : u = s.withShown u) : s.shows t := by
  rw [h]
  exact hu

theorem State.permitGate_shows : s.shows s.permitGate := .of_eq s.permitGate_parts rfl

theorem State.mirGate_shows : s.shows s.mirGate := .of_eq s.mirGate_parts rfl

theorem State.resGate_shows : s.shows s.resGate := .of_eq s.resGate_parts rfl

theorem State.biasGate_shows : s.shows s.biasGate := .of_eq s.biasGate_parts rfl

theorem State.linkGate_shows : s.shows s.linkGate := .of_eq s.linkGate_linkOnly rfl

theorem State.linkPump_shows : s.shows s.linkPump := .of_eq s.linkPump_linkOnly rfl

theorem State.raise_shows : s.shows s.raise := .of_eq s.raise_parts rfl

theorem State.outGate_shows : s.shows s.outGate := rfl

theorem State.settle_shows : s.shows s.settle := by
  have hres : s.shows s.permitGate.mirGate.outGate.resGate :=
    ((s.permitGate_shows.trans (State.mirGate_shows _)).trans (State.outGate_shows _)).trans (State.resGate_shows _)
  have hlink : s.shows s.permitGate.mirGate.outGate.resGate.biasGate.linkGate := (hres.trans (State.biasGate_shows _)).trans (State.linkGate_shows _)
  rw [State.settle_eq]
  exact (hlink.trans (State.linkPump_shows _)).trans (State.raise_shows _)

end

end Sys2Proof.Machine
end

section
/-! PROOFS. The obligations of the block as a whole: one step, reset, settling, and the outputs that stay safe. -/

namespace Sys2Proof.Machine

variable (s : State)

/-- A register that no gate shows. -/
theorem State.settle_reg (k : Nat) (hk : k ∉ gateKeys) : s.settle.reg k = s.reg k := s.settle_keeps k hk

@[simp] theorem State.settle_mode : s.settle.mode = s.mode := by simp [State.settle_eq]

@[simp] theorem State.settle_ensB : s.settle.ensB = s.permitGate.ensB := by simp [State.settle_eq]

@[simp] theorem State.settle_mir : s.settle.mir = s.permitGate.mirGate.mir := by simp [State.settle_eq]

@[simp] theorem State.settle_trg : s.settle.trg = s.permitGate.mirGate.outGate.trg := by simp [State.settle_eq]

@[simp] theorem State.settle_res : s.settle.res = s.permitGate.mirGate.outGate.resGate.res := by simp [State.settle_eq]

@[simp] theorem State.settle_apd : s.settle.apd = s.permitGate.mirGate.outGate.resGate.biasGate.apd := by simp [State.settle_eq]

@[simp] theorem State.settle_paths : s.settle.paths = s.permitGate.mirGate.outGate.resGate.biasGate.linkGate.paths := by simp [State.settle_eq]

@[simp] theorem State.settle_rst : s.settle.rst = s.rst := by simp [State.settle_eq]

@[simp] theorem State.settle_rxTest : s.settle.rxTest = s.rxTest := by simp [State.settle_eq]

@[simp] theorem State.settle_shedTick : s.settle.shedTick = s.shedTick := by simp [State.settle_eq]

theorem State.raise_sticky : s.raise.penn.sticky = s.penn.sticky := by
  unfold State.raise
  split <;> rfl

theorem State.settle_sticky : s.settle.penn.sticky = s.penn.sticky := by
  rw [State.settle_eq, State.raise_sticky]
  simp

/-! ### The permits (R384) -/

/-- What turning the permits off leaves of Ensign's channel B. -/
theorem State.permitsOff_ensB : s.permitsOff.ensB = { s.ensB with
    permitA := false, permitB := false, fbA := false, fbB := false, forcedDue := false, test := none
    testLow := if s.ensB.test = none then s.ensB.testLow else false, passed := if s.ensB.test = none then none else s.ensB.passed } := by
  unfold State.permitsOff State.voidTest
  split
  next h => simp [h]
  next h h' => simp [h]
  next h h' => simp [h, h']

theorem State.permitGate_on (h : s.permitCond = true) : s.permitGate = s := if_pos h

theorem State.permitGate_off (h : s.permitCond = false) : s.permitGate = s.permitsOff := by simp [State.permitGate, h]

theorem State.permitMode_congr (t : State) (hm : t.mode = s.mode) (he : t.ensB.surveyFrom = s.ensB.surveyFrom) : t.permitMode = s.permitMode := by
  simp [State.permitMode, hm, he]

/-- The condition of the permits does not change as the outputs are brought up to date. -/
theorem State.permitCond_settle : s.settle.permitCond = s.permitCond := by
  have hfrom : s.permitGate.ensB.surveyFrom = s.ensB.surveyFrom ∧ s.permitGate.ensB.inhibited = s.ensB.inhibited := by
    rcases Bool.eq_false_or_eq_true s.permitCond with h | h
    · rw [s.permitGate_on h]
      exact ⟨rfl, rfl⟩
    · rw [s.permitGate_off h, s.permitsOff_ensB]
      exact ⟨rfl, rfl⟩
  obtain ⟨hsurvey, hinhibited⟩ := hfrom
  unfold State.permitCond
  rw [s.permitMode_congr s.settle s.settle_mode (by rw [settle_ensB, hsurvey]), s.settle_reg _ (by decide), s.settle_reg _ (by decide),
    s.settle_reg _ (by decide), s.settle_reg _ (by decide), settle_ensB, hinhibited, settle_rst]

theorem State.permitsSafe_settle : s.settle.permitsSafe = true := by
  unfold State.permitsSafe
  rw [s.permitCond_settle, settle_ensB]
  rcases Bool.eq_false_or_eq_true s.permitCond with h | h
  · simp [h]
  · rw [s.permitGate_off h, s.permitsOff_ensB]
    simp

/-! ### The mirror (R86, R89) -/

/-- What gates an output stays as it is in a state with the same mode and the same shed levels. -/
theorem State.driveAllowed_congr (t : State) (hm : t.mode = s.mode) (hr : t.reg K.SHED_LEVEL = s.reg K.SHED_LEVEL) (hs : t.shedTick = s.shedTick) :
    t.driveAllowed = s.driveAllowed := by
  simp [State.driveAllowed, State.shedForce, hm, hr, hs]

theorem State.permitGate_driveAllowed : s.permitGate.driveAllowed = s.driveAllowed :=
  s.driveAllowed_congr _ (by simp) (s.permitGate_keeps _ (by decide)) (by simp)

theorem State.driveAllowed_settle : s.settle.driveAllowed = s.driveAllowed :=
  s.driveAllowed_congr _ (by simp) (s.settle_reg _ (by decide)) (by simp)

theorem State.settle_mir_on (h : s.driveAllowed = true) : s.settle.mir = s.mir := by
  rw [settle_mir, State.mirGate, s.permitGate_driveAllowed, if_pos h, permitGate_mir]

theorem State.settle_mir_off (h : s.driveAllowed = false) : s.settle.mir = s.permitGate.mirBrake.mir := by
  rw [settle_mir, State.mirGate, s.permitGate_driveAllowed, h, if_neg Bool.false_ne_true]

theorem State.driveSafe_settle : s.settle.driveSafe = true := by
  unfold State.driveSafe
  rw [s.driveAllowed_settle]
  rcases Bool.eq_false_or_eq_true s.driveAllowed with h | h
  · simp [h]
  · rw [s.settle_mir_off h]
    simp [State.mirBrake]

/-! ### The reservoir (R81) -/

theorem State.resAllowed_congr (t : State) (hm : t.mode = s.mode) (hr : t.reg K.SHED_LEVEL = s.reg K.SHED_LEVEL) (hs : t.shedTick = s.shedTick)
    (hl : t.reg K.PLLA_STATE = s.reg K.PLLA_STATE) : t.resAllowed = s.resAllowed := by
  simp [State.resAllowed, State.shedForce, State.lockedA, hm, hr, hs, hl]

theorem State.resGate_forbids (h : s.resAllowed = false) : s.resGate.res.runs = false := by
  unfold State.resGate
  rw [h, if_neg Bool.false_ne_true]
  dsimp only
  split <;> rfl

theorem State.chargerSafe_settle : s.settle.chargerSafe = true := by
  have hkept := s.outStage_keeps
  have hgate : s.permitGate.mirGate.outGate.resAllowed = s.resAllowed :=
    s.resAllowed_congr _ (by simp) (hkept _ (by decide)) (by simp) (hkept _ (by decide))
  have hend : s.settle.resAllowed = s.resAllowed :=
    s.resAllowed_congr _ (by simp) (s.settle_reg _ (by decide)) (by simp) (s.settle_reg _ (by decide))
  unfold State.chargerSafe
  rw [hend]
  rcases Bool.eq_false_or_eq_true s.resAllowed with h | h
  · simp [h]
  · rw [settle_res, State.resGate_forbids _ (hgate.trans h)]
    simp

/-! ### The bias zones (R118) -/

theorem State.zone_zoneOff (z y : Nat) : (s.zoneOff z).zone y = if y = z then (s.zoneOff z).zone z else s.zone y := by
  simp only [State.zoneOff, State.zoneShow, State.setZone, State.zone, State.put_apd, getD_setAt]
  split <;> simp

theorem State.zoneOff_zone_self (z : Nat) : ((s.zoneOff z).zone z).biased = false ∧ ((s.zoneOff z).zone z).faulted = (s.zone z).faulted := by
  simp only [State.zoneOff, State.zoneShow, State.setZone, State.zone, State.put_apd, getD_setAt]
  simp

theorem State.biasAllowed_congr (t : State) (z : Nat) (hm : t.mode = s.mode) (hx : t.rxTest = s.rxTest) (hs : t.shedTick = s.shedTick)
    (he : t.reg K.APD_ZONE_EN = s.reg K.APD_ZONE_EN) (hr : t.reg K.SHED_LEVEL = s.reg K.SHED_LEVEL) (hf : (t.zone z).faulted = (s.zone z).faulted) :
    t.biasAllowed z = s.biasAllowed z := by
  simp [State.biasAllowed, State.zoneWanted, State.regBit, State.biasMode, State.shedForce, hm, hx, hs, he, hr, hf]

theorem State.biasAllowed_zoneOff (z y : Nat) (hz : z < 4) : (s.zoneOff z).biasAllowed y = s.biasAllowed y := by
  have hkeys : ∀ k, k ∉ (List.range 4).map K.APD_STATE → (s.zoneOff z).reg k = s.reg k := fun k hk =>
    ((State.keeps.refl s ((List.range 4).map K.APD_STATE)).of_objs (u := s.setZone z _) rfl).put _ _ (mem_map_range hz) k hk
  refine s.biasAllowed_congr _ y rfl rfl rfl (hkeys _ (by decide)) (hkeys _ (by decide)) ?_
  rw [s.zone_zoneOff]
  split
  next h => rw [h, (s.zoneOff_zone_self z).2]
  · rfl

/-- The zones that a rule forbids go off, and no zone's permission changes by it. -/
theorem State.zonesOff_safe (l : List Nat) (hl : ∀ z ∈ l, z < 4) (s : State) :
    let t := l.foldl (fun s z => if (s.zone z).biased && !s.biasAllowed z then s.zoneOff z else s) s
    (∀ z, (t.zone z).faulted = (s.zone z).faulted) ∧ (∀ z, (t.zone z).biased = true → (s.zone z).biased = true)
      ∧ ∀ z ∈ l, (t.zone z).biased = true → s.biasAllowed z = true := by
  induction l generalizing s with
  | nil => simp
  | cons z l ih =>
    have hrest : ∀ y ∈ l, y < 4 := fun y hy => hl y (List.mem_cons_of_mem _ hy)
    dsimp only [List.foldl_cons] at ih ⊢
    split
    next h =>
      obtain ⟨hfaulted, hbiased, hsafe⟩ := ih hrest (s.zoneOff z)
      have hfault : ∀ y, ((s.zoneOff z).zone y).faulted = (s.zone y).faulted := by
        intro y
        rw [s.zone_zoneOff]
        split
        next h => rw [h, (s.zoneOff_zone_self z).2]
        · rfl
      have hzone : ∀ y, ((s.zoneOff z).zone y).biased = true → y ≠ z ∧ (s.zone y).biased = true := by
        intro y hy
        rw [s.zone_zoneOff] at hy
        split at hy
        · rw [(s.zoneOff_zone_self z).1] at hy
          exact absurd hy Bool.false_ne_true
        next hne => exact ⟨hne, hy⟩
      refine ⟨fun y => (hfaulted y).trans (hfault y), fun y hy => (hzone y (hbiased y hy)).2, fun y hy hb => ?_⟩
      rcases List.mem_cons.mp hy with rfl | hy
      · exact absurd rfl (hzone y (hbiased y hb)).1
      · exact (s.biasAllowed_zoneOff z y (hl z (List.mem_cons_self ..))).symm.trans (hsafe y hy hb)
    next h =>
      obtain ⟨hfaulted, hbiased, hsafe⟩ := ih hrest s
      refine ⟨hfaulted, hbiased, fun y hy hb => ?_⟩
      rcases List.mem_cons.mp hy with rfl | hy
      · have hy := hbiased y hb
        simpa [hy] using h
      · exact hsafe y hy hb

theorem State.biasGate_zone (z : Nat) : s.biasGate.zone z =
    State.zone ((List.range 4).foldl (fun s z => if (s.zone z).biased && !s.biasAllowed z then s.zoneOff z else s) s) z := by
  unfold State.biasGate State.forRange
  dsimp only
  split <;> rfl

theorem State.biasGate_faulted (z : Nat) : (s.biasGate.zone z).faulted = (s.zone z).faulted := by
  rw [s.biasGate_zone, (State.zonesOff_safe (List.range 4) (by simp) s).1 z]

theorem State.biasGate_safe (z : Nat) (hz : z < 4) (hb : (s.biasGate.zone z).biased = true) : s.biasAllowed z = true := by
  rw [s.biasGate_zone] at hb
  exact (State.zonesOff_safe (List.range 4) (by simp) s).2.2 z (List.mem_range.mpr hz) hb

/-- A zone that is on may be on: what permits it, neither its gate nor what follows changes. -/
theorem State.biasSafe_settle : s.settle.biasSafe = true := by
  have hzone : ∀ z, s.settle.zone z = s.permitGate.mirGate.outGate.resGate.biasGate.zone z := fun z => by rw [State.zone, settle_apd, State.zone]
  have hallowed : ∀ z, s.settle.biasAllowed z = s.permitGate.mirGate.outGate.resGate.biasAllowed z := by
    refine fun z => State.biasAllowed_congr _ _ z (by simp) (by simp) (by simp) ?_ ?_ (by rw [hzone, State.biasGate_faulted])
    all_goals exact (s.settle_reg _ (by decide)).trans (s.resStage_keeps _ (by decide)).symm
  simp only [State.biasSafe, List.all_eq_true, List.mem_range, hallowed, hzone, Bool.or_eq_true, Bool.not_eq_true']
  intro z hz
  cases h : (s.permitGate.mirGate.outGate.resGate.biasGate.zone z).biased
  · exact .inl rfl
  · exact .inr (State.biasGate_safe _ z hz h)

/-! ### The trigger outputs (R196, R206, R207) -/

theorem State.permitStage_reg (k : Nat) (hk : k ∉ gateKeys) : s.permitGate.mirGate.reg k = s.reg k :=
  (State.outGate_keeps _ [] k (by simp)).symm.trans (s.outStage_keeps k hk)

theorem State.settle_trg_eq : s.settle.trg = { s.trg with
    out := s.trg.out && s.capMode && (s.reg K.TRIG_OUT_MODE == 1 || (s.reg K.TRIG_OUT_MODE == 2 && s.reg K.TRIG_STATE == 3))
    slotOut := s.trg.slotOut && s.capMode && s.reg K.SLOT_OUT_MODE != 0
    slotRises := if s.capMode = true ∧ s.reg K.SLOT_OUT_MODE ≠ 0 then s.trg.slotRises else [] } := by
  rw [settle_trg, State.outGate]
  simp only [State.setTrg_trg, State.capMode, mirGate_mode, permitGate_mode, mirGate_trg, permitGate_trg]
  rw [s.permitStage_reg _ (by decide), s.permitStage_reg _ (by decide), s.permitStage_reg _ (by decide)]
  simp only [Bool.and_eq_true, bne_iff_ne, ne_eq]
  congr

theorem State.outsSafe_settle : s.settle.outsSafe = true := by
  unfold State.outsSafe
  rw [s.settle_trg_eq, State.capMode, State.capMode, settle_mode]
  cases s.mode.isRunning <;> simp

/-! ### The link (R258) -/

theorem State.linkEnabled_congr (t : State) (hm : t.mode = s.mode) (he : t.reg K.STR_ENABLE = s.reg K.STR_ENABLE)
    (ha : t.reg (K.RAIL_STATE 0) = s.reg (K.RAIL_STATE 0)) (hb : t.reg (K.RAIL_STATE 1) = s.reg (K.RAIL_STATE 1)) : t.linkEnabled = s.linkEnabled := by
  simp [State.linkEnabled, State.railGood, hm, he, ha, hb]

theorem State.linkDown_state (st fault : Nat) : (s.linkDown st fault).reg K.STR_STATE = st := by
  unfold State.linkDown
  rw [State.reg_put_ne _ _ _ _ (by decide), State.reg_put_self]

theorem State.linkGate_state (h : s.linkEnabled = false) : s.linkGate.reg K.STR_STATE = 0 := by
  unfold State.linkGate
  split
  next hs => simpa [h] using hs
  · exact s.linkDown_state 0 0

theorem State.linkSafe_settle : s.settle.linkSafe = true := by
  have hend : s.settle.linkEnabled = s.linkEnabled := s.linkEnabled_congr _ (by simp) (s.settle_reg _ (by decide)) (s.settle_reg _ (by decide))
    (s.settle_reg _ (by decide))
  have hgate : s.permitGate.mirGate.outGate.resGate.biasGate.linkEnabled = s.linkEnabled :=
    s.linkEnabled_congr _ (by simp) (s.biasStage_keeps _ (by decide)) (s.biasStage_keeps _ (by decide)) (s.biasStage_keeps _ (by decide))
  unfold State.linkSafe
  rw [hend]
  rcases Bool.eq_false_or_eq_true s.linkEnabled with h | h
  · simp [h]
  · rw [State.settle_eq, State.raise_keeps _ _ (by decide), State.linkPump_keeps _ _ (by decide), State.linkGate_state _ (hgate.trans h)]
    simp

/-- Once the outputs are up to date, each gated one is off where its rule forbids it. -/
theorem State.outputsSafe_settle : s.settle.outputsSafe = true := by
  simp only [State.outputsSafe, s.permitsSafe_settle, s.driveSafe_settle, s.chargerSafe_settle, s.biasSafe_settle, s.outsSafe_settle, s.linkSafe_settle, Bool.and_self]

/-! ### What keeps its value under a condition -/

/-- While the permits may be on, the registers of their tests stay. -/
theorem State.settle_reg_permitted (h : s.permitCond = true) (k : Nat) (hk : k ∉ driveKeys ++ endKeys) : s.settle.reg k = s.reg k := by
  obtain ⟨hdrive, hend⟩ : k ∉ driveKeys ∧ k ∉ endKeys := by simpa using hk
  rw [State.settle_eq, State.linkGate_endKeeps _ k hend, State.biasGate_driveKeeps _ k hdrive, s.permitGate_on h]

/-- A link that is enabled, or off already, keeps its lanes and the paths. -/
theorem State.settle_linkKept (h : s.linkEnabled = true ∨ s.reg K.STR_STATE = 0) :
    s.settle.paths = s.paths ∧ ∀ l, l < 8 → s.settle.reg (K.LANE_MAP l) = s.reg (K.LANE_MAP l) := by
  have hstate : s.permitGate.mirGate.outGate.resGate.biasGate.reg K.STR_STATE = s.reg K.STR_STATE := by
    rw [State.biasGate_driveKeeps _ _ (by decide), s.permitGate_keeps _ (by decide)]
  have henabled : s.permitGate.mirGate.outGate.resGate.biasGate.linkEnabled = s.linkEnabled :=
    s.linkEnabled_congr _ (by simp) (s.biasStage_keeps _ (by decide)) (s.biasStage_keeps _ (by decide)) (s.biasStage_keeps _ (by decide))
  have hgate : s.permitGate.mirGate.outGate.resGate.biasGate.linkGate = s.permitGate.mirGate.outGate.resGate.biasGate := by
    rw [State.linkGate, henabled, hstate, if_pos (by simpa using h)]
  refine ⟨by rw [settle_paths, hgate]; simp, fun l hl => ?_⟩
  have hlane : K.LANE_MAP l ∉ [K.TP_VOID, K.TP_PASS, K.TP_NEXT] ++ driveKeys ++ (pumpKeys ++ [K.IRQ_CAUSE]) := by
    interval_cases l <;> decide
  simp only [List.mem_append, not_or] at hlane
  obtain ⟨⟨htest, hdrive⟩, hpump, hirq⟩ := hlane
  rw [State.settle_eq, hgate, State.raise_keeps _ _ hirq, State.linkPump_keeps _ _ hpump, State.biasGate_driveKeeps _ _ hdrive, s.permitGate_keeps _ htest]

/-! ### Every command ends with the outputs up to date -/

theorem exec_settles (c : Instr) (s : State) : ∃ t : State, exec c s = .next t.settle := by
  cases c <;> exact ⟨_, rfl⟩

theorem step_front (s : State) (c : Instr) (l : List Instr) (h : s.pending = c :: l) : step s = exec c { s with pending := l } := by
  rw [step, h]
  rfl

theorem step_idle (s : State) (h : s.pending = []) : step s = .next s := by rw [step, h]

end Sys2Proof.Machine
end

section
/-! PROOFS. The obligations of the block as a whole. -/

namespace Sys2Proof.Machine

/-- Settles O55: the queue's two shapes are the two cases of `step`. -/
theorem stepRunsFront : Obligations.StepRunsFront := ⟨step_front, step_idle⟩

/-- Settles O57: the reset state is written out, and an empty register store reads every default. -/
theorem resetState : Obligations.ResetState :=
  ⟨rfl, rfl, rfl, rfl, rfl, rfl, rfl, rfl, rfl, rfl, rfl, rfl, rfl, fun _ => rfl, by decide, by decide, by decide, by decide, rfl,
    by decide⟩

/-- Settles O59: a step ends in a settled state, in which every gate has judged its output, or idles. -/
theorem outputsStaySafe : Obligations.OutputsStaySafe := by
  intro s t hs ht
  cases hq : s.pending with
  | nil =>
    rw [step_idle s hq] at ht
    exact Host.Outcome.next.inj ht ▸ hs
  | cons c l =>
    rw [step_front s c l hq] at ht
    obtain ⟨u, hu⟩ := exec_settles c { s with pending := l }
    rw [← Host.Outcome.next.inj (hu.symm.trans ht)]
    exact u.outputsSafe_settle

/-- Settles O58: each gate's own registers and parts, one after another. -/
theorem settlingFrame : Obligations.SettlingFrame := by
  intro s t ht
  rw [ht]
  refine ⟨s.settle_shows, s.settle_keeps, fun h => ?_, fun h => ?_, s.settle_mir_on, fun h => ?_, s.settle_sticky, s.settle_trg_eq, s.settle_linkKept⟩
  · exact ⟨(s.settle_ensB).trans (congrArg State.ensB (s.permitGate_on h)), s.settle_reg_permitted h _ (by decide),
      s.settle_reg_permitted h _ (by decide), s.settle_reg_permitted h _ (by decide)⟩
  · rw [State.settle_ensB, s.permitGate_off h, s.permitsOff_ensB]
  · rw [s.settle_mir_off h]
    exact ⟨rfl, rfl, (congrArg Mirror.holdOn s.permitGate_mir :)⟩

end Sys2Proof.Machine
end

section
/-! PROOFS. Chapters 3 and 15: what happens to one fire of the present slot, and what Ensign decides of it; the reservoir's events. -/

namespace Sys2Proof.Machine

/-! ### One emitter's fire among those of the slot -/

/-- What `State.mapFires` does with one fire command: it adds what the action makes of it to the commands done. -/
def fireStep (f : State → FireCmd → State × FireCmd) (p : State × List FireCmd) (c : FireCmd) : State × List FireCmd := ((f p.1 c).1, p.2 ++ [(f p.1 c).2])

theorem State.mapFires_eq (s : State) (f : State → FireCmd → State × FireCmd) : s.mapFires f =
    ((s.pipe.cur.fires.foldl (fireStep f) (s, [])).1).withFires (s.pipe.cur.fires.foldl (fireStep f) (s, [])).2 := rfl

/-- Commands that the action leaves alone pass as they are. -/
theorem foldl_fireStep_idle (f : State → FireCmd → State × FireCmd) (l : List FireCmd) (hf : ∀ (s : State), ∀ c ∈ l, f s c = (s, c)) (p : State × List FireCmd) :
    l.foldl (fireStep f) p = (p.1, p.2 ++ l) := by
  induction l generalizing p with
  | nil => simp
  | cons c l ih =>
    rw [List.foldl_cons, ih fun s d hd => hf s d (List.mem_cons_of_mem _ hd)]
    simp [fireStep, hf p.1 c (List.mem_cons_self ..)]

theorem State.onFire_one (s : State) (e : Nat) (act : State → FireCmd → State × FireCmd) (l r : List FireCmd) (f : FireCmd)
    (hs : s.pipe.cur.fires = l ++ f :: r) (he : f.emitter = e) (hne : ∀ g ∈ l ++ r, g.emitter ≠ e) :
    s.onFire e act = (act s f).1.withFires (l ++ (act s f).2 :: r) := by
  have hidle : ∀ m : List FireCmd, (∀ g ∈ m, g.emitter ≠ e) → ∀ (t : State), ∀ g ∈ m, (if g.emitter = e then act t g else (t, g)) = (t, g) :=
    fun m hm t g hg => if_neg (hm g hg)
  have hl := hidle l fun g hg => hne g (List.mem_append_left _ hg)
  have hr := hidle r fun g hg => hne g (List.mem_append_right _ hg)
  rw [State.onFire, State.mapFires_eq, hs, List.foldl_append, List.foldl_cons, foldl_fireStep_idle _ l hl, foldl_fireStep_idle _ r hr]
  simp [fireStep, he]

theorem exec_fireEdge (s : State) (e : Fin 16) : exec (.fireEdge e) s = .next (s.onFire e edgeOf).settle := rfl

theorem exec_firePulseEnd (s : State) (e : Fin 16) : exec (.firePulseEnd e) s = .next (s.onFire e pulseEndOf).settle := rfl

theorem edgeOf_passed (s : State) (f : FireCmd) (hf : f.fate = .planned) (hr : f.released = true) (hp : s.permitsOn = true) (hi : s.ensB.inhibited = false)
    (ha : s.lockedA = true) : edgeOf s f = (s.tally (K.SHOTS_FIRED f.emitter), { f with fate := .fired }) := by
  simp [edgeOf, hf, hr, hp, hi, ha]

theorem edgeOf_suppressed (s : State) (f : FireCmd) (hf : f.fate = .planned) (hr : f.released = true)
    (hn : (s.permitsOn && !s.ensB.inhibited && s.lockedA) = false) : edgeOf s f = (s.count (K.SHOTS_SUPPRESSED f.emitter), { f with fate := .suppressed }) := by
  simp [edgeOf, hf, hr, hn, suppressFire]

theorem pulseEndOf_ended (s : State) (f : FireCmd) (hf : f.fate = .fired) (hc : f.capEnd = false) : pulseEndOf s f = (s, { f with fate := .ended }) := by
  simp [pulseEndOf, hf, hc]

theorem pulseEndOf_cut (s : State) (f : FireCmd) (hf : f.fate = .fired) (hc : f.capEnd = true) :
    pulseEndOf s f = (s.count (K.SHOTS_TRUNCATED f.emitter), { f with fate := .truncated }) := by
  simp [pulseEndOf, hf, hc]

/-! ### Direction, interval and energy (R374, R377) -/

theorem State.speed4_full (s : State) (h : 5 ≤ s.ens.th.length) : s.speed4 = s.ens.th.getD 0 0 - s.ens.th.getD 4 0 := by
  simp [State.speed4, not_lt.mpr h]

theorem State.dirNow_iff (s : State) (h : 0 < (s.inForce K.V_MIN : Int)) : (s.dirNow = 1 ↔ (s.inForce K.V_MIN : Int) ≤ 64 * s.speed4)
    ∧ (s.dirNow = 2 ↔ 64 * s.speed4 ≤ -(s.inForce K.V_MIN : Int)) ∧ (s.dirNow = 0 ↔ -(s.inForce K.V_MIN : Int) < 64 * s.speed4 ∧ 64 * s.speed4 < s.inForce K.V_MIN) := by
  unfold State.dirNow
  dsimp only
  generalize 64 * s.speed4 = v
  generalize (s.inForce K.V_MIN : Int) = least at h ⊢
  split_ifs <;> refine ⟨?_, ?_, ?_⟩ <;> simp <;> omega

theorem State.beamInterval_eq (s : State) (h : 5 ≤ s.ens.th.length) : let v := s.ens.th.getD 0 0 - s.ens.th.getD 4 0
    let near : Rat := (s.ens.th.getD 0 0 : Rat) + 3 / 2 * ((v : Rat) / 4)
    let far : Rat := (s.ens.th.getD 0 0 : Rat) + 5 / 2 * ((v : Rat) / 4)
    let m : Rat := (s.inForce K.POS_MARGIN : Rat) + if s.mode = .degraded then (s.inForce K.DEG_MARGIN : Rat) else 0
    s.beamInterval = (min near far - m, max near far + m) := by
  simp only [State.beamInterval, s.speed4_full h]
  split_ifs <;> push_cast <;> rfl

theorem State.fireEnergy_eq (s : State) (f : FireCmd) (h : f.width ≠ 0) : s.fireEnergy f =
    ((energyOf s.plan.active f.emitter f.eidx).2 : Rat) * (((s.res.vlas : Int) : Rat) * (25 / 10000) / 40) ^ 2 * (s.allowedWidth f : Rat) / (f.width : Rat) := by
  simp only [State.fireEnergy, if_neg h]
  congr 3
  ring

/-! ### The veto (R376, R378, R381) -/

theorem State.mem_windowsFor (s : State) (e : Nat) (w : Int × Int) : w ∈ s.windowsFor e ↔ ∃ i < 8,
    bitAt (s.inForce (K.EXCL_PRESET (s.reg K.PRESET_NOW))) i = true ∧ bitAt (s.inForce (K.EXCL_EMASK i)) e = true
      ∧ (s.inForceI (K.EXCL_LO i), s.inForceI (K.EXCL_HI i)) = w := by
  simp only [State.windowsFor, bitsSet, List.mem_map, List.mem_filter, List.mem_range, and_assoc]

/-- What a fire must break for a rule of Table 15.1 to veto it. -/
def State.breaks (s : State) (f : FireCmd) : Nat → Prop
  | 1 => s.dirNow = 0
  | 2 => !bitAt (s.inForce K.DIR_ALLOW) (s.dirNow - 1) ∨ (s.dirNow = 2 ∧ s.mode = .degraded)
  | 3 => s.reg K.SWEEP_OK = 0
  | 4 => ((4 * s.inForce K.VLAS_MAX : Nat) : Int) < s.res.vlas
  | 5 => (s.windowsFor f.emitter).any fun w => (w.1 : Rat) ≤ s.beamInterval.2 && s.beamInterval.1 ≤ (w.2 : Rat)
  | 6 => s.inForce (K.WIDTH_MAX f.emitter) < s.allowedWidth f
  | 7 => (s.scaled (K.SHOT_CEIL f.emitter) : Rat) < s.fireEnergy f ∨ s.reg K.CEIL_CODE = 0
  | 8 => (10000 * s.scaled (K.BUDGET_100MS f.emitter) : Rat) < (s.windowSums f.emitter).1 + s.fireEnergy f
  | 9 => (10000 * s.scaled (K.BUDGET_10S f.emitter) : Rat) < (s.windowSums f.emitter).2 + s.fireEnergy f
  | _ => False

/-- The rule that vetoes is the first that the fire breaks. -/
theorem State.vetoRule_spec (s : State) (f : FireCmd) : (∃ k, s.vetoRule f = some k ∧ s.breaks f k ∧ ∀ q < k, ¬s.breaks f q)
    ∨ (s.vetoRule f = none ∧ ∀ q, ¬s.breaks f q) := by
  have h0 : ¬s.breaks f 0 := id
  unfold State.vetoRule
  dsimp only
  split_ifs with b1 b2 b3 b4 b5 b6 b7 b8 b9
  on_goal 10 =>
    refine .inr ⟨rfl, fun q => ?_⟩
    match q with
    | 0 => exact h0
    | 1 => exact b1
    | 2 => exact b2
    | 3 => exact b3
    | 4 => exact b4
    | 5 => exact b5
    | 6 => exact b6
    | 7 => exact b7
    | 8 => exact b8
    | 9 => exact b9
    | _ + 10 => exact id
  all_goals
    refine .inl ⟨_, rfl, by assumption, fun q hq => ?_⟩
    interval_cases q <;> assumption

theorem State.vetoRule_some (s : State) (f : FireCmd) (r : Nat) : s.vetoRule f = some r ↔ s.breaks f r ∧ ∀ q < r, ¬s.breaks f q := by
  rcases s.vetoRule_spec f with ⟨k, hk, hb, hfirst⟩ | ⟨hn, hnone⟩
  · rw [hk, Option.some.injEq]
    refine ⟨fun h => h ▸ ⟨hb, hfirst⟩, fun ⟨hr, hrfirst⟩ => ?_⟩
    rcases lt_trichotomy k r with h | h | h
    · exact absurd hb (hrfirst k h)
    · exact h
    · exact absurd hr (hfirst r h)
  · rw [hn]
    exact ⟨fun h => by simp at h, fun ⟨hr, _⟩ => absurd hr (hnone r)⟩

theorem State.vetoRule_none (s : State) (f : FireCmd) : s.vetoRule f = none ↔ ∀ q, ¬s.breaks f q := by
  rcases s.vetoRule_spec f with ⟨k, hk, hb, _⟩ | ⟨hn, hnone⟩
  · rw [hk]
    exact ⟨fun h => by simp at h, fun h => absurd hb (h k)⟩
  · exact ⟨fun _ => hnone, fun _ => hn⟩

/-! ### The decision (R377, R381, R385) -/

theorem decideFire_decided (test : Bool) (s : State) (f : FireCmd) (h : f.fate ≠ .planned) : decideFire test s f = (s, f) := if_pos h

theorem decideFire_vetoed (test : Bool) (s : State) (f : FireCmd) (r : Nat) (h : f.fate = .planned) (hr : s.vetoRule f = some r) : decideFire test s f =
    (((if test then s.count K.TESTPULSE_COLLIDE else s).count (K.VETO_COUNT (r - 1))).count (K.SHOTS_SUPPRESSED f.emitter), { f with fate := .suppressed }) := by
  simp only [decideFire, h, ne_eq, not_true_eq_false, if_false, hr, State.onlyIf]

/-- A suppression known at the tick: counting a collision changes none of it. -/
theorem State.suppressedAtTick_iff (s : State) (test : Bool) : (if test then s.count K.TESTPULSE_COLLIDE else s).suppressedAtTick test = true ↔
    s.ensB.fbA = false ∨ s.ensB.fbB = false ∨ s.ensB.inhibited = true ∨ test = true ∨ s.reg K.SH_CAUSE ≠ 0 ∨ s.locked = false := by
  cases test
  · simp [State.suppressedAtTick, or_assoc]
  · simp [State.suppressedAtTick]

theorem decideFire_held (test : Bool) (s : State) (f : FireCmd) (h : f.fate = .planned) (hr : s.vetoRule f = none)
    (hh : (if test then s.count K.TESTPULSE_COLLIDE else s).suppressedAtTick test = true) : decideFire test s f =
    ((if test then s.count K.TESTPULSE_COLLIDE else s).count (K.SHOTS_SUPPRESSED f.emitter), { f with fate := .suppressed }) := by
  simp only [decideFire, h, ne_eq, not_true_eq_false, if_false, hr, State.onlyIf, hh, if_true]

/-- The state in which a fire of energy `x` is released. -/
def State.release (s : State) (e : Nat) (x : Rat) : State :=
  { s.charge e x with ensB := { (s.charge e x).ensB with released := s.ensB.released ++ [(e, x)] } }

theorem decideFire_released (s : State) (f : FireCmd) (h : f.fate = .planned) (hr : s.vetoRule f = none) (hh : s.suppressedAtTick false = false) :
    decideFire false s f = (s.release f.emitter (s.fireEnergy f), { f with
      energy := s.fireEnergy f, released := true, width := s.allowedWidth f, capEnd := decide (s.allowedWidth f < f.width) }) := by
  simp only [decideFire, h, ne_eq, not_true_eq_false, if_false, hr, State.onlyIf, Bool.false_eq_true, hh]
  rfl

theorem binSum_addToBin (l : List Rat) (x : Rat) : binSum (addToBin l x) = binSum l + x := by
  have hsum : ∀ m : List Rat, binSum m = m.sum := fun m => (List.sum_eq_foldl ..).symm
  rw [hsum, hsum]
  cases l with
  | nil => simp [addToBin]
  | cons b r => simp only [addToBin, List.sum_cons]; ring

theorem State.windowSums_release (s : State) (e i : Nat) (x : Rat) :
    (s.release e x).windowSums i = if i = e then ((s.windowSums e).1 + x, (s.windowSums e).2 + x) else s.windowSums i := by
  simp only [State.release, State.charge, State.windowSums, getD_setAt]
  split_ifs with h
  · simp only [binSum_addToBin]
  · rfl

/-! ### The reservoir (R78, R79, R82) -/

theorem exec_chargerPeriod (s : State) (sense : Nat) (h : s.mode.coreRuns = true) : exec (.chargerPeriod sense) s = .next (s.chargePeriod sense).settle := by
  calc exec (.chargerPeriod sense) s = .next (s.core fun s => s.chargePeriod sense).settle := rfl
    _ = _ := by rw [s.core_on _ h]

theorem exec_reservoirBleedEnd (s : State) (h : s.mode.coreRuns = true) : exec .reservoirBleedEnd s = .next s.bleedEnd.settle := by
  calc exec .reservoirBleedEnd s = .next (s.core State.bleedEnd).settle := rfl
    _ = _ := by rw [s.core_on _ h]

theorem exec_reservoirFault (s : State) (v : Nat) (h : s.mode.coreRuns = true) : exec (.reservoirFault v) s = .next (s.resFault v).settle := by
  calc exec (.reservoirFault v) s = .next (s.core fun s => s.resFault v).settle := rfl
    _ = _ := by rw [s.core_on _ h]

theorem exec_chargerRestart (s : State) (h : s.mode.coreRuns = true) (hf : s.pipe.cur.newFrame = true) : exec .chargerRestart s = .next s.resRestart.settle := by
  calc exec .chargerRestart s = .next (s.core fun s => if s.pipe.cur.newFrame then s.resRestart else s).settle := rfl
    _ = _ := by rw [s.core_on _ h, if_pos hf]

theorem State.chargePeriod_due (s : State) (sense : Nat) (hr : s.res.runs = true) (hd : s.res.periodDone = false) : s.chargePeriod sense =
    { s with res := { s.res with periodOn := decide (sense < s.reg K.CHG_ILIM), endedEarly := decide (s.reg K.CHG_ILIM ≤ sense), periodDone := true
                                 periodAt := s.reg K.CHG_PHASE } } := by
  simp only [State.chargePeriod, hr, hd, Bool.not_false, Bool.and_self, if_true, ← not_le, decide_not]

theorem State.chargePeriod_done (s : State) (sense : Nat) (hd : s.res.periodDone = true) : s.chargePeriod sense = s := by
  simp only [State.chargePeriod, hd, Bool.not_true, Bool.and_false, Bool.false_eq_true, if_false]

theorem State.resAtLevel_congr (s t : State) (hr : t.reg K.RES_TOL = s.reg K.RES_TOL) (hv : t.res.vlas = s.res.vlas) (ht : t.res.target = s.res.target) :
    t.resAtLevel = s.resAtLevel := by
  simp [State.resAtLevel, hr, hv, ht]

theorem State.resRegulates_of (s : State) (h : s.reg K.RES_STATE = 1 ∨ s.reg K.RES_STATE = 2) : s.resRegulates = true := by
  simpa [State.resRegulates] using h

/-- A ramp from `v` regulates, at level or not as the present VLAS has it. -/
theorem State.resRamp_effect (s : State) (v : Nat) : (s.resRamp v).reg K.RES_STATE = (if s.resAtLevel = true then 2 else 1)
    ∧ (s.resRamp v).res = { s.res with runs := true, disOn := false, setPoint := v } ∧ ∀ k, k ≠ K.RES_STATE → (s.resRamp v).reg k = s.reg k := by
  have hat : ({ s.put K.RES_STATE 1 with res := { s.res with runs := true, disOn := false, setPoint := v } } : State).resAtLevel = s.resAtLevel :=
    s.resAtLevel_congr _ (s.reg_put_ne K.RES_STATE K.RES_TOL 1 (by decide)) rfl rfl
  have hon : ({ s.put K.RES_STATE 1 with res := { s.res with runs := true, disOn := false, setPoint := v } } : State).resRegulates = true :=
    State.resRegulates_of _ (.inl (s.reg_put_self K.RES_STATE 1))
  refine ⟨?_, ?_, fun k hk => s.resRamp_keeps v k (by simpa using hk)⟩
  · rw [State.resRamp, State.resLevel, if_pos hon, State.reg_put_self, hat]
  · rw [State.resRamp, State.resLevel, if_pos hon]
    rfl

theorem State.bleedEnd_due (s : State) (h : s.reg K.RES_STATE = 3) (hv : s.res.vlas ≤ 4 * s.res.target) : s.bleedEnd = s.resRamp s.vlasPoint := by
  simp [State.bleedEnd, h, hv]

theorem State.resRestart_due (s : State) (h : s.reg K.RES_STATE = 4) (hl : s.res.locked = false) (ha : s.resAllowed = true) (hv : s.res.vlas < 4 * s.res.target) :
    s.resRestart = s.resRamp s.vlasPoint := by
  simp [State.resRestart, h, hl, ha, hv]

theorem State.resFault_due (s : State) (v : Int) (h : s.reg K.RES_STATE ≠ 4) (hv : 25200 < v ∨ 2 ≤ s.res.overRun) :
    s.resFault v = { (s.put K.RES_STATE 4).count K.RES_FAULTS with res := { s.res with
      runs := false, disOn := true, periodOn := false, overRun := 0, faultAges := 0 :: s.res.faultAges
      locked := s.res.locked || decide (3 ≤ (0 :: s.res.faultAges).length) } } := if_pos ⟨h, hv⟩

end Sys2Proof.Machine
end

section
/-! PROOFS. The obligations of chapter 3 on fires and the reservoir. -/

namespace Sys2Proof.Machine

/-- Settles O5: the fire's place in its slot, then the first rule that it breaks, then what Ensign knows at the tick. -/
theorem fireEdges : Obligations.FireEdges := by
  refine ⟨fun s e l r f hs he hne => ⟨fun hf hr hp hi ha => ?_, fun hf hr hn => ?_, fun hf hc => ?_, fun hf hc => ?_⟩,
    fun s h => ⟨fun hl => s.speed4_full h ▸ s.dirNow_iff hl, s.beamInterval_eq h⟩, State.fireEnergy_eq, fun s f => ?_, fun s f test => ?_⟩
  · rw [exec_fireEdge, s.onFire_one e _ l r f hs he hne, edgeOf_passed s f hf hr hp hi ha, he]
    rfl
  · rw [exec_fireEdge, s.onFire_one e _ l r f hs he hne, edgeOf_suppressed s f hf hr hn, he]
    rfl
  · rw [exec_firePulseEnd, s.onFire_one e _ l r f hs he hne, pulseEndOf_ended s f hf hc]
  · rw [exec_firePulseEnd, s.onFire_one e _ l r f hs he hne, pulseEndOf_cut s f hf hc, he]
    rfl
  · intro e x c w inWindow broken
    have hwindow : inWindow ↔ s.breaks f 5 := by
      simp only [State.breaks, List.any_eq_true, s.mem_windowsFor, Bool.and_eq_true, decide_eq_true_eq]
      exact ⟨fun ⟨i, hi, hp, he, h⟩ => ⟨_, ⟨i, hi, hp, he, rfl⟩, h⟩, fun ⟨_, ⟨i, hi, hp, he, rfl⟩, h⟩ => ⟨i, hi, hp, he, h⟩⟩
    have hbroken : ∀ q, broken q ↔ s.breaks f q := fun q => match q with
      | 0 | 1 | 3 | 4 | 6 | 7 => .rfl
      | 2 => by simp [broken, State.breaks]
      | 5 => hwindow
      | 8 | 9 => by simp [broken, State.breaks, State.scaled, e, x, c]
      | _ + 10 => .rfl
    simp only [hbroken]
    exact ⟨s.vetoRule_some f, s.vetoRule_none f⟩
  · intro counted lost held
    refine ⟨decideFire_decided test s f, fun r => decideFire_vetoed test s f r, fun hf hr hh => ?_, fun hf hr hh => ?_⟩
    · exact decideFire_held test s f hf hr ((s.suppressedAtTick_iff test).mpr hh)
    · have htest : test = false := by
        cases test
        · rfl
        · exact absurd (.inr (.inr (.inr (.inl rfl)))) hh
      subst htest
      have hno : s.suppressedAtTick false = false := by
        rw [← Bool.not_eq_true]
        exact fun h => hh ((s.suppressedAtTick_iff false).mp h)
      rw [decideFire_released s f hf hr hno]
      refine ⟨rfl, ?_, ?_, fun e he => ?_, rfl, fun _ => rfl⟩
      · rw [s.windowSums_release, if_pos rfl]
      · rw [s.windowSums_release, if_pos rfl]
      · rw [s.windowSums_release, if_neg he]

/-- Settles O6: each event of the charger by its own equation. -/
theorem reservoirEvents : Obligations.ReservoirEvents := by
  refine ⟨fun s sense hm hr => ⟨fun hd => ?_, fun hd => ?_⟩, fun s hm h3 hv => ?_, fun s v hm h4 hv => ?_, fun s hm hf h4 hl ha hv => ?_⟩
  · rw [exec_chargerPeriod s sense hm, s.chargePeriod_due sense hr hd]
  · rw [exec_chargerPeriod s sense hm, s.chargePeriod_done sense hd]
  · exact ⟨s.resRamp s.vlasPoint, (exec_reservoirBleedEnd s hm).trans (by rw [s.bleedEnd_due h3 hv]), s.resRamp_effect _⟩
  · refine ⟨_, (exec_reservoirFault s v hm).trans (by rw [s.resFault_due v h4 (by omega)]), ?_, ?_, rfl, rfl, ?_, fun k hk hk' => ?_⟩
    · exact (State.reg_put_ne _ _ _ _ (by decide)).trans (s.reg_put_self _ _)
    · exact (State.reg_put_self _ _ _).trans (by rw [s.reg_put_ne _ _ _ (by decide)]; rfl)
    · simp [Nat.succ_le_succ_iff]
    · exact (State.reg_put_ne _ _ _ _ hk').trans (s.reg_put_ne _ _ _ hk)
  · exact ⟨s.resRamp s.vlasPoint, (exec_chargerRestart s hm hf).trans (by rw [s.resRestart_due h4 hl ha hv]), s.resRamp_effect _⟩

end Sys2Proof.Machine
end

section
/-! PROOFS. Chapters 3 and 15: violations, the measured angle, the position loop and the start-of-line marks. -/

namespace Sys2Proof.Machine

/-! ### States that differ in registers alone -/

/-- `t` differs from `s` in its register store alone. -/
def State.objsOnly (s t : State) : Prop := t = { s with objs := t.objs }

section
variable {s t u : State}

theorem State.objsOnly.trans (h : s.objsOnly t) (h' : t.objsOnly u) : s.objsOnly u := by
  calc u = { t with objs := u.objs } := h'
    _ = { ({ s with objs := t.objs } : State) with objs := u.objs } := congrArg (fun x : State => { x with objs := u.objs }) h
    _ = { s with objs := u.objs } := rfl

end

theorem State.objsOnly_refl (s : State) : s.objsOnly s := rfl

theorem State.objsOnly_put (s : State) (k v : Nat) : s.objsOnly (s.put k v) := rfl

/-! ### Violations (R67, R382) -/

/-- What holds of each step of a walk over the fire commands holds of the walk. -/
theorem foldl_fireStep_induct (R : State → State → Prop) (hrefl : ∀ s, R s s) (htrans : ∀ {s t u}, R s t → R t u → R s u)
    (f : State → FireCmd → State × FireCmd) (l : List FireCmd) (hf : ∀ s, ∀ c ∈ l, R s (f s c).1) (p : State × List FireCmd) :
    R p.1 (l.foldl (fireStep f) p).1 := by
  induction l generalizing p with
  | nil => exact hrefl _
  | cons c l ih => exact htrans (hf p.1 c (List.mem_cons_self ..)) (ih (fun s d hd => hf s d (List.mem_cons_of_mem _ hd)) (fireStep f p c))

/-- The registers that count what becomes of a fire. -/
def fireKeys : List Nat := (List.range 16).map K.SHOTS_SUPPRESSED ++ (List.range 16).map K.SHOTS_TRUNCATED

/-- The registers of a violation. -/
def violateKeys : List Nat := [K.SH_CAUSE, K.SH_LAST, K.SH_LATCHED] ++ fireKeys

theorem fireKeys_range {k : Nat} (h : k ∈ fireKeys) : 0x200200 ≤ k ∧ k < 0x200400 := by
  simp only [fireKeys, List.mem_append, List.mem_map, List.mem_range] at h
  rcases h with ⟨i, hi, rfl⟩ | ⟨i, hi, rfl⟩
  · simp only [K.SHOTS_SUPPRESSED]
    omega
  · simp only [K.SHOTS_TRUNCATED]
    omega

theorem not_fireKey {k : Nat} (h : k < 0x200200 ∨ 0x200400 ≤ k) : k ∉ fireKeys := fun hk => by
  have := fireKeys_range hk
  omega

theorem not_violateKey {k : Nat} (h : k < 0x200200 ∨ 0x200400 ≤ k) (hk : k ∉ [K.SH_CAUSE, K.SH_LAST, K.SH_LATCHED]) : k ∉ violateKeys := by
  rw [violateKeys, List.mem_append]
  exact not_or.mpr ⟨hk, not_fireKey h⟩

theorem suppressFire_objsOnly (s : State) (f : FireCmd) : s.objsOnly (suppressFire s f).1 := by
  unfold suppressFire
  split <;> rfl

theorem suppressFire_keeps (s : State) (f : FireCmd) (hf : f.emitter < 16) : s.keeps (suppressFire s f).1 fireKeys := by
  unfold suppressFire
  split
  · exact (State.keeps.refl s _).put _ _ (List.mem_append_left _ (mem_map_range hf))
  · exact (State.keeps.refl s _).put _ _ (List.mem_append_right _ (mem_map_range hf))
  · exact .refl s _

theorem State.suppressAll_eq (s : State) : ∃ t l, s.suppressAll = State.withFires t l ∧ s.objsOnly t ∧ ((∀ f ∈ s.pipe.cur.fires, f.emitter < 16) → s.keeps t fireKeys) :=
  ⟨_, _, s.mapFires_eq suppressFire, foldl_fireStep_induct State.objsOnly State.objsOnly_refl .trans _ _ (fun t c _ => suppressFire_objsOnly t c) (s, []),
    fun h => foldl_fireStep_induct (fun s t => s.keeps t fireKeys) (fun s => .refl s _) .trans _ _ (fun t c hc => suppressFire_keeps t c (h c hc)) (s, [])⟩

/-- A violation changes registers, the fires of the present slot and the retention log. -/
theorem State.violateAt_parts (s : State) (bit t : Nat) : ∃ o l r,
    s.violateAt bit t = { s with objs := o, pipe := { s.pipe with cur := { s.pipe.cur with fires := l } }, retLog := r } := by
  obtain ⟨u, l, hu, hparts, _⟩ := s.suppressAll_eq
  unfold State.violateAt
  rw [hu, hparts]
  dsimp only
  split <;> exact ⟨_, _, _, rfl⟩

theorem State.violateAt_keeps (s : State) (bit t : Nat) (h : ∀ f ∈ s.pipe.cur.fires, f.emitter < 16) : s.keeps (s.violateAt bit t) violateKeys := by
  obtain ⟨u, l, hu, _, hkeys⟩ := s.suppressAll_eq
  have hall : s.keeps s.suppressAll violateKeys := by
    rw [hu]
    exact ((hkeys h).mono (List.subset_append_right _ _)).of_objs rfl
  have hset := (hall.put K.SH_CAUSE (withBit (s.suppressAll.reg K.SH_CAUSE) bit true) (by decide)).put K.SH_LAST t (by decide)
  unfold State.violateAt
  dsimp only
  split
  · exact (hset.put K.SH_LATCHED _ (by decide)).of_objs rfl
  · exact hset

/-! ### The loss of a source, and Ensign's angle (R373, R396, R397) -/

/-- The registers that the loss or return of a source may change. -/
def sourceKeys : List Nat := [K.SRC_STATE, K.ANGLE_SOURCE, K.DEG_CLEAN] ++ violateKeys

/-- The loss or return of a source leaves the mirror and the angle of the slot that ended. -/
theorem State.setLost_parts (s : State) (bit sample : Nat) (lost : Bool) :
    (s.setLost bit sample lost).mir = s.mir ∧ (s.setLost bit sample lost).pipe.prev = s.pipe.prev := by
  unfold State.setLost
  split
  · exact ⟨rfl, rfl⟩
  · extract_lets a b c
    have hc : c.mir = s.mir ∧ c.pipe = s.pipe := by
      unfold c State.onlyIf
      split <;> exact ⟨rfl, rfl⟩
    split
    · obtain ⟨o, l, r, h⟩ := c.violateAt_parts 4 (c.stamp sample 0)
      rw [State.violate, h, hc.1, hc.2]
      exact ⟨rfl, rfl⟩
    · exact ⟨hc.1, congrArg Pipeline.prev hc.2⟩

theorem State.setLost_keeps (s : State) (bit sample : Nat) (lost : Bool) (h : ∀ f ∈ s.pipe.cur.fires, f.emitter < 16) :
    s.keeps (s.setLost bit sample lost) sourceKeys := by
  unfold State.setLost
  split
  · exact .refl s _
  · extract_lets a b c
    have hb : s.keeps b sourceKeys := ((State.keeps.refl s _).put K.SRC_STATE _ (by decide)).put K.ANGLE_SOURCE _ (by decide)
    have hc : s.keeps c sourceKeys := hb.onlyWhen (((State.keeps.refl b _).put K.DEG_CLEAN 0 (by decide)).of_objs rfl)
    have hpipe : c.pipe = s.pipe := by
      unfold c State.onlyIf
      split <;> rfl
    split
    · exact hc.trans ((c.violateAt_keeps _ _ (hpipe ▸ h)).mono (List.subset_append_right _ _))
    · exact hc

theorem State.capJudge_parts (s : State) : s.capJudge.mir = s.mir ∧ s.capJudge.pipe.prev = s.pipe.prev := by
  unfold State.capJudge
  extract_lets n c own ok bad good t
  split
  · split
    · exact t.setLost_parts 0 200 true
    · exact ⟨rfl, rfl⟩
  · split
    · exact t.setLost_parts 0 200 false
    · exact ⟨rfl, rfl⟩

theorem State.capJudge_keeps (s : State) (h : ∀ f ∈ s.pipe.cur.fires, f.emitter < 16) : s.keeps s.capJudge sourceKeys := by
  unfold State.capJudge
  extract_lets n c own ok bad good t
  have ht : s.keeps t sourceKeys := (State.keeps.refl s _).of_objs rfl
  split
  · split
    · exact (ht.trans (t.setLost_keeps 0 200 true h)).of_objs rfl
    · exact ht
  · split
    · exact ht.trans (t.setLost_keeps 0 200 false h)
    · exact ht

theorem State.crossNote_parts (s : State) : s.crossNote.objs = s.objs ∧ s.crossNote.mir = s.mir ∧ s.crossNote.pipe = s.pipe := by
  unfold State.crossNote
  dsimp only
  split <;> exact ⟨rfl, rfl, rfl⟩

/-! ### The position loop (R85, R486) -/

theorem State.loopStep_parts (s : State) (meas ff : Int) : (s.loopStep meas ff).pipe = s.pipe ∧ (s.loopStep meas ff).mir.angleDue = s.mir.angleDue := by
  refine ⟨?_, rfl⟩
  unfold State.loopStep State.onlyIf
  extract_lets m e integ lim u cl drive
  show (if cl = true then s.count K.CLAMP_SLOTS else s).pipe = s.pipe
  split <;> rfl

theorem State.loopStep_keeps (s : State) (meas ff : Int) : s.keeps (s.loopStep meas ff) [K.CLAMP_SLOTS] := by
  unfold State.loopStep State.onlyIf
  dsimp only
  exact ((State.keeps.refl s _).onlyWhen ((State.keeps.refl s _).put K.CLAMP_SLOTS _ (by decide))).of_objs rfl

/-- The pass clamps where the exact u lies beyond MIR_ILIM. -/
theorem State.loopStep_mir (s : State) (meas ff e i u lim : Int) (he : e = s.mir.target - meas)
    (hi : i = if s.mir.clamped = true then s.mir.integ else max (-2147483647) (min 2147483647 (s.mir.integ + e)))
    (hu : u = 65536 * ff + s.gain16 K.MIR_KP * e + s.gain16 K.MIR_KI * i + s.gain16 K.MIR_KD * (e - s.mir.ePrev)) (hl : lim = 65536 * (s.reg K.MIR_ILIM : Int)) :
    (s.loopStep meas ff).mir = { s.mir with
      integ := i, ePrev := e, clamped := decide (lim < u.natAbs), pendingDrive := rheDiv (max (-lim) (min lim u)) 65536, applied := false
      frameErrMax := max s.mir.frameErrMax e.natAbs } := by
  subst he hi hu hl
  rfl

theorem State.loopStep_objs (s : State) (meas ff : Int) :
    (s.loopStep meas ff).objs = (if (s.loopStep meas ff).mir.clamped = true then s.count K.CLAMP_SLOTS else s).objs := rfl

/-! ### The measured angle (R84) -/

/-- Both samples of a locked slot give their mean. -/
theorem State.angleOf_mean (s : State) (h : s.reg K.ANGLE_SOURCE = 0) (hl : s.pipe.prev.locked = true) (he : s.mir.ends = 3) :
    s.angleOf = (rhe ((s.mir.end0 + s.mir.end1) / 2), false) := by
  have h2 : ¬((0 : Nat) = 2) := by decide
  have hmean : meanOf 3 s.mir.end0 s.mir.end1 = some (rhe ((s.mir.end0 + s.mir.end1) / 2)) := rfl
  simp only [State.angleOf, h, hl, he, hmean, h2, if_false]
  rfl

/-- The measured angle `m` of the slot that ended stands in a state whose present slot is `c`. -/
structure State.NotesAngle (t : State) (m : Int) (c : SlotCtx) : Prop where
  reg : t.reg K.ANGLE_MEAS = ofSigned 16 m
  angle : t.pipe.prev.angle = m
  done : t.mir.angleDue = false
  cur : t.pipe.cur = c

theorem State.NotesAngle.trackStep {t : State} {m : Int} {c : SlotCtx} (h : t.NotesAngle m c) (err : Nat) : (t.trackStep err).NotesAngle m c :=
  ⟨h.reg, h.angle, h.done, h.cur⟩

theorem State.NotesAngle.loopStep {t : State} {m : Int} {c : SlotCtx} (h : t.NotesAngle m c) (meas ff : Int) : (t.loopStep meas ff).NotesAngle m c := by
  obtain ⟨hpipe, hdue⟩ := t.loopStep_parts meas ff
  exact ⟨(t.loopStep_keeps meas ff _ (by decide)).trans h.reg, (congrArg (fun p => p.prev.angle) hpipe).trans h.angle, hdue.trans h.done,
    (congrArg Pipeline.cur hpipe).trans h.cur⟩

theorem State.NotesAngle.put {t : State} {m : Int} {c : SlotCtx} (h : t.NotesAngle m c) (k v : Nat) (hk : K.ANGLE_MEAS ≠ k) : (t.put k v).NotesAngle m c :=
  ⟨(t.reg_put_ne _ _ _ hk).trans h.reg, h.angle, h.done, h.cur⟩

/-- A usable angle is noted, whatever the work that follows it. -/
theorem State.angleMeasured_notes (s : State) (hd : s.mir.angleDue = true) (m : Int) (hm : s.angleOf = (m, false)) (lo : -32768 ≤ m) (hi : m ≤ 32767)
    (hf : ∀ f ∈ s.pipe.cur.fires, f.emitter < 16) :
    s.angleMeasured.reg K.ANGLE_MEAS = ofSigned 16 m ∧ s.angleMeasured.pipe.prev.angle = m ∧ s.angleMeasured.mir.angleDue = false := by
  unfold State.angleMeasured
  rw [if_neg (by simp [hd])]
  extract_lets q r p held put pipe mir noted tracked looped coded
  have hr : r = (m, false) := by
    have hq : q = (m, false) := hm
    simp only [r, hq, if_pos (And.intro lo hi)]
  have hnoted : noted.NotesAngle m s.pipe.cur := by
    have hheld : held = s := by
      simp only [held, hr, State.onlyIf, Bool.false_eq_true, if_false]
    refine ⟨?_, ?_, rfl, ?_⟩
    · show (held.putI 16 K.ANGLE_MEAS r.1).reg K.ANGLE_MEAS = _
      rw [State.putI, State.reg_put_self, hr]
    · show r.1 = m
      rw [hr]
    · show held.pipe.cur = s.pipe.cur
      rw [hheld]
  have htracked : tracked.NotesAngle m s.pipe.cur := by
    unfold tracked
    split
    · exact hnoted.trackStep _
    · exact hnoted
  have hlooped : looped.NotesAngle m s.pipe.cur := by
    unfold looped
    split
    · exact htracked.loopStep _ _
    · exact htracked
  have hcoded : coded.NotesAngle m s.pipe.cur := by
    unfold coded
    split
    · exact hlooped.put _ _ (by decide)
    · exact hlooped
  split
  · obtain ⟨hmir, hprev⟩ := coded.capJudge_parts
    obtain ⟨hobjs, hmir', hpipe'⟩ := coded.capJudge.thPush.crossNote_parts
    refine ⟨?_, ?_, ?_⟩
    · exact (State.reg_congr coded.capJudge _ hobjs _).trans ((coded.capJudge_keeps (hcoded.cur ▸ hf) _ (by decide)).trans hcoded.reg)
    · rw [hpipe']
      exact (congrArg SlotCtx.angle hprev).trans hcoded.angle
    · rw [hmir']
      exact (congrArg Mirror.angleDue hmir).trans hcoded.done
  · exact ⟨hcoded.reg, hcoded.angle, hcoded.done⟩

theorem exec_angleMeasured (s : State) (h : s.mode.coreRuns = true) : exec .angleMeasured s = .next s.angleMeasured.settle := by
  calc exec .angleMeasured s = .next (s.core State.angleMeasured).settle := rfl
    _ = _ := by rw [s.core_on _ h]

theorem exec_mirrorDriveApply (s : State) (h : s.mode.coreRuns = true) (hd : s.mir.angleDue = false) :
    exec .mirrorDriveApply s = .next s.driveApply.settle := by
  have hm : s.angleMeasured = s := by
    rw [State.angleMeasured, if_pos (by simp [hd])]
  calc exec .mirrorDriveApply s = .next (s.core fun s => s.angleMeasured.driveApply).settle := rfl
    _ = _ := by rw [s.core_on _ h, hm]

/-! ### Marks and edges (R90, R397) -/

theorem exec_solEdge (s : State) (i : Fin 11200) (b a eb ea : Bool) (h : s.mode.coreRuns = true) :
    exec (.solEdge i b a eb ea) s = .next (s.solEdge i (!b && a) (!eb && ea)).settle := by
  calc exec (.solEdge i b a eb ea) s = .next (s.core fun s => s.solEdge i (!b && a) (!eb && ea)).settle := rfl
    _ = _ := by rw [s.core_on _ h]

/-- Without lock, or with no rise on either path, there is no edge. -/
theorem State.solEdge_none (s : State) (i : Nat) (service ensign : Bool) (h : s.locked = false ∨ service = false ∧ ensign = false) :
    s.solEdge i service ensign = s := by
  rw [State.solEdge, if_pos]
  rcases h with h | ⟨h, h'⟩
  · simp [h]
  · simp [h, h']

/-- An edge that both paths see is a fault, or ends the wait for its mark. -/
theorem State.solEdge_both (s : State) (i : Nat) (h : s.locked = true) (x : SolEdge)
    (hx : x = { at_ := i, mark := s.solMark, target := s.pipe.cur.target, forward := s.reg K.DIR_NOW == 1 }) :
    (s.solMark = none → s.solEdge i true true = { s.count K.SOL_FAULTS with mir := { s.mir with edges := s.mir.edges ++ [x] } })
    ∧ (s.solMark = some 0 → s.solEdge i true true = { s with mir := { s.mir with edges := s.mir.edges ++ [x], sinceA := 0, awaitA := none } })
    ∧ (s.solMark = some 1 → s.solEdge i true true = { s with mir := { s.mir with edges := s.mir.edges ++ [x], sinceB := 0, awaitB := none } }) := by
  have hdir : (s.count K.SOL_FAULTS).reg K.DIR_NOW = s.reg K.DIR_NOW := s.reg_put_ne _ _ _ (by decide)
  subst hx
  rw [State.solEdge, if_neg (by simp [h])]
  refine ⟨fun hk => ?_, fun hk => ?_, fun hk => ?_⟩
  · simp only [hk, if_true, Option.isNone_none, Bool.and_self, hdir]
    rfl
  · rw [hk]
    rfl
  · rw [hk]
    rfl

theorem interpAngle_between (i : Int) (at_ : Nat) (a b : Rat) (hi : i = 2800 + at_) (h : at_ < 5600) :
    interpAngle i (some a) (some b) = some (a + (b - a) * at_ / 5600) := by
  have h1 : ¬i < 2800 := by omega
  have h2 : i < 8400 := by omega
  have h3 : i - 2800 = at_ := by omega
  simp only [interpAngle, h1, h2, if_false, if_true, h3, Int.cast_natCast]

/-- The register that holds the error of mark `k`. -/
theorem State.solService_objs (s : State) (e : SolEdge) (ang : Rat) (k : Nat) (hk : e.mark = some k) : (s.solService e ang).objs =
    (s.putI 16 (if k = 0 then K.SOL_ERR_A else K.SOL_ERR_B)
      (roundOpen "SOL_ERR" (ang - (s.regI 16 (if k = 0 then K.SOL_ANGLE_A else K.SOL_ANGLE_B) : Int)))).objs := by
  simp only [State.solService, hk]

theorem exec_solMarkMissing (s : State) (h : s.mode.coreRuns = true) : exec .solMarkMissing s = .next s.solMissing.settle := by
  calc exec .solMarkMissing s = .next (s.core State.solMissing).settle := rfl
    _ = _ := by rw [s.core_on _ h]

theorem State.solMissing_lateA (s : State) (x : Nat) (ha : s.mir.awaitA = some x) (hx : s.reg K.SOL_WIN < x) (hb : s.mir.awaitB = none)
    (hca : s.ens.crossA = none) (hcb : s.ens.crossB = none) :
    s.solMissing = { s.count K.SOL_FAULTS with mir := { s.mir with awaitA := none } } := by
  unfold State.solMissing
  extract_lets late e w fa fb counted n
  have he : e = false := by simp only [e, late, hca, hcb, Bool.or_self, Bool.and_false]
  have hfa : fa = true := by simpa only [fa, late, ha, decide_eq_true_eq] using hx
  have hfb : fb = false := by simp only [fb, late, hb]
  simp only [counted, he, hfa, hfb, Bool.or_false, Bool.false_and, Bool.false_eq_true, if_false, if_true]
  rfl

end Sys2Proof.Machine
end

section
/-! PROOFS. The obligation of chapter 3 on the mirror. -/

namespace Sys2Proof.Machine

/-- Settles O7: the angle survives the work that follows it; the loop, the edges and the marks by their own equations. -/
theorem mirrorLoop : Obligations.MirrorLoop := by
  refine ⟨fun s hm hd hsrc hl he hf m hmean lo hi => ?_, fun s t meas ff e i u lim ht he hi hu hl => ?_,
    fun s hm hd ha hon => ?_, fun s i b a eb ea hm h => ?_, fun s i x hm hl hx => ⟨fun h => ?_, fun h => ?_, fun h => ?_⟩,
    fun s e a b ang k err at_ hk hat hlt hang hwhich => ?_, fun s x hm ha hx hb hca hcb => ?_⟩
  · obtain ⟨hreg, hangle, hdone⟩ := s.angleMeasured_notes hd m (hmean ▸ s.angleOf_mean hsrc hl he) lo hi hf
    refine ⟨_, exec_angleMeasured s hm, ?_, hangle, hdone⟩
    rw [State.regI, hreg, toSigned_ofSigned 16 m (by decide) (by omega) (by omega)]
  · subst ht
    have hmir := s.loopStep_mir meas ff e i u lim he hi hu hl
    have hobjs := s.loopStep_objs meas ff
    have hlim : 0 ≤ lim := by omega
    rw [hmir] at hobjs ⊢
    refine ⟨rfl, rfl, rfl, fun h1 h2 => ?_, fun h => ?_, fun k hk => s.loopStep_keeps meas ff k (by simpa using hk)⟩
    · have hno : decide (lim < u.natAbs) = false := decide_eq_false (by omega)
      rw [hno, if_neg Bool.false_ne_true] at hobjs
      exact ⟨hno, State.reg_congr s _ hobjs _⟩
    · have hyes : decide (lim < u.natAbs) = true := decide_eq_true (by omega)
      rw [hyes, if_pos rfl] at hobjs
      exact ⟨hyes, (State.reg_congr _ _ hobjs _).trans (s.reg_put_self _ _)⟩
  · rw [exec_mirrorDriveApply s hm hd]
    simp only [State.driveApply, ha, hon, Bool.not_true, Bool.or_self, Bool.false_eq_true, if_false]
  · rw [exec_solEdge s i b a eb ea hm, s.solEdge_none i _ _ (h.imp_right fun ⟨h1, h2⟩ => ⟨by cases b <;> simp_all, by cases eb <;> simp_all⟩)]
  · rw [exec_solEdge s i _ _ _ _ hm, Bool.not_false, Bool.and_self, (s.solEdge_both i hl x hx).1 h]
    rfl
  · rw [exec_solEdge s i _ _ _ _ hm, Bool.not_false, Bool.and_self, (s.solEdge_both i hl x hx).2.1 h]
  · rw [exec_solEdge s i _ _ _ _ hm, Bool.not_false, Bool.and_self, (s.solEdge_both i hl x hx).2.2 h]
  · have hobjs := s.solService_objs e ang k hk
    have herr : (if k = 0 then K.SOL_ERR_A else K.SOL_ERR_B) = err := by
      rcases hwhich with ⟨rfl, rfl⟩ | ⟨rfl, rfl⟩ <;> rfl
    rw [herr] at hobjs
    refine ⟨hang ▸ interpAngle_between e.at_ at_ a b hat hlt, (State.reg_congr _ _ hobjs _).trans (s.reg_put_self _ _), fun q hq => ?_⟩
    exact (State.reg_congr _ _ hobjs _).trans (s.reg_put_ne _ _ _ (by simpa using hq))
  · refine ⟨s.solMissing, exec_solMarkMissing s hm, ?_⟩
    rw [s.solMissing_lateA x ha hx hb hca hcb]
    exact ⟨s.reg_put_self _ _, rfl, rfl, fun k hk => s.reg_put_ne _ _ _ hk⟩

end Sys2Proof.Machine
end

section
/-! PROOFS. Bits of registers, and walks over numbered units. -/

namespace Sys2Proof.Machine

/-! ### Bits -/

theorem bitAt_succ (v i : Nat) : bitAt v (i + 1) = bitAt (v / 2) i := by
  simp only [bitAt, Nat.pow_succ', Nat.div_div_eq_div_mul]

theorem bitAt_eq_testBit (v i : Nat) : bitAt v i = v.testBit i := by
  rw [Nat.testBit_eq_decide_div_mod_eq]
  rfl

/-- Setting a bit above the lowest works on the half. -/
theorem withBit_succ (v n : Nat) (b : Bool) : withBit v (n + 1) b = 2 * withBit (v / 2) n b + v % 2 := by
  have hle : bitAt (v / 2) n = true → 2 ^ n ≤ v / 2 := fun h => by
    by_contra hlt
    simp [bitAt, Nat.div_eq_of_lt (not_le.mp hlt)] at h
  have hpow : 2 ^ (n + 1) = 2 * 2 ^ n := Nat.pow_succ'
  unfold withBit
  rw [bitAt_succ]
  split_ifs with h1 h2
  · omega
  · have := hle h1
    omega
  · omega
  · omega

/-- Every bit after one was set or cleared. -/
theorem bitAt_withBit (v n i : Nat) (b : Bool) : bitAt (withBit v n b) i = if i = n then b else bitAt v i := by
  induction n generalizing v i with
  | zero =>
    have hhalf : withBit v 0 b / 2 = v / 2 ∧ bitAt (withBit v 0 b) 0 = b := by
      simp only [withBit, bitAt, Nat.pow_zero, Nat.div_one, beq_iff_eq]
      split_ifs with h1 h2 h2 <;> simp_all <;> omega
    cases i with
    | zero => simp [hhalf.2]
    | succ i => simp [bitAt_succ, hhalf.1]
  | succ n ih =>
    rw [withBit_succ]
    cases i with
    | zero =>
      have hlow : (2 * withBit (v / 2) n b + v % 2) % 2 = v % 2 := by omega
      simp [bitAt, hlow]
    | succ i =>
      have hhalf : (2 * withBit (v / 2) n b + v % 2) / 2 = withBit (v / 2) n b := by omega
      rw [bitAt_succ, hhalf, ih, bitAt_succ]
      simp

/-! ### Walks -/

/-- What relates the states before and after each step of a walk relates those before and after the walk. -/
theorem foldl_rel {σ α : Type} (R : σ → σ → Prop) (hrefl : ∀ s, R s s) (htrans : ∀ {s t u}, R s t → R t u → R s u) (f : σ → α → σ) (l : List α)
    (hf : ∀ s, ∀ a ∈ l, R s (f s a)) (s : σ) : R s (l.foldl f s) := by
  induction l generalizing s with
  | nil => exact hrefl s
  | cons a l ih => exact htrans (hf s a (List.mem_cons_self ..)) (ih (fun s b hb => hf s b (List.mem_cons_of_mem _ hb)) _)

/-- The turn of unit `z` in a walk over the units below `n`: what the other units' steps keep holds before its step and after it. -/
theorem State.forRange_turn (R : State → State → Prop) (hrefl : ∀ s, R s s) (htrans : ∀ {s t u}, R s t → R t u → R s u) (f : State → Nat → State) (n z : Nat)
    (hz : z < n) (hf : ∀ s a, a < n → a ≠ z → R s (f s a)) (s : State) : ∃ u, R s u ∧ R (f u z) (s.forRange n f) := by
  obtain ⟨l, r, hlr⟩ := List.append_of_mem (List.mem_range.mpr hz)
  have hnodup := hlr ▸ List.nodup_range (n := n)
  have hlt : ∀ a ∈ l ++ z :: r, a < n := fun a ha => List.mem_range.mp (hlr ▸ ha)
  have hl : ∀ a ∈ l, a ≠ z := fun a ha e => (List.disjoint_of_nodup_append hnodup) ha (e ▸ List.mem_cons_self ..)
  have hr : ∀ a ∈ r, a ≠ z := fun a ha e => (List.nodup_cons.mp (List.nodup_append.mp hnodup).2.1).1 (e ▸ ha)
  refine ⟨l.foldl f s, foldl_rel R hrefl htrans f l (fun t a ha => hf t a (hlt a (List.mem_append_left _ ha)) (hl a ha)) s, ?_⟩
  rw [State.forRange, hlr, List.foldl_append, List.foldl_cons]
  exact foldl_rel R hrefl htrans f r (fun t a ha => hf t a (hlt a (List.mem_append_right _ (List.mem_cons_of_mem _ ha))) (hr a ha)) _

/-- A walk in which no step changes what `R` looks at. -/
theorem State.forRange_rel (R : State → State → Prop) (hrefl : ∀ s, R s s) (htrans : ∀ {s t u}, R s t → R t u → R s u) (f : State → Nat → State) (n : Nat)
    (hf : ∀ s a, a < n → R s (f s a)) (s : State) : R s (s.forRange n f) :=
  foldl_rel R hrefl htrans f _ (fun t a ha => hf t a (List.mem_range.mp ha)) s

theorem State.zone_setZone (s : State) (z y : Nat) (a : ApdZone) : (s.setZone z a).zone y = if y = z then a else s.zone y := getD_setAt ..

@[simp] theorem State.zone_setZone_self (s : State) (z : Nat) (a : ApdZone) : (s.setZone z a).zone z = a := by simp [s.zone_setZone]

@[simp] theorem State.zone_put (s : State) (k v z : Nat) : (s.put k v).zone z = s.zone z := rfl

end Sys2Proof.Machine
end

section
/-! PROOFS. Chapter 4: the bias zones and the receive channels. -/

namespace Sys2Proof.Machine

/-! ### What the commands of the bias generator execute -/

section
variable (s : State) (h : s.mode.coreRuns = true)
include h

theorem exec_apdBoostPeriod (hv : Nat) (m im : List Nat) : exec (.apdBoostPeriod hv m im) s = .next (s.boostPeriod hv m im).settle := by
  calc exec (.apdBoostPeriod hv m im) s = .next (s.core fun s => s.boostPeriod hv m im).settle := rfl
    _ = _ := by rw [s.core_on _ h]

theorem exec_apdHvOvervoltage (hv : Nat) : exec (.apdHvOvervoltage hv) s = .next (s.boostOver hv).settle := by
  calc exec (.apdHvOvervoltage hv) s = .next (s.core fun s => s.boostOver hv).settle := rfl
    _ = _ := by rw [s.core_on _ h]

theorem exec_apdBreakTimeout (z : Fin 4) : exec (.apdBreakTimeout z) s = .next (s.breakTimeout z).settle := by
  calc exec (.apdBreakTimeout z) s = .next (s.core fun s => s.breakTimeout z).settle := rfl
    _ = _ := by rw [s.core_on _ h]

theorem exec_apdTempStale (z : Fin 4) : exec (.apdTempStale z) s = .next (s.tempStaleNow z).settle := by
  calc exec (.apdTempStale z) s = .next (s.core fun s => s.tempStaleNow z).settle := rfl
    _ = _ := by rw [s.core_on _ h]

theorem exec_apdZoneSettled (z : Fin 4) : exec (.apdZoneSettled z) s = .next (s.zoneSettled z).settle := by
  calc exec (.apdZoneSettled z) s = .next (s.core fun s => s.zoneSettled z).settle := rfl
    _ = _ := by rw [s.core_on _ h]

theorem exec_apdZoneFault (z : Fin 4) : exec (.apdZoneFault z) s = .next (s.zoneFault z).settle := by
  calc exec (.apdZoneFault z) s = .next (s.core fun s => s.zoneFault z).settle := rfl
    _ = _ := by rw [s.core_on _ h]

theorem exec_channelWarmDone : exec .channelWarmDone s = .next s.warmDone.settle := by
  calc exec .channelWarmDone s = .next (s.core State.warmDone).settle := rfl
    _ = _ := by rw [s.core_on _ h]

theorem exec_apdEvaluate : exec .apdEvaluate s = .next s.apdEvaluate.settle := by
  calc exec .apdEvaluate s = .next (s.core State.apdEvaluate).settle := rfl
    _ = _ := by rw [s.core_on _ h]

end

/-! ### Events of the bias generator (R111, R115 to R117) -/

/-- The readings of a slot stand in the registers of their zones. -/
theorem State.boostReadings (s : State) (m im : List Nat) (z : Nat) (hz : z < 4) :
    let t := s.forRange 4 fun s z => (s.put (K.APD_MEAS z) (m.getD z 0)).put (K.APD_IMEAS z) (im.getD z 0)
    t.reg (K.APD_MEAS z) = m.getD z 0 ∧ t.reg (K.APD_IMEAS z) = im.getD z 0 := by
  obtain ⟨u, _, hmeas, himeas⟩ := s.forRange_turn (fun x y => y.reg (K.APD_MEAS z) = x.reg (K.APD_MEAS z) ∧ y.reg (K.APD_IMEAS z) = x.reg (K.APD_IMEAS z))
    (fun _ => ⟨rfl, rfl⟩) (fun h h' => ⟨h'.1.trans h.1, h'.2.trans h.2⟩) (fun s z => (s.put (K.APD_MEAS z) (m.getD z 0)).put (K.APD_IMEAS z) (im.getD z 0)) 4 z hz
    (fun x a ha hne => by
      simp only [K.APD_MEAS, K.APD_IMEAS]
      constructor <;> rw [State.reg_put_ne _ _ _ _ (by omega), State.reg_put_ne _ _ _ _ (by omega)])
  refine ⟨hmeas.trans ?_, himeas.trans (State.reg_put_self _ _ _)⟩
  rw [State.reg_put_ne _ _ _ _ (by simp only [K.APD_MEAS, K.APD_IMEAS]; omega), State.reg_put_self]

theorem State.boostPeriod_hv (s : State) (hv : Nat) (m im : List Nat) : (s.boostPeriod hv m im).reg K.APD_HV_MEAS = hv := by
  have hkept := (s.put K.APD_HV_MEAS hv).forRange_rel (fun x y => y.reg K.APD_HV_MEAS = x.reg K.APD_HV_MEAS) (fun _ => rfl) (fun h h' => h'.trans h)
    (fun s z => (s.put (K.APD_MEAS z) (m.getD z 0)).put (K.APD_IMEAS z) (im.getD z 0)) 4
    (fun x a ha => by
      simp only [K.APD_MEAS, K.APD_IMEAS, K.APD_HV_MEAS]
      rw [State.reg_put_ne _ _ _ _ (by omega), State.reg_put_ne _ _ _ _ (by omega)])
  exact hkept.trans (s.reg_put_self _ _)

/-- The readings leave the zones and the boost's stop. -/
theorem State.boostPeriod_apd (s : State) (m im : List Nat) (hv : Nat) :
    ((s.put K.APD_HV_MEAS hv).forRange 4 fun s z => (s.put (K.APD_MEAS z) (m.getD z 0)).put (K.APD_IMEAS z) (im.getD z 0)).apd = s.apd :=
  (s.put K.APD_HV_MEAS hv).forRange_rel (fun x y => y.apd = x.apd) (fun _ => rfl) (fun h h' => h'.trans h) _ 4 fun _ _ _ => rfl

theorem State.breakTimeout_due (s : State) (z : Nat) (he : s.regBit K.APD_ZONE_EN z = true) (ht : s.biasTemp z = none) (ha : (s.zone z).atMin = false)
    (hb : 5000000 ≤ (s.zone z).breakFor + 1) :
    s.breakTimeout z = ((s.put (K.APD_SET z) (s.reg (K.APD_VMIN z))).setZone z { s.zone z with atMin := true, frozen := false }).zoneShow z := by
  rw [State.breakTimeout, if_pos]
  simpa [he, ht, ha, slotsOfMs] using hb

theorem State.tempStaleNow_due (s : State) (z : Nat) (ht : s.reg (K.APD_TSEL z) = 0) (ha : 50000 ≤ s.hk.rtdAge + 1) (he : s.regBit K.APD_ZONE_EN z = true)
    (hf : s.regBit (K.APD_FLAGS z) 3 = false) :
    s.tempStaleNow z = ((s.putBit (K.APD_FLAGS z) 3 true).setZone z { s.zone z with frozen := !(s.zone z).atMin }).zoneShow z := by
  rw [State.tempStaleNow, if_pos]
  simpa [he, ht, hf, staleAge, slotsOfMs] using ha

theorem State.zoneSettled_due (s : State) (z : Nat) (h : s.biasHolds z = true) (hr : 50 ≤ (s.zone z).run + 1) :
    s.zoneSettled z = (s.setZone z { s.zone z with settled := true }).zoneShow z := by
  rw [State.zoneSettled, if_pos]
  simpa [h] using hr

/-- A fault of zone `z` turns it off, counts, and shows. -/
theorem State.zoneFault_due (s : State) (z : Nat) (h : s.inLimit z = true) (hr : 500 ≤ (s.zone z).limRun + 1) : s.zoneFault z =
    (((s.zoneOff z).count (K.APD_FAULTS z)).setZone z { (s.zoneOff z).zone z with faulted := true, reenable := false }).zoneShow z := by
  rw [State.zoneFault, if_pos]
  · rfl
  · simpa [h] using hr

theorem State.zoneOff_out (s : State) (z : Nat) : ((s.zoneOff z).zone z).out = 0 := by
  simp only [State.zoneOff, State.zoneShow, zone_put, zone_setZone_self]

theorem State.zoneOff_reg (s : State) (z k : Nat) (hk : k ≠ K.APD_STATE z) : (s.zoneOff z).reg k = s.reg k := State.reg_put_ne _ _ _ _ hk

/-! ### The evaluation (R112, R113) -/

/-- What one zone's evaluation leaves of another zone `z` and of what it reads: the registers below and above those of Table 4.7 that the bias generator writes,
the set point, the flags and the state of `z`, and the age of RTD0's result. -/
structure State.EvalKeeps (z : Nat) (s t : State) : Prop where
  regs : ∀ k, k < 0x28A000 ∨ 0x28B000 ≤ k → t.reg k = s.reg k
  set : t.reg (K.APD_SET z) = s.reg (K.APD_SET z)
  flags : t.reg (K.APD_FLAGS z) = s.reg (K.APD_FLAGS z)
  zone : t.zone z = s.zone z
  hk : t.hk = s.hk

theorem State.EvalKeeps.refl (z : Nat) (s : State) : State.EvalKeeps z s s := ⟨fun _ _ => rfl, rfl, rfl, rfl, rfl⟩

theorem State.EvalKeeps.trans {z : Nat} {s t u : State} (h : State.EvalKeeps z s t) (h' : State.EvalKeeps z t u) : State.EvalKeeps z s u :=
  ⟨fun k hk => (h'.regs k hk).trans (h.regs k hk), h'.set.trans h.set, h'.flags.trans h.flags, h'.zone.trans h.zone, h'.hk.trans h.hk⟩

theorem State.EvalKeeps.put {z : Nat} {s : State} (k v : Nat) (hk : 0x28A000 ≤ k ∧ k < 0x28B000) (hset : k ≠ K.APD_SET z) (hflags : k ≠ K.APD_FLAGS z) :
    State.EvalKeeps z s (s.put k v) :=
  ⟨fun j hj => s.reg_put_ne _ _ _ (by omega), s.reg_put_ne _ _ _ hset.symm, s.reg_put_ne _ _ _ hflags.symm, rfl, rfl⟩

theorem State.EvalKeeps.setZone {z : Nat} {s : State} (y : Nat) (a : ApdZone) (hy : z ≠ y) : State.EvalKeeps z s (s.setZone y a) :=
  ⟨fun _ _ => rfl, rfl, rfl, (s.zone_setZone y z a).trans (if_neg hy), rfl⟩

/-- The evaluation of another zone. -/
theorem State.zoneEvaluate_others (s : State) (z y : Nat) (hz : z < 4) (hy : y < 4) (hne : y ≠ z) : State.EvalKeeps z s (s.zoneEvaluate y) := by
  have hset : (0x28A000 ≤ K.APD_SET y ∧ K.APD_SET y < 0x28B000) ∧ K.APD_SET y ≠ K.APD_SET z ∧ K.APD_SET y ≠ K.APD_FLAGS z := by
    simp only [K.APD_SET, K.APD_FLAGS]; omega
  have hflags : (0x28A000 ≤ K.APD_FLAGS y ∧ K.APD_FLAGS y < 0x28B000) ∧ K.APD_FLAGS y ≠ K.APD_SET z ∧ K.APD_FLAGS y ≠ K.APD_FLAGS z := by
    simp only [K.APD_SET, K.APD_FLAGS]; omega
  have hstate : (0x28A000 ≤ K.APD_STATE y ∧ K.APD_STATE y < 0x28B000) ∧ K.APD_STATE y ≠ K.APD_SET z ∧ K.APD_STATE y ≠ K.APD_FLAGS z := by
    simp only [K.APD_SET, K.APD_FLAGS, K.APD_STATE]; omega
  have hshow : ∀ (t : State) (a : ApdZone), State.EvalKeeps z t ((t.setZone y a).zoneShow y) := fun t a =>
    (State.EvalKeeps.setZone y a hne.symm).trans (.put _ _ hstate.1 hstate.2.1 hstate.2.2)
  unfold State.zoneEvaluate
  split
  · exact .refl z s
  · split
    · exact ((State.EvalKeeps.put _ _ hset.1 hset.2.1 hset.2.2).trans (.put _ _ hflags.1 hflags.2.1 hflags.2.2)).trans (hshow _ _)
    · exact (State.EvalKeeps.put _ _ hflags.1 hflags.2.1 hflags.2.2).trans (hshow _ _)

theorem State.EvalKeeps.regBit {z : Nat} {s t : State} (h : State.EvalKeeps z s t) : t.regBit K.APD_ZONE_EN z = s.regBit K.APD_ZONE_EN z := by
  rw [State.regBit, State.regBit, h.regs _ (by decide)]

/-- The source's reading is no register of the evaluation. -/
theorem State.EvalKeeps.biasTemp {z : Nat} {s t : State} (h : State.EvalKeeps z s t) (hz : z < 4) : t.biasTemp z = s.biasTemp z := by
  have hsel : t.reg (K.APD_TSEL z) = s.reg (K.APD_TSEL z) := h.regs _ (.inl (by simp only [K.APD_TSEL]; omega))
  have hpair : ∀ k, t.pairTemp k = s.pairTemp k := fun k => by
    simp only [State.pairTemp, State.regI, h.regs (K.ZONE_TEMP k) (.inr (by simp only [K.ZONE_TEMP]; omega))]
  unfold State.biasTemp
  rw [hsel]
  split
  · simp only [State.tempStale, hsel, h.hk, h.regs (K.RTD_STATE 0) (by decide), h.regs (K.SENS_OUT 0) (by decide)]
    rfl
  · rw [hpair]

theorem State.EvalKeeps.biasPoint {z : Nat} {s t : State} (h : State.EvalKeeps z s t) (hz : z < 4) (x : Rat) : t.biasPoint z x = s.biasPoint z x := by
  have hcoefs : t.coefs (0x2890 + z) = s.coefs (0x2890 + z) := by
    refine List.map_congr_left fun n hn => h.regs _ (.inl ?_)
    have := List.mem_range.mp hn
    simp only [objKey]
    omega
  have hkey : ∀ k ∈ [K.APD_VMIN z, K.APD_VMAX z, K.APD_TOFFS z, K.APD_GAIN z], t.reg k = s.reg k := fun k hk => h.regs k (.inl (by
    simp only [K.APD_VMIN, K.APD_VMAX, K.APD_TOFFS, K.APD_GAIN, List.mem_cons, List.not_mem_nil, or_false] at hk
    omega))
  simp only [State.biasPoint, hcoefs, hkey (K.APD_VMIN z) (by simp), hkey (K.APD_VMAX z) (by simp), hkey (K.APD_TOFFS z) (by simp), hkey (K.APD_GAIN z) (by simp)]

theorem State.zoneEvaluate_known (s : State) (z : Nat) (x : Rat) (he : s.regBit K.APD_ZONE_EN z = true) (ht : s.biasTemp z = some x) :
    (s.zoneEvaluate z).reg (K.APD_SET z) = (s.biasPoint z x).1 ∧ (s.zoneEvaluate z).reg (K.APD_FLAGS z) = (s.biasPoint z x).2
      ∧ ((s.zoneEvaluate z).zone z).frozen = false := by
  have heval : s.zoneEvaluate z = (((s.put (K.APD_SET z) (s.biasPoint z x).1).put (K.APD_FLAGS z) (s.biasPoint z x).2).setZone z
      { s.zone z with frozen := false, atMin := false }).zoneShow z := by
    simp only [State.zoneEvaluate, he, ht]
    rfl
  rw [heval]
  refine ⟨?_, ?_, by simp [State.zoneShow]⟩
  · refine (State.reg_put_ne _ _ _ _ (by simp only [K.APD_SET, K.APD_STATE]; omega)).trans ((State.reg_put_ne _ _ _ _ ?_).trans (s.reg_put_self _ _))
    simp only [K.APD_SET, K.APD_FLAGS]; omega
  · exact (State.reg_put_ne _ _ _ _ (by simp only [K.APD_FLAGS, K.APD_STATE]; omega)).trans (State.reg_put_self _ _ _)

theorem State.zoneEvaluate_unknown (s : State) (z : Nat) (h : s.regBit K.APD_ZONE_EN z = false ∨ s.biasTemp z = none) :
    (s.zoneEvaluate z).reg (K.APD_SET z) = s.reg (K.APD_SET z) := by
  unfold State.zoneEvaluate
  split
  · rfl
  next he =>
    have hn : s.biasTemp z = none := h.resolve_left (by simpa using he)
    rw [hn]
    refine (State.reg_put_ne _ _ _ _ (by simp only [K.APD_SET, K.APD_STATE]; omega)).trans (s.reg_put_ne _ _ _ ?_)
    simp only [K.APD_SET, K.APD_FLAGS]; omega

/-! ### The receive channels (R98, R101 to R105) -/

/-- Only a channel's own step changes its CH_STATE. -/
theorem State.warmDone_turn (s : State) (ch : Nat) (hc : ch < 48) : s.warmDone.reg (K.CH_STATE ch) =
    if s.reg (K.CH_STATE ch) = 1 ∧ (s.rx.getD ch {}).warm ≤ 1 then 2 else s.reg (K.CH_STATE ch) := by
  obtain ⟨u, ⟨hreg, hrx⟩, hend, _⟩ := s.forRange_turn (fun x y => y.reg (K.CH_STATE ch) = x.reg (K.CH_STATE ch) ∧ y.rx = x.rx) (fun _ => ⟨rfl, rfl⟩)
    (fun h h' => ⟨h'.1.trans h.1, h'.2.trans h.2⟩)
    (fun s ch => if s.reg (K.CH_STATE ch) = 1 && decide ((s.rx.getD ch {}).warm ≤ 1) then s.put (K.CH_STATE ch) 2 else s) 48 ch hc
    (fun x a _ hne => by
      split
      · exact ⟨x.reg_put_ne _ _ _ (by simp only [K.CH_STATE]; omega), rfl⟩
      · exact ⟨rfl, rfl⟩)
  refine hend.trans ?_
  rw [hreg, hrx]
  simp only [Bool.and_eq_true, decide_eq_true_eq]
  split_ifs
  · exact u.reg_put_self _ _
  · exact hreg

/-- The steps of the channels write CH_STATE alone. -/
theorem State.warmDone_kept (s : State) : (∀ k, (∀ ch, ch < 48 → k ≠ K.CH_STATE ch) → s.warmDone.reg k = s.reg k) ∧ s.warmDone.rx = s.rx ∧ s.warmDone.mode = s.mode :=
  s.forRange_rel (fun x y => (∀ k, (∀ ch, ch < 48 → k ≠ K.CH_STATE ch) → y.reg k = x.reg k) ∧ y.rx = x.rx ∧ y.mode = x.mode) (fun _ => ⟨fun _ _ => rfl, rfl, rfl⟩)
    (fun h h' => ⟨fun k hk => (h'.1 k hk).trans (h.1 k hk), h'.2.1.trans h.2.1, h'.2.2.trans h.2.2⟩) _ 48 fun x a ha => by
      split
      · exact ⟨fun k hk => x.reg_put_ne _ _ _ (hk a ha), rfl, rfl⟩
      · exact ⟨fun _ _ => rfl, rfl, rfl⟩

/-- The servo code of a channel after a tick in which it forms. -/
def State.servoCode (s : State) (c : SlotCtx) (ch : Nat) : Nat :=
  if s.reg (K.CH_STATE ch) = 2 then s.servoNext ch (servoError c.samples ch) (regOf c.objs (K.RX_GAIN ch)) else (s.rx.getD ch {}).servo

/-- Ticks running with the code at 16,000 and the window above the baseline, at most 64. -/
def State.servoRun (s : State) (c : SlotCtx) (ch : Nat) : Nat :=
  if s.servoCode c ch = 16000 && decide (0 < servoError c.samples ch) then min ((s.rx.getD ch {}).satRun + 1) 64 else 0

/-- The state in which a channel's servo has formed a new code. -/
def State.servoFormed (s : State) (c : SlotCtx) (ch : Nat) : State :=
  ({ s with rx := setAt {} s.rx ch { s.rx.getD ch {} with servo := s.servoCode c ch, satRun := s.servoRun c ch } }).putBit K.SUN_SAT_MASK ch (s.servoRun c ch == 64)

/-- The servo code of a channel shows, with its logarithm. -/
def State.servoShown (s : State) (ch : Nat) : State :=
  (s.put (K.AMBIENT ch) (s.rx.getD ch {}).servo).put (K.AMB_CODE ch) (ambCode (s.rx.getD ch {}).servo)

/-- The clipped samples of a channel's slot count. -/
def State.clipCounted (s : State) (c : SlotCtx) (ch : Nat) : State :=
  s.countBy (K.CLIP_SAMPLES ch) ((c.samples.getD ch []).filter fun v => v == 2047 || v == -2048).length

theorem State.chanServo_eq (s : State) (c : SlotCtx) (ch : Nat) : State.chanServo c s ch =
    (if (s.reg (K.CH_STATE ch) == 1 || s.reg (K.CH_STATE ch) == 2) && bitAt c.powered ch && s.locked then (s.clipCounted c ch).servoFormed c ch
    else if s.reg (K.CH_STATE ch) == 1 || s.reg (K.CH_STATE ch) == 2 then s.clipCounted c ch
    else (s.clipCounted c ch).putBit K.SUN_SAT_MASK ch false).servoShown ch := rfl

/-- Counting clipped samples changes no register that the servo reads. -/
theorem State.clipCounted_reg (s : State) (c : SlotCtx) (ch k : Nat) (hk : k ≠ K.CLIP_SAMPLES ch) : (s.clipCounted c ch).reg k = s.reg k := s.reg_put_ne _ _ _ hk

theorem State.clipCounted_servo (s : State) (c : SlotCtx) (ch : Nat) (hc : ch < 48) :
    (s.clipCounted c ch).servoCode c ch = s.servoCode c ch ∧ (s.clipCounted c ch).servoRun c ch = s.servoRun c ch := by
  have hkey : ∀ k ∈ [K.CH_STATE ch, K.SERVO_STEP, K.SERVO_MODE ch, K.SERVO_FIX ch, K.SERVO_KP], (s.clipCounted c ch).reg k = s.reg k := fun k hk => by
    refine s.clipCounted_reg c ch k ?_
    simp only [K.CH_STATE, K.SERVO_STEP, K.SERVO_MODE, K.SERVO_FIX, K.SERVO_KP, K.CLIP_SAMPLES, List.mem_cons, List.not_mem_nil, or_false] at hk ⊢
    omega
  have hnext : (s.clipCounted c ch).servoNext ch = s.servoNext ch := by
    funext e g
    simp only [State.servoNext, hkey K.SERVO_STEP (by simp), hkey (K.SERVO_MODE ch) (by simp), hkey (K.SERVO_FIX ch) (by simp), hkey K.SERVO_KP (by simp)]
    rfl
  have hcode : (s.clipCounted c ch).servoCode c ch = s.servoCode c ch := by
    rw [State.servoCode, State.servoCode, hnext, hkey (K.CH_STATE ch) (by simp)]
    rfl
  exact ⟨hcode, by rw [State.servoRun, State.servoRun, hcode]; rfl⟩

theorem State.servoShown_reg (s : State) (ch k : Nat) (ha : k ≠ K.AMBIENT ch) (hc : k ≠ K.AMB_CODE ch) : (s.servoShown ch).reg k = s.reg k :=
  (State.reg_put_ne _ _ _ _ hc).trans (s.reg_put_ne _ _ _ ha)

theorem State.servoShown_codes (s : State) (ch : Nat) :
    (s.servoShown ch).reg (K.AMBIENT ch) = (s.rx.getD ch {}).servo ∧ (s.servoShown ch).reg (K.AMB_CODE ch) = ambCode (s.rx.getD ch {}).servo := by
  refine ⟨(State.reg_put_ne _ _ _ _ ?_).trans (s.reg_put_self _ _), State.reg_put_self _ _ _⟩
  simp only [K.AMBIENT, K.AMB_CODE]; omega

/-- The channel and the mask after the tick, where a code forms, where the channel is on and none forms, and where it is off. -/
theorem State.chanServo_cases (s : State) (c : SlotCtx) (ch : Nat) (hc : ch < 48) :
    let t := State.chanServo c s ch
    let on := s.reg (K.CH_STATE ch) = 1 ∨ s.reg (K.CH_STATE ch) = 2
    let formed := on ∧ bitAt c.powered ch = true ∧ s.locked = true
    (formed → t.rx = setAt {} s.rx ch { s.rx.getD ch {} with servo := s.servoCode c ch, satRun := s.servoRun c ch }
      ∧ t.reg K.SUN_SAT_MASK = withBit (s.reg K.SUN_SAT_MASK) ch (s.servoRun c ch == 64))
    ∧ (on → ¬formed → t.rx = s.rx ∧ t.reg K.SUN_SAT_MASK = s.reg K.SUN_SAT_MASK)
    ∧ (¬on → t.rx = s.rx ∧ t.reg K.SUN_SAT_MASK = withBit (s.reg K.SUN_SAT_MASK) ch false)
    ∧ t.reg (K.AMBIENT ch) = (t.rx.getD ch {}).servo ∧ t.reg (K.AMB_CODE ch) = ambCode (t.rx.getD ch {}).servo
    ∧ ∀ k, k ≠ K.AMBIENT ch → k ≠ K.AMB_CODE ch → k ≠ K.SUN_SAT_MASK → k ≠ K.CLIP_SAMPLES ch → t.reg k = s.reg k := by
  have hsun : K.SUN_SAT_MASK ≠ K.AMBIENT ch ∧ K.SUN_SAT_MASK ≠ K.AMB_CODE ch ∧ K.SUN_SAT_MASK ≠ K.CLIP_SAMPLES ch := by
    simp only [K.SUN_SAT_MASK, K.AMBIENT, K.AMB_CODE, K.CLIP_SAMPLES]; omega
  obtain ⟨hsunA, hsunB, hsunC⟩ := hsun
  have hmask := s.clipCounted_reg c ch _ hsunC
  have hform : ((s.clipCounted c ch).servoFormed c ch).reg K.SUN_SAT_MASK = withBit (s.reg K.SUN_SAT_MASK) ch (s.servoRun c ch == 64) := by
    refine (State.reg_put_self _ _ _).trans ?_
    rw [(s.clipCounted_servo c ch hc).2]
    exact congrArg (withBit · ch _) hmask
  intro t on formed
  have ht : t = _ := s.chanServo_eq c ch
  clear_value t
  have hon : ((s.reg (K.CH_STATE ch) == 1 || s.reg (K.CH_STATE ch) == 2) = true) = on := by simp [on]
  simp only [Bool.and_eq_true, hon, and_assoc] at ht
  by_cases h1 : formed
  · rw [if_pos h1] at ht
    subst ht
    refine ⟨fun _ => ⟨?_, (State.servoShown_reg _ _ _ hsunA hsunB).trans hform⟩, fun _ h => absurd h1 h, fun h => absurd h1.1 h,
      (State.servoShown_codes _ ch).1, (State.servoShown_codes _ ch).2, fun k ha hb hm hk => ?_⟩
    · show setAt {} s.rx ch _ = _
      rw [(s.clipCounted_servo c ch hc).1, (s.clipCounted_servo c ch hc).2]
      rfl
    · exact (State.servoShown_reg _ _ _ ha hb).trans ((State.reg_put_ne _ _ _ _ hm).trans (s.clipCounted_reg c ch k hk))
  · rw [if_neg h1] at ht
    by_cases h2 : on
    · rw [if_pos h2] at ht
      subst ht
      exact ⟨fun h => absurd h h1, fun _ _ => ⟨rfl, (State.servoShown_reg _ _ _ hsunA hsunB).trans hmask⟩, fun h => absurd h2 h,
        (State.servoShown_codes _ ch).1, (State.servoShown_codes _ ch).2,
        fun k ha hb _ hk => (State.servoShown_reg _ _ _ ha hb).trans (s.clipCounted_reg c ch k hk)⟩
    · rw [if_neg h2] at ht
      subst ht
      refine ⟨fun h => absurd h h1, fun h => absurd h h2, fun _ => ⟨rfl, (State.servoShown_reg _ _ _ hsunA hsunB).trans ((State.reg_put_self _ _ _).trans ?_)⟩,
        (State.servoShown_codes _ ch).1, (State.servoShown_codes _ ch).2,
        fun k ha hb hm hk => (State.servoShown_reg _ _ _ ha hb).trans ((State.reg_put_ne _ _ _ _ hm).trans (s.clipCounted_reg c ch k hk))⟩
      exact congrArg (withBit · ch false) hmask

/-- The logarithm of a servo code (R103). -/
theorem ambCode_log (c : Nat) (h0 : 0 < c) (hc : c ≤ 16000) : ∃ p m, p ≤ 13 ∧ m < 16 ∧ 2 ^ p ≤ c ∧ c < 2 ^ (p + 1)
    ∧ (if 4 ≤ p then m = c / 2 ^ (p - 4) % 16 else m = c * 2 ^ (4 - p) % 16) ∧ ambCode c = 16 * p + m + 1 := by
  have hlo : 2 ^ c.log2 ≤ c := Nat.log2_self_le h0.ne'
  have hhi : c < 2 ^ (c.log2 + 1) := Nat.lt_log2_self
  have hp : c.log2 ≤ 13 := by
    by_contra h
    have : 2 ^ 14 ≤ 2 ^ c.log2 := Nat.pow_le_pow_right (by decide) (by omega)
    omega
  have hcode : ambCode c = 16 * c.log2 + (c * 16 / 2 ^ c.log2 - 16) + 1 := if_neg h0.ne'
  generalize c.log2 = p at hlo hhi hp hcode
  have hm : c * 16 / 2 ^ p - 16 < 16 ∧ 16 ≤ c * 16 / 2 ^ p := by
    have hpos : 0 < 2 ^ p := by positivity
    have h1 : 16 ≤ c * 16 / 2 ^ p := (Nat.le_div_iff_mul_le hpos).mpr (by omega)
    have h2 : c * 16 / 2 ^ p < 32 := (Nat.div_lt_iff_lt_mul hpos).mpr (by rw [Nat.pow_succ] at hhi; omega)
    omega
  refine ⟨p, _, hp, hm.1, hlo, hhi, ?_, hcode⟩
  split_ifs with h4
  · have hdiv : c * 16 / 2 ^ p = c / 2 ^ (p - 4) := by
      conv_lhs => rw [show p = (p - 4) + 4 by omega, Nat.pow_add]
      exact Nat.mul_div_mul_right _ _ (by decide)
    omega
  · have hdiv : c * 16 / 2 ^ p = c * 2 ^ (4 - p) := by
      have h16 : 16 = 2 ^ (4 - p) * 2 ^ p := by rw [← Nat.pow_add, show 4 - p + p = 4 by omega]
      rw [h16, ← Nat.mul_assoc, Nat.mul_div_cancel _ (by positivity)]
    omega

end Sys2Proof.Machine
end

section
/-! PROOFS. The obligations of chapter 4. -/

namespace Sys2Proof.Machine

/-- Settles O8: each event of the bias generator by its own equation. -/
theorem biasEvents : Obligations.BiasEvents := by
  refine ⟨fun s hv m im h => ?_, fun s hv h hover => ?_, fun s z h he ht ha hb => ?_, fun s z h ht ha he hf => ?_, fun s z h hb hr => ?_, fun s z h hl hr => ?_⟩
  · refine ⟨_, exec_apdBoostPeriod s h hv m im, s.boostPeriod_hv hv m im, fun z hz => (s.put K.APD_HV_MEAS hv).boostReadings m im z hz, ?_, ?_⟩
    · exact congrArg (fun a : Apd => a.zones.any (·.biased) && !a.boostStopped) (s.boostPeriod_apd m im hv)
    · exact (congrArg Apd.zones (s.boostPeriod_apd m im hv) :)
  · rw [exec_apdHvOvervoltage s h, State.boostOver, if_pos hover]
  · rw [exec_apdBreakTimeout s h, s.breakTimeout_due z he ht ha hb]
  · rw [exec_apdTempStale s h, s.tempStaleNow_due z ht ha he hf]
  · rw [exec_apdZoneSettled s h, s.zoneSettled_due z hb hr]
  · refine ⟨s.zoneFault z, exec_apdZoneFault s h z, ?_⟩
    rw [s.zoneFault_due z hl hr]
    have hfaults : K.APD_FAULTS z ≠ K.APD_STATE z := by simp only [K.APD_FAULTS, K.APD_STATE]; omega
    refine ⟨?_, ?_, ?_, ?_, ?_, fun k hk hk' => ?_⟩
    · exact (State.reg_put_self _ _ _).trans (by simp [zoneCode])
    · exact (State.reg_put_ne _ _ _ _ hfaults).trans ((State.reg_put_self _ _ _).trans (by rw [s.zoneOff_reg z _ hfaults]; rfl))
    · simp [State.zoneShow]
    · simp [State.zoneShow, (s.zoneOff_zone_self z).1]
    · simp [State.zoneShow, s.zoneOff_out z]
    · exact (State.reg_put_ne _ _ _ _ hk).trans ((State.reg_put_ne _ _ _ _ hk').trans (s.zoneOff_reg z k hk))

/-- Settles O9: each channel and each zone has its own turn in the walk over them; the servo by the three cases of a tick. -/
theorem channelsAndBiasPoints : Obligations.ChannelsAndBiasPoints := by
  refine ⟨fun s h => ?_, fun s h ht he => ?_, fun s c ch hc => ?_, rfl, fun c => ambCode_log c⟩
  · obtain ⟨hregs, hrx, hmode⟩ := s.warmDone_kept
    refine ⟨s.warmDone, exec_channelWarmDone s h, fun ch hc hst hw => ?_, fun ch hc hno => ?_, hregs, hrx, hmode⟩
    · rw [s.warmDone_turn ch hc, if_pos ⟨hst, hw⟩]
    · rw [s.warmDone_turn ch hc, if_neg (by omega)]
  · have heval : s.apdEvaluate = { s.forRange 4 State.zoneEvaluate with apd := { (s.forRange 4 State.zoneEvaluate).apd with evaluated := true } } :=
      if_neg (by simp [he]; omega)
    refine ⟨s.apdEvaluate, exec_apdEvaluate s h, by rw [heval], fun z hz => ?_⟩
    obtain ⟨u, hu, hend⟩ := s.forRange_turn (State.EvalKeeps z) (.refl z) .trans State.zoneEvaluate 4 z hz fun x a ha hne => x.zoneEvaluate_others z a hz ha hne
    have hreg : ∀ k, s.apdEvaluate.reg k = (s.forRange 4 State.zoneEvaluate).reg k := fun k => by rw [heval]; rfl
    have hzone : s.apdEvaluate.zone z = (s.forRange 4 State.zoneEvaluate).zone z := by rw [heval]; rfl
    rw [hreg, hreg, hzone, hend.set, hend.flags, hend.zone]
    refine ⟨fun x hen hx => ?_, fun hno => ?_⟩
    · rw [← hu.biasPoint hz x]
      exact u.zoneEvaluate_known z x (hu.regBit.trans hen) ((hu.biasTemp hz).trans hx)
    · rw [u.zoneEvaluate_unknown z (by rwa [hu.regBit, hu.biasTemp hz]), hu.set]
  · intro t st old new e d step formed full
    obtain ⟨hformed, hon, hoff, hamb, hcode, hregs⟩ := s.chanServo_cases c ch hc
    have he : e = servoError c.samples ch := by
      simp only [e, servoError]
      ring
    have hnew : formed → new = s.servoCode c ch ∧ (t.rx.getD ch {}).satRun = s.servoRun c ch := fun h => by
      obtain ⟨hrx, _⟩ := hformed h
      simp only [new, t, hrx, getD_setAt, if_true, and_self]
    have hkept : ¬formed → t.rx = s.rx := fun h => by
      by_cases h' : st = 1 ∨ st = 2
      · exact (hon h' h).1
      · exact (hoff h').1
    have hfull : full ↔ formed ∧ (s.servoCode c ch = 16000 && decide (0 < servoError c.samples ch)) = true := by
      simp only [full, Bool.and_eq_true, decide_eq_true_eq, he]
      exact ⟨fun ⟨h, h'⟩ => ⟨h, (hnew h).1 ▸ h'⟩, fun ⟨h, h'⟩ => ⟨h, (hnew h).1.symm ▸ h'⟩⟩
    have hmask : ∀ i, i ≠ ch → bitAt (t.reg K.SUN_SAT_MASK) i = bitAt (s.reg K.SUN_SAT_MASK) i := fun i hi => by
      by_cases h : formed
      · rw [(hformed h).2, bitAt_withBit, if_neg hi]
      · by_cases h' : st = 1 ∨ st = 2
        · rw [(hon h' h).2]
        · rw [(hoff h').2, bitAt_withBit, if_neg hi]
    have hothers : ∀ i, i ≠ ch → t.rx.getD i {} = s.rx.getD i {} := fun i hi => by
      by_cases h : formed
      · rw [(hformed h).1, getD_setAt, if_neg hi]
      · rw [hkept h]
    have hold : ¬formed → t.rx.getD ch {} = s.rx.getD ch {} := fun h => by rw [hkept h]
    have hnext : st = 2 → formed → new = s.servoNext ch e (regOf c.objs (K.RX_GAIN ch)) := fun h h' => by
      rw [(hnew h').1, State.servoCode, if_pos h, he]
    refine ⟨fun h => ?_, fun h h' h0 => ?_, fun h h' h1 => ?_, fun h h' h2 => ?_, hamb, hcode, fun h => ?_, fun h h' => ?_, fun h => ?_, fun h => ?_,
      fun h h' => (hon h' h).2, fun h => ?_, fun i _ hi => ⟨hmask i hi, hothers i hi⟩, hregs⟩
    · by_cases hf : formed
      · rw [(hnew hf).1, State.servoCode, if_neg (h.resolve_right (not_not.mpr hf))]
      · exact congrArg RxChan.servo (hold hf)
    · rw [hnext h h', State.servoNext, h0]
      rfl
    · rw [hnext h h', State.servoNext, h1]
      simp only [clampInt]
      omega
    · rw [hnext h h', State.servoNext, h2]
      rfl
    · obtain ⟨hf, hsat⟩ := hfull.mp h
      rw [(hnew hf).2, State.servoRun, if_pos hsat]
    · rw [(hnew h).2, State.servoRun, if_neg fun hsat => h' (hfull.mpr ⟨h, hsat⟩)]
    · exact congrArg RxChan.satRun (hold h)
    · rw [(hformed h).2, bitAt_withBit, if_pos rfl, (hnew h).2]
      rfl
    · rw [(hoff (by omega)).2, bitAt_withBit, if_pos rfl]

end Sys2Proof.Machine
end

section
/-! PROOFS. Chapter 2: the swap tick, the words of a plan and the slot that starts. -/

namespace Sys2Proof.Machine

/-! ### The swap (R55, R309) -/

/-- The noted events of sticky Pennant bits survive the outputs' update. -/
theorem State.settle_events (s : State) : s.settle.penn.events = s.penn.events := by
  have hraise : ∀ t : State, t.raise.penn.events = t.penn.events := fun t => by
    unfold State.raise
    split <;> rfl
  rw [State.settle_eq, hraise]
  simp

theorem exec_planSwapTick (s : State) (ht : s.ticking = true) (hd : s.swapDue = true) : exec .planSwapTick s = .next s.atTick.swapTick.settle := by
  calc exec .planSwapTick s = .next (s.tickRow s.swapDue State.swapTick).settle := rfl
    _ = _ := by rw [s.tickRow_due _ _ hd ht, State.atTick]

/-- STANDBY with a swap armed for the tick to come. -/
def armedSwap : State :=
  let s : State := { State.reset with
    mode := .standby, counting := true, clk := { slotLocked := true }, pipe := { caught := true }, plan := { swapTicks := 1 } }
  [(K.PLLA_STATE, 2), (K.SWAP_STATE, 2)].foldl (fun s p => s.put p.1 p.2) s

theorem armedSwap_due : armedSwap.ticking = true ∧ armedSwap.swapDue = true ∧ armedSwap.atTick.swapDue = true ∧ armedSwap.atTick.calFrame.mode.isRunning = false := by
  decide

/-- The swap notes the cc of its sticky bit's event, and nothing was noted before. -/
theorem armedSwap_events : armedSwap.atTick.swapTick.penn.events = [(30, 1, 0)] ∧ armedSwap.atTick.calFrame.penn.events = [] := by decide

/-! ### The words of a plan (R35 to R44) -/

/-- A word whose turn it is executes once the present slot has ended. -/
theorem State.wordRow_ready (s : State) (op : Nat) (f : State → State) (h : s.wordReady op = true) : s.wordRow op f = f s.atTick := by
  simp only [State.wordReady, Bool.and_eq_true] at h
  obtain ⟨⟨ht, hturn⟩, hat⟩ := h
  rw [s.wordRow_turn op f hturn ht hat, State.atTick]

section
variable (s : State)

theorem exec_slot (h : s.wordReady 2 = true) : exec .slot s = .next (s.atTick.wordSlots .slot).settle := by
  calc exec .slot s = .next (s.wordRow 2 fun s => s.wordSlots .slot).settle := rfl
    _ = _ := by rw [s.wordRow_ready 2 _ h]

theorem exec_calgap (h : s.wordReady 7 = true) : exec .calgap s = .next (s.atTick.wordSlots .calgap).settle := by
  calc exec .calgap s = .next (s.wordRow 7 fun s => s.wordSlots .calgap).settle := rfl
    _ = _ := by rw [s.wordRow_ready 7 _ h]

theorem exec_testgap (h : s.wordReady 8 = true) : exec .testgap s = .next (s.atTick.wordSlots .testgap).settle := by
  calc exec .testgap s = .next (s.wordRow 8 fun s => s.wordSlots .testgap).settle := rfl
    _ = _ := by rw [s.wordRow_ready 8 _ h]

theorem exec_idle (h : s.wordReady 9 = true) : exec .idle s = .next (s.atTick.wordSlots .idle).settle := by
  calc exec .idle s = .next (s.wordRow 9 fun s => s.wordSlots .idle).settle := rfl
    _ = _ := by rw [s.wordRow_ready 9 _ h]

theorem exec_fire (h : s.wordReady 3 = true) : exec .fire s = .next s.atTick.wordFire.settle := by
  calc exec .fire s = .next (s.wordRow 3 fun s => s.wordFire).settle := rfl
    _ = _ := by rw [s.wordRow_ready 3 _ h]

theorem exec_single (h : s.wordReady 4 = true) : exec .single s = .next s.atTick.wordSingle.settle := by
  calc exec .single s = .next (s.wordRow 4 fun s => s.wordSingle).settle := rfl
    _ = _ := by rw [s.wordRow_ready 4 _ h]

theorem exec_accum (h : s.wordReady 5 = true) : exec .accum s = .next s.atTick.wordAccum.settle := by
  calc exec .accum s = .next (s.wordRow 5 fun s => s.wordAccum).settle := rfl
    _ = _ := by rw [s.wordRow_ready 5 _ h]

theorem exec_emit (h : s.wordReady 6 = true) : exec .emit s = .next s.atTick.wordEmit.settle := by
  calc exec .emit s = .next (s.wordRow 6 fun s => s.wordEmit).settle := rfl
    _ = _ := by rw [s.wordRow_ready 6 _ h]

theorem exec_waitlock (h : s.wordReady 0x0D = true) : exec .waitlock s = .next s.atTick.wordWaitlock.settle := by
  calc exec .waitlock s = .next (s.wordRow 0x0D fun s => s.wordWaitlock).settle := rfl
    _ = _ := by rw [s.wordRow_ready 0x0D _ h]

theorem exec_mark_word (hm : s.pipe.cur.marks = []) (h : s.wordReady 0x0A = true) : exec .mark s = .next s.atTick.wordMark.settle := by
  calc exec .mark s = .next (if s.pipe.cur.marks.isEmpty then s.wordRow 0x0A State.wordMark else s.markIssue).settle := rfl
    _ = _ := by rw [hm, List.isEmpty_nil, if_pos rfl, s.wordRow_ready 0x0A _ h]

theorem exec_mark_event (m : MarkEv) (l : List MarkEv) (hm : s.pipe.cur.marks = m :: l) :
    exec .mark s = .next ({ s with pipe := { s.pipe with cur := { s.pipe.cur with marks := l } } }.markEvent m).settle := by
  calc exec .mark s = .next (if s.pipe.cur.marks.isEmpty then s.wordRow 0x0A State.wordMark else s.markIssue).settle := rfl
    _ = .next s.markIssue.settle := by rw [hm, List.isEmpty_cons, if_neg Bool.false_ne_true]
    _ = _ := by simp only [State.markIssue, hm]

theorem exec_loop (h : s.wordReady 0x0B = true) : exec .loop s = .next s.atTick.wordLoop.settle := by
  calc exec .loop s = .next (s.wordRow 0x0B fun s => s.wordLoop).settle := rfl
    _ = _ := by rw [s.wordRow_ready 0x0B _ h]

theorem exec_endloop (h : s.wordReady 0x0C = true) : exec .endloop s = .next s.atTick.wordEndloop.settle := by
  calc exec .endloop s = .next (s.wordRow 0x0C fun s => s.wordEndloop).settle := rfl
    _ = _ := by rw [s.wordRow_ready 0x0C _ h]

theorem exec_jump (h : s.wordReady 0x0E = true) : exec .jump s = .next s.atTick.wordJump.settle := by
  calc exec .jump s = .next (s.wordRow 0x0E fun s => s.wordJump).settle := rfl
    _ = _ := by rw [s.wordRow_ready 0x0E _ h]

theorem exec_frame (h : s.wordReady 1 = true) : exec .frame s = .next s.atTick.wordFrame.settle := by
  calc exec .frame s = .next (s.wordRow 1 fun s => s.wordFrame).settle := rfl
    _ = _ := by rw [s.wordRow_ready 1 _ h]

theorem exec_waitlockRelease (ht : s.ticking = true) (hr : s.comet.running = true) (hn : s.comet.released = false) :
    exec .waitlockRelease s = .next s.atTick.waitRelease.settle := by
  calc exec .waitlockRelease s = .next (s.tickRow (s.comet.running && !s.comet.released) State.waitRelease).settle := rfl
    _ = _ := by rw [s.tickRow_due _ _ (by rw [hr, hn]; rfl) ht, State.atTick]

theorem State.wordSlots_none (k : SlotKind) (h : bits s.cometWord 15 0 = 0) : s.wordSlots k = s.setComet { s.comet with pc := s.comet.pc + 1 } := if_pos h

theorem State.wordSlots_some (k : SlotKind) (h : bits s.cometWord 15 0 ≠ 0) : s.wordSlots k = s.setComet { s.comet with
    pc := s.comet.pc + 1, kind := k, left := bits s.cometWord 15 0, wordFire := if k = .slot then s.comet.fire else none, wordMarks := s.comet.marks
    fire := none, marks := [], calSel := if k = .calgap then bits s.cometWord 55 48 else 0 } := if_neg h

theorem State.wordLoop_skips (h : bits s.cometWord 15 0 = 0) :
    s.wordLoop = s.setComet { s.comet with pc := matchEnd s.planWords s.planWords.size (s.comet.pc + 1) 1 + 1 } := if_pos h

theorem State.wordLoop_enters (h : bits s.cometWord 15 0 ≠ 0) :
    s.wordLoop = s.setComet { s.comet with loops := (s.comet.pc, bits s.cometWord 15 0) :: s.comet.loops, pc := s.comet.pc + 1 } := if_neg h

theorem State.wordEndloop_inside (a k : Nat) (l : List (Nat × Nat)) (h : s.comet.loops = (a, k) :: l) : s.wordEndloop =
    if 1 < k then s.setComet { s.comet with loops := (a, k - 1) :: l, pc := a + 1 } else s.setComet { s.comet with loops := l, pc := s.comet.pc + 1 } := by
  simp only [State.wordEndloop, h]

theorem State.waitRelease_eq (hr : s.comet.running = true) (hn : s.comet.released = false) : s.waitRelease =
    if s.comet.waitCond &&& s.waitConds = s.comet.waitCond then s.setComet { s.comet with released := true } else s := by
  simp only [State.waitRelease, hr, hn, Bool.not_false, Bool.and_self, Bool.true_and, beq_iff_eq]

/-- A MARK with no destination counts alone. -/
theorem State.markEvent_nowhere (m : MarkEv) (ho : m.toSlotOut = false) (ht : m.toTrig = false) (hh : m.toHk = false) : s.markEvent m = s.tally K.MARKS_ISSUED := by
  simp [State.markEvent, ho, ht, hh]

/-! ### FRAME (R38, R42, R79) -/

/-- FRAME's own registers, before the charger takes its new target. -/
def State.frameStarted : State :=
  ((s.setComet { s.comet with
    startDue := false, pc := s.comet.pc + 1, loops := [], fire := none, marks := [], accum := none, single := none, emit := {}, waitCond := 0, released := true
    frameLen := (frameFields s.cometWord).2.1, frameDone := 0
    frameSeen := if s.comet.frameSeen.contains s.comet.pc then s.comet.frameSeen else s.comet.frameSeen ++ [s.comet.pc]
    frameOrd := frameOrdinal s.comet.frameSeen s.comet.pc, tag := (frameFields s.cometWord).1, resLevel := (frameFields s.cometWord).2.2, groupPos := 0
    groupOrd := 0, singleReset := true, throttleFrame := decide (3 ≤ s.reg K.THROT_STEP), groupMasked := false }).put K.FRAME_COUNT
      ((s.reg K.FRAME_COUNT + 1) % 2 ^ 64)).put K.VLAS_TARGET (frameFields s.cometWord).2.2

theorem State.wordFrame_eq : s.wordFrame = s.frameStarted.resTarget (2000 + 25 * (frameFields s.cometWord).2.2) := rfl

theorem State.frameStarted_keeps : s.keeps s.frameStarted [K.FRAME_COUNT, K.VLAS_TARGET] :=
  (State.keeps.put (State.keeps.of_objs (.refl s _) rfl) K.FRAME_COUNT _ (by decide)).put K.VLAS_TARGET _ (by decide)

/-- A new target moves the reservoir's state and RES_STATE alone. -/
theorem State.resTarget_kept (t : Nat) : (s.resTarget t).comet = s.comet ∧ (s.resTarget t).res.target = t ∧ s.keeps (s.resTarget t) [K.RES_STATE] := by
  have hbleed : ∀ x : State, x.resBleed.comet = x.comet ∧ x.resBleed.res.target = x.res.target ∧ x.keeps x.resBleed [K.RES_STATE] := fun x =>
    ⟨rfl, rfl, ((State.keeps.refl x _).put K.RES_STATE 3 (by decide)).of_objs rfl⟩
  have hramp : ∀ (x : State) (v : Nat), (x.resRamp v).comet = x.comet ∧ (x.resRamp v).res.target = x.res.target ∧ x.keeps (x.resRamp v) [K.RES_STATE] := fun x v =>
    ⟨(congrArg State.comet (x.resRamp_parts v) :), (congrArg Reservoir.target (x.resRamp_effect v).2.1 :), x.resRamp_keeps v⟩
  have hset : s.keeps { s with res := { s.res with target := t } } [K.RES_STATE] := (State.keeps.refl s _).of_objs rfl
  unfold State.resTarget
  dsimp only
  split
  · exact ⟨rfl, rfl, hset⟩
  · split
    · split
      · obtain ⟨hc, ht, hk⟩ := hbleed { s with res := { s.res with target := t } }
        exact ⟨hc, ht, hset.trans hk⟩
      · obtain ⟨hc, ht, hk⟩ := hramp { s with res := { s.res with target := t } } _
        exact ⟨hc, ht, hset.trans hk⟩
    · exact ⟨rfl, rfl, hset⟩

end

end Sys2Proof.Machine
end

section
/-! PROOFS. The obligations of chapter 2 on swaps and words. -/

namespace Sys2Proof.Machine

/-- Refutes O2: the swap also notes the tick of its Pennant bit's event (R309), which the state that the statement writes out does not hold; `armedSwap` has none
noted before. -/
theorem not_planSwap : ¬ Obligations.PlanSwap := by
  unfold Obligations.PlanSwap
  intro ⟨_, hswap⟩
  obtain ⟨hticking, hdue, hat, hstands⟩ := armedSwap_due
  obtain ⟨hnoted, hnone⟩ := armedSwap_events
  have hexec := (hswap armedSwap hticking hdue hat).1 hstands
  rw [exec_planSwapTick _ hticking hdue] at hexec
  have hevents := congrArg (fun t : State => t.penn.events) (Host.Outcome.next.inj hexec)
  rw [State.settle_events, State.settle_events, hnoted] at hevents
  exact absurd (hevents.trans hnone) (by decide)

/-- Settles O4: each control word by its own equation; FRAME's registers are its own and those of the target that it gives the charger. -/
theorem controlWords : Obligations.ControlWords := by
  refine ⟨fun s => ⟨fun h hn => ?_, fun h hn => ?_, fun a k l h hl hk => ?_, fun a k l h hl hk => ?_, fun h => exec_jump s h⟩, fun s h => ?_⟩
  · rw [exec_loop s h, State.wordLoop_enters _ hn]
  · rw [exec_loop s h, State.wordLoop_skips _ hn]
  · rw [exec_endloop s h, State.wordEndloop_inside _ a k l hl, if_pos hk]
  · rw [exec_endloop s h, State.wordEndloop_inside _ a k l hl, if_neg (not_lt.mpr hk)]
  · intro u
    obtain ⟨hcomet, htarget, hregs⟩ := u.frameStarted.resTarget_kept (2000 + 25 * (frameFields u.cometWord).2.2)
    refine ⟨u.wordFrame, exec_frame s h, ?_⟩
    rw [u.wordFrame_eq, hcomet]
    refine ⟨rfl, rfl, rfl, rfl, rfl, rfl, rfl, rfl, rfl, rfl, rfl, rfl, ?_, ?_, htarget, fun k hf hv hr => ?_⟩
    · rw [hregs _ (by decide)]
      exact (State.reg_put_ne _ _ _ _ (by decide)).trans (State.reg_put_self _ _ _)
    · rw [hregs _ (by decide)]
      exact State.reg_put_self _ _ _
    · rw [hregs k (by simpa using hr)]
      exact u.frameStarted_keeps k (by simp [hf, hv])

end Sys2Proof.Machine
end

section
/-! PROOFS. Chapter 2: the slot that starts, its masks and its fires (R35, R40, R41, R60, R70). -/

namespace Sys2Proof.Machine

/-! ### The energy cap (R70) -/

section
variable (s : State)

theorem State.capInForce_iff : s.capInForce = true ↔ 2 ≤ s.shedTick ∨ 4 ≤ s.reg K.THROT_STEP := by simp [State.capInForce]

theorem State.cappedEntry_own (e i : Nat) (h : ¬(2 ≤ s.shedTick ∨ 4 ≤ s.reg K.THROT_STEP) ∨ (energyOf s.plan.active e i).1 ≤ (energyOf s.plan.active e 7).1 / 2) :
    s.cappedEntry e i = some i := by
  rw [← s.capInForce_iff] at h
  refine if_pos ?_
  rcases h with h | h
  · simp [h]
  · simp [State.capWidth, h]

theorem State.cappedEntry_capped (e i : Nat) (hc : 2 ≤ s.shedTick ∨ 4 ≤ s.reg K.THROT_STEP) (hw : (energyOf s.plan.active e 7).1 / 2 < (energyOf s.plan.active e i).1) :
    s.cappedEntry e i = ((List.range 8).filter fun k => decide ((energyOf s.plan.active e k).1 ≤ (energyOf s.plan.active e 7).1 / 2)).getLast? := by
  refine if_neg ?_
  have hcap : s.capWidth e < (energyOf s.plan.active e i).1 := hw
  simp [s.capInForce_iff.mpr hc, hcap]

/-- The last entry below a bound of a list in rising order. -/
theorem getLast?_filter_range (p : Nat → Bool) (n k : Nat) (hk : k < n) (hp : p k = true) (hlast : ∀ j, k < j → j < n → p j = false) :
    ((List.range n).filter p).getLast? = some k := by
  induction n with
  | zero => omega
  | succ n ih =>
    rw [List.range_succ, List.filter_append]
    rcases Nat.lt_or_ge k n with h | h
    · have hn : p n = false := hlast n h (by omega)
      simpa [hn] using ih h fun j hj hjn => hlast j hj (by omega)
    · have hkn : k = n := by omega
      subst hkn
      simp [hp]

/-! ### The masks of a slot (Table 2.9) -/

/-- A sum of weighted truth values has them as its bits. -/
theorem bitAt_ofBools (b0 b1 b2 b3 b4 b5 : Bool) : let m := ofBool b0 + 2 * ofBool b1 + 4 * ofBool b2 + 8 * ofBool b3 + 16 * ofBool b4 + 32 * ofBool b5
    bitAt m 0 = b0 ∧ bitAt m 1 = b1 ∧ bitAt m 2 = b2 ∧ bitAt m 4 = b4 ∧ bitAt m 5 = b5 := by
  revert b0 b1 b2 b3 b4 b5
  decide

theorem State.maskBits_bits (l2 : Bool) : bitAt (s.maskBits l2) 0 = l2 ∧ bitAt (s.maskBits l2) 1 = decide (3 ≤ s.shedTick)
    ∧ bitAt (s.maskBits l2) 2 = (s.comet.throttleFrame && s.reg K.FRAME_COUNT % 2 == 1) ∧ bitAt (s.maskBits l2) 4 = s.fireWithheldByMode
    ∧ bitAt (s.maskBits l2) 5 = !s.comet.released := bitAt_ofBools ..

/-- The masks of the slot that Comet makes. -/
def State.slotMask : Nat := s.maskBits (s.l2Masks s.groupMaskNow)

/-- L3, or an odd frame of throttle step 3, takes the slot's whole work. -/
theorem State.maskNoWork_iff : maskNoWork s.slotMask = true ↔ 3 ≤ s.shedTick ∨ (s.comet.throttleFrame = true ∧ s.reg K.FRAME_COUNT % 2 = 1) := by
  obtain ⟨_, h1, h2, _⟩ := s.maskBits_bits (s.l2Masks s.groupMaskNow)
  simp only [maskNoWork, State.slotMask, h1, h2]
  simp

/-- L2 alternates frame slots outside groups and groups as a whole. -/
theorem State.l2Masks_iff (hk : s.comet.kind = .slot) : s.l2Masks s.groupMaskNow = true ↔ 2 ≤ s.shedTick ∧ ((s.comet.accum = none ∧ s.comet.frameDone % 2 = 1)
    ∨ (s.comet.accum.isSome = true ∧ ((s.comet.groupPos = 0 ∧ s.comet.groupOrd % 2 = 1) ∨ (s.comet.groupPos ≠ 0 ∧ s.comet.groupMasked = true)))) := by
  simp only [State.l2Masks, State.groupMaskNow, State.nextGroupPos, hk]
  cases ha : s.comet.accum with
  | none => simp
  | some a =>
    by_cases h0 : s.comet.groupPos = 0
    · simp [h0]
    · simp [h0]

theorem State.fireWithheldByMode_iff : s.fireWithheldByMode = true ↔ s.mode = .survey ∨ s.mode = .safeHold ∨ (s.mode = .degraded ∧ s.ensB.surveyFrom = true) := by
  simp [State.fireWithheldByMode, or_assoc]

theorem State.maskWithholds_iff (hk : s.comet.kind = .slot) : maskWithholds s.slotMask = true ↔
    (3 ≤ s.shedTick ∨ (s.comet.throttleFrame = true ∧ s.reg K.FRAME_COUNT % 2 = 1))
    ∨ (2 ≤ s.shedTick ∧ ((s.comet.accum = none ∧ s.comet.frameDone % 2 = 1)
      ∨ (s.comet.accum.isSome = true ∧ ((s.comet.groupPos = 0 ∧ s.comet.groupOrd % 2 = 1) ∨ (s.comet.groupPos ≠ 0 ∧ s.comet.groupMasked = true)))))
    ∨ (s.mode = .survey ∨ s.mode = .safeHold ∨ (s.mode = .degraded ∧ s.ensB.surveyFrom = true)) ∨ s.comet.released = false := by
  obtain ⟨h0, _, _, h4, h5⟩ := s.maskBits_bits (s.l2Masks s.groupMaskNow)
  rw [← s.maskNoWork_iff, ← s.l2Masks_iff hk, ← s.fireWithheldByMode_iff]
  simp only [maskWithholds, State.slotMask, h0, h4, h5, Bool.or_eq_true, Bool.not_eq_true', or_assoc]

/-! ### The slot's fires (R60, R67, R70) -/

theorem State.slotFires_none (m : Nat) (h : s.comet.kind ≠ .slot ∨ maskWithholds m = true ∨ s.locked = false ∨ s.comet.wordFire = none) : s.slotFires m = ([], 0) := by
  unfold State.slotFires
  split
  next fw hfw =>
    rw [if_neg]
    rcases h with h | h | h | h
    · simp [h]
    · simp [h]
    · simp [h]
    · rw [hfw] at h
      cases h
  · rfl

theorem State.slotFires_some (m : Nat) (fw : FireWord) (hk : s.comet.kind = .slot) (hm : maskWithholds m = false) (hl : s.locked = true)
    (hw : s.comet.wordFire = some fw) : s.slotFires m =
    (((bitsSet fw.emask 16).map fun e => (e, s.cappedEntry e fw.eidx)).filterMap fun p => p.2.map (s.fireCmd fw p.1),
      sumNat ((((bitsSet fw.emask 16).map fun e => (e, s.cappedEntry e fw.eidx)).filter fun p => p.2.isNone).map fun p => 2 ^ p.1)) := by
  simp only [State.slotFires, hw, hk, hm, hl]
  rfl

theorem mem_bitsSet (v n i : Nat) : i ∈ bitsSet v n ↔ i < n ∧ bitAt v i = true := by simp [bitsSet]

/-- Each emitter of the FIRE's EMASK that has an entry fires at it. -/
theorem State.mem_slotFires (fw : FireWord) (f : FireCmd) :
    f ∈ ((bitsSet fw.emask 16).map fun e => (e, s.cappedEntry e fw.eidx)).filterMap (fun p => p.2.map (s.fireCmd fw p.1)) ↔
    f.emitter < 16 ∧ bitAt fw.emask f.emitter = true ∧ s.cappedEntry f.emitter fw.eidx = some f.eidx ∧ f = s.fireCmd fw f.emitter f.eidx := by
  simp only [List.mem_filterMap, List.mem_map, mem_bitsSet, Option.map_eq_some_iff]
  constructor
  · rintro ⟨_, ⟨e, ⟨he, hb⟩, rfl⟩, i, hi, rfl⟩
    exact ⟨he, hb, hi, rfl⟩
  · rintro ⟨he, hb, hi, hf⟩
    exact ⟨_, ⟨f.emitter, ⟨he, hb⟩, rfl⟩, f.eidx, hi, hf.symm⟩

theorem sumNat_eq_zero (l : List Nat) : sumNat l = 0 ↔ ∀ n ∈ l, n = 0 := by
  have hsum : sumNat l = l.sum := (List.sum_eq_foldl ..).symm
  rw [hsum, List.sum_eq_zero_iff]

/-- The emitters that the cap withholds, as bits. -/
theorem State.capLost_eq (fw : FireWord) :
    sumNat ((((bitsSet fw.emask 16).map fun e => (e, s.cappedEntry e fw.eidx)).filter fun p => p.2.isNone).map fun p => 2 ^ p.1) =
    sumNat (((bitsSet fw.emask 16).filter fun e => (s.cappedEntry e fw.eidx).isNone).map fun e => 2 ^ e) := by
  rw [List.filter_map, List.map_map]
  rfl

/-- The cap touches the slot where it withholds an emitter's fire or changes its entry. -/
theorem State.capTouches_iff (fw : FireWord) :
    (sumNat (((bitsSet fw.emask 16).filter fun e => (s.cappedEntry e fw.eidx).isNone).map fun e => 2 ^ e) ≠ 0
      ∨ (((bitsSet fw.emask 16).map fun e => (e, s.cappedEntry e fw.eidx)).filterMap fun p => p.2.map (s.fireCmd fw p.1)).any (fun f => f.eidx != fw.eidx) = true) ↔
    ∃ e < 16, bitAt fw.emask e = true ∧ s.cappedEntry e fw.eidx ≠ some fw.eidx := by
  rw [ne_eq, sumNat_eq_zero]
  simp only [List.any_eq_true, s.mem_slotFires, bne_iff_ne, List.mem_map, List.mem_filter, mem_bitsSet, Option.isNone_iff_eq_none, forall_exists_index, and_imp]
  constructor
  · rintro (h | ⟨f, ⟨he, hb, hi, _⟩, hne⟩)
    · by_contra hno
      push Not at hno
      refine h fun n e he hb hn _ => ?_
      rw [hno e he hb] at hn
      cases hn
    · exact ⟨f.emitter, he, hb, by rw [hi]; simpa using hne⟩
  · rintro ⟨e, he, hb, hne⟩
    cases hc : s.cappedEntry e fw.eidx with
    | none => exact .inl fun h => by simpa using h (2 ^ e) e he hb hc rfl
    | some i => exact .inr ⟨s.fireCmd fw e i, ⟨he, hb, hc, rfl⟩, by rw [hc] at hne; simpa [State.fireCmd] using hne⟩

/-! ### The slot that starts (R12, R35, R40) -/

/-- What the masks touch: they withhold work of the slot, or change a fire. -/
theorem State.maskTouches_other (hk : s.comet.kind ≠ .slot) : s.maskTouches s.slotMask 0 [] = maskNoWork s.slotMask := by
  cases hw : s.comet.wordFire <;> simp [State.maskTouches, hk, hw]

theorem State.maskTouches_withheld (n : Nat) (l : List FireCmd) (hk : s.comet.kind = .slot) (h : maskWithholds s.slotMask = true) :
    s.maskTouches s.slotMask n l = true := by
  have hb : (maskNoWork s.slotMask || (bitAt s.slotMask 0 || bitAt s.slotMask 4 || bitAt s.slotMask 5)) = true := by
    simpa [maskWithholds, Bool.or_assoc] using h
  simp only [State.maskTouches, hk, beq_self_eq_true, Bool.true_and, hb, Bool.true_or]

theorem State.maskTouches_passed (n : Nat) (l : List FireCmd) (h : maskWithholds s.slotMask = false) :
    s.maskTouches s.slotMask n l = true ↔ n ≠ 0 ∨ ∃ fw, s.comet.wordFire = some fw ∧ (l.any fun f => f.eidx != fw.eidx) = true := by
  have hb : (maskNoWork s.slotMask || (s.comet.kind == .slot && (bitAt s.slotMask 0 || bitAt s.slotMask 4 || bitAt s.slotMask 5))) = false := by
    have hb' : maskNoWork s.slotMask = false ∧ (bitAt s.slotMask 0 || bitAt s.slotMask 4 || bitAt s.slotMask 5) = false := by
      simpa [maskWithholds, and_assoc] using h
    simp [hb'.1, hb'.2]
  simp only [State.maskTouches, hb, Bool.false_or]
  cases hw : s.comet.wordFire <;> simp

variable (x sh : SlotSamples)

theorem State.formSlot_still (h : ¬(s.comet.running = true ∧ 0 < s.comet.left)) :
    (s.formSlot x sh).1 = s.put K.MASK_NOW s.maskShow ∧ (s.formSlot x sh).2.live = false ∧ (s.formSlot x sh).2.fires = [] := by
  have hp : (s.comet.running && decide (0 < s.comet.left)) = false := by simpa using h
  simp [State.formSlot, hp]

/-- The context of the slot that Comet makes is that of its word, and the slot is counted where a mask touches it or WAITLOCK withholds it. -/
theorem State.formSlot_made (h : s.comet.running = true ∧ 0 < s.comet.left) :
    (s.formSlot x sh).1 = ((((s.put K.MASK_NOW s.maskShow).onlyIf (s.cometSlot s.slotMask).masked fun s => s.count K.MASKED_SLOTS).onlyIf
      (s.comet.kind == .slot && bitAt s.slotMask 5) fun s => s.count K.WITHHELD_SLOTS).setComet (s.comet.produced s.nextGroupPos s.groupMaskNow)) := by
  have hp : (s.comet.running && decide (0 < s.comet.left)) = true := by simpa using h
  have hcomet : ∀ (u : State) (c : Bool) (k : Nat), (u.onlyIf c fun s => s.count k).comet = u.comet := fun u c k => by cases c <;> rfl
  simp only [State.formSlot, hp, if_true, State.nextGroupPos, hcomet]
  rfl

/-- The parts of a slot's context that come from Comet. -/
structure SameWord (c d : SlotCtx) : Prop where
  live : c.live = d.live
  kind : c.kind = d.kind
  frameSlot : c.frameSlot = d.frameSlot
  marks : c.marks = d.marks
  tag : c.tag = d.tag
  emit : c.emit = d.emit
  noEcho : c.noEcho = d.noEcho
  fires : c.fires = d.fires
  accum : c.accum = d.accum
  single : c.single = d.single
  groupPos : c.groupPos = d.groupPos
  withheld : c.withheld = d.withheld
  capLost : c.capLost = d.capLost

theorem State.formSlot_word (h : s.comet.running = true ∧ 0 < s.comet.left) : SameWord (s.formSlot x sh).2 (s.cometSlot s.slotMask) := by
  have hp : (s.comet.running && decide (0 < s.comet.left)) = true := by simpa using h
  constructor <;> (simp only [State.formSlot, hp, if_true]; rfl)

/-- WAITLOCK shows in the masks until it is released. -/
theorem State.slotMask_waitlock : bitAt s.slotMask 5 = true ↔ s.comet.released = false := by
  obtain ⟨_, _, _, _, h5⟩ := s.maskBits_bits (s.l2Masks s.groupMaskNow)
  simp [State.slotMask, h5]

theorem State.reg_counted (u : State) (c : Bool) (k j : Nat) :
    (u.onlyIf c fun s => s.count k).reg j = if j = k ∧ c = true then incSat 32 (u.reg k) else u.reg j := by
  cases c
  · simp [State.onlyIf]
  · by_cases hj : j = k
    · subst hj
      simp [State.onlyIf, State.count, State.reg_put_self]
    · simp only [State.onlyIf, if_true, State.count, hj, false_and, if_false]
      exact u.reg_put_ne k j _ hj

theorem State.formSlot_reg (h : s.comet.running = true ∧ 0 < s.comet.left) (k : Nat) :
    (s.formSlot x sh).1.reg k = if k = K.WITHHELD_SLOTS ∧ (s.comet.kind == .slot && bitAt s.slotMask 5) = true then incSat 32 (s.reg K.WITHHELD_SLOTS)
      else if k = K.MASKED_SLOTS ∧ (s.cometSlot s.slotMask).masked = true then incSat 32 (s.reg K.MASKED_SLOTS)
      else if k = K.MASK_NOW then s.maskShow else s.reg k := by
  have hcomet : ∀ (u : State) (c : Comet) (j : Nat), (u.setComet c).reg j = u.reg j := fun _ _ _ => rfl
  rw [s.formSlot_made x sh h, hcomet]
  simp only [State.reg_counted, State.reg_put, K.WITHHELD_SLOTS, K.MASKED_SLOTS, K.MASK_NOW, Nat.reduceEqDiff, false_and, if_false]
  rfl

theorem State.formSlot_masked (h : s.comet.running = true ∧ 0 < s.comet.left) :
    (s.formSlot x sh).1.reg K.MASKED_SLOTS = if (s.cometSlot s.slotMask).masked = true then incSat 32 (s.reg K.MASKED_SLOTS) else s.reg K.MASKED_SLOTS := by
  rw [s.formSlot_reg x sh h]
  simp only [K.WITHHELD_SLOTS, K.MASKED_SLOTS, K.MASK_NOW, Nat.reduceEqDiff, false_and, true_and, if_false]

theorem State.formSlot_withheld (h : s.comet.running = true ∧ 0 < s.comet.left) :
    (s.formSlot x sh).1.reg K.WITHHELD_SLOTS = if s.comet.kind = .slot ∧ s.comet.released = false then incSat 32 (s.reg K.WITHHELD_SLOTS) else s.reg K.WITHHELD_SLOTS := by
  rw [s.formSlot_reg x sh h]
  simp only [Bool.and_eq_true, beq_iff_eq, s.slotMask_waitlock, K.WITHHELD_SLOTS, K.MASKED_SLOTS, K.MASK_NOW, Nat.reduceEqDiff, false_and, true_and, if_false]

/-- Comet after a slot: the word, the frame and a group go on by one. -/
theorem Comet.produced_group (c : Comet) (pos n w : Nat) (m : Bool) (h : c.accum = some (n, w)) :
    (n ≤ pos → (c.produced pos m).groupPos = 0 ∧ (c.produced pos m).groupOrd = c.groupOrd + 1)
    ∧ (pos < n → (c.produced pos m).groupPos = pos ∧ (c.produced pos m).groupOrd = c.groupOrd) := by
  simp only [Comet.produced, h]
  exact ⟨fun hn => by simp [hn], fun hn => by simp [Nat.not_le.mpr hn]⟩

/-- A slot of another kind than SLOT fires nothing and has no group. -/
theorem State.cometSlot_other (hk : s.comet.kind ≠ .slot) : (s.cometSlot s.slotMask).fires = [] ∧ (s.cometSlot s.slotMask).accum = none
    ∧ (s.cometSlot s.slotMask).single = none ∧ (s.cometSlot s.slotMask).groupPos = 0 ∧ (s.cometSlot s.slotMask).masked = maskNoWork s.slotMask := by
  simp [State.cometSlot, State.nextGroupPos, hk, s.slotFires_none _ (.inl hk), s.maskTouches_other hk]

/-- A slot whose fire a mask withholds. -/
theorem State.cometSlot_withheld (hk : s.comet.kind = .slot) (h : maskWithholds s.slotMask = true) :
    (s.cometSlot s.slotMask).fires = [] ∧ (s.cometSlot s.slotMask).withheld = true ∧ (s.cometSlot s.slotMask).masked = true := by
  simp [State.cometSlot, hk, h, s.slotFires_none _ (.inr (.inl h)), s.maskTouches_withheld 0 [] hk h]

/-- A slot in lock loss, or without a FIRE. -/
theorem State.cometSlot_unfired (h : s.locked = false ∨ s.comet.wordFire = none) :
    (s.cometSlot s.slotMask).fires = [] ∧ (maskWithholds s.slotMask = false → (s.cometSlot s.slotMask).masked = false) := by
  have hf := s.slotFires_none s.slotMask (.inr (.inr h))
  refine ⟨by simp [State.cometSlot, hf], fun hm => ?_⟩
  have ht : ¬s.maskTouches s.slotMask 0 [] = true := by
    rw [s.maskTouches_passed _ _ hm]
    simp
  simpa [State.cometSlot, hf] using ht

/-- A slot that fires: its commands, the emitters that the cap withholds, and whether the cap touches it. -/
theorem State.cometSlot_fires (fw : FireWord) (hk : s.comet.kind = .slot) (hm : maskWithholds s.slotMask = false) (hl : s.locked = true)
    (hw : s.comet.wordFire = some fw) : (s.cometSlot s.slotMask).withheld = false
    ∧ (∀ f, f ∈ (s.cometSlot s.slotMask).fires ↔ f.emitter < 16 ∧ bitAt fw.emask f.emitter = true ∧ s.cappedEntry f.emitter fw.eidx = some f.eidx
      ∧ f = s.fireCmd fw f.emitter f.eidx)
    ∧ (s.cometSlot s.slotMask).capLost = sumNat (((bitsSet fw.emask 16).filter fun e => (s.cappedEntry e fw.eidx).isNone).map fun e => 2 ^ e)
    ∧ ((s.cometSlot s.slotMask).masked = true ↔ ∃ e < 16, bitAt fw.emask e = true ∧ s.cappedEntry e fw.eidx ≠ some fw.eidx) := by
  have hf := s.slotFires_some s.slotMask fw hk hm hl hw
  refine ⟨by simp [State.cometSlot, hm], fun f => ?_, ?_, ?_⟩
  · simp only [State.cometSlot, hf, s.mem_slotFires]
  · simp only [State.cometSlot, hf, s.capLost_eq]
  · simp only [State.cometSlot, hf, s.maskTouches_passed _ _ hm, hw, Option.some.injEq, exists_eq_left', s.capLost_eq]
    exact s.capTouches_iff fw

end

end Sys2Proof.Machine
end


section
/-! PROOFS. The obligation of chapter 2 on the slot that starts. -/

namespace Sys2Proof.Machine

/-- Settles O3: each word by its equation; the slot that starts by the masks of Table 2.9 and the entries that the cap leaves. -/
theorem slotAndStateWords : Obligations.SlotAndStateWords := by
  unfold Obligations.SlotAndStateWords
  refine ⟨⟨fun s => ⟨?_, ?_, ?_, ?_, ?_⟩, fun s h => exec_fire s h, fun s hm h => exec_mark_word s hm h, fun s m l h ho ht hh => ?_⟩,
    ⟨fun s => ⟨fun h => exec_single s h, fun h => exec_accum s h, fun h => exec_emit s h, fun h => exec_waitlock s h⟩, fun s ht hr hn hr' hn' => ?_⟩,
    fun s x sh => ?_, fun s e i => ⟨fun h => s.cappedEntry_own e i ?_, fun hc hw hall => ?_, fun hc hw k hk hle hlast => ?_⟩⟩
  · intro h hn; rw [exec_slot s h, State.wordSlots_some _ _ hn]; rfl
  · intro h hn; rw [exec_calgap s h, State.wordSlots_some _ _ hn]; rfl
  · intro h hn; rw [exec_testgap s h, State.wordSlots_some _ _ hn]; rfl
  · intro h hn; rw [exec_idle s h, State.wordSlots_some _ _ hn]; rfl
  · intro h hn; rw [exec_slot s h, State.wordSlots_none _ _ hn]
  · rw [exec_mark_event s m l h, State.markEvent_nowhere _ m ho ht hh]; rfl
  · rw [exec_waitlockRelease s ht hr hn, State.waitRelease_eq _ hr' hn']
    exact ⟨fun h => by rw [if_pos h], fun h => by rw [if_neg h]⟩
  · intro r c q makes dark alternate byMode noFire
    have hnoFire : q.kind = .slot → (maskWithholds s.slotMask = true ↔ noFire) := fun hk => s.maskWithholds_iff hk
    have hdark : maskNoWork s.slotMask = true ↔ dark := s.maskNoWork_iff
    refine ⟨fun k hn hm hw => ?_, fun hno => ?_, fun hmk => ?_⟩
    · by_cases hmk : makes
      · simp only [r, s.formSlot_reg x sh hmk, hn, hm, hw, false_and, if_false]
      · simp only [r, (s.formSlot_still x sh hmk).1]
        exact s.reg_put_ne _ _ _ hn
    · obtain ⟨hr, hl, hf⟩ := s.formSlot_still x sh hno
      refine ⟨hl, hf, ?_, ?_, ?_⟩
      · simp only [r, hr]; rfl
      · simp only [r, hr]; exact s.reg_put_ne _ _ _ (by decide)
      · simp only [r, hr]; exact s.reg_put_ne _ _ _ (by decide)
    · have hword := s.formSlot_word x sh hmk
      have hcomet : r.1.comet = q.produced s.nextGroupPos s.groupMaskNow := by simp only [r, s.formSlot_made x sh hmk]; rfl
      have hmasked : r.1.reg K.MASKED_SLOTS = _ := s.formSlot_masked x sh hmk
      have hwithheld : r.1.reg K.WITHHELD_SLOTS = _ := s.formSlot_withheld x sh hmk
      refine ⟨hword.live, hword.kind, hword.frameSlot, hword.marks, hword.tag, hword.emit, by rw [hcomet]; rfl, by rw [hcomet]; rfl, by rw [hcomet]; rfl,
        by rw [hcomet]; rfl, ?_, fun hk => ?_, fun hk => ?_⟩
      · rw [hword.noEcho, ← hdark]
        simp [State.cometSlot]
      · obtain ⟨hf, ha, hs, hg, hm⟩ := s.cometSlot_other hk
        refine ⟨hword.fires.trans hf, hword.accum.trans ha, hword.single.trans hs, hword.groupPos.trans hg, ?_, ?_⟩
        · rw [hwithheld, if_neg fun h => hk h.1]
        · rw [hmasked, hm]
          simp only [hdark]
      · have hgroup : ∀ n w, q.accum = some (n, w) → s.nextGroupPos = q.groupPos + 1 := fun n w ha => by
          have ha' : s.comet.accum = some (n, w) := ha
          simp [State.nextGroupPos, ha', show s.comet.kind = .slot from hk, q]
        refine ⟨hword.accum.trans (if_pos hk), hword.single.trans (if_pos hk), fun n w ha => ?_, ?_, fun hn => ?_, fun hun => ?_, fun hn hun => ?_,
          fun fw hl hn hw => ?_⟩
        · obtain ⟨hfull, hinside⟩ := q.produced_group (q.groupPos + 1) n w s.groupMaskNow ha
          rw [hword.groupPos, hcomet, hgroup n w ha]
          exact ⟨hgroup n w ha, hfull, hinside⟩
        · rw [hwithheld]
          exact if_congr (and_iff_right hk) rfl rfl
        · obtain ⟨hf, hw, hm⟩ := s.cometSlot_withheld hk ((hnoFire hk).mpr hn)
          exact ⟨hword.fires.trans hf, hword.withheld.trans hw, by rw [hmasked, if_pos hm]⟩
        · exact hword.fires.trans (s.cometSlot_unfired hun).1
        · have hm := (s.cometSlot_unfired hun).2 (Bool.not_eq_true _ ▸ mt (hnoFire hk).mp hn)
          rw [hmasked, hm, if_neg Bool.false_ne_true]
        · obtain ⟨hwh, hfires, hlost, hm⟩ := s.cometSlot_fires fw hk (Bool.not_eq_true _ ▸ mt (hnoFire hk).mp hn) hl hw
          refine ⟨hword.withheld.trans hwh, fun f => ?_, hword.capLost.trans hlost, fun hc => ?_, fun hc => ?_⟩
          · rw [hword.fires]
            exact hfires f
          · rw [hmasked, if_pos (hm.mpr hc)]
          · rw [hmasked, if_neg (mt hm.mp hc)]
  · exact h
  · rw [s.cappedEntry_capped e i hc hw, List.getLast?_eq_none_iff, List.filter_eq_nil_iff]
    intro k hk
    simpa using hall k (List.mem_range.mp hk)
  · rw [s.cappedEntry_capped e i hc hw]
    exact getLast?_filter_range _ 8 k hk (by simpa using hle) fun j hj hj8 => by simpa using hlast j hj hj8

end Sys2Proof.Machine
end

section
/-! PROOFS. Chapter 11: host writes of registers whose checks pass (R281, R282). -/

namespace Sys2Proof.Machine

/-- The bytes of a value, the lowest first, give the value back. -/
theorem ofLe_leBytes (n v : Nat) (h : v < 256 ^ n) : ofLe (leBytes n v) = v := by
  induction n generalizing v with
  | zero => simp [leBytes, ofLe] at h ⊢; omega
  | succ n ih =>
    have hq : v / 256 < 256 ^ n := Nat.div_lt_of_lt_mul (by rw [pow_succ] at h; omega)
    rw [leBytes, ofLe, ih _ hq, BitVec.toNat_ofNat]
    omega

theorem HostAt.write_value (a : HostAt) (v : Nat) (h : v < 256) : ofLe (a.write 1 v).data = v := ofLe_leBytes 1 v (by simpa using h)

section
variable (s : State)

/-- A write that the checks accept has its register's effect. -/
theorem State.hostWrite_accepted (k : Nat) (w : HostWrite) (r : ObjRow) (hr : objRow? k = some r) (hs : (r.acc == .rws) = false) (h : s.accepts k w = true) :
    s.hostWrite k w = noteResult w.path (s.writeReg w.path.num k (ofLe w.data) w.cc w.ecc) := by
  simp only [State.accepts, hr, Option.any_some, Bool.and_eq_true, Bool.not_eq_true', bne_iff_ne, beq_iff_eq] at h
  obtain ⟨⟨ha, hp⟩, ⟨hd, hc⟩, hf⟩ := h
  rw [s.hostWrite_ok k w r ha hp hr hd hf (by simpa using hc), hs, s.onlyIf_false _ _ rfl]

end

end Sys2Proof.Machine
end

section
/-! PROOFS. Chapter 7: the comparators, TRIG_IN, the timer and what arrives at the trigger engine (R185 to R190). -/

namespace Sys2Proof.Machine

/-! ### Arrivals (R185) -/

/-- A list of arrivals takes a new one and loses none. -/
theorem mem_arrive (a b : Arrival) (l : List Arrival) : b ∈ arrive a l ↔ b = a ∨ b ∈ l := by
  induction l with
  | nil => simp [arrive]
  | cons c l ih =>
    simp only [arrive]
    split
    · simp
    · simp only [List.mem_cons, ih]
      tauto

section
variable (s : State)

theorem State.sends_keeps (a : Arrival) : s.keeps (s.sends a) [] := (State.keeps.refl s _).of_objs rfl

theorem State.sends_arrivals (a : Arrival) : (s.sends a).trg.arrivals = arrive { a with cc := max a.cc (s.trg.clock + 1) } s.trg.arrivals := rfl

/-- A comparator's new state, LEVEL on its way. -/
theorem State.compTo_eq (ch : Nat) (up : Bool) (e : Int) : (s.compTo ch up e).trg = { s.trg with
    comp := setAt false s.trg.comp ch up
    arrivals := arrive { cc := max (e / 256 + 40) (s.trg.clock + 1), pos := ch, src := 0, on := up, stamp := s.stampFt e
                         stamped := s.chanLive ch && s.locked } s.trg.arrivals } := rfl

theorem State.compTo_keeps (ch : Nat) (up : Bool) (e : Int) : s.keeps (s.compTo ch up e) [] := (State.keeps.refl s _).of_objs rfl

/-! ### The states of a comparator (R187, R351) -/

theorem State.compState_above (ch : Nat) (v : Int) (h : s.reg (K.COMP_POL ch) = 0) : s.compState ch false v = decide (s.compLevel ch ≤ v)
    ∧ s.compState ch true v = decide (s.compLevel ch - (s.reg (K.COMP_HYST ch) : Int) ≤ v) := by simp [State.compState, schmitt, h]

theorem State.compState_below (ch : Nat) (v : Int) (h : s.reg (K.COMP_POL ch) ≠ 0) : s.compState ch false v = decide (v ≤ s.compLevel ch)
    ∧ s.compState ch true v = decide (v ≤ s.compLevel ch + (s.reg (K.COMP_HYST ch) : Int)) := by simp [State.compState, schmitt, h]

/-- A threshold that changes judges the last input of its comparator. -/
theorem State.compCommit_one (ch : Nat) (v cc : Int) (h : s.trg.inputs.getD ch none = some v) :
    s.compCommit [ch] cc = if s.compState ch (s.trg.comp.getD ch false) v = s.trg.comp.getD ch false then s
      else s.compTo ch (s.compState ch (s.trg.comp.getD ch false) v) (256 * cc) := by
  simp only [State.compCommit, State.forEach, List.foldl_cons, List.foldl_nil, h]

/-! ### A crossing (R186 to R188) -/

/-- The comparator's input is `v`. -/
def State.inputSeen (ch : Nat) (v : Int) : State := { s with trg := { s.trg with inputs := setAt none s.trg.inputs ch (some v) } }

/-- A crossing that is stamped and not lost: LEVEL and, into the true state, SLOPE. -/
def State.crossed (ch : Nat) (up : Bool) (e : Int) : State :=
  let t := (s.setTrg { s.trg with lastCross := setAt none s.trg.lastCross ch (some e) }).compTo ch up e
  if up then t.sends { cc := e / 256 + 40, pos := ch, src := 1, stamp := s.stampFt e } else t

theorem State.crossed_keeps (ch : Nat) (up : Bool) (e : Int) : s.keeps (s.crossed ch up e) [] := by
  cases up <;> exact (State.keeps.refl s _).of_objs rfl

/-- What a crossing leaves in the trigger engine. -/
theorem State.crossed_trg (ch : Nat) (up : Bool) (e : Int) (hlive : s.chanLive ch = true) (hl : s.locked = true) :
    (s.crossed ch up e).trg.comp = setAt false s.trg.comp ch up ∧ (s.crossed ch up e).trg.lastCross = setAt none s.trg.lastCross ch (some e)
    ∧ (s.crossed ch up e).trg.level = s.trg.level
    ∧ ∀ a, a ∈ (s.crossed ch up e).trg.arrivals ↔ (up = true ∧ a = { cc := max (e / 256 + 40) (s.trg.clock + 1), pos := ch, src := 1, stamp := s.stampFt e })
      ∨ a = { cc := max (e / 256 + 40) (s.trg.clock + 1), pos := ch, src := 0, on := up, stamp := s.stampFt e } ∨ a ∈ s.trg.arrivals := by
  have hstamped : (s.chanLive ch && s.locked) = true := by rw [hlive, hl]; rfl
  have hlevel : ({ cc := max (e / 256 + 40) (s.trg.clock + 1), pos := ch, src := 0, on := up, stamp := s.stampFt e, stamped := s.chanLive ch && s.locked } : Arrival)
      = { cc := max (e / 256 + 40) (s.trg.clock + 1), pos := ch, src := 0, on := up, stamp := s.stampFt e } := by rw [hstamped]
  cases up with
  | false =>
    refine ⟨rfl, rfl, rfl, fun a => ?_⟩
    refine (mem_arrive _ a s.trg.arrivals).trans ?_
    rw [← hlevel]
    simp; rfl
  | true =>
    refine ⟨rfl, rfl, rfl, fun a => ?_⟩
    refine (mem_arrive _ a _).trans ?_
    rw [← hlevel]
    exact or_congr (iff_of_eq (by simp; rfl)) (mem_arrive _ a s.trg.arrivals)

/-- A change of the input of a comparator that the calibration engine has not taken, on a channel that is powered, in a locked slot. -/
theorem State.crossing_live (ch : Nat) (v : Int) (code next : Nat) (hc : s.calTakes ch = false) (hlive : s.chanLive ch = true) (hl : s.locked = true) :
    s.crossing ch v code next = if s.compState ch (s.trg.comp.getD ch false) v = s.trg.comp.getD ch false then s.inputSeen ch v
      else if (s.trg.lastCross.getD ch none).any (fun l => decide ((s.tdcPlace ch code next - l).natAbs < 128)) then (s.inputSeen ch v).count (K.COMP_LOST ch)
      else (s.inputSeen ch v).crossed ch (s.compState ch (s.trg.comp.getD ch false) v) (s.tdcPlace ch code next) := by
  have hc' : (s.inputSeen ch v).calTakes ch = false := hc
  have hl' : (s.inputSeen ch v).chanLive ch = true := hlive
  have hk' : (s.inputSeen ch v).locked = true := hl
  unfold State.crossing
  dsimp only
  refine (if_neg (by rw [show (s.setTrg _).calTakes ch = _ from hc']; decide)).trans ?_
  by_cases hup : s.compState ch (s.trg.comp.getD ch false) v = s.trg.comp.getD ch false
  · rw [if_pos hup, if_pos hup]
    rfl
  · rw [if_neg hup, if_neg hup]
    refine (if_neg (by rw [show (s.setTrg _).chanLive ch = _ from hl', show (s.setTrg _).locked = _ from hk']; decide)).trans ?_
    cases hlast : s.trg.lastCross.getD ch none <;> (simp only [State.setTrg, hlast]; rfl)

theorem exec_comparatorCrossing (ch : Fin 48) (v : Int) (code : Fin 128) (next : Fin 11201) (h : s.mode.coreRuns = true) :
    exec (.comparatorCrossing ch v code next) s = .next (s.crossing ch v code next).settle := by
  calc exec (.comparatorCrossing ch v code next) s = .next (s.core fun s => s.crossing ch v code next).settle := rfl
    _ = _ := by rw [s.core_on _ h]

/-! ### TRIG_IN and the timer (R189) -/

theorem exec_trigInEdge (rising : Bool) (held : Nat) (code : Fin 128) (next : Fin 11201) (h : s.mode.coreRuns = true) :
    exec (.trigInEdge rising held code next) s = .next (s.extEdge rising held code next).settle := by
  calc exec (.trigInEdge rising held code next) s = .next (s.core fun s => s.extEdge rising held code next).settle := rfl
    _ = _ := by rw [s.core_on _ h]

theorem State.extEdge_ignored (rising : Bool) (held code next : Nat) (h : s.locked = false ∨ rising ≠ (s.reg K.EXT_POL == 0) ∨ 5 * held < 3584) :
    s.extEdge rising held code next = s := by
  by_cases hl : s.locked = true
  · refine (if_neg (by simp [hl])).trans (if_neg ?_)
    rw [Bool.and_eq_true, beq_iff_eq, decide_eq_true_eq]
    intro ⟨hr, hh⟩
    rcases h with h | h | h
    · simp [hl] at h
    · exact h hr
    · omega
  · exact if_pos (by simp [hl])

theorem State.extEdge_taken (rising : Bool) (held code next : Nat) (hl : s.locked = true) (hr : rising = (s.reg K.EXT_POL == 0)) (hh : 3584 ≤ 5 * held) :
    s.extEdge rising held code next = s.sends { cc := (if s.calTakesTdc = true then 64 * (next : Int) else s.tdcPlace 48 code next) / 256 + 40, pos := 48
                                                stamp := s.stampFt (if s.calTakesTdc = true then 64 * (next : Int) else s.tdcPlace 48 code next) } :=
  (if_neg (by simp [hl])).trans (if_pos (by rw [Bool.and_eq_true, beq_iff_eq, decide_eq_true_eq]; exact ⟨hr, hh⟩))

theorem exec_trigTimerExpire (h : s.mode.coreRuns = true) : exec .trigTimerExpire s = .next s.timerExpire.settle := by
  calc exec .trigTimerExpire s = .next (s.core State.timerExpire).settle := rfl
    _ = _ := by rw [s.core_on _ h]

theorem State.timerExpire_locked (hr : s.trigRuns = true) (ht : s.trg.timerNext < 2800) (hl : s.locked = true) :
    s.timerExpire = (s.setTrg { s.trg with timerNext := s.trg.timerNext + (max 1 (s.reg K.TRIG_TIMER) : Nat) }).pulseAt 50 (4 * s.trg.timerNext) :=
  (if_pos (by simp [hr, ht])).trans (if_pos hl)

/-! ### What arrives (R185, R186) -/

theorem State.sees_stamps (a : Arrival) : (s.sees a).trg.stamps = if (a.on && a.stamped) = true then storeSet s.trg.stamps (4 * a.pos + a.src) a.stamp else s.trg.stamps := by
  unfold State.sees
  dsimp only
  split <;> split <;> (try split) <;> rfl

theorem State.sees_level (a : Arrival) (hs : a.src = 0) (hp : a.pos < 48) : (s.sees a).trg.level = setAt false s.trg.level a.pos a.on := by
  simp only [State.sees, hs, hp]
  cases a.on && a.stamped <;> rfl

theorem State.sees_maskv (a : Arrival) (hs : a.src = 3) : (s.sees a).trg.maskv = withBit s.trg.maskv a.pos a.on := by
  simp only [State.sees, hs]
  cases a.on && a.stamped <;> rfl

end

end Sys2Proof.Machine
end

section
/-! PROOFS. The obligation of chapter 7 on the trigger sources. -/

namespace Sys2Proof.Machine

/-- Settles O14: each source by its own equation, and what a crossing sends by membership in the arrivals. -/
theorem triggerSources : Obligations.TriggerSources := by
  unfold Obligations.TriggerSources
  refine ⟨fun s ch v l hl => ?_, fun s t ch v cc was up _ hin hwas hup ht => ?_, fun s ch v code next e was up hcore hlive hlock hcal he hwas hup => ?_,
    fun s rising held code next e hcore he => ⟨fun hl hr hh => ?_, fun h => ?_⟩, fun s hcore hr ht hl => ?_, fun s t a ht => ⟨fun hs hp => ?_, fun hs => ?_, fun ho hst => ?_, fun h => ?_⟩⟩
  · subst hl
    exact ⟨s.compState_above ch v, s.compState_below ch v⟩
  · rw [s.compCommit_one ch v cc hin, ← hwas, ← hup] at ht
    refine ⟨fun h => by rw [ht, if_pos h], fun h => ?_⟩
    rw [if_neg h] at ht
    rw [ht]
    exact ⟨by rw [s.compTo_eq, getD_setAt, if_pos rfl], rfl, s.compTo_keeps ch up _, rfl⟩
  · have hcross := s.crossing_live ch v code next hcal hlive hlock
    rw [← hwas, ← hup, ← he] at hcross
    rw [exec_comparatorCrossing s ch v code next hcore, hcross]
    refine ⟨fun hne hfar => ?_, fun l hne hlast hnear => ?_, fun heq => by rw [if_pos heq]; rfl⟩
    · have hany : ¬(s.trg.lastCross.getD ch none).any (fun l => decide ((e - l).natAbs < 128)) = true := by
        simp only [Option.any_eq_true, decide_eq_true_eq, not_exists, not_and, not_lt]
        exact hfar
      obtain ⟨hcomp, hcr, hlevel, harr⟩ := (s.inputSeen ch v).crossed_trg ch up e hlive hlock
      rw [if_neg hne, if_neg hany]
      refine ⟨_, rfl, ?_, ?_, (harr _).mpr (.inr (.inl rfl)), fun hu => (harr _).mpr (.inl ⟨hu, rfl⟩), fun a ha => (harr a).mpr (.inr (.inr ha)), hlevel,
        State.keeps.trans ((State.keeps.refl s _).of_objs rfl) (State.crossed_keeps _ ch up e)⟩
      · rw [hcomp, getD_setAt, if_pos rfl]
      · rw [hcr, getD_setAt, if_pos rfl]
    · rw [if_neg hne, hlast, if_pos (by simpa using hnear)]
      rfl
  · rw [exec_trigInEdge s rising held code next hcore, s.extEdge_taken rising held code next hl hr hh, ← he]
    rfl
  · rw [exec_trigInEdge s rising held code next hcore, s.extEdge_ignored rising held code next h]
  · rw [exec_trigTimerExpire s hcore, s.timerExpire_locked hr ht hl]
    have hcc : 4 * s.trg.timerNext / 4 = s.trg.timerNext := by omega
    have hft : 64 * (4 * s.trg.timerNext) = 256 * s.trg.timerNext := by ring
    simp only [State.pulseAt, hcc, hft]
    rfl
  · rw [ht, s.sees_level a hs hp, getD_setAt, if_pos rfl]
  · rw [ht, s.sees_maskv a hs, bitAt_withBit, if_pos rfl]
  · rw [ht, s.sees_stamps, if_pos (by simp [ho, hst]), storeGet_storeSet_self]
  · rw [ht, s.sees_stamps, if_neg]
    rcases h with h | h <;> simp [h]

end Sys2Proof.Machine
end

section
/-! PROOFS. Chapter 7: the trigger program, declared triggers and the output pulses (R192 to R194, R197, R200, R206, R207). -/

namespace Sys2Proof.Machine

/-! ### A cc of the program (R192, R194) -/

section
variable (s : State) (now : Int) (pulses rose : List (Nat × Nat))

/-- The stage's pattern comes to match, the hold-off over. -/
def State.stageHit : Bool :=
  s.stageMatch s.trg.prog.stage pulses && !s.trg.prog.matched && decide ((bits (s.reg (K.TRIG_CTRL s.trg.prog.stage)) 47 24 : Int) ≤ now - s.trg.prog.entered)

theorem State.stageHit_iff : s.stageHit now pulses = true ↔ s.stageMatch s.trg.prog.stage pulses = true ∧ s.trg.prog.matched = false
    ∧ (bits (s.reg (K.TRIG_CTRL s.trg.prog.stage)) 47 24 : Int) ≤ now - s.trg.prog.entered := by
  simp [State.stageHit, and_assoc]

variable (hd : s.trg.prog.declare = none) (he : s.trg.prog.entered ≤ now)
include hd he

theorem State.progCc_idle (hh : s.stageHit now pulses = false) :
    s.progCc now pulses rose = s.setProg { s.trg.prog with matched := s.stageMatch s.trg.prog.stage pulses } := by
  have hh' := hh
  unfold State.stageHit at hh
  unfold State.progCc
  dsimp only
  rw [if_neg (by simp [hd, he]), hh]
  rfl

theorem State.progCc_hit (hh : s.stageHit now pulses = true) (hn : bits (s.reg (K.TRIG_CTRL s.trg.prog.stage)) 63 48 ≠ s.trg.prog.hits + 1) :
    s.progCc now pulses rose = s.setProg { s.trg.prog with hits := s.trg.prog.hits + 1, matched := true } := by
  have hm := ((s.stageHit_iff now pulses).mp hh).1
  unfold State.stageHit at hh
  unfold State.progCc
  dsimp only
  rw [if_neg (by simp [hd, he]), hh, if_pos rfl, if_neg (by simpa using fun _ => Ne.symm hn), hm]

theorem State.progCc_next (hh : s.stageHit now pulses = true) (hn : bits (s.reg (K.TRIG_CTRL s.trg.prog.stage)) 63 48 = s.trg.prog.hits + 1)
    (hl : s.trg.prog.stage + 1 < s.reg K.TRIG_NSTAGES) :
    s.progCc now pulses rose = s.setProg { stage := s.trg.prog.stage + 1, entered := now + 1 } := by
  unfold State.stageHit at hh
  unfold State.progCc
  dsimp only
  rw [if_neg (by simp [hd, he]), hh, if_pos rfl, if_pos (by simp [hn]), if_pos hl]

theorem State.progCc_last (hh : s.stageHit now pulses = true) (hn : bits (s.reg (K.TRIG_CTRL s.trg.prog.stage)) 63 48 = s.trg.prog.hits + 1)
    (hl : s.reg K.TRIG_NSTAGES ≤ s.trg.prog.stage + 1) :
    s.progCc now pulses rose = (s.reference s.trg.prog.stage rose).2.setProg { s.trg.prog with
      hits := bits (s.reg (K.TRIG_CTRL s.trg.prog.stage)) 63 48, matched := true
      declare := some (now + 2, (s.reference s.trg.prog.stage rose).1.1, (s.reference s.trg.prog.stage rose).1.2) } := by
  have hm := ((s.stageHit_iff now pulses).mp hh).1
  unfold State.stageHit at hh
  unfold State.progCc
  dsimp only
  rw [if_neg (by simp [hd, he]), hh, if_pos rfl, if_pos (by simp [hn]), if_neg (Nat.not_lt.mpr hl), hm, hn]

end

section
variable (s : State)

theorem State.reference_position (st : Nat) (rose : List (Nat × Nat)) (h : bitAt (s.reg (K.TRIG_CTRL st)) 17 = false) :
    s.reference st rose = ((bits (s.reg (K.TRIG_CTRL st)) 23 18, s.stampOf st (bits (s.reg (K.TRIG_CTRL st)) 23 18)), s) :=
  if_pos (by simp [h])

theorem State.reference_earliest (st q : Nat) (rose : List (Nat × Nat)) (h : bitAt (s.reg (K.TRIG_CTRL st)) 17 = true)
    (hq : s.earliest st ((List.range 52).filter fun k => s.stagePat st k == 1 && rose.contains (k, if k < 48 then s.stageSrc st k else 0)) = some q) :
    s.reference st rose = ((q, s.stampOf st q), s) := by
  refine (if_neg (by simp [h])).trans ?_
  simp only [hq]

/-! ### The capture's feeding leaves the trigger engine as it is but for TRIG_OUT (R206) -/

/-- Two states with the same trigger engine, but for the level of TRIG_OUT. -/
def State.sameTrg (s t : State) : Prop := t.trg = { s.trg with out := t.trg.out }

end

theorem State.sameTrg.refl (s : State) : s.sameTrg s := rfl

theorem State.sameTrg.trans {s t u : State} (h : s.sameTrg t) (h' : t.sameTrg u) : s.sameTrg u := by
  unfold State.sameTrg at *
  rw [h', h]

theorem State.sameTrg.of_eq {s t : State} (h : t.trg = s.trg) : s.sameTrg t := by
  unfold State.sameTrg
  rw [h]

theorem State.stageChan_trg (s : State) (k ch n : Nat) (before : Int) (l : List Int) : (s.stageChan k ch n before l).trg = s.trg := by
  refine foldl_rel (fun s t : State => t.trg = s.trg) (fun _ => rfl) (fun h h' => h'.trans h) _ (s.ringWrites k n before l) ?_ s
  exact fun _ _ _ => rfl

theorem State.stageTo_trg (s : State) (n : Nat) : (s.stageTo n).trg = s.trg := by
  unfold State.stageTo
  dsimp only
  split
  · rfl
  · exact foldl_rel (fun s t : State => t.trg = s.trg) (fun _ => rfl) (fun h h' => h'.trans h) _ _ (fun s _ _ => s.stageChan_trg ..) s

theorem State.capProgress_trg (s : State) : s.capProgress.trg = s.trg := by
  unfold State.capProgress
  dsimp only
  split <;> rfl

theorem State.capClose_sameTrg (s : State) (why : CapEnd) (last : Int) : s.sameTrg (s.capClose why last) := by
  unfold State.capClose
  dsimp only
  split_ifs <;> (refine State.sameTrg.trans ?_ (.of_eq (State.capProgress_trg _)); rfl)

theorem State.capFeedRaw_sameTrg (s : State) (n : Nat) : s.sameTrg (s.capFeedRaw n) := by
  unfold State.capFeedRaw
  dsimp only
  split_ifs
  · exact .trans (.of_eq (s.stageTo_trg _)) (State.capClose_sameTrg ..)
  · exact .of_eq (s.stageTo_trg _)

theorem State.capWord_sameTrg (s : State) (w : Nat × Int × Int) : s.sameTrg (s.capWord w) := by
  unfold State.capWord
  split
  · dsimp only
    split
    · exact .refl s
    · split
      · exact s.capClose_sameTrg ..
      · exact .of_eq (s.stageChan_trg ..)
  · exact .refl s

theorem State.capFeed_sameTrg (s : State) (n : Int) : s.sameTrg (s.capFeed n) := by
  unfold State.capFeed
  split
  · exact .refl s
  · split
    · exact foldl_rel State.sameTrg .refl .trans _ _ (fun s _ _ => s.capWord_sameTrg _) _
    · exact s.capFeedRaw_sameTrg _

/-! ### The engine's run to a cc that it has something to judge in (R185, R193, R194) -/

section
variable (s : State) (t : Int)

theorem State.timerUntil_later (h : t < s.trg.timerNext) (n : Nat) : s.timerUntil (t + 1) n = s := by
  cases n with
  | zero => rfl
  | succ n => exact if_neg (by simp; omega)

/-- Nothing is on its way to the engine, and no pulse of its timer comes up to a cc. -/
theorem State.trigQuiet_iff : s.trigQuiet t = true ↔ s.trg.arrivals = [] ∧ s.trg.live = [] ∧ 0 ≤ s.trg.clock ∧ s.trg.prog.entered ≤ s.trg.clock
    ∧ t < s.trg.timerNext := by
  simp [State.trigQuiet, and_assoc]

/-- The engine stops where nothing is left to judge up to `t`. -/
theorem State.trigRun_done (stop : State → Bool) (n : Nat) (ht : t < s.trg.timerNext) (hn : ∀ u, s.trigNext = some u → t < u) : s.trigRun t stop n = s := by
  cases n with
  | zero => rfl
  | succ n =>
    unfold State.trigRun
    rw [s.timerUntil_later t ht]
    refine ite_eq_left_iff.mpr fun _ => ?_
    dsimp only
    split
    next u hu => exact if_neg (Int.not_le.mpr (hn u hu))
    next => rfl

/-- The engine judges the next cc that it has something in. -/
theorem State.trigRun_cc (stop : State → Bool) (n : Nat) (ht : t < s.trg.timerNext) (hs : stop s = false) (u : Int) (hu : s.trigNext = some u) (hle : u ≤ t) :
    s.trigRun t stop (n + 1) = (s.trigCc u).trigRun t stop n := by
  rw [State.trigRun, s.timerUntil_later t ht, hs]
  simp [hu, hle]

/-- The time limit of the present stage, none where it has none or a trigger is declared. -/
theorem State.trigNext_limit (hq : s.trigQuiet t = true) (hr : s.trigRuns = true) (hd : s.trg.prog.declare = none) (hw : s.reg (K.TRIG_WITHIN s.trg.prog.stage) ≠ 0) :
    s.trigNext = some (s.trg.prog.entered + (s.reg (K.TRIG_WITHIN s.trg.prog.stage) : Int)) := by
  obtain ⟨ha, hl, hc, he, _⟩ := (s.trigQuiet_iff t).mp hq
  simp [State.trigNext, ha, hl, hr, hd, hw, Int.not_lt.mpr hc, Int.not_lt.mpr he]

theorem State.trigNext_declare (hq : s.trigQuiet t = true) (d : Int × Nat × Nat) (hd : s.trg.prog.declare = some d) : s.trigNext = some d.1 := by
  obtain ⟨ha, hl, hc, he, _⟩ := (s.trigQuiet_iff t).mp hq
  simp [State.trigNext, ha, hl, hd, Int.not_lt.mpr hc, Int.not_lt.mpr he]

/-- The engine in a cc in which nothing arrives. -/
def State.engineAt : State := s.setTrg { s.trg with arrivals := [], clock := t, live := [], seen := s.statesTrue }

/-- The pattern of the engine's stage is judged in a cc without pulses, while the program runs. -/
def State.trigJudged (rose : List (Nat × Nat)) : State := if s.trigRuns then s.progCc t [] rose else s

/-- A cc in which nothing arrives and no trigger is declared: the pattern, and the time limit. -/
theorem State.trigCc_quiet (ha : s.trg.arrivals = []) (hd : s.trg.prog.declare = none) : ∃ rose again,
    s.trigCc t = if ((s.engineAt t).trigJudged t rose).stageLate t then ((s.engineAt t).trigJudged t rose).stageTimeout.trigJudged t again
      else (s.engineAt t).trigJudged t rose := by
  have hd' : (s.trg.prog.declare.any fun d => decide (d.1 ≤ t)) = false := by simp [hd]
  unfold State.trigCc
  rw [hd']
  simp only [ha, List.filter_nil, State.forEach, List.foldl_nil, pulsesOf, List.map_nil, List.nil_append, Bool.false_eq_true, if_false]
  exact ⟨_, _, rfl⟩

/-- A stage's pattern depends on the engine's conditions, the channels that live, and its own settings. -/
theorem State.posTrue_congr (u : State) (st p : Nat) (pulses : List (Nat × Nat)) (hclk : u.clk = s.clk) (hcal : u.cal = s.cal) (hpipe : u.pipe = s.pipe)
    (hlevel : u.trg.level = s.trg.level) (hmaskv : u.trg.maskv = s.trg.maskv) (hch : ∀ p < 48, u.reg (K.CH_STATE p) = s.reg (K.CH_STATE p))
    (hlo : u.reg (K.TRIG_SRC_LO st) = s.reg (K.TRIG_SRC_LO st)) (hhi : u.reg (K.TRIG_SRC_HI st) = s.reg (K.TRIG_SRC_HI st)) :
    u.posTrue st p pulses = s.posTrue st p pulses := by
  have hlock : u.locked = s.locked := by simp only [State.locked, hclk]
  have hsrc : u.stageSrc st p = s.stageSrc st p := by simp only [State.stageSrc, hlo, hhi]
  have htakes : u.calTakes p = s.calTakes p := by simp only [State.calTakes, State.calTakesTdc, State.calGathers, hcal, hpipe]
  unfold State.posTrue
  rw [hlock, hsrc, htakes, hlevel, hmaskv]
  by_cases hp : 48 ≤ p
  · simp only [hp, if_true]
  · have hlive : u.chanLive p = s.chanLive p := by simp only [State.chanLive, hch p (by omega)]
    rw [hlive]

theorem State.stageMatch_congr (u : State) (st : Nat) (pulses : List (Nat × Nat)) (htrue : ∀ p, u.posTrue st p pulses = s.posTrue st p pulses)
    (hlo : u.reg (K.TRIG_PAT_LO st) = s.reg (K.TRIG_PAT_LO st)) (hhi : u.reg (K.TRIG_PAT_HI st) = s.reg (K.TRIG_PAT_HI st))
    (hctrl : u.reg (K.TRIG_CTRL st) = s.reg (K.TRIG_CTRL st)) : u.stageMatch st pulses = s.stageMatch st pulses := by
  simp only [State.stageMatch, State.stagePat, htrue, hlo, hhi, hctrl]

/-- Stage 0 of a state in which only TRIG_STAGE and TRIG_TIMEOUTS have changed. -/
theorem State.stageMatch_zero (u : State) (hclk : u.clk = s.clk) (hcal : u.cal = s.cal) (hpipe : u.pipe = s.pipe) (hlevel : u.trg.level = s.trg.level)
    (hmaskv : u.trg.maskv = s.trg.maskv) (hk : s.keeps u [K.TRIG_STAGE, K.TRIG_TIMEOUTS]) : u.stageMatch 0 [] = s.stageMatch 0 [] :=
  s.stageMatch_congr u 0 [] (fun p => s.posTrue_congr u 0 p [] hclk hcal hpipe hlevel hmaskv
    (fun q hq => hk (K.CH_STATE q) (by simp only [K.CH_STATE, K.TRIG_STAGE, K.TRIG_TIMEOUTS, List.mem_cons, List.not_mem_nil, or_false]; omega)) (hk _ (by decide)) (hk _ (by decide)))
    (hk _ (by decide)) (hk _ (by decide)) (hk _ (by decide))

/-- A stage whose pattern does not match has no hit. -/
theorem State.trigJudged_unmatched (rose : List (Nat × Nat)) (hr : s.trigRuns = true) (hd : s.trg.prog.declare = none) (he : s.trg.prog.entered ≤ t)
    (hm : s.stageMatch s.trg.prog.stage [] = false) : s.trigJudged t rose = s.setProg { s.trg.prog with matched := false } := by
  rw [State.trigJudged, if_pos hr, s.progCc_idle t [] rose hd he (by simp [State.stageHit, hm]), hm]

/-- The engine once the time limit of its stage has passed: stage 0 is entered. -/
def State.limitPassed : State :=
  ((((s.engineAt t).setProg { s.trg.prog with matched := false }).count K.TRIG_TIMEOUTS).setProg { stage := 0, entered := t }).setProg { stage := 0, entered := t }

theorem State.trigCc_limit (hq : s.trg.arrivals = []) (hr : s.trigRuns = true) (hd : s.trg.prog.declare = none)
    (hw : s.reg (K.TRIG_WITHIN s.trg.prog.stage) ≠ 0) (ht : t = s.trg.prog.entered + (s.reg (K.TRIG_WITHIN s.trg.prog.stage) : Int))
    (hm : s.stageMatch s.trg.prog.stage [] = false) (h0 : s.stageMatch 0 [] = false) : s.trigCc t = s.limitPassed t := by
  obtain ⟨rose, again, hcc⟩ := s.trigCc_quiet t hq hd
  have hstage : ∀ st, (s.engineAt t).stageMatch st [] = s.stageMatch st [] := fun _ => rfl
  have hfirst : (s.engineAt t).trigJudged t rose = (s.engineAt t).setProg { s.trg.prog with matched := false } :=
    (s.engineAt t).trigJudged_unmatched t rose hr hd (by rw [ht]; show s.trg.prog.entered ≤ _; omega) ((hstage _).trans hm)
  let j := (s.engineAt t).setProg { s.trg.prog with matched := false }
  have hwithin : j.reg (K.TRIG_WITHIN s.trg.prog.stage) = s.reg (K.TRIG_WITHIN s.trg.prog.stage) :=
    State.reg_put_ne _ _ _ _ (by simp only [K.TRIG_WITHIN, K.TRIG_STAGE]; omega)
  have hlast : s.trg.prog.entered + (j.reg (K.TRIG_WITHIN s.trg.prog.stage) : Int) = t := by rw [hwithin, ht]
  have hruns : ∀ u : State, s.keeps u [K.TRIG_STAGE, K.TRIG_TIMEOUTS] → u.trigRuns = true := fun u hk => by
    rw [← hr, State.trigRuns, State.trigRuns, hk K.TRIG_STATE (by decide)]
  have hj : s.keeps j [K.TRIG_STAGE, K.TRIG_TIMEOUTS] := State.keeps.put ((State.keeps.refl s _).of_objs rfl) _ _ (by decide)
  have hlate : j.stageLate t = true := by
    have hw' : (j.reg (K.TRIG_WITHIN j.trg.prog.stage) != 0) = true := bne_iff_ne.mpr (hwithin.trans_ne hw)
    have hd' : j.trg.prog.declare.isNone = true := by rw [show j.trg.prog.declare = none from hd]; rfl
    have hle : j.trg.prog.entered + (j.reg (K.TRIG_WITHIN j.trg.prog.stage) : Int) ≤ t := le_of_eq hlast
    simp only [State.stageLate, hruns j hj, hw', hd', hle, decide_true, Bool.and_self]
  have htimeout : j.stageTimeout = (j.count K.TRIG_TIMEOUTS).setProg { stage := 0, entered := t } :=
    congrArg (fun e : Int => (j.count K.TRIG_TIMEOUTS).setProg { stage := 0, entered := e }) hlast
  have hend : s.keeps ((j.count K.TRIG_TIMEOUTS).setProg { stage := 0, entered := t }) [K.TRIG_STAGE, K.TRIG_TIMEOUTS] :=
    State.keeps.put ((hj.put K.TRIG_TIMEOUTS _ (by decide)).of_objs rfl) _ _ (by decide)
  rw [hcc, hfirst, if_pos hlate, htimeout]
  exact State.trigJudged_unmatched _ t again (hruns _ hend) rfl (le_refl t) ((s.stageMatch_zero ((j.count K.TRIG_TIMEOUTS).setProg { stage := 0, entered := t }) rfl rfl rfl rfl rfl hend).trans h0)

theorem State.setProg_keeps (p : TrigProg) : s.keeps (s.setProg p) [K.TRIG_STAGE] :=
  State.keeps.put ((State.keeps.refl s _).of_objs rfl) _ _ (by decide)

/-- What the engine's step at the end of a time limit leaves. -/
theorem State.limitPassed_effect : (s.limitPassed t).reg K.TRIG_TIMEOUTS = min (s.reg K.TRIG_TIMEOUTS + 1) (2 ^ 32 - 1) ∧ (s.limitPassed t).reg K.TRIG_STAGE = 0
    ∧ (s.limitPassed t).trg = { s.trg with arrivals := [], live := [], prog := { stage := 0, entered := t }, clock := t, seen := s.statesTrue }
    ∧ (s.limitPassed t).cap = s.cap ∧ s.keeps (s.limitPassed t) [K.TRIG_TIMEOUTS, K.TRIG_STAGE] := by
  have hother : ∀ (u : State) (p : TrigProg), (u.setProg p).reg K.TRIG_TIMEOUTS = u.reg K.TRIG_TIMEOUTS := fun u p => u.setProg_keeps p _ (by decide)
  have hstart : s.keeps (s.engineAt t) [K.TRIG_TIMEOUTS, K.TRIG_STAGE] := (State.keeps.refl s _).of_objs rfl
  refine ⟨?_, State.reg_put_self _ _ _, rfl, rfl, ?_⟩
  · rw [State.limitPassed, hother, hother, State.count, State.reg_put_self, hother, State.reg_congr s (s.engineAt t) rfl]
    rfl
  · have hmono : ∀ (u : State) (p : TrigProg), u.keeps (u.setProg p) [K.TRIG_TIMEOUTS, K.TRIG_STAGE] := fun u p => (u.setProg_keeps p).mono (by decide)
    have hcount : ∀ u : State, u.keeps (u.count K.TRIG_TIMEOUTS) [K.TRIG_TIMEOUTS, K.TRIG_STAGE] := fun u => (State.keeps.refl u _).put _ _ (by decide)
    exact hstart.trans ((hmono _ _).trans ((hcount _).trans ((hmono _ _).trans (hmono _ _))))

/-- The engine's run up to the time limit of its stage. -/
theorem State.trigUpTo_limit (hq : s.trigQuiet t = true) (hr : s.trigRuns = true) (hd : s.trg.prog.declare = none) (hend : t < 2800)
    (hw : s.reg (K.TRIG_WITHIN s.trg.prog.stage) ≠ 0) (ht : t = s.trg.prog.entered + (s.reg (K.TRIG_WITHIN s.trg.prog.stage) : Int))
    (hm : s.stageMatch s.trg.prog.stage [] = false) (h0 : s.stageMatch 0 [] = false) : s.trigUpTo t = s.limitPassed t := by
  obtain ⟨ha, _, _, _, hlater⟩ := (s.trigQuiet_iff t).mp hq
  have hnext := s.trigNext_limit t hq hr hd hw
  rw [← ht] at hnext
  unfold State.trigUpTo
  rw [show min t 2799 = t by omega, show trigSteps = 11999 + 1 from rfl, s.trigRun_cc t _ _ hlater rfl t hnext (le_refl t),
    s.trigCc_limit t ha hr hd hw ht hm h0]
  refine State.trigRun_done _ t _ _ hlater fun u hu => ?_
  obtain ⟨_, _, htrg, _, hkeep⟩ := s.limitPassed_effect t
  have hruns : (s.limitPassed t).trigRuns = true := by rw [← hr, State.trigRuns, State.trigRuns, hkeep K.TRIG_STATE (by decide)]
  simp only [State.trigNext, hruns, htrg] at hu
  by_cases hneg : t < 0 <;> by_cases hzero : (s.limitPassed t).reg (K.TRIG_WITHIN 0) = 0 <;> simp [hneg, hzero] at hu <;> omega

/-! ### A trigger that is declared (R194, R200, R206) -/

/-- Once a trigger is declared the program enters stage 0 in the cc that follows, and the rest of the cc judges nothing. -/
theorem State.trigCc_entered (ha : s.trg.arrivals = []) (hd : s.trg.prog.declare = none) (he : s.trg.prog.entered = t + 1) : s.trigCc t = s.engineAt t := by
  have hjudged : ∀ rose, (s.engineAt t).trigJudged t rose = s.engineAt t := fun rose => by
    have hlater : t < (s.engineAt t).trg.prog.entered := by rw [show (s.engineAt t).trg.prog.entered = t + 1 from he]; omega
    unfold State.trigJudged
    split
    · exact if_pos (.inr hlater)
    · rfl
  have hlate : (s.engineAt t).stageLate t = false := by
    have hno : ¬(s.engineAt t).trg.prog.entered + ((s.engineAt t).reg (K.TRIG_WITHIN (s.engineAt t).trg.prog.stage) : Int) ≤ t := by
      rw [show (s.engineAt t).trg.prog.entered = t + 1 from he]; omega
    simp [State.stageLate, hno]
  obtain ⟨rose, again, hcc⟩ := s.trigCc_quiet t ha hd
  rw [hcc, hjudged, hlate, if_neg Bool.false_ne_true]

/-- What the declaration of a trigger leaves of the trigger engine. -/
theorem State.declareAt_trg (now : Int) (pos stamp : Nat) : (s.declareAt now pos stamp).trg = { s.trg with
    out := (s.declareAt now pos stamp).trg.out, outEnd := (s.declareAt now pos stamp).trg.outEnd } := by
  unfold State.declareAt
  dsimp only
  split_ifs <;> rfl

theorem State.triggerDeclare_eq (now : Int) (pos stamp : Nat) (hd : s.trg.prog.declare = some (now, pos, stamp)) :
    s.triggerDeclare = (s.setProg { stage := 0, entered := now + 1 }).declareAt now pos stamp := by
  simp only [State.triggerDeclare, hd]

/-- The cc of a trigger: what the capture still takes before it, then its declaration. -/
theorem State.trigCc_declares (now : Int) (pos stamp : Nat) (hd : s.trg.prog.declare = some (now, pos, stamp))
    (hnone : (s.capFeed (4 * now - s.cap.origin)).triggerDeclare.trg.prog.declare = none) :
    s.trigCc now = (s.capFeed (4 * now - s.cap.origin)).triggerDeclare.trigCc now := by
  have hs : (s.trg.prog.declare.any fun d => decide (d.1 ≤ now)) = true := by simp [hd]
  have hn : ((s.capFeed (4 * now - s.cap.origin)).triggerDeclare.trg.prog.declare.any fun d => decide (d.1 ≤ now)) = false := by simp [hnone]
  unfold State.trigCc
  rw [hs, hn]
  rfl

/-- The state in which a trigger is declared. -/
def State.declaredAt (now : Int) (pos stamp : Nat) : State :=
  (((s.capFeed (4 * now - s.cap.origin)).setProg { stage := 0, entered := now + 1 }).declareAt now pos stamp).engineAt now

theorem State.declaredAt_engine (now : Int) (pos stamp : Nat) : (s.declaredAt now pos stamp).trg.timerNext = s.trg.timerNext
    ∧ (s.declaredAt now pos stamp).trg.arrivals = [] ∧ (s.declaredAt now pos stamp).trg.live = [] ∧ (s.declaredAt now pos stamp).trg.clock = now
    ∧ (s.declaredAt now pos stamp).trg.prog = { stage := 0, entered := now + 1 } := by
  have htrg := ((s.capFeed (4 * now - s.cap.origin)).setProg { stage := 0, entered := now + 1 }).declareAt_trg now pos stamp
  have hsame := s.capFeed_sameTrg (4 * now - s.cap.origin)
  refine ⟨?_, rfl, rfl, rfl, ?_⟩
  · have htimer : (s.capFeed (4 * now - s.cap.origin)).trg.timerNext = s.trg.timerNext := by rw [hsame]
    exact (congrArg Trig.timerNext htrg).trans htimer
  · exact congrArg Trig.prog htrg

theorem State.triggerNext_eq (now : Int) (pos stamp : Nat) (hd : s.trg.prog.declare = some (now, pos, stamp)) (hn : now < 2800) (hq : s.trigQuiet now = true) :
    s.triggerNext = s.declaredAt now pos stamp := by
  obtain ⟨ha, hl, _, _, hlater⟩ := (s.trigQuiet_iff now).mp hq
  have hsame := s.capFeed_sameTrg (4 * now - s.cap.origin)
  have hvd : (s.capFeed (4 * now - s.cap.origin)).trg.prog.declare = some (now, pos, stamp) := by rw [hsame]; exact hd
  have hde := (s.capFeed (4 * now - s.cap.origin)).triggerDeclare_eq now pos stamp hvd
  have htrg := ((s.capFeed (4 * now - s.cap.origin)).setProg { stage := 0, entered := now + 1 }).declareAt_trg now pos stamp
  have hnone : (s.capFeed (4 * now - s.cap.origin)).triggerDeclare.trg.prog.declare = none := by rw [hde, htrg]; rfl
  have hcc : s.trigCc now = s.declaredAt now pos stamp := by
    rw [s.trigCc_declares now pos stamp hd hnone, State.trigCc_entered _ now ?_ hnone ?_, hde]
    · rfl
    · rw [hde, htrg]
      show (s.capFeed (4 * now - s.cap.origin)).trg.arrivals = []
      rw [hsame]
      exact ha
    · rw [hde, htrg]
      rfl
  have hstop : s.trigRun 2799 (fun s => s.trg.prog.declare.isSome) trigSteps = s := if_pos (congrArg Option.isSome hd)
  have hrun : s.triggerNext = s.trigUpTo now := by
    unfold State.triggerNext
    rw [hstop]
    simp only [hd]
  rw [hrun, State.trigUpTo, show min now 2799 = now by omega, show trigSteps = 11999 + 1 from rfl,
    s.trigRun_cc now _ _ hlater rfl now (s.trigNext_declare now hq _ hd) (le_refl now), hcc]
  obtain ⟨htimer, harr, hlive, hclock, hprog⟩ := s.declaredAt_engine now pos stamp
  refine State.trigRun_done _ now _ _ (htimer ▸ hlater) fun u hu => ?_
  simp only [State.trigNext, harr, hlive, hclock, hprog] at hu
  by_cases hneg : now < 0 <;> by_cases hzero : (s.declaredAt now pos stamp).reg (K.TRIG_WITHIN 0) = 0 <;>
    by_cases hr : (s.declaredAt now pos stamp).trigRuns <;> simp [hneg, hzero, hr] at hu <;> omega

/-- The registers and the capture as the first trigger leaves them. -/
def State.firstTrigger (now : Int) (pos stamp : Nat) : State :=
  let taken := (max 0 (4 * now - s.cap.origin)).toNat
  let k := if s.capWords then ((taken, false) : Nat × Bool) else s.keptStart (s.sampleOf stamp) taken
  ((((s.put K.TRIG_STATE 3).put K.TRIG_LAST stamp).put K.TRIG_LAST_POS pos).put K.CAP_DRAINED 0).setCap { s.cap with
    trig := some (pos, stamp, s.sampleOf stamp), start := k.1, preShort := k.2 }

theorem State.firstTrigger_keeps (now : Int) (pos stamp : Nat) : s.keeps (s.firstTrigger now pos stamp) [K.TRIG_STATE, K.TRIG_LAST, K.TRIG_LAST_POS, K.CAP_DRAINED] :=
  (((((State.keeps.refl s _).put K.TRIG_STATE 3 (by decide)).put K.TRIG_LAST stamp (by decide)).put K.TRIG_LAST_POS pos (by decide)).put K.CAP_DRAINED 0 (by decide)).of_objs rfl

theorem State.declareAt_first (now : Int) (pos stamp : Nat) (h : s.reg K.TRIG_STATE = 2) :
    s.declareAt now pos stamp = (s.firstTrigger now pos stamp).onlyIf (s.reg K.TRIG_OUT_MODE != 0) fun u =>
      u.setTrg { u.trg with out := true, outEnd := now + 6 + (s.reg K.TRIG_OUT_WIDTH : Nat) } := by
  have hmode : (s.firstTrigger now pos stamp).reg K.TRIG_OUT_MODE = s.reg K.TRIG_OUT_MODE := s.firstTrigger_keeps now pos stamp _ (by decide)
  have hwidth : (s.firstTrigger now pos stamp).reg K.TRIG_OUT_WIDTH = s.reg K.TRIG_OUT_WIDTH := s.firstTrigger_keeps now pos stamp _ (by decide)
  rw [← hmode, ← hwidth]
  exact if_pos h

/-- What the first trigger of a capture does. -/
theorem State.firstTrigger_effect (now : Int) (pos stamp : Nat) : (s.firstTrigger now pos stamp).reg K.TRIG_STATE = 3
    ∧ (s.firstTrigger now pos stamp).reg K.TRIG_LAST = stamp ∧ (s.firstTrigger now pos stamp).reg K.TRIG_LAST_POS = pos
    ∧ (s.firstTrigger now pos stamp).reg K.CAP_DRAINED = 0 ∧ (s.firstTrigger now pos stamp).cap.trig = some (pos, stamp, s.sampleOf stamp) := by
  have hreg : ∀ k, (s.firstTrigger now pos stamp).reg k = if k = K.CAP_DRAINED then 0 else if k = K.TRIG_LAST_POS then pos else if k = K.TRIG_LAST then stamp
      else if k = K.TRIG_STATE then 3 else s.reg k := fun k => by
    simp only [← State.reg_put]
    rfl
  exact ⟨(hreg _).trans rfl, (hreg _).trans rfl, (hreg _).trans rfl, (hreg _).trans rfl, rfl⟩

/-- A trigger of a capture that has one already is ignored and counted. -/
theorem State.declareAt_later (now : Int) (pos stamp : Nat) (h : s.reg K.TRIG_STATE = 3 ∨ s.reg K.TRIG_STATE = 4) :
    s.declareAt now pos stamp = (s.count K.TRIG_IGNORED).setCap { s.cap with
      ignored := incSat 32 s.cap.ignored, ignoredFirst := if s.cap.ignored = 0 then stamp else s.cap.ignoredFirst } :=
  (if_neg (by rcases h with h | h <;> rw [h] <;> decide)).trans (if_pos h)

end

end Sys2Proof.Machine
end

section
/-! PROOFS. The obligation of chapter 7 on the trigger program. -/

namespace Sys2Proof.Machine

section
variable (s : State)

theorem exec_trigSoft (a : HostAt) : exec (.trigSoft a) s = .next (s.hostWrite K.TRIG_SOFT (a.write 1 1)).settle := rfl

theorem exec_trigStageTimeout (h : s.mode.coreRuns = true) : exec .trigStageTimeout s = .next s.stageEnds.settle := by
  calc exec .trigStageTimeout s = .next (s.core State.stageEnds).settle := rfl
    _ = _ := by rw [s.core_on _ h]

theorem exec_triggerDeclare (h : s.mode.coreRuns = true) : exec .triggerDeclare s = .next s.triggerNext.settle := by
  calc exec .triggerDeclare s = .next (s.core State.triggerNext).settle := rfl
    _ = _ := by rw [s.core_on _ h]

theorem exec_trigOutPulseEnd (h : s.mode.coreRuns = true) : exec .trigOutPulseEnd s = .next s.trigOutEnd.settle := by
  calc exec .trigOutPulseEnd s = .next (s.core State.trigOutEnd).settle := rfl
    _ = _ := by rw [s.core_on _ h]

theorem exec_slotOutPulseEnd (h : s.mode.coreRuns = true) : exec .slotOutPulseEnd s = .next s.slotOutEnd.settle := by
  calc exec .slotOutPulseEnd s = .next (s.core State.slotOutEnd).settle := rfl
    _ = _ := by rw [s.core_on _ h]

theorem objRow_trigSoft : ∃ r, objRow? K.TRIG_SOFT = some r ∧ (r.acc == .rws) = false :=
  ⟨⟨0x4811, 0x4811, 0x01, 0x01, .u8, .wo, 0, .any, none, .running, "TRIG_SOFT"⟩, by decide, rfl⟩

end

/-- Settles O15: each case of a cc by its equation; a time limit and a declared trigger by the one cc that the engine then judges. -/
theorem triggerProgram : Obligations.TriggerProgram := by
  unfold Obligations.TriggerProgram
  refine ⟨⟨?_, ?_, fun s e hcore he => ⟨fun hw hend hr hq hd hm h0 => ?_, fun h => ?_⟩⟩,
    fun s v now pos stamp hcore hd hn hq hv => ⟨fun h => ?_, fun h => ?_⟩, fun s hcore => ⟨fun h => ?_, fun h => ?_⟩, fun s hcore => ⟨fun h => ?_, fun p l h => ?_⟩⟩
  · intro s now pulses rose p c n hp hc hn hd he
    subst hp hc hn
    refine ⟨fun hm hu hh hn hl => ?_, fun hm hu hh hn hl => ⟨fun hb => ?_, fun q hb hq => ?_⟩, fun hm hu hh hn => ?_, fun h => ?_⟩
    · exact s.progCc_next now pulses rose hd he ((s.stageHit_iff now pulses).mpr ⟨hm, hu, hh⟩) hn hl
    · rw [s.progCc_last now pulses rose hd he ((s.stageHit_iff now pulses).mpr ⟨hm, hu, hh⟩) hn hl, s.reference_position _ rose hb]
    · rw [s.progCc_last now pulses rose hd he ((s.stageHit_iff now pulses).mpr ⟨hm, hu, hh⟩) hn hl, s.reference_earliest _ q rose hb hq]
    · exact s.progCc_hit now pulses rose hd he ((s.stageHit_iff now pulses).mpr ⟨hm, hu, hh⟩) hn
    · refine s.progCc_idle now pulses rose hd he (Bool.not_eq_true _ ▸ fun hh => ?_)
      obtain ⟨hm, hu, hle⟩ := (s.stageHit_iff now pulses).mp hh
      rcases h with h | h | h
      · exact Bool.false_ne_true (h.symm.trans hm)
      · exact Bool.false_ne_true (hu.symm.trans h)
      · omega
  · intro s a h
    obtain ⟨r, hr, hs⟩ := objRow_trigSoft
    rw [exec_trigSoft, s.hostWrite_accepted _ _ r hr hs h, a.write_value 1 (by decide)]
    rfl
  · subst he
    obtain ⟨hcount, hstage, htrg, hcap, hkeep⟩ := s.limitPassed_effect (s.trg.prog.entered + (s.reg (K.TRIG_WITHIN s.trg.prog.stage) : Int))
    obtain ⟨ha, hl, _⟩ := (s.trigQuiet_iff _).mp hq
    have hends : s.stageEnds = s.limitPassed (s.trg.prog.entered + (s.reg (K.TRIG_WITHIN s.trg.prog.stage) : Int)) :=
      (if_neg (by omega)).trans (s.trigUpTo_limit _ hq hr hd hend hw rfl hm h0)
    refine ⟨s.stageEnds, exec_trigStageTimeout s hcore, ?_⟩
    rw [hends]
    refine ⟨hcount, hstage, htrg.trans ?_, hcap, hkeep⟩
    rw [← ha, ← hl]
  · subst he
    rw [exec_trigStageTimeout s hcore]
    exact congrArg (fun t : State => Host.Outcome.next t.settle) (if_pos h)
  · rw [exec_triggerDeclare s hcore, s.triggerNext_eq now pos stamp hd hn hq]
    obtain ⟨_, _, _, _, hprog⟩ := s.declaredAt_engine now pos stamp
    subst hv
    let u := (s.capFeed (4 * now - s.cap.origin)).setProg { stage := 0, entered := now + 1 }
    have hu := (s.capFeed (4 * now - s.cap.origin)).setProg_keeps { stage := 0, entered := now + 1 }
    have hdecl := u.declareAt_first now pos stamp ((hu _ (by decide)).trans h)
    obtain ⟨hstate, hlast, hpos, hdrained, htrig⟩ := u.firstTrigger_effect now pos stamp
    have hobjs : (s.declaredAt now pos stamp).objs = (u.firstTrigger now pos stamp).objs := by
      refine (congrArg State.objs hdecl).trans ?_
      cases u.reg K.TRIG_OUT_MODE != 0 <;> rfl
    have hreg := State.reg_congr (u.firstTrigger now pos stamp) (s.declaredAt now pos stamp) hobjs
    refine ⟨_, rfl, (hreg _).trans hstate, (hreg _).trans hlast, (hreg _).trans hpos, (hreg _).trans hdrained, ?_, ?_, fun hm => ?_, hprog, ?_⟩
    · refine (congrArg (fun t : State => t.cap.trig) hdecl).trans (Eq.trans ?_ htrig)
      cases u.reg K.TRIG_OUT_MODE != 0 <;> rfl
    · refine (congrArg (fun t : State => t.trg.out) hdecl).trans ?_
      rw [← hu K.TRIG_OUT_MODE (by decide)]
      cases hm : u.reg K.TRIG_OUT_MODE != 0 <;> simp [State.onlyIf, State.setTrg, State.firstTrigger, State.setCap, u, State.setProg, State.put]
    · have hon : (u.reg K.TRIG_OUT_MODE != 0) = true := bne_iff_ne.mpr ((hu K.TRIG_OUT_MODE (by decide)).trans_ne hm)
      rw [State.onlyIf_true _ _ _ hon, hu K.TRIG_OUT_WIDTH (by decide)] at hdecl
      exact congrArg (fun t : State => t.trg.outEnd) hdecl
    · exact ((hu.mono (by decide)).trans ((u.firstTrigger_keeps now pos stamp).mono (by decide))).of_objs hobjs
  · rw [exec_triggerDeclare s hcore, s.triggerNext_eq now pos stamp hd hn hq]
    subst hv
    let u := (s.capFeed (4 * now - s.cap.origin)).setProg { stage := 0, entered := now + 1 }
    have hu := (s.capFeed (4 * now - s.cap.origin)).setProg_keeps { stage := 0, entered := now + 1 }
    have hdecl := u.declareAt_later now pos stamp (by rw [hu K.TRIG_STATE (by decide)]; exact h)
    have hobjs : (s.declaredAt now pos stamp).objs = (u.count K.TRIG_IGNORED).objs := (congrArg State.objs hdecl :)
    refine ⟨_, rfl, ?_, (congrArg State.cap hdecl :), (congrArg (fun t : State => t.trg.out) hdecl :), ?_⟩
    · refine (State.reg_congr (u.count K.TRIG_IGNORED) (s.declaredAt now pos stamp) hobjs _).trans ((State.reg_put_self _ _ _).trans ?_)
      rw [hu K.TRIG_IGNORED (by decide)]
      rfl
    · exact ((hu.mono (by decide)).trans ((State.keeps.refl u _).put _ _ (by decide))).of_objs hobjs
  · rw [exec_trigOutPulseEnd s hcore]
    exact congrArg (fun t : State => Host.Outcome.next t.settle) (if_pos h)
  · rw [exec_trigOutPulseEnd s hcore]
    exact congrArg (fun t : State => Host.Outcome.next t.settle) (if_neg h)
  · rw [exec_slotOutPulseEnd s hcore, State.slotOutEnd]
    simp only [h]
    rfl
  · rw [exec_slotOutPulseEnd s hcore, State.slotOutEnd]
    simp only [h]
    rfl

end Sys2Proof.Machine
end

section
/-! PROOFS. Chapter 9: what the accesses of a granule may change (R222, R225, R232, R234). -/

namespace Sys2Proof.Machine

/-! ### The store, its registers and its fault log -/

/-- A step of the Field Store: memory, fault log, and registers and DOMAINs from the store's own on. -/
def State.storeStep (s t : State) : Prop :=
  t = { s with objs := t.objs, doms := t.doms, fs := t.fs, penn := t.penn } ∧ ∀ k < 0x500000, t.reg k = s.reg k

theorem State.storeStep.refl (s : State) : s.storeStep s := ⟨rfl, fun _ _ => rfl⟩

theorem State.storeStep.trans {s t u : State} (h : s.storeStep t) (h' : t.storeStep u) : s.storeStep u := by
  obtain ⟨ht, hk⟩ := h
  obtain ⟨hu, hl⟩ := h'
  refine ⟨hu.trans ?_, fun k hlt => (hl k hlt).trans (hk k hlt)⟩
  rw [ht]

theorem State.storeStep.setFs (s : State) (f : FieldStore) : s.storeStep { s with fs := f } := ⟨rfl, fun _ _ => rfl⟩

theorem State.storeStep.put (s : State) (k v : Nat) (hk : 0x500000 ≤ k) : s.storeStep (s.put k v) :=
  ⟨rfl, fun q hq => s.reg_put_ne k q v (by omega)⟩

theorem State.correct_storeStep (s : State) (b : Nat) : s.storeStep (s.correct b) := by
  have hcount : s.storeStep (s.count (K.BANK_CE b)) := .put s _ _ (by simp only [K.BANK_CE]; omega)
  have hpass := hcount.trans (.setFs _ { s.fs with passCe := storeSet s.fs.passCe b ((storeGet s.fs.passCe b).getD 0 + 1) })
  unfold State.correct
  dsimp only
  split
  · exact hpass.trans (.put _ _ _ (by simp only [K.BANK_STATE]; omega))
  · exact hpass

theorem State.eccFound_storeStep (s : State) (f : Nat × EccFind) : s.storeStep (s.eccFound f) := by
  unfold State.eccFound
  split
  · exact .refl s
  · split
    · exact s.correct_storeStep _
    · exact .setFs s _

theorem State.eccRead_storeStep (s : State) (pa n : Nat) (l : Ecc) : s.storeStep (s.eccRead pa n l) :=
  foldl_rel State.storeStep .refl .trans State.eccFound _ (fun s f _ => s.eccFound_storeStep f) s

theorem State.takeTag_storeStep (s : State) (cls master pa space va : Nat) : s.storeStep (s.takeTag cls master pa space va) :=
  (State.storeStep.setFs s _).trans (.put _ _ _ (by simp only [K.TAGS_PEAK]; omega))

theorem State.storeBytes_storeStep (s : State) (pa : Nat) (d : List Byte) : s.storeStep (s.storeBytes pa d) := by
  unfold State.storeBytes
  dsimp only
  split <;> exact .setFs s _

theorem State.recordFault_storeStep (s : State) (r : Nat → List Byte) : s.storeStep (s.recordFault r) :=
  ⟨rfl, fun q hq => State.reg_put_ne _ _ _ _ (by simp only [K.FAULT_COUNT]; omega)⟩

theorem State.granuleFault_storeStep (s : State) (cc : Nat) (f : FsFault) (m sp c : Nat) (w r : Bool) (va p syn done : Nat) :
    s.storeStep (s.granuleFault cc f m sp c w r va p syn done) := by
  exact (s.recordFault_storeStep _).trans ⟨rfl, fun _ _ => rfl⟩

/-- A write of a granule, whether it is stored or faults, is a step of the store. -/
theorem State.writeGranule_storeStep (s : State) (ecc : Ecc) (m c sp va : Nat) (d : List Byte) :
    (∀ t, s.writeGranule ecc m c sp va d = .ok t → s.storeStep t) ∧ ∀ f p syn t, s.writeGranule ecc m c sp va d = .error (f, p, syn, t) → s.storeStep t := by
  unfold State.writeGranule
  cases s.translate sp va true false with
  | error e => exact ⟨fun t h => (nomatch h), fun f p syn t h => by cases h; exact .refl s⟩
  | ok pa =>
    have hread : s.storeStep (s.forEach (partWords pa d.length) fun s w => s.eccRead w.1 w.2 ecc) :=
      foldl_rel State.storeStep .refl .trans _ _ (fun s w _ => s.eccRead_storeStep w.1 w.2 ecc) s
    dsimp only
    split
    · exact ⟨fun t h => (nomatch h), fun f p syn t h => by cases h; exact hread.trans (.put _ (K.BANK_UE (pa / bankBytes)) _ (Nat.le_trans (by decide) (Nat.le_add_right 0x500401 _)))⟩
    · exact ⟨fun t h => by cases h; exact hread.trans ((State.storeBytes_storeStep _ _ _).trans (State.takeTag_storeStep _ _ _ _ _ _)), fun f p syn t h => (nomatch h)⟩

/-- A granule that issues takes the grant of bursts in progress. -/
def State.burstStep (s t : State) : Prop := t = { s with fs := t.fs, spec := t.spec, free := t.free }

theorem State.cutBursts_burstStep (s : State) (b c : Nat) : s.burstStep (s.cutBursts b c) := by
  unfold State.cutBursts
  dsimp only
  split <;> rfl

theorem State.burstStep.trans {s t u : State} (h : s.burstStep t) (h' : t.burstStep u) : s.burstStep u := by
  refine Eq.trans h' ?_
  rw [h]

theorem State.copyCuts_burstStep (s : State) (b : Nat) : s.burstStep (s.copyCuts b) := by
  unfold State.copyCuts
  dsimp only
  split_ifs
  · exact State.burstStep.trans (t := s.draw.2) rfl (State.cutBursts_burstStep _ _ _)
  · rfl
  · rfl

theorem State.issued_burstStep (s : State) (c m sp va : Nat) : s.burstStep (s.issued c m sp va) := by
  unfold State.issued
  split
  · rfl
  next b _ =>
    exact .trans (s.cutBursts_burstStep b c) (.trans (t := (s.cutBursts b c).setFs { (s.cutBursts b c).fs with turns := storeSet s.fs.turns (b * 4 + c) m })
      rfl (State.copyCuts_burstStep _ _))

/-- The bursts that lose the grant keep their granules' purposes. -/
theorem State.cutBursts_purposes (s : State) (b c : Nat) : (s.cutBursts b c).fs.queue.map (·.purpose) = s.fs.queue.map (·.purpose) := by
  have hq : (s.cutBursts b c).fs.queue = s.preempt b c := by
    unfold State.cutBursts
    dsimp only
    split <;> rfl
  rw [hq, State.preempt, List.map_map]
  refine List.map_congr_left fun g _ => ?_
  dsimp only [Function.comp_apply]
  split <;> rfl

theorem State.issued_purposes (s : State) (c m sp va : Nat) : (s.issued c m sp va).fs.queue.map (·.purpose) = s.fs.queue.map (·.purpose) := by
  have hcopy : ∀ (u : State) (b : Nat), (u.copyCuts b).fs.queue.map (·.purpose) = u.fs.queue.map (·.purpose) := fun u b => by
    unfold State.copyCuts
    dsimp only
    split_ifs
    · exact State.cutBursts_purposes _ _ _
    · rfl
    · rfl
  unfold State.issued
  split
  · rfl
  · exact (hcopy _ _).trans (s.cutBursts_purposes _ _)

end Sys2Proof.Machine
end

section
/-! PROOFS. Chapter 7: a capture from its request to its header (R196, R201 to R205). -/

namespace Sys2Proof.Machine

section
variable (s : State)

/-! ### The header (R205) -/

/-- What stands once the header `h` is written. -/
def State.headerShown (h : List Byte) : State :=
  let t := (s.putDom K.CAP_LAST_HDR h).put K.CAP_SEQ s.cap.seq
  let t := if t.cap.trig.isSome then t.tally K.TRIG_COUNT else t
  let again := t.reg K.CAP_MODE == 1 && t.capMode
  (t.setCap { seq := addWrap 32 t.cap.seq 1, rearm := again }).put K.TRIG_STATE (ofBool again)

theorem State.headerWritten_due (cc : Nat) (ecc : Ecc) (h : s.headerDue = true) : ∃ x, s.storeStep x ∧ s.headerWritten cc ecc = x.headerShown s.captureHeader := by
  obtain ⟨hok, herr⟩ := s.writeGranule_storeStep ecc 0x18 1 (s.reg K.CAP_AS) s.headerVa s.captureHeader
  unfold State.headerWritten
  simp only [h, Bool.not_true, Bool.false_eq_true, if_false]
  cases hw : s.writeGranule ecc 0x18 1 (s.reg K.CAP_AS) s.headerVa s.captureHeader with
  | ok t => exact ⟨t, hok t hw, rfl⟩
  | error e =>
    obtain ⟨f, p, syn, t⟩ := e
    exact ⟨_, (herr f p syn t hw).trans (t.granuleFault_storeStep cc f 0x18 (s.reg K.CAP_AS) 1 true false s.headerVa p syn 0), rfl⟩

theorem State.headerShown_effect (h : List Byte) :
    (s.headerShown h).dom K.CAP_LAST_HDR = h ∧ (s.headerShown h).reg K.CAP_SEQ = s.cap.seq
    ∧ (s.headerShown h).reg K.TRIG_STATE = ofBool (s.reg K.CAP_MODE == 1 && s.capMode)
    ∧ (s.headerShown h).reg K.TRIG_COUNT = (if s.cap.trig.isSome = true then (s.reg K.TRIG_COUNT + 1) % 2 ^ 32 else s.reg K.TRIG_COUNT)
    ∧ (s.headerShown h).cap = { seq := (s.cap.seq + 1) % 2 ^ 32, rearm := s.reg K.CAP_MODE == 1 && s.capMode } ∧ (s.headerShown h).trg = s.trg := by
  let t := (s.putDom K.CAP_LAST_HDR h).put K.CAP_SEQ s.cap.seq
  let u := if t.cap.trig.isSome then t.tally K.TRIG_COUNT else t
  have hcap : u.cap = s.cap ∧ u.mode = s.mode ∧ u.trg = s.trg ∧ u.doms = t.doms := by
    simp only [u]
    split <;> exact ⟨rfl, rfl, rfl, rfl⟩
  obtain ⟨hc, hm, ht, hd⟩ := hcap
  have hreg : ∀ k, u.reg k = if s.cap.trig.isSome = true ∧ k = K.TRIG_COUNT then (t.reg K.TRIG_COUNT + 1) % 2 ^ 32 else if k = K.CAP_SEQ then s.cap.seq else s.reg k := fun k => by
    have htk : t.reg k = if k = K.CAP_SEQ then s.cap.seq else s.reg k := State.reg_put ..
    by_cases hs : s.cap.trig.isSome = true
    · rw [show u = t.tally K.TRIG_COUNT from if_pos hs, State.tally, State.reg_put, htk]
      simp only [hs, true_and]
      rfl
    · rw [show u = t from if_neg hs, htk]
      simp only [hs]
      rfl
  have hmode : u.reg K.CAP_MODE = s.reg K.CAP_MODE := by rw [hreg, if_neg fun h => absurd h.2 (by decide), if_neg (by decide)]
  have hagain : (u.reg K.CAP_MODE == 1 && u.capMode) = (s.reg K.CAP_MODE == 1 && s.capMode) := by rw [hmode, State.capMode, State.capMode, hm]
  have hshown : s.headerShown h = (u.setCap { seq := addWrap 32 u.cap.seq 1, rearm := u.reg K.CAP_MODE == 1 && u.capMode }).put K.TRIG_STATE
      (ofBool (u.reg K.CAP_MODE == 1 && u.capMode)) := rfl
  rw [hshown, hagain, hc]
  refine ⟨?_, ?_, State.reg_put_self _ _ _, ?_, rfl, ht⟩
  · exact (congrArg (fun l => (storeGet l K.CAP_LAST_HDR).getD []) hd).trans (s.dom_putDom_self K.CAP_LAST_HDR h)
  · refine (State.reg_put_ne _ _ _ _ (by decide)).trans ((hreg _).trans ?_)
    rw [if_neg fun h => absurd h.2 (by decide), if_pos rfl]
  · refine (State.reg_put_ne _ _ _ _ (by decide)).trans ((hreg _).trans ?_)
    rw [show t.reg K.TRIG_COUNT = s.reg K.TRIG_COUNT from State.reg_put_ne _ _ _ _ (by decide), if_neg (show ¬K.TRIG_COUNT = K.CAP_SEQ by decide)]
    simp only [and_true]

/-- A granule of the samples of a capture. -/
def isCapture : Purpose → Bool
  | .capture _ _ => true
  | _ => false

/-- A granule that issues does not change whether the header is due. -/
theorem State.headerDue_congr (t : State) (hr : t.reg K.TRIG_STATE = s.reg K.TRIG_STATE) (hq : t.fs.queue.map (·.purpose) = s.fs.queue.map (·.purpose)) :
    t.headerDue = s.headerDue := by
  have hany : ∀ l : List Granule, (l.any fun g => isCapture g.purpose) = (l.map (·.purpose)).any isCapture := fun l => by rw [List.any_map]; rfl
  have hdue : ∀ u : State, u.headerDue = (u.reg K.TRIG_STATE == 4 && !u.fs.queue.any fun g => isCapture g.purpose) := fun u => by
    unfold State.headerDue isCapture
    rfl
  rw [hdue, hdue, hany, hany, hr, hq]

theorem State.headerIssue_written (cc : Nat) (ecc : Ecc) (hd : s.headerDue = true) (hm : s.mayIssue 1 0x18 (s.reg K.CAP_AS) s.headerVa = true) :
    ∃ x : State, x.cap = s.cap ∧ x.trg = s.trg ∧ x.mode = s.mode ∧ (∀ k < 0x500000, x.reg k = s.reg k) ∧ s.headerIssue cc ecc = x.headerShown s.captureHeader := by
  have hb := s.issued_burstStep 1 0x18 (s.reg K.CAP_AS) s.headerVa
  have hdue := s.headerDue_congr (s.issued 1 0x18 (s.reg K.CAP_AS) s.headerVa) (State.reg_congr _ _ (by rw [hb]) _) (s.issued_purposes ..)
  obtain ⟨x, ⟨hx, hk⟩, hw⟩ := (s.issued 1 0x18 (s.reg K.CAP_AS) s.headerVa).headerWritten_due cc ecc (hdue.trans hd)
  have hissue : s.headerIssue cc ecc = (s.issued 1 0x18 (s.reg K.CAP_AS) s.headerVa).headerWritten cc ecc := if_pos (by rw [hd, hm]; rfl)
  have hheader : (s.issued 1 0x18 (s.reg K.CAP_AS) s.headerVa).captureHeader = s.captureHeader := by rw [hb]; rfl
  rw [hissue, hw, hheader]
  refine ⟨x, by rw [hx, hb], by rw [hx, hb], by rw [hx, hb], fun k hlt => (hk k hlt).trans (State.reg_congr _ _ (by rw [hb]) _), rfl⟩

/-! ### Requests (R196, R201, R202) -/

theorem objRow_capCtrl : ∃ r, objRow? K.CAP_CTRL = some r ∧ (r.acc == .rws) = false :=
  ⟨⟨0x4801, 0x4801, 0x01, 0x01, .u8, .wo, 0, .any, none, .running, "CAP_CTRL"⟩, by decide, rfl⟩

theorem objRow_capDrained : ∃ r, objRow? K.CAP_DRAINED = some r ∧ (r.acc == .rws) = false :=
  ⟨⟨0x4851, 0x4851, 0x01, 0x01, .u64, .rw, 0, .any, none, .running, "CAP_DRAINED"⟩, by decide, rfl⟩

theorem exec_capArm (a : HostAt) (h : s.accepts K.CAP_CTRL (a.write 1 1) = true) : exec (.capArm a) s = .next (noteResult a.path (0, s.capArm a.cc)).settle := by
  obtain ⟨r, hr, hs⟩ := objRow_capCtrl
  calc exec (.capArm a) s = .next (s.hostWrite K.CAP_CTRL (a.write 1 1)).settle := rfl
    _ = _ := by rw [s.hostWrite_accepted _ _ r hr hs h, a.write_value 1 (by decide)]; rfl

theorem exec_capStop (a : HostAt) (h : s.accepts K.CAP_CTRL (a.write 1 2) = true) : exec (.capStop a) s = .next (noteResult a.path (0, s.capStop a.cc)).settle := by
  obtain ⟨r, hr, hs⟩ := objRow_capCtrl
  calc exec (.capStop a) s = .next (s.hostWrite K.CAP_CTRL (a.write 1 2)).settle := rfl
    _ = _ := by rw [s.hostWrite_accepted _ _ r hr hs h, a.write_value 2 (by decide)]; rfl

theorem exec_capDrainedWrite (w : HostWrite) (h : s.accepts K.CAP_DRAINED w = true) :
    exec (.capDrainedWrite w) s = .next (noteResult w.path (0, s.capDrained (ofLe w.data) w.cc)).settle := by
  obtain ⟨r, hr, hs⟩ := objRow_capDrained
  calc exec (.capDrainedWrite w) s = .next (s.hostWrite K.CAP_DRAINED w).settle := rfl
    _ = _ := by rw [s.hostWrite_accepted _ _ r hr hs h]; rfl

theorem State.capStop_running (cc : Nat) (h : s.reg K.TRIG_STATE = 1 ∨ s.reg K.TRIG_STATE = 2 ∨ s.reg K.TRIG_STATE = 3) :
    s.capStop cc = s.setCap { s.cap with stopTicks := ticksAfter cc } :=
  if_pos (by simp only [State.capOn]; rcases h with h | h | h <;> rw [h] <;> rfl)

theorem State.capStop_over (cc : Nat) (h : s.reg K.TRIG_STATE = 0 ∨ 4 ≤ s.reg K.TRIG_STATE) : s.capStop cc = s := by
  refine if_neg ?_
  simp only [State.capOn, Bool.or_eq_true, beq_iff_eq]
  omega

/-! ### Arming (R196, R201) -/

theorem State.armAt_effect : (s.armAt 11200).reg K.TRIG_STATE = 2 ∧ (s.armAt 11200).reg K.CAP_WRITTEN = 0
    ∧ (s.armAt 11200).cap = { seq := s.cap.seq, origin := 11200, decs := (List.range 48).map fun ch => s.reg (K.DEC_D ch) }
    ∧ (s.armAt 11200).trg.timerNext = 2800 + (max 1 (s.reg K.TRIG_TIMER) : Nat) ∧ (s.armAt 11200).trg.prog = { stage := 0, entered := 2800 }
    ∧ s.keeps (s.armAt 11200) [K.TRIG_STATE, K.TRIG_STAGE, K.CAP_WRITTEN] := by
  let u := (s.put K.TRIG_STATE 2).put K.CAP_WRITTEN 0
  have hu : s.keeps u [K.TRIG_STATE, K.CAP_WRITTEN] := ((State.keeps.refl s _).put K.TRIG_STATE 2 (by decide)).put K.CAP_WRITTEN 0 (by decide)
  have hobjs : s.armAt 11200 = (((u.setCap { seq := s.cap.seq, origin := 11200, decs := (List.range 48).map fun ch => u.reg (K.DEC_D ch) }).setTrg
      { s.trg with live := [], arrivals := s.trg.arrivals.filter (·.pos != 50), timerNext := 11200 / 4 + (max 1 (u.reg K.TRIG_TIMER) : Nat) }).setProg
      { stage := 0, entered := 11200 / 4 }) := rfl
  have hdecs : (List.range 48).map (fun ch => u.reg (K.DEC_D ch)) = (List.range 48).map fun ch => s.reg (K.DEC_D ch) :=
    List.map_congr_left fun ch hch => hu _ (by
      have := List.mem_range.mp hch
      simp only [K.DEC_D, K.TRIG_STATE, K.CAP_WRITTEN, List.mem_cons, List.not_mem_nil, or_false]
      omega)
  rw [hobjs, hdecs, hu K.TRIG_TIMER (by decide)]
  have hstate : u.reg K.TRIG_STATE = 2 := (State.reg_put_ne _ _ _ _ (by decide)).trans (s.reg_put_self K.TRIG_STATE 2)
  have hwritten : u.reg K.CAP_WRITTEN = 0 := State.reg_put_self _ _ _
  refine ⟨?_, ?_, rfl, rfl, rfl, ?_⟩
  · exact (State.setProg_keeps _ _ _ (by decide)).trans hstate
  · exact (State.setProg_keeps _ _ _ (by decide)).trans hwritten
  · exact ((hu.mono (by decide)).of_objs rfl).trans ((State.setProg_keeps _ _).mono (by decide))

/-! ### Staging (R198, R202) -/

/-- Only granules that wait have come or gone. -/
def State.queued (s t : State) : Prop := t = { s with fs := { s.fs with queue := t.fs.queue } }

theorem State.queued.trans {s t u : State} (h : s.queued t) (h' : t.queued u) : s.queued u := by
  refine Eq.trans h' ?_
  rw [h]

theorem State.queued_forEach {α : Type} (f : State → α → State) (l : List α) (hf : ∀ s a, State.queued s (f s a)) (s : State) : s.queued (s.forEach l f) :=
  foldl_rel State.queued (fun _ => rfl) .trans f l (fun s a _ => hf s a) s

theorem State.stageChan_queued (k ch n : Nat) (before : Int) (l : List Int) : s.queued (s.stageChan k ch n before l) := by
  refine State.queued_forEach _ (s.ringWrites k n before l) ?_ s
  exact fun _ _ => rfl

/-- Staging raw samples changes the queue and the count of what is staged. -/
theorem State.stageTo_parts (n : Nat) : s.stageTo n = { s with
    fs := { s.fs with queue := (s.stageTo n).fs.queue }, cap := { s.cap with staged := if s.capWords then s.cap.staged else max s.cap.staged n } } := by
  unfold State.stageTo
  dsimp only
  split
  next h =>
    rw [Bool.or_eq_true, decide_eq_true_eq] at h
    cases hw : s.capWords with
    | true => rfl
    | false =>
      rw [hw] at h
      simp only [Bool.false_eq_true, if_false, max_eq_left (h.resolve_left Bool.false_ne_true)]
  next h =>
    rw [Bool.or_eq_true, decide_eq_true_eq, not_or] at h
    obtain ⟨hw, hn⟩ := h
    refine (congrArg (fun t : State => t.setCap { t.cap with staged := n })
      (State.queued_forEach _ (s.capChans.mapIdx fun k ch => (k, ch)) (fun s p => s.stageChan_queued p.1 p.2 _ _ _) s)).trans ?_
    have hmax : (if s.capWords = true then s.cap.staged else max s.cap.staged n) = n := by rw [if_neg hw, max_eq_right (by omega)]
    rw [hmax]
    rfl

/-! ### The end of a capture (R201, R202) -/

/-- A capture that has ended with its last kept sample, before CAP_WRITTEN follows. -/
def State.capOver (why : CapEnd) (last : Int) : State :=
  let s := (s.setCap { s.cap with ended := some why, last := last, stopTicks := 0, formed := [] }).put K.TRIG_STATE 4
  let s := if s.reg K.TRIG_OUT_MODE = 2 then s.setTrg { s.trg with out := false } else s
  if why = .overflow then s.stick 19 else s

theorem State.capOver_effect (why : CapEnd) (last : Int) : (s.capOver why last).objs = (s.put K.TRIG_STATE 4).objs
    ∧ (s.capOver why last).cap = { s.cap with ended := some why, last := last, stopTicks := 0, formed := [] }
    ∧ (s.capOver why last).penn = (if why = .overflow then (s.stick 19).penn else s.penn) ∧ (s.capOver why last).fs = s.fs := by
  unfold State.capOver
  dsimp only
  split_ifs <;> exact ⟨rfl, rfl, rfl, rfl⟩

theorem State.capOver_reg (why : CapEnd) (last : Int) (k : Nat) : (s.capOver why last).reg k = if k = K.TRIG_STATE then 4 else s.reg k :=
  (State.reg_congr _ _ (s.capOver_effect why last).1 k).trans (s.reg_put _ _ _)

/-- CAP_WRITTEN shows what is kept and written. -/
theorem State.capClose_eq (why : CapEnd) (last : Int) : s.capClose why last = (s.capOver why last).put K.CAP_WRITTEN
    (min (s.capOver why last).capHeld (last + 1).toNat - ((s.capOver why last).capFirst last).1).toNat := by
  have h4 : (s.capOver why last).reg K.TRIG_STATE = 4 := by rw [s.capOver_reg, if_pos rfl]
  have hlast : (s.capOver why last).cap.last = last := by rw [(s.capOver_effect why last).2.1]
  have hclose : s.capClose why last = (s.capOver why last).capProgress := rfl
  rw [hclose]
  unfold State.capProgress
  simp only [h4, hlast, if_true, true_or]

/-- What the end of a capture leaves. -/
theorem State.capClose_effect (why : CapEnd) (last : Int) : (s.capClose why last).reg K.TRIG_STATE = 4 ∧ (s.capClose why last).cap.ended = some why
    ∧ (s.capClose why last).cap.last = last ∧ (s.capClose why last).penn = (if why = .overflow then (s.stick 19).penn else s.penn)
    ∧ s.keeps (s.capClose why last) [K.TRIG_STATE, K.CAP_WRITTEN] := by
  obtain ⟨_, hcap, hpenn, _⟩ := s.capOver_effect why last
  rw [s.capClose_eq]
  refine ⟨?_, (congrArg Capture.ended hcap :), (congrArg Capture.last hcap :), hpenn, ?_⟩
  · exact (State.reg_put_ne _ _ _ _ (by decide)).trans (by rw [s.capOver_reg, if_pos rfl])
  · exact State.keeps.put (fun k hk => by rw [s.capOver_reg, if_neg (fun h => hk (by rw [h]; decide))]) _ _ (by decide)

/-- A capture of raw samples that had a trigger keeps its samples from that trigger's first one on. -/
theorem State.capFirst_raw (last : Int) (hw : s.capWords = false) (ht : s.cap.trig.isSome = true) : s.capFirst last = ((s.cap.start : Int), s.cap.preShort) := by
  obtain ⟨x, hx⟩ := Option.isSome_iff_exists.mp ht
  simp [State.capFirst, hx, hw]

/-- CAP_WRITTEN never shows more than the kept samples. -/
theorem State.capClose_written (why : CapEnd) (last : Int) (hw : s.capWords = false) (ht : s.cap.trig.isSome = true) :
    (s.capClose why last).reg K.CAP_WRITTEN ≤ s.capCount last := by
  have hcap := (s.capOver_effect why last).2.1
  have hw' : (s.capOver why last).capWords = false := by
    rw [← hw, State.capWords, State.capWords, s.capOver_reg, s.capOver_reg, if_neg (by decide), if_neg (by decide)]
  have hfirst : (s.capOver why last).capFirst last = ((s.cap.start : Int), s.cap.preShort) := by
    rw [State.capFirst_raw _ last hw' (by rw [hcap]; exact ht), hcap]
  rw [s.capClose_eq, State.reg_put_self, hfirst, State.capCount, s.capFirst_raw last hw ht]
  dsimp only
  omega

theorem State.stageTo_reg (n k : Nat) : (s.stageTo n).reg k = s.reg k := State.reg_congr _ _ (by rw [s.stageTo_parts]) k

/-- Raw samples up to the last one to keep are staged where the buffer has room and draining lets them be kept. -/
theorem State.capFeedRaw_goal (g : Int) (hg : s.capGoal = some g) (hroom : g + 1 ≤ (s.cap.staged + s.stageRoom : Nat))
    (hdrain : ∀ m, s.drainLimit = some m → g + 1 ≤ (s.cap.start + m : Nat)) : s.capFeedRaw (g + 1).toNat = s.stageTo (g + 1).toNat := by
  unfold State.capFeedRaw
  simp only [hg, min_self]
  cases hd : s.drainLimit with
  | none =>
    have hle : (g + 1).toNat ≤ s.cap.staged + s.stageRoom := by omega
    simp only [min_eq_left hle]
    exact if_neg (by omega)
  | some m =>
    have hle : (g + 1).toNat ≤ min (s.cap.staged + s.stageRoom) (s.cap.start + m) := by
      have := hdrain m hd
      omega
    simp only [min_eq_left hle]
    exact if_neg (by omega)

theorem State.capOn_of_post (h : s.reg K.TRIG_STATE = 3) : s.capOn = true := by simp [State.capOn, h]

theorem State.capGoal_raw (g : Int) (hw : s.capWords = false) (h : s.capGoal = some g) : s.reg K.CAP_POST ≠ 0xFFFFFFFF ∧ s.cap.trig.isSome = true := by
  unfold State.capGoal at h
  split at h
  · cases h
  next hp =>
    refine ⟨hp, ?_⟩
    rw [State.capT, hw] at h
    cases ht : s.cap.trig with
    | none => simp [ht] at h
    | some x => rfl

/-- The sample T + POST of the present slot completes the capture. -/
theorem State.captureComplete_raw (g : Int) (h3 : s.reg K.TRIG_STATE = 3) (hw : s.capWords = false) (hg : s.capGoal = some g) (ho : s.cap.origin + g < 11200)
    (hrun : s.trigUpTo ((s.cap.origin + g) / 4) = s) (hroom : g + 1 ≤ (s.cap.staged + s.stageRoom : Nat))
    (hdrain : ∀ m, s.drainLimit = some m → g + 1 ≤ (s.cap.start + m : Nat)) : s.captureComplete = (s.stageTo (g + 1).toNat).capClose .complete g := by
  have hparts := s.stageTo_parts (g + 1).toNat
  have hreg := s.stageTo_reg (g + 1).toNat
  have hfeed : s.capFeed (g + 1) = s.stageTo (g + 1).toNat := by
    refine (if_neg (by rw [s.capOn_of_post h3]; decide)).trans ((if_neg (by rw [hw]; decide)).trans (s.capFeedRaw_goal g hg hroom hdrain))
  have hon : (s.stageTo (g + 1).toNat).capOn = true := State.capOn_of_post _ ((hreg _).trans h3)
  have hw' : (s.stageTo (g + 1).toNat).capWords = false := by rw [← hw, State.capWords, State.capWords, hreg, hreg]
  have hg' : (s.stageTo (g + 1).toNat).capGoal = some g := by
    rw [← hg, State.capGoal, State.capGoal, State.capT, State.capT, hw', hw, hreg, hparts]
    rfl
  have htaken : g < ((s.stageTo (g + 1).toNat).capTaken : Int) := by
    rw [State.capTaken, hw', hparts, hw]
    simp only [Bool.false_eq_true, if_false]
    omega
  have hat : s.capGoalAt = some g := (if_neg (by rw [hw]; decide)).trans hg
  unfold State.captureComplete
  dsimp only
  rw [if_neg (show ¬s.reg K.TRIG_STATE = 2 by omega)]
  simp only [h3, beq_self_eq_true, hat, ho, if_true, hrun, hfeed, hon, hg', htaken]

/-! ### A full staging buffer (R202) -/

theorem State.capClose_off (why : CapEnd) (last : Int) : (s.capClose why last).capOn = false := by
  simp [State.capOn, (s.capClose_effect why last).1]

/-- A word that comes while the staging buffer is full is not taken, or ends the capture. -/
theorem State.capWord_full (w : Nat × Int × Int) (hfull : 524288 ≤ s.capStagedBytes) : s.capWord w = s ∨ s.capWord w = s.capClose .overflow ((s.capTaken : Int) - 1) := by
  unfold State.capWord
  split
  · dsimp only
    split
    · exact .inl rfl
    · refine .inr (if_pos ?_)
      simp only [Bool.or_eq_true, decide_eq_true_eq]
      exact .inl (by omega)
  · exact .inl rfl

theorem State.capWord_off (w : Nat × Int × Int) (hoff : s.capOn = false) : s.capWord w = s := by
  unfold State.capWord
  rw [hoff]

/-- Words that come while the staging buffer is full leave the capture as it is, or end it. -/
theorem State.capWords_full (l : List (Nat × Int × Int)) (hfull : 524288 ≤ s.capStagedBytes) :
    s.forEach l State.capWord = s ∨ s.forEach l State.capWord = s.capClose .overflow ((s.capTaken : Int) - 1) := by
  induction l with
  | nil => exact .inl rfl
  | cons w l ih =>
    have hstep : s.forEach (w :: l) State.capWord = (s.capWord w).forEach l State.capWord := rfl
    have hclosed : ∀ t : State, t.capOn = false → t.forEach l State.capWord = t := fun t ht =>
      foldl_rel (fun a b : State => a.capOn = false → b = a) (fun _ _ => rfl) (fun h h' ha => (h' (by rw [h ha]; exact ha)).trans (h ha)) State.capWord l
        (fun a w _ ha => a.capWord_off w ha) t ht
    rcases s.capWord_full w hfull with h | h
    · rw [hstep, h]
      exact ih
    · rw [hstep, h]
      exact .inr (hclosed _ (s.capClose_off _ _))

theorem State.stageTo_staged (n : Nat) (h : n ≤ s.cap.staged) : s.stageTo n = s := if_pos (by simp [h])

/-- Raw samples that come while the staging buffer is full end the capture. -/
theorem State.capFeedRaw_full (n : Nat) (hfull : 524288 ≤ s.capStagedBytes) (hd : s.drainLimit = none) (hc : s.capChans ≠ []) (hw : s.capWords = false) :
    s.capFeedRaw n = s ∨ s.capFeedRaw n = s.capClose .overflow ((s.capTaken : Int) - 1) := by
  have hpair : s.capChans.length * (if s.reg K.CAP_FMT = 0 then 3 else 4) ≠ 0 := by
    have := List.length_pos_of_ne_nil hc
    split <;> omega
  have hroom : s.stageRoom = 0 := by
    rw [State.stageRoom]
    simp only [hpair, if_false]
    rw [show 524288 - s.capStagedBytes = 0 by omega]
    simp
  have htaken : s.capTaken = s.cap.staged := by simp [State.capTaken, hw]
  unfold State.capFeedRaw
  simp only [hroom, hd, Nat.add_zero, htaken]
  rw [s.stageTo_staged _ (Nat.min_le_right _ _)]
  split_ifs
  · exact .inr rfl
  · exact .inl rfl

/-- A capture whose staging buffer is full ends with what it has taken. -/
theorem State.overflowBy_full (cc : Nat) (hon : s.capOn = true) (hfull : 524288 ≤ s.capStagedBytes) (hd : s.drainLimit = none) (hc : s.capChans ≠ []) :
    ∃ l, s.overflowBy cc = (s.setCap { s.cap with formed := l }).capClose .overflow ((s.capTaken : Int) - 1) := by
  have hfeed : ∃ l, s.capFeed (4 * (cc : Int) - s.cap.origin) = s.setCap { s.cap with formed := l }
      ∨ s.capFeed (4 * (cc : Int) - s.cap.origin) = (s.setCap { s.cap with formed := l }).capClose .overflow ((s.capTaken : Int) - 1) := by
    unfold State.capFeed
    rw [if_neg (by rw [hon]; decide)]
    by_cases hw : s.capWords = true
    · rw [if_pos hw]
      exact ⟨_, State.capWords_full (s.setCap { s.cap with formed := _ }) _ hfull⟩
    · rw [if_neg hw]
      exact ⟨s.cap.formed, s.capFeedRaw_full _ hfull hd hc (Bool.not_eq_true _ ▸ hw)⟩
  obtain ⟨l, h | h⟩ := hfeed
  · refine ⟨l, ?_⟩
    unfold State.overflowBy
    dsimp only
    rw [h]
    refine if_pos ?_
    rw [Bool.and_eq_true, decide_eq_true_eq]
    exact ⟨hon, hfull⟩
  · refine ⟨l, ?_⟩
    unfold State.overflowBy
    dsimp only
    rw [h]
    exact if_neg (by rw [State.capClose_off, Bool.false_and]; decide)

theorem State.captureOverflow_full (cc : Nat) (hon : s.capOn = true) (hfull : 524288 ≤ s.capStagedBytes) (hd : s.drainLimit = none) (hc : s.capChans ≠ []) :
    ∃ l, s.captureOverflow cc = ((s.setCap { s.cap with formed := l }).capClose .overflow ((s.capTaken : Int) - 1)).eventCc 19 cc := by
  obtain ⟨l, hl⟩ := s.overflowBy_full cc hon hfull hd hc
  refine ⟨l, ?_⟩
  unfold State.captureOverflow
  dsimp only
  rw [hl]
  exact if_pos (by rw [State.capClose_off, hon]; rfl)

end

end Sys2Proof.Machine
end

section
/-! PROOFS. The obligation of chapter 7 on captures. -/

namespace Sys2Proof.Machine

section
variable (s : State)

theorem exec_captureArmTick (ht : s.ticking = true) (hd : s.armDue = true) (hr : s.cap.rearm = false) : exec .captureArmTick s = .next (s.atTick.armTick 11200).settle := by
  calc exec .captureArmTick s = .next (s.tickRow (s.armDue && !s.cap.rearm) fun s => s.armTick 11200).settle := rfl
    _ = _ := by rw [s.tickRow_due _ _ (by simp [hd, hr]) ht]; rfl

theorem exec_captureRearm (ht : s.ticking = true) (hd : s.armDue = true) (hr : s.cap.rearm = true) : exec .captureRearm s = .next (s.atTick.armTick 11200).settle := by
  calc exec .captureRearm s = .next (s.tickRow (s.armDue && s.cap.rearm) fun s => s.armTick 11200).settle := rfl
    _ = _ := by rw [s.tickRow_due _ _ (by simp [hd, hr]) ht]; rfl

theorem exec_captureComplete (h : s.mode.coreRuns = true) : exec .captureComplete s = .next s.captureComplete.settle := by
  calc exec .captureComplete s = .next (s.core State.captureComplete).settle := rfl
    _ = _ := by rw [s.core_on _ h]

theorem exec_captureOverflow (cc : Fin 2800) (h : s.mode.coreRuns = true) : exec (.captureOverflow cc) s = .next ((s.capReach cc).captureOverflow cc).settle := by
  calc exec (.captureOverflow cc) s = .next (s.core fun s => (s.capReach cc).captureOverflow cc).settle := rfl
    _ = _ := by rw [s.core_on _ h]

theorem exec_captureHeaderWritten (cc : Fin 2800) (ecc : Ecc) (h : s.mode.coreRuns = true) :
    exec (.captureHeaderWritten cc ecc) s = .next (s.headerIssue cc ecc).settle := by
  calc exec (.captureHeaderWritten cc ecc) s = .next (s.core fun s => s.headerIssue cc ecc).settle := rfl
    _ = _ := by rw [s.core_on _ h]

end

/-- Settles O16: requests and arming by their equations, the ends by what closing a capture leaves, the header by what the store's step cannot change. -/
theorem captures : Obligations.Captures := by
  unfold Obligations.Captures
  refine ⟨⟨fun s a h => ⟨fun h0 hm => ?_, fun hn => ?_⟩, fun s a h => ⟨fun hr => ?_, fun hn => ?_⟩, fun s u ht hd hu hdu => ?_⟩,
    ⟨fun s g hcore h3 hw hg ho hrun hroom hdrain => ?_, fun s u cc hcore hu hon hd hc hfull => ?_, fun s u w h hu => ⟨fun hle => ?_, fun hlt => ?_⟩⟩,
    fun s cc ecc again hcore hd hagain => ⟨fun hm => ?_, fun hm => ?_⟩⟩
  · rw [exec_capArm s a h, State.capArm, if_pos (by simp [h0, State.capMode, hm])]
  · rw [exec_capArm s a h, State.capArm, if_neg]
    rcases hn with hn | hn <;> simp [hn, State.capMode]
  · rw [exec_capStop s a h, s.capStop_running _ hr]
    rfl
  · rw [exec_capStop s a h, s.capStop_over _ hn]
  · subst hu
    obtain ⟨hstate, hwritten, hcap, htimer, hprog, hkeep⟩ := s.atTick.armAt_effect
    have harm : s.atTick.armTick 11200 = s.atTick.armAt 11200 := if_pos hdu
    refine ⟨s.atTick.armAt 11200, fun hr => ?_, fun hr => ?_, hstate, hwritten, hcap, htimer, hprog, hkeep⟩
    · rw [exec_captureArmTick s ht hd hr, harm]
    · rw [exec_captureRearm s ht hd hr, harm]
  · obtain ⟨_, htrig⟩ := s.capGoal_raw g hw hg
    have hparts := s.stageTo_parts (g + 1).toNat
    have hreg := s.stageTo_reg (g + 1).toNat
    obtain ⟨hstate, hended, hlast, hpenn, hkeep⟩ := (s.stageTo (g + 1).toNat).capClose_effect .complete g
    have hw' : (s.stageTo (g + 1).toNat).capWords = false := by rw [← hw, State.capWords, State.capWords, hreg, hreg]
    have htrig' : (s.stageTo (g + 1).toNat).cap.trig.isSome = true := by rw [hparts]; exact htrig
    have hwritten := (s.stageTo (g + 1).toNat).capClose_written .complete g hw' htrig'
    have hcount : (s.stageTo (g + 1).toNat).capCount g = s.capCount g := by
      rw [State.capCount, State.capCount, State.capFirst_raw _ _ hw' htrig', s.capFirst_raw _ hw htrig, hparts]
    rw [exec_captureComplete s hcore, s.captureComplete_raw g h3 hw hg ho hrun hroom hdrain]
    refine ⟨_, rfl, hstate, hended, hlast, hcount ▸ hwritten, ?_, hpenn.trans (by rw [hparts]; rfl)⟩
    exact State.keeps.trans (fun k _ => hreg k) hkeep
  · obtain ⟨l, hl⟩ := u.captureOverflow_full cc hon hfull hd hc
    obtain ⟨hstate, hended, hlast, hpenn, hkeep⟩ := (u.setCap { u.cap with formed := l }).capClose_effect .overflow ((u.capTaken : Int) - 1)
    rw [exec_captureOverflow s cc hcore, ← hu, hl]
    refine ⟨_, rfl, hstate, hended, hlast, ?_, hkeep⟩
    have hsticky := congrArg PennState.sticky hpenn
    refine (congrArg (fun v => bitAt v 19) hsticky).trans ?_
    exact (bitAt_withBit u.penn.sticky 19 19 true).trans (if_pos rfl)
  · subst hu
    rw [exec_capDrainedWrite s w h]
    exact congrArg (fun t => Host.Outcome.next (noteResult w.path (0, t)).settle) (if_neg (Nat.not_lt.mpr hle))
  · subst hu
    rw [exec_capDrainedWrite s w h]
    exact congrArg (fun t => Host.Outcome.next (noteResult w.path (0, t)).settle) (if_pos hlt)
  · obtain ⟨x, hcap, htrg, hmode, hreg, hissue⟩ := s.headerIssue_written cc ecc hd hm
    obtain ⟨hdom, hseq, hstate, hcount, hc, ht⟩ := x.headerShown_effect s.captureHeader
    have hagain' : (x.reg K.CAP_MODE == 1 && x.capMode) = again := by rw [hagain, hreg _ (by decide), State.capMode, hmode]
    rw [hagain'] at hstate hc
    rw [hcap] at hseq hcount hc
    rw [hreg K.TRIG_COUNT (by decide)] at hcount
    rw [exec_captureHeaderWritten s cc ecc hcore, hissue]
    exact ⟨_, rfl, hdom, hseq, hstate, hcount, hc, ht.trans htrg⟩
  · rw [exec_captureHeaderWritten s cc ecc hcore]
    exact congrArg (fun t : State => Host.Outcome.next t.settle) (if_neg (by rw [hm, Bool.and_false]; decide))

end Sys2Proof.Machine
end

section
/-! PROOFS. What the users of samples and words leave as it is: the spectrum engine, the trigger engine with its capture, and the streams touch neither the decimators nor
the clocks nor the memory, nor a register below their own chapters' (R212). -/

namespace Sys2Proof.Machine

/-- A step of the engines that use samples and words. -/
structure State.aside (s t : State) : Prop where
  dec : t.dec = s.dec
  slot : t.slot = s.slot
  clk : t.clk = s.clk
  pipe : t.pipe = s.pipe
  mode : t.mode = s.mode
  mem : t.fs.mem = s.fs.mem
  reg : ∀ k < 0x400000, t.reg k = s.reg k

section
variable {s t u : State}

theorem State.aside.refl (s : State) : s.aside s := ⟨rfl, rfl, rfl, rfl, rfl, rfl, fun _ _ => rfl⟩

theorem State.aside.trans (h : s.aside t) (h' : t.aside u) : s.aside u :=
  ⟨h'.dec.trans h.dec, h'.slot.trans h.slot, h'.clk.trans h.clk, h'.pipe.trans h.pipe, h'.mode.trans h.mode, h'.mem.trans h.mem,
    fun k hk => (h'.reg k hk).trans (h.reg k hk)⟩

theorem State.aside.put (h : s.aside t) (k v : Nat) (hk : 0x400000 ≤ k) : s.aside (t.put k v) :=
  ⟨h.dec, h.slot, h.clk, h.pipe, h.mode, h.mem, fun q hq => (t.reg_put_ne k q v (by omega)).trans (h.reg q hq)⟩

theorem State.aside.ite {c : Prop} [Decidable c] (h : s.aside t) (h' : s.aside u) : s.aside (if c then t else u) := by
  split
  · exact h
  · exact h'

/-- A walk of such steps. -/
theorem State.aside.foldl {α : Type} (h : s.aside t) (f : State → α → State) (l : List α) (hf : ∀ x, ∀ a ∈ l, State.aside x (f x a)) : s.aside (l.foldl f t) :=
  h.trans (foldl_rel State.aside .refl .trans f l hf t)

theorem State.aside.stream (h : s.aside t) (n : Nat) (x : Stream) : s.aside (t.setStream n x) := ⟨h.dec, h.slot, h.clk, h.pipe, h.mode, h.mem, h.reg⟩

theorem State.aside.link (h : s.aside t) (x : Link) : s.aside (t.setLink x) := ⟨h.dec, h.slot, h.clk, h.pipe, h.mode, h.mem, h.reg⟩

theorem State.aside.spec (h : s.aside t) (n : Nat) (x : SpecChan) : s.aside (t.setSpec n x) := ⟨h.dec, h.slot, h.clk, h.pipe, h.mode, h.mem, h.reg⟩

theorem State.aside.dens (h : s.aside t) (n : Nat) (x : DensMap) : s.aside (t.setDens n x) := ⟨h.dec, h.slot, h.clk, h.pipe, h.mode, h.mem, h.reg⟩

theorem State.aside.trg (h : s.aside t) (x : Trig) : s.aside (t.setTrg x) := ⟨h.dec, h.slot, h.clk, h.pipe, h.mode, h.mem, h.reg⟩

theorem State.aside.cap (h : s.aside t) (x : Capture) : s.aside (t.setCap x) := ⟨h.dec, h.slot, h.clk, h.pipe, h.mode, h.mem, h.reg⟩

theorem State.aside.stick (h : s.aside t) (n : Nat) : s.aside (t.stick n) := ⟨h.dec, h.slot, h.clk, h.pipe, h.mode, h.mem, h.reg⟩

theorem State.aside.draw (h : s.aside t) : s.aside t.draw.2 := ⟨h.dec, h.slot, h.clk, h.pipe, h.mode, h.mem, h.reg⟩

theorem State.aside.enqueue (h : s.aside t) (l : List Granule) : s.aside (t.enqueue l) := ⟨h.dec, h.slot, h.clk, h.pipe, h.mode, h.mem, h.reg⟩

theorem State.aside.sends (h : s.aside t) (a : Arrival) : s.aside (t.sends a) := ⟨h.dec, h.slot, h.clk, h.pipe, h.mode, h.mem, h.reg⟩

end

section
variable (s : State)

/-! ### The spectrum engine -/

theorem State.specPowers_aside (ch : Nat) (a : Int) : s.aside (s.specPowers ch a).2 := by
  unfold State.specPowers
  dsimp only
  split
  · exact .refl s
  · exact (State.aside.refl s).draw

theorem State.densShow_aside (ch : Nat) (l : List DensJob) : s.aside (s.densShow ch l) := by
  induction l generalizing s with
  | nil => exact (State.aside.refl s).dens ..
  | cons j l ih =>
    unfold State.densShow
    split
    · refine State.aside.trans ?_ (ih _)
      exact ((((State.aside.refl s).put _ _ (Nat.le_add_right_of_le (by decide))).put _ _ (Nat.le_add_right_of_le (by decide))).put _ _
        (Nat.le_add_right_of_le (by decide))).put _ _ (Nat.le_add_right_of_le (by decide))
    · exact (State.aside.refl s).dens ..

theorem State.densSwap_aside (ch : Nat) (halve : Bool) : s.aside (s.densSwap ch halve) := ((State.aside.refl s).dens ..).trans (State.densShow_aside ..)

theorem State.densBegin_aside (ch : Nat) : s.aside (s.densBegin ch) := .ite (.refl s) ((State.aside.refl s).dens ..)

theorem State.densSwapStep_aside (ch : Nat) : s.aside (s.densSwapStep ch) := .ite (s.densSwap_aside ..) (.refl s)

theorem State.densTake_aside (ch n : Nat) (db : Array Int) (stamp : Nat) : s.aside (s.densTake ch n db stamp) := by
  unfold State.densTake
  dsimp only
  split
  · exact (State.aside.refl s).dens ..
  · exact ((((s.densBegin_aside ch).trans (State.densSwapStep_aside ..))).put _ _ (Nat.le_add_right_of_le (by decide))).dens ..

theorem State.maskTest_aside (ch src n : Nat) (db : Array Int) (a b : Int) (stamp : Nat) : s.aside (s.maskTest ch src n db a b stamp) :=
  .ite (.refl s) (.ite ((State.aside.refl s).spec ..) (.refl s))

theorem State.report_aside (ch seq : Nat) (lines : List Nat) : s.aside (s.report ch seq lines) := by
  have hlines := (State.aside.refl s).foldl (fun s p => s.put (K.LINES ch p.1) p.2) (lines.mapIdx fun i l => (i, l)) fun x p _ =>
    (State.aside.refl x).put _ p.2 (by simp only [K.LINES]; omega)
  have hseq := hlines.put (K.LINE_SEQ ch) seq (by simp only [K.LINE_SEQ]; omega)
  exact .ite (hseq.stick 28) hseq

theorem State.pipeTake_aside (i : Nat) : s.aside (s.pipeTake i) := by
  unfold State.pipeTake
  split
  · exact ((State.aside.refl s).put _ _ (Nat.le_add_right_of_le (by decide))).put _ _ (Nat.le_add_right_of_le (by decide))
  · exact .refl s

theorem State.pipeBoundary_aside (p : Nat) : s.aside (s.pipeBoundary p) := by
  have htake : s.aside ((s.count K.TAKEOVERS).pipeTake p) := ((State.aside.refl s).put _ _ (by decide)).trans (State.pipeTake_aside ..)
  unfold State.pipeBoundary
  split
  · split
    · exact ⟨htake.dec, htake.slot, htake.clk, htake.pipe, htake.mode, htake.mem, htake.reg⟩
    · exact .refl s
  · exact .refl s

theorem State.closeAverage_aside (ch : Nat) (stopped : Bool) : s.aside (s.closeAverage ch stopped) := by
  unfold State.closeAverage
  dsimp only
  split
  · exact .refl s
  · refine State.aside.trans ?_ (State.pipeBoundary_aside ..)
    refine State.aside.trans ?_ (State.maskTest_aside ..)
    refine State.aside.trans (t := State.report _ ch (s.spec1 ch).seq _) ?_ (.ite (State.densTake_aside ..) (.refl _))
    refine State.aside.trans (.ite ?_ ?_) (State.report_aside ..)
    · exact ((State.aside.refl s).spec ..).put _ _ (Nat.le_add_right_of_le (by decide))
    · exact ((State.aside.refl s).spec ..).enqueue _

theorem State.specComplete_aside (ch : Nat) : s.aside (s.specComplete ch) := by
  unfold State.specComplete
  dsimp only
  split
  · exact .refl s
  · have hpow := s.specPowers_aside ch (s.spec1 ch).next
    refine .ite (.trans ?_ (State.closeAverage_aside ..)) ?_
    all_goals exact .trans (.trans (hpow.spec ..) (.ite (State.densTake_aside ..) (.refl _))) (State.maskTest_aside ..)

theorem State.specWord_aside (ch : Nat) (i v : Int) : s.aside (s.specWord ch i v) := by
  unfold State.specWord
  dsimp only
  split
  · exact .refl s
  · exact ((State.aside.refl s).spec ..).trans (State.specComplete_aside ..)

/-- A grid of decimator words that restarts. -/
theorem State.gridRestart_aside (ch : Nat) (a g : Int) : s.aside (s.gridRestart ch a g) := by
  unfold State.gridRestart
  dsimp only
  split
  · exact .refl s
  · exact .spec (.put (.ite ((State.aside.refl s).dens ..) (.refl s)) _ _ (Nat.le_add_right_of_le (by decide))) ..

theorem State.specDecReset_aside (ch : Nat) (a : Int) : s.aside (s.specDecReset ch a) :=
  .ite ((State.aside.refl s).foldl _ _ fun x _ _ => x.gridRestart_aside ..) (.refl s)

/-! ### The trigger engine and the capture -/

theorem State.stageTo_aside (n : Nat) : s.aside (s.stageTo n) := by
  have h := s.stageTo_parts n
  exact ⟨by rw [h], by rw [h], by rw [h], by rw [h], by rw [h], by rw [h], fun k _ => s.stageTo_reg n k⟩

theorem State.stageChan_aside (k ch n : Nat) (before : Int) (l : List Int) : s.aside (s.stageChan k ch n before l) := by
  have h := s.stageChan_queued k ch n before l
  unfold State.queued at h
  exact ⟨by rw [h], by rw [h], by rw [h], by rw [h], by rw [h], by rw [h], fun k _ => State.reg_congr _ _ (by rw [h]) k⟩

theorem State.capClose_aside (why : CapEnd) (last : Int) : s.aside (s.capClose why last) := by
  have h : s.aside (s.capOver why last) := by
    have hput := ((State.aside.refl s).cap { s.cap with ended := some why, last := last, stopTicks := 0, formed := [] }).put K.TRIG_STATE 4 (by decide)
    unfold State.capOver
    dsimp only
    exact .ite (.stick (.ite (hput.trg _) hput) _) (.ite (hput.trg _) hput)
  rw [s.capClose_eq]
  exact h.put _ _ (by decide)

theorem State.capFeedRaw_aside (n : Nat) : s.aside (s.capFeedRaw n) := .ite ((s.stageTo_aside _).trans (State.capClose_aside ..)) (s.stageTo_aside _)

theorem State.capWord_aside (w : Nat × Int × Int) : s.aside (s.capWord w) := by
  unfold State.capWord
  split
  · exact .ite (.refl s) (.ite (s.capClose_aside ..) ((s.stageChan_aside ..).cap _))
  · exact .refl s

theorem State.capFeed_aside (n : Int) : s.aside (s.capFeed n) :=
  .ite (.refl s) (.ite (((State.aside.refl s).cap _).foldl State.capWord _ fun x w _ => x.capWord_aside w) (s.capFeedRaw_aside _))

theorem State.capEnd_aside (why : CapEnd) (last : Int) : s.aside (s.capEnd why last) := by
  have h : s.aside (if s.capWords then s else s.capFeed (last + 1)) := .ite (.refl s) (s.capFeed_aside _)
  exact .ite (h.trans (State.capClose_aside ..)) h

theorem State.capEndBefore_aside (why : CapEnd) (n : Int) : s.aside (s.capEndBefore why n) := (s.capFeed_aside n).trans (State.capEnd_aside ..)

theorem State.captureMaskstop_aside (ch : Nat) (cc : Int) (stamp : Nat) : s.aside (s.captureMaskstop ch cc stamp) := by
  unfold State.captureMaskstop
  split
  · exact .ite (s.capEndBefore_aside ..) (.refl s)
  · exact .refl s

theorem State.setProg_aside (p : TrigProg) : s.aside (s.setProg p) := ((State.aside.refl s).trg _).put _ _ (by decide)

theorem State.reference_aside (st : Nat) (rose : List (Nat × Nat)) : s.aside (s.reference st rose).2 := by
  unfold State.reference
  dsimp only
  split
  · exact .refl s
  · split
    · exact .refl s
    · exact (State.aside.refl s).draw

theorem State.progCc_aside (now : Int) (pulses rose : List (Nat × Nat)) : s.aside (s.progCc now pulses rose) := by
  refine .ite (.refl s) (.ite (.ite (s.setProg_aside _) ?_) (s.setProg_aside _))
  exact (s.reference_aside _ rose).trans (State.setProg_aside ..)

theorem State.declareAt_aside (now : Int) (pos stamp : Nat) : s.aside (s.declareAt now pos stamp) := by
  have hfirst : s.aside (s.firstTrigger now pos stamp) := .cap (.put (.put (.put (.put (.refl s) _ _ (by decide)) _ _ (by decide)) _ _ (by decide)) _ _ (by decide)) _
  exact .ite (.ite (hfirst.trg _) hfirst) (.ite (((State.aside.refl s).put _ _ (by decide)).cap _) (.refl s))

theorem State.triggerDeclare_aside : s.aside s.triggerDeclare := by
  unfold State.triggerDeclare
  split
  · exact (s.setProg_aside _).trans (State.declareAt_aside ..)
  · exact .refl s

theorem State.stageTimeout_aside : s.aside s.stageTimeout := ((State.aside.refl s).put _ _ (by decide)).trans (State.setProg_aside ..)

theorem State.sees_aside (a : Arrival) : s.aside (s.sees a) := (State.aside.refl s).trg _

theorem State.timerExpire_aside : s.aside s.timerExpire := by
  have h := (State.aside.refl s).trg { s.trg with timerNext := s.trg.timerNext + (max 1 (s.reg K.TRIG_TIMER) : Nat) }
  exact .ite (.ite (h.sends _) h) (.refl s)

theorem State.timerUntil_aside (t : Int) (n : Nat) : s.aside (s.timerUntil t n) := by
  induction n generalizing s with
  | zero => exact .refl s
  | succ n ih => exact .ite (s.timerExpire_aside.trans (ih _)) (.refl s)

theorem State.trigCc_aside (t : Int) : s.aside (s.trigCc t) := by
  have hjudge : ∀ (u : State) (p r : List (Nat × Nat)), State.aside u (if u.trigRuns then u.progCc t p r else u) := fun u p r => .ite (u.progCc_aside ..) (.refl u)
  have hone : ∀ (u : State) (a : Arrival), u.aside ((if a.src == 3 && a.on then u.captureMaskstop a.pos t a.stamp else u).sees a) := fun u a =>
    .trans (.ite (u.captureMaskstop_aside ..) (.refl u)) (State.sees_aside ..)
  have hdecl : s.aside (if s.trg.prog.declare.any fun d => decide (d.1 ≤ t) then (s.capFeed (4 * t - s.cap.origin)).triggerDeclare else s) :=
    .ite ((s.capFeed_aside _).trans (State.triggerDeclare_aside _)) (.refl s)
  unfold State.trigCc
  dsimp only
  refine .ite (.trans (.trans (.trans ?_ (hjudge _ _ _)) (State.stageTimeout_aside _)) (hjudge _ _ _)) (.trans ?_ (hjudge _ _ _))
  all_goals exact .trg (.foldl (.trg hdecl _) _ _ fun x a _ => hone x a) _

theorem State.trigRun_aside (t : Int) (stop : State → Bool) (n : Nat) : s.aside (s.trigRun t stop n) := by
  induction n generalizing s with
  | zero => exact .refl s
  | succ n ih =>
    unfold State.trigRun
    dsimp only
    split
    · exact .refl s
    · split
      · exact .ite ((s.timerUntil_aside ..).trans ((State.trigCc_aside ..).trans (ih _))) (s.timerUntil_aside ..)
      · exact s.timerUntil_aside ..

theorem State.trigUpTo_aside (t : Int) : s.aside (s.trigUpTo t) := s.trigRun_aside ..

/-! ### The streams -/

theorem State.dropPackets_aside (n k : Nat) : s.aside (s.dropPackets n k) := by
  have h := (State.aside.refl s).stream n { s.stream n with loss := true }
  refine .ite (.refl s) (.ite h (h.put _ _ ?_))
  simp only [ofStream, K.STREAM_DROPPED]
  omega

theorem State.offer_aside (p : Packet) (room : Nat) : s.aside (s.offer p room) := .ite ((State.aside.refl s).stream ..) (s.dropPackets_aside ..)

theorem State.streamPacket_aside (n ty aux t : Nat) (last : Bool) (b : List Byte) : s.aside (s.streamPacket n ty aux t last b) :=
  ((State.aside.refl s).stream ..).trans (State.offer_aside ..)

theorem State.decPacket_aside (n k : Nat) (last : Bool) : s.aside (s.decPacket n k last) := (s.streamPacket_aside ..).stream ..

theorem State.rawPacket_aside (n k : Nat) (last : Bool) : s.aside (s.rawPacket n k last) := (s.streamPacket_aside ..).stream ..

theorem State.decReady_aside (n : Nat) : s.aside (s.decReady n) := .ite (.ite (s.decPacket_aside ..) (.refl s)) (.refl s)

theorem State.idleExit_aside : s.aside s.idleExit := .ite (((State.aside.refl s).link _).link _) (.refl s)

theorem State.startPacket_aside (n : Nat) : s.aside (s.startPacket n) := by
  unfold State.startPacket
  split
  · refine .link (.ite (.put ((State.aside.refl s).stream ..) _ _ ?_) ((State.aside.refl s).stream ..)) _
    simp only [ofStream, K.CREDIT]
    omega
  · exact .refl s

theorem State.linkPump_aside : s.aside s.linkPump := by
  unfold State.linkPump
  dsimp only
  split
  · exact .refl s
  · split
    · split
      · exact s.startPacket_aside _
      · exact .refl s
    · split
      · exact .ite (.trans (((State.aside.refl s).link _).put _ _ (by decide)) (State.startPacket_aside ..)) ((State.aside.refl s).link _)
      · exact (State.aside.refl s).link _

theorem State.packetSent_aside : s.aside s.packetSent := by
  unfold State.packetSent
  split
  · exact .refl s
  · refine .ite ((State.aside.refl s).link _) (((State.aside.refl s).link _).put _ _ ?_)
    simp only [ofStream, K.STREAM_PKTS]
    omega

theorem State.lanesDrain_aside (n k : Nat) : s.aside (s.lanesDrain n k) := by
  induction k generalizing s with
  | zero => exact .refl s
  | succ k ih =>
    have hpump := s.idleExit_aside.trans (State.linkPump_aside _)
    exact .ite (.refl s) (.ite (hpump.trans ((State.packetSent_aside _).trans (ih _))) hpump)

theorem State.decReadyAll_aside (n : Nat) : s.aside (s.decReadyAll n) :=
  (State.aside.refl s).foldl _ _ fun x _ _ => .trans (.ite (x.lanesDrain_aside ..) (.refl x)) (State.decReady_aside ..)

theorem State.endAssembly_aside (n : Nat) (i : Int) : s.aside (s.endAssembly n i) := by
  unfold State.endAssembly
  dsimp only
  split
  · exact .refl s
  · split
    · refine .stream (.ite (.trans ?_ (State.decPacket_aside ..)) ?_) ..
      all_goals exact (s.decReadyAll_aside n).trans (.ite (State.lanesDrain_aside ..) (.refl _))
    · exact .ite (s.rawPacket_aside ..) (.refl s)
    · exact .refl s

theorem State.streamsReset_aside (l : List Nat) (r : Int) : s.aside (s.streamsReset l r) := by
  refine (State.aside.refl s).foldl _ _ fun x n _ => .ite (.put (.stream (x.endAssembly_aside ..) ..) _ _ ?_) (.refl x)
  simp only [ofStream, K.STREAM_STATE]
  omega

theorem State.streamWord_aside (ch : Nat) (i : Int) (w : Option Int) : s.aside (s.streamWord ch i w) := by
  refine (State.aside.refl s).foldl _ _ fun x n _ => .ite ?_ (.refl x)
  split
  · exact (State.aside.refl x).stream ..
  · exact .refl x

end

end Sys2Proof.Machine
end

section
/-! PROOFS. Chapter 8: words of the decimators, SYNC_IN and the resets (R210 to R217). -/

namespace Sys2Proof.Machine

section
variable (s : State)

/-! ### A word (R210, R211) -/

theorem State.capTake_aside (ch : Nat) (i v : Int) : s.aside (s.capTake ch i v) := .ite ((State.aside.refl s).cap _) (.refl s)

/-- An instant that is done. -/
def State.instantDone (ch j : Nat) : State := s.setDec ch { s.dec1 ch with done := j }

theorem State.dec1_setDec (ch n : Nat) (d : Decim) : (s.setDec ch d).dec1 n = if n = ch then d else s.dec1 n := getD_setAt ..

theorem State.instantDone_keeps (ch j : Nat) : s.keeps (s.instantDone ch j) [] := (State.keeps.refl s _).of_objs rfl

/-- The registers of a VALID word. -/
def State.wordShown (ch : Nat) (v : Int) : State := (s.putI 16 (K.DEC_LAST ch) v).put (K.DEC_STATE ch) 2

theorem State.wordShown_reg (ch : Nat) (v : Int) : (s.wordShown ch v).reg (K.DEC_LAST ch) = ofSigned 16 v ∧ (s.wordShown ch v).reg (K.DEC_STATE ch) = 2 :=
  ⟨(State.reg_put_ne _ _ _ _ (by simp only [K.DEC_LAST, K.DEC_STATE]; omega)).trans (s.reg_put_self _ _), State.reg_put_self _ _ _⟩

theorem State.wordShown_keeps (ch : Nat) (v : Int) : s.keeps (s.wordShown ch v) [K.DEC_LAST ch, K.DEC_STATE ch] :=
  ((State.keeps.refl s _).put _ _ (by simp)).put _ _ (by simp)

variable (ch : Nat) (i : Int) (j : Nat) (c : Cadence) (hn : s.nextInstant ch = some (i, j, c)) (hi : i < 11200)
include hn hi

theorem State.decWord_valid (hv : c.len ≤ j * c.dec) :
    s.decWord ch = ((((s.instantDone ch j).wordShown ch (s.decSum ch c.len i)).specWord ch i (s.decSum ch c.len i)).capTake ch i (s.decSum ch c.len i)).streamWord ch i
      (some (s.decSum ch c.len i)) := by
  unfold State.decWord
  simp only [hn, hi, hv, if_true]
  rfl

theorem State.decWord_filling (hv : j * c.dec < c.len) : s.decWord ch = (s.instantDone ch j).streamWord ch i none := by
  unfold State.decWord
  simp only [hn, hi, if_true, if_neg (Nat.not_le.mpr hv)]
  rfl

omit hn hi

theorem State.decInstant_next (hn : s.nextInstant ch = some (i, j, c)) (hr : ∀ r, s.dec.syncReset = some r → i < (r : Int)) : s.decInstant ch = s.decWord ch := by
  have hreset : s.resetBefore i = s := by
    refine if_neg ?_
    cases hd : s.dec.syncReset with
    | none => simp
    | some r => simpa using hr r hd
  unfold State.decInstant
  simp only [hn, hreset]

/-- The stream of words leaves every register. -/
theorem State.streamWord_keeps (w : Option Int) : s.keeps (s.streamWord ch i w) [] := by
  refine (State.keeps.refl s _).foldl _ _ fun x n _ => ?_
  dsimp only
  split
  · split
    · exact (State.keeps.refl x _).of_objs rfl
    · exact .refl x _
  · exact .refl x _

theorem State.specWord_raw (v : Int) (h : s.reg (K.SP_SRC (ch / 2)) ≠ 1) : s.specWord ch i v = s := if_pos (by simp [h])

theorem State.capTake_raw (v : Int) (h : s.capWords = false) : s.capTake ch i v = s := if_neg (by simp [h])

/-! ### Steps of the decimators -/

end

/-- A step in which decimators deliver words: their settings, the counts of resets and the edges seen stay. -/
structure State.wordStep (s t : State) : Prop where
  dec : t.dec = { s.dec with chans := t.dec.chans }
  slot : t.slot = s.slot
  clk : t.clk = s.clk
  pipe : t.pipe = s.pipe
  mode : t.mode = s.mode
  mem : t.fs.mem = s.fs.mem
  reg : ∀ k < 0x382200, t.reg k = s.reg k

section
variable {s t u : State}

theorem State.aside.wordStep (h : s.aside t) : s.wordStep t :=
  ⟨by rw [h.dec], h.slot, h.clk, h.pipe, h.mode, h.mem, fun k hk => h.reg k (by omega)⟩

theorem State.wordStep.refl (s : State) : s.wordStep s := (State.aside.refl s).wordStep

theorem State.wordStep.trans (h : s.wordStep t) (h' : t.wordStep u) : s.wordStep u :=
  ⟨h'.dec.trans (by rw [h.dec]), h'.slot.trans h.slot, h'.clk.trans h.clk, h'.pipe.trans h.pipe, h'.mode.trans h.mode, h'.mem.trans h.mem,
    fun k hk => (h'.reg k hk).trans (h.reg k hk)⟩

theorem State.wordStep.put (h : s.wordStep t) (k v : Nat) (hk : 0x382200 ≤ k) : s.wordStep (t.put k v) :=
  ⟨h.dec, h.slot, h.clk, h.pipe, h.mode, h.mem, fun q hq => (t.reg_put_ne k q v (by omega)).trans (h.reg q hq)⟩

theorem State.wordStep.setDec (h : s.wordStep t) (ch : Nat) (d : Decim) : s.wordStep (t.setDec ch d) :=
  ⟨by rw [State.setDec, h.dec], h.slot, h.clk, h.pipe, h.mode, h.mem, h.reg⟩

end

section
variable (s : State)

theorem State.decWord_wordStep (ch : Nat) : s.wordStep (s.decWord ch) := by
  have hdone : ∀ j, s.wordStep (s.instantDone ch j) := fun j => (State.wordStep.refl s).setDec ..
  have hshown : ∀ j v, s.wordStep ((s.instantDone ch j).wordShown ch v) := fun j v =>
    ((hdone j).put _ _ (by simp only [K.DEC_LAST]; omega)).put _ _ (by simp only [K.DEC_STATE]; omega)
  cases hn : s.nextInstant ch with
  | none =>
    unfold State.decWord
    simp only [hn]
    exact .refl s
  | some x =>
    obtain ⟨i, j, c⟩ := x
    rcases lt_or_ge i 11200 with hi | hi
    · rcases Nat.lt_or_ge (j * c.dec) c.len with hv | hv
      · rw [s.decWord_filling ch i j c hn hi hv]
        exact (hdone j).trans (State.streamWord_aside ..).wordStep
      · rw [s.decWord_valid ch i j c hn hi hv]
        exact (hshown j _).trans ((State.specWord_aside ..).trans ((State.capTake_aside ..).trans (State.streamWord_aside ..))).wordStep
    · unfold State.decWord
      simp only [hn, if_neg (Int.not_lt.mpr hi)]
      exact .refl s

theorem State.decPair_wordStep (p : Nat) (i : Int) (n : Nat) : s.wordStep (s.decPair p i n) := by
  induction n generalizing s with
  | zero => exact .refl s
  | succ n ih =>
    unfold State.decPair
    split
    · exact (s.decWord_wordStep _).trans (ih _)
    · exact .refl s

theorem State.decAll_wordStep (i : Int) : s.wordStep (s.decAll i) :=
  foldl_rel State.wordStep .refl .trans _ _ (fun x _ _ => x.decPair_wordStep ..) s

/-! ### A reset (R213, R217) -/

/-- What comes before a reset at sample `r`: the words of the old cadences, and the end of a capture of them. -/
def State.beforeReset (l : List Nat) (r : Int) : State :=
  let s := s.decAll r
  if s.capOn && s.capWords && s.capChans.any l.contains then (s.trigUpTo (r / 4)).capEndBefore .resync (r - s.cap.origin) else s

theorem State.beforeReset_wordStep (l : List Nat) (r : Int) : s.wordStep (s.beforeReset l r) := by
  have h := s.decAll_wordStep r
  unfold State.beforeReset
  dsimp only
  split
  · exact h.trans ((State.trigUpTo_aside ..).trans (State.capEndBefore_aside ..)).wordStep
  · exact h

/-- The cadence that a reset at sample `r` starts. -/
def State.newCadence (ch : Nat) (r : Int) : Cadence := { at_ := r, len := max 1 (s.reg (K.DEC_L ch)), dec := max 1 (s.reg (K.DEC_D ch)) }

/-- The reset of one channel. -/
def State.chanReset (r : Int) (t ch : Nat) : State :=
  (((s.setDec ch { cads := s.newCadence ch r :: ((s.dec1 ch).cads.filter fun x => decide (x.at_ < r)), done := 0 }).put (K.DEC_RESET_LAST ch) t).put (K.DEC_STATE ch) 1).specDecReset ch r

theorem State.decReset_eq (l : List Nat) (r : Int) :
    s.decReset l r = ((s.beforeReset l r).forEach l fun x ch => x.chanReset r ((s.beforeReset l r).stampAt r) ch).streamsReset l r := rfl

/-- What the reset of a channel leaves there. -/
def State.chanFresh (s t : State) (r : Int) (stamp ch : Nat) : Prop :=
  t.reg (K.DEC_RESET_LAST ch) = stamp ∧ t.reg (K.DEC_STATE ch) = 1 ∧ (t.dec1 ch).done = 0 ∧ (t.dec1 ch).cads.head? = some (s.newCadence ch r)

/-- What the resets of the other channels keep of a channel. -/
def State.chanKept (ch : Nat) (s t : State) : Prop :=
  t.dec1 ch = s.dec1 ch ∧ t.reg (K.DEC_RESET_LAST ch) = s.reg (K.DEC_RESET_LAST ch) ∧ t.reg (K.DEC_STATE ch) = s.reg (K.DEC_STATE ch)
    ∧ t.reg (K.DEC_L ch) = s.reg (K.DEC_L ch) ∧ t.reg (K.DEC_D ch) = s.reg (K.DEC_D ch)

theorem State.aside.chanKept {s t : State} (h : s.aside t) (ch : Nat) (hc : ch < 48) : s.chanKept ch t :=
  ⟨by rw [State.dec1, State.dec1, h.dec], h.reg _ (by simp only [K.DEC_RESET_LAST]; omega), h.reg _ (by simp only [K.DEC_STATE]; omega),
    h.reg _ (by simp only [K.DEC_L]; omega), h.reg _ (by simp only [K.DEC_D]; omega)⟩

theorem State.chanKept.trans {ch : Nat} {s t u : State} (h : s.chanKept ch t) (h' : t.chanKept ch u) : s.chanKept ch u := by
  obtain ⟨h1, h2, h3, h4, h5⟩ := h
  obtain ⟨k1, k2, k3, k4, k5⟩ := h'
  exact ⟨k1.trans h1, k2.trans h2, k3.trans h3, k4.trans h4, k5.trans h5⟩

theorem State.chanFresh.kept {s t u : State} {r : Int} {stamp ch : Nat} (h : s.chanFresh t r stamp ch) (h' : t.chanKept ch u) : s.chanFresh u r stamp ch := by
  obtain ⟨h1, h2, h3, h4⟩ := h
  obtain ⟨k1, k2, k3, _⟩ := h'
  exact ⟨k2.trans h1, k3.trans h2, k1 ▸ h3, k1 ▸ h4⟩

theorem State.chanFresh.congr {s t u : State} {r : Int} {stamp ch : Nat} (h : u.chanFresh t r stamp ch) (hc : u.newCadence ch r = s.newCadence ch r) :
    s.chanFresh t r stamp ch := by
  obtain ⟨h1, h2, h3, h4⟩ := h
  exact ⟨h1, h2, h3, h4.trans (congrArg some hc)⟩

theorem State.chanReset_fresh (r : Int) (t ch : Nat) (hc : ch < 48) : s.chanFresh (s.chanReset r t ch) r t ch := by
  refine State.chanFresh.kept ?_ ((State.specDecReset_aside _ ch r).chanKept ch hc)
  refine ⟨?_, State.reg_put_self _ _ _, ?_, ?_⟩
  · exact (State.reg_put_ne _ _ _ _ (by simp only [K.DEC_STATE, K.DEC_RESET_LAST]; omega)).trans (State.reg_put_self _ _ _)
  · exact congrArg Decim.done ((s.dec1_setDec ch ch _).trans (if_pos rfl))
  · exact congrArg (fun d : Decim => d.cads.head?) ((s.dec1_setDec ch ch _).trans (if_pos rfl))

theorem State.chanReset_kept (r : Int) (t a ch : Nat) (hc : ch < 48) (ha : a < 48) (hne : a ≠ ch) : s.chanKept ch (s.chanReset r t a) := by
  refine State.chanKept.trans ?_ ((State.specDecReset_aside _ a r).chanKept ch hc)
  have hreg : ∀ k, k ≠ K.DEC_RESET_LAST a → k ≠ K.DEC_STATE a → ((s.setDec a { cads := s.newCadence a r :: ((s.dec1 a).cads.filter fun x => decide (x.at_ < r)), done := 0 }).put
      (K.DEC_RESET_LAST a) t |>.put (K.DEC_STATE a) 1).reg k = s.reg k := fun k h1 h2 =>
    (State.reg_put_ne _ _ _ _ h2).trans (State.reg_put_ne _ _ _ _ h1)
  refine ⟨(s.dec1_setDec a ch _).trans (if_neg (Ne.symm hne)), hreg _ ?_ ?_, hreg _ ?_ ?_, hreg _ ?_ ?_, hreg _ ?_ ?_⟩
  all_goals simp only [K.DEC_RESET_LAST, K.DEC_STATE, K.DEC_L, K.DEC_D]; omega

/-- A walk over the channels' resets: the settings of the block's resets stay. -/
structure State.resetStep (s t : State) : Prop where
  dec : t.dec = { s.dec with chans := t.dec.chans }
  slot : t.slot = s.slot
  clk : t.clk = s.clk
  mem : t.fs.mem = s.fs.mem
  reg : ∀ k < 0x382100, t.reg k = s.reg k

theorem State.wordStep.resetStep {s t : State} (h : s.wordStep t) : s.resetStep t := ⟨h.dec, h.slot, h.clk, h.mem, fun k hk => h.reg k (by omega)⟩

theorem State.resetStep.trans {s t u : State} (h : s.resetStep t) (h' : t.resetStep u) : s.resetStep u :=
  ⟨h'.dec.trans (by rw [h.dec]), h'.slot.trans h.slot, h'.clk.trans h.clk, h'.mem.trans h.mem, fun k hk => (h'.reg k hk).trans (h.reg k hk)⟩

theorem State.chanReset_resetStep (r : Int) (t ch : Nat) : s.resetStep (s.chanReset r t ch) :=
  .trans (t := ((s.setDec ch { cads := s.newCadence ch r :: ((s.dec1 ch).cads.filter fun x => decide (x.at_ < r)), done := 0 }).put (K.DEC_RESET_LAST ch) t).put (K.DEC_STATE ch) 1)
    ⟨rfl, rfl, rfl, rfl, fun k hk => (State.reg_put_ne _ _ _ _ (by simp only [K.DEC_STATE]; omega)).trans
      (State.reg_put_ne _ _ _ _ (by simp only [K.DEC_RESET_LAST]; omega))⟩
    (State.specDecReset_aside _ ch r).wordStep.resetStep

theorem State.decReset_resetStep (l : List Nat) (r : Int) : s.resetStep (s.decReset l r) := by
  rw [s.decReset_eq]
  refine .trans (.trans (s.beforeReset_wordStep l r).resetStep ?_) (State.streamsReset_aside _ l r).wordStep.resetStep
  exact foldl_rel State.resetStep (fun x => (State.wordStep.refl x).resetStep) .trans _ l (fun x ch _ => x.chanReset_resetStep ..) _

/-- A reset of all decimators leaves every channel fresh. -/
theorem State.decReset_fresh (r : Int) (ch : Nat) (hc : ch < 48) : s.chanFresh (s.decReset (List.range 48) r) r (s.stampAt r) ch := by
  have hbefore := s.beforeReset_wordStep (List.range 48) r
  have hstamp : (s.beforeReset (List.range 48) r).stampAt r = s.stampAt r := by
    rw [State.stampAt, State.stampAt, State.locked, State.locked, hbefore.slot, hbefore.clk]
  obtain ⟨u, hu, hend⟩ := State.forRange_turn (State.chanKept ch) (fun x => (State.aside.refl x).chanKept ch hc) .trans
    (fun x a => x.chanReset r ((s.beforeReset (List.range 48) r).stampAt r) a) 48 ch hc (fun x a ha hne => x.chanReset_kept r _ a ch hc ha hne)
    (s.beforeReset (List.range 48) r)
  obtain ⟨_, _, _, hl, hd⟩ := hu
  have hall : s.decReset (List.range 48) r = ((s.beforeReset (List.range 48) r).forRange 48 fun x a =>
      x.chanReset r ((s.beforeReset (List.range 48) r).stampAt r) a).streamsReset (List.range 48) r := by
    rw [s.decReset_eq, State.forRange, State.forEach]
  rw [hall]
  have hfresh := ((u.chanReset_fresh r ((s.beforeReset (List.range 48) r).stampAt r) ch hc).kept hend).kept ((State.streamsReset_aside _ (List.range 48) r).chanKept ch hc)
  have hcad : u.newCadence ch r = s.newCadence ch r := by
    rw [State.newCadence, State.newCadence, hl, hd, hbefore.reg _ (by simp only [K.DEC_L]; omega), hbefore.reg _ (by simp only [K.DEC_D]; omega)]
  rw [hstamp] at hfresh
  rw [hstamp]
  exact hfresh.congr hcad

/-- The reset sample of an edge on SYNC_IN. -/
theorem State.decResetDue_effect (r : Nat) (h : s.dec.syncReset = some r) (hr : r < 11200) :
    s.decResetDue = ({ s with dec := { s.dec with syncReset := none } }).decSyncReset r := by
  unfold State.decResetDue
  rw [h]
  exact if_pos hr

theorem State.decSyncReset_effect (r : Int) : (s.decSyncReset r).reg K.SYNC_COUNT = (s.reg K.SYNC_COUNT + 1) % 2 ^ 32 ∧ (s.decSyncReset r).reg K.SYNC_LAST = s.stampAt r
    ∧ (s.decSyncReset r).dec.syncReset = s.dec.syncReset ∧ (s.decSyncReset r).reg K.SYNC_IGNORED = s.reg K.SYNC_IGNORED
    ∧ ∀ ch < 48, s.chanFresh (s.decSyncReset r) r (s.stampAt r) ch := by
  let u := (s.tally K.SYNC_COUNT).put K.SYNC_LAST (s.stampAt r)
  have h := u.decReset_resetStep (List.range 48) r
  have hu : s.keeps u [K.SYNC_COUNT, K.SYNC_LAST] := ((State.keeps.refl s _).put _ _ (by decide)).put _ _ (by decide)
  have heq : s.decSyncReset r = u.decReset (List.range 48) r := by rw [State.decSyncReset]
  rw [heq]
  refine ⟨(h.reg K.SYNC_COUNT (by decide)).trans ?_, (h.reg K.SYNC_LAST (by decide)).trans (State.reg_put_self _ _ _), by rw [h.dec]; rfl,
    (h.reg K.SYNC_IGNORED (by decide)).trans (hu _ (by decide)), fun ch hc => ?_⟩
  · exact (State.reg_put_ne _ _ _ _ (by decide)).trans (State.reg_put_self _ _ _)
  · obtain ⟨h1, h2, h3, h4⟩ := u.decReset_fresh r ch hc
    have hcad : u.newCadence ch r = s.newCadence ch r := by
      have hset : ∀ k, k < 0x380200 → u.reg k = s.reg k := fun k hk => hu k (by simp only [K.SYNC_COUNT, K.SYNC_LAST, List.mem_cons, List.not_mem_nil, or_false]; omega)
      rw [State.newCadence, State.newCadence, hset _ (by simp only [K.DEC_L]; omega), hset _ (by simp only [K.DEC_D]; omega)]
    exact (u.decReset_fresh r ch hc).congr hcad

/-! ### SYNC_IN (R214) and DEC_SYNC (R215) -/

/-- An edge is seen on SYNC_IN. -/
def State.edgeSeen (cc : Nat) : State := { s with dec := { s.dec with lastEdge := some (cc : Int) } }

/-- An edge comes too soon after the last one, or after the last accepted one. -/
def State.edgeSoon (cc : Nat) : Bool := (s.dec.lastEdge.any fun e => decide ((cc : Int) - e < 2)) || s.dec.lastTaken.any fun e => decide ((cc : Int) - e < 16)

theorem State.edgeSoon_iff (cc : Nat) : s.edgeSoon cc = true ↔ (∃ e, s.dec.lastEdge = some e ∧ (cc : Int) < e + 2) ∨ ∃ e, s.dec.lastTaken = some e ∧ (cc : Int) < e + 16 := by
  simp only [State.edgeSoon, Bool.or_eq_true, Option.any_eq_true, decide_eq_true_eq]
  constructor
  all_goals
    rintro (⟨e, he, h⟩ | ⟨e, he, h⟩)
    · exact .inl ⟨e, he, by omega⟩
    · exact .inr ⟨e, he, by omega⟩

theorem State.syncEdge_off (rising : Bool) (cc : Nat) (h : s.lockedA = false ∨ s.reg K.REF_STATE ≠ 1) : s.syncEdge rising cc = s := by
  refine if_pos ?_
  rcases h with h | h
  · simp [h]
  · exact .inr (.inr h)

theorem State.syncEdge_counts (rising : Bool) (cc : Nat) (hrun : s.dec.running = true) (hl : s.lockedA = true) (href : s.reg K.REF_STATE = 1)
    (hm : s.reg K.SYNC_IN_MODE = if rising = true then 1 else 2) : s.syncEdge rising cc = if s.edgeSoon cc then (s.edgeSeen cc).count K.SYNC_IGNORED
      else { (s.edgeSeen cc).decResetDue with dec := { (s.edgeSeen cc).decResetDue.dec with lastTaken := some (cc : Int), syncReset := some (4 * (cc + 4)) } } := by
  unfold State.syncEdge
  dsimp only
  rw [if_neg (by simp [hrun, hl, href])]
  refine if_pos (show (s.reg K.SYNC_IN_MODE = 1 ∧ rising = true) ∨ (s.reg K.SYNC_IN_MODE = 2 ∧ (!rising) = true) from ?_)
  rw [hm]
  cases rising <;> simp

theorem State.decResetDue_ignored : s.decResetDue.reg K.SYNC_IGNORED = s.reg K.SYNC_IGNORED := by
  unfold State.decResetDue
  split
  next r _ =>
    split
    · exact (({ s with dec := { s.dec with syncReset := none } } : State).decSyncReset_effect r).2.2.2.1
    · rfl
  · rfl

theorem State.decSync_eq (cc : Nat) : s.decSync cc = if s.dec.syncTicks = 0 then { s with dec := { s.dec with syncTicks := ticksAfter cc } } else s := rfl

theorem objRow_decSync : ∃ r, objRow? K.DEC_SYNC = some r ∧ (r.acc == .rws) = false :=
  ⟨⟨0x3811, 0x3811, 0x01, 0x01, .u8, .wo, 0, .any, none, .standbyRunning, "DEC_SYNC"⟩, by decide, rfl⟩

theorem exec_decimationInstant (ch : Fin 48) (h : s.mode.coreRuns = true) : exec (.decimationInstant ch) s = .next (s.decInstant ch).settle := by
  calc exec (.decimationInstant ch) s = .next (s.core fun s => s.decInstant ch).settle := rfl
    _ = _ := by rw [s.core_on _ h]

theorem exec_syncInEdge (rising : Bool) (cc : Fin 2800) (h : s.mode.coreRuns = true) : exec (.syncInEdge rising cc) s = .next (s.syncEdge rising cc).settle := by
  calc exec (.syncInEdge rising cc) s = .next (s.core fun s => s.syncEdge rising cc).settle := rfl
    _ = _ := by rw [s.core_on _ h]

theorem exec_decimatorReset (h : s.mode.coreRuns = true) : exec .decimatorReset s = .next s.decResetDue.settle := by
  calc exec .decimatorReset s = .next (s.core State.decResetDue).settle := rfl
    _ = _ := by rw [s.core_on _ h]

theorem exec_decSync (a : HostAt) (h : s.accepts K.DEC_SYNC (a.write 1 1) = true) : exec (.decSync a) s = .next (noteResult a.path (0, s.decSync a.cc)).settle := by
  obtain ⟨r, hr, hs⟩ := objRow_decSync
  calc exec (.decSync a) s = .next (s.hostWrite K.DEC_SYNC (a.write 1 1)).settle := rfl
    _ = _ := by rw [s.hostWrite_accepted _ _ r hr hs h, a.write_value 1 (by decide)]; rfl

end

end Sys2Proof.Machine
end

section
/-! PROOFS. The obligation of chapter 8. -/

namespace Sys2Proof.Machine

/-- Settles O17: a word by its two cases, an edge by whether it comes too soon, a reset by the turn of each channel in the walk over all. -/
theorem decimation : Obligations.Decimation := by
  unfold Obligations.Decimation
  refine ⟨fun s ch i j c hcore hn hi hr => ⟨fun hv => ?_, fun hv => ?_⟩, fun s rising cc hcore hrun => ⟨fun hl href hm => ⟨fun hlast htaken => ?_, fun hsoon => ?_⟩, fun h => ?_⟩,
    fun s r hcore hs hr => ?_, fun s a h => ⟨fun h0 => ?_, fun h0 => ?_⟩⟩
  · let v := s.decSum ch c.len i
    let x := (s.instantDone ch j).wordShown ch v
    have hword := s.decWord_valid ch i j c hn hi hv
    have haside : x.aside (s.decWord ch) := by
      rw [hword]
      exact (State.specWord_aside ..).trans ((State.capTake_aside ..).trans (State.streamWord_aside ..))
    obtain ⟨hlast, hstate⟩ := (s.instantDone ch j).wordShown_reg ch v
    rw [exec_decimationInstant s ch hcore, s.decInstant_next ch i j c hn hr]
    refine ⟨_, rfl, (haside.reg _ (by simp only [K.DEC_LAST]; omega)).trans hlast, (haside.reg _ (by simp only [K.DEC_STATE]; omega)).trans hstate, ?_, fun hsrc hw => ?_⟩
    · rw [State.dec1, haside.dec]
      exact (s.dec1_setDec ch ch _).trans (if_pos rfl)
    · have hx : s.keeps x [K.DEC_LAST ch, K.DEC_STATE ch] := ((s.instantDone_keeps ch j).mono (by simp)).trans (State.wordShown_keeps _ ch v)
      have hsrc' : x.reg (K.SP_SRC (ch / 2)) ≠ 1 := (hx _ (by
        simp only [K.SP_SRC, K.DEC_LAST, K.DEC_STATE, List.mem_cons, List.not_mem_nil, or_false]; omega)).trans_ne hsrc
      have hw' : x.capWords = false := by
        rw [← hw, State.capWords, State.capWords, hx _ (by simp only [K.CAP_FMT, K.DEC_LAST, K.DEC_STATE, List.mem_cons, List.not_mem_nil, or_false]; omega),
          hx _ (by simp only [K.CAP_CHMASK, K.DEC_LAST, K.DEC_STATE, List.mem_cons, List.not_mem_nil, or_false]; omega)]
      rw [hword, State.specWord_raw _ _ _ _ hsrc', State.capTake_raw _ _ _ _ hw']
      exact hx.trans ((State.streamWord_keeps _ ch i _).mono (by simp))
  · rw [exec_decimationInstant s ch hcore, s.decInstant_next ch i j c hn hr, s.decWord_filling ch i j c hn hi hv]
    refine ⟨_, rfl, ?_, (s.instantDone_keeps ch j).trans (State.streamWord_keeps _ ch i none)⟩
    rw [State.dec1, (State.streamWord_aside _ ch i none).dec]
    exact (s.dec1_setDec ch ch _).trans (if_pos rfl)
  · have hsoon : ¬s.edgeSoon cc = true := by
      rw [s.edgeSoon_iff]
      rintro (⟨e, he, h⟩ | ⟨e, he, h⟩)
      · have := hlast e he
        omega
      · have := htaken e he
        omega
    rw [exec_syncInEdge s rising cc hcore, s.syncEdge_counts rising cc hrun hl href hm, if_neg hsoon]
    exact ⟨_, rfl, rfl, rfl, (s.edgeSeen cc).decResetDue_ignored⟩
  · rw [exec_syncInEdge s rising cc hcore, s.syncEdge_counts rising cc hrun hl href hm, if_pos ((s.edgeSoon_iff cc).mpr hsoon)]
    rfl
  · rw [exec_syncInEdge s rising cc hcore, s.syncEdge_off rising cc h]
  · obtain ⟨hcount, hlast, hsync, _, hfresh⟩ := ({ s with dec := { s.dec with syncReset := none } } : State).decSyncReset_effect r
    rw [exec_decimatorReset s hcore, s.decResetDue_effect r hs hr]
    exact ⟨_, rfl, hcount, hlast, by rw [hsync], fun ch hc => hfresh ch hc⟩
  · rw [exec_decSync s a h, s.decSync_eq, if_pos h0]
  · rw [exec_decSync s a h, s.decSync_eq, if_neg h0]

end Sys2Proof.Machine
end

section
/-! PROOFS. Chapter 9: the master a bank grants and the fate of its granule (R231, R232). -/

namespace Sys2Proof.Machine

/-! ### Sorting numbers -/

theorem mem_insertBy (x a : Nat) (l : List Nat) : x ∈ insertBy (fun a b => decide (a ≤ b)) a l ↔ x = a ∨ x ∈ l := by
  induction l with
  | nil => simp [insertBy]
  | cons b l ih =>
    simp only [insertBy]
    split
    · rw [List.mem_cons, ih, List.mem_cons]; tauto
    · rw [List.mem_cons]

theorem insertBy_sorted (a : Nat) (l : List Nat) (h : l.Pairwise (· ≤ ·)) : (insertBy (fun a b => decide (a ≤ b)) a l).Pairwise (· ≤ ·) := by
  induction l with
  | nil => simp [insertBy]
  | cons b l ih =>
    obtain ⟨hb, hl⟩ := List.pairwise_cons.mp h
    simp only [insertBy, decide_eq_true_eq]
    split
    next hle =>
      refine List.pairwise_cons.mpr ⟨fun x hx => ?_, ih hl⟩
      rcases (mem_insertBy x a l).mp hx with rfl | hx
      · exact hle
      · exact hb x hx
    next hlt =>
      refine List.pairwise_cons.mpr ⟨fun x hx => ?_, h⟩
      rcases List.mem_cons.mp hx with rfl | hx
      · omega
      · have := hb x hx; omega

theorem foldl_insertBy (l r : List Nat) (h : r.Pairwise (· ≤ ·)) :
    (∀ x, x ∈ l.foldl (fun r a => insertBy (fun a b => decide (a ≤ b)) a r) r ↔ x ∈ l ∨ x ∈ r)
    ∧ (l.foldl (fun r a => insertBy (fun a b => decide (a ≤ b)) a r) r).Pairwise (· ≤ ·) := by
  induction l generalizing r with
  | nil => exact ⟨fun x => by simp, h⟩
  | cons a l ih =>
    obtain ⟨hmem, hsorted⟩ := ih _ (insertBy_sorted a r h)
    refine ⟨fun x => ?_, hsorted⟩
    rw [List.foldl_cons, hmem, mem_insertBy, List.mem_cons]
    tauto

theorem mem_sortBy (l : List Nat) (x : Nat) : x ∈ sortBy (fun a b => decide (a ≤ b)) l ↔ x ∈ l := by
  rw [sortBy, (foldl_insertBy l [] .nil).1]
  simp

theorem sortBy_sorted (l : List Nat) : (sortBy (fun a b => decide (a ≤ b)) l).Pairwise (· ≤ ·) := (foldl_insertBy l [] .nil).2

/-- The first element of a sorted list that keeps a test is its least. -/
theorem find?_le_of_sorted {l : List Nat} (h : l.Pairwise (· ≤ ·)) {p : Nat → Bool} {m : Nat} (hm : l.find? p = some m) : ∀ x ∈ l, p x = true → m ≤ x := by
  obtain ⟨-, as, bs, rfl, has⟩ := List.find?_eq_some_iff_append.mp hm
  intro x hx hp
  obtain ⟨-, hbs, -⟩ := List.pairwise_append.mp h
  rcases List.mem_append.mp hx with hx | hx
  · exact absurd hp (by simpa using has x hx)
  · rcases List.mem_cons.mp hx with rfl | hx
    · exact le_rfl
    · exact (List.pairwise_cons.mp hbs).1 x hx

theorem head?_le_of_sorted {l : List Nat} (h : l.Pairwise (· ≤ ·)) {m : Nat} (hm : l.head? = some m) : ∀ x ∈ l, m ≤ x := by
  obtain ⟨r, rfl⟩ := List.head?_eq_some_iff.mp hm
  intro x hx
  rcases List.mem_cons.mp hx with rfl | hx
  · exact le_rfl
  · exact (List.pairwise_cons.mp h).1 x hx

/-! ### The grant -/

/-- Of several classes the highest has the least number. -/
theorem foldl_min_le (l : List (Nat × Nat)) (n : Nat) : l.foldl (fun m p => min m p.1) n ≤ n ∧ ∀ x ∈ l, l.foldl (fun m p => min m p.1) n ≤ x.1 := by
  induction l generalizing n with
  | nil => exact ⟨le_rfl, fun _ h => (nomatch h)⟩
  | cons a l ih =>
    obtain ⟨hn, hl⟩ := ih (min n a.1)
    refine ⟨by rw [List.foldl_cons]; omega, fun x hx => ?_⟩
    rw [List.foldl_cons]
    rcases List.mem_cons.mp hx with rfl | hx
    · omega
    · exact hl x hx

theorem State.mem_grantMasters (l : List (Nat × Nat)) (c x : Nat) :
    x ∈ sortBy (fun a b => decide (a ≤ b)) ((l.filter fun p => p.1 == c).map (·.2)) ↔ (c, x) ∈ l := by
  rw [mem_sortBy, List.mem_map]
  constructor
  · rintro ⟨⟨a, b⟩, hmem, rfl⟩
    obtain ⟨hl, hc⟩ := List.mem_filter.mp hmem
    rwa [← show a = c from by simpa using hc]
  · exact fun h => ⟨(c, x), List.mem_filter.mpr ⟨h, by simp⟩, rfl⟩

/-- A bank grants a master of the highest class: the first one without a turn taken, else the next one after the last turn, else the first again. -/
theorem State.grantFrom_spec (s : State) (bank : Nat) (l : List (Nat × Nat)) (c m : Nat) (h : s.grantFrom bank l = some (c, m)) :
    (c, m) ∈ l ∧ (∀ x ∈ l, c ≤ x.1)
    ∧ (storeGet s.fs.turns (bank * 4 + c) = none → ∀ x ∈ l, x.1 = c → m ≤ x.2)
    ∧ (∀ last, storeGet s.fs.turns (bank * 4 + c) = some last →
      (last < m → ∀ x ∈ l, x.1 = c → last < x.2 → m ≤ x.2) ∧ (m ≤ last → ∀ x ∈ l, x.1 = c → x.2 ≤ last ∧ m ≤ x.2)) := by
  obtain ⟨m', hm, hpair⟩ := Option.map_eq_some_iff.mp h
  obtain ⟨hc, rfl⟩ := Prod.mk.inj hpair
  rw [hc] at hm
  have hmasters := fun x => State.mem_grantMasters l c x
  have hsorted := sortBy_sorted ((l.filter fun p => p.1 == c).map (·.2))
  generalize sortBy (fun a b => decide (a ≤ b)) ((l.filter fun p => p.1 == c).map (·.2)) = ms at hm hmasters hsorted
  have hin : ∀ x ∈ l, x.1 = c → x.2 ∈ ms := fun x hx hxc => (hmasters x.2).mpr (hxc ▸ hx)
  have hleast : ∀ x ∈ l, c ≤ x.1 := hc ▸ (foldl_min_le l 4).2
  cases hturn : storeGet s.fs.turns (bank * 4 + c) with
  | none =>
    simp only [hturn, Option.none_or] at hm
    exact ⟨(hmasters m').mp (List.mem_of_head? hm), hleast, fun _ x hx hxc => head?_le_of_sorted hsorted hm _ (hin x hx hxc), fun _ h => (nomatch h)⟩
  | some last =>
    simp only [hturn] at hm
    refine ⟨?_, hleast, fun h => (nomatch h), ?_⟩
    · rcases Option.or_eq_some_iff.mp hm with hfind | ⟨-, hhead⟩
      · exact (hmasters m').mp (List.mem_of_find?_eq_some hfind)
      · exact (hmasters m').mp (List.mem_of_head? hhead)
    · rintro _ ⟨⟩
      rcases Option.or_eq_some_iff.mp hm with hfind | ⟨hnone, hhead⟩
      · have hlast : last < m' := by simpa using List.find?_some hfind
        exact ⟨fun _ x hx hxc hlt => find?_le_of_sorted hsorted hfind _ (hin x hx hxc) (by simpa using hlt), fun hle => absurd hlast (by omega)⟩
      · have hall := List.find?_eq_none.mp hnone
        have hm' : m' ≤ last := by simpa using hall m' (List.mem_of_head? hhead)
        exact ⟨fun hlt => absurd hm' (by omega), fun _ x hx hxc => ⟨by simpa using hall _ (hin x hx hxc), head?_le_of_sorted hsorted hhead _ (hin x hx hxc)⟩⟩

/-! ### The fate of the granule that is granted -/

theorem dropFirst_append {α : Type} (p : α → Bool) (l r : List α) (g : α) (hl : ∀ x ∈ l, p x = false) (hg : p g = true) : dropFirst p (l ++ g :: r) = l ++ r := by
  induction l with
  | nil => simp [dropFirst, hg]
  | cons a l ih => simp [dropFirst, hl a (by simp), ih fun x hx => hl x (by simp [hx])]

theorem find?_first {α : Type} (p : α → Bool) (l r : List α) (g : α) (hl : ∀ x ∈ l, p x = false) (hg : p g = true) : (l ++ g :: r).find? p = some g :=
  List.find?_eq_some_iff_append.mpr ⟨hg, l, r, rfl, fun x hx => by simp [hl x hx]⟩

theorem exec_granuleIssue (s : State) (bank : Fin 48) (cc : Fin 2800) (ecc : Ecc) (h : s.mode.coreRuns = true) :
    exec (.granuleIssue bank cc ecc) s = .next (s.granuleIssue bank cc ecc).settle := by
  calc exec (.granuleIssue bank cc ecc) s = .next (s.core fun s => s.granuleIssue bank cc ecc).settle := rfl
    _ = _ := by rw [s.core_on _ h]

theorem State.granuleIssue_none (s : State) (bank cc : Nat) (ecc : Ecc) (h : (s.capReach cc).grant bank = none) : s.granuleIssue bank cc ecc = s.capReach cc := by
  simp only [State.granuleIssue, h]

theorem State.granuleIssue_density (s : State) (bank cc : Nat) (ecc : Ecc) (c ch : Nat) (l : List Nat) (h : (s.capReach cc).grant bank = some (c, densMaster))
    (hd : (s.capReach cc).densHeads bank = ch :: l) : s.granuleIssue bank cc ecc = (s.capReach cc).densStep ch cc ecc := by
  simp only [State.granuleIssue, h, hd, if_pos]

theorem State.granuleIssue_dma (s : State) (bank cc : Nat) (ecc : Ecc) (c e : Nat) (h : (s.capReach cc).grant bank = some (c, 0x48 + e)) :
    s.granuleIssue bank cc ecc = (s.capReach cc).dmaStep e cc ecc := by
  have hne : 0x48 + e ≠ densMaster := by simp only [densMaster]; omega
  simp only [State.granuleIssue, h, if_neg hne, Nat.le_add_right, if_pos, Nat.add_sub_cancel_left]

theorem State.granuleIssue_header (s : State) (bank cc : Nat) (ecc : Ecc) (c m : Nat) (h : (s.capReach cc).grant bank = some (c, m)) (hd : m ≠ densMaster) (hm : m < 0x48)
    (hq : ∀ x ∈ (s.capReach cc).fs.queue, x.master ≠ m) : s.granuleIssue bank cc ecc = (s.capReach cc).headerIssue cc ecc := by
  have hfind : (s.capReach cc).fs.queue.find? (·.master == m) = none := List.find?_eq_none.mpr fun x hx => by simpa using hq x hx
  simp only [State.granuleIssue, h, if_neg hd, if_neg (Nat.not_le.mpr hm), hfind]

theorem State.granuleIssue_queued (s : State) (bank cc : Nat) (ecc : Ecc) (c m : Nat) (l r : List Granule) (g : Granule) (h : (s.capReach cc).grant bank = some (c, m))
    (hd : m ≠ densMaster) (hm : m < 0x48) (hq : (s.capReach cc).fs.queue = l ++ g :: r) (hg : g.master = m) (hl : ∀ x ∈ l, x.master ≠ m) :
    s.granuleIssue bank cc ecc = ((s.capReach cc).setFs { (s.capReach cc).fs with queue := l ++ r }).granuleRun g cc ecc := by
  have hfind : (s.capReach cc).fs.queue.find? (·.master == m) = some g := by
    rw [hq]
    exact find?_first _ l r g (fun x hx => by simpa using hl x hx) (by simpa using hg)
  have hdrop : dropFirst (·.master == m) (s.capReach cc).fs.queue = l ++ r := by
    rw [hq]
    exact dropFirst_append _ l r g (fun x hx => by simpa using hl x hx) (by simpa using hg)
  simp only [State.granuleIssue, h, if_neg hd, if_neg (Nat.not_le.mpr hm), hfind, hdrop, State.setQueue]

theorem State.granuleRun_written (s v x : State) (g : Granule) (cc : Nat) (ecc : Ecc) (hv : v = s.issued g.cls g.master g.space g.va) (hw : g.write = true)
    (hx : v.writeGranule ecc g.master g.cls g.space g.va g.data = .ok x) : s.granuleRun g cc ecc = x.granuleDone g := by
  simp only [State.granuleRun, ← hv, hw, if_pos, hx]

theorem State.granuleRun_read (s v x : State) (g : Granule) (cc : Nat) (ecc : Ecc) (b : List Byte) (hv : v = s.issued g.cls g.master g.space g.va) (hw : g.write = false)
    (hx : v.readGranule ecc g.master g.cls g.space g.va 64 false = .ok (b, x)) : s.granuleRun g cc ecc = x.granuleDone g := by
  simp only [State.granuleRun, ← hv, hw, Bool.false_eq_true, if_false, hx]

theorem State.granuleRun_fault (s v x : State) (g : Granule) (cc : Nat) (ecc : Ecc) (f : FsFault) (p syn : Nat) (hv : v = s.issued g.cls g.master g.space g.va)
    (h : g.write = true ∧ v.writeGranule ecc g.master g.cls g.space g.va g.data = .error (f, p, syn, x)
      ∨ g.write = false ∧ v.readGranule ecc g.master g.cls g.space g.va 64 false = .error (f, p, syn, x)) :
    s.granuleRun g cc ecc = (x.granuleFault cc f g.master g.space g.cls g.write g.resumed g.va p syn g.done).granuleLost g := by
  rcases h with ⟨hw, hx⟩ | ⟨hw, hx⟩
  · simp only [State.granuleRun, ← hv, hw, if_pos, hx]
  · simp only [State.granuleRun, ← hv, hw, Bool.false_eq_true, if_false, hx]

/-- Settles O18: the grant of a bank and, by what is granted, the step that follows. -/
theorem granuleGrants : Obligations.GranuleGrants := by
  unfold Obligations.GranuleGrants
  refine ⟨State.grantFrom_spec, fun s u bank cc ecc hcore hu => ?_⟩
  rw [exec_granuleIssue s bank cc ecc hcore]
  subst hu
  refine ⟨fun h => by rw [s.granuleIssue_none bank cc ecc h], fun c m l r g v h hd hm hq hg hl hv => ?_,
    fun c ch l h hd => by rw [s.granuleIssue_density bank cc ecc c ch l h hd], fun c e h => by rw [s.granuleIssue_dma bank cc ecc c e h],
    fun c m h hd hm hq => by rw [s.granuleIssue_header bank cc ecc c m h hd hm hq]⟩
  rw [s.granuleIssue_queued bank cc ecc c m l r g h hd hm hq hg hl]
  subst hg
  exact ⟨fun x hw hx => by rw [State.granuleRun_written _ v x g cc ecc hv hw hx], fun b x hw hx => by rw [State.granuleRun_read _ v x g cc ecc b hv hw hx],
    fun f p syn x hx => by rw [State.granuleRun_fault _ v x g cc ecc f p syn hv hx]⟩

end Sys2Proof.Machine
end

section
/-! PROOFS. Chapter 9: address translation, whole maps and map edits (R225 to R229). -/

namespace Sys2Proof.Machine

/-! ### Translation -/

section
variable (s : State) (space va : Nat) (write typeZero : Bool)

theorem State.translate_unmapped (h : s.regBit K.AS_ENABLE space = false ∨ bitAt (s.pageEntry space (va / 65536 % 4096)) 31 = false) :
    s.translate space va write typeZero = .error (.unmapped, 255) := by
  rcases h with h | h
  · simp [State.translate, h]
  · by_cases he : s.regBit K.AS_ENABLE space = true <;> simp [State.translate, h, he]

variable (he : s.regBit K.AS_ENABLE space = true) (hv : bitAt (s.pageEntry space (va / 65536 % 4096)) 31 = true)
include he hv

theorem State.translate_readOnly (hw : write = true) (h : bitAt (s.pageEntry space (va / 65536 % 4096)) 29 = false) :
    s.translate space va write typeZero = .error (.permission, 255) := by
  simp [State.translate, he, hv, hw, h]

theorem State.translate_noRead (hw : write = false)
    (h : bitAt (s.pageEntry space (va / 65536 % 4096)) 30 = false ∨ bitAt (s.pageEntry space (va / 65536 % 4096)) 28 = true ∧ typeZero = false) :
    s.translate space va write typeZero = .error (.permission, 255) := by
  rcases h with h | ⟨h, ht⟩
  · simp [State.translate, he, hv, hw, h]
  · simp [State.translate, he, hv, hw, h, ht]

/-- An access that the page permits reaches the frame in the bank that serves its logical bank, unless none does. -/
theorem State.translate_permitted (h : write = true ∧ bitAt (s.pageEntry space (va / 65536 % 4096)) 29 = true
      ∨ write = false ∧ bitAt (s.pageEntry space (va / 65536 % 4096)) 30 = true ∧ (bitAt (s.pageEntry space (va / 65536 % 4096)) 28 = false ∨ typeZero = true)) :
    s.translate space va write typeZero = (if s.reg (K.BANK_MAP (bits (s.pageEntry space (va / 65536 % 4096)) 11 0 / 64)) = 255 then .error (.retired, 255)
      else .ok (s.reg (K.BANK_MAP (bits (s.pageEntry space (va / 65536 % 4096)) 11 0 / 64)) * bankBytes
        + bits (s.pageEntry space (va / 65536 % 4096)) 11 0 % 64 * 65536 + va % 65536)) := by
  rcases h with ⟨hw, h⟩ | ⟨hw, h, hz⟩
  · simp [State.translate, he, hv, hw, h]
  · rcases hz with hz | hz <;> simp [State.translate, he, hv, hw, h, hz]

end

/-! ### Whole maps -/

theorem objRow_asMap : ∀ i : Fin 16, objRow? (K.AS_MAP i) = some ⟨0x5100, 0x510F, 0x00, 0x00, .domain, .rw, 0, .any, none, .standbyRunning, "AS_MAP"⟩ := by decide

theorem State.hostDomain_asMap (s : State) (i : Fin 16) (w : HostWrite) (h : s.mayWrite w.path (K.AS_MAP i) = true) :
    s.hostDomain (K.AS_MAP i) w = noteDomain w.path (domainResult s (s.putDom (K.AS_MAP i) (if w.data.all (· == 0) then [] else w.data))
      (w.data.length == 16384) (mapEntriesOk w.data) true (s.mapOpen i)) := by
  obtain ⟨ha, hs, hm⟩ := s.mayWrite_row _ _ _ h (objRow_asMap i)
  have hkey : (K.AS_MAP i) / 256 = 0x5100 + i := by simp only [K.AS_MAP]; omega
  rw [s.hostDomain_ok _ w _ ha hs (objRow_asMap i), State.writeDomain, hkey]
  fin_cases i <;> (dsimp only at hm ⊢; rw [hm]; rfl)

/-! ### Map edits -/

theorem objRow_mapEdit : ∃ r, objRow? K.MAP_EDIT = some r ∧ (r.acc == .rws) = false :=
  ⟨⟨0x5020, 0x5020, 0x01, 0x01, .u64, .wo, 0, .any, none, .standbyRunning, "MAP_EDIT"⟩, by decide, rfl⟩

theorem State.hostWrite_mapEdit (s : State) (w : HostWrite) (h : s.accepts K.MAP_EDIT w = true) :
    s.hostWrite K.MAP_EDIT w = noteResult w.path (s.mapEditWrite (ofLe w.data)) := by
  obtain ⟨r, hr, hs⟩ := objRow_mapEdit
  rw [s.hostWrite_accepted K.MAP_EDIT w r hr hs h]
  rfl

section
variable (s : State) (v : Nat)

/-- A map edit replaces one entry, marks the tags of its page, and flushes while one is marked. -/
theorem State.mapEdit_effect (m : Bool) (tags : List Tag) (hm : m = s.regBit K.AS_ENABLE (bits v 51 48))
    (ht : tags = s.fs.tags.map fun x => if m && x.space == bits v 51 48 && x.page == bits v 43 32 then { x with oldMap := true } else x) :
    (s.mapEdit v).dom (K.AS_MAP (bits v 51 48)) = setEntry (s.dom (K.AS_MAP (bits v 51 48))) (bits v 43 32) (bits v 31 0)
    ∧ (s.mapEdit v).fs = { s.fs with tags := tags } ∧ (s.mapEdit v).reg K.MAP_EDIT_STATE = (if tags.any (·.oldMap) then 1 else 2)
    ∧ s.keeps (s.mapEdit v) [K.MAP_EDIT_STATE] := by
  subst hm ht
  exact ⟨s.dom_putDom_self _ _, rfl, State.reg_put_self _ _ _, fun k hk => State.reg_put_ne _ _ _ _ fun h => hk (by simp [h])⟩

end

section
variable (l : List Tag) (m : Bool) (sp pg : Nat)

/-- The tags of a page, marked as issued under its old translation. -/
def markTags : List Tag := l.map fun x => if m && x.space == sp && x.page == pg then { x with oldMap := true } else x

theorem markTags_marks (hm : m = true) : ∀ x ∈ markTags l m sp pg, x.space = sp → x.page = pg → x.oldMap = true := by
  intro x hx hs hp
  obtain ⟨y, -, rfl⟩ := List.mem_map.mp hx
  by_cases hy : (m && y.space == sp && y.page == pg) = true
  · rw [if_pos hy]
  · rw [if_neg hy] at hs hp
    exact absurd (by simp [hm, hs, hp]) hy

theorem markTags_any (hm : m = true) (h : ∃ x ∈ l, x.space = sp ∧ x.page = pg) : (markTags l m sp pg).any (·.oldMap) = true := by
  obtain ⟨x, hx, hs, hp⟩ := h
  refine List.any_eq_true.mpr ⟨{ x with oldMap := true }, List.mem_map.mpr ⟨x, hx, ?_⟩, rfl⟩
  simp [hm, hs, hp]

theorem markTags_none (h : ∀ x ∈ l, x.oldMap = false ∧ (m = false ∨ x.space ≠ sp ∨ x.page ≠ pg)) : (markTags l m sp pg).any (·.oldMap) = false := by
  refine List.any_eq_false.mpr fun y hy => ?_
  obtain ⟨x, hx, rfl⟩ := List.mem_map.mp hy
  obtain ⟨hold, hother⟩ := h x hx
  have hne : (m && x.space == sp && x.page == pg) = false := by
    rcases hother with h | h | h <;> simp [h]
  simp [hne, hold]

end

theorem exec_mapEditDone (s : State) (h : s.mode.coreRuns = true) : exec .mapEditDone s = .next s.mapEditDone.settle := by
  calc exec .mapEditDone s = .next (s.core State.mapEditDone).settle := rfl
    _ = _ := by rw [s.core_on _ h]

/-- An edit in range while no flush runs. -/
theorem exec_mapEdit_ok (s : State) (w : HostWrite) (ha : s.accepts K.MAP_EDIT w = true) (hz : bits (ofLe w.data) 63 52 = 0) (hy : bits (ofLe w.data) 47 44 = 0)
    (he : pageEntryOk (bits (ofLe w.data) 31 0) = true) (hf : s.reg K.MAP_EDIT_STATE ≠ 1) :
    exec (.mapEdit w) s = .next (noteResult w.path (0, s.mapEdit (ofLe w.data))).settle := by
  calc exec (.mapEdit w) s = .next (s.hostWrite K.MAP_EDIT w).settle := rfl
    _ = _ := by rw [s.hostWrite_mapEdit w ha, State.mapEditWrite]; simp [hz, hy, he, hf]

theorem exec_mapEdit_busy (s : State) (w : HostWrite) (ha : s.accepts K.MAP_EDIT w = true) (hz : bits (ofLe w.data) 63 52 = 0) (hy : bits (ofLe w.data) 47 44 = 0)
    (he : pageEntryOk (bits (ofLe w.data) 31 0) = true) (hf : s.reg K.MAP_EDIT_STATE = 1) : exec (.mapEdit w) s = .next (noteResult w.path (6, s)).settle := by
  calc exec (.mapEdit w) s = .next (s.hostWrite K.MAP_EDIT w).settle := rfl
    _ = _ := by rw [s.hostWrite_mapEdit w ha, State.mapEditWrite]; simp [hz, hy, he, hf]

theorem exec_mapEdit_range (s : State) (w : HostWrite) (ha : s.accepts K.MAP_EDIT w = true) (he : pageEntryOk (bits (ofLe w.data) 31 0) = false)
    (hf : s.reg K.MAP_EDIT_STATE ≠ 1) : exec (.mapEdit w) s = .next (noteResult w.path (4, s.put K.MAP_EDIT_STATE 3)).settle := by
  calc exec (.mapEdit w) s = .next (s.hostWrite K.MAP_EDIT w).settle := rfl
    _ = _ := by rw [s.hostWrite_mapEdit w ha, State.mapEditWrite]; simp [he, hf]

/-- Settles O20: the cases of a translation, the checks of a whole map in their order, and the effect of a map edit on its entry and the tags of its page. -/
theorem mapsAndTranslation : Obligations.MapsAndTranslation := by
  unfold Obligations.MapsAndTranslation
  refine ⟨?_, ?_, ?_, ?_⟩
  · rintro s space va _ write z rfl
    refine ⟨s.translate_unmapped space va write z, fun he hv => ⟨s.translate_readOnly space va write z he hv, s.translate_noRead space va write z he hv, fun h => ?_⟩⟩
    rw [s.translate_permitted space va write z he hv h]
    exact ⟨fun hb => if_pos hb, fun hb => if_neg hb⟩
  · intro s i w h
    have hexec : exec (.asMapWrite i w) s = .next (s.hostDomain (K.AS_MAP i) w).settle := rfl
    rw [hexec, s.hostDomain_asMap i w h]
    refine ⟨fun hl => ?_, fun hl he => ?_, fun hl he ho => ?_, fun hl he ho => ?_⟩
    · simp [domainResult, hl]
    · simp [domainResult, hl, he]
    · simp [domainResult, hl, he, ho]
    · simp only [domainResult, hl, he, ho]
      rfl
  · rintro s w _ ha rfl hz hy
    refine ⟨fun he hf => ?_, exec_mapEdit_busy s w ha hz hy, exec_mapEdit_range s w ha⟩
    obtain ⟨hdom, hfs, hreg, hkeep⟩ := s.mapEdit_effect (ofLe w.data) _ _ rfl rfl
    refine ⟨s.mapEdit (ofLe w.data), exec_mapEdit_ok s w ha hz hy he hf, hdom, fun hm hx => ?_, fun hm => ?_, fun hx => ?_, hkeep, by rw [hfs], by rw [hfs]⟩
    · exact hreg.trans (if_pos (markTags_any _ _ _ _ hm hx))
    · rw [hfs]
      exact markTags_marks _ _ _ _ hm
    · exact hreg.trans (if_neg (by simpa [markTags] using markTags_none _ _ _ _ hx))
  · intro s hcore hf ht
    have hnone : s.fs.tags.any (·.oldMap) = false := List.any_eq_false.mpr fun x hx => by simp [ht x hx]
    rw [exec_mapEditDone s hcore, State.mapEditDone]
    simp [hf, hnone]

end Sys2Proof.Machine
end

section
/-! PROOFS. Chapter 9: a row of the scrubber (R223). -/

namespace Sys2Proof.Machine

/-- Taking the idle cycle changes no register beyond what the row does. -/
theorem State.scrubStep_objs (s : State) (cc : Nat) (found : Ecc) : (s.scrubStep cc found).objs = (s.scrubRow cc found).objs := by
  have hcut : ∀ (u : State) (n b : Nat), (if bitAt n b then u.cutBursts b 0 else u).objs = u.objs := fun u n b => by
    split
    · exact (congrArg State.objs (u.cutBursts_burstStep b 0) :)
    · rfl
  unfold State.scrubStep
  dsimp only
  split
  · exact foldl_rel (fun u t : State => t.objs = u.objs) (fun _ => rfl) (fun h h' => h'.trans h) _ _ (fun u b _ => hcut u _ b) _
  · rfl

theorem exec_scrubRow (s : State) (cc : Fin 2800) (found : Ecc) (h : s.mode.coreRuns = true) : exec (.scrubRow cc found) s = .next (s.scrubStep cc found).settle := by
  calc exec (.scrubRow cc found) s = .next (s.core fun s => s.scrubStep cc found).settle := rfl
    _ = _ := by rw [s.core_on _ h]

/-- A cleared Field Store whose pass holds 100 corrections of a word that the row's findings place behind the last bank: its state would stand where BANK_MAP of bank 0 does. -/
def strayCorrection : State := { State.reset with mode := .standby, fs := { cleared := true, passCe := [(256, 100)] } }

theorem strayCorrection_row : (strayCorrection.scrubRow 0 [(256 * 524288, .single)]).reg (K.BANK_MAP 0) = 5 ∧ strayCorrection.reg (K.BANK_MAP 0) = 0 := by decide

/-- Refutes O21: a finding beyond the 50 banks counts for a bank whose BANK_STATE is another register, and makes bank 0 of BANK_MAP read 5. -/
theorem not_scrubAndFaults : ¬ Obligations.ScrubAndFaults := by
  unfold Obligations.ScrubAndFaults
  rintro ⟨-, hrow, -⟩
  obtain ⟨hafter, hbefore⟩ := strayCorrection_row
  obtain ⟨t, hexec, -, -, -, -, -, -, hmap⟩ := hrow strayCorrection 0 [(256 * 524288, .single)] rfl rfl
  rw [exec_scrubRow _ _ _ rfl] at hexec
  have hreg := congrArg (fun u : State => u.reg (K.BANK_MAP 0)) (Host.Outcome.next.inj hexec)
  rw [State.settle_reg _ _ (by decide), State.settle_reg _ _ (by decide), hmap 0 (by decide), hbefore,
    State.reg_congr _ _ (State.scrubStep_objs _ _ _)] at hreg
  exact absurd (hafter.symm.trans hreg) (by decide)

end Sys2Proof.Machine
end

section
/-! PROOFS. Chapter 9: the completion record of a DMA engine (R239). -/

namespace Sys2Proof.Machine

theorem exec_dmaCompletion (s : State) (e : Fin 8) (cc : Fin 2800) (ecc : Ecc) (h : s.mode.coreRuns = true) :
    exec (.dmaCompletion e cc ecc) s = .next (s.dmaComplete e cc ecc).settle := by
  calc exec (.dmaCompletion e cc ecc) s = .next (s.core fun s => s.dmaComplete e cc ecc).settle := rfl
    _ = _ := by rw [s.core_on _ h]

/-- The physical bank whose count of corrections would stand where DMA_DONE of engine 0 does. -/
def strayBank : Nat := K.DMA_DONE 0 - K.BANK_CE 0

/-- An engine with an aborted completion to write, at an address that leaves a word partly unwritten, in a page that BANK_MAP sends to `strayBank`. -/
def strayCompletion : State :=
  let s : State := { State.reset with mode := .standby, clk := { slotLocked := true }, fs := { dma := [{ phase := .complete 1 }] } }
  ([(K.PLLA_STATE, 2), (K.DMA_STATE 0, 1), (K.BANK_MAP 0, strayBank), (K.AS_ENABLE, 1), (K.DMA_CQ_VA 0, 4)].foldl (fun s p => s.put p.1 p.2) s).putDom
    (K.AS_MAP 0) [0, 0, 0, 0xE0]

/-- The single error that the read of the record's first word finds. -/
def strayFinding : Ecc := [(strayBank * 524288, .single)]

/-- The record's write by itself. -/
def strayRecord : Except (FsFault × Nat × Nat × State) State :=
  (strayCompletion.dmaIssued 0 (strayCompletion.reg (K.DMA_CHAIN_AS 0)) (strayCompletion.dmaCqVa 0) 0).writeGranule strayFinding (dmaMaster 0) 3
    (strayCompletion.reg (K.DMA_CHAIN_AS 0)) (strayCompletion.dmaCqVa 0)
    (leBytes 8 ((strayCompletion.dma1 0).moved + (strayCompletion.dma1 0).words.getD 3 0 / 2 ^ 32 * 2 ^ 32) ++ leBytes 8 (strayCompletion.stampCc 0)
      ++ leBytes 8 ((strayCompletion.dma1 0).desc + 1 * 2 ^ 56) ++ leBytes 8 (strayCompletion.reg (K.DMA_DONE 0) * 2 ^ 32))

theorem strayCompletion_due : strayCompletion.dmaWriting 0 = false
    ∧ strayCompletion.mayIssue 3 (dmaMaster 0) (strayCompletion.reg (K.DMA_CHAIN_AS 0)) (strayCompletion.dmaCqVa 0) = true ∧ strayRecord.isOk = true := by
  decide

theorem strayCompletion_done : (strayCompletion.dmaComplete 0 0 strayFinding).reg (K.DMA_DONE 0) = 2 ∧ strayCompletion.reg (K.DMA_DONE 0) = 0 := by decide

/-- Refutes O22: the statement bounds no register, and with BANK_MAP beyond the 50 banks the correction that the record's own write meets counts in DMA_DONE too. -/
theorem not_dmaControlAndCompletions : ¬ Obligations.DmaControlAndCompletions := by
  unfold Obligations.DmaControlAndCompletions
  rintro ⟨-, hcomplete⟩
  obtain ⟨hwriting, hmay, hok⟩ := strayCompletion_due
  obtain ⟨hafter, hbefore⟩ := strayCompletion_done
  cases hv : strayRecord with
  | error f => rw [hv] at hok; exact absurd hok Bool.false_ne_true
  | ok v =>
    obtain ⟨-, -, hwritten⟩ := hcomplete strayCompletion v 0 0 strayFinding _ 1 rfl rfl rfl (.inl (by decide))
    obtain ⟨t, hexec, hdone, -⟩ := hwritten rfl hwriting (.inl rfl) hmay hv
    rw [exec_dmaCompletion _ _ _ _ rfl] at hexec
    have hreg := congrArg (fun u : State => u.reg (K.DMA_DONE 0)) (Host.Outcome.next.inj hexec)
    rw [State.settle_reg _ _ (by decide), State.settle_reg _ _ (by decide)] at hreg
    have htwo : t.reg (K.DMA_DONE 0) = 2 := hreg.symm.trans hafter
    have hone : t.reg (K.DMA_DONE 0) = (strayCompletion.reg (K.DMA_DONE 0) + 1) % 2 ^ 32 := hdone
    rw [hbefore] at hone
    exact absurd (htwo.symm.trans hone) (by decide)

end Sys2Proof.Machine
end

section
/-! PROOFS. Chapter 9: what the reads of words, the writes of bytes and the return of a tag do to the Field Store (R222, R225, R244, R24). -/

namespace Sys2Proof.Machine

/-! ### Reads of words -/

/-- Reads of words count corrections and may leave words uncorrectable; they change nothing else of the Field Store. -/
def State.eccStep (s t : State) : Prop :=
  t = { s with objs := t.objs, fs := { s.fs with passCe := t.fs.passCe, bad := t.fs.bad } } ∧ ∀ x ∈ s.fs.bad, x ∈ t.fs.bad

theorem State.eccStep.refl (s : State) : s.eccStep s := ⟨rfl, fun _ h => h⟩

theorem State.eccStep.trans {s t u : State} (h : s.eccStep t) (h' : t.eccStep u) : s.eccStep u := by
  obtain ⟨ht, hb⟩ := h
  obtain ⟨hu, hc⟩ := h'
  refine ⟨hu.trans ?_, fun x hx => hc x (hb x hx)⟩
  rw [ht]

theorem State.correct_eccStep (s : State) (b : Nat) : s.eccStep (s.correct b) := by
  unfold State.correct
  dsimp only
  split <;> exact ⟨rfl, fun _ h => h⟩

/-- A new entry leaves those of other keys. -/
theorem mem_storeSet_of_ne {α : Type} (l : List (Nat × α)) (q : Nat) (a : α) (x : Nat × α) (hx : x ∈ l) (hq : x.1 ≠ q) : x ∈ storeSet l q a := by
  induction l with
  | nil => exact absurd hx (List.not_mem_nil)
  | cons p l ih =>
    obtain ⟨k, v⟩ := p
    simp only [storeSet]
    rcases List.mem_cons.mp hx with rfl | hx'
    · rw [if_neg (show ¬k = q from hq)]
      split <;> simp
    · split_ifs
      · exact List.mem_cons_of_mem _ hx
      · exact List.mem_cons_of_mem _ hx'
      · exact List.mem_cons_of_mem _ (ih hx')

theorem State.eccFound_eccStep (s : State) (f : Nat × EccFind) : s.eccStep (s.eccFound f) := by
  unfold State.eccFound
  split
  · exact .refl s
  next hnew =>
    split
    · exact s.correct_eccStep _
    · refine ⟨rfl, fun x hx => mem_storeSet_of_ne _ _ _ x hx fun he => hnew (List.any_eq_true.mpr ⟨x, hx, by simp [he]⟩)⟩

theorem State.eccRead_eccStep (s : State) (pa n : Nat) (l : Ecc) : s.eccStep (s.eccRead pa n l) :=
  foldl_rel State.eccStep .refl .trans State.eccFound _ (fun s f _ => s.eccFound_eccStep f) s

theorem State.eccReads_eccStep (s : State) (l : List (Nat × Nat)) (ecc : Ecc) : s.eccStep (s.forEach l fun s w => s.eccRead w.1 w.2 ecc) :=
  foldl_rel State.eccStep .refl .trans _ _ (fun s w _ => s.eccRead_eccStep w.1 w.2 ecc) s

/-- A granule that is written: the reads of the words written in part, then the bytes and the tag. -/
theorem State.writeGranule_stored {s t : State} {ecc : Ecc} {m c sp va pa : Nat} {d : List Byte} (ht : s.translate sp va true false = .ok pa)
    (h : s.writeGranule ecc m c sp va d = .ok t) : ∃ u, s.eccStep u ∧ t = (u.storeBytes pa d).takeTag c m pa sp va := by
  refine ⟨_, s.eccReads_eccStep (partWords pa d.length) ecc, ?_⟩
  simp only [State.writeGranule, ht] at h
  split at h
  · exact nomatch h
  · exact (Except.ok.inj h).symm

/-- A granule that is read: its words are read, then its bytes are those of the memory. -/
theorem State.readGranule_bytes {s t : State} {ecc : Ecc} {m c sp va pa n : Nat} {z : Bool} {b : List Byte} (ht : s.translate sp va false z = .ok pa)
    (h : s.readGranule ecc m c sp va n z = .ok (b, t)) : b = memRead s.fs.mem pa n ∧ ∃ u, s.eccStep u ∧ t = u.takeTag c m pa sp va := by
  have hread := s.eccRead_eccStep pa n ecc
  have hmem : (s.eccRead pa n ecc).fs.mem = s.fs.mem := (congrArg (fun x : State => x.fs.mem) hread.1 :)
  simp only [State.readGranule, ht] at h
  split at h
  · exact nomatch h
  · obtain ⟨hb, rfl⟩ := Prod.mk.inj (Except.ok.inj h)
    exact ⟨by rw [← hb, hmem], _, hread, rfl⟩

/-! ### Bytes -/

theorem memRead_eq {l : List Host.Cell} {a : Nat} {d : List Byte} (h : ∀ i (hi : i < d.length), memGet l (a + i) = d[i]) : memRead l a d.length = d := by
  refine List.ext_getElem (by simp [memRead]) fun i hi hi' => ?_
  simpa [memRead] using h i hi'

theorem memRead_length (l : List Host.Cell) (a n : Nat) : (memRead l a n).length = n := by simp [memRead]

/-- Bytes written, and the same bytes again in place or apart from them, read back at both places. -/
theorem memRead_memPutAll_twice (l : List Host.Cell) (a b : Nat) (d : List Byte) (h : a = b ∨ a + d.length ≤ b ∨ b + d.length ≤ a) :
    memRead (memPutAll (memPutAll l a d) b d) a d.length = d ∧ memRead (memPutAll (memPutAll l a d) b d) b d.length = d := by
  refine ⟨memRead_eq fun i hi => ?_, memRead_eq fun i hi => memGet_memPutAll_in d _ b i hi⟩
  rcases h with rfl | h
  · exact memGet_memPutAll_in d _ a i hi
  · rw [memGet_memPutAll_out _ _ _ _ (by omega), memGet_memPutAll_in d l a i hi]

theorem mem_mendWords (bad : List (Nat × Nat)) (pa n : Nat) (x : Nat × Nat) : x ∈ mendWords bad pa n ↔ x ∈ bad ∧ ¬(pa ≤ 8 * x.1 ∧ 8 * x.1 + 8 ≤ pa + n) := by
  simp only [mendWords, List.mem_filter, Bool.not_eq_true', decide_eq_false_iff_not]

/-- The same place of two banks is one place, or two that bytes of a granule do not join. -/
theorem mirror_apart (pa q n : Nat) (h : pa % 64 + n ≤ 64) : pa = q * bankBytes + pa % bankBytes ∨ pa + n ≤ q * bankBytes + pa % bankBytes ∨ q * bankBytes + pa % bankBytes + n ≤ pa := by
  simp only [bankBytes]
  omega

section
variable (s : State) (pa : Nat) (d : List Byte)

theorem State.storeBytes_single (h : s.mirrored (pa / bankBytes) = none) :
    s.storeBytes pa d = { s with fs := { s.fs with mem := memPutAll s.fs.mem pa d, bad := mendWords s.fs.bad pa d.length } } := by
  simp only [State.storeBytes, h]

theorem State.storeBytes_mirrored (q : Nat) (h : s.mirrored (pa / bankBytes) = some q) :
    s.storeBytes pa d = { s with fs := { s.fs with
      mem := memPutAll (memPutAll s.fs.mem pa d) (q * bankBytes + pa % bankBytes) d
      bad := mendWords (mendWords s.fs.bad pa d.length) (q * bankBytes + pa % bankBytes) d.length } } := by
  simp only [State.storeBytes, h]

/-- What is stored reads back, in the mirror too; it mends the words it covers in both. -/
theorem State.storeBytes_effect (t : State) (ht : t = s.storeBytes pa d) (hfit : pa % 64 + d.length ≤ 64) :
    memRead t.fs.mem pa d.length = d
    ∧ (∀ a, (a < pa ∨ pa + d.length ≤ a) → s.mirrored (pa / bankBytes) = none → memGet t.fs.mem a = memGet s.fs.mem a)
    ∧ (∀ q a, s.mirrored (pa / bankBytes) = some q → (a < pa ∨ pa + d.length ≤ a) → (a < q * bankBytes + pa % bankBytes ∨ q * bankBytes + pa % bankBytes + d.length ≤ a) →
      memGet t.fs.mem a = memGet s.fs.mem a)
    ∧ (∀ q, s.mirrored (pa / bankBytes) = some q → memRead t.fs.mem (q * bankBytes + pa % bankBytes) d.length = d)
    ∧ (∀ x, x ∈ t.fs.bad ↔ x ∈ s.fs.bad ∧ ¬(pa ≤ 8 * x.1 ∧ 8 * x.1 + 8 ≤ pa + d.length)
      ∧ ∀ q, s.mirrored (pa / bankBytes) = some q → ¬(q * bankBytes + pa % bankBytes ≤ 8 * x.1 ∧ 8 * x.1 + 8 ≤ q * bankBytes + pa % bankBytes + d.length)) := by
  cases hm : s.mirrored (pa / bankBytes) with
  | none =>
    rw [s.storeBytes_single pa d hm] at ht
    subst ht
    exact ⟨memRead_eq fun i hi => memGet_memPutAll_in d _ pa i hi, fun a ha _ => memGet_memPutAll_out _ _ _ _ ha, fun q a h => (nomatch h), fun q h => (nomatch h),
      fun x => by simp only [mem_mendWords]; exact ⟨fun ⟨hb, hn⟩ => ⟨hb, hn, fun q h => (nomatch h)⟩, fun ⟨hb, hn, _⟩ => ⟨hb, hn⟩⟩⟩
  | some q =>
    rw [s.storeBytes_mirrored pa d q hm] at ht
    subst ht
    obtain ⟨hhere, hthere⟩ := memRead_memPutAll_twice s.fs.mem pa (q * bankBytes + pa % bankBytes) d (mirror_apart pa q d.length hfit)
    refine ⟨hhere, fun a _ h => (nomatch h), ?_, ?_, fun x => ?_⟩
    · rintro q a ⟨⟩ ha hb
      exact (memGet_memPutAll_out _ _ _ _ hb).trans (memGet_memPutAll_out _ _ _ _ ha)
    · rintro q ⟨⟩
      exact hthere
    · simp only [mem_mendWords, Option.some.injEq, forall_eq', and_assoc]

end

/-! ### Tags that return -/

theorem exec_tagReturn (s : State) (c : Fin 4) (h : s.mode.coreRuns = true) : exec (.tagReturn c) s = .next (s.tagReturn c).settle := by
  calc exec (.tagReturn c) s = .next (s.core fun s => s.tagReturn c).settle := rfl
    _ = _ := by rw [s.core_on _ h]

theorem State.tagReturn_oldest (s : State) (c : Nat) (l r : List Tag) (x : Tag) (ht : s.fs.tags = l ++ x :: r) (hx : x.cls = c) (hl : ∀ y ∈ l, y.cls ≠ c) :
    s.tagReturn c = (if x.bytes = 0 then s else s.put (K.DMA_CUR_DONE (x.master - 0x48)) (s.reg (K.DMA_CUR_DONE (x.master - 0x48)) + x.bytes)).setFs
      { s.fs with tags := l ++ r } := by
  have hfalse : ∀ y ∈ l, (y.cls == c) = false := fun y hy => by simpa using hl y hy
  have hfind : s.fs.tags.find? (·.cls == c) = some x := by rw [ht]; exact find?_first _ l r x hfalse (by simpa using hx)
  have hdrop : dropFirst (·.cls == c) s.fs.tags = l ++ r := by rw [ht]; exact dropFirst_append _ l r x hfalse (by simpa using hx)
  simp only [State.tagReturn, hfind, hdrop]
  split <;> rfl

theorem dropFirst_none {α : Type} (p : α → Bool) (l : List α) (h : ∀ x ∈ l, p x = false) : dropFirst p l = l := by
  induction l with
  | nil => rfl
  | cons a l ih => simp [dropFirst, h a (by simp), ih fun x hx => h x (by simp [hx])]

theorem State.tagReturn_none (s : State) (c : Nat) (h : ∀ y ∈ s.fs.tags, y.cls ≠ c) : s.tagReturn c = s := by
  have hfalse : ∀ y ∈ s.fs.tags, (y.cls == c) = false := fun y hy => by simpa using h y hy
  have hfind : s.fs.tags.find? (·.cls == c) = none := List.find?_eq_none.mpr fun y hy => by simp [hfalse y hy]
  simp only [State.tagReturn, hfind, dropFirst_none _ _ hfalse]
  rfl

/-- Settles O19: the granule's bytes after the reads that precede it, at its place and in the mirror, and the tag that returns. -/
theorem granulesStored : Obligations.GranulesStored := by
  unfold Obligations.GranulesStored
  refine ⟨fun s t ecc m c sp va pa d htr hw hfit => ?_, fun s c hcore => ⟨fun l r x ht hx hl => ?_, fun h => ?_⟩⟩
  · obtain ⟨u, ⟨hu, hkept⟩, rfl⟩ := State.writeGranule_stored htr hw
    obtain ⟨hback, hout, houtm, hmirror, hbad⟩ := u.storeBytes_effect pa d _ rfl hfit
    have hmir : u.mirrored (pa / bankBytes) = s.mirrored (pa / bankBytes) := (congrArg (fun x : State => x.mirrored (pa / bankBytes)) hu :)
    have hmem : u.fs.mem = s.fs.mem := (congrArg (fun x : State => x.fs.mem) hu :)
    have hfs : ∀ x : State, x = u.storeBytes pa d → x.fs.tags = u.fs.tags ∧ x.fs.queue = u.fs.queue ∧ x.doms = u.doms := by
      rintro _ rfl
      unfold State.storeBytes
      dsimp only
      split <;> exact ⟨rfl, rfl, rfl⟩
    obtain ⟨htags, hqueue, hdoms⟩ := hfs _ rfl
    rw [hmir, hmem] at hout
    rw [hmir] at hmirror
    simp only [hmir, hmem] at houtm hbad
    have htags' : u.fs.tags = s.fs.tags := (congrArg (fun x : State => x.fs.tags) hu :)
    refine ⟨hback, ?_, hout, houtm, hmirror, fun x hx => ((hbad x).mp hx).2.1, fun q hq x hx => ((hbad x).mp hx).2.2 q hq,
      fun x hx hn hq => (hbad x).mpr ⟨hkept x hx, hn, hq⟩, hqueue.trans (congrArg (fun x : State => x.fs.queue) hu :), hdoms.trans (congrArg State.doms hu :)⟩
    · calc _ = (u.storeBytes pa d).fs.tags ++ [_] := rfl
        _ = _ := by rw [htags, htags']
  · rw [exec_tagReturn s c hcore, s.tagReturn_oldest c l r x ht hx hl]
  · rw [exec_tagReturn s c hcore, s.tagReturn_none c h]

end Sys2Proof.Machine
end

section
/-! PROOFS. Chapter 9: the retirement of a bank (R244). -/

namespace Sys2Proof.Machine

/-! ### The copy of a bank's memory -/

theorem memGet_eq_storeGet (l : List Host.Cell) (a : Nat) : memGet l a = (storeGet l a).getD memDefault := by
  induction l with
  | nil => rfl
  | cons c l ih =>
    obtain ⟨k, v⟩ := c
    by_cases h : k = a <;> simp [memGet, storeGet, h, ih]

theorem storeGet_filter {α : Type} (l : List (Nat × α)) (f : Nat → Bool) (k : Nat) : storeGet (l.filter fun c => f c.1) k = if f k then storeGet l k else none := by
  induction l with
  | nil => simp [storeGet]
  | cons c l ih =>
    obtain ⟨j, v⟩ := c
    by_cases hj : j = k
    · subst hj
      by_cases hf : f j = true
      · simp [storeGet, hf]
      · simpa [storeGet, hf] using ih
    · by_cases hf : f j = true
      · simpa [List.filter, storeGet, hf, hj] using ih
      · simpa [List.filter, storeGet, hf, hj] using ih

theorem storeGet_none_of_sorted {α : Type} (l : List (Nat × α)) (b : Nat) (h : storeSorted (some b) l = true) : storeGet l b = none := by
  suffices ∀ c ≤ b, storeSorted (some b) l = true → storeGet l c = none from this b le_rfl h
  intro c hc h
  induction l generalizing b with
  | nil => rfl
  | cons p l ih =>
    obtain ⟨k, v⟩ := p
    simp only [storeSorted, Bool.and_eq_true, decide_eq_true_eq] at h
    rw [storeGet, if_neg (by omega)]
    exact ih k h.2 (by omega) h.2

/-- The cells of bank `p` put over those of bank `q`: outside `q` nothing changes. -/
theorem memGet_copy_out (cs m : List Host.Cell) (q a : Nat) (h : a / bankBytes ≠ q) :
    memGet (cs.foldl (fun m c => memPut m (q * bankBytes + c.1 % bankBytes) c.2) m) a = memGet m a := by
  induction cs generalizing m with
  | nil => rfl
  | cons c cs ih => rw [List.foldl_cons, ih, memGet_memPut, if_neg (by simp only [bankBytes] at h ⊢; omega)]

/-- In `q` each byte of a cell of `p` stands at its place. -/
theorem memGet_copy_in (cs m : List Host.Cell) (p q i : Nat) (hp : ∀ c ∈ cs, c.1 / bankBytes = p) (hs : storeSorted none cs = true) :
    memGet (cs.foldl (fun m c => memPut m (q * bankBytes + c.1 % bankBytes) c.2) m) (q * bankBytes + i)
      = (storeGet cs (p * bankBytes + i)).getD (memGet m (q * bankBytes + i)) := by
  induction cs generalizing m with
  | nil => rfl
  | cons c cs ih =>
    obtain ⟨k, v⟩ := c
    have hk : k / bankBytes = p := hp (k, v) (by simp)
    have hsome : storeSorted (some k) cs = true := hs
    rw [List.foldl_cons, ih _ (fun c hc => hp c (by simp [hc])) (storeSorted_none cs k hsome), memGet_memPut, storeGet]
    by_cases he : k = p * bankBytes + i
    · have hplace : q * bankBytes + i = q * bankBytes + k % bankBytes := by simp only [bankBytes] at *; omega
      rw [if_pos he, ← he, storeGet_none_of_sorted cs k hsome, if_pos hplace]
      rfl
    · have hplace : q * bankBytes + i ≠ q * bankBytes + k % bankBytes := by simp only [bankBytes] at *; omega
      rw [if_neg he, if_neg hplace]

/-- The copy of a bank: the target reads as the source did, and the other banks stay. -/
theorem memGet_memCopyBank (l : List Host.Cell) (p q : Nat) (hl : Memory.wf l = true) :
    (∀ i, i < bankBytes → memGet (memCopyBank l p q) (q * bankBytes + i) = memGet l (p * bankBytes + i))
    ∧ ∀ a, a / bankBytes ≠ q → memGet (memCopyBank l p q) a = memGet l a := by
  have hsorted : storeSorted none l = true := by
    simp only [Memory.wf, Bool.and_eq_true] at hl
    exact hl.1
  have hkeep : ∀ a, memGet (l.filter fun c => c.1 / bankBytes != q) a = if a / bankBytes = q then memDefault else memGet l a := fun a => by
    rw [memGet_eq_storeGet, storeGet_filter l (fun k => k / bankBytes != q), memGet_eq_storeGet]
    by_cases h : a / bankBytes = q <;> simp [h]
  refine ⟨fun i hi => ?_, fun a ha => ?_⟩
  · have hp : ∀ c ∈ l.filter (fun c => c.1 / bankBytes == p), c.1 / bankBytes = p := fun c hc => by simpa using (List.mem_filter.mp hc).2
    rw [memCopyBank, memGet_copy_in _ _ p q i hp (storeSorted_filter l _ hsorted), hkeep, if_pos (by simp only [bankBytes] at hi ⊢; omega),
      storeGet_filter l (fun k => k / bankBytes == p), if_pos (by simp only [bankBytes, beq_iff_eq] at hi ⊢; omega), memGet_eq_storeGet l]
  · rw [memCopyBank, memGet_copy_out _ _ _ _ ha, hkeep, if_neg ha]

/-! ### A request -/

theorem objRow_bankRetire : ∃ r, objRow? K.BANK_RETIRE = some r ∧ (r.acc == .rws) = false := by
  obtain ⟨r, hr⟩ := Option.isSome_iff_exists.mp (show (objRow? K.BANK_RETIRE).isSome = true by decide)
  exact ⟨r, hr, by have := (show (objRow? K.BANK_RETIRE).any (fun r => r.acc == .rws) = false by decide); rwa [hr] at this⟩

theorem exec_bankRetire (s : State) (w : HostWrite) (h : s.accepts K.BANK_RETIRE w = true) :
    exec (.bankRetire w) s = .next (noteResult w.path (0, s.bankRetireAs (ofLe w.data) 4)).settle := by
  obtain ⟨r, hr, hs⟩ := objRow_bankRetire
  calc exec (.bankRetire w) s = .next (s.hostWrite K.BANK_RETIRE w).settle := rfl
    _ = _ := by rw [s.hostWrite_accepted K.BANK_RETIRE w r hr hs h]; rfl

theorem State.bankRetireAs_moves (s : State) (b after q : Nat) (l : List Nat) (hb : b < 48) (hq : s.spareBanks = q :: l) (hr : s.fs.retire.busy = false)
    (hs : s.reg K.RETIRE_STATE = 0 ∨ s.reg K.RETIRE_STATE = 4) : s.bankRetireAs b after = s.bankMove b q after := by
  rcases hs with hs | hs <;> simp [State.bankRetireAs, Nat.not_le.mpr hb, hq, hr, hs]

theorem State.bankRetireAs_refused (s : State) (b after : Nat) (hb : b < 48) (h : s.spareBanks = [] ∨ s.fs.retire.busy = true) :
    s.bankRetireAs b after = s.put K.RETIRE_STATE 4 := by
  rcases h with h | h
  · simp [State.bankRetireAs, Nat.not_le.mpr hb, h]
  · cases hq : s.spareBanks <;> simp [State.bankRetireAs, Nat.not_le.mpr hb, hq, h]

/-! ### The end of the copy -/

theorem State.reg_setFs (s : State) (f : FieldStore) (k : Nat) : (s.setFs f).reg k = s.reg k := rfl

theorem exec_bankCopyDone (s : State) (cc : Fin 2800) (ecc : Ecc) (h : s.mode.coreRuns = true) :
    exec (.bankCopyDone { cc, ecc }) s = .next (s.copyDone cc ecc).settle := by
  calc exec (.bankCopyDone { cc, ecc }) s = .next (s.core fun s => s.copyDone cc ecc).settle := rfl
    _ = _ := by rw [s.core_on _ h]

theorem State.copyDone_nothing (s : State) (cc : Nat) (ecc : Ecc) (hc : s.fs.retire.copying = true) (hs : s.fs.retire.source = 255) :
    s.copyDone cc ecc = ((s.put K.RETIRE_STATE 2).put K.RETIRE_PROGRESS bankBytes).setFs
      { s.fs with retire := { s.fs.retire with copying := false, ticks := ticksAfter cc } } := by
  simp only [State.copyDone, hc, hs, Bool.not_true, Bool.false_eq_true, if_false, if_true]

/-- The memory after the copy, and what shows its end. -/
theorem State.copyDone_copies (s : State) (cc : Nat) (ecc : Ecc) (hc : s.fs.retire.copying = true) (hs : s.fs.retire.source ≠ 255) :
    (s.copyDone cc ecc).reg K.RETIRE_STATE = 2 ∧ (s.copyDone cc ecc).reg K.RETIRE_PROGRESS = bankBytes
    ∧ (s.copyDone cc ecc).fs.retire = { s.fs.retire with copying := false, ticks := ticksAfter cc }
    ∧ (s.copyDone cc ecc).fs.mem = memCopyBank s.fs.mem s.fs.retire.source s.fs.retire.target := by
  have hread := s.eccRead_eccStep (s.fs.retire.source * bankBytes) bankBytes ecc
  have hmem : (s.eccRead (s.fs.retire.source * bankBytes) bankBytes ecc).fs.mem = s.fs.mem := (congrArg (fun x : State => x.fs.mem) hread.1 :)
  have hfault : ∀ (l : List (Nat × Nat)) (f : State → Nat × Nat → State) (u : State), (∀ u b, (f u b).fs.mem = u.fs.mem) → (u.forEach l f).fs.mem = u.fs.mem :=
    fun l f u hf => foldl_rel (fun u t : State => t.fs.mem = u.fs.mem) (fun _ => rfl) (fun h h' => h'.trans h) f l (fun u b _ => hf u b) u
  simp only [State.copyDone, hc, hs, Bool.not_true, Bool.false_eq_true, if_false]
  refine ⟨?_, ?_, rfl, ?_⟩
  · rw [State.reg_setFs, State.reg_put_ne _ _ _ _ (by decide), State.reg_put_self]
  · rw [State.reg_setFs, State.reg_put_self]
  · refine congrArg (fun m => memCopyBank m s.fs.retire.source s.fs.retire.target) (Eq.trans (hfault _ _ _ ?_) hmem)
    intro u b
    rfl

/-! ### The switch of the map -/

theorem State.mapSwitch_eq (u : State) (h : u.fs.retire.ticks = 1) (c v : State)
    (hc : c = (if u.fs.retire.after = 1 then u else u.put K.TAKEOVERS (min (u.reg K.TAKEOVERS + 1) (2 ^ 32 - 1))))
    (hv : v = (if u.fs.retire.source = 255 then c.put K.FS_FRAMES (u.reg K.FS_FRAMES + 64)
      else { c with spares := { u.spares with served := storeSet u.spares.served u.fs.retire.source u.fs.retire.logical } })) :
    u.mapSwitch = ((v.put (K.BANK_MAP u.fs.retire.logical) u.fs.retire.target).put K.RETIRE_STATE 3).setFs
      { u.fs with retire := { u.fs.retire with ticks := 0, draining := true } } := by
  have hc' : c = (if u.fs.retire.after = 1 then u else u.count K.TAKEOVERS) := hc
  have hspares : c.spares = u.spares := by rw [hc']; split <;> rfl
  have hfs : c.fs = u.fs := by rw [hc']; split <;> rfl
  have hframes : c.reg K.FS_FRAMES = u.reg K.FS_FRAMES := by
    rw [hc']
    split
    · rfl
    · exact State.reg_put_ne _ _ _ _ (by decide)
  unfold State.mapSwitch
  simp only [h, if_true, ← hc']
  by_cases hs : u.fs.retire.source = 255
  · rw [if_pos hs] at hv
    simp only [hs, if_true, hframes, ← hv]
    rw [show v.fs = u.fs from hv ▸ hfs]
  · rw [if_neg hs] at hv
    simp only [hs, if_false, hspares, ← hv]
    rw [show v.fs = u.fs from hv ▸ hfs]

theorem exec_bankMapSwitch (s : State) (ht : s.ticking = true) (h : s.fs.retire.ticks = 1) : exec .bankMapSwitch s = .next s.atTick.mapSwitch.settle := by
  calc exec .bankMapSwitch s = .next (s.tickRow (s.fs.retire.ticks == 1) State.mapSwitch).settle := rfl
    _ = _ := by rw [s.tickRow_due _ _ (by simpa using h) ht]; rfl

/-! ### The end of the retirement -/

theorem exec_bankRetireDrained (s : State) (h : s.mode.coreRuns = true) : exec .bankRetireDrained s = .next s.retireDrained.settle := by
  calc exec .bankRetireDrained s = .next (s.core State.retireDrained).settle := rfl
    _ = _ := by rw [s.core_on _ h]

theorem exec_bankCopyFailed (s : State) (h : s.mode.coreRuns = true) :
    exec .bankCopyFailed s = .next (if s.fs.retire.copying then s.targetFailed else s).settle := by
  calc exec .bankCopyFailed s = .next (s.core fun s => if s.fs.retire.copying then s.targetFailed else s).settle := rfl
    _ = _ := by rw [s.core_on _ h]

/-- Every tag of the source has returned. -/
theorem State.retireDrained_over (s : State) (hd : s.fs.retire.draining = true) (ht : ∀ x ∈ s.fs.tags, x.pbank ≠ s.fs.retire.source) :
    s.retireDrained = (((s.putBank s.fs.retire.source s.fs.retire.after).putBank s.fs.retire.target (if s.reg (K.BANK_STATE s.fs.retire.target) = 5 then 5 else 0)).put
      K.RETIRE_STATE 0).setFs { s.fs with retire := {} } := by
  have hnone : s.fs.tags.any (·.pbank == s.fs.retire.source) = false := List.any_eq_false.mpr fun x hx => by simpa using ht x hx
  simp only [State.retireDrained, hd, hnone, Bool.not_false, Bool.and_self, if_true]

theorem State.retireDrained_waits (s : State) (ht : ∃ x ∈ s.fs.tags, x.pbank = s.fs.retire.source) : s.retireDrained = s := by
  obtain ⟨x, hx, hp⟩ := ht
  have hany : s.fs.tags.any (·.pbank == s.fs.retire.source) = true := List.any_eq_true.mpr ⟨x, hx, by simpa using hp⟩
  simp [State.retireDrained, hany]

/-- What the failure of a copy's target leaves while neither a test nor a take-over of the source waits for the copy. -/
theorem State.targetFailed_alone (s u : State) (hb : s.reg K.BIST_STATE ≠ 1 ∨ s.spares.bist.unit ≠ 0x50000 + s.fs.retire.source)
    (ho : s.spares.opStep ≠ .takeOver ∨ s.spares.opUnit ≠ 0x50000 + s.fs.retire.source) (hu : u = s.copyFailed.listAdd (0x50000 + s.fs.retire.target)) :
    s.targetFailed = if s.fs.retire.after = 6 ∧ s.fs.retire.source < 50
      then u.setSpares { u.spares with failWait := u.spares.failWait ++ [0x50000 + s.fs.retire.source] } else u := by
  have hbank : ∀ (x : State) (p c : Nat), (x.putBank p c).reg K.BIST_STATE = x.reg K.BIST_STATE ∧ (x.putBank p c).spares = x.spares := fun x p c => by
    unfold State.putBank
    split
    · exact ⟨State.reg_put_ne _ _ _ _ (by simp only [K.BANK_STATE, K.BIST_STATE]; omega), rfl⟩
    · exact ⟨rfl, rfl⟩
  have hreg : u.reg K.BIST_STATE = s.reg K.BIST_STATE := by
    subst hu
    calc _ = (((s.put K.RETIRE_STATE 5).putBank s.fs.retire.target 6).putBank s.fs.retire.source s.sourceBack).reg K.BIST_STATE := rfl
      _ = _ := by rw [(hbank _ _ _).1, (hbank _ _ _).1]; exact State.reg_put_ne _ _ _ _ (by decide)
  have hspares : s.copyFailed.spares = s.spares := by
    calc _ = (((s.put K.RETIRE_STATE 5).putBank s.fs.retire.target 6).putBank s.fs.retire.source s.sourceBack).spares := rfl
      _ = _ := by rw [(hbank _ _ _).2, (hbank _ _ _).2]; rfl
  have hunit : u.spares.bist = s.spares.bist ∧ u.spares.opStep = s.spares.opStep ∧ u.spares.opUnit = s.spares.opUnit := by
    subst hu
    rw [← hspares]
    exact ⟨rfl, rfl, rfl⟩
  obtain ⟨hbist, hstep, hop⟩ := hunit
  have hnone : ∀ x : State, x.reg K.BIST_STATE = s.reg K.BIST_STATE → x.spares.bist = s.spares.bist → x.spares.opStep = s.spares.opStep →
      x.spares.opUnit = s.spares.opUnit → (if x.reg K.BIST_STATE = 1 ∧ x.spares.bist.unit = 0x50000 + s.fs.retire.source then x.bistStop 0x12
        else if x.spares.opStep = .takeOver ∧ x.spares.opUnit = 0x50000 + s.fs.retire.source then x.opDone 2 else x) = x := fun x hr hx hp hq => by
    rw [hr, hx, hp, hq, if_neg fun h => hb.elim (· h.1) (· h.2), if_neg fun h => ho.elim (· h.1) (· h.2)]
  unfold State.targetFailed
  simp only [← hu]
  split
  · refine hnone _ ?_ ?_ ?_ ?_
    exacts [hreg, hbist, hstep, hop]
  · exact hnone u hreg hbist hstep hop

theorem State.copyFailed_eq (s : State) : s.copyFailed = (((s.put K.RETIRE_STATE 5).putBank s.fs.retire.target 6).putBank s.fs.retire.source
    (if s.fs.retire.suspect = true ∨ s.reg (K.BANK_STATE s.fs.retire.source) = 5 then 5 else 0)).setFs { s.fs with retire := {} } := by
  have hback : s.sourceBack = (if s.fs.retire.suspect = true ∨ s.reg (K.BANK_STATE s.fs.retire.source) = 5 then 5 else 0) := by
    simp [State.sourceBack]
  simp only [State.copyFailed, ← hback]

/-- Settles O24: the retirement by its steps; the copy's memory by the cells of the source, which are apart since the memory is canonical. -/
theorem bankRetirement : Obligations.BankRetirement := by
  unfold Obligations.BankRetirement
  refine ⟨fun s w q l ha hb => ⟨fun hq hr hs => ?_, fun h => ?_⟩, fun s cc ecc hcore hc => ⟨fun hs hne hwf => ?_, fun hs => ?_⟩, fun s u c v ht h hu h' hc hv => ?_,
    fun s hcore hd => ⟨fun h => ?_, fun h => ?_⟩, fun s u hcore hc hb ho hu => ?_, fun s hcore hc => ?_, fun s x hx hl => ?_⟩
  · rw [exec_bankRetire s w ha, s.bankRetireAs_moves _ _ q l hb hq hr hs]
    rfl
  · rw [exec_bankRetire s w ha, s.bankRetireAs_refused _ _ hb h]
  · obtain ⟨hstate, hprogress, hretire, hmem⟩ := s.copyDone_copies cc ecc hc hs
    obtain ⟨hin, hout⟩ := memGet_memCopyBank s.fs.mem s.fs.retire.source s.fs.retire.target hwf
    refine ⟨s.copyDone cc ecc, exec_bankCopyDone s cc ecc hcore, hstate, hprogress, hretire, ?_⟩
    rw [hmem]
    exact ⟨hin, hout⟩
  · rw [exec_bankCopyDone s cc ecc hcore, s.copyDone_nothing cc ecc hc hs]
    rfl
  · subst hu
    rw [exec_bankMapSwitch s ht h, State.mapSwitch_eq _ h' c v hc hv]
  · rw [exec_bankRetireDrained s hcore, s.retireDrained_over hd h]
  · rw [exec_bankRetireDrained s hcore, s.retireDrained_waits h]
  · have hcopy : u = s.copyFailed.listAdd (0x50000 + s.fs.retire.target) := by rw [hu, s.copyFailed_eq]
    rw [exec_bankCopyFailed s hcore, if_pos hc, s.targetFailed_alone u hb ho hcopy]
    exact ⟨fun ha => by rw [if_neg fun h => ha h.1], fun ha hlt => by rw [if_pos ⟨ha, hlt⟩]⟩
  · rw [exec_bankCopyFailed s hcore, hc]
    rfl
  · simp only [State.listAdd, State.setSpares]
    exact if_neg (by rintro (h | h); exacts [absurd (h.symm.trans hx) (by decide), absurd h (by omega)])

end Sys2Proof.Machine
end

section
/-! PROOFS. Chapter 9: what a DMA engine moves (R236 to R242). -/

namespace Sys2Proof.Machine

/-! ### An engine and its granule -/

@[simp] theorem State.dma1_setDma_self (s : State) (e : Nat) (d : Dma) : (s.setDma e d).dma1 e = d := by
  rw [State.dma1, State.setDma, State.setFs, getD_setAt, if_pos rfl]

/-- The engines may lose bursts to a granule that issues, and nothing else. -/
def State.dmaKept (s t : State) : Prop := ∀ e, ∃ c, t.dma1 e = { s.dma1 e with cut := c }

theorem State.dmaKept.trans {s t u : State} (h : s.dmaKept t) (h' : t.dmaKept u) : s.dmaKept u := fun e => by
  obtain ⟨c, hc⟩ := h e
  obtain ⟨c', hc'⟩ := h' e
  exact ⟨c', by rw [hc', hc]⟩

theorem State.dmaKept.of_dma {s t : State} (h : t.fs.dma = s.fs.dma) : s.dmaKept t := fun e => ⟨(s.dma1 e).cut, by simp [State.dma1, h]⟩

/-- A granule that issues changes of the Field Store the queue's marks, the turns and the engines' bursts alone. -/
def State.issueStep (s t : State) : Prop :=
  s.burstStep t ∧ t.fs.mem = s.fs.mem ∧ t.fs.tags = s.fs.tags ∧ t.fs.bad = s.fs.bad ∧ s.dmaKept t

theorem State.issueStep.trans {s t u : State} (h : s.issueStep t) (h' : t.issueStep u) : s.issueStep u := by
  obtain ⟨hb, hm, ht, hw, hd⟩ := h
  obtain ⟨hb', hm', ht', hw', hd'⟩ := h'
  exact ⟨hb.trans hb', hm'.trans hm, ht'.trans ht, hw'.trans hw, hd.trans hd'⟩

theorem State.issueStep.refl (s : State) : s.issueStep s := ⟨rfl, rfl, rfl, rfl, .of_dma rfl⟩

theorem State.cutBursts_issueStep (s : State) (b c : Nat) : s.issueStep (s.cutBursts b c) := by
  have hcut : ∀ (f : Nat → Dma → Bool) (e : Nat), ∃ x, (s.fs.dma.mapIdx fun e d => if f e d then { d with cut := true } else d).getD e {} = { s.fs.dma.getD e {} with cut := x } := by
    intro f e
    rw [List.getD_eq_getElem?_getD, List.getElem?_mapIdx, List.getD_eq_getElem?_getD]
    cases s.fs.dma[e]? with
    | none => exact ⟨_, rfl⟩
    | some d =>
      by_cases h : f e d = true
      · exact ⟨true, by simp [h]⟩
      · exact ⟨d.cut, by simp [h]⟩
  refine ⟨s.cutBursts_burstStep b c, ?_, ?_, ?_, fun e => ?_⟩
  · unfold State.cutBursts; dsimp only; split <;> rfl
  · unfold State.cutBursts; dsimp only; split <;> rfl
  · unfold State.cutBursts; dsimp only; split <;> rfl
  · have hdma : (s.cutBursts b c).fs.dma = s.fs.dma.mapIdx fun e d =>
        if decide (c < 3 ∧ 0 < d.done ∧ (s.dmaNext e).any (fun a => s.bankOf a.1 a.2 == some b)) then { d with cut := true } else d := by
      unfold State.cutBursts
      dsimp only
      simp only [decide_eq_true_eq]
      split <;> rfl
    rw [State.dma1, hdma]
    exact hcut _ e

theorem State.copyCuts_issueStep (s : State) (b : Nat) : s.issueStep (s.copyCuts b) := by
  unfold State.copyCuts
  dsimp only
  split_ifs
  · exact State.issueStep.trans (t := s.draw.2) ⟨rfl, rfl, rfl, rfl, .of_dma rfl⟩ (State.cutBursts_issueStep _ _ _)
  · exact ⟨rfl, rfl, rfl, rfl, .of_dma rfl⟩
  · exact .refl s

theorem State.issued_issueStep (s : State) (c m sp va : Nat) : s.issueStep (s.issued c m sp va) := by
  unfold State.issued
  split
  · exact .refl s
  next b _ =>
    exact (s.cutBursts_issueStep b c).trans (.trans (t := (s.cutBursts b c).setFs { (s.cutBursts b c).fs with turns := storeSet s.fs.turns (b * 4 + c) m })
      ⟨rfl, rfl, rfl, rfl, .of_dma rfl⟩ (State.copyCuts_issueStep _ _))

theorem State.setDma_dmaKept (s : State) (e : Nat) (c : Bool) : s.dmaKept (s.setDma e { s.dma1 e with cut := c }) := fun f => by
  by_cases h : f = e
  · subst h
    exact ⟨c, by simp⟩
  · exact ⟨(s.dma1 f).cut, by rw [State.dma1, State.setDma, State.setFs, getD_setAt, if_neg h]; rfl⟩

theorem State.dmaIssued_issueStep (s : State) (e sp va done : Nat) : s.issueStep (s.dmaIssued e sp va done) :=
  .trans (t := s.setDma e { s.dma1 e with cut := (s.dma1 e).cut && decide (0 < done) }) ⟨rfl, rfl, rfl, rfl, s.setDma_dmaKept e _⟩ (State.issued_issueStep _ _ _ _ _)

theorem State.writeGranule_parts {s t : State} {ecc : Ecc} {m c sp va : Nat} {d : List Byte} (h : s.writeGranule ecc m c sp va d = .ok t) :
    ∃ pa u, s.eccStep u ∧ t = (u.storeBytes pa d).takeTag c m pa sp va := by
  cases ht : s.translate sp va true false with
  | error e => simp only [State.writeGranule, ht] at h; exact nomatch h
  | ok pa => exact ⟨pa, State.writeGranule_stored ht h⟩

theorem State.readGranule_parts {s t : State} {ecc : Ecc} {m c sp va n : Nat} {z : Bool} {b : List Byte} (h : s.readGranule ecc m c sp va n z = .ok (b, t)) :
    b.length = n ∧ ∃ pa u, s.eccStep u ∧ t = u.takeTag c m pa sp va := by
  cases ht : s.translate sp va false z with
  | error e => simp only [State.readGranule, ht] at h; exact nomatch h
  | ok pa =>
    obtain ⟨hb, u, hu⟩ := State.readGranule_bytes ht h
    exact ⟨by rw [hb, memRead_length], pa, u, hu⟩

/-- Registers, the Field Store, the maps' bursts and the free values may differ, and nothing else. -/
def State.storeParts (s t : State) : Prop := t = { s with objs := t.objs, fs := t.fs, spec := t.spec, free := t.free }

theorem State.storeParts.trans {s t u : State} (h : s.storeParts t) (h' : t.storeParts u) : s.storeParts u := by
  refine Eq.trans h' ?_
  rw [h]

theorem State.burstStep.parts {s t : State} (h : s.burstStep t) : s.storeParts t := by
  refine Eq.trans h ?_
  rw [h]

theorem State.eccStep.parts {s t : State} (h : s.eccStep t) : s.storeParts t := by
  refine Eq.trans h.1 ?_
  rw [h.1]

theorem State.takeTag_parts (s : State) (c m pa sp va : Nat) : s.storeParts (s.takeTag c m pa sp va) := rfl

theorem State.storeBytes_parts (s : State) (pa : Nat) (d : List Byte) : s.storeParts (s.storeBytes pa d) := by
  unfold State.storeBytes
  dsimp only
  split <;> rfl

/-- What an engine's granule that is written or read leaves: everything but registers and the Field Store, and there the engines but for lost bursts, with one tag more. -/
structure State.dmaStepped (s t : State) (m c : Nat) : Prop where
  parts : s.storeParts t
  dma : s.dmaKept t
  tag : ∃ x : Tag, t.fs.tags = s.fs.tags ++ [x] ∧ x.cls = c ∧ x.master = m ∧ x.bytes = 0

theorem State.eccStep.dmaKept {s t : State} (h : s.eccStep t) : s.dmaKept t := .of_dma (congrArg (fun x : State => x.fs.dma) h.1 :)

theorem State.dmaRead_stepped {s v : State} {e sp va done n : Nat} {ecc : Ecc} {z : Bool} {b : List Byte} {m c : Nat}
    (h : (s.dmaIssued e sp va done).readGranule ecc m c sp va n z = .ok (b, v)) : b.length = n ∧ s.dmaStepped v m c ∧ v.fs.mem = s.fs.mem := by
  obtain ⟨hb, hm, ht, -, hd⟩ := s.dmaIssued_issueStep e sp va done
  obtain ⟨hlen, pa, u, hu, rfl⟩ := State.readGranule_parts h
  have hmem : u.fs.mem = (s.dmaIssued e sp va done).fs.mem := (congrArg (fun x : State => x.fs.mem) hu.1 :)
  have htags : u.fs.tags = (s.dmaIssued e sp va done).fs.tags := (congrArg (fun x : State => x.fs.tags) hu.1 :)
  refine ⟨hlen, ⟨hb.parts.trans (hu.parts.trans (u.takeTag_parts c m pa sp va)), hd.trans (hu.dmaKept.trans (.of_dma rfl)), ⟨_, congrArg (· ++ _) (htags.trans ht), rfl, rfl, rfl⟩⟩, hmem.trans hm⟩

theorem State.dmaWrite_stepped {s v : State} {e sp va done : Nat} {ecc : Ecc} {d : List Byte} {m c : Nat}
    (h : (s.dmaIssued e sp va done).writeGranule ecc m c sp va d = .ok v) : s.dmaStepped v m c := by
  obtain ⟨hb, hm, ht, -, hd⟩ := s.dmaIssued_issueStep e sp va done
  obtain ⟨pa, u, hu, rfl⟩ := State.writeGranule_parts h
  have htags : u.fs.tags = (s.dmaIssued e sp va done).fs.tags := (congrArg (fun x : State => x.fs.tags) hu.1 :)
  have hstore : ∀ x : State, x = u.storeBytes pa d → x.fs.tags = u.fs.tags ∧ x.fs.dma = u.fs.dma := by
    rintro _ rfl
    unfold State.storeBytes
    dsimp only
    split <;> exact ⟨rfl, rfl⟩
  obtain ⟨hxt, hxd⟩ := hstore _ rfl
  refine ⟨hb.parts.trans (hu.parts.trans ((u.storeBytes_parts pa d).trans (State.takeTag_parts _ c m pa sp va))), hd.trans (hu.dmaKept.trans (.of_dma hxd)), ⟨_, congrArg (· ++ _) (hxt.trans (htags.trans ht)), rfl, rfl, rfl⟩⟩

/-! ### The rows of a move -/

section
variable (s : State) (e : Fin 8) (cc : Fin 2800) (ecc : Ecc) (h : s.mode.coreRuns = true)
include h

theorem exec_dmaFsToStreamer : exec (.dmaFsToStreamer e cc ecc) s = .next (s.dmaStream e cc 300 ecc 4096).settle := by
  calc exec (.dmaFsToStreamer e cc ecc) s = .next (s.core fun s => s.dmaStream e cc 300 ecc 4096).settle := rfl
    _ = _ := by rw [s.core_on _ h]

theorem exec_dmaFsToQspi : exec (.dmaFsToQspi e cc ecc) s = .next (s.dmaOut e cc ecc 4096).settle := by
  calc exec (.dmaFsToQspi e cc ecc) s = .next (s.core fun s => s.dmaOut e cc ecc 4096).settle := rfl
    _ = _ := by rw [s.core_on _ h]

theorem exec_dmaQspiToFs : exec (.dmaQspiToFs e cc ecc) s = .next (s.dmaIn e cc ecc 4096).settle := by
  calc exec (.dmaQspiToFs e cc ecc) s = .next (s.core fun s => s.dmaIn e cc ecc 4096).settle := rfl
    _ = _ := by rw [s.core_on _ h]

theorem exec_dmaContinue : exec (.dmaContinue e cc ecc) s = .next (s.dmaContinue e cc ecc).settle := by
  calc exec (.dmaContinue e cc ecc) s = .next (s.core fun s => s.dmaContinue e cc ecc).settle := rfl
    _ = _ := by rw [s.core_on _ h]

end

theorem State.dmaMoves_ty {s : State} {e ty : Nat} (h : s.dmaMoves e ty = true) : (s.dma1 e).ty = ty := by
  simp only [State.dmaMoves, Bool.and_eq_true, beq_iff_eq] at h
  exact h.1.2

/-- The granule that holds the rest is read into an empty assembly. -/
theorem State.dmaRead_once {s v : State} {e cc goal n : Nat} {ecc : Ecc} {b : List Byte} (hasm : (s.dma1 e).asm = []) (hg : 0 < goal)
    (hmay : s.mayIssue 3 (dmaMaster e) (s.dma1 e).space (s.dma1 e).va = true) (hlen : granuleLen (s.dma1 e).va goal = goal)
    (hr : (s.dmaIssued e (s.dma1 e).space (s.dma1 e).va (burstDone (s.dma1 e).base (s.dma1 e).va)).readGranule ecc (dmaMaster e) 3 (s.dma1 e).space (s.dma1 e).va goal
      ((s.dma1 e).ty == 0) = .ok (b, v)) : s.dmaRead e cc goal ecc (n + 2) = (v.setDma e { v.dma1 e with asm := b }, true) := by
  have hb : b.length = goal := (State.dmaRead_stepped hr).1
  have hdone : ∀ u : State, goal ≤ (u.dma1 e).asm.length → u.dmaRead e cc goal ecc (n + 1) = (u, true) := fun u hu => by
    rw [State.dmaRead]
    exact if_pos hu
  rw [State.dmaRead]
  dsimp only
  rw [if_neg (by rw [hasm]; simpa using Nat.ne_of_gt hg), hmay, hasm, List.length_nil, Nat.sub_zero, hlen, hr]
  exact hdone _ (by simp [hb])

theorem granuleLen_granuleLen (va left : Nat) : granuleLen va (granuleLen va left) = granuleLen va left := by
  simp only [granuleLen]
  omega

/-! ### Type 0: to the Streamer -/

section
variable (s : State) (e cc r n : Nat) (ecc : Ecc)

theorem State.dmaStream_stays (h : s.dmaMoves e 0 = false) : s.dmaStream e cc r ecc (n + 1) = s := by
  rw [State.dmaStream, h]
  rfl

/-- Without lock, or where the stream is none of DMA, the engine waits. -/
theorem State.dmaStream_waits (st : Nat) (hst : st = bits ((s.dma1 e).words.getD 0 0) 51 48) (h : s.dmaMoves e 0 = true) (hw : s.locked = false ∨ s.streamType st ≠ 4) :
    s.dmaStream e cc r ecc (n + 1) = if (s.dmaWait e).streamType st = 4 then s.dmaWait e else (s.dmaWait e).count K.MISROUTED := by
  have hcond : ∀ k, s.locked = false ∨ s.streamTakes st k = false := fun k => hw.imp id fun h => by simp [State.streamTakes, h]
  rw [State.dmaStream, h]
  dsimp only
  rw [← hst, if_neg (by decide), if_pos (by simpa using hcond _)]

theorem State.dmaWait_streamType (st : Nat) (he : e < 8) : (s.dmaWait e).streamType st = s.streamType st := by
  unfold State.streamType
  split
  · rfl
  · exact State.reg_put_ne _ _ _ _ (by simp only [ofStream, K.STREAM_TYPE, K.DMA_STATE]; omega)

end

/-- The last bytes make one packet that the Streamer takes. -/
theorem State.dmaStream_packet (s v w x : State) (e cc r n : Nat) (ecc : Ecc) (b : List Byte) (st : Nat) (p : Packet) (h : s.dmaMoves e 0 = true)
    (hl : s.locked = true) (hasm : (s.dma1 e).asm = []) (hlt : (s.dma1 e).moved < (s.dma1 e).len) (h16 : (s.dma1 e).len - (s.dma1 e).moved ≤ 16)
    (hfit : (s.dma1 e).base % 64 + (s.dma1 e).len ≤ 64) (hmay : s.mayIssue 3 (dmaMaster e) (s.dma1 e).space (s.dma1 e).va = true)
    (hst : st = bits ((s.dma1 e).words.getD 0 0) 51 48) (htakes : s.streamTakes st ((s.dma1 e).len - (s.dma1 e).moved) = true)
    (hr : (s.dmaIssued e (s.dma1 e).space (s.dma1 e).va (burstDone (s.dma1 e).base (s.dma1 e).va)).readGranule ecc (dmaMaster e) 3 (s.dma1 e).space (s.dma1 e).va
      ((s.dma1 e).len - (s.dma1 e).moved) true = .ok (b, v))
    (hw : w = v.setDma e { v.dma1 e with asm := b })
    (hp : p = { ty := 4, stream := st, aux := e, tstamp := s.stampCc cc, flags := (if (s.dma1 e).moved = 0 then 6 else 2), payload := b })
    (hx : x = (w.setStream st { w.stream st with queue := (w.stream st).queue ++ [p] }).linkPump) :
    s.dmaStream e cc (r + 2) ecc (n + 1)
      = ((x.setDma e { x.dma1 e with moved := (s.dma1 e).len, asm := [] }).put (K.DMA_CUR_DONE e) (s.dma1 e).len).dmaEnded e := by
  have hty := State.dmaMoves_ty h
  obtain ⟨hb, hstep, -⟩ := State.dmaRead_stepped hr
  obtain ⟨c, hdma⟩ := hstep.dma e
  have hva : (s.dma1 e).va = (s.dma1 e).base + (s.dma1 e).moved := by simp [Dma.va, Dma.base, hasm]
  have hlen : granuleLen (s.dma1 e).va ((s.dma1 e).len - (s.dma1 e).moved) = (s.dma1 e).len - (s.dma1 e).moved := by
    simp only [granuleLen, hva]
    omega
  have hsize : min (max 16 (s.reg (ofStream K.DMA_PKT (max 1 st)))) ((s.dma1 e).len - (s.dma1 e).moved) = (s.dma1 e).len - (s.dma1 e).moved := by omega
  have hread := State.dmaRead_once (cc := cc) (n := r) hasm (by omega) hmay hlen (by rw [hty]; exact hr)
  have hwd : w.dma1 e = { v.dma1 e with asm := b } := by rw [hw, State.dma1_setDma_self]
  have hmoved : (w.dma1 e).moved = (s.dma1 e).moved := by rw [hwd, hdma]
  have hwasm : (w.dma1 e).asm = b := by rw [hwd]
  have hwlen : (w.dma1 e).len = (s.dma1 e).len := by rw [hwd, hdma]; rfl
  have hstamp : w.stampCc cc = s.stampCc cc := by rw [hw]; exact (congrArg (fun y : State => y.stampCc cc) hstep.parts :)
  have hsum : (s.dma1 e).moved + b.length = (s.dma1 e).len := by omega
  have hpacket : p = { ty := 4, stream := st, aux := e, tstamp := w.stampCc cc
                       flags := 4 * ofBool ((w.dma1 e).moved == 0) + 2 * ofBool ((w.dma1 e).moved + (w.dma1 e).asm.length == (w.dma1 e).len), payload := (w.dma1 e).asm } := by
    rw [hp, hstamp, hmoved, hwasm, hwlen, hsum]
    by_cases hz : (s.dma1 e).moved = 0 <;> simp [hz, ofBool]
  rw [State.dmaStream, h]
  dsimp only
  rw [← hst, hsize, if_neg (by decide), if_neg (by simp [hl, htakes]), hread, ← hw]
  dsimp only
  rw [if_neg (by decide), hwlen, hmoved, hwasm, hsum, if_pos rfl]
  rw [hwlen, hmoved, hwasm, hsum] at hpacket
  rw [← hpacket, ← hx]

end Sys2Proof.Machine
end

section
/-! PROOFS. Chapter 9: what a DMA engine moves to and from the bulk window of the QSPI port (R301), and the obligation on moves. -/

namespace Sys2Proof.Machine

section
variable (s : State) (e cc n : Nat) (ecc : Ecc)

/-! ### Type 1: to the outbound queue -/

/-- The engine takes or keeps the outbound queue. -/
def State.ownOut : State := { s with qspi := { s.qspi with outOwner := some e } }

theorem State.dmaOut_stays (h : s.dmaMoves e 1 = false) : s.dmaOut e cc ecc (n + 1) = s := by
  rw [State.dmaOut, h]
  rfl

theorem State.dmaOut_waits (h : s.dmaMoves e 1 = true) (hw : s.locked = false ∨ ∃ f, f ≠ e ∧ s.qspi.outOwner = some f) : s.dmaOut e cc ecc (n + 1) = s.dmaWait e := by
  have hcond : (!s.locked) = true ∨ (!(s.qspi.outOwner.isNone || s.qspi.outOwner == some e)) = true := by
    rcases hw with hl | ⟨f, hf, ho⟩
    · exact .inl (by simp [hl])
    · exact .inr (by simp [ho, hf])
  rw [State.dmaOut, h]
  dsimp only
  rw [if_neg (by decide), if_pos hcond]

/-- With the queue its own the engine goes on by the room in it. -/
theorem State.dmaOut_owned (k : Nat) (h : s.dmaMoves e 1 = true) (hl : s.locked = true) (ho : s.qspi.outOwner = none ∨ s.qspi.outOwner = some e)
    (hk : k = granuleLen (bits ((s.dma1 e).words.getD 1 0) 27 0 + (s.dma1 e).moved) ((s.dma1 e).len - (s.dma1 e).moved)) :
    (32768 < s.qspi.bulkOut.length + k → s.dmaOut e cc ecc (n + 1) = (s.ownOut e).dmaWait e)
    ∧ ∀ (w : State) (b : List Byte), s.qspi.bulkOut.length + k ≤ 32768 → (s.ownOut e).dmaRead e cc k ecc 2 = (w, true) → (w.dma1 e).asm = b →
      (s.dma1 e).moved + b.length = (s.dma1 e).len →
      s.dmaOut e cc ecc (n + 1) = ((({ w with qspi := { w.qspi with bulkOut := w.qspi.bulkOut ++ b } }).setDma e
        { w.dma1 e with moved := (s.dma1 e).len, asm := [] }).put (K.DMA_CUR_DONE e) (s.dma1 e).len).dmaEnded e := by
  have hcond : ¬((!s.locked) = true ∨ (!(s.qspi.outOwner.isNone || s.qspi.outOwner == some e)) = true) := by
    rcases ho with ho | ho <;> simp [hl, ho]
  refine ⟨fun hfull => ?_, fun w b hroom hread hasm hall => ?_⟩
  · rw [State.dmaOut, h]
    dsimp only
    rw [if_neg (by decide), if_neg hcond, ← hk, if_pos hfull]
    rfl
  · rw [State.dmaOut, h]
    dsimp only
    rw [if_neg (by decide), if_neg hcond, ← hk, if_neg (by omega), show ({ s with qspi := { s.qspi with outOwner := some e } } : State) = s.ownOut e from rfl, hread]
    dsimp only
    rw [if_neg (by decide), hasm, hall, if_pos rfl]
    rfl

/-! ### Type 2: from the inbound queue -/

/-- The engine takes or keeps the inbound queue. -/
def State.ownIn : State := { s with qspi := { s.qspi with inOwner := some e } }

theorem State.dmaIn_stays (h : s.dmaMoves e 2 = false) : s.dmaIn e cc ecc (n + 1) = s := by
  rw [State.dmaIn, h]
  rfl

theorem State.dmaIn_waits (h : s.dmaMoves e 2 = true) (hw : s.locked = false ∨ ∃ f, f ≠ e ∧ s.qspi.inOwner = some f) : s.dmaIn e cc ecc (n + 1) = s.dmaWait e := by
  have hcond : (!s.locked) = true ∨ (!(s.qspi.inOwner.isNone || s.qspi.inOwner == some e)) = true := by
    rcases hw with hl | ⟨f, hf, ho⟩
    · exact .inl (by simp [hl])
    · exact .inr (by simp [ho, hf])
  rw [State.dmaIn, h]
  dsimp only
  rw [if_neg (by decide), if_pos hcond]

/-- With the queue its own the engine goes on by what the queue holds. -/
theorem State.dmaIn_owned (k : Nat) (h : s.dmaMoves e 2 = true) (hl : s.locked = true) (ho : s.qspi.inOwner = none ∨ s.qspi.inOwner = some e)
    (hk : k = granuleLen (s.dma1 e).va ((s.dma1 e).len - (s.dma1 e).moved)) :
    (s.qspi.bulkIn.length < k → s.dmaIn e cc ecc (n + 1) = (s.ownIn e).dmaWait e)
    ∧ ∀ v w : State, k ≤ s.qspi.bulkIn.length → (s.dma1 e).moved + k = (s.dma1 e).len → (s.ownIn e).mayIssue 3 (dmaMaster e) (s.dma1 e).space (s.dma1 e).va = true →
      ((s.ownIn e).dmaIssued e (s.dma1 e).space (s.dma1 e).va (burstDone (s.dma1 e).base (s.dma1 e).va)).writeGranule ecc (dmaMaster e) 3 (s.dma1 e).space (s.dma1 e).va
        (s.qspi.bulkIn.take k) = .ok v →
      w = ({ v with qspi := { v.qspi with bulkIn := v.qspi.bulkIn.drop k } }).tagBytes k →
      s.dmaIn e cc ecc (n + 1) = (w.setDma e { w.dma1 e with moved := (s.dma1 e).len }).dmaEnded e := by
  have hcond : ¬((!s.locked) = true ∨ (!(s.qspi.inOwner.isNone || s.qspi.inOwner == some e)) = true) := by
    rcases ho with ho | ho <;> simp [hl, ho]
  refine ⟨fun hfull => ?_, fun v w hroom hall hmay hwrite hw => ?_⟩
  · rw [State.dmaIn, h]
    dsimp only
    rw [if_neg (by decide), if_neg hcond, ← hk, if_pos hfull]
    rfl
  · rw [State.dmaIn, h]
    dsimp only
    rw [if_neg (by decide), if_neg hcond, ← hk, if_neg (by omega), show ({ s with qspi := { s.qspi with inOwner := some e } } : State) = s.ownIn e from rfl, hmay, hwrite]
    dsimp only
    rw [if_neg (by decide), hall, if_pos rfl, ← hw]

/-! ### Waiting engines -/

theorem State.dmaContinue_runs (hs : s.reg (K.DMA_STATE e) = 2) (hr : s.dmaReady e = true) (hp : (s.dma1 e).phase ≠ .fetch) :
    s.dmaContinue e cc ecc = s.put (K.DMA_STATE e) (if (s.dma1 e).stopAfter = true then 4 else 1) := by
  rw [State.dmaContinue, if_pos (by simp [hs, hr])]
  cases hph : (s.dma1 e).phase with
  | fetch => exact absurd hph hp
  | none => rfl
  | data => rfl
  | complete st => rfl

theorem State.dmaContinue_fetches (hp : (s.dma1 e).phase = .fetch)
    (h : s.reg (K.DMA_STATE e) = 2 ∧ s.dmaReady e = true ∨ s.reg (K.DMA_STATE e) = 1 ∨ s.reg (K.DMA_STATE e) = 4) : s.dmaContinue e cc ecc = s.dmaFetch e cc ecc := by
  have hcond : (s.reg (K.DMA_STATE e) == 2 && s.dmaReady e || s.dmaFetches e) = true := by
    rcases h with ⟨hs, hr⟩ | hs | hs
    · simp [hs, hr]
    · simp [State.dmaFetches, hp, hs]
    · simp [State.dmaFetches, hp, hs]
  rw [State.dmaContinue, if_pos (by simpa using hcond), hp]

theorem State.dmaContinue_waits (hs : s.reg (K.DMA_STATE e) = 2) (hr : s.dmaReady e = false) : s.dmaContinue e cc ecc = s := by
  rw [State.dmaContinue, if_neg (by simp [State.dmaFetches, hs, hr])]

end

/-! ### The last granule of a descriptor -/

/-- The last granule of a type-1 descriptor: its bytes are queued, it counts, and the completion follows. -/
theorem State.dmaOut_last (s u v : State) (e cc n k : Nat) (ecc : Ecc) (b : List Byte) (h : s.dmaMoves e 1 = true) (hl : s.locked = true)
    (ho : s.qspi.outOwner = none ∨ s.qspi.outOwner = some e) (hasm : (s.dma1 e).asm = []) (hk : k = granuleLen (s.dma1 e).va ((s.dma1 e).len - (s.dma1 e).moved))
    (hk0 : 0 < k) (hroom : s.qspi.bulkOut.length + k ≤ 32768) (hall : (s.dma1 e).moved + k = (s.dma1 e).len) (hu : u = s.ownOut e)
    (hmay : u.mayIssue 3 (dmaMaster e) (s.dma1 e).space (s.dma1 e).va = true)
    (hr : (u.dmaIssued e (s.dma1 e).space (s.dma1 e).va (burstDone (s.dma1 e).base (s.dma1 e).va)).readGranule ecc (dmaMaster e) 3 (s.dma1 e).space (s.dma1 e).va k
      false = .ok (b, v)) (t : State) (ht : t = s.dmaOut e cc ecc (n + 1)) :
    t.qspi = { s.qspi with outOwner := some e, bulkOut := s.qspi.bulkOut ++ b } ∧ t.fs.mem = s.fs.mem ∧ (t.dma1 e).phase = .complete 0 ∧ (t.dma1 e).moved = (s.dma1 e).len
    ∧ (t.dma1 e).words = (s.dma1 e).words ∧ (t.dma1 e).desc = (s.dma1 e).desc ∧ (t.dma1 e).asm = [] ∧ t.reg (K.DMA_CUR_DONE e) = (s.dma1 e).len
    ∧ v.keeps t [K.DMA_CUR_DONE e] := by
  have hty := State.dmaMoves_ty h
  have hdu : u.dma1 e = s.dma1 e := by rw [hu]; rfl
  obtain ⟨hb, hstep, hmem⟩ := State.dmaRead_stepped hr
  obtain ⟨c, hdma⟩ := hstep.dma e
  rw [hdu] at hdma
  have hva : (s.dma1 e).va = bits ((s.dma1 e).words.getD 1 0) 27 0 + (s.dma1 e).moved := by simp [Dma.va, hty, hasm]
  have hread := State.dmaRead_once (s := u) (e := e) (cc := cc) (goal := k) (n := 0) (b := b) (v := v) (ecc := ecc) (by rw [hdu, hasm]) hk0 (by rw [hdu]; exact hmay)
    (by rw [hdu, hk, granuleLen_granuleLen]) (by rw [hdu, hty]; exact hr)
  rw [hu] at hread
  have hend := (s.dmaOut_owned e cc n ecc k h hl ho (by rw [← hva, hk])).2 _ b hroom hread (by rw [State.dma1_setDma_self]) (by omega)
  rw [State.dma1_setDma_self] at hend
  have hq : v.qspi = { s.qspi with outOwner := some e } := by rw [show v.qspi = u.qspi from (congrArg State.qspi hstep.parts :), hu]; rfl
  have hshow : ∀ (x : State) (d : Dma) (m : Nat), (((x.setDma e d).put (K.DMA_CUR_DONE e) m).dmaEnded e).dma1 e = { d with phase := .complete 0 } := fun x d m => by
    rw [State.dmaEnded, State.dma1_setDma_self]
    exact congrArg (fun d : Dma => { d with phase := .complete 0 }) (x.dma1_setDma_self e d)
  have htd : t.dma1 e = { v.dma1 e with moved := (s.dma1 e).len, asm := [], phase := .complete 0 } := by rw [ht, hend, hshow]
  rw [htd, hdma]
  rw [ht, hend]
  refine ⟨?_, hmem.trans (by rw [hu]; rfl), rfl, rfl, rfl, rfl, rfl, State.reg_put_self _ _ _, fun q hq => State.reg_put_ne _ _ _ _ (by simpa using hq)⟩
  calc _ = { v.qspi with bulkOut := v.qspi.bulkOut ++ b } := rfl
    _ = _ := by rw [hq]

/-- The tag just taken stands for the bytes that it wrote. -/
theorem State.tagBytes_tags (s : State) (k : Nat) (l : List Tag) (x : Tag) (h : s.fs.tags = l ++ [x]) : (s.tagBytes k).fs.tags = l ++ [{ x with bytes := k }] := by
  have hlast : (s.tagBytes k).fs.tags = s.fs.tags.mapIdx fun i t => if i + 1 = s.fs.tags.length then { t with bytes := k } else t := rfl
  rw [hlast, h, List.mapIdx_append, List.mapIdx_singleton]
  congr 1
  · refine List.ext_getElem? fun i => ?_
    rw [List.getElem?_mapIdx]
    cases hi : l[i]? with
    | none => rfl
    | some t =>
      obtain ⟨hlt, -⟩ := List.getElem?_eq_some_iff.mp hi
      simp only [Option.map_some, List.length_append, List.length_singleton]
      rw [if_neg (by omega)]
  · simp

/-- The last granule of a type-2 descriptor: it is written, its tag stands for its bytes, and the completion follows. -/
theorem State.dmaIn_last (s u v : State) (e cc n k : Nat) (ecc : Ecc) (h : s.dmaMoves e 2 = true) (hl : s.locked = true)
    (ho : s.qspi.inOwner = none ∨ s.qspi.inOwner = some e) (hk : k = granuleLen (s.dma1 e).va ((s.dma1 e).len - (s.dma1 e).moved))
    (hroom : k ≤ s.qspi.bulkIn.length) (hall : (s.dma1 e).moved + k = (s.dma1 e).len) (hu : u = s.ownIn e)
    (hmay : u.mayIssue 3 (dmaMaster e) (s.dma1 e).space (s.dma1 e).va = true)
    (hw : (u.dmaIssued e (s.dma1 e).space (s.dma1 e).va (burstDone (s.dma1 e).base (s.dma1 e).va)).writeGranule ecc (dmaMaster e) 3 (s.dma1 e).space (s.dma1 e).va
      (s.qspi.bulkIn.take k) = .ok v) (t : State) (ht : t = s.dmaIn e cc ecc (n + 1)) :
    t.fs.mem = v.fs.mem ∧ t.qspi = { s.qspi with inOwner := some e, bulkIn := s.qspi.bulkIn.drop k } ∧ (t.dma1 e).phase = .complete 0 ∧ (t.dma1 e).moved = (s.dma1 e).len
    ∧ (t.dma1 e).words = (s.dma1 e).words ∧ (t.dma1 e).desc = (s.dma1 e).desc ∧ t.fs.tags.length = s.fs.tags.length + 1
    ∧ (∃ x, t.fs.tags.getLast? = some x ∧ x.bytes = k ∧ x.master = 0x48 + e ∧ x.cls = 3) ∧ v.keeps t [] := by
  have hdu : u.dma1 e = s.dma1 e := by rw [hu]; rfl
  have hstep := State.dmaWrite_stepped hw
  obtain ⟨c, hdma⟩ := hstep.dma e
  rw [hdu] at hdma
  have hend := ((s.dmaIn_owned e cc n ecc k h hl ho hk).2 v _ hroom hall (by rw [← hu]; exact hmay) (by rw [← hu]; exact hw) rfl).symm.trans ht.symm
  have hq : v.qspi = { s.qspi with inOwner := some e } := by rw [show v.qspi = u.qspi from (congrArg State.qspi hstep.parts :), hu]; rfl
  obtain ⟨x, htags, hcls, hmaster, -⟩ := hstep.tag
  have hutags : u.fs.tags = s.fs.tags := by rw [hu]; rfl
  have htag := State.tagBytes_tags ({ v with qspi := { v.qspi with bulkIn := v.qspi.bulkIn.drop k } }) k _ x htags
  generalize hwdef : ({ v with qspi := { v.qspi with bulkIn := v.qspi.bulkIn.drop k } } : State).tagBytes k = w at hend htag
  have hwd : w.dma1 e = v.dma1 e := by rw [← hwdef]; rfl
  have htd : t.dma1 e = { v.dma1 e with moved := (s.dma1 e).len, phase := .complete 0 } := by
    rw [← hend, State.dmaEnded, State.dma1_setDma_self, State.dma1_setDma_self, hwd]
  have htt : t.fs.tags = s.fs.tags ++ [{ x with bytes := k }] := by rw [← hutags, ← htag, ← hend]; rfl
  have htq : t.qspi = { v.qspi with bulkIn := v.qspi.bulkIn.drop k } := by rw [← hend, ← hwdef]; rfl
  rw [htd, hdma, htt, htq, hq]
  refine ⟨by rw [← hend, ← hwdef]; rfl, rfl, rfl, rfl, rfl, rfl, by simp, ⟨_, List.getLast?_concat .., rfl, hmaster, hcls⟩, fun q _ => ?_⟩
  rw [← hend, ← hwdef]
  rfl

/-! ### The obligation -/

/-- Settles O23: each case of a move by the equation of its direction, the last granules by what a granule that issues leaves of the engine. -/
theorem dmaMoves : Obligations.DmaMoves := by
  unfold Obligations.DmaMoves
  refine ⟨?_, ?_⟩
  · rintro s e cc ecc _ hcore rfl
    rw [exec_dmaFsToStreamer s e cc ecc hcore, exec_dmaFsToQspi s e cc ecc hcore, exec_dmaQspiToFs s e cc ecc hcore, exec_dmaContinue s e cc ecc hcore]
    have htype : (s.dmaWait e).streamType (bits ((s.dma1 e).words.getD 0 0) 51 48) = s.streamType (bits ((s.dma1 e).words.getD 0 0) 51 48) :=
      s.dmaWait_streamType e _ e.isLt
    refine ⟨fun h hl ht => ?_, fun h ht => ?_, fun h => by rw [s.dmaStream_stays e cc 300 4095 ecc h], fun h hl ho hfull => ?_,
      fun f hf h ho => by rw [s.dmaOut_waits e cc 4095 ecc h (.inr ⟨f, hf, ho⟩)]; rfl, fun h hl => by rw [s.dmaOut_waits e cc 4095 ecc h (.inl hl)]; rfl,
      fun h => by rw [s.dmaOut_stays e cc 4095 ecc h], fun u v k b h hl ho hasm hk hk0 hroom hall hu hmay hr => ?_, fun h hl ho hless => ?_,
      fun f hf h ho => by rw [s.dmaIn_waits e cc 4095 ecc h (.inr ⟨f, hf, ho⟩)]; rfl, fun h hl => by rw [s.dmaIn_waits e cc 4095 ecc h (.inl hl)]; rfl,
      fun h => by rw [s.dmaIn_stays e cc 4095 ecc h], fun u v k h hl ho hk hroom hall hu hmay hw => ?_,
      fun hs hr hp => by rw [s.dmaContinue_runs e cc ecc hs hr hp], fun hp h => by rw [s.dmaContinue_fetches e cc ecc hp h],
      fun hs hr => by rw [s.dmaContinue_waits e cc ecc hs hr]⟩
    · rw [s.dmaStream_waits e cc 300 4095 ecc _ rfl h (.inl hl), htype, if_pos ht]
      rfl
    · rw [s.dmaStream_waits e cc 300 4095 ecc _ rfl h (.inr ht), htype, if_neg ht, State.count, State.dmaWait, State.reg_put_ne _ _ _ _ (by simp only [K.MISROUTED, K.DMA_STATE]; omega)]
      rfl
    · rw [(s.dmaOut_owned e cc 4095 ecc _ h hl (.inl ho) rfl).1 hfull]
      rfl
    · exact ⟨_, rfl, State.dmaOut_last s u v e cc 4095 k ecc b h hl ho hasm hk hk0 hroom hall hu hmay hr _ rfl⟩
    · rw [(s.dmaIn_owned e cc 4095 ecc _ h hl (.inl ho) rfl).1 hless]
      rfl
    · exact ⟨_, rfl, State.dmaIn_last s u v e cc 4095 k ecc h hl ho hk hroom hall hu hmay hw _ rfl⟩
  · rintro s v w x e cc ecc _ b st p hcore rfl h hl hasm hlt h16 hfit hmay hst htakes hr hw hp hx
    rw [exec_dmaFsToStreamer s e cc ecc hcore, State.dmaStream_packet s v w x e cc 298 4095 ecc b st p h hl hasm hlt h16 hfit hmay hst htakes hr hw hp hx]

end Sys2Proof.Machine
end

section
/-! PROOFS. Chapter 10: the end of TRAINING (R258). -/

namespace Sys2Proof.Machine

/-- The registers that settling may change while the link keeps its state. -/
def upKeys : List Nat := [K.TP_VOID, K.TP_PASS, K.TP_NEXT] ++ driveKeys ++ (pumpKeys ++ [K.IRQ_CAUSE])

/-- A link that is enabled, or off already, keeps its registers but for those of packets that start. -/
theorem State.settle_upReg (s : State) (h : s.linkEnabled = true ∨ s.reg K.STR_STATE = 0) (k : Nat) (hk : k ∉ upKeys) : s.settle.reg k = s.reg k := by
  have hstate : s.permitGate.mirGate.outGate.resGate.biasGate.reg K.STR_STATE = s.reg K.STR_STATE := by
    rw [State.biasGate_driveKeeps _ _ (by decide), s.permitGate_keeps _ (by decide)]
  have henabled : s.permitGate.mirGate.outGate.resGate.biasGate.linkEnabled = s.linkEnabled :=
    s.linkEnabled_congr _ (by simp) (s.biasStage_keeps _ (by decide)) (s.biasStage_keeps _ (by decide)) (s.biasStage_keeps _ (by decide))
  have hgate : s.permitGate.mirGate.outGate.resGate.biasGate.linkGate = s.permitGate.mirGate.outGate.resGate.biasGate := by
    rw [State.linkGate, henabled, hstate, if_pos (by simpa using h)]
  simp only [upKeys, List.mem_append, not_or] at hk
  obtain ⟨⟨htest, hdrive⟩, hpump, hirq⟩ := hk
  rw [State.settle_eq, hgate, State.raise_keeps _ _ hirq, State.linkPump_keeps _ _ hpump, State.biasGate_driveKeeps _ _ hdrive, s.permitGate_keeps _ htest]

theorem exec_linkTrainingDone (s : State) (h : s.mode.coreRuns = true) : exec .linkTrainingDone s = .next s.trainingDone.settle := by
  calc exec .linkTrainingDone s = .next (s.core State.trainingDone).settle := rfl
    _ = _ := by rw [s.core_on _ h]

/-- A link at the end of TRAINING whose RX_ACTIVE names a lane beyond the two, the register of whose alignment is MARKER_COUNT. -/
def strayLane : State :=
  [(K.STR_ENABLE, 1), (K.RAIL_STATE 0, 2), (K.RAIL_STATE 1, 2), (K.STR_STATE, 1), (K.RX_ACTIVE, K.MARKER_COUNT - K.RX_ALIGN 0), (K.MARKER_COUNT, 1),
    (K.EFOM_MIN, 0)].foldl (fun s p => s.put p.1 p.2) { State.reset with mode := .standby, link := { trainTicks := 5 } }

theorem strayLane_done : strayLane.reg K.STR_STATE = 1 ∧ strayLane.rxUsable (strayLane.reg K.RX_ACTIVE) = true ∧ strayLane.linkEnabled = true
    ∧ strayLane.trainingDone.reg K.STR_STATE = 2 ∧ strayLane.trainingDone.linkEnabled = true := by decide

/-- Refutes O25: the statement bounds no register; with RX_ACTIVE beyond the two lanes the marker count that starts again takes the lane's alignment with it, so
ALIGNING goes on although the lane was usable when TRAINING ended. -/
theorem not_linkStartsUp : ¬ Obligations.LinkStartsUp := by
  unfold Obligations.LinkStartsUp
  rintro ⟨-, hdone, -⟩
  obtain ⟨htraining, husable, henabled, hstate, hafter⟩ := strayLane_done
  obtain ⟨t, hexec, ht, -, -, hkeeps⟩ := hdone strayLane rfl htraining (by decide)
  rw [exec_linkTrainingDone _ rfl] at hexec
  have hsettle : strayLane.trainingDone.settle = t.settle := Host.Outcome.next.inj hexec
  have hmode : t.mode = strayLane.mode := by
    rw [← t.settle_mode, ← hsettle, State.settle_mode]
    decide
  have htEnabled : t.linkEnabled = true := by
    rw [strayLane.linkEnabled_congr t hmode (hkeeps _ (by decide)) (hkeeps _ (by decide)) (hkeeps _ (by decide)), henabled]
  rw [husable, if_pos rfl] at ht
  have hthree : t.settle.reg K.STR_STATE = 3 := by rw [t.settle_upReg (.inl htEnabled) _ (by decide), ht]
  have htwo : t.settle.reg K.STR_STATE = 2 := by rw [← hsettle, State.settle_upReg _ (.inl hafter) _ (by decide), hstate]
  exact absurd (hthree.symm.trans htwo) (by decide)

end Sys2Proof.Machine
end

section
/-! PROOFS. Chapter 10: the receive lanes and the host's packets (R251, R256, R260, R265, R278). -/

namespace Sys2Proof.Machine

/-! ### Control packets and receive lanes -/

/-- The registers, the link and the free values may differ, and nothing else; the receive lanes and what they bring stay. -/
structure State.rxKept (s t : State) : Prop where
  parts : t = { s with objs := t.objs, link := t.link, free := t.free }
  rx : t.link.rx = s.link.rx
  host : t.link.host = s.link.host

theorem State.rxKept.refl (s : State) : s.rxKept s := ⟨rfl, rfl, rfl⟩

theorem State.rxKept.trans {s t u : State} (h : s.rxKept t) (h' : t.rxKept u) : s.rxKept u := by
  refine ⟨h'.parts.trans ?_, h'.rx.trans h.rx, h'.host.trans h.host⟩
  rw [h.parts]

theorem State.controlNow_rxKept (s : State) (ty : Nat) (b : List Byte) (n : Option (Nat × Nat × Nat)) : s.rxKept (s.controlNow ty b n) := ⟨rfl, rfl, rfl⟩

theorem State.tryExchange_rxKept (s : State) : s.rxKept s.tryExchange := by
  unfold State.tryExchange
  split
  · exact ⟨rfl, rfl, rfl⟩
  · exact .refl s

theorem State.tryExchange_keeps (s : State) : s.keeps s.tryExchange [K.STR_STATE] := by
  unfold State.tryExchange
  split
  · exact (((State.keeps.refl s _).put K.STR_STATE 3 (by decide)).of_objs rfl)
  · exact .refl s _

theorem State.rxLane_setRxLane (s : State) (i j : Nat) (r : RxLane) : (s.setRxLane i r).rxLane j = if j = i then r else s.rxLane j := getD_setAt ..

theorem State.rxLane_setRxLane_self (s : State) (i : Nat) (r : RxLane) : (s.setRxLane i r).rxLane i = r := by rw [s.rxLane_setRxLane, if_pos rfl]

theorem State.rxLane_congr {s t : State} (h : t.link.rx = s.link.rx) (i : Nat) : t.rxLane i = s.rxLane i := by rw [State.rxLane, h, State.rxLane]

/-- A lane's use depends on its own registers, the eye's limit and the units out of service. -/
theorem State.rxUsable_congr (s t : State) (l : Nat) (hs : t.spares = s.spares) (hb : t.reg K.BIST_STATE = s.reg K.BIST_STATE)
    (ha : t.reg (K.RX_ALIGN l) = s.reg (K.RX_ALIGN l)) (hm : t.reg K.EFOM_MIN = s.reg K.EFOM_MIN) (he : t.reg (K.RX_EFOM l) = s.reg (K.RX_EFOM l)) :
    t.rxUsable l = s.rxUsable l := by
  simp only [State.rxUsable, State.rxOut, hs, hb, ha, hm, he]

/-! ### Alignment -/

section
variable (s : State) (i : Fin 2)

theorem exec_rxLaneAligned (b : Fin 10) (h : s.mode.coreRuns = true) :
    exec (.rxLaneAligned { lane := i, boundary := b }) s = .next (s.rxAligned i b).settle := by
  calc exec (.rxLaneAligned { lane := i, boundary := b }) s = .next (s.core fun s => s.rxAligned i b).settle := rfl
    _ = _ := by rw [s.core_on _ h]

/-- A lane that searches aligns at a boundary that counts. -/
theorem State.rxAligned_aligns (b : Nat) (hl : s.lanesOn = true) (ha : s.reg (K.RX_ALIGN i) = 0) (hb : s.reg K.RX_COMMA_EN = 1 ∨ (s.rxLane i).slip = b) :
    (s.rxAligned i b).reg (K.RX_ALIGN i) = 1 ∧ (s.rxAligned i b).rxLane i = { s.rxLane i with slip := b, missed := 0, errs := 0, good := 0 }
    ∧ s.keeps (s.rxAligned i b) [K.RX_ALIGN i, K.STR_STATE] := by
  have hon : s.rxAligned i b = ((s.put (K.RX_ALIGN i) 1).setRxLane i { s.rxLane i with slip := b, missed := 0, errs := 0, good := 0 }).tryExchange := by
    rcases hb with hb | hb <;> simp [State.rxAligned, State.rxOn, hl, ha, hb, i.isLt]
  have hne : K.RX_ALIGN i ∉ [K.STR_STATE] := by simp only [List.mem_singleton, K.RX_ALIGN, K.STR_STATE]; omega
  rw [hon]
  refine ⟨?_, ?_, ?_⟩
  · rw [State.tryExchange_keeps _ _ hne]
    exact State.reg_put_self _ _ _
  · rw [State.rxLane_congr (State.tryExchange_rxKept _).rx, State.rxLane_setRxLane_self]
  · exact (((State.keeps.refl s _).put (K.RX_ALIGN i) 1 (by simp)).of_objs rfl).trans ((State.tryExchange_keeps _).mono (by simp))

theorem State.rxAligned_idle (b : Nat) (h : s.reg (K.RX_ALIGN i) ≠ 0 ∨ s.reg K.RX_COMMA_EN ≠ 1 ∧ (s.rxLane i).slip ≠ b) : s.rxAligned i b = s := by
  rcases h with h | ⟨h, h'⟩
  · simp [State.rxAligned, h]
  · simp [State.rxAligned, h, h']

end

/-! ### Code groups -/

/-- Code errors among the symbols of code groups. -/
def codeErrorsOf (l : List (Option Symbol)) : Nat := (l.filter Option.isNone).length

section
variable (s : State) (i : Nat) (g : List (BitVec 10))

/-- What code groups that come in leave of a lane. -/
def State.afterGroups : RxLane := { s.rxLane i with errs := (s.rxLane i).errs + codeErrorsOf (readGroups (s.rxLane i).rd g).1, rd := (readGroups (s.rxLane i).rd g).2 }

theorem State.rxGroups_symbols : (s.rxGroups i g).2 = (readGroups (s.rxLane i).rd g).1 := rfl

theorem State.rxGroups_lane : (s.rxGroups i g).1.rxLane i = s.afterGroups i g := by
  calc _ = ((s.codeErrors i (codeErrorsOf (readGroups (s.rxLane i).rd g).1)).setRxLane i
        { (s.codeErrors i (codeErrorsOf (readGroups (s.rxLane i).rd g).1)).rxLane i with rd := (readGroups (s.rxLane i).rd g).2 }).rxLane i := rfl
    _ = _ := by rw [State.rxLane_setRxLane_self, State.codeErrors, State.rxLane_setRxLane_self]; rfl

theorem State.rxGroups_codeErr : (s.rxGroups i g).1.reg K.RX_CODEERR = min (s.reg K.RX_CODEERR + codeErrorsOf (readGroups (s.rxLane i).rd g).1) (2 ^ 32 - 1) :=
  State.reg_put_self s K.RX_CODEERR _

theorem State.rxGroups_keeps : s.keeps (s.rxGroups i g).1 [K.RX_CODEERR] := ((State.keeps.refl s _).put K.RX_CODEERR _ (by decide)).of_objs rfl

theorem State.rxGroups_parts : (s.rxGroups i g).1 = { s with objs := (s.rxGroups i g).1.objs, link := { s.link with rx := (s.rxGroups i g).1.link.rx } } := rfl

end

/-! ### Loss of alignment -/

section
variable (s : State) (i : Fin 2) (g : List (BitVec 10))

theorem exec_rxLaneAlignLoss (h : s.mode.coreRuns = true) : exec (.rxLaneAlignLoss i g) s = .next (s.rxAlignLoss i g).settle := by
  calc exec (.rxLaneAlignLoss i g) s = .next (s.core fun s => s.rxAlignLoss i g).settle := rfl
    _ = _ := by rw [s.core_on _ h]

/-- The lane whose alignment is lost after the code groups. -/
def State.unaligned : State :=
  ((s.rxGroups i g).1.put (K.RX_ALIGN i) 0).setRxLane i { s.afterGroups i g with good := 0, missed := 0, errs := 0 }

theorem State.unaligned_keeps : s.keeps (s.unaligned i g) [K.RX_ALIGN i, K.RX_CODEERR] :=
  (((s.rxGroups_keeps i g).mono (by simp)).put (K.RX_ALIGN i) 0 (by simp)).of_objs rfl

theorem State.rxAlignLoss_kept (hl : s.lanesOn = true) (hm : (s.rxLane i).missed < 2)
    (he : (s.rxLane i).errs + codeErrorsOf (readGroups (s.rxLane i).rd g).1 ≤ 16) : s.rxAlignLoss i g = (s.rxGroups i g).1 := by
  have hlane : ((s.rxGroups i g).1.rxLane i).missed < 2 ∧ ((s.rxGroups i g).1.rxLane i).errs ≤ 16 := by rw [s.rxGroups_lane]; exact ⟨hm, he⟩
  obtain ⟨hmissed, herrs⟩ := hlane
  rw [State.rxAlignLoss, if_neg (by simp [State.rxOn, hl]; omega)]
  dsimp only
  rw [if_neg (by simp; omega)]

theorem State.rxAlignLoss_lost (hl : s.lanesOn = true) (ha : s.reg (K.RX_ALIGN i) = 1)
    (h : 2 ≤ (s.rxLane i).missed ∨ 16 < (s.rxLane i).errs + codeErrorsOf (readGroups (s.rxLane i).rd g).1) (hr : s.reg K.RX_ACTIVE = i) :
    s.rxAlignLoss i g = if (s.unaligned i g).rxUsable (1 - i) then (s.unaligned i g).rxSwitch (1 - i) else (s.unaligned i g).linkFault 4 := by
  have hlane : 2 ≤ ((s.rxGroups i g).1.rxLane i).missed ∨ 16 < ((s.rxGroups i g).1.rxLane i).errs := by rw [s.rxGroups_lane]; exact h
  have halign : (s.rxGroups i g).1.reg (K.RX_ALIGN i) = 1 := by
    rw [s.rxGroups_keeps i g _ (by simp only [List.mem_singleton, K.RX_ALIGN, K.RX_CODEERR]; omega), ha]
  have hactive : (s.unaligned i g).reg K.RX_ACTIVE = i := by
    rw [s.unaligned_keeps i g _ (by simp only [List.mem_cons, List.not_mem_nil, or_false, K.RX_ALIGN, K.RX_CODEERR, K.RX_ACTIVE]; omega), hr]
  rw [State.rxAlignLoss, if_neg (by simp [State.rxOn, hl]; omega)]
  dsimp only
  rw [if_pos (by simpa [halign] using hlane), s.rxGroups_lane]
  exact if_pos hactive

theorem State.unaligned_usable : (s.unaligned i g).rxUsable (1 - i) = s.rxUsable (1 - i) := by
  have hother : ∀ k ∈ [K.BIST_STATE, K.RX_ALIGN (1 - i), K.EFOM_MIN, K.RX_EFOM (1 - i)], k ∉ [K.RX_ALIGN i, K.RX_CODEERR] := by
    fin_cases i <;> decide
  refine State.rxUsable_congr _ _ _ rfl ?_ ?_ ?_ ?_ <;> exact s.unaligned_keeps i g _ (hother _ (by simp))

theorem State.rxSwitch_keeps (t : State) (n : Nat) : t.keeps (t.rxSwitch n) [K.RX_ACTIVE] ∧ (t.rxSwitch n).reg K.RX_ACTIVE = n := by
  have hput := ((State.keeps.refl t _).put K.RX_ACTIVE n (List.mem_singleton.mpr rfl))
  unfold State.rxSwitch
  dsimp only
  split
  · exact ⟨hput.of_objs rfl, State.reg_put_self t K.RX_ACTIVE n⟩
  · exact ⟨hput.of_objs rfl, State.reg_put_self t K.RX_ACTIVE n⟩

theorem State.linkDown_shows (t : State) (st f : Nat) : (t.linkDown st f).reg K.STR_STATE = st ∧ (t.linkDown st f).reg K.STR_FAULT = f := by
  refine ⟨t.linkDown_state st f, ?_⟩
  unfold State.linkDown
  exact State.reg_put_self _ _ _

/-- A receive loss in UP without another lane. -/
theorem State.rxLoss_faults (t : State) (h : t.reg K.STR_STATE = 5) : t.linkFault 4 = t.linkDown 6 4 := by
  rw [State.linkFault, if_neg (by decide)]
  exact if_pos h

theorem State.linkDown_rxAlign (t : State) : (t.linkDown 6 4).reg (K.RX_ALIGN i) = t.reg (K.RX_ALIGN i) := by
  refine t.linkDown_keepsIn 6 4 downKeys (List.Subset.refl _) (fun h => absurd h (by decide)) _ ?_
  fin_cases i <;> decide

end

/-! ### The end of a marker interval -/

section
variable (s : State) (i : Fin 2) (cc : Fin 2800) (g : List (BitVec 10)) (h w : Rat)

theorem exec_rxMarkerInterval (hc : s.mode.coreRuns = true) : exec (.rxMarkerInterval i cc g h w) s = .next (s.rxMarker i cc g h w).settle := by
  calc exec (.rxMarkerInterval i cc g h w) s = .next (s.core fun s => s.rxMarker i cc g h w).settle := rfl
    _ = _ := by rw [s.core_on _ hc]

/-- The registers that the end of a marker interval may change. -/
def markerKeys (i : Nat) : List Nat := [K.RX_EFOM i, K.RX_CODEERR, K.RX_ACTIVE, K.STR_STATE]

theorem State.rxAdapt_kept (t : State) : (t.rxAdapt i).objs = t.objs ∧ (t.rxAdapt i).link.host = t.link.host ∧ ((t.rxAdapt i).rxLane i).missed = (t.rxLane i).missed := by
  refine ⟨rfl, rfl, ?_⟩
  rw [State.rxAdapt, State.rxLane_setRxLane_self]

theorem State.rxMarker_effect (hl : s.lanesOn = true) (h0 : 0 ≤ h) (h1 : h ≤ 1) (w0 : 0 ≤ w) (w1 : w ≤ 1) (t : State) (ht : t = s.rxMarker i cc g h w) :
    t.reg (K.RX_EFOM i) = (255 * (h * w)).floor.toNat
    ∧ t.reg K.RX_CODEERR = min (s.reg K.RX_CODEERR + codeErrorsOf (readGroups (s.rxLane i).rd g).1) (2 ^ 32 - 1)
    ∧ (t.rxLane i).missed = (if (markerOf i (readGroups (s.rxLane i).rd g).1).isSome = true then 0 else (s.rxLane i).missed + 1)
    ∧ t.link.host = (if s.reg K.RX_ACTIVE = i.val then (readGroups (s.rxLane i).rd g).1.foldl (HostLine.take cc) s.link.host else s.link.host)
    ∧ s.keeps t (markerKeys i) := by
  have hone : ∀ x : Rat, 0 ≤ x → x ≤ 1 → (if x < 0 then (0 : Rat) else if 1 < x then 1 else x) = x := fun x h0 h1 => by
    rw [if_neg (not_lt.mpr h0), if_neg (not_lt.mpr h1)]
  rw [State.rxMarker, if_neg (by simp [State.rxOn, hl]; omega)] at ht
  extract_lets in_ marker src s1 one e s2 r efoms calm ok s3 s4 src' s5 at ht
  have hs1 : s1.objs = in_.1.objs ∧ s1.link.rx = in_.1.link.rx
      ∧ s1.link.host = (if s.reg K.RX_ACTIVE = i.val then (readGroups (s.rxLane i).rd g).1.foldl (HostLine.take cc) s.link.host else s.link.host) := by
    by_cases ha : (i : Nat) = s.reg K.RX_ACTIVE
    · rw [if_pos ha.symm, show s1 = in_.1.setLink { in_.1.link with host := in_.2.foldl (HostLine.take cc) in_.1.link.host } from if_pos ha]
      exact ⟨rfl, rfl, rfl⟩
    · rw [if_neg (Ne.symm ha), show s1 = in_.1 from if_neg ha]
      exact ⟨rfl, rfl, rfl⟩
  have hs4 : s4.objs = s2.objs ∧ s4.link.host = s1.link.host ∧ (s4.rxLane i).missed = if marker.isSome = true then 0 else r.missed + 1 := by
    have hs3 : (s3.rxLane i).missed = if marker.isSome = true then 0 else r.missed + 1 := congrArg RxLane.missed (s2.rxLane_setRxLane_self i _)
    obtain ⟨hobjs, hhost, hmissed⟩ := s3.rxAdapt_kept i
    rcases ite_eq_or_eq ((decide (s3.reg K.RX_ADAPT = 0) && (r.settled || calm)) = true) s3 (s3.rxAdapt i) with h4 | h4
    · rw [show s4 = s3 from h4]
      exact ⟨rfl, rfl, hs3⟩
    · rw [show s4 = s3.rxAdapt i from h4]
      exact ⟨hobjs, hhost, hmissed.trans hs3⟩
  have hs5 : s4.keeps s5 [K.RX_ACTIVE] ∧ s5.link.host = s4.link.host ∧ s5.link.rx = s4.link.rx := by
    dsimp only [s5]
    split
    · split
      · exact ⟨((State.keeps.refl s4 _).put K.RX_ACTIVE _ (by simp)).of_objs rfl, rfl, rfl⟩
      · exact ⟨.refl s4 _, rfl, rfl⟩
    · exact ⟨.refl s4 _, rfl, rfl⟩
  obtain ⟨hobjs1, hrx1, hhost1⟩ := hs1
  obtain ⟨hobjs4, hhost4, hmissed4⟩ := hs4
  obtain ⟨hkeeps5, hhost5, hrx5⟩ := hs5
  have hkeys : K.RX_EFOM i ∉ [K.RX_ACTIVE] ∧ K.RX_EFOM i ∉ [K.STR_STATE] ∧ K.RX_CODEERR ∉ [K.RX_ACTIVE] ∧ K.RX_CODEERR ∉ [K.STR_STATE] ∧ K.RX_CODEERR ≠ K.RX_EFOM i := by
    fin_cases i <;> decide
  obtain ⟨hfomActive, hfomState, herrActive, herrState, herrFom⟩ := hkeys
  have hr : r = s.afterGroups i g := (State.rxLane_congr (s := in_.1) (t := s2) hrx1 i).trans (s.rxGroups_lane i g)
  have hkept := s5.tryExchange_rxKept
  have hlast := s5.tryExchange_keeps
  rw [ht]
  refine ⟨?_, ?_, ?_, hkept.host.trans (hhost5.trans (hhost4.trans hhost1)), ?_⟩
  · rw [hlast _ hfomState, hkeeps5 _ hfomActive, s2.reg_congr s4 hobjs4, State.reg_put_self]
    exact congrArg (fun x : Rat => (255 * x).floor.toNat) (congrArg₂ (· * ·) (hone h h0 h1) (hone w w0 w1))
  · rw [hlast _ herrState, hkeeps5 _ herrActive, s2.reg_congr s4 hobjs4, State.reg_put_ne _ _ _ _ herrFom, in_.1.reg_congr s1 hobjs1]
    exact s.rxGroups_codeErr i g
  · rw [State.rxLane_congr hkept.rx, State.rxLane_congr hrx5, hmissed4, hr]
    rfl
  · have h2 : s.keeps s2 (markerKeys i) := (((s.rxGroups_keeps i g).mono (by simp [markerKeys])).of_objs hobjs1).put (K.RX_EFOM i) e (by simp [markerKeys])
    exact ((h2.of_objs hobjs4).trans (hkeeps5.mono (by simp [markerKeys]))).trans (hlast.mono (by simp [markerKeys]))

end

/-! ### Bit slip, notices and host packets -/

theorem objRow_rxBitslip : ∃ r, objRow? K.RX_BITSLIP = some r ∧ (r.acc == .rws) = false := by
  obtain ⟨r, hr⟩ := Option.isSome_iff_exists.mp (show (objRow? K.RX_BITSLIP).isSome = true by decide)
  exact ⟨r, hr, by have := (show (objRow? K.RX_BITSLIP).any (fun r => r.acc == .rws) = false by decide); rwa [hr] at this⟩

theorem exec_rxBitslip (s : State) (w : HostWrite) (h : s.accepts K.RX_BITSLIP w = true) :
    exec (.rxBitslip w) s = .next (noteResult w.path (0, s.rxBitslip (ofLe w.data))).settle := by
  obtain ⟨r, hr, hs⟩ := objRow_rxBitslip
  calc exec (.rxBitslip w) s = .next (s.hostWrite K.RX_BITSLIP w).settle := rfl
    _ = _ := by rw [s.hostWrite_accepted K.RX_BITSLIP w r hr hs h]; rfl

theorem exec_laneNotice (s : State) (w : BitVec 64) (h : s.mode.coreRuns = true) : exec (.laneNotice w) s = .next (s.hostNotice w.toNat).settle := by
  calc exec (.laneNotice w) s = .next (s.core fun s => s.hostNotice w.toNat).settle := rfl
    _ = _ := by rw [s.core_on _ h]

theorem exec_hostPacketInvalid (s : State) (h : s.mode.coreRuns = true) : exec .hostPacketInvalid s = .next s.hostPacketNext.settle := by
  calc exec .hostPacketInvalid s = .next (s.core State.hostPacketNext).settle := rfl
    _ = _ := by rw [s.core_on _ h]

theorem State.discardPacket_counts (s : State) (h : s.rxTakes = true) : s.discardPacket = s.put K.RX_DISCARDS (min (s.reg K.RX_DISCARDS + 1) (2 ^ 32 - 1)) := by
  rw [State.discardPacket, if_pos h]
  rfl

theorem ofLe_lt (l : List Byte) : ofLe l < 256 ^ l.length := by
  induction l with
  | nil => simp [ofLe]
  | cons b l ih =>
    have hb := b.isLt
    rw [ofLe, List.length_cons, pow_succ]
    omega

theorem fieldAt_lt (b : List Byte) (o n : Nat) : fieldAt b o n < 256 ^ n := by
  have hlen : (bytesAt b o n).length = n := by simp [bytesAt]
  simpa [fieldAt, hlen] using ofLe_lt (bytesAt b o n)

/-- A good packet has the effect of its type, which the type's own row has too. -/
theorem State.hostPacket_good (s : State) (b p : List Byte) (cc : Fin 2800) (hc : s.mode.coreRuns = true) (hp : p = bytesAt b 16 (bits (fieldAt b 0 8) 39 24))
    (hb : hostPacketBad b = false) :
    (bits (fieldAt b 0 8) 55 52 = 9 → .next (s.hostPacket b cc).settle = exec (.sideband (bits (fieldAt b 0 8) 23 8) cc p) s)
    ∧ (bits (fieldAt b 0 8) 55 52 = 10 → .next (s.hostPacket b cc).settle = exec (.capability (BitVec.ofNat 64 (fieldAt p 0 8))) s)
    ∧ (bits (fieldAt b 0 8) 55 52 = 11 → .next (s.hostPacket b cc).settle = exec (.laneNotice (BitVec.ofNat 64 (fieldAt p 0 8))) s)
    ∧ (bits (fieldAt b 0 8) 55 52 = 12 → .next (s.hostPacket b cc).settle = exec (.credit ((List.range (p.length / 8)).map fun i => fieldAt p (8 * i) 8)) s)
    ∧ (bits (fieldAt b 0 8) 55 52 = 13 → .next (s.hostPacket b cc).settle = exec (.efomReport p) s) := by
  have hrun : ∀ f : State → State, .next (f s).settle = (.next (s.core f).settle : Host.Outcome State Fault Refusal) := fun f => by rw [s.core_on f hc]
  have hword : (BitVec.ofNat 64 (fieldAt p 0 8)).toNat = fieldAt p 0 8 := by
    rw [BitVec.toNat_ofNat]
    exact Nat.mod_eq_of_lt (fieldAt_lt p 0 8)
  refine ⟨fun h => ?_, fun h => ?_, fun h => ?_, fun h => ?_, fun h => ?_⟩
  · simp only [State.hostPacket, hb, h, ← hp, Bool.false_eq_true, if_false]
    exact hrun fun s => s.sidebandPacket (bits (fieldAt b 0 8) 23 8) cc p
  · have he : exec (.capability (BitVec.ofNat 64 (fieldAt p 0 8))) s = .next (s.core fun s => s.capabilityPacket (BitVec.ofNat 64 (fieldAt p 0 8)).toNat).settle := rfl
    simp only [State.hostPacket, hb, h, ← hp, Bool.false_eq_true, if_false]
    rw [he, hword]
    exact hrun fun s => s.capabilityPacket (fieldAt p 0 8)
  · simp only [State.hostPacket, hb, h, ← hp, Bool.false_eq_true, if_false]
    rw [exec_laneNotice s _ hc, hword]
  · simp only [State.hostPacket, hb, h, ← hp, Bool.false_eq_true, if_false]
    exact hrun fun s => s.creditPacket ((List.range (p.length / 8)).map fun i => fieldAt p (8 * i) 8)
  · simp only [State.hostPacket, hb, h, ← hp, Bool.false_eq_true, if_false]
    exact hrun fun s => s.efomReport p

/-! ### Recovery from a receive loss -/

theorem exec_linkFaultRecover (s : State) (h : s.mode.coreRuns = true) : exec .linkFaultRecover s = .next s.faultRecover.settle := by
  calc exec .linkFaultRecover s = .next (s.core State.faultRecover).settle := rfl
    _ = _ := by rw [s.core_on _ h]

/-- The registers that a new TRAINING sets. -/
def trainKeys : List Nat := [K.STR_STATE, K.STR_FAULT, K.LINK_VER, K.PKT_VER, K.STR_NEG, K.HOST_CAPS] ++ (List.range 9).map K.TX_PRESET_USE ++ downKeys

theorem downKeys_range {k : Nat} (h : k ∈ downKeys) : k = K.TAKEOVERS ∨ 0x580000 ≤ k ∧ k < 0x590000 := by
  simp only [downKeys, List.mem_append, List.mem_cons, List.not_mem_nil, or_false, List.mem_map, List.mem_range, K.STR_STATE, K.STR_FAULT, K.LANE_MAP, K.CREDIT,
    K.STREAM_STATE, ofStream, K.STREAM_DROPPED] at h
  rcases h with (((h | ⟨i, hi, h⟩) | ⟨i, hi, h⟩) | ⟨i, hi, h⟩) | ⟨i, hi, h⟩
  · exact h.imp_right (by omega)
  all_goals exact .inr (by omega)

theorem trainKeys_range {k : Nat} (h : k ∈ trainKeys) : k = K.TAKEOVERS ∨ 0x580000 ≤ k ∧ k < 0x590000 := by
  simp only [trainKeys, List.mem_append, List.mem_cons, List.not_mem_nil, or_false, List.mem_map, List.mem_range, K.STR_STATE, K.STR_FAULT, K.LINK_VER, K.PKT_VER, K.STR_NEG,
    K.HOST_CAPS, K.TX_PRESET_USE] at h
  rcases h with (h | ⟨i, hi, h⟩) | h
  · exact .inr (by omega)
  · exact .inr (by omega)
  · exact downKeys_range h

theorem State.trainStart_keeps (s : State) : s.keeps s.trainStart trainKeys := by
  have hdown : downKeys ⊆ trainKeys := List.subset_append_right _ _
  have hdropped : s.keeps s.movesNow.noticesDrop trainKeys := ((s.movesNow_keeps).mono hdown).of_objs rfl
  unfold State.trainStart
  extract_lets dropped src streamed presets
  have hpresets : s.keeps presets trainKeys := (hdropped.of_objs (u := streamed) rfl).foldl _ _ fun x i hi =>
    (State.keeps.refl x _).put _ _ (List.mem_append_left _ (List.mem_append_right _ (List.mem_map.mpr ⟨i, hi, rfl⟩)))
  exact (((((hpresets.put K.STR_STATE 1 (by decide)).put K.STR_FAULT 0 (by decide)).put K.LINK_VER 0 (by decide)).put K.PKT_VER 0 (by decide)).put K.STR_NEG 0
    (by decide)).put K.HOST_CAPS 0 (by decide)

theorem State.trainStart_state (s : State) : s.trainStart.reg K.STR_STATE = 1 ∧ s.trainStart.reg K.STR_FAULT = 0 := by
  have hlast : ∀ (u : State) (a b c d : Nat) (k : Nat), k ∉ [K.LINK_VER, K.PKT_VER, K.STR_NEG, K.HOST_CAPS] →
      ((((u.put K.LINK_VER a).put K.PKT_VER b).put K.STR_NEG c).put K.HOST_CAPS d).reg k = u.reg k := fun u a b c d k hk => by
    simp only [List.mem_cons, List.not_mem_nil, or_false, not_or] at hk
    obtain ⟨h1, h2, h3, h4⟩ := hk
    rw [State.reg_put_ne _ _ _ _ h4, State.reg_put_ne _ _ _ _ h3, State.reg_put_ne _ _ _ _ h2, State.reg_put_ne _ _ _ _ h1]
  unfold State.trainStart
  exact ⟨(hlast _ _ _ _ _ _ (by decide)).trans ((State.reg_put_ne _ _ _ _ (by decide)).trans (State.reg_put_self _ _ _)),
    (hlast _ _ _ _ _ _ (by decide)).trans (State.reg_put_self _ _ _)⟩

theorem State.faultRecover_restarts (s : State) (i : Nat) (hs : s.reg K.STR_STATE = 6) (hf : s.reg K.STR_FAULT = 4) (hi : i < 2) (hg : 8 ≤ (s.rxLane i).good)
    (hu : s.rxUsable i = true) (h : i = 1 → ((s.rxLane 0).good < 8 ∨ s.rxUsable 0 = false)) : s.faultRecover = (s.put K.RX_ACTIVE i).trainStart := by
  have hfind : (List.range 2).find? (fun i => decide (8 ≤ (s.rxLane i).good) && s.rxUsable i) = some i := by
    have hrange : List.range 2 = [0, 1] := rfl
    rw [hrange]
    interval_cases i
    · rw [List.find?_cons_of_pos (by simp [hg, hu])]
    · have h0 : (decide (8 ≤ (s.rxLane 0).good) && s.rxUsable 0) = false := by
        rcases h rfl with h | h
        · rw [decide_eq_false (by omega)]; rfl
        · rw [h, Bool.and_false]
      rw [List.find?_cons_of_neg (by simp [h0]), List.find?_cons_of_pos (by simp [hg, hu])]
  simp only [State.faultRecover, hs, hf, hfind]
  rfl

/-- Settles O26: alignment, its loss and the end of a marker interval by what code groups leave of a lane; a host packet by the row of its type. -/
theorem receiveLanes : Obligations.ReceiveLanes := by
  unfold Obligations.ReceiveLanes
  refine ⟨fun s i b hc hl => ⟨fun ha hb => ?_, fun h => ?_⟩, fun s i g n hc hl ha hn => ?_, fun s i cc g r h w hc hl h0 h1 w0 w1 hr => ?_, fun s w i ha hi hv => ?_,
    fun s w hc ht => ⟨fun hv hn ho => ?_, fun hv => ?_⟩, fun s hc ht he => ?_, fun s u b p cc l hc ht hw hu hp => ?_, fun s i hc hs hf hi hg hu h => ?_⟩
  · obtain ⟨halign, hlane, hkeeps⟩ := s.rxAligned_aligns i b hl ha hb
    exact ⟨_, exec_rxLaneAligned s i b hc, halign, hlane, hkeeps⟩
  · rw [exec_rxLaneAligned s i b hc, s.rxAligned_idle i b h]
  · have hn' : n = codeErrorsOf (readGroups (s.rxLane i).rd g).1 := hn
    have hself : (s.unaligned i g).reg (K.RX_ALIGN i) = 0 := State.reg_put_self _ _ _
    have hcode : (s.unaligned i g).reg K.RX_CODEERR = min (s.reg K.RX_CODEERR + n) (2 ^ 32 - 1) := by
      rw [hn', ← s.rxGroups_codeErr i g]
      exact State.reg_put_ne _ _ _ _ (by simp only [K.RX_CODEERR, K.RX_ALIGN]; omega)
    refine ⟨fun hbad hact hother => ?_, fun hbad hact hother hup => ?_, fun hm he => ?_⟩
    · obtain ⟨hkeeps, hactive⟩ := (s.unaligned i g).rxSwitch_keeps (1 - i)
      refine ⟨_, exec_rxLaneAlignLoss s i g hc, ?_⟩
      rw [s.rxAlignLoss_lost i g hl ha (hn' ▸ hbad) hact, s.unaligned_usable i g, if_pos hother]
      refine ⟨?_, hactive, ?_, ((s.unaligned_keeps i g).mono (by simp)).trans (hkeeps.mono (by simp))⟩
      · rw [hkeeps _ (by simp only [List.mem_singleton, K.RX_ALIGN, K.RX_ACTIVE]; omega), hself]
      · rw [hkeeps _ (by decide), hcode]
    · have hstate : (s.unaligned i g).reg K.STR_STATE = 5 := by
        rw [s.unaligned_keeps i g _ (by simp only [List.mem_cons, List.not_mem_nil, or_false, K.RX_ALIGN, K.RX_CODEERR, K.STR_STATE]; omega), hup]
      refine ⟨_, exec_rxLaneAlignLoss s i g hc, ?_⟩
      rw [s.rxAlignLoss_lost i g hl ha (hn' ▸ hbad) hact, s.unaligned_usable i g, if_neg (by simp [hother]), State.rxLoss_faults _ hstate]
      exact ⟨(State.linkDown_rxAlign i _).trans hself, State.linkDown_shows _ 6 4⟩
    · refine ⟨_, exec_rxLaneAlignLoss s i g hc, ?_⟩
      rw [s.rxAlignLoss_kept i g hl hm (hn' ▸ he)]
      exact ⟨by rw [s.rxGroups_lane, hn']; rfl, s.rxGroups_keeps i g⟩
  · subst hr
    exact ⟨_, exec_rxMarkerInterval s i cc g h w hc, s.rxMarker_effect i cc g h w hl h0 h1 w0 w1 _ rfl⟩
  · rw [exec_rxBitslip s w ha, hv, State.rxBitslip, if_pos (by omega), Nat.add_sub_cancel]
  · rw [exec_laneNotice s w hc, State.hostNotice]
    simp [ht, hv, hn, ho]
  · rw [exec_laneNotice s w hc, State.hostNotice]
    rw [if_neg (by simp [ht]), if_pos hv]
    rfl
  · rw [exec_hostPacketInvalid s hc, State.hostPacketNext, he, ← s.discardPacket_counts ht]
  · have hnext : s.hostPacketNext = u.hostPacket b cc := by rw [State.hostPacketNext, hw, hu]
    have hutakes : u.rxTakes = true := by rw [hu]; exact ht
    rw [exec_hostPacketInvalid s hc, hnext]
    refine ⟨fun hb => ?_, State.hostPacket_good u b p cc (by rw [hu]; exact hc) hp⟩
    have hcount : u.reg K.RX_DISCARDS = s.reg K.RX_DISCARDS := by rw [hu]; rfl
    rw [State.hostPacket, hb, if_pos rfl, u.discardPacket_counts hutakes, hcount]
  · obtain ⟨hstate, hfault⟩ := (s.put K.RX_ACTIVE i).trainStart_state
    refine ⟨_, exec_linkFaultRecover s hc, ?_⟩
    rw [s.faultRecover_restarts i hs hf hi hg hu h]
    exact ⟨((s.put K.RX_ACTIVE i).trainStart_keeps _ (by decide)).trans (State.reg_put_self _ _ _), hstate, hfault⟩

end Sys2Proof.Machine
end

section
/-! PROOFS. Chapter 10: credit, reports, the sideband and the packets the link sends (R255, R257, R264, R271 to R275). -/

namespace Sys2Proof.Machine

/-! ### Rows of the core dies -/

section
variable (s : State) (h : s.mode.coreRuns = true)
include h

theorem exec_credit (ws : List Nat) : exec (.credit ws) s = .next (s.creditPacket ws).settle := by
  calc exec (.credit ws) s = .next (s.core fun s => s.creditPacket ws).settle := rfl
    _ = _ := by rw [s.core_on _ h]

theorem exec_efomReport (b : List Byte) : exec (.efomReport b) s = .next (s.efomReport b).settle := by
  calc exec (.efomReport b) s = .next (s.core fun s => s.efomReport b).settle := rfl
    _ = _ := by rw [s.core_on _ h]

theorem exec_sideband (q : Nat) (cc : Fin 2800) (b : List Byte) : exec (.sideband q cc b) s = .next (s.sidebandPacket q cc b).settle := by
  calc exec (.sideband q cc b) s = .next (s.core fun s => s.sidebandPacket q cc b).settle := rfl
    _ = _ := by rw [s.core_on _ h]

theorem exec_decimatedPacketReady (n : Fin 16) : exec (.decimatedPacketReady n) s = .next (s.decPacketReady n).settle := by
  calc exec (.decimatedPacketReady n) s = .next (s.core fun s => s.decPacketReady n).settle := rfl
    _ = _ := by rw [s.core_on _ h]

theorem exec_rawPacketReady (n : Fin 16) : exec (.rawPacketReady n) s = .next (s.rawReady n).settle := by
  calc exec (.rawPacketReady n) s = .next (s.core fun s => s.rawReady n).settle := rfl
    _ = _ := by rw [s.core_on _ h]

theorem exec_packetSent : exec .packetSent s = .next s.packetSent.settle := by
  calc exec .packetSent s = .next (s.core State.packetSent).settle := rfl
    _ = _ := by rw [s.core_on _ h]

theorem exec_pointRecordHandover : exec .pointRecordHandover s = .next s.handover.settle := by
  calc exec .pointRecordHandover s = .next (s.core State.handover).settle := rfl
    _ = _ := by rw [s.core_on _ h]

theorem exec_statusPeriodExpire : exec .statusPeriodExpire s = .next s.statusPeriod.settle := by
  calc exec .statusPeriodExpire s = .next (s.core State.statusPeriod).settle := rfl
    _ = _ := by rw [s.core_on _ h]

theorem exec_electricalIdleEnter : exec .electricalIdleEnter s = .next s.idleEnter.settle := by
  calc exec .electricalIdleEnter s = .next (s.core State.idleEnter).settle := rfl
    _ = _ := by rw [s.core_on _ h]

theorem exec_electricalIdleExit : exec .electricalIdleExit s = .next s.idleExit.settle := by
  calc exec .electricalIdleExit s = .next (s.core State.idleExit).settle := rfl
    _ = _ := by rw [s.core_on _ h]

end

/-! ### Credit -/

section
variable (s : State)

/-- A CREDIT packet of one entry is its entry. -/
theorem State.creditPacket_one (w : Nat) (ht : s.rxTakes = true) (hv : s.reg K.LINK_VER = 2) : s.creditPacket [w] = s.creditEntry w := by
  rw [State.creditPacket, if_neg (by simp [ht]), if_neg (by simp [hv])]
  rfl

theorem State.creditEntry_adds (w : Nat) (h : bits w 63 60 ≠ 0) (hz : bits w 59 32 = 0) (hm : s.reg (K.CREDIT_MODE (bits w 63 60 - 1)) ≠ 0) :
    s.creditEntry w = s.put (K.CREDIT (bits w 63 60 - 1)) (min (s.reg (K.CREDIT (bits w 63 60 - 1)) + bits w 31 0) (2 ^ 24)) := by
  rw [State.creditEntry, if_neg (by simp [h, hz, ofStream, hm])]
  rfl

theorem State.creditEntry_ignored (w : Nat) (h : bits w 63 60 = 0 ∨ bits w 59 32 ≠ 0 ∨ s.reg (K.CREDIT_MODE (bits w 63 60 - 1)) = 0) : s.creditEntry w = s := by
  rw [State.creditEntry, if_pos (by rcases h with h | h | h <;> simp [ofStream, h])]

theorem State.creditPacket_discarded (ws : List Nat) (ht : s.rxTakes = true) (h : s.reg K.LINK_VER ≠ 2 ∨ 128 < ws.length) :
    s.creditPacket ws = s.put K.RX_DISCARDS (min (s.reg K.RX_DISCARDS + 1) (2 ^ 32 - 1)) := by
  rw [State.creditPacket, if_neg (by simp [ht]), if_pos h]
  rfl

theorem objRow_streamCreditAdd : ∀ n : Fin 15, ∃ r, objRow? (K.STREAM_CREDIT_ADD n) = some r ∧ (r.acc == .rws) = false := fun n => by
  obtain ⟨r, hr⟩ := Option.isSome_iff_exists.mp ((show ∀ n : Fin 15, (objRow? (K.STREAM_CREDIT_ADD n)).isSome = true by decide) n)
  exact ⟨r, hr, by have := (show ∀ n : Fin 15, (objRow? (K.STREAM_CREDIT_ADD n)).any (fun r => r.acc == .rws) = false by decide) n; rwa [hr] at this⟩

theorem exec_streamCreditAdd (n : Fin 15) (w : HostWrite) (h : s.accepts (K.STREAM_CREDIT_ADD n) w = true) :
    exec (.streamCreditAdd n w) s = .next (noteResult w.path (0, s.put (K.CREDIT n) (min (s.reg (K.CREDIT n) + ofLe w.data) (2 ^ 24)))).settle := by
  obtain ⟨r, hr, hs⟩ := objRow_streamCreditAdd n
  have hwrite : ∀ p v cc ecc, s.writeReg p (K.STREAM_CREDIT_ADD n) v cc ecc = (0, s.put (K.CREDIT n) (min (s.reg (K.CREDIT n) + v) (2 ^ 24))) := by
    fin_cases n <;> exact fun _ _ _ _ => rfl
  calc exec (.streamCreditAdd n w) s = .next (s.hostWrite (K.STREAM_CREDIT_ADD n) w).settle := rfl
    _ = _ := by rw [s.hostWrite_accepted _ w r hr hs h, hwrite]

/-! ### EFOM reports -/

/-- One lane's entry of a report; `late` says that it falls in the final half of a tuning hold. -/
def State.efomEntry (late : Bool) (b : List Byte) (s : State) (i : Nat) : State :=
  let e := fieldAt b i 1
  let l := s.link
  let run := if e < s.reg K.EFOM_MIN then l.lowRun.getD i 0 + 1 else 0
  (s.put (K.TX_HOST_EFOM i) e).setLink { l with tuneNow := if late then setAt 0 l.tuneNow i e else l.tuneNow, lowRun := setAt 0 l.lowRun i run }

theorem State.efomEntries_effect (late : Bool) (b : List Byte) (l : List Nat) (hl : ∀ i ∈ l, i < 9) (hn : l.Nodup) (t : State) (ht : t = l.foldl (State.efomEntry late b) s) :
    (∀ i, t.reg (K.TX_HOST_EFOM i) = if i ∈ l then fieldAt b i 1 else s.reg (K.TX_HOST_EFOM i))
    ∧ (∀ i, t.link.lowRun.getD i 0 = if i ∈ l then (if fieldAt b i 1 < s.reg K.EFOM_MIN then s.link.lowRun.getD i 0 + 1 else 0) else s.link.lowRun.getD i 0)
    ∧ ∀ k, (∀ i, i < 9 → k ≠ K.TX_HOST_EFOM i) → t.reg k = s.reg k := by
  induction l generalizing s with
  | nil => subst ht; exact ⟨fun _ => by simp, fun _ => by simp, fun _ _ => rfl⟩
  | cons a l ih =>
    obtain ⟨ha, hn⟩ := List.nodup_cons.mp hn
    obtain ⟨hreg, hrun, hkeep⟩ := ih (s.efomEntry late b a) (fun i hi => hl i (List.mem_cons_of_mem _ hi)) hn ht
    have hentry : ∀ i, (s.efomEntry late b a).reg (K.TX_HOST_EFOM i) = if i = a then fieldAt b a 1 else s.reg (K.TX_HOST_EFOM i) := fun i => by
      have hkey : K.TX_HOST_EFOM i = K.TX_HOST_EFOM a ↔ i = a := by simp only [K.TX_HOST_EFOM]; omega
      refine (State.reg_put s _ _ _).trans ?_
      simp only [hkey]
    have hlow : ∀ i, (s.efomEntry late b a).link.lowRun.getD i 0 = if i = a then (if fieldAt b a 1 < s.reg K.EFOM_MIN then s.link.lowRun.getD a 0 + 1 else 0)
        else s.link.lowRun.getD i 0 := fun i => getD_setAt ..
    have hother : ∀ k, (∀ i, i < 9 → k ≠ K.TX_HOST_EFOM i) → (s.efomEntry late b a).reg k = s.reg k := fun k hk =>
      State.reg_put_ne s _ _ _ (hk a (hl a (by simp)))
    have hmin : (s.efomEntry late b a).reg K.EFOM_MIN = s.reg K.EFOM_MIN := hother _ fun i _ => by simp only [K.EFOM_MIN, K.TX_HOST_EFOM]; omega
    refine ⟨fun i => ?_, fun i => ?_, fun k hk => (hkeep k hk).trans (hother k hk)⟩
    · rw [hreg, hentry]
      by_cases hi : i = a
      · subst hi; simp [ha]
      · simp [hi]
    · rw [hrun, hlow, hmin]
      by_cases hi : i = a
      · subst hi; simp [ha]
      · simp [hi]

/-- A report of the right form without AUTOSPARE. -/
theorem State.efomReport_taken (b : List Byte) (ht : s.rxTakes = true) (hv : s.reg K.LINK_VER = 2) (hl : b.length = 16) (hm : fieldAt b 9 2 < 512)
    (hz : ∀ x ∈ b.drop 11, x = 0) (ha : s.reg K.AUTOSPARE ≠ 1) : ∃ late, s.efomReport b = (bitsSet (fieldAt b 9 2) 9).foldl (State.efomEntry late b) s := by
  have hform : ¬(s.reg K.LINK_VER ≠ 2 ∨ b.length ≠ 16 ∨ 512 ≤ fieldAt b 9 2 ∨ (b.drop 11).any (· != 0) = true) := by
    simp only [hv, hl, not_or, ne_eq, not_true_eq_false, not_false_eq_true, true_and, not_le, hm, Bool.not_eq_true, List.any_eq_false, bne_iff_ne, not_not]
    exact hz
  refine ⟨s.reg K.STR_STATE == 4 && decide (32 ≤ s.link.tuneIv) && decide (s.link.tuneIv ≤ 64), ?_⟩
  have hauto := (s.efomEntries_effect (s.reg K.STR_STATE == 4 && decide (32 ≤ s.link.tuneIv) && decide (s.link.tuneIv ≤ 64)) b (bitsSet (fieldAt b 9 2) 9)
    (fun i hi => ((mem_bitsSet _ _ _).mp hi).1) (List.nodup_range.filter _) _ rfl).2.2 K.AUTOSPARE fun i _ => by simp only [K.AUTOSPARE, K.TX_HOST_EFOM]; omega
  rw [State.efomReport, if_neg (by simp [ht])]
  dsimp only
  rw [if_neg hform]
  exact if_neg fun h => ha (hauto.symm.trans h)

end

/-! ### The sideband -/

section
variable (s : State) (q cc : Nat) (b : List Byte) (x : PathState) (ht : s.rxTakes = true) (hx : x = s.pathState .sideband)
include ht

theorem State.sidebandPacket_long (h : 1024 < b.length) : s.sidebandPacket q cc b = s.put K.RX_DISCARDS (min (s.reg K.RX_DISCARDS + 1) (2 ^ 32 - 1)) := by
  rw [State.sidebandPacket, if_neg (by simp [ht]), if_pos h, s.discardPacket_counts ht]

theorem State.sidebandPacket_down (h : b.length ≤ 1024) (hp : s.pathUp .sideband = false) : s.sidebandPacket q cc b = s := by
  rw [State.sidebandPacket, if_neg (by simp [ht]), if_neg (by omega), if_pos (by simp [hp])]

include hx

theorem State.sidebandPacket_queued (h : b.length ≤ 1024) (hp : s.pathUp .sideband = true) (hq : x.queue.length < 4) :
    s.sidebandPacket q cc b = s.setPath .sideband { x with queue := x.queue ++ [{ bytes := b, aux := q % 256 }] } := by
  rw [State.sidebandPacket, if_neg (by simp [ht]), if_neg (by omega), if_neg (by simp [hp])]
  dsimp only
  rw [← hx, if_neg (by omega)]

theorem State.sidebandPacket_busy (h : b.length ≤ 1024) (hp : s.pathUp .sideband = true) (hq : 4 ≤ x.queue.length) :
    s.sidebandPacket q cc b = (s.put K.SB_BUSY (min (s.reg K.SB_BUSY + 1) (2 ^ 32 - 1))).answer .sideband { bytes := b, aux := q % 256 } (headerOnly b 6) cc := by
  rw [State.sidebandPacket, if_neg (by simp [ht]), if_neg (by omega), if_neg (by simp [hp])]
  dsimp only
  rw [← hx, if_pos hq]
  rfl

end

/-! ### Packets of the streams -/

section
variable (s : State)

theorem State.decPacketReady_full (n : Nat) (hr : (s.stream n).running = true) (ht : s.streamType n = 2) (hp : 0 < decInstants (s.stream n).words.length)
    (hw : decInstants (s.stream n).words.length ≤ (s.stream n).whole) : s.decPacketReady n = s.decPacket n (decInstants (s.stream n).words.length) false := by
  have hready : s.decReady n = s.decPacket n (decInstants (s.stream n).words.length) false := by
    rw [State.decReady, if_pos (by simp [hr, ht])]
    exact if_pos ⟨hp, hw⟩
  unfold State.decPacketReady
  dsimp only
  split
  · rw [if_neg (by simp [Nat.not_lt.mpr hw]), hready]
  · exact hready

theorem State.rawReady_full (n : Nat) (hr : (s.stream n).running = true) (ht : s.streamType n = 3) (hp : (s.stream n).rawNext + 10912 ≤ 11200) :
    s.rawReady n = s.rawPacket n 10912 false := by
  have hcond : (decide (s.streamType n = 3) && (s.stream n).running && decide ((s.stream n).rawNext + (rawPerPacket : Int) ≤ 11200)) = true := by
    rw [decide_eq_true ht, hr, decide_eq_true (show (s.stream n).rawNext + (rawPerPacket : Int) ≤ 11200 from hp)]
    rfl
  rw [State.rawReady]
  exact if_pos hcond

theorem State.stream_setStream_self (n : Nat) (x : Stream) : (s.setStream n x).stream n = x := by
  rw [State.stream, State.setStream]
  exact (getD_setAt ..).trans (if_pos rfl)

theorem State.offer_room (p : Packet) (room : Nat) (h : s.buffered p.stream < room) :
    ((s.offer p room).stream p.stream).queue = (s.stream p.stream).queue ++ [p] ∧ s.keeps (s.offer p room) [] := by
  rw [State.offer, if_pos h]
  exact ⟨by rw [State.stream_setStream_self], (State.keeps.refl s _).of_objs rfl⟩

theorem State.offer_full (p : Packet) (room : Nat) (h : room ≤ s.buffered p.stream) : s.offer p room = s.dropPackets p.stream 1 := by
  rw [State.offer, if_neg (by omega)]

theorem State.dropPackets_data (n : Nat) (h : n ≠ 0) : s.dropPackets n 1
    = (s.setStream n { s.stream n with loss := true }).put (K.STREAM_DROPPED (n - 1)) (min (s.reg (K.STREAM_DROPPED (n - 1)) + 1) (2 ^ 32 - 1)) := by
  rw [State.dropPackets, if_neg (by decide)]
  exact if_neg h

theorem State.dropPackets_control : s.dropPackets 0 1 = s.setStream 0 { s.stream 0 with loss := true } := by
  rw [State.dropPackets, if_neg (by decide)]
  exact if_pos rfl

/-- A packet without a notice ends. -/
theorem State.packetSent_plain (u : State) (p : Packet) (c : List (List Symbol)) (hs : s.link.sending = some p) (hn : p.notice = none)
    (hc : c = (if s.link.suspended.isSome = true then suspending (packetColumns p.bytes) else packetColumns p.bytes))
    (hu : u = s.setLink (({ s.link with sending := none, sent := p.bytes, quiet := 0 } : Link).send (s.linesOf c))) :
    s.packetSent = if p.stream = 0 then u else u.put (K.STREAM_PKTS (p.stream - 1)) ((s.reg (K.STREAM_PKTS (p.stream - 1)) + 1) % 2 ^ 32) := by
  have hreg : u.reg (K.STREAM_PKTS (p.stream - 1)) = s.reg (K.STREAM_PKTS (p.stream - 1)) := by rw [hu]; rfl
  simp only [State.packetSent, hs, hn, ← hc, ← hu, ← hreg]
  rfl

theorem State.wake_eq : s.wake = s.setLink { s.link.send (fun p => burst p (s.reg K.MARKER_COUNT)) with idle := false } := by
  rw [State.wake, State.burstAll]
  generalize s.link.send (fun p => burst p (s.reg K.MARKER_COUNT)) = l
  rfl

theorem State.handover_none (h : s.pipe.ready.valid = false) : s.handover = s := by
  rw [State.handover]
  exact if_pos (by rw [h]; rfl)

section
variable (u : State) (hu : u = { s with pipe := { s.pipe with ready := {} } }) (hv : s.pipe.ready.valid = true)
include hu hv

theorem State.handover_points (hp : s.pipe.ready.pts = true) :
    s.handover = ((u.countRecords s.pipe.ready.recs).echoPulses s.pipe.ready.slotNo s.pipe.ready.recs).pointsPacket s.pipe.ready := by
  rw [State.handover, hv, if_neg (by decide)]
  dsimp only
  rw [if_pos hp, ← hu]

theorem State.handover_slot (hp : s.pipe.ready.pts = false) : s.handover = u := by
  rw [State.handover, hv, if_neg (by decide)]
  dsimp only
  rw [if_neg (by simp [hp]), ← hu, State.pointsPacket, hp]
  simp

end

theorem State.statusPeriod_due (stamp : Nat) (p : List Byte) (h : s.link.statusDue = some (stamp, p)) :
    s.statusPeriod.link.statusDue = none ∧ s.keeps s.statusPeriod []
    ∧ (s.statusPeriod.stream 0).queue = (s.stream 0).queue ++ [{ ty := 8, tstamp := stamp, payload := p }] := by
  simp only [State.statusPeriod, h]
  exact ⟨rfl, (State.keeps.refl s _).of_objs rfl, congrArg Stream.queue (s.stream_setStream_self 0 _)⟩

end

/-- Settles O27: a host packet by its checks, the packets of the streams by what forms, queues, drops and ends them. -/
theorem hostPacketsAndFlow : Obligations.HostPacketsAndFlow := by
  unfold Obligations.HostPacketsAndFlow
  refine ⟨⟨fun s w hc ht => ⟨fun hv h hz hm => ?_, fun hv h => ?_, fun ws h => ?_⟩, exec_streamCreditAdd, fun s b hc ht hv hl hm hz ha => ?_, fun s q cc b x hc ht hx => ?_⟩,
    fun s n hc hr ht hp hw => ?_, fun s n hc hr ht hp => ?_, fun s p room => ⟨s.offer_room p room, fun h hn => ?_, fun h hn => ?_⟩, fun s u p c hc hs hn hcol hu => ?_,
    fun s u hc hu => ?_, fun s stamp p hc h => ⟨_, exec_statusPeriodExpire s hc, s.statusPeriod_due stamp p h⟩, fun s hc hi hr hs hse hsu hn hq => ?_,
    fun s hc => ⟨fun n hi hn => ?_, fun h => ?_⟩⟩
  · rw [exec_credit s hc, s.creditPacket_one w ht hv, s.creditEntry_adds w h hz hm]
  · rw [exec_credit s hc, s.creditPacket_one w ht hv, s.creditEntry_ignored w h]
  · rw [exec_credit s hc, s.creditPacket_discarded ws ht h]
  · obtain ⟨late, htaken⟩ := s.efomReport_taken b ht hv hl hm hz ha
    obtain ⟨hreg, hrun, hkeep⟩ := s.efomEntries_effect late b (bitsSet (fieldAt b 9 2) 9) (fun i hi => ((mem_bitsSet _ _ _).mp hi).1) (List.nodup_range.filter _) _ rfl
    refine ⟨_, exec_efomReport s hc b, ?_⟩
    rw [htaken]
    exact ⟨fun i hi => by simp only [hreg, mem_bitsSet, hi, true_and], fun i hi hb => by simp only [hrun, mem_bitsSet, hi, hb, and_self, if_true], hkeep⟩
  · rw [exec_sideband s hc]
    exact ⟨fun h hp hq => by rw [s.sidebandPacket_queued q cc b x ht hx h hp hq], fun h hp hq => by rw [s.sidebandPacket_busy q cc b x ht hx h hp hq],
      fun h hp => by rw [s.sidebandPacket_down q cc b ht h hp], fun h => by rw [s.sidebandPacket_long q cc b ht h]⟩
  · rw [exec_decimatedPacketReady s hc, s.decPacketReady_full n hr ht hp hw]
  · rw [exec_rawPacketReady s hc, s.rawReady_full n hr ht hp]
  · rw [s.offer_full p room h, s.dropPackets_data _ hn]
    have hstream : ((s.setStream p.stream { s.stream p.stream with loss := true }).put (K.STREAM_DROPPED (p.stream - 1))
        (min (s.reg (K.STREAM_DROPPED (p.stream - 1)) + 1) (2 ^ 32 - 1))).stream p.stream = { s.stream p.stream with loss := true } := s.stream_setStream_self _ _
    exact ⟨by rw [hstream], by rw [hstream], State.reg_put_self _ _ _, ((State.keeps.refl s _).of_objs rfl).put _ _ (by simp)⟩
  · rw [s.offer_full p room h, hn, s.dropPackets_control, s.stream_setStream_self]
    exact ⟨rfl, (State.keeps.refl s _).of_objs rfl⟩
  · rw [exec_packetSent s hc, s.packetSent_plain u p c hs hn hcol hu]
    exact ⟨fun h => by rw [if_neg h], fun h => by rw [if_pos h]⟩
  · rw [exec_pointRecordHandover s hc]
    exact ⟨fun hv hp => by rw [s.handover_points u hu hv hp], fun hv hp => by rw [s.handover_slot u hu hv hp], fun hv => by rw [s.handover_none hv]⟩
  · rw [exec_electricalIdleEnter s hc, State.idleEnter]
    dsimp only
    rw [if_pos (by simp [State.mayIdle, hi, hr, hs, hse, hsu, hn, hq])]
  · rw [exec_electricalIdleExit s hc, State.idleExit, if_pos (by simp [hi, hn]), s.wake_eq]
  · rw [exec_electricalIdleExit s hc, State.idleExit, if_neg (by rcases h with h | h <;> simp [h])]

end Sys2Proof.Machine
end

section
/-! PROOFS. Chapter 10: markers, and lanes that retire, move and return (R250, R252, R276, R277). -/

namespace Sys2Proof.Machine

/-! ### What the lanes send -/

/-- A lane that sends takes its symbols, their code groups and the disparity after them; the link keeps the rest. -/
theorem Link.sendOn_eq (l : Link) (p : Nat) (x : List Symbol) (g : List Nat × Bool) (hg : g = codeGroups (l.txRd.getD p false != Config.pairsOdd l.sends p) x) :
    l.sendOn p x = { l with lines := setAt [] l.lines p x, codes := setAt [] l.codes p g.1, txRd := setAt false l.txRd p g.2 } := by
  subst hg
  rfl

theorem Link.sendAll_effect (x : Nat → List Symbol) (ps : List Nat) (hn : ps.Nodup) (l t : Link) (ht : t = ps.foldl (fun l p => l.sendOn p (x p)) l) :
    t = { l with lines := t.lines, codes := t.codes, txRd := t.txRd }
    ∧ ∀ p, t.lines.getD p [] = (if p ∈ ps then x p else l.lines.getD p [])
      ∧ (t.codes.getD p [], t.txRd.getD p false) = if p ∈ ps then codeGroups (l.txRd.getD p false != Config.pairsOdd l.sends p) (x p)
        else (l.codes.getD p [], l.txRd.getD p false) := by
  induction ps generalizing l with
  | nil => subst ht; exact ⟨rfl, fun p => by simp⟩
  | cons a ps ih =>
    obtain ⟨ha, hn⟩ := List.nodup_cons.mp hn
    obtain ⟨hparts, hlanes⟩ := ih hn (l.sendOn a (x a)) ht
    rw [l.sendOn_eq a (x a) _ rfl] at hparts hlanes
    refine ⟨hparts, fun p => ?_⟩
    obtain ⟨hline, hcode⟩ := hlanes p
    rw [hline, hcode]
    simp only [getD_setAt]
    by_cases hp : p = a
    · subst hp
      simp [ha]
    · simp [hp]

/-- Every lane sends its run of symbols. -/
theorem Link.send_effect (l t : Link) (x : Nat → List Symbol) (ht : t = l.send x) :
    t = { l with lines := t.lines, codes := t.codes, txRd := t.txRd, sends := l.sends + 1 }
    ∧ ∀ p, p < 9 → t.lines.getD p [] = x p ∧ (t.codes.getD p [], t.txRd.getD p false) = codeGroups (l.txRd.getD p false != Config.pairsOdd l.sends p) (x p) := by
  obtain ⟨hparts, hlanes⟩ := Link.sendAll_effect x (List.range 9) List.nodup_range l _ rfl
  rw [Link.send] at ht
  generalize (List.range 9).foldl (fun l p => l.sendOn p (x p)) l = u at ht hparts hlanes
  subst ht
  refine ⟨by rw [hparts], fun p hp => ?_⟩
  obtain ⟨hline, hcode⟩ := hlanes p
  rw [if_pos (List.mem_range.mpr hp)] at hline hcode
  exact ⟨hline, hcode⟩

/-! ### Markers -/

section
variable (s : State) (hc : s.mode.coreRuns = true)
include hc

theorem exec_markerInterval : exec .markerInterval s = .next s.markerInterval.settle := by
  calc exec .markerInterval s = .next (s.core State.markerInterval).settle := rfl
    _ = _ := by rw [s.core_on _ hc]

theorem exec_laneMove : exec .laneMove s = .next s.laneMove.settle := by
  calc exec .laneMove s = .next (s.core State.laneMove).settle := rfl
    _ = _ := by rw [s.core_on _ hc]

theorem exec_laneReturnAnnounce : exec .laneReturnAnnounce s = .next s.returnAnnounce.settle := by
  calc exec .laneReturnAnnounce s = .next (s.core State.returnAnnounce).settle := rfl
    _ = _ := by rw [s.core_on _ hc]

end

section
variable (s : State)

theorem State.markerInterval_idle (hl : s.lanesOn = true) (hi : s.link.idle = true) : s.markerInterval = s.put K.MARKER_COUNT ((s.reg K.MARKER_COUNT + 1) % 2 ^ 16) := by
  simp only [State.markerInterval, hl, hi, if_true]
  rfl

/-- The link as its marker begins: the bit slips that wait are made. -/
def State.slipped : Link := { s.link with
  tuneIv := if s.reg K.STR_STATE = 4 then s.link.tuneIv + 1 else s.link.tuneIv
  rejoin := s.link.rejoin.map fun r => (r.1, r.2 + 1)
  txSlip := s.link.txSlip.mapIdx fun i n => if bitAt s.link.txSlipDue i then (n + 1) % 10 else n
  txSlipDue := 0 }

theorem State.markerInterval_sends (hl : s.lanesOn = true) (hi : s.link.idle = false) : s.markerInterval
    = (s.put K.MARKER_COUNT ((s.reg K.MARKER_COUNT + 1) % 2 ^ 16)).setLink (s.slipped.send fun p => markerSymbols p ((s.reg K.MARKER_COUNT + 1) % 2 ^ 16)) := by
  rw [State.markerInterval, if_pos hl]
  dsimp only
  rw [if_neg (by simp [hi])]
  rfl

theorem State.slipped_lane (i : Nat) (hi : i < s.link.txSlip.length) :
    s.slipped.txSlip.getD i 0 = (if bitAt s.link.txSlipDue i = true then (s.link.txSlip.getD i 0 + 1) % 10 else s.link.txSlip.getD i 0) := by
  simp [State.slipped, List.getD_eq_getElem?_getD, hi]

end

/-! ### Host writes -/

theorem objRow_txBitslip : ∀ i : Fin 9, ∃ r, objRow? (K.TX_BITSLIP i) = some r ∧ (r.acc == .rws) = false := fun i => by
  obtain ⟨r, hr⟩ := Option.isSome_iff_exists.mp ((show ∀ i : Fin 9, (objRow? (K.TX_BITSLIP i)).isSome = true by decide) i)
  exact ⟨r, hr, by have := (show ∀ i : Fin 9, (objRow? (K.TX_BITSLIP i)).any (fun r => r.acc == .rws) = false by decide) i; rwa [hr] at this⟩

theorem exec_txBitslip (s : State) (i : Fin 9) (a : HostAt) (h : s.accepts (K.TX_BITSLIP i) (a.write 1 1) = true) :
    exec (.txBitslip i a) s = .next (noteResult a.path (0, s.setLink { s.link with txSlipDue := withBit s.link.txSlipDue i true })).settle := by
  obtain ⟨r, hr, hs⟩ := objRow_txBitslip i
  have hwrite : ∀ p cc ecc, s.writeReg p (K.TX_BITSLIP i) 1 cc ecc = (0, s.setLink { s.link with txSlipDue := withBit s.link.txSlipDue i true }) := by
    fin_cases i <;> exact fun _ _ _ => rfl
  calc exec (.txBitslip i a) s = .next (s.hostWrite (K.TX_BITSLIP i) (a.write 1 1)).settle := rfl
    _ = _ := by rw [s.hostWrite_accepted _ _ r hr hs h, a.write_value 1 (by decide), hwrite]; rfl

theorem objRow_laneRetire : ∃ r, objRow? K.LANE_RETIRE = some r ∧ (r.acc == .rws) = false := by
  obtain ⟨r, hr⟩ := Option.isSome_iff_exists.mp (show (objRow? K.LANE_RETIRE).isSome = true by decide)
  exact ⟨r, hr, by have := (show (objRow? K.LANE_RETIRE).any (fun r => r.acc == .rws) = false by decide); rwa [hr] at this⟩

theorem objRow_laneReturn : ∃ r, objRow? K.LANE_RETURN = some r ∧ (r.acc == .rws) = false := by
  obtain ⟨r, hr⟩ := Option.isSome_iff_exists.mp (show (objRow? K.LANE_RETURN).isSome = true by decide)
  exact ⟨r, hr, by have := (show (objRow? K.LANE_RETURN).any (fun r => r.acc == .rws) = false by decide); rwa [hr] at this⟩

theorem exec_laneRetire (s : State) (w : HostWrite) (h : s.accepts K.LANE_RETIRE w = true) :
    exec (.laneRetire w) s = .next (noteResult w.path (0, s.laneRetire (ofLe w.data))).settle := by
  obtain ⟨r, hr, hs⟩ := objRow_laneRetire
  calc exec (.laneRetire w) s = .next (s.hostWrite K.LANE_RETIRE w).settle := rfl
    _ = _ := by rw [s.hostWrite_accepted _ w r hr hs h]; rfl

theorem exec_laneReturn (s : State) (w : HostWrite) (h : s.accepts K.LANE_RETURN w = true) :
    exec (.laneReturn w) s = .next (noteResult w.path (0, s.laneReturn (ofLe w.data))).settle := by
  obtain ⟨r, hr, hs⟩ := objRow_laneReturn
  calc exec (.laneReturn w) s = .next (s.hostWrite K.LANE_RETURN w).settle := rfl
    _ = _ := by rw [s.hostWrite_accepted _ w r hr hs h]; rfl

/-! ### A lane retires -/

section
variable (s : State) (b p : Nat)

/-- The link with a lane out of service. -/
def State.laneOut : State :=
  s.setLink { s.link with retired := withBit s.link.retired p true, passed := withBit s.link.passed p false, lowRun := setAt 0 s.link.lowRun p 0 }

theorem State.laneRetire_spares (hb : b < 8) (hp : p = s.reg (K.LANE_MAP b)) (hr : bitAt s.link.retired p = false) (hf : s.spareFree = true) (h8 : p ≠ 8) :
    s.laneRetire b = (s.laneOut p).laneShift b p 8 := by
  subst hp
  rw [State.laneRetire, if_neg (by omega)]
  dsimp only
  rw [if_neg (by simp [hr]), if_pos (by simp [hf, h8])]
  rfl

theorem State.laneRetire_faults (hb : b < 8) (hp : p = s.reg (K.LANE_MAP b)) (hr : bitAt s.link.retired p = false) (hf : s.spareFree = false ∨ p = 8) :
    s.laneRetire b = (s.laneOut p).linkFault 2 := by
  subst hp
  rw [State.laneRetire, if_neg (by omega)]
  dsimp only
  rw [if_neg (by simp [hr]), if_neg (by rcases hf with h | h <;> simp [h])]
  rfl

theorem State.notices_iff : s.notices = true ↔ s.reg K.LINK_VER = 2 ∧ s.lanesOn = true := by simp [State.notices]

theorem State.laneShift_noticed (old new : Nat) (h : s.notices = true) : s.laneShift b old new = s.controlNow 11 (List.replicate 8 0) (some (b, old, new)) := if_pos h

/-- A notice that is formed waits as a control packet. -/
theorem State.controlNow_queued (ty : Nat) (d : List Byte) (n : Option (Nat × Nat × Nat)) :
    ∃ cc, cc < 2800 ∧ ((s.controlNow ty d n).stream 0).queue = (s.stream 0).queue ++ [{ ty := ty, tstamp := s.stampCc cc, payload := d, notice := n }] :=
  ⟨Config.freeNat s.free % 2800, Nat.mod_lt _ (by decide), congrArg Stream.queue (State.stream_setStream_self _ 0 _)⟩

theorem State.laneTo_spare : s.laneTo b 8 = (s.put (K.LANE_MAP b) 8).count K.TAKEOVERS := rfl

/-- The spare takes a logical lane's duty, which counts. -/
theorem State.laneTo_spare_regs (hb : b < 8) : (s.laneTo b 8).reg (K.LANE_MAP b) = 8 ∧ (s.laneTo b 8).reg K.TAKEOVERS = min (s.reg K.TAKEOVERS + 1) (2 ^ 32 - 1)
    ∧ s.keeps (s.laneTo b 8) [K.LANE_MAP b, K.TAKEOVERS] := by
  have hne : K.LANE_MAP b ≠ K.TAKEOVERS := by simp only [K.LANE_MAP, K.TAKEOVERS]; omega
  rw [s.laneTo_spare]
  refine ⟨?_, ?_, ((State.keeps.refl s _).put _ _ (by simp)).put _ _ (by simp)⟩
  · rw [State.count, State.reg_put_ne _ _ _ _ hne, State.reg_put_self]
  · rw [State.count, State.reg_put_self, State.reg_put_ne _ _ _ _ hne.symm]
    rfl

end

/-! ### The link goes down without a move due -/

section
variable (s : State)

theorem State.movesNow_quiet (h : s.movesDue = []) : s.movesNow = s.setLink { s.link with move := none, rejoin := none, announced := false, rxMove := none } := by
  rw [State.movesNow, h]
  rfl

/-- One stream's packets and assembly are lost. -/
def State.flushStream (n : Nat) : State := (s.dropPackets n (s.buffered n)).setStream n { s.stream n with
  queue := [], running := false, insts := [], words := [], outStep := false }

theorem State.dropPackets_link (n k m : Nat) : (s.dropPackets n k).link = { s.link with streams := (s.dropPackets n k).link.streams }
    ∧ (m ≠ n → (s.dropPackets n k).stream m = s.stream m) := by
  have hset : m ≠ n → (s.setStream n { s.stream n with loss := true }).stream m = s.stream m := fun hm => (getD_setAt ..).trans (if_neg hm)
  unfold State.dropPackets
  dsimp only
  split_ifs
  · exact ⟨rfl, fun _ => rfl⟩
  · exact ⟨rfl, hset⟩
  · exact ⟨rfl, hset⟩

theorem State.flushStream_link (n m : Nat) : (s.flushStream n).link = { s.link with streams := (s.flushStream n).link.streams }
    ∧ (m ≠ n → (s.flushStream n).stream m = s.stream m) ∧ ((s.flushStream n).stream n).queue = [] := by
  obtain ⟨hlink, hstream⟩ := s.dropPackets_link n (s.buffered n) m
  refine ⟨?_, fun hm => ((getD_setAt ..).trans (if_neg hm)).trans (hstream hm), congrArg Stream.queue (State.stream_setStream_self _ _ _)⟩
  calc (s.flushStream n).link = { (s.dropPackets n (s.buffered n)).link with streams := (s.flushStream n).link.streams } := rfl
    _ = _ := by rw [hlink]

/-- Packets that wait for the lanes, or are on them, are gone; what the lanes are retired, and the moves, stay. -/
theorem State.flushStreams_link : (s.flushStreams.stream 0).queue = [] ∧ s.flushStreams.link.sending = none ∧ s.flushStreams.link.suspended = none
    ∧ s.flushStreams.link.move = s.link.move ∧ s.flushStreams.link.retired = s.link.retired := by
  obtain ⟨u, -, hlater⟩ := State.forRange_turn (fun u t => (t.stream 0).queue = (u.stream 0).queue) (fun _ => rfl) (fun h h' => h'.trans h) State.flushStream 16 0 (by decide)
    (fun u a _ ha => congrArg Stream.queue ((u.flushStream_link a 0).2.1 (Ne.symm ha))) s
  have hkept := State.forRange_rel (fun u t => t.link.move = u.link.move ∧ t.link.retired = u.link.retired) (fun _ => ⟨rfl, rfl⟩)
    (fun h h' => ⟨h'.1.trans h.1, h'.2.trans h.2⟩) State.flushStream 16 (fun u a _ => ⟨(congrArg Link.move (u.flushStream_link a a).1 :), (congrArg Link.retired (u.flushStream_link a a).1 :)⟩) s
  unfold State.flushStreams
  extract_lets t
  have ht : t = s.forRange 16 State.flushStream := rfl
  clear_value t
  rw [← ht] at hlater hkept
  exact ⟨hlater.trans (u.flushStream_link 0 0).2.2, rfl, rfl, hkept⟩

/-- The registers that a link which goes down with its lanes on changes when no move is due. -/
def quietKeys : List Nat := [K.STR_STATE, K.STR_FAULT] ++ (List.range 15).map K.CREDIT ++ (List.range 15).map K.STREAM_STATE ++ (List.range 16).map (ofStream K.STREAM_DROPPED)

theorem State.dropPackets_quietKeeps (n k : Nat) (hn : n < 16) : s.keeps (s.dropPackets n k) quietKeys := by
  have hkey : ofStream K.STREAM_DROPPED n ∈ quietKeys := by simp [quietKeys, mem_map_range (f := ofStream K.STREAM_DROPPED) hn]
  unfold State.dropPackets
  dsimp only
  split_ifs
  · exact .refl s _
  · exact (State.keeps.refl s _).of_objs rfl
  · exact ((State.keeps.refl s _).of_objs rfl).put _ _ hkey

theorem State.flushStreams_quietKeeps : s.keeps s.flushStreams quietKeys := by
  unfold State.flushStreams State.forRange
  refine .of_objs ((State.keeps.refl s _).foldl _ (List.range 16) fun x n hn => ?_) (State.setLink_objs ..)
  exact (x.dropPackets_quietKeeps n (x.buffered n) (List.mem_range.mp hn)).of_objs (State.setLink_objs ..)

theorem State.movesDue_none (hq : (s.stream 0).queue = []) (hs : s.link.sending = none) (hu : s.link.suspended = none) (hm : s.link.move = none) : s.movesDue = [] := by
  simp [State.movesDue, hq, hs, hu, hm]

/-- Without a move due the link goes down with its lanes and what is retired as they are, and leaves none due. -/
theorem State.linkDown_quiet (st fault : Nat) (h : s.movesDue = []) (hst : st ≠ 0) (hf : fault ≠ 3) :
    (s.linkDown st fault).movesDue = [] ∧ (s.linkDown st fault).link.retired = s.link.retired ∧ s.keeps (s.linkDown st fault) quietKeys := by
  have hstreams : ∀ i < 15, K.CREDIT i ∈ quietKeys ∧ K.STREAM_STATE i ∈ quietKeys := fun i hi => by
    simp [quietKeys, mem_map_range (f := K.CREDIT) hi, mem_map_range (f := K.STREAM_STATE) hi]
  have hputs : ∀ (f : Nat → Nat) (u : State), ((List.range 15).foldl (fun s i => s.put (f i) 0) u).link = u.link := fun f u =>
    foldl_rel (fun u t : State => t.link = u.link) (fun _ => rfl) (fun h h' => h'.trans h) (fun s i => s.put (f i) 0) _ (fun _ _ _ => rfl) u
  unfold State.linkDown
  extract_lets moved _ _ quiet credit flushed cleared aligned versioned
  have hmoved : moved = s.setLink { s.link with move := none, rejoin := none, announced := false, rxMove := none } := s.movesNow_quiet h
  clear_value moved
  have hquiet : quiet.link.move = none ∧ quiet.link.retired = s.link.retired ∧ s.keeps quiet quietKeys := by
    have hlink : quiet.link = { moved.link with host := {} } := rfl
    have hobjs : quiet.objs = moved.objs := rfl
    rw [hlink, hmoved]
    exact ⟨rfl, rfl, (State.keeps.refl s _).of_objs (hobjs.trans (by rw [hmoved]; rfl))⟩
  have hcredit : credit.link = quiet.link ∧ quiet.keeps credit quietKeys := by
    rcases ite_eq_or_eq (quiet.reg K.STR_STATE = 5) ((List.range 15).foldl (fun s i => s.put (K.CREDIT i) 0) quiet) quiet with he | he
    · rw [show credit = (List.range 15).foldl (fun s i => s.put (K.CREDIT i) 0) quiet from he]
      exact ⟨hputs K.CREDIT quiet, (State.keeps.refl quiet _).clearStreams K.CREDIT fun i hi => (hstreams i hi).1⟩
    · rw [show credit = quiet from he]
      exact ⟨rfl, .refl quiet _⟩
  obtain ⟨hqueue, hsending, hsuspended, hmove, hretired⟩ := credit.flushStreams_link
  obtain ⟨hqmove, hqretired, hqkeeps⟩ := hquiet
  have haligned : aligned = cleared := if_neg (by simp [hst, hf])
  have hversioned : versioned = cleared := (if_neg hst).trans haligned
  have hlink : ((versioned.put K.STR_STATE st).put K.STR_FAULT fault).link = flushed.link := by
    calc ((versioned.put K.STR_STATE st).put K.STR_FAULT fault).link = versioned.link := rfl
      _ = cleared.link := by rw [hversioned]
      _ = flushed.link := hputs K.STREAM_STATE flushed
  have hkeeps : s.keeps cleared quietKeys := ((hqkeeps.trans hcredit.2).trans credit.flushStreams_quietKeeps).clearStreams K.STREAM_STATE fun i hi => (hstreams i hi).2
  refine ⟨?_, ?_, ?_⟩
  · refine State.movesDue_none _ ?_ ?_ ?_ ?_
    · rw [State.stream, hlink]
      exact hqueue
    · rw [hlink]
      exact hsending
    · rw [hlink]
      exact hsuspended
    · rw [hlink]
      exact hmove.trans ((congrArg Link.move hcredit.1).trans hqmove)
  · rw [hlink, show flushed.link.retired = credit.link.retired from hretired, hcredit.1, hqretired]
  · rw [hversioned]
    exact (hkeeps.put K.STR_STATE st (by decide)).put K.STR_FAULT fault (by decide)

/-- TRAINING that begins without a move due keeps what is retired and the lanes. -/
theorem State.trainStart_quiet (h : s.movesDue = []) : s.trainStart.link.retired = s.link.retired
    ∧ s.keeps s.trainStart ([K.STR_STATE, K.STR_FAULT, K.LINK_VER, K.PKT_VER, K.STR_NEG, K.HOST_CAPS] ++ (List.range 9).map K.TX_PRESET_USE) := by
  have hdropped : s.movesNow.noticesDrop.link.retired = s.link.retired ∧ s.movesNow.noticesDrop.objs = s.objs := by
    rw [s.movesNow_quiet h]
    exact ⟨rfl, rfl⟩
  have hputs : ∀ u : State, ((List.range 9).foldl (fun s i => s.put (K.TX_PRESET_USE i) (s.reg (K.TX_PRESET i))) u).link = u.link := fun u =>
    foldl_rel (fun u t : State => t.link = u.link) (fun _ => rfl) (fun h h' => h'.trans h) (fun s i => s.put (K.TX_PRESET_USE i) (s.reg (K.TX_PRESET i))) _
      (fun _ _ _ => rfl) u
  unfold State.trainStart
  extract_lets dropped src streamed presets
  have hstreamed : s.keeps streamed ([K.STR_STATE, K.STR_FAULT, K.LINK_VER, K.PKT_VER, K.STR_NEG, K.HOST_CAPS] ++ (List.range 9).map K.TX_PRESET_USE) :=
    (State.keeps.refl s _).of_objs hdropped.2
  have hpresets := hstreamed.foldl (fun s i => s.put (K.TX_PRESET_USE i) (s.reg (K.TX_PRESET i))) (List.range 9) fun x i hi =>
    (State.keeps.refl x _).put _ _ (List.mem_append_right _ (List.mem_map.mpr ⟨i, hi, rfl⟩))
  refine ⟨?_, (((((hpresets.put K.STR_STATE 1 (by decide)).put K.STR_FAULT 0 (by decide)).put K.LINK_VER 0 (by decide)).put K.PKT_VER 0 (by decide)).put K.STR_NEG 0
    (by decide)).put K.HOST_CAPS 0 (by decide)⟩
  calc presets.link.retired = streamed.link.retired := congrArg Link.retired (hputs streamed)
    _ = s.link.retired := hdropped.1

/-! ### The cases of a retirement -/

/-- What a lane that goes out of service leaves of the moves due and of the registers. -/
theorem State.laneOut_movesDue (p : Nat) : (s.laneOut p).movesDue = s.movesDue := rfl

theorem State.laneShift_restarts (u : State) (b old : Nat) (hb : b < 8) (hn : u.notices = false) (h5 : u.reg K.STR_STATE = 5) (hm : u.movesDue = []) :
    (u.laneShift b old 8).link.retired = u.link.retired ∧ (u.laneShift b old 8).reg (K.LANE_MAP b) = 8
    ∧ (u.laneShift b old 8).reg K.TAKEOVERS = min (u.reg K.TAKEOVERS + 1) (2 ^ 32 - 1) ∧ (u.laneShift b old 8).reg K.STR_STATE = 1 := by
  obtain ⟨hlane, htake, hkeep⟩ := u.laneTo_spare_regs b hb
  have hstate : (u.laneTo b 8).reg K.STR_STATE = 5 := by
    rw [hkeep _ (by simp only [List.mem_cons, List.not_mem_nil, or_false, K.STR_STATE, K.LANE_MAP, K.TAKEOVERS]; omega), h5]
  have hshift : u.laneShift b old 8 = ((u.laneTo b 8).linkDown 1 0).trainStart := by
    rw [State.laneShift, if_neg (by simp [hn])]
    exact if_pos hstate
  obtain ⟨hdue, hretired, hdown⟩ := (u.laneTo b 8).linkDown_quiet 1 0 hm (by decide) (by decide)
  obtain ⟨htretired, htrain⟩ := ((u.laneTo b 8).linkDown 1 0).trainStart_quiet hdue
  have hout : ∀ k ∈ [K.LANE_MAP b, K.TAKEOVERS], k ∉ quietKeys ∧ k ∉ [K.STR_STATE, K.STR_FAULT, K.LINK_VER, K.PKT_VER, K.STR_NEG, K.HOST_CAPS] ++ (List.range 9).map K.TX_PRESET_USE := by
    interval_cases b <;> decide
  obtain ⟨hq1, ht1⟩ := hout (K.LANE_MAP b) (by simp)
  obtain ⟨hq2, ht2⟩ := hout K.TAKEOVERS (by simp)
  rw [hshift]
  exact ⟨htretired.trans hretired, (htrain _ ht1).trans ((hdown _ hq1).trans hlane), (htrain _ ht2).trans ((hdown _ hq2).trans htake), (State.trainStart_state _).1⟩

theorem State.laneShift_moves (u : State) (b old : Nat) (hb : b < 8) (hn : u.notices = false) (h5 : u.reg K.STR_STATE ≠ 5) : u.laneShift b old 8 = u.laneTo b 8 := by
  obtain ⟨-, -, hkeep⟩ := u.laneTo_spare_regs b hb
  have hstate : (u.laneTo b 8).reg K.STR_STATE ≠ 5 := by
    rwa [hkeep _ (by simp only [List.mem_cons, List.not_mem_nil, or_false, K.STR_STATE, K.LANE_MAP, K.TAKEOVERS]; omega)]
  rw [State.laneShift, if_neg (by simp [hn])]
  exact if_neg hstate

/-! ### The end of a notice, the move and the return -/

/-- The link as a packet with a notice of the move `mv` has ended, of which `d` were the bytes. -/
def State.noticed (d : List Byte) (mv : Nat × Nat × Nat) : Link := { s.link with sending := none, sent := d, quiet := 0, move := some mv }

/-- The notice takes the count of the second marker after its end. -/
theorem State.packetSent_notice (p : Packet) (a b c m : Nat) (hs : s.link.sending = some p) (hn : p.notice = some (a, b, c)) (h0 : p.stream = 0)
    (hm : m = (s.reg K.MARKER_COUNT + 2) % 2 ^ 16) : s.packetSent.link.move = some (a, c, m) ∧ s.packetSent.link.sending = none ∧ s.keeps s.packetSent []
    ∧ s.packetSent.link.sent = ({ p with payload := leBytes 8 (a + b * 2 ^ 8 + c * 2 ^ 16 + m * 2 ^ 32) } : Packet).bytes := by
  have hcount : addWrap 16 (s.reg K.MARKER_COUNT) 2 = m := hm.symm
  obtain ⟨x, hx⟩ : ∃ x, s.packetSent
      = s.setLink ((s.noticed ({ p with payload := leBytes 8 (a + b * 2 ^ 8 + c * 2 ^ 16 + m * 2 ^ 32) } : Packet).bytes (a, c, m)).send x) := by
    simp only [State.packetSent, hs, hn, hcount]
    exact ⟨_, if_pos h0⟩
  obtain ⟨hparts, -⟩ := Link.send_effect _ _ x rfl
  rw [hx]
  generalize (s.noticed ({ p with payload := leBytes 8 (a + b * 2 ^ 8 + c * 2 ^ 16 + m * 2 ^ 32) } : Packet).bytes (a, c, m)).send x = l at hparts
  exact ⟨(congrArg Link.move hparts :), (congrArg Link.sending hparts :), (State.keeps.refl s _).of_objs rfl, (congrArg Link.sent hparts :)⟩

theorem State.laneMove_waits (b new m : Nat) (h : s.link.move = some (b, new, m)) (hw : 32768 ≤ (s.reg K.MARKER_COUNT + (65536 - m)) % 65536) : s.laneMove = s := by
  simp only [State.laneMove, h]
  exact if_neg (not_lt.mpr hw)

theorem State.laneMove_moves (b new m : Nat) (h : s.link.move = some (b, new, m)) (hw : (s.reg K.MARKER_COUNT + (65536 - m)) % 65536 < 32768) :
    s.laneMove = (s.laneOn (b, new)).setLink { (s.laneOn (b, new)).link with move := none } := by
  simp only [State.laneMove, h]
  exact if_pos hw

theorem State.laneOn_mapped (b new : Nat) (hb : b < 8) (v : State) (hv : v = s.laneTo b new) :
    (s.link.rejoin = none → s.laneOn (b, new) = v.setLink s.link)
    ∧ ∀ n, s.link.rejoin = some (new, n) → s.laneOn (b, new) = v.setLink { s.link with rejoin := none, announced := false, retired := withBit s.link.retired new false } := by
  have hto : (s.onlyIf (decide ((b, new).1 < 8)) fun s => s.laneTo (b, new).1 (b, new).2) = v := by rw [hv, decide_eq_true hb]; rfl
  refine ⟨fun hr => ?_, fun n hr => ?_⟩
  · have hback : (s.link.rejoin.any fun r => r.1 == (b, new).2) = false := by rw [hr]; rfl
    rw [State.laneOn, hto]
    dsimp only at hback ⊢
    rw [hback]
    simp only [Bool.false_eq_true, if_false, Bool.not_false, Bool.and_true]
  · rw [State.laneOn, hto, hr]
    simp

theorem State.laneReturn_sends (p : Nat) (hp : p < 8) (hm : s.reg (K.LANE_MAP p) = 8) (hr : bitAt s.link.retired p = true) (hpass : bitAt s.link.passed p = true)
    (hj : s.link.rejoin = none) (hf : s.fuseRetired (0x60000 + p) = false) : s.laneReturn p = s.setLink
      (({ s.link with rejoin := some (p, 0), announced := false, sends := s.link.sends + 1 } : Link).sendOn p (burst p (s.reg K.MARKER_COUNT))) := by
  rw [State.laneReturn, if_pos (by simp [hp, hm, hr, hpass, hj, hf])]

theorem State.laneReturn_fused (p : Nat) (hf : s.fuseRetired (0x60000 + p) = true) : s.laneReturn p = s := by
  rw [State.laneReturn, if_neg (by simp [hf])]

theorem State.returnAnnounce_notice (p n : Nat) (hj : s.link.rejoin = some (p, n)) (hn : 16 ≤ n) (ha : s.link.announced = false) (h5 : s.reg K.STR_STATE = 5)
    (hv : s.reg K.LINK_VER = 2) : s.returnAnnounce = (s.setLink { s.link with announced := true }).controlNow 11 (List.replicate 8 0) (some (p, 8, p)) := by
  have hnotices : s.notices = true := s.notices_iff.mpr ⟨hv, by simp [State.lanesOn, h5]⟩
  simp only [State.returnAnnounce, hj]
  rw [if_neg (by simp [ha, hn]), if_neg (by simp [h5]), if_pos hnotices]
  exact State.laneShift_noticed _ p 8 p hnotices

end

/-- Settles O28: markers by what the lanes send, the retirement, the move and the return of a lane by their cases. -/
theorem laneSparing : Obligations.LaneSparing := by
  unfold Obligations.LaneSparing
  refine ⟨fun s hc hl hi => ?_, fun s hc hl hi => ?_, exec_txBitslip, fun s w b p ha hw hb hp hr => ?_, fun s p a b c m hc hs hn h0 hm => ?_, fun s u v b new m hc hm hb _ hu hv => ⟨fun hw => ?_, fun hw => ?_⟩,
    fun s w p ha hw hp hm hr hpass hj => ?_, fun s p n hc hj hn ha h5 hv => ?_⟩
  · rw [exec_markerInterval s hc, s.markerInterval_idle hl hi]
  · obtain ⟨hparts, hlanes⟩ := Link.send_effect s.slipped _ (fun p => markerSymbols p ((s.reg K.MARKER_COUNT + 1) % 2 ^ 16)) rfl
    refine ⟨_, exec_markerInterval s hc, ?_⟩
    rw [s.markerInterval_sends hl hi]
    generalize (s.slipped.send fun p => markerSymbols p ((s.reg K.MARKER_COUNT + 1) % 2 ^ 16)) = l at hparts hlanes
    exact ⟨State.reg_put_self _ _ _, (congrArg Link.txSlipDue hparts :), fun i hlen => by rw [← s.slipped_lane i hlen]; exact (congrArg (fun l : Link => l.txSlip.getD i 0) hparts :),
      hlanes, ((State.keeps.refl s _).put _ _ (by simp)).of_objs rfl⟩
  · subst hw
    rw [exec_laneRetire s w ha]
    have hreg : ∀ k, (s.laneOut p).reg k = s.reg k := fun _ => rfl
    refine ⟨fun hf h8 hl hv => ?_, fun hf h8 h5 hv hm => ?_, fun hf h8 h5 hv => ?_, fun hf h5 hm => ?_⟩
    · rw [s.laneRetire_spares _ p hb hp hr hf h8, State.laneShift_noticed (s.laneOut p) (ofLe w.data) p 8 ((State.notices_iff _).mpr ⟨hv, hl⟩)]
      exact ⟨_, rfl, rfl, (State.keeps.refl s _).of_objs rfl, State.controlNow_queued (s.laneOut p) 11 _ _⟩
    · rw [s.laneRetire_spares _ p hb hp hr hf h8]
      obtain ⟨hret, hlane, htake, hstate⟩ := State.laneShift_restarts (s.laneOut p) _ p hb (by simp [State.notices, hreg, hv]) h5 hm
      exact ⟨_, rfl, hret, hlane, htake, hstate⟩
    · have hn : (s.laneOut p).notices = false := by
        rcases hv with hv | hv
        · rw [State.notices, show (s.laneOut p).lanesOn = false from hv, Bool.and_false]
        · simp [State.notices, hreg, hv]
      obtain ⟨hlane, htake, hkeep⟩ := (s.laneOut p).laneTo_spare_regs _ hb
      rw [s.laneRetire_spares _ p hb hp hr hf h8, State.laneShift_moves _ _ p hb hn h5]
      exact ⟨_, rfl, rfl, hlane, htake, hkeep⟩
    · obtain ⟨-, hret, -⟩ := (s.laneOut p).linkDown_quiet 6 2 hm (by decide) (by decide)
      have hfault : (s.laneOut p).linkFault 2 = (s.laneOut p).linkDown 6 2 := by
        rw [State.linkFault, if_neg (by decide)]
        exact if_pos h5
      rw [s.laneRetire_faults _ p hb hp hr hf, hfault]
      exact ⟨_, rfl, hret, State.linkDown_shows _ 6 2⟩
  · exact ⟨_, exec_packetSent s hc, s.packetSent_notice p a b c m hs hn h0 hm⟩
  · have hto : v = s.laneTo b new := by rw [hv, hu]; rfl
    obtain ⟨hnone, hsome⟩ := s.laneOn_mapped b new hb v hto
    rw [exec_laneMove s hc, s.laneMove_moves b new m hm hw]
    exact ⟨fun hr => by rw [hnone hr]; rfl, fun n hr => by rw [hsome n hr]; rfl⟩
  · rw [exec_laneMove s hc, s.laneMove_waits b new m hm hw]
  · subst hw
    rw [exec_laneReturn s w ha]
    exact ⟨fun hf => by rw [s.laneReturn_sends _ hp hm hr hpass hj hf], fun hf => by rw [s.laneReturn_fused _ hf]⟩
  · refine ⟨_, exec_laneReturnAnnounce s hc, ?_⟩
    rw [s.returnAnnounce_notice p n hj hn ha h5 hv]
    exact ⟨rfl, (State.keeps.refl s _).of_objs rfl, State.controlNow_queued (s.setLink { s.link with announced := true }) 11 _ _⟩

end Sys2Proof.Machine
end

section
/-! PROOFS. Chapter 11: writes of registers, and the check of a commit. -/

namespace Sys2Proof.Machine

/-! ### Writes of a register (R281, R282, R285, R390) -/

section
variable (s : State) (k : Fin 16777216) (w : HostWrite)

theorem exec_objectWrite (h : s.answers = true) : exec (.objectWrite k w) s = .next (noteResult w.path (s.regWrite k w)).settle := by
  calc exec (.objectWrite k w) s = .next (s.hostWrite k w).settle := rfl
    _ = _ := by rw [State.hostWrite, if_pos h]

theorem exec_objectWrite_silent (h : s.answers = false) : exec (.objectWrite k w) s = .next s.settle := by
  calc exec (.objectWrite k w) s = .next (s.hostWrite k w).settle := rfl
    _ = _ := by rw [State.hostWrite, if_neg (by rw [h]; exact Bool.false_ne_true)]

end

section
variable {s : State} {k : Nat} {w : HostWrite} {r : ObjRow}

theorem State.find_unserved {p : Path} (hv : s.serves p k = false) : s.find p k = .error 9 := by simp [State.find, hv]

theorem State.find_absent {p : Path} (hv : s.serves p k = true) (hr : objRow? k = none) : s.find p k = .error 1 := by simp [State.find, hv, hr]

theorem State.find_row {p : Path} (hv : s.serves p k = true) (hr : objRow? k = some r) : s.find p k = .ok r := by simp [State.find, hv, hr]

theorem State.regWrite_error {e : Nat} (h : s.find w.path k = .error e) : s.regWrite k w = (e, s) := by rw [State.regWrite, h]

theorem State.regWrite_domain (h : s.find w.path k = .ok r) (hd : r.isDomain = true) : s.regWrite k w = (2, s) := by
  rw [State.regWrite, h]
  simp only [State.writeFound, if_pos hd]

/-- The first check that a write fails is its result, and nothing changes. -/
theorem State.regWrite_refused {f : Nat} (h : s.find w.path k = .ok r) (hd : r.isDomain = false) (hf : s.writeRefusal s.mode r k w.data = f) (hn : f ≠ 0) :
    s.regWrite k w = (f, s) := by
  rw [State.regWrite, h]
  simp only [State.writeFound, hd, hf, if_pos hn]
  rfl

theorem State.regWrite_shadow (h : s.find w.path k = .ok r) (hd : r.isDomain = false) (hf : s.writeRefusal s.mode r k w.data = 0) (hc : r.acc = .rwc) :
    s.regWrite k w = (0, s.shadowPut k (ofLe w.data)) := by
  rw [State.regWrite, h]
  simp only [State.writeFound, hd, hf, hc]
  rfl

theorem State.regWrite_effect (h : s.find w.path k = .ok r) (hd : r.isDomain = false) (hf : s.writeRefusal s.mode r k w.data = 0) (hc : r.acc ≠ .rwc) :
    s.regWrite k w = (if r.acc = .rws then s.keepForce k else s).writeReg w.path.num k (ofLe w.data) w.cc w.ecc := by
  have hrwc : (r.acc == .rwc) = false := by simpa using hc
  rw [State.regWrite, h]
  simp only [State.writeFound, hd, hf, hrwc, State.onlyIf, beq_iff_eq]
  rfl

variable {m : Mode} {data : List Byte}

theorem State.writeRefusal_access (h : r.acc = .ro ∨ r.acc = .rwa) : s.writeRefusal m r k data = 2 := by
  rcases h with h | h <;> simp [State.writeRefusal, h]

theorem State.writeRefusal_seal (h : r.acc = .rws) (hb : s.sealed.blown = true) : s.writeRefusal m r k data = 7 := by simp [State.writeRefusal, h, hb]

/-- The checks of a register without a shadow that the host may write: length, range and mode. -/
theorem State.writeRefusal_direct (h : r.acc = .rw ∨ r.acc = .wo ∨ r.acc = .rws ∧ s.sealed.blown = false) :
    s.writeRefusal m r k data = if data.length ≠ r.size then 3 else if !s.valueOk r k (ofLe data) then 4 else if !r.modes.holds m then 5 else 0 := by
  rcases h with h | h | ⟨h, hb⟩
  · simp [State.writeRefusal, h]
  · simp [State.writeRefusal, h]
  · simp [State.writeRefusal, h, hb]

/-- The checks of a register with a shadow: length, mode and a commit in progress; its range is the commit's to check. -/
theorem State.writeRefusal_shadow (h : r.acc = .rwc) :
    s.writeRefusal m r k data = if data.length ≠ r.size then 3 else if !r.modes.holds m then 5 else if s.groupHeld r.group then 6 else 0 := by
  simp [State.writeRefusal, h]

/-- A shadow holds what was written, or is not listed where that is the value in force. -/
theorem State.shadowPut_value (v : Nat) : (storeGet (s.shadowPut k v).shadow k).getD ((s.shadowPut k v).reg k) = v := by
  have hreg : (s.shadowPut k v).reg k = s.reg k := rfl
  rw [hreg, State.shadowPut]
  split
  case isTrue h => rw [storeGet_storeDel, if_pos rfl, Option.getD_none, h]
  case isFalse => rw [storeGet_storeSet_self, Option.getD_some]

theorem State.shadowPut_other (v : Nat) {j : Nat} (h : j ≠ k) : storeGet (s.shadowPut k v).shadow j = storeGet s.shadow j := by
  rw [State.shadowPut]
  split
  · rw [storeGet_storeDel, if_neg h]
  · rw [storeGet_storeSet, if_neg h]

end

/-- Settles O29, by the checks of a write in their order. -/
theorem objectWrites : Obligations.ObjectWrites := by
  intro s k w
  refine ⟨exec_objectWrite_silent s k w, fun ha hv => ?_, fun ha hv hr => ?_, fun r ha hv hr hd => ?_, fun r ha hv hr hd => ?_⟩
  · rw [exec_objectWrite s k w ha, State.regWrite_error (State.find_unserved hv)]
  · rw [exec_objectWrite s k w ha, State.regWrite_error (State.find_absent hv hr)]
  · rw [exec_objectWrite s k w ha, State.regWrite_domain (State.find_row hv hr) hd]
  have hfind := State.find_row hv hr
  have hrefused : ∀ f, s.writeRefusal s.mode r k w.data = f → f ≠ 0 → exec (.objectWrite k w) s = .next (noteResult w.path (f, s)).settle := fun f hf hn => by
    rw [exec_objectWrite s k w ha, State.regWrite_refused hfind hd hf hn]
  refine ⟨fun h => hrefused 2 (State.writeRefusal_access h) (by decide), fun h hb => hrefused 7 (State.writeRefusal_seal h hb) (by decide), fun h => ?_,
    fun h hl => hrefused 3 (by rw [State.writeRefusal_shadow h, if_pos hl]) (by decide), fun h hl hm => ?_, fun h hl hm => ⟨fun hg => ?_, fun hg => ?_⟩⟩
  · have hchecks := State.writeRefusal_direct (k := k) (m := s.mode) (data := w.data) h
    refine ⟨fun hl => hrefused 3 (by rw [hchecks, if_pos hl]) (by decide), fun hl hv => hrefused 4 (by simp [hchecks, hl, hv]) (by decide),
      fun hl hv hm => hrefused 5 (by simp [hchecks, hl, hv, hm]) (by decide), fun hl hv hm => ?_⟩
    have hplain : r.acc ≠ .rwc := by rcases h with h | h | ⟨h, -⟩ <;> rw [h] <;> decide
    rw [exec_objectWrite s k w ha, State.regWrite_effect hfind hd (by simp [hchecks, hl, hv, hm]) hplain]
  · exact hrefused 5 (by simp [State.writeRefusal_shadow h, hl, hm]) (by decide)
  · exact hrefused 6 (by simp [State.writeRefusal_shadow h, hl, hm, hg]) (by decide)
  · refine ⟨s.shadowPut k (ofLe w.data), ?_, rfl, State.shadowPut_value _, fun j hj => State.shadowPut_other _ hj⟩
    rw [exec_objectWrite s k w ha, State.regWrite_shadow hfind hd (by simp [State.writeRefusal_shadow h, hl, hm, hg]) h]

/-! ### The check of a commit (R287, R309) -/

/-- STANDBY with the check of a commit under way whose mask names the reserved group 1. -/
def reservedCommit : State := { State.reset.put K.COMMIT_STATE 1 with mode := .standby, commit := { mask := 2 } }

/-- Refutes O31: a refused check also notes the cc at which COMMIT_REFUSED was set, which the state stated leaves out. -/
theorem not_commits : ¬ Obligations.Commits := by
  intro ⟨⟨_, _, hcheck⟩, _⟩
  have hfault : reservedCommit.commitFault reservedCommit.commit.mask = some (5, 0) := by decide
  have hexec := (hcheck reservedCommit 0 (by decide) (by decide)).1 5 0 hfault
  have hdone : exec (.commitCheckDone 0) reservedCommit = .next (reservedCommit.commitChecked 0).settle := by
    calc exec (.commitCheckDone 0) reservedCommit = .next (reservedCommit.core fun s => s.commitChecked 0).settle := rfl
      _ = _ := by rw [reservedCommit.core_on _ (by decide)]
  have hevents := congrArg (fun t : State => t.penn.events) (Host.Outcome.next.inj (hdone.symm.trans hexec))
  rw [State.settle_events, State.settle_events] at hevents
  have hnoted : (reservedCommit.commitChecked 0).penn.events ≠ [] := by decide
  exact hnoted hevents

end Sys2Proof.Machine
end

section
/-! PROOFS. Chapter 11: the CAN controllers and the QSPI port. -/

namespace Sys2Proof.Machine

/-! ### The CAN controllers (R293, R295) -/

theorem setAt_setAt {α : Type} (d : α) (l : List α) (i : Nat) (a b : α) : setAt d (setAt d l i a) i b = setAt d l i b := by
  induction i generalizing l with
  | zero => cases l <;> rfl
  | succ i ih => cases l <;> simp only [setAt, ih]

@[simp] theorem State.can1_setCan_self (s : State) (i : Nat) (c : CanCtl) : (s.setCan i c).can1 i = c := by
  simp only [State.can1, State.setCan, getD_setAt, if_true]

theorem State.setCan_setCan (s : State) (i : Nat) (c d : CanCtl) : (s.setCan i c).setCan i d = s.setCan i d :=
  congrArg (fun l => { s with can := l }) (setAt_setAt {} s.can i c d)

theorem State.canUp_iff (s : State) (i : Nat) : s.canUp i = true ↔ s.canState i = 1 ∨ s.canState i = 2 := by simp [State.canUp]

section
variable (s : State) (m : Fin 2)

theorem State.canBusOff_error (h : s.canState m = 1 ∨ s.canState m = 2) : s.canBusOff m .txError =
    if (s.can1 m).txErrors + 8 < 256 then s.setCan m { s.can1 m with txErrors := (s.can1 m).txErrors + 8 }
    else (s.setCan m { s.can1 m with txErrors := 256, busOff := true, offAges := 0 :: (s.can1 m).offAges }).count (K.CAN_BUSOFF m) := by
  simp only [State.canBusOff, if_neg (not_le.mpr m.isLt), (s.canUp_iff m).mpr h]
  rfl

theorem State.canBusOff_recovered (h : (s.can1 m).busOff = true) :
    s.canBusOff m .recovered = s.setCan m { s.can1 m with busOff := false, txErrors := 0, rxErrors := 0 } := by
  simp only [State.canBusOff, if_neg (not_le.mpr m.isLt), h, if_true]

theorem State.canState_active (he : (s.can1 m).enabled = true) (hr : s.reg K.REF_STATE ≠ 0) (hb : (s.can1 m).busOff = false) :
    s.canState m = if 128 ≤ (s.can1 m).txErrors ∨ 128 ≤ (s.can1 m).rxErrors then 2 else 1 := by
  simp only [State.can1] at he hb
  simp only [State.canState, CanCtl.passive, he, hb, beq_eq_false_iff_ne.mpr hr, Bool.not_true, Bool.or_self, Bool.false_eq_true, if_false, decide_eq_true_eq,
    State.can1]
  rfl

/-- A status frame that is due leaves with the Pennant word as it was. -/
theorem State.canStatus_due (h : s.canStatusDue m = true) : s.canStatus m = s.setCan m { s.can1 m with
    statusDue := false, sinceStatus := 0, txErrors := (s.can1 m).txErrors - 1, sent := { ident := 0x0C0 + (s.can1 m).node, brs := (s.can1 m).dataRate != 0, rates := ((s.can1 m).nomRate, (s.can1 m).dataRate), data := leBytes 8 s.pennant } } := by
  have hpennant : ∀ c, (s.setCan m c).pennant = s.pennant := fun c => rfl
  simp only [State.canStatus, if_pos h, State.canSend, State.can1_setCan_self, State.setCan_setCan, hpennant]

variable (hc : s.mode.coreRuns = true)
include hc

theorem exec_canBusOff (e : CanEvent) : exec (.canBusOff m e) s = .next (s.canBusOff m e).settle := by
  calc exec (.canBusOff m e) s = .next (s.core fun s => s.canBusOff m e).settle := rfl
    _ = _ := by rw [s.core_on _ hc]

theorem exec_canSettingsApply : exec (.canSettingsApply m) s = .next (s.canApply m).settle := by
  calc exec (.canSettingsApply m) s = .next (s.core fun s => s.canApply m).settle := rfl
    _ = _ := by rw [s.core_on _ hc]

theorem exec_canStatusFrame : exec (.canStatusFrame m) s = .next (s.canStatus m).settle := by
  calc exec (.canStatusFrame m) s = .next (s.core fun s => s.canStatus m).settle := rfl
    _ = _ := by rw [s.core_on _ hc]

theorem exec_canFrameIgnored : exec (.canFrameIgnored m) s = .next (s.canIgnore m).settle := by
  calc exec (.canFrameIgnored m) s = .next (s.core fun s => s.canIgnore m).settle := rfl
    _ = _ := by rw [s.core_on _ hc]

end

/-- Settles O32, by the equations of a controller's events. -/
theorem canControllers : Obligations.CanControllers := by
  rintro s m c hc rfl
  refine ⟨fun h ht => ?_, fun h ht => ?_, fun hb => ?_, s.canState_active m, fun ha => ?_, fun hd => ?_, fun h => ?_⟩
  · rw [exec_canBusOff s m hc, s.canBusOff_error m h, if_neg (by omega)]
    rfl
  · rw [exec_canBusOff s m hc, s.canBusOff_error m h, if_pos (by omega)]
  · rw [exec_canBusOff s m hc, s.canBusOff_recovered m hb]
  · rw [exec_canSettingsApply s m hc]
    simp only [State.canApply, if_pos ha]
  · rw [exec_canStatusFrame s m hc, s.canStatus_due m hd]
  · rw [exec_canFrameIgnored s m hc, State.canIgnore, if_pos ((s.canUp_iff m).mpr h)]
    rfl

/-! ### Reads and writes of the QSPI port (R296 to R301) -/

/-- Above the mirror every byte reads 0xFF, and nothing changes. -/
theorem State.mirrorRead_above (s : State) (m : Nat) (a n : Nat) (ha : mirrorEnd ≤ a) (hn : n = 0 ∨ a % 16 + n ≤ 16 * m) : s.mirrorRead a m n = (List.replicate n 255, s) := by
  induction m generalizing a n with
  | zero =>
    obtain rfl : n = 0 := by omega
    rfl
  | succ m ih =>
    cases n with
    | zero => rfl
    | succ n =>
      have hk : min (16 - a % 16) (n + 1) ≤ n + 1 := min_le_right _ _
      simp only [State.mirrorRead, if_pos ha]
      have hrest : n + 1 - min (16 - a % 16) (n + 1) = 0 ∨ (a + min (16 - a % 16) (n + 1)) % 16 + (n + 1 - min (16 - a % 16) (n + 1)) ≤ 16 * m := by
        rcases min_choice (16 - a % 16) (n + 1) with h | h <;> rw [h] <;> omega
      rw [ih _ _ (by omega) hrest, ← List.replicate_add, Nat.add_sub_cancel' hk]

section
variable (s : State)

theorem State.qspiRead_inside {a n : Nat} (hs : s.answers = true) (h : n = 0 ∨ a + n ≤ mirrorEnd) : s.qspiRead a n =
    (s.mirrorRead a (n / 16 + 2) n).2.setQspi { (s.mirrorRead a (n / 16 + 2) n).2.qspi with readData := (s.mirrorRead a (n / 16 + 2) n).1 } := by
  simp only [State.qspiRead, hs, Bool.not_true, Bool.false_eq_true, if_false]
  exact if_neg (by omega)

theorem State.qspiRead_beyond {a n : Nat} (hs : s.answers = true) (hn : 0 < n) (h : mirrorEnd < a + n) : s.qspiRead a n =
    ((s.mirrorRead a (n / 16 + 2) n).2.setQspi { (s.mirrorRead a (n / 16 + 2) n).2.qspi with readData := (s.mirrorRead a (n / 16 + 2) n).1 }).count K.QSPI_ERRORS := by
  simp only [State.qspiRead, hs, Bool.not_true, Bool.false_eq_true, if_false]
  exact if_pos ⟨by omega, h⟩

theorem inBulk_iff (a : Nat) : inBulk a = true ↔ 0x10000000 ≤ a ∧ a ≤ 0x1000FFFF := decide_eq_true_iff

theorem inWindow_iff (a : Nat) : inWindow a = true ↔ 0x20000000 ≤ a ∧ a ≤ 0x2003FFFF := decide_eq_true_iff

/-- A read of the bulk window that its last address does not cut. -/
theorem State.wread_bulk {a n : Nat} (hs : s.answers = true) (ha : 0x10000000 ≤ a) (hn : 0 < n) (he : a + n ≤ 0x10010000) :
    s.wread a n = (s.bulkTake n).2.setQspi { (s.bulkTake n).2.qspi with readData := (s.bulkTake n).1 } := by
  have hlen : (s.bulkTake n).1.length = n := by simp [State.bulkTake]; omega
  simp only [State.wread, hs, (inBulk_iff a).mpr ⟨ha, by omega⟩, Nat.min_eq_left (show n ≤ 0x10010000 - a by omega), hlen, Bool.not_true, Bool.false_eq_true, if_false,
    if_true, Nat.sub_self, List.replicate_zero, List.append_nil, lt_irrefl]

theorem State.bulkTake_full {n : Nat} (h : n ≤ s.qspi.bulkOut.length) :
    s.bulkTake n = (s.qspi.bulkOut.take n, s.setQspi { s.qspi with bulkOut := s.qspi.bulkOut.drop n }) := by
  simp only [State.bulkTake, Nat.sub_eq_zero_of_le h, List.replicate_zero, List.append_nil, if_true]

theorem State.bulkTake_short {n : Nat} (h : s.qspi.bulkOut.length < n) : s.bulkTake n =
    (s.qspi.bulkOut ++ List.replicate (n - s.qspi.bulkOut.length) 255,
      (s.setQspi { s.qspi with bulkOut := [] }).countBy K.BULK_UNDERRUN (n - s.qspi.bulkOut.length)) := by
  simp only [State.bulkTake, List.take_of_length_le h.le, List.drop_of_length_le h.le, if_neg (Nat.sub_ne_zero_of_lt h)]

theorem State.wread_window {a n : Nat} (hs : s.answers = true) (ha : 0x20000000 ≤ a) (hn : 0 < n) (he : a + n ≤ 0x20040000) :
    s.wread a n = s.setQspi { s.qspi with readData := (List.range n).map fun i => s.windowView.getD (a - 0x20000000 + i) 255 } := by
  have hbulk : inBulk a = false := by rw [← Bool.not_eq_true, inBulk_iff]; omega
  simp only [State.wread, hs, hbulk, (inWindow_iff a).mpr ⟨ha, by omega⟩, Nat.min_eq_left (show n ≤ 0x20040000 - a by omega), List.length_map, List.length_range,
    Bool.not_true, Bool.false_eq_true, if_false, if_true, Nat.sub_self, List.replicate_zero, List.append_nil, lt_irrefl]

theorem State.qspiWrite_mirror {a : Nat} (d : List Byte) (hs : s.answers = true) (ha : a < mirrorEnd) : s.qspiWrite a d =
    if s.qspi.writeQ.length < 8 then s.setQspi { s.qspi with writeQ := s.qspi.writeQ ++ [(a, d)] } else noteResult .qspi (6, s) := by
  simp only [State.qspiWrite, hs, if_pos ha, Bool.not_true, Bool.false_eq_true, if_false]

theorem State.qspiWrite_bulk {a : Nat} (d : List Byte) (hs : s.answers = true) (ha : 0x10000000 ≤ a) (he : a ≤ 0x1000FFFF) : s.qspiWrite a d =
    if 32768 - s.qspi.bulkIn.length < d.length then
      (s.setQspi { s.qspi with bulkIn := s.qspi.bulkIn ++ d.take (32768 - s.qspi.bulkIn.length) }).countBy K.BULK_OVERRUN (d.length - (32768 - s.qspi.bulkIn.length))
    else s.setQspi { s.qspi with bulkIn := s.qspi.bulkIn ++ d.take (32768 - s.qspi.bulkIn.length) } := by
  have hm : ¬ a < mirrorEnd := not_lt.mpr ha
  simp only [State.qspiWrite, hs, if_neg hm, (inBulk_iff a).mpr ⟨ha, he⟩, Bool.not_true, Bool.false_eq_true, if_false, if_true]

theorem State.qspiWrite_window {a : Nat} (d : List Byte) (hs : s.answers = true) (ha : 0x20000000 ≤ a) (he : a ≤ 0x2003FFFF) :
    s.qspiWrite a d = s.setQspi { s.qspi with staging := splice s.qspi.staging (a - 0x20000000) d } := by
  have hm : ¬ a < mirrorEnd := by unfold mirrorEnd; omega
  have hbulk : inBulk a = false := by rw [← Bool.not_eq_true, inBulk_iff]; omega
  simp only [State.qspiWrite, hs, if_neg hm, hbulk, (inWindow_iff a).mpr ⟨ha, he⟩, Bool.not_true, Bool.false_eq_true, if_false, if_true]

theorem State.qdomStart_free (n : Nat) (h : s.qspi.domJob = none) : s.qdomStart n =
    (0, ({ s with qspi := { s.qspi with domJob := some (s.reg K.QDOM_SEL, bytesAt s.qspi.staging 0 n) } }).put K.QDOM_RESULT 255) := by
  simp only [State.qdomStart, h, Option.isSome_none, Bool.false_eq_true, if_false]

theorem State.qdomStart_busy (n : Nat) {j : Nat × List Byte} (h : s.qspi.domJob = some j) : s.qdomStart n = (6, s) := by
  simp only [State.qdomStart, h, Option.isSome_some, if_true]

variable {s}

theorem exec_qspiRead (hc : s.mode.coreRuns = true) (a n : Nat) : exec (.qspiRead a n) s = .next (s.qspiRead a n).settle := by
  calc exec (.qspiRead a n) s = .next (s.core fun s => s.qspiRead a n).settle := rfl
    _ = _ := by rw [s.core_on _ hc]

theorem exec_wread (hc : s.mode.coreRuns = true) (a n : Nat) : exec (.wread a n) s = .next (s.wread a n).settle := by
  calc exec (.wread a n) s = .next (s.core fun s => s.wread a n).settle := rfl
    _ = _ := by rw [s.core_on _ hc]

theorem exec_qspiWrite (hc : s.mode.coreRuns = true) (a : Nat) (d : List Byte) : exec (.qspiWrite a d) s = .next (s.qspiWrite a d).settle := by
  calc exec (.qspiWrite a d) s = .next (s.core fun s => s.qspiWrite a d).settle := rfl
    _ = _ := by rw [s.core_on _ hc]

theorem exec_qspiStatus (hc : s.mode.coreRuns = true) : exec .qspiStatus s = .next (s.setQspi { s.qspi with readData := leBytes 1 s.statusByte }).settle := by
  calc exec .qspiStatus s = .next s.qspiStatus.settle := rfl
    _ = _ := by rw [State.qspiStatus, if_pos hc]

theorem exec_qspiUnknownCommand (hc : s.mode.coreRuns = true) : exec .qspiUnknownCommand s = .next (s.count K.QSPI_ERRORS).settle := by
  calc exec .qspiUnknownCommand s = .next s.qspiUnknown.settle := rfl
    _ = _ := by rw [State.qspiUnknown, if_pos hc]

theorem exec_qspiMirrorWriteApply (hc : s.mode.coreRuns = true) (cc : Fin 2800) (ecc : Ecc) :
    exec (.qspiMirrorWriteApply cc ecc) s = .next (s.mirrorApply cc ecc).settle := by
  calc exec (.qspiMirrorWriteApply cc ecc) s = .next (s.core fun s => s.mirrorApply cc ecc).settle := rfl
    _ = _ := by rw [s.core_on _ hc]

theorem exec_qdomWriteDone (hc : s.mode.coreRuns = true) (cc : Fin 2800) : exec (.qdomWriteDone cc) s = .next (s.qdomDone cc).settle := by
  calc exec (.qdomWriteDone cc) s = .next (s.core fun s => s.qdomDone cc).settle := rfl
    _ = _ := by rw [s.core_on _ hc]

/-! ### The registers of the port (R300, R307) -/

/-- The three registers of the QSPI port with an effect of their own are not sealed ones. -/
theorem objRow_qspi (k : Nat) (hk : k ∈ [K.QDOM_SEL, K.QDOM_WRITE_LEN, K.QSPI_DICT_VER]) : ∃ r, objRow? k = some r ∧ (r.acc == .rws) = false := by
  have hall : ∀ k ∈ [K.QDOM_SEL, K.QDOM_WRITE_LEN, K.QSPI_DICT_VER], (objRow? k).any (fun r => r.acc != .rws) = true := by decide
  obtain ⟨r, hr, ha⟩ := (Option.any_eq_true _ _).mp (hall k hk)
  exact ⟨r, hr, by simpa using ha⟩

variable {w : HostWrite}

theorem exec_qdomSel (h : s.accepts K.QDOM_SEL w = true) : exec (.qdomSel w) s = .next (noteResult w.path (0, s.qdomSel (ofLe w.data))).settle := by
  obtain ⟨r, hr, hs⟩ := objRow_qspi K.QDOM_SEL (by simp)
  calc exec (.qdomSel w) s = .next (s.hostWrite K.QDOM_SEL w).settle := rfl
    _ = _ := by rw [s.hostWrite_accepted _ w r hr hs h]; rfl

theorem exec_qdomWriteLen (h : s.accepts K.QDOM_WRITE_LEN w = true) : exec (.qdomWriteLen w) s = .next (noteResult w.path (s.qdomStart (ofLe w.data))).settle := by
  obtain ⟨r, hr, hs⟩ := objRow_qspi K.QDOM_WRITE_LEN (by simp)
  calc exec (.qdomWriteLen w) s = .next (s.hostWrite K.QDOM_WRITE_LEN w).settle := rfl
    _ = _ := by rw [s.hostWrite_accepted _ w r hr hs h]; rfl

theorem exec_qspiDictVer (h : s.accepts K.QSPI_DICT_VER w = true) : exec (.qspiDictVer w) s = .next (noteResult w.path (0, s.qspiVer (ofLe w.data))).settle := by
  obtain ⟨r, hr, hs⟩ := objRow_qspi K.QSPI_DICT_VER (by simp)
  calc exec (.qspiDictVer w) s = .next (s.hostWrite K.QSPI_DICT_VER w).settle := rfl
    _ = _ := by rw [s.hostWrite_accepted _ w r hr hs h]; rfl

end

/-- Settles O33, by the equations of the port's commands and of its registers. -/
theorem qspiPort : Obligations.QspiPort := by
  refine ⟨⟨fun s a n hc hs => ⟨fun h => ?_, fun hn ha h => ?_, fun hn ha => ?_, fun ha he hn hl => ?_, fun ha he hl => ?_, fun ha he hn => ?_⟩,
    fun s a d hc hs => ⟨fun ha hl => ?_, fun ha hl => ?_, fun ha he hl => ?_, fun ha he hl hd => ?_, fun ha he => ?_⟩,
    fun s hc => ⟨exec_qspiStatus hc, exec_qspiUnknownCommand hc⟩, fun s cc ecc a d l hc hs hq => ?_⟩,
    fun s w h => ⟨s.qdomSel (ofLe w.data), exec_qdomSel h, State.reg_put_self _ _ _, fun k hk => s.reg_put_ne _ _ _ fun e => hk (by simp [e]), rfl⟩,
    fun s w h => ⟨fun hj => ?_, fun j hj => ?_⟩, fun s cc j r hc hj hr => ?_, fun s w h => exec_qspiDictVer h⟩
  · rw [exec_qspiRead hc, s.qspiRead_inside hs (.inr h)]
  · rw [exec_qspiRead hc, s.qspiRead_beyond hs hn h]
    rfl
  · rw [exec_qspiRead hc, s.qspiRead_beyond hs hn (by omega), s.mirrorRead_above _ a n ha (.inr (by omega))]
    rfl
  · rw [exec_wread hc, s.wread_bulk hs ha hn he, s.bulkTake_full hl]
    rfl
  · refine ⟨_, exec_wread hc a n, ?_⟩
    rw [s.wread_bulk hs ha (by omega) he, s.bulkTake_short hl]
    exact ⟨rfl, rfl, State.reg_put_self _ _ _, fun k hk => s.reg_put_ne _ _ _ fun e => hk (by simp [e])⟩
  · rw [exec_wread hc, s.wread_window hs ha hn he]
  · rw [exec_qspiWrite hc, s.qspiWrite_mirror d hs ha, if_pos hl]
  · rw [exec_qspiWrite hc, s.qspiWrite_mirror d hs ha, if_neg (by omega)]
  · rw [exec_qspiWrite hc, s.qspiWrite_bulk d hs ha he, if_neg (by omega), List.take_of_length_le (by omega)]
  · rw [exec_qspiWrite hc, s.qspiWrite_bulk d hs ha he, if_pos (by omega)]
    rfl
  · rw [exec_qspiWrite hc, s.qspiWrite_window d hs ha he]
  · rw [exec_qspiMirrorWriteApply hc]
    simp only [State.mirrorApply, hq, if_pos hs]
  · rw [exec_qdomWriteLen h, s.qdomStart_free _ hj]
  · rw [exec_qdomWriteLen h, s.qdomStart_busy _ hj]
  · rw [exec_qdomWriteDone hc, hr]
    simp only [State.qdomDone, hj]
    rfl

end Sys2Proof.Machine
end

section
/-! PROOFS. Chapter 11: requests on the CAN paths and the sideband. -/

namespace Sys2Proof.Machine

/-! ### A request's way through its path (R289, R290, R295) -/

section
variable (s : State)

/-- The command of the row that takes a request. -/
theorem State.serve_arrival (q : Request) (f : State → List Byte × State) {i : Nat} (hu : s.pathUp q.path = true) (ha : q.arrives = true) (hi : q.path.can = some i)
    (hm : msgCmd q.bytes = 1) : s.serve q 1 f = s.canArrive q i := by
  simp only [State.serve, hu, ha, hi, hm, Bool.true_or, Bool.not_true, bne_self_eq_false, Bool.and_false, Bool.or_self, Bool.false_eq_true, if_false]

theorem State.canArrive_other (q : Request) (i : Nat) (h : q.ident ≠ 0x540 + (s.can1 i).received.node) : s.canArrive q i = s.setCan i (s.can1 i).received := by
  simp only [State.canArrive, State.can1_setCan_self, if_pos h]

theorem State.canArrive_waits (q : Request) (i : Nat) (h : q.ident = 0x540 + (s.can1 i).received.node) (hq : (s.pathState q.path).queue.length < 4) :
    s.canArrive q i = (s.setCan i (s.can1 i).received).setPath q.path
      { s.pathState q.path with queue := (s.pathState q.path).queue ++ [(s.can1 i).received.waiting q.bytes] } := by
  have hpath : (s.setCan i (s.can1 i).received).pathState q.path = s.pathState q.path := rfl
  simp only [State.canArrive, State.can1_setCan_self, hpath, if_neg (not_not.mpr h), if_neg (not_le.mpr hq)]

theorem State.canArrive_full (q : Request) (i : Nat) (h : q.ident = 0x540 + (s.can1 i).received.node) (hq : 4 ≤ (s.pathState q.path).queue.length) :
    s.canArrive q i = (s.setCan i (s.can1 i).received).answer q.path ((s.can1 i).received.waiting q.bytes) (headerOnly q.bytes 6) q.cc := by
  have hpath : (s.setCan i (s.can1 i).received).pathState q.path = s.pathState q.path := rfl
  simp only [State.canArrive, State.can1_setCan_self, hpath, if_neg (not_not.mpr h), if_pos hq]

theorem State.answer_frame (p : Path) (i : Nat) (w : Waiting) (b : List Byte) (cc : Nat) (hi : p.can = some i) : (s.answer p w b cc).can1 i = { s.can1 i with
    sent := { ident := w.aux, brs := w.brs, rates := w.rates, data := framed b }, txErrors := (s.can1 i).txErrors - 1 } := by
  simp only [State.answer, hi, State.canSend, State.can1_setCan_self]
  rfl

/-- The path serves the request. -/
def State.servesNow (s : State) (q : Request) : Prop := (s.pathUp q.path = true ∨ s.mayAnswer q.path = true) ∧ q.arrives = false ∧ s.isNext q = true

variable {s} {q : Request} {cmd : Nat} {f : State → List Byte × State}

/-- A request that its path serves, with the command of this row or one that no row has, is answered. -/
theorem State.serve_oldest (h : s.servesNow q) (hc : (decide (8 ≤ q.bytes.length ∧ 1 ≤ msgCmd q.bytes ∧ msgCmd q.bytes ≤ 6) && msgCmd q.bytes != cmd) = false) :
    s.serve q cmd f =
      if q.bytes.length < 8 then (s.dequeue q.path).answer q.path (s.oldest q.path) (headerOnly q.bytes 3) q.cc
      else if !decide (8 ≤ q.bytes.length ∧ 1 ≤ msgCmd q.bytes ∧ msgCmd q.bytes ≤ 6) then (s.dequeue q.path).answer q.path (s.oldest q.path) (headerOnly q.bytes 11) q.cc
      else (f (s.dequeue q.path)).2.answer q.path (s.oldest q.path) (f (s.dequeue q.path)).1 q.cc := by
  obtain ⟨hu, ha, hn⟩ := h
  have hup : (s.pathUp q.path || (!false && s.mayAnswer q.path)) = true := by simpa using hu
  simp only [State.serve, hup, hc, ha, hn, Bool.not_true, Bool.or_self, Bool.false_eq_true, if_false]

theorem State.serve_command (h : s.servesNow q) (hl : 8 ≤ q.bytes.length) (hm : msgCmd q.bytes = cmd) (hr : 1 ≤ cmd ∧ cmd ≤ 6) :
    s.serve q cmd f = (f (s.dequeue q.path)).2.answer q.path (s.oldest q.path) (f (s.dequeue q.path)).1 q.cc := by
  have hknown : decide (8 ≤ q.bytes.length ∧ 1 ≤ msgCmd q.bytes ∧ msgCmd q.bytes ≤ 6) = true := decide_eq_true ⟨hl, hm ▸ hr⟩
  rw [State.serve_oldest h (by simp [hm]), if_neg (not_lt.mpr hl), hknown, if_neg (by simp)]

theorem State.serve_unknown (h : s.servesNow q) (hl : 8 ≤ q.bytes.length) (hm : msgCmd q.bytes = 0 ∨ 6 < msgCmd q.bytes) :
    s.serve q cmd f = (s.dequeue q.path).answer q.path (s.oldest q.path) (headerOnly q.bytes 11) q.cc := by
  have hknown : decide (8 ≤ q.bytes.length ∧ 1 ≤ msgCmd q.bytes ∧ msgCmd q.bytes ≤ 6) = false := decide_eq_false (by omega)
  rw [State.serve_oldest h (by rw [hknown, Bool.false_and]), if_neg (not_lt.mpr hl), hknown, if_pos (by simp)]

theorem State.serve_cut (h : s.servesNow q) (hl : q.bytes.length < 8) :
    s.serve q cmd f = (s.dequeue q.path).answer q.path (s.oldest q.path) (headerOnly q.bytes 3) q.cc := by
  have hknown : decide (8 ≤ q.bytes.length ∧ 1 ≤ msgCmd q.bytes ∧ msgCmd q.bytes ≤ 6) = false := decide_eq_false (by omega)
  rw [State.serve_oldest h (by rw [hknown, Bool.false_and]), if_pos hl]

end

/-! ### What the commands make of a request (R283, R289, R291, R292, R308) -/

section
variable {s : State} {p : Path} {b : List Byte} {r : ObjRow}

theorem State.serveRead_whole (hf : s.find p (msgKey b) = .ok r) (hd : r.isDomain = false) (hw : fieldAt b 5 1 = 0) (ho : fieldAt b 6 1 = 0) :
    s.serveRead p b = (reply b 0 (bytesAt b 5 3) (s.objBytes p r (msgKey b)), s) := by
  simp only [State.serveRead, State.readObj, hf, hd, hw, ho, if_true, Bool.false_eq_true, if_false]

theorem State.serveRead_error {e : Nat} (hf : s.find p (msgKey b) = .error e) : s.serveRead p b = (reply b e (bytesAt b 5 3) [], s) := by
  simp only [State.serveRead, State.readObj, hf]

theorem State.serveWrite_row (q : Request) (hf : s.find q.path (msgKey q.bytes) = .ok r) (hd : r.isDomain = false) (ho : r.acc ≠ .ro) (ha : r.acc ≠ .rwa)
    (hl : writeLenOk q.path r q.bytes = true) : s.serveWrite q =
      (headerOnly q.bytes (s.writeFound s.mode q.path.num r (msgKey q.bytes) q.cc q.ecc (bytesAt q.bytes 8 r.size)).1,
        noteResult q.path (s.writeFound s.mode q.path.num r (msgKey q.bytes) q.cc q.ecc (bytesAt q.bytes 8 r.size))) := by
  have hacc : (r.isDomain || r.acc == .ro || r.acc == .rwa) = false := by simp [hd, ho, ha]
  simp only [State.serveWrite, hf, hacc, hl, Bool.not_true, Bool.false_eq_true, if_false]

@[simp] theorem State.pathState_setPath_self (s : State) (p : Path) (x : PathState) : (s.setPath p x).pathState p = x := by
  simp only [State.pathState, State.setPath, getD_setAt, if_true]

/-- A DREAD from the first byte on gives what the DOMAIN shows, as does the snapshot that it takes. -/
theorem State.serveDread_start (hf : s.find p (msgKey b) = .ok r) (hd : r.isDomain = true) (hl : 16 ≤ b.length) (hm : fieldAt b 5 2 ≤ maxLen p) (hv : s.protoVer p ≠ 1)
    (ho : fieldAt b 8 4 = 0) : (s.serveDread p b).1 = reply b 0 (leBytes 2 ((s.domView (msgKey b)).take (fieldAt b 5 2)).length ++ bytesAt b 7 1)
      (leBytes 4 0 ++ leBytes 4 (s.domView (msgKey b)).length ++ (s.domView (msgKey b)).take (fieldAt b 5 2)) := by
  have hsnap : (s.protoVer p != 1) = true := by simpa using hv
  have hread : (s.readDomain p (msgKey b) (fieldAt b 5 2) 0).1 = 0 ∧ (s.readDomain p (msgKey b) (fieldAt b 5 2) 0).2.1 = (s.domView (msgKey b)).take (fieldAt b 5 2)
      ∧ (s.readDomain p (msgKey b) (fieldAt b 5 2) 0).2.2.1 = (s.domView (msgKey b)).length := by
    by_cases hs : s.snapsDomain r (msgKey b) = true <;> simp [State.readDomain, hf, hd, hsnap, hs, State.pathState_setPath_self]
  obtain ⟨hres, hdata, hsize⟩ := hread
  simp only [State.serveDread, ho, hres, hdata, hsize, if_neg (show ¬ (b.length < 16 ∨ maxLen p < fieldAt b 5 2) by omega), ne_eq, not_true, if_false]

theorem State.dwriteStep_whole (q : Request) (hf : s.find q.path (msgKey q.bytes) = .ok r) (hd : r.isDomain = true) (ha : r.acc ≠ .ro)
    (hm : fieldAt q.bytes 5 2 ≤ maxLen q.path) (hl : fills q.path q.bytes (16 + fieldAt q.bytes 5 2) = true) (ho : fieldAt q.bytes 8 4 = 0)
    (ht : (bytesAt q.bytes 16 (fieldAt q.bytes 5 2)).length = fieldAt q.bytes 12 4) :
    s.dwriteStep q = ((s.domWrite (msgKey q.bytes) q.path q.cc (bytesAt q.bytes 16 (fieldAt q.bytes 5 2))).1,
      (noteResult q.path (s.domWrite (msgKey q.bytes) q.path q.cc (bytesAt q.bytes 16 (fieldAt q.bytes 5 2)))).setOpen q.path none) := by
  have hacc : ¬ ((!r.isDomain) = true ∨ (r.acc == .ro) = true) := by simp [hd, ha]
  have hlen : ¬ (maxLen q.path < fieldAt q.bytes 5 2 ∨ (!fills q.path q.bytes (16 + fieldAt q.bytes 5 2)) = true) := by simp [hl, hm]
  simp only [State.dwriteStep, hf, if_neg hacc, if_neg hlen, ho, if_true, State.takeSegment, ht, lt_irrefl, if_false]

theorem State.serveConnect_version (v : Nat) (hp : p ≠ .sideband) (hl : 12 ≤ b.length)
    (hv : v = 2 ∧ bitAt (fieldAt b 8 1) 2 = true ∨ v = 1 ∧ bitAt (fieldAt b 8 1) 2 = false ∧ bitAt (fieldAt b 8 1) 1 = true) :
    (s.serveConnect p b).2 = s.setPath p { s.pathState p with protoVer := v, dictVer := some (fieldAt b 10 2) } := by
  have hver : connectVer p (fieldAt b 8 1) = some v := by
    rcases hv with ⟨rfl, h2⟩ | ⟨rfl, h2, h1⟩
    · simp [connectVer, hp, h2]
    · simp [connectVer, hp, h2, h1]
  simp only [State.serveConnect, if_neg (not_lt.mpr hl), hver]

end

/-- Settles O30, by the equations of a request's arrival, of its service and of the commands. -/
theorem requestsAndCommands : Obligations.RequestsAndCommands := by
  refine ⟨?_, fun s p i w b cc hi hlen => by rw [s.answer_frame p i w b cc hi]; rfl, ?_, fun s p b r => ⟨State.serveRead_whole, fun e => State.serveRead_error, ?_,
    fun hf hd hl hm hv ho => State.serveDread_start hf hd hl hm hv ho, ?_, fun hp hl v hv => State.serveConnect_version v hp hl hv⟩⟩
  · rintro s q i c w hu ha hi hm hl rfl rfl
    have hexec : exec (.read q) s = .next (s.canArrive q i).settle := by
      calc exec (.read q) s = .next (s.serve q 1 fun s => s.serveRead q.path q.bytes).settle := rfl
        _ = _ := by rw [s.serve_arrival q _ hu ha hi hm]
    rw [hexec]
    exact ⟨fun h => by rw [s.canArrive_other q i h], fun h hq => by rw [s.canArrive_waits q i h hq]; rfl, fun h hq => by rw [s.canArrive_full q i h hq]; rfl⟩
  · rintro s d q aux hu ha hn rfl rfl
    have hnow : s.servesNow q := ⟨hu, ha, hn⟩
    have hread : exec (.read q) s = .next (s.serve q 1 fun s => s.serveRead q.path q.bytes).settle := rfl
    refine ⟨fun hl => ⟨fun hm => ?_, fun hm => ?_, fun hm => ?_, fun hm => ?_, fun hm => ?_, fun hm => ?_⟩, fun hl hm => ?_, fun hl => ?_⟩
    · rw [hread, State.serve_command hnow hl hm (by decide)]
    · have hwrite : exec (.write q) s = .next (s.serve q 2 fun s => s.serveWrite q).settle := rfl
      rw [hwrite, State.serve_command hnow hl hm (by decide)]
    · have hdread : exec (.dread q) s = .next (s.serve q 3 fun s => s.serveDread q.path q.bytes).settle := rfl
      rw [hdread, State.serve_command hnow hl hm (by decide)]
    · have hdwrite : exec (.dwrite q) s = .next (s.serve q 4 fun s => s.serveDwrite q).settle := rfl
      rw [hdwrite, State.serve_command hnow hl hm (by decide)]
    · have hconnect : exec (.connect q) s = .next (s.serve q 5 fun s => s.serveConnect q.path q.bytes).settle := rfl
      rw [hconnect, State.serve_command hnow hl hm (by decide)]
    · have habort : exec (.abort q) s = .next (s.serve q 6 fun s => s.serveAbort q.path q.bytes).settle := rfl
      rw [habort, State.serve_command hnow hl hm (by decide)]
      rfl
    · rw [hread, State.serve_unknown hnow hl hm]
    · rw [hread, State.serve_cut hnow hl]
  · rintro q rfl rfl hf hd ho ha hl
    exact State.serveWrite_row q hf hd ho ha hl
  · rintro q rfl rfl hf hd ha hm hl ho ht
    exact State.dwriteStep_whole q hf hd ha hm hl ho ht

end Sys2Proof.Machine
end

section
/-! PROOFS. Chapter 11: authenticated writes, what they program, the sticky Pennant bits and the interrupt. -/

namespace Sys2Proof.Machine

/-! ### Bits cleared and bits of a selection -/

theorem bitAt_and (a b n : Nat) : bitAt (a &&& b) n = (bitAt a n && bitAt b n) := by simp only [bitAt_eq_testBit, Nat.testBit_and]

theorem bitAt_or (a b n : Nat) : bitAt (a ||| b) n = (bitAt a n || bitAt b n) := by simp only [bitAt_eq_testBit, Nat.testBit_or]

theorem bitAt_clearBits (a b n : Nat) : bitAt (clearBits a b) n = (bitAt a n && !bitAt b n) := by
  have hle : a &&& b ≤ a := Nat.and_le_left
  have hodd : (a &&& b) % 2 = 1 ↔ a % 2 = 1 ∧ b % 2 = 1 := Nat.and_mod_two_eq_one
  induction n generalizing a b with
  | zero =>
    rw [Bool.eq_iff_iff]
    simp only [bitAt, clearBits, pow_zero, Nat.div_one, beq_iff_eq, Bool.and_eq_true, Bool.not_eq_true', beq_eq_false_iff_ne]
    omega
  | succ n ih =>
    have hhalf : clearBits a b / 2 = clearBits (a / 2) (b / 2) := by
      have hdiv : (a &&& b) / 2 = a / 2 &&& b / 2 := Nat.and_div_two
      unfold clearBits
      omega
    rw [bitAt_succ, bitAt_succ a, bitAt_succ b, hhalf]
    exact ih _ _ Nat.and_le_left Nat.and_mod_two_eq_one

theorem sumNat_append_single (l : List Nat) (a : Nat) : sumNat (l ++ [a]) = sumNat l + a := by simp [sumNat]

/-- The number whose bits below `m` are the ones selected. -/
theorem sumNat_selected (p : Nat → Bool) (m : Nat) : sumNat (((List.range m).filter p).map fun n => 2 ^ n) < 2 ^ m
    ∧ ∀ n, bitAt (sumNat (((List.range m).filter p).map fun n => 2 ^ n)) n = (decide (n < m) && p n) := by
  induction m with
  | zero => exact ⟨by simp [sumNat], fun n => by simp [sumNat, bitAt]⟩
  | succ m ih =>
    obtain ⟨hlt, hbits⟩ := ih
    rw [List.range_succ, List.filter_append, List.map_append]
    cases hp : p m with
    | false =>
      simp only [List.filter_singleton, hp, cond_false, List.map_nil, List.append_nil]
      refine ⟨hlt.trans (Nat.pow_lt_pow_succ (by decide)), fun n => ?_⟩
      rw [hbits]
      rcases eq_or_ne n m with rfl | hn
      · simp [hp]
      · rw [decide_eq_decide.mpr (show n < m ↔ n < m + 1 by omega)]
    | true =>
      simp only [List.filter_singleton, hp, cond_true, List.map_cons, List.map_nil, sumNat_append_single]
      refine ⟨by rw [pow_succ]; omega, fun n => ?_⟩
      rw [← Nat.or_two_pow_eq_add_of_lt hlt, bitAt_or, hbits, bitAt_eq_testBit, Nat.testBit_two_pow]
      rcases eq_or_ne n m with rfl | hn
      · simp [hp]
      · rw [decide_eq_decide.mpr (show n < m ↔ n < m + 1 by omega), decide_eq_false (Ne.symm hn), Bool.or_false]

/-! ### The records of AUTH_WRITE (R303 to R305) -/

theorem objRow_authWrite : ∃ r, objRow? K.AUTH_WRITE = some r ∧ r.isDomain = true ∧ (r.acc == .ro) = false := by
  have hrow : (objRow? K.AUTH_WRITE).any (fun r => r.isDomain && !(r.acc == .ro)) = true := by decide
  obtain ⟨r, hr, h⟩ := (Option.any_eq_true _ _).mp hrow
  rw [Bool.and_eq_true, Bool.not_eq_true'] at h
  exact ⟨r, hr, h⟩

section
variable (s : State)

/-- A record written to AUTH_WRITE is judged. -/
theorem State.authRow_judged (k : Nat) (a : AuthWrite) (h : s.mayWrite a.path K.AUTH_WRITE = true) :
    s.authRow k a = noteDomain a.path (s.authAt s.mode (authRecord k a.len a.counter a.data a.tag) a.cc) := by
  obtain ⟨r, hr, hd, hro⟩ := objRow_authWrite
  simp only [State.mayWrite, Bool.and_eq_true] at h
  obtain ⟨⟨ha, hserves⟩, -⟩ := h
  have hacc : ¬ ((!r.isDomain) = true ∨ (r.acc == .ro) = true) := by simp [hd, hro]
  have hkey : K.AUTH_WRITE / 256 = 0x0240 := rfl
  rw [State.authRow, s.hostDomain_ok _ _ r ha hserves hr]
  simp only [State.writeDomain, if_neg hacc, hkey]

/-- A record of the right form: its length, its padding, and a target of its length. -/
def wellFormed (b : List Byte) (r : ObjRow) : Prop :=
  b.length = 32 ∧ 1 ≤ fieldAt b 3 1 ∧ fieldAt b 3 1 ≤ 8 ∧ (∀ x ∈ bytesAt b 24 8, x = 0) ∧ (∀ x ∈ bytesAt b (8 + fieldAt b 3 1) (8 - fieldAt b 3 1), x = 0)
    ∧ authTarget (objKey (fieldAt b 0 2) (fieldAt b 2 1)) = some r ∧ fieldAt b 3 1 = r.size

/-- How a record of the right form is judged: key, lock-out, tag, counter and mode in turn. -/
theorem State.authWrite_formed (m : Mode) (b : List Byte) (r : ObjRow) (h : wellFormed b r) : s.authWrite m b =
    if s.authKey = false then s.authRefuse 3
    else if s.auth.lockTicks ≠ 0 then s.authRefuse 4
    else if bytesAt b 16 8 ≠ s.authTag b then s.authMismatch
    else if fieldAt b 4 4 ≤ s.reg K.AUTH_COUNTER then s.authRefuse 2
    else if r.modes.holds m = false then (s.put K.AUTH_COUNTER (fieldAt b 4 4)).authRefuse (6 + 5 * 256)
    else (0, ((s.put K.AUTH_COUNTER (fieldAt b 4 4)).authApply (objKey (fieldAt b 0 2) (fieldAt b 2 1)) (fieldAt b 8 (fieldAt b 3 1))).put K.AUTH_RESULT 0) := by
  obtain ⟨hlen, hlow, hhigh, htail, hpad, htarget, hsize⟩ := h
  have hform : ¬ (b.length ≠ 32 ∨ fieldAt b 3 1 = 0 ∨ 8 < fieldAt b 3 1) := by omega
  have hzero : ¬ ((bytesAt b 24 8).any (· != 0) = true ∨ (bytesAt b (8 + fieldAt b 3 1) (8 - fieldAt b 3 1)).any (· != 0) = true) := by
    simp only [List.any_eq_true, bne_iff_ne, not_or, not_exists, not_and, not_not]
    exact ⟨htail, hpad⟩
  simp only [State.authWrite, if_neg hform, if_neg hzero, htarget, if_neg (not_not.mpr hsize), Bool.not_eq_true']

theorem State.authRefuse_eq (r : Nat) :
    s.authRefuse r = (8, ((s.put K.AUTH_RESULT r).put K.AUTH_FAILS (min (s.reg K.AUTH_FAILS + 1) (2 ^ 32 - 1))).stick 25) := by
  rw [State.authRefuse, State.count, s.reg_put_ne _ _ _ (by decide)]
  rfl

/-- The second of R305 in slots, and the mismatch that is its eighth. -/
theorem State.authMismatch_eq (h : s.auth.lockTicks = 0) : s.authMismatch = ({ s with auth := { s.auth with
    mismatchAges := 0 :: s.auth.mismatchAges, lockTicks := if 7 ≤ s.auth.mismatchAges.length then 500000 else 0 } } : State).authRefuse 1 := by
  have hlock : (if 8 ≤ (0 :: s.auth.mismatchAges).length then authSecond else s.auth.lockTicks) = if 7 ≤ s.auth.mismatchAges.length then 500000 else 0 := by
    rw [h, List.length_cons]
    exact ite_congr (propext (by omega)) (fun _ => rfl) fun _ => rfl
  simp only [State.authMismatch, hlock]

theorem State.authAt_shows (m : Mode) (b : List Byte) (cc : Nat) : (s.authAt m b cc).1 = (s.authWrite m b).1 ∧ ∀ j, (s.authAt m b cc).2.reg j = (s.authWrite m b).2.reg j := by
  refine ⟨rfl, fun j => ?_⟩
  simp only [State.authAt]
  split
  · rfl
  · rfl

end

/-! ### What programming fuses does (R305, R391, R423) -/

section
variable (s : State) (e : FuseEnd)

/-- The seal with its bytes burnt, and the fuse rows that this took. -/
def State.sealBlown (u : State) (e : FuseEnd) : State :=
  { u with fuses := { u.fuses with rowsUsed := u.fuses.rowsUsed + e.rows }, sealed := { u.sealed with fuseImage := u.sealImage, fuseCrc := crc32 u.sealImage, blown := true } }

/-- The end of programming the seal, with the request gone. -/
theorem State.sealDone_request (v : Nat) (u : State) (hv : s.sealed.request = some v) (hu : u = { s with sealed := { s.sealed with request := none } }) : s.sealDone e =
    if s.sealed.blown = true then u.put K.SEAL_RESULT 6
    else if v ≠ crc32 u.sealImage then u.put K.SEAL_RESULT 3
    else if e.vinLow = true then u.put K.SEAL_RESULT 4
    else if 16 < s.fuses.rowsUsed + e.rows then { u with fuses := { u.fuses with rowsUsed := 16 } }.put K.SEAL_RESULT 5
    else (((u.sealBlown e).put K.SEAL_RESULT 2).put K.SEAL_STATE 1).put K.SEAL_CRC (crc32 u.sealImage) := by
  subst hu
  simp only [State.sealDone, hv]
  rfl

/-- The end of a burn, with the request gone. -/
theorem State.retireBurned_request (x : Nat) (u : State) (hx : s.spares.burn = some x) (hu : u = s.setSpares { s.spares with burn := none }) : s.retireBurned e =
    if s.fuseRetired x = true then u.put K.BURN_RESULT 7
    else if s.unitOut x = false then u.put K.BURN_RESULT 3
    else if e.vinLow = true then u.put K.BURN_RESULT 4
    else ((List.range 64).find? fun j => s.fuses.retire.getD j 0 == 0).elim (u.put K.BURN_RESULT 5) fun j =>
      if 0 < e.rows ∧ u.fuseRows = 0 then u.put K.BURN_RESULT 6
      else ({ (if e.rows = 0 then u else u.fuseRowOut) with
        fuses := { (if e.rows = 0 then u else u.fuseRowOut).fuses with retire := setAt 0 (if e.rows = 0 then u else u.fuseRowOut).fuses.retire j (retireEntry x) } } :
          State).put K.BURN_RESULT 2 := by
  subst hu
  have hretired : (s.setSpares { s.spares with burn := none }).fuseRetired x = s.fuseRetired x := rfl
  have hout : (s.setSpares { s.spares with burn := none }).unitOut x = s.unitOut x := rfl
  have hfuses : (s.setSpares { s.spares with burn := none }).fuses = s.fuses := rfl
  simp only [State.retireBurned, hx, hretired, hout, hfuses, Bool.not_eq_true']
  cases (List.range 64).find? fun j => s.fuses.retire.getD j 0 == 0 <;> rfl

variable {s}

theorem exec_sealProgramDone (hc : s.mode.coreRuns = true) : exec (.sealProgramDone e) s = .next (s.sealDone e).settle := by
  calc exec (.sealProgramDone e) s = .next (s.core fun s => s.sealDone e).settle := rfl
    _ = _ := by rw [s.core_on _ hc]

theorem exec_retireBurnDone (hc : s.mode.coreRuns = true) : exec (.retireBurnDone e) s = .next (s.retireBurned e).settle := by
  calc exec (.retireBurnDone e) s = .next (s.core fun s => s.retireBurned e).settle := rfl
    _ = _ := by rw [s.core_on _ hc]

end

/-- Settles O34, by the judgement of a record and the ends of the two programmings. -/
theorem authenticatedWrites : Obligations.AuthenticatedWrites := by
  refine ⟨⟨fun s a h => ?_, fun s m b k len r hb hlen hlow hhigh htail hpad hk htarget hsize => ?_⟩, ?_, ?_, fun s hc hl => ?_⟩
  · have hrow : ∀ k, Host.Outcome.next (s.authRow k a).settle = (.next (noteDomain a.path (s.authAt s.mode (authRecord k a.len a.counter a.data a.tag) a.cc)).settle :
        Host.Outcome State Fault Refusal) := fun k => by rw [s.authRow_judged k a h]
    exact ⟨hrow K.SEAL_PROGRAM, hrow K.DEG_ACK, hrow K.RETIRE_BURN⟩
  · subst hlen hk
    have hjudged := s.authWrite_formed m b r ⟨hb, hlow, hhigh, htail, hpad, htarget, hsize⟩
    refine ⟨fun cc => s.authAt_shows m b cc, fun hkey => ?_, fun hkey hlock => ?_, fun hkey hlock htag => ?_, fun hkey hlock htag hcount => ?_,
      fun hkey hlock htag hcount hmode => ?_⟩
    · rw [hjudged, if_pos hkey, s.authRefuse_eq]
    · rw [hjudged, if_neg (by simp [hkey]), if_pos hlock, s.authRefuse_eq]
    · rw [hjudged, if_neg (by simp [hkey]), if_neg (not_not.mpr hlock), if_pos htag, s.authMismatch_eq hlock, State.authRefuse_eq]
      rfl
    · rw [hjudged, if_neg (by simp [hkey]), if_neg (not_not.mpr hlock), if_neg (not_not.mpr htag), if_pos hcount, s.authRefuse_eq]
    · rw [hjudged, if_neg (by simp [hkey]), if_neg (not_not.mpr hlock), if_neg (not_not.mpr htag), if_neg (not_le.mpr hcount), if_neg (by simp [hmode])]
  · intro s v e u hc hv hu
    have hdone := s.sealDone_request e v u hv hu
    rw [exec_sealProgramDone e hc]
    refine ⟨fun hb => ?_, fun hb hcrc => ?_, fun hb hcrc hvin => ?_, fun hb hcrc hvin hrows => ?_, fun hb hcrc hvin hrows => ?_⟩
    · rw [hdone, if_pos hb]
    · rw [hdone, if_neg (by simp [hb]), if_pos hcrc]
    · rw [hdone, if_neg (by simp [hb]), if_neg (not_not.mpr hcrc), if_pos hvin]
    · rw [hdone, if_neg (by simp [hb]), if_neg (not_not.mpr hcrc), if_neg (by simp [hvin]), if_pos hrows]
    · refine ⟨_, rfl, ?_⟩
      rw [hdone, if_neg (by simp [hb]), if_neg (not_not.mpr hcrc), if_neg (by simp [hvin]), if_neg (not_lt.mpr hrows), ← hcrc]
      have hregs : ∀ k, ((((u.sealBlown e).put K.SEAL_RESULT 2).put K.SEAL_STATE 1).put K.SEAL_CRC v).reg k =
          if k = K.SEAL_CRC then v else if k = K.SEAL_STATE then 1 else if k = K.SEAL_RESULT then 2 else s.reg k := fun k => by
        rw [hu]
        simp only [State.reg_put]
        rfl
      refine ⟨by rw [hregs]; rfl, by rw [hregs]; rfl, by rw [hregs]; rfl, rfl, hcrc.symm, rfl, by rw [hu]; rfl, fun k hk => ?_⟩
      simp only [List.mem_cons, List.not_mem_nil, or_false, not_or] at hk
      rw [hregs, if_neg hk.2.2, if_neg hk.2.1, if_neg hk.1]
  · intro s x e u hc hx hu
    have hdone := s.retireBurned_request e x u hx hu
    have hfuses : u.fuses = s.fuses := by rw [hu]; rfl
    rw [exec_retireBurnDone e hc]
    refine ⟨fun hr => ?_, fun hr ho => ?_, fun hr ho hvin => ?_, fun hr ho hvin => ?_⟩
    · rw [hdone, if_pos hr]
    · rw [hdone, if_neg (by simp [hr]), if_pos ho]
    · rw [hdone, if_neg (by simp [hr]), if_neg (by simp [ho]), if_pos hvin]
    rw [if_neg (by simp [hr]), if_neg (by simp [ho]), if_neg (by simp [hvin])] at hdone
    refine ⟨fun hall => ?_, fun j hj hfree hfirst => ?_⟩
    · have hnone : ((List.range 64).find? fun j => s.fuses.retire.getD j 0 == 0) = none := by
        rw [List.find?_eq_none]
        exact fun i hi => by simpa using hall i (List.mem_range.mp hi)
      rw [hdone, hnone, Option.elim_none]
    · have hsome : ((List.range 64).find? fun j => s.fuses.retire.getD j 0 == 0) = some j := by
        rw [List.find?_range_eq_some]
        exact ⟨beq_iff_eq.mpr hfree, List.mem_range.mpr hj, fun i hi => by rw [Bool.not_eq_true', beq_eq_false_iff_ne]; exact hfirst i hi⟩
      rw [hsome, Option.elim_some] at hdone
      refine ⟨fun hrows => ?_, fun hrows hused => ?_, fun hrows hused => ?_⟩
      · rw [hdone, if_neg (by omega), if_pos hrows, hfuses]
      · rw [hdone, if_pos ⟨hrows, by rw [State.fuseRows, hfuses]; omega⟩]
      · have hrow : u.fuseRowOut.fuses = { s.fuses with rowsUsed := s.fuses.rowsUsed + 1 } := by
          rw [State.fuseRowOut, hfuses, min_eq_right (by omega)]
        rw [hdone, if_neg (by rw [State.fuseRows, hfuses]; omega), if_neg (by omega), hrow]
        rfl
  · have hexec : exec .authLockoutEnd s = .next (s.core State.authLockEnd).settle := rfl
    rw [hexec, s.core_on _ hc, State.authLockEnd, if_pos hl]

/-! ### Sticky bits and the interrupt (R309, R310) -/

section
variable (s : State)

theorem objRow_pennantClear : ∃ r, objRow? K.PENNANT_CLEAR = some r ∧ (r.acc == .rws) = false := by
  obtain ⟨r, hr, ha⟩ := (Option.any_eq_true _ _).mp (show (objRow? K.PENNANT_CLEAR).any (fun r => !(r.acc == .rws)) = true by decide)
  exact ⟨r, hr, by simpa using ha⟩

theorem objRow_irqAck : ∃ r, objRow? K.IRQ_ACK = some r ∧ (r.acc == .rws) = false := by
  obtain ⟨r, hr, ha⟩ := (Option.any_eq_true _ _).mp (show (objRow? K.IRQ_ACK).any (fun r => !(r.acc == .rws)) = true by decide)
  exact ⟨r, hr, by simpa using ha⟩

variable {s}

theorem exec_pennantClear (w : HostWrite) (h : s.accepts K.PENNANT_CLEAR w = true) :
    exec (.pennantClear w) s = .next (noteResult w.path (0, s.pennantClear (ofLe w.data) w.cc)).settle := by
  obtain ⟨r, hr, hs⟩ := objRow_pennantClear
  calc exec (.pennantClear w) s = .next (s.hostWrite K.PENNANT_CLEAR w).settle := rfl
    _ = _ := by rw [s.hostWrite_accepted _ w r hr hs h]; rfl

theorem exec_irqAck (w : HostWrite) (h : s.accepts K.IRQ_ACK w = true) : exec (.irqAck w) s = .next (noteResult w.path (0, s.irqAck (ofLe w.data))).settle := by
  obtain ⟨r, hr, hs⟩ := objRow_irqAck
  calc exec (.irqAck w) s = .next (s.hostWrite K.IRQ_ACK w).settle := rfl
    _ = _ := by rw [s.hostWrite_accepted _ w r hr hs h]; rfl

variable (s)

/-- The bits of a clear whose event falls in its cc. -/
def State.clearedAgain (v cc : Nat) : Nat :=
  sumNat (((List.range 32).filter fun n => bitAt v n && bitAt s.penn.sticky n && s.penn.events.contains (n, s.slot % 2 ^ 44, cc)).map fun n => 2 ^ n)

theorem State.bitAt_clearedAgain (v cc n : Nat) :
    bitAt (s.clearedAgain v cc) n = (decide (n < 32) && (bitAt v n && bitAt s.penn.sticky n && s.penn.events.contains (n, s.slot % 2 ^ 44, cc))) :=
  (sumNat_selected _ 32).2 n

theorem State.pennantClear_shows (v cc : Nat) : (s.pennantClear v cc).penn.sticky = clearBits s.penn.sticky (clearBits v (s.clearedAgain v cc))
    ∧ (s.pennantClear v cc).reg K.IRQ_CAUSE = s.reg K.IRQ_CAUSE ||| (s.clearedAgain v cc &&& s.reg K.IRQ_EN) := ⟨rfl, State.reg_put_self _ _ _⟩

/-- The Pennant word rests on no register below the ones of the blocks. -/
theorem State.pennant_put_low (k v : Nat) (hk : k < 0x100000) : (s.put k v).pennant = s.pennant := by
  have hreg : ∀ j, 0x100000 ≤ j → (s.put k v).reg j = s.reg j := fun j hj => s.reg_put_ne _ _ _ (by omega)
  have hslice : (s.put k v).usesSlice8 = s.usesSlice8 := funext fun ch => by
    simp (disch := omega) only [State.usesSlice8, hreg, K.SLICE_MAP]
  have hlive : (s.put k v).pennantLive = s.pennantLive := by
    simp (disch := omega) only [State.pennantLive, State.cometState, State.laneSpared, State.spareInUse, State.spareGone, State.poolFree, State.sliceFree, hslice,
      State.spareBanks, State.spareFree, State.shadowSlice, State.sliceAt, State.underTest, State.rxOut, State.lockedA, State.lockedB, hreg, K.RTD_STATE, K.HK_RESULT,
      K.SP_MODE, K.THROT_STEP, K.SHED_LEVEL, K.PLLA_STATE, K.PLLB_STATE, K.STR_STATE, K.CAL_UNSETTLED, K.CAL_RESTORE, K.BIST_STATE, K.SEAL_STATE, K.SUN_SAT_MASK,
      K.LANE_MAP, K.EE12_FOR, K.SPARE_FOR, K.RX_ACTIVE, K.BANK_MAP, K.SLICE_MAP, K.EE_STATE, K.SP_STATE, K.BANK_STATE]
    rfl
  rw [State.pennant, hlive]
  rfl

theorem State.pennantClear_keeps (v cc : Nat) : s.keeps (s.pennantClear v cc) [K.IRQ_CAUSE] := fun k hk => by
  have hput : (s.pennantClear v cc).reg k = (s.put K.IRQ_CAUSE (s.reg K.IRQ_CAUSE ||| (s.clearedAgain v cc &&& s.reg K.IRQ_EN))).reg k := rfl
  rw [hput, s.reg_put_ne _ _ _ fun e => hk (by simp [e])]

theorem State.irqAck_keeps (v : Nat) : s.keeps (s.irqAck v) [K.IRQ_CAUSE] := fun k hk => s.reg_put_ne _ _ _ fun e => hk (by simp [e])

/-- The bits that rise and may interrupt. -/
def State.rises : Nat := newBits s.pennant s.penn.last &&& s.reg K.IRQ_EN

theorem State.bitAt_rises (n : Nat) : bitAt s.rises n = (decide (n < 32) && (bitAt s.pennant n && !bitAt s.penn.last n) && bitAt (s.reg K.IRQ_EN) n) := by
  rw [State.rises, bitAt_and, newBits, (sumNat_selected _ 32).2 n]

/-- The Pennant word rests neither on what was noted of it before nor on the controllers' status frames. -/
theorem State.pennant_noted (p : PennState) (c : List CanCtl) (hp : p.sticky = s.penn.sticky) : { s with penn := p, can := c }.pennant = s.pennant := by
  have hlive : { s with penn := p, can := c }.pennantLive = s.pennantLive := rfl
  rw [State.pennant, hlive, hp]
  rfl

/-- Where the core runs the Pennant word is noted and its rises are caught. -/
theorem State.raise_on (h : s.mode.coreRuns = true) :
    s.raise.penn.last = s.pennant ∧ s.raise.pennant = s.pennant ∧ s.raise.reg K.IRQ_CAUSE = s.reg K.IRQ_CAUSE ||| s.rises := by
  have hoff : ¬ (!s.mode.coreRuns) = true := by rw [h]; decide
  obtain ⟨x, hx, hword, hcause⟩ : ∃ x, (if s.rises = 0 then s else s.put K.IRQ_CAUSE (s.reg K.IRQ_CAUSE ||| s.rises)) = x ∧ x.pennant = s.pennant ∧ x.penn = s.penn
      ∧ x.reg K.IRQ_CAUSE = s.reg K.IRQ_CAUSE ||| s.rises := by
    refine ⟨_, rfl, ?_⟩
    by_cases hz : s.rises = 0
    · rw [if_pos hz]
      exact ⟨rfl, rfl, by rw [hz, Nat.or_zero]⟩
    · rw [if_neg hz]
      exact ⟨s.pennant_put_low _ _ (by decide), rfl, State.reg_put_self _ _ _⟩
  obtain ⟨hpenn, hcause⟩ := hcause
  obtain ⟨p, c, hraise, hlast, hsticky⟩ : ∃ p c, s.raise = { x with penn := p, can := c } ∧ p.last = s.pennant ∧ p.sticky = x.penn.sticky := by
    unfold State.raise
    rw [if_neg hoff, hpenn, ← hx]
    exact ⟨_, _, rfl, rfl, rfl⟩
  rw [hraise]
  exact ⟨hlast, (x.pennant_noted p c hsticky).trans hword, hcause⟩

theorem State.raise_off (h : s.mode.coreRuns = false) : s.raise.reg K.IRQ_CAUSE = 0 ∧ s.raise.penn.last = 0 := by
  have hcause : ∀ p, { s.put K.IRQ_CAUSE 0 with penn := p }.reg K.IRQ_CAUSE = 0 := fun p => s.reg_put_self K.IRQ_CAUSE 0
  unfold State.raise
  rw [if_pos (by rw [h]; rfl)]
  exact ⟨hcause _, rfl⟩

/-- What the outputs' update leaves of the interrupt. -/
theorem State.settle_interrupt : (s.settle.mode.coreRuns = true → s.settle.penn.last = s.settle.pennant
      ∧ ∀ n, n < 32 → bitAt s.settle.pennant n = true → bitAt s.penn.last n = false → bitAt (s.reg K.IRQ_EN) n = true → bitAt (s.settle.reg K.IRQ_CAUSE) n = true)
    ∧ (s.settle.mode.coreRuns = false → s.settle.reg K.IRQ_CAUSE = 0 ∧ s.settle.penn.last = 0) := by
  obtain ⟨g, hg, hmode, hpenn, hen⟩ : ∃ g : State, s.settle = g.raise ∧ g.mode = s.settle.mode ∧ g.penn = s.penn ∧ g.reg K.IRQ_EN = s.reg K.IRQ_EN :=
    ⟨s.gates, rfl, by simp [State.gates], by simp [State.gates], (s.gates.raise_keeps _ (by decide)).symm.trans (s.settle_reg _ (by decide))⟩
  rw [← hmode, hg]
  refine ⟨fun hc => ?_, g.raise_off⟩
  obtain ⟨hnoted, hword, hcause⟩ := g.raise_on hc
  refine ⟨hnoted.trans hword.symm, fun n hn hp hl he => ?_⟩
  have hrise : bitAt g.rises n = true := by
    rw [State.bitAt_rises, ← hword, hpenn, hen, hl, he, hp, decide_eq_true hn]
    rfl
  rw [hcause, bitAt_or, hrise, Bool.or_true]

end

/-- Settles O35, bit by bit: what a clear leaves, and what the noted Pennant word raises. -/
theorem pennantAndInterrupt : Obligations.PennantAndInterrupt := by
  refine ⟨fun s w h => ⟨s.pennantClear (ofLe w.data) w.cc, exec_pennantClear w h, s.pennantClear_keeps _ _, ?_⟩,
    fun s w h => ⟨s.irqAck (ofLe w.data), exec_irqAck w h, s.irqAck_keeps _, fun n => ?_⟩, ?_⟩
  · rintro n e rfl
    obtain ⟨hsticky, hcause⟩ := s.pennantClear_shows (ofLe w.data) w.cc
    rw [hsticky, hcause, bitAt_clearBits, bitAt_clearBits, bitAt_or, bitAt_and, s.bitAt_clearedAgain]
    generalize decide (n < 32) = b0, bitAt (ofLe w.data) n = b1, bitAt s.penn.sticky n = b2, s.penn.events.contains _ = b3
    exact ⟨by cases b0 <;> cases b1 <;> cases b2 <;> cases b3 <;> rfl, by cases b0 <;> cases b1 <;> cases b2 <;> cases b3 <;> rfl⟩
  · have hack : (s.irqAck (ofLe w.data)).reg K.IRQ_CAUSE = clearBits (s.reg K.IRQ_CAUSE) (ofLe w.data) := State.reg_put_self _ _ _
    rw [hack, bitAt_clearBits]
  · intro s t ht
    rw [ht]
    exact s.settle_interrupt

end Sys2Proof.Machine
end

section
/-! PROOFS. Chapter 12: REFCLK, the lock detectors and the clock outputs. -/

namespace Sys2Proof.Machine

/-! ### What a link fault and a stopped test leave of the clocks -/

/-- The clocks and the registers of chapter 12 stay as they are. -/
def State.clocksStay (s t : State) : Prop := t.clk = s.clk ∧ ∀ k, 0x600000 ≤ k → k < 0x610000 → t.reg k = s.reg k

section
variable {s t u : State}

theorem State.clocksStay.refl (s : State) : s.clocksStay s := ⟨rfl, fun _ _ _ => rfl⟩

theorem State.clocksStay.trans (h : s.clocksStay t) (h' : t.clocksStay u) : s.clocksStay u :=
  ⟨h'.1.trans h.1, fun k hl hu => (h'.2 k hl hu).trans (h.2 k hl hu)⟩

theorem State.clocksStay.put (h : s.clocksStay t) (k v : Nat) (hk : k < 0x600000 ∨ 0x610000 ≤ k) : s.clocksStay (t.put k v) :=
  h.trans ⟨rfl, fun j hl hu => t.reg_put_ne _ _ _ (by omega)⟩

theorem State.clocksStay.of_objs (h : s.clocksStay t) (hc : u.clk = t.clk) (ho : u.objs = t.objs) : s.clocksStay u :=
  h.trans ⟨hc, fun k _ _ => t.reg_congr u ho k⟩

theorem State.clocksStay.onlyWhen {c : Prop} [Decidable c] (h : s.clocksStay t) (h' : t.clocksStay u) : s.clocksStay (if c then u else t) := by
  split
  · exact h.trans h'
  · exact h

variable (s)

theorem linkKeys_notClocks (q : Nat) (h : q ∈ linkKeys) : q < 0x600000 ∨ 0x610000 ≤ q := by
  have := linkKeys_range h
  simp only [K.TAKEOVERS] at this
  omega

theorem State.linkDown_clocksStay (st fault : Nat) : s.clocksStay (s.linkDown st fault) := by
  refine ⟨?_, fun k hl hu => s.linkDown_keeps st fault k fun hk => ?_⟩
  · rw [s.linkDown_linkOnly st fault]
    rfl
  · have := linkKeys_notClocks k hk
    omega

theorem State.linkFault_clocksStay (fault : Nat) : s.clocksStay (s.linkFault fault) := by
  unfold State.linkFault
  dsimp only
  split_ifs
  · exact .refl s
  · exact s.linkDown_clocksStay 6 3
  · exact s.linkDown_clocksStay 6 fault
  · exact .refl s

theorem State.bankIdle_clocksStay (u : Nat) : s.clocksStay (s.bankIdle u) :=
  (State.clocksStay.refl s).onlyWhen ((State.clocksStay.refl s).put _ _ (by simp only [K.BANK_STATE, unitInst]; omega))

theorem State.putBank_clocksStay (p c : Nat) : s.clocksStay (s.putBank p c) := by
  unfold State.putBank
  split
  next h => exact (State.clocksStay.refl s).put _ _ (by simp only [K.BANK_STATE]; omega)
  · exact .refl s

theorem State.bistBack_clocksStay : s.clocksStay s.bistBack := by
  have hput := (State.clocksStay.refl s).put K.BIST_STATE 5 (by decide)
  unfold State.bistBack
  dsimp only
  split
  · exact hput.of_objs rfl rfl
  · exact hput

theorem State.bistState_clocksStay (n : Nat) : s.clocksStay (s.bistState n) := .put (.of_objs (.refl s) rfl rfl) _ _ (by decide)

theorem State.bistOver_clocksStay (outcome reason : Nat) : s.clocksStay (s.bistOver outcome reason false) :=
  ((((State.clocksStay.of_objs (.refl s) rfl rfl).put _ _ (by decide)).put _ _ (by decide)).put _ _ (by decide)).put _ _ (by decide)

theorem State.bistStop_clocksStay (reason : Nat) : s.clocksStay (s.bistStop reason) := by
  unfold State.bistStop
  extract_lets b st ended served _ planned r copied _ _ lane idle _
  have hended : s.clocksStay ended := s.bistOver_clocksStay 4 reason
  have hplanned : s.clocksStay planned := hended.of_objs rfl rfl
  have hcopied : s.clocksStay copied := hplanned.onlyWhen ((planned.putBank_clocksStay _ _).trans (State.putBank_clocksStay _ _ _))
  have hbusy : s.clocksStay (copied.onlyIf r.busy fun s => s.put K.RETIRE_STATE 0) :=
    hcopied.onlyWhen ((State.clocksStay.refl copied).put _ _ (by decide))
  have hlane : s.clocksStay lane := hended.onlyWhen (.of_objs (.refl ended) rfl rfl)
  have hidle : s.clocksStay idle := by
    by_cases hw : b.wasOut = true
    · rw [show idle = lane from if_pos hw]
      exact hlane
    · rw [show idle = lane.bankIdle b.unit from if_neg hw]
      exact hlane.trans (lane.bankIdle_clocksStay _)
  clear_value planned copied lane idle ended
  split_ifs
  · exact .refl s
  · exact (hbusy.of_objs rfl rfl).put _ _ (by decide)
  · exact hplanned.trans planned.bistBack_clocksStay
  · exact hplanned.put _ _ (by decide)
  · exact hended.trans (ended.bistState_clocksStay 4)
  · exact hended.trans ended.bistBack_clocksStay
  · exact (hidle.of_objs rfl rfl).put _ _ (by decide)

theorem State.bistLock_clocksStay (b : Bool) : s.clocksStay (s.bistLock b) := by
  unfold State.bistLock
  split
  · exact s.bistStop_clocksStay _
  · exact .refl s

/-- Locks that are not gained change nothing of the clocks. -/
theorem State.lockFollow_clocksStay (a b : Bool) (h : a = true ∨ s.lockedA = false) : s.clocksStay (s.lockFollow a b) := by
  have hboot : (!a && s.lockedA) = false := by rcases h with h | h <;> simp [h]
  unfold State.lockFollow
  simp only [hboot, Bool.false_eq_true, if_false]
  exact ((State.clocksStay.refl s).onlyWhen (s.bistLock_clocksStay false)).onlyWhen (State.bistLock_clocksStay _ true)

/-- Locks that stand as before have no effect. -/
theorem State.lockFollow_same : s.lockFollow s.lockedA s.lockedB = s := by simp [State.lockFollow]

theorem State.lockFollow_still {t : State} (ha : t.reg K.PLLA_STATE = s.reg K.PLLA_STATE) (hb : t.reg K.PLLB_STATE = s.reg K.PLLB_STATE) :
    t.lockFollow s.lockedA s.lockedB = t := by
  have hA : s.lockedA = t.lockedA := by simp only [State.lockedA, ha]
  have hB : s.lockedB = t.lockedB := by simp only [State.lockedB, hb]
  rw [hA, hB, t.lockFollow_same]

/-! ### Lock loss (R318, R320) -/

theorem State.pllLost_unlocked (b : Bool) (cc : Nat) (h : s.reg (pllState b) ≠ 2) : s.pllLost b cc = s := if_pos h

/-- A lock that is lost shows in its state, its count and its stamp, and in no other register of the clocks. -/
theorem State.pllLost_regs (b : Bool) (cc k : Nat) (h : s.reg (pllState b) = 2) (hl : 0x600000 ≤ k) (hu : k < 0x610000) : (s.pllLost b cc).reg k =
    if k = pllLossLast b then s.stampCc cc else if k = pllLosses b then min (s.reg (pllLosses b) + 1) (2 ^ 32 - 1) else if k = pllState b then 3 else s.reg k := by
  have hcount : (s.put (pllState b) 3).reg (pllLosses b) = s.reg (pllLosses b) := s.reg_put_ne _ _ _ (by cases b <;> decide)
  have hputs : (((s.put (pllState b) 3).count (pllLosses b)).put (pllLossLast b) (s.stampCc cc)).reg k =
      if k = pllLossLast b then s.stampCc cc else if k = pllLosses b then min (s.reg (pllLosses b) + 1) (2 ^ 32 - 1) else if k = pllState b then 3 else s.reg k := by
    simp only [State.count, hcount, State.reg_put]
    rfl
  unfold State.pllLost State.pllLostAt
  rw [if_neg (not_not.mpr h), ← hputs]
  cases b
  · rfl
  · exact (State.linkFault_clocksStay _ 3).2 k hl hu

theorem State.pllLost_stamp (cc c : Nat) : (s.pllLost false cc).stampCc c = s.stampCc c := by
  unfold State.pllLost State.pllLostAt
  split
  · rfl
  · rfl

theorem pll_range (b : Bool) : (0x600000 ≤ pllState b ∧ pllState b < 0x610000) ∧ (0x600000 ≤ pllLosses b ∧ pllLosses b < 0x610000)
    ∧ 0x600000 ≤ pllLossLast b ∧ pllLossLast b < 0x610000 := by cases b <;> decide

/-- What a lost lock shows. -/
theorem State.pllLost_shows (b : Bool) (cc : Nat) (h : s.reg (pllState b) = 2) : (s.pllLost b cc).reg (pllState b) = 3
    ∧ (s.pllLost b cc).reg (pllLosses b) = min (s.reg (pllLosses b) + 1) (2 ^ 32 - 1) ∧ (s.pllLost b cc).reg (pllLossLast b) = s.stampCc cc := by
  obtain ⟨⟨hs, hs'⟩, ⟨hn, hn'⟩, hl, hl'⟩ := pll_range b
  refine ⟨(s.pllLost_regs b cc _ h hs hs').trans ?_, (s.pllLost_regs b cc _ h hn hn').trans ?_, (s.pllLost_regs b cc _ h hl hl').trans (if_pos rfl)⟩
  · cases b <;> rfl
  · cases b <;> rfl

/-- Registers of the clocks that a lost lock does not name stay. -/
theorem State.pllLost_other (b : Bool) (cc k : Nat) (hl : 0x600000 ≤ k) (hu : k < 0x610000) (hk : k ∉ [pllState b, pllLosses b, pllLossLast b]) :
    (s.pllLost b cc).reg k = s.reg k := by
  simp only [List.mem_cons, List.not_mem_nil, or_false, not_or] at hk
  by_cases h : s.reg (pllState b) = 2
  · rw [s.pllLost_regs b cc k h hl hu, if_neg hk.2.2, if_neg hk.2.1, if_neg hk.1]
  · rw [s.pllLost_unlocked b cc h]

/-! ### REFCLK (R314, R326) -/

/-- REFCLK's loss as counted. -/
def State.refCounted : State := (s.put K.REF_STATE 0).count K.REF_LOSSES

/-- The clocks without REFCLK: both detectors start anew and every output is held. -/
def Clocks.withoutRef (c : Clocks) : Clocks :=
  { c with a := { c.a with good := 0, skip := false }, b := { c.b with good := 0, skip := false }, outs := c.outs.map fun o => { o with held := true, phase := none } }

/-- Losing REFCLK: both locks are lost in turn, and every clock output is held. -/
theorem State.refLoss_eq (cc : Nat) (h : s.reg K.REF_STATE = 1) (u : State) (hu : u = (s.refCounted.pllLost false cc).pllLost true cc) :
    s.refLoss cc = ({ u with pipe := { u.pipe with caught := false } } : State).setClk u.clk.withoutRef := by
  have hpresent : ¬ (!s.refPresent) = true := by simp [State.refPresent, h]
  have hcounted : (s.put K.REF_STATE 0).count K.REF_LOSSES = s.refCounted := rfl
  unfold State.refLoss
  rw [if_neg hpresent]
  dsimp only
  rw [hcounted, ← hu]
  rfl

theorem State.refCounted_other (k : Nat) (hk : k ≠ K.REF_STATE ∧ k ≠ K.REF_LOSSES) : s.refCounted.reg k = s.reg k := by
  rw [State.refCounted, State.count, State.reg_put_ne _ _ _ _ hk.2, State.reg_put_ne _ _ _ _ hk.1]

/-- Both detectors' registers after a loss of REFCLK: each goes by its own lock. -/
theorem State.refLoss_lock (cc : Nat) (b : Bool) (u : State) (hu : u = (s.refCounted.pllLost false cc).pllLost true cc) :
    (s.reg (pllState b) = 2 → u.reg (pllState b) = 3 ∧ u.reg (pllLosses b) = min (s.reg (pllLosses b) + 1) (2 ^ 32 - 1) ∧ u.reg (pllLossLast b) = s.stampCc cc)
    ∧ (s.reg (pllState b) ≠ 2 → u.reg (pllState b) = s.reg (pllState b) ∧ u.reg (pllLosses b) = s.reg (pllLosses b)) := by
  have hstate : s.refCounted.reg (pllState b) = s.reg (pllState b) := s.refCounted_other _ (by cases b <;> decide)
  have hlosses : s.refCounted.reg (pllLosses b) = s.reg (pllLosses b) := s.refCounted_other _ (by cases b <;> decide)
  obtain ⟨⟨hs, hs'⟩, ⟨hn, hn'⟩, hl, hl'⟩ := pll_range b
  subst hu
  cases b with
  | false =>
    rw [State.pllLost_other _ true cc _ hs hs' (by decide), State.pllLost_other _ true cc _ hn hn' (by decide), State.pllLost_other _ true cc _ hl hl' (by decide)]
    refine ⟨fun h => ?_, fun h => ?_⟩
    · rw [← hlosses]
      exact s.refCounted.pllLost_shows false cc (hstate.trans h)
    · rw [s.refCounted.pllLost_unlocked false cc (by rwa [hstate])]
      exact ⟨hstate, hlosses⟩
  | true =>
    have hfirst : (s.refCounted.pllLost false cc).reg (pllState true) = s.reg (pllState true)
        ∧ (s.refCounted.pllLost false cc).reg (pllLosses true) = s.reg (pllLosses true) :=
      ⟨(State.pllLost_other _ false cc _ hs hs' (by decide)).trans hstate, (State.pllLost_other _ false cc _ hn hn' (by decide)).trans hlosses⟩
    refine ⟨fun h => ?_, fun h => ?_⟩
    · have hstamp : (s.refCounted.pllLost false cc).stampCc cc = s.stampCc cc := s.refCounted.pllLost_stamp cc cc
      rw [← hfirst.2, ← hstamp]
      exact State.pllLost_shows _ true cc (hfirst.1.trans h)
    · rw [State.pllLost_unlocked _ true cc (by rwa [hfirst.1])]
      exact hfirst

/-- Losing REFCLK, with what follows of the locks lost. -/
theorem State.refLost_shows (cc : Nat) (h : s.reg K.REF_STATE = 1) : (∀ o ∈ (s.refLost cc).clk.outs, o.held = true ∧ o.phase = none)
    ∧ ∀ k, 0x600000 ≤ k → k < 0x610000 → (s.refLost cc).reg k = ((s.refCounted.pllLost false cc).pllLost true cc).reg k := by
  obtain ⟨u, hu⟩ : ∃ u, u = (s.refCounted.pllLost false cc).pllLost true cc := ⟨_, rfl⟩
  have hloss := s.refLoss_eq cc h u hu
  have hregs : ∀ k, (s.refLoss cc).reg k = u.reg k := fun k => by rw [hloss]; rfl
  have hopen : (s.refLoss cc).lockedA = false := by
    have hlock := s.refLoss_lock cc false u hu
    simp only [State.lockedA, hregs, beq_eq_false_iff_ne]
    by_cases h2 : s.reg (pllState false) = 2
    · exact fun h3 => absurd ((hlock.1 h2).1.symm.trans h3) (by decide)
    · exact fun h3 => h2 ((hlock.2 h2).1.symm.trans h3)
  have hstay := (s.refLoss cc).lockFollow_clocksStay s.lockedA s.lockedB (.inr hopen)
  rw [← hu]
  refine ⟨?_, fun k hl hk => (hstay.2 k hl hk).trans (hregs k)⟩
  have houts : (s.refLost cc).clk.outs = u.clk.outs.map fun o => { o with held := true, phase := none } := by
    rw [State.refLost, hstay.1, hloss]
    rfl
  intro o ho
  rw [houts] at ho
  obtain ⟨x, -, rfl⟩ := List.mem_map.mp ho
  exact ⟨rfl, rfl⟩

/-! ### The detectors (R318, R319) -/

section
variable {s} {b : Bool} {d : Int} {cc : Nat}

/-- A window that counts, with its difference left. -/
theorem State.pllWindow_counted (hr : s.reg K.REF_STATE = 1) (hs : s.reg (pllState b) ≠ 0) (hk : (s.pll b).skip = false) (u : State) (hu : u = s.putI 16 (pllDiff b) d) :
    s.pllWindow b d cc = if s.reg (pllState b) = 2 then (if 8 < d.natAbs then u.pllLost b cc else u)
      else if (if d.natAbs ≤ 2 then (s.pll b).good + 1 else 0) = 4 then
        if b then (u.setPll b { s.pll b with good := 0 }).put (pllState b) 2
        else ((u.setPll b { s.pll b with good := 0 }).put (pllState b) 2).setClk { ((u.setPll b { s.pll b with good := 0 }).put (pllState b) 2).clk with declared := true }
      else u.setPll b { s.pll b with good := if d.natAbs ≤ 2 then (s.pll b).good + 1 else 0 } := by
  have hcounts : ¬ (s.reg (pllState b) = 0 ∨ (!s.refPresent) = true) := by simp [hs, State.refPresent, hr]
  have hpll : (s.putI 16 (pllDiff b) d).pll b = s.pll b := by cases b <;> rfl
  have hstate : (s.putI 16 (pllDiff b) d).reg (pllState b) = s.reg (pllState b) := s.reg_put_ne _ _ _ (by cases b <;> decide)
  subst hu
  simp only [State.pllWindow, if_neg hcounts, hpll, hk, hstate, Bool.false_eq_true, if_false]

theorem exec_pllWindowEnd (hc : s.mode.coreRuns = true) (c : Fin 2800) :
    exec (.pllWindowEnd b d c) s = .next ((s.pllWindow b d c).lockFollow s.lockedA s.lockedB).settle := by
  calc exec (.pllWindowEnd b d c) s = .next (s.core fun s => s.pllWindowEnd b d c).settle := rfl
    _ = _ := by rw [s.core_on _ hc]; rfl

/-- A window that leaves both states leaves nothing to follow. -/
theorem State.putI_diff_still (x : State) (hx : x.objs = (s.putI 16 (pllDiff b) d).objs) : x.lockFollow s.lockedA s.lockedB = x :=
  s.lockFollow_still ((State.reg_congr _ _ hx _).trans (s.reg_put_ne _ _ _ (by cases b <;> decide)))
    ((State.reg_congr _ _ hx _).trans (s.reg_put_ne _ _ _ (by cases b <;> decide)))

/-- Outside BOOT a lock that is gained has nothing to follow it. -/
theorem State.lockFollow_gained (x : State) (hm : x.mode ≠ .boot) (ha : s.lockedA = true → x.lockedA = true) (hb : s.lockedB = true → x.lockedB = true) :
    x.lockFollow s.lockedA s.lockedB = x := by
  have hboot : x.bootLocked = x := if_pos (.inl hm)
  have hA : (s.lockedA && !x.lockedA) = false := by cases h : s.lockedA <;> simp_all
  have hB : (s.lockedB && !x.lockedB) = false := by cases h : s.lockedB <;> simp_all
  simp only [State.lockFollow, hboot, ite_self, hA, hB, Bool.false_eq_true, if_false]

end

/-- A clock output's setting as committed. -/
theorem State.clkReconfig_takes (o : Nat) (hd : (s.clk.outs.getD o {}).due = true) (hf : (s.clk.outs.getD o {}).fresh = false) : ∃ n : ClkOut,
    s.clkReconfig o = s.setClk { s.clk with outs := setAt {} s.clk.outs o n } ∧ n.en = (s.reg (K.CLK_EN o) == 1) ∧ n.src = s.reg (K.CLK_SRC o)
      ∧ n.fmt = s.reg (K.CLK_FMT o) ∧ n.div = s.reg (K.CLK_DIV o) ∧ n.due = false := by
  have hdue : ¬ (!(s.clk.outs.getD o {}).due || (s.clk.outs.getD o {}).fresh) = true := by simp only [hd, hf]; decide
  unfold State.clkReconfig
  rw [if_neg hdue]
  exact ⟨_, rfl, rfl, rfl, rfl, rfl, rfl⟩

end

/-- Settles O36: a lost REFCLK by the two locks in turn, a detector window by its cases. -/
theorem referenceAndLocks : Obligations.ReferenceAndLocks := by
  refine ⟨fun s cc h _ _ => ?_, fun s => ⟨fun h => ?_, fun h => ?_⟩, fun s hc => ⟨fun hl hs => ?_, fun hl => ?_⟩, ?_, fun s hc hm => ⟨fun hs ht => ?_, fun hs ht => ?_⟩,
    fun s o hc hd hf => ?_⟩
  · obtain ⟨houts, hregs⟩ := s.refLost_shows cc h
    have hexec : exec (.refclkLoss cc) s = .next (s.refLost cc).settle := rfl
    refine ⟨s.refLost cc, hexec, ?_, ?_, houts, fun b => ?_⟩
    · rw [hregs _ (by decide) (by decide), State.pllLost_other _ _ _ _ (by decide) (by decide) (by decide), State.pllLost_other _ _ _ _ (by decide) (by decide) (by decide)]
      exact (State.reg_put_ne _ _ _ _ (by decide)).trans (State.reg_put_self _ _ _)
    · rw [hregs _ (by decide) (by decide), State.pllLost_other _ _ _ _ (by decide) (by decide) (by decide), State.pllLost_other _ _ _ _ (by decide) (by decide) (by decide)]
      rw [State.refCounted, State.count, State.reg_put_self, s.reg_put_ne _ _ _ (by decide)]
      rfl
    · obtain ⟨⟨hs, hs'⟩, ⟨hn, hn'⟩, hl, hl'⟩ := pll_range b
      rw [hregs _ hs hs', hregs _ hn hn', hregs _ hl hl']
      exact s.refLoss_lock cc b _ rfl
  · have hexec : exec .refclkReturn s = .next s.refReturn.settle := rfl
    rw [hexec, State.refReturn, if_neg (by simp [State.refPresent, h])]
  · have hexec : exec .refclkReturn s = .next s.refReturn.settle := rfl
    rw [hexec, State.refReturn, if_pos (by simp [State.refPresent, h])]
  · have hexec : exec .lockedTickResume s = .next (s.core State.tickResume).settle := rfl
    rw [hexec, s.core_on _ hc, State.tickResume, if_pos (by simp [hl, hs])]
  · have hexec : exec .lockedTickResume s = .next (s.core State.tickResume).settle := rfl
    rw [hexec, s.core_on _ hc, State.tickResume, if_neg (by rcases hl with hl | hl <;> simp [hl])]
  · intro s b d cc u w hc hr hs hk hu hw
    have hwin := State.pllWindow_counted (cc := cc) hr hs hk u hu
    have hobjs : u.objs = (s.putI 16 (pllDiff b) d).objs := by rw [hu]
    have hlow : ∀ k, k ≠ pllDiff b → u.reg k = s.reg k := fun k hk => by rw [hu]; exact s.reg_put_ne _ _ _ hk
    refine ⟨fun h2 hd => ?_, fun h2 hd _ _ => ?_, fun h2 hd => ?_, fun h2 hd hg => ?_, fun h2 hd hg hm => ?_⟩
    · rw [exec_pllWindowEnd hc, hwin, if_pos h2, if_neg (not_lt.mpr hd), State.putI_diff_still u hobjs]
    · have hstate : u.reg (pllState b) = 2 := (hlow _ (by cases b <;> decide)).trans h2
      have hopen : s.lockedA = true ∨ (u.pllLost b cc).lockedA = false := by
        cases b with
        | false => exact .inl (beq_iff_eq.mpr h2)
        | true =>
          have hkept : (u.pllLost true cc).reg K.PLLA_STATE = s.reg K.PLLA_STATE := (u.pllLost_other true cc _ (by decide) (by decide) (by decide)).trans (hlow _ (by decide))
          cases hA : s.lockedA with
          | true => exact .inl rfl
          | false => exact .inr (by rw [State.lockedA, hkept]; exact hA)
      obtain ⟨-, hstay⟩ := (u.pllLost b cc).lockFollow_clocksStay s.lockedA s.lockedB hopen
      obtain ⟨⟨hs1, hs2⟩, ⟨hn, hn'⟩, hl, hl'⟩ := pll_range b
      obtain ⟨hlost, hcount, hstamp⟩ := u.pllLost_shows b cc hstate
      refine ⟨_, exec_pllWindowEnd hc cc, ?_⟩
      rw [hwin, if_pos h2, if_pos hd, hstay _ hs1 hs2, hstay _ hn hn', hstay _ hl hl', hlost, hcount, hstamp, hlow _ (by cases b <;> decide)]
      have hdiff : (u.pllLost b cc).reg (pllDiff b) = ofSigned 16 d := by
        rw [u.pllLost_other b cc _ (by cases b <;> decide) (by cases b <;> decide) (by cases b <;> decide), hu]
        exact State.reg_put_self _ _ _
      exact ⟨rfl, (hstay _ (by cases b <;> decide) (by cases b <;> decide)).trans hdiff, rfl, by rw [hu]; rfl⟩
    · have hfew : (if d.natAbs ≤ 2 then (s.pll b).good + 1 else 0) = 0 := if_neg (not_le.mpr hd)
      rw [exec_pllWindowEnd hc, hwin, if_neg h2, hfew, if_neg (by decide), State.putI_diff_still _ (by rw [← hobjs]; rfl)]
    · have hfew : (if d.natAbs ≤ 2 then (s.pll b).good + 1 else 0) = (s.pll b).good + 1 := if_pos hd
      rw [exec_pllWindowEnd hc, hwin, if_neg h2, hfew, if_neg (by omega), State.putI_diff_still _ (by rw [← hobjs]; rfl)]
    · have hfew : (if d.natAbs ≤ 2 then (s.pll b).good + 1 else 0) = 4 := by rw [if_pos hd, hg]
      rw [exec_pllWindowEnd hc, hwin, if_neg h2, hfew, if_pos rfl, ← hw]
      have hset : ∀ x : State, x = (if b = true then w else w.setClk { w.clk with declared := true }) → x.mode = s.mode ∧ ∀ k, x.reg k = if k = pllState b then 2 else u.reg k := by
        intro x hx
        have hreg : ∀ k, w.reg k = if k = pllState b then 2 else u.reg k := fun k => by
          rw [hw, State.reg_put]
          rfl
        have hmode : w.mode = s.mode := by rw [hw, hu]; rfl
        rw [hx]
        split
        · exact ⟨hmode, hreg⟩
        · exact ⟨hmode, hreg⟩
      obtain ⟨hmode, hregs⟩ := hset _ rfl
      have hkept : ∀ k, k ≠ pllDiff b → s.reg k = 2 → (if b = true then w else w.setClk { w.clk with declared := true }).reg k = 2 := fun k hk h => by
        rw [hregs]
        split
        · rfl
        · exact (hlow k hk).trans h
      rw [State.lockFollow_gained _ (by rwa [hmode]) (fun hA => ?_) fun hB => ?_]
      · exact beq_iff_eq.mpr (hkept K.PLLA_STATE (by cases b <;> decide) (beq_iff_eq.mp hA))
      · exact beq_iff_eq.mpr (hkept K.PLLB_STATE (by cases b <;> decide) (beq_iff_eq.mp hB))
  · have hexec : exec (.pllFailTimeout false) s = .next (s.core fun s => s.pllFailed false).settle := rfl
    have hfail : s.pllFail false = s.put K.PLLA_STATE 4 := if_pos (by rw [Bool.and_eq_true, Bool.or_eq_true]; exact ⟨decide_eq_true hs, .inl (decide_eq_true ht)⟩)
    have hboot : (s.put K.PLLA_STATE 4).bootFailed = s.put K.PLLA_STATE 4 := if_pos (.inl hm)
    simp only [hexec, s.core_on _ hc, State.pllFailed, hfail, hboot, ite_self]
  · have hexec : exec (.pllFailTimeout true) s = .next (s.core fun s => s.pllFailed true).settle := rfl
    have hfail : s.pllFail true = (s.put K.PLLB_STATE 4).putBit K.BOOT_STATUS 8 true :=
      if_pos (by rw [Bool.and_eq_true, Bool.or_eq_true]; exact ⟨decide_eq_true hs, .inl (decide_eq_true ht)⟩)
    rw [hexec, s.core_on _ hc, State.pllFailed, hfail]
    rfl
  · obtain ⟨n, hn, hrest⟩ := s.clkReconfig_takes o hd hf
    have hexec : exec (.clkoutReconfig o) s = .next (s.core fun s => s.clkReconfig o).settle := rfl
    rw [hexec, s.core_on _ hc, hn]
    exact ⟨n, rfl, hrest⟩

end Sys2Proof.Machine
end

section
/-! PROOFS. Chapter 13: the HK sequence, its triggers and its conversions. -/

namespace Sys2Proof.Machine

/-! ### Triggers and the timer (R334) -/

section
variable (s : State)

/-- What a trigger of an armed kind does: it starts the entry that waits for it, is an overrun, or latches. -/
def State.hkTriggered (u : State) (k : Nat) : State :=
  if u.reg K.HK_STATE = 2 ∧ hkWait (u.hkEntryWord (u.reg K.HK_ENTRY)) = k then u.hkBegin
  else if u.regBit K.TRIG_LATCHED (k - 1) = true then u.put K.TRIG_OVERRUN (min (u.reg K.TRIG_OVERRUN + 1) (2 ^ 32 - 1))
  else u.putBit K.TRIG_LATCHED (k - 1) true

theorem State.hkArrive_armed (k : Nat) (ho : s.hk.on = true) (ha : s.hkArmed k = true) : s.hkArrive k = s.hkTriggered k := by
  have harmed : ¬ (!s.hk.on || !s.hkArmed k) = true := by simp [ho, ha]
  simp only [State.hkArrive, if_neg harmed, State.hkTriggered, Bool.and_eq_true, decide_eq_true_eq, beq_iff_eq]
  rfl

theorem State.hkArrive_idle (k : Nat) (ha : s.hkArmed k = false) : s.hkArrive k = s := if_pos (by rw [ha, Bool.not_false, Bool.or_true])

/-- What a step of the sequencer leaves to decide a trigger by. -/
theorem State.hkTriggered_of (h : Hk) (k : Nat) : (s.setHk h).hkTriggered k =
    if s.reg K.HK_STATE = 2 ∧ hkWait (s.hkEntryWord (s.reg K.HK_ENTRY)) = k then
      ((s.setHk h).put K.HK_STATE 1).setHk { h with started := true, retried := h.aborted, aborted := false, vals := [], open_ := 0 }
    else if s.regBit K.TRIG_LATCHED (k - 1) = true then (s.setHk h).put K.TRIG_OVERRUN (min (s.reg K.TRIG_OVERRUN + 1) (2 ^ 32 - 1))
    else (s.setHk h).putBit K.TRIG_LATCHED (k - 1) true := rfl

/-- A trigger meets the sequencer in whatever step `h` has left it. -/
theorem State.hkArrive_of (h : Hk) (k : Nat) (ho : h.on = true) : (s.hkArmed k = true → (s.setHk h).hkArrive k = (s.setHk h).hkTriggered k)
    ∧ (s.hkArmed k = false → (s.setHk h).hkArrive k = s.setHk h) :=
  ⟨fun ha => (s.setHk h).hkArrive_armed k ho ha, fun ha => (s.setHk h).hkArrive_idle k ha⟩

theorem State.hkTrigger_one (k : Nat) (u : State) (hu : u = s.setHk { s.hk with tickDue := false, markDue := 0 })
    (h : s.hk.tickDue = true ∧ s.hk.markDue = 0 ∧ k = 1 ∨ s.hk.tickDue = false ∧ s.hk.markDue = 1 ∧ k = 2) : s.hkTrigger = u.hkArrive k := by
  subst hu
  rcases h with ⟨ht, hm, rfl⟩ | ⟨ht, hm, rfl⟩
  · simp only [State.hkTrigger, ht, hm]
    rfl
  · simp only [State.hkTrigger, ht, hm]
    rfl

theorem State.hkTrigger_none (ht : s.hk.tickDue = false) (hm : s.hk.markDue = 0) : s.hkTrigger = s := by
  have hsame : s.setHk { s.hk with tickDue := false, markDue := 0 } = s := by
    rw [← ht, ← hm]
    rfl
  simp only [State.hkTrigger, ht, hm, hsame]
  rfl

variable {s} (hc : s.mode.coreRuns = true)
include hc

theorem exec_hkTrigger : exec .hkTrigger s = .next s.hkTrigger.settle := by
  calc exec .hkTrigger s = .next (s.core State.hkTrigger).settle := rfl
    _ = _ := by rw [s.core_on _ hc]

theorem exec_hkTimerExpire : exec .hkTimerExpire s = .next s.hkTimerExpire.settle := by
  calc exec .hkTimerExpire s = .next (s.core State.hkTimerExpire).settle := rfl
    _ = _ := by rw [s.core_on _ hc]

theorem exec_hkEntry (cc : Fin 2800) : exec (.hkEntry cc) s = .next (s.hkEntry cc).settle := by
  calc exec (.hkEntry cc) s = .next (s.core fun s => s.hkEntry cc).settle := rfl
    _ = _ := by rw [s.core_on _ hc]

theorem exec_hkConversionDone (r : HkReading) : exec (.hkConversionDone r) s = .next (s.hkConversion r).settle := by
  calc exec (.hkConversionDone r) s = .next (s.core fun s => s.hkConversion r).settle := rfl
    _ = _ := by rw [s.core_on _ hc]

end

/-! ### Entries (R332, R334) -/

section
variable (s : State)

/-- An entry of the sequence that converts is reached at once. -/
theorem State.hkEntry_reached (cc : Nat) (ho : s.hk.on = true) (hs : s.hk.started = false) (hu : s.hk.urgent = []) (he : s.reg K.HK_ENTRY < s.reg K.HK_SEQ_LEN)
    (hr : hkRepeat (s.hkEntryWord (s.reg K.HK_ENTRY)) ≠ 0) : s.hkEntry cc = s.hkReach := by
  have hlive : s.hkLive.isEmpty = false := by
    have hmem : s.reg K.HK_ENTRY ∈ s.hkLive := List.mem_filter.mpr ⟨List.mem_range.mpr he, by simpa using hr⟩
    cases hl : s.hkLive with
    | nil => rw [hl] at hmem; exact absurd hmem List.not_mem_nil
    | cons a l => rfl
  have hfree : ¬ (!s.hk.on || s.hk.started || !s.hk.urgent.isEmpty) = true := by simp [ho, hs, hu]
  simp only [State.hkEntry, if_neg hfree, hlive, Bool.false_eq_true, if_false, State.hkSeek, if_neg hr]

theorem State.hkReach_now (h : hkWait (s.hkEntryWord (s.reg K.HK_ENTRY)) = 0 ∨ s.hk.aborted = true) : s.hkReach = s.hkBegin :=
  if_pos (by simpa using h)

theorem State.hkReach_waits (hw : hkWait (s.hkEntryWord (s.reg K.HK_ENTRY)) ≠ 0) (ha : s.hk.aborted = false) : s.hkReach =
    if s.regBit K.TRIG_LATCHED (hkWait (s.hkEntryWord (s.reg K.HK_ENTRY)) - 1) = true then
      (s.putBit K.TRIG_LATCHED (hkWait (s.hkEntryWord (s.reg K.HK_ENTRY)) - 1) false).hkBegin
    else s.put K.HK_STATE 2 := if_neg (by simp [hw, ha])

end

/-! ### Conversions (R331 to R333, R346, R348) -/

section
variable (s : State)

theorem State.sense_keeps (n : Nat) (x : Rat) : s.keeps (s.sense n x) [K.SENS_OUT n, K.SENS_FLAGS n] := by
  unfold State.sense
  extract_lets t p bad u
  have hflags : s.keeps u [K.SENS_OUT n, K.SENS_FLAGS n] := (State.keeps.refl s _).put _ _ (by simp)
  split
  · exact hflags
  · exact hflags.put _ _ (by simp)

@[simp] theorem State.sense_hk (n : Nat) (x : Rat) : (s.sense n x).hk = s.hk := by
  unfold State.sense
  extract_lets
  split <;> rfl

/-- The entry's value as the pass writes it. -/
def State.hkResult (w : Nat) : Nat :=
  hkWord (hkGroup (hkInput w)) (if hkRange w = 3 then s.hk.gain * 2 ^ 14 + ofSigned 14 (rhe (hkCombine (hkAvg w) false s.hk.vals))
    else ofSigned 16 (rhe (hkCombine (hkAvg w) false s.hk.vals))) (s.reg K.HK_PASS) s.hk.retried false (hkRange w == 3)

/-- The registers of an entry's result. -/
def resultKeys (e input : Nat) : List Nat :=
  [K.HK_RESULT e, K.HK_STAMP e] ++ if input ≤ 7 then [K.SENS_OUT (7 + input), K.SENS_FLAGS (7 + input)] else []

/-- An entry's result stands above the sequence's own registers. -/
theorem resultKeys_low (e input k : Nat) (hk : k < 0x681000) : k ∉ resultKeys e input := by
  simp only [resultKeys, K.HK_RESULT, K.HK_STAMP, K.SENS_OUT, K.SENS_FLAGS]
  split
  · simp only [List.mem_append, List.mem_cons, List.not_mem_nil, or_false]
    omega
  · simp only [List.append_nil, List.mem_cons, List.not_mem_nil, or_false]
    omega

/-- An entry that is no RTD's writes its result and its stamp, and evaluates its sensor. -/
theorem State.hkWrite_eq (e cc w : Nat) (hw : w = s.hkEntryWord e) (hnot : ¬ (hkInput w = 21 ∨ hkInput w = 22)) : ∃ x : Rat,
    s.hkWrite e cc = if hkInput w ≤ 7 then ((s.put (K.HK_RESULT e) (s.hkResult w)).put (K.HK_STAMP e) (s.hkStampOf cc)).sense (7 + hkInput w) x
      else (s.put (K.HK_RESULT e) (s.hkResult w)).put (K.HK_STAMP e) (s.hkStampOf cc) := by
  have hplain : (hkInput w == 21 || hkInput w == 22) = false := by simpa using hnot
  have hstampOf : ∀ k v, (s.put k v).hkStampOf cc = s.hkStampOf cc := fun k v => rfl
  refine ⟨hkCombine (hkAvg w) false s.hk.vals * hkStep (hkRange w == 3) (if hkRange w = 3 then s.hk.gain else hkRange w), ?_⟩
  by_cases h3 : hkRange w = 3
  · simp only [State.hkWrite, ← hw, hplain, State.hkValue, if_neg hnot, h3, State.hkResult, Bool.not_false, Bool.and_true, Bool.false_and, beq_self_eq_true, if_true, hstampOf]
  · have hfixed : (hkRange w == 3) = false := beq_eq_false_iff_ne.mpr h3
    simp only [State.hkWrite, ← hw, hplain, State.hkValue, if_neg hnot, hfixed, if_neg h3, State.hkResult, Bool.not_false, Bool.and_true, Bool.false_and, Bool.false_eq_true,
      if_false, hstampOf]

/-- What a written result leaves in the registers. -/
theorem State.resultPut (e v t input : Nat) : ((s.put (K.HK_RESULT e) v).put (K.HK_STAMP e) t).reg (K.HK_RESULT e) = v
    ∧ ((s.put (K.HK_RESULT e) v).put (K.HK_STAMP e) t).reg (K.HK_STAMP e) = t ∧ ((s.put (K.HK_RESULT e) v).put (K.HK_STAMP e) t).hk = s.hk ∧ s.keeps ((s.put (K.HK_RESULT e) v).put (K.HK_STAMP e) t) (resultKeys e input) := by
  have hne : K.HK_RESULT e ≠ K.HK_STAMP e := by simp only [K.HK_RESULT, K.HK_STAMP]; omega
  exact ⟨(State.reg_put_ne _ _ _ _ hne).trans (State.reg_put_self _ _ _), State.reg_put_self _ _ _, rfl,
    ((State.keeps.refl s _).put _ _ (by simp [resultKeys])).put _ _ (by simp [resultKeys])⟩

/-- A sensor's evaluation touches no entry's result and no stamp. -/
theorem sensKeys_apart (e n : Nat) (_he : e < 64) : K.HK_RESULT e ∉ [K.SENS_OUT n, K.SENS_FLAGS n] ∧ K.HK_STAMP e ∉ [K.SENS_OUT n, K.SENS_FLAGS n] := by
  simp only [List.mem_cons, List.not_mem_nil, or_false, K.HK_RESULT, K.HK_STAMP, K.SENS_OUT, K.SENS_FLAGS]
  omega

theorem State.hkWrite_plain (e cc w : Nat) (he : e < 64) (hw : w = s.hkEntryWord e) (hnot : ¬ (hkInput w = 21 ∨ hkInput w = 22)) :
    (s.hkWrite e cc).hk = s.hk ∧ (s.hkWrite e cc).reg (K.HK_RESULT e) = s.hkResult w ∧ (s.hkWrite e cc).reg (K.HK_STAMP e) = s.hkStampOf cc
      ∧ s.keeps (s.hkWrite e cc) (resultKeys e (hkInput w)) := by
  obtain ⟨x, hwrite⟩ := s.hkWrite_eq e cc w hw hnot
  obtain ⟨hres, hstamp, hhk, hkeeps⟩ := s.resultPut e (s.hkResult w) (s.hkStampOf cc) (hkInput w)
  rw [hwrite]
  generalize (s.put (K.HK_RESULT e) (s.hkResult w)).put (K.HK_STAMP e) (s.hkStampOf cc) = u at *
  by_cases hi : hkInput w ≤ 7
  · have hsense := u.sense_keeps (7 + hkInput w) x
    obtain ⟨ha, ha'⟩ := sensKeys_apart e (7 + hkInput w) he
    rw [if_pos hi]
    exact ⟨(u.sense_hk _ _).trans hhk, (hsense _ ha).trans hres, (hsense _ ha').trans hstamp, hkeeps.trans (hsense.mono (by simp [resultKeys, hi]))⟩
  · rw [if_neg hi]
    exact ⟨hhk, hres, hstamp, hkeeps⟩

/-- The next entry, or the first one of the next pass. -/
theorem State.hkNext_within (e cc : Nat) (h : e + 1 < s.reg K.HK_SEQ_LEN) : s.hkNext e cc = s.put K.HK_ENTRY (e + 1) := if_pos h

theorem State.hkNext_wraps (e cc : Nat) (h : s.reg K.HK_SEQ_LEN ≤ e + 1) : (s.hkNext e cc).reg K.HK_ENTRY = 0 ∧ (s.hkNext e cc).reg K.HK_PASS = (s.reg K.HK_PASS + 1) % 2 ^ 32
    ∧ s.keeps (s.hkNext e cc) [K.HK_ENTRY, K.HK_PASS, K.HK_PASS_TIME] := by
  unfold State.hkNext
  rw [if_neg (not_lt.mpr h)]
  extract_lets t
  have hregs : ∀ k, ((((s.tally K.HK_PASS).put K.HK_PASS_TIME t).put K.HK_ENTRY 0).setHk { s.hk with passAt := cc }).reg k =
      if k = K.HK_ENTRY then 0 else if k = K.HK_PASS_TIME then t else if k = K.HK_PASS then (s.reg K.HK_PASS + 1) % 2 ^ 32 else s.reg k := fun k => by
    calc _ = (((s.tally K.HK_PASS).put K.HK_PASS_TIME t).put K.HK_ENTRY 0).reg k := rfl
      _ = _ := by
        simp only [State.tally, State.reg_put]
        rfl
  refine ⟨(hregs _).trans rfl, (hregs _).trans rfl, fun k hk => ?_⟩
  simp only [List.mem_cons, List.not_mem_nil, or_false, not_or] at hk
  rw [hregs, if_neg hk.1, if_neg hk.2.2, if_neg hk.2.1]

theorem State.hkNext_keeps (e cc : Nat) : s.keeps (s.hkNext e cc) [K.HK_ENTRY, K.HK_PASS, K.HK_PASS_TIME] := by
  by_cases h : e + 1 < s.reg K.HK_SEQ_LEN
  · rw [s.hkNext_within e cc h]
    exact (State.keeps.refl s _).put _ _ (by simp)
  · exact (s.hkNext_wraps e cc (not_lt.mp h)).2.2

/-- A conversion of an entry that has the sequencer is taken. -/
def State.hkTaken (r : HkReading) (q : Rat × State) : State := q.2.setHk { q.2.hk with vals := q.2.hk.vals ++ [q.1], open_ := q.2.hk.open_ ||| r.leads }

/-- An entry whose conversions are in ends. -/
def State.hkEnded (e cc : Nat) : State :=
  ((s.hkWrite e cc).hkNext e cc).setHk { ((s.hkWrite e cc).hkNext e cc).hk with started := false, retried := false, vals := [], open_ := 0 }

/-- The state that the first conversion of an entry has chosen its gain in. -/
def State.hkGained (r : HkReading) : State := if s.hk.vals = [] then s.setHk { s.hk with gain := autoGain r.coarse } else s

theorem State.hkEnded_shows (e cc : Nat) : (s.hkEnded e cc).hk.started = false ∧ (s.hkEnded e cc).hk.vals = []
    ∧ ∀ k, (s.hkEnded e cc).reg k = ((s.hkWrite e cc).hkNext e cc).reg k := ⟨rfl, rfl, fun _ => rfl⟩

theorem State.hkRead_leads (input range : Nat) (r : HkReading) : (s.hkRead input range r).leads = r.leads ∧ (s.hkRead input range r).cc = r.cc := by
  unfold State.hkRead
  split
  · exact ⟨rfl, rfl⟩
  · exact ⟨rfl, rfl⟩

/-- A conversion of the entry in progress. -/
theorem State.hkConversion_eq (r rr : HkReading) (e w : Nat) (q : Rat × State) (u : State) (ho : s.hk.on = true) (hs : s.hk.started = true) (hu : s.hk.urgent = [])
    (he : e = s.reg K.HK_ENTRY) (hw : w = s.hkEntryWord e) (hr : rr = s.hkRead (hkInput w) (hkRange w) r)
    (hq : q = if hkInput w = 21 ∨ hkInput w = 22 then (s.hkGained rr).rtdConvert (hkInput w - 21) rr else (rr.code, s.hkGained rr)) (hu' : u = State.hkTaken rr q) :
    s.hkConversion r = if u.hk.vals.length < hkRepeat w then u else u.hkEnded e r.cc := by
  have hfree : ¬ (!s.hk.on || !s.hk.started || !s.hk.urgent.isEmpty) = true := by simp [ho, hs, hu]
  have hcc : rr.cc = r.cc := hr ▸ (s.hkRead_leads _ _ r).2
  have hgain : (if s.hk.vals.isEmpty = true then s.setHk { s.hk with gain := autoGain rr.coarse } else s) = s.hkGained rr :=
    ite_congr (propext List.isEmpty_iff) (fun _ => rfl) fun _ => rfl
  subst hu'
  simp only [State.hkConversion, if_neg hfree, ← he, ← hw, ← hr, hgain, ← hq, hcc]
  rfl

/-! ### Open leads (R348) -/

/-- A conversion of an RTD learns of its leads alone. -/
theorem State.rtdConvert_kept (n : Nat) (r : HkReading) : (∃ d, (s.rtdConvert n r).2.hk = { s.hk with rtds := d })
    ∧ s.keeps (s.rtdConvert n r).2 [K.RTD_LEAD_R (2 * n), K.RTD_LEAD_R (2 * n + 1)] := by
  unfold State.rtdConvert
  extract_lets d flip keep lead e t a b
  split_ifs
  · exact ⟨⟨s.hk.rtds, rfl⟩, .refl s _⟩
  · exact ⟨⟨_, rfl⟩, (State.keeps.refl s _).of_objs rfl⟩
  · refine ⟨⟨_, rfl⟩, ((State.keeps.refl s _).of_objs (rfl : (keep s e).objs = s.objs)).put _ _ ?_⟩
    cases d.odd <;> simp [ofBool]

/-- What open leads make of RTD `n`. -/
def State.rtdOpen (n leads : Nat) : State := (s.rtdResult n 0 leads).2

theorem State.rtdResult_open (n : Nat) (ohm : Rat) (leads : Nat) (h : leads ≠ 0) : s.rtdResult n ohm leads = (0xFFFF, s.rtdOpen n leads) := by
  unfold State.rtdOpen State.rtdResult
  simp only [if_pos h]

theorem State.rtdOpen_shows (n leads : Nat) (h : leads ≠ 0) : (s.rtdOpen n leads).reg (K.RTD_STATE n) = 1 ∧ (s.rtdOpen n leads).reg (K.RTD_BREAK_LEADS n) = leads
    ∧ (s.rtdOpen n leads).reg (K.RTD_BREAKS n) = (if s.reg (K.RTD_STATE n) = 1 then s.reg (K.RTD_BREAKS n) else min (s.reg (K.RTD_BREAKS n) + 1) (2 ^ 32 - 1))
    ∧ s.keeps (s.rtdOpen n leads) [K.RTD_STATE n, K.RTD_BREAK_LEADS n, K.RTD_BREAKS n] ∧ ∃ a, (s.rtdOpen n leads).hk = { s.hk with rtdAge := a } := by
  obtain ⟨u, hu, hobjs⟩ : ∃ u : State, u = (if n = 0 then (s.put (K.RTD_BREAK_LEADS n) leads).setHk { (s.put (K.RTD_BREAK_LEADS n) leads).hk with rtdAge := 0 }
      else s.put (K.RTD_BREAK_LEADS n) leads) ∧ u.objs = (s.put (K.RTD_BREAK_LEADS n) leads).objs := by
    refine ⟨_, rfl, ?_⟩
    split <;> rfl
  have hhk : ∃ a, u.hk = { s.hk with rtdAge := a } := by
    rw [hu]
    split
    · exact ⟨0, rfl⟩
    · exact ⟨s.hk.rtdAge, rfl⟩
  have hopen : s.rtdOpen n leads = (u.onlyIf (u.reg (K.RTD_STATE n) != 1) fun s => s.count (K.RTD_BREAKS n)).put (K.RTD_STATE n) 1 := by
    rw [hu]
    simp only [State.rtdOpen, State.rtdResult, if_pos h]
  have hreg : ∀ k, u.reg k = if k = K.RTD_BREAK_LEADS n then leads else s.reg k := fun k => by rw [State.reg_congr _ _ hobjs k, State.reg_put]
  have hkeys : K.RTD_STATE n ≠ K.RTD_BREAK_LEADS n ∧ K.RTD_BREAKS n ≠ K.RTD_BREAK_LEADS n ∧ K.RTD_BREAKS n ≠ K.RTD_STATE n ∧ K.RTD_BREAK_LEADS n ≠ K.RTD_STATE n := by
    simp only [K.RTD_STATE, K.RTD_BREAK_LEADS, K.RTD_BREAKS]
    omega
  obtain ⟨hsl, hbl, hbs, hls⟩ := hkeys
  have hall : ∀ k, (s.rtdOpen n leads).reg k = if k = K.RTD_STATE n then 1 else if k = K.RTD_BREAKS n ∧ s.reg (K.RTD_STATE n) ≠ 1 then incSat 32 (s.reg (K.RTD_BREAKS n))
      else if k = K.RTD_BREAK_LEADS n then leads else s.reg k := fun k => by
    rw [hopen, State.reg_put, State.reg_counted, hreg, hreg, if_neg hsl, hreg, if_neg hbl]
    simp only [bne_iff_ne, ne_eq]
  refine ⟨(hall _).trans (if_pos rfl), ?_, ?_, fun k hk => ?_, ?_⟩
  · rw [hall, if_neg hls, if_neg (fun h => hbl h.1.symm), if_pos rfl]
  · rw [hall, if_neg hbs]
    by_cases h1 : s.reg (K.RTD_STATE n) = 1
    · rw [if_neg (fun h => h.2 h1), if_neg hbl, if_pos h1]
    · rw [if_pos ⟨rfl, h1⟩, if_neg h1]
      rfl
  · simp only [List.mem_cons, List.not_mem_nil, or_false, not_or] at hk
    rw [hall, if_neg hk.1, if_neg (fun h => hk.2.2 h.1), if_neg hk.2.1]
  · obtain ⟨a, ha⟩ := hhk
    refine ⟨a, ?_⟩
    rw [hopen, State.put_hk, ← ha]
    cases (u.reg (K.RTD_STATE n) != 1) <;> rfl

/-- An RTD's entry with an open lead is written as broken. -/
theorem State.hkWrite_open (e cc x : Nat) (hx : x < 2) (hw : hkInput (s.hkEntryWord e) = 21 + x) (ho : s.hk.open_ ≠ 0) : s.hkWrite e cc =
    ((s.rtdOpen x s.hk.open_).put (K.HK_RESULT e) (hkWord 3 0xFFFF ((s.rtdOpen x s.hk.open_).reg K.HK_PASS) (s.rtdOpen x s.hk.open_).hk.retried
      ((s.rtdOpen x s.hk.open_).hk.open_ != 0) false)).put (K.HK_STAMP e) ((s.rtdOpen x s.hk.open_).hkStampOf cc) := by
  have hrtd : (hkInput (s.hkEntryWord e) == 21 || hkInput (s.hkEntryWord e) == 22) = true := by
    simp only [hw, Bool.or_eq_true, beq_iff_eq]
    omega
  have hin : hkInput (s.hkEntryWord e) = 21 ∨ hkInput (s.hkEntryWord e) = 22 := by omega
  have hgroup : hkGroup (hkInput (s.hkEntryWord e)) = 3 := by rcases hin with h | h <;> rw [h] <;> rfl
  have hhigh : ¬ hkInput (s.hkEntryWord e) ≤ 7 := by omega
  have hsub : hkInput (s.hkEntryWord e) - 21 = x := by omega
  have hstampOf : ∀ (u : State) k v, (u.put k v).hkStampOf cc = u.hkStampOf cc := fun u k v => rfl
  simp only [State.hkWrite, hrtd, State.hkValue, if_pos hin, hsub, s.rtdResult_open x _ _ ho, hgroup, if_neg hhigh, Bool.not_true, Bool.and_false, Bool.true_and, hstampOf]

end

/-- Settles O37: a trigger by its own equation, an entry as it is reached, and a conversion by what it gathers or ends. -/
theorem housekeeping : Obligations.Housekeeping := by
  refine ⟨⟨fun s u k hc ho hu h => ?_, fun s hc ht hm => by rw [exec_hkTrigger hc, s.hkTrigger_none ht hm], fun s u hc hu => ?_⟩, fun s cc w hc ho hs hn he hw hr => ?_,
    fun s r rr e w gain n v hc ho hs hn he he' hw h1 h2 hrr hn' hg => ?_, fun s r e x hc ho hs hn he he' hx hin hrep hopen => ?_⟩
  · rw [exec_hkTrigger hc, s.hkTrigger_one k u hu h]
    obtain ⟨harmed, hidle⟩ := s.hkArrive_of { s.hk with tickDue := false, markDue := 0 } k ho
    subst hu
    exact ⟨fun ha => by rw [harmed ha, State.hkTriggered_of]; rfl, fun ha => by rw [hidle ha]⟩
  · subst hu
    have hdue : s.hk.on = true → s.hk.fireAt - s.hk.timer < 4 → s.hkTimerDue = true := fun ho hd => by simp [State.hkTimerDue, ho, hd]
    refine ⟨fun ho hd ha => ?_, fun ho hd ha => ?_, fun h => ?_⟩
    · rw [exec_hkTimerExpire hc, State.hkTimerExpire, if_pos (hdue ho hd), (s.hkArrive_of { s.hk with fireAt := s.hk.fireAt + s.reg K.HK_TIMER } 3 ho).1 ha, State.hkTriggered_of]
      rfl
    · rw [exec_hkTimerExpire hc, State.hkTimerExpire, if_pos (hdue ho hd), (s.hkArrive_of { s.hk with fireAt := s.hk.fireAt + s.reg K.HK_TIMER } 3 ho).2 ha]
    · have hnot : ¬ s.hkTimerDue = true := by
        rcases h with h | h
        · simp [State.hkTimerDue, h]
        · simp [State.hkTimerDue, h]
      rw [exec_hkTimerExpire hc, State.hkTimerExpire, if_neg hnot]
  · subst hw
    rw [exec_hkEntry hc, s.hkEntry_reached cc ho hs hn he hr]
    refine ⟨fun h => by rw [s.hkReach_now h]; rfl, fun hw ha hl => ?_, fun hw ha hl => ?_⟩
    · rw [s.hkReach_waits hw ha, if_pos hl, State.hkBegin]
      simp only [State.putBit, State.put_hk, ha]
    · rw [s.hkReach_waits hw ha, if_neg (by rw [hl]; exact Bool.false_ne_true)]
  · have hnot : ¬ (hkInput w = 21 ∨ hkInput w = 22) := by simp [h1, h2]
    obtain ⟨u, hu⟩ : ∃ u, u = s.setHk { s.hk with gain := gain, vals := s.hk.vals ++ [(rr.code : Rat)], open_ := s.hk.open_ ||| r.leads } := ⟨_, rfl⟩
    have htaken : u = State.hkTaken rr ((rr.code : Rat), s.hkGained rr) := by
      have hleads : rr.leads = r.leads := hrr ▸ (s.hkRead_leads _ _ r).1
      rw [hu, hg, State.hkTaken, State.hkGained, hleads]
      by_cases hv : s.hk.vals = []
      · rw [if_pos hv, if_pos hv]
        rfl
      · rw [if_neg hv, if_neg hv]
    have hconv := s.hkConversion_eq r rr e w _ u ho hs hn he hw hrr (if_neg hnot).symm htaken
    have hlen : u.hk.vals.length = n := by rw [hu, hn', State.setHk_hk, List.length_append, List.length_singleton]
    rw [exec_hkConversionDone hc, hconv, hlen]
    refine ⟨fun hlt => by rw [if_pos hlt, hu], fun hge hv => ?_⟩
    rw [if_neg (not_lt.mpr hge)]
    have hword : w = u.hkEntryWord e := by rw [hu]; exact hw
    obtain ⟨-, hres, hstamp, hkeeps⟩ := u.hkWrite_plain e r.cc w he' hword hnot
    have hsu : ∀ k, u.reg k = s.reg k := fun k => by rw [hu]; rfl
    have hlenKey : (u.hkWrite e r.cc).reg K.HK_SEQ_LEN = s.reg K.HK_SEQ_LEN := (hkeeps _ (resultKeys_low _ _ _ (by decide))).trans (hsu _)
    have hpassKey : (u.hkWrite e r.cc).reg K.HK_PASS = s.reg K.HK_PASS := (hkeeps _ (resultKeys_low _ _ _ (by decide))).trans (hsu _)
    obtain ⟨hstarted, hvals, hregs⟩ := u.hkEnded_shows e r.cc
    have hnext := (u.hkWrite e r.cc).hkNext_keeps e r.cc
    have hresult : u.hkResult w = hkWord (hkGroup (hkInput w)) (if hkRange w = 3 then gain * 2 ^ 14 + ofSigned 14 v else ofSigned 16 v) (s.reg K.HK_PASS) s.hk.retried false
        (hkRange w == 3) := by
      rw [State.hkResult, hsu, hv, hu]
      rfl
    refine ⟨u.hkEnded e r.cc, rfl, hstarted, hvals, ?_, ?_, fun hin => ?_, fun hout => ?_⟩
    · rw [hregs, hnext _ (by simp only [List.mem_cons, List.not_mem_nil, or_false, K.HK_RESULT, K.HK_ENTRY, K.HK_PASS, K.HK_PASS_TIME]; omega), hres, hresult]
    · rw [hregs, hnext _ (by simp only [List.mem_cons, List.not_mem_nil, or_false, K.HK_STAMP, K.HK_ENTRY, K.HK_PASS, K.HK_PASS_TIME]; omega), hstamp, hu]
      rfl
    · have hin' : (u.hkWrite e r.cc).hkNext e r.cc = (u.hkWrite e r.cc).put K.HK_ENTRY (e + 1) := State.hkNext_within _ e r.cc (by rwa [hlenKey])
      rw [hregs, hin']
      refine ⟨State.reg_put_self _ _ _, fun k hk => ?_⟩
      rw [hregs, hin', State.reg_put_ne _ _ _ _ (fun h => hk (by simp [h])), hkeeps k (fun h => hk ?_), hsu]
      rw [resultKeys] at h
      simp only [List.mem_append, List.mem_cons, List.not_mem_nil, or_false] at h ⊢
      rcases h with (h | h) | h
      · exact .inl (.inl h)
      · exact .inl (.inr (.inl h))
      · exact .inr h
    · obtain ⟨hentry, hpass, -⟩ := (u.hkWrite e r.cc).hkNext_wraps e r.cc (by rwa [hlenKey])
      rw [hregs, hregs, hentry, hpass, hpassKey]
      exact ⟨rfl, rfl⟩
  · have hrtd : hkInput (s.hkEntryWord e) = 21 ∨ hkInput (s.hkEntryWord e) = 22 := by omega
    have hsub : hkInput (s.hkEntryWord e) - 21 = x := by omega
    obtain ⟨rr, hrr⟩ : ∃ rr, rr = s.hkRead (hkInput (s.hkEntryWord e)) (hkRange (s.hkEntryWord e)) r := ⟨_, rfl⟩
    obtain ⟨q, hq⟩ : ∃ q, q = (s.hkGained rr).rtdConvert x rr := ⟨_, rfl⟩
    obtain ⟨u, hu⟩ : ∃ u, u = State.hkTaken rr q := ⟨_, rfl⟩
    obtain ⟨⟨rtds, hqhk⟩, hqregs⟩ := (s.hkGained rr).rtdConvert_kept x rr
    rw [← hq] at hqhk hqregs
    obtain ⟨g, hgained, hobjs⟩ : ∃ g, (s.hkGained rr).hk = { s.hk with gain := g } ∧ (s.hkGained rr).objs = s.objs := by
      unfold State.hkGained
      split
      · exact ⟨_, rfl, rfl⟩
      · exact ⟨s.hk.gain, rfl, rfl⟩
    have huhk : u.hk.vals.length = s.hk.vals.length + 1 ∧ u.hk.open_ = s.hk.open_ ||| r.leads ∧ u.hk.retried = s.hk.retried := by
      rw [hu, State.hkTaken, State.setHk_hk, hqhk, hgained, hrr, (s.hkRead_leads _ _ r).1]
      exact ⟨List.length_append, rfl, rfl⟩
    have hureg : ∀ k, k ∉ [K.RTD_LEAD_R (2 * x), K.RTD_LEAD_R (2 * x + 1)] → u.reg k = s.reg k := fun k hk => by
      calc u.reg k = q.2.reg k := by rw [hu]; rfl
        _ = s.reg k := (hqregs k hk).trans (State.reg_congr _ _ hobjs k)
    obtain ⟨hulen, huopen, huret⟩ := huhk
    have hconv := s.hkConversion_eq r rr e _ q u ho hs hn he rfl hrr (by rw [if_pos hrtd, hsub, hq]) hu
    have hword : u.hkEntryWord e = s.hkEntryWord e := hureg _ (by simp only [List.mem_cons, List.not_mem_nil, or_false, K.HK_SEQ, K.RTD_LEAD_R]; omega)
    have hleads : u.hk.open_ ≠ 0 := by rw [huopen]; exact hopen
    have hwrite := u.hkWrite_open e r.cc x hx (by rw [hword, hin]) hleads
    obtain ⟨hstate, hbreak, hbreaks, hrkeeps, a, hrhk⟩ := u.rtdOpen_shows x u.hk.open_ hleads
    have hpass : (u.rtdOpen x u.hk.open_).reg K.HK_PASS = s.reg K.HK_PASS :=
      (hrkeeps _ (by simp only [List.mem_cons, List.not_mem_nil, or_false, K.HK_PASS, K.RTD_STATE, K.RTD_BREAK_LEADS, K.RTD_BREAKS]; omega)).trans
        (hureg _ (by simp only [List.mem_cons, List.not_mem_nil, or_false, K.HK_PASS, K.RTD_LEAD_R]; omega))
    have hopened : ((u.rtdOpen x u.hk.open_).hk.open_ != 0) = true := by rw [hrhk]; exact bne_iff_ne.mpr hleads
    have hretried : (u.rtdOpen x u.hk.open_).hk.retried = s.hk.retried := by rw [hrhk]; exact huret
    rw [hpass, hopened, hretried] at hwrite
    have hshows := (u.rtdOpen x u.hk.open_).resultPut e (hkWord 3 0xFFFF (s.reg K.HK_PASS) s.hk.retried true false) ((u.rtdOpen x u.hk.open_).hkStampOf r.cc) 21
    rw [← hwrite] at hshows
    obtain ⟨hres, -, -, hwkeeps⟩ := hshows
    obtain ⟨-, -, hregs⟩ := u.hkEnded_shows e r.cc
    have hnext := (u.hkWrite e r.cc).hkNext_keeps e r.cc
    have hkept : ∀ k ∈ [K.RTD_STATE x, K.RTD_BREAK_LEADS x, K.RTD_BREAKS x], (u.hkEnded e r.cc).reg k = (u.rtdOpen x u.hk.open_).reg k := by
      intro k hk
      have hrange : 0x686101 ≤ k ∧ k < 0x687000 := by
        simp only [List.mem_cons, List.not_mem_nil, or_false, K.RTD_STATE, K.RTD_BREAK_LEADS, K.RTD_BREAKS] at hk
        omega
      rw [hregs, hnext k (by simp only [List.mem_cons, List.not_mem_nil, or_false, K.HK_ENTRY, K.HK_PASS, K.HK_PASS_TIME]; omega),
        hwkeeps k (by
          simp only [resultKeys, List.mem_append, List.mem_cons, List.not_mem_nil, or_false, K.HK_RESULT, K.HK_STAMP, show ¬ (21 ≤ 7) by decide, if_false]
          omega)]
    rw [exec_hkConversionDone hc, hconv, if_neg (by rw [hulen]; omega)]
    refine ⟨u.hkEnded e r.cc, rfl, ?_, ?_, ?_, ?_⟩
    · rw [hkept _ (by simp), hstate]
    · rw [hkept _ (by simp), hbreak, huopen]
    · rw [hregs, hnext _ (by simp only [List.mem_cons, List.not_mem_nil, or_false, K.HK_RESULT, K.HK_ENTRY, K.HK_PASS, K.HK_PASS_TIME]; omega), hres]
    · have hst : u.reg (K.RTD_STATE x) = s.reg (K.RTD_STATE x) := hureg _ (by simp only [List.mem_cons, List.not_mem_nil, or_false, K.RTD_STATE, K.RTD_LEAD_R]; omega)
      have hbr : u.reg (K.RTD_BREAKS x) = s.reg (K.RTD_BREAKS x) := hureg _ (by simp only [List.mem_cons, List.not_mem_nil, or_false, K.RTD_BREAKS, K.RTD_LEAD_R]; omega)
      rw [hkept _ (by simp), hbreaks, hst, hbr]

end Sys2Proof.Machine
end

section
/-! PROOFS. Chapters 13 and 15: service conversions, urgent requests, and what a violation sets. -/

namespace Sys2Proof.Machine

/-! ### A violation's cause (R382) -/

section
variable (s : State)

theorem State.suppressAll_keeps (h : ∀ f ∈ s.pipe.cur.fires, f.emitter < 16) : s.keeps s.suppressAll fireKeys := by
  obtain ⟨u, l, hu, -, hkeys⟩ := s.suppressAll_eq
  rw [hu]
  exact (hkeys h).of_objs rfl

/-- A violation sets its cause and no other. -/
theorem State.violateAt_cause (bit t : Nat) (h : ∀ f ∈ s.pipe.cur.fires, f.emitter < 16) :
    (s.violateAt bit t).reg K.SH_CAUSE = withBit (s.reg K.SH_CAUSE) bit true := by
  have hkept : s.suppressAll.reg K.SH_CAUSE = s.reg K.SH_CAUSE := s.suppressAll_keeps h _ (not_fireKey (by decide))
  have hput : ((s.suppressAll.putBit K.SH_CAUSE bit true).put K.SH_LAST t).reg K.SH_CAUSE = withBit (s.reg K.SH_CAUSE) bit true := by
    rw [State.reg_put_ne _ _ _ _ (by decide), State.putBit, State.reg_put_self, hkept]
  unfold State.violateAt
  dsimp only
  split
  · exact (State.reg_put_ne _ _ _ _ (by decide)).trans hput
  · exact hput

theorem State.regBit_cause (t : State) (bit : Nat) (b : Bool) (h : t.reg K.SH_CAUSE = withBit (s.reg K.SH_CAUSE) bit b) : t.regBit K.SH_CAUSE bit = b := by
  rw [State.regBit, h, bitAt_withBit, if_pos rfl]

/-- A violation found without its moment: its cause, and what it leaves. -/
theorem State.violateNow_shows (bit : Nat) (h : ∀ f ∈ s.pipe.cur.fires, f.emitter < 16) : (s.violateNow bit).reg K.SH_CAUSE = withBit (s.reg K.SH_CAUSE) bit true
    ∧ s.keeps (s.violateNow bit) violateKeys ∧ (s.violateNow bit).ensB = s.ensB ∧ (s.violateNow bit).res = s.res ∧ (s.violateNow bit).hk = s.hk := by
  have hdraw : s.draw.2.objs = s.objs := rfl
  have hfires : ∀ f ∈ s.draw.2.pipe.cur.fires, f.emitter < 16 := h
  have hcause := s.draw.2.violateAt_cause bit (s.draw.2.stampCc (Config.freeNat s.draw.1 % 2800)) hfires
  have hkeeps := s.draw.2.violateAt_keeps bit (s.draw.2.stampCc (Config.freeNat s.draw.1 % 2800)) hfires
  obtain ⟨o, l, r, hparts⟩ := s.draw.2.violateAt_parts bit (s.draw.2.stampCc (Config.freeNat s.draw.1 % 2800))
  refine ⟨hcause, fun k hk => hkeeps k hk, ?_, ?_, ?_⟩
  · exact (congrArg State.ensB hparts :)
  · exact (congrArg State.res hparts :)
  · exact (congrArg State.hk hparts :)

theorem State.clearCause_shows (bit : Nat) : (s.clearCause bit).regBit K.SH_CAUSE bit = false ∧ s.keeps (s.clearCause bit) [K.SH_CAUSE] :=
  ⟨s.regBit_cause _ bit false (State.reg_put_self _ _ _), (State.keeps.refl s _).put _ _ (by simp)⟩

/-! ### The comparison of an urgent result (R388) -/

theorem State.urgentCompare_differs (v : Int) (h : 8 * s.inForce K.VLAS_MAX < 100 * (v - s.res.vlas).natAbs) : s.urgentCompare v = s.violateNow 9 := if_pos h

theorem State.urgentCompare_agrees (v : Int) (h : 100 * (v - s.res.vlas).natAbs ≤ 8 * s.inForce K.VLAS_MAX) : s.urgentCompare v = s.clearCause 10 := if_neg (not_lt.mpr h)

/-- The comparison changes registers of causes alone. -/
theorem State.urgentCompare_shows (v : Int) (h : ∀ f ∈ s.pipe.cur.fires, f.emitter < 16) : (s.urgentCompare v).ensB = s.ensB ∧ (s.urgentCompare v).res = s.res
    ∧ (s.urgentCompare v).hk = s.hk ∧ s.keeps (s.urgentCompare v) violateKeys := by
  unfold State.urgentCompare
  split
  · obtain ⟨-, hkeeps, hens, hres, hhk⟩ := s.violateNow_shows 9 h
    exact ⟨hens, hres, hhk, hkeeps⟩
  · exact ⟨rfl, rfl, rfl, (s.clearCause_shows 10).2.mono (by decide)⟩

/-! ### The service conversions (R78, R82, R335) -/

theorem exec_serviceConversion (las : Bool) (code : Int) (hc : s.mode.coreRuns = true) :
    exec (.serviceConversion las code) s = .next (if las then s.lasService code else s.vinService code).settle := by
  calc exec (.serviceConversion las code) s = .next (s.core fun s => if las then s.lasService code else s.vinService code).settle := rfl
    _ = _ := by rw [s.core_on _ hc]

/-- The reading of LAS_VS with its count of overvoltages. -/
def State.lasRead (s : State) (code : Int) : State :=
  { s.put K.VLAS_MEAS (vlasOf code) with res := { s.res with vlas := code, overRun := if ({ s.put K.VLAS_MEAS (vlasOf code) with res := { s.res with vlas := code } } : State).resOver then s.res.overRun + 1 else 0 } }

/-- The service conversion once its reading is judged. -/
def State.lasJudged (s : State) (code : Int) : State := ((s.lasRead code).resFault code).setB { ((s.lasRead code).resFault code).ensB with lasDone := true }

/-- A service conversion of LAS_VS is compared with the urgent result that waits for it. -/
theorem State.lasService_eq (code : Int) (hd : s.ensB.lasDone = false) (j : State) (hj : j = s.lasJudged code) : s.lasService code =
    j.ensB.urgentVal.elim j fun v => (j.setB { j.ensB with urgentVal := none }).urgentCompare v := by
  have hfree : ¬ s.ensB.lasDone = true := by rw [hd]; decide
  unfold State.lasService
  rw [if_neg hfree]
  extract_lets a _ b _ d e _ f
  have hf : f = s.lasJudged code := rfl
  rw [← hj] at hf
  clear_value f
  subst hf
  cases f.ensB.urgentVal <;> rfl

/-- What the judged reading leaves. -/
theorem State.lasJudged_shows (code : Int) : (s.lasJudged code).reg K.VLAS_MEAS = vlasOf code ∧ (s.lasJudged code).res.vlas = code
    ∧ (s.lasJudged code).ensB = { s.ensB with lasDone := true } ∧ s.keeps (s.lasJudged code) [K.VLAS_MEAS, K.RES_STATE, K.RES_FAULTS]
    ∧ (s.lasJudged code).pipe = s.pipe ∧ (s.lasJudged code).sealed = s.sealed
    ∧ (25200 < code → (s.lasJudged code).reg K.RES_STATE = 4
      ∧ (s.reg K.RES_STATE ≠ 4 → (s.lasJudged code).reg K.RES_FAULTS = min (s.reg K.RES_FAULTS + 1) (2 ^ 32 - 1) ∧ (s.lasJudged code).res.runs = false)) := by
  obtain ⟨a, ha, hreg, hres, hens, hpipe, hseal⟩ : ∃ a : State, a = s.lasRead code ∧ (∀ k, a.reg k = if k = K.VLAS_MEAS then vlasOf code else s.reg k) ∧ a.res.vlas = code
      ∧ a.ensB = s.ensB ∧ a.pipe = s.pipe ∧ a.sealed = s.sealed := ⟨s.lasRead code, rfl, fun k => (s.reg_put K.VLAS_MEAS k (vlasOf code) :), rfl, rfl, rfl, rfl⟩
  have hj : s.lasJudged code = (a.resFault code).setB { (a.resFault code).ensB with lasDone := true } := by rw [ha]; rfl
  have hstate : a.reg K.RES_STATE = s.reg K.RES_STATE := (hreg _).trans (if_neg (by decide))
  have hfaults : a.reg K.RES_FAULTS = s.reg K.RES_FAULTS := (hreg _).trans (if_neg (by decide))
  rw [hj]
  by_cases hf : a.reg K.RES_STATE ≠ 4 ∧ (25200 < code ∨ 2 ≤ a.res.overRun)
  · have hfault : (∀ k, (a.resFault code).reg k = ((a.put K.RES_STATE 4).count K.RES_FAULTS).reg k) ∧ (a.resFault code).res.runs = false
        ∧ (a.resFault code).res.vlas = a.res.vlas ∧ (a.resFault code).ensB = a.ensB ∧ (a.resFault code).pipe = a.pipe ∧ (a.resFault code).sealed = a.sealed := by
      rw [State.resFault, if_pos hf]
      exact ⟨fun _ => rfl, rfl, rfl, rfl, rfl, rfl⟩
    obtain ⟨hregs, hruns, hvlas, hfens, hfpipe, hfseal⟩ := hfault
    have hall : ∀ k, (a.resFault code).reg k = if k = K.RES_FAULTS then min (s.reg K.RES_FAULTS + 1) (2 ^ 32 - 1) else if k = K.RES_STATE then 4
        else if k = K.VLAS_MEAS then vlasOf code else s.reg k := fun k => by
      rw [hregs, State.count, State.reg_put, State.reg_put, State.reg_put, hreg, hreg]
      rfl
    refine ⟨(hall _).trans rfl, hvlas.trans hres, ?_, fun k hk => ?_, hfpipe.trans hpipe, hfseal.trans hseal, fun _ => ⟨(hall _).trans rfl, fun _ => ⟨(hall _).trans rfl, hruns⟩⟩⟩
    · rw [State.setB_ensB, hfens, hens]
    · simp only [List.mem_cons, List.not_mem_nil, or_false, not_or] at hk
      exact (hall k).trans (by rw [if_neg hk.2.2, if_neg hk.2.1, if_neg hk.1])
  · have hfault : a.resFault code = a := if_neg hf
    rw [hfault]
    refine ⟨(hreg _).trans rfl, hres, ?_, fun k hk => ?_, hpipe, hseal, fun hc => ?_⟩
    · rw [State.setB_ensB, hens]
    · exact (hreg k).trans (if_neg fun h => hk (by simp [h]))
    · have h4 : s.reg K.RES_STATE = 4 := by
        by_contra h
        exact hf ⟨by rwa [hstate], .inl hc⟩
      exact ⟨hstate.trans h4, fun h => absurd h4 h⟩

/-! ### Urgent requests (R338 to R340) -/

theorem objRow_hkUrgent : ∃ r, objRow? K.HK_URGENT = some r ∧ (r.acc == .rws) = false := by
  obtain ⟨r, hr, ha⟩ := (Option.any_eq_true _ _).mp (show (objRow? K.HK_URGENT).any (fun r => !(r.acc == .rws)) = true by decide)
  exact ⟨r, hr, by simpa using ha⟩

theorem exec_hkUrgent (w : HostWrite) (h : s.accepts K.HK_URGENT w = true) :
    exec (.hkUrgent w) s = .next (noteResult w.path (if (s.hkUrgent (ofLe w.data)).1 then 0 else 6, (s.hkUrgent (ofLe w.data)).2)).settle := by
  obtain ⟨r, hr, hs⟩ := objRow_hkUrgent
  calc exec (.hkUrgent w) s = .next (s.hostWrite K.HK_URGENT w).settle := rfl
    _ = _ := by rw [s.hostWrite_accepted _ w r hr hs h]; rfl

theorem State.hkUrgent_room (v : Nat) (ho : s.hk.on = true) (hl : s.hk.urgent.length < 4) :
    s.hkUrgent v = (true, s.urgentPush { input := bits v 4 0, range := bits v 6 5 }) := if_pos (by simp [State.urgentRoom, ho, hl])

theorem State.hkUrgent_full (v : Nat) (h : s.hk.on = false ∨ 4 ≤ s.hk.urgent.length) : s.hkUrgent v = (false, s.count K.URGENT_REFUSED) := by
  refine if_neg ?_
  rcases h with h | h
  · simp [State.urgentRoom, h]
  · simp [State.urgentRoom, h]

/-- A request that waits behind others, or finds the sequencer free, only queues. -/
theorem State.urgentPush_queues (q : Urgent) (h : s.hk.urgent ≠ [] ∨ s.hk.started = false) :
    s.urgentPush q = (s.put K.HK_STATE 3).setHk { s.hk with urgent := s.hk.urgent ++ [q] } := by
  have hfree : ¬ (s.hk.urgent.isEmpty && s.hk.started) = true := by
    rcases h with h | h
    · simp [h]
    · simp [h]
  simp only [State.urgentPush, if_neg hfree]

/-- A request that finds a conversion in progress aborts it. -/
theorem State.urgentPush_aborts (q : Urgent) (hu : s.hk.urgent = []) (hs : s.hk.started = true) :
    s.urgentPush q = ((s.count K.URGENT_ABORTS).put K.HK_STATE 3).setHk { s.hk with urgent := [q], started := false, aborted := true, vals := [], open_ := 0 } := by
  simp only [State.urgentPush, hu, hs, List.isEmpty_nil, Bool.and_self, if_true, State.setHk_hk, List.nil_append]
  rfl

/-- The state in which the request at the head has left the queue. -/
def State.urgentOff (s : State) (l : List Urgent) : State :=
  if l.isEmpty then (s.setHk { s.hk with urgent := l }).put K.HK_STATE (if s.hk.aborted then 1 else if s.hk.started then 1 else
    if hkWait (s.hkEntryWord (s.reg K.HK_ENTRY)) != 0 && hkRepeat (s.hkEntryWord (s.reg K.HK_ENTRY)) != 0 then 2 else 1) else s.setHk { s.hk with urgent := l }

theorem State.urgentOff_shows (l : List Urgent) : (s.urgentOff l).hk = { s.hk with urgent := l } ∧ s.keeps (s.urgentOff l) [K.HK_STATE] ∧ (s.urgentOff l).ensB = s.ensB
    ∧ (s.urgentOff l).res = s.res ∧ (s.urgentOff l).pipe = s.pipe ∧ (s.urgentOff l).sealed = s.sealed := by
  unfold State.urgentOff
  split
  · exact ⟨rfl, ((State.keeps.refl s _).of_objs rfl).put _ _ (by simp), rfl, rfl, rfl, rfl⟩
  · exact ⟨rfl, (State.keeps.refl s _).of_objs rfl, rfl, rfl, rfl, rfl⟩

/-- What the converter reads rests on the test DAC alone. -/
theorem State.hkRead_congr (t : State) (h : t.reg K.HK_TEST_DAC = s.reg K.HK_TEST_DAC) (input range : Nat) (r : HkReading) : t.hkRead input range r = s.hkRead input range r := by
  have hlevel : t.hkLevel input = s.hkLevel input := by simp only [State.hkLevel, State.regI, h]
  simp only [State.hkRead, hlevel]

theorem State.urgentDone_ensign (r rr : HkReading) (q : Urgent) (l : List Urgent) (hq : s.hk.urgent = q :: l) (he : q.ensign = true) (hr : rr = s.hkRead q.input q.range r) :
    s.urgentDone r = (s.urgentOff l, some rr.code) := by
  have hread : rr = (s.urgentOff l).hkRead q.input q.range r := by
    rw [s.hkRead_congr _ ((s.urgentOff_shows l).2.1 _ (by decide))]
    exact hr
  rw [hread]
  simp only [State.urgentDone, hq, he, if_true]
  rfl

theorem State.rtdResult_urgent (n : Nat) (ohm : Rat) (leads : Nat) : (s.rtdResult n ohm leads).2.hk.urgent = s.hk.urgent := by
  unfold State.rtdResult
  extract_lets a _ b x c v
  have hb : b.hk.urgent = s.hk.urgent := by
    by_cases h : n = 0
    · rw [show b = a.setHk { a.hk with rtdAge := 0 } from if_pos h]
      rfl
    · rw [show b = a from if_neg h]
      rfl
  split
  · exact Eq.trans (by cases (b.reg (K.RTD_STATE n) != 1) <;> rfl) hb
  · have hc : c.hk = b.hk := State.sense_hk _ n x
    exact (congrArg Hk.urgent hc).trans hb

theorem State.hkValue_urgent (input : Nat) (auto : Bool) (gain : Nat) (v : Rat) (leads : Nat) : (s.hkValue input auto gain v leads).2.hk.urgent = s.hk.urgent := by
  unfold State.hkValue
  split
  · exact s.rtdResult_urgent _ v leads
  · rfl

/-- What a host's request at the head makes of its reading. -/
def Urgent.valued (q : Urgent) (b : State) (rr : HkReading) : Nat × State :=
  (if q.input == 21 || q.input == 22 then b.rtdConvert (q.input - 21) rr else ((rr.code : Rat), b)).2.hkValue q.input (q.range == 3 && !(q.input == 21 || q.input == 22))
    (if q.range == 3 && !(q.input == 21 || q.input == 22) then autoGain rr.coarse else q.range)
    (if q.input == 21 || q.input == 22 then b.rtdConvert (q.input - 21) rr else ((rr.code : Rat), b)).1 rr.leads

/-- The result of a host's request. -/
def Urgent.answered (q : Urgent) (rr : HkReading) (v : Nat × State) : State :=
  (v.2.setHk { v.2.hk with served := v.2.hk.served + 1 }).put K.URGENT_RESULT
    (hkWord (hkGroup q.input) v.1 (v.2.hk.served + 1) false ((q.input == 21 || q.input == 22) && rr.leads != 0) (q.range == 3 && !(q.input == 21 || q.input == 22)))

theorem State.put_hk_of (h : Hk) (k v : Nat) : ((s.setHk h).put k v).hk = h := rfl

theorem Urgent.answered_hk (q : Urgent) (rr : HkReading) (v : Nat × State) : (q.answered rr v).hk = { v.2.hk with served := v.2.hk.served + 1 } := State.put_hk_of ..

theorem State.urgentDone_host (r rr : HkReading) (q : Urgent) (l : List Urgent) (hq : s.hk.urgent = q :: l) (he : q.ensign = false) (hr : rr = s.hkRead q.input q.range r) :
    s.urgentDone r = (q.answered rr (q.valued (s.urgentOff l) rr), none) := by
  have hread : rr = (s.urgentOff l).hkRead q.input q.range r := by
    rw [s.hkRead_congr _ ((s.urgentOff_shows l).2.1 _ (by decide))]
    exact hr
  rw [hread]
  simp only [State.urgentDone, hq, he]
  rfl

theorem Urgent.valued_urgent (q : Urgent) (b : State) (rr : HkReading) : (q.valued b rr).2.hk.urgent = b.hk.urgent := by
  refine (State.hkValue_urgent ..).trans ?_
  split
  · obtain ⟨⟨d, hd⟩, -⟩ := b.rtdConvert_kept (q.input - 21) rr
    rw [hd]
  · rfl

theorem rhe_intCast (n : Int) : rhe (n : Rat) = n := by simp [rhe, rheDiv]

theorem Urgent.valued_plain (q : Urgent) (b : State) (rr : HkReading) (h1 : q.input ≠ 21) (h2 : q.input ≠ 22) :
    q.valued b rr = (if q.range = 3 then autoGain rr.coarse * 2 ^ 14 + ofSigned 14 rr.code else ofSigned 16 rr.code, b) := by
  by_cases h3 : q.range = 3
  · simp [Urgent.valued, State.hkValue, h1, h2, h3, rhe_intCast]
  · simp [Urgent.valued, State.hkValue, h1, h2, h3, rhe_intCast]

theorem exec_urgentComplete (r : HkReading) (hc : s.mode.coreRuns = true) : exec (.urgentComplete r) s = .next (s.urgentComplete r).settle := by
  calc exec (.urgentComplete r) s = .next (s.core fun s => s.urgentComplete r).settle := rfl
    _ = _ := by rw [s.core_on _ hc]

/-- Ensign takes an urgent reading: it is compared at once, or waits for the slot's service conversion. -/
theorem State.urgentTaken_shows (code : Int) (h : ∀ f ∈ s.pipe.cur.fires, f.emitter < 16) : (s.urgentTaken code).hk = s.hk ∧ s.keeps (s.urgentTaken code) violateKeys
    ∧ (s.urgentTaken code).ensB.urgentWait = false ∧ (s.urgentTaken code).ensB.sinceUrgent = 0
    ∧ (s.ensB.lasDone = false → (s.urgentTaken code).ensB.urgentVal = some code)
    ∧ (s.ensB.lasDone = true → (8 * s.inForce K.VLAS_MAX < 100 * (code - s.res.vlas).natAbs → (s.urgentTaken code).regBit K.SH_CAUSE 9 = true)
      ∧ (100 * (code - s.res.vlas).natAbs ≤ 8 * s.inForce K.VLAS_MAX → (s.urgentTaken code).regBit K.SH_CAUSE 10 = false)) := by
  obtain ⟨u, hu⟩ : ∃ u, u = s.setB { s.ensB with urgentWait := false, sinceUrgent := 0 } := ⟨_, rfl⟩
  have htaken : s.urgentTaken code = if s.ensB.lasDone then u.urgentCompare code else u.setB { u.ensB with urgentVal := some code } := by
    rw [hu]
    rfl
  have hfires : ∀ f ∈ u.pipe.cur.fires, f.emitter < 16 := by rw [hu]; exact h
  have hforce : u.inForce K.VLAS_MAX = s.inForce K.VLAS_MAX ∧ u.res = s.res ∧ u.hk = s.hk ∧ u.objs = s.objs := by rw [hu]; exact ⟨rfl, rfl, rfl, rfl⟩
  have hens : u.ensB.urgentWait = false ∧ u.ensB.sinceUrgent = 0 := by rw [hu]; exact ⟨rfl, rfl⟩
  obtain ⟨hforce, hres, hhk, hobjs⟩ := hforce
  obtain ⟨hcens, -, hchk, hckeeps⟩ := u.urgentCompare_shows code hfires
  rw [htaken, ← hforce, ← hres, ← hhk]
  cases hd : s.ensB.lasDone with
  | true =>
    rw [if_pos rfl, hcens]
    refine ⟨hchk, ((State.keeps.refl s _).of_objs hobjs).trans hckeeps, hens.1, hens.2, fun h => absurd h (by decide), fun _ => ⟨fun hlt => ?_, fun hle => ?_⟩⟩
    · rw [u.urgentCompare_differs code hlt]
      exact u.regBit_cause _ 9 true (u.violateNow_shows 9 hfires).1
    · rw [u.urgentCompare_agrees code hle]
      exact (u.clearCause_shows 10).1
  | false =>
    rw [if_neg (by decide)]
    exact ⟨rfl, (State.keeps.refl s _).of_objs hobjs, hens.1, hens.2, fun _ => rfl, fun h => absurd h (by decide)⟩

end

/-- Settles O38: the sequencer's events by their equations, a service conversion and an urgent request as they are judged. -/
theorem serviceAndUrgent : Obligations.ServiceAndUrgent := by
  refine ⟨fun s hc => ⟨exec_hkTrigger hc, exec_hkTimerExpire hc, exec_hkEntry hc, exec_hkConversionDone hc⟩, fun s code v hc hv => ?_,
    ⟨fun s code v hc hd hf hv => ?_, fun s code hc hd => ?_⟩, fun s w q h hq => ⟨fun ho hl hfree => ?_, fun ho hu hs => ?_, fun hfull => ?_⟩, fun s r rr q l hc hf hq hr => ?_⟩
  · rw [exec_serviceConversion _ false code hc, if_neg Bool.false_ne_true, hv]
    simp only [State.vinService, clampInt]
  · obtain ⟨hmeas, hvlas, hens, hkeeps, hpipe, hseal, hover⟩ := s.lasJudged_shows code
    have hvlasOf : vlasOf code = v := by rw [hv, vlasOf, clampInt]
    have hexec := exec_serviceConversion s true code hc
    rw [if_pos rfl, s.lasService_eq code hd _ rfl] at hexec
    obtain ⟨j, hj⟩ : ∃ j, j = s.lasJudged code := ⟨_, rfl⟩
    rw [← hj] at hmeas hvlas hens hkeeps hpipe hseal hover hexec
    have hval : j.ensB.urgentVal = s.ensB.urgentVal := by rw [hens]
    rw [hval] at hexec
    cases hx : s.ensB.urgentVal with
    | none =>
      rw [hx, Option.elim_none] at hexec
      exact ⟨j, hexec, hmeas.trans hvlasOf, hvlas, by rw [hens], by rw [hval, hx], hover, fun _ => hkeeps, fun x hx => absurd hx (by simp)⟩
    | some x =>
      rw [hx, Option.elim_some] at hexec
      obtain ⟨c, hc⟩ : ∃ c, c = j.setB { j.ensB with urgentVal := none } := ⟨_, rfl⟩
      rw [← hc] at hexec
      have hcj : (∀ k, c.reg k = j.reg k) ∧ c.ensB = { j.ensB with urgentVal := none } ∧ c.res = j.res ∧ c.pipe = j.pipe ∧ c.sealed = j.sealed := by
        rw [hc]; exact ⟨fun _ => rfl, rfl, rfl, rfl, rfl⟩
      obtain ⟨hcreg, hcens, hcres, hcpipe, hcseal⟩ := hcj
      have hfires : ∀ f ∈ c.pipe.cur.fires, f.emitter < 16 := by rw [hcpipe, hpipe]; exact hf
      have hforce : c.inForce K.VLAS_MAX = s.inForce K.VLAS_MAX := by
        rw [State.inForce, hcseal, hseal, hcreg, hkeeps _ (by decide)]
        rfl
      obtain ⟨htens, htres, -, htkeeps⟩ := c.urgentCompare_shows x hfires
      have hreg : ∀ k, k ∉ violateKeys → (c.urgentCompare x).reg k = j.reg k := fun k hk => (htkeeps k hk).trans (hcreg k)
      refine ⟨c.urgentCompare x, hexec, ?_, ?_, ?_, ?_, fun hcode => ?_, fun h => absurd h (by simp), fun y hy => ?_⟩
      · rw [hreg _ (not_violateKey (by decide) (by decide)), hmeas, hvlasOf]
      · rw [htres, hcres, hvlas]
      · rw [htens, hcens, hens]
      · rw [htens, hcens]
      · obtain ⟨h4, hcount⟩ := hover hcode
        rw [hreg _ (not_violateKey (by decide) (by decide)), hreg _ (not_violateKey (by decide) (by decide)), htres, hcres]
        exact ⟨h4, hcount⟩
      · obtain rfl : x = y := Option.some.inj hy
        have hcode : (x - c.res.vlas).natAbs = (x - code).natAbs := by rw [hcres, hvlas]
        rw [← hforce, ← hcode]
        refine ⟨fun hlt => ?_, fun hle => ?_⟩
        · rw [c.urgentCompare_differs x hlt]
          exact c.regBit_cause _ 9 true (c.violateNow_shows 9 hfires).1
        · rw [c.urgentCompare_agrees x hle]
          obtain ⟨hbit, hck⟩ := c.clearCause_shows 10
          exact ⟨hbit, fun k hk => by
            simp only [List.mem_cons, List.not_mem_nil, or_false, not_or] at hk
            rw [hck k (by simp [hk]), hcreg, hkeeps k (by simp [hk])]⟩
  · rw [exec_serviceConversion s true code hc, if_pos rfl, State.lasService, if_pos hd]
  · subst hq
    rw [exec_hkUrgent s w h, s.hkUrgent_room _ ho hl, s.urgentPush_queues _ hfree]
    rfl
  · subst hq
    rw [exec_hkUrgent s w h, s.hkUrgent_room _ ho (by simp [hu]), s.urgentPush_aborts _ hu hs]
    rfl
  · rw [exec_hkUrgent s w h, s.hkUrgent_full _ hfull]
    rfl
  · obtain ⟨hhk, hkeeps, hens, hres, hpipe, hseal⟩ := s.urgentOff_shows l
    refine ⟨s.urgentComplete r, exec_urgentComplete s r hc, ?_⟩
    cases he : q.ensign with
    | false =>
      have hdone : s.urgentComplete r = q.answered rr (q.valued (s.urgentOff l) rr) := by rw [State.urgentComplete, s.urgentDone_host r rr q l hq he hr]
      rw [hdone]
      refine ⟨?_, fun _ h1 h2 => ?_, fun h => absurd h (by decide)⟩
      · rw [q.answered_hk, q.valued_urgent, hhk]
      · have hserved : (s.urgentOff l).hk.served = s.hk.served := by rw [hhk]
        rw [q.valued_plain _ rr h1 h2]
        have hplain : (q.input == 21 || q.input == 22) = false := by simp [h1, h2]
        refine ⟨by rw [q.answered_hk, hserved], ?_⟩
        rw [Urgent.answered, State.reg_put_self, hplain, hserved]
        simp only [Bool.false_and, Bool.not_false, Bool.and_true]
    | true =>
      have hdone : s.urgentComplete r = (s.urgentOff l).urgentTaken rr.code := by rw [State.urgentComplete, s.urgentDone_ensign r rr q l hq he hr]
      have hfires : ∀ f ∈ (s.urgentOff l).pipe.cur.fires, f.emitter < 16 := by rw [hpipe]; exact hf
      have hforce : (s.urgentOff l).inForce K.VLAS_MAX = s.inForce K.VLAS_MAX := by
        rw [State.inForce, hseal, hkeeps _ (by decide)]
        rfl
      obtain ⟨hthk, htkeeps, hwait, hsince, hval, hcomp⟩ := (s.urgentOff l).urgentTaken_shows rr.code hfires
      rw [hens, hforce, hres] at hcomp
      rw [hens] at hval
      rw [hdone]
      refine ⟨by rw [hthk, hhk], fun h => absurd h (by decide), fun _ => ⟨hwait, hsince, ?_, hval, fun d hd hdiff => ?_⟩⟩
      · rw [htkeeps _ (not_violateKey (by decide) (by decide)), hkeeps _ (by decide)]
      · rw [hdiff]
        exact hcomp hd

end Sys2Proof.Machine
end

section
/-! PROOFS. Chapter 13: the charge amplifiers, and the energy check of their samples. -/

namespace Sys2Proof.Machine

section
variable (s : State)

/-! ### A sample and a reset instant (R341 to R343) -/

/-- The range of an amplifier at its reset instant. -/
def State.caNewRange (a : Nat) : Nat := if s.caFixed a = true then s.reg (K.CA_RANGE a) else (s.hk.amps.getD a {}).change.getD (s.reg (K.CA_RANGE_NOW a))

theorem State.caReset_stays (a : Nat) (h : s.caNewRange a = s.reg (K.CA_RANGE_NOW a)) :
    s.caReset a = s.setHk { s.hk with amps := setAt {} s.hk.amps a { s.hk.amps.getD a {} with change := none } } := by
  unfold State.caReset
  extract_lets c now new _ t
  have hnew : new = now := h
  rw [if_pos hnew]
  simp only [t, if_pos hnew]

theorem State.caReset_changes (a : Nat) (h : s.caNewRange a ≠ s.reg (K.CA_RANGE_NOW a)) : s.caReset a =
    ((s.setHk { s.hk with amps := setAt {} s.hk.amps a { s.hk.amps.getD a {} with change := none, low := 0 } }).put (K.CA_RANGE_NOW a) (s.caNewRange a)).put
      (K.CA_RANGE_CHANGES a) (min (s.reg (K.CA_RANGE_CHANGES a) + 1) (2 ^ 32 - 1)) := by
  have hcount : ∀ (u : State) v, u.objs = s.objs → (u.put (K.CA_RANGE_NOW a) v).count (K.CA_RANGE_CHANGES a) =
      (u.put (K.CA_RANGE_NOW a) v).put (K.CA_RANGE_CHANGES a) (min (s.reg (K.CA_RANGE_CHANGES a) + 1) (2 ^ 32 - 1)) := fun u v hu => by
    rw [State.count, u.reg_put_ne _ _ _ (by simp only [K.CA_RANGE_CHANGES, K.CA_RANGE_NOW]; omega), State.reg_congr _ _ hu]
    rfl
  unfold State.caReset
  extract_lets c now new _ t
  have hnew : ¬ new = now := h
  rw [if_neg hnew, hcount t new rfl]
  simp only [t, if_neg hnew]
  rfl

/-- The reset instant leaves the range, and counts where it is another one. -/
theorem State.caReset_shows (a : Nat) : (s.caReset a).reg (K.CA_RANGE_NOW a) = s.caNewRange a ∧ s.keeps (s.caReset a) [K.CA_RANGE_NOW a, K.CA_RANGE_CHANGES a] := by
  by_cases h : s.caNewRange a = s.reg (K.CA_RANGE_NOW a)
  · rw [s.caReset_stays a h, h]
    exact ⟨rfl, (State.keeps.refl s _).of_objs rfl⟩
  · rw [s.caReset_changes a h]
    refine ⟨(State.reg_put_ne _ _ _ _ (by simp only [K.CA_RANGE_CHANGES, K.CA_RANGE_NOW]; omega)).trans (State.reg_put_self _ _ _),
      (((State.keeps.refl s _).of_objs rfl).put _ _ (by simp)).put _ _ (by simp)⟩

/-- Judging a sample counts a clipped one, and touches no part of Ensign. -/
theorem State.caJudge_shows (a : Nat) (m : Int) : (∀ k, (s.caJudge a m).reg k = if k = K.CA_CLIPS a ∧ 7372 < m.natAbs then incSat 32 (s.reg (K.CA_CLIPS a)) else s.reg k)
    ∧ (s.caJudge a m).ensB = s.ensB ∧ (s.caJudge a m).ens = s.ens ∧ (s.caJudge a m).pipe = s.pipe ∧ (s.caJudge a m).sealed = s.sealed := by
  unfold State.caJudge
  extract_lets c now clipped low change t _
  have ht : t = s.onlyIf clipped fun s => s.count (K.CA_CLIPS a) := rfl
  have hparts : t.ensB = s.ensB ∧ t.ens = s.ens ∧ t.pipe = s.pipe ∧ t.sealed = s.sealed := by
    rw [ht]
    cases clipped <;> exact ⟨rfl, rfl, rfl, rfl⟩
  refine ⟨fun k => ?_, hparts⟩
  have hreg : t.reg k = if k = K.CA_CLIPS a ∧ 7372 < m.natAbs then incSat 32 (s.reg (K.CA_CLIPS a)) else s.reg k := by
    rw [ht, State.reg_counted]
    simp only [clipped, decide_eq_true_eq]
  exact hreg

theorem State.sense_parts (n : Nat) (x : Rat) : (s.sense n x).ensB = s.ensB ∧ (s.sense n x).ens = s.ens ∧ (s.sense n x).pipe = s.pipe ∧ (s.sense n x).sealed = s.sealed := by
  unfold State.sense
  extract_lets
  split <;> exact ⟨rfl, rfl, rfl, rfl⟩

theorem State.angleSample_keeps (half : Nat) (x : Rat) (usable : Bool) : s.keeps (s.angleSample half x usable) [K.SENS_OUT 2, K.SENS_FLAGS 2] := by
  unfold State.angleSample
  extract_lets t y e m
  have ht : s.keeps t [K.SENS_OUT 2, K.SENS_FLAGS 2] := (State.keeps.refl s _).onlyWhen (s.sense_keeps 2 x)
  split
  · exact ht.of_objs rfl
  · exact ht.of_objs rfl

/-- A sample as it is kept and judged, in the range `r`. -/
def State.caKept (a r : Nat) (m : Int) : State := (s.put (K.CA_LAST a) (r * 2 ^ 14 + ofSigned 14 m)).caJudge a m

/-- What stands of a sample in the registers. -/
theorem State.caKept_shows (a r : Nat) (m : Int) (hr : r = s.reg (K.CA_RANGE_NOW a)) : (s.caKept a r m).reg (K.CA_LAST a) = r * 2 ^ 14 + ofSigned 14 m
    ∧ (s.caKept a r m).reg (K.CA_RANGE_NOW a) = r
    ∧ (s.caKept a r m).reg (K.CA_CLIPS a) = (if 7372 < m.natAbs then min (s.reg (K.CA_CLIPS a) + 1) (2 ^ 32 - 1) else s.reg (K.CA_CLIPS a))
    ∧ s.keeps (s.caKept a r m) [K.CA_LAST a, K.CA_CLIPS a]
    ∧ (s.caKept a r m).ensB = s.ensB ∧ (s.caKept a r m).ens = s.ens ∧ (s.caKept a r m).pipe = s.pipe ∧ (s.caKept a r m).sealed = s.sealed := by
  obtain ⟨hreg, hens, hen, hpipe, hseal⟩ := (s.put (K.CA_LAST a) (r * 2 ^ 14 + ofSigned 14 m)).caJudge_shows a m
  have hne : K.CA_LAST a ≠ K.CA_CLIPS a ∧ K.CA_RANGE_NOW a ≠ K.CA_CLIPS a ∧ K.CA_RANGE_NOW a ≠ K.CA_LAST a ∧ K.CA_CLIPS a ≠ K.CA_LAST a := by
    simp only [K.CA_LAST, K.CA_CLIPS, K.CA_RANGE_NOW]
    omega
  obtain ⟨hlc, hnc, hnl, hcl⟩ := hne
  refine ⟨?_, ?_, ?_, fun k hk => ?_, hens, hen, hpipe, hseal⟩
  · rw [State.caKept, hreg, if_neg (fun h => hlc h.1), State.reg_put_self]
  · rw [State.caKept, hreg, if_neg (fun h => hnc h.1), s.reg_put_ne _ _ _ hnl, hr]
  · rw [State.caKept, hreg, s.reg_put_ne _ _ _ hcl]
    simp only [true_and]
    rfl
  · simp only [List.mem_cons, List.not_mem_nil, or_false, not_or] at hk
    rw [State.caKept, hreg, if_neg (fun h => hk.2 h.1), s.reg_put_ne _ _ _ hk.1]

/-- A sample of a pulse-energy monitor. -/
theorem State.caSample_monitor (a k : Nat) (m : Int) (ha : a ≠ 0) : s.caSample a k m =
    (s.caKept a (s.reg (K.CA_RANGE_NOW a)) m).sense (2 + a) (chargeOf (s.reg (K.CA_RANGE_NOW a)) m) := by
  have hzero : (a == 0) = false := beq_eq_false_iff_ne.mpr ha
  simp only [State.caSample, hzero, State.onlyIf, Bool.false_eq_true, if_false, if_neg ha]
  rfl

/-- A sample of CA-M comes after its reset instant; it is half of an angle. -/
theorem State.caSample_angle (k : Nat) (m : Int) : ((s.caReset 0).caKept 0 (s.caNewRange 0) m).keeps (s.caSample 0 k m) [K.SENS_OUT 2, K.SENS_FLAGS 2] := by
  have hrange := (s.caReset_shows 0).1
  unfold State.caSample
  extract_lets t r q clipped u c _
  have hu : u = (s.caReset 0).caKept 0 (s.caNewRange 0) m := by rw [← hrange]; rfl
  rw [if_pos rfl, ← hu]
  split
  · exact (State.keeps.refl u _).of_objs rfl
  · exact u.angleSample_keeps _ _ _

/-! ### The energy check (R380) -/

/-- Charging the bins of the emitters changes no register. -/
theorem State.charges_objs (l : List (Nat × Rat)) (f : Nat × Rat → Rat) : (s.forEach l fun s p => s.charge p.1 (f p)).objs = s.objs :=
  foldl_rel (fun u t : State => t.objs = u.objs) (fun _ => rfl) (fun h h' => h'.trans h) (fun (s : State) (p : Nat × Rat) => s.charge p.1 (f p)) l (fun _ _ _ => rfl) s

/-- What the check finds of a sample. -/
def State.pemFound (g : Nat) (x : Rat) (clipped : Bool) : State :=
  if clipped = true then s.violate (if 0 < ((s.groupReleased g).map (·.2)).foldl (· + ·) 0 then 0 else 1) 1087
  else if ((s.groupReleased g).map (·.2)).foldl (· + ·) 0 = 0 ∧ (s.inForce K.EDARK_MAX : Rat) < s.pemEnergy g x then s.violate 1 1087
  else if ((s.groupReleased g).map (·.2)).foldl (· + ·) 0 * (s.inForce K.EMEAS_MAX : Rat) / 256 + (s.inForce K.EDARK_MAX : Rat) < s.pemEnergy g x then s.violate 0 1087
  else s

theorem State.pemCheck_regs (g : Nat) (x : Rat) (clipped : Bool) (k : Nat) : (s.pemCheck g x clipped).reg k = (s.pemFound g x clipped).reg k := by
  have hobjs : (s.pemCheck g x clipped).objs = (s.pemFound g x clipped).objs :=
    (s.pemFound g x clipped).charges_objs (s.groupReleased g) fun p =>
      max 0 (if ((s.groupReleased g).map (·.2)).foldl (· + ·) 0 = 0 then Config.unstated "PEM_SHARE" [(p.1 : Int)]
        else s.pemEnergy g x * p.2 / ((s.groupReleased g).map (·.2)).foldl (· + ·) 0 - p.2)
  exact State.reg_congr _ _ hobjs k

/-- Where nothing was released no bin is charged. -/
theorem State.pemCheck_unreleased (g : Nat) (x : Rat) (clipped : Bool) (h : s.groupReleased g = []) : s.pemCheck g x clipped = s.pemFound g x clipped := by
  have hwalk : s.pemCheck g x clipped = (s.pemFound g x clipped).forEach (s.groupReleased g) fun u p => u.charge p.1
      (max 0 (if ((s.groupReleased g).map (·.2)).foldl (· + ·) 0 = 0 then Config.unstated "PEM_SHARE" [(p.1 : Int)]
        else s.pemEnergy g x * p.2 / ((s.groupReleased g).map (·.2)).foldl (· + ·) 0 - p.2)) := rfl
  rw [hwalk, h]
  rfl

theorem State.violate_keeps (bit sample : Nat) (h : ∀ f ∈ s.pipe.cur.fires, f.emitter < 16) : s.keeps (s.violate bit sample) violateKeys := s.violateAt_keeps bit _ h

theorem State.violate_bit (bit sample : Nat) (h : ∀ f ∈ s.pipe.cur.fires, f.emitter < 16) : (s.violate bit sample).regBit K.SH_CAUSE bit = true :=
  s.regBit_cause _ bit true (s.violateAt_cause bit _ h)

theorem State.pemFound_keeps (g : Nat) (x : Rat) (clipped : Bool) (h : ∀ f ∈ s.pipe.cur.fires, f.emitter < 16) : s.keeps (s.pemFound g x clipped) violateKeys := by
  unfold State.pemFound
  split_ifs
  · exact s.violate_keeps _ _ h
  · exact s.violate_keeps _ _ h
  · exact s.violate_keeps _ _ h
  · exact s.violate_keeps _ _ h
  · exact .refl s _

theorem State.pemFound_dark (g : Nat) (x : Rat) (clipped : Bool) (hn : ((s.groupReleased g).map (·.2)).foldl (· + ·) 0 = 0)
    (h : clipped = true ∨ (s.inForce K.EDARK_MAX : Rat) < s.pemEnergy g x) : s.pemFound g x clipped = s.violate 1 1087 := by
  unfold State.pemFound
  rw [hn, if_neg (lt_irrefl _)]
  by_cases hc : clipped = true
  · rw [if_pos hc]
  · rw [if_neg hc, if_pos ⟨rfl, h.resolve_left hc⟩]

theorem State.pemFound_quiet (g : Nat) (x : Rat) (hn : ((s.groupReleased g).map (·.2)).foldl (· + ·) 0 = 0) (h : s.pemEnergy g x ≤ (s.inForce K.EDARK_MAX : Rat)) :
    s.pemFound g x false = s := by
  have hle : ¬ ((0 : Rat) * (s.inForce K.EMEAS_MAX : Rat) / 256 + (s.inForce K.EDARK_MAX : Rat) < s.pemEnergy g x) := by
    rw [zero_mul, zero_div, zero_add]
    exact not_lt.mpr h
  unfold State.pemFound
  rw [hn, if_neg Bool.false_ne_true, if_neg (fun h' => not_lt.mpr h h'.2), if_neg hle]

theorem State.pemFound_energy (g : Nat) (x : Rat) (clipped : Bool) (hn : 0 < ((s.groupReleased g).map (·.2)).foldl (· + ·) 0)
    (h : clipped = true ∨ ((s.groupReleased g).map (·.2)).foldl (· + ·) 0 * (s.inForce K.EMEAS_MAX : Rat) / 256 + (s.inForce K.EDARK_MAX : Rat) < s.pemEnergy g x) :
    s.pemFound g x clipped = s.violate 0 1087 := by
  unfold State.pemFound
  rw [if_pos hn]
  by_cases hc : clipped = true
  · rw [if_pos hc]
  · rw [if_neg hc, if_neg (fun h' => hn.ne' h'.1), if_pos (h.resolve_left hc)]

/-- What the energy of a sample rests on. -/
theorem State.pemEnergy_congr (t : State) (g : Nat) (x : Rat) (hr : ∀ n, n < 12 → t.reg (K.PEM_COEF g n) = s.reg (K.PEM_COEF g n)) (hs : t.sealed = s.sealed)
    (he : t.ens = s.ens) : t.pemEnergy g x = s.pemEnergy g x := by
  have hpats : (List.range 12).map (fun n => t.inForce (K.PEM_COEF g n)) = (List.range 12).map fun n => s.inForce (K.PEM_COEF g n) :=
    List.map_congr_left fun n hn => by rw [State.inForce, State.inForce, hs, hr n (List.mem_range.mp hn)]
  simp only [State.pemEnergy, hpats, he]

/-- A monitor's sample before its energy check: what it shows, and what it leaves for the check. -/
theorem State.caSample_monitor_shows (a k : Nat) (m : Int) (ha : a ≠ 0) (_ha5 : a < 5) (r : Nat) (hr : r = s.reg (K.CA_RANGE_NOW a)) (u : State) (hu : u = s.caSample a k m) :
    u.reg (K.CA_LAST a) = r * 2 ^ 14 + ofSigned 14 m ∧ u.reg (K.CA_RANGE_NOW a) = r
    ∧ u.reg (K.CA_CLIPS a) = (if 7372 < m.natAbs then min (s.reg (K.CA_CLIPS a) + 1) (2 ^ 32 - 1) else s.reg (K.CA_CLIPS a))
    ∧ s.keeps u [K.CA_LAST a, K.CA_CLIPS a, K.SENS_OUT (2 + a), K.SENS_FLAGS (2 + a)] ∧ u.ensB = s.ensB ∧ u.ens = s.ens ∧ u.pipe = s.pipe ∧ u.sealed = s.sealed := by
  obtain ⟨hlast, hnow, hclips, hkeeps, hens, hen, hpipe, hseal⟩ := s.caKept_shows a r m hr
  have hsense := (s.caKept a r m).sense_keeps (2 + a) (chargeOf r m)
  obtain ⟨hsens, hsen, hspipe, hsseal⟩ := (s.caKept a r m).sense_parts (2 + a) (chargeOf r m)
  have hapart : ∀ q ∈ [K.CA_LAST a, K.CA_RANGE_NOW a, K.CA_CLIPS a], q ∉ [K.SENS_OUT (2 + a), K.SENS_FLAGS (2 + a)] := fun q hq => by
    simp only [List.mem_cons, List.not_mem_nil, or_false, K.CA_LAST, K.CA_RANGE_NOW, K.CA_CLIPS, K.SENS_OUT, K.SENS_FLAGS] at hq ⊢
    omega
  rw [hu, s.caSample_monitor a k m ha, ← hr]
  exact ⟨(hsense _ (hapart _ (by simp))).trans hlast, (hsense _ (hapart _ (by simp))).trans hnow, (hsense _ (hapart _ (by simp))).trans hclips,
    (hkeeps.mono (by simp)).trans (hsense.mono (by simp)), hsens.trans hens, hsen.trans hen, hspipe.trans hpipe, hsseal.trans hseal⟩

theorem exec_caSample (amp : Fin 5) (k : Fin 4) (m : Int) (hc : s.mode.coreRuns = true) : exec (.caSample amp k m) s = .next (s.ampSample amp k m).settle := by
  calc exec (.caSample amp k m) s = .next (s.core fun s => s.ampSample amp k m).settle := rfl
    _ = _ := by rw [s.core_on _ hc]

theorem exec_caRangeChange (amp : Fin 5) (hc : s.mode.coreRuns = true) : exec (.caRangeChange amp) s = .next (s.caReset amp).settle := by
  calc exec (.caRangeChange amp) s = .next (s.core fun s => s.caReset amp).settle := rfl
    _ = _ := by rw [s.core_on _ hc]

end

/-- Settles O39: a sample of CA-M after its reset instant, a monitor's before its energy check. -/
theorem chargeAmplifiers : Obligations.ChargeAmplifiers := by
  refine ⟨fun s amp k m rng hc hf hr => ⟨s.ampSample amp k m, exec_caSample s amp k m hc, ?_⟩, fun s amp rng c hc hcc hr => ?_⟩
  · by_cases ha : amp.val = 0
    · rw [if_neg (not_not.mpr ha)] at hr
      have hnew : rng = s.caNewRange 0 := hr
      obtain ⟨hnow, hreset⟩ := s.caReset_shows 0
      obtain ⟨hlast, hrange, hclips, -⟩ := (s.caReset 0).caKept_shows 0 rng m (by rw [hnow, hnew])
      have hangle := s.caSample_angle k m
      rw [← hnew] at hangle
      have hcount : (s.caReset 0).reg (K.CA_CLIPS 0) = s.reg (K.CA_CLIPS 0) := hreset _ (by decide)
      have hsample : s.ampSample amp k m = s.caSample 0 k m := by rw [State.ampSample, ha, if_pos rfl]
      rw [hsample, ha, hangle _ (by decide), hangle _ (by decide), hangle _ (by decide), hlast, hrange, hclips, hcount]
      exact ⟨rfl, rfl, rfl, fun h => absurd rfl h, fun h => absurd rfl h⟩
    · rw [if_pos ha] at hr
      obtain ⟨u, hu⟩ : ∃ u, u = s.caSample amp k m := ⟨_, rfl⟩
      obtain ⟨hlast, hnow, hclips, hkeeps, hens, hen, hpipe, hseal⟩ := s.caSample_monitor_shows amp k m ha amp.isLt rng hr u hu
      have hsample : s.ampSample amp k m = u.pemCheck (amp - 1) (chargeOf rng m) (decide (7372 < m.natAbs)) := by
        rw [State.ampSample, if_neg ha, ← hu, hnow]
      have hfires : ∀ f ∈ u.pipe.cur.fires, f.emitter < 16 := by rw [hpipe]; exact hf
      have hregs := u.pemCheck_regs (amp - 1) (chargeOf rng m) (decide (7372 < m.natAbs))
      have hfound := u.pemFound_keeps (amp - 1) (chargeOf rng m) (decide (7372 < m.natAbs)) hfires
      have hforce : ∀ key ∈ [K.EDARK_MAX, K.EMEAS_MAX], u.inForce key = s.inForce key := fun key hkey => by
        have hreg := hkeeps key (by
          simp only [List.mem_cons, List.not_mem_nil, or_false, K.EDARK_MAX, K.EMEAS_MAX, K.CA_LAST, K.CA_CLIPS, K.SENS_OUT, K.SENS_FLAGS] at hkey ⊢
          omega)
        rw [State.inForce, State.inForce, hseal, hreg]
      have henergy : u.pemEnergy (amp - 1) (chargeOf rng m) = s.pemEnergy (amp - 1) (chargeOf rng m) :=
        s.pemEnergy_congr u _ _ (fun n _ => hkeeps _ (by
          simp only [List.mem_cons, List.not_mem_nil, or_false, K.PEM_COEF, K.CA_LAST, K.CA_CLIPS, K.SENS_OUT, K.SENS_FLAGS]
          omega)) hseal hen
      have hreleased : u.groupReleased (amp - 1) = s.groupReleased (amp - 1) := by rw [State.groupReleased, hens]; rfl
      have hapart : ∀ q ∈ [K.CA_LAST amp, K.CA_RANGE_NOW amp, K.CA_CLIPS amp], q ∉ violateKeys := fun q hq => by
        have := amp.isLt
        simp only [List.mem_cons, List.not_mem_nil, or_false, K.CA_LAST, K.CA_RANGE_NOW, K.CA_CLIPS] at hq
        refine not_violateKey (by omega) ?_
        simp only [List.mem_cons, List.not_mem_nil, or_false, K.SH_CAUSE, K.SH_LAST, K.SH_LATCHED]
        omega
      rw [hsample, hregs, hregs, hregs, hfound _ (hapart _ (by simp)), hfound _ (hapart _ (by simp)), hfound _ (hapart _ (by simp)), hlast, hnow, hclips]
      refine ⟨rfl, rfl, rfl, fun _ hnone => ⟨fun h => ?_, fun hm he => ?_⟩, fun _ hn h => ?_⟩
      · have hzero : ((u.groupReleased (amp - 1)).map (·.2)).foldl (· + ·) 0 = 0 := by rw [hreleased, hnone]; rfl
        have hdark := u.pemFound_dark (amp - 1) (chargeOf rng m) (decide (7372 < m.natAbs)) hzero (by
          rw [henergy, hforce _ (by simp)]
          exact h.imp_left decide_eq_true)
        rw [State.regBit, hregs, hdark]
        exact u.violate_bit 1 1087 hfires
      · have hzero : ((u.groupReleased (amp - 1)).map (·.2)).foldl (· + ·) 0 = 0 := by rw [hreleased, hnone]; rfl
        have hquiet := u.pemFound_quiet (amp - 1) (chargeOf rng m) hzero (by rw [henergy, hforce _ (by simp)]; exact he)
        have hclip : decide (7372 < m.natAbs) = false := decide_eq_false (by omega)
        refine ⟨?_, ?_⟩
        · rw [hregs, hclip, hquiet]
          refine hkeeps _ ?_
          simp only [List.mem_cons, List.not_mem_nil, or_false, K.SH_CAUSE, K.CA_LAST, K.CA_CLIPS, K.SENS_OUT, K.SENS_FLAGS]
          have := amp.isLt
          omega
        · rw [u.pemCheck_unreleased _ _ _ (by rw [hreleased, hnone]), hclip, hquiet, hens]
      · have hdone := u.pemFound_energy (amp - 1) (chargeOf rng m) (decide (7372 < m.natAbs)) (by rw [hreleased]; exact hn) (by
          rw [henergy, hforce _ (by simp), hforce _ (by simp), hreleased]
          exact h.imp_left decide_eq_true)
        rw [State.regBit, hregs, hdone]
        exact u.violate_bit 0 1087 hfires
  · have hnew : rng = s.caNewRange amp := by rw [hr, hcc]; rfl
    rw [exec_caRangeChange s amp hc, hnew, hcc]
    exact ⟨fun h => by rw [s.caReset_stays amp h], fun h => by rw [s.caReset_changes amp h]⟩

end Sys2Proof.Machine
end

section
/-! PROOFS. Chapter 15: bins, INHIBIT_N, violations, permits, the seal and the straps. -/

namespace Sys2Proof.Machine

/-! ### Fires that a suppression ends (R67, R382, R383) -/

/-- A fire that neither waits nor runs. -/
def FireCmd.ended (f : FireCmd) : Prop := f.fate ≠ .planned ∧ f.fate ≠ .fired

theorem suppressFire_ended (s : State) (f : FireCmd) : (suppressFire s f).2.ended := by
  unfold suppressFire
  split
  · exact ⟨by simp, by simp⟩
  · exact ⟨by simp, by simp⟩
  next h1 h2 => exact ⟨h1, h2⟩

theorem foldl_suppress_ended (l : List FireCmd) (p : State × List FireCmd) (h : ∀ f ∈ p.2, f.ended) : ∀ f ∈ (l.foldl (fireStep suppressFire) p).2, f.ended := by
  induction l generalizing p with
  | nil => exact h
  | cons c l ih =>
    refine ih _ fun f hf => ?_
    rcases List.mem_append.mp hf with hf | hf
    · exact h f hf
    · rw [List.mem_singleton.mp hf]
      exact suppressFire_ended p.1 c

theorem State.suppressAll_ended (s : State) : ∀ f ∈ s.suppressAll.pipe.cur.fires, f.ended :=
  foldl_suppress_ended s.pipe.cur.fires (s, []) fun _ h => absurd h List.not_mem_nil

section
variable (s : State)

theorem State.suppressAll_parts : s.suppressAll.ensB = s.ensB ∧ s.suppressAll.mode = s.mode ∧ s.suppressAll.retLog = s.retLog ∧ s.suppressAll.boot = s.boot
    ∧ s.suppressAll.vaoTime = s.vaoTime := by
  obtain ⟨u, l, hu, hobjs, -⟩ := s.suppressAll_eq
  rw [hu, hobjs]
  exact ⟨rfl, rfl, rfl, rfl, rfl⟩

/-- What a violation has set before it latches. -/
def State.declared (bit t : Nat) : State := (s.suppressAll.putBit K.SH_CAUSE bit true).put K.SH_LAST t

theorem State.declared_regs (bit t k : Nat) (h : ∀ f ∈ s.pipe.cur.fires, f.emitter < 16) (hk : k ∉ fireKeys) :
    (s.declared bit t).reg k = if k = K.SH_LAST then t else if k = K.SH_CAUSE then withBit (s.reg K.SH_CAUSE) bit true else s.reg k := by
  have hcause : s.suppressAll.reg K.SH_CAUSE = s.reg K.SH_CAUSE := s.suppressAll_keeps h _ (not_fireKey (by decide))
  rw [State.declared, State.reg_put, State.putBit, State.reg_put, hcause, s.suppressAll_keeps h k hk]

theorem State.declared_parts (bit t : Nat) : (s.declared bit t).ensB = s.ensB ∧ (s.declared bit t).mode = s.mode ∧ (s.declared bit t).retLog = s.retLog
    ∧ (s.declared bit t).heldCauses = s.heldCauses ∧ (s.declared bit t).vaoTime = s.vaoTime ∧ ∀ f ∈ (s.declared bit t).pipe.cur.fires, f.ended := by
  obtain ⟨hens, hmode, hlog, hboot, hvao⟩ := s.suppressAll_parts
  refine ⟨hens, hmode, hlog, ?_, hvao, s.suppressAll_ended⟩
  have hm : (s.declared bit t).mode = s.mode := hmode
  have hb : (s.declared bit t).boot = s.boot := hboot
  simp only [State.heldCauses, hm, hb]

/-- A violation that does not latch, or stands latched already, adds nothing to what it has declared. -/
theorem State.violateAt_declares (bit t : Nat) (h : latchedCause bit = false ∨ (s.declared bit t).regBit K.SH_LATCHED bit = true) :
    s.violateAt bit t = s.declared bit t := by
  refine if_neg ?_
  have hd : ((s.suppressAll.putBit K.SH_CAUSE bit true).put K.SH_LAST t) = s.declared bit t := rfl
  rw [hd]
  rcases h with h | h
  · simp [h]
  · simp [h]

/-- One that latches for the first time enters the retention log. -/
theorem State.violateAt_latches (bit t : Nat) (h : latchedCause bit = true) (hl : (s.declared bit t).regBit K.SH_LATCHED bit = false) :
    s.violateAt bit t = ((s.declared bit t).putBit K.SH_LATCHED bit true).logRet 4
      (leBytes 4 (((s.declared bit t).putBit K.SH_LATCHED bit true).reg K.SH_LATCHED ||| ((s.declared bit t).putBit K.SH_LATCHED bit true).heldCauses)) := by
  have hd : ((s.suppressAll.putBit K.SH_CAUSE bit true).put K.SH_LAST t) = s.declared bit t := rfl
  refine if_pos ?_
  rw [hd, h, hl]
  rfl

theorem latchedCause_iff (bit : Fin 11) : latchedCause bit = true ↔ bit.val ∉ [3, 4, 5, 10] := by
  revert bit
  decide

/-! ### The always-on domain without ticks (R379) -/

theorem State.binStep_ensB : s.binStep.ensB = { s.ensB with
    binClock := s.ensB.binClock + 1
    bins100 := if (s.ensB.binClock + 1) % 500 = 0 then s.ensB.bins100.map closeBin else s.ensB.bins100
    bins10 := if (s.ensB.binClock + 1) % 50000 = 0 then s.ensB.bins10.map closeBin else s.ensB.bins10 } := by
  unfold State.binStep
  dsimp only
  split_ifs <;> rfl

theorem State.binTick_still (h : s.ticking = false) : s.binTick = s.aoTick.convFree := if_neg (by rw [h]; decide)

/-- The periods of the converters change the converters alone. -/
theorem State.convStep_frame (mv : Nat → Nat → Nat) :
    ∃ l, s.convStep mv = s.setSup { s.sup with conv := l } := ⟨_, rfl⟩

theorem State.convFree_frame : ∃ n l, s.convFree = ({ s with free := n } : State).setSup { s.sup with conv := l } := by
  unfold State.convFree
  extract_lets d
  obtain ⟨l, hl⟩ := d.2.convStep_frame fun i j => Config.freeNat d.1 / 2 ^ (8 * (2 * i + j)) % 64
  exact ⟨s.free + 1, l, hl⟩

theorem State.binStep_frame : ∃ b, s.binStep = s.setB b := by
  unfold State.binStep
  dsimp only
  split_ifs <;> exact ⟨_, rfl⟩

theorem State.aoTick_frame : s.aoTick = { s.binStep with
    vaoTime := s.vaoTime + 1
    sup := { s.sup with faultAges := (s.sup.faultAges.map (· + 1)).filter (· < slotsOfMs 10000) } } := by
  obtain ⟨b, hb⟩ := s.binStep_frame
  unfold State.aoTick
  rw [hb]
  rfl

theorem State.binStep_objs : s.binStep.objs = s.objs := by
  obtain ⟨b, hb⟩ := s.binStep_frame
  rw [hb]
  rfl

theorem State.aoTick_free : s.aoTick.convFree.vaoTime = s.vaoTime + 1 ∧ s.aoTick.convFree.objs = s.objs ∧ s.aoTick.convFree.ensB = s.binStep.ensB
    ∧ s.aoTick.convFree.sup.faultAges = (s.sup.faultAges.map (· + 1)).filter (· < 5000000) := by
  obtain ⟨n, l, h⟩ := s.aoTick.convFree_frame
  have hms : slotsOfMs 10000 = 5000000 := rfl
  rw [h, s.aoTick_frame, hms]
  exact ⟨rfl, s.binStep_objs, rfl, rfl⟩

/-! ### INHIBIT_N (R383) -/

theorem State.inhibitFall_shows (h : ∀ f ∈ s.pipe.cur.fires, f.emitter < 16) : s.inhibitFall.ensB = { s.ensB with inhibitLow := true, inhibited := true }
    ∧ s.inhibitFall.reg K.INHIBIT_STATE = 1 ∧ s.inhibitFall.reg K.INHIBIT_COUNT = min (s.reg K.INHIBIT_COUNT + 1) (2 ^ 32 - 1)
    ∧ ∀ f ∈ s.inhibitFall.pipe.cur.fires, f.ended := by
  obtain ⟨u, hu, hens, hobjs, hpipe⟩ : ∃ u : State, s.inhibitFall = u.suppressAll ∧ u.ensB = { s.ensB with inhibitLow := true, inhibited := true }
      ∧ (∀ k, u.reg k = ((s.count K.INHIBIT_COUNT).put K.INHIBIT_STATE 1).reg k) ∧ u.pipe = s.pipe := ⟨_, rfl, rfl, fun _ => rfl, rfl⟩
  have hkeeps := u.suppressAll_keeps (by rw [hpipe]; exact h)
  rw [hu]
  refine ⟨u.suppressAll_parts.1.trans hens, ?_, ?_, u.suppressAll_ended⟩
  · rw [hkeeps _ (not_fireKey (by decide)), hobjs, State.reg_put_self]
  · rw [hkeeps _ (not_fireKey (by decide)), hobjs, State.reg_put_ne _ _ _ _ (by decide), State.count, State.reg_put_self]
    rfl

theorem State.permitCond_inhibited (h : s.ensB.inhibited = true) : s.permitCond = false := by simp [State.permitCond, h]

/-- An inhibition takes both permits off as the outputs follow. -/
theorem State.settle_inhibited (h : s.ensB.inhibited = true) : s.settle.ensB.permitA = false ∧ s.settle.ensB.permitB = false := by
  rw [State.settle_ensB, s.permitGate_off (s.permitCond_inhibited h), State.permitsOff_ensB]
  exact ⟨rfl, rfl⟩

end

/-- Settles O41: the bins by their step, INHIBIT_N and a violation by what they leave. -/
theorem binsInhibitAndViolations : Obligations.BinsInhibitAndViolations := by
  refine ⟨fun s h => ?_, fun s h => ?_, fun s hf => ?_, fun s => rfl, fun s bit => ⟨fun _ => rfl, ?_⟩, ?_⟩
  · obtain ⟨hvao, hobjs, hens, hages⟩ := s.aoTick_free
    have hexec : exec .ensignBinStep s = .next s.binTick.settle := rfl
    rw [s.binTick_still h] at hexec
    exact ⟨_, hexec, hvao, hobjs, hens.trans s.binStep_ensB, hages⟩
  · have hexec : exec .ensignBinStep s = .next s.binTick.settle := rfl
    rw [hexec, State.binTick, if_pos h]
  · obtain ⟨hens, hstate, hcount, hended⟩ := s.inhibitFall_shows hf
    obtain ⟨hA, hB⟩ := s.inhibitFall.settle_inhibited (by rw [hens])
    exact ⟨s.inhibitFall, rfl, hens, hstate, hcount, hended, hA, hB⟩
  · exact ⟨_, Nat.mod_lt _ (by decide), rfl⟩
  · rintro s t bit stamp hf rfl
    have hregs := s.declared_regs bit stamp
    obtain ⟨hens, hmode, hlog, hheld, hvao, hended⟩ := s.declared_parts bit stamp
    have hlatched : (s.declared bit stamp).reg K.SH_LATCHED = s.reg K.SH_LATCHED := (hregs _ hf (not_fireKey (by decide))).trans rfl
    have hcommon : ∀ t : State, (∀ k, k ≠ K.SH_LATCHED → t.reg k = (s.declared bit stamp).reg k) → t.pipe = (s.declared bit stamp).pipe →
        t.mode = (s.declared bit stamp).mode → t.ensB = (s.declared bit stamp).ensB →
        t.regBit K.SH_CAUSE bit = true ∧ (∀ n, n < 32 → n ≠ bit.val → t.regBit K.SH_CAUSE n = s.regBit K.SH_CAUSE n) ∧ t.reg K.SH_LAST = stamp
        ∧ (∀ f ∈ t.pipe.cur.fires, f.fate ≠ .planned ∧ f.fate ≠ .fired) ∧ t.mode = s.mode ∧ t.ensB = s.ensB := by
      intro t hr hp hm he
      have hcause : t.reg K.SH_CAUSE = withBit (s.reg K.SH_CAUSE) bit true := (hr _ (by decide)).trans ((hregs _ hf (not_fireKey (by decide))).trans rfl)
      refine ⟨s.regBit_cause t bit true hcause, fun n _ hn => ?_, (hr _ (by decide)).trans ((hregs _ hf (not_fireKey (by decide))).trans rfl), by rw [hp]; exact hended,
        hm.trans hmode, he.trans hens⟩
      rw [State.regBit, hcause, bitAt_withBit, if_neg hn]
      rfl
    by_cases hq : latchedCause bit = false ∨ (s.declared bit stamp).regBit K.SH_LATCHED bit = true
    · rw [s.violateAt_declares bit stamp hq]
      obtain ⟨h1, h2, h3, h4, h5, h6⟩ := hcommon _ (fun _ _ => rfl) rfl rfl rfl
      refine ⟨h1, h2, h3, h4, h5, h6, fun _ => ⟨hlog, hlatched⟩, fun hn => ?_⟩
      have hbit : s.regBit K.SH_LATCHED bit = true := by
        rcases hq with hq | hq
        · rw [(latchedCause_iff bit).mpr hn] at hq
          exact absurd hq (by decide)
        · rwa [State.regBit, hlatched] at hq
      exact ⟨by rw [State.regBit, hlatched]; exact hbit, fun _ => hlog, fun h => absurd (hbit.symm.trans h) (by decide)⟩
    · obtain ⟨hla, hnew⟩ := not_or.mp hq
      have hla : latchedCause bit = true := by simpa using hla
      have hnew : (s.declared bit stamp).regBit K.SH_LATCHED bit = false := by simpa using hnew
      have hold : s.regBit K.SH_LATCHED bit = false := by rwa [State.regBit, hlatched] at hnew
      have hn := (latchedCause_iff bit).mp hla
      rw [s.violateAt_latches bit stamp hla hnew]
      generalize s.declared bit stamp = d at *
      obtain ⟨h1, h2, h3, h4, h5, h6⟩ := hcommon ((d.putBit K.SH_LATCHED bit true).logRet 4
        (leBytes 4 ((d.putBit K.SH_LATCHED bit true).reg K.SH_LATCHED ||| (d.putBit K.SH_LATCHED bit true).heldCauses))) (fun k hk => d.reg_put_ne _ _ _ hk) rfl rfl rfl
      refine ⟨h1, h2, h3, h4, h5, h6, fun h => absurd h hn, fun _ => ⟨?_, fun h => absurd (h.symm.trans hold) (by decide), fun _ => ?_⟩⟩
      · have hset : ((d.putBit K.SH_LATCHED bit true).reg K.SH_LATCHED) = withBit (d.reg K.SH_LATCHED) bit true := State.reg_put_self _ _ _
        have hbit : bitAt ((d.putBit K.SH_LATCHED bit true).reg K.SH_LATCHED) bit = true := by rw [hset, bitAt_withBit, if_pos rfl]
        exact hbit
      · have hlogged : ∀ (u : State) (b : List Byte), (u.logRet 4 b).retLog = ((leBytes 4 4 ++ leBytes 4 (u.vaoTime / 500 % 2 ^ 32) ++ bytesAt b 0 8) :: u.retLog).take 8 :=
          fun _ _ => rfl
        rw [hlogged, ← hvao, ← hlog]
        rfl

end Sys2Proof.Machine
end

section
/-! PROOFS. Chapter 15: the permits' feedbacks and tests, Ensign's urgent requests, the seal and the straps. -/

namespace Sys2Proof.Machine

section
variable (s : State)

/-! ### Permit feedbacks and tests (R384 to R387) -/

theorem State.feedback_agrees (b level : Bool) (h : s.permitLevel b = level) :
    s.feedback b level = s.setB (if b = true then { s.ensB with fbB := level } else { s.ensB with fbA := level }) := by
  have hlevel : (s.setB (if b = true then { s.ensB with fbB := level } else { s.ensB with fbA := level })).permitLevel b = level := by
    cases b
    · exact h
    · exact h
  exact if_pos (by rw [hlevel]; exact beq_self_eq_true level)

theorem State.feedback_differs (b level : Bool) (h : s.permitLevel b ≠ level) :
    s.feedback b level = (s.setB (if b = true then { s.ensB with fbB := level } else { s.ensB with fbA := level })).violateNow 6 := by
  have hlevel : (s.setB (if b = true then { s.ensB with fbB := level } else { s.ensB with fbA := level })).permitLevel b = s.permitLevel b := by
    cases b
    · rfl
    · rfl
  exact if_neg (by rw [hlevel]; simpa using fun he => h he.symm)

theorem State.testStart_of (p : Permit) (h : s.ensB.test = some p) (hl : s.ensB.testLow = false) :
    s.testStart = s.setB { s.ensB with testLow := true, fbA := s.ensB.fbA && p != .a, fbB := s.ensB.fbB && p != .b } := by
  simp [State.testStart, h, hl]

/-- The state in which the test of permit `p` is over and the other permit is next. -/
def State.permitTestOver (p : Permit) : State :=
  (s.setB { s.ensB with test := none, testLow := false, fbA := s.ensB.fbA || p == .a, fbB := s.ensB.fbB || p == .b }).put K.TP_NEXT (1 - s.reg K.TP_NEXT)

theorem State.permitTestOver_reg (p : Permit) (k : Nat) (h : k ≠ K.TP_NEXT) : (s.permitTestOver p).reg k = s.reg k := State.reg_put_ne _ _ _ _ h

theorem State.testEnd_pass (p : Permit) (h : s.ensB.test = some p) (hl : s.ensB.testLow = true) :
    s.testEnd true = ((s.permitTestOver p).count K.TP_PASS).setB { (s.permitTestOver p).ensB with passed := some (s.reg K.TP_PASS) } := by
  simp only [State.testEnd, h, hl]
  rfl

theorem State.testEnd_fail (p : Permit) (h : s.ensB.test = some p) (hl : s.ensB.testLow = true) :
    s.testEnd false = (((s.permitTestOver p).count K.TP_FAIL).stick 27).violateNow 6 := by
  simp only [State.testEnd, h, hl]
  rfl

theorem State.count_of_reg (k n : Nat) (h : s.reg k = n) : s.count k = s.put k (min (n + 1) (2 ^ 32 - 1)) := by
  subst h
  rfl

theorem State.voidTest_running (h : s.ensB.test ≠ none) :
    s.voidTest = (s.put K.TP_VOID (min (s.reg K.TP_VOID + 1) (2 ^ 32 - 1))).setB { s.ensB with test := none, testLow := false } := by
  obtain ⟨p, hp⟩ := Option.ne_none_iff_exists'.mp h
  simp only [State.voidTest, hp]
  rfl

theorem State.voidTest_passed (n : Nat) (hp : s.ensB.passed = some n) (ht : s.ensB.test = none) :
    s.voidTest = (((s.put K.TP_PASS n).put K.TP_NEXT (1 - s.reg K.TP_NEXT)).put K.TP_VOID (min (s.reg K.TP_VOID + 1) (2 ^ 32 - 1))).setB { s.ensB with passed := none } := by
  have hvoid : ((s.put K.TP_PASS n).put K.TP_NEXT (1 - s.reg K.TP_NEXT)).reg K.TP_VOID = s.reg K.TP_VOID := by
    rw [State.reg_put_ne _ _ _ _ (by decide), State.reg_put_ne _ _ _ _ (by decide)]
  have hover : s.voidTest = (((s.put K.TP_PASS n).put K.TP_NEXT (1 - s.reg K.TP_NEXT)).count K.TP_VOID).setB { s.ensB with passed := none } := by
    unfold State.voidTest
    split
    next q hq => exact absurd (hq.symm.trans ht) (by simp)
    next m _ hm =>
      obtain rfl : m = n := Option.some.inj (hm.symm.trans hp)
      rfl
    next _ hm => exact absurd (hm.symm.trans hp) (by simp)
  rw [hover, State.count_of_reg _ _ _ hvoid]

theorem State.forcedTest_due (ha : s.ensB.permitA = true) (hb : s.ensB.permitB = true) (h : 99998 ≤ s.ensB.sinceTest) :
    s.forcedTest = s.setB { s.ensB with forcedDue := true } := if_pos (by simp [ha, hb]; omega)

theorem State.forcedTest_early (h : s.ensB.sinceTest < 99998) : s.forcedTest = s := if_neg (by simp; omega)

/-! ### Ensign's urgent requests (R388) -/

theorem State.urgentPush_shows (q : Urgent) : (s.urgentPush q).hk.urgent = s.hk.urgent ++ [q] ∧ (s.urgentPush q).ensB = s.ensB ∧ (s.urgentPush q).reg K.HK_STATE = 3
    ∧ (s.urgentPush q).reg K.URGENT_REFUSED = s.reg K.URGENT_REFUSED := by
  by_cases h : s.hk.urgent ≠ [] ∨ s.hk.started = false
  · rw [s.urgentPush_queues q h]
    exact ⟨rfl, rfl, s.reg_put_self K.HK_STATE 3, s.reg_put_ne K.HK_STATE K.URGENT_REFUSED 3 (by decide)⟩
  · obtain ⟨hu, hs⟩ := not_or.mp h
    have hu : s.hk.urgent = [] := not_not.mp hu
    rw [s.urgentPush_aborts q hu (by simpa using hs)]
    refine ⟨by rw [hu]; rfl, rfl, (s.count K.URGENT_ABORTS).reg_put_self K.HK_STATE 3, ?_⟩
    exact ((s.count K.URGENT_ABORTS).reg_put_ne K.HK_STATE K.URGENT_REFUSED 3 (by decide)).trans (s.reg_put_ne _ _ _ (by decide))

/-- What Ensign notes of a request that is due. -/
def EnsignB.asked (b : EnsignB) : EnsignB := { b with requested := true, sinceRequest := if 4999 ≤ b.sinceRequest then 0 else b.sinceRequest }

/-- Ensign asks once a slot, when its 10 ms are over or its last request was refused. -/
theorem State.urgentRequest_asks (ho : s.hk.on = true) (hr : s.ensB.requested = false) (hd : s.ensB.urgentRetry = true ∨ 4999 ≤ s.ensB.sinceRequest) :
    s.urgentRequest = if s.urgentRoom then (s.setB { s.ensB.asked with urgentRetry := false, urgentWait := true }).urgentPush { ensign := true, input := 8, range := 0 }
      else (s.setB { s.ensB.asked with urgentRetry := true }).count K.URGENT_REFUSED := by
  have hdue : decide (5000 ≤ s.ensB.sinceRequest + 1) = decide (4999 ≤ s.ensB.sinceRequest) := decide_eq_decide.mpr (by omega)
  have hasks : (!s.hk.on || s.ensB.requested || !(s.ensB.urgentRetry || decide (4999 ≤ s.ensB.sinceRequest))) = false := by
    rcases hd with hd | hd
    · simp [ho, hr, hd]
    · simp [ho, hr, hd]
  unfold State.urgentRequest
  dsimp only
  rw [hdue, hasks]
  simp only [decide_eq_true_eq]
  rfl

theorem State.urgentTimeout_due (ho : s.hk.on = true) (hc : s.regBit K.SH_CAUSE 10 = false) (h : 9999 ≤ s.ensB.sinceUrgent) : s.urgentTimeout = s.violateNow 10 :=
  if_pos (by simp [ho, hc]; omega)

theorem State.urgentTimeout_early (h : s.ensB.sinceUrgent < 9999) : s.urgentTimeout = s := if_neg (by simp; omega)

end

/-- Settles O42: each step of the permits' tests and of Ensign's requests by the case that its guard names. -/
theorem permitsAndUrgents : Obligations.PermitsAndUrgents := by
  refine ⟨fun s b level u hm hu => ⟨fun h => ?_, fun h => ?_⟩, fun s p h ht hl => ?_, fun s p u h ht hl hu => ?_, fun s n hp ht => s.voidTest_passed n hp ht,
    fun s h => s.voidTest_running h, fun s h ha hb => ⟨fun hd => ?_, fun hd => ?_⟩, fun s n h ho hr hd hn => ⟨fun hl => ?_, fun hl => ?_⟩,
    fun s h ho hc => ⟨fun hd => ?_, fun hd => ?_⟩⟩
  · calc exec (.permitFeedbackFault b level) s = .next (s.powered fun s => s.feedback b level).settle := rfl
      _ = _ := by rw [s.powered_on _ hm, s.feedback_agrees b level h, hu]
  · calc exec (.permitFeedbackFault b level) s = .next (s.powered fun s => s.feedback b level).settle := rfl
      _ = _ := by rw [s.powered_on _ hm, s.feedback_differs b level h, hu]
  · calc exec .permitTestStart s = .next (s.core State.testStart).settle := rfl
      _ = _ := by rw [s.core_on _ h, s.testStart_of p ht hl]
  · have hover : u = s.permitTestOver p := hu
    subst hover
    constructor
    · calc exec (.permitTestEnd true) s = .next (s.core fun s => s.testEnd true).settle := rfl
        _ = _ := by rw [s.core_on _ h, s.testEnd_pass p ht hl, State.count_of_reg _ _ _ (s.permitTestOver_reg p K.TP_PASS (by decide))]
    · calc exec (.permitTestEnd false) s = .next (s.core fun s => s.testEnd false).settle := rfl
        _ = _ := by rw [s.core_on _ h, s.testEnd_fail p ht hl, State.count_of_reg _ _ _ (s.permitTestOver_reg p K.TP_FAIL (by decide))]
  · calc exec .forcedTestDue s = .next (s.core State.forcedTest).settle := rfl
      _ = _ := by rw [s.core_on _ h, s.forcedTest_due ha hb hd]
  · calc exec .forcedTestDue s = .next (s.core State.forcedTest).settle := rfl
      _ = _ := by rw [s.core_on _ h, s.forcedTest_early hd]
  · have hask : s.urgentRequest = (s.setB { s.ensB.asked with urgentRetry := false, urgentWait := true }).urgentPush { ensign := true, input := 8, range := 0 } := by
      rw [s.urgentRequest_asks ho hr hd, if_pos (by simp [State.urgentRoom, ho, hl])]
    obtain ⟨hq, hens, hstate, href⟩ := (s.setB { s.ensB.asked with urgentRetry := false, urgentWait := true }).urgentPush_shows { ensign := true, input := 8, range := 0 }
    rw [← hask] at hq hens hstate href
    subst hn
    refine ⟨s.urgentRequest, ?_, hq, hens, hstate, href⟩
    calc exec .ensignUrgentRequest s = .next (s.core State.urgentRequest).settle := rfl
      _ = _ := by rw [s.core_on _ h]
  · subst hn
    calc exec .ensignUrgentRequest s = .next (s.core State.urgentRequest).settle := rfl
      _ = _ := by
        rw [s.core_on _ h, s.urgentRequest_asks ho hr hd, if_neg (by simp [State.urgentRoom, hl])]
        rfl
  · calc exec .ensignUrgentTimeout s = .next (s.core State.urgentTimeout).settle := rfl
      _ = _ := by rw [s.core_on _ h, s.urgentTimeout_due ho hc hd]
  · calc exec .ensignUrgentTimeout s = .next (s.core State.urgentTimeout).settle := rfl
      _ = _ := by rw [s.core_on _ h, s.urgentTimeout_early hd]

/-! ### The seal (R390 to R393) -/

section
variable (s : State)

theorem State.sealCheck_open (upset : Bool) (h : s.reg K.SEAL_STATE = 0) : s.sealCheck upset = s := if_pos h

theorem State.sealCheck_good (h : s.reg K.SEAL_STATE ≠ 0) (hc : crc32 s.sealImage = s.reg K.SEAL_CRC) : s.sealCheck false = s := by
  simp [State.sealCheck, h, hc]

theorem State.sealCheck_bad (upset : Bool) (h : s.reg K.SEAL_STATE ≠ 0) (hc : upset = true ∨ crc32 s.sealImage ≠ s.reg K.SEAL_CRC) :
    s.sealCheck upset = (s.put K.SEAL_STATE 2).violateNow 7 := by
  simp only [State.sealCheck, if_neg h, if_pos hc]

theorem State.keepForce_objs (k : Nat) : (s.keepForce k).objs = s.objs := by
  unfold State.keepForce
  split <;> rfl

/-- The first write of a sealed object notes the value that stays in force. -/
theorem State.keepForce_prior (k : Nat) : storeGet (s.keepForce k).sealed.prior k = some (s.inForce k) := by
  unfold State.keepForce State.inForce
  split
  next h =>
    obtain ⟨v, hv⟩ := Option.isSome_iff_exists.mp h
    rw [hv]
    rfl
  next h =>
    have hnone : storeGet s.sealed.prior k = none := by simpa using h
    rw [hnone]
    exact storeGet_storeSet_self _ _ _

theorem State.inForce_of_prior (k v : Nat) (h : storeGet s.sealed.prior k = some v) : s.inForce k = v := by
  rw [State.inForce, h]
  rfl

/-! ### The straps (R394, R395, Table 15.4) -/

theorem strapBand_lt (r a : Nat) (h : strapBand r = some a) : a < 8 := by
  unfold strapBand at h
  split_ifs at h
  · simp at h; omega
  · simp at h; omega
  · obtain ⟨i, hi, rfl⟩ := Option.map_eq_some_iff.mp h
    have hlen := (List.findIdx?_eq_some_iff_findIdx_eq.mp hi).1
    simp at hlen
    omega

theorem strapCode_of (i r a : Nat) (h : strapBand r = some a) : strapCode i r = a := by
  rw [strapCode, h]
  exact Nat.mod_eq_of_lt (strapBand_lt r a h)

theorem strapAt_of (l : List Nat) (i : Nat) (h : i < l.length) : strapAt l i = l.getD i 0 := by
  rw [strapAt, List.getD_eq_getElem _ _ h, List.getD_eq_getElem _ _ h]

theorem strapWord_eq (l : List Nat) : strapWord l = strapCode 0 (strapAt l 0) + 8 * strapCode 1 (strapAt l 1) + 64 * strapCode 2 (strapAt l 2) + 512 * strapCode 3 (strapAt l 3) := by
  have h : strapWord l = 0 + strapCode 0 (strapAt l 0) * 8 ^ 0 + strapCode 1 (strapAt l 1) * 8 ^ 1 + strapCode 2 (strapAt l 2) * 8 ^ 2 + strapCode 3 (strapAt l 3) * 8 ^ 3 := rfl
  rw [h]
  omega

theorem strapCheck_iff (a b c d : Nat) (ha : a < 8) (hb : b < 8) (hc : c < 8) (hd : d < 8) :
    strapCheck (a + 8 * b + 64 * c + 512 * d) = true ↔ d = (a + 3 * b + 5 * c + 1) % 8 := by
  have h0 : bits (a + 8 * b + 64 * c + 512 * d) 2 0 = a := by simp only [bits]; omega
  have h1 : bits (a + 8 * b + 64 * c + 512 * d) 5 3 = b := by simp only [bits]; omega
  have h2 : bits (a + 8 * b + 64 * c + 512 * d) 8 6 = c := by simp only [bits]; omega
  have h3 : bits (a + 8 * b + 64 * c + 512 * d) 11 9 = d := by simp only [bits]; omega
  rw [strapCheck, h0, h1, h2, h3]
  exact beq_iff_eq

/-- Straps that read as they should only show. -/
theorem State.strapJudge_good (l : List Nat) (hb : (List.range 4).any (fun i => (strapBand (strapAt l i)).isNone) = false) (hc : strapCheck (strapWord l) = true)
    (hw : strapWord l = s.reg K.STRAP_BOOT) : s.strapJudge l = s.put K.STRAP_READ (strapWord l) := by
  have hboot : (s.put K.STRAP_READ (strapWord l)).reg K.STRAP_BOOT = strapWord l := (s.reg_put_ne _ _ _ (by decide)).trans hw.symm
  refine if_neg ?_
  rw [hb, hc, hboot]
  simp

theorem State.strapJudge_bad (l : List Nat) (h : (List.range 4).any (fun i => (strapBand (strapAt l i)).isNone) = true ∨ ¬ strapCheck (strapWord l) = true
      ∨ strapWord l ≠ s.reg K.STRAP_BOOT) :
    s.strapJudge l = (if s.mode.coreRuns = true then (s.put K.STRAP_READ (strapWord l)).stick 23 else s.put K.STRAP_READ (strapWord l)).violateNow 8 := by
  have hboot : (s.put K.STRAP_READ (strapWord l)).reg K.STRAP_BOOT = s.reg K.STRAP_BOOT := s.reg_put_ne _ _ _ (by decide)
  refine if_pos ?_
  rw [hboot]
  simpa using h

theorem strap_unread (l : List Nat) (hl : l.length = 4) : (List.range 4).any (fun i => (strapBand (strapAt l i)).isNone) = true ↔ ∃ r ∈ l, strapBand r = none := by
  simp only [List.any_eq_true, List.mem_range, Option.isNone_iff_eq_none]
  constructor
  · rintro ⟨i, hi, h⟩
    rw [strapAt_of l i (by omega), List.getD_eq_getElem _ _ (by omega)] at h
    exact ⟨_, List.getElem_mem _, h⟩
  · rintro ⟨r, hr, h⟩
    obtain ⟨i, hi, rfl⟩ := List.getElem_of_mem hr
    refine ⟨i, by omega, ?_⟩
    rw [strapAt_of l i hi, List.getD_eq_getElem _ _ hi]
    exact h

theorem strapBand_eq (r : Nat) : strapBand r = if r < 1000 then some 0 else if 330000 < r then some 7 else if 1900 ≤ r ∧ r ≤ 2500 then some 1
    else if 4100 ≤ r ∧ r ≤ 5400 then some 2 else if 8700 ≤ r ∧ r ≤ 11500 then some 3 else if 19000 ≤ r ∧ r ≤ 25000 then some 4
    else if 41000 ≤ r ∧ r ≤ 54000 then some 5 else if 87000 ≤ r ∧ r ≤ 115000 then some 6 else none := by
  unfold strapBand
  simp only [List.findIdx?_cons, List.findIdx?_nil, decide_eq_true_eq]
  split_ifs <;> rfl

theorem strapBand_bands (r : Nat) : (r < 1000 → strapBand r = some 0) ∧ (1900 ≤ r → r ≤ 2500 → strapBand r = some 1) ∧ (4100 ≤ r → r ≤ 5400 → strapBand r = some 2)
    ∧ (8700 ≤ r → r ≤ 11500 → strapBand r = some 3) ∧ (19000 ≤ r → r ≤ 25000 → strapBand r = some 4) ∧ (41000 ≤ r → r ≤ 54000 → strapBand r = some 5)
    ∧ (87000 ≤ r → r ≤ 115000 → strapBand r = some 6) ∧ (330000 < r → strapBand r = some 7)
    ∧ (1000 ≤ r ∧ r < 1900 ∨ 2500 < r ∧ r < 4100 ∨ 5400 < r ∧ r < 8700 ∨ 11500 < r ∧ r < 19000 ∨ 25000 < r ∧ r < 41000 ∨ 54000 < r ∧ r < 87000 ∨ 115000 < r ∧ r ≤ 330000 →
      strapBand r = none) := by
  refine ⟨fun _ => ?_, fun _ _ => ?_, fun _ _ => ?_, fun _ _ => ?_, fun _ _ => ?_, fun _ _ => ?_, fun _ _ => ?_, fun _ => ?_, fun _ => ?_⟩
  · rw [strapBand_eq, if_pos (by omega)]
  · rw [strapBand_eq, if_neg (by omega), if_neg (by omega), if_pos (by omega)]
  · rw [strapBand_eq, if_neg (by omega), if_neg (by omega), if_neg (by omega), if_pos (by omega)]
  · rw [strapBand_eq, if_neg (by omega), if_neg (by omega), if_neg (by omega), if_neg (by omega), if_pos (by omega)]
  · rw [strapBand_eq, if_neg (by omega), if_neg (by omega), if_neg (by omega), if_neg (by omega), if_neg (by omega), if_pos (by omega)]
  · rw [strapBand_eq, if_neg (by omega), if_neg (by omega), if_neg (by omega), if_neg (by omega), if_neg (by omega), if_neg (by omega), if_pos (by omega)]
  · rw [strapBand_eq, if_neg (by omega), if_neg (by omega), if_neg (by omega), if_neg (by omega), if_neg (by omega), if_neg (by omega), if_neg (by omega), if_pos (by omega)]
  · rw [strapBand_eq, if_neg (by omega), if_pos (by omega)]
  · rw [strapBand_eq, if_neg (by omega), if_neg (by omega), if_neg (by omega), if_neg (by omega), if_neg (by omega), if_neg (by omega), if_neg (by omega), if_neg (by omega)]

end

/-- Settles O43: the seal's check, the values in force and the straps by the bands of Table 15.4. -/
theorem sealAndStraps : Obligations.SealAndStraps := by
  refine ⟨fun s upset hm => ?_, fun s k v => ?_, strapBand_bands, fun s u l w hm hw hl hu => ?_⟩
  · have hexec : exec (.sealCrcCheck upset) s = .next (s.sealCheck upset).settle := by
      calc exec (.sealCrcCheck upset) s = .next (s.powered fun s => s.sealCheck upset).settle := rfl
        _ = _ := by rw [s.powered_on _ hm]
    refine ⟨fun h => ?_, fun h hup hc => ?_, fun h hc => ?_⟩
    · rw [hexec, s.sealCheck_open upset h]
    · rw [hexec, hup, s.sealCheck_good h hc]
    · rw [hexec, s.sealCheck_bad upset h hc]
  · have hkept : (s.keepForce k).inForce k = s.inForce k := State.inForce_of_prior _ _ _ (s.keepForce_prior k)
    refine ⟨hkept, State.inForce_of_prior _ _ _ (s.keepForce_prior k), fun h => ?_⟩
    have hreg : s.inForce k = s.reg k := by
      rw [State.inForce, h]
      rfl
    exact ⟨hreg, hkept.trans hreg⟩
  · subst hw
    have hexec : exec (.strapRead l) s = .next (s.strapJudge l).settle := by
      calc exec (.strapRead l) s = .next (s.powered fun s => s.strapRead l).settle := rfl
        _ = _ := by rw [s.powered_on _ hm]; rfl
    refine ⟨fun a b c d ha hb hc hd => ?_, fun h => ?_⟩
    · rw [← strapAt_of l _ (by omega)] at ha hb hc hd
      have hword : strapWord l = a + 8 * b + 64 * c + 512 * d := by
        rw [strapWord_eq, strapCode_of _ _ _ ha, strapCode_of _ _ _ hb, strapCode_of _ _ _ hc, strapCode_of _ _ _ hd]
      have hcheck : strapCheck (strapWord l) = true ↔ d = (a + 3 * b + 5 * c + 1) % 8 := by
        rw [hword]
        exact strapCheck_iff a b c d (strapBand_lt _ _ ha) (strapBand_lt _ _ hb) (strapBand_lt _ _ hc) (strapBand_lt _ _ hd)
      have hread : (List.range 4).any (fun i => (strapBand (strapAt l i)).isNone) = false := by
        have hrange : List.range 4 = [0, 1, 2, 3] := rfl
        simp [hrange, ha, hb, hc, hd]
      refine ⟨hword, fun hd hboot => ?_, fun h => ?_⟩
      · rw [hexec, s.strapJudge_good l hread (hcheck.mpr hd) hboot]
      · rw [hexec, hu, s.strapJudge_bad l (.inr (h.imp (fun hd => fun hk => hd (hcheck.mp hk)) id))]
    · rw [hexec, hu, s.strapJudge_bad l (.inl ((strap_unread l hl).mpr h))]

end Sys2Proof.Machine
end

section
/-! PROOFS. Chapter 18: the records of a boot script. -/

namespace Sys2Proof.Machine

section
variable (s : State)

/-! ### The record in hand (R457) -/

theorem State.record_head (r : List Byte) (l : List (List Byte)) (ty : Nat) (hm : s.mode = .boot) (hb : s.boot.step = 9) (hs : s.boot.script = r :: l)
    (ht : fieldAt r 0 1 = ty) : s.record ty = some r := by
  simp [State.record, hm, hb, hs, ht]

theorem State.scriptWrite_absent (cc : Nat) (ecc : Ecc) (r : List Byte) (h : s.record 1 = some r) (ho : objRow? (recordKey r) = none) :
    s.scriptWrite cc ecc = s.scriptStop 1 := by
  simp only [State.scriptWrite, h, ho]
  rfl

theorem State.scriptWrite_found (cc : Nat) (ecc : Ecc) (r : List Byte) (o : ObjRow) (h : s.record 1 = some r) (ho : objRow? (recordKey r) = some o) :
    s.scriptWrite cc ecc = scriptResult (s.writeFound .standby 4 o (recordKey r) cc ecc (bytesAt r 8 (fieldAt r 1 1))) := by
  simp only [State.scriptWrite, h, ho]

/-- The state in which the content of a DOMAIN record has been taken off the staging frames. -/
def State.stagedOff (n : Nat) : State := { s with boot := { s.boot with staged := s.boot.staged + n } }

theorem State.scriptDomain_absent (cc : Nat) (r : List Byte) (h : s.record 2 = some r) (ho : objRow? (recordKey r) = none) :
    s.scriptDomain cc = (s.stagedOff (fieldAt r 12 4)).scriptStop 1 := by
  simp only [State.scriptDomain, h, ho]
  rfl

theorem State.scriptDomain_found (cc : Nat) (r : List Byte) (o : ObjRow) (h : s.record 2 = some r) (ho : objRow? (recordKey r) = some o) :
    s.scriptDomain cc = scriptResult ((s.stagedOff (fieldAt r 12 4)).writeDomain .standby o (recordKey r) cc (s.stageGet s.boot.staged (fieldAt r 12 4))) := by
  simp only [State.scriptDomain, h, ho]
  rfl

/-! ### COMMIT records -/

theorem State.commitBusy_iff : s.commitBusy = true ↔ s.reg K.COMMIT_STATE = 1 ∨ s.reg K.COMMIT_STATE = 2 := by
  simp [State.commitBusy]

/-- The state in which a COMMIT record waits for its commit. -/
def State.commitAwaited (mask : Nat) : State :=
  { s.put K.COMMIT_STATE 1 with commit := { mask := mask, path := 4 }, boot := { s.boot with commitWait := true } }

theorem State.scriptCommit_busy (r : List Byte) (h : s.record 3 = some r) (hw : s.boot.commitWait = false) (hb : s.commitBusy = true) : s.scriptCommit = s.scriptStop 6 := by
  simp [State.scriptCommit, State.commitWrite, h, hw, hb]

theorem State.scriptCommit_none (r : List Byte) (h : s.record 3 = some r) (hw : s.boot.commitWait = false) (hb : s.commitBusy = false) (hm : fieldAt r 4 4 = 0) :
    s.scriptCommit = s.scriptNext := by
  simp [State.scriptCommit, State.commitWrite, State.commitStart, h, hw, hb, hm]

theorem State.scriptCommit_starts (r : List Byte) (h : s.record 3 = some r) (hw : s.boot.commitWait = false) (hb : s.commitBusy = false) (hm : fieldAt r 4 4 ≠ 0) :
    s.scriptCommit = s.commitAwaited (fieldAt r 4 4) := by
  have hstate : (s.put K.COMMIT_STATE 1).reg K.COMMIT_STATE = 1 := s.reg_put_self _ _
  have hbusy : ({ s.put K.COMMIT_STATE 1 with commit := { mask := fieldAt r 4 4, path := 4 } } : State).commitBusy = true := (State.commitBusy_iff _).mpr (.inl hstate)
  have hwrite : s.commitWrite (fieldAt r 4 4) 4 = (0, { s.put K.COMMIT_STATE 1 with commit := { mask := fieldAt r 4 4, path := 4 } }) := by
    simp only [State.commitWrite, State.commitStart, hb, if_neg hm]
    rfl
  simp only [State.scriptCommit, h, hw, hwrite, hbusy]
  rfl

theorem State.scriptCommit_waits (r : List Byte) (h : s.record 3 = some r) (hw : s.boot.commitWait = true) (hb : s.commitBusy = true) : s.scriptCommit = s := by
  simp [State.scriptCommit, h, hw, hb]

theorem State.scriptCommit_refused (r : List Byte) (h : s.record 3 = some r) (hw : s.boot.commitWait = true) (hc : s.reg K.COMMIT_STATE = 3) :
    s.scriptCommit = s.scriptStop (s.reg K.COMMIT_RESULT) := by
  simp [State.scriptCommit, State.commitBusy, h, hw, hc]

theorem State.scriptCommit_done (r : List Byte) (h : s.record 3 = some r) (hw : s.boot.commitWait = true) (hc : s.reg K.COMMIT_STATE = 0) : s.scriptCommit = s.scriptNext := by
  simp [State.scriptCommit, State.commitBusy, h, hw, hc]

/-! ### WAIT and END records -/

theorem State.scriptWait_read (r : List Byte) (v : Nat) (h : s.record 4 = some r) (hv : s.waitValue (recordKey r) = .ok v) :
    s.scriptWait = (if v &&& fieldAt r 8 4 = fieldAt r 12 4 then s.scriptNext else s)
    ∧ s.scriptTimeout = if v &&& fieldAt r 8 4 = fieldAt r 12 4 then s.scriptNext else s.scriptStop timeoutCode := by
  simp only [State.scriptWait, State.scriptTimeout, h, hv, and_self]

theorem State.scriptWait_unread (r : List Byte) (e : Nat) (h : s.record 4 = some r) (hv : s.waitValue (recordKey r) = .error e) :
    s.scriptWait = s.scriptStop e ∧ s.scriptTimeout = s.scriptStop e := by
  simp only [State.scriptWait, State.scriptTimeout, h, hv, and_self]

theorem State.scriptEnd_shows (r : List Byte) (h : s.record 15 = some r) :
    s.scriptEnd.boot = { s.boot with script := [], step := 10, recNo := s.boot.recNo + 1, commitWait := false }
    ∧ s.scriptEnd.reg K.SCRIPT_RECORDS = min (s.reg K.SCRIPT_RECORDS + 1) (2 ^ 32 - 1) ∧ s.scriptEnd.regBit K.BOOT_STATUS (if s.boot.slotB = true then 1 else 0) = true
    ∧ s.keeps s.scriptEnd [K.SCRIPT_RECORDS, K.BOOT_STATUS] := by
  have hend : ∃ b, s.scriptEnd = { s.scriptNext.putBit K.BOOT_STATUS (if s.boot.slotB = true then 1 else 0) true with boot := b }
      ∧ b = { s.boot with script := [], step := 10, recNo := s.boot.recNo + 1, commitWait := false } := by
    simp only [State.scriptEnd, h]
    exact ⟨_, rfl, rfl⟩
  obtain ⟨b, hend, hb⟩ := hend
  have hstatus : s.scriptEnd.reg K.BOOT_STATUS = withBit (s.scriptNext.reg K.BOOT_STATUS) (if s.boot.slotB = true then 1 else 0) true := by
    rw [hend]
    exact State.reg_put_self _ _ _
  have hother : ∀ k, k ≠ K.BOOT_STATUS → s.scriptEnd.reg k = s.scriptNext.reg k := fun k hk => by
    rw [hend]
    exact State.reg_put_ne _ _ _ _ hk
  have hnext : ∀ k, k ≠ K.SCRIPT_RECORDS → s.scriptNext.reg k = s.reg k := fun k hk => State.reg_put_ne _ _ _ _ hk
  refine ⟨?_, ?_, ?_, fun k hk => ?_⟩
  · rw [hend]
    exact hb
  · rw [hother _ (by decide)]
    exact State.reg_put_self _ _ _
  · rw [State.regBit, hstatus, bitAt_withBit, if_pos rfl]
  · simp only [List.mem_cons, List.not_mem_nil, or_false, not_or] at hk
    rw [hother k hk.2, hnext k hk.1]

end

/-- Settles O53: each record by what its result makes of the script. -/
theorem scriptRecords : Obligations.ScriptRecords := by
  intro s r l next stop u hm hb hs hnext hstop hu
  have hn : ∀ t : State, t.scriptNext = next t := fun t => by rw [hnext]; rfl
  have hp : ∀ (t : State) (c : Nat), t.scriptStop c = stop t c := fun t c => by rw [hstop]; rfl
  have hresult : ∀ (c : Nat) (t : State), scriptResult (c, t) = if c = 0 then next t else stop t c := fun c t => by
    rw [← hn, ← hp]
    rfl
  have hoff : ∀ n, s.stagedOff n = u n := fun n => by rw [hu]; rfl
  have hrec : ∀ ty, fieldAt r 0 1 = ty → s.record ty = some r := fun ty => s.record_head r l ty hm hb hs
  refine ⟨fun cc ecc o k c t ht hk => ⟨fun ho => ?_, fun ho hw => ?_⟩, fun cc o k c t ht hk => ⟨fun ho => ?_, fun ho hw => ?_⟩, fun ht => ?_, fun v ht hv => ?_,
    fun e ht hv => ?_, fun ht => ⟨s.scriptEnd, rfl, s.scriptEnd_shows r (hrec _ ht)⟩⟩
  · subst hk
    calc exec (.scriptWrite cc ecc) s = .next (s.scriptWrite cc ecc).settle := rfl
      _ = _ := by rw [s.scriptWrite_absent cc ecc r (hrec _ ht) ho, hp]
  · subst hk
    calc exec (.scriptWrite cc ecc) s = .next (s.scriptWrite cc ecc).settle := rfl
      _ = _ := by rw [s.scriptWrite_found cc ecc r o (hrec _ ht) ho]; exact congrArg (fun x => Host.Outcome.next (State.settle x)) ((congrArg scriptResult hw).trans (hresult c t))
  · subst hk
    calc exec (.scriptDomain cc) s = .next (s.scriptDomain cc).settle := rfl
      _ = _ := by rw [s.scriptDomain_absent cc r (hrec _ ht) ho, hp, hoff]
  · subst hk
    rw [← hoff] at hw
    calc exec (.scriptDomain cc) s = .next (s.scriptDomain cc).settle := rfl
      _ = _ := by rw [s.scriptDomain_found cc r o (hrec _ ht) ho]; exact congrArg (fun x => Host.Outcome.next (State.settle x)) ((congrArg scriptResult hw).trans (hresult c t))
  · have hexec : exec .scriptCommit s = .next s.scriptCommit.settle := rfl
    rw [hexec]
    refine ⟨fun hw hb => ?_, fun hw hb hz => ?_, fun hw hb hz => ?_, fun hw hb => ?_, fun hw hc => ?_, fun hw hc => ?_⟩
    · rw [s.scriptCommit_busy r (hrec _ ht) hw hb, hp]
    · rw [s.scriptCommit_none r (hrec _ ht) hw hb hz, hn]
    · rw [s.scriptCommit_starts r (hrec _ ht) hw hb hz]
      rfl
    · rw [s.scriptCommit_waits r (hrec _ ht) hw hb]
    · rw [s.scriptCommit_refused r (hrec _ ht) hw hc, hp]
    · rw [s.scriptCommit_done r (hrec _ ht) hw hc, hn]
  · have hexec : exec .scriptWait s = .next s.scriptWait.settle ∧ exec .scriptWaitTimeout s = .next s.scriptTimeout.settle := ⟨rfl, rfl⟩
    obtain ⟨hwait, htime⟩ := s.scriptWait_read r v (hrec _ ht) hv
    rw [hexec.1, hexec.2, hwait, htime]
    refine ⟨fun hc => ?_, fun hc => ?_⟩
    · rw [if_pos hc, if_pos hc, hn]
      exact ⟨rfl, rfl⟩
    · rw [if_neg hc, if_neg hc, hp]
      exact ⟨rfl, rfl⟩
  · have hexec : exec .scriptWait s = .next s.scriptWait.settle ∧ exec .scriptWaitTimeout s = .next s.scriptTimeout.settle := ⟨rfl, rfl⟩
    obtain ⟨hwait, htime⟩ := s.scriptWait_unread r e (hrec _ ht) hv
    rw [hexec.1, hexec.2, hwait, htime, hp]
    exact ⟨rfl, rfl⟩

end Sys2Proof.Machine
end

section
/-! PROOFS. Chapter 16: the instructions of the test access port; a write of a write-only register. -/

namespace Sys2Proof.Machine

section
variable (s : State)

/-! ### Writes of write-only registers (R307) -/

theorem leBytes_length (n v : Nat) : (leBytes n v).length = n := by
  induction n generalizing v with
  | zero => rfl
  | succ n ih => rw [leBytes, List.length_cons, ih]

/-- A write of a write-only register in a mode of its row has the register's effect. -/
theorem State.hostWrite_wo (k n v : Nat) (a : HostAt) (h : s.mayWrite a.path k = true)
    (hr : (objRow? k).any (fun r => r.acc == .wo && !r.isDomain && decide (r.size = n) && r.inRange v) = true) (hx : s.extraRange k v = true) (hv : v < 256 ^ n) :
    s.hostWrite k (a.write n v) = noteResult a.path (s.writeReg a.path.num k v a.cc a.ecc) := by
  obtain ⟨r, hrow, hr⟩ := (Option.any_eq_true _ _).mp hr
  simp only [Bool.and_eq_true, beq_iff_eq, Bool.not_eq_true', decide_eq_true_eq] at hr
  obtain ⟨⟨⟨hacc, hdom⟩, hsize⟩, hrange⟩ := hr
  obtain ⟨ha, hs, hm⟩ := s.mayWrite_row _ _ _ h hrow
  have hvalue : ofLe (a.write n v).data = v := ofLe_leBytes n v hv
  have hlen : (a.write n v).data.length = r.size := by
    rw [hsize]
    exact leBytes_length n v
  have hok : s.writeRefusal s.mode r k (a.write n v).data = 0 := by
    refine s.writeRefusal_wo r k _ hacc hlen ?_ hm
    rw [hvalue, State.valueOk, hrange, hx]
    rfl
  have hwrite := s.hostWrite_ok k (a.write n v) r ha hs hrow hdom hok (by rw [hacc]; rfl)
  rw [hwrite, hacc, hvalue]
  rfl

/-! ### Instructions (R414, R415, Table 16.5) -/

/-- What every instruction starts from. -/
def ResetState.plain (r : ResetState) : ResetState := { r with bypass := false, pinsHighZ := false, pinsFromChain := false }

theorem State.tapTest_open (ir : Nat) (f : ResetState → ResetState) (h : s.rst.testEn = true) : s.tapTest ir f = s.setRst (f { s.rst.plain with tapIr := ir }) := by
  rw [State.tapTest, if_pos h]
  rfl

theorem State.tapTest_shut (ir : Nat) (f : ResetState → ResetState) (h : s.rst.testEn = false) : s.tapTest ir f = s.tapBypass 15 := by
  rw [State.tapTest, h]
  rfl

theorem State.tapBypass_eq (ir : Nat) : s.tapBypass ir = s.setRst { s.rst.plain with tapIr := ir, bypass := true } := rfl

theorem State.scanEntry_shut (h : s.rst.testEn = false) : s.scanEntry = s.tapBypass 15 := by
  rw [State.scanEntry, h]
  rfl

/-- Structural scan zeroises both secrets and locks them out. -/
theorem State.scanEntry_shows (h : s.rst.testEn = true) : s.scanEntry.rst = { s.rst.plain with tapIr := 10, structural := true } ∧ s.scanEntry.reg K.KEY_STATE = 4
    ∧ s.scanEntry.reg K.ZEROISE_COUNT = min (s.reg K.ZEROISE_COUNT + 1) (2 ^ 32 - 1) ∧ s.scanEntry.plan = { s.plan with ditherNonce := none }
    ∧ s.keeps s.scanEntry [K.KEY_STATE, K.ZEROISE_COUNT] := by
  have hrst : s.zeroise.rst = s.rst := rfl
  have hentry : s.scanEntry = (s.zeroise.put K.KEY_STATE 4).setRst { s.rst.plain with tapIr := 10, structural := true } := by
    rw [State.scanEntry, if_pos h]
    exact (s.zeroise.put K.KEY_STATE 4).tapTest_open 10 _ h
  have hcount : s.zeroise.reg K.ZEROISE_COUNT = min (s.reg K.ZEROISE_COUNT + 1) (2 ^ 32 - 1) := by
    refine (State.reg_put_self (s.put K.KEY_STATE (s.reg K.KEY_STATE &&& 4)) K.ZEROISE_COUNT _).trans ?_
    rw [State.reg_put_ne _ _ _ _ (by decide)]
    rfl
  have hzero : s.keeps s.zeroise [K.KEY_STATE, K.ZEROISE_COUNT] :=
    (((State.keeps.refl s _).put K.KEY_STATE (s.reg K.KEY_STATE &&& 4) (by simp)).put K.ZEROISE_COUNT _ (by simp)).of_objs rfl
  rw [hentry]
  exact ⟨rfl, State.reg_put_self s.zeroise K.KEY_STATE 4, (State.reg_put_ne s.zeroise K.KEY_STATE K.ZEROISE_COUNT 4 (by decide)).trans hcount, rfl,
    (hzero.put K.KEY_STATE 4 (by simp)).of_objs rfl⟩

theorem State.chainSample_cell (pins : List Bool) (n : Nat) (b : Ball) (h : chainBalls[n]? = some b) :
    (s.chainSample pins)[n]? = some ((s.ball b).driven.getD (pins.getD n false)) := by
  rw [State.chainSample, List.getElem?_map, List.getElem?_zipIdx, h]
  simp

end

/-- Settles O47: TEST_EN decides which instructions run, and each by what it leaves in the port. -/
theorem testAccess : Obligations.TestAccess := by
  rintro s r hm rfl
  have hexec : ∀ (c : Instr) (f : State → State), exec c s = .next (s.powered f).settle → exec c s = .next (f s).settle := fun c f h => by
    rw [h, s.powered_on f hm]
  refine ⟨fun pins outs => hexec _ (fun s => s.tapSample pins outs) rfl, fun ir => hexec _ (fun s => s.tapBypass ir) rfl, fun h => ⟨fun pins outs => ?_, ?_, ?_, ?_⟩,
    fun h c hc => ?_, fun pins n b hb => s.chainSample_cell pins n b hb⟩
  · rw [hexec (.extest pins outs) (fun s => s.tapTest 0 fun r => { r with chain := s.chainSample pins, preload := outs, pinsFromChain := true }) rfl, s.tapTest_open _ _ h]
    rfl
  · rw [hexec .clamp (fun s => s.tapTest 2 fun r => { r with bypass := true, pinsFromChain := true }) rfl, s.tapTest_open _ _ h]
    rfl
  · rw [hexec .highz (fun s => s.tapTest 3 fun r => { r with bypass := true, pinsHighZ := true }) rfl, s.tapTest_open _ _ h]
    rfl
  · exact ⟨s.scanEntry, hexec _ State.scanEntry rfl, s.scanEntry_shows h⟩
  · have hshut : exec c s = .next (s.tapBypass 15).settle := by
      rcases hc with rfl | rfl | rfl | ⟨pins, outs, rfl⟩
      · rw [hexec .clamp (fun s => s.tapTest 2 fun r => { r with bypass := true, pinsFromChain := true }) rfl, s.tapTest_shut _ _ h]
      · rw [hexec .highz (fun s => s.tapTest 3 fun r => { r with bypass := true, pinsHighZ := true }) rfl, s.tapTest_shut _ _ h]
      · rw [hexec .scanEntry State.scanEntry rfl, s.scanEntry_shut h]
      · rw [hexec (.extest pins outs) (fun s => s.tapTest 0 fun r => { r with chain := s.chainSample pins, preload := outs, pinsFromChain := true }) rfl, s.tapTest_shut _ _ h]
    exact hshut

end Sys2Proof.Machine
end

section
/-! PROOFS. Chapter 18: the dies held, released and reset; RESET_N, TEST_EN, TRST_N and the balls in each state. -/

namespace Sys2Proof.Machine

section
variable (s : State)

/-! ### The dies lose their state (R459, R461) -/

/-- What the dies held keep is what the always-on domain holds; every other register reads its default. -/
theorem State.coreReset_reg (m : Mode) (k : Nat) : (s.coreReset m).reg k = if keptInHeld k then s.reg k else objDefault k := by
  have h : (s.coreReset m).reg k = (storeGet (s.objs.filter fun q => keptInHeld q.1) k).getD (objDefault k) := rfl
  rw [h, storeGet_filter]
  split
  · rfl
  · rfl

theorem State.enterHeld_eq (hm : s.mode ≠ .off) (ht : s.mode ≠ .thermalLatch) : s.enterHeld = ((s.coreReset .held).put K.PLLA_STATE 0).put K.PLLB_STATE 0 :=
  if_neg (by simp [hm, ht])

theorem State.enterHeld_stays (h : s.mode = .off ∨ s.mode = .thermalLatch) : s.enterHeld = s := if_pos h

theorem State.enterHeld_mode (hm : s.mode ≠ .off) (ht : s.mode ≠ .thermalLatch) : s.enterHeld.mode = .held := by
  rw [s.enterHeld_eq hm ht]
  rfl

theorem State.enterHeld_kept (k : Nat) (h : keptInHeld k = true) : s.enterHeld.reg k = s.reg k := by
  by_cases hq : s.mode = .off ∨ s.mode = .thermalLatch
  · rw [s.enterHeld_stays hq]
  · obtain ⟨hm, ht⟩ := not_or.mp hq
    have ha : k ≠ K.PLLA_STATE := fun he => absurd (he ▸ h : keptInHeld K.PLLA_STATE = true) (by decide)
    have hb : k ≠ K.PLLB_STATE := fun he => absurd (he ▸ h : keptInHeld K.PLLB_STATE = true) (by decide)
    rw [s.enterHeld_eq hm ht, State.reg_put_ne _ _ _ _ hb, State.reg_put_ne _ _ _ _ ha, State.coreReset_reg, if_pos h]

theorem State.enterHeld_lost (k : Nat) (hm : s.mode ≠ .off) (ht : s.mode ≠ .thermalLatch) (h : keptInHeld k = false) (ha : k ≠ K.PLLA_STATE) (hb : k ≠ K.PLLB_STATE) :
    s.enterHeld.reg k = objDefault k := by
  rw [s.enterHeld_eq hm ht, State.reg_put_ne _ _ _ _ hb, State.reg_put_ne _ _ _ _ ha, State.coreReset_reg, h]
  rfl

/-- What holding the dies leaves outside their registers. -/
theorem State.enterHeld_parts : s.enterHeld.rst = s.rst ∧ s.enterHeld.sup = s.sup ∧ s.enterHeld.retLog = s.retLog ∧ s.enterHeld.therm = s.therm ∧ s.enterHeld.fuses = s.fuses
    ∧ s.enterHeld.vaoTime = s.vaoTime ∧ s.enterHeld.ensB.bins100 = s.ensB.bins100 ∧ s.enterHeld.ensB.bins10 = s.ensB.bins10 := by
  by_cases hq : s.mode = .off ∨ s.mode = .thermalLatch
  · rw [s.enterHeld_stays hq]
    exact ⟨rfl, rfl, rfl, rfl, rfl, rfl, rfl, rfl⟩
  · obtain ⟨hm, ht⟩ := not_or.mp hq
    rw [s.enterHeld_eq hm ht]
    exact ⟨rfl, rfl, rfl, rfl, rfl, rfl, rfl, rfl⟩

/-! ### Permits that a condition forbids (R384) -/

theorem State.settle_permits_off (h : s.permitCond = false) : s.settle.ensB.permitA = false ∧ s.settle.ensB.permitB = false := by
  rw [State.settle_ensB, s.permitGate_off h, State.permitsOff_ensB]
  exact ⟨rfl, rfl⟩

theorem State.permitCond_mode (h : s.mode = .off ∨ s.mode = .held ∨ s.mode = .thermalLatch ∨ s.mode = .safeHold) : s.permitCond = false := by
  rcases h with h | h | h | h <;> simp [State.permitCond, State.permitMode, h]

theorem State.permitCond_testEn (h : s.rst.testEn = true) : s.permitCond = false := by simp [State.permitCond, h]

/-! ### RESET_N (R459, R460) -/

/-- The state in which RESET_N low has been counted and noted, before the dies are held. -/
def State.resetNoted : State :=
  ((s.count K.RESET_COUNT).setRst { s.rst with resetLow := true, resetSince := true }).setSup { s.sup with resetInLockOut := s.sup.lockOut }

theorem State.resetAssert_latched (hr : s.sup.released = true) (hl : s.rst.resetLow = false) (hm : s.mode = .thermalLatch) :
    s.resetAssert = s.setRst { s.rst with resetLow := true } := by
  simp [State.resetAssert, hr, hl, hm]

theorem State.resetAssert_holds (hr : s.sup.released = true) (hl : s.rst.resetLow = false) (hm : s.mode ≠ .thermalLatch) : s.resetAssert = s.resetNoted.enterHeld := by
  simp only [State.resetAssert, hr, hl, if_neg hm]
  rfl

theorem State.resetNoted_reg (k : Nat) : s.resetNoted.reg k = if k = K.RESET_COUNT then min (s.reg K.RESET_COUNT + 1) (2 ^ 32 - 1) else s.reg k :=
  s.reg_put K.RESET_COUNT k _

theorem State.resetRelease_latched (hl : s.rst.resetLow = true) (hm : s.mode = .thermalLatch) : s.resetRelease = s.setRst { s.rst with
    resetLow := false, stuck := false, tapHeld := s.rst.tapHeld && !s.rst.resetSince, resetSince := false } := by
  simp [State.resetRelease, hl, hm]

theorem State.railsGood_congr (t : State) (h : t.objs = s.objs) : t.railsGood = s.railsGood := by
  simp only [State.railsGood, State.railOn, State.reg_congr _ _ h]

/-- Released with the rails good and no pin holding it, the part starts BOOT. -/
theorem State.resetRelease_boots (hl : s.rst.resetLow = true) (hm : s.mode = .held) (hr : s.railsGood = true) (ht : s.rst.testEn = false)
    (hp : s.rst.tapHeld = false ∨ s.rst.resetSince = true) (hk : s.sup.lockOut = false ∨ s.sup.resetInLockOut = false) :
    s.resetRelease = (s.setRst { s.rst with resetLow := false, stuck := false, tapHeld := false, resetSince := false }).coreReset .boot := by
  have htap : (s.rst.tapHeld && !s.rst.resetSince) = false := by
    rcases hp with h | h
    · simp [h]
    · simp [h]
  obtain ⟨u, hu⟩ : ∃ u : State, u = s.setRst { s.rst with resetLow := false, stuck := false, tapHeld := false, resetSince := false } := ⟨_, rfl⟩
  have hum : u.mode = .held := by rw [hu]; exact hm
  have hur : u.railsGood = true := by rw [hu]; exact (State.railsGood_congr s _ rfl).trans hr
  have hup : u.pinsHold = false := by rw [hu]; simp [State.pinsHold, ht]
  have hul : ¬ (u.sup.lockOut = true ∧ u.sup.resetInLockOut = true) := by
    rw [hu, State.setRst_sup]
    rcases hk with h | h
    · simp [h]
    · simp [h]
  rw [← hu]
  have hrelease : s.resetRelease = if u.mode = .thermalLatch then u
      else if u.sup.lockOut ∧ u.sup.resetInLockOut then (u.setSup { u.sup with lockOut := false, resetInLockOut := false }).railsStart
      else if u.mode = .held ∧ u.railsGood ∧ !u.pinsHold then u.enterBoot else u := by
    rw [State.resetRelease, hl, htap, hu]
    rfl
  rw [hrelease, if_neg (by rw [hum]; decide), if_neg hul, if_pos ⟨hum, hur, by rw [hup]; rfl⟩]
  exact if_pos (.inr hum)

/-! ### RET_LOG_CLEAR (R430, R462) -/

theorem exec_retLogClear (a : HostAt) (h : s.mayWrite a.path K.RET_LOG_CLEAR = true) :
    exec (.retLogClear a) s = .next (noteResult a.path (0, s.retLogClear 1)).settle := by
  calc exec (.retLogClear a) s = .next (s.hostWrite K.RET_LOG_CLEAR (a.write 1 1)).settle := rfl
    _ = _ := by rw [s.hostWrite_wo _ 1 1 a h (by decide) rfl (by decide)]; rfl

theorem State.retLogClear_plain (h : s.sup.lockRail = none) : s.retLogClear 1 = { s with retLog := [] } := by
  simp only [State.retLogClear, h]
  rfl

theorem State.retLogClear_rail (i : Nat) (h : s.sup.lockRail = some i) : (s.retLogClear 1).retLog = [] ∧ (s.retLogClear 1).sup = { s.sup with lockRail := none }
    ∧ (s.retLogClear 1).reg (K.RAIL_STATE i) = (if s.reg (K.RAIL_STATE i) = 4 then 2 else s.reg (K.RAIL_STATE i)) ∧ s.keeps (s.retLogClear 1) [K.RAIL_STATE i] := by
  obtain ⟨u, hu⟩ : ∃ u : State, u = ({ s with retLog := [] } : State).setSup { s.sup with lockRail := none } := ⟨_, rfl⟩
  have hreg : ∀ k, u.reg k = s.reg k := fun k => by rw [hu]; rfl
  have hlog : u.retLog = [] := by rw [hu]; rfl
  have hsup : u.sup = { s.sup with lockRail := none } := by rw [hu]; rfl
  have hclear : s.retLogClear 1 = if u.reg (K.RAIL_STATE i) = 4 then u.put (K.RAIL_STATE i) 2 else u := by
    simp only [State.retLogClear, h, hu]
    rfl
  rw [hclear, hreg]
  split
  · exact ⟨hlog, hsup, State.reg_put_self _ _ _, fun k hk => (State.reg_put_ne _ _ _ _ (by simpa using hk)).trans (hreg k)⟩
  · exact ⟨hlog, hsup, hreg _, fun k _ => hreg k⟩

/-! ### Balls (R414, R464, R469, Table 18.7) -/

theorem State.ballColumn_off (h : s.mode = .off) : s.ballColumn = .off := if_pos h

theorem State.ballColumn_unpowered (h : s.mode ≠ .off) (hu : s.mode = .thermalLatch ∨ s.railsGood = false) : s.ballColumn = .unpowered := by
  rw [State.ballColumn, if_neg h, if_pos (by simpa using hu)]

theorem State.ballColumn_held (h : s.mode = .held) (hr : s.railsGood = true) : s.ballColumn = .held := by
  simp [State.ballColumn, h, hr]

theorem State.ballColumn_runs (h : s.mode = .safeHold) (hr : s.railsGood = true) : s.ballColumn = .runs := by
  simp [State.ballColumn, h, hr]

theorem State.ball_own (b : Ball) (h : s.rst.testEn = false ∨ b.inChain = false) : s.ball b = s.ballOf b := by
  rcases h with h | h
  · simp [State.ball, h]
  · simp [State.ball, h]

theorem State.ball_highZ (b : Ball) (ht : s.rst.testEn = true) (hc : b.inChain = true) (hz : s.rst.pinsHighZ = true) : s.ball b = .highZ := by
  simp [State.ball, ht, hc, hz]

theorem State.ball_chain (b : Ball) (ht : s.rst.testEn = true) (hc : b.inChain = true) (hz : s.rst.pinsHighZ = false) (hp : s.rst.pinsFromChain = true) :
    s.ball b = if s.preloaded b = false then .low else if b = .irqN ∨ b = .faultN then .highZ else .high := by
  cases hv : s.preloaded b <;> simp [State.ball, ht, hc, hz, hp, hv, Ball.openDrain, BallState.level]

end

/-- Settles O54: each pin by what it holds or releases, and the balls by the column of Table 18.7. -/
theorem resetAndPins : Obligations.ResetAndPins := by
  refine ⟨fun s hr hl => ⟨fun hm => ?_, fun hm => ?_⟩, fun s hl hs hm => ?_, fun s hl => ⟨fun hm => ?_, fun hm hr ht hp hk => ?_⟩, fun s a h => ⟨fun hn => ?_, fun i hi => ?_⟩,
    fun s ht => ?_, fun s => ?_, fun s r hr => ⟨fun h => ?_, fun h => ?_⟩, fun s above => rfl, fun s e i ch p b => ⟨fun h => ?_, fun h hu => ?_, fun h hr => ?_, fun h hr => ?_,
    s.ball_own b, s.ball_highZ b, s.ball_chain b, fun h => ?_⟩⟩
  · calc exec .resetAssert s = .next s.resetAssert.settle := rfl
      _ = _ := by rw [s.resetAssert_latched hr hl hm]
  · have hparts := s.resetNoted.enterHeld_parts
    obtain ⟨hrst, hsup, hlog, htherm, hfuses, -, h100, h10⟩ := hparts
    have hcount : s.resetNoted.enterHeld.reg K.RESET_COUNT = min (s.reg K.RESET_COUNT + 1) (2 ^ 32 - 1) := by
      rw [s.resetNoted.enterHeld_kept _ (by decide), s.resetNoted_reg, if_pos rfl]
    refine ⟨s.resetNoted.enterHeld, ?_, hrst, hcount, hsup, hlog, htherm, hfuses, fun ho => ?_⟩
    · calc exec .resetAssert s = .next s.resetAssert.settle := rfl
        _ = _ := by rw [s.resetAssert_holds hr hl hm]
    · have hheld := s.resetNoted.enterHeld_mode ho hm
      obtain ⟨hA, hB⟩ := s.resetNoted.enterHeld.settle_permits_off (State.permitCond_mode _ (.inr (.inl hheld)))
      refine ⟨hheld, h100, h10, hA, hB, fun k hk hne => ?_, fun k hk ha hb => s.resetNoted.enterHeld_lost k ho hm hk ha hb⟩
      rw [s.resetNoted.enterHeld_kept k hk, s.resetNoted_reg, if_neg hne]
  · have hstuck : s.resetStuck = (s.setRst { s.rst with stuck := true }).logRet 1 [] := if_pos ⟨hl, by simp [hs], hm⟩
    refine ⟨s.resetStuck, rfl, ?_, ?_, ?_, ?_⟩
    · rw [hstuck]; rfl
    · rw [hstuck]; simp [State.faultLow, State.logRet]
    · rw [hstuck]; rfl
    · rw [hstuck]; rfl
  · refine ⟨s.resetRelease, rfl, ?_, ?_, ?_⟩
    · rw [s.resetRelease_latched hl hm]; exact hm
    · rw [s.resetRelease_latched hl hm]; rfl
    · rw [s.resetRelease_latched hl hm]; rfl
  · obtain ⟨r, hrr⟩ : ∃ r : ResetState, r = { s.rst with resetLow := false, stuck := false, tapHeld := false, resetSince := false } := ⟨_, rfl⟩
    refine ⟨(s.setRst r).coreReset .boot, ?_, rfl, rfl, ?_, ?_, ?_, rfl, rfl⟩
    · calc exec .resetRelease s = .next s.resetRelease.settle := rfl
        _ = _ := by rw [s.resetRelease_boots hl hm hr ht hp hk, hrr]
    · exact congrArg ResetState.resetLow hrr
    · exact congrArg ResetState.stuck hrr
    · exact congrArg ResetState.tapHeld hrr
  · rw [exec_retLogClear s a h, s.retLogClear_plain hn]
  · exact ⟨s.retLogClear 1, exec_retLogClear s a h, s.retLogClear_rail i hi⟩
  · have hfall : s.testEnChange false = s.setRst { s.rst with
        testEn := false, structural := false, tapHeld := s.rst.tapHeld || s.rst.structural, resetSince := s.rst.resetSince && !s.rst.structural
        tapIr := 15, bypass := true, pinsHighZ := false, pinsFromChain := false } := by
      simp [State.testEnChange, ht]
    calc exec (.testEnChange false) s = .next (s.testEnChange false).settle := rfl
      _ = _ := by rw [hfall]
  · obtain ⟨hrst, -⟩ := (s.setRst { s.rst with testEn := true }).enterHeld_parts
    obtain ⟨hA, hB⟩ := (s.setRst { s.rst with testEn := true }).enterHeld.settle_permits_off (State.permitCond_testEn _ (by rw [hrst]; rfl))
    exact ⟨(s.setRst { s.rst with testEn := true }).enterHeld, rfl, hrst, fun ho ht => State.enterHeld_mode _ ho ht, hA, hB⟩
  · have hleave : (s.setRst r).leaveScan = s.setRst r := if_neg (by rw [hr]; simp [h])
    calc exec .trstNAssert s = .next (s.setRst r).leaveScan.settle := by rw [hr]; rfl
      _ = _ := by rw [hleave]
  · have hleave : (s.setRst r).leaveScan = ((s.setRst r).setRst { r with structural := false, tapHeld := true, resetSince := false }).enterHeld :=
      if_pos (by rw [hr]; exact h)
    obtain ⟨hrst, -⟩ := ((s.setRst r).setRst { r with structural := false, tapHeld := true, resetSince := false }).enterHeld_parts
    refine ⟨_, ?_, hrst, fun ho ht => State.enterHeld_mode _ ho ht⟩
    calc exec .trstNAssert s = .next (s.setRst r).leaveScan.settle := by rw [hr]; rfl
      _ = _ := by rw [hleave]
  · simp [State.ballOf, s.ballColumn_off h]
  · simp [State.ballOf, s.ballColumn_unpowered h hu, BallState.level]
  · simp [State.ballOf, s.ballColumn_held h hr, BallState.level]
  · simp [State.ballOf, s.ballColumn_runs h hr, BallState.level, h]
  · have hvao : s.vaoOn = true := by simp [State.vaoOn, h]
    refine ⟨if_pos hvao, if_pos hvao, if_pos hvao, if_pos hvao, if_pos hvao, fun hrail => ?_⟩
    have hvio : s.vioOn = true := by rw [State.vioOn, hvao]; exact hrail
    exact ⟨if_pos hvio, if_pos hvio, if_pos hvio, if_pos hvio, if_pos hvio, if_pos hvio⟩

end Sys2Proof.Machine
end

section
/-! PROOFS. Chapter 17: the always-on domain, the converters and the rails. -/

namespace Sys2Proof.Machine

section
variable (s : State)

/-! ### Without the always-on domain (R425) -/

theorem State.powerDown_shows (on : Bool) : (s.powerDown on).mode = .off ∧ (s.powerDown on).sup = { vaoOn := on, released := false } ∧ (s.powerDown on).retLog = []
    ∧ (s.powerDown on).fuses = s.fuses ∧ (s.powerDown on).fs = {} ∧ (s.powerDown on).spares = {} ∧ (s.powerDown on).vaoTime = 0
    ∧ (s.powerDown on).sealed = { s.sealed with request := none, prior := [] } := ⟨rfl, rfl, rfl, rfl, rfl, rfl, rfl, rfl⟩

/-- A part without its always-on domain has every rail off and every other register at its default. -/
theorem State.powerDown_reg (on : Bool) (k : Nat) :
    (s.powerDown on).reg k = if k = K.RAIL_STATE 2 then 0 else if k = K.RAIL_STATE 1 then 0 else if k = K.RAIL_STATE 0 then 0 else objDefault k := by
  unfold State.powerDown
  extract_lets _ u
  have hu : u.reg k = objDefault k := rfl
  rw [State.reg_put, State.reg_put, State.reg_put, hu]

/-! ### The converters (R428) -/

theorem Conv.period_limited (k : Conv) (mv : Nat) (h : 50 ≤ mv) : (k.period mv).early = true ∧ (k.period mv).limited = min 1000 (k.limited + 1) := by
  rw [Conv.period, if_pos h]
  exact ⟨rfl, rfl⟩

theorem Conv.period_clean (k : Conv) (mv : Nat) (h : mv < 50) : k.period mv = {} := if_neg (by omega)

theorem ConvClock.periods_eq (c : ConvClock) : c.periods = 2 := by cases c <;> rfl

/-- Each converter that is on or starting has its two periods of the slot. -/
theorem State.convStep_conv (mv : Nat → Nat → Nat) (i : Nat) (hi : i < 4) : (s.convStep mv).sup.conv.getD i {} =
    if s.railOn (Converter.all.getD i .io).rail = true ∨ s.reg (K.RAIL_STATE (Converter.all.getD i .io).rail) = 1 then
      ((s.sup.conv.getD i {}).period (mv i 0)).period (mv i 1) else {} := by
  have hrange : List.range s.convClock.periods = [0, 1] := by rw [ConvClock.periods_eq]; rfl
  have hlen : i < Converter.all.length := hi
  have hconv : (s.convStep mv).sup.conv = Converter.all.mapIdx fun i c =>
      if (s.railOn c.rail || s.reg (K.RAIL_STATE c.rail) == 1) = true then ((s.sup.conv.getD i {}).period (mv i 0)).period (mv i 1) else {} := by
    simp only [State.convStep, hrange, List.foldl_cons, List.foldl_nil]
    rfl
  rw [hconv, List.getD_eq_getElem _ _ (by simpa using hlen), List.getElem_mapIdx, List.getD_eq_getElem _ _ hlen]
  simp only [Bool.or_eq_true, beq_iff_eq]

theorem State.convStep_sup (mv : Nat → Nat → Nat) : s.convStep mv = s.setSup { s.sup with conv := (s.convStep mv).sup.conv } := rfl

theorem State.convStep_length (mv : Nat → Nat → Nat) : (s.convStep mv).sup.conv.length = 4 := by
  have h : (s.convStep mv).sup.conv.length = Converter.all.length := List.length_mapIdx
  exact h

theorem zip_converters_mem (l : List Conv) (p : Converter × Conv) (hl : l.length = 4) (h : p ∈ Converter.all.zip l) :
    ∃ i, i < 4 ∧ p.1 = Converter.all.getD i .io ∧ p.2 = l.getD i {} := by
  obtain ⟨i, hi, rfl⟩ := List.getElem_of_mem h
  rw [List.length_zip] at hi
  have hi4 : i < 4 := by omega
  refine ⟨i, hi4, ?_, ?_⟩
  · rw [List.getElem_zip, List.getD_eq_getElem _ _ (show i < Converter.all.length from hi4)]
  · rw [List.getElem_zip, List.getD_eq_getElem _ _ (by omega)]

/-- Without 1,000 limited periods in a row the slot's periods fault no rail. -/
theorem State.convPeriods_clean (sense : List (List Nat)) (u : State) (hu : u = s.convStep fun i j => (sense.getD i []).getD j 0)
    (h : ∀ i, i < 4 → (u.sup.conv.getD i {}).limited < 1000) : s.convPeriods sense = u := by
  have hnone : ((Converter.all.zip u.sup.conv).find? fun p => decide (1000 ≤ p.2.limited)) = none := by
    refine List.find?_eq_none.mpr fun p hp => ?_
    obtain ⟨i, hi, -, hc⟩ := zip_converters_mem _ p (by rw [hu]; exact s.convStep_length _) hp
    have := h i hi
    rw [hc]
    simp only [decide_eq_true_eq]
    omega
  unfold State.convPeriods
  dsimp only
  rw [← hu, hnone]

/-- One converter with 1,000 of them faults its rail. -/
theorem State.convPeriods_faults (sense : List (List Nat)) (u : State) (hu : u = s.convStep fun i j => (sense.getD i []).getD j 0)
    (h : ∃ i, i < 4 ∧ 1000 ≤ (u.sup.conv.getD i {}).limited) : ∃ i, i < 4 ∧ 1000 ≤ (u.sup.conv.getD i {}).limited
      ∧ s.convPeriods sense = (s.setSup { s.sup with conv := [{}, {}, {}, {}] }).railFault (Converter.all.getD i .io).rail 4 := by
  have hlen : u.sup.conv.length = 4 := by rw [hu]; exact s.convStep_length _
  obtain ⟨p, hp⟩ : ∃ p, ((Converter.all.zip u.sup.conv).find? fun p => decide (1000 ≤ p.2.limited)) = some p := by
    refine Option.isSome_iff_exists.mp (List.find?_isSome.mpr ?_)
    obtain ⟨i, hi, hc⟩ := h
    have hz : i < (Converter.all.zip u.sup.conv).length := by
      rw [List.length_zip, hlen]
      exact lt_min hi hi
    refine ⟨_, List.getElem_mem hz, ?_⟩
    rw [List.getElem_zip, ← List.getD_eq_getElem _ ({} : Conv) (by omega)]
    exact decide_eq_true hc
  obtain ⟨i, hi, hone, htwo⟩ := zip_converters_mem _ p hlen (List.mem_of_find?_eq_some hp)
  refine ⟨i, hi, ?_, ?_⟩
  · rw [← htwo]
    simpa using List.find?_some hp
  · unfold State.convPeriods
    dsimp only
    rw [← hu, hp]
    dsimp only
    rw [hone]
    have hclear : u.setSup { u.sup with conv := [{}, {}, {}, {}] } = s.setSup { s.sup with conv := [{}, {}, {}, {}] } := by rw [hu]; rfl
    exact congrArg (fun t => State.railFault t _ 4) hclear

/-! ### The start of the rails (R429) -/

/-- The start condition of R429. -/
def State.railsMayStart : Prop :=
  s.sup.released = true ∧ s.sup.lockOut = false ∧ bitAt s.sup.declared 3 = false ∧ s.sup.step = .idle ∧ s.railsGood = false ∧ s.mode ≠ .thermalLatch

theorem State.railsStart_begins (h : s.railsMayStart) : s.railsStart = if s.railOn 2 = true then (s.put (K.RAIL_STATE 1) 1).setSup { s.sup with step := .vana }
    else (s.put (K.RAIL_STATE 2) 1).setSup { s.sup with step := .vio } := by
  obtain ⟨hr, hl, hd, hi, hg, hm⟩ := h
  exact if_pos (by simp [hr, hl, hd, hi, hg, hm])

/-- What the start of the rails leaves once the wait after a fault is over. -/
def State.railsBegun : State :=
  if s.railOn 2 = false then (s.put (K.RAIL_STATE 2) 1).setSup { s.sup with step := .vio, restartDue := false }
  else (s.put (K.RAIL_STATE 1) 1).setSup { s.sup with step := .vana, restartDue := false }

theorem State.railsStart_restart (h : s.railsMayStart) : (s.setSup { s.sup with restartDue := false }).railsStart = s.railsBegun := by
  obtain ⟨u, hu⟩ : ∃ u : State, u = s.setSup { s.sup with restartDue := false } := ⟨_, rfl⟩
  have hmay : u.railsMayStart := by rw [hu]; exact h
  have hon : u.railOn 2 = s.railOn 2 := by rw [hu]; rfl
  rw [← hu, u.railsStart_begins hmay, hon, State.railsBegun, hu]
  by_cases hv : s.railOn 2 = true
  · rw [if_pos hv, if_neg (by simp [hv])]
    rfl
  · rw [if_neg hv, if_pos (by simpa using hv)]
    rfl

theorem State.setSup_restarted (h : s.sup.restartDue = false) : s.setSup { s.sup with restartDue := false } = s := by
  rw [← h]
  rfl

theorem State.railsStart_first (h : s.railsMayStart) (hr : s.sup.restartDue = false) : s.railsStart = s.railsBegun := by
  rw [← s.railsStart_restart h, s.setSup_restarted hr]

/-! ### Power-good (R429, R461) -/

theorem State.railGood_keptInHeld : keptInHeld (K.RAIL_STATE 0) = true := by decide

theorem State.released_shows : s.released.reg (K.RAIL_STATE 0) = s.reg (K.RAIL_STATE 0) ∧ s.released.sup = s.sup
    ∧ (s.pinsHold = false → s.mode = .off ∨ s.mode = .held → s.released.mode = .boot ∧ s.released.boot.step = 0)
    ∧ (s.pinsHold = true → s.mode = .off → s.released.mode = .held) := by
  have hreset : ∀ m, (s.coreReset m).reg (K.RAIL_STATE 0) = s.reg (K.RAIL_STATE 0) := fun m => by
    rw [State.coreReset_reg, if_pos State.railGood_keptInHeld]
  unfold State.released
  by_cases hp : s.pinsHold = true
  · rw [if_pos hp]
    by_cases ho : s.mode = .off
    · rw [if_pos ho]
      exact ⟨hreset _, rfl, fun h => absurd (h.symm.trans hp) (by decide), fun _ _ => rfl⟩
    · rw [if_neg ho]
      exact ⟨rfl, rfl, fun h => absurd (h.symm.trans hp) (by decide), fun _ h => absurd h ho⟩
  · rw [if_neg hp, State.enterBoot]
    by_cases hm : s.mode = .off ∨ s.mode = .held
    · rw [if_pos hm]
      exact ⟨hreset _, rfl, fun _ _ => ⟨rfl, rfl⟩, fun h => absurd h hp⟩
    · rw [if_neg hm]
      exact ⟨rfl, rfl, fun _ h => absurd h hm, fun h => absurd h hp⟩

/-! ### Rail faults (R430) -/

/-- The causes that fit a rail's state: a ramp in time, an over- or undervoltage of a good one, limited periods of one that is on or starting. -/
def State.railFaultFits (i cause : Nat) : Prop :=
  cause = 1 ∧ s.reg (K.RAIL_STATE i) = 1 ∨ (cause = 2 ∨ cause = 3) ∧ (s.reg (K.RAIL_STATE i) = 2 ∨ s.reg (K.RAIL_STATE i) = 4)
    ∨ cause = 4 ∧ (s.reg (K.RAIL_STATE i) = 1 ∨ s.reg (K.RAIL_STATE i) = 2 ∨ s.reg (K.RAIL_STATE i) = 4)

/-- The state in which a rail fault has been counted and logged, before the dies are held. -/
def State.railFaulted (i cause : Nat) : State :=
  ((s.put (K.RAIL_FAULT_CAUSE i) cause).count (K.RAIL_FAULTS i)).logRet 2
    [BitVec.ofNat 8 (i + 1), BitVec.ofNat 8 cause, BitVec.ofNat 8 (ofBool (decide (2 ≤ s.sup.faultAges.length)))]

theorem State.railFault_of (i cause : Nat) (hi : i < 3) (h : s.railFaultFits i cause) :
    s.railFault i cause = (((s.railFaulted i cause).enterHeld.railsOff true).put (K.RAIL_STATE i) 3).setSup
      { ((s.railFaulted i cause).enterHeld.railsOff true).sup with
        faultAges := 0 :: s.sup.faultAges, lockOut := decide (2 ≤ s.sup.faultAges.length)
        lockRail := if decide (2 ≤ s.sup.faultAges.length) = true then some i else ((s.railFaulted i cause).enterHeld.railsOff true).sup.lockRail
        resetInLockOut := decide (2 ≤ s.sup.faultAges.length) && ((s.railFaulted i cause).enterHeld.railsOff true).rst.resetLow
        restartDue := !decide (2 ≤ s.sup.faultAges.length) } := by
  have hages : decide (3 ≤ (0 :: s.sup.faultAges).length) = decide (2 ≤ s.sup.faultAges.length) := decide_eq_decide.mpr (by simp)
  unfold State.railFault
  extract_lets st fits ages lock
  have hfits : fits = true := by
    have hst : st = s.reg (K.RAIL_STATE i) := rfl
    rcases h with ⟨rfl, h⟩ | ⟨rfl | rfl, h⟩ | ⟨rfl, h⟩
    · simp [fits, hst, h]
    · rcases h with h | h <;> simp [fits, hst, h]
    · rcases h with h | h <;> simp [fits, hst, h]
    · rcases h with h | h | h <;> simp [fits, hst, h]
  have hlock : lock = decide (2 ≤ s.sup.faultAges.length) := hages
  clear_value lock fits
  subst hlock
  rw [if_neg (by simp [hfits]; omega)]
  rfl

theorem State.railsOff_all_reg (k : Nat) : (s.railsOff true).reg k =
    if k = K.RAIL_STATE 2 then 0 else if k = K.RAIL_STATE 1 then 0 else if k = K.RAIL_STATE 0 then 0 else s.reg k := by
  rw [State.railsOff, if_pos rfl, State.reg_put]
  have h : ∀ (t : State) (x : Supply), (t.setSup x).reg k = t.reg k := fun _ _ => rfl
  rw [h, State.reg_put, State.reg_put]

theorem railKeys_distinct : ∀ i j : Fin 3, (K.RAIL_STATE i = K.RAIL_STATE j → i = j) ∧ K.RAIL_FAULT_CAUSE i ≠ K.RAIL_STATE j ∧ K.RAIL_FAULTS i ≠ K.RAIL_STATE j
    ∧ K.RAIL_FAULT_CAUSE i ≠ K.RAIL_FAULTS j ∧ keptInHeld (K.RAIL_FAULT_CAUSE i) = true ∧ keptInHeld (K.RAIL_FAULTS i) = true := by decide

theorem State.railFault_shows (i : Fin 3) (cause : Nat) (h : s.railFaultFits i cause) :
    (s.railFault i cause).reg (K.RAIL_STATE i) = 3 ∧ (∀ j, j < 3 → j ≠ i.val → (s.railFault i cause).reg (K.RAIL_STATE j) = 0)
    ∧ (s.railFault i cause).reg (K.RAIL_FAULT_CAUSE i) = cause ∧ (s.railFault i cause).reg (K.RAIL_FAULTS i) = min (s.reg (K.RAIL_FAULTS i) + 1) (2 ^ 32 - 1) := by
  obtain ⟨-, (hc2 : K.RAIL_FAULT_CAUSE i ≠ K.RAIL_STATE 2), (hf2 : K.RAIL_FAULTS i ≠ K.RAIL_STATE 2), hcf, hkc, hkf⟩ := railKeys_distinct i 2
  obtain ⟨-, (hc1 : K.RAIL_FAULT_CAUSE i ≠ K.RAIL_STATE 1), (hf1 : K.RAIL_FAULTS i ≠ K.RAIL_STATE 1), -⟩ := railKeys_distinct i 1
  obtain ⟨-, (hc0 : K.RAIL_FAULT_CAUSE i ≠ K.RAIL_STATE 0), (hf0 : K.RAIL_FAULTS i ≠ K.RAIL_STATE 0), -⟩ := railKeys_distinct i 0
  obtain ⟨-, hci, hfi, hne, -⟩ := railKeys_distinct i i
  have hreg : ∀ k, (s.railFault i cause).reg k = if k = K.RAIL_STATE i then 3 else ((s.railFaulted i cause).enterHeld.railsOff true).reg k := fun k => by
    rw [s.railFault_of i cause i.isLt h]
    exact State.reg_put _ _ _ _
  have hoff := (s.railFaulted i cause).enterHeld.railsOff_all_reg
  have hfaulted : ∀ k, (s.railFaulted i cause).reg k = ((s.put (K.RAIL_FAULT_CAUSE i) cause).count (K.RAIL_FAULTS i)).reg k := fun _ => rfl
  refine ⟨by rw [hreg, if_pos rfl], fun j hj hji => ?_, ?_, ?_⟩
  · have hkey : K.RAIL_STATE j ≠ K.RAIL_STATE i := fun he => hji (congrArg Fin.val ((railKeys_distinct ⟨j, hj⟩ i).1 he))
    rw [hreg, if_neg hkey, hoff]
    have hj3 : j = 0 ∨ j = 1 ∨ j = 2 := by omega
    rcases hj3 with rfl | rfl | rfl
    · simp
    · simp
    · simp
  · rw [hreg, if_neg hci, hoff, if_neg hc2, if_neg hc1, if_neg hc0, State.enterHeld_kept _ _ hkc, hfaulted, State.count, State.reg_put_ne _ _ _ _ hne, State.reg_put_self]
  · rw [hreg, if_neg hfi, hoff, if_neg hf2, if_neg hf1, if_neg hf0, State.enterHeld_kept _ _ hkf, hfaulted, State.count, State.reg_put_self,
      State.reg_put_ne _ _ _ _ hne.symm]
    rfl

/-- What a rail fault leaves of the mode, the supply and the retention log. -/
theorem State.railFault_parts (i cause : Nat) (hi : i < 3) (h : s.railFaultFits i cause) :
    (s.mode ≠ .off → s.mode ≠ .thermalLatch → (s.railFault i cause).mode = .held)
    ∧ (s.railFault i cause).sup.faultAges = 0 :: s.sup.faultAges ∧ (s.railFault i cause).sup.lockOut = decide (2 ≤ s.sup.faultAges.length)
    ∧ (s.railFault i cause).sup.restartDue = !decide (2 ≤ s.sup.faultAges.length) ∧ (s.railFault i cause).sup.step = .idle
    ∧ (s.railFault i cause).retLog = (s.railFaulted i cause).retLog := by
  rw [s.railFault_of i cause hi h]
  obtain ⟨-, -, hlog, -⟩ := (s.railFaulted i cause).enterHeld_parts
  exact ⟨fun hm ht => (s.railFaulted i cause).enterHeld_mode hm ht, rfl, rfl, rfl, rfl, hlog⟩

end

/-- Settles O48: the supply's rows by the rail or converter that each moves. -/
theorem railsAndSupply : Obligations.RailsAndSupply := by
  refine ⟨⟨fun s => ⟨fun h => ?_, fun h => ?_, rfl⟩, ?_⟩, ⟨fun s c => ⟨?_, rfl, rfl, ?_⟩, fun k mv => ⟨k.period_limited mv, k.period_clean mv⟩, ?_⟩, fun s hv hr => ?_, ?_, fun s => ⟨fun h => ?_, fun h => ?_,
    fun h => ?_⟩, fun s i cause h => ?_⟩
  · calc exec .vaoStart s = .next s.vaoStart.settle := rfl
      _ = _ := by rw [State.vaoStart, if_pos h]
  · calc exec .vaoStart s = .next s.vaoStart.settle := rfl
      _ = _ := by rw [State.vaoStart, h]; rfl
  · rintro s t on rfl
    obtain ⟨hm, hsup, hlog, hfuses, hfs, hsp, hvao, hsealed⟩ := s.powerDown_shows on
    refine ⟨hm, hsup, hlog, hfuses, hfs, hsp, hvao, hsealed, fun i hi => ?_, fun k hk => ?_⟩
    · have hi3 : i = 0 ∨ i = 1 ∨ i = 2 := by omega
      rw [s.powerDown_reg]
      rcases hi3 with rfl | rfl | rfl
      · simp
      · simp
      · simp
    · rw [s.powerDown_reg, if_neg (hk 2 (by decide)), if_neg (hk 1 (by decide)), if_neg (hk 0 (by decide))]
  · simp only [State.convClock, State.refPresent, beq_iff_eq]
  · cases c <;> rfl
  · rintro s t u sense hu rfl
    refine ⟨by rw [hu]; exact s.convStep_sup _, fun i hi => ?_, fun h => s.convPeriods_clean sense u hu h, fun h => s.convPeriods_faults sense u hu h⟩
    rw [hu]
    exact s.convStep_conv _ i hi
  · calc exec .aoRelease s = .next s.aoRelease.settle := rfl
      _ = _ := by rw [State.aoRelease, hv, hr]; rfl
  · intro s w hr hl hd hi hg hm hw
    have hmay : s.railsMayStart := ⟨hr, hl, hd, hi, hg, hm⟩
    have hbegun : w = s.railsBegun := hw
    have hexec : exec .railStart s = .next s.railStart.settle ∧ exec .railRestart s = .next s.railRestart.settle := ⟨rfl, rfl⟩
    rw [hexec.1, hexec.2, hbegun]
    refine ⟨fun h => ?_, fun h => ?_⟩
    · rw [State.railStart, State.railRestart, if_neg (by simp [h]), if_neg (by simp [h]), s.railsStart_first hmay h]
      exact ⟨rfl, rfl⟩
    · rw [State.railStart, State.railRestart, if_pos h, if_pos h, s.railsStart_restart hmay]
      exact ⟨rfl, rfl⟩
  · calc exec .railPowerGood s = .next s.railPowerGood.settle := rfl
      _ = _ := by simp only [State.railPowerGood, h]
  · calc exec .railPowerGood s = .next s.railPowerGood.settle := rfl
      _ = _ := by simp only [State.railPowerGood, h]
  · obtain ⟨u, hu⟩ : ∃ u : State, u = (s.put (K.RAIL_STATE 0) (s.railGoodCode 0)).setSup { s.sup with step := .idle } := ⟨_, rfl⟩
    have hgood : s.railPowerGood = u.released := by
      simp only [State.railPowerGood, h, hu]
    obtain ⟨hreg, hsup, hboot, hheld⟩ := u.released_shows
    have hcode : u.reg (K.RAIL_STATE 0) = s.railGoodCode 0 := by
      rw [hu]
      exact s.reg_put_self (K.RAIL_STATE 0) _
    refine ⟨u.released, ?_, hreg.trans hcode, hsup.trans (by rw [hu]; rfl), fun hp hm => hboot (by rw [hu]; exact hp) (by rw [hu]; exact hm), fun hp hm => hheld (by rw [hu]; exact hp) (by rw [hu]; exact hm)⟩
    calc exec .railPowerGood s = .next s.railPowerGood.settle := rfl
      _ = _ := by rw [hgood]
  · have hfits : s.railFaultFits i cause := h
    obtain ⟨hstate, hothers, hcause, hcount⟩ := s.railFault_shows i cause hfits
    obtain ⟨hmode, hages, hlock, hrestart, hstep, hlog⟩ := s.railFault_parts i cause i.isLt hfits
    refine ⟨s.railFault i cause, rfl, hstate, hothers, hcause, hcount, hmode, hages, hlock, by rw [hrestart, hlock], hstep, ?_⟩
    rw [hlog, hlock]
    by_cases h2 : 2 ≤ s.sup.faultAges.length
    · rw [if_pos (decide_eq_true h2), State.railFaulted, decide_eq_true h2]
      rfl
    · rw [if_neg (by simpa using h2), State.railFaulted, decide_eq_false h2]
      rfl

end Sys2Proof.Machine
end

section
/-! PROOFS. Chapter 17: shed levels and overvoltage, and what a stopped self-test leaves. -/

namespace Sys2Proof.Machine

/-! ### What the steps of a self-test leave (R408 to R411) -/

/-- Only the units, the banks, the lanes under test and the registers of chapters 5 to 9 and of a test's course may have changed. -/
def State.testStay (s t : State) : Prop :=
  t = { s with objs := t.objs, spares := t.spares, fs := t.fs, link := t.link, free := t.free }
  ∧ ∀ k, 0x510101 ≤ k → k < 0x800101 ∨ 0x80010B ≤ k → t.reg k = s.reg k

section
variable {s t u : State}

theorem State.testStay.refl (s : State) : s.testStay s := ⟨rfl, fun _ _ _ => rfl⟩

theorem State.testStay.trans (h : s.testStay t) (h' : t.testStay u) : s.testStay u :=
  ⟨h'.1.trans (congrArg (fun x : State => { x with objs := u.objs, spares := u.spares, fs := u.fs, link := u.link, free := u.free }) h.1),
    fun k hl hu => (h'.2 k hl hu).trans (h.2 k hl hu)⟩

theorem State.testStay.put (h : s.testStay t) (k v : Nat) (hk : k < 0x510101 ∨ 0x800101 ≤ k ∧ k < 0x80010B) : s.testStay (t.put k v) :=
  h.trans ⟨rfl, fun j hl hu => t.reg_put_ne _ _ _ (by omega)⟩

theorem State.testStay.of_parts (h : s.testStay t) (hp : u = { t with spares := u.spares, fs := u.fs, link := u.link, free := u.free }) : s.testStay u := by
  have ho : u.objs = t.objs := (congrArg State.objs hp :)
  exact h.trans ⟨hp.trans (by rw [ho]), fun k _ _ => t.reg_congr u ho k⟩

theorem State.testStay.onlyWhen {c : Prop} [Decidable c] (h : s.testStay t) (h' : t.testStay u) : s.testStay (if c then u else t) := by
  split
  · exact h.trans h'
  · exact h

variable (s)

theorem State.bankIdle_testStay (u : Nat) : s.testStay (s.bankIdle u) :=
  (State.testStay.refl s).onlyWhen ((State.testStay.refl s).put _ _ (by simp only [K.BANK_STATE, unitInst]; omega))

theorem State.putBank_testStay (p c : Nat) : s.testStay (s.putBank p c) := by
  unfold State.putBank
  split
  next h => exact (State.testStay.refl s).put _ _ (by simp only [K.BANK_STATE]; omega)
  · exact .refl s

theorem State.bistBack_testStay : s.testStay s.bistBack := by
  have hput := (State.testStay.refl s).put K.BIST_STATE 5 (by decide)
  unfold State.bistBack
  dsimp only
  split
  · exact hput.of_parts rfl
  · exact hput

theorem State.bistState_testStay (n : Nat) : s.testStay (s.bistState n) := .put (.of_parts (.refl s) rfl) _ _ (by decide)

theorem State.testTime_testStay (kind unit : Nat) : s.testStay (s.testTime kind unit).2 := by
  have hdraw : s.testStay s.draw.2 := .of_parts (.refl s) rfl
  unfold State.testTime
  split
  case h_8 =>
    split
    · exact hdraw
    · exact .refl s
  all_goals exact .refl s

theorem State.bistOver_testStay (outcome reason : Nat) (full : Bool) : s.testStay (s.bistOver outcome reason full) := by
  have htime : s.testStay (if full then s.testTime s.spares.bist.kind s.spares.bist.unit else ((2 * s.spares.bist.runTicks : Nat), s)).2 := by
    cases full
    · exact .refl s
    · exact s.testTime_testStay _ _
  exact ((((htime.of_parts rfl).put _ _ (by decide)).put _ _ (by decide)).put _ _ (by decide)).put _ _ (by decide)

theorem State.bistStop_testStay (reason : Nat) : s.testStay (s.bistStop reason) := by
  unfold State.bistStop
  extract_lets b st ended served _ planned r copied _ _ lane idle _
  have hended : s.testStay ended := s.bistOver_testStay 4 reason false
  have hplanned : s.testStay planned := hended.of_parts rfl
  have hcopied : s.testStay copied := hplanned.onlyWhen ((planned.putBank_testStay _ _).trans (State.putBank_testStay _ _ _))
  have hbusy : s.testStay (copied.onlyIf r.busy fun s => s.put K.RETIRE_STATE 0) :=
    hcopied.onlyWhen ((State.testStay.refl copied).put _ _ (by decide))
  have hlane : s.testStay lane := hended.onlyWhen (.of_parts (.refl ended) rfl)
  have hidle : s.testStay idle := by
    by_cases hw : b.wasOut = true
    · rw [show idle = lane from if_pos hw]
      exact hlane
    · rw [show idle = lane.bankIdle b.unit from if_neg hw]
      exact hlane.trans (lane.bankIdle_testStay _)
  clear_value planned copied lane idle ended
  split_ifs
  · exact .refl s
  · exact (hbusy.of_parts rfl).put _ _ (by decide)
  · exact hplanned.trans planned.bistBack_testStay
  · exact hplanned.put _ _ (by decide)
  · exact hended.trans (ended.bistState_testStay 4)
  · exact hended.trans ended.bistBack_testStay
  · exact (hidle.of_parts rfl).put _ _ (by decide)

end

section
variable (s : State)

/-! ### SHED_LEVEL (R431, R432) -/

theorem State.shedShow_same (cc : Nat) (h : s.shedNow = s.reg K.SHED_LEVEL) : s.shedShow cc = s := if_pos h

theorem State.shedShow_moves (cc : Nat) (h : s.shedNow ≠ s.reg K.SHED_LEVEL) : s.shedShow cc = (s.put K.SHED_LEVEL s.shedNow).put K.SHED_LAST (s.stampCc cc) := if_neg h

theorem State.shedShow_level (cc : Nat) : (s.shedShow cc).reg K.SHED_LEVEL = s.shedNow := by
  by_cases h : s.shedNow = s.reg K.SHED_LEVEL
  · rw [s.shedShow_same cc h, h]
  · rw [s.shedShow_moves cc h, State.reg_put_ne _ _ _ _ (by decide), State.reg_put_self]

theorem State.shedShow_keeps (cc : Nat) : s.keeps (s.shedShow cc) [K.SHED_LEVEL, K.SHED_LAST] := by
  by_cases h : s.shedNow = s.reg K.SHED_LEVEL
  · rw [s.shedShow_same cc h]
    exact .refl s _
  · rw [s.shedShow_moves cc h]
    exact ((State.keeps.refl s _).put _ _ (by simp)).put _ _ (by simp)

theorem State.shedShow_parts (cc : Nat) : s.shedShow cc = { s with objs := (s.shedShow cc).objs } := by
  by_cases h : s.shedNow = s.reg K.SHED_LEVEL
  · rw [s.shedShow_same cc h]
  · rw [s.shedShow_moves cc h]
    rfl

theorem State.shedNow_deep (h : bitAt s.sup.declared 3 = true ∨ bitAt s.sup.declared 2 = true ∨ s.reg K.VIN_OV = 1) : s.shedNow = 3 := if_pos h

/-- Level 3 and overvoltage forbid both permits (R384). -/
theorem State.permitCond_shed (h : 3 ≤ s.reg K.SHED_LEVEL) : s.permitCond = false := by
  simp only [State.permitCond, Bool.and_eq_false_iff, decide_eq_false_iff_not]
  exact .inl (.inl (.inl (.inr (by omega))))

/-! ### SHED_DECLARE and SHED_CLEAR (R431, R434, R435) -/

/-- The state in which level `l` is declared and counted. -/
def State.shedCounted (l : Nat) : State :=
  (s.setSup { s.sup with declared := withBit s.sup.declared (l - 1) true }).count (K.SHED_ENTRIES (l - 1))

theorem State.shedDeclare_of (l cc : Nat) (hr : s.sup.released = true) (h0 : 0 < l) (h4 : l ≤ 4) (hd : bitAt s.sup.declared (l - 1) = false) :
    s.shedDeclare l cc = if l < 4 then (if 3 ≤ l then ((s.shedCounted l).shedShow cc).bistStop 0x15 else (s.shedCounted l).shedShow cc)
      else ((((((s.shedCounted l).shedShow cc).bistStop 0x15).logRet 3 []).setSup { (((s.shedCounted l).shedShow cc).bistStop 0x15).sup with lostByL4 := true }).enterHeld).railsOff false := by
  unfold State.shedDeclare
  rw [if_neg (by simp [hr, hd]; omega)]
  by_cases h : l < 4
  · rw [if_pos h]
    dsimp only
    rw [if_pos h]
    rfl
  · have h3 : 3 ≤ l := by omega
    rw [if_neg h]
    dsimp only
    rw [if_neg h, if_pos h3]
    rfl

theorem State.shedCounted_level (l : Nat) : (s.shedCounted l).reg K.SHED_LEVEL = s.reg K.SHED_LEVEL :=
  State.reg_put_ne _ _ _ _ (by simp only [K.SHED_LEVEL, K.SHED_ENTRIES]; omega)

theorem State.shedCounted_deep (l : Nat) (h : l = 3 ∨ l = 4) : (s.shedCounted l).shedNow = 3 := by
  have hd : (s.shedCounted l).sup.declared = withBit s.sup.declared (l - 1) true := rfl
  refine State.shedNow_deep _ ?_
  rcases h with rfl | rfl
  · exact .inr (.inl (by rw [hd, bitAt_withBit, if_pos rfl]))
  · exact .inl (by rw [hd, bitAt_withBit, if_pos rfl])

theorem State.railsOff_die_reg (k : Nat) : (s.railsOff false).reg k = if k = K.RAIL_STATE 1 then 0 else if k = K.RAIL_STATE 0 then 0 else s.reg k := by
  have h : (s.railsOff false).reg k = ((s.put (K.RAIL_STATE 0) 0).put (K.RAIL_STATE 1) 0).reg k := rfl
  rw [h, State.reg_put, State.reg_put]

/-- Levels 3 and 4 stop a test, once SHED_LEVEL shows them. -/
def State.shedStopped (l cc : Nat) : State := ((s.shedCounted l).shedShow cc).bistStop 0x15

theorem State.shedStopped_parts (l cc : Nat) : (s.shedStopped l cc).sup = (s.shedCounted l).sup ∧ (s.shedStopped l cc).vaoTime = s.vaoTime
    ∧ (s.shedStopped l cc).retLog = s.retLog ∧ (s.shedStopped l cc).mode = s.mode := by
  have hstop := ((s.shedCounted l).shedShow cc).bistStop_testStay 0x15
  have hshow := (s.shedCounted l).shedShow_parts cc
  exact ⟨(congrArg State.sup hstop.1 :).trans (congrArg State.sup hshow :), (congrArg State.vaoTime hstop.1 :).trans (congrArg State.vaoTime hshow :),
    (congrArg State.retLog hstop.1 :).trans (congrArg State.retLog hshow :), (congrArg State.mode hstop.1 :).trans (congrArg State.mode hshow :)⟩

theorem State.shedStopped_reg (l cc k : Nat) (h : 0x880000 ≤ k) : (s.shedStopped l cc).reg k = ((s.shedCounted l).shedShow cc).reg k :=
  (((s.shedCounted l).shedShow cc).bistStop_testStay 0x15).2 k (by omega) (.inr (by omega))

theorem State.shedStopped_level (l cc : Nat) (h : l = 3 ∨ l = 4) : (s.shedStopped l cc).reg K.SHED_LEVEL = 3 := by
  rw [s.shedStopped_reg l cc _ (by decide), State.shedShow_level, s.shedCounted_deep l h]

/-- The state in which L4 is logged and the dies are held. -/
def State.shedHeld (cc : Nat) : State :=
  (((s.shedStopped 4 cc).logRet 3 []).setSup { (s.shedStopped 4 cc).sup with lostByL4 := true }).enterHeld

theorem State.shedHeld_shows (cc : Nat) : (s.shedHeld cc).reg K.SHED_LEVEL = 3 ∧ (s.shedHeld cc).sup = { (s.shedCounted 4).sup with lostByL4 := true }
    ∧ (s.mode ≠ .off → s.mode ≠ .thermalLatch → (s.shedHeld cc).mode = .held)
    ∧ (s.shedHeld cc).retLog = ((leBytes 4 3 ++ leBytes 4 (s.vaoTime / 500 % 2 ^ 32) ++ bytesAt [] 0 8) :: s.retLog).take 8 := by
  obtain ⟨hsup, hvao, hlog, hmode⟩ := s.shedStopped_parts 4 cc
  have hlevel := s.shedStopped_level 4 cc (.inr rfl)
  unfold State.shedHeld
  generalize s.shedStopped 4 cc = v at *
  obtain ⟨w, hw⟩ : ∃ w : State, w = (v.logRet 3 []).setSup { v.sup with lostByL4 := true } := ⟨_, rfl⟩
  have hwlevel : w.reg K.SHED_LEVEL = 3 := by rw [hw]; exact hlevel
  have hwsup : w.sup = { (s.shedCounted 4).sup with lostByL4 := true } := by rw [hw, State.setSup_sup, hsup]
  have hwlog : w.retLog = ((leBytes 4 3 ++ leBytes 4 (s.vaoTime / 500 % 2 ^ 32) ++ bytesAt [] 0 8) :: s.retLog).take 8 := by
    rw [← hvao, ← hlog, hw]
    rfl
  have hwmode : w.mode = s.mode := by rw [← hmode, hw]; rfl
  rw [← hw]
  obtain ⟨-, hheldSup, hheldLog, -⟩ := w.enterHeld_parts
  exact ⟨(w.enterHeld_kept _ (by decide)).trans hwlevel, hheldSup.trans hwsup, fun ho ht => w.enterHeld_mode (by rw [hwmode]; exact ho) (by rw [hwmode]; exact ht),
    hheldLog.trans hwlog⟩

theorem State.shedDeclare_low (l cc : Nat) (hr : s.sup.released = true) (h0 : 0 < l) (h3 : l < 3) (hd : bitAt s.sup.declared (l - 1) = false) :
    s.shedDeclare l cc = (s.shedCounted l).shedShow cc := by
  rw [s.shedDeclare_of l cc hr h0 (by omega) hd, if_pos (by omega), if_neg (by omega)]

theorem State.shedDeclare_three (cc : Nat) (hr : s.sup.released = true) (hd : bitAt s.sup.declared 2 = false) : s.shedDeclare 3 cc = s.shedStopped 3 cc := by
  rw [s.shedDeclare_of 3 cc hr (by decide) (by decide) hd, if_pos (by decide), if_pos (by decide)]
  rfl

theorem State.shedDeclare_four (cc : Nat) (hr : s.sup.released = true) (hd : bitAt s.sup.declared 3 = false) : s.shedDeclare 4 cc = (s.shedHeld cc).railsOff false := by
  rw [s.shedDeclare_of 4 cc hr (by decide) (by decide) hd, if_neg (by decide)]
  rfl

theorem State.shedShow_cases (cc : Nat) (u : State) (hl : u.reg K.SHED_LEVEL = s.reg K.SHED_LEVEL) (hs : u.stampCc cc = s.stampCc cc) :
    (u.shedNow = s.reg K.SHED_LEVEL → u.shedShow cc = u)
    ∧ (u.shedNow ≠ s.reg K.SHED_LEVEL → u.shedShow cc = (u.put K.SHED_LEVEL u.shedNow).put K.SHED_LAST (s.stampCc cc)) :=
  ⟨fun h => u.shedShow_same cc (by rw [hl]; exact h), fun h => by rw [u.shedShow_moves cc (by rw [hl]; exact h), hs]⟩

/-- The state in which level `l` is no longer declared. -/
def State.shedEnded (l : Nat) : State := s.setSup { s.sup with declared := withBit s.sup.declared (l - 1) false }

theorem State.shedClear_of (l cc : Nat) (hr : s.sup.released = true) (h0 : 0 < l) (h4 : l ≤ 4) (hd : bitAt s.sup.declared (l - 1) = true) :
    s.shedClear l cc = if l = 4 then ((s.shedEnded l).shedShow cc).railStart else (s.shedEnded l).shedShow cc :=
  if_neg (by simp [hr, hd]; omega)

/-- When L4 clears with VIO on, the start of the rails goes on with VANA. -/
theorem State.shedEnded_starts (cc : Nat) (hr : s.sup.released = true) (hw : s.sup.restartDue = false) (hk : s.sup.lockOut = false) (hi : s.sup.step = .idle)
    (hoff : s.railOn 0 = false) (hon : s.railOn 2 = true) (hm : s.mode ≠ .thermalLatch) :
    ((s.shedEnded 4).shedShow cc).railStart = (((s.shedEnded 4).shedShow cc).put (K.RAIL_STATE 1) 1).setSup { (s.shedEnded 4).sup with step := .vana, restartDue := false } := by
  obtain ⟨v, hv⟩ : ∃ v : State, v = (s.shedEnded 4).shedShow cc := ⟨_, rfl⟩
  have hparts := (s.shedEnded 4).shedShow_parts cc
  rw [← hv] at hparts
  have hsup : v.sup = (s.shedEnded 4).sup := (congrArg State.sup hparts :)
  have hmode : v.mode = s.mode := (congrArg State.mode hparts :)
  have hrail : ∀ i : Fin 3, v.railOn i = s.railOn i := fun i => by
    have hkey : K.RAIL_STATE i.val ∉ [K.SHED_LEVEL, K.SHED_LAST] := by revert i; decide
    have hreg : v.reg (K.RAIL_STATE i.val) = s.reg (K.RAIL_STATE i.val) := by
      rw [hv]
      exact (s.shedEnded 4).shedShow_keeps cc _ hkey
    simp only [State.railOn, hreg]
  have hwdue : v.sup.restartDue = false := by rw [hsup]; exact hw
  have hmay : v.railsMayStart := by
    refine ⟨by rw [hsup]; exact hr, by rw [hsup]; exact hk, ?_, by rw [hsup]; exact hi, ?_, by rw [hmode]; exact hm⟩
    · have hbit : (s.shedEnded 4).sup.declared = withBit s.sup.declared 3 false := rfl
      rw [hsup, hbit, bitAt_withBit, if_pos rfl]
    · have h0 : v.railOn 0 = false := (hrail 0).trans hoff
      rw [State.railsGood, h0]
      rfl
  have h2 : v.railOn 2 = true := (hrail 2).trans hon
  rw [← hv, State.railStart, if_neg (by simp [hwdue]), v.railsStart_first hmay hwdue, State.railsBegun, if_neg (by simp [h2]), hsup]

/-! ### Overvoltage (R432) -/

theorem State.ovDeclare_of (cc : Nat) (hr : s.sup.released = true) (hv : s.reg K.VIN_OV ≠ 1) :
    s.ovDeclare cc = (((s.put K.VIN_OV 1).count K.OV_ENTRIES).shedShow cc).bistStop 0x15 := if_neg (by simp [hr, hv])

theorem State.ovDeclare_shows (cc : Nat) (hr : s.sup.released = true) (hv : s.reg K.VIN_OV ≠ 1) : (s.ovDeclare cc).reg K.VIN_OV = 1
    ∧ (s.ovDeclare cc).reg K.OV_ENTRIES = min (s.reg K.OV_ENTRIES + 1) (2 ^ 32 - 1) ∧ (s.ovDeclare cc).reg K.SHED_LEVEL = 3 := by
  obtain ⟨u, hu⟩ : ∃ u : State, u = (s.put K.VIN_OV 1).count K.OV_ENTRIES := ⟨_, rfl⟩
  have hov : u.reg K.VIN_OV = 1 := by
    rw [hu, State.count, State.reg_put_ne _ _ _ _ (by decide), State.reg_put_self]
  have hcount : u.reg K.OV_ENTRIES = min (s.reg K.OV_ENTRIES + 1) (2 ^ 32 - 1) := by
    rw [hu, State.count, State.reg_put_self, State.reg_put_ne _ _ _ _ (by decide)]
    rfl
  have hstop : ∀ k, 0x880000 ≤ k → ((u.shedShow cc).bistStop 0x15).reg k = (u.shedShow cc).reg k := fun k hk =>
    ((u.shedShow cc).bistStop_testStay 0x15).2 k (by omega) (.inr (by omega))
  have hshow := u.shedShow_keeps cc
  rw [s.ovDeclare_of cc hr hv, ← hu, hstop _ (by decide), hstop _ (by decide), hstop _ (by decide), State.shedShow_level, u.shedNow_deep (.inr (.inr hov)), hshow _ (by decide),
    hshow _ (by decide)]
  exact ⟨hov, hcount, rfl⟩

theorem State.ovClear_shows (cc : Nat) (hv : s.reg K.VIN_OV = 1) : (s.ovClear cc).reg K.VIN_OV = 0
    ∧ (s.ovClear cc).reg K.SHED_LEVEL = (if bitAt s.sup.declared 3 = true ∨ bitAt s.sup.declared 2 = true then 3 else if bitAt s.sup.declared 1 = true then 2
      else if bitAt s.sup.declared 0 = true then 1 else 0)
    ∧ s.keeps (s.ovClear cc) [K.VIN_OV, K.SHED_LEVEL, K.SHED_LAST] := by
  have hclear : s.ovClear cc = (s.put K.VIN_OV 0).shedShow cc := if_pos hv
  have hzero : (s.put K.VIN_OV 0).reg K.VIN_OV = 0 := s.reg_put_self _ _
  have hput : s.keeps (s.put K.VIN_OV 0) [K.VIN_OV, K.SHED_LEVEL, K.SHED_LAST] := (State.keeps.refl s _).put _ _ (by simp)
  rw [hclear]
  refine ⟨((s.put K.VIN_OV 0).shedShow_keeps cc _ (by decide)).trans hzero, ?_, hput.trans (((s.put K.VIN_OV 0).shedShow_keeps cc).mono (by simp))⟩
  rw [State.shedShow_level, State.shedNow, hzero]
  simp only [State.put_sup, Nat.zero_ne_one, or_false]
  exact if_congr Iff.rfl rfl rfl

end

/-- Settles O49: SHED_LEVEL follows the declared levels; L3 stops tests, L4 holds the part. -/
theorem shedLevels : Obligations.ShedLevels := by
  refine ⟨fun s u l cc hr h0 hd _ _ hu => ?_, fun s u l cc hr h0 hd hu => ?_, fun s cc hr hv _ _ => ?_, fun s cc hv => ⟨s.ovClear cc.val, rfl, s.ovClear_shows cc.val hv⟩, fun s a h => ?_⟩
  · have hcounted : u = s.shedCounted l.val := hu
    have hexec : exec (.shedDeclare l cc) s = .next (s.shedDeclare l.val cc.val).settle := rfl
    obtain ⟨hsame, hmoves⟩ := s.shedShow_cases cc.val (s.shedCounted l.val) (s.shedCounted_level _) rfl
    rw [hexec, hcounted]
    refine ⟨fun hl hs => ?_, fun hl hs => ?_, fun hl => ?_, fun hl => ?_⟩
    · rw [s.shedDeclare_low _ _ hr h0 hl hd, hsame hs]
    · rw [s.shedDeclare_low _ _ hr h0 hl hd, hmoves hs]
    · rw [hl] at hd ⊢
      have hlevel := s.shedStopped_level 3 cc.val (.inl rfl)
      obtain ⟨hsup, -⟩ := s.shedStopped_parts 3 cc.val
      obtain ⟨hA, hB⟩ := (s.shedStopped 3 cc.val).settle_permits_off (State.permitCond_shed _ hlevel.ge)
      rw [s.shedDeclare_three _ hr hd]
      exact ⟨s.shedStopped 3 cc.val, rfl, hlevel, hsup, (s.shedStopped_reg 3 cc.val _ (by decide)).trans ((s.shedCounted 3).shedShow_keeps cc.val _ (by decide)), hA, hB⟩
    · rw [hl] at hd ⊢
      obtain ⟨hlevel, hsup, hmode, hlog⟩ := s.shedHeld_shows cc.val
      rw [s.shedDeclare_four _ hr hd]
      generalize s.shedHeld cc.val = w at *
      have hoff : (w.railsOff false).sup = { w.sup with step := .idle, conv := [{}, {}, {}, w.sup.conv.getD 3 {}] } := rfl
      refine ⟨w.railsOff false, rfl, ?_, ?_, ?_, ?_, hmode, hlog⟩
      · rw [State.railsOff_die_reg, if_neg (by decide), if_neg (by decide), hlevel]
      · rw [hoff, hsup]
      · rw [State.railsOff_die_reg, if_neg (by decide), if_pos rfl]
      · rw [State.railsOff_die_reg, if_pos rfl]
  · have hended : u = s.shedEnded l.val := hu
    have hexec : exec (.shedClear l cc) s = .next (s.shedClear l.val cc.val).settle := rfl
    obtain ⟨hsame, hmoves⟩ := s.shedShow_cases cc.val (s.shedEnded l.val) rfl rfl
    rw [hexec, s.shedClear_of _ _ hr h0 (by omega) hd, hended]
    refine ⟨fun hl hs => ?_, fun hl hs => ?_, fun hl hw hs => ?_, fun hl hw hk hi hoff hon hm => ?_⟩
    · rw [if_neg (by omega), hsame hs]
    · rw [if_neg (by omega), hmoves hs]
    · rw [if_pos hl, hsame hs]
      exact congrArg (fun x => Host.Outcome.next (State.settle x)) (if_pos hw)
    · rw [hl, if_pos rfl, s.shedEnded_starts _ hr hw hk hi hoff hon hm]
      have hlevel := (s.shedEnded 4).shedShow_level cc.val
      generalize (s.shedEnded 4).shedShow cc.val = v at *
      exact ⟨_, rfl, v.reg_put_self (K.RAIL_STATE 1) 1, rfl, (v.reg_put_ne (K.RAIL_STATE 1) K.SHED_LEVEL 1 (by decide)).trans hlevel⟩
  · obtain ⟨hov, hcount, hlevel⟩ := s.ovDeclare_shows cc.val hr hv
    obtain ⟨hA, hB⟩ := (s.ovDeclare cc.val).settle_permits_off (State.permitCond_shed _ hlevel.ge)
    exact ⟨s.ovDeclare cc.val, rfl, hov, hcount, hlevel, hA, hB⟩
  · calc exec (.vinMinmaxClr a) s = .next (s.hostWrite K.VIN_MINMAX_CLR (a.write 1 1)).settle := rfl
      _ = _ := by rw [s.hostWrite_wo _ 1 1 a h (by decide) rfl (by decide)]; rfl

end Sys2Proof.Machine
end

section
/-! PROOFS. Chapter 17: temperature sensors, zones, the thermal latch and the throttle. -/

namespace Sys2Proof.Machine

/-! ### What the evaluation of temperatures leaves -/

/-- Only temperatures, the temperature that the polynomials take, and the registers of R436 to R443 may have changed; the latch stays. -/
def State.thermStay (s t : State) : Prop :=
  t = { s with objs := t.objs, therm := t.therm, ens := t.ens } ∧ t.therm.latched = s.therm.latched ∧ ∀ k, k < 0x882001 ∨ 0x883102 ≤ k → t.reg k = s.reg k

section
variable {s t u : State}

theorem State.thermStay.refl (s : State) : s.thermStay s := ⟨rfl, rfl, fun _ _ => rfl⟩

theorem State.thermStay.trans (h : s.thermStay t) (h' : t.thermStay u) : s.thermStay u :=
  ⟨h'.1.trans (congrArg (fun x : State => { x with objs := u.objs, therm := u.therm, ens := u.ens }) h.1), h'.2.1.trans h.2.1, fun k hk => (h'.2.2 k hk).trans (h.2.2 k hk)⟩

theorem State.thermStay.put (h : s.thermStay t) (k v : Nat) (hk : 0x882001 ≤ k ∧ k < 0x883102) : s.thermStay (t.put k v) :=
  h.trans ⟨rfl, rfl, fun j hj => t.reg_put_ne _ _ _ (by omega)⟩

theorem State.thermStay.therm (h : s.thermStay t) (x : Thermal) (hl : x.latched = t.therm.latched) : s.thermStay (t.setTherm x) :=
  h.trans ⟨rfl, hl, fun _ _ => rfl⟩

theorem State.thermStay.ens (h : s.thermStay t) (x : Ensign) : s.thermStay { t with ens := x } := h.trans ⟨rfl, rfl, fun _ _ => rfl⟩

theorem State.thermStay.judged (h : s.thermStay t) (i : Nat) : t.tsJudged i = s.tsJudged i := by
  have hmode : t.mode = s.mode := (congrArg State.mode h.1 :)
  simp only [State.tsJudged, State.railOn, hmode, h.2.2 (K.RAIL_STATE 0) (by decide), h.2.2 (K.RAIL_STATE 1) (by decide)]

end

section
variable (s : State)

@[simp] theorem State.tsensor_setSensor (i j : Nat) (t : TempSensor) : (s.setSensor i t).tsensor j = if j = i then t else s.tsensor j := getD_setAt ..

@[simp] theorem State.tzone_setSensor (i z : Nat) (t : TempSensor) : (s.setSensor i t).tzone z = s.tzone z := rfl

@[simp] theorem State.tzone_setTzone (z y : Nat) (t : TempZone) : (s.setTzone z t).tzone y = if y = z then t else s.tzone y := getD_setAt ..

@[simp] theorem State.tsensor_setTzone (z i : Nat) (t : TempZone) : (s.setTzone z t).tsensor i = s.tsensor i := rfl

@[simp] theorem State.tsensor_put (k v i : Nat) : (s.put k v).tsensor i = s.tsensor i := rfl

@[simp] theorem State.tzone_put (k v z : Nat) : (s.put k v).tzone z = s.tzone z := rfl

theorem State.setSensor_stay (i : Nat) (t : TempSensor) : s.thermStay (s.setSensor i t) := (State.thermStay.refl s).therm _ rfl

theorem State.setTzone_stay (z : Nat) (t : TempZone) : s.thermStay (s.setTzone z t) := (State.thermStay.refl s).therm _ rfl

/-! ### Readings (R436, R437) -/

theorem State.tsBreakNow_of (i : Nat) (h : (s.tsensor i).broken = false) :
    s.tsBreakNow i = (s.setSensor i { s.tsensor i with broken := true, own := none }).count K.TS_BREAKS := if_neg (by simp [h])

theorem State.tsBreakNow_stay (i : Nat) : s.thermStay (s.tsBreakNow i) := by
  unfold State.tsBreakNow
  split
  · exact .refl s
  · exact (s.setSensor_stay i _).put K.TS_BREAKS _ (by decide)

theorem State.tsTake_stay (i : Nat) (code : Option Int) : s.thermStay (s.tsTake i code) := by
  unfold State.tsTake
  dsimp only
  split_ifs
  · exact (State.thermStay.refl s).therm _ rfl
  · exact .refl s
  · split
    · exact (State.thermStay.refl s).therm _ rfl
    · split
      · exact s.tsBreakNow_stay i
      · exact (State.thermStay.refl s).therm _ rfl

theorem State.tsBreakNow_other (i j : Nat) (h : j ≠ i) : (s.tsBreakNow i).tsensor j = s.tsensor j := by
  unfold State.tsBreakNow
  split
  · rfl
  · simp [State.count, h]

theorem State.tsTake_other (i j : Nat) (code : Option Int) (h : j ≠ i) : (s.tsTake i code).tsensor j = s.tsensor j := by
  unfold State.tsTake
  dsimp only
  split_ifs
  · simp [h]
  · rfl
  · split
    · simp [h]
    · split
      · exact s.tsBreakNow_other i j h
      · simp [h]

theorem State.tsTake_reading (i : Nat) (c : Int) (hj : s.tsJudged i = true) (hb : (s.tsensor i).broken = false) (hl : -880 ≤ c) (hu : c ≤ 2800) :
    (s.tsTake i (some c)).tsensor i = { own := some c, missed := 0, broken := false } := by
  have hrange : ¬ (c < -(deg 55) ∨ deg 175 < c) := by simp only [deg]; omega
  simp only [State.tsTake, hj, hb, if_neg hrange, Bool.not_true, Bool.false_eq_true, if_false, State.tsensor_setSensor, if_true]

theorem State.tsTake_out (i : Nat) (c : Int) (hj : s.tsJudged i = true) (hb : (s.tsensor i).broken = false) (h : c < -880 ∨ 2800 < c) :
    ((s.tsTake i (some c)).tsensor i).broken = true ∧ ((s.tsTake i (some c)).tsensor i).own = none := by
  have hrange : c < -(deg 55) ∨ deg 175 < c := by simp only [deg]; omega
  have htake : s.tsTake i (some c) = (s.setSensor i { s.tsensor i with broken := true, own := none }).count K.TS_BREAKS := by
    rw [← s.tsBreakNow_of i hb]
    simp only [State.tsTake, hj, hb, if_pos hrange, Bool.not_true, Bool.false_eq_true, if_false]
  rw [htake]
  simp [State.count]

/-! ### Zones (R438, R439) -/

/-- What TS_STATE shows of sensor `i`. -/
def State.sensorCode (i : Nat) : Nat :=
  if (s.tsensor i).broken then 3 else if (s.tsensor i).own.isNone then 0 else if (s.tzone (i / 2)).disagree then 2 else 1

/-- What TS_READ shows of sensor `i`. -/
def State.sensorRead (i : Nat) : Nat := (s.tsensor i).own.elim 0x8000 (ofSigned 16)

theorem State.sensorCode_congr (t : State) (h : t.therm = s.therm) (i : Nat) : t.sensorCode i = s.sensorCode i := by
  have hsensor : t.tsensor i = s.tsensor i := by rw [State.tsensor, h]; rfl
  have hzone : t.tzone (i / 2) = s.tzone (i / 2) := by rw [State.tzone, h]; rfl
  rw [State.sensorCode, State.sensorCode, hsensor, hzone]

/-- The registers of both sensors of a zone, as its evaluation shows them first. -/
def State.sensorsShown (z : Nat) : State :=
  (((s.put (K.TS_STATE (2 * z)) (s.sensorCode (2 * z))).put (K.TS_READ (2 * z)) (s.sensorRead (2 * z))).put (K.TS_STATE (2 * z + 1)) (s.sensorCode (2 * z + 1))).put
    (K.TS_READ (2 * z + 1)) (s.sensorRead (2 * z + 1))

/-- Only the zone registers of `z` and the temperature of the polynomials may have changed. -/
def State.zoneOnly (z : Nat) (s t : State) : Prop :=
  t = { s with objs := t.objs, ens := t.ens } ∧ s.keeps t [K.ZONE_TEMP z, K.ZONE_JUDGED z, K.ZONE_WARN_T z, K.ZONE_PEAK z]

theorem State.zoneOnly.put {z : Nat} {s t : State} (h : State.zoneOnly z s t) (k v : Nat) (hk : k ∈ [K.ZONE_TEMP z, K.ZONE_JUDGED z, K.ZONE_WARN_T z, K.ZONE_PEAK z]) :
    State.zoneOnly z s (t.put k v) :=
  ⟨(congrArg (fun x : State => x.put k v) h.1 :), h.2.put k v hk⟩

theorem State.zoneOnly.refl (z : Nat) (s : State) : State.zoneOnly z s s := ⟨rfl, .refl s _⟩

theorem State.zoneOnly.ens {z : Nat} {s t : State} (h : State.zoneOnly z s t) (x : Ensign) : State.zoneOnly z s { t with ens := x } :=
  ⟨(congrArg (fun y : State => { y with ens := x }) h.1 :), h.2.of_objs rfl⟩

theorem State.zoneEval_zoneOnly (z : Nat) : State.zoneOnly z (s.sensorsShown z) (s.zoneEval z) := by
  have hodd : (2 * z + 1) / 2 = z := by omega
  have heven : 2 * z / 2 = z := by omega
  unfold State.zoneEval
  extract_lets b eff st shown all judged _ peaked
  have hshown : shown = s.sensorsShown z := by
    have hcode : ∀ i, i / 2 = z → st i = s.sensorCode i := fun i hi => by
      simp only [st, State.sensorCode, hi]
    have hfold : shown = (((s.put (K.TS_STATE (2 * z)) (st (2 * z))).put (K.TS_READ (2 * z)) (s.sensorRead (2 * z))).put (K.TS_STATE (2 * z + 1)) (st (2 * z + 1))).put
        (K.TS_READ (2 * z + 1)) (s.sensorRead (2 * z + 1)) := by
      simp only [shown, State.forEach, List.foldl_cons, List.foldl_nil, State.tsensor_put, State.sensorRead]
      cases (s.tsensor (2 * z)).own <;> cases (s.tsensor (2 * z + 1)).own <;> rfl
    rw [hfold, hcode _ hodd, hcode _ heven, State.sensorsShown]
  have hrefl : State.zoneOnly z (s.sensorsShown z) shown := hshown ▸ .refl z _
  have hpeaked : State.zoneOnly z (s.sensorsShown z) peaked := (hrefl.put _ _ (by simp)).put _ _ (by simp)
  clear_value peaked shown eff
  split
  · exact ((hrefl.put _ _ (by simp)).put _ _ (by simp)).put _ _ (by simp)
  · split
    · exact (hpeaked.put _ _ (by simp)).put _ _ (by simp)
    · dsimp only
      rw [State.onlyIf]
      split
      · exact ((hpeaked.ens _).put _ _ (by simp)).put _ _ (by simp)
      · exact (hpeaked.put _ _ (by simp)).put _ _ (by simp)

theorem State.sensorsShown_stay (z : Nat) (hz : z < 6) : s.thermStay (s.sensorsShown z) :=
  ((((State.thermStay.refl s).put _ _ (by simp only [K.TS_STATE]; omega)).put _ _ (by simp only [K.TS_READ]; omega)).put _ _ (by simp only [K.TS_STATE]; omega)).put _ _
    (by simp only [K.TS_READ]; omega)

theorem State.zoneOnly.stay {z : Nat} {s t : State} (h : State.zoneOnly z s t) (hz : z < 6) : s.thermStay t := by
  have htherm : t.therm = s.therm := (congrArg State.therm h.1 :)
  refine ⟨h.1.trans (by rw [htherm]), by rw [htherm], fun k hk => h.2 k ?_⟩
  simp only [List.mem_cons, List.not_mem_nil, or_false, K.ZONE_TEMP, K.ZONE_JUDGED, K.ZONE_WARN_T, K.ZONE_PEAK]
  omega

theorem State.zoneEval_stay (z : Nat) (hz : z < 6) : s.thermStay (s.zoneEval z) := (s.sensorsShown_stay z hz).trans ((s.zoneEval_zoneOnly z).stay hz)

theorem State.zoneEval_therm (z : Nat) : (s.zoneEval z).therm = s.therm := (congrArg State.therm (s.zoneEval_zoneOnly z).1 :)

/-- An evaluation shows the two sensors of its zone and no other. -/
theorem State.zoneEval_sensor (i : Nat) (hi : i < 12) : (s.zoneEval (i / 2)).reg (K.TS_STATE i) = s.sensorCode i ∧ (s.zoneEval (i / 2)).reg (K.TS_READ i) = s.sensorRead i := by
  have hkeep : ∀ k, k < 0x882201 → (s.zoneEval (i / 2)).reg k = (s.sensorsShown (i / 2)).reg k := fun k hk => (s.zoneEval_zoneOnly (i / 2)).2 k (by
    simp only [List.mem_cons, List.not_mem_nil, or_false, K.ZONE_TEMP, K.ZONE_JUDGED, K.ZONE_WARN_T, K.ZONE_PEAK]
    omega)
  rw [hkeep _ (by simp only [K.TS_STATE]; omega), hkeep _ (by simp only [K.TS_READ]; omega)]
  unfold State.sensorsShown
  have hpar : i = 2 * (i / 2) ∨ i = 2 * (i / 2) + 1 := by omega
  generalize i / 2 = z at hpar
  rcases hpar with rfl | rfl
  · simp only [State.reg_put, K.TS_STATE, K.TS_READ]
    constructor
    · rw [if_neg (by omega), if_neg (by omega), if_neg (by omega), if_pos trivial]
    · rw [if_neg (by omega), if_neg (by omega), if_pos trivial]
  · simp only [State.reg_put, K.TS_STATE, K.TS_READ]
    constructor
    · rw [if_neg (by omega), if_pos trivial]
    · rw [if_pos trivial]

theorem State.zoneEval_others (z i : Nat) (hi : i < 12) (hz : z < 6) (h : i / 2 ≠ z) : (s.zoneEval z).reg (K.TS_STATE i) = s.reg (K.TS_STATE i)
    ∧ (s.zoneEval z).reg (K.TS_READ i) = s.reg (K.TS_READ i) := by
  have hkeep : ∀ k, k < 0x882201 → (s.zoneEval z).reg k = (s.sensorsShown z).reg k := fun k hk => (s.zoneEval_zoneOnly z).2 k (by
    simp only [List.mem_cons, List.not_mem_nil, or_false, K.ZONE_TEMP, K.ZONE_JUDGED, K.ZONE_WARN_T, K.ZONE_PEAK]
    omega)
  rw [hkeep _ (by simp only [K.TS_STATE]; omega), hkeep _ (by simp only [K.TS_READ]; omega)]
  simp only [State.sensorsShown, State.reg_put, K.TS_STATE, K.TS_READ]
  constructor
  · rw [if_neg (by omega), if_neg (by omega), if_neg (by omega), if_neg (by omega)]
  · rw [if_neg (by omega), if_neg (by omega), if_neg (by omega), if_neg (by omega)]

theorem State.zoneEval_breaks (z : Nat) (hz : z < 6) : (s.zoneEval z).reg K.TS_BREAKS = s.reg K.TS_BREAKS := by
  have hkeep : (s.zoneEval z).reg K.TS_BREAKS = (s.sensorsShown z).reg K.TS_BREAKS := (s.zoneEval_zoneOnly z).2 _ (by
    simp only [List.mem_cons, List.not_mem_nil, or_false, K.ZONE_TEMP, K.ZONE_JUDGED, K.ZONE_WARN_T, K.ZONE_PEAK, K.TS_BREAKS]
    omega)
  rw [hkeep]
  simp only [State.sensorsShown, State.reg_put, K.TS_STATE, K.TS_READ, K.TS_BREAKS]
  rw [if_neg (by omega), if_neg (by omega), if_neg (by omega), if_neg (by omega)]

/-! ### The steps that a reading takes first -/

theorem State.zoneDiff_shows (z : Nat) : s.thermStay (s.zoneDiff z) ∧ (s.zoneDiff z).therm.sensors = s.therm.sensors := by
  unfold State.zoneDiff
  dsimp only
  split
  · exact ⟨s.setTzone_stay z _, rfl⟩
  · exact ⟨s.setTzone_stay z _, rfl⟩

theorem State.disagreeChange_stay (z : Nat) (hz : z < 6) : s.thermStay (s.disagreeChange z) := by
  unfold State.disagreeChange
  dsimp only
  split
  · exact (s.setTzone_stay z _).trans (State.zoneEval_stay _ z hz)
  · exact .refl s

theorem State.tsBreak_stay (i : Nat) (hi : i < 12) : s.thermStay (s.tsBreak i) := by
  have hz : i / 2 < 6 := by omega
  unfold State.tsBreak
  extract_lets u
  have hu : s.thermStay u := s.tsBreakNow_stay i
  clear_value u
  split
  · exact (hu.trans (u.setTzone_stay (i / 2) _)).trans (State.zoneEval_stay _ _ hz)
  · exact .refl s

theorem State.throtUp_stay : s.thermStay s.throtUp := by
  unfold State.throtUp
  split
  · rw [State.onlyIf]
    split
    · exact (((State.thermStay.refl s).put _ _ (by decide)).put _ _ (by decide)).therm _ rfl
    · exact ((State.thermStay.refl s).put _ _ (by decide)).therm _ rfl
  · exact .refl s

theorem State.throtDown_stay : s.thermStay s.throtDown := by
  unfold State.throtDown
  split_ifs
  · exact .refl s
  · exact ((State.thermStay.refl s).put _ _ (by decide)).therm _ rfl
  · exact .refl s

theorem State.thermDue_stay : s.thermStay s.thermDue :=
  (((State.forRange_rel State.thermStay .refl .trans State.tsBreak 12 (fun u a ha => u.tsBreak_stay a ha) s).trans
    (State.forRange_rel State.thermStay .refl .trans State.disagreeChange 6 (fun u a ha => u.disagreeChange_stay a ha) _)).trans
      (State.throtUp_stay _)).trans (State.throtDown_stay _)

/-! ### What a reading counts afterwards (R441, R442, R444) -/

/-- The sensor, its zone's disagreement and its two registers stay as they are. -/
def State.sensorStay (i : Nat) (s t : State) : Prop :=
  t.tsensor i = s.tsensor i ∧ (t.tzone (i / 2)).disagree = (s.tzone (i / 2)).disagree ∧ t.reg (K.TS_STATE i) = s.reg (K.TS_STATE i) ∧ t.reg (K.TS_READ i) = s.reg (K.TS_READ i)

theorem State.sensorStay.refl (i : Nat) (s : State) : State.sensorStay i s s := ⟨rfl, rfl, rfl, rfl⟩

theorem State.sensorStay.trans {i : Nat} {s t u : State} (h : State.sensorStay i s t) (h' : State.sensorStay i t u) : State.sensorStay i s u :=
  ⟨h'.1.trans h.1, h'.2.1.trans h.2.1, h'.2.2.1.trans h.2.2.1, h'.2.2.2.trans h.2.2.2⟩

theorem State.thermWarn_shows (i : Nat) : s.thermStay s.thermWarn ∧ State.sensorStay i s s.thermWarn :=
  ⟨(State.thermStay.refl s).therm _ rfl, rfl, rfl, rfl, rfl⟩

theorem State.throtCount_shows (i : Nat) (hi : i < 12) : s.thermStay s.throtCount ∧ State.sensorStay i s s.throtCount := by
  have hkeys : K.TS_STATE i ≠ K.THROT_TIME ∧ K.TS_READ i ≠ K.THROT_TIME := by simp only [K.TS_STATE, K.TS_READ, K.THROT_TIME]; omega
  unfold State.throtCount
  extract_lets hot warm _ u
  have hu : s.thermStay u ∧ State.sensorStay i s u := ⟨(State.thermStay.refl s).therm _ rfl, rfl, rfl, rfl, rfl⟩
  clear_value u
  rw [State.onlyIf]
  split
  · exact ⟨hu.1.put _ _ (by decide), hu.2.trans ⟨rfl, rfl, u.reg_put_ne _ _ _ hkeys.1, u.reg_put_ne _ _ _ hkeys.2⟩⟩
  · exact hu

theorem State.hotCount_shows (i : Nat) : s.thermStay s.hotCount ∧ State.sensorStay i s s.hotCount := by
  refine State.forRange_rel (fun a b => a.thermStay b ∧ State.sensorStay i a b) (fun a => ⟨.refl a, .refl i a⟩) (fun h h' => ⟨h.1.trans h'.1, h.2.trans h'.2⟩) _ 6 (fun u z _ => ?_) s
  refine ⟨(State.thermStay.refl u).therm _ rfl, rfl, ?_, rfl, rfl⟩
  rw [State.tzone_setTzone]
  split
  next h => rw [h]
  · rfl

/-! ### TS_READING (R436 to R442) -/

/-- The readings of a millisecond, as the sensors take them. -/
def State.readingsTaken (codes : List (Option Int)) : State := s.thermDue.forRange 12 fun s i => s.tsTake i (codes.getD i none)

/-- Of those, what the zones' evaluation shows. -/
def State.zonesEvaluated (codes : List (Option Int)) : State := ((s.readingsTaken codes).forRange 6 State.zoneDiff).forRange 6 State.zoneEval

theorem State.readingsTaken_sensor (codes : List (Option Int)) (i : Nat) (hi : i < 12) :
    ∃ u, s.thermDue.thermStay u ∧ u.tsensor i = s.thermDue.tsensor i ∧ (s.readingsTaken codes).tsensor i = (u.tsTake i (codes.getD i none)).tsensor i
      ∧ s.thermDue.thermStay (s.readingsTaken codes) := by
  obtain ⟨u, hu, hr⟩ := State.forRange_turn (fun a b => a.thermStay b ∧ b.tsensor i = a.tsensor i) (fun a => ⟨.refl a, rfl⟩) (fun h h' => ⟨h.1.trans h'.1, h'.2.trans h.2⟩)
    (fun s i => s.tsTake i (codes.getD i none)) 12 i hi (fun v a _ hne => ⟨v.tsTake_stay a _, v.tsTake_other a i _ hne.symm⟩) s.thermDue
  exact ⟨u, hu.1, hu.2, hr.2, (hu.1.trans (u.tsTake_stay i _)).trans hr.1⟩

theorem State.zonesEvaluated_sensor (codes : List (Option Int)) (i : Nat) (hi : i < 12) :
    (s.zonesEvaluated codes).tsensor i = (s.readingsTaken codes).tsensor i ∧ (s.readingsTaken codes).thermStay (s.zonesEvaluated codes)
    ∧ (s.zonesEvaluated codes).reg (K.TS_STATE i) = (s.zonesEvaluated codes).sensorCode i ∧ (s.zonesEvaluated codes).reg (K.TS_READ i) = (s.zonesEvaluated codes).sensorRead i := by
  obtain ⟨hstay, hsensors⟩ := State.forRange_rel (fun a b => a.thermStay b ∧ b.therm.sensors = a.therm.sensors) (fun a => ⟨.refl a, rfl⟩)
    (fun h h' => ⟨h.1.trans h'.1, h'.2.trans h.2⟩) State.zoneDiff 6 (fun u z _ => u.zoneDiff_shows z) (s.readingsTaken codes)
  have hall : (s.readingsTaken codes).thermStay (s.zonesEvaluated codes) :=
    hstay.trans (State.forRange_rel State.thermStay .refl .trans State.zoneEval 6 (fun u z hz => u.zoneEval_stay z hz) _)
  have htherm : (s.zonesEvaluated codes).therm = ((s.readingsTaken codes).forRange 6 State.zoneDiff).therm :=
    State.forRange_rel (fun a b => b.therm = a.therm) (fun _ => rfl) (fun h h' => h'.trans h) State.zoneEval 6 (fun u z _ => u.zoneEval_therm z) _
  obtain ⟨u, hu, hr⟩ := State.forRange_turn (fun a b => b.therm = a.therm ∧ b.reg (K.TS_STATE i) = a.reg (K.TS_STATE i) ∧ b.reg (K.TS_READ i) = a.reg (K.TS_READ i))
    (fun _ => ⟨rfl, rfl, rfl⟩) (fun h h' => ⟨h'.1.trans h.1, h'.2.1.trans h.2.1, h'.2.2.trans h.2.2⟩) State.zoneEval 6 (i / 2) (by omega)
    (fun v z hz hne => ⟨v.zoneEval_therm z, v.zoneEval_others z i hi hz hne.symm⟩) ((s.readingsTaken codes).forRange 6 State.zoneDiff)
  obtain ⟨hstate, hread⟩ := u.zoneEval_sensor i hi
  have hsame : u.therm = (s.zonesEvaluated codes).therm := hu.1.trans htherm.symm
  have hcode : u.sensorCode i = (s.zonesEvaluated codes).sensorCode i := State.sensorCode_congr _ u hsame i
  have hreads : u.sensorRead i = (s.zonesEvaluated codes).sensorRead i := by simp only [State.sensorRead, State.tsensor, hsame]
  refine ⟨?_, hall, (hr.2.1.trans hstate).trans hcode, (hr.2.2.trans hread).trans hreads⟩
  have hlist : (s.zonesEvaluated codes).therm.sensors = (s.readingsTaken codes).therm.sensors := by rw [htherm, hsensors]
  simp only [State.tsensor, hlist]

/-- What a reading shows of a sensor is what the evaluation of its zone shows of it. -/
theorem State.tsReading_sensor (codes : List (Option Int)) (i : Nat) (hi : i < 12) :
    (s.tsReading codes).tsensor i = (s.readingsTaken codes).tsensor i ∧ (s.tsReading codes).reg (K.TS_STATE i) = (s.tsReading codes).sensorCode i
    ∧ (s.tsReading codes).reg (K.TS_READ i) = (s.tsReading codes).sensorRead i ∧ s.thermStay (s.tsReading codes) := by
  have hread : s.tsReading codes = (s.zonesEvaluated codes).thermWarn.throtCount.hotCount := rfl
  obtain ⟨hsensor, hstay, hstate, hreg⟩ := s.zonesEvaluated_sensor codes i hi
  obtain ⟨_, -, -, -, htaken⟩ := s.readingsTaken_sensor codes i hi
  generalize s.zonesEvaluated codes = w at *
  obtain ⟨hst1, hs1⟩ := w.thermWarn_shows i
  obtain ⟨hst2, hs2⟩ := w.thermWarn.throtCount_shows i hi
  obtain ⟨hst3, hs3⟩ := w.thermWarn.throtCount.hotCount_shows i
  have hall := (hs1.trans hs2).trans hs3
  have hstays := (((s.thermDue_stay.trans htaken).trans hstay).trans hst1).trans (hst2.trans hst3)
  rw [← hread] at hall hstays
  obtain ⟨ht, hz, hc, hr⟩ := hall
  refine ⟨ht.trans hsensor, ?_, ?_, hstays⟩
  · rw [hc, hstate, State.sensorCode, State.sensorCode, ht, hz]
  · rw [hr, hreg, State.sensorRead, State.sensorRead, ht]

/-! ### The thermal latch (R440, R444) -/

theorem State.latchDue_iff : s.latchDue = true ↔ (∃ z, z < 6 ∧ (s.tsensor (2 * z)).broken = true ∧ (s.tsensor (2 * z + 1)).broken = true) ∨ ∃ z ∈ s.therm.zones, 2 ≤ z.hot := by
  have hboth : ∀ a b : Bool, (ofBool a + ofBool b == 2) = true ↔ a = true ∧ b = true := by decide
  simp only [State.latchDue, State.zoneDead, State.zoneBroken, Bool.or_eq_true, List.any_eq_true, List.mem_range, hboth, decide_eq_true_eq]

theorem State.latchStep_quiet (h : s.latchDue = false) : s.latchStep = s := if_pos (by simp [h])

theorem State.latchStep_sets (hm : s.mode ≠ .off) (hl : s.therm.latched = false) (h : s.latchDue = true) : s.latchStep.mode = .thermalLatch ∧ s.latchStep.therm.latched = true
    ∧ s.latchStep.reg (K.RAIL_STATE 0) = 0 ∧ s.latchStep.reg (K.RAIL_STATE 1) = 0 ∧ s.latchStep.reg (K.RAIL_STATE 2) = s.reg (K.RAIL_STATE 2)
    ∧ s.latchStep.retLog = s.retLog ∧ s.latchStep.fuses = s.fuses := by
  obtain ⟨u, hu⟩ : ∃ u : State, u = { s.coreReset .thermalLatch with therm := { s.therm with latched := true } } := ⟨_, rfl⟩
  have hstep : s.latchStep = u.railsOff false := by
    rw [State.latchStep, if_neg (by simp [hm, hl, h]), hu]
    rfl
  have hrail : u.reg (K.RAIL_STATE 2) = s.reg (K.RAIL_STATE 2) := by
    rw [hu]
    exact (s.coreReset_reg .thermalLatch _).trans (if_pos (by decide))
  have hparts : u.mode = .thermalLatch ∧ u.therm.latched = true ∧ u.retLog = s.retLog ∧ u.fuses = s.fuses := by
    rw [hu]
    exact ⟨rfl, rfl, rfl, rfl⟩
  obtain ⟨hmode, hlatched, hlog, hfuses⟩ := hparts
  rw [hstep, State.railsOff_die_reg, State.railsOff_die_reg, State.railsOff_die_reg, if_neg (by decide), if_pos rfl, if_pos rfl, if_neg (by decide), if_neg (by decide)]
  exact ⟨hmode, hlatched, rfl, rfl, hrail, hlog, hfuses⟩

/-! ### Breaks, disagreement and the throttle -/

theorem State.tsBreak_shows (i : Nat) (hi : i < 12) (hj : s.tsJudged i = true) (hm : 10 ≤ (s.tsensor i).missed) (hb : (s.tsensor i).broken = false) :
    ((s.tsBreak i).tsensor i).broken = true ∧ ((s.tsBreak i).tsensor i).own = none ∧ (s.tsBreak i).reg (K.TS_STATE i) = 3 ∧ (s.tsBreak i).reg (K.TS_READ i) = 0x8000
    ∧ (s.tsBreak i).reg K.TS_BREAKS = min (s.reg K.TS_BREAKS + 1) (2 ^ 32 - 1) := by
  obtain ⟨u, hu⟩ : ∃ u : State, u = (s.tsBreakNow i).setTzone (i / 2) { (s.tsBreakNow i).tzone (i / 2) with disagree := false, diffRun := 0 } := ⟨_, rfl⟩
  have hbreak : s.tsBreak i = u.zoneEval (i / 2) := by
    rw [State.tsBreak, if_pos (by simp [hj, hm]), hu]
  have hsensor : u.tsensor i = { s.tsensor i with broken := true, own := none } := by
    rw [hu, State.tsensor_setTzone, s.tsBreakNow_of i hb]
    simp [State.count]
  have hcount : u.reg K.TS_BREAKS = min (s.reg K.TS_BREAKS + 1) (2 ^ 32 - 1) := by
    rw [hu, s.tsBreakNow_of i hb]
    exact State.reg_put_self (s.setSensor i { s.tsensor i with broken := true, own := none }) K.TS_BREAKS _
  have hevaluated : (u.zoneEval (i / 2)).tsensor i = u.tsensor i := by simp only [State.tsensor, State.zoneEval_therm]
  obtain ⟨hstate, hread⟩ := u.zoneEval_sensor i hi
  rw [hbreak, hevaluated, hstate, hread, u.zoneEval_breaks _ (by omega), State.sensorCode, State.sensorRead, hsensor]
  exact ⟨rfl, rfl, rfl, rfl, hcount⟩

theorem State.disagreeChange_shows (z : Nat) (hz : z < 6) (h : 1000 < (s.tzone z).diffRun) :
    (s.disagreeChange z).tzone z = { s.tzone z with disagree := !(s.tzone z).disagree, diffRun := 0 } ∧ (s.disagreeChange z).therm.sensors = s.therm.sensors
    ∧ ∀ i, i / 2 = z → (s.tsensor i).broken = false → (s.tsensor i).own.isSome = true →
      (s.disagreeChange z).reg (K.TS_STATE i) = (if (s.tzone z).disagree = true then 1 else 2) := by
  obtain ⟨u, hu⟩ : ∃ u : State, u = s.setTzone z { s.tzone z with disagree := !(s.tzone z).disagree, diffRun := 0 } := ⟨_, rfl⟩
  have hchange : s.disagreeChange z = u.zoneEval z := by
    rw [State.disagreeChange, if_pos h, hu]
  have hzone : u.tzone z = { s.tzone z with disagree := !(s.tzone z).disagree, diffRun := 0 } := by rw [hu, State.tzone_setTzone, if_pos rfl]
  have hsensors : u.therm.sensors = s.therm.sensors := by rw [hu]; rfl
  have hevaluated : (u.zoneEval z).tzone z = u.tzone z := by simp only [State.tzone, State.zoneEval_therm]
  rw [hchange, hevaluated, State.zoneEval_therm]
  refine ⟨hzone, hsensors, fun i hi hb ho => ?_⟩
  subst hi
  have hsensor : u.tsensor i = s.tsensor i := by simp only [State.tsensor, hsensors]
  have hown : (s.tsensor i).own.isNone = false := by
    obtain ⟨v, hv⟩ := Option.isSome_iff_exists.mp ho
    rw [hv]
    rfl
  rw [(u.zoneEval_sensor i (by omega)).1, State.sensorCode, hsensor, hzone, hb, hown]
  cases (s.tzone (i / 2)).disagree <;> rfl

theorem State.throtUp_first (hz : s.zoneAt K.ZONE_JUDGED 1920 = true) (h : s.reg K.THROT_STEP = 0) :
    s.throtUp = ((s.put K.THROT_ENTRIES (min (s.reg K.THROT_ENTRIES + 1) (2 ^ 32 - 1))).put K.THROT_STEP 1).setTherm { s.therm with hotFor := 1 } := by
  have hdue : s.throtUpDue = true := by
    have hzone : s.zoneAt K.ZONE_JUDGED (deg 120) = true := hz
    simp [State.throtUpDue, hzone, h]
  have hstep : (s.count K.THROT_ENTRIES).reg K.THROT_STEP = 0 := (s.reg_put_ne _ _ _ (by decide)).trans h
  have hcount : (s.onlyIf (s.reg K.THROT_STEP == 0) fun s => s.count K.THROT_ENTRIES) = s.count K.THROT_ENTRIES := if_pos (by simp [h])
  have hup : s.throtUp = ((s.count K.THROT_ENTRIES).put K.THROT_STEP ((s.count K.THROT_ENTRIES).reg K.THROT_STEP + 1)).setTherm { s.therm with hotFor := 1 } := by
    rw [State.throtUp, if_pos hdue, hcount]
    rfl
  rw [hup, hstep]
  rfl

theorem State.throtUp_next (hz : s.zoneAt K.ZONE_JUDGED 1920 = true) (h0 : 0 < s.reg K.THROT_STEP) (h4 : s.reg K.THROT_STEP < 4) (hh : 100 < s.therm.hotFor) :
    s.throtUp = (s.put K.THROT_STEP (s.reg K.THROT_STEP + 1)).setTherm { s.therm with hotFor := 1 } := by
  have hdue : s.throtUpDue = true := by
    have hzone : s.zoneAt K.ZONE_JUDGED (deg 120) = true := hz
    simp [State.throtUpDue, hzone, h4, hh]
  have hcount : (s.onlyIf (s.reg K.THROT_STEP == 0) fun s => s.count K.THROT_ENTRIES) = s := if_neg (by simp; omega)
  rw [State.throtUp, if_pos hdue, hcount]

theorem State.throtDown_falls (h0 : s.reg K.THROT_STEP ≠ 0) (h : 100 * s.reg K.THROT_RELAX < s.therm.coolFor) :
    s.throtDown = (s.put K.THROT_STEP (s.reg K.THROT_STEP - 1)).setTherm { s.therm with coolFor := 1 } := by
  rw [State.throtDown, if_pos h, if_neg h0]

end

/-- Settles O50: readings by the turn of their sensor and zone, the latch and the throttle by their conditions. -/
theorem temperaturesAndThrottle : Obligations.TemperaturesAndThrottle := by
  have hpowered : ∀ (s : State) (c : Instr) (f : State → State), s.mode ≠ .off → exec c s = .next (s.powered f).settle → exec c s = .next (f s).settle :=
    fun s c f hm h => by rw [h, s.powered_on f hm]
  have hread : ∀ (s : State) (codes : List (Option Int)), s.mode ≠ .off → exec (.tsReading codes) s = .next (s.tsReading codes).latchStep.settle :=
    fun s codes hm => hpowered s _ (fun s => (s.tsReading codes).latchStep) hm rfl
  have hbreak : ∀ (s : State) (i : Fin 12), s.mode ≠ .off → exec (.tsBreak i) s = .next (s.tsBreak i).latchStep.settle :=
    fun s i hm => hpowered s _ (fun s => (s.tsBreak i).latchStep) hm rfl
  refine ⟨fun s hm => ⟨fun codes h => ?_, fun i h => ?_⟩, fun s v c hm hl hc => ?_, State.latchDue_iff, fun s u v codes i c hi hu hv hj hb hcode => ?_, fun s i hi hj hm hb => s.tsBreak_shows i hi hj hm hb,
    fun s z hm => ⟨fun h => ?_, fun h => ?_⟩, fun s hm => ⟨fun hz h => ?_, fun hz h0 h4 hh => ?_, fun h0 h => ?_⟩⟩
  · rw [hread s codes hm, State.latchStep_quiet _ h]
  · rw [hbreak s i hm, State.latchStep_quiet _ h]
  · obtain ⟨hexec, hstay⟩ : exec c s = .next v.latchStep.settle ∧ s.thermStay v := by
      rcases hc with ⟨codes, rfl, rfl⟩ | ⟨i, rfl, rfl⟩
      · exact ⟨hread s codes hm, (s.tsReading_sensor codes 0 (by decide)).2.2.2⟩
      · exact ⟨hbreak s i hm, s.tsBreak_stay i i.isLt⟩
    have hmode : v.mode = s.mode := (congrArg State.mode hstay.1 :)
    have hfuses : v.fuses = s.fuses := (congrArg State.fuses hstay.1 :)
    refine ⟨fun h => by rw [hexec, v.latchStep_quiet h], fun h => ?_⟩
    obtain ⟨h1, h2, h3, h4, h5, h6, h7⟩ := v.latchStep_sets (by rw [hmode]; exact hm) (hstay.2.1.trans hl) h
    exact ⟨v.latchStep, hexec, h1, h2, h3, h4, h5, h6, h7.trans hfuses⟩
  · rw [hu] at hj hb
    rw [hv]
    obtain ⟨w, hw, hsame, htaken, -⟩ := s.readingsTaken_sensor codes i hi
    obtain ⟨hsensor, hstate, hreg, -⟩ := s.tsReading_sensor codes i hi
    rw [htaken, hcode] at hsensor
    have hwj : w.tsJudged i = true := (hw.judged i).trans hj
    have hwb : (w.tsensor i).broken = false := by rw [hsame]; exact hb
    refine ⟨fun hlo hup => ?_, fun hout => ?_⟩
    · rw [w.tsTake_reading i c hwj hwb hlo hup] at hsensor
      refine ⟨hsensor, ?_, ?_⟩
      · rw [hreg, State.sensorRead, hsensor]
        rfl
      · rw [hstate, State.sensorCode, hsensor]
        simp only [Bool.false_eq_true, if_false, Option.isNone_some]
    · obtain ⟨hbroken, hown⟩ := w.tsTake_out i c hwj hwb hout
      rw [← hsensor] at hbroken hown
      refine ⟨hbroken, hown, ?_, ?_⟩
      · rw [hreg, State.sensorRead, hown]
        rfl
      · rw [hstate, State.sensorCode, hbroken]
        rfl
  · exact ⟨s.disagreeChange z, hpowered s _ (fun s => s.disagreeChange z) hm rfl, s.disagreeChange_shows z z.isLt h⟩
  · have hquiet : s.disagreeChange z = s := if_neg (by omega)
    rw [hpowered s (.tsDisagreeChange z) (fun s => s.disagreeChange z) hm rfl, hquiet]
  · calc exec .throttleStepUp s = .next (s.core State.throtUp).settle := rfl
      _ = _ := by rw [s.core_on _ hm, s.throtUp_first hz h]
  · calc exec .throttleStepUp s = .next (s.core State.throtUp).settle := rfl
      _ = _ := by rw [s.core_on _ hm, s.throtUp_next hz h0 h4 hh]
  · calc exec .throttleStepDown s = .next (s.core State.throtDown).settle := rfl
      _ = _ := by rw [s.core_on _ hm, s.throtDown_falls h0 h]

end Sys2Proof.Machine
end

section
/-! PROOFS. Chapters 15 and 18: the return from DEGRADED. -/

namespace Sys2Proof.Machine

/-- DEGRADED, acknowledged, with DEG_FROM at 0, which no entry leaves in it: the mode of code 0 is OFF. DMA engine 0 has a completion record to post that begins
within a word; BANK_MAP sends it to a physical bank whose number is so large that the key of its BANK_UE is that of MODE_CHANGES, and the word is uncorrectable. -/
def strayReturn : State :=
  let s : State := { State.reset with
    mode := .degraded, counting := true, clk := { slotLocked := true }, pipe := { caught := true }, plan := { hasActive := true }, ensB := { degAck := true }
    doms := [(K.AS_MAP 0, leBytes 4 0xA0000000)]
    fs := { dma := [{ phase := .complete 0 }], bad := [((K.MODE_CHANGES - K.BANK_UE 0) * bankBytes / 8, 0)] } }
  [(K.PLLA_STATE, 2), (K.AS_ENABLE, 1), (K.BANK_MAP 0, K.MODE_CHANGES - K.BANK_UE 0), (K.DMA_STATE 0, 1), (K.DMA_CQ_VA 0, 4)].foldl
    (fun s p => s.put p.1 p.2) s

/-- The state that the return leads to, before the outputs are brought up to date. -/
def State.degReturned (s : State) : State := s.atTick.degReturnStep s.atTick.nextStamp

theorem exec_degradedReturn (s : State) (ht : s.ticking = true) (ha : s.ensB.degAck = true) (hm : s.mode = .degraded) (hd : s.safeHoldDue = false) :
    exec .degradedReturn s = .next s.degReturned.settle := by
  calc exec .degradedReturn s = .next (s.tickRow (s.ensB.degAck && s.mode == .degraded && !s.safeHoldDue) fun s => s.degReturnStep s.nextStamp).settle := rfl
    _ = .next s.degReturned.settle := by rw [s.tickRow_due _ _ (by simp [ha, hm, hd]) ht, State.degReturned, State.atTick]

/-- The return is due now and when the slot has ended; the change of mode is counted, and so is the word that the aborted engine's completion record meets. -/
theorem strayReturn_counted : (strayReturn.ticking = true ∧ strayReturn.ensB.degAck = true ∧ strayReturn.mode = .degraded ∧ strayReturn.safeHoldDue = false)
    ∧ (strayReturn.atTick.ensB.degAck = true ∧ strayReturn.atTick.mode = .degraded ∧ strayReturn.atTick.safeHoldDue = false ∧ strayReturn.atTick.fs.retire.source < 50
      ∧ strayReturn.atTick.fs.retire.target < 50 ∧ strayReturn.atTick.reg K.MODE_CHANGES = 0)
    ∧ strayReturn.degReturned.reg K.MODE_CHANGES = 2 := by decide +kernel

/-- Refutes O44: an acknowledged return is to count one change of mode, whatever DEG_FROM and the registers of the banks hold. Where DEG_FROM holds 0 the engines
abort at the entry to OFF (R243), and a completion record that faults counts in BANK_UE of the bank that BANK_MAP names: with `strayReturn` that is
MODE_CHANGES, which then counts two. -/
theorem not_safeHoldAndDegraded : ¬ Obligations.SafeHoldAndDegraded := by
  unfold Obligations.SafeHoldAndDegraded
  intro ⟨_, _, _, hreturn⟩
  obtain ⟨⟨hticking, hack, hmode, hsafe⟩, ⟨hack', hmode', hsafe', hsource, htarget, hzero⟩, htwo⟩ := strayReturn_counted
  obtain ⟨t, hexec, _, _, hcounts⟩ := hreturn strayReturn _ hticking hack hmode hsafe rfl hack' hmode' hsafe'
  obtain ⟨hone, _⟩ := hcounts hsource htarget
  have hsettled : strayReturn.degReturned.settle = t.settle := Host.Outcome.next.inj ((exec_degradedReturn _ hticking hack hmode hsafe).symm.trans hexec)
  have hcounted : t.reg K.MODE_CHANGES = 2 := calc
    t.reg K.MODE_CHANGES = t.settle.reg K.MODE_CHANGES := (t.settle_keepsModeRegs K.MODE_CHANGES (by decide)).symm
    _ = strayReturn.degReturned.settle.reg K.MODE_CHANGES := by rw [hsettled]
    _ = strayReturn.degReturned.reg K.MODE_CHANGES := strayReturn.degReturned.settle_keepsModeRegs K.MODE_CHANGES (by decide)
    _ = 2 := htwo
  rw [hzero] at hone
  exact absurd (hcounted.symm.trans hone) (by decide)

end Sys2Proof.Machine
end

section
/-! PROOFS. Chapter 18: what units out in BOOT and the script's choice leave. -/

namespace Sys2Proof.Machine

/-! ### Units out in BOOT (R422, R454) -/

/-- Registers that no unit's leaving its duty touches: those of chapters before 4 and after 10, but for calibration's two and TAKEOVERS. -/
def outsideUnits (k : Nat) : Prop := k < 0x280000 ∨ 0x600000 ≤ k ∧ k < 0x700000 ∨ 0x720000 ≤ k ∧ k ≠ K.TAKEOVERS

/-- Only the units, what they serve and their registers may have changed. -/
def State.outStay (s t : State) : Prop :=
  t = { s with objs := t.objs, spares := t.spares, link := t.link, fs := t.fs, cal := t.cal, fuses := t.fuses } ∧ t.noKeyHash = s.noKeyHash
  ∧ ∀ k, outsideUnits k → t.reg k = s.reg k

section
variable {s t u : State}

theorem State.outStay.refl (s : State) : s.outStay s := ⟨rfl, rfl, fun _ _ => rfl⟩

theorem State.outStay.trans (h : s.outStay t) (h' : t.outStay u) : s.outStay u :=
  ⟨h'.1.trans (congrArg (fun x : State => { x with objs := u.objs, spares := u.spares, link := u.link, fs := u.fs, cal := u.cal, fuses := u.fuses }) h.1),
    h'.2.1.trans h.2.1, fun k hk => (h'.2.2 k hk).trans (h.2.2 k hk)⟩

theorem State.outStay.put (h : s.outStay t) (k v : Nat) (hk : ¬ outsideUnits k) : s.outStay (t.put k v) :=
  h.trans ⟨rfl, rfl, fun _ hj => t.reg_put_ne _ _ _ fun he => hk (he ▸ hj)⟩

theorem State.outStay.of_parts (h : s.outStay t) (hp : u = { t with spares := u.spares, link := u.link, fs := u.fs, cal := u.cal, fuses := u.fuses })
    (hf : u.noKeyHash = t.noKeyHash) : s.outStay u := by
  have ho : u.objs = t.objs := (congrArg State.objs hp :)
  exact h.trans ⟨hp.trans (by rw [ho]), hf, fun k _ => t.reg_congr u ho k⟩

theorem State.outStay.onlyWhen {c : Prop} [Decidable c] (h : s.outStay t) (h' : t.outStay u) : s.outStay (if c then u else t) := by
  split
  · exact h.trans h'
  · exact h

theorem inUnits_of (k : Nat) (h : 0x280000 ≤ k ∧ k < 0x600000) : ¬ outsideUnits k := by
  unfold outsideUnits
  omega

theorem inUnits_takeovers : ¬ outsideUnits K.TAKEOVERS := by
  unfold outsideUnits
  simp [K.TAKEOVERS]

variable (s)

theorem State.listAdd_outStay (u : Nat) : s.outStay (s.listAdd u) := (State.outStay.refl s).of_parts rfl rfl

theorem State.calSwap_outStay (ch : Nat) : s.outStay (s.calSwap ch) := by
  have hcal : ∀ i, K.CAL_RESTORE = i ∨ K.CAL_UNSETTLED = i → ¬ outsideUnits i := by
    rintro i (rfl | rfl)
    · simp [outsideUnits, K.CAL_RESTORE]
    · simp [outsideUnits, K.CAL_UNSETTLED]
  unfold State.calSwap
  extract_lets mine k
  obtain ⟨u, hu⟩ : ∃ u : State, u = (s.setChanStats ch ((((k.noOffsets false).noOffsets true).noSkews false).noSkews true)).unsettle mine := ⟨_, rfl⟩
  have hstay : s.outStay u := by
    rw [hu]
    exact (State.outStay.refl s).of_parts rfl rfl
  rw [← hu]
  exact (hstay.put _ _ (hcal _ (.inr rfl))).put _ _ (hcal _ (.inl rfl))

theorem State.sliceSwap_outStay (ch old : Nat) (h : ch < 48) : s.outStay (s.sliceSwap ch old) := by
  unfold State.sliceSwap
  split
  · exact ((State.outStay.refl s).put _ _ (inUnits_of _ (by simp only [K.SLICE_MAP]; omega))).trans (State.calSwap_outStay _ ch)
  · exact .refl s

theorem State.freePipe_lt (j : Nat) (h : s.freePipe = some j) : j < 2 := List.mem_range.mp (List.mem_of_find?_eq_some h)

theorem State.pipeTake_outStay (i : Nat) (h : i < 26) : s.outStay (s.pipeTake i) := by
  unfold State.pipeTake
  split
  next j hj =>
    have hlt := s.freePipe_lt j hj
    exact ((State.outStay.refl s).put _ _ (inUnits_of _ (by simp only [K.SPARE_FOR]; omega))).put _ _ (inUnits_of _ (by simp only [K.SP_STATE]; omega))
  · exact .refl s

theorem unitKnown_range (u : Nat) (h : unitKnown u = true) : (unitClass u = 1 → unitInst u / 16 < 48 ∧ unitInst u % 16 < 9) ∧ (unitClass u = 2 → unitInst u < 48)
    ∧ (unitClass u = 3 → unitInst u < 13) ∧ (unitClass u = 4 → unitInst u < 26) ∧ (unitClass u = 5 → unitInst u < 50) ∧ (unitClass u = 6 → unitInst u < 9)
    ∧ (unitClass u = 7 → unitInst u < 2) := by
  simp only [unitKnown] at h
  refine ⟨fun hc => ?_, fun hc => ?_, fun hc => ?_, fun hc => ?_, fun hc => ?_, fun hc => ?_, fun hc => ?_⟩
  · simpa only [hc, decide_eq_true_eq] using h
  · simpa only [hc, decide_eq_true_eq] using h
  · simpa only [hc, decide_eq_true_eq] using h
  · simpa only [hc, decide_eq_true_eq] using h
  · simpa only [hc, decide_eq_true_eq] using h
  · simpa only [hc, decide_eq_true_eq] using h
  · simpa only [hc, decide_eq_true_eq] using h

theorem State.takeOver_outStay (u : Nat) (t : Int) (h : unitKnown u = true) : s.outStay (s.takeOver u false t) := by
  obtain ⟨h1, -, h3, h4, -⟩ := unitKnown_range u h
  have hcount : s.outStay (s.count K.TAKEOVERS) := (State.outStay.refl s).put _ _ inUnits_takeovers
  unfold State.takeOver
  extract_lets i code v
  clear_value code
  split
  next hc => exact hcount.trans (v.sliceSwap_outStay _ _ (h1 hc).1)
  next hc =>
    have hi := h3 hc
    exact ((hcount.put _ _ (inUnits_of _ (by decide))).put _ _ (inUnits_of _ (by simp only [K.EE_STATE, i]; omega))).put _ _ (inUnits_of _ (by decide))
  next hc => exact hcount.trans (v.pipeTake_outStay _ (h4 hc))
  · exact hcount

theorem State.putUnit_outStay (u c : Nat) (h : unitKnown u = true) : s.outStay (s.putUnit u c) := by
  obtain ⟨-, -, h3, h4, -⟩ := unitKnown_range u h
  unfold State.putUnit
  split
  next hc =>
    have := h3 hc
    exact (State.outStay.refl s).put _ _ (inUnits_of _ (by simp only [K.EE_STATE]; omega))
  next hc =>
    have := h4 hc
    exact (State.outStay.refl s).put _ _ (inUnits_of _ (by simp only [K.SP_STATE]; omega))
  · exact .refl s

theorem State.bankLost_outStay (b : Nat) (h : b < 48) : s.outStay (s.bankLost b) := by
  have hput : s.outStay ((s.put (K.BANK_MAP b) 255).put K.FS_FRAMES (s.reg K.FS_FRAMES - 64)) :=
    ((State.outStay.refl s).put _ _ (inUnits_of _ (by simp only [K.BANK_MAP]; omega))).put _ _ (inUnits_of _ (by decide))
  unfold State.bankLost
  extract_lets p u _ v
  have hv : s.outStay v := hput.of_parts rfl rfl
  clear_value v
  split
  · exact .refl s
  · exact hv.of_parts rfl rfl

theorem pipeUnit_known (p : Nat) (h : p < 24) : unitKnown (0x40000 + p) = true := by
  have hclass : unitClass (0x40000 + p) = 4 := by simp only [unitClass]; omega
  have hinst : unitInst (0x40000 + p) = p := by simp only [unitInst]; omega
  simp only [unitKnown, hclass, hinst, decide_eq_true_eq]
  omega

/-- The registers of an engine or pipeline that leaves its duty. -/
theorem State.pipeOut_outStay (u : Nat) (h : unitKnown u = true) (hc : unitClass u = 4) (free duty : Bool) (v : State) (hv : s.outStay v) :
    s.outStay (if 24 ≤ unitInst u then
        (if v.reg (K.SPARE_FOR (unitInst u - 24)) < 24 && (v.put (K.SPARE_FOR (unitInst u - 24)) 255).poolOpen u
          then (v.put (K.SPARE_FOR (unitInst u - 24)) 255).takeOver (0x40000 + v.reg (K.SPARE_FOR (unitInst u - 24))) false 0 else v.put (K.SPARE_FOR (unitInst u - 24)) 255)
      else if duty && free then v.takeOver u false 0 else v) := by
  have hi : unitInst u < 26 := (unitKnown_range u h).2.2.2.1 hc
  have hput : s.outStay (v.put (K.SPARE_FOR (unitInst u - 24)) 255) := hv.put _ _ (inUnits_of _ (by simp only [K.SPARE_FOR]; omega))
  split
  · split
    next hp =>
      simp only [Bool.and_eq_true, decide_eq_true_eq] at hp
      exact hput.trans (State.takeOver_outStay _ _ _ (pipeUnit_known _ hp.1))
    · exact hput
  · exact hv.onlyWhen (v.takeOver_outStay u 0 h)

theorem State.bankOut_outStay (i mark : Nat) (hi : i < 50) : s.outStay (match s.logicalOf i, s.spareBanks.filter (· != i) with
      | some b, q :: _ => ((((s.put (K.BANK_MAP b) q).put (K.BANK_STATE q) 0).put (K.BANK_STATE i) mark)).count K.TAKEOVERS
      | some b, [] => (s.bankLost b).put (K.BANK_STATE i) mark
      | none, _ => s.put (K.BANK_STATE i) mark) := by
  have hstate : ∀ j, j < 50 → ¬ outsideUnits (K.BANK_STATE j) := fun j hj => inUnits_of _ (by simp only [K.BANK_STATE]; omega)
  have hlogical : ∀ b, s.logicalOf i = some b → b < 48 := fun b hb => List.mem_range.mp (List.mem_of_find?_eq_some hb)
  split
  next b q l hb hq =>
    have hmem : q ∈ s.spareBanks := List.mem_of_mem_filter (hq ▸ List.mem_cons_self .. : q ∈ s.spareBanks.filter (· != i))
    have hq50 : q < 50 := List.mem_range.mp (List.mem_of_mem_filter hmem)
    have hb48 := hlogical b hb
    exact ((((State.outStay.refl s).put _ _ (inUnits_of _ (by simp only [K.BANK_MAP]; omega))).put _ _ (hstate q hq50)).put _ _ (hstate i hi)).put _ _ inUnits_takeovers
  next b hb _ => exact (s.bankLost_outStay b (hlogical b hb)).put _ _ (hstate i hi)
  · exact (State.outStay.refl s).put _ _ (hstate i hi)

theorem State.bootOut_outStay (u : Nat) (failed : Bool) : s.outStay (s.bootOut u failed) := by
  unfold State.bootOut
  extract_lets i duty free v mark put _ _ _ lane
  have hv : s.outStay v := s.listAdd_outStay u
  clear_value v
  split
  · exact .refl s
  next hknown =>
    have hk : unitKnown u = true := by
      by_contra h
      exact hknown (by simp [h])
    obtain ⟨h1, h2, h3, h4, h5, h6, h7⟩ := unitKnown_range u hk
    split
    next hc =>
      have hi := (h1 hc).1
      split_ifs
      · exact hv
      · exact hv.trans (v.takeOver_outStay u 0 hk)
      · exact hv.put _ _ (inUnits_of _ (by simp only [K.CH_STATE, i]; omega))
    next hc =>
      have hi := h2 hc
      exact hv.put _ _ (inUnits_of _ (by simp only [K.CH_STATE, i]; omega))
    next hc =>
      have hput := hv.trans (v.putUnit_outStay u 4 hk)
      split_ifs
      · exact hput.put _ _ (inUnits_of _ (by decide))
      · exact hput.trans (State.takeOver_outStay _ u 0 hk)
      · exact hput
    next hc => exact s.pipeOut_outStay u hk hc free duty _ (hv.trans (v.putUnit_outStay u 4 hk))
    next hc => exact hv.trans (v.bankOut_outStay i mark (h5 hc))
    next hc =>
      have hlane : s.outStay lane := hv.of_parts rfl rfl
      clear_value lane
      split
      next b hb =>
        have hlt : b < 8 := List.mem_range.mp (List.mem_of_find?_eq_some hb)
        exact hlane.onlyWhen (((State.outStay.refl lane).put _ _ (inUnits_of _ (by simp only [K.LANE_MAP]; omega))).put _ _ inUnits_takeovers)
      · exact hlane
    next hc => exact hv.onlyWhen (((State.outStay.refl v).put _ _ (inUnits_of _ (by decide))).put _ _ inUnits_takeovers)
    · exact hv

theorem State.fuseRowOut_outStay : s.outStay s.fuseRowOut := (State.outStay.refl s).of_parts rfl rfl

theorem State.forEach_outStay (l : List Nat) (f : State → Nat → State) (hf : ∀ x a, State.outStay x (f x a)) : s.outStay (s.forEach l f) :=
  foldl_rel State.outStay .refl .trans f l (fun x a _ => hf x a) s

/-- The fuse entries' units are out, and their count of faulty entries is BOOT_BIST_FAILS. -/
theorem State.bootRetire_shows : ∃ u n, s.outStay u ∧ s.bootRetire = u.put K.BOOT_BIST_FAILS n :=
  ⟨_, _, s.forEach_outStay _ _ fun x a => x.bootOut_outStay a false, rfl⟩

theorem State.startUpBist_shows (fails : List Nat) : ∃ u n m, s.outStay u ∧ m ≠ 0 ∧ s.startUpBist fails = (u.put K.BOOT_BIST_FAILS n).put K.BOOT_BIST m := by
  refine ⟨_, _, _, s.forEach_outStay _ (fun s u => if unitClass u = 10 then s.fuseRowOut else s.bootOut u true) fun x a => ?_, ?_, rfl⟩
  · split
    · exact x.fuseRowOut_outStay
    · exact x.bootOut_outStay a true
  · split
    · decide
    · decide

end

end Sys2Proof.Machine
end

section
/-! PROOFS. Chapter 18: the steps of BOOT from the first lock on. -/

namespace Sys2Proof.Machine

/-! ### The staging frames (R456) -/

theorem sumNat_cons (a : Nat) (l : List Nat) : sumNat (a :: l) = a + sumNat l := by
  have h : ∀ (l : List Nat) (n : Nat), l.foldl (· + ·) n = n + l.foldl (· + ·) 0 := fun l => by
    induction l with
    | nil => exact fun n => rfl
    | cons x l ih =>
      intro n
      rw [List.foldl_cons, List.foldl_cons, ih (n + x), ih (0 + x)]
      omega
  unfold sumNat
  rw [List.foldl_cons, h]
  omega

theorem length_flashRead (f : List (Nat × List Byte)) (a n : Nat) : (flashRead f a n).length = n := by
  rw [flashRead, List.length_map, List.length_range]

theorem length_le_of_mem_zipIdx {α : Type} (l : List α) (x : α × Nat) (h : x ∈ l.zipIdx) : x.2 < l.length := by
  obtain ⟨i, hi, rfl⟩ := List.getElem_of_mem h
  rw [List.getElem_zipIdx]
  simpa using hi

section
variable (s : State)

/-- Content put into the staging frames changes no byte outside them. -/
theorem State.stagePut_mem (o a : Nat) (b : List Byte) (h : ∀ p, p < o + b.length → s.stageAddr p ≠ some a) : memGet (s.stagePut o b).fs.mem a = memGet s.fs.mem a := by
  have hfold : ∀ (l : List (Byte × Nat)) (m : List Host.Cell), (∀ x ∈ l, x.2 < b.length) →
      memGet (l.foldl (fun m x => (s.stageAddr (o + x.2)).elim m fun a => memPut m a x.1) m) a = memGet m a := fun l => by
    induction l with
    | nil => exact fun _ _ => rfl
    | cons x l ih =>
      intro m hl
      rw [List.foldl_cons, ih _ fun y hy => hl y (List.mem_cons_of_mem _ hy)]
      cases hp : s.stageAddr (o + x.2) with
      | none => rfl
      | some q =>
        have hne : a ≠ q := fun he => h (o + x.2) (by have := hl x (List.mem_cons_self ..); omega) (he ▸ hp)
        exact (memGet_memPut m q a x.1).trans (if_neg hne)
  exact hfold b.zipIdx s.fs.mem fun x hx => length_le_of_mem_zipIdx b x hx

/-- Staging the contents of DOMAIN records changes the staging frames and the reads of the flash alone. -/
theorem State.stageAll_shows (l : List (List Byte)) (o : Nat) : (∃ m r, (s.stageAll o l).2 = { s with fs := { s.fs with mem := m }, boot := { s.boot with reads := r } })
    ∧ ∀ a, (∀ p, p < o + sumNat (l.map fun r => fieldAt r 12 4) → s.stageAddr p ≠ some a) → memGet (s.stageAll o l).2.fs.mem a = memGet s.fs.mem a := by
  induction l generalizing s o with
  | nil => exact ⟨⟨s.fs.mem, s.boot.reads, rfl⟩, fun _ _ => rfl⟩
  | cons r l ih =>
    obtain ⟨u, hu⟩ : ∃ u : State, u = (s.stagePut o (flashRead s.boot.flash (fieldAt r 8 4) (fieldAt r 12 4))).flashNote (fieldAt r 8 4) (fieldAt r 12 4) := ⟨_, rfl⟩
    have hall : (s.stageAll o (r :: l)).2 = (u.stageAll (o + fieldAt r 12 4) l).2 := by
      rw [hu]
      rfl
    obtain ⟨⟨m, reads, hparts⟩, hmem⟩ := ih u (o + fieldAt r 12 4)
    have hum : u.fs.mem = (s.stagePut o (flashRead s.boot.flash (fieldAt r 8 4) (fieldAt r 12 4))).fs.mem := by
      rw [hu]
      rfl
    have haddr : ∀ p, u.stageAddr p = s.stageAddr p := fun p => by
      rw [hu]
      rfl
    refine ⟨⟨m, reads, ?_⟩, fun a ha => ?_⟩
    · rw [hall, hparts, hu]
      rfl
    · rw [List.map_cons, sumNat_cons] at ha
      rw [hall, hmem a fun p hp => by rw [haddr]; exact ha p (by omega), hum]
      exact s.stagePut_mem o a _ fun p hp => ha p (by rw [length_flashRead] at hp; omega)

/-- The contents of an accepted text fill at most 2 MiB of the staging frames. -/
theorem State.scriptText_staged (b : Bool) (l : List (List Byte)) (h : s.scriptText b = some l) :
    sumNat ((l.filter fun r => fieldAt r 0 1 == 2).map fun r => fieldAt r 12 4) ≤ 2097152 := by
  unfold State.scriptText at h
  extract_lets hd base len all sig pub at h
  split at h
  · exact absurd h (by simp)
  next hfields =>
    split at h
    · exact absurd h (by simp)
    next c hc =>
      dsimp only at h
      split at h
      next hok =>
        obtain rfl : c = l := Option.some.inj h
        simp only [Bool.and_eq_true, beq_iff_eq] at hok
        simp only [not_or, not_lt] at hfields
        rw [hok.2]
        exact hfields.2.2.2.2.2.1
      · exact absurd h (by simp)

/-! ### The choice of a script (R456) -/

/-- What trying a slot may change: BOOT_STATUS, whose bits only rise, the reads of the flash, and the staging frames, which without a key hash stay too. -/
def State.pickStay (s t : State) : Prop :=
  (t = { s with objs := t.objs, boot := t.boot, fs := { s.fs with mem := t.fs.mem } } ∧ t.boot.answers = s.boot.answers ∧ t.boot.script = s.boot.script
    ∧ s.keeps t [K.BOOT_STATUS])
  ∧ (∀ n, s.regBit K.BOOT_STATUS n = true → t.regBit K.BOOT_STATUS n = true)
  ∧ (∀ a, (∀ o, o < 2097152 → s.stageAddr o ≠ some a) → memGet t.fs.mem a = memGet s.fs.mem a) ∧ (s.noKeyHash = true → t.fs.mem = s.fs.mem)

end

section
variable {s t u : State}

theorem State.stageAddr_congr (h : s.keeps t [K.BOOT_STATUS]) (o : Nat) (ho : o < 2097152) : t.stageAddr o = s.stageAddr o := by
  have hkey : K.BANK_MAP ((2048 + o / 65536) / 64) ∉ [K.BOOT_STATUS] := by
    simp only [List.mem_singleton, K.BANK_MAP, K.BOOT_STATUS]
    omega
  simp only [State.stageAddr, h _ hkey]

theorem State.noKeyHash_congr (h : t.fuses = s.fuses) : t.noKeyHash = s.noKeyHash := by
  rw [State.noKeyHash, h]
  rfl

theorem State.pickStay.refl (s : State) : s.pickStay s := ⟨⟨rfl, rfl, rfl, .refl s _⟩, fun _ h => h, fun _ _ => rfl, fun _ => rfl⟩

theorem State.pickStay.noKeyHash (h : s.pickStay t) : t.noKeyHash = s.noKeyHash := State.noKeyHash_congr (congrArg State.fuses h.1.1 :)

theorem State.pickStay.trans (h : s.pickStay t) (h' : t.pickStay u) : s.pickStay u := by
  obtain ⟨⟨hp, ha, hs, hk⟩, hbits, hmem, hkey⟩ := h
  obtain ⟨⟨hp', ha', hs', hk'⟩, hbits', hmem', hkey'⟩ := h'
  have hfuses : t.fuses = s.fuses := (congrArg State.fuses hp :)
  refine ⟨⟨hp'.trans ?_, ha'.trans ha, hs'.trans hs, hk.trans hk'⟩, fun n hn => hbits' n (hbits n hn), fun a hn => ?_, fun hn => ?_⟩
  · exact congrArg (fun x : State => { x with objs := u.objs, boot := u.boot, fs := { x.fs with mem := u.fs.mem } }) hp
  · rw [hmem' a fun o ho => by rw [State.stageAddr_congr hk o ho]; exact hn o ho, hmem a hn]
  · rw [hkey' ((State.noKeyHash_congr hfuses).trans hn), hkey hn]

/-- A bit of BOOT_STATUS that rises. -/
theorem State.pickStay.bit (h : s.pickStay t) (n : Nat) : s.pickStay (t.putBit K.BOOT_STATUS n true) := by
  refine h.trans ⟨⟨rfl, rfl, rfl, (State.keeps.refl t _).put _ _ (by simp)⟩, fun m hm => ?_, fun _ _ => rfl, fun _ => rfl⟩
  rw [State.regBit, State.putBit, State.reg_put_self, bitAt_withBit]
  split
  · rfl
  · exact hm

theorem State.pickStay.note (h : s.pickStay t) (a n : Nat) : s.pickStay (t.flashNote a n) :=
  h.trans ⟨⟨rfl, rfl, rfl, .of_objs (.refl t _) rfl⟩, fun _ hm => hm, fun _ _ => rfl, fun _ => rfl⟩

variable (s)

theorem State.scriptAccept_pickStay (b : Bool) (hk : s.noKeyHash = false) : s.pickStay (s.scriptAccept b).2 := by
  unfold State.scriptAccept
  extract_lets len v
  have hv : s.pickStay v := by
    by_cases hlen : 72 ≤ len ∧ len ≤ 65536
    · rw [show v = s.flashNote (scriptBase b) (len + 128) from if_pos hlen]
      exact (State.pickStay.refl s).note _ _
    · rw [show v = s from if_neg hlen]
      exact .refl s
  have hvk : v.noKeyHash = false := hv.noKeyHash.trans hk
  clear_value v
  split
  · exact hv
  next l hl =>
    obtain ⟨⟨m, r, hparts⟩, hmem⟩ := v.stageAll_shows (l.filter fun r => fieldAt r 0 1 == 2) 0
    have hsum := v.scriptText_staged b l hl
    refine hv.trans ⟨?_, fun n hn => ?_, fun a ha => hmem a fun p hp => ha p (by omega), fun h => absurd (h.symm.trans hvk) (by decide)⟩
    · dsimp only
      rw [hparts]
      exact ⟨rfl, rfl, rfl, .of_objs (.refl v _) rfl⟩
    · dsimp only
      rw [hparts]
      exact hn

/-- A slot's records, which need a key hash. -/
def State.slotAccept (b : Bool) : Option (List (List Byte)) × State := if s.noKeyHash then (none, s) else s.scriptAccept b

/-- The state in which the records of a slot are to be applied. -/
def State.slotTaken (b : Bool) (l : List (List Byte)) : State :=
  ({ s with boot := { s.boot with script := l, recNo := 0, slotB := b, step := 9, staged := 0 } }).put K.SCRIPT_VERSION (fieldAt (s.scriptHeader b) 8 4)

/-- The state in which there is no script to apply. -/
def State.noScript : State := { s with boot := { s.boot with step := 10 } }

/-- A slot that holds MAGIC: taken when accepted, else what follows with its bit of BOOT_STATUS. -/
def State.slotTried (b : Bool) (n : Nat) (next : State → State) : State :=
  match (s.slotAccept b).1 with
  | some l => (s.slotAccept b).2.slotTaken b l
  | none => next ((s.slotAccept b).2.putBit K.BOOT_STATUS n true)

/-- Slot B is tried after slot A, whose header `a` held MAGIC or not. -/
def State.slotSecond (a : Bool) : State :=
  if (if a then s.flashNote (scriptBase true) 64 else s).scriptMagic true then (if a then s.flashNote (scriptBase true) 64 else s).slotTried true 3 State.noScript
  else (if a then s.flashNote (scriptBase true) 64 else s).noScript

/-- What the headers alone show in BOOT_STATUS. -/
def State.headersShown : State :=
  (if s.noKeyHash then s.putBit K.BOOT_STATUS 4 true else s).onlyIf
    (!s.scriptMagic false && !(if s.noKeyHash then s.putBit K.BOOT_STATUS 4 true else s).scriptMagic true) fun s => s.putBit K.BOOT_STATUS 5 true

theorem State.scriptPick_eq : s.scriptPick = if s.scriptMagic false then s.headersShown.slotTried false 2 fun x => x.slotSecond true else s.headersShown.slotSecond false := by
  unfold State.scriptPick
  extract_lets a accept take s1 s2 none_ second
  have hs2 : s2 = s.headersShown := rfl
  have haccept : ∀ x b, accept x b = x.slotAccept b := fun _ _ => rfl
  have htake : ∀ x b l, take x b l = x.slotTaken b l := fun _ _ _ => rfl
  have hnone : ∀ x, none_ x = x.noScript := fun _ => rfl
  have htried : ∀ (x : State) (b : Bool) (n : Nat) (f : State → State), (match (accept x b).1 with
      | some l => take (accept x b).2 b l
      | none => f ((accept x b).2.putBit K.BOOT_STATUS n true)) = x.slotTried b n f := fun x b n f => by
    rw [haccept, State.slotTried]
    cases (x.slotAccept b).1 with
    | none => rfl
    | some l => exact htake _ b l
  clear_value accept take none_ s2
  have hsecond : ∀ x, second x = x.slotSecond a := fun x => by
    unfold State.slotSecond
    rw [← htried]
    simp only [second, hnone] <;> rfl
  have ha : a = s.scriptMagic false := rfl
  have hfirst : (if a then (match (accept s2 false).1 with
      | some l => take (accept s2 false).2 false l
      | none => second ((accept s2 false).2.putBit K.BOOT_STATUS 2 true)) else second s2) =
      if a then s2.slotTried false 2 fun x => x.slotSecond a else s2.slotSecond a := by
    rw [← htried]
    simp only [hsecond]
  clear_value second a
  rw [← ha, ← hs2]
  refine Eq.trans ?_ (hfirst.trans ?_)
  · rfl
  · cases a
    · simp only [Bool.false_eq_true, if_false]
    · simp only [if_true]

/-- What the choice ends with: no script, or the records of an accepted one. -/
def State.picked (s t : State) : Prop := ∃ w, s.pickStay w ∧ (t = w.noScript ∨ s.noKeyHash = false ∧ ∃ l b, t = w.slotTaken b l)

/-- A slot is accepted only with a key hash. -/
theorem State.slotAccept_shows (b : Bool) : s.pickStay (s.slotAccept b).2 ∧ (s.noKeyHash = true → (s.slotAccept b).1 = none) := by
  unfold State.slotAccept
  by_cases h : s.noKeyHash = true
  · rw [if_pos h]
    exact ⟨.refl s, fun _ => rfl⟩
  · rw [if_neg h]
    exact ⟨s.scriptAccept_pickStay b (by simpa using h), fun hk => absurd hk h⟩

variable {s}

theorem State.picked.of_stay (h : s.pickStay t) (hp : t.picked u) : s.picked u := by
  obtain ⟨w, hw, hc⟩ := hp
  exact ⟨w, h.trans hw, hc.imp_right fun hl => ⟨h.noKeyHash.symm.trans hl.1, hl.2⟩⟩

variable (s)

theorem State.noScript_picked : s.picked s.noScript := ⟨s, .refl s, .inl rfl⟩

theorem State.slotTried_picked (b : Bool) (n : Nat) (next : State → State) (h : ∀ x : State, x.picked (next x)) : s.picked (s.slotTried b n next) := by
  obtain ⟨hstay, hnone⟩ := s.slotAccept_shows b
  unfold State.slotTried
  split
  next l hl =>
    refine ⟨_, hstay, .inr ⟨?_, l, b, rfl⟩⟩
    by_contra hk
    exact absurd (hl.symm.trans (hnone (by simpa using hk))) (by simp)
  · exact .of_stay (hstay.bit n) (h _)

theorem State.slotSecond_picked (a : Bool) : s.picked (s.slotSecond a) := by
  have hstay : s.pickStay (if a then s.flashNote (scriptBase true) 64 else s) := by
    split
    · exact (State.pickStay.refl s).note _ _
    · exact .refl s
  unfold State.slotSecond
  generalize (if a then s.flashNote (scriptBase true) 64 else s) = y at *
  refine .of_stay hstay ?_
  split
  · exact y.slotTried_picked true 3 _ State.noScript_picked
  · exact y.noScript_picked

theorem State.headersShown_shows : s.pickStay s.headersShown ∧ (s.noKeyHash = true → s.headersShown.regBit K.BOOT_STATUS 4 = true) := by
  have hone : s.pickStay (if s.noKeyHash then s.putBit K.BOOT_STATUS 4 true else s)
      ∧ (s.noKeyHash = true → (if s.noKeyHash then s.putBit K.BOOT_STATUS 4 true else s).regBit K.BOOT_STATUS 4 = true) := by
    split
    · exact ⟨(State.pickStay.refl s).bit 4, fun _ => by rw [State.regBit, State.putBit, State.reg_put_self, bitAt_withBit, if_pos rfl]⟩
    next h => exact ⟨.refl s, fun hk => absurd hk h⟩
  unfold State.headersShown State.onlyIf
  generalize (if s.noKeyHash then s.putBit K.BOOT_STATUS 4 true else s) = x at *
  split
  · exact ⟨hone.1.bit 5, fun hk => ((State.pickStay.refl x).bit 5).2.1 4 (hone.2 hk)⟩
  · exact hone

theorem State.scriptPick_shows : s.picked s.scriptPick ∧ (s.noKeyHash = true → s.scriptPick.regBit K.BOOT_STATUS 4 = true) := by
  obtain ⟨hshown, hfour⟩ := s.headersShown_shows
  have hpicked : s.headersShown.picked s.scriptPick := by
    rw [s.scriptPick_eq]
    split
    · exact State.slotTried_picked _ false 2 _ fun x => x.slotSecond_picked true
    · exact State.slotSecond_picked _ false
  refine ⟨.of_stay hshown hpicked, fun hk => ?_⟩
  obtain ⟨w, hw, hc⟩ := hpicked
  have hbit : w.regBit K.BOOT_STATUS 4 = true := hw.2.1 4 (hfour hk)
  rcases hc with hc | ⟨hk', -⟩
  · rw [hc]
    exact hbit
  · exact absurd ((hshown.noKeyHash.trans hk).symm.trans hk') (by decide)

end

end Sys2Proof.Machine
end

section
/-! PROOFS. Chapter 18: BOOT from its first lock to its exit. -/

namespace Sys2Proof.Machine

section
variable (s : State)

/-! ### The first lock of PLL A (R452 to R454) -/

theorem State.wantsBist_congr (t : State) (h : t.boot.flash = s.boot.flash) : t.wantsBist = s.wantsBist := by
  simp only [State.wantsBist, State.scriptMagic, State.scriptHeader, h]
  exact if_congr Iff.rfl rfl rfl

/-- The state in which the epoch is new and the headers are read. -/
theorem State.headersRead_shows : ∃ r, s.headersRead = { s with boot := { s.boot with reads := r } } := by
  unfold State.headersRead
  extract_lets u
  split
  · exact ⟨_, rfl⟩
  · exact ⟨_, rfl⟩

/-- Steps 4 and 5: the epoch is new, the headers are read. -/
def State.bootBegun : State := s.newEpoch.headersRead

theorem State.bootBegun_shows : s.bootBegun.reg K.AUTH_COUNTER = 0 ∧ s.keeps s.bootBegun [K.AUTH_EPOCH, K.AUTH_COUNTER] ∧ s.bootBegun.fuses = s.fuses
    ∧ s.bootBegun.boot.flash = s.boot.flash ∧ s.bootBegun.boot.script = s.boot.script := by
  obtain ⟨r, hr⟩ := s.newEpoch.headersRead_shows
  have hreg : ∀ k, s.bootBegun.reg k = s.newEpoch.reg k := fun k => by
    rw [State.bootBegun, hr]
    rfl
  refine ⟨(hreg _).trans (State.reg_put_self _ _ _), ?_, ?_, ?_, ?_⟩
  · intro k hk
    rw [hreg]
    exact (((State.keeps.refl s _).of_objs (u := s.draw.2) rfl).put K.AUTH_EPOCH (Config.entropy s.draw.1 % 2 ^ 32) (by simp)).put K.AUTH_COUNTER 0 (by simp) k hk
  · rw [State.bootBegun, hr]
    rfl
  · rw [State.bootBegun, hr]
    rfl
  · rw [State.bootBegun, hr]
    rfl

/-- Step 6: the start-up BIST, where a header asks for it. -/
def State.bootTested : State := if s.wantsBist then (s.startUpBist s.boot.failed).putBit K.BOOT_STATUS 9 true else s

/-- Registers of BOOT's own steps. -/
def bootKeys : List Nat := [K.AUTH_EPOCH, K.AUTH_COUNTER, K.BOOT_STATUS, K.SCRIPT_VERSION, K.BOOT_BIST, K.BOOT_BIST_FAILS]

/-- What the start-up BIST writes at its end. -/
theorem State.bistMarked_shows (n m : Nat) (hm : m ≠ 0) (t : State) (ht : t = ((s.put K.BOOT_BIST_FAILS n).put K.BOOT_BIST m).putBit K.BOOT_STATUS 9 true) :
    t.boot = s.boot ∧ t.noKeyHash = s.noKeyHash ∧ s.keeps t [K.BOOT_STATUS, K.BOOT_BIST, K.BOOT_BIST_FAILS] ∧ t.regBit K.BOOT_STATUS 9 = true ∧ t.reg K.BOOT_BIST ≠ 0 := by
  obtain ⟨v, hv⟩ : ∃ v : State, v = (s.put K.BOOT_BIST_FAILS n).put K.BOOT_BIST m := ⟨_, rfl⟩
  have hone : v.reg K.BOOT_BIST = m := by rw [hv, State.reg_put_self]
  have hkeeps : s.keeps v [K.BOOT_STATUS, K.BOOT_BIST, K.BOOT_BIST_FAILS] := by
    rw [hv]
    exact ((State.keeps.refl s _).put K.BOOT_BIST_FAILS n (by simp)).put K.BOOT_BIST m (by simp)
  have hparts : v.boot = s.boot ∧ v.noKeyHash = s.noKeyHash := by
    rw [hv]
    exact ⟨rfl, rfl⟩
  rw [← hv] at ht
  rw [ht]
  refine ⟨hparts.1, hparts.2, hkeeps.put _ _ (by simp), ?_, ?_⟩
  · rw [State.regBit, State.putBit, State.reg_put_self, bitAt_withBit, if_pos rfl]
  · rw [State.putBit, State.reg_put_ne _ _ _ _ (by decide), hone]
    exact hm

theorem not_bistKey {k : Nat} (h : k ∉ bootKeys) : k ∉ [K.BOOT_STATUS, K.BOOT_BIST, K.BOOT_BIST_FAILS] := fun hin =>
  h (List.Subset.trans (by decide) (List.Subset.refl bootKeys) hin)

theorem State.bootTested_shows (t : State) (ht : t = s.bootTested) : t.boot = s.boot ∧ t.noKeyHash = s.noKeyHash
    ∧ (∀ k, outsideUnits k → k ∉ bootKeys → t.reg k = s.reg k) ∧ t.reg K.AUTH_COUNTER = s.reg K.AUTH_COUNTER
    ∧ (s.wantsBist = true → t.regBit K.BOOT_STATUS 9 = true ∧ t.reg K.BOOT_BIST ≠ 0) := by
  unfold State.bootTested at ht
  by_cases h : s.wantsBist = true
  · obtain ⟨u, n, m, ⟨hu, hhash, hregs⟩, hm, hbist⟩ := s.startUpBist_shows s.boot.failed
    rw [if_pos h, hbist] at ht
    obtain ⟨hboot, hh, hkeeps, hnine, hone⟩ := u.bistMarked_shows n m hm t ht
    have hub : u.boot = s.boot := (congrArg State.boot hu :)
    refine ⟨hboot.trans hub, hh.trans hhash, fun k hk hn => ?_, ?_, fun _ => ⟨hnine, hone⟩⟩
    · rw [hkeeps k (not_bistKey hn), hregs k hk]
    · rw [hkeeps _ (by decide), hregs _ (.inl (by decide))]
  · rw [ht, if_neg h]
    exact ⟨rfl, rfl, fun _ _ _ => rfl, rfl, fun hw => absurd hw h⟩

theorem State.slotTaken_parts (b : Bool) (l : List (List Byte)) : (s.slotTaken b l).fs = s.fs ∧ (s.slotTaken b l).boot.answers = s.boot.answers ∧ (s.slotTaken b l).boot.step = 9 := by
  unfold State.slotTaken
  generalize s.scriptHeader b = v
  exact ⟨rfl, rfl, rfl⟩

/-- What picking a script leaves. -/
theorem State.picked.shows {s p : State} (h : s.picked p) : p.boot.answers = s.boot.answers ∧ p.fs.bad = s.fs.bad ∧ s.keeps p [K.BOOT_STATUS, K.SCRIPT_VERSION]
    ∧ (p.boot.step = 9 ∨ p.boot.step = 10 ∧ p.boot.script = s.boot.script) ∧ (s.noKeyHash = true → p.boot.step = 10)
    ∧ (∀ n, s.regBit K.BOOT_STATUS n = true → p.regBit K.BOOT_STATUS n = true)
    ∧ (∀ a, (∀ o, o < 2097152 → s.stageAddr o ≠ some a) → memGet p.fs.mem a = memGet s.fs.mem a) ∧ (s.noKeyHash = true → p.fs.mem = s.fs.mem) := by
  obtain ⟨w, ⟨⟨hparts, hans, hscript, hkeeps⟩, hbits, hstaged, hempty⟩, hc⟩ := h
  have hbad : w.fs.bad = s.fs.bad := (congrArg (fun x : State => x.fs.bad) hparts :)
  have hmore : s.keeps w [K.BOOT_STATUS, K.SCRIPT_VERSION] := hkeeps.mono (by simp)
  rcases hc with hc | ⟨hk, l, b, hc⟩
  · rw [hc]
    exact ⟨hans, hbad, hmore.of_objs rfl, .inr ⟨rfl, hscript⟩, fun _ => rfl, hbits, hstaged, hempty⟩
  · have hreg : ∀ k, k ≠ K.SCRIPT_VERSION → p.reg k = w.reg k := fun k hk => by
      rw [hc]
      exact w.reg_put_ne _ _ _ hk
    have hfs : p.fs = w.fs ∧ p.boot.answers = w.boot.answers ∧ p.boot.step = 9 := hc ▸ w.slotTaken_parts b l
    refine ⟨hfs.2.1.trans hans, (congrArg FieldStore.bad hfs.1).trans hbad, fun k hk' => ?_, .inl hfs.2.2, fun hk' => absurd (hk'.symm.trans hk) (by decide), fun n hn => ?_,
      fun a ha => ?_, fun hk' => ?_⟩
    · rw [hreg k fun he => hk' (by simp [he]), hmore k hk']
    · rw [State.regBit, hreg _ (by decide)]
      exact hbits n hn
    · rw [hfs.1]
      exact hstaged a ha
    · rw [hfs.1]
      exact hempty hk'

theorem State.bootLocked_eq (hm : s.mode = .boot) (hs : s.boot.step = 3) : s.bootLocked = s.bootBegun.bootTested.storeClear.scriptPick :=
  if_neg (by simp [hm, hs])

/-- What the steps at the first lock leave. -/
theorem State.bootLocked_shows (hm : s.mode = .boot) (hs : s.boot.step = 3) :
    s.bootLocked.boot.answers = true ∧ s.bootLocked.fs.bad = [] ∧ s.bootLocked.reg K.AUTH_COUNTER = 0
    ∧ (∀ a, (∀ o, s.bootLocked.stageAddr o ≠ some a) → memGet s.bootLocked.fs.mem a = 0) ∧ (s.noKeyHash = true → s.bootLocked.fs.mem = [])
    ∧ (s.bootLocked.boot.step = 9 ∨ s.bootLocked.boot.step = 10 ∧ s.bootLocked.boot.script = s.boot.script)
    ∧ (s.noKeyHash = true → s.bootLocked.boot.step = 10 ∧ s.bootLocked.regBit K.BOOT_STATUS 4 = true)
    ∧ (s.wantsBist = true → s.bootLocked.regBit K.BOOT_STATUS 9 = true ∧ s.bootLocked.reg K.BOOT_BIST ≠ 0)
    ∧ ∀ k, outsideUnits k → k ∉ bootKeys → s.bootLocked.reg k = s.reg k := by
  obtain ⟨hcounter, hbegun, hfuses, hflash, hscript⟩ := s.bootBegun_shows
  have hwants : s.bootBegun.wantsBist = s.wantsBist := s.wantsBist_congr _ hflash
  have hhash₀ : s.bootBegun.noKeyHash = s.noKeyHash := State.noKeyHash_congr hfuses
  have heq := s.bootLocked_eq hm hs
  obtain ⟨b, hb⟩ : ∃ b : State, b = s.bootBegun := ⟨_, rfl⟩
  rw [← hb] at hcounter hbegun hscript hwants hhash₀ heq
  obtain ⟨d, hd⟩ : ∃ d : State, d = b.bootTested := ⟨_, rfl⟩
  obtain ⟨hboot, hhash, hregs, hcounter', hbist⟩ := b.bootTested_shows d hd
  rw [← hd] at heq
  obtain ⟨c, hc⟩ : ∃ c : State, c = d.storeClear := ⟨_, rfl⟩
  rw [← hc] at heq
  rw [heq]
  have hcreg : ∀ k, c.reg k = d.reg k := fun k => by rw [hc]; rfl
  have hcparts : c.fs.mem = [] ∧ c.fs.bad = [] ∧ c.boot.answers = true ∧ c.boot.script = s.boot.script := by
    rw [hc]
    exact ⟨rfl, rfl, rfl, (congrArg BootState.script hboot).trans hscript⟩
  have hchash : c.noKeyHash = s.noKeyHash := by
    have h : c.noKeyHash = d.noKeyHash := by rw [hc]; rfl
    rw [h, hhash, hhash₀]
  obtain ⟨hmem, hbad, hans, hcs⟩ := hcparts
  obtain ⟨hpick, hfour⟩ := c.scriptPick_shows
  obtain ⟨p, hp⟩ : ∃ p : State, p = c.scriptPick := ⟨_, rfl⟩
  rw [← hp] at hpick hfour ⊢
  obtain ⟨hpans, hpbad, hkeeps, hstep, hten, hbits, hstaged, hempty⟩ := hpick.shows
  refine ⟨hpans.trans hans, hpbad.trans hbad, ?_, fun a ha => ?_, fun hk => ?_, ?_, fun hk => ⟨hten (hchash.trans hk), hfour (hchash.trans hk)⟩, fun hwb => ?_, fun k hk hn => ?_⟩
  · rw [hkeeps _ (by decide), hcreg, hcounter', hcounter]
  · have hout : ∀ o, o < 2097152 → c.stageAddr o ≠ some a := fun o ho => by
      have hkey : K.BANK_MAP ((2048 + o / 65536) / 64) ∉ [K.BOOT_STATUS, K.SCRIPT_VERSION] := by
        simp only [List.mem_cons, List.not_mem_nil, or_false, K.BANK_MAP, K.BOOT_STATUS, K.SCRIPT_VERSION]
        omega
      have hsame : p.stageAddr o = c.stageAddr o := by simp only [State.stageAddr, hkeeps _ hkey]
      rw [← hsame]
      exact ha o
    rw [hstaged a hout, hmem]
    rfl
  · rw [hempty (hchash.trans hk), hmem]
  · rw [hcs] at hstep
    exact hstep
  · obtain ⟨hnine, hone⟩ := hbist (hwants.trans hwb)
    refine ⟨hbits 9 ?_, ?_⟩
    · rw [State.regBit, hcreg]
      exact hnine
    · rw [hkeeps _ (by decide), hcreg]
      exact hone
  · rw [hkeeps k fun hin => hn (List.Subset.trans (by decide) (List.Subset.refl bootKeys) hin), hcreg, hregs k hk hn,
      hbegun k fun hin => hn (List.Subset.trans (by decide) (List.Subset.refl bootKeys) hin)]

/-- The first lock of PLL A in BOOT, when nothing else follows it. -/
theorem State.lockFollow_boot (x : State) (ha : s.lockedA = false) (hx : x.lockedA = true) (hl : x.bootLocked.lockedB = s.lockedB) :
    x.lockFollow s.lockedA s.lockedB = x.bootLocked := by
  have hB : (s.lockedB && !s.lockedB) = false := by cases s.lockedB <;> rfl
  simp only [State.lockFollow, ha, hx, hl, hB, Bool.not_false, Bool.true_and, if_true, Bool.false_and, Bool.false_eq_true, if_false]

/-! ### PLL A FAILED (R453) -/

theorem State.pllFailed_boots (hm : s.mode = .boot) (hs : s.boot.step = 3) (hp : s.reg K.PLLA_STATE = 1) (ht : 5000 ≤ s.clk.a.ticks ∨ s.reg K.REF_STATE ≠ 1) :
    (s.pllFailed false).reg K.PLLA_STATE = 4 ∧ (s.pllFailed false).boot = { s.boot with answers := true, step := 10 } ∧ (s.pllFailed false).fs.mem = []
    ∧ (s.pllFailed false).reg K.AUTH_COUNTER = 0 ∧ (s.pllFailed false).regBit K.BOOT_STATUS 7 = true := by
  obtain ⟨u, hu⟩ : ∃ u : State, u = s.put K.PLLA_STATE 4 := ⟨_, rfl⟩
  have hfour : u.reg K.PLLA_STATE = 4 := by rw [hu, State.reg_put_self]
  have hfail : s.pllFail false = u := by
    have hcond : (s.reg (pllState false) = 1 && (decide (5000 ≤ (s.pll false).ticks) || !s.refPresent)) = true := by
      have hstate : s.reg (pllState false) = 1 := hp
      have hticks : (s.pll false).ticks = s.clk.a.ticks := rfl
      rcases ht with h | h
      · simp [hstate, hticks, h]
      · simp [hstate, State.refPresent, h]
    rw [hu]
    exact if_pos hcond
  have hfailed : s.pllFailed false = u.bootFailed := by
    rw [State.pllFailed, hfail, hfour]
    rfl
  have hum : u.mode = .boot ∧ u.boot = s.boot := by rw [hu]; exact ⟨hm, rfl⟩
  have hboot : u.bootFailed = { (u.newEpoch.putBit K.BOOT_STATUS 7 true).storeClear with boot := { u.boot with answers := true, step := 10 } } :=
    if_neg (by simp [hum.1, hum.2, hs])
  have hepoch : u.newEpoch.reg K.AUTH_COUNTER = 0 := State.reg_put_self _ _ _
  have hkeeps : u.keeps u.newEpoch [K.AUTH_EPOCH, K.AUTH_COUNTER] := (((State.keeps.refl u _).of_objs (u := u.draw.2) rfl).put _ _ (by simp)).put _ _ (by simp)
  have hreg : ∀ k, u.bootFailed.reg k = (u.newEpoch.putBit K.BOOT_STATUS 7 true).reg k := fun k => by
    rw [hboot]
    rfl
  rw [hfailed]
  refine ⟨?_, ?_, ?_, ?_, ?_⟩
  · rw [hreg, State.putBit, State.reg_put_ne _ _ _ _ (by decide), hkeeps _ (by decide), hfour]
  · rw [hboot, hum.2]
  · rw [hboot]
    rfl
  · rw [hreg, State.putBit, State.reg_put_ne _ _ _ _ (by decide), hepoch]
  · rw [State.regBit, hreg, State.putBit, State.reg_put_self, bitAt_withBit, if_pos rfl]

/-! ### BOOT_END (R221, R460) -/

theorem memGet_memClearBank (l : List Host.Cell) (p a : Nat) : memGet (memClearBank l p) a = if a / bankBytes = p then 0 else memGet l a := by
  have hclear : storeGet (memClearBank l p) a = if (a / bankBytes != p) then storeGet l a else none := storeGet_filter l (fun k => k / bankBytes != p) a
  rw [memGet_eq_storeGet, memGet_eq_storeGet, hclear]
  by_cases h : a / bankBytes = p
  · simp [h, memDefault]
  · simp [h]

/-- The bank of one staging frame is cleared. -/
def State.frameCleared (i : Nat) : State := s.setFs (s.fs.clearBank (s.reg (K.BANK_MAP (32 + i))))

/-- Every staging frame's bank is cleared, one after the other. -/
def State.stageCleared : State := s.forRange 16 State.frameCleared

/-- Only the memory may have changed, and no byte that was zero. -/
def State.zeroesMore (t : State) : Prop := (t.boot = s.boot ∧ t.objs = s.objs) ∧ ∀ a, memGet s.fs.mem a = 0 → memGet t.fs.mem a = 0

theorem State.zeroesMore.refl : s.zeroesMore s := ⟨⟨rfl, rfl⟩, fun _ h => h⟩

theorem State.zeroesMore.trans {t u v : State} (h : t.zeroesMore u) (h' : u.zeroesMore v) : t.zeroesMore v :=
  ⟨⟨h'.1.1.trans h.1.1, h'.1.2.trans h.1.2⟩, fun a ha => h'.2 a (h.2 a ha)⟩

theorem State.memGet_frameCleared (i a : Nat) : memGet (s.frameCleared i).fs.mem a = if a / bankBytes = s.reg (K.BANK_MAP (32 + i)) then 0 else memGet s.fs.mem a :=
  memGet_memClearBank s.fs.mem _ a

theorem State.frameCleared_zeroesMore (i : Nat) : s.zeroesMore (s.frameCleared i) := by
  refine ⟨⟨rfl, rfl⟩, fun a ha => ?_⟩
  rw [s.memGet_frameCleared, ha, ite_self]

theorem State.stageCleared_shows : (s.stageCleared.boot = s.boot ∧ s.stageCleared.objs = s.objs)
    ∧ ∀ i a, i < 16 → a < bankBytes → memGet s.stageCleared.fs.mem (s.reg (K.BANK_MAP (32 + i)) * bankBytes + a) = 0 := by
  have hall : s.zeroesMore s.stageCleared := State.forRange_rel _ .refl .trans _ 16 (fun x i _ => x.frameCleared_zeroesMore i) s
  refine ⟨hall.1, fun i a hi ha => ?_⟩
  obtain ⟨u, hu, hr⟩ := State.forRange_turn _ .refl .trans State.frameCleared 16 i hi (fun x j _ _ => x.frameCleared_zeroesMore j) s
  refine hr.2 _ ((u.memGet_frameCleared i _).trans (if_pos ?_))
  rw [State.reg_congr _ _ hu.1.2, Nat.mul_comm, Nat.mul_add_div (by decide), Nat.div_eq_of_lt ha, Nat.add_zero]

theorem State.bootEnd_shows (hm : s.mode = .boot) (hs : s.boot.step = 10) :
    s.bootEnd.boot = { s.boot with step := 11, oldCauses := 0, script := [], flash := [], reads := [] } ∧ s.bootEnd.reg K.BOOT_TIME = 2 * s.boot.ticks % 2 ^ 32
    ∧ s.keeps s.bootEnd [K.BOOT_TIME] ∧ ∀ i a, i < 16 → a < bankBytes → memGet s.bootEnd.fs.mem (s.reg (K.BANK_MAP (32 + i)) * bankBytes + a) = 0 := by
  obtain ⟨⟨hboot, hobjs⟩, hmem⟩ := s.stageCleared_shows
  obtain ⟨c, hc⟩ : ∃ c : State, c = s.stageCleared := ⟨_, rfl⟩
  rw [← hc] at hboot hobjs hmem
  have hcleared : (s.forRange 16 fun s i => s.setFs (s.fs.clearBank (s.reg (K.BANK_MAP (32 + i))))) = c := hc.symm
  obtain ⟨d, hd⟩ : ∃ d : State, d = { c with boot := { s.boot with step := 11, oldCauses := 0, script := [], flash := [], reads := [] } } := ⟨_, rfl⟩
  have hend : s.bootEnd = d.put K.BOOT_TIME (2 * s.boot.ticks % 2 ^ 32) := by
    have hopen : ¬ (s.mode ≠ .boot ∨ s.boot.step ≠ 10) := by simp [hm, hs]
    rw [State.bootEnd, if_neg hopen, hcleared, hd, ← hboot]
  have hparts : d.boot = { s.boot with step := 11, oldCauses := 0, script := [], flash := [], reads := [] } ∧ d.objs = s.objs ∧ d.fs = c.fs := by
    rw [hd]
    exact ⟨rfl, hobjs, rfl⟩
  rw [hend]
  refine ⟨hparts.1, State.reg_put_self _ _ _, ((State.keeps.refl s _).of_objs hparts.2.1).put _ _ (by simp), fun i a hi ha => ?_⟩
  have hput : (d.put K.BOOT_TIME (2 * s.boot.ticks % 2 ^ 32)).fs = c.fs := hparts.2.2
  rw [hput]
  exact hmem i a hi ha

end

end Sys2Proof.Machine
end

section
/-! PROOFS. Chapter 18: the start of BOOT. -/

namespace Sys2Proof.Machine

section
variable {s t u : State}

/-- What every part of the start of BOOT leaves: the mode, the step, the seal's copies, the emitters of the slot's fires and a set bit 26 of the Pennant word. -/
def State.startStay (s t : State) : Prop :=
  (t.mode = s.mode ∧ t.boot = s.boot ∧ t.sealed = s.sealed) ∧ ((∀ f ∈ s.pipe.cur.fires, f.emitter < 16) → ∀ f ∈ t.pipe.cur.fires, f.emitter < 16)
  ∧ (bitAt s.penn.sticky 26 = true → bitAt t.penn.sticky 26 = true)

theorem State.startStay.refl (s : State) : s.startStay s := ⟨⟨rfl, rfl, rfl⟩, id, id⟩

theorem State.startStay.trans (h : s.startStay t) (h' : t.startStay u) : s.startStay u := by
  obtain ⟨⟨hm, hb, hs⟩, hf, hp⟩ := h
  obtain ⟨⟨hm', hb', hs'⟩, hf', hp'⟩ := h'
  exact ⟨⟨hm'.trans hm, hb'.trans hb, hs'.trans hs⟩, fun h => hf' (hf h), fun h => hp' (hp h)⟩

theorem State.startStay.put (h : s.startStay t) (k v : Nat) : s.startStay (t.put k v) := h.trans ⟨⟨rfl, rfl, rfl⟩, id, id⟩

variable (s)

theorem State.stick_startStay (n : Nat) : s.startStay (s.stick n) := by
  refine ⟨⟨rfl, rfl, rfl⟩, id, fun h => ?_⟩
  have hs : (s.stick n).penn.sticky = withBit s.penn.sticky n true := rfl
  rw [hs, bitAt_withBit]
  split
  · rfl
  · exact h

/-- Suppression changes what becomes of a fire, not its emitter. -/
theorem foldl_suppress_emitter (l : List FireCmd) (p : State × List FireCmd) (h : ∀ f ∈ p.2, f.emitter < 16) (hl : ∀ f ∈ l, f.emitter < 16) :
    ∀ f ∈ (l.foldl (fireStep suppressFire) p).2, f.emitter < 16 := by
  induction l generalizing p with
  | nil => exact h
  | cons c l ih =>
    refine ih _ (fun f hf => ?_) fun f hf => hl f (List.mem_cons_of_mem _ hf)
    rcases List.mem_append.mp hf with hf | hf
    · exact h f hf
    · rw [List.mem_singleton.mp hf]
      have hc : (suppressFire p.1 c).2.emitter = c.emitter := by
        unfold suppressFire
        split <;> rfl
      rw [hc]
      exact hl c List.mem_cons_self

theorem State.suppressAll_emitter (h : ∀ f ∈ s.pipe.cur.fires, f.emitter < 16) : ∀ f ∈ s.suppressAll.pipe.cur.fires, f.emitter < 16 :=
  foldl_suppress_emitter s.pipe.cur.fires (s, []) (fun _ h => absurd h List.not_mem_nil) h

theorem State.violateAt_startStay (bit n : Nat) : s.startStay (s.violateAt bit n) := by
  obtain ⟨o, l, r, hparts⟩ := s.violateAt_parts bit n
  have hfires : (s.violateAt bit n).pipe.cur.fires = s.suppressAll.pipe.cur.fires := by
    unfold State.violateAt
    extract_lets x y z
    split <;> rfl
  refine ⟨⟨(congrArg State.mode hparts :), (congrArg State.boot hparts :), (congrArg State.sealed hparts :)⟩, fun h => ?_, fun h => ?_⟩
  · rw [hfires]
    exact s.suppressAll_emitter h
  · rw [show (s.violateAt bit n).penn = s.penn from (congrArg State.penn hparts :)]
    exact h

theorem State.violateNow_startStay (bit : Nat) : s.startStay (s.violateNow bit) :=
  State.startStay.trans (t := s.draw.2) ⟨⟨rfl, rfl, rfl⟩, id, id⟩ (s.draw.2.violateAt_startStay _ _)

/-! ### The straps and the seal of BOOT (R391 to R395) -/

theorem State.strapJudge_startStay (l : List Nat) : s.startStay (s.strapJudge l) := by
  unfold State.strapJudge State.onlyIf
  extract_lets w x
  have hx : s.startStay x := (State.startStay.refl s).put _ _
  split
  · split
    · exact hx.trans ((x.stick_startStay 23).trans (State.violateNow_startStay _ _))
    · exact hx.trans (State.violateNow_startStay _ _)
  · exact hx

theorem not_strapViolateKey {k : Nat} (h : k < 0x200200 ∨ 0x200400 ≤ k) (hk : k ∉ [K.SH_CAUSE, K.SH_LAST, K.SH_LATCHED]) (hr : k ≠ K.STRAP_READ) :
    k ∉ K.STRAP_READ :: violateKeys := by
  rw [List.mem_cons]
  exact not_or.mpr ⟨hr, not_violateKey h hk⟩

theorem State.strapJudge_shows (l : List Nat) (h : ∀ f ∈ s.pipe.cur.fires, f.emitter < 16) :
    (s.strapJudge l).reg K.STRAP_READ = strapWord l ∧ s.keeps (s.strapJudge l) (K.STRAP_READ :: violateKeys) := by
  unfold State.strapJudge State.onlyIf
  extract_lets w x
  have hread : x.reg K.STRAP_READ = strapWord l := State.reg_put_self _ _ _
  have hx : s.keeps x (K.STRAP_READ :: violateKeys) := (State.keeps.refl s _).put _ _ List.mem_cons_self
  have hviolate : ∀ y : State, (∀ f ∈ y.pipe.cur.fires, f.emitter < 16) → y.objs = x.objs →
      (y.violateNow 8).reg K.STRAP_READ = strapWord l ∧ s.keeps (y.violateNow 8) (K.STRAP_READ :: violateKeys) := fun y hy ho => by
    obtain ⟨-, hkeeps, -⟩ := y.violateNow_shows 8 hy
    refine ⟨?_, (hx.of_objs ho).trans (hkeeps.mono (List.subset_cons_self _ _))⟩
    rw [hkeeps _ (not_violateKey (by decide) (by decide)), State.reg_congr x y ho, hread]
  split
  · split
    · exact hviolate _ h rfl
    · exact hviolate _ h rfl
  · exact ⟨hread, hx⟩

theorem State.strapBoot_startStay (l : List Nat) : s.startStay (s.strapBoot l) :=
  ((((State.startStay.refl s).put _ _).put _ _).put _ _).trans (State.strapJudge_startStay _ l)

/-- Registers of the straps. -/
def strapKeys : List Nat := [K.STRAP_BOOT, K.CEIL_CODE, K.PRESET_NOW, K.STRAP_READ] ++ violateKeys

theorem not_strapKey {k : Nat} (h : k < 0x200200 ∨ 0x200400 ≤ k) (hk : k ∉ [K.SH_CAUSE, K.SH_LAST, K.SH_LATCHED])
    (hr : k ∉ [K.STRAP_BOOT, K.CEIL_CODE, K.PRESET_NOW, K.STRAP_READ]) : k ∉ strapKeys := by
  rw [strapKeys, List.mem_append]
  exact not_or.mpr ⟨hr, not_violateKey h hk⟩

theorem State.strapBoot_shows (l : List Nat) (h : ∀ f ∈ s.pipe.cur.fires, f.emitter < 16) :
    (s.strapBoot l).reg K.STRAP_BOOT = strapWord l ∧ (s.strapBoot l).reg K.STRAP_READ = strapWord l ∧ (s.strapBoot l).reg K.CEIL_CODE = bits (strapWord l) 5 0
    ∧ (s.strapBoot l).reg K.PRESET_NOW = bits (strapWord l) 8 6 ∧ s.keeps (s.strapBoot l) strapKeys := by
  obtain ⟨x, hx⟩ : ∃ x : State, x = ((s.put K.STRAP_BOOT (strapWord l)).put K.CEIL_CODE (bits (strapWord l) 5 0)).put K.PRESET_NOW (bits (strapWord l) 8 6) := ⟨_, rfl⟩
  have heq : s.strapBoot l = x.strapJudge l := by rw [hx]; rfl
  have hfires : ∀ f ∈ x.pipe.cur.fires, f.emitter < 16 := by rw [hx]; exact h
  obtain ⟨hread, hkeeps⟩ := x.strapJudge_shows l hfires
  rw [heq]
  refine ⟨?_, hread, ?_, ?_, ?_⟩
  · rw [hkeeps _ (not_strapViolateKey (by decide) (by decide) (by decide)), hx, State.reg_put_ne _ _ _ _ (by decide), State.reg_put_ne _ _ _ _ (by decide), State.reg_put_self]
  · rw [hkeeps _ (not_strapViolateKey (by decide) (by decide) (by decide)), hx, State.reg_put_ne _ _ _ _ (by decide), State.reg_put_self]
  · rw [hkeeps _ (not_strapViolateKey (by decide) (by decide) (by decide)), hx, State.reg_put_self]
  · have hputs : s.keeps x strapKeys := by
      rw [hx]
      exact (((State.keeps.refl s _).put K.STRAP_BOOT _ (by simp [strapKeys])).put K.CEIL_CODE _ (by simp [strapKeys])).put K.PRESET_NOW _ (by simp [strapKeys])
    exact hputs.trans (hkeeps.mono (List.subset_append_right [K.STRAP_BOOT, K.CEIL_CODE, K.PRESET_NOW] _))

theorem State.sealCheck_startStay : s.startStay (s.sealCheck false) := by
  unfold State.sealCheck
  split
  · exact .refl s
  · split
    · exact ((State.startStay.refl s).put _ _).trans (State.violateNow_startStay _ _)
    · exact .refl s

theorem not_sealKey {k : Nat} (h : k < 0x200200 ∨ 0x200400 ≤ k) (hk : k ∉ [K.SH_CAUSE, K.SH_LAST, K.SH_LATCHED]) (hr : k ≠ K.SEAL_STATE) :
    k ∉ K.SEAL_STATE :: violateKeys := by
  rw [List.mem_cons]
  exact not_or.mpr ⟨hr, not_violateKey h hk⟩

theorem State.sealCheck_keeps (h : ∀ f ∈ s.pipe.cur.fires, f.emitter < 16) : s.keeps (s.sealCheck false) (K.SEAL_STATE :: violateKeys) := by
  unfold State.sealCheck
  split
  · exact .refl s _
  · split
    · obtain ⟨-, hkeeps, -⟩ := (s.put K.SEAL_STATE 2).violateNow_shows 7 h
      exact ((State.keeps.refl s _).put _ _ List.mem_cons_self).trans (hkeeps.mono (List.subset_cons_self _ _))
    · exact .refl s _

/-- A seal that is programmed is good, or its copy has changed and channel B has declared it. -/
theorem State.sealCheck_judges (h : ∀ f ∈ s.pipe.cur.fires, f.emitter < 16) (hs : s.reg K.SEAL_STATE = 1) :
    (s.sealCheck false).reg K.SEAL_STATE = 1 ∨ (s.sealCheck false).reg K.SEAL_STATE = 2 ∧ (s.sealCheck false).regBit K.SH_CAUSE 7 = true := by
  have hprog : s.reg K.SEAL_STATE ≠ 0 := by rw [hs]; decide
  by_cases hc : crc32 s.sealImage = s.reg K.SEAL_CRC
  · rw [s.sealCheck_good hprog hc]
    exact .inl hs
  · rw [s.sealCheck_bad false hprog (.inr hc)]
    obtain ⟨hcause, hkeeps, -⟩ := (s.put K.SEAL_STATE 2).violateNow_shows 7 h
    refine .inr ⟨?_, ?_⟩
    · rw [hkeeps _ (not_violateKey (by decide) (by decide)), State.reg_put_self]
    · rw [State.regBit, hcause, bitAt_withBit, if_pos rfl]

/-! ### The sealed copy (R391) -/

/-- One sealed object from the fuse image. -/
def sealPut (p : State × List Byte) (k : Nat × Nat) : State × List Byte := (p.1.put k.1 (ofLe (p.2.take k.2)), p.2.drop k.2)

theorem foldl_sealPut (K' : List Nat) (l : List (Nat × Nat)) (hl : ∀ k ∈ l, k.1 ∈ K') (p : State × List Byte) (hp : s.startStay p.1 ∧ s.keeps p.1 K' ∧ p.1.hk = s.hk) :
    s.startStay (l.foldl sealPut p).1 ∧ s.keeps (l.foldl sealPut p).1 K' ∧ (l.foldl sealPut p).1.hk = s.hk := by
  induction l generalizing p with
  | nil => exact hp
  | cons k l ih =>
    obtain ⟨hs, hk, hh⟩ := hp
    exact ih (fun j hj => hl j (List.mem_cons_of_mem _ hj)) _ ⟨hs.put _ _, hk.put _ _ (hl k List.mem_cons_self), hh⟩

theorem State.sealLoad_shows (b : List Byte) : s.startStay (s.sealLoad b) ∧ s.keeps (s.sealLoad b) (sealKeys.map Prod.fst) :=
  have h := foldl_sealPut s (sealKeys.map Prod.fst) sealKeys (fun _ hk => List.mem_map_of_mem hk) (s, b) ⟨.refl s, .refl s _, rfl⟩
  ⟨h.1, h.2.1⟩

theorem keyState_unsealed : K.KEY_STATE ∉ sealKeys.map Prod.fst := by decide

/-- The seal as BOOT takes it from the fuses. -/
def State.sealTaken : State := if s.sealed.blown then ((s.sealLoad s.sealed.fuseImage).put K.SEAL_STATE 1).put K.SEAL_CRC s.sealed.fuseCrc else s

theorem State.sealTaken_shows : s.startStay s.sealTaken ∧ s.sealTaken.reg K.KEY_STATE = s.reg K.KEY_STATE
    ∧ (s.sealed.blown = true → s.sealTaken.reg K.SEAL_STATE = 1 ∧ s.sealTaken.reg K.SEAL_CRC = s.sealed.fuseCrc) := by
  unfold State.sealTaken
  split
  · obtain ⟨hstay, hkeeps⟩ := s.sealLoad_shows s.sealed.fuseImage
    refine ⟨(hstay.put _ _).put _ _, ?_, fun _ => ⟨?_, State.reg_put_self _ _ _⟩⟩
    · rw [State.reg_put_ne _ _ _ _ (by decide), State.reg_put_ne _ _ _ _ (by decide), hkeeps _ keyState_unsealed]
    · rw [State.reg_put_ne _ _ _ _ (by decide), State.reg_put_self]
  next h => exact ⟨.refl s, rfl, fun hb => absurd hb h⟩

theorem State.bootRetire_startStay : s.startStay s.bootRetire ∧ ∀ k, outsideUnits k → k ≠ K.BOOT_BIST_FAILS → s.bootRetire.reg k = s.reg k := by
  obtain ⟨u, n, ⟨hu, -, hregs⟩, heq⟩ := s.bootRetire_shows
  have hstay : s.startStay u := by
    refine ⟨⟨(congrArg State.mode hu :), (congrArg State.boot hu :), (congrArg State.sealed hu :)⟩, fun h => ?_, fun h => ?_⟩
    · rw [show u.pipe = s.pipe from (congrArg State.pipe hu :)]
      exact h
    · rw [show u.penn = s.penn from (congrArg State.penn hu :)]
      exact h
  rw [heq]
  exact ⟨hstay.put _ _, fun k hk hn => (u.reg_put_ne _ _ _ hn).trans (hregs k hk)⟩

/-! ### The start (R452) -/

/-- What BOOT keeps of what stood before it. -/
def State.bootKept : State :=
  { s with objs := s.keepRegs (keptInBoot s.sup.lostByL4), sup := { s.sup with lostByL4 := false }, therm := { latched := s.therm.latched } }

theorem State.bootKept_key : s.bootKept.reg K.KEY_STATE = s.reg K.KEY_STATE := by
  have h : storeGet (s.keepRegs (keptInBoot s.sup.lostByL4)) K.KEY_STATE = if keptInBoot s.sup.lostByL4 K.KEY_STATE = true then storeGet s.objs K.KEY_STATE else none :=
    storeGet_filter s.objs (keptInBoot s.sup.lostByL4) K.KEY_STATE
  have hk : keptInBoot s.sup.lostByL4 K.KEY_STATE = true := by
    generalize s.sup.lostByL4 = b
    revert b
    decide
  rw [if_pos hk] at h
  exact congrArg (fun o : Option Nat => o.getD (objDefault K.KEY_STATE)) h

/-- What BOOT starts from: what it keeps, and its inputs. -/
def State.bootCleared (i : BootInput) : State :=
  { s.bootKept.put K.KEY_STATE (if s.bootKept.regBit K.KEY_STATE 2 then 4 else 3) with
    boot := { step := 3, flash := i.flash, failed := i.fails, oldCauses := s.boot.oldCauses ||| s.reg K.SH_LATCHED } }

theorem State.bootCleared_key (i : BootInput) : (s.bootCleared i).reg K.KEY_STATE = if s.regBit K.KEY_STATE 2 = true then 4 else 3 := by
  have h : (s.bootCleared i).reg K.KEY_STATE = if s.bootKept.regBit K.KEY_STATE 2 = true then 4 else 3 := s.bootKept.reg_put_self _ _
  rw [h, State.regBit, State.regBit, s.bootKept_key]

/-- The state in which the fuses, their units and an old reset cause are taken. -/
def State.bootFused (stuck : Bool) : State := if stuck then s.sealTaken.bootRetire.stick 26 else s.sealTaken.bootRetire

theorem State.bootFused_shows (stuck : Bool) : s.startStay (s.bootFused stuck) ∧ (s.bootFused stuck).reg K.KEY_STATE = s.reg K.KEY_STATE
    ∧ (s.sealed.blown = true → (s.bootFused stuck).reg K.SEAL_STATE = 1 ∧ (s.bootFused stuck).reg K.SEAL_CRC = s.sealed.fuseCrc)
    ∧ (stuck = true → bitAt (s.bootFused stuck).penn.sticky 26 = true) := by
  obtain ⟨hseal, hkey, hblown⟩ := s.sealTaken_shows
  obtain ⟨hretire, hregs⟩ := s.sealTaken.bootRetire_startStay
  generalize hx : s.sealTaken = x at *
  generalize hy : x.bootRetire = y at *
  have hfused : s.bootFused stuck = if stuck then y.stick 26 else y := by rw [State.bootFused, hx, hy]
  have hall : y.reg K.KEY_STATE = s.reg K.KEY_STATE ∧ (s.sealed.blown = true → y.reg K.SEAL_STATE = 1 ∧ y.reg K.SEAL_CRC = s.sealed.fuseCrc) := by
    rw [hregs _ (.inr (.inr (by decide))) (by decide), hregs _ (.inr (.inr (by decide))) (by decide), hregs _ (.inr (.inr (by decide))) (by decide)]
    exact ⟨hkey, hblown⟩
  rw [hfused]
  cases stuck with
  | true =>
    refine ⟨(hseal.trans hretire).trans (y.stick_startStay 26), hall.1, hall.2, fun _ => ?_⟩
    exact (bitAt_withBit _ _ _ _).trans (if_pos rfl)
  | false => exact ⟨hseal.trans hretire, hall.1, hall.2, fun h => absurd h (by decide)⟩

/-- Both PLLs start, and the HK ADC. -/
theorem State.started_shows (t : State) (ht : t = s.pllStart.hkStart) : t.mode = s.mode ∧ t.boot = s.boot ∧ t.penn = s.penn ∧ t.hk.on = true ∧ t.reg K.PLLA_STATE = 1
    ∧ t.reg K.PLLB_STATE = 1 ∧ s.keeps t [K.PLLA_STATE, K.PLLB_STATE, K.HK_STATE, K.HK_ENTRY] := by
  obtain ⟨x, hx⟩ : ∃ x : State, x = s.pllStart := ⟨_, rfl⟩
  have hparts : x.mode = s.mode ∧ x.boot = s.boot ∧ x.penn = s.penn ∧ x.hk = s.hk := by
    rw [hx]
    exact ⟨rfl, rfl, rfl, rfl⟩
  have hregs : x.reg K.PLLA_STATE = 1 ∧ x.reg K.PLLB_STATE = 1 ∧ s.keeps x [K.PLLA_STATE, K.PLLB_STATE, K.HK_STATE, K.HK_ENTRY] := by
    rw [hx, State.pllStart]
    exact ⟨by rw [State.reg_put_ne _ _ _ _ (by decide), State.reg_put_self], State.reg_put_self _ _ _, (((State.keeps.refl s _).of_objs rfl).put _ _ (by simp)).put _ _ (by simp)⟩
  rw [← hx, State.hkStart] at ht
  obtain ⟨hm, hb, hp, hh⟩ := hparts
  obtain ⟨ha, hbb, hk⟩ := hregs
  rw [ht]
  split
  next hon => exact ⟨hm, hb, hp, hon, ha, hbb, hk⟩
  · refine ⟨hm, hb, hp, rfl, ?_, ?_, ((hk.put K.HK_STATE 1 (by simp)).put K.HK_ENTRY 0 (by simp)).of_objs rfl⟩
    · exact ((x.put K.HK_STATE 1).reg_put_ne K.HK_ENTRY K.PLLA_STATE 0 (by decide)).trans ((x.reg_put_ne K.HK_STATE K.PLLA_STATE 1 (by decide)).trans ha)
    · exact ((x.put K.HK_STATE 1).reg_put_ne K.HK_ENTRY K.PLLB_STATE 0 (by decide)).trans ((x.reg_put_ne K.HK_STATE K.PLLB_STATE 1 (by decide)).trans hbb)

theorem State.bootStart_eq (i : BootInput) (hm : s.mode = .boot) (hs : s.boot.step = 0) :
    s.bootStart i = ((((s.bootCleared i).bootFused (s.retLog.any fun e => fieldAt e 0 4 == 1)).strapBoot i.straps).sealCheck false).pllStart.hkStart := by
  have hgo : ¬ (s.mode ≠ .boot ∨ s.boot.step ≠ 0) := by simp [hm, hs]
  rw [State.bootStart, if_neg hgo]
  extract_lets old stuck a b c0 c d e f g
  have hc : c = s.bootCleared i := rfl
  have hd : d = c.sealTaken := rfl
  have hf : f = c.bootFused stuck := by rw [State.bootFused, ← hd]
  clear_value d f c
  rw [← hc, ← hf]

/-- The start of BOOT. -/
theorem State.bootStart_shows (i : BootInput) (hm : s.mode = .boot) (hs : s.boot.step = 0) (hf : ∀ f ∈ s.pipe.cur.fires, f.emitter < 16) (t : State) (ht : t = s.bootStart i) :
    (t.mode = .boot ∧ t.boot.step = 3 ∧ t.boot.flash = i.flash ∧ t.boot.failed = i.fails) ∧ (t.reg K.PLLA_STATE = 1 ∧ t.reg K.PLLB_STATE = 1 ∧ t.hk.on = true)
    ∧ t.reg K.KEY_STATE = (if s.regBit K.KEY_STATE 2 = true then 4 else 3)
    ∧ (t.reg K.STRAP_BOOT = strapWord i.straps ∧ t.reg K.STRAP_READ = strapWord i.straps ∧ t.reg K.CEIL_CODE = bits (strapWord i.straps) 5 0
      ∧ t.reg K.PRESET_NOW = bits (strapWord i.straps) 8 6)
    ∧ (s.sealed.blown = true → t.reg K.SEAL_CRC = s.sealed.fuseCrc ∧ (t.reg K.SEAL_STATE = 1 ∨ t.reg K.SEAL_STATE = 2 ∧ t.regBit K.SH_CAUSE 7 = true))
    ∧ ((∃ e ∈ s.retLog, fieldAt e 0 4 = 1) → bitAt t.penn.sticky 26 = true) := by
  obtain ⟨stuck, hstuck⟩ : ∃ b, b = s.retLog.any fun e => fieldAt e 0 4 == 1 := ⟨_, rfl⟩
  obtain ⟨c, hc⟩ : ∃ c, c = s.bootCleared i := ⟨_, rfl⟩
  have hckey : c.reg K.KEY_STATE = if s.regBit K.KEY_STATE 2 = true then 4 else 3 := by rw [hc, s.bootCleared_key]
  have hcparts : c.mode = .boot ∧ c.sealed = s.sealed ∧ (c.boot.step = 3 ∧ c.boot.flash = i.flash ∧ c.boot.failed = i.fails) ∧ ∀ f ∈ c.pipe.cur.fires, f.emitter < 16 := by
    rw [hc]
    exact ⟨hm, rfl, ⟨rfl, rfl, rfl⟩, hf⟩
  obtain ⟨hcm, hcs, hcb, hcf⟩ := hcparts
  obtain ⟨hstay, hfkey, hblown, hsticky⟩ := c.bootFused_shows stuck
  obtain ⟨f, hfused⟩ : ∃ f, f = c.bootFused stuck := ⟨_, rfl⟩
  rw [s.bootStart_eq i hm hs, ← hc, ← hstuck, ← hfused] at ht
  rw [← hfused] at hstay hfkey hblown hsticky
  have hff := hstay.2.1 hcf
  obtain ⟨hboot, hread, hceil, hpre, hskeeps⟩ := f.strapBoot_shows i.straps hff
  have hstay := hstay.trans (f.strapBoot_startStay i.straps)
  obtain ⟨p, hp⟩ : ∃ p, p = f.strapBoot i.straps := ⟨_, rfl⟩
  have hpsticky := (f.strapBoot_startStay i.straps).2.2
  rw [← hp] at ht hboot hread hceil hpre hskeeps hstay hpsticky
  have hpf := hstay.2.1 hcf
  have hqkeeps := p.sealCheck_keeps hpf
  have hqsticky := p.sealCheck_startStay.2.2
  have hstay := hstay.trans p.sealCheck_startStay
  have hjudge := p.sealCheck_judges hpf
  obtain ⟨q, hq⟩ : ∃ q, q = p.sealCheck false := ⟨_, rfl⟩
  rw [← hq] at ht hqkeeps hqsticky hstay hjudge
  obtain ⟨htm, htb, htp, hon, hpa, hpb, htkeeps⟩ := q.started_shows t ht
  obtain ⟨⟨hqm, hqb, -⟩, -, -⟩ := hstay
  rw [← hqb] at hcb
  rw [← htb] at hcb
  refine ⟨⟨htm.trans (hqm.trans hcm), hcb⟩, ⟨hpa, hpb, hon⟩, ?_, ⟨?_, ?_, ?_, ?_⟩, fun hb => ⟨?_, ?_⟩, fun he => ?_⟩
  · rw [htkeeps _ (by decide), hqkeeps _ (not_sealKey (by decide) (by decide) (by decide)), hskeeps _ (not_strapKey (by decide) (by decide) (by decide)), hfkey, hckey]
  · rw [htkeeps _ (by decide), hqkeeps _ (not_sealKey (by decide) (by decide) (by decide)), hboot]
  · rw [htkeeps _ (by decide), hqkeeps _ (not_sealKey (by decide) (by decide) (by decide)), hread]
  · rw [htkeeps _ (by decide), hqkeeps _ (not_sealKey (by decide) (by decide) (by decide)), hceil]
  · rw [htkeeps _ (by decide), hqkeeps _ (not_sealKey (by decide) (by decide) (by decide)), hpre]
  · rw [htkeeps _ (by decide), hqkeeps _ (not_sealKey (by decide) (by decide) (by decide)), hskeeps _ (not_strapKey (by decide) (by decide) (by decide)), (hblown (by rw [hcs, hb])).2, hcs]
  · rw [htkeeps _ (by decide), State.regBit, htkeeps _ (by decide)]
    refine hjudge ?_
    rw [hskeeps _ (not_strapKey (by decide) (by decide) (by decide)), (hblown (by rw [hcs, hb])).1]
  · rw [htp]
    refine hqsticky (hpsticky (hsticky ?_))
    rw [hstuck, List.any_eq_true]
    obtain ⟨e, he, hone⟩ := he
    exact ⟨e, he, by simp [hone]⟩

end

end Sys2Proof.Machine
end

section
/-! PROOFS. Chapter 18: the end of BOOT. -/

namespace Sys2Proof.Machine

section
variable {s t u : State}

/-- What the parts of an entry to a mode leave: the mode, the step of BOOT and the registers of chapter 18. -/
def State.entryStay (s t : State) : Prop := (t.mode = s.mode ∧ t.boot = s.boot) ∧ s.keepsModeRegs t

theorem State.entryStay.refl (s : State) : s.entryStay s := ⟨⟨rfl, rfl⟩, .refl s⟩

theorem State.entryStay.trans (h : s.entryStay t) (h' : t.entryStay u) : s.entryStay u :=
  ⟨⟨h'.1.1.trans h.1.1, h'.1.2.trans h.1.2⟩, h.2.trans h'.2⟩

theorem State.entryStay.put (h : s.entryStay t) (k v : Nat) (hk : k < 0x900000) : s.entryStay (t.put k v) :=
  h.trans ⟨⟨rfl, rfl⟩, (State.keepsModeRegs.refl t).put k v hk⟩

theorem State.entryStay.onlyWhen {c : Prop} [Decidable c] (h : s.entryStay t) (h' : t.entryStay u) : s.entryStay (if c then u else t) := by
  split
  · exact h.trans h'
  · exact h

variable (s)

theorem State.cometEntry_entryStay : s.entryStay s.cometStart.sweepRestart.calEnter :=
  ⟨⟨rfl, rfl⟩, ((State.keepsModeRegs.refl s).put K.SWEEP_OK 0 (by decide)).of_objs rfl⟩

/-- The reservoir unlocked by the entry. -/
def State.resUnlocked : State := if s.res.locked then { s.put K.RES_STATE 0 with res := { s.res with locked := false, faultAges := [] } } else s

theorem State.resModeEntry_entryStay : s.entryStay s.resModeEntry := by
  have heq : s.resModeEntry = s.resUnlocked.resGate := rfl
  have hoff : s.entryStay s.resUnlocked := (State.entryStay.refl s).onlyWhen
    ⟨⟨rfl, rfl⟩, ((State.keepsModeRegs.refl s).put K.RES_STATE 0 (by decide)).of_objs rfl⟩
  rw [heq]
  exact hoff.trans ⟨⟨State.resGate_mode _, (congrArg State.boot s.resUnlocked.resGate_parts :)⟩, State.resGate_keepsModeRegs _⟩

theorem State.apdModeEntry_entryStay : s.entryStay s.apdModeEntry :=
  State.forRange_rel State.entryStay .refl .trans _ 4 (fun x z hz =>
    State.entryStay.trans (t := x.setZone z { x.zone z with faulted := false, reenable := false }) ⟨⟨rfl, rfl⟩, (State.keepsModeRegs.refl x).of_objs rfl⟩
      ((State.entryStay.refl _).put _ _ (by simp only [K.APD_STATE]; omega))) s

theorem State.bistMode_entryStay : s.entryStay s.bistMode := by
  unfold State.bistMode
  extract_lets b ok
  split
  · exact .refl s
  · obtain ⟨hparts, hregs⟩ := s.bistStop_testStay 0x13
    exact ⟨⟨(congrArg State.mode hparts :), (congrArg State.boot hparts :)⟩, fun k hk => hregs k (by omega) (by omega)⟩

/-- The mode entered, with its count and stamp, before the units follow it. -/
def State.modeNoted (m : Mode) (n : Nat) : State :=
  (({ s with mode := m, ensB := { s.ensB with degAck := false } } : State).tally K.MODE_CHANGES).put K.MODE_LAST n

/-- Comet and the calibration engine as they leave the former mode. -/
def State.modeLeft : State :=
  if s.cometMode then (if s.comet.running then s.cometStop else s).calLeave else if s.comet.running then s.cometStop else s

/-- The units that follow the new mode. -/
def State.unitsFollow : State := (if s.cometMode then s.cometStart.sweepRestart.calEnter else s).resModeEntry.apdModeEntry.bistMode

theorem State.unitsFollow_entryStay : s.entryStay s.unitsFollow :=
  ((((State.entryStay.refl s).onlyWhen s.cometEntry_entryStay).trans (State.resModeEntry_entryStay _)).trans (State.apdModeEntry_entryStay _)).trans (State.bistMode_entryStay _)

theorem State.enterMode_eq (m : Mode) (n : Nat) (hm : m = .standby ∨ m = .selfTest ∨ m.isRunning = true) : s.enterMode m n = (s.modeLeft.modeNoted m n).unitsFollow := by
  have hleft : (if s.cometMode then (if s.comet.running then s.cometStop else s).calLeave else (if s.comet.running then s.cometStop else s)) = s.modeLeft := rfl
  simp only [State.enterMode, if_pos hm, hleft]
  rfl

/-- An entry to a mode in which the DMA engines go on. -/
theorem State.enterMode_shows (m : Mode) (n : Nat) (hm : m = .standby ∨ m = .selfTest ∨ m.isRunning = true) : (s.enterMode m n).mode = m ∧ (s.enterMode m n).boot = s.boot
    ∧ (s.enterMode m n).reg K.MODE_CHANGES = (s.reg K.MODE_CHANGES + 1) % 2 ^ 32 ∧ (s.enterMode m n).reg K.MODE_LAST = n := by
  have hleft : s.modeLeft.boot = s.boot ∧ s.modeLeft.objs = s.objs := by
    unfold State.modeLeft
    split
    · split <;> exact ⟨rfl, rfl⟩
    · split <;> exact ⟨rfl, rfl⟩
  rw [s.enterMode_eq m n hm]
  obtain ⟨⟨hmode, hboot⟩, hregs⟩ := (s.modeLeft.modeNoted m n).unitsFollow_entryStay
  obtain ⟨b, hb⟩ : ∃ b : State, b = s.modeLeft := ⟨_, rfl⟩
  rw [← hb] at hleft hmode hboot hregs ⊢
  refine ⟨hmode.trans rfl, hboot.trans hleft.1, ?_, ?_⟩
  · have hcount : (b.modeNoted m n).reg K.MODE_CHANGES = addWrap 32 (b.reg K.MODE_CHANGES) 1 := by
      rw [State.modeNoted, State.reg_put_ne _ _ _ _ (by decide)]
      exact State.reg_put_self _ _ _
    rw [hregs _ (by decide), hcount, State.reg_congr _ _ hleft.2]
    rfl
  · rw [hregs _ (by decide)]
    exact State.reg_put_self _ _ _

/-! ### The tick that BOOT leads to (R460) -/

theorem State.overtake_shows : s.overtake.boot = s.boot ∧ s.keeps s.overtake [K.MODE_RESULT] := by
  unfold State.overtake
  split
  · exact ⟨rfl, ((State.keeps.refl s _).of_objs rfl).put _ _ (by simp)⟩
  · exact ⟨rfl, .refl s _⟩

/-- BOOT's last step is over, and a request that waited overtaken. -/
def State.bootOver : State := { s.overtake with boot := { s.boot with step := 0 } }

theorem State.bootExitStep_shows (n : Nat) (hd : s.bootExitDue = true) :
    (s.bootExitStep n).mode = (if s.reg K.SH_CAUSE = 0 then .standby else .safeHold) ∧ (s.bootExitStep n).boot.step = 0
    ∧ (s.bootExitStep n).reg K.MODE_CHANGES = (s.reg K.MODE_CHANGES + 1) % 2 ^ 32 ∧ (s.bootExitStep n).reg K.MODE_LAST = n := by
  obtain ⟨-, hkeeps⟩ := s.overtake_shows
  have hover : s.bootOver.boot.step = 0 ∧ ∀ k, k ≠ K.MODE_RESULT → s.bootOver.reg k = s.reg k := ⟨rfl, fun k hk => hkeeps k (by simpa using hk)⟩
  have heq : s.bootExitStep n = if s.bootOver.reg K.SH_CAUSE ≠ 0 then s.bootOver.enterSafeHold n else s.bootOver.enterMode .standby n := by
    have hgo : ¬ (!s.bootExitDue) = true := by simp [hd]
    rw [State.bootExitStep, if_neg hgo]
    rfl
  obtain ⟨b, hb⟩ : ∃ b : State, b = s.bootOver := ⟨_, rfl⟩
  rw [← hb] at hover heq
  obtain ⟨hstep, hregs⟩ := hover
  rw [heq, hregs _ (by decide), ← hregs K.MODE_CHANGES (by decide)]
  split
  next h =>
    obtain ⟨hmode, hboot, hcount, hlast⟩ := b.enterMode_shows .safeHold n (.inr (.inr rfl))
    have hreg : ∀ k, k ≠ K.SH_COUNT → (b.enterSafeHold n).reg k = (b.enterMode .safeHold n).reg k := fun k hk => State.reg_put_ne _ _ _ _ hk
    rw [hreg _ (by decide), hreg _ (by decide)]
    exact ⟨hmode, (congrArg BootState.step hboot).trans hstep, hcount, hlast⟩
  next h =>
    obtain ⟨hmode, hboot, hcount, hlast⟩ := b.enterMode_shows .standby n (.inl rfl)
    rw [if_pos (not_not.mp h)]
    exact ⟨hmode, (congrArg BootState.step hboot).trans hstep, hcount, hlast⟩

/-! ### BOOT (R221, R452 to R460) -/

theorem State.pllWindow_declares (d : Int) (cc : Nat) (hr : s.reg K.REF_STATE = 1) (h0 : s.reg K.PLLA_STATE ≠ 0) (h2 : s.reg K.PLLA_STATE ≠ 2) (hk : s.clk.a.skip = false)
    (hg : s.clk.a.good = 3) (hd : d.natAbs ≤ 2) (x : State) (hx : x = s.pllWindow false d cc) : x.reg K.PLLA_STATE = 2 ∧ x.reg K.PLLB_STATE = s.reg K.PLLB_STATE
    ∧ x.mode = s.mode ∧ x.boot = s.boot ∧ x.fuses = s.fuses := by
  have hgood : (s.pll false).good = 3 := hg
  obtain ⟨u, hu⟩ : ∃ u : State, u = s.putI 16 (pllDiff false) d := ⟨_, rfl⟩
  have hparts : u.reg K.PLLB_STATE = s.reg K.PLLB_STATE ∧ u.mode = s.mode ∧ u.boot = s.boot ∧ u.fuses = s.fuses := by
    rw [hu]
    exact ⟨s.reg_put_ne _ _ _ (by decide), rfl, rfl, rfl⟩
  have hstate : s.reg (pllState false) ≠ 2 := h2
  have hcounts : s.reg (pllState false) ≠ 0 := h0
  have hskip : (s.pll false).skip = false := hk
  rw [State.pllWindow_counted hr hcounts hskip u hu, if_neg hstate, hgood, if_pos hd, if_pos rfl, if_neg Bool.false_ne_true] at hx
  obtain ⟨hB, hm, hb, hf⟩ := hparts
  obtain ⟨w, hw⟩ : ∃ w : State, w = u.setPll false { s.pll false with good := 0 } := ⟨_, rfl⟩
  have hset : w.reg K.PLLB_STATE = u.reg K.PLLB_STATE ∧ w.mode = u.mode ∧ w.boot = u.boot ∧ w.fuses = u.fuses := by
    rw [hw]
    exact ⟨rfl, rfl, rfl, rfl⟩
  rw [← hw] at hx
  have hregs : ∀ k, x.reg k = (w.put (pllState false) 2).reg k := fun k => by
    rw [hx]
    rfl
  have hrest : x.mode = w.mode ∧ x.boot = w.boot ∧ x.fuses = w.fuses := by
    rw [hx]
    exact ⟨rfl, rfl, rfl⟩
  exact ⟨(hregs _).trans (State.reg_put_self w (pllState false) 2), (hregs _).trans ((w.reg_put_ne (pllState false) K.PLLB_STATE 2 (by decide)).trans (hset.1.trans hB)),
    hrest.1.trans (hset.2.1.trans hm), hrest.2.1.trans (hset.2.2.1.trans hb), hrest.2.2.trans (hset.2.2.2.trans hf)⟩

end

/-- Settles O52, part by part: the start as a chain of parts that each leave the mode, BOOT's step, the seal and the emitters of the slot's fires; the first lock as
BOOT's own steps over units that keep to their own registers; and the exit as an entry to a mode in which the engines go on. -/
theorem bootSteps : Obligations.BootSteps := by
  unfold Obligations.BootSteps
  refine ⟨fun s i hm hs hf => ?_, fun s d cc hm hs hr h0 h2 hk hg hd => ?_, fun s hm hs hp ht => ?_, fun s hm hs => ?_, fun s u ht hd hu hdu _ _ => ?_⟩
  · have hexec : exec (.bootStart i) s = .next (s.bootStart i).settle := rfl
    obtain ⟨⟨hmode, hstep, hflash, hfailed⟩, ⟨ha, hb, hon⟩, hkey, ⟨hboot, hread, hceil, hpre⟩, hblown, hstick⟩ := s.bootStart_shows i hm hs hf _ rfl
    exact ⟨_, hexec, hmode, hstep, hflash, hfailed, ha, hb, hon, hkey, hboot, hread, hceil, hpre, hblown, hstick⟩
  · have hc : s.mode.coreRuns = true := by rw [hm]; rfl
    obtain ⟨x, hx⟩ : ∃ x : State, x = s.pllWindow false d cc := ⟨_, rfl⟩
    obtain ⟨hA, hB, hxm, hxb, hxf⟩ := s.pllWindow_declares d cc hr h0 h2 hk hg hd x hx
    obtain ⟨hans, hbad, hcounter, hstaged, hempty, hstep, hnokey, hbist, hregs⟩ := x.bootLocked_shows (hxm.trans hm) (by rw [hxb, hs])
    have hlockB : x.bootLocked.lockedB = s.lockedB := by rw [State.lockedB, hregs _ (.inr (.inl (by decide))) (by decide), hB, State.lockedB]
    have hexec : exec (.pllWindowEnd false d cc) s = .next x.bootLocked.settle := by
      rw [exec_pllWindowEnd hc, ← hx, s.lockFollow_boot x (by simp [State.lockedA, h2]) (by simp [State.lockedA, hA]) hlockB]
    rw [State.noKeyHash_congr hxf] at hempty hnokey
    rw [s.wantsBist_congr x (by rw [hxb])] at hbist
    rw [hxb] at hstep
    refine ⟨_, hexec, ?_, hans, hbad, hcounter, hstaged, hempty, hstep, hnokey, hbist⟩
    rw [hregs _ (.inr (.inl (by decide))) (by decide), hA]
  · have hc : s.mode.coreRuns = true := by rw [hm]; rfl
    have hexec : exec (.pllFailTimeout false) s = .next (s.pllFailed false).settle := by
      calc exec (.pllFailTimeout false) s = .next (s.core fun s => s.pllFailed false).settle := rfl
        _ = _ := by rw [s.core_on _ hc]
    obtain ⟨hfour, hboot, hmem, hcounter, hseven⟩ := s.pllFailed_boots hm hs hp ht
    exact ⟨_, hexec, hfour, hboot, hmem, hcounter, hseven⟩
  · have hexec : exec .bootEnd s = .next s.bootEnd.settle := rfl
    obtain ⟨hboot, htime, hkeeps, hmem⟩ := s.bootEnd_shows hm hs
    exact ⟨_, hexec, hboot, htime, hkeeps, hmem⟩
  · have hexec : exec .bootExitTick s = .next (u.bootExitStep u.nextStamp).settle := by
      calc exec .bootExitTick s = .next (s.tickRow s.bootExitDue fun s => s.bootExitStep s.nextStamp).settle := rfl
        _ = _ := by rw [s.tickRow_due _ _ hd ht, hu, State.atTick]
    obtain ⟨hmode, hstep, hcount, hlast⟩ := u.bootExitStep_shows u.nextStamp hdu
    exact ⟨_, hexec, hmode, hstep, hcount, hlast⟩

end Sys2Proof.Machine
end

section
/-! PROOFS. Chapter 16: what a unit's leaving its duty leaves of the course of a self-test. -/

namespace Sys2Proof.Machine

/-! ### The course of a test stays -/

section
variable {s t u : State}

/-- The test in progress, its registers and the states of chapters 7 and 8 are as they were. -/
def State.courseStay (s t : State) : Prop :=
  (t.spares.bist = s.spares.bist ∧ t.trg = s.trg ∧ t.cap = s.cap ∧ t.dec = s.dec) ∧ ∀ k, 0x800101 ≤ k → k < 0x80010B → t.reg k = s.reg k

theorem State.courseStay.refl (s : State) : s.courseStay s := ⟨⟨rfl, rfl, rfl, rfl⟩, fun _ _ _ => rfl⟩

theorem State.courseStay.trans (h : s.courseStay t) (h' : t.courseStay u) : s.courseStay u := by
  obtain ⟨⟨hb, ht, hc, hd⟩, hr⟩ := h
  obtain ⟨⟨hb', ht', hc', hd'⟩, hr'⟩ := h'
  exact ⟨⟨hb'.trans hb, ht'.trans ht, hc'.trans hc, hd'.trans hd⟩, fun k hl hu => (hr' k hl hu).trans (hr k hl hu)⟩

theorem State.courseStay.put (h : s.courseStay t) (k v : Nat) (hk : k < 0x800101 ∨ 0x80010B ≤ k) : s.courseStay (t.put k v) :=
  h.trans ⟨⟨rfl, rfl, rfl, rfl⟩, fun j hl hu => t.reg_put_ne _ _ _ (by omega)⟩

theorem State.courseStay.of_parts (h : s.courseStay t) (hp : u.spares.bist = t.spares.bist ∧ u.trg = t.trg ∧ u.cap = t.cap ∧ u.dec = t.dec) (ho : u.objs = t.objs) :
    s.courseStay u := h.trans ⟨hp, fun k _ _ => State.reg_congr t u ho k⟩

theorem State.courseStay.onlyWhen {c : Prop} [Decidable c] (h : s.courseStay t) (h' : t.courseStay u) : s.courseStay (if c then u else t) := by
  split
  · exact h.trans h'
  · exact h

theorem State.courseStay.of_link (hp : s.linkOnly t) {l : List Nat} (hk : s.keeps t l) (hl : ∀ k ∈ l, k < 0x800101 ∨ 0x80010B ≤ k) : s.courseStay t := by
  refine ⟨⟨(congrArg (fun x : State => x.spares.bist) hp :), (congrArg State.trg hp :), (congrArg State.cap hp :), (congrArg State.dec hp :)⟩, fun k h1 h2 => hk k fun hin => ?_⟩
  have := hl k hin
  omega

variable (s)

/-! ### Units, banks and secrets -/

theorem State.putUnit_courseStay (n c : Nat) : s.courseStay (s.putUnit n c) := by
  unfold State.putUnit
  split
  · exact (State.courseStay.refl s).put _ _ (by simp only [K.EE_STATE, unitInst]; omega)
  · exact (State.courseStay.refl s).put _ _ (by simp only [K.SP_STATE, unitInst]; omega)
  · exact .refl s

theorem State.listAdd_courseStay (n : Nat) : s.courseStay (s.listAdd n) := (State.courseStay.refl s).of_parts ⟨rfl, rfl, rfl, rfl⟩ rfl

theorem State.bankIdle_courseStay (n : Nat) : s.courseStay (s.bankIdle n) :=
  (State.courseStay.refl s).onlyWhen ((State.courseStay.refl s).put _ _ (by simp only [K.BANK_STATE, unitInst]; omega))

theorem State.putBank_courseStay (p c : Nat) : s.courseStay (s.putBank p c) := by
  unfold State.putBank
  split
  next h => exact (State.courseStay.refl s).put _ _ (by simp only [K.BANK_STATE]; omega)
  · exact .refl s

theorem State.keysReload_courseStay : s.courseStay s.keysReload := by
  unfold State.keysReload
  extract_lets x
  have hx : s.courseStay x := (State.courseStay.refl s).put _ _ (by decide)
  split
  · exact .refl s
  · split
    · exact hx.of_parts ⟨rfl, rfl, rfl, rfl⟩ rfl
    · exact hx

theorem State.zeroise_courseStay : s.courseStay s.zeroise :=
  (((State.courseStay.refl s).put K.KEY_STATE _ (by decide)).put K.ZEROISE_COUNT _ (by decide)).of_parts ⟨rfl, rfl, rfl, rfl⟩ rfl

theorem State.bankMove_courseStay (b q after : Nat) : s.courseStay (s.bankMove b q after) :=
  ((State.courseStay.refl s).put K.RETIRE_STATE 0 (by decide)).of_parts ⟨rfl, rfl, rfl, rfl⟩ rfl

theorem State.bankRetireAs_courseStay (b after : Nat) : s.courseStay (s.bankRetireAs b after) := by
  unfold State.bankRetireAs
  split
  · exact .refl s
  · split
    · split
      · exact s.bankMove_courseStay _ _ _
      · exact (State.courseStay.refl s).put _ _ (by decide)
    · exact (State.courseStay.refl s).put _ _ (by decide)

theorem State.bankLost_courseStay (b : Nat) (hb : b < 48) : s.courseStay (s.bankLost b) := by
  unfold State.bankLost
  extract_lets p
  split
  · exact .refl s
  · exact (((State.courseStay.refl s).put (K.BANK_MAP b) 255 (by simp only [K.BANK_MAP]; omega)).put K.FS_FRAMES _ (by decide)).of_parts ⟨rfl, rfl, rfl, rfl⟩ rfl

theorem State.copyFailed_courseStay : s.courseStay s.copyFailed :=
  ((((State.courseStay.refl s).put K.RETIRE_STATE 5 (by decide)).trans (State.putBank_courseStay _ _ _)).trans (State.putBank_courseStay _ _ _)).of_parts ⟨rfl, rfl, rfl, rfl⟩ rfl

/-! ### Lanes -/

theorem away_of_link {k : Nat} (h : k = K.TAKEOVERS ∨ 0x580000 ≤ k ∧ k < 0x590000) : k < 0x800101 ∨ 0x80010B ≤ k := by
  simp only [K.TAKEOVERS] at h
  omega

theorem State.linkDown_courseStay (st f : Nat) : s.courseStay (s.linkDown st f) :=
  .of_link (s.linkDown_linkOnly st f) (s.linkDown_keeps st f) fun k hk => away_of_link (linkKeys_range hk)

theorem State.linkFault_courseStay (f : Nat) : s.courseStay (s.linkFault f) := by
  unfold State.linkFault
  extract_lets st
  split_ifs
  · exact .refl s
  · exact s.linkDown_courseStay 6 3
  · exact s.linkDown_courseStay 6 f
  · exact .refl s

theorem State.controlNow_courseStay (ty : Nat) (b : List Byte) (n : Option (Nat × Nat × Nat)) : s.courseStay (s.controlNow ty b n) :=
  (State.courseStay.refl s).of_parts ⟨rfl, rfl, rfl, rfl⟩ rfl

theorem State.laneTo_courseStay (b p : Nat) (hb : b < 8) : s.courseStay (s.laneTo b p) :=
  ((State.courseStay.refl s).put (K.LANE_MAP b) p (by simp only [K.LANE_MAP]; omega)).onlyWhen ((State.courseStay.refl _).put K.TAKEOVERS _ (by decide))

theorem State.trainStart_courseStay : s.courseStay s.trainStart := by
  have hdrop : s.linkOnly s.movesNow.noticesDrop := s.movesNow_linkOnly.trans rfl
  have honly : s.linkOnly s.trainStart := by
    unfold State.trainStart
    extract_lets x _ y z
    have hx : s.linkOnly x := hdrop
    have hz : s.linkOnly z := (hx.trans (x.linkOnly_setLink _)).foldl _ _ fun x i => x.linkOnly_put _ _
    clear_value z
    exact (((((hz.trans (z.linkOnly_put _ _)).trans (State.linkOnly_put _ _ _)).trans (State.linkOnly_put _ _ _)).trans (State.linkOnly_put _ _ _)).trans
      (State.linkOnly_put _ _ _)).trans (State.linkOnly_put _ _ _)
  exact .of_link honly s.trainStart_keeps fun k hk => away_of_link (trainKeys_range hk)

theorem State.laneShift_courseStay (b old new : Nat) (hb : b < 8) : s.courseStay (s.laneShift b old new) := by
  unfold State.laneShift
  extract_lets x
  have hx : s.courseStay x := s.laneTo_courseStay b new hb
  split
  · exact s.controlNow_courseStay _ _ _
  · split
    · exact (hx.trans (x.linkDown_courseStay 1 0)).trans (State.trainStart_courseStay _)
    · exact hx

theorem State.laneRetire_courseStay (b : Nat) : s.courseStay (s.laneRetire b) := by
  unfold State.laneRetire
  split
  · exact .refl s
  next hb =>
    extract_lets p free _ x
    have hx : s.courseStay x := (State.courseStay.refl s).of_parts ⟨rfl, rfl, rfl, rfl⟩ rfl
    clear_value x free
    split
    · exact .refl s
    · split
      · exact hx.trans (x.laneShift_courseStay b p 8 (by omega))
      · exact hx.trans (x.linkFault_courseStay 2)

theorem State.rxSwitch_courseStay (n : Nat) : s.courseStay (s.rxSwitch n) := by
  unfold State.rxSwitch
  extract_lets old _ x
  have hx : s.courseStay x := ((State.courseStay.refl s).put K.RX_ACTIVE n (by decide)).of_parts ⟨rfl, rfl, rfl, rfl⟩ rfl
  exact hx.onlyWhen (x.controlNow_courseStay _ _ _)

theorem State.rxTaken_courseStay (n : Nat) : s.courseStay ((s.count K.TAKEOVERS).rxSwitch n) :=
  ((State.courseStay.refl s).put K.TAKEOVERS _ (by decide)).trans (State.rxSwitch_courseStay _ n)

/-! ### Take-overs and failures -/

theorem State.planTakeOver_courseStay (n : Nat) : s.courseStay (s.planTakeOver n) := by
  unfold State.planTakeOver
  extract_lets i
  split
  · split
    · exact s.bankRetireAs_courseStay _ _
    · exact .refl s
  · split
    · exact s.laneRetire_courseStay _
    · exact .refl s
  · exact s.rxTaken_courseStay _
  · exact (State.courseStay.refl s).of_parts ⟨rfl, rfl, rfl, rfl⟩ rfl

theorem State.opDone_courseStay (n : Nat) (h : s.reg K.BIST_STATE ≠ 5) : s.courseStay (s.opDone n) := by
  have hx : s.courseStay (((s.setSpares { s.spares with opStep := .idle, left := 0 }).put K.SPARE_OP_STATE 0).put K.SPARE_OP_RESULT n) :=
    (((State.courseStay.refl s).of_parts (u := s.setSpares { s.spares with opStep := .idle, left := 0 }) ⟨rfl, rfl, rfl, rfl⟩ rfl).put K.SPARE_OP_STATE 0 (by decide)).put
      K.SPARE_OP_RESULT n (by decide)
  unfold State.opDone
  extract_lets a _ b c
  have hstate : c.reg K.BIST_STATE ≠ 5 := by rw [hx.2 _ (by decide) (by decide)]; exact h
  rw [if_neg fun hc => hstate hc.1]
  exact hx

theorem State.markFailed_courseStay (n : Nat) : s.courseStay (s.markFailed n) := by
  unfold State.markFailed
  extract_lets i x
  have hx : s.courseStay x := (s.listAdd_courseStay n).trans (State.putUnit_courseStay _ n 4)
  split
  · exact hx.put _ _ (by simp only [K.CH_STATE, i, unitInst]; omega)
  · exact hx.onlyWhen ((State.courseStay.refl x).put _ _ (by simp only [K.BANK_STATE, i, unitInst]; omega))
  · exact hx.of_parts ⟨rfl, rfl, rfl, rfl⟩ rfl
  · exact hx

theorem State.targetFailed_courseStay (h : s.reg K.BIST_STATE = 0) : s.courseStay s.targetFailed := by
  unfold State.targetFailed
  extract_lets r p x _ y
  have hx : s.courseStay x := s.copyFailed_courseStay.trans (State.listAdd_courseStay _ _)
  have hy : s.courseStay y := hx.onlyWhen ((State.courseStay.refl x).of_parts ⟨rfl, rfl, rfl, rfl⟩ rfl)
  have hidle : y.reg K.BIST_STATE = 0 := (hy.2 _ (by decide) (by decide)).trans h
  clear_value y
  rw [if_neg fun hc => absurd (hidle.symm.trans hc.1) (by decide)]
  exact hy.onlyWhen (y.opDone_courseStay 2 (by rw [hidle]; decide))

theorem State.logicalOf_lt {p b : Nat} (h : s.logicalOf p = some b) : b < 48 := List.mem_range.mp (List.mem_of_find?_eq_some h)

theorem State.bankFailed_courseStay (i l : Nat) (hl : l < 48) (hi : i < 65536) : s.courseStay (s.bankFailed i l false) := by
  unfold State.bankFailed
  extract_lets w
  simp only [Bool.false_and, Bool.false_eq_true, if_false]
  split
  · exact (State.courseStay.refl s).of_parts ⟨rfl, rfl, rfl, rfl⟩ rfl
  · split
    · exact s.bankRetireAs_courseStay _ _
    · exact (s.bankLost_courseStay l hl).put _ _ (by simp only [K.BANK_STATE]; omega)

theorem State.laneFailed_courseStay (i l : Nat) : s.courseStay (s.laneFailed i l false) := by
  unfold State.laneFailed
  simp only [Bool.false_and, Bool.false_eq_true, if_false]
  split
  · exact .refl s
  · exact s.laneRetire_courseStay l

theorem State.unitFail_courseStay (n : Nat) (h : s.reg K.BIST_STATE = 0) : s.courseStay (s.unitFail n) := by
  have hidle : (s.reg K.BIST_STATE != 0) = false := by simp [h]
  unfold State.unitFail
  extract_lets i duty b testing returning x r _ _ rx _ failed _ waits marked serving stopped p moves _ freed ended _
  have ht : testing = false := by simp [testing, h]
  have hi : i < 65536 := Nat.mod_lt _ (by decide)
  have hx : s.courseStay x := s.listAdd_courseStay n
  have hxidle : x.reg K.BIST_STATE = 0 := (hx.2 _ (by decide) (by decide)).trans h
  have hop : s.courseStay (((s.putUnit n 4).listAdd n).opDone 3) := by
    have hmark : s.courseStay ((s.putUnit n 4).listAdd n) := (s.putUnit_courseStay n 4).trans (State.listAdd_courseStay _ n)
    refine hmark.trans (State.opDone_courseStay _ 3 ?_)
    rw [hmark.2 _ (by decide) (by decide), h]
    decide
  have hrx : s.courseStay rx := by
    refine hx.trans ?_
    show x.courseStay (if testing = true then _ else _)
    rw [ht]
    exact (State.courseStay.refl x).onlyWhen ((State.courseStay.refl x).put K.TAKEOVERS _ (by decide))
  have hmarked : s.courseStay marked := by
    have hfailed : s.courseStay failed := hx.onlyWhen ((State.courseStay.refl x).of_parts ⟨rfl, rfl, rfl, rfl⟩ rfl)
    have hwaits : s.courseStay waits := by
      refine hfailed.trans ?_
      show failed.courseStay (if _ then failed else _)
      split
      · exact .refl failed
      · exact (State.courseStay.refl failed).of_parts ⟨rfl, rfl, rfl, rfl⟩ rfl
    exact hwaits.trans (waits.putUnit_courseStay n 4)
  have hstopped : s.courseStay stopped := by
    show s.courseStay (if _ then _ else marked)
    rw [ht, if_neg (by simp)]
    exact hmarked
  have hended : s.courseStay ended := by
    have hfreed : s.courseStay freed := by
      refine hstopped.trans ?_
      show stopped.courseStay (if _ then _ else if _ then _ else stopped)
      split
      · exact ((State.courseStay.refl stopped).put K.EE12_FOR 255 (by decide)).of_parts ⟨rfl, rfl, rfl, rfl⟩ rfl
      · exact (State.courseStay.refl stopped).onlyWhen
          (((State.courseStay.refl stopped).put (K.SPARE_FOR (i - 24)) 255 (by simp only [K.SPARE_FOR]; omega)).of_parts ⟨rfl, rfl, rfl, rfl⟩ rfl)
    show s.courseStay (if _ then _ else freed)
    rw [ht, if_neg (by simp)]
    exact hfreed
  clear_value x rx ended i
  split
  · exact .refl s
  · split
    · exact .refl s
    · split
      · exact hop
      · split
        · split
          · exact hx.trans (x.targetFailed_courseStay hxidle)
          · split
            · exact hx.of_parts ⟨rfl, rfl, rfl, rfl⟩ rfl
            · split
              · exact hx.put _ _ (by simp only [K.BANK_STATE]; omega)
              next l hl =>
                rw [ht]
                exact hx.trans (x.bankFailed_courseStay i l (x.logicalOf_lt hl) hi)
        · split
          · rw [ht]
            exact hx.trans (x.laneFailed_courseStay _ _)
          · exact hx.of_parts ⟨rfl, rfl, rfl, rfl⟩ rfl
        · split
          · split
            · exact hrx.trans (rx.rxSwitch_courseStay _)
            · exact hrx.onlyWhen (rx.linkFault_courseStay 4)
          · exact hx
        · exact hx
        · exact hended.onlyWhen ((State.courseStay.refl ended).of_parts ⟨rfl, rfl, rfl, rfl⟩ rfl)

end

end Sys2Proof.Machine
end

section
/-! PROOFS. Chapter 16: self-tests. -/

namespace Sys2Proof.Machine

/-! ### The end of a test (R409 to R413) -/

section
variable {s t u : State}

/-- The results of a test and the states of chapters 7 and 8 are as they were. -/
def State.resultStay (s t : State) : Prop := (t.trg = s.trg ∧ t.cap = s.cap ∧ t.dec = s.dec) ∧ ∀ k, 0x800102 ≤ k → k < 0x80010B → t.reg k = s.reg k

theorem State.courseStay.results (h : s.courseStay t) : s.resultStay t := ⟨h.1.2, fun k hl hu => h.2 k (by omega) hu⟩

theorem State.resultStay.trans (h : s.resultStay t) (h' : t.resultStay u) : s.resultStay u := by
  obtain ⟨⟨ht, hc, hd⟩, hr⟩ := h
  obtain ⟨⟨ht', hc', hd'⟩, hr'⟩ := h'
  exact ⟨⟨ht'.trans ht, hc'.trans hc, hd'.trans hd⟩, fun k hl hu => (hr' k hl hu).trans (hr k hl hu)⟩

theorem State.resultStay.state (h : s.resultStay t) (n : Nat) : s.resultStay (t.put K.BIST_STATE n) :=
  h.trans ⟨⟨rfl, rfl, rfl⟩, fun k hl _ => t.reg_put_ne _ _ _ (by simp only [K.BIST_STATE]; omega)⟩

variable (s)

theorem State.bistBack_resultStay : s.resultStay s.bistBack := by
  have hstate : s.resultStay (s.put K.BIST_STATE 5) := (State.courseStay.refl s).results.state 5
  unfold State.bistBack
  extract_lets n x
  split
  · exact hstate.trans ((State.courseStay.refl x).of_parts (u := x.setSpares _) ⟨rfl, rfl, rfl, rfl⟩ rfl).results
  · exact hstate

theorem State.bistState_resultStay (n : Nat) : s.resultStay (s.bistState n) :=
  State.resultStay.state (t := s.setBist { s.spares.bist with stateTicks := 0 }) ⟨⟨rfl, rfl, rfl⟩, fun _ _ _ => rfl⟩ n

theorem State.bistState_reg (n : Nat) : (s.bistState n).reg K.BIST_STATE = n := State.reg_put_self _ _ _

/-- A failed test leaves the secrets as they are; any other reloads those it has zeroised. -/
def State.testKeys : State := if unitClass s.spares.bist.unit = 16 ∧ 5 ≤ unitInst s.spares.bist.unit ∧ s.spares.bist.outcome ≠ 3 then s.keysReload else s

theorem State.testKeys_keeps : s.keeps s.testKeys [K.KEY_STATE] := by
  unfold State.testKeys State.keysReload
  extract_lets y
  have hy : s.keeps y [K.KEY_STATE] := (State.keeps.refl s _).put _ _ (by simp)
  split
  · split
    · exact .refl s _
    · split
      · exact hy.of_objs rfl
      · exact hy
  · exact .refl s _

theorem State.testKeys_parts : s.testKeys.spares = s.spares ∧ s.testKeys.fuses = s.fuses := by
  unfold State.testKeys State.keysReload
  extract_lets y
  split
  · split
    · exact ⟨rfl, rfl⟩
    · split <;> exact ⟨rfl, rfl⟩
  · exact ⟨rfl, rfl⟩

/-- The channels and the lane of the tested unit are free of the test, and it is listed among those that passed, or not. -/
def State.testFreed (b : Bist) : State :=
  let u := b.unit
  let s := if (unitClass u = 2 ∧ b.kind = 3) ∨ (u = 0x100003 ∧ b.kind = 1) then s.setSpares { s.spares with decReset := true } else s
  let s := if unitClass u = 6 then s.setLink { s.link with testing := withBit s.link.testing (unitInst u) false } else s
  let s := if b.outcome = 2 then s.setSpares { s.spares with passed := s.spares.passed ++ [u] } else s.setSpares { s.spares with passed := s.spares.passed.filter (· != u) }
  if unitClass u = 6 then s.setLink { s.link with passed := withBit s.link.passed (unitInst u) (b.outcome == 2) } else s

/-- Neither the registers nor the list of units out nor the fuses change, and the course of the test stays. -/
def State.freedStay (t : State) : Prop := (t.objs = s.objs ∧ t.spares.list = s.spares.list ∧ t.fuses = s.fuses) ∧ s.courseStay t

theorem State.freedStay.trans {s t u : State} (h : s.freedStay t) (h' : t.freedStay u) : s.freedStay u :=
  ⟨⟨h'.1.1.trans h.1.1, h'.1.2.1.trans h.1.2.1, h'.1.2.2.trans h.1.2.2⟩, h.2.trans h'.2⟩

theorem State.freedStay.onlyWhen {s t u : State} {c : Prop} [Decidable c] (h : s.freedStay t) (h' : t.freedStay u) : s.freedStay (if c then u else t) := by
  split
  · exact h.trans h'
  · exact h

theorem State.freedStay.refl : s.freedStay s := ⟨⟨rfl, rfl, rfl⟩, .refl s⟩

theorem State.setLink_freedStay (l : Link) : s.freedStay (s.setLink l) := ⟨⟨rfl, rfl, rfl⟩, (State.courseStay.refl s).of_parts ⟨rfl, rfl, rfl, rfl⟩ rfl⟩

theorem State.setSpares_freedStay (p : List Nat) (d : Bool) : s.freedStay (s.setSpares { s.spares with passed := p, decReset := d }) :=
  ⟨⟨rfl, rfl, rfl⟩, (State.courseStay.refl s).of_parts ⟨rfl, rfl, rfl, rfl⟩ rfl⟩

theorem State.testFreed_freedStay (b : Bist) : s.freedStay (s.testFreed b) := by
  unfold State.testFreed
  extract_lets u _ x _ y _ z _
  have hx : s.freedStay x := State.freedStay.onlyWhen (.refl s) (s.setSpares_freedStay s.spares.passed true)
  have hy : s.freedStay y := hx.onlyWhen (x.setLink_freedStay _)
  have hz : s.freedStay z := by
    unfold z
    split
    · exact hy.trans (y.setSpares_freedStay _ y.spares.decReset)
    · exact hy.trans (y.setSpares_freedStay _ y.spares.decReset)
  clear_value z
  exact hz.onlyWhen (z.setLink_freedStay _)

/-- The state in which a test whose unit needs nothing restored any more is judged. -/
def State.testLeft : State := ({ s with rxTest := 0 } : State).testKeys.testFreed s.spares.bist

theorem State.testLeft_shows (t : State) (ht : t = s.testLeft) : s.courseStay t ∧ s.keeps t [K.KEY_STATE] ∧ t.spares.list = s.spares.list ∧ t.fuses = s.fuses
    ∧ (s.spares.bist.outcome = 3 → t.objs = s.objs) := by
  obtain ⟨x, hx⟩ : ∃ x : State, x = { s with rxTest := 0 } := ⟨_, rfl⟩
  have hs : s.courseStay x ∧ x.objs = s.objs ∧ x.spares = s.spares ∧ x.fuses = s.fuses := by
    rw [hx]
    exact ⟨(State.courseStay.refl s).of_parts ⟨rfl, rfl, rfl, rfl⟩ rfl, rfl, rfl, rfl⟩
  obtain ⟨hstay, hobjs, hspares, hfuses⟩ := hs
  have hkeys : s.courseStay x.testKeys ∧ s.keeps x.testKeys [K.KEY_STATE] ∧ x.testKeys.spares = s.spares ∧ x.testKeys.fuses = s.fuses
      ∧ (s.spares.bist.outcome = 3 → x.testKeys.objs = s.objs) := by
    refine ⟨hstay.trans ?_, ((State.keeps.refl s _).of_objs hobjs).trans x.testKeys_keeps, ?_, ?_, fun h => ?_⟩
    · exact (State.courseStay.refl x).onlyWhen x.keysReload_courseStay
    · exact x.testKeys_parts.1.trans hspares
    · exact x.testKeys_parts.2.trans hfuses
    · rw [State.testKeys, if_neg fun hc => hc.2.2 (by rw [hspares, h])]
      exact hobjs
  have hleft : t = x.testKeys.testFreed s.spares.bist := by rw [ht, State.testLeft, hx]
  clear hobjs
  obtain ⟨hstay, hkeeps, hspares, hfuses, hobjs⟩ := hkeys
  generalize x.testKeys = y at *
  obtain ⟨⟨ho, hl, hf⟩, hc⟩ := y.testFreed_freedStay s.spares.bist
  rw [hleft]
  exact ⟨hstay.trans hc, hkeeps.of_objs ho, hl.trans (by rw [hspares]), hf.trans hfuses, fun h => ho.trans (hobjs h)⟩

/-- A unit without a duty, or one in duty that was not handed over, once its test is over. -/
def State.testIdle (n : Nat) : State :=
  let v := ((s.putUnit n 0).bankIdle n).put K.BIST_STATE 0
  v.setSpares { v.spares with passed := v.spares.passed.filter (· != n) }

/-- What becomes of the unit: it returns, is retired, or stays as it was. -/
theorem State.bistFinish_eq (t : State) (ht : t = s.testLeft) (n : Nat) (hn : n = s.spares.bist.unit) : s.bistFinish =
    if s.spares.bist.handed = true then
      if s.spares.bist.outcome = 2 then
        if s.regBit K.AUTO_RETIRE 1 = true then t.put K.BIST_STATE 5
        else (((t.listAdd n).putUnit n 4).setSpares { ((t.listAdd n).putUnit n 4).spares with passed := ((t.listAdd n).putUnit n 4).spares.passed ++ [n] }).put K.BIST_STATE 0
      else if s.spares.bist.outcome = 3 then (t.markFailed n).put K.BIST_STATE 0 else t.bistBack
    else if s.spares.bist.wasOut = true then
      (t.putUnit n 4).put K.BIST_STATE (if s.spares.bist.outcome = 2 ∧ s.regBit K.AUTO_RETIRE 1 = true ∧ spared n = true then 5 else 0)
    else if s.spares.bist.outcome ≠ 3 then t.testIdle n
    else if unitClass n = 10 then (t.testIdle n).fuseRowOut
    else if (spared n && (t.testIdle n).hasDuty n) = true then (t.testIdle n).unitFail n
    else (t.testIdle n).markFailed n := by
  subst ht hn
  unfold State.bistFinish
  extract_lets b m x0 x1 _ x2 _ x3 auto _ x4 _ x5 marked _ out idle _ left _
  have hx1 : x1.reg K.AUTO_RETIRE = s.reg K.AUTO_RETIRE := x0.testKeys_keeps _ (by decide)
  have hx2 : x2.objs = x1.objs := by
    unfold x2
    split <;> rfl
  have hx3 : x3.objs = x2.objs := by
    unfold x3
    split <;> rfl
  have hauto : auto = s.regBit K.AUTO_RETIRE 1 := by
    have hreg : x3.reg K.AUTO_RETIRE = s.reg K.AUTO_RETIRE := (State.reg_congr x1 x3 (hx3.trans hx2) _).trans hx1
    exact congrArg (fun v => bitAt v 1) hreg
  rw [← hauto]
  rfl

theorem State.testIdle_shows (n : Nat) : s.resultStay (s.testIdle n) ∧ (s.testIdle n).reg K.BIST_STATE = 0 := by
  have hstay : s.courseStay ((s.putUnit n 0).bankIdle n) := (s.putUnit_courseStay n 0).trans (State.bankIdle_courseStay _ n)
  exact ⟨(hstay.results.state 0).trans ⟨⟨rfl, rfl, rfl⟩, fun _ _ _ => rfl⟩, ((s.putUnit n 0).bankIdle n).reg_put_self K.BIST_STATE 0⟩

theorem State.bistFinish_resultStay : s.resultStay s.bistFinish := by
  obtain ⟨t, ht⟩ : ∃ t : State, t = s.testLeft := ⟨_, rfl⟩
  obtain ⟨n, hn⟩ : ∃ n : Nat, n = s.spares.bist.unit := ⟨_, rfl⟩
  obtain ⟨hleft, -⟩ := s.testLeft_shows t ht
  obtain ⟨hidle, hzero⟩ := t.testIdle_shows n
  have hlisted : t.courseStay ((t.listAdd n).putUnit n 4) := (t.listAdd_courseStay n).trans (State.putUnit_courseStay _ n 4)
  rw [s.bistFinish_eq t ht n hn]
  generalize t.testIdle n = v at *
  refine hleft.results.trans ?_
  split_ifs
  · exact (State.courseStay.refl t).results.state 5
  · exact (hlisted.of_parts (u := ((t.listAdd n).putUnit n 4).setSpares _) ⟨rfl, rfl, rfl, rfl⟩ rfl).results.state 0
  · exact (t.markFailed_courseStay n).results.state 0
  · exact t.bistBack_resultStay
  · exact (t.putUnit_courseStay n 4).results.state 5
  · exact (t.putUnit_courseStay n 4).results.state 0
  · exact hidle
  · exact hidle.trans ⟨⟨rfl, rfl, rfl⟩, fun _ _ _ => rfl⟩
  · exact hidle.trans (v.unitFail_courseStay n hzero).results
  · exact hidle.trans (v.markFailed_courseStay n).results

theorem State.unitOut_listAdd (n : Nat) (h : s.spares.list.length < 64) : (s.listAdd n).unitOut n = true := by
  by_cases hc : s.spares.list.contains n = true
  · have hl : (s.listAdd n).spares.list = s.spares.list := if_pos (.inl hc)
    rw [State.unitOut, hl, hc]
  · have hl : (s.listAdd n).spares.list = s.spares.list ++ [n] := if_neg (by simp only [not_or, not_le]; exact ⟨hc, h⟩)
    rw [State.unitOut, hl]
    simp

theorem State.putUnit_spares (n c : Nat) : (s.putUnit n c).spares = s.spares := by
  unfold State.putUnit
  split <;> rfl

theorem State.markFailed_list (n : Nat) : (s.markFailed n).spares.list = (s.listAdd n).spares.list := by
  unfold State.markFailed
  extract_lets i x
  have hx : x.spares = (s.listAdd n).spares := State.putUnit_spares _ n 4
  rw [← hx]
  split
  · rfl
  · split <;> rfl
  · rfl
  · rfl

/-- A test that was handed over and passed returns its unit under AUTO_RETIRE. -/
theorem State.bistFinish_returns (hh : s.spares.bist.handed = true) (ho : s.spares.bist.outcome = 2) (ha : s.regBit K.AUTO_RETIRE 1 = true) : s.bistFinish.reg K.BIST_STATE = 5 := by
  rw [s.bistFinish_eq _ rfl _ rfl, if_pos hh, if_pos ho, if_pos ha]
  exact State.reg_put_self _ _ _

theorem State.bistFinish_retires (hh : s.spares.bist.handed = true) (ho : s.spares.bist.outcome = 2 ∧ s.regBit K.AUTO_RETIRE 1 = false ∨ s.spares.bist.outcome = 3) :
    s.bistFinish.reg K.BIST_STATE = 0 ∧ (s.spares.list.length < 64 → s.bistFinish.unitOut s.spares.bist.unit = true) := by
  obtain ⟨t, ht⟩ : ∃ t : State, t = s.testLeft := ⟨_, rfl⟩
  obtain ⟨n, hn⟩ : ∃ n : Nat, n = s.spares.bist.unit := ⟨_, rfl⟩
  obtain ⟨-, -, hlist, -⟩ := s.testLeft_shows t ht
  rw [s.bistFinish_eq t ht n hn, if_pos hh, ← hlist, ← hn]
  rcases ho with ⟨ho, ha⟩ | ho
  · rw [if_pos ho, if_neg (by simp [ha])]
    refine ⟨State.reg_put_self _ _ _, fun h => ?_⟩
    have hl : ∀ p, ((((t.listAdd n).putUnit n 4).setSpares { ((t.listAdd n).putUnit n 4).spares with passed := p }).put K.BIST_STATE 0).unitOut n = (t.listAdd n).unitOut n := fun p =>
      (congrArg (fun x : Spares => x.list.contains n) (State.putUnit_spares (t.listAdd n) n 4) :)
    rw [hl]
    exact t.unitOut_listAdd n h
  · rw [if_neg (by rw [ho]; decide), if_pos ho]
    refine ⟨State.reg_put_self _ _ _, fun h => ?_⟩
    have hl : ((t.markFailed n).put K.BIST_STATE 0).unitOut n = (t.listAdd n).unitOut n := congrArg (fun l : List Nat => l.contains n) (t.markFailed_list n)
    rw [hl]
    exact t.unitOut_listAdd n h

theorem State.bistFinish_idles (hh : s.spares.bist.handed = false) (hw : s.spares.bist.wasOut = false) : s.bistFinish.reg K.BIST_STATE = 0 := by
  obtain ⟨t, ht⟩ : ∃ t : State, t = s.testLeft := ⟨_, rfl⟩
  obtain ⟨n, hn⟩ : ∃ n : Nat, n = s.spares.bist.unit := ⟨_, rfl⟩
  obtain ⟨-, hzero⟩ := t.testIdle_shows n
  rw [s.bistFinish_eq t ht n hn, if_neg (by simp [hh]), if_neg (by simp [hw])]
  generalize t.testIdle n = v at *
  split_ifs
  · exact hzero
  · exact hzero
  · exact ((v.unitFail_courseStay n hzero).2 _ (by decide) (by decide)).trans hzero
  · exact ((v.markFailed_courseStay n).2 _ (by decide) (by decide)).trans hzero

/-! ### A test command (R407, R408) -/

theorem State.bistBegin_shows (t : State) (ht : t = s.bistBegin) : t.spares.bist = { s.spares.bist with stateTicks := 0 }
    ∧ t.reg K.BIST_STATE = (if s.spares.bist.kind ≤ 3 ∧ unitClass s.spares.bist.unit ≠ 5 then 2 else 3) ∧ s.resultStay t := by
  unfold State.bistBegin at ht
  extract_lets b x y z w _ v at ht
  have hx : s.courseStay x := (State.courseStay.refl s).of_parts ⟨rfl, rfl, rfl, rfl⟩ rfl
  have hy : s.courseStay y := hx.onlyWhen x.zeroise_courseStay
  have hz : s.courseStay z := hy.trans (y.putUnit_courseStay _ _)
  have hw : s.courseStay w := hz.onlyWhen ((State.courseStay.refl z).put _ _ (by simp only [K.BANK_STATE, unitInst]; omega))
  have hv : s.courseStay v := hw.onlyWhen ((State.courseStay.refl w).of_parts ⟨rfl, rfl, rfl, rfl⟩ rfl)
  have hsaves : (if saves b.kind b.unit = true then 2 else 3) = if s.spares.bist.kind ≤ 3 ∧ unitClass s.spares.bist.unit ≠ 5 then 2 else 3 :=
    if_congr (by simp [saves, b]) rfl rfl
  clear_value v
  rw [ht, hsaves]
  refine ⟨?_, State.bistState_reg _ _, hv.results.trans (v.bistState_resultStay _)⟩
  rw [← hv.1.1]
  rfl

end

end Sys2Proof.Machine
end

section
/-! PROOFS. Chapter 16: self-test commands. -/

namespace Sys2Proof.Machine

section
variable (s : State)

/-! ### BIST_CMD and BIST_ABORT (R407, R411) -/

theorem hostWrite_bistCmd (v : Nat) (a : HostAt) (h : s.mayWrite a.path K.BIST_CMD = true) (hv : v < 2 ^ 32) :
    finish (s.hostWrite K.BIST_CMD (a.write 4 v)) = .next (noteResult a.path (0, s.bistCmd v)).settle := by
  have hrow : (objRow? K.BIST_CMD).any (fun r => r.acc == .wo && !r.isDomain && decide (r.size = 4) && r.range == .any) = true := by decide
  have hr : (objRow? K.BIST_CMD).any (fun r => r.acc == .wo && !r.isDomain && decide (r.size = 4) && r.inRange v) = true := by
    obtain ⟨r, hr, ha⟩ := (Option.any_eq_true _ _).mp hrow
    refine (Option.any_eq_true _ _).mpr ⟨r, hr, ?_⟩
    simp only [Bool.and_eq_true, beq_iff_eq] at ha
    simp only [Bool.and_eq_true, beq_iff_eq]
    refine ⟨ha.1, ?_⟩
    rw [ObjRow.inRange, ha.2]
  have hx : s.extraRange K.BIST_CMD v = true := by
    simp [State.extraRange, K.BIST_CMD, K.CLK_SRC, K.PERIOD_MIN, K.PERIOD_MAX, K.AMP_MIN, K.AMP_MAX]
  rw [s.hostWrite_wo K.BIST_CMD 4 v a h hr hx (by simpa using hv)]
  rfl

theorem exec_bistAbort (a : HostAt) (h : s.mayWrite a.path K.BIST_ABORT = true) :
    exec (.bistAbort a) s = .next (noteResult a.path (0, s.bistStop 0x10)).settle := by
  calc exec (.bistAbort a) s = .next (s.hostWrite K.BIST_ABORT (a.write 1 1)).settle := rfl
    _ = _ := by rw [s.hostWrite_wo _ 1 1 a h (by decide) rfl (by decide)]; rfl

/-- A command that is taken, before the duty or the test begins. -/
def State.testTaken (k u : Nat) : State :=
  (((s.setBist { kind := k, unit := u, wasOut := s.unitOut u }).put K.BIST_LAST_CMD (k * 2 ^ 28 + u)).put K.BIST_RESULT 1).put K.BIST_REASON 0

theorem State.bistCmd_eq (k u : Nat) (hk : k < 16) (hu : u < 2 ^ 24) (hand : Bool)
    (hh : hand = (!s.unitOut u && s.hasDuty u && spared u && (s.mode.isRunning || unitClass u == 5))) : s.bistCmd (k * 2 ^ 28 + u) =
    if s.reg K.BIST_STATE ≠ 0 then s.bistRefuse 1
    else if (!unitKnown u || !kindOk k u) = true then s.bistRefuse 4
    else if s.fuseRetired u = true then s.bistRefuse 5
    else if (!s.bistModeOk u) = true then s.bistRefuse 2
    else if (hand && !s.spareFor u) = true then s.bistRefuse 3
    else if hand = true then ((s.testTaken k u).bistState 1).planTakeOver u else (s.testTaken k u).bistBegin := by
  have h1 : bits (k * 2 ^ 28 + u) 31 28 = k := by simp only [bits]; omega
  have h2 : bits (k * 2 ^ 28 + u) 27 24 = 0 := by simp only [bits]; omega
  have h3 : bits (k * 2 ^ 28 + u) 23 0 = u := by simp only [bits]; omega
  rw [hh]
  simp only [State.bistCmd, h1, h2, h3, ne_eq, not_true_eq_false, decide_false, Bool.false_or]
  rfl

theorem State.testTaken_shows (k u : Nat) (t : State) (ht : t = s.testTaken k u) : t.spares.bist = { kind := k, unit := u, wasOut := s.unitOut u }
    ∧ t.reg K.BIST_LAST_CMD = k * 2 ^ 28 + u ∧ t.reg K.BIST_RESULT = 1 ∧ t.reg K.BIST_REASON = 0 := by
  rw [ht]
  refine ⟨rfl, ?_, ?_, State.reg_put_self _ _ _⟩
  · rw [State.testTaken, State.reg_put_ne _ _ _ _ (by decide), State.reg_put_ne _ _ _ _ (by decide), State.reg_put_self]
  · rw [State.testTaken, State.reg_put_ne _ _ _ _ (by decide), State.reg_put_self]

/-- A command that is taken: the duty is handed over first, or the test begins. -/
theorem State.testTaken_begins (k u : Nat) (hand : Bool) (t : State)
    (ht : t = if hand = true then ((s.testTaken k u).bistState 1).planTakeOver u else (s.testTaken k u).bistBegin) :
    t.reg K.BIST_LAST_CMD = k * 2 ^ 28 + u ∧ t.reg K.BIST_RESULT = 1 ∧ t.reg K.BIST_REASON = 0 ∧ t.spares.bist = { kind := k, unit := u, wasOut := s.unitOut u }
    ∧ t.reg K.BIST_STATE = (if hand = true then 1 else if k ≤ 3 ∧ unitClass u ≠ 5 then 2 else 3) := by
  obtain ⟨x, hx⟩ : ∃ x : State, x = s.testTaken k u := ⟨_, rfl⟩
  obtain ⟨hbist, hcmd, hresult, hreason⟩ := s.testTaken_shows k u x hx
  rw [← hx] at ht
  split at ht
  next h =>
    have hplan := (x.bistState 1).planTakeOver_courseStay u
    have hstate := x.bistState_resultStay 1
    rw [ht, h, if_pos rfl]
    refine ⟨?_, ?_, ?_, hplan.1.1.trans ?_, (hplan.2 _ (by decide) (by decide)).trans (x.bistState_reg 1)⟩
    · rw [hplan.2 _ (by decide) (by decide), hstate.2 _ (by decide) (by decide), hcmd]
    · rw [hplan.2 _ (by decide) (by decide), hstate.2 _ (by decide) (by decide), hresult]
    · rw [hplan.2 _ (by decide) (by decide), hstate.2 _ (by decide) (by decide), hreason]
    · have hb : (x.bistState 1).spares.bist = { x.spares.bist with stateTicks := 0 } := rfl
      rw [hb, hbist]
  next h =>
    obtain ⟨hb, hst, hstay⟩ := x.bistBegin_shows t ht
    rw [if_neg h]
    refine ⟨?_, ?_, ?_, ?_, ?_⟩
    · rw [hstay.2 _ (by decide) (by decide), hcmd]
    · rw [hstay.2 _ (by decide) (by decide), hresult]
    · rw [hstay.2 _ (by decide) (by decide), hreason]
    · rw [hb, hbist]
    · rw [hst, hbist]

/-! ### The course of a test (R408 to R411) -/

theorem roundOpen_nat (tag : String) (n : Nat) : (roundOpen tag ((n : Nat) : Rat)).toNat = n := by
  have h : ((n : Nat) : Rat).den = 1 := rfl
  rw [roundOpen, if_pos h]
  rfl

/-- What the end of a test leaves of its time. -/
def State.timeLeft (full : Bool) : Nat :=
  if full = true then (roundOpen "BIST_TIME" (s.testTime s.spares.bist.kind s.spares.bist.unit).1).toNat else 2 * s.spares.bist.runTicks

theorem State.testTime_congr (t : State) (kind unit : Nat) (ho : t.reg K.PRBS_LEN = s.reg K.PRBS_LEN) (hf : t.draw.1 = s.draw.1) : (t.testTime kind unit).1 = (s.testTime kind unit).1 := by
  simp only [State.testTime, ho, hf]
  split
  case h_8 => split <;> rfl
  all_goals rfl

theorem State.testTime_parts (kind unit : Nat) : (s.testTime kind unit).2.objs = s.objs ∧ (s.testTime kind unit).2.spares = s.spares := by
  unfold State.testTime
  split
  case h_8 => split <;> exact ⟨rfl, rfl⟩
  all_goals exact ⟨rfl, rfl⟩

theorem State.bistOver_shows (outcome reason : Nat) (full : Bool) (t : State) (ht : t = s.bistOver outcome reason full) : t.reg K.BIST_RESULT = outcome ∧ t.reg K.BIST_REASON = reason
    ∧ t.reg K.BIST_SEQ = (s.reg K.BIST_SEQ + 1) % 2 ^ 32 ∧ t.reg K.BIST_TIME = s.timeLeft full ∧ s.keeps t [K.BIST_RESULT, K.BIST_REASON, K.BIST_SEQ, K.BIST_TIME]
    ∧ t.spares = { s.spares with bist := { s.spares.bist with outcome := outcome } } := by
  obtain ⟨x, n, hover, hobjs, hspares, hn⟩ : ∃ (x : State) (n : Nat), t = (((x.put K.BIST_RESULT outcome).put K.BIST_REASON reason).tally K.BIST_SEQ).put K.BIST_TIME n
      ∧ x.objs = s.objs ∧ x.spares = { s.spares with bist := { s.spares.bist with outcome := outcome } } ∧ n = s.timeLeft full := by
    cases full with
    | true =>
      obtain ⟨hparts, hregs⟩ := s.testTime_parts s.spares.bist.kind s.spares.bist.unit
      exact ⟨(s.testTime s.spares.bist.kind s.spares.bist.unit).2.setBist { s.spares.bist with outcome := outcome }, _, ht, hparts, by rw [State.setBist, State.setSpares, hregs], rfl⟩
    | false => exact ⟨s.setBist { s.spares.bist with outcome := outcome }, _, ht, rfl, rfl, roundOpen_nat "BIST_TIME" _⟩
  have hreg : ∀ k, x.reg k = s.reg k := State.reg_congr s x hobjs
  have htally : ∀ y : State, (y.tally K.BIST_SEQ).reg K.BIST_SEQ = (y.reg K.BIST_SEQ + 1) % 2 ^ 32 := fun y => y.reg_put_self _ _
  have hother : ∀ (y : State) (k : Nat), k ≠ K.BIST_SEQ → (y.tally K.BIST_SEQ).reg k = y.reg k := fun y k hk => y.reg_put_ne _ _ _ hk
  rw [hover]
  refine ⟨?_, ?_, ?_, ?_, fun k hk => ?_, hspares⟩
  · rw [State.reg_put_ne _ _ _ _ (by decide), hother _ _ (by decide), State.reg_put_ne _ _ _ _ (by decide), State.reg_put_self]
  · rw [State.reg_put_ne _ _ _ _ (by decide), hother _ _ (by decide), State.reg_put_self]
  · rw [State.reg_put_ne _ _ _ _ (by decide), htally, State.reg_put_ne _ _ _ _ (by decide), State.reg_put_ne _ _ _ _ (by decide), hreg]
  · rw [State.reg_put_self, hn]
  · simp only [List.mem_cons, List.not_mem_nil, or_false, not_or] at hk
    obtain ⟨h1, h2, h3, h4⟩ := hk
    rw [State.reg_put_ne _ _ _ _ h4, hother _ _ h3, State.reg_put_ne _ _ _ _ h2, State.reg_put_ne _ _ _ _ h1, hreg]

/-- What the test left in its counter and signature registers, before the test is over. -/
def State.testCounted (n nE g gX : Nat) : State := (((s.put K.BIST_COUNT n).put K.BIST_COUNT_EXP nE).put K.BIST_SIG g).put K.BIST_SIG_EXP gX

theorem State.testCounted_shows (n nE g gX : Nat) (t : State) (ht : t = s.testCounted n nE g gX) : (t.reg K.BIST_COUNT = n ∧ t.reg K.BIST_COUNT_EXP = nE ∧ t.reg K.BIST_SIG = g
    ∧ t.reg K.BIST_SIG_EXP = gX) ∧ s.keeps t [K.BIST_COUNT, K.BIST_COUNT_EXP, K.BIST_SIG, K.BIST_SIG_EXP] ∧ t.spares = s.spares ∧ ∀ full, t.timeLeft full = s.timeLeft full := by
  have hkeeps : s.keeps t [K.BIST_COUNT, K.BIST_COUNT_EXP, K.BIST_SIG, K.BIST_SIG_EXP] := by
    rw [ht]
    exact ((((State.keeps.refl s _).put K.BIST_COUNT n (by simp)).put K.BIST_COUNT_EXP nE (by simp)).put K.BIST_SIG g (by simp)).put K.BIST_SIG_EXP gX (by simp)
  have hparts : t.spares = s.spares ∧ t.draw.1 = s.draw.1 := by
    rw [ht]
    exact ⟨rfl, rfl⟩
  refine ⟨?_, hkeeps, hparts.1, fun full => ?_⟩
  · rw [ht]
    refine ⟨?_, ?_, ?_, State.reg_put_self _ _ _⟩
    · rw [State.testCounted, State.reg_put_ne _ _ _ _ (by decide), State.reg_put_ne _ _ _ _ (by decide), State.reg_put_ne _ _ _ _ (by decide), State.reg_put_self]
    · rw [State.testCounted, State.reg_put_ne _ _ _ _ (by decide), State.reg_put_ne _ _ _ _ (by decide), State.reg_put_self]
    · rw [State.testCounted, State.reg_put_ne _ _ _ _ (by decide), State.reg_put_self]
  · rw [State.timeLeft, State.timeLeft, hparts.1, s.testTime_congr t _ _ (hkeeps _ (by decide)) hparts.2]

theorem State.bistEnd_eq (n nE g gE gX : Nat) (done : Bool) (h : s.reg K.BIST_STATE = 3) (hX : gX = if 3 ≤ s.spares.bist.kind then 0 else gE % 2 ^ 64) (t : State)
    (ht : t = (s.testCounted (n % 2 ^ 32) (nE % 2 ^ 32) (g % 2 ^ 64) gX).bistOver (if done = true ∧ n % 2 ^ 32 = nE % 2 ^ 32 ∧ g % 2 ^ 64 = gX then 2 else 3) 0 done) :
    s.bistEnd n nE g gE done = if s.spares.bist.kind ≤ 3 ∧ unitClass s.spares.bist.unit ≠ 5 then t.bistState 4 else t.bistFinish := by
  have hmod : (if 3 ≤ s.spares.bist.kind then 0 else gE) % 2 ^ 64 = gX := by
    rw [hX]
    split <;> rfl
  have hgo : ¬ s.reg K.BIST_STATE ≠ 3 := not_not.mpr h
  unfold State.bistEnd
  rw [if_neg hgo]
  extract_lets e pass c x
  have hc : c = s.testCounted (n % 2 ^ 32) (nE % 2 ^ 32) (g % 2 ^ 64) gX := by
    rw [← hmod]
    rfl
  have hpass : (if pass = true then 2 else 3) = if done = true ∧ n % 2 ^ 32 = nE % 2 ^ 32 ∧ g % 2 ^ 64 = gX then 2 else 3 := by
    refine if_congr ?_ rfl rfl
    simp only [pass, e, hmod, Bool.and_eq_true, beq_iff_eq, and_assoc]
  have hx : x = t := by
    rw [ht, ← hc, ← hpass]
  obtain ⟨-, -, -, -, -, hspares⟩ := State.bistOver_shows _ _ _ _ t ht
  obtain ⟨-, -, hcount, -⟩ := s.testCounted_shows _ _ _ _ _ rfl
  have hkind : t.spares.bist.kind = s.spares.bist.kind ∧ t.spares.bist.unit = s.spares.bist.unit := by
    rw [hspares, hcount]
    exact ⟨rfl, rfl⟩
  clear_value x
  rw [hx, hkind.1, hkind.2]
  exact if_congr (by simp [saves]) rfl rfl

/-- The results of a test that ends. -/
theorem State.bistEnd_shows (n nE g gE gX : Nat) (done : Bool) (h : s.reg K.BIST_STATE = 3) (hX : gX = if 3 ≤ s.spares.bist.kind then 0 else gE % 2 ^ 64) (t : State)
    (ht : t = s.bistEnd n nE g gE done) : t.reg K.BIST_COUNT = n % 2 ^ 32 ∧ t.reg K.BIST_COUNT_EXP = nE % 2 ^ 32 ∧ t.reg K.BIST_SIG = g % 2 ^ 64 ∧ t.reg K.BIST_SIG_EXP = gX
    ∧ t.reg K.BIST_RESULT = (if done = true ∧ n % 2 ^ 32 = nE % 2 ^ 32 ∧ g % 2 ^ 64 = gX then 2 else 3) ∧ t.reg K.BIST_REASON = 0
    ∧ t.reg K.BIST_SEQ = (s.reg K.BIST_SEQ + 1) % 2 ^ 32 ∧ t.reg K.BIST_TIME = s.timeLeft done
    ∧ (s.spares.bist.kind ≤ 3 → unitClass s.spares.bist.unit ≠ 5 → t.reg K.BIST_STATE = 4) := by
  obtain ⟨c, hc⟩ : ∃ c : State, c = s.testCounted (n % 2 ^ 32) (nE % 2 ^ 32) (g % 2 ^ 64) gX := ⟨_, rfl⟩
  obtain ⟨r, hr⟩ : ∃ r : Nat, r = if done = true ∧ n % 2 ^ 32 = nE % 2 ^ 32 ∧ g % 2 ^ 64 = gX then 2 else 3 := ⟨_, rfl⟩
  obtain ⟨o, ho⟩ : ∃ o : State, o = c.bistOver r 0 done := ⟨_, rfl⟩
  obtain ⟨⟨h1, h2, h3, h4⟩, hckeeps, -, htime⟩ := s.testCounted_shows _ _ _ _ c hc
  obtain ⟨hresult, hreason, hseq, hdur, hokeeps, -⟩ := c.bistOver_shows r 0 done o ho
  rw [s.bistEnd_eq n nE g gE gX done h hX o (by rw [ho, hc, hr])] at ht
  have hstay : o.resultStay t := by
    rw [ht]
    split
    · exact o.bistState_resultStay 4
    · exact o.bistFinish_resultStay
  refine ⟨?_, ?_, ?_, ?_, ?_, ?_, ?_, ?_, fun hk hu => ?_⟩
  · rw [hstay.2 _ (by decide) (by decide), hokeeps _ (by decide), h1]
  · rw [hstay.2 _ (by decide) (by decide), hokeeps _ (by decide), h2]
  · rw [hstay.2 _ (by decide) (by decide), hokeeps _ (by decide), h3]
  · rw [hstay.2 _ (by decide) (by decide), hokeeps _ (by decide), h4]
  · rw [hstay.2 _ (by decide) (by decide), hresult, hr]
  · rw [hstay.2 _ (by decide) (by decide), hreason]
  · rw [hstay.2 _ (by decide) (by decide), hseq, hckeeps _ (by decide)]
  · rw [hstay.2 _ (by decide) (by decide), hdur, htime]
  · rw [ht, if_pos ⟨hk, hu⟩]
    exact o.bistState_reg 4

theorem State.restore_objs (n : Nat) (r : Region) : (s.restore n r).objs = s.objs ∧ (s.restore n r).spares = s.spares := by
  unfold State.restore
  split
  case h_5 l =>
    have hfold : ∀ (q : List (Nat × SpecChan)) (x : State), (q.foldl (fun s p => s.setSpec p.1 p.2) x).objs = x.objs ∧ (q.foldl (fun s p => s.setSpec p.1 p.2) x).spares = x.spares := by
      intro q
      induction q with
      | nil => exact fun x => ⟨rfl, rfl⟩
      | cons c q ih => exact fun x => ih (x.setSpec c.1 c.2)
    exact hfold _ s
  all_goals exact ⟨rfl, rfl⟩

/-- What stops a test. -/
theorem State.bistStop_shows (reason : Nat) (h0 : s.reg K.BIST_STATE ≠ 0) (h4 : s.reg K.BIST_STATE < 4) (t : State) (ht : t = s.bistStop reason) :
    t.reg K.BIST_RESULT = 4 ∧ t.reg K.BIST_REASON = reason ∧ t.reg K.BIST_SEQ = (s.reg K.BIST_SEQ + 1) % 2 ^ 32 ∧ t.reg K.BIST_TIME = 2 * s.spares.bist.runTicks
    ∧ (2 ≤ s.reg K.BIST_STATE → s.spares.bist.kind ≤ 3 → unitClass s.spares.bist.unit ≠ 5 → t.reg K.BIST_STATE = 4) := by
  have hgo : ¬ (s.reg K.BIST_STATE = 0 ∨ 4 ≤ s.reg K.BIST_STATE) := by omega
  unfold State.bistStop at ht
  rw [if_neg hgo] at ht
  extract_lets b served _ planned r copied _ _ lane idle _ at ht
  obtain ⟨hresult, hreason, hseq, htime, hkeeps, -⟩ := s.bistOver_shows 4 reason false b rfl
  have hplanned : b.resultStay planned := (State.courseStay.of_parts (.refl b) (u := planned) ⟨rfl, rfl, rfl, rfl⟩ rfl).results
  have hcopied : b.resultStay copied := by
    refine hplanned.trans (State.courseStay.results ?_)
    exact (State.courseStay.refl planned).onlyWhen ((planned.putBank_courseStay _ _).trans (State.putBank_courseStay _ _ _))
  have hbusy : b.resultStay (copied.onlyIf r.busy fun s => s.put K.RETIRE_STATE 0) :=
    hcopied.trans (State.courseStay.results ((State.courseStay.refl copied).onlyWhen ((State.courseStay.refl copied).put K.RETIRE_STATE 0 (by decide))))
  have hidle : b.courseStay idle := by
    have hlane : b.courseStay lane := (State.courseStay.refl b).onlyWhen ((State.courseStay.refl b).of_parts ⟨rfl, rfl, rfl, rfl⟩ rfl)
    unfold idle
    split
    · exact hlane
    · exact hlane.trans (lane.bankIdle_courseStay _)
  have hstay : b.resultStay t := by
    clear_value planned copied idle b
    rw [ht]
    split_ifs
    · exact (hbusy.trans (State.courseStay.results (.of_parts (.refl _) ⟨rfl, rfl, rfl, rfl⟩ rfl))).state 0
    · exact hplanned.trans planned.bistBack_resultStay
    · exact hplanned.state 0
    · exact b.bistState_resultStay 4
    · exact b.bistBack_resultStay
    · exact (hidle.of_parts (u := idle.setSpares _) ⟨rfl, rfl, rfl, rfl⟩ rfl).results.state 0
  refine ⟨?_, ?_, ?_, ?_, fun h2 hk hu => ?_⟩
  · rw [hstay.2 _ (by decide) (by decide), hresult]
  · rw [hstay.2 _ (by decide) (by decide), hreason]
  · rw [hstay.2 _ (by decide) (by decide), hseq]
  · rw [hstay.2 _ (by decide) (by decide), htime]
    rfl
  · rw [ht, if_neg (by omega), if_pos (by simp [saves, hk, hu])]
    exact b.bistState_reg 4

/-- The region of a unit that passed a save comes back before the unit is judged. -/
theorem State.bistRestored_eq (h : s.reg K.BIST_STATE = 4) :
    s.bistRestored = ((s.restore s.spares.bist.unit s.spares.bist.saved).setBist { s.spares.bist with saved := .empty }).bistFinish := if_pos h

end


theorem exec_testCmd {s : State} (c : Instr) (u : Fin 16777216) (a : HostAt) (k : Nat) (h : s.mayWrite a.path K.BIST_CMD = true)
    (hc : c = .lbist u a ∧ k = 1 ∨ c = .mbist u a ∧ k = 2 ∨ c = .aloop u a ∧ k = 3 ∨ c = .prbs u a ∧ k = 4 ∨ c = .fuseTest u a ∧ k = 5) :
    exec c s = .next (noteResult a.path (0, s.bistCmd (k * 2 ^ 28 + u))).settle := by
  have hu := u.isLt
  rcases hc with ⟨rfl, rfl⟩ | ⟨rfl, rfl⟩ | ⟨rfl, rfl⟩ | ⟨rfl, rfl⟩ | ⟨rfl, rfl⟩ <;> exact hostWrite_bistCmd s _ a h (by omega)

/-- Settles O45: a command by its refusals in their order; the course by a frame that keeps the results of a test through whatever its unit's leaving its duty
brings, so that what ends the test is what stands in them. -/
theorem selfTests : Obligations.SelfTests := by
  unfold Obligations.SelfTests
  refine ⟨fun s u a h => ?_, fun s r u a c k hand h hc hr hh => ?_, ⟨fun s hc h1 hs hp => ?_, fun s hc h2 => ?_, fun s n nE g gE gX done hc h3 _ _ hX => ?_,
    fun s hc h4 _ _ => ?_, fun s a h _ _ => ?_⟩⟩
  · exact ⟨exec_testCmd _ u a 1 h (.inl ⟨rfl, rfl⟩), exec_testCmd _ u a 2 h (.inr (.inl ⟨rfl, rfl⟩)), exec_testCmd _ u a 3 h (.inr (.inr (.inl ⟨rfl, rfl⟩))),
      exec_testCmd _ u a 4 h (.inr (.inr (.inr (.inl ⟨rfl, rfl⟩)))), exec_testCmd _ u a 5 h (.inr (.inr (.inr (.inr ⟨rfl, rfl⟩))))⟩
  · have hk : k < 16 := by omega
    have hrefuse : ∀ n, s.bistRefuse n = r.put K.BIST_REASON n := fun n => by rw [hr]; rfl
    have hcmd := s.bistCmd_eq k u.val hk u.isLt hand hh
    rw [exec_testCmd c u a k h hc, hcmd, hrefuse, hrefuse, hrefuse, hrefuse, hrefuse]
    refine ⟨fun h0 => by rw [if_pos h0], fun h0 hu => ?_, fun h0 hu hkind => ⟨fun hf => ?_, fun hf hm => ?_, fun hf hm hhand hsp => ?_, fun hf hm hsp => ⟨_, rfl, ?_⟩⟩⟩
    · have hbad : (!unitKnown u || !kindOk k u) = true := by
        rcases hu with hu | hu
        · simp [hu]
        · simp [hu]
      rw [if_neg (not_not.mpr h0), if_pos hbad]
    all_goals have hgood : ¬ (!unitKnown u || !kindOk k u) = true := by simp [hu, hkind]
    · rw [if_neg (not_not.mpr h0), if_neg hgood, if_pos hf]
    · rw [if_neg (not_not.mpr h0), if_neg hgood, if_neg (by simp [hf]), if_pos (by simp [hm])]
    · rw [if_neg (not_not.mpr h0), if_neg hgood, if_neg (by simp [hf]), if_neg (by simp [hm]), if_pos (by simp [hhand, hsp])]
    · have hfree : ¬ (hand && !s.spareFor u) = true := by
        cases hand with
        | true => simp [hsp rfl]
        | false => simp
      rw [if_neg (not_not.mpr h0), if_neg hgood, if_neg (by simp [hf]), if_neg (by simp [hm]), if_neg hfree]
      exact s.testTaken_begins k u.val hand _ rfl
  · have hexec : exec .bistHandoverDone s = .next ((s.setBist { s.spares.bist with handed := true }).bistBegin).settle := by
      have hgo : (s.reg K.BIST_STATE = 1 && s.spareServes s.spares.bist.unit && !s.spares.planned.any (·.1 == s.spares.bist.unit)) = true := by
        have hnone : s.spares.planned.any (·.1 == s.spares.bist.unit) = false := List.any_eq_false.mpr fun p hin => by simp [hp p hin]
        simp [h1, hs, hnone]
      calc exec .bistHandoverDone s = .next (s.core State.bistHanded).settle := rfl
        _ = _ := by rw [s.core_on _ hc, State.bistHanded, if_pos hgo]
    obtain ⟨hbist, hstate, -⟩ := State.bistBegin_shows _ _ rfl
    exact ⟨_, hexec, hbist, hstate⟩
  · calc exec .bistSaveDone s = .next (s.core State.bistSaved).settle := rfl
      _ = _ := by rw [s.core_on _ hc, State.bistSaved, if_pos h2]; rfl
  · have hexec : exec (.bistTestEnd n nE g gE done) s = .next (s.bistEnd n nE g gE done).settle := by
      calc exec (.bistTestEnd n nE g gE done) s = .next (s.core fun s => s.bistEnd n nE g gE done).settle := rfl
        _ = _ := by rw [s.core_on _ hc]
    exact ⟨_, hexec, s.bistEnd_shows n nE g gE gX done h3 hX _ rfl⟩
  · have hexec : exec .bistRestoreDone s = .next s.bistRestored.settle := by
      calc exec .bistRestoreDone s = .next (s.core State.bistRestored).settle := rfl
        _ = _ := by rw [s.core_on _ hc]
    obtain ⟨hobjs, hspares⟩ := s.restore_objs s.spares.bist.unit s.spares.bist.saved
    obtain ⟨x, hx⟩ : ∃ x : State, x = (s.restore s.spares.bist.unit s.spares.bist.saved).setBist { s.spares.bist with saved := .empty } := ⟨_, rfl⟩
    have hxregs : ∀ k, x.reg k = s.reg k := fun k => by rw [hx]; exact State.reg_congr _ _ hobjs k
    have hxspares : x.spares = { s.spares with bist := { s.spares.bist with saved := .empty } } := by
      rw [hx, State.setBist, State.setSpares, hspares]
    have hxauto : x.regBit K.AUTO_RETIRE 1 = s.regBit K.AUTO_RETIRE 1 := by rw [State.regBit, hxregs, State.regBit]
    have hstay := x.bistFinish_resultStay
    have hout : ∀ h : s.spares.bist.handed = true, _ := fun h => x.bistFinish_retires (by rw [hxspares]; exact h)
    have hreturns := x.bistFinish_returns
    have hidles := x.bistFinish_idles
    rw [hxauto, hxspares] at hout hreturns
    rw [hxspares] at hidles
    rw [s.bistRestored_eq h4, ← hx] at hexec
    refine ⟨_, hexec, ?_, fun hu y z hs => ?_, fun hu d hs => ?_, hreturns, fun hh ho ha => hout hh (.inl ⟨ho, ha⟩), fun hh ho => hout hh (.inr ho), hidles⟩
    · rw [hstay.2 _ (by decide) (by decide), hxregs]
    · rw [hstay.1.1, hstay.1.2.1, hx, hs]
      exact ⟨rfl, rfl⟩
    · rw [hstay.1.2.2, hx, hs]
      rfl
  · rw [exec_bistAbort s a h]
    refine ⟨fun hout => ?_, fun h0 h4 => ⟨_, rfl, s.bistStop_shows 0x10 h0 h4 _ rfl⟩⟩
    rw [State.bistStop, if_pos hout]

end Sys2Proof.Machine
end

section
/-! PROOFS. Chapter 16: units fail. -/

namespace Sys2Proof.Machine

/-! ### Names of units -/

theorem unitClass_of (c i : Nat) (h : i < 65536) : unitClass (c * 65536 + i) = c := by
  simp only [unitClass]
  omega

theorem unitInst_of (c i : Nat) (h : i < 65536) : unitInst (c * 65536 + i) = i := by
  simp only [unitInst]
  omega

theorem sliceUnit_class (ch q : Nat) (hc : ch < 48) (hq : q < 9) : unitClass (sliceUnit ch q) = 1 ∧ unitInst (sliceUnit ch q) / 16 = ch ∧ unitInst (sliceUnit ch q) % 16 = q := by
  simp only [unitClass, unitInst, sliceUnit]
  omega

section
variable (s : State)

/-! ### A unit of a pool in service fails (R417, R418) -/

/-- A unit is listed, and one in duty waits for its spare. -/
def State.dutyLost (u : Nat) (duty : Bool) : State :=
  let x := s.listAdd u
  let y := if duty && unitClass u == 3 then x.setSpares { x.spares with failedNow := withBit x.spares.failedNow (unitInst u) true } else x
  if !duty then y else y.setSpares { y.spares with failWait := y.spares.failWait ++ [u], planned := y.spares.planned.filter (·.1 != u) }

theorem State.dutyLost_shows (u : Nat) (duty : Bool) (ho : s.unitOut u = false) (hl : s.spares.list.length < 64) : (s.dutyLost u duty).objs = s.objs
    ∧ (s.dutyLost u duty).spares.list = s.spares.list ++ [u] ∧ (s.dutyLost u duty).spares.failWait = (if duty = true then s.spares.failWait ++ [u] else s.spares.failWait)
    ∧ (duty = true → (s.dutyLost u duty).spares.planned = s.spares.planned.filter (·.1 != u)) := by
  have hlist : (s.listAdd u).spares.list = s.spares.list ++ [u] := if_neg (by
    rw [State.unitOut] at ho
    simp only [ho, Bool.false_eq_true, false_or, not_le]
    exact hl)
  unfold State.dutyLost
  extract_lets x _ y _
  have hy : y.objs = s.objs ∧ y.spares.list = s.spares.list ++ [u] ∧ y.spares.failWait = s.spares.failWait ∧ y.spares.planned = s.spares.planned := by
    unfold y
    split
    · exact ⟨rfl, hlist, rfl, rfl⟩
    · exact ⟨rfl, hlist, rfl, rfl⟩
  obtain ⟨hobjs, hlist, hwait, hplan⟩ := hy
  clear_value y
  cases duty with
  | true => exact ⟨hobjs, hlist, congrArg (· ++ [u]) hwait, fun _ => congrArg (List.filter fun p : Nat × List Nat => p.1 != u) hplan⟩
  | false => exact ⟨hobjs, hlist, hwait, fun h => absurd h (by decide)⟩

/-- Nothing under way concerns the unit that fails. -/
theorem State.unitFail_pooled (u : Nat) (hk : unitKnown u = true) (hc : unitClass u = 1 ∨ unitClass u = 3 ∧ unitInst u < 12 ∨ unitClass u = 4 ∧ unitInst u < 24)
    (ho : s.unitOut u = false) (h0 : s.reg K.BIST_STATE = 0) (hi : s.spares.opStep = .idle) : s.unitFail u = (s.dutyLost u (s.hasDuty u)).putUnit u 4 := by
  have h1 : ¬ (!unitKnown u || !([1, 3, 4, 5, 6, 7, 8].contains (unitClass u)) || (s.unitOut u && !(s.spares.opStep != .idle && s.spares.opUnit == u))) = true := by
    rcases hc with hc | ⟨hc, -⟩ | ⟨hc, -⟩ <;> simp [hk, ho, hc]
  have h2 : ¬ (s.spares.bist.unit == u && s.reg K.BIST_STATE != 0 && s.reg K.BIST_STATE != 5) = true := by simp [h0]
  have h3 : ¬ (s.spares.opStep != .idle && s.spares.opStep != .takeOver && s.spares.opUnit == u) = true := by simp [hi]
  unfold State.unitFail
  extract_lets i duty b testing returning x r _ _ rx _ failed _ waits marked serving stopped p moves _ freed ended _
  rw [if_neg h1, if_neg h2, if_neg h3]
  have ht : testing = false := by simp [testing, h0]
  have hr : returning = false := by simp [returning, hi]
  have hserve : (serving && unitClass u == 3) = false ∧ (serving && unitClass u == 4) = false := by
    simp only [serving]
    rcases hc with hc | ⟨hc, hu⟩ | ⟨hc, hu⟩
    · simp [hc]
    · simp only [hc]
      simp only [i]
      simp
      omega
    · simp only [hc]
      simp only [i]
      simp
      omega
  have hmarked : marked = (s.dutyLost u (s.hasDuty u)).putUnit u 4 := rfl
  have hstopped : stopped = marked := if_neg (by rw [ht]; simp)
  have hfreed : freed = marked := (if_neg (by rw [hserve.1]; decide)).trans ((if_neg (by rw [hserve.2]; decide)).trans hstopped)
  have hended : ended = marked := (if_neg (by rw [ht]; simp)).trans hfreed
  split
  · omega
  · omega
  · omega
  · omega
  · rw [if_neg (by rw [hr]; decide), hended, hmarked]

theorem unitKnown_engine (i : Nat) (h : i < 12) : unitKnown (0x30000 + i) = true ∧ unitClass (0x30000 + i) = 3 ∧ unitInst (0x30000 + i) = i := by
  have hc : unitClass (0x30000 + i) = 3 := unitClass_of 3 i (by omega)
  have hi : unitInst (0x30000 + i) = i := unitInst_of 3 i (by omega)
  refine ⟨?_, hc, hi⟩
  simp only [unitKnown, hc, hi, decide_eq_true_eq]
  omega

theorem unitKnown_pipe (i : Nat) (h : i < 24) : unitKnown (0x40000 + i) = true ∧ unitClass (0x40000 + i) = 4 ∧ unitInst (0x40000 + i) = i := by
  have hc : unitClass (0x40000 + i) = 4 := unitClass_of 4 i (by omega)
  have hi : unitInst (0x40000 + i) = i := unitInst_of 4 i (by omega)
  refine ⟨?_, hc, hi⟩
  simp only [unitKnown, hc, hi, decide_eq_true_eq]
  omega

theorem unitKnown_bank (p : Nat) (h : p < 50) : unitKnown (0x50000 + p) = true ∧ unitClass (0x50000 + p) = 5 ∧ unitInst (0x50000 + p) = p := by
  have hc : unitClass (0x50000 + p) = 5 := unitClass_of 5 p (by omega)
  have hi : unitInst (0x50000 + p) = p := unitInst_of 5 p (by omega)
  refine ⟨?_, hc, hi⟩
  simp only [unitKnown, hc, hi, decide_eq_true_eq]
  omega

theorem unitKnown_slice (ch q : Nat) (hc : ch < 48) (hq : q < 9) : unitKnown (sliceUnit ch q) = true := by
  obtain ⟨h1, h2, h3⟩ := sliceUnit_class ch q hc hq
  simp only [unitKnown, h1, h2, h3, decide_eq_true_eq]
  omega

/-- An engine or a pipeline in duty fails: it reads FAILED and waits for its spare. -/
theorem State.unitFail_marks (u k : Nat) (hk : unitKnown u = true) (hc : unitClass u = 3 ∧ unitInst u < 12 ∧ k = K.EE_STATE (unitInst u)
      ∨ unitClass u = 4 ∧ unitInst u < 24 ∧ k = K.SP_STATE (unitInst u)) (ho : s.unitOut u = false) (hl : s.spares.list.length < 64) (h0 : s.reg K.BIST_STATE = 0)
    (hi : s.spares.opStep = .idle) (hs : s.reg k = 0) : (s.unitFail u).reg k = 4 ∧ s.keeps (s.unitFail u) [k] ∧ (s.unitFail u).spares.list = s.spares.list ++ [u]
      ∧ (s.unitFail u).spares.failWait = s.spares.failWait ++ [u] ∧ (s.unitFail u).spares.planned = s.spares.planned.filter (·.1 != u) := by
  have hduty : s.hasDuty u = true := by
    unfold State.hasDuty
    rcases hc with ⟨hc, hlt, rfl⟩ | ⟨hc, hlt, rfl⟩
    · simp only [hc, hs, beq_self_eq_true, ite_eq_right_iff]
      omega
    · simp only [hc, hs, beq_self_eq_true, ite_eq_right_iff]
      omega
  have hput : ∀ x : State, x.putUnit u 4 = x.put k 4 := fun x => by
    unfold State.putUnit
    rcases hc with ⟨hc, -, rfl⟩ | ⟨hc, -, rfl⟩
    · simp only [hc]
    · simp only [hc]
  obtain ⟨hobjs, hlist, hwait, hplan⟩ := s.dutyLost_shows u true ho hl
  rw [s.unitFail_pooled u hk (.inr (hc.imp (fun h => ⟨h.1, h.2.1⟩) fun h => ⟨h.1, h.2.1⟩)) ho h0 hi, hduty, hput]
  exact ⟨State.reg_put_self _ _ _, ((State.keeps.refl s _).of_objs hobjs).put _ _ (by simp), hlist, hwait, hplan rfl⟩

/-- A slice fails. -/
theorem State.unitFail_slice (ch q : Nat) (hc : ch < 48) (hq : q < 9) (ho : s.unitOut (sliceUnit ch q) = false) (hl : s.spares.list.length < 64) (h0 : s.reg K.BIST_STATE = 0)
    (hi : s.spares.opStep = .idle) : (s.unitFail (sliceUnit ch q)).spares.list = s.spares.list ++ [sliceUnit ch q] ∧ s.keeps (s.unitFail (sliceUnit ch q)) []
      ∧ (s.unitFail (sliceUnit ch q)).spares.failWait = (if s.shadowSlice ch = q then s.spares.failWait else s.spares.failWait ++ [sliceUnit ch q]) := by
  obtain ⟨h1, h2, h3⟩ := sliceUnit_class ch q hc hq
  have hduty : s.hasDuty (sliceUnit ch q) = (s.shadowSlice ch != q) := by simp only [State.hasDuty, h1, h2, h3]
  have hput : ∀ x : State, x.putUnit (sliceUnit ch q) 4 = x := fun x => by simp only [State.putUnit, h1]
  obtain ⟨hobjs, hlist, hwait, -⟩ := s.dutyLost_shows (sliceUnit ch q) (s.shadowSlice ch != q) ho hl
  rw [s.unitFail_pooled _ (unitKnown_slice ch q hc hq) (.inl h1) ho h0 hi, hduty, hput]
  refine ⟨hlist, (State.keeps.refl s _).of_objs hobjs, hwait.trans ?_⟩
  by_cases h : s.shadowSlice ch = q
  · rw [if_neg (by simp [h]), if_pos h]
  · rw [if_pos (by simp [h]), if_neg h]

/-! ### A bank fails (R244, R245) -/

/-- A bank fails that no copy concerns. -/
theorem State.unitFail_bank (p : Nat) (hp : p < 50) (ho : s.unitOut (0x50000 + p) = false) (h0 : s.reg K.BIST_STATE = 0) (hi : s.spares.opStep = .idle) (hb : s.fs.retire.busy = false) :
    (s.logicalOf p = none → s.unitFail (0x50000 + p) = (s.listAdd (0x50000 + p)).put (K.BANK_STATE p) 6)
    ∧ ∀ b, s.logicalOf p = some b → s.unitFail (0x50000 + p) = (s.listAdd (0x50000 + p)).bankFailed p b false := by
  obtain ⟨hk, hc, hu⟩ := unitKnown_bank p hp
  have h1 : ¬ (!unitKnown (0x50000 + p) || !([1, 3, 4, 5, 6, 7, 8].contains (unitClass (0x50000 + p)))
      || (s.unitOut (0x50000 + p) && !(s.spares.opStep != .idle && s.spares.opUnit == 0x50000 + p))) = true := by simp [hk, ho, hc]
  have h2 : ¬ (s.spares.bist.unit == 0x50000 + p && s.reg K.BIST_STATE != 0 && s.reg K.BIST_STATE != 5) = true := by simp [h0]
  have h3 : ¬ (s.spares.opStep != .idle && s.spares.opStep != .takeOver && s.spares.opUnit == 0x50000 + p) = true := by simp [hi]
  have hbusy : (s.listAdd (0x50000 + p)).fs.retire.busy = false := hb
  have hlog : (s.listAdd (0x50000 + p)).logicalOf p = s.logicalOf p := rfl
  unfold State.unitFail
  extract_lets i duty b testing returning x r
  rw [if_neg h1, if_neg h2, if_neg h3]
  have ht : testing = false := by simp [testing, h0]
  have hin : i = p := hu
  have hr : r.busy = false := hbusy
  have hx : x.logicalOf i = s.logicalOf p := by rw [hin]; exact hlog
  have hrun : ¬ (r.busy && !r.draining && r.target == i) = true ∧ ¬ (r.busy && r.source == i) = true := by simp [hr]
  have hxv : x = s.listAdd (0x50000 + p) := rfl
  refine ⟨fun h => ?_, fun b h => ?_⟩
  · simp only [hc, hrun.1, hrun.2, hx, h, Bool.false_eq_true, if_false]
    rw [hxv, hin]
  · simp only [hc, hrun.1, hrun.2, hx, h, Bool.false_eq_true, if_false]
    rw [hxv, hin, ht]

/-- A failed bank moves to the lowest spare one, or its contents are lost. -/
theorem State.bankFailed_open (p b : Nat) (hb : b < 48) (hbusy : s.fs.retire.busy = false) (hs : s.reg K.RETIRE_STATE = 0 ∨ s.reg K.RETIRE_STATE = 4) :
    (∀ q l, s.spareBanks = q :: l → s.bankFailed p b false = s.bankMove b q 6) ∧ (s.spareBanks = [] → s.bankFailed p b false = (s.bankLost b).put (K.BANK_STATE p) 6) := by
  have hopen : s.retireOpen = true := by
    rcases hs with hs | hs
    · simp [State.retireOpen, hbusy, hs]
    · simp [State.retireOpen, hbusy, hs]
  have hfree : (!s.fs.retire.busy && (s.reg K.RETIRE_STATE == 0 || s.reg K.RETIRE_STATE == 4)) = true := hopen
  have hfailed : s.bankFailed p b false = if (!s.spareBanks.isEmpty) = true then s.bankRetireAs b 6 else (s.bankLost b).put (K.BANK_STATE p) 6 := by
    unfold State.bankFailed
    simp [hopen]
  refine ⟨fun q l hl => ?_, fun hl => ?_⟩
  · rw [hfailed, hl, if_pos (by simp), State.bankRetireAs, if_neg (by omega), hl]
    exact if_pos hfree
  · rw [hfailed, hl]
    exact if_neg (by simp)

theorem State.bankLost_shows (b p : Nat) (hp : s.reg (K.BANK_MAP b) = p) (h255 : p ≠ 255) (hb : b < 48) : (s.bankLost b).reg (K.BANK_MAP b) = 255
    ∧ s.keeps (s.bankLost b) [K.BANK_MAP b, K.FS_FRAMES] ∧ (s.bankLost b).spares.list = s.spares.list := by
  have hne : K.BANK_MAP b ≠ K.FS_FRAMES := by simp only [K.BANK_MAP, K.FS_FRAMES]; omega
  have hregs : ∀ k, (s.bankLost b).reg k = ((s.put (K.BANK_MAP b) 255).put K.FS_FRAMES (s.reg K.FS_FRAMES - 64)).reg k := fun k => by
    rw [State.bankLost, hp, if_neg h255]
    rfl
  refine ⟨?_, fun k hk => ?_, ?_⟩
  · rw [hregs, State.reg_put_ne _ _ _ _ hne, State.reg_put_self]
  · rw [hregs]
    exact ((State.keeps.refl s [K.BANK_MAP b, K.FS_FRAMES]).put _ _ (by simp)).put _ _ (by simp) k hk
  · rw [State.bankLost, hp, if_neg h255]
    rfl

end

end Sys2Proof.Machine
end

section
/-! PROOFS. Chapter 16: retirement on request, and returns. -/

namespace Sys2Proof.Machine

/-! ### UNIT_RETIRE and UNIT_RETURN (R418, R421) -/

theorem objRow_unitOp : ∀ k ∈ [K.UNIT_RETIRE, K.UNIT_RETURN], ∃ r, objRow? k = some r ∧ (r.acc == .rws) = false := by
  have h : ([K.UNIT_RETIRE, K.UNIT_RETURN].all fun k => (objRow? k).any fun r => !(r.acc == .rws)) = true := by decide
  intro k hk
  obtain ⟨r, hr, ha⟩ := (Option.any_eq_true _ _).mp (List.all_eq_true.mp h k hk)
  exact ⟨r, hr, by simpa using ha⟩

theorem exec_unitRetire (s : State) (w : HostWrite) (h : s.accepts K.UNIT_RETIRE w = true) :
    exec (.unitRetire w) s = .next (noteResult w.path (0, s.unitRetire (ofLe w.data))).settle := by
  obtain ⟨r, hr, hs⟩ := objRow_unitOp K.UNIT_RETIRE (by simp)
  calc exec (.unitRetire w) s = .next (s.hostWrite K.UNIT_RETIRE w).settle := rfl
    _ = _ := by rw [s.hostWrite_accepted _ w r hr hs h]; rfl

theorem exec_unitReturn (s : State) (w : HostWrite) (h : s.accepts K.UNIT_RETURN w = true) :
    exec (.unitReturn w) s = .next (noteResult w.path (0, s.unitReturn (ofLe w.data))).settle := by
  obtain ⟨r, hr, hs⟩ := objRow_unitOp K.UNIT_RETURN (by simp)
  calc exec (.unitReturn w) s = .next (s.hostWrite K.UNIT_RETURN w).settle := rfl
    _ = _ := by rw [s.hostWrite_accepted _ w r hr hs h]; rfl

section
variable (s : State)

theorem State.unitOp_busy (u : Nat) (h : s.spares.opStep ≠ .idle ∨ s.reg K.BIST_STATE = 5) :
    s.unitRetire u = s.put K.SPARE_OP_RESULT 4 ∧ s.unitReturn u = s.put K.SPARE_OP_RESULT 4 := by
  have hbusy : (s.spares.opStep != .idle || s.reg K.BIST_STATE == 5) = true := by
    rcases h with h | h
    · simp [h]
    · simp [h]
  exact ⟨if_pos hbusy, if_pos hbusy⟩

/-- With nothing under way a unit that is known, in service, in duty and not under test retires where its pool has a spare. -/
theorem State.unitRetire_open (u : Nat) (hi : s.spares.opStep = .idle) (h5 : s.reg K.BIST_STATE ≠ 5) :
    s.unitRetire u = if (unitKnown u && !s.unitOut u && s.hasDuty u && !s.underTest u) = false then s.put K.SPARE_OP_RESULT 1
      else if (spared u && s.spareFor u) = false then s.put K.SPARE_OP_RESULT 2
      else ((s.planTakeOver u).put K.SPARE_OP_STATE 1).setSpares { (s.planTakeOver u).spares with opUnit := u, opStep := .takeOver } := by
  have hfree : ¬ (s.spares.opStep != .idle || s.reg K.BIST_STATE == 5) = true := by simp [hi, h5]
  rw [State.unitRetire, if_neg hfree]
  refine if_congr ?_ rfl (if_congr ?_ rfl rfl)
  · cases unitKnown u <;> cases s.unitOut u <;> cases s.hasDuty u <;> cases s.underTest u <;> decide
  · cases spared u <;> cases s.spareFor u <;> decide

theorem State.unitReturn_open (u : Nat) (hi : s.spares.opStep = .idle) (h5 : s.reg K.BIST_STATE ≠ 5) :
    s.unitReturn u = if (s.unitOut u && !s.fuseRetired u && s.spares.passed.contains u && !s.underTest u) = true then s.returnStart u else s.put K.SPARE_OP_RESULT 1 := by
  have hfree : ¬ (s.spares.opStep != .idle || s.reg K.BIST_STATE == 5) = true := by simp [hi, h5]
  exact if_neg hfree

theorem State.planTakeOver_plans (u : Nat) (h : spared u = true) (hc : unitClass u < 5) : ∃ q, (s.planTakeOver u).spares.planned = s.spares.planned ++ [(u, q)] := by
  have hclass : unitClass u = 1 ∨ unitClass u = 3 ∨ unitClass u = 4 := by
    simp only [spared, List.contains_cons, List.contains_nil, Bool.or_false, Bool.or_eq_true, beq_iff_eq] at h
    omega
  unfold State.planTakeOver
  rcases hclass with hclass | hclass | hclass <;> simp only [hclass] <;> exact ⟨_, rfl⟩

/-! ### An operation ends (R419, R420) -/

theorem State.opDone_shows (n : Nat) (t : State) (ht : t = s.opDone n) : t.reg K.SPARE_OP_STATE = 0 ∧ t.reg K.SPARE_OP_RESULT = n
    ∧ s.keeps t [K.SPARE_OP_STATE, K.SPARE_OP_RESULT, K.BIST_STATE] ∧ t.spares = { s.spares with opStep := .idle, left := 0 } := by
  obtain ⟨x, hx⟩ : ∃ x : State, x = ((s.setSpares { s.spares with opStep := .idle, left := 0 }).put K.SPARE_OP_STATE 0).put K.SPARE_OP_RESULT n := ⟨_, rfl⟩
  have hxs : x.reg K.SPARE_OP_STATE = 0 ∧ x.reg K.SPARE_OP_RESULT = n ∧ s.keeps x [K.SPARE_OP_STATE, K.SPARE_OP_RESULT, K.BIST_STATE]
      ∧ x.spares = { s.spares with opStep := .idle, left := 0 } := by
    rw [hx]
    refine ⟨?_, State.reg_put_self _ _ _, ?_, rfl⟩
    · rw [State.reg_put_ne _ _ _ _ (by decide), State.reg_put_self]
    · exact (((State.keeps.refl s _).of_objs (u := s.setSpares { s.spares with opStep := .idle, left := 0 }) rfl).put K.SPARE_OP_STATE 0 (by simp)).put K.SPARE_OP_RESULT n (by simp)
  have hd : s.opDone n = if x.reg K.BIST_STATE = 5 ∧ x.spares.bist.unit = s.spares.opUnit then x.put K.BIST_STATE 0 else x := by
    rw [hx]
    rfl
  obtain ⟨h1, h2, h3, h4⟩ := hxs
  rw [ht, hd]
  split
  · exact ⟨(x.reg_put_ne _ _ _ (by decide)).trans h1, (x.reg_put_ne _ _ _ (by decide)).trans h2, h3.put _ _ (by simp), h4⟩
  · exact ⟨h1, h2, h3, h4⟩

theorem State.unitOut_listDel (u : Nat) : (s.listDel u).unitOut u = false := by
  have h : (s.listDel u).spares.list = s.spares.list.filter (· != u) := rfl
  rw [State.unitOut, h, List.contains_eq_mem]
  simp

/-- The unit that an operation brings back is back. -/
theorem State.returned_shows (u : Nat) (hi : s.spares.opStep ≠ .idle) (hu : s.spares.opUnit = u) (t : State) (ht : t = s.returned u) : t.reg K.SPARE_OP_STATE = 0
    ∧ t.reg K.SPARE_OP_RESULT = 0 ∧ t.reg K.RETURNS = min (s.reg K.RETURNS + 1) (2 ^ 32 - 1) ∧ t.spares.opStep = .idle ∧ t.unitOut u = false
    ∧ s.keeps t [K.RETURNS, K.SPARE_OP_STATE, K.SPARE_OP_RESULT, K.BIST_STATE] := by
  obtain ⟨x, hx⟩ : ∃ x : State, x = (s.listDel u).count K.RETURNS := ⟨_, rfl⟩
  have hxs : x.spares = (s.listDel u).spares ∧ x.reg K.RETURNS = min (s.reg K.RETURNS + 1) (2 ^ 32 - 1) ∧ s.keeps x [K.RETURNS, K.SPARE_OP_STATE, K.SPARE_OP_RESULT, K.BIST_STATE] := by
    rw [hx]
    exact ⟨rfl, State.reg_put_self _ _ _, ((State.keeps.refl s _).of_objs (u := s.listDel u) rfl).put K.RETURNS _ (by simp)⟩
  obtain ⟨hspares, hcount, hkeeps⟩ := hxs
  have hdone : s.returned u = x.opDone 0 := by
    have hgo : (x.spares.opStep != .idle && x.spares.opUnit == u) = true := by
      have h1 : x.spares.opStep = s.spares.opStep := by rw [hspares]; rfl
      have h2 : x.spares.opUnit = s.spares.opUnit := by rw [hspares]; rfl
      simp [h1, h2, hi, hu]
    rw [State.returned, ← hx]
    exact if_pos hgo
  rw [hdone] at ht
  obtain ⟨h1, h2, h3, h4⟩ := x.opDone_shows 0 t ht
  refine ⟨h1, h2, (h3 _ (by decide)).trans hcount, by rw [h4], ?_, hkeeps.trans (h3.mono (by simp))⟩
  have hlist : t.spares.list = (s.listDel u).spares.list := by rw [h4, hspares]
  rw [State.unitOut, hlist]
  exact s.unitOut_listDel u

/-- The shadow phase ends with a mismatch. -/
theorem State.shadowMismatch_shows (u : Nat) (hu : u = s.spares.opUnit) (hk : unitKnown u = true) (t : State) (ht : t = s.shadowMismatch) : t.reg K.SPARE_OP_RESULT = 3
    ∧ t.reg K.SPARE_OP_STATE = 0 ∧ t.spares.opStep = .idle ∧ t.reg K.RETURN_MISMATCH = min (s.reg K.RETURN_MISMATCH + 1) (2 ^ 32 - 1)
    ∧ (s.spares.list.length < 64 → t.unitOut u = true) ∧ (unitClass u = 3 → t.reg (K.EE_STATE (unitInst u)) = 4) ∧ (unitClass u = 4 → t.reg (K.SP_STATE (unitInst u)) = 4) := by
  obtain ⟨x, hx⟩ : ∃ x : State, x = (s.putUnit u 4).setSpares { s.spares with passed := s.spares.passed.filter (· != u) } := ⟨_, rfl⟩
  have hxs : x.spares.list = s.spares.list ∧ ∀ k, x.reg k = (s.putUnit u 4).reg k := by
    rw [hx]
    exact ⟨rfl, fun _ => rfl⟩
  have heq : s.shadowMismatch = ((x.listAdd u).count K.RETURN_MISMATCH).opDone 3 := by
    rw [hx, hu]
    rfl
  rw [heq] at ht
  obtain ⟨h1, h2, h3, h4⟩ := State.opDone_shows _ 3 t ht
  have hinst : (unitClass u = 3 → unitInst u < 13) ∧ (unitClass u = 4 → unitInst u < 26) := by
    constructor
    · intro hc
      simpa [unitKnown, hc] using hk
    · intro hc
      simpa [unitKnown, hc] using hk
  have hcount : ∀ k, k ≠ K.RETURN_MISMATCH → ((x.listAdd u).count K.RETURN_MISMATCH).reg k = (s.putUnit u 4).reg k := fun k hk' =>
    ((x.listAdd u).reg_put_ne _ _ _ hk').trans (hxs.2 k)
  refine ⟨h2, h1, by rw [h4], ?_, fun hl => ?_, fun hc => ?_, fun hc => ?_⟩
  · have hkept : (s.putUnit u 4).reg K.RETURN_MISMATCH = s.reg K.RETURN_MISMATCH := by
      unfold State.putUnit
      split
      · exact s.reg_put_ne _ _ _ (by simp only [K.EE_STATE, K.RETURN_MISMATCH, unitInst]; omega)
      · exact s.reg_put_ne _ _ _ (by simp only [K.SP_STATE, K.RETURN_MISMATCH, unitInst]; omega)
      · rfl
    rw [h3 _ (by decide), ← hkept, ← hxs.2]
    exact State.reg_put_self _ _ _
  · have hlist : t.unitOut u = (x.listAdd u).unitOut u := by
      rw [State.unitOut, h4]
      rfl
    rw [hlist]
    exact x.unitOut_listAdd u (by rw [hxs.1]; exact hl)
  · have := hinst.1 hc
    have hkey : K.EE_STATE (unitInst u) ∉ [K.SPARE_OP_STATE, K.SPARE_OP_RESULT, K.BIST_STATE] := by
      simp only [List.mem_cons, List.not_mem_nil, or_false, K.EE_STATE, K.SPARE_OP_STATE, K.SPARE_OP_RESULT, K.BIST_STATE]
      omega
    rw [h3 _ hkey, hcount _ (by simp only [K.EE_STATE, K.RETURN_MISMATCH]; omega)]
    simp only [State.putUnit, hc]
    exact State.reg_put_self _ _ _
  · have := hinst.2 hc
    have hkey : K.SP_STATE (unitInst u) ∉ [K.SPARE_OP_STATE, K.SPARE_OP_RESULT, K.BIST_STATE] := by
      simp only [List.mem_cons, List.not_mem_nil, or_false, K.SP_STATE, K.SPARE_OP_STATE, K.SPARE_OP_RESULT, K.BIST_STATE]
      omega
    rw [h3 _ hkey, hcount _ (by simp only [K.SP_STATE, K.RETURN_MISMATCH]; omega)]
    simp only [State.putUnit, hc]
    exact State.reg_put_self _ _ _

/-! ### Banks return (R408, R419) -/

/-- A bank's return starts once nothing is under way: to the logical bank it left, or among the spares. -/
theorem State.returnTry_bank (p : Nat) (hp : p < 50) (hw : s.spares.opStep = .wait) (hu : s.spares.opUnit = 0x50000 + p) (hb : s.fs.retire.busy = false)
    (hs : s.reg K.RETIRE_STATE = 0 ∨ s.reg K.RETIRE_STATE = 4) :
    (∀ b, s.bankDuty p = some b →
      s.returnTry = (s.bankMove b p (if s.unitOut (0x50000 + s.reg (K.BANK_MAP b)) = true then 6 else 1)).setSpares { s.spares with opStep := .moving })
    ∧ (s.bankDuty p = none → s.returnTry = (s.put (K.BANK_STATE p) 1).returned (0x50000 + p)) := by
  obtain ⟨-, hc, hi⟩ := unitKnown_bank p hp
  have hopen : s.retireOpen = true := by
    rcases hs with hs | hs
    · simp [State.retireOpen, hb, hs]
    · simp [State.retireOpen, hb, hs]
  have hwait : ¬ (s.spares.opStep != .wait) = true := by simp [hw]
  have hbusy : ¬ s.fs.retire.busy = true := by simp [hb]
  have hshut : ¬ (!s.retireOpen) = true := by simp [hopen]
  unfold State.returnTry
  rw [if_neg hwait]
  simp only [hu, hc, hi, if_neg hbusy, if_neg hshut]
  exact ⟨fun b h => by simp only [h], fun h => by simp only [h]⟩

theorem State.bankDuty_of (p b : Nat) (h : storeGet s.spares.served p = some b ∧ (s.reg (K.BANK_MAP b) ≠ b ∨ p = b) ∨ storeGet s.spares.served p = none ∧ p < 48 ∧ p = b) :
    s.bankDuty p = some b := by
  unfold State.bankDuty
  rcases h with ⟨h, hb⟩ | ⟨h, hp, rfl⟩
  · simp only [h]
    exact if_neg fun hc => hb.elim (fun h => h hc.1) fun h => hc.2 h
  · simp only [h]
    exact if_pos hp

/-- A bank that moved back is back. -/
theorem State.opCheck_moved (p : Nat) (hp : p < 50) (hm : s.spares.opStep = .moving) (hu : s.spares.opUnit = 0x50000 + p) (hb : s.fs.retire.busy = false) (hl : s.logicalOf p ≠ none) :
    s.opCheck = s.returned (0x50000 + p) := by
  obtain ⟨-, hc, hi⟩ := unitKnown_bank p hp
  have hback : (if unitClass (0x50000 + p) = 5 then (s.logicalOf (unitInst (0x50000 + p))).isSome && !s.fs.retire.busy else (s.lanePos (unitInst (0x50000 + p))).isSome) = true := by
    rw [if_pos hc, hi, hb]
    simpa using Option.isSome_iff_ne_none.mpr hl
  simp only [State.opCheck, hm, hu]
  exact if_pos hback

end

end Sys2Proof.Machine
end

section
/-! PROOFS. Chapter 16: shadow phases, and units out and back. -/

namespace Sys2Proof.Machine

/-! ### A slice takes its positions back (R109, R419) -/

/-- A hexadecimal digit that is replaced. -/
theorem digit_replaced (m q v p : Nat) (hv : v < 16) :
    (m - m / 16 ^ q % 16 * 16 ^ q + v * 16 ^ q) / 16 ^ p % 16 = if p = q then v else m / 16 ^ p % 16 := by
  obtain ⟨l, hl⟩ : ∃ l, l = m % 16 ^ q := ⟨_, rfl⟩
  obtain ⟨h, hh⟩ : ∃ h, h = m / 16 ^ q / 16 := ⟨_, rfl⟩
  obtain ⟨d, hd⟩ : ∃ d, d = m / 16 ^ q % 16 := ⟨_, rfl⟩
  have hpos : 0 < 16 ^ q := by positivity
  have hlt : l < 16 ^ q := hl ▸ Nat.mod_lt _ hpos
  have hm : m = 16 ^ q * (16 * h + d) + l := by
    rw [hl, hh, hd, Nat.div_add_mod, Nat.div_add_mod]
  have hnew : m - d * 16 ^ q + v * 16 ^ q = 16 ^ q * (16 * h + v) + l := by
    rw [hm, Nat.mul_add, Nat.mul_add, Nat.mul_comm d, Nat.mul_comm v]
    omega
  have hquot : ∀ x, (16 ^ q * x + l) / 16 ^ q = x := fun x => by rw [Nat.mul_add_div hpos, Nat.div_eq_of_lt hlt, Nat.add_zero]
  have hd16 : d < 16 := hd ▸ Nat.mod_lt _ (by decide)
  rw [← hd, hnew]
  rcases Nat.lt_trichotomy p q with hp | rfl | hp
  · obtain ⟨r, rfl⟩ : ∃ r, q = p + 1 + r := ⟨q - (p + 1), by omega⟩
    have hlow : ∀ x, (16 ^ (p + 1 + r) * x + l) / 16 ^ p % 16 = l / 16 ^ p % 16 := fun x => by
      have hsplit : 16 ^ (p + 1 + r) * x = 16 ^ p * (16 * (16 ^ r * x)) := by ring
      rw [hsplit, Nat.mul_add_div (by positivity), Nat.mul_add_mod]
    rw [if_neg (by omega), hlow, hm, hlow]
  · rw [if_pos rfl, hquot]
    omega
  · obtain ⟨r, rfl⟩ : ∃ r, p = q + 1 + r := ⟨p - (q + 1), by omega⟩
    have hhigh : ∀ c, c < 16 → (16 ^ q * (16 * h + c) + l) / 16 ^ (q + 1 + r) = h / 16 ^ r := fun c hc => by
      rw [pow_add, pow_succ, ← Nat.div_div_eq_div_mul, ← Nat.div_div_eq_div_mul, hquot]
      congr 1
      omega
    rw [if_neg (by omega), hhigh v hv, hm, hhigh d hd16]

section
variable (s : State)

theorem State.sliceAt_eq (ch p : Nat) : s.sliceAt ch p = s.reg (K.SLICE_MAP ch) / 16 ^ p % 16 := by
  have h16 : (16 : Nat) ^ p = 2 ^ (4 * p) := by
    rw [pow_mul]
    norm_num
  have hw : 4 * p + 3 + 1 - 4 * p = 4 := by omega
  rw [h16, State.sliceAt, bits, hw]
  norm_num

theorem State.calSwap_shows (ch : Nat) : (s.calSwap ch).spares = s.spares ∧ s.keeps (s.calSwap ch) [K.CAL_RESTORE, K.CAL_UNSETTLED] := by
  unfold State.calSwap
  extract_lets mine k
  obtain ⟨u, hu⟩ : ∃ u : State, u = (s.setChanStats ch ((((k.noOffsets false).noOffsets true).noSkews false).noSkews true)).unsettle mine := ⟨_, rfl⟩
  have hparts : u.spares = s.spares ∧ u.objs = s.objs := by
    rw [hu]
    exact ⟨rfl, rfl⟩
  rw [← hu]
  exact ⟨hparts.1, (((State.keeps.refl s _).of_objs hparts.2).put K.CAL_UNSETTLED _ (by simp)).put K.CAL_RESTORE _ (by simp)⟩

/-- A slice in its shadow phase takes back the position that the slice there holds. -/
theorem State.takeBack_slice (ch q : Nat) (hc : ch < 48) (hq : q < 8) (hs : s.shadowSlice ch = q) (hfirst : ∀ p, p < q → s.sliceAt ch p ≠ s.sliceAt ch q) (t : State)
    (ht : t = s.takeBack (sliceUnit ch q) false 11200) : t.sliceAt ch q = q ∧ (∀ p, p < 8 → p ≠ q → t.sliceAt ch p = s.sliceAt ch p) ∧ t.spares = s.spares
    ∧ s.keeps t [K.SLICE_MAP ch, K.CAL_RESTORE, K.CAL_UNSETTLED] := by
  obtain ⟨h1, h2, h3⟩ := sliceUnit_class ch q hc (by omega)
  have hback : s.takeBack (sliceUnit ch q) false 11200 = s.sliceSwap ch (s.sliceAt ch q) := by
    have h4 : ¬ (s.reg (K.CH_STATE ch) = 3 ∧ s.shadowSlice ch ≠ q) := fun h => h.2 hs
    have h5 : (decide (q < 8) && s.shadowSlice ch == q) = true := by simp [hq, hs]
    simp only [State.takeBack, h1, h2, h3, if_neg h4, h5, if_true]
  have hfind : (List.range 8).find? (fun p => s.sliceAt ch p == s.sliceAt ch q) = some q := by
    rw [List.find?_range_eq_some]
    exact ⟨by simp, by simpa using hq, fun j hj => by simpa using hfirst j hj⟩
  obtain ⟨m, hm⟩ : ∃ m, m = s.reg (K.SLICE_MAP ch) := ⟨_, rfl⟩
  obtain ⟨x, hx⟩ : ∃ x : State, x = s.put (K.SLICE_MAP ch) (m - m / 16 ^ q % 16 * 16 ^ q + q * 16 ^ q) := ⟨_, rfl⟩
  have hswap : s.sliceSwap ch (s.sliceAt ch q) = x.calSwap ch := by
    rw [hx, State.sliceSwap, hfind, hs, hm, ← s.sliceAt_eq]
  obtain ⟨hspares, hkeeps⟩ := x.calSwap_shows ch
  have hmap : (x.calSwap ch).reg (K.SLICE_MAP ch) = m - m / 16 ^ q % 16 * 16 ^ q + q * 16 ^ q := by
    have hkey : K.SLICE_MAP ch ∉ [K.CAL_RESTORE, K.CAL_UNSETTLED] := by
      simp only [List.mem_cons, List.not_mem_nil, or_false, K.SLICE_MAP, K.CAL_RESTORE, K.CAL_UNSETTLED]
      omega
    rw [hkeeps _ hkey, hx]
    exact State.reg_put_self _ _ _
  have hdigit : ∀ p, (x.calSwap ch).sliceAt ch p = if p = q then q else s.sliceAt ch p := fun p => by
    rw [State.sliceAt_eq, hmap, digit_replaced m q q p (by omega), s.sliceAt_eq, hm]
  rw [ht, hback, hswap]
  refine ⟨(hdigit q).trans (if_pos rfl), fun p _ hp => (hdigit p).trans (if_neg hp), ?_, ?_⟩
  · rw [hspares, hx]
    rfl
  · have hput : s.keeps x [K.SLICE_MAP ch, K.CAL_RESTORE, K.CAL_UNSETTLED] := by
      rw [hx]
      exact (State.keeps.refl s _).put _ _ (by simp)
    exact hput.trans (hkeeps.mono (by simp))

/-- An engine takes its channels back. -/
theorem State.takeBack_engine (i : Nat) (hi : i < 12) (he : s.reg K.EE12_FOR = i) :
    s.takeBack (0x30000 + i) false 11200 = (s.put (K.EE_STATE i) 0).put K.EE12_FOR 255 := by
  obtain ⟨-, hc, hu⟩ := unitKnown_engine i hi
  have hfor : (s.put (K.EE_STATE i) 0).reg K.EE12_FOR = i := by
    rw [State.reg_put_ne _ _ _ _ (by simp only [K.EE12_FOR, K.EE_STATE]; omega), he]
  have hgo : (decide (i < 12) && (s.put (K.EE_STATE i) 0).reg K.EE12_FOR == i) = true := by simp [hi, hfor]
  simp only [State.takeBack, hc, hu, hgo, if_true, Bool.false_eq_true, if_false]

/-! ### The rows of the shadow phase (R419) -/

theorem exec_shadowPhaseStart (ht : s.ticking = true) (hw : s.spares.opStep = .wait) (v : State) (hv : v = s.atTick) :
    exec .shadowPhaseStart s = .next (v.shadowStart 11200).settle := by
  calc exec .shadowPhaseStart s = .next (s.tickRow (s.spares.opStep == .wait) fun s => s.shadowStart 11200).settle := rfl
    _ = _ := by rw [s.tickRow_due _ _ (by simp [hw]) ht, hv, State.atTick]

theorem exec_shadowPhaseEnd (ht : s.ticking = true) (hw : s.spares.opStep = .shadow) (v : State) (hv : v = s.atTick) :
    exec .shadowPhaseEnd s = .next (v.shadowEnd 11200).settle := by
  calc exec .shadowPhaseEnd s = .next (s.tickRow (s.spares.opStep == .shadow) fun s => s.shadowEnd 11200).settle := rfl
    _ = _ := by rw [s.tickRow_due _ _ (by simp [hw]) ht, hv, State.atTick]

/-- A unit that no spare serves needs no shadow phase. -/
theorem State.shadowStart_back (u : Nat) (hw : s.spares.opStep = .wait) (hu : s.spares.opUnit = u) (hc : unitClass u = 16 ∨ unitClass u = 10) :
    s.shadowStart 11200 = s.returned u := by
  have hserve : s.spareServes u = false := by
    rcases hc with hc | hc <;> simp only [State.spareServes, hc]
  have hback : s.takeBack u false 11200 = s := by
    rcases hc with hc | hc <;> simp only [State.takeBack, hc]
  have h1 : ¬ (s.spares.opStep != .wait || [5, 6, 7].contains (unitClass u)) = true := by
    rcases hc with hc | hc <;> simp [hw, hc]
  have h2 : (!s.comet.running || !s.spareServes u || (unitChans u).isEmpty || (unitClass u == 1 && unitInst u % 16 == 8)) = true := by simp [hserve]
  rw [State.shadowStart, hu]
  rw [if_neg h1, if_pos h2, hback]

/-- The shadow phase of a unit that its spare serves begins between its groups. -/
theorem State.shadowStart_begins (u : Nat) (hw : s.spares.opStep = .wait) (hu : s.spares.opUnit = u) (hc : unitClass u = 1 ∧ unitInst u % 16 ≠ 8 ∨ unitClass u = 3)
    (hr : s.comet.running = true) (hserve : s.spareServes u = true) (hl : (unitChans u).isEmpty = false) (hb : s.groupBusy (unitChans u) 11200 = false) :
    s.shadowStart 11200 = ((s.putUnit u 2).put K.SPARE_OP_STATE 2).setSpares { s.spares with opStep := .shadow, left := s.comet.frameLen } := by
  have h1 : ¬ (s.spares.opStep != .wait || [5, 6, 7].contains (unitClass u)) = true := by
    rcases hc with ⟨hc, -⟩ | hc <;> simp [hw, hc]
  have h2 : ¬ (!s.comet.running || !s.spareServes u || (unitChans u).isEmpty || (unitClass u == 1 && unitInst u % 16 == 8)) = true := by
    rcases hc with ⟨hc, h8⟩ | hc
    · simp [hr, hserve, hl, h8]
    · simp [hr, hserve, hl, hc]
  rw [State.shadowStart, hu]
  rw [if_neg h1, if_neg h2, if_neg (by rw [hb]; decide)]

theorem State.shadowEnd_back (u : Nat) (hw : s.spares.opStep = .shadow) (hu : s.spares.opUnit = u)
    (h : s.comet.running = false ∨ s.spares.left = 0 ∧ s.groupBusy (unitChans u) 11200 = false) : s.shadowEnd 11200 = (s.takeBack u false 11200).returned u := by
  have hgo : (s.spares.opStep == .shadow && (!s.comet.running || (s.spares.left == 0 && !s.groupBusy (unitChans u) 11200))) = true := by
    rcases h with h | ⟨h, hb⟩
    · simp [hw, h]
    · simp [hw, h, hb]
  rw [State.shadowEnd, hu]
  exact if_pos hgo

end

/-- The course of a failed fuse bank's test: a spare row takes its place, and no unit is listed. -/
theorem State.bistEnd_fuse (s : State) (i n nE g gE : Nat) (done : Bool) (h3 : s.reg K.BIST_STATE = 3) (hi : i < 4) (hk : s.spares.bist.kind = 5)
    (hu : s.spares.bist.unit = 0xA0000 + i) (hh : s.spares.bist.handed = false) (hw : s.spares.bist.wasOut = false)
    (hf : ¬ (done = true ∧ n % 2 ^ 32 = nE % 2 ^ 32 ∧ g % 2 ^ 64 = 0)) (t : State) (ht : t = s.bistEnd n nE g gE done) :
    t.fuses = { s.fuses with rowsUsed := min 16 (s.fuses.rowsUsed + 1) } ∧ t.spares.list = s.spares.list := by
  have hclass : unitClass (0xA0000 + i) = 10 := unitClass_of 10 i (by omega)
  obtain ⟨o, ho⟩ : ∃ o : State, o = (s.testCounted (n % 2 ^ 32) (nE % 2 ^ 32) (g % 2 ^ 64) 0).bistOver 3 0 done := ⟨_, rfl⟩
  have hend := s.bistEnd_eq n nE g gE 0 done h3 (by simp [hk]) o (by rw [if_neg hf]; exact ho)
  obtain ⟨-, -, hcounted, -⟩ := s.testCounted_shows (n % 2 ^ 32) (nE % 2 ^ 32) (g % 2 ^ 64) 0 _ rfl
  obtain ⟨-, -, -, -, -, hspares⟩ := State.bistOver_shows _ _ _ _ o ho
  have hfuses : o.fuses = s.fuses := by
    obtain ⟨hparts, -⟩ := (s.testCounted (n % 2 ^ 32) (nE % 2 ^ 32) (g % 2 ^ 64) 0).bistOver_testStay 3 0 done
    rw [ho]
    exact (congrArg State.fuses hparts :)
  rw [hcounted] at hspares
  have hob : o.spares.bist = { s.spares.bist with outcome := 3 } := by rw [hspares]
  have hol : o.spares.list = s.spares.list := by rw [hspares]
  obtain ⟨l, hl⟩ : ∃ l : State, l = o.testLeft := ⟨_, rfl⟩
  obtain ⟨-, -, hllist, hlfuses, -⟩ := o.testLeft_shows l hl
  have hfinish : o.bistFinish = (l.testIdle (0xA0000 + i)).fuseRowOut := by
    rw [o.bistFinish_eq l hl _ rfl, hob]
    simp only [hh, hw, hu, hclass, Bool.false_eq_true, if_false, ne_eq, not_true_eq_false, if_true]
  have hidle : (l.testIdle (0xA0000 + i)).fuses = l.fuses ∧ (l.testIdle (0xA0000 + i)).spares.list = l.spares.list := by
    have hput : l.putUnit (0xA0000 + i) 0 = l := by simp only [State.putUnit, hclass]
    have hbank : l.bankIdle (0xA0000 + i) = l := if_neg fun h => absurd (hclass.symm.trans h.1) (by decide)
    have hx : l.testIdle (0xA0000 + i) = (l.put K.BIST_STATE 0).setSpares { (l.put K.BIST_STATE 0).spares with
        passed := (l.put K.BIST_STATE 0).spares.passed.filter (· != 0xA0000 + i) } := by
      rw [State.testIdle, hput, hbank]
    rw [hx]
    exact ⟨rfl, rfl⟩
  rw [ht, hend, if_neg (by rw [hk]; omega), hfinish]
  generalize l.testIdle (0xA0000 + i) = v at *
  refine ⟨?_, hidle.2.trans (hllist.trans hol)⟩
  have hrow : v.fuseRowOut.fuses = { v.fuses with rowsUsed := min 16 (v.fuses.rowsUsed + 1) } := rfl
  rw [hrow, hidle.1, hlfuses, hfuses]

/-- A core block whose test fails is listed, and the secrets stay as they are. -/
theorem State.bistRestored_core (s : State) (i : Nat) (h4 : s.reg K.BIST_STATE = 4) (hi : i < 7) (hu : s.spares.bist.unit = 0x100000 + i) (hh : s.spares.bist.handed = false)
    (hw : s.spares.bist.wasOut = false) (ho : s.spares.bist.outcome = 3) (hout : s.unitOut (0x100000 + i) = false) (hl : s.spares.list.length < 64) (t : State)
    (ht : t = s.bistRestored) : t.spares.list = s.spares.list ++ [0x100000 + i] ∧ t.reg K.BIST_STATE = 0 ∧ t.reg K.KEY_STATE = s.reg K.KEY_STATE := by
  have hclass : unitClass (0x100000 + i) = 16 := unitClass_of 16 i (by omega)
  obtain ⟨hobjs, hspares⟩ := s.restore_objs s.spares.bist.unit s.spares.bist.saved
  obtain ⟨x, hx⟩ : ∃ x : State, x = (s.restore s.spares.bist.unit s.spares.bist.saved).setBist { s.spares.bist with saved := .empty } := ⟨_, rfl⟩
  have hxobjs : x.objs = s.objs := by rw [hx]; exact hobjs
  have hxs : x.spares = { s.spares with bist := { s.spares.bist with saved := .empty } } := by rw [hx, State.setBist, State.setSpares, hspares]
  have hxb : x.spares.bist = { s.spares.bist with saved := .empty } := by rw [hxs]
  obtain ⟨l, hll⟩ : ∃ l : State, l = x.testLeft := ⟨_, rfl⟩
  obtain ⟨-, -, hllist, -, hlobjs⟩ := x.testLeft_shows l hll
  have hlobjs' : l.objs = s.objs := (hlobjs (by rw [hxb]; exact ho)).trans hxobjs
  have hllist' : l.spares.list = s.spares.list := hllist.trans (by rw [hxs])
  have hspared : spared (0x100000 + i) = false := by simp only [spared, hclass]; decide
  have hfinish : x.bistFinish = (l.testIdle (0x100000 + i)).markFailed (0x100000 + i) := by
    rw [x.bistFinish_eq l hll _ rfl, hxb]
    simp only [hh, hw, ho, hu, hclass, hspared, Bool.false_and, Bool.false_eq_true, if_false, ne_eq, not_true_eq_false]
    rfl
  have hput : ∀ (y : State) c, y.putUnit (0x100000 + i) c = y := fun y c => by simp only [State.putUnit, hclass]
  have hbank : l.bankIdle (0x100000 + i) = l := if_neg fun h => absurd (hclass.symm.trans h.1) (by decide)
  obtain ⟨v, hv⟩ : ∃ v : State, v = l.testIdle (0x100000 + i) := ⟨_, rfl⟩
  have hvs : v.spares.list = l.spares.list ∧ ∀ k, v.reg k = (l.put K.BIST_STATE 0).reg k := by
    rw [hv, State.testIdle, hput, hbank]
    exact ⟨rfl, fun _ => rfl⟩
  have hmark : v.markFailed (0x100000 + i) = v.listAdd (0x100000 + i) := by simp only [State.markFailed, hput, hclass]
  have hadd : (v.listAdd (0x100000 + i)).spares.list = v.spares.list ++ [0x100000 + i] := if_neg (by
    rw [hvs.1, hllist']
    rw [State.unitOut] at hout
    simp only [hout, Bool.false_eq_true, false_or, not_le]
    exact hl)
  have hregs : ∀ k, (v.listAdd (0x100000 + i)).reg k = (l.put K.BIST_STATE 0).reg k := hvs.2
  rw [ht, s.bistRestored_eq h4, ← hx, hfinish, ← hv, hmark]
  refine ⟨by rw [hadd, hvs.1, hllist'], (hregs _).trans (State.reg_put_self _ _ _), ?_⟩
  rw [hregs, State.reg_put_ne _ _ _ _ (by decide), State.reg_congr s l hlobjs']

/-- Settles O46: failures as what their unit's leaving its duty leaves with nothing under way, commands by their refusals in order, and returns as an operation that
ends once the unit has its duty back. -/
theorem unitsOutAndBack : Obligations.UnitsOutAndBack := by
  unfold Obligations.UnitsOutAndBack
  have hfail : ∀ (s : State) (u : Nat), s.mode.coreRuns = true → exec (.unitFailure u) s = .next (s.unitFail u).settle := fun s u hc => by
    calc exec (.unitFailure u) s = .next (s.core fun s => s.unitFail u).settle := rfl
      _ = _ := by rw [s.core_on _ hc]
  refine ⟨fun s u i hc => ⟨fun hk => ?_, fun hu hi ho hl h0 hop hs => ?_, fun hu hi ho hl h0 hop hs => ?_⟩, fun s ch q hc hch hq ho hl h0 hop => ?_,
    fun s p hc hp ho hl h0 hop hb => ⟨fun hn => ?_, fun b q l hs hq hr => ?_, fun b hs hq hr => ?_⟩, fun s i n nE g gE done hc h3 hi hk hu hh hw hf => ?_,
    fun s i hc h4 hi hu hh hw ho hout hl => ?_, fun s w v ha hv => ⟨fun hb => ?_, fun hop h5 => ⟨fun hk => ?_, fun hk => ⟨fun hs => ?_, fun hf hs => ?_⟩⟩⟩,
    fun s w v ha hv => ⟨fun hb => ?_, fun hop h5 => ⟨fun hk => ?_, fun hk => ?_⟩⟩, fun s t u hu hk ht => s.shadowMismatch_shows u hu hk t ht,
    fun s t p hw hu hp hb hr ht => ⟨fun b hd => ?_, fun hd => ?_⟩, fun s t p hm hu hp hb hl ht => ?_, fun s v u i ht hv hu hui hw hvw => ?_,
    fun s v u ch q ht hv hu huq hch hq hsh => ⟨fun hw hvw hr hb => ?_, fun hw hvw hr hfirst => ?_⟩,
    fun s v u i ht hv hu hui hi he => ⟨fun hw hvw hr hb => ?_, fun hw hvw hr => ?_⟩⟩
  · rw [hfail s u hc]
    have hno : s.unitFail u = s := if_pos (by simp [hk])
    rw [hno]
  · obtain ⟨hk, hclass, hinst⟩ := unitKnown_engine i hi
    subst hu
    have h := s.unitFail_marks (0x30000 + i) (K.EE_STATE i) hk (.inl ⟨hclass, by rw [hinst]; exact hi, by rw [hinst]⟩) ho hl h0 hop hs
    exact ⟨_, hfail s _ hc, h⟩
  · obtain ⟨hk, hclass, hinst⟩ := unitKnown_pipe i hi
    subst hu
    have h := s.unitFail_marks (0x40000 + i) (K.SP_STATE i) hk (.inr ⟨hclass, by rw [hinst]; exact hi, by rw [hinst]⟩) ho hl h0 hop hs
    exact ⟨_, hfail s _ hc, h⟩
  · exact ⟨_, hfail s _ hc, s.unitFail_slice ch q hch hq ho hl h0 hop⟩
  · rw [hfail s _ hc, (s.unitFail_bank p hp ho h0 hop hb).1 hn]
  · have hmove := ((s.listAdd (0x50000 + p)).bankFailed_open p b (s.logicalOf_lt hs) hb hr).1 q l hq
    have hmap : s.reg (K.BANK_MAP b) = p := by simpa using List.find?_some hs
    rw [hfail s _ hc, (s.unitFail_bank p hp ho h0 hop hb).2 b hs, hmove, ← hmap]
    rfl
  · have hmap : s.reg (K.BANK_MAP b) = p := by simpa using List.find?_some hs
    have hb48 := s.logicalOf_lt hs
    have hlost := ((s.listAdd (0x50000 + p)).bankFailed_open p b hb48 hb hr).2 hq
    have hlist : (s.listAdd (0x50000 + p)).spares.list = s.spares.list ++ [0x50000 + p] := if_neg (by
      rw [State.unitOut] at ho
      simp only [ho, Bool.false_eq_true, false_or, not_le]
      exact hl)
    obtain ⟨h255, hkeeps, hll⟩ := (s.listAdd (0x50000 + p)).bankLost_shows b p hmap (by omega) hb48
    refine ⟨_, (hfail s _ hc).trans (by rw [(s.unitFail_bank p hp ho h0 hop hb).2 b hs, hlost]), State.reg_put_self _ _ _, ?_, hll.trans hlist, ?_⟩
    · rw [State.reg_put_ne _ _ _ _ (by simp only [K.BANK_MAP, K.BANK_STATE]; omega), h255]
    · exact (((State.keeps.refl s _).of_objs (u := s.listAdd (0x50000 + p)) rfl).trans (hkeeps.mono (by simp))).put _ _ (by simp)
  · have hexec : exec (.bistTestEnd n nE g gE done) s = .next (s.bistEnd n nE g gE done).settle := by
      calc exec (.bistTestEnd n nE g gE done) s = .next (s.core fun s => s.bistEnd n nE g gE done).settle := rfl
        _ = _ := by rw [s.core_on _ hc]
    exact ⟨_, hexec, s.bistEnd_fuse i n nE g gE done h3 hi hk hu hh hw hf _ rfl⟩
  · have hexec : exec .bistRestoreDone s = .next s.bistRestored.settle := by
      calc exec .bistRestoreDone s = .next (s.core State.bistRestored).settle := rfl
        _ = _ := by rw [s.core_on _ hc]
    exact ⟨_, hexec, s.bistRestored_core i h4 hi hu hh hw ho hout hl _ rfl⟩
  · rw [exec_unitRetire s w ha, (s.unitOp_busy _ hb).1]
  · rw [exec_unitRetire s w ha, ← hv, s.unitRetire_open v hop h5, if_pos hk]
  · rw [exec_unitRetire s w ha, ← hv, s.unitRetire_open v hop h5, if_neg (by rw [hk]; decide), if_pos hs]
  · have hgo : (spared v && s.spareFor v) = true := by rw [hf, hs]; rfl
    refine ⟨((s.planTakeOver v).put K.SPARE_OP_STATE 1).setSpares { (s.planTakeOver v).spares with opUnit := v, opStep := .takeOver }, ?_, (s.planTakeOver v).reg_put_self K.SPARE_OP_STATE 1, rfl, rfl,
      fun h => s.planTakeOver_plans v hs h⟩
    rw [exec_unitRetire s w ha, ← hv, s.unitRetire_open v hop h5, if_neg (by rw [hk]; decide), if_neg (by rw [hgo]; decide)]
  · rw [exec_unitReturn s w ha, (s.unitOp_busy _ hb).2]
  · rw [exec_unitReturn s w ha, ← hv, s.unitReturn_open v hop h5, if_neg (by rw [hk]; decide)]
  · rw [exec_unitReturn s w ha, ← hv, s.unitReturn_open v hop h5, if_pos hk]
    rfl
  · rw [ht, (s.returnTry_bank p hp hw hu hb hr).1 b (s.bankDuty_of p b hd)]
    exact ⟨rfl, rfl⟩
  · obtain ⟨x, hx⟩ : ∃ x : State, x = s.put (K.BANK_STATE p) 1 := ⟨_, rfl⟩
    have hxs : x.spares = s.spares ∧ x.reg (K.BANK_STATE p) = 1 ∧ x.reg K.RETURNS = s.reg K.RETURNS := by
      rw [hx]
      exact ⟨rfl, State.reg_put_self _ _ _, State.reg_put_ne _ _ _ _ (by simp only [K.BANK_STATE, K.RETURNS]; omega)⟩
    obtain ⟨-, -, hcount, hidle, hlisted, hkeeps⟩ := x.returned_shows (0x50000 + p) (by rw [hxs.1, hw]; decide) (by rw [hxs.1, hu]) _ rfl
    rw [ht, (s.returnTry_bank p hp hw hu hb hr).2 hd, ← hx]
    refine ⟨hidle, ?_, by rw [hcount, hxs.2.2], hlisted⟩
    rw [hkeeps _ (by simp only [List.mem_cons, List.not_mem_nil, or_false, K.BANK_STATE, K.RETURNS, K.SPARE_OP_STATE, K.SPARE_OP_RESULT, K.BIST_STATE]; omega), hxs.2.1]
  · obtain ⟨-, hresult, hcount, hidle, hlisted, -⟩ := s.returned_shows (0x50000 + p) (by rw [hm]; decide) hu _ rfl
    rw [ht, s.opCheck_moved p hp hm hu hb hl]
    exact ⟨hidle, hresult, hcount, hlisted⟩
  · have hclass : unitClass u = 16 ∨ unitClass u = 10 := by
      rcases hui with ⟨rfl, hi⟩ | ⟨rfl, hi⟩
      · exact .inl (unitClass_of 16 i (by omega))
      · exact .inr (unitClass_of 10 i (by omega))
    obtain ⟨hstate, hresult, hcount, hidle, hlisted, -⟩ := v.returned_shows u (by rw [hvw]; decide) hu.symm _ rfl
    refine ⟨_, (exec_shadowPhaseStart s ht hw v hv).trans (by rw [v.shadowStart_back u hvw hu.symm hclass]), hstate, hresult, hcount, hidle, hlisted⟩
  · obtain ⟨h1, h2, h3⟩ := sliceUnit_class ch q hch (by omega)
    have hchans : unitChans (sliceUnit ch q) = [ch] := by simp only [unitChans, h1, h2]
    have hserve : v.spareServes (sliceUnit ch q) = true := by simp [State.spareServes, h1, h2, h3, hsh]
    have hput : v.putUnit (sliceUnit ch q) 2 = v := by simp only [State.putUnit, h1]
    rw [huq] at hu
    rw [exec_shadowPhaseStart s ht hw v hv, v.shadowStart_begins _ hvw hu.symm (.inl ⟨h1, by omega⟩) hr hserve (by rw [hchans]; rfl) (by rw [hchans]; exact hb), hput]
  · obtain ⟨h1, h2, h3⟩ := sliceUnit_class ch q hch (by omega)
    have hchans : unitChans (sliceUnit ch q) = [ch] := by simp only [unitChans, h1, h2]
    rw [huq] at hu
    obtain ⟨x, hx⟩ : ∃ x : State, x = v.takeBack (sliceUnit ch q) false 11200 := ⟨_, rfl⟩
    obtain ⟨hself, hothers, hspares, hxkeeps⟩ := v.takeBack_slice ch q hch hq hsh hfirst x hx
    obtain ⟨hstate, hresult, hcount, hidle, hlisted, hkeeps⟩ := x.returned_shows (sliceUnit ch q) (by rw [hspares, hvw]; decide) (by rw [hspares, hu]) _ rfl
    have hslice : ∀ p, (x.returned (sliceUnit ch q)).sliceAt ch p = x.sliceAt ch p := fun p => by
      rw [State.sliceAt, State.sliceAt, hkeeps _ (by
        simp only [List.mem_cons, List.not_mem_nil, or_false, K.SLICE_MAP, K.RETURNS, K.SPARE_OP_STATE, K.SPARE_OP_RESULT, K.BIST_STATE]; omega)]
    refine ⟨_, (exec_shadowPhaseEnd s ht hw v hv).trans (by rw [v.shadowEnd_back _ hvw hu.symm (by rw [hchans]; exact hr), ← hx]), (hslice q).trans hself,
      fun p hp hne => (hslice p).trans (hothers p hp hne), hstate, hresult, ?_, hidle, by rw [huq]; exact hlisted⟩
    rw [hcount, hxkeeps _ (by simp only [List.mem_cons, List.not_mem_nil, or_false, K.SLICE_MAP, K.CAL_RESTORE, K.CAL_UNSETTLED, K.RETURNS]; omega)]
  · obtain ⟨-, hclass, hinst⟩ := unitKnown_engine i hi
    rw [hui] at hu hb
    have hchans : unitChans (0x30000 + i) = [4 * i, 4 * i + 1, 4 * i + 2, 4 * i + 3] := by simp only [unitChans, hclass, hinst, if_pos hi]
    have hserve : v.spareServes (0x30000 + i) = true := by simp [State.spareServes, hclass, hinst, he]
    have hput : v.putUnit (0x30000 + i) 2 = v.put (K.EE_STATE i) 2 := by simp only [State.putUnit, hclass, hinst]
    rw [exec_shadowPhaseStart s ht hw v hv, v.shadowStart_begins _ hvw hu.symm (.inr hclass) hr hserve (by rw [hchans]; rfl) hb, hput]
  · obtain ⟨-, hclass, hinst⟩ := unitKnown_engine i hi
    rw [hui] at hu hr
    obtain ⟨x, hx⟩ : ∃ x : State, x = (v.put (K.EE_STATE i) 0).put K.EE12_FOR 255 := ⟨_, rfl⟩
    have hxs : x.spares = v.spares ∧ x.reg (K.EE_STATE i) = 0 ∧ x.reg K.EE12_FOR = 255 ∧ x.reg K.RETURNS = v.reg K.RETURNS := by
      rw [hx]
      refine ⟨rfl, ?_, State.reg_put_self _ _ _, ?_⟩
      · rw [State.reg_put_ne _ _ _ _ (by simp only [K.EE_STATE, K.EE12_FOR]; omega), State.reg_put_self]
      · rw [State.reg_put_ne _ _ _ _ (by decide), State.reg_put_ne _ _ _ _ (by simp only [K.EE_STATE, K.RETURNS]; omega)]
    obtain ⟨hstate, hresult, hcount, hidle, hlisted, hkeeps⟩ := x.returned_shows (0x30000 + i) (by rw [hxs.1, hvw]; decide) (by rw [hxs.1, hu]) _ rfl
    refine ⟨_, (exec_shadowPhaseEnd s ht hw v hv).trans (by rw [v.shadowEnd_back _ hvw hu.symm hr, v.takeBack_engine i hi he, ← hx]), ?_, ?_, hstate, hresult, ?_, hidle,
      by rw [hui]; exact hlisted⟩
    · rw [hkeeps _ (by simp only [List.mem_cons, List.not_mem_nil, or_false, K.EE_STATE, K.RETURNS, K.SPARE_OP_STATE, K.SPARE_OP_RESULT, K.BIST_STATE]; omega), hxs.2.1]
    · rw [hkeeps _ (by decide), hxs.2.2.1]
    · rw [hcount, hxs.2.2.2]

end Sys2Proof.Machine
end

section
/-! PROOFS. Chapters 1 and 16: planned take-overs. -/

namespace Sys2Proof.Machine

section
variable (s : State)

/-! ### What a planned take-over does (R109, R144, R183) -/

theorem State.count_shows (k : Nat) : (s.count k).reg k = min (s.reg k + 1) (2 ^ 32 - 1) ∧ (∀ j, j ≠ k → (s.count k).reg j = s.reg j) := by
  rw [s.count_of_reg k _ rfl]
  exact ⟨s.reg_put_self k _, fun j hj => s.reg_put_ne k j _ hj⟩

theorem State.sliceSwap_spares (ch q : Nat) : (s.sliceSwap ch q).spares = s.spares := by
  unfold State.sliceSwap
  split
  · exact (State.calSwap_shows _ ch).1
  · rfl

theorem State.pipeTake_spares (i : Nat) : (s.pipeTake i).spares = s.spares := by
  unfold State.pipeTake
  split <;> rfl

theorem State.takeOver_spares (u : Nat) (t : Int) : (s.takeOver u false t).spares = s.spares := by
  unfold State.takeOver
  extract_lets i code v
  split
  · exact State.sliceSwap_spares _ _ _
  · rfl
  · exact State.pipeTake_spares _ _
  · rfl

theorem State.takeOver_engine (i : Nat) (hi : i < 12) (at_ : Int) (hu : s.underTest (0x30000 + i) = false) (t : State)
    (ht : t = s.takeOver (0x30000 + i) false at_) : t.reg K.EE12_FOR = i ∧ t.reg (K.EE_STATE i) = 4 ∧ t.reg K.EE_TAKEOVERS = min (s.reg K.EE_TAKEOVERS + 1) (2 ^ 32 - 1)
    ∧ t.reg K.TAKEOVERS = min (s.reg K.TAKEOVERS + 1) (2 ^ 32 - 1)
    ∧ s.keeps t [K.EE12_FOR, K.EE_STATE i, K.EE_TAKEOVERS, K.TAKEOVERS] ∧ t = { s with objs := t.objs } := by
  obtain ⟨-, hc, hinst⟩ := unitKnown_engine i hi
  have heq : t = (((s.count K.TAKEOVERS).put K.EE12_FOR i).put (K.EE_STATE i) 4).count K.EE_TAKEOVERS := by
    rw [ht]
    simp only [State.takeOver, hc, hinst, hu, Bool.false_eq_true, if_false]
  have hs : K.EE_STATE i ≠ K.EE12_FOR ∧ K.EE_STATE i ≠ K.EE_TAKEOVERS ∧ K.EE_STATE i ≠ K.TAKEOVERS := by
    simp only [K.EE_STATE, K.EE12_FOR, K.EE_TAKEOVERS, K.TAKEOVERS]
    omega
  obtain ⟨hfor, hcount, htake⟩ := hs
  obtain ⟨hv, hv'⟩ := s.count_shows K.TAKEOVERS
  obtain ⟨v, hvd⟩ : ∃ v, v = s.count K.TAKEOVERS := ⟨_, rfl⟩
  rw [← hvd] at heq hv hv'
  obtain ⟨hw, hw'⟩ := State.count_shows ((v.put K.EE12_FOR i).put (K.EE_STATE i) 4) K.EE_TAKEOVERS
  rw [← heq] at hw hw'
  refine ⟨?_, ?_, ?_, ?_, ?_, ?_⟩
  · rw [hw' _ (by decide), State.reg_put_ne _ _ _ _ hfor.symm, State.reg_put_self]
  · rw [hw' _ hcount, State.reg_put_self]
  · rw [hw, State.reg_put_ne _ _ _ _ hcount.symm, State.reg_put_ne _ _ _ _ (by decide), hv' _ (by decide)]
  · rw [hw' _ (by decide), State.reg_put_ne _ _ _ _ htake.symm, State.reg_put_ne _ _ _ _ (by decide), hv]
  · intro k hk
    simp only [List.mem_cons, List.not_mem_nil, or_false, not_or] at hk
    obtain ⟨h1, h2, h3, h4⟩ := hk
    rw [hw' k h3, State.reg_put_ne _ _ _ _ h2, State.reg_put_ne _ _ _ _ h1, hv' k h4]
  · rw [heq, hvd]
    rfl

theorem State.takeOver_pipe (i j : Nat) (hi : i < 24) (hj : j < 2) (at_ : Int) (hu : s.underTest (0x40000 + i) = false) (h0 : s.reg (K.SP_STATE (24 + j)) = 0)
    (hfree : s.reg (K.SPARE_FOR j) = 255) (hfirst : j = 1 → s.reg (K.SP_STATE 24) ≠ 0 ∨ s.reg (K.SPARE_FOR 0) ≠ 255) (t : State)
    (ht : t = s.takeOver (0x40000 + i) false at_) : t.reg (K.SPARE_FOR j) = i ∧ t.reg (K.SP_STATE i) = 4
    ∧ t.reg K.TAKEOVERS = min (s.reg K.TAKEOVERS + 1) (2 ^ 32 - 1) ∧ s.keeps t [K.SPARE_FOR j, K.SP_STATE i, K.TAKEOVERS] ∧ t = { s with objs := t.objs } := by
  obtain ⟨-, hc, hinst⟩ := unitKnown_pipe i (by omega)
  have hk : (∀ n, n < 26 → K.SP_STATE n ≠ K.TAKEOVERS) ∧ (∀ n, n < 2 → K.SPARE_FOR n ≠ K.TAKEOVERS) ∧ K.SPARE_FOR j ≠ K.SP_STATE i := by
    simp only [K.SP_STATE, K.SPARE_FOR, K.TAKEOVERS]
    exact ⟨fun n hn => by omega, fun n hn => by omega, by omega⟩
  obtain ⟨hst, hsp, hne⟩ := hk
  obtain ⟨hv, hv'⟩ := s.count_shows K.TAKEOVERS
  obtain ⟨v, hvd⟩ : ∃ v, v = s.count K.TAKEOVERS := ⟨_, rfl⟩
  rw [← hvd] at hv hv'
  have hfind : v.freePipe = some j := by
    rw [State.freePipe, List.find?_range_eq_some]
    refine ⟨?_, by simpa using hj, fun n hn => ?_⟩
    · rw [hv' _ (hst _ (by omega)), hv' _ (hsp _ hj), h0, hfree]
      rfl
    · obtain ⟨rfl, rfl⟩ : n = 0 ∧ j = 1 := by omega
      rw [hv' _ (hst _ (by omega)), hv' _ (hsp _ (by omega))]
      rcases hfirst rfl with h | h <;> simp [h]
  have hstand : v.underTest (0x40000 + i) = false := by
    rw [State.underTest, hv' _ (by decide), hvd]
    exact hu
  have heq : t = (v.put (K.SPARE_FOR j) i).put (K.SP_STATE i) 4 := by
    rw [ht]
    simp only [State.takeOver, hc, hinst, Bool.false_and, ← hvd, State.pipeTake, hfind, hstand, Bool.false_eq_true, if_false]
  refine ⟨?_, ?_, ?_, ?_, ?_⟩
  · rw [heq, State.reg_put_ne _ _ _ _ hne, State.reg_put_self]
  · rw [heq, State.reg_put_self]
  · rw [heq, State.reg_put_ne _ _ _ _ (hst i (by omega)).symm, State.reg_put_ne _ _ _ _ (hsp j hj).symm, hv]
  · intro k hk
    simp only [List.mem_cons, List.not_mem_nil, or_false, not_or] at hk
    obtain ⟨h1, h2, h3⟩ := hk
    rw [heq, State.reg_put_ne _ _ _ _ h2, State.reg_put_ne _ _ _ _ h1, hv' k h3]
  · rw [heq, hvd]
    rfl

theorem State.takeOver_slice (ch p q : Nat) (hch : ch < 48) (hp : p < 8) (hq : q < 9) (at_ : Int) (hat : s.sliceAt ch p = q) (hfirst : ∀ p', p' < p → s.sliceAt ch p' ≠ q)
    (t : State) (ht : t = s.takeOver (sliceUnit ch q) false at_) :
    t.reg (K.SLICE_MAP ch) = s.reg (K.SLICE_MAP ch) - q * 16 ^ p + s.shadowSlice ch * 16 ^ p := by
  obtain ⟨h1, h2, h3⟩ := sliceUnit_class ch q hch hq
  obtain ⟨-, hv'⟩ := s.count_shows K.TAKEOVERS
  obtain ⟨v, hvd⟩ : ∃ v, v = s.count K.TAKEOVERS := ⟨_, rfl⟩
  rw [← hvd] at hv'
  have hmap : v.reg (K.SLICE_MAP ch) = s.reg (K.SLICE_MAP ch) := hv' _ (by
    simp only [K.SLICE_MAP, K.TAKEOVERS]
    omega)
  have hslice : ∀ n, v.sliceAt ch n = s.sliceAt ch n := fun n => by rw [State.sliceAt, hmap, State.sliceAt]
  have hshadow : v.shadowSlice ch = s.shadowSlice ch := by simp only [State.shadowSlice, hslice]
  have hfind : (List.range 8).find? (fun n => v.sliceAt ch n == q) = some p := by
    rw [List.find?_range_eq_some]
    exact ⟨by simpa [hslice] using hat, by simpa using hp, fun j hj => by simpa [hslice] using hfirst j hj⟩
  have heq : t = (v.put (K.SLICE_MAP ch) (s.reg (K.SLICE_MAP ch) - q * 16 ^ p + s.shadowSlice ch * 16 ^ p)).calSwap ch := by
    rw [ht]
    simp only [State.takeOver, h1, h2, h3, ← hvd, State.sliceSwap, hfind, hshadow, hmap]
  have hkey : K.SLICE_MAP ch ∉ [K.CAL_RESTORE, K.CAL_UNSETTLED] := by
    simp only [List.mem_cons, List.not_mem_nil, or_false, K.SLICE_MAP, K.CAL_RESTORE, K.CAL_UNSETTLED]
    omega
  rw [heq, (State.calSwap_shows _ ch).2 _ hkey]
  exact State.reg_put_self _ _ _

/-! ### The tick of a planned take-over (R418) -/

/-- The one unit planned takes over at the tick of its class. -/
theorem State.classTick_one (x : Nat) (q : List Nat) (c : Nat) (hc : unitClass x = c) (hw : s.spares.failWait = []) (hp : s.spares.planned = [(x, q)])
    (hdue : s.plannedDue (x, q) 11200 = true) (ho : s.poolOpen x = true) :
    s.classTick c 11200 = (s.setSpares { s.spares with planned := [] }).takeOver x false 11200 := by
  have hplan : s.plannedTick c 11200 = (s.setSpares { s.spares with planned := [] }).takeOver x false 11200 := by
    have hcls : (unitClass x == c) = true := by simp [hc]
    have hself : (x != x) = false := by simp
    simp only [State.plannedTick, hp, List.filter_cons, List.filter_nil, hcls, hself, if_true, Bool.false_eq_true, if_false, State.forEach, List.foldl_cons, List.foldl_nil, hdue, ho]
  have hnone : ∀ t : State, t.spares.failWait = [] → t.failTick c 11200 = t := fun t h => by
    rw [State.failTick, h]
    rfl
  rw [State.classTick, hplan]
  refine hnone _ ?_
  rw [State.takeOver_spares]
  exact hw

theorem State.classRow_one (c : Nat) (x : Nat) (q : List Nat) (u : State) (ht : s.ticking = true) (hu : u = s.atTick) (hd : s.classDue c = true) (hc : unitClass x = c)
    (hw : u.spares.failWait = []) (hp : u.spares.planned = [(x, q)]) (hdue : u.plannedDue (x, q) 11200 = true) (ho : u.poolOpen x = true) :
    s.tickRow (s.classDue c) (fun s => s.classTick c 11200) = (u.setSpares { u.spares with planned := [] }).takeOver x false 11200 := by
  rw [s.tickRow_due _ _ hd ht, ← State.atTick, ← hu]
  exact u.classTick_one x q c hc hw hp hdue ho

/-! ### The tick itself (R18) -/

theorem exec_slotTick_runs (i : TickInput) (ht : s.ticking = true) (hu : ((s.slotCatchUp.calOsc i.oscCodes).convPeriods i.sense).ticking = true) :
    exec (.slotTick i) s = .next (((((s.slotCatchUp.calOsc i.oscCodes).convPeriods i.sense).tickChanges i).tickStart i).tickCounts).settle := by
  have heq : s.slotTick i = ((((s.slotCatchUp.calOsc i.oscCodes).convPeriods i.sense).tickChanges i).tickStart i).tickCounts := by
    rw [State.slotTick, if_neg (by rw [ht]; decide)]
    exact if_neg (by rw [hu]; decide)
  calc exec (.slotTick i) s = .next (s.slotTick i).settle := rfl
    _ = _ := by rw [heq]

theorem exec_slotTick_stands (i : TickInput) (ht : s.ticking = false) : exec (.slotTick i) s = .next s.settle := by
  have heq : s.slotTick i = s := by
    rw [State.slotTick, if_pos (by rw [ht]; decide)]
  calc exec (.slotTick i) s = .next (s.slotTick i).settle := rfl
    _ = _ := by rw [heq]

end

/-- Settles O11: a tick with one due take-over runs the hand-over of its unit, and of each class what it writes is read off. -/
theorem takeOvers : Obligations.TakeOvers := by
  unfold Obligations.TakeOvers
  refine ⟨fun s u x q ht hu hw hp hdue ho => ⟨fun hd hc => ?_, fun hd hc => ?_, fun hd hc => ?_⟩, fun s i => ⟨exec_slotTick_runs s i, exec_slotTick_stands s i⟩,
    fun s t at_ => ⟨fun i hi h hu => s.takeOver_engine i hi at_ hu t h, fun i j hi hj h hu h0 hf h1 => s.takeOver_pipe i j hi hj at_ hu h0 hf h1 t h,
      fun ch p q hch hp hq h hat hfirst => s.takeOver_slice ch p q hch hp hq at_ hat hfirst t h⟩⟩
  · calc exec .sliceSwap s = .next (s.tickRow (s.classDue 1) fun s => s.classTick 1 11200).settle := rfl
      _ = _ := by rw [s.classRow_one 1 x q u ht hu hd hc hw hp hdue ho]
  · calc exec .engineTakeover s = .next (s.tickRow (s.classDue 3) fun s => s.classTick 3 11200).settle := rfl
      _ = _ := by rw [s.classRow_one 3 x q u ht hu hd hc hw hp hdue ho]
  · calc exec .pipelineTakeover s = .next (s.tickRow (s.classDue 4) fun s => s.classTick 4 11200).settle := rfl
      _ = _ := by rw [s.classRow_one 4 x q u ht hu hd hc hw hp hdue ho]

end Sys2Proof.Machine

end

section
/-! PROOFS. Chapter 6: MASKV and the density maps. -/

namespace Sys2Proof.Machine

section
variable (s : State)

/-! ### MASKV (R178) -/

theorem State.regBit_putBit (k n m : Nat) (b : Bool) : (s.putBit k n b).regBit k m = if m = n then b else s.regBit k m := by
  rw [State.regBit, State.putBit, State.reg_put_self, bitAt_withBit]
  rfl

theorem State.maskvFall_stands (ch : Nat) (h : s.maskvEnds ch = false) : s.maskvFall ch = s := if_neg (by rw [h]; decide)

theorem State.maskvFall_shows (ch : Nat) : (s.maskvFall ch).spec = s.spec ∧ s.keeps (s.maskvFall ch) [K.MASKV_NOW]
    ∧ ∀ n, n ≠ ch → (s.maskvFall ch).regBit K.MASKV_NOW n = s.regBit K.MASKV_NOW n := by
  unfold State.maskvFall
  split
  · obtain ⟨u, hu⟩ : ∃ u : State, u = s.putBit K.MASKV_NOW ch false := ⟨_, rfl⟩
    have hspec : u.spec = s.spec := by rw [hu]; rfl
    have hkeep : s.keeps u [K.MASKV_NOW] := by
      rw [hu]
      exact (State.keeps.refl s _).put K.MASKV_NOW _ (by simp)
    have hbit : ∀ n, n ≠ ch → u.regBit K.MASKV_NOW n = s.regBit K.MASKV_NOW n := fun n hn => by
      rw [hu, State.regBit_putBit, if_neg hn]
    rw [← hu]
    exact ⟨hspec, hkeep.of_objs rfl, hbit⟩
  · exact ⟨rfl, .refl s _, fun _ _ => rfl⟩

theorem State.maskvFall_ends (ch : Nat) (h : s.maskvEnds ch = true) : (s.maskvFall ch).regBit K.MASKV_NOW ch = false := by
  obtain ⟨u, hu⟩ : ∃ u : State, u = s.putBit K.MASKV_NOW ch false := ⟨_, rfl⟩
  have hfall : (s.maskvFall ch).objs = u.objs := by
    rw [State.maskvFall, if_pos h, hu]
    rfl
  rw [State.regBit, State.reg_congr _ _ hfall, hu]
  exact (s.regBit_putBit K.MASKV_NOW ch ch false).trans (if_pos rfl)

/-- A violation that comes in the slot makes MASKV rise with its stamp. -/
theorem State.maskvRise_shows (ch : Nat) (hch : ch < 48) (x : Int) (stamp : Nat) (r : List (Int × Nat)) (hv : (s.spec1 ch).violations = (x, stamp) :: r) (hx : x < 11200) :
    (s.maskvRise ch).regBit K.MASKV_NOW ch = true ∧ (s.maskvRise ch).reg (K.MASKV_LAST ch) = stamp
      ∧ (s.maskvRise ch).reg (K.MASK_VIOL ch) = min (s.reg (K.MASK_VIOL ch) + 1) (2 ^ 32 - 1) ∧ ((s.maskvRise ch).spec1 ch).violations = r
      ∧ (∀ n, n < 48 → n ≠ ch → (s.maskvRise ch).regBit K.MASKV_NOW n = s.regBit K.MASKV_NOW n)
      ∧ (s.regBit K.MASKV_NOW ch = false →
        (s.maskvRise ch).trg = { s.trg with arrivals := arrive { cc := max (x / 4) (s.trg.clock + 1), pos := ch, src := 3, stamp := stamp } s.trg.arrivals })
      ∧ s.keeps (s.maskvRise ch) [K.MASKV_NOW, K.MASKV_LAST ch, K.MASK_VIOL ch] := by
  have hne : K.MASKV_LAST ch ≠ K.MASKV_NOW ∧ K.MASK_VIOL ch ≠ K.MASKV_NOW ∧ K.MASK_VIOL ch ≠ K.MASKV_LAST ch := by
    simp only [K.MASKV_LAST, K.MASKV_NOW, K.MASK_VIOL]
    omega
  obtain ⟨hln, hvn, hvl⟩ := hne
  obtain ⟨v, hvd⟩ : ∃ v, v = s.maskvFall ch := ⟨_, rfl⟩
  obtain ⟨hspec, hkeep, hbits⟩ := s.maskvFall_shows ch
  rw [← hvd] at hspec hkeep hbits
  obtain ⟨c, hc⟩ : ∃ c, c = v.spec1 ch := ⟨_, rfl⟩
  have hcv : c.violations = (x, stamp) :: r := by
    rw [hc, State.spec1, hspec]
    exact hv
  obtain ⟨hop, hhop⟩ : ∃ hop : Nat, hop = 128 * 2 ^ v.reg (K.SP_LEN (ch / 2)) / 2 ^ v.reg (K.SP_OVL (ch / 2))
    * (if v.reg (K.SP_SRC (ch / 2)) = 1 then max 1 (v.reg (K.DEC_D ch)) else 1) := ⟨_, rfl⟩
  obtain ⟨w, hw⟩ : ∃ w : State, w = v.setSpec ch { c with violations := r, expire := x + (hop : Nat) } := ⟨_, rfl⟩
  obtain ⟨y, hy⟩ : ∃ y : State, y = ((w.count (K.MASK_VIOL ch)).put (K.MASKV_LAST ch) stamp).putBit K.MASKV_NOW ch true := ⟨_, rfl⟩
  have heq : s.maskvRise ch = if v.regBit K.MASKV_NOW ch then y else y.sends { cc := x / 4, pos := ch, src := 3, stamp := stamp } := by
    have hlist : (v.spec.chans.getD ch {}).violations = (x, stamp) :: r := by
      rw [← hcv, hc]
      rfl
    rw [hy, hw, hhop, hc, State.maskvRise, ← hvd]
    simp only [hlist, hx, if_true]
    rfl
  have hobjs : (s.maskvRise ch).objs = y.objs ∧ (s.maskvRise ch).spec = y.spec := by
    rw [heq]
    split <;> exact ⟨rfl, rfl⟩
  obtain ⟨hobjs, hspecs⟩ := hobjs
  have hreg : ∀ k, (s.maskvRise ch).reg k = y.reg k := State.reg_congr _ _ hobjs
  have hwreg : ∀ k, w.reg k = v.reg k := State.reg_congr _ _ (by rw [hw]; rfl)
  have hcount : (w.count (K.MASK_VIOL ch)).reg (K.MASK_VIOL ch) = min (w.reg (K.MASK_VIOL ch) + 1) (2 ^ 32 - 1) := (w.count_shows _).1
  obtain ⟨z, hz⟩ : ∃ z : State, z = w.count (K.MASK_VIOL ch) := ⟨_, rfl⟩
  have hzk : ∀ k, k ≠ K.MASK_VIOL ch → z.reg k = v.reg k := fun k hk => by
    rw [hz, (w.count_shows _).2 k hk, hwreg]
  have hbit : ∀ n, (s.maskvRise ch).regBit K.MASKV_NOW n = if n = ch then true else v.regBit K.MASKV_NOW n := fun n => by
    rw [State.regBit, hreg, ← State.regBit, hy, State.regBit_putBit]
    refine if_congr Iff.rfl rfl ?_
    rw [State.regBit, State.reg_put_ne _ _ _ _ hln.symm, ← hz, hzk _ hvn.symm]
    rfl
  rw [hwreg, ← hz] at hcount
  rw [← hz] at hy
  refine ⟨(hbit ch).trans (if_pos rfl), ?_, ?_, ?_, fun n _ hn => ?_, fun hoff => ?_, fun k hk => ?_⟩
  · rw [hreg, hy, State.putBit, State.reg_put_ne _ _ _ _ hln, State.reg_put_self]
  · rw [hreg, hy, State.putBit, State.reg_put_ne _ _ _ _ hvn, State.reg_put_ne _ _ _ _ hvl, hcount, hkeep _ (by simpa using hvn)]
  · have hs : y.spec = w.spec := by rw [hy, hz]; rfl
    rw [State.spec1, hspecs, hs, hw]
    exact congrArg SpecChan.violations ((getD_setAt {} v.spec.chans ch ch { c with violations := r, expire := x + (hop : Nat) }).trans (if_pos rfl))
  · rw [hbit, if_neg hn, hbits n hn]
  · have hends : s.maskvEnds ch = false := by
      rw [State.maskvEnds, hoff, Bool.false_and, Bool.false_and]
    have hv' : v = s := by rw [hvd, s.maskvFall_stands ch hends]
    have htrg : y.trg = s.trg := by rw [hy, hz, hw, hv']; rfl
    rw [heq, hv', if_neg (by rw [hoff]; decide), ← htrg]
    rfl
  · simp only [List.mem_cons, List.not_mem_nil, or_false, not_or] at hk
    obtain ⟨h1, h2, h3⟩ := hk
    rw [hreg, hy, State.putBit, State.reg_put_ne _ _ _ _ h1, State.reg_put_ne _ _ _ _ h2, hzk k h3, hkeep k (by simpa using h1)]

/-! ### A density map swaps its buffers (R172, R173) -/

theorem State.dens1_setDens (ch : Nat) (d : DensMap) : (s.setDens ch d).dens1 ch = d := by
  rw [State.dens1, State.setDens, getD_setAt, if_pos rfl]

theorem State.densPut_over (ch : Nat) (j0 j : DensJob) (l : List DensJob) (hl : (s.dens1 ch).late = j0 :: l) (ho : j.over = true) :
    s.densPut ch j = ((((s.put (K.DENS_SEQ ch) ((s.reg (K.DENS_SEQ ch) + 1) % 2 ^ 32)).put (K.DENS_FROZEN ch) j.buf).put (K.DENS_TAKEN ch) j.taken).put
      (K.DENS_T0 ch) j.first).densShow ch l := by
  rw [State.densPut, hl]
  exact if_pos ho

theorem State.densPut_late (ch : Nat) (j0 j : DensJob) (l : List DensJob) (hl : (s.dens1 ch).late = j0 :: l) (ho : j.over = false) :
    s.densPut ch j = s.setDens ch { s.dens1 ch with late := j :: l } := by
  rw [State.densPut, hl]
  exact if_neg (by rw [ho]; decide)

/-- The map of the period that a swap starts. -/
def DensMap.swapped (d : DensMap) (period : Nat) (halve : Bool) (late : List DensJob) : DensMap :=
  { started := true, period := period, working := 1 - d.working, stride := d.stride, init := some 0, halve := halve, late := late }

theorem State.densSwap_shows (ch : Nat) (halve : Bool) (hs : (s.dens1 ch).started = true) (hl : (s.dens1 ch).late = []) (hi : (s.dens1 ch).init = none) (t : State)
    (ht : t = s.densSwap ch halve) :
    ((s.dens1 ch).adds = [] → t.reg (K.DENS_SEQ ch) = (s.reg (K.DENS_SEQ ch) + 1) % 2 ^ 32
      ∧ t.reg (K.DENS_FROZEN ch) = (s.dens1 ch).working ∧ t.reg (K.DENS_TAKEN ch) = (s.dens1 ch).taken ∧ t.reg (K.DENS_T0 ch) = (s.dens1 ch).first
      ∧ s.keeps t [K.DENS_SEQ ch, K.DENS_FROZEN ch, K.DENS_TAKEN ch, K.DENS_T0 ch])
    ∧ ((s.dens1 ch).adds ≠ [] → s.keeps t [])
    ∧ t.dens1 ch = (s.dens1 ch).swapped (s.reg (K.DENS_PERIOD ch)) halve (if (s.dens1 ch).adds = [] then [] else [(s.dens1 ch).present]) ∧ t.fs = s.fs := by
  obtain ⟨d, hd⟩ : ∃ d, d = s.dens1 ch := ⟨_, rfl⟩
  rw [← hd] at hs hl hi ⊢
  obtain ⟨u, hu⟩ : ∃ u : State, u = s.setDens ch (d.swapped (s.reg (K.DENS_PERIOD ch)) halve []) := ⟨_, rfl⟩
  have hjobs : d.jobs = [d.present] := by rw [DensMap.jobs, hl, List.nil_append]
  have heq : t = u.densShow ch [d.present] := by
    rw [ht, hu, State.densSwap, ← hd, hjobs, hs]
    rfl
  have hureg : ∀ k, u.reg k = s.reg k := State.reg_congr _ _ (by rw [hu]; rfl)
  have hud : u.dens1 ch = d.swapped (s.reg (K.DENS_PERIOD ch)) halve [] := by rw [hu, State.dens1_setDens]
  have hover : d.present.over = d.adds.isEmpty := by
    rw [DensJob.over, DensMap.present, hi]
    rfl
  cases ha : d.adds with
  | nil =>
    have hgo : d.present.over = true := by rw [hover, ha]; rfl
    obtain ⟨w, hw⟩ : ∃ w : State, w = (((u.tally (K.DENS_SEQ ch)).put (K.DENS_FROZEN ch) d.working).put (K.DENS_TAKEN ch) d.taken).put (K.DENS_T0 ch) d.first := ⟨_, rfl⟩
    have hwd : w.dens1 ch = u.dens1 ch := by rw [hw]; rfl
    have hshow : t = w.setDens ch { w.dens1 ch with late := [] } := by
      rw [heq, hw]
      exact if_pos hgo
    have hreg : ∀ k, t.reg k = w.reg k := State.reg_congr _ _ (by rw [hshow]; rfl)
    have hne : K.DENS_SEQ ch ≠ K.DENS_FROZEN ch ∧ K.DENS_SEQ ch ≠ K.DENS_TAKEN ch ∧ K.DENS_SEQ ch ≠ K.DENS_T0 ch ∧ K.DENS_FROZEN ch ≠ K.DENS_TAKEN ch
        ∧ K.DENS_FROZEN ch ≠ K.DENS_T0 ch ∧ K.DENS_TAKEN ch ≠ K.DENS_T0 ch := by
      simp only [K.DENS_SEQ, K.DENS_FROZEN, K.DENS_TAKEN, K.DENS_T0]
      omega
    obtain ⟨h1, h2, h3, h4, h5, h6⟩ := hne
    refine ⟨fun _ => ⟨?_, ?_, ?_, ?_, fun k hk => ?_⟩, fun h => absurd rfl h, ?_, ?_⟩
    · rw [hreg, hw, State.reg_put_ne _ _ _ _ h3, State.reg_put_ne _ _ _ _ h2, State.reg_put_ne _ _ _ _ h1, State.tally, State.reg_put_self, hureg]
      rfl
    · rw [hreg, hw, State.reg_put_ne _ _ _ _ h5, State.reg_put_ne _ _ _ _ h4, State.reg_put_self]
    · rw [hreg, hw, State.reg_put_ne _ _ _ _ h6, State.reg_put_self]
    · rw [hreg, hw, State.reg_put_self]
    · simp only [List.mem_cons, List.not_mem_nil, or_false, not_or] at hk
      obtain ⟨k1, k2, k3, k4⟩ := hk
      rw [hreg, hw, State.reg_put_ne _ _ _ _ k4, State.reg_put_ne _ _ _ _ k3, State.reg_put_ne _ _ _ _ k2, State.tally, State.reg_put_ne _ _ _ _ k1, hureg]
    · rw [hshow, State.dens1_setDens, hwd, hud, if_pos rfl]
      rfl
    · rw [hshow, hw, hu]
      rfl
  | cons c l =>
    have hgo : d.present.over = false := by rw [hover, ha]; rfl
    have hshow : t = u.setDens ch { u.dens1 ch with late := [d.present] } := by
      rw [heq]
      exact if_neg (by rw [hgo]; decide)
    refine ⟨fun h => absurd h (List.cons_ne_nil c l), fun _ k _ => ?_, ?_, ?_⟩
    · rw [State.reg_congr s t (by rw [hshow, hu]; rfl)]
    · rw [hshow, State.dens1_setDens, hud, if_neg (by simp)]
      rfl
    · rw [hshow, hu]
      rfl

/-! ### What an access of the density engine leaves of its maps (R172, R231) -/

/-- Of the maps only the marks of their bursts change. -/
def State.densKept (s t : State) : Prop := ∀ ch, ∃ c, t.dens1 ch = { s.dens1 ch with cut := c }

theorem State.densKept.of_spec {t : State} (h : t.spec = s.spec) : s.densKept t := fun ch => ⟨(s.dens1 ch).cut, by simp [State.dens1, h]⟩

theorem State.densKept.trans {s t u : State} (h : s.densKept t) (h' : t.densKept u) : s.densKept u := fun ch => by
  obtain ⟨c, hc⟩ := h ch
  obtain ⟨c', hc'⟩ := h' ch
  exact ⟨c', by rw [hc', hc]⟩

theorem State.cutBursts_densKept (b c : Nat) : s.densKept (s.cutBursts b c) := fun ch => by
  have hcut : ∀ f : Nat → DensMap → Bool, ∃ x, (s.spec.dens.mapIdx fun e d => if f e d then { d with cut := true } else d).getD ch {} = { s.spec.dens.getD ch {} with cut := x } := by
    intro f
    rw [List.getD_eq_getElem?_getD, List.getElem?_mapIdx, List.getD_eq_getElem?_getD]
    cases s.spec.dens[ch]? with
    | none => exact ⟨_, rfl⟩
    | some d =>
      by_cases h : f ch d = true
      · exact ⟨true, by simp [h]⟩
      · exact ⟨d.cut, by simp [h]⟩
  by_cases h : c < 2
  · have hdens : (s.cutBursts b c).spec.dens = s.spec.dens.mapIdx fun e d =>
        if decide (0 < s.densDone e ∧ (s.densNext e).any (fun a => s.bankOf (s.reg K.DENS_AS) a == some b)) then { d with cut := true } else d := by
      unfold State.cutBursts
      dsimp only
      simp only [decide_eq_true_eq]
      rw [if_pos h]
    rw [State.dens1, hdens]
    exact hcut _
  · refine ⟨(s.dens1 ch).cut, ?_⟩
    unfold State.cutBursts
    dsimp only
    rw [if_neg h]
    rfl

theorem State.copyCuts_densKept (b : Nat) : s.densKept (s.copyCuts b) := by
  unfold State.copyCuts
  dsimp only
  split_ifs
  · exact State.densKept.trans (t := s.draw.2) (.of_spec _ rfl) (State.cutBursts_densKept _ _ _)
  · exact .of_spec _ rfl
  · exact .of_spec _ rfl

theorem State.issued_densKept (c m sp va : Nat) : s.densKept (s.issued c m sp va) := by
  unfold State.issued
  split
  · exact .of_spec _ rfl
  next b _ =>
    exact (s.cutBursts_densKept b c).trans (.trans (t := (s.cutBursts b c).setFs { (s.cutBursts b c).fs with turns := storeSet s.fs.turns (b * 4 + c) m })
      (.of_spec _ rfl) (State.copyCuts_densKept _ _))

theorem State.storeStep.spec {s t : State} (h : s.storeStep t) : t.spec = s.spec := (congrArg State.spec h.1 :)

theorem State.densWrite_kept (cc base va : Nat) (cut : Bool) (ecc : Ecc) (d : List Byte) : s.densKept (s.densWrite cc base va cut ecc d) := by
  obtain ⟨u, hu⟩ : ∃ u, u = s.issued 2 densMaster (s.reg K.DENS_AS) va := ⟨_, rfl⟩
  have hissue : s.densKept u := hu ▸ s.issued_densKept 2 densMaster (s.reg K.DENS_AS) va
  obtain ⟨hok, herr⟩ := u.writeGranule_storeStep ecc densMaster 2 (s.reg K.DENS_AS) va d
  unfold State.densWrite
  rw [← hu]
  cases hw : u.writeGranule ecc densMaster 2 (s.reg K.DENS_AS) va d with
  | ok t => exact hissue.trans (.of_spec _ (hok t hw).spec)
  | error e =>
    obtain ⟨f, p, syn, t⟩ := e
    exact hissue.trans (.of_spec _ (((herr f p syn t hw).trans (t.granuleFault_storeStep _ _ _ _ _ _ _ _ _ _ _)).spec :))

/-- A read of a granule, whether it is read or faults, is a step of the store. -/
theorem State.readGranule_storeStep (ecc : Ecc) (m c sp va n : Nat) (z : Bool) :
    (∀ b t, s.readGranule ecc m c sp va n z = .ok (b, t) → s.storeStep t) ∧ ∀ f p syn t, s.readGranule ecc m c sp va n z = .error (f, p, syn, t) → s.storeStep t := by
  unfold State.readGranule
  cases s.translate sp va false z with
  | error e => exact ⟨fun b t h => (nomatch h), fun f p syn t h => by cases h; exact .refl s⟩
  | ok pa =>
    have hread := s.eccRead_storeStep pa n ecc
    dsimp only
    split
    · exact ⟨fun b t h => (nomatch h), fun f p syn t h => by
        cases h
        exact hread.trans (.put _ (K.BANK_UE (pa / bankBytes)) _ (Nat.le_trans (by decide) (Nat.le_add_right 0x500401 _)))⟩
    · exact ⟨fun b t h => by cases h; exact hread.trans (State.takeTag_storeStep _ _ _ _ _ _), fun f p syn t h => (nomatch h)⟩

theorem State.densRead_kept (cc base va : Nat) (cut : Bool) (ecc : Ecc) : s.densKept (s.densRead cc base va cut ecc).2 := by
  obtain ⟨u, hu⟩ : ∃ u, u = s.issued 2 densMaster (s.reg K.DENS_AS) va := ⟨_, rfl⟩
  have hissue : s.densKept u := hu ▸ s.issued_densKept 2 densMaster (s.reg K.DENS_AS) va
  obtain ⟨hok, herr⟩ := u.readGranule_storeStep ecc densMaster 2 (s.reg K.DENS_AS) va 64 false
  unfold State.densRead
  rw [← hu]
  cases hr : u.readGranule ecc densMaster 2 (s.reg K.DENS_AS) va 64 false with
  | ok e =>
    obtain ⟨b, t⟩ := e
    exact hissue.trans (.of_spec _ ((hok b t hr).spec :))
  | error e =>
    obtain ⟨f, p, syn, t⟩ := e
    exact hissue.trans (.of_spec _ (((herr f p syn t hr).trans (t.granuleFault_storeStep _ _ _ _ _ _ _ _ _ _ _)).spec :))

/-! ### The initialisation of a working buffer ends (R172) -/

/-- What a granule of the initialisation leaves of the map: the updates that wait and their number, with no older buffer. -/
def DensMap.initKept (d e : DensMap) : Prop := e.working = d.working ∧ e.adds = d.adds ∧ e.taken = d.taken

theorem State.densPut_present (ch : Nat) (j : DensJob) (hl : (s.dens1 ch).late = []) :
    (s.densPut ch j).dens1 ch = { s.dens1 ch with init := j.init, halve := j.halve, adds := j.adds, held := j.held } := by
  have heq : s.densPut ch j = s.setDens ch { s.dens1 ch with init := j.init, halve := j.halve, adds := j.adds, held := j.held } := by rw [State.densPut, hl]
  rw [heq, State.dens1_setDens]

theorem DensMap.job_present (d : DensMap) (hl : d.late = []) : d.job = d.present := by
  rw [DensMap.job, DensMap.jobs, hl]
  rfl

/-- The last granule that is written ends the initialisation. -/
theorem State.densInitNext_last (d : DensMap) (ch k : Nat) (hk : densGranules ≤ k + 1) (hl : (s.dens1 ch).late = []) (hd : d.initKept (s.dens1 ch)) :
    ((s.densInitNext ch k).dens1 ch).init = none ∧ d.initKept ((s.densInitNext ch k).dens1 ch) := by
  obtain ⟨j, hj⟩ : ∃ j : DensJob, j = { (s.dens1 ch).job with init := if k + 1 < densGranules then some (k + 1) else none, held := [] } := ⟨_, rfl⟩
  have hinit : j.init = none := by
    rw [hj]
    exact if_neg (by omega)
  have hadds : j.adds = (s.dens1 ch).adds := by rw [hj, (s.dens1 ch).job_present hl]; rfl
  have hput := s.densPut_present ch j hl
  obtain ⟨u, hu⟩ : ∃ u : State, u = s.densPut ch j := ⟨_, rfl⟩
  have heq : s.densInitNext ch k = u.setDens ch { u.dens1 ch with cut := (u.dens1 ch).cut && u.densDone ch != 0 } := by rw [State.densInitNext, ← hj, ← hu]
  rw [← hu] at hput
  rw [heq, State.dens1_setDens, hput, hinit, hadds]
  exact ⟨rfl, hd⟩

/-- The granule that halving has read is held. -/
theorem State.densHeld_shows (d : DensMap) (ch : Nat) (b : List Byte) (hl : (s.dens1 ch).late = []) (hd : d.initKept (s.dens1 ch)) :
    d.initKept ((s.densPut ch { (s.dens1 ch).job with held := b }).dens1 ch) ∧ ((s.densPut ch { (s.dens1 ch).job with held := b }).dens1 ch).init = (s.dens1 ch).init
      ∧ ((s.densPut ch { (s.dens1 ch).job with held := b }).dens1 ch).held = b ∧ ((s.densPut ch { (s.dens1 ch).job with held := b }).dens1 ch).late = [] := by
  rw [s.densPut_present ch _ hl, (s.dens1 ch).job_present hl]
  exact ⟨hd, rfl, rfl, hl⟩

theorem State.densInitStep_last (ch k cc : Nat) (ecc : Ecc) (hk : densGranules ≤ k + 1) (hl : (s.dens1 ch).late = []) (hi : (s.dens1 ch).init = some k) (t : State)
    (ht : t = s.densInitStep ch k cc ecc) : (s.dens1 ch).initKept (t.dens1 ch) ∧ ((t.dens1 ch).init = none
      ∨ ((s.dens1 ch).halve = true ∧ (s.dens1 ch).held = []) ∧ (t.dens1 ch).init = some k ∧ (t.dens1 ch).held ≠ [] ∧ (t.dens1 ch).late = []) := by
  have hkept : ∀ u, s.densKept u → (u.dens1 ch).late = [] ∧ (u.dens1 ch).init = some k ∧ (s.dens1 ch).initKept (u.dens1 ch) := fun u h => by
    obtain ⟨c, hc⟩ := h ch
    rw [hc]
    exact ⟨hl, hi, rfl, rfl, rfl⟩
  have hnext : ∀ u, s.densKept u → ((u.densInitNext ch k).dens1 ch).init = none ∧ (s.dens1 ch).initKept ((u.densInitNext ch k).dens1 ch) := fun u h => by
    obtain ⟨hlate, -, hdata⟩ := hkept u h
    exact u.densInitNext_last _ ch k hk hlate hdata
  rw [ht]
  unfold State.densInitStep
  extract_lets d j r
  split
  next hread =>
    have hr : s.densKept r.2 := s.densRead_kept _ _ _ _ _
    clear_value r
    split
    · exact ⟨(hnext _ hr).2, .inl (hnext _ hr).1⟩
    next hbytes =>
      obtain ⟨hlate, hinit, hdata⟩ := hkept r.2 hr
      have hj : j = (s.dens1 ch).present := (s.dens1 ch).job_present hl
      rw [hj, DensJob.reads, DensMap.present, Bool.and_eq_true, List.isEmpty_iff] at hread
      obtain ⟨h1, h2, h3, h4⟩ := r.2.densHeld_shows _ ch r.1 hlate hdata
      exact ⟨h1, .inr ⟨hread, h2.trans hinit, fun h => hbytes (by rw [← h3, h]; rfl), h4⟩⟩
  · have hw := hnext _ (s.densWrite_kept cc (s.densAddr ch j.buf 0) (s.densAddr ch j.buf k) d.cut ecc (if j.halve = true then halveCells j.held else List.replicate 64 0))
    exact ⟨hw.2, .inl hw.1⟩

theorem State.densStep_init (ch k cc : Nat) (ecc : Ecc) (hl : (s.dens1 ch).late = []) (hi : (s.dens1 ch).init = some k) :
    s.densStep ch cc ecc = if s.densMay ch = true then s.densInitStep ch k cc ecc else s := by
  have hjob : (s.dens1 ch).job.init = some k := by
    rw [(s.dens1 ch).job_present hl]
    exact hi
  rw [State.densStep, hjob]
  cases s.densMay ch <;> rfl

/-- Once the initialisation is over the map stands. -/
theorem State.densInitAll_done (ch cc : Nat) (ecc : Ecc) (n : Nat) (h : (s.dens1 ch).init = none) : s.densInitAll ch cc ecc n = s := by
  cases n with
  | zero => rfl
  | succ n =>
    rw [State.densInitAll, if_neg]
    rw [h]
    decide

/-- A map whose next granule may not issue waits. -/
theorem State.densInitAll_waits (ch cc : Nat) (ecc : Ecc) (n : Nat) (hm : s.densMay ch = false) : s.densInitAll ch cc ecc n = s := by
  have hstep : s.densStep ch cc ecc = s := if_pos (by rw [hm]; rfl)
  induction n with
  | zero => rfl
  | succ n ih => rw [State.densInitAll, hstep, ih, ite_self]

theorem State.densInitAll_last (ch k cc : Nat) (ecc : Ecc) (n : Nat) (hk : densGranules ≤ k + 1) (hl : (s.dens1 ch).late = []) (hi : (s.dens1 ch).init = some k)
    (hm : s.densMay ch = true) (t : State) (ht : t = s.densInitAll ch cc ecc (n + 2)) : (s.dens1 ch).initKept (t.dens1 ch) ∧ ((t.dens1 ch).init = none
      ∨ ((s.dens1 ch).halve = true ∧ (s.dens1 ch).held = []) ∧ (t.dens1 ch).init = some k ∧ (t.dens1 ch).held ≠ []) := by
  obtain ⟨u, hu⟩ : ∃ u, u = s.densInitStep ch k cc ecc := ⟨_, rfl⟩
  have hfirst : t = u.densInitAll ch cc ecc (n + 1) := by
    rw [ht, State.densInitAll, s.densStep_init ch k cc ecc hl hi, if_pos hm, ← hu, if_pos (by rw [hi]; rfl)]
  obtain ⟨hdata, hend⟩ := s.densInitStep_last ch k cc ecc hk hl hi u hu
  rcases hend with hnone | ⟨hread, hinit, hheld, hlate⟩
  · rw [hfirst, u.densInitAll_done ch cc ecc _ hnone]
    exact ⟨hdata, .inl hnone⟩
  · cases hmay : u.densMay ch with
    | false =>
      rw [hfirst, u.densInitAll_waits ch cc ecc _ hmay]
      exact ⟨hdata, .inr ⟨hread, hinit, hheld⟩⟩
    | true =>
      obtain ⟨w, hw⟩ : ∃ w, w = u.densInitStep ch k cc ecc := ⟨_, rfl⟩
      have hsecond : t = w.densInitAll ch cc ecc n := by
        rw [hfirst, State.densInitAll, u.densStep_init ch k cc ecc hlate hinit, if_pos hmay, ← hw, if_pos (by rw [hinit]; rfl)]
      obtain ⟨hdata', hend'⟩ := u.densInitStep_last ch k cc ecc hk hlate hinit w hw
      have hnone : (w.dens1 ch).init = none := hend'.elim id fun h => absurd h.1.2 hheld
      obtain ⟨h1, h2, h3⟩ := hdata
      obtain ⟨h1', h2', h3'⟩ := hdata'
      rw [hsecond, w.densInitAll_done ch cc ecc _ hnone]
      exact ⟨⟨h1'.trans h1, h2'.trans h2, h3'.trans h3⟩, .inl hnone⟩

/-- The work of a map that initialises its only buffer is at least two accesses. -/
theorem DensMap.left_init (d : DensMap) (k : Nat) (hl : d.late = []) (hi : d.init = some k) : ∃ n, d.left = n + 2 := by
  have hsum : d.left = 2 * (densGranules + d.adds.length) := by
    rw [DensMap.left, DensMap.jobs, hl]
    simp [DensMap.present, hi, sumNat]
  exact ⟨d.left - 2, by rw [hsum, densGranules]; omega⟩

theorem exec_densityInitDone (ch : Fin 48) (e : StoreEnd) (k : Nat) (hc : s.mode.coreRuns = true) (hs : (s.dens1 ch).started = true) (hi : (s.dens1 ch).init = some k) :
    exec (.densityInitDone ch e) s = .next (s.densInitAll ch e.cc e.ecc (s.dens1 ch).left).settle := by
  have hgo : ((s.dens1 ch).started && (s.dens1 ch).init.isSome) = true := by rw [hs, hi]; rfl
  calc exec (.densityInitDone ch e) s = .next (s.core fun s => s.densInitDone ch e.cc e.ecc).settle := rfl
    _ = .next (s.densInitDone ch e.cc e.ecc).settle := by rw [s.core_on _ hc]
    _ = _ := by rw [State.densInitDone, if_pos hgo]

/-! ### Spectra (R157, R163) -/

theorem exec_spectrumComplete_raw (ch : Fin 48) (hc : s.mode.coreRuns = true) (hr : s.reg (K.SP_SRC (ch.val / 2)) ≠ 1) :
    exec (.spectrumComplete ch) s = .next (s.specComplete ch).settle := by
  calc exec (.spectrumComplete ch) s = .next (s.core fun s => s.specEnds ch).settle := rfl
    _ = .next (s.specEnds ch).settle := by rw [s.core_on _ hc]
    _ = _ := by rw [State.specEnds, if_neg hr]

theorem State.specComplete_stands (ch : Nat) (hd : s.specDue ch = false) : s.specComplete ch = s := if_pos (by rw [hd]; rfl)

theorem exec_spectrumEngineStart (ht : s.ticking = true) (hd : s.specStartDue = true) : exec .spectrumEngineStart s = .next (s.atTick.specStart).settle := by
  calc exec .spectrumEngineStart s = .next (s.tickRow s.specStartDue State.specStart).settle := rfl
    _ = _ := by rw [s.tickRow_due _ _ hd ht, State.atTick]

end

/-- Settles O13: MASKV follows its violations, and a map's swap, its shown buffer and the end of its initialisation are each read off. -/
theorem masksAndDensityMaps : Obligations.MasksAndDensityMaps := by
  unfold Obligations.MasksAndDensityMaps
  refine ⟨⟨fun s ch x stamp r hc hv hx => ?_, fun s ch hc he => ?_, fun s ch hc he => ?_, fun s ch hc hr => ?_, exec_spectrumEngineStart⟩,
    fun s ch hc hd => ?_, fun s ch j0 j l hl => ⟨s.densPut_over ch j0 j l hl, s.densPut_late ch j0 j l hl⟩, fun s ch cc ecc k hc hs hl hi => ?_⟩
  · refine ⟨s.maskvRise ch, ?_, s.maskvRise_shows ch ch.isLt x stamp r hv hx⟩
    calc exec (.maskvAssert ch) s = .next (s.core fun s => s.maskvRise ch).settle := rfl
      _ = _ := by rw [s.core_on _ hc]
  · obtain ⟨hspec, hkeep, hbits⟩ := s.maskvFall_shows ch
    refine ⟨s.maskvFall ch, ?_, s.maskvFall_ends ch he, fun n _ => hbits n, hkeep, hspec⟩
    calc exec (.maskvExpire ch) s = .next (s.core fun s => s.maskvFall ch).settle := rfl
      _ = _ := by rw [s.core_on _ hc]
  · calc exec (.maskvExpire ch) s = .next (s.core fun s => s.maskvFall ch).settle := rfl
      _ = _ := by rw [s.core_on _ hc, s.maskvFall_stands ch he]
  · refine ⟨fun _ => exec_spectrumComplete_raw s ch hc hr, fun hd => ?_⟩
    rw [exec_spectrumComplete_raw s ch hc hr, s.specComplete_stands ch hd]
  · have hdue := hd
    simp only [State.densSwapDue, Bool.and_eq_true, List.isEmpty_iff, Option.isNone_iff_eq_none] at hdue
    obtain ⟨⟨⟨⟨⟨-, hstart⟩, -⟩, hlate⟩, hinit⟩, -⟩ := hdue
    refine ⟨s.densSwap ch (s.reg (K.DENS_DECAY ch) == 1), ?_, s.densSwap_shows ch _ hstart hlate hinit _ rfl⟩
    calc exec (.densitySwap ch) s = .next (s.core fun s => s.densSwapStep ch).settle := rfl
      _ = _ := by rw [s.core_on _ hc, State.densSwapStep, if_pos hd]
  · obtain ⟨n, hn⟩ := (s.dens1 ch).left_init k hl hi
    refine ⟨fun hm hk hw => ?_, fun hm hk hh he => ?_, fun hm => ?_⟩
    · obtain ⟨⟨h1, h2, h3⟩, hend⟩ := s.densInitAll_last ch k cc ecc n hk hl hi hm _ rfl
      refine ⟨s.densInitAll ch cc ecc (n + 2), by rw [exec_densityInitDone s ch _ k hc hs hi, hn], hend.elim id fun h => ?_, h1, h2, h3⟩
      obtain ⟨⟨hh, he⟩, -⟩ := h
      exact (hw.elim (fun h => absurd hh (by rw [h]; decide)) fun h => absurd he h)
    · obtain ⟨⟨h1, h2, h3⟩, hend⟩ := s.densInitAll_last ch k cc ecc n hk hl hi hm _ rfl
      exact ⟨s.densInitAll ch cc ecc (n + 2), by rw [exec_densityInitDone s ch _ k hc hs hi, hn], hend.imp id fun h => h.2, h1, h2, h3⟩
    · rw [exec_densityInitDone s ch _ k hc hs hi, s.densInitAll_waits ch cc ecc _ hm]

end Sys2Proof.Machine

end

section
/-! PROOFS. Chapter 6: spectra, their powers and the averages. -/

namespace Sys2Proof.Machine

/-! ### Powers (R154, R155, log 8) -/

theorem heldIn_span (lo hi : Rat) (f : Nat × Nat) : lo ≤ heldIn lo hi f ∧ heldIn lo hi f ≤ max lo hi :=
  ⟨le_max_left _ _, max_le_max (le_refl lo) (min_le_left _ _)⟩

section
variable (s : State)

theorem State.specPowers_silent (ch : Nat) (a : Int) (h : constOf (s.specInput ch a) = some 0) : (s.specPowers ch a).1 = List.replicate (s.specN ch / 2) 0 := by
  simp only [State.specPowers, h, if_true]

/-- The power of one bin of a spectrum that is not silent. -/
def State.binShown (s : State) (ch : Nat) (a : Int) (b : Nat) : Rat :=
  match constOf (s.specInput ch a), b with
  | some c, 0 => c * c / 1048576
  | _, _ => heldIn (s.binSpan ch (s.specInput ch a) b).1 (s.binSpan ch (s.specInput ch a) b).2 (Config.binPower s.free b)

theorem State.specPowers_bin (ch : Nat) (a : Int) (b : Nat) (h : constOf (s.specInput ch a) ≠ some 0) (hb : b < s.specN ch / 2) :
    (s.specPowers ch a).1.getD b 0 = s.binShown ch a b := by
  have heq : (s.specPowers ch a).1 = (List.range (s.specN ch / 2)).map (s.binShown ch a) := by
    rw [State.specPowers, if_neg h]
    rfl
  rw [heq, List.getD_eq_getElem?_getD, List.getElem?_map, List.getElem?_range hb]
  rfl

theorem State.binShown_const (ch : Nat) (a : Int) (c : Rat) (h : constOf (s.specInput ch a) = some c) : s.binShown ch a 0 = c * c / 1048576 := by
  simp only [State.binShown, h]

theorem State.binShown_span (ch : Nat) (a : Int) (b : Nat) (h : b ≠ 0 ∨ constOf (s.specInput ch a) = none) :
    (s.binSpan ch (s.specInput ch a) b).1 ≤ s.binShown ch a b
      ∧ s.binShown ch a b ≤ max (s.binSpan ch (s.specInput ch a) b).1 (s.binSpan ch (s.specInput ch a) b).2 := by
  unfold State.binShown
  split
  next hc => exact absurd (h.elim id fun hn => by rw [hc] at hn; exact nomatch hn) (by simp)
  · exact heldIn_span _ _ _

theorem State.specPowers_parts (ch : Nat) (a : Int) : ∃ n, (s.specPowers ch a).2 = { s with free := n } := by
  unfold State.specPowers
  extract_lets x k d
  split
  · exact ⟨s.free, rfl⟩
  · exact ⟨s.free + 1, rfl⟩

/-! ### A spectrum of raw samples enters its average (R149, R156) -/

theorem State.maskTest_off (ch src n : Nat) (db : Array Int) (start last : Int) (stamp : Nat) (h : (s.maskFor start).sel.getD ch 0 = 0) :
    s.maskTest ch src n db start last stamp = s := by
  unfold State.maskTest
  exact if_pos (.inl h)

/-- The channel once a spectrum of raw samples is in its average. -/
def State.specTaken (s : State) (ch : Nat) (c : SpecChan) (p : List Rat) : SpecChan :=
  { c with
    next := c.next + (s.specHop ch : Int), words := [], lastStart := c.next, lastEnd := c.next + ((s.specN ch - 1 : Nat) : Int), index := c.index + 1, count := c.count + 1
    first := if c.count = 0 then s.stampAt c.next else c.first, acc := avgAdd (s.avgMode (ch / 2)) (c.count == 0) c.acc p
    clipped := c.clipped || s.specClips ch c.next, spare := c.spare || s.specSpare ch }

theorem State.specComplete_taken (ch : Nat) (hd : s.specDue ch = true) (hr : s.reg (K.SP_SRC (ch / 2)) ≠ 1) (he : s.reg (K.DENS_EN ch) ≠ 1)
    (hm : (s.maskFor (s.spec1 ch).next).sel.getD ch 0 = 0) (hn : (s.spec1 ch).count + 1 < s.reg (K.SP_AVG_N (ch / 2))) :
    s.specComplete ch = (s.specPowers ch (s.spec1 ch).next).2.setSpec ch (s.specTaken ch (s.spec1 ch) (s.specPowers ch (s.spec1 ch).next).1) := by
  obtain ⟨n, hpow⟩ := s.specPowers_parts ch (s.spec1 ch).next
  have hend : (s.specEnd ch).getD (s.spec1 ch).next = (s.spec1 ch).next + ((s.specN ch - 1 : Nat) : Int) := by
    rw [State.specEnd, if_neg hr]
    rfl
  have hhop : s.specHopOn ch = ((s.spec1 ch).next + (s.specHop ch : Int), []) := by rw [State.specHopOn, if_neg hr]
  unfold State.specComplete
  rw [if_neg (by rw [hd]; decide)]
  extract_lets c a w last on stamp pw clip v c' x db y z
  have hv : v = { s with free := n } := hpow
  have htaken : c' = s.specTaken ch c pw.1 := by
    have hlast : last = c.next + ((s.specN ch - 1 : Nat) : Int) := hend
    have hon : on = (c.next + (s.specHop ch : Int), []) := hhop
    unfold c'
    rw [hlast, hon, hv]
    rfl
  have hreg : ∀ k, x.reg k = s.reg k := State.reg_congr _ _ (by unfold x; rw [hv]; rfl)
  have hy : y = x := if_neg (by rw [hreg]; exact he)
  have hz : z = x := by
    unfold z
    rw [hy]
    have hmasks : x.spec.masks = s.spec.masks := by
      unfold x
      rw [hv]
      rfl
    have hfor : x.maskFor a = s.maskFor a := by rw [State.maskFor, State.maskFor, hmasks]
    exact x.maskTest_off _ _ _ _ _ _ _ ((congrArg (fun m : MaskVer => m.sel.getD ch 0) hfor).trans hm)
  have hcount : c'.count = (s.spec1 ch).count + 1 := rfl
  rw [hz, hreg, hcount, if_neg (by omega)]
  unfold x
  rw [htaken]

/-! ### A spectrum of decimator words ends with its last word (R150) -/

theorem State.specEnds_word (ch : Nat) (x : Int × Nat × Cadence) (hr : s.reg (K.SP_SRC (ch / 2)) = 1) (hs : s.dec.syncReset = none) (hx : s.nextInstant ch = some x)
    (he : x.1 = s.wordsEnd ch) (hl : x.1 < 11200) : s.specEnds ch = (s.decWord ch).decUntil ch (s.wordsEnd ch + 1) 11199 := by
  obtain ⟨i, j, c⟩ := x
  have hbefore : s.resetBefore (s.wordsEnd ch) = s := by
    rw [State.resetBefore, hs]
    rfl
  have hin : i < min (s.wordsEnd ch + 1) 11200 := by
    rw [← he]
    exact lt_min (by simp) hl
  rw [State.specEnds, if_pos hr]
  simp only [hbefore]
  rw [State.decUntil, hx]
  exact if_pos hin

/-! ### The engine starts (R163) -/

theorem State.specServed_congr {t : State} (ch : Nat) (hch : ch < 48) (h : ∀ k, k ≠ K.SPEC_STATE → t.reg k = s.reg k) : t.specServed ch = s.specServed ch := by
  have hstate : t.reg (K.SP_STATE (ch / 2)) = s.reg (K.SP_STATE (ch / 2)) := h _ (by simp only [K.SP_STATE, K.SPEC_STATE]; omega)
  have hspare : t.spareOf (ch / 2) = s.spareOf (ch / 2) := by
    have hfor : ∀ i, t.reg (K.SPARE_FOR i) = s.reg (K.SPARE_FOR i) := fun i => h _ (by simp only [K.SPARE_FOR, K.SPEC_STATE]; omega)
    simp only [State.spareOf, hfor]
  have hmode : t.reg (K.SP_MODE (ch / 2)) = s.reg (K.SP_MODE (ch / 2)) := h _ (by simp only [K.SP_MODE, K.SPEC_STATE]; omega)
  have hsel : t.reg (K.SP_SEL (ch / 2)) = s.reg (K.SP_SEL (ch / 2)) := h _ (by simp only [K.SP_SEL, K.SPEC_STATE]; omega)
  simp only [State.specServed, State.pipeWorks, hstate, hspare, hmode, hsel]

theorem State.gridFrom_congr {t : State} (p : Nat) (hp : p < 24) (a : Int) (hd : t.dec = s.dec) (h : ∀ k, k ≠ K.SPEC_STATE → t.reg k = s.reg k) :
    t.gridFrom p a = s.gridFrom p a := by
  have hchans : t.pipeChans p = s.pipeChans p := by
    refine List.filter_congr fun ch hch => s.specServed_congr ch ?_ h
    simp only [List.mem_cons, List.not_mem_nil, or_false] at hch
    omega
  have hvalid : t.validFrom = s.validFrom := by
    funext ch a
    simp only [State.validFrom, hd]
  rw [State.gridFrom, State.gridFrom, hchans, hvalid]

theorem State.spec1_setSpec (ch n : Nat) (c : SpecChan) : (s.setSpec ch c).spec1 n = if n = ch then c else s.spec1 n := by
  rw [State.spec1, State.setSpec, getD_setAt]
  rfl

/-- Only the engine's part changes, and in it one channel stays. -/
def State.specBeside (z : Nat) (s t : State) : Prop := t.objs = s.objs ∧ t.dec = s.dec ∧ t.spec1 z = s.spec1 z

theorem State.specBeside.trans {z : Nat} {s t u : State} (h : s.specBeside z t) (h' : t.specBeside z u) : s.specBeside z u := by
  obtain ⟨h1, h2, h3⟩ := h
  obtain ⟨g1, g2, g3⟩ := h'
  exact ⟨g1.trans h1, g2.trans h2, g3.trans h3⟩

theorem State.densBegin_beside (z ch : Nat) : s.specBeside z (s.densBegin ch) := by
  unfold State.densBegin
  split <;> exact ⟨rfl, rfl, rfl⟩

theorem State.specStartChan_beside (z ch : Nat) (a : Int) (h : ch ≠ z) : s.specBeside z (s.specStartChan ch a) := by
  unfold State.specStartChan
  extract_lets _ v words
  split
  · have hv : s.specBeside z v := by
      unfold v
      split <;> exact ⟨rfl, rfl, rfl⟩
    refine hv.trans ⟨rfl, rfl, ?_⟩
    rw [State.spec1_setSpec, if_neg h.symm]
  · exact ⟨rfl, rfl, rfl⟩

theorem State.specStartChan_unserved (ch : Nat) (a : Int) (h : s.specServed ch = false) : s.specStartChan ch a = s := if_neg (by rw [h]; decide)

theorem State.specStartChan_starts (ch : Nat) (a : Int) (h : s.specServed ch = true) (t : State) (ht : t = s.specStartChan ch a) :
    t.objs = s.objs ∧ t.dec = s.dec ∧ (t.spec1 ch).on = true ∧ (t.spec1 ch).index = 0 ∧ (t.spec1 ch).count = 0
      ∧ (t.spec1 ch).next = (if s.reg (K.SP_SRC (ch / 2)) = 1 then s.gridFrom (ch / 2) a else a) ∧ (t.spec1 ch).waitWord = (s.reg (K.SP_SRC (ch / 2)) == 1) := by
  obtain ⟨v, hv⟩ : ∃ v : State, v = if s.reg (K.DENS_EN ch) = 1 then s.setDens ch { s.dens1 ch with stride := 0 } else s := ⟨_, rfl⟩
  have hparts : v.objs = s.objs ∧ v.dec = s.dec := by
    rw [hv]
    split <;> exact ⟨rfl, rfl⟩
  obtain ⟨hobjs, hdec⟩ := hparts
  have hreg := State.reg_congr s v hobjs
  have hgrid : v.gridFrom = s.gridFrom := by
    have hserved : v.specServed = s.specServed := by
      funext ch
      simp only [State.specServed, State.pipeWorks, State.spareOf, hreg]
    have hvalid : v.validFrom = s.validFrom := by
      funext ch a
      simp only [State.validFrom, hdec]
    funext p a
    rw [State.gridFrom, State.gridFrom, State.pipeChans, State.pipeChans, hserved, hvalid]
  obtain ⟨c, hc⟩ : ∃ c : SpecChan, c = { v.spec1 ch with
      on := true, waitWord := v.reg (K.SP_SRC (ch / 2)) == 1, next := if (v.reg (K.SP_SRC (ch / 2)) == 1) = true then v.gridFrom (ch / 2) a else a, words := []
      index := 0, count := 0, first := 0, acc := [], clipped := false, gap := false, spare := false } := ⟨_, rfl⟩
  have heq : t = v.setSpec ch c := by
    rw [ht, hc, hv]
    exact if_pos h
  have hchan : t.spec1 ch = c := by rw [heq, State.spec1_setSpec, if_pos rfl]
  refine ⟨by rw [heq]; exact hobjs, by rw [heq]; exact hdec, ?_⟩
  rw [hchan, hc, hreg, hgrid]
  exact ⟨rfl, rfl, rfl, if_congr beq_iff_eq rfl rfl, rfl⟩

/-- Starting the engine starts the grid of every served channel, and leaves the others. -/
theorem State.specStart_shows (t : State) (ht : t = s.specStart) : t.reg K.SPEC_STATE = 1 ∧ t.spec.running = true
      ∧ (∀ ch, ch < 48 → s.specServed ch = true → (t.spec1 ch).on = true ∧ (t.spec1 ch).index = 0 ∧ (t.spec1 ch).count = 0
        ∧ (t.spec1 ch).next = (if s.reg (K.SP_SRC (ch / 2)) = 1 then s.gridFrom (ch / 2) 11200 else 11200)
        ∧ (t.spec1 ch).waitWord = (s.reg (K.SP_SRC (ch / 2)) == 1))
      ∧ (∀ ch, ch < 48 → s.specServed ch = false → t.spec1 ch = s.spec1 ch)
      ∧ s.keeps t [K.SPEC_STATE] := by
  obtain ⟨v, hv⟩ : ∃ v : State, v = s.put K.SPEC_STATE 1 := ⟨_, rfl⟩
  have hvreg : ∀ k, k ≠ K.SPEC_STATE → v.reg k = s.reg k := fun k hk => hv ▸ s.reg_put_ne K.SPEC_STATE k 1 hk
  have hvstate : v.reg K.SPEC_STATE = 1 := hv ▸ s.reg_put_self K.SPEC_STATE 1
  have hvdec : v.dec = s.dec := by rw [hv]; rfl
  have hvspec : v.spec = s.spec := by rw [hv]; rfl
  obtain ⟨w, hw⟩ : ∃ w : State, w = v.forRange 48 (fun s ch => (s.specStartChan ch 11200).densBegin ch) := ⟨_, rfl⟩
  have heq : t = { w with spec.running := true } := by rw [ht, hw, hv]; rfl
  have hturn : ∀ z, z < 48 → ∃ u, v.specBeside z u ∧ State.specBeside z ((u.specStartChan z 11200).densBegin z) w := fun z hz => by
    rw [hw]
    exact State.forRange_turn (State.specBeside z) (fun s => ⟨rfl, rfl, rfl⟩) .trans _ 48 z hz
      (fun s a _ hne => (s.specStartChan_beside z a 11200 hne).trans (State.densBegin_beside _ z a)) v
  have hchan : ∀ z, t.spec1 z = w.spec1 z := fun z => by rw [heq]; rfl
  have hcong : ∀ z u, z < 48 → v.specBeside z u → u.specServed z = s.specServed z ∧ u.gridFrom (z / 2) 11200 = s.gridFrom (z / 2) 11200
      ∧ u.reg (K.SP_SRC (z / 2)) = s.reg (K.SP_SRC (z / 2)) := fun z u hz hu => by
    obtain ⟨hobjs, hdec, -⟩ := hu
    have hureg : ∀ k, k ≠ K.SPEC_STATE → u.reg k = s.reg k := fun k hk => (State.reg_congr _ _ hobjs k).trans (hvreg k hk)
    exact ⟨s.specServed_congr z hz hureg, s.gridFrom_congr (z / 2) (by omega) 11200 (hdec.trans hvdec) hureg,
      hureg _ (by simp only [K.SP_SRC, K.SPEC_STATE]; omega)⟩
  have hobjs : t.objs = v.objs := by
    obtain ⟨u, ⟨h1, -, -⟩, h2, -, -⟩ := hturn 0 (by decide)
    have hstart : ((u.specStartChan 0 11200).densBegin 0).objs = u.objs := by
      refine (State.densBegin_beside _ 0 0).1.trans ?_
      cases hs : u.specServed 0 with
      | true => exact (u.specStartChan_starts 0 11200 hs _ rfl).1
      | false => rw [u.specStartChan_unserved 0 11200 hs]
    rw [heq]
    exact h2.trans (hstart.trans h1)
  have hreg := State.reg_congr _ _ hobjs
  refine ⟨(hreg _).trans hvstate, by rw [heq], fun z hz hs => ?_, fun z hz hs => ?_, fun k hk => (hreg k).trans (hvreg k (by simpa using hk))⟩
  · obtain ⟨u, hu, -, -, hend⟩ := hturn z hz
    obtain ⟨hserved, hgrid, hsrc⟩ := hcong z u hz hu
    obtain ⟨-, -, hshown⟩ := u.specStartChan_starts z 11200 (hserved.trans hs) _ rfl
    rw [hchan, hend, (State.densBegin_beside _ z z).2.2, ← hgrid, ← hsrc]
    exact hshown
  · obtain ⟨u, hu, -, -, hend⟩ := hturn z hz
    obtain ⟨hserved, -, -⟩ := hcong z u hz hu
    rw [hchan, hend, (State.densBegin_beside _ z z).2.2, u.specStartChan_unserved z 11200 (hserved.trans hs), hu.2.2, State.spec1, hvspec]
    rfl

end

end Sys2Proof.Machine

end

section
/-! PROOFS. Chapter 6: an average closes. -/

namespace Sys2Proof.Machine

/-! ### The line block and the header (R159, R181) -/

theorem takeLines_length (l got : List Nat) (h : got.length ≤ 8) : (takeLines l got).length ≤ 8 := by
  induction l generalizing got with
  | nil => exact h
  | cons b l ih =>
    rw [takeLines]
    split
    · exact h
    next hroom =>
      split
      · exact ih got h
      · exact ih _ (by rw [List.length_append, List.length_singleton]; omega)

theorem lineBlock_length (thr n : Nat) (db : Array Int) : (lineBlock thr n db).length = 8 := by
  have h := takeLines_length (lineCandidates thr n db) [] (Nat.zero_le 8)
  simp only [lineBlock, List.length_append, List.length_map, List.length_replicate]
  omega

/-- The upper half of the third of four words. -/
theorem ofLe_thirdWord (a b c d : Nat) : fieldAt (leBytes 8 a ++ leBytes 8 b ++ leBytes 8 c ++ leBytes 8 d) 20 4 = c / 2 ^ 32 % 2 ^ 32 := by
  have hbytes : bytesAt (leBytes 8 a ++ leBytes 8 b ++ leBytes 8 c ++ leBytes 8 d) 20 4 = leBytes 4 (c / 256 / 256 / 256 / 256) := rfl
  rw [fieldAt, hbytes]
  simp only [leBytes, ofLe, BitVec.toNat_ofNat]
  omega

section
variable (s : State)

theorem State.specHeader_seq (ch : Nat) (c : SpecChan) (stopped : Bool) : fieldAt (s.specHeader ch c stopped) 20 4 = c.seq % 2 ^ 32 := by
  rw [State.specHeader, ofLe_thirdWord]
  omega

/-! ### The lines are reported (R159) -/

theorem State.linesPut_shows (ch : Nat) (l : List Nat) (hl : l.length ≤ 8) (t : State)
    (ht : t = s.forEach (l.mapIdx fun i l => (i, l)) fun s p => s.put (K.LINES ch p.1) p.2) :
    (∀ i, i < l.length → t.reg (K.LINES ch i) = l.getD i 0) ∧ (∀ k, k < K.LINES 0 0 → t.reg k = s.reg k) ∧ s.objsOnly t := by
  induction l using List.reverseRecOn generalizing t with
  | nil => exact ⟨fun i hi => absurd hi (Nat.not_lt_zero i), fun k _ => by rw [ht]; rfl, by rw [ht]; rfl⟩
  | append_singleton l a ih =>
    have hlen : l.length + 1 ≤ 8 := by simpa using hl
    obtain ⟨u, hu⟩ : ∃ u : State, u = s.forEach (l.mapIdx fun i l => (i, l)) fun s p => s.put (K.LINES ch p.1) p.2 := ⟨_, rfl⟩
    obtain ⟨hlines, hlow, hparts⟩ := ih (by omega) u hu
    have heq : t = u.put (K.LINES ch l.length) a := by
      rw [ht, State.forEach, List.mapIdx_append, List.foldl_append, hu, State.forEach, List.mapIdx_singleton, List.foldl_cons, List.foldl_nil, Nat.zero_add]
    refine ⟨fun i hi => ?_, fun k hk => ?_, ?_⟩
    · rcases Nat.lt_or_ge i l.length with hi' | hi'
      · have hne : K.LINES ch i ≠ K.LINES ch l.length := by simp only [K.LINES]; omega
        rw [heq, State.reg_put_ne _ _ _ _ hne, hlines i hi', List.getD_append _ _ _ _ hi']
      · obtain rfl : i = l.length := by
          rw [List.length_append, List.length_singleton] at hi
          omega
        rw [heq, State.reg_put_self]
        simp
    · have hne : k ≠ K.LINES ch l.length := by
        simp only [K.LINES] at hk ⊢
        omega
      rw [heq, State.reg_put_ne _ _ _ _ hne, hlow k hk]
    · rw [heq]
      exact hparts.trans (u.objsOnly_put _ _)

theorem State.report_shows (ch seq : Nat) (l : List Nat) (hl : l.length = 8) (hch : ch < 48) (t : State) (ht : t = s.report ch seq l) :
    t.reg (K.LINE_SEQ ch) = seq ∧ (∀ i, i < 8 → t.reg (K.LINES ch i) = l.getD i 0) ∧ (∀ k, k < K.LINE_SEQ 0 → t.reg k = s.reg k)
      ∧ t.spec = s.spec ∧ t.fs = s.fs ∧ t.spares = s.spares := by
  obtain ⟨u, hu⟩ : ∃ u : State, u = s.forEach (l.mapIdx fun i l => (i, l)) fun s p => s.put (K.LINES ch p.1) p.2 := ⟨_, rfl⟩
  obtain ⟨hlines, hlow, hparts⟩ := s.linesPut_shows ch l (by omega) u hu
  obtain ⟨v, hv⟩ : ∃ v : State, v = u.put (K.LINE_SEQ ch) seq := ⟨_, rfl⟩
  have hstick : t = v ∨ t = v.stick 28 := by
    rw [ht, State.report, ← hu, ← hv]
    split
    · exact .inr rfl
    · exact .inl rfl
  have hstood : t.objs = v.objs ∧ t.spec = v.spec ∧ t.fs = v.fs ∧ t.spares = v.spares := by
    rcases hstick with h | h
    · rw [h]
      exact ⟨rfl, rfl, rfl, rfl⟩
    · rw [h]
      exact ⟨rfl, rfl, rfl, rfl⟩
  obtain ⟨hobjs, hspec, hfs, hspares⟩ := hstood
  have hreg := State.reg_congr v t hobjs
  refine ⟨?_, fun i hi => ?_, fun k hk => ?_, hspec.trans ?_, hfs.trans ?_, hspares.trans ?_⟩
  · rw [hreg, hv, State.reg_put_self]
  · have hne : K.LINES ch i ≠ K.LINE_SEQ ch := by simp only [K.LINES, K.LINE_SEQ]; omega
    rw [hreg, hv, State.reg_put_ne _ _ _ _ hne, hlines i (by omega)]
  · have hne : k ≠ K.LINE_SEQ ch ∧ k < K.LINES 0 0 := by
      simp only [K.LINES, K.LINE_SEQ] at hk ⊢
      omega
    rw [hreg, hv, State.reg_put_ne _ _ _ _ hne.1, hlow k hne.2]
  · rw [hv]
    exact (congrArg State.spec hparts :)
  · rw [hv]
    exact (congrArg State.fs hparts :)
  · rw [hv]
    exact (congrArg State.spares hparts :)

/-! ### The average closes (R157, R158, R160) -/

/-- The channel whose next average starts from nothing. -/
def SpecChan.fresh (c : SpecChan) (drop : Bool) (waiting : Nat) : SpecChan :=
  { c with count := 0, first := 0, acc := [], clipped := false, gap := false, spare := false, seq := addWrap 32 c.seq 1, dropNext := drop, waiting := waiting }

/-- The granules of the entry: the values and the lines, and after them the header. -/
def State.entryGranules (s : State) (ch : Nat) (lines : List Nat) : List Granule :=
  let c := s.spec1 ch
  let va := s.reg (K.SPEC_BASE ch) + c.seq % max 1 (s.reg K.SPEC_ENTRIES) * 65536
  granulesOf (s.specMaster (ch / 2)) 2 (s.reg K.SPEC_AS) (va + 32) (s.specValues ch c ++ (lines.map (leBytes 8)).flatten) (fun _ => .specBody ch)
    ++ granulesOf (s.specMaster (ch / 2)) 2 (s.reg K.SPEC_AS) va (s.specHeader ch c false) (fun _ => .specHeader ch)

/-- The entry is dropped and counted, or waits for the Field Store. -/
def State.entryOut (s : State) (ch : Nat) (lines : List Nat) : State :=
  let c := s.spec1 ch
  if 2 ≤ c.waiting then (s.setSpec ch (c.fresh true c.waiting)).count (K.SPEC_DROPPED ch)
  else (s.setSpec ch (c.fresh false (c.waiting + 1))).enqueue (s.entryGranules ch lines)

theorem State.entryOut_drops (ch : Nat) (lines : List Nat) (hw : 2 ≤ (s.spec1 ch).waiting) (t : State) (ht : t = s.entryOut ch lines) :
    t.reg (K.SPEC_DROPPED ch) = min (s.reg (K.SPEC_DROPPED ch) + 1) (2 ^ 32 - 1) ∧ t.fs = s.fs ∧ t.spares = s.spares ∧ t.spec.masks = s.spec.masks
      ∧ t.spec1 ch = (s.spec1 ch).fresh true (s.spec1 ch).waiting ∧ ∀ k, k ≠ K.SPEC_DROPPED ch → t.reg k = s.reg k := by
  obtain ⟨u, hu⟩ : ∃ u : State, u = s.setSpec ch ((s.spec1 ch).fresh true (s.spec1 ch).waiting) := ⟨_, rfl⟩
  have hparts : u.objs = s.objs ∧ u.fs = s.fs ∧ u.spares = s.spares ∧ u.spec.masks = s.spec.masks := by
    rw [hu]
    exact ⟨rfl, rfl, rfl, rfl⟩
  obtain ⟨hobjs, hfs, hspares, hmasks⟩ := hparts
  have hchan : u.spec1 ch = (s.spec1 ch).fresh true (s.spec1 ch).waiting := by rw [hu, State.spec1_setSpec, if_pos rfl]
  have hreg := State.reg_congr s u hobjs
  obtain ⟨hcount, hother⟩ := u.count_shows (K.SPEC_DROPPED ch)
  have heq : t = u.count (K.SPEC_DROPPED ch) := by
    rw [ht, hu]
    exact if_pos hw
  rw [heq]
  refine ⟨by rw [hcount, hreg], hfs, hspares, hmasks, hchan, fun k hk => by rw [hother k hk, hreg]⟩

theorem State.entryOut_waits (ch : Nat) (lines : List Nat) (hw : (s.spec1 ch).waiting < 2) (t : State) (ht : t = s.entryOut ch lines) :
    t.objs = s.objs ∧ t.fs = { s.fs with queue := s.fs.queue ++ s.entryGranules ch lines } ∧ t.spares = s.spares ∧ t.spec.masks = s.spec.masks
      ∧ t.spec1 ch = (s.spec1 ch).fresh false ((s.spec1 ch).waiting + 1) := by
  obtain ⟨u, hu⟩ : ∃ u : State, u = s.setSpec ch ((s.spec1 ch).fresh false ((s.spec1 ch).waiting + 1)) := ⟨_, rfl⟩
  have hparts : u.objs = s.objs ∧ u.fs = s.fs ∧ u.spares = s.spares ∧ u.spec.masks = s.spec.masks := by
    rw [hu]
    exact ⟨rfl, rfl, rfl, rfl⟩
  obtain ⟨hobjs, hfs, hspares, hmasks⟩ := hparts
  have hchan : u.spec1 ch = (s.spec1 ch).fresh false ((s.spec1 ch).waiting + 1) := by rw [hu, State.spec1_setSpec, if_pos rfl]
  have heq : t = u.enqueue (s.entryGranules ch lines) := by
    rw [ht, hu]
    exact if_neg (by omega)
  rw [heq]
  exact ⟨hobjs, by rw [← hfs]; rfl, hspares, hmasks, hchan⟩

theorem State.pipeBoundary_unplanned (p : Nat) (h : ∀ q ∈ s.spares.planned, q.1 ≠ 0x40000 + p) : s.pipeBoundary p = s := by
  have hnone : s.spares.planned.find? (·.1 == 0x40000 + p) = none := by
    rw [List.find?_eq_none]
    exact fun q hq => by simpa using h q hq
  rw [State.pipeBoundary, hnone]

/-- An average of a channel without mask and without map of averages closes: its entry goes out and its lines are reported. -/
theorem State.closeAverage_plain (ch : Nat) (hch : ch < 48) (hc : (s.spec1 ch).count ≠ 0) (hd : s.reg (K.DENS_EN ch) ≠ 2)
    (hm : (s.maskFor (s.spec1 ch).lastStart).sel.getD ch 0 = 0) (hp : ∀ q ∈ s.spares.planned, q.1 ≠ 0x40000 + ch / 2) :
    ∃ lines : List Nat, lines.length = 8 ∧ s.closeAverage ch false = (s.entryOut ch lines).report ch (s.spec1 ch).seq lines := by
  obtain ⟨lines, hlines⟩ : ∃ lines, lines = lineBlock (s.reg K.LINE_THR) (s.specN ch) (((s.spec1 ch).acc.map (avgDb (s.avgMode (ch / 2)) (s.spec1 ch).count)).toArray) := ⟨_, rfl⟩
  have hlen : lines.length = 8 := by rw [hlines, lineBlock_length]
  obtain ⟨u, hu⟩ : ∃ u, u = s.entryOut ch lines := ⟨_, rfl⟩
  obtain ⟨v, hv⟩ : ∃ v, v = u.report ch (s.spec1 ch).seq lines := ⟨_, rfl⟩
  obtain ⟨-, -, hlow, hspec, -, hspares⟩ := u.report_shows ch (s.spec1 ch).seq lines hlen hch v hv
  have hout : u.reg (K.DENS_EN ch) = s.reg (K.DENS_EN ch) ∧ u.spares = s.spares ∧ u.spec.masks = s.spec.masks := by
    rcases Nat.lt_or_ge (s.spec1 ch).waiting 2 with hw | hw
    · obtain ⟨hobjs, -, h1, h2, -⟩ := s.entryOut_waits ch lines hw u hu
      exact ⟨State.reg_congr _ _ hobjs _, h1, h2⟩
    · obtain ⟨-, -, h1, h2, -, hreg⟩ := s.entryOut_drops ch lines hw u hu
      exact ⟨hreg _ (by simp only [K.DENS_EN, K.SPEC_DROPPED]; omega), h1, h2⟩
  obtain ⟨hen, hsp, hmask⟩ := hout
  have hdens : v.reg (K.DENS_EN ch) ≠ 2 := by
    rw [hlow _ (by simp only [K.DENS_EN, K.LINE_SEQ]; omega), hen]
    exact hd
  have hoff : (v.maskFor (s.spec1 ch).lastStart).sel.getD ch 0 = 0 := by
    rw [State.maskFor, hspec, hmask]
    exact hm
  have hplan : ∀ q ∈ v.spares.planned, q.1 ≠ 0x40000 + ch / 2 := by
    rw [hspares, hsp]
    exact hp
  refine ⟨lines, hlen, ?_⟩
  unfold State.closeAverage
  rw [if_neg hc]
  extract_lets p n db lines' va body space m grans fresh s1 s2 s3
  have hl : lines' = lines := by rw [hlines]
  have h1 : s1 = u := by
    rw [hu, ← hl]
    rfl
  have h2 : s2 = v := by
    unfold s2
    rw [h1, hl, hv]
  have h3 : s3 = v := by
    unfold s3
    rw [h2]
    exact if_neg hdens
  rw [h3, v.maskTest_off _ _ _ _ _ _ _ hoff, v.pipeBoundary_unplanned _ hplan, hv, hu]

end

/-- Settles O12: a spectrum enters its average, its powers lie in their spans, the engine starts its grids, and an average that closes leaves its entry. -/
theorem spectraAndAverages : Obligations.SpectraAndAverages := by
  unfold Obligations.SpectraAndAverages
  refine ⟨⟨fun s ch c pw hc hd hcd hpw hr he hm hn => ?_, fun s ch hc hr hd => ?_, fun s ch x hc hr hs hx he hl => ?_, fun s ht hd => ?_⟩, fun s ch a => ⟨s.specPowers_silent ch a, fun b h hb => ?_⟩,
    fun s t ch va hch hc hd hm hp ht hva => ?_⟩
  · subst hcd hpw
    rw [exec_spectrumComplete_raw s ch hc hr, s.specComplete_taken ch hd hr he hm hn]
    rfl
  · rw [exec_spectrumComplete_raw s ch hc hr, s.specComplete_stands ch hd]
  · calc exec (.spectrumComplete ch) s = .next (s.core fun s => s.specEnds ch).settle := rfl
      _ = _ := by rw [s.core_on _ hc, s.specEnds_word ch x hr hs hx he hl]
  · exact ⟨s.atTick.specStart, exec_spectrumEngineStart s ht hd, s.atTick.specStart_shows _ rfl⟩
  · rw [s.specPowers_bin ch a b h hb]
    refine ⟨fun c hb0 hconst => ?_, s.binShown_span ch a b⟩
    rw [hb0]
    exact s.binShown_const ch a c hconst
  · obtain ⟨lines, hlen, hclose⟩ := s.closeAverage_plain ch hch hc hd hm hp
    obtain ⟨u, hu⟩ : ∃ u, u = s.entryOut ch lines := ⟨_, rfl⟩
    obtain ⟨hseq, hlines, hlow, hspec, hfs, -⟩ := u.report_shows ch (s.spec1 ch).seq lines hlen hch t (by rw [ht, hclose, hu])
    have hdrop : t.reg (K.SPEC_DROPPED ch) = u.reg (K.SPEC_DROPPED ch) := hlow _ (by simp only [K.SPEC_DROPPED, K.LINE_SEQ]; omega)
    have hchan : t.spec1 ch = u.spec1 ch := by rw [State.spec1, hspec]; rfl
    rcases Nat.lt_or_ge (s.spec1 ch).waiting 2 with hw | hw
    · obtain ⟨hobjs, hfsu, -, -, hfresh⟩ := s.entryOut_waits ch lines hw u hu
      rw [hchan, hfresh]
      refine ⟨hseq, rfl, rfl, rfl, fun h => by omega, fun _ => ⟨?_, rfl, rfl, ?_, s.specHeader_seq ch _ false, lines, hlen, hlines, ?_⟩⟩
      · rw [hdrop, State.reg_congr _ _ hobjs]
      · rw [hfs, hfsu]
      · rw [hfs, hfsu, hva, List.append_assoc]
        rfl
    · obtain ⟨hcount, hfsu, -, -, hfresh, -⟩ := s.entryOut_drops ch lines hw u hu
      rw [hchan, hfresh]
      refine ⟨hseq, rfl, rfl, rfl, fun _ => ⟨hdrop.trans hcount, rfl, hfs.trans hfsu⟩, fun h => by omega⟩

end Sys2Proof.Machine

end

section
/-! PROOFS. Chapter 5: the waveform, the histogram, the matched filter, thresholds and candidates. -/

namespace Sys2Proof.Machine

/-! ### The waveform of a shot (R124, R125) -/

theorem windowCodes_size (c after : SlotCtx) (ch s0 : Nat) : (windowCodes c after ch s0).size = 11200 := by
  simp [windowCodes]

theorem windowCodes_at (c after : SlotCtx) (ch s0 i : Nat) (h : i < (windowCodes c after ch s0).size) :
    (windowCodes c after ch s0)[i] = if s0 + i < 11200 then codeOf c.samples ch (s0 + i) else codeOf after.samples ch (s0 + i - 11200) := by
  have harray : ∀ (l : List Int) (n : Nat), l.toArray.getD n 0 = l.getD n 0 := fun l n => by simp [Array.getD_eq_getD_getElem?]
  simp only [windowCodes, List.getElem_toArray, List.getElem_map, List.getElem_range, codeOf, harray]

theorem shotWave_shows (before c after : SlotCtx) (ch : Nat) (f : FireCmd) (r : Int × Array Int × Array Bool) (hr : r = shotWave before c after ch f) :
    r.1 = baselineOf before c ch (64 + f.dither) ∧ r.2.1.size = 11200 ∧ r.2.2.size = 11200
    ∧ ∀ i < 11200, ∀ code : Int, code = (if 64 + f.dither + i < 11200 then codeOf c.samples ch (64 + f.dither + i) else codeOf after.samples ch (64 + f.dither + i - 11200)) →
      r.2.1.getD i 0 = rheDiv (16 * code - r.1) 4 ∧ r.2.2.getD i false = decide (code = -2048 ∨ code = 2047) := by
  obtain ⟨w, hw⟩ : ∃ w, w = windowCodes c after ch (64 + f.dither) := ⟨_, rfl⟩
  have hsize : w.size = 11200 := hw ▸ windowCodes_size c after ch _
  have heq : r = (baselineOf before c ch (64 + f.dither), rawWave w (baselineOf before c ch (64 + f.dither)), clipBits w) := by
    rw [hr, hw]
    rfl
  subst heq
  refine ⟨rfl, by rw [rawWave, Array.size_map, hsize], by rw [clipBits, Array.size_map, hsize], fun i hi code hcode => ?_⟩
  have hat : w[i]'(by omega) = code := by
    rw [hcode]
    subst hw
    exact windowCodes_at c after ch _ i (by omega)
  have hi' : i < w.size := by omega
  constructor
  · simp only [rawWave, Array.getD_eq_getD_getElem?, Array.getElem?_map, Array.getElem?_eq_getElem hi', hat, Option.map_some, Option.getD_some]
  · simp only [clipBits, Array.getD_eq_getD_getElem?, Array.getElem?_map, Array.getElem?_eq_getElem hi', hat, Option.map_some, Option.getD_some, Bool.decide_or]
    rfl

theorem crosstalkOff_at (xt : List Int) (x : Array Int) (i : Nat) (h : i < x.size) :
    (crosstalkOff xt x).getD i 0 = if i < 64 then x.getD i 0 - xt.getD i 0 else x.getD i 0 := by
  simp only [crosstalkOff, Array.getD_eq_getD_getElem?, Array.getElem?_mapIdx, Array.getElem?_eq_getElem h, Option.map_some, Option.getD_some]

/-! ### The baseline (R125) -/

theorem cadenceAt_cons (d : Cadence) (l : List Cadence) (s0 : Nat) : cadenceAt (d :: l) s0 = if d.at_ ≤ (s0 : Int) then some d else cadenceAt l s0 := by
  rw [cadenceAt, List.find?_cons]
  by_cases h : d.at_ ≤ (s0 : Int)
  · simp [h]
  · simp only [h, decide_false, if_false]
    rfl

theorem baselineOf_fixed (before c : SlotCtx) (ch s0 : Nat) (h : regOf c.objs K.BASE_MODE = 1) :
    baselineOf before c ch s0 = toSigned 16 (regOf c.objs (K.BASE_FIX ch)) := by
  rw [baselineOf, if_pos h]

theorem baselineOf_none (before c : SlotCtx) (ch s0 : Nat) (h : regOf c.objs K.BASE_MODE ≠ 1) (hn : cadenceAt (c.cads.getD ch []) s0 = none) :
    baselineOf before c ch s0 = -28672 := by
  rw [baselineOf, if_neg h, hn]
  rfl

theorem baselineOf_early (before c : SlotCtx) (ch s0 : Nat) (d : Cadence) (h : regOf c.objs K.BASE_MODE ≠ 1) (hd : cadenceAt (c.cads.getD ch []) s0 = some d)
    (hj : (((s0 : Int) - d.at_) / (d.dec : Int)).toNat = 0 ∨ (((s0 : Int) - d.at_) / (d.dec : Int)).toNat * d.dec < d.len) : baselineOf before c ch s0 = -28672 := by
  have hlast : lastWordBefore d s0 = none := if_pos hj
  rw [baselineOf, if_neg h, hd, Option.bind_some, hlast]
  rfl

theorem baselineOf_word (before c : SlotCtx) (ch s0 : Nat) (d : Cadence) (j : Nat) (hj : j = (((s0 : Int) - d.at_) / (d.dec : Int)).toNat)
    (h : regOf c.objs K.BASE_MODE ≠ 1) (hd : cadenceAt (c.cads.getD ch []) s0 = some d) (h0 : 0 < j) (hl : d.len ≤ j * d.dec) :
    baselineOf before c ch s0 = rheDiv (16 * sumInt ((List.range d.len).map fun k =>
          let i : Int := d.at_ + (j * d.dec : Nat) - 1 - (k : Int)
          if 0 ≤ i then codeOf c.samples ch i.toNat else codeOf before.samples ch (i + 11200).toNat)) d.len := by
  have hlast : lastWordBefore d s0 = some (d.at_ + (j * d.dec : Nat) - 1) := by
    rw [lastWordBefore, ← hj]
    exact if_neg (by omega)
  rw [baselineOf, if_neg h, hd, Option.bind_some, hlast]
  rfl

/-! ### Histograms (R126, R128) -/

theorem addHist_at (w : Nat) (h : List Int) (x : Array Int) (b : Nat) (hb : b < 11200 / w) :
    (addHist w h x).getD b 0 = h.getD b 0 + sumInt ((List.range w).map fun u => x.getD (b * w + u) 0) := by
  have harray : h.toArray.getD b 0 = h.getD b 0 := by simp [Array.getD_eq_getD_getElem?]
  simp only [addHist]
  rw [List.getD_eq_getElem?_getD, List.getElem?_map, List.getElem?_range hb, Option.map_some, Option.getD_some, harray]

theorem addClip_at (w : Nat) (h : List Bool) (c : Array Bool) (b : Nat) (hb : b < 11200 / w) :
    (addClip w h c).getD b false = true ↔ h.getD b false = true ∨ ∃ u < w, c.getD (b * w + u) false = true := by
  have harray : h.toArray.getD b false = h.getD b false := by simp [Array.getD_eq_getD_getElem?]
  simp only [addClip]
  rw [List.getD_eq_getElem?_getD, List.getElem?_map, List.getElem?_range hb, Option.map_some, Option.getD_some, harray, Bool.or_eq_true, List.any_eq_true]
  simp only [List.mem_range]

theorem GroupAcc.slot_n (g : GroupAcc) (c : SlotCtx) (ch : Nat) (spare : Bool) (shot : Option FireCmd) : (g.slot c ch spare shot).n = g.n := rfl

/-- The buffers with which a slot of a group begins. -/
def EchoChan.begun (k : EchoChan) (first : Bool) : EchoChan :=
  if first then { k with cur := 1 - k.cur, acc := {}, bufs := setAt [] k.bufs (1 - k.cur) [], clips := setAt [] k.clips (1 - k.cur) [] } else k

theorem EchoChan.histStep_eq (k : EchoChan) (c : SlotCtx) (ch w : Nat) (sp : Bool) (shot : Option FireCmd) (wave : Option (Array Int × Array Bool)) (e : EchoChan)
    (he : e = { k.begun (decide (c.groupPos = 1)) with acc := (k.begun (decide (c.groupPos = 1))).acc.slot c ch sp shot }) :
    ((shot = none ∨ wave = none) → k.histStep c ch w sp shot wave = e)
    ∧ ∀ f x cl, shot = some f → wave = some (x, cl) → k.histStep c ch w sp shot wave = { e with
      bufs := setAt [] e.bufs e.cur (addHist w (e.bufs.getD e.cur []) x), clips := setAt [] e.clips e.cur (addClip w (e.clips.getD e.cur []) cl), acc := e.acc.shot f } := by
  have hbegun : k.begun (decide (c.groupPos = 1)) = if c.groupPos = 1 then
      { k with cur := 1 - k.cur, acc := {}, bufs := setAt [] k.bufs (1 - k.cur) [], clips := setAt [] k.clips (1 - k.cur) [] } else k := by
    rw [EchoChan.begun]
    exact if_congr decide_eq_true_iff rfl rfl
  rw [hbegun] at he
  constructor
  · rintro (rfl | rfl)
    · rw [he]
      rfl
    · rw [he]
      cases shot <;> rfl
  · rintro f x cl rfl rfl
    rw [he]
    rfl

theorem EchoChan.begun_first (k : EchoChan) : (k.begun true).cur = 1 - k.cur ∧ (k.begun true).history = k.history ∧ (k.begun true).acc.n = 0
    ∧ (k.begun true).bufs.getD (1 - k.cur) [] = [] ∧ (k.begun true).clips.getD (1 - k.cur) [] = [] :=
  ⟨rfl, rfl, rfl, (getD_setAt [] k.bufs _ _ _).trans (if_pos rfl), (getD_setAt [] k.clips _ _ _).trans (if_pos rfl)⟩

/-- What a slot of a group makes of the channel's buffers. -/
theorem EchoChan.histStep_shows (k : EchoChan) (c : SlotCtx) (ch w : Nat) (sp : Bool) (shot : Option FireCmd) (wave : Option (Array Int × Array Bool)) (t : EchoChan)
    (ht : t = k.histStep c ch w sp shot wave) :
    t.cur = (if c.groupPos = 1 then 1 - k.cur else k.cur) ∧ t.history = k.history
    ∧ ((shot = none ∨ wave = none) → t.acc.n = (if c.groupPos = 1 then 0 else k.acc.n) ∧ t.bufs.getD t.cur [] = (if c.groupPos = 1 then [] else k.bufs.getD k.cur []))
    ∧ (∀ f x cl, shot = some f → wave = some (x, cl) → t.acc.n = (if c.groupPos = 1 then 0 else k.acc.n) + 1
      ∧ (c.groupPos = 1 → t.bufs.getD t.cur [] = addHist w [] x ∧ t.clips.getD t.cur [] = addClip w [] cl)
      ∧ (¬c.groupPos = 1 → t.bufs.getD t.cur [] = addHist w (if c.groupPos = 1 then [] else k.bufs.getD k.cur []) x
        ∧ t.clips.getD t.cur [] = addClip w (if c.groupPos = 1 then [] else k.clips.getD k.cur []) cl)) := by
  obtain ⟨b, hb⟩ : ∃ b, b = k.begun (decide (c.groupPos = 1)) := ⟨_, rfl⟩
  have hstart : b.cur = (if c.groupPos = 1 then 1 - k.cur else k.cur) ∧ b.history = k.history ∧ b.acc.n = (if c.groupPos = 1 then 0 else k.acc.n)
      ∧ b.bufs.getD b.cur [] = (if c.groupPos = 1 then [] else k.bufs.getD k.cur []) ∧ b.clips.getD b.cur [] = (if c.groupPos = 1 then [] else k.clips.getD k.cur []) := by
    by_cases h : c.groupPos = 1
    · have hfirst : b = k.begun true := by rw [hb, decide_eq_true h]
      obtain ⟨h1, h2, h3, h4, h5⟩ := k.begun_first
      rw [hfirst, h1, if_pos h, if_pos h, if_pos h, if_pos h]
      exact ⟨rfl, h2, h3, h4, h5⟩
    · have hlater : b = k := by rw [hb, decide_eq_false h]; rfl
      rw [hlater, if_neg h, if_neg h, if_neg h, if_neg h]
      exact ⟨rfl, rfl, rfl, rfl, rfl⟩
  obtain ⟨hcur, hhist, hn, hbufs, hclips⟩ := hstart
  obtain ⟨hstill, hshot⟩ := k.histStep_eq c ch w sp shot wave { b with acc := b.acc.slot c ch sp shot } (by rw [hb])
  have hcase : (shot = none ∨ wave = none) ∨ ∃ f x cl, shot = some f ∧ wave = some (x, cl) := by
    cases shot with
    | none => exact .inl (.inl rfl)
    | some f =>
      cases wave with
      | none => exact .inl (.inr rfl)
      | some p => exact .inr ⟨f, p.1, p.2, rfl, rfl⟩
  rcases hcase with hnone | ⟨f, x, cl, hf, hx⟩
  · rw [ht, hstill hnone]
    refine ⟨hcur, hhist, fun _ => ⟨hn, hbufs⟩, fun f x cl hf hx => ?_⟩
    rcases hnone with h | h
    · exact nomatch h.symm.trans hf
    · exact nomatch h.symm.trans hx
  · have heq := hshot f x cl hf hx
    have hbuf : t.bufs.getD t.cur [] = addHist w (b.bufs.getD b.cur []) x ∧ t.clips.getD t.cur [] = addClip w (b.clips.getD b.cur []) cl := by
      rw [ht, heq]
      exact ⟨(getD_setAt [] b.bufs b.cur b.cur _).trans (if_pos rfl), (getD_setAt [] b.clips b.cur b.cur _).trans (if_pos rfl)⟩
    have hparts : t.cur = b.cur ∧ t.history = b.history ∧ t.acc.n = b.acc.n + 1 := by
      rw [ht, heq]
      exact ⟨rfl, rfl, rfl⟩
    obtain ⟨hc, hh, ha⟩ := hparts
    refine ⟨hc.trans hcur, hh.trans hhist, fun h => ?_, fun f' x' cl' hf' hx' => ?_⟩
    · rcases h with h | h
      · exact nomatch h.symm.trans hf
      · exact nomatch h.symm.trans hx
    · obtain ⟨rfl, rfl⟩ : x = x' ∧ cl = cl' := by
        have h := hx.symm.trans hx'
        simp only [Option.some.injEq, Prod.mk.injEq] at h
        exact h
      rw [hbuf.1, hbuf.2, hbufs, hclips]
      refine ⟨by rw [ha, hn], fun h => ?_, fun h => ⟨rfl, rfl⟩⟩
      rw [if_pos h, if_pos h]
      exact ⟨rfl, rfl⟩

/-! ### The matched filter and the threshold (R129, R130) -/

theorem matched_size (tpl : List Int) (z : Array Int) : (matched tpl z).size = z.size := by simp [matched]

theorem mapIdx_eq_range {α β : Type} (d : α) (l : List α) (f : Nat → α → β) : l.mapIdx f = (List.range l.length).map fun t => f t (l.getD t d) := by
  refine List.ext_getElem (by simp) fun n h _ => ?_
  have hn : n < l.length := by simpa using h
  simp [List.getElem?_eq_getElem hn]

theorem matched_at (tpl : List Int) (z : Array Int) (i : Nat) (h : i < z.size) : (matched tpl z).getD i 0
    = rheDiv (sumInt ((List.range tpl.length).map fun t => if 16 ≤ i + t then tpl.getD t 0 * z.getD (i + t - 16) 0 else 0)) 32768 := by
  have hi : i < (List.range z.size).length := by simpa using h
  simp only [matched, Array.getD_eq_getD_getElem?, List.getElem?_toArray, List.getElem?_map, List.getElem?_range h, Option.map_some, Option.getD_some]
  rw [mapIdx_eq_range 0]

theorem rheSqrt_one (n : Nat) (h : 0 < n) : 0 < rheSqrt n 1 ∧ (2 * rheSqrt n 1 - 1) ^ 2 < 4 * n ∧ 4 * n < (2 * rheSqrt n 1 + 1) ^ 2 := by
  obtain ⟨k, hk⟩ : ∃ k, k = Nat.sqrt n := ⟨_, rfl⟩
  have hlow : k * k ≤ n := hk ▸ Nat.sqrt_le n
  have hhigh : n < (k + 1) * (k + 1) := hk ▸ Nat.lt_succ_sqrt n
  have hpos : 0 < k := hk ▸ Nat.sqrt_pos.mpr h
  have heq : rheSqrt n 1 = if 4 * n < (2 * k + 1) * (2 * k + 1) then k else if 4 * n > (2 * k + 1) * (2 * k + 1) then k + 1 else if k % 2 = 0 then k else k + 1 := by
    rw [rheSqrt, Nat.div_one, ← hk, Nat.mul_one]
  obtain ⟨m, rfl⟩ : ∃ m, k = m + 1 := ⟨k - 1, by omega⟩
  have hodd : (2 * (m + 1) + 1) * (2 * (m + 1) + 1) = 4 * (m * m + 3 * m + 2) + 1 := by ring
  rw [heq]
  by_cases hlt : 4 * n < (2 * (m + 1) + 1) * (2 * (m + 1) + 1)
  · rw [if_pos hlt]
    have hsub : 2 * (m + 1) - 1 = 2 * m + 1 := by omega
    rw [hsub]
    refine ⟨hpos, ?_, ?_⟩
    · nlinarith
    · rw [pow_two]
      exact hlt
  · rw [if_neg hlt, if_pos (by omega)]
    have hsub : 2 * (m + 1 + 1) - 1 = 2 * (m + 1) + 1 := by omega
    rw [hsub]
    refine ⟨by omega, ?_, ?_⟩
    · rw [pow_two]
      omega
    · nlinarith

/-! ### Candidates (R131, R132) -/

theorem clampInt_toNat (v : Int) : ((clampInt 0 1048575 v).toNat : Int) = min (max v 0) 1048575 := by
  unfold clampInt
  omega

theorem mem_candidates (a : PassArgs) (y : Array Int) (x : Echo) : x ∈ candidates a y ↔ ∃ i, 1 ≤ i ∧ i + 2 ≤ y.size ∧ candidateAt a y i = some x := by
  simp only [candidates, List.mem_filterMap, List.mem_range]
  constructor
  · rintro ⟨k, hk, h⟩
    exact ⟨k + 1, by omega, by omega, h⟩
  · rintro ⟨i, h1, h2, h⟩
    exact ⟨i - 1, by omega, by rwa [Nat.sub_add_cancel h1]⟩

theorem candidateAt_iff (a : PassArgs) (y : Array Int) (i : Nat) (x : Echo) : candidateAt a y i = some x ↔
    a.thr ≤ y.getD i 0 ∧ y.getD (i - 1) 0 < y.getD i 0 ∧ y.getD (i + 1) 0 ≤ y.getD i 0
    ∧ (let l : Rat := (y.getD (i - 1) 0 : Int); let p : Rat := (y.getD i 0 : Int); let r : Rat := (y.getD (i + 1) 0 : Int)
      let t := rhe ((((i : Rat) + (l - r) / (2 * (l - 2 * p + r))) * (a.w : Rat) + ((a.w : Rat) - 1) / 2) * 64)
      x.bin = i ∧ x.t = t ∧ (x.rng : Int) = min (max (t - a.fine - a.calE - a.calCh) 0) 1048575
      ∧ x.amp = min (rheDiv (y.getD i 0) (a.n * a.w)).toNat 65535 ∧ x.width = widthOf y i a.w ∧ x.cls = 0 ∧ x.unconfirmed = false) := by
  obtain ⟨p, hp⟩ : ∃ p, p = y.getD i 0 := ⟨_, rfl⟩
  obtain ⟨l, hl⟩ : ∃ l, l = y.getD (i - 1) 0 := ⟨_, rfl⟩
  obtain ⟨r, hr⟩ : ∃ r, r = y.getD (i + 1) 0 := ⟨_, rfl⟩
  obtain ⟨t, ht⟩ : ∃ t, t = rhe ((((i : Rat) + ((l : Rat) - (r : Rat)) / (2 * ((l : Rat) - 2 * (p : Rat) + (r : Rat)))) * (a.w : Rat) + ((a.w : Rat) - 1) / 2) * 64) := ⟨_, rfl⟩
  have heq : candidateAt a y i = if a.thr ≤ p ∧ l < p ∧ r ≤ p then
      some { bin := i, t := t, rng := (clampInt 0 1048575 (t - a.fine - a.calE - a.calCh)).toNat, amp := min (rheDiv p (a.n * a.w)).toNat 65535, width := widthOf y i a.w } else none := by
    have hfrac : ((l - r : Int) : Rat) / ((2 * (l - 2 * p + r) : Int) : Rat) = ((l : Rat) - (r : Rat)) / (2 * ((l : Rat) - 2 * (p : Rat) + (r : Rat))) := by push_cast; rfl
    rw [ht, ← hfrac, candidateAt, hp, hl, hr]
  dsimp only
  rw [heq, ← hp, ← hl, ← hr, ← ht]
  by_cases h : a.thr ≤ p ∧ l < p ∧ r ≤ p
  · obtain ⟨h1, h2, h3⟩ := h
    rw [if_pos ⟨h1, h2, h3⟩]
    constructor
    · intro hx
      cases hx
      exact ⟨h1, h2, h3, rfl, rfl, clampInt_toNat _, rfl, rfl, rfl, rfl⟩
    · rintro ⟨-, -, -, hb, hxt, hrng, hamp, hwidth, hcls, hunc⟩
      obtain ⟨b, xt, rng, amp, width, cls, unc⟩ := x
      dsimp only at hb hxt hrng hamp hwidth hcls hunc
      have hr' : rng = (clampInt 0 1048575 (t - a.fine - a.calE - a.calCh)).toNat := by
        have := hrng.trans (clampInt_toNat (t - a.fine - a.calE - a.calCh)).symm
        exact_mod_cast this
      subst hb hxt hr' hamp hwidth hcls hunc
      rfl
  · rw [if_neg h]
    exact ⟨fun hx => (nomatch hx), fun hx => absurd ⟨hx.1, hx.2.1, hx.2.2.1⟩ h⟩

end Sys2Proof.Machine

end

section
/-! PROOFS. Chapter 5: widths, the near gate, classes and the selection of echoes. -/

namespace Sys2Proof.Machine

/-! ### The half-height crossings (R132) -/

theorem halfCross_none (p : Int) (get : Nat → Option Int) (n k : Nat) (h : ∀ j v, k ≤ j → j < k + n → get j = some v → p ≤ 2 * v) : halfCross p get n k = none := by
  induction n generalizing k with
  | zero => rfl
  | succ n ih =>
    have hrest := ih (k + 1) fun j v h1 h2 => h j v (by omega) (by omega)
    rw [halfCross]
    split
    next v u hv _ =>
      have hge := h k v (Nat.le_refl k) (by omega) hv
      rw [if_neg (by omega), hrest]
    · rfl

/-- The place of a crossing between two neighbours. -/
def crossing (p u v : Int) : Rat := ((u : Rat) - (p : Rat) / 2) / ((u : Rat) - (v : Rat))

theorem halfCross_at (p : Int) (get : Nat → Option Int) (val : Nat → Int) (n k m : Nat) (hk : 1 ≤ k) (hkm : k ≤ m) (hm : m < k + n)
    (hget : ∀ j, k ≤ j + 1 → j ≤ m → get j = some (val j)) (hbefore : ∀ j, k ≤ j → j < m → p ≤ 2 * val j) (hat : 2 * val m < p) :
    halfCross p get n k = some (((m : Rat) - 1) + crossing p (val (m - 1)) (val m)) := by
  induction n generalizing k with
  | zero => omega
  | succ n ih =>
    have h0 := hget k (by omega) hkm
    have h1 := hget (k - 1) (by omega) (by omega)
    rw [halfCross, h0, h1]
    rcases Nat.eq_or_lt_of_le hkm with rfl | hlt
    · have hcast : ((k - 1 : Nat) : Rat) = (k : Rat) - 1 := by
        rw [Nat.cast_sub hk, Nat.cast_one]
      rw [← hcast]
      exact if_pos hat
    · have hge := hbefore k (Nat.le_refl k) hlt
      have hrest := ih (k + 1) (by omega) hlt (by omega) (fun j h1 h2 => hget j (by omega) h2) fun j h1 h2 => hbefore j (by omega) h2
      rw [← hrest]
      exact if_neg (by omega)

theorem widthOf_up (y : Array Int) (i w : Nat) (h : ∀ k, 1 ≤ k → k ≤ 64 → i + k < y.size → y.getD i 0 ≤ 2 * y.getD (i + k) 0) : widthOf y i w = 1023 := by
  have hnone : halfCross (y.getD i 0) (fun k => y[i + k]?) 64 1 = none := by
    refine halfCross_none _ _ _ _ fun j v h1 h2 hv => ?_
    have hlt := (Array.getElem?_eq_some_iff.mp hv).1
    have hat : y.getD (i + j) 0 = v := by
      rw [Array.getD_eq_getD_getElem?, hv]
      rfl
    exact hat ▸ h j h1 (by omega) hlt
  rw [widthOf]
  simp only [hnone]

theorem widthOf_down (y : Array Int) (i w : Nat) (h : ∀ k, 1 ≤ k → k ≤ 64 → k ≤ i → y.getD i 0 ≤ 2 * y.getD (i - k) 0) : widthOf y i w = 1023 := by
  have hnone : halfCross (y.getD i 0) (fun k => if k ≤ i then y[i - k]? else none) 64 1 = none := by
    refine halfCross_none _ _ _ _ fun j v h1 h2 hv => ?_
    by_cases hj : j ≤ i
    · rw [if_pos hj] at hv
      have hat : y.getD (i - j) 0 = v := by
        rw [Array.getD_eq_getD_getElem?, hv]
        rfl
      exact hat ▸ h j h1 (by omega) hj
    · rw [if_neg hj] at hv
      exact nomatch hv
  rw [widthOf]
  simp only [hnone]
  cases halfCross (y.getD i 0) (fun k => y[i + k]?) 64 1 <;> rfl

theorem widthOf_both (y : Array Int) (i w m n : Nat) (p : Int) (hp : p = y.getD i 0) (hm1 : 1 ≤ m) (hm : m ≤ 64) (him : i + m < y.size)
    (hu : 2 * y.getD (i + m) 0 < p) (hub : ∀ k, 1 ≤ k → k < m → p ≤ 2 * y.getD (i + k) 0)
    (hn1 : 1 ≤ n) (hn : n ≤ 64) (hin : n ≤ i) (hd : 2 * y.getD (i - n) 0 < p) (hdb : ∀ k, 1 ≤ k → k < n → p ≤ 2 * y.getD (i - k) 0) :
    widthOf y i w = min (rhe ((((m : Rat) - 1 + crossing p (y.getD (i + (m - 1)) 0) (y.getD (i + m) 0))
        + ((n : Rat) - 1 + crossing p (y.getD (i - (n - 1)) 0) (y.getD (i - n) 0))) * (w : Rat) * 8)).toNat 1023 := by
  have hat : ∀ j, j < y.size → y[j]? = some (y.getD j 0) := fun j hj => by
    rw [Array.getD_eq_getD_getElem?, Array.getElem?_eq_getElem hj]
    rfl
  have hup := halfCross_at p (fun k => y[i + k]?) (fun k => y.getD (i + k) 0) 64 1 m (Nat.le_refl 1) hm1 (by omega)
    (fun j _ h2 => hat _ (by omega)) hub hu
  have hdown := halfCross_at p (fun k => if k ≤ i then y[i - k]? else none) (fun k => y.getD (i - k) 0) 64 1 n (Nat.le_refl 1) hn1 (by omega)
    (fun j _ h2 => (if_pos (by omega)).trans (hat _ (by omega))) hdb hd
  rw [widthOf, ← hp]
  simp only [hup, hdown]

/-! ### The near gate and the classes (R133, R136) -/

theorem gated_split (objs : List (Nat × Nat)) (ch : Nat) (l : List Echo) (h : regOf objs K.NEAR_MODE = 0) : (gated objs ch l).1.length + (gated objs ch l).2 = l.length
    ∧ ∀ e, e ∈ (gated objs ch l).1 ↔ e ∈ l ∧ regOf objs (K.NEAR_GATE ch) * 64 ≤ e.rng := by
  have heq : gated objs ch l = (l.filter fun e => decide (regOf objs (K.NEAR_GATE ch) * 64 ≤ e.rng), (l.filter fun e => decide (e.rng < regOf objs (K.NEAR_GATE ch) * 64)).length) := by
    rw [gated, if_pos h]
  rw [heq]
  refine ⟨?_, fun e => by simp only [List.mem_filter, decide_eq_true_eq]⟩
  have hnot : (fun e : Echo => decide (e.rng < regOf objs (K.NEAR_GATE ch) * 64)) = fun e => !decide (regOf objs (K.NEAR_GATE ch) * 64 ≤ e.rng) := by
    funext e
    rw [← decide_not]
    exact decide_eq_decide.mpr Nat.not_le.symm
  rw [hnot]
  exact (List.length_eq_length_filter_add _).symm

theorem gated_off (objs : List (Nat × Nat)) (ch : Nat) (l : List Echo) (h : regOf objs K.NEAR_MODE ≠ 0) : gated objs ch l = (l, 0) := by
  rw [gated, if_neg h]

theorem clippedNear_iff (clip : Array Bool) (i : Nat) : clippedNear clip i = true ↔ ∃ j, i ≤ j + 16 ∧ j ≤ i + 15 ∧ clip.getD j false = true := by
  simp only [clippedNear, List.any_eq_true, List.mem_range, Bool.and_eq_true, decide_eq_true_eq]
  constructor
  · rintro ⟨d, h1, h2, h3⟩
    exact ⟨i + d - 16, by omega, by omega, h3⟩
  · rintro ⟨j, h1, h2, h3⟩
    refine ⟨j + 16 - i, by omega, by omega, ?_⟩
    have hj : i + (j + 16 - i) - 16 = j := by omega
    rw [hj]
    exact h3

theorem classOf_rows (objs : List (Nat × Nat)) (clip : Array Bool) (near : Bool) (e : Echo) (c : Prop) (hc : c ↔ clippedNear clip e.bin = true) :
    (c → classOf objs clip near e = 4) ∧ (¬c → near = true → classOf objs clip near e = 2)
    ∧ (¬c → near = false → e.unconfirmed = true → classOf objs clip near e = 3)
    ∧ (¬c → near = false → e.unconfirmed = false → (regOf objs K.SOFT_WIDTH ≤ e.width ∧ e.amp ≤ regOf objs K.SOFT_AMP) → classOf objs clip near e = 1)
    ∧ (¬c → near = false → e.unconfirmed = false → ¬(regOf objs K.SOFT_WIDTH ≤ e.width ∧ e.amp ≤ regOf objs K.SOFT_AMP) → classOf objs clip near e = 0) := by
  rw [classOf, hc]
  refine ⟨fun h => if_pos h, fun h hn => ?_, fun h hn hu => ?_, fun h hn hu hs => ?_, fun h hn hu hs => ?_⟩
  · rw [if_neg h, if_pos hn]
  · rw [if_neg h, hn, hu, if_neg (by decide), if_pos rfl]
  · rw [if_neg h, hn, hu, if_neg (by decide), if_neg (by decide), if_pos hs]
  · rw [if_neg h, hn, hu, if_neg (by decide), if_neg (by decide), if_neg hs]

/-! ### Sorting -/

section
variable {α : Type} (le : α → α → Bool)

theorem insertBy_perm (a : α) (l : List α) : (insertBy le a l).Perm (a :: l) := by
  induction l with
  | nil => exact .refl _
  | cons b l ih =>
    rw [insertBy]
    split
    · exact (ih.cons b).trans (.swap a b l)
    · exact .refl _

theorem insertBy_pairwise (hanti : ∀ a b, le b a = false → le a b = true) (htrans : ∀ a b c, le a b = true → le b c = true → le a c = true) (a : α) (l : List α)
    (h : l.Pairwise fun a b => le a b = true) : (insertBy le a l).Pairwise fun a b => le a b = true := by
  induction l with
  | nil => exact List.pairwise_singleton _ a
  | cons b l ih =>
    obtain ⟨hb, hl⟩ := List.pairwise_cons.mp h
    rw [insertBy]
    split
    next hle =>
      refine List.pairwise_cons.mpr ⟨fun c hc => ?_, ih hl⟩
      rcases List.mem_cons.mp ((insertBy_perm le a l).mem_iff.mp hc) with rfl | hc
      · exact hle
      · exact hb c hc
    next hle =>
      have hab := hanti a b (by simpa using hle)
      refine List.pairwise_cons.mpr ⟨fun c hc => ?_, h⟩
      rcases List.mem_cons.mp hc with rfl | hc
      · exact hab
      · exact htrans a b c hab (hb c hc)

theorem sortBy_foldl (l r : List α) (hanti : ∀ a b, le b a = false → le a b = true) (htrans : ∀ a b c, le a b = true → le b c = true → le a c = true)
    (h : r.Pairwise fun a b => le a b = true) :
    (l.foldl (fun r a => insertBy le a r) r).Perm (l ++ r) ∧ (l.foldl (fun r a => insertBy le a r) r).Pairwise fun a b => le a b = true := by
  induction l generalizing r with
  | nil => exact ⟨.refl _, h⟩
  | cons a l ih =>
    obtain ⟨hp, hs⟩ := ih (insertBy le a r) (insertBy_pairwise le hanti htrans a r h)
    exact ⟨hp.trans (((insertBy_perm le a r).append_left l).trans List.perm_middle), hs⟩

theorem sortBy_shows (l : List α) (hanti : ∀ a b, le b a = false → le a b = true) (htrans : ∀ a b c, le a b = true → le b c = true → le a c = true) :
    (sortBy le l).Perm l ∧ (sortBy le l).Pairwise fun a b => le a b = true := by
  obtain ⟨hp, hs⟩ := sortBy_foldl le l [] hanti htrans List.Pairwise.nil
  rw [List.append_nil] at hp
  exact ⟨hp, hs⟩

end

theorem nearer_iff (a b : Echo) : nearer a b = true ↔ a.rng < b.rng ∨ a.rng = b.rng ∧ a.bin ≤ b.bin := by
  simp [nearer]

theorem stronger_iff (a b : Echo) : stronger a b = true ↔ b.amp < a.amp ∨ a.amp = b.amp ∧ (a.rng < b.rng ∨ a.rng = b.rng ∧ a.bin ≤ b.bin) := by
  simp [stronger]

theorem sortBy_nearer (l : List Echo) : (sortBy nearer l).Perm l ∧ (sortBy nearer l).Pairwise fun a b => nearer a b = true := by
  refine sortBy_shows nearer l (fun a b h => ?_) fun a b c h1 h2 => ?_
  · rw [← Bool.not_eq_true, nearer_iff] at h
    rw [nearer_iff]
    omega
  · rw [nearer_iff] at h1 h2 ⊢
    omega

theorem sortBy_stronger (l : List Echo) : (sortBy stronger l).Perm l ∧ (sortBy stronger l).Pairwise fun a b => stronger a b = true := by
  refine sortBy_shows stronger l (fun a b h => ?_) fun a b c h1 h2 => ?_
  · rw [← Bool.not_eq_true, stronger_iff] at h
    rw [stronger_iff]
    omega
  · rw [stronger_iff] at h1 h2 ⊢
    omega

/-! ### The selection of echoes (R137) -/

/-- The first echo is stronger than the second, at equal strength the nearer one, at equal range the one of the lower bin. -/
def outranks (a b : Echo) : Prop := b.amp < a.amp ∨ (a.amp = b.amp ∧ (a.rng < b.rng ∨ (a.rng = b.rng ∧ a.bin < b.bin)))

/-- The strongest ones outrank the others. -/
theorem take_outranks (l : List Echo) (m : Nat) (hb : (l.map (·.bin)).Nodup) : ∀ a ∈ (sortBy stronger l).take m, ∀ b ∈ l, b ∉ (sortBy stronger l).take m → outranks a b := by
  obtain ⟨hperm, hsort⟩ := sortBy_stronger l
  intro a ha b hbl hnot
  have hdrop : b ∈ (sortBy stronger l).drop m := by
    have hmem := hperm.mem_iff.mpr hbl
    rw [← List.take_append_drop m (sortBy stronger l), List.mem_append] at hmem
    exact hmem.resolve_left hnot
  rw [← List.take_append_drop m (sortBy stronger l), List.pairwise_append] at hsort
  have hle := (stronger_iff a b).mp (hsort.2.2 a ha b hdrop)
  have hne : a.bin ≠ b.bin := fun h => by
    have hal := hperm.mem_iff.mp (List.mem_of_mem_take ha)
    exact hnot (List.inj_on_of_nodup_map hb hal hbl h ▸ ha)
  unfold outranks
  omega

theorem lastEcho_fold (l : List Echo) (m : Option Echo) (f : Option Echo → Echo → Option Echo)
    (hf : f = fun m e => match m with
      | none => some e
      | some x => if x.rng < e.rng || (x.rng == e.rng && decide (e.bin < x.bin)) then some e else some x) :
    (l = [] ∧ l.foldl f m = m) ∨ ∃ x, l.foldl f m = some x ∧ (x ∈ l ∨ m = some x) ∧ ∀ b, b ∈ l ∨ m = some b → b.rng < x.rng ∨ (b.rng = x.rng ∧ x.bin ≤ b.bin) := by
  induction l generalizing m with
  | nil => exact .inl ⟨rfl, rfl⟩
  | cons e l ih =>
    refine .inr ?_
    obtain ⟨z, hz, hze, hzm⟩ : ∃ z, f m e = some z ∧ (z = e ∨ m = some z) ∧ ∀ b, b = e ∨ m = some b → b.rng < z.rng ∨ (b.rng = z.rng ∧ z.bin ≤ b.bin) := by
      rw [hf]
      cases m with
      | none =>
        refine ⟨e, rfl, .inl rfl, fun b hb => ?_⟩
        rcases hb with rfl | h
        · exact .inr ⟨rfl, Nat.le_refl _⟩
        · exact nomatch h
      | some x =>
        by_cases h : (x.rng < e.rng || (x.rng == e.rng && decide (e.bin < x.bin))) = true
        · refine ⟨e, if_pos h, .inl rfl, fun b hb => ?_⟩
          simp only [Bool.or_eq_true, Bool.and_eq_true, decide_eq_true_eq, beq_iff_eq] at h
          rcases hb with rfl | hb
          · exact .inr ⟨rfl, Nat.le_refl _⟩
          · cases hb
            omega
        · refine ⟨x, if_neg h, .inr rfl, fun b hb => ?_⟩
          simp only [Bool.or_eq_true, Bool.and_eq_true, decide_eq_true_eq, beq_iff_eq] at h
          rcases hb with rfl | hb
          · omega
          · cases hb
            exact .inr ⟨rfl, Nat.le_refl _⟩
    rw [List.foldl_cons, hz]
    rcases ih (some z) with ⟨rfl, hl⟩ | ⟨x, hx, hxl, hxm⟩
    · refine ⟨z, hl, hze.imp (fun h => by rw [h]; exact List.mem_cons_self) id, fun b hb => hzm b ?_⟩
      exact hb.imp (fun h => by simpa using h) id
    · refine ⟨x, hx, ?_, fun b hb => ?_⟩
      · rcases hxl with h | h
        · exact .inl (List.mem_cons_of_mem e h)
        · cases h
          exact hze.imp (fun h => by rw [h]; exact List.mem_cons_self) id
      · have hz' := hxm z (.inr rfl)
        have hold : b = e ∨ m = some b → b.rng < x.rng ∨ (b.rng = x.rng ∧ x.bin ≤ b.bin) := fun h => by
          have := hzm b h
          omega
        rcases hb with h | h
        · rcases List.mem_cons.mp h with h | h
          · exact hold (.inl h)
          · exact hxm b (.inl h)
        · exact hold (.inr h)

theorem lastEcho_shows (l : List Echo) (h : l ≠ []) : ∃ x, lastEcho l = some x ∧ x ∈ l ∧ ∀ b ∈ l, b.rng < x.rng ∨ (b.rng = x.rng ∧ x.bin ≤ b.bin) := by
  rcases lastEcho_fold l none _ rfl with ⟨hl, -⟩ | ⟨x, hx, hxl, hxm⟩
  · exact absurd hl h
  · exact ⟨x, hx, hxl.resolve_right (fun h => nomatch h), fun b hb => hxm b (.inl hb)⟩

/-- The echoes that are kept where there are more, before they are ordered by range. -/
def keptOfMany (n : Nat) (last : Bool) (l : List Echo) : List Echo :=
  match last, lastEcho l, n with
  | true, some x, m + 1 => x :: (sortBy stronger (l.filter (· != x))).take m
  | _, _, _ => (sortBy stronger l).take n

/-- The echoes that are kept of any number. -/
def keptEchoes (n : Nat) (last : Bool) (l : List Echo) : List Echo := if l.length ≤ n then l else keptOfMany n last l

theorem selectEchoes_eq (n : Nat) (last : Bool) (l : List Echo) : selectEchoes n last l = sortBy nearer (keptEchoes n last l) := by
  by_cases h : l.length ≤ n
  · have hs : selectEchoes n last l = sortBy nearer l := if_pos h
    have hk : keptEchoes n last l = l := if_pos h
    rw [hs, hk]
  · have hs : selectEchoes n last l = sortBy nearer (keptOfMany n last l) := if_neg h
    have hk : keptEchoes n last l = keptOfMany n last l := if_neg h
    rw [hs, hk]

theorem keptEchoes_few (n : Nat) (last : Bool) (l : List Echo) (h : l.length ≤ n) : keptEchoes n last l = l := if_pos h

/-- More echoes than are kept: the strongest ones, with the last one before them where it is preferred. -/
theorem keptEchoes_many (n : Nat) (last : Bool) (l : List Echo) (h : n < l.length) : (keptEchoes n last l = (sortBy stronger l).take n ∧ (last = false ∨ n = 0))
    ∨ ∃ x m, last = true ∧ n = m + 1 ∧ x ∈ l ∧ (∀ b ∈ l, b.rng < x.rng ∨ (b.rng = x.rng ∧ x.bin ≤ b.bin))
      ∧ keptEchoes n last l = x :: (sortBy stronger (l.filter (· != x))).take m := by
  obtain ⟨x, hx, hxl, hfar⟩ := lastEcho_shows l (List.ne_nil_of_length_pos (by omega))
  have hkept : keptEchoes n last l = keptOfMany n last l := if_neg (by omega)
  unfold keptOfMany at hkept
  rw [hx] at hkept
  cases last with
  | false => exact .inl ⟨hkept, .inl rfl⟩
  | true =>
    cases n with
    | zero => exact .inl ⟨hkept, .inr rfl⟩
    | succ m => exact .inr ⟨x, m, rfl, rfl, hxl, hfar, hkept⟩

theorem filter_ne_length (l : List Echo) (x : Echo) (hx : x ∈ l) (hn : l.Nodup) : (l.filter (· != x)).length + 1 = l.length := by
  rw [← List.Nodup.erase_eq_filter hn, List.length_erase_of_mem hx]
  have := List.length_pos_of_mem hx
  omega

theorem keptEchoes_le (n : Nat) (last : Bool) (l : List Echo) : (keptEchoes n last l).length ≤ n ∧ (keptEchoes n last l).length ≤ l.length := by
  rcases Nat.lt_or_ge n l.length with h | h
  · rcases keptEchoes_many n last l h with ⟨hk, -⟩ | ⟨x, m, -, rfl, -, -, hk⟩
    · rw [hk, List.length_take]
      omega
    · rw [hk, List.length_cons, List.length_take]
      omega
  · rw [keptEchoes_few n last l h]
    exact ⟨h, Nat.le_refl _⟩

theorem selectEchoes_le (n : Nat) (last : Bool) (l : List Echo) : (selectEchoes n last l).length ≤ n ∧ (selectEchoes n last l).length ≤ l.length := by
  rw [selectEchoes_eq, (sortBy_nearer _).1.length_eq]
  exact keptEchoes_le n last l

theorem keptEchoes_shows (n : Nat) (last : Bool) (l : List Echo) (hb : (l.map (·.bin)).Nodup) : (keptEchoes n last l).length = min n l.length
    ∧ (∀ e ∈ keptEchoes n last l, e ∈ l) ∧ (keptEchoes n last l).Nodup
    ∧ (last = false → ∀ a ∈ keptEchoes n last l, ∀ b ∈ l, b ∉ keptEchoes n last l → outranks a b)
    ∧ (last = true → 0 < n → l ≠ [] → ∃ x ∈ keptEchoes n last l, (∀ b ∈ l, b.rng < x.rng ∨ (b.rng = x.rng ∧ x.bin ≤ b.bin))
      ∧ ∀ a ∈ keptEchoes n last l, a ≠ x → ∀ b ∈ l, b ∉ keptEchoes n last l → outranks a b) := by
  have hnodup := hb.of_map
  rcases Nat.lt_or_ge n l.length with h | h
  · rcases keptEchoes_many n last l h with ⟨hk, hwhy⟩ | ⟨x, m, hlast, rfl, hxl, hfar, hk⟩
    · obtain ⟨hperm, -⟩ := sortBy_stronger l
      rw [hk]
      refine ⟨?_, fun e he => hperm.mem_iff.mp (List.mem_of_mem_take he), (hperm.nodup_iff.mpr hnodup).sublist (List.take_sublist _ _), fun _ => take_outranks l n hb,
        fun ht h0 _ => ?_⟩
      · rw [List.length_take, hperm.length_eq]
      · rcases hwhy with hf | hf
        · exact absurd (ht.symm.trans hf) (by decide)
        · omega
    · obtain ⟨rest, hrest⟩ : ∃ rest, rest = l.filter (· != x) := ⟨_, rfl⟩
      have hmem : ∀ e, e ∈ rest ↔ e ∈ l ∧ e ≠ x := fun e => by
        rw [hrest, List.mem_filter]
        simp
      have hlen := filter_ne_length l x hxl hnodup
      rw [← hrest] at hk hlen
      have hrb : (rest.map (·.bin)).Nodup := hb.sublist (by rw [hrest]; exact List.filter_sublist.map _)
      obtain ⟨hperm, -⟩ := sortBy_stronger rest
      have htake : ∀ e ∈ (sortBy stronger rest).take m, e ∈ rest := fun e he => hperm.mem_iff.mp (List.mem_of_mem_take he)
      rw [hk]
      refine ⟨?_, fun e he => ?_, List.nodup_cons.mpr ⟨fun hx => ((hmem x).mp (htake x hx)).2 rfl, (hperm.nodup_iff.mpr hrb.of_map).sublist (List.take_sublist _ _)⟩,
        fun hf => absurd (hlast.symm.trans hf) (by decide), fun _ _ _ => ⟨x, List.mem_cons_self, hfar, fun a ha hax b hbl hnot => ?_⟩⟩
      · rw [List.length_cons, List.length_take, hperm.length_eq]
        omega
      · rcases List.mem_cons.mp he with rfl | he
        · exact hxl
        · exact ((hmem e).mp (htake e he)).1
      · have hat := (List.mem_cons.mp ha).resolve_left hax
        have hbx : b ≠ x := fun h => hnot (by rw [h]; exact List.mem_cons_self)
        exact take_outranks rest m hrb a hat b ((hmem b).mpr ⟨hbl, hbx⟩) fun h => hnot (List.mem_cons_of_mem x h)
  · rw [keptEchoes_few n last l h]
    refine ⟨by omega, fun e he => he, hnodup, fun _ a _ b hbl hnot => absurd hbl hnot, fun _ _ hl => ?_⟩
    obtain ⟨x, -, hxl, hfar⟩ := lastEcho_shows l hl
    exact ⟨x, hxl, hfar, fun a _ _ b hbl hnot => absurd hbl hnot⟩

theorem selectEchoes_shows (n : Nat) (last : Bool) (l : List Echo) (hb : (l.map (·.bin)).Nodup) (r : List Echo) (hr : r = selectEchoes n last l) :
    r.length = min n l.length ∧ (∀ e ∈ r, e ∈ l) ∧ r.Pairwise (fun a b => a.rng < b.rng ∨ (a.rng = b.rng ∧ a.bin < b.bin))
    ∧ (last = false → ∀ a ∈ r, ∀ b ∈ l, b ∉ r → outranks a b)
    ∧ (last = true → 0 < n → l ≠ [] → ∃ x ∈ r, (∀ b ∈ l, b.rng < x.rng ∨ (b.rng = x.rng ∧ x.bin ≤ b.bin))
      ∧ ∀ a ∈ r, a ≠ x → ∀ b ∈ l, b ∉ r → outranks a b) := by
  obtain ⟨k, hk⟩ : ∃ k, k = keptEchoes n last l := ⟨_, rfl⟩
  obtain ⟨hlen, hsub, hnodup, hfirst, hlast⟩ := keptEchoes_shows n last l hb
  obtain ⟨hperm, hsort⟩ := sortBy_nearer k
  rw [← hk] at hlen hsub hnodup hfirst hlast
  have hrk : r = sortBy nearer k := by rw [hr, hk, selectEchoes_eq]
  rw [← hrk] at hperm hsort
  have hmem := fun e => hperm.mem_iff (a := e)
  refine ⟨hperm.length_eq.trans hlen, fun e he => hsub e ((hmem e).mp he), ?_, fun h a ha b hbl hnot => hfirst h a ((hmem a).mp ha) b hbl fun hb' => hnot ((hmem b).mpr hb'),
    fun h h0 hl => ?_⟩
  · refine (hsort.and (hperm.nodup_iff.mpr hnodup)).imp_of_mem fun {a b} ha hb' hab => ?_
    have hne : a.bin ≠ b.bin := fun h => hab.2 (List.inj_on_of_nodup_map hb (hsub a ((hmem a).mp ha)) (hsub b ((hmem b).mp hb')) h)
    have hle := (nearer_iff a b).mp hab.1
    omega
  · obtain ⟨x, hx, hfar, hrest⟩ := hlast h h0 hl
    exact ⟨x, (hmem x).mpr hx, hfar, fun a ha hax b hbl hnot => hrest a ((hmem a).mp ha) hax b hbl fun hb' => hnot ((hmem b).mpr hb')⟩

/-! ### The passes (R128 to R137) -/

theorem singlePass_counts (c : SlotCtx) (ch : Nat) (f : FireCmd) (x : Array Int) (clip : Array Bool) (hist : List (List Int)) (nmw : Nat × Nat × Nat) :
    (singlePass c ch f x clip hist nmw).1.length ≤ c.emit.maxEcho := by
  exact (selectEchoes_le _ _ _).1

theorem accumPass_counts (c : SlotCtx) (ch e w : Nat) (g : GroupAcc) (h : List Int) (clip : List Bool) : (accumPass c ch e w g h clip).1.length ≤ c.emit.maxEcho := by
  exact (selectEchoes_le _ _ _).1

theorem unreported_rest (n : Nat) (last : Bool) (l : List Echo) : l.length - (selectEchoes n last l).length + (selectEchoes n last l).length = l.length :=
  Nat.sub_add_cancel (selectEchoes_le n last l).2

end Sys2Proof.Machine

end

section
/-! PROOFS. Chapter 5: what the echo engines make of a slot, and its records. -/

namespace Sys2Proof.Machine

/-! ### Records (R140) -/

theorem flagsOf_accum (ambig spare cal degraded sun dither accum : Bool) : bitAt (flagsOf ambig spare cal degraded sun dither accum) 0 = accum := by
  have hbit : ∀ x y : Nat, y < 2 → (2 * x + y) / 2 ^ 0 % 2 = y := fun x y h => by omega
  have heq : flagsOf ambig spare cal degraded sun dither accum
      = 2 * (64 * ofBool ambig + 16 * ofBool spare + 8 * ofBool cal + 4 * ofBool degraded + 2 * ofBool sun + ofBool dither) + ofBool accum := by
    rw [flagsOf]
    ring
  rw [bitAt, heq, hbit _ _ (by cases accum <;> decide)]
  cases accum <;> rfl

theorem PointRec.value_lt (x : PointRec) : x.value < 256 ^ 16 := by
  have hangle : ofSigned 16 x.angle < 2 ^ 16 := by
    unfold ofSigned
    omega
  unfold PointRec.value
  generalize ofSigned 16 x.angle = a at hangle
  omega

theorem PointRec.value_bits (x : PointRec) (v : Nat) (hv : v = x.value) :
    bits v 23 0 = x.slot % 2 ^ 24 ∧ bits v 29 24 = x.ch % 64 ∧ bits v 31 30 = 0 ∧ bits v 51 32 = x.rng % 2 ^ 20 ∧ bits v 54 52 = x.echo % 8 ∧ bits v 55 55 = 0
    ∧ bits v 59 56 = x.emitter % 16 ∧ bits v 62 60 = x.cls % 8 ∧ bits v 63 63 = 0 ∧ bits v 79 64 = x.amp % 2 ^ 16 ∧ bits v 89 80 = x.width % 1024 ∧ bits v 95 90 = 0
    ∧ bits v 103 96 = x.flags % 256 ∧ bits v 111 104 = x.amb % 256 ∧ bits v 127 112 = ofSigned 16 x.angle := by
  have hangle : ofSigned 16 x.angle < 2 ^ 16 := by
    unfold ofSigned
    omega
  rw [hv]
  unfold PointRec.value bits
  generalize ofSigned 16 x.angle = a at hangle
  refine ⟨?_, ?_, ?_, ?_, ?_, ?_, ?_, ?_, ?_, ?_, ?_, ?_, ?_, ?_, ?_⟩ <;> omega

theorem PointRec.bytes_value (x : PointRec) : x.bytes.length = 16 ∧ ofLe x.bytes = x.value :=
  ⟨leBytes_length 16 _, ofLe_leBytes 16 _ x.value_lt⟩

/-- The records of a pass bear their channel, the slot and their numbers. -/
theorem records_shown (ch slot e amb : Nat) (angle : Int) (f : Nat → Nat) (acc : Bool) (hf : ∀ far, bitAt (f far) 0 = acc) (l : List Echo) (r : List PointRec)
    (hr : r = l.mapIdx (recordOf ch slot e amb angle f)) : r.length = l.length ∧ (∀ x ∈ r, x.ch = ch ∧ x.slot = slot ∧ bitAt x.flags 0 = acc)
    ∧ r.map (·.echo) = List.range r.length ∧ r.map (fun x => (x.rng, x.amp, x.cls, x.width)) = l.map fun x => (x.rng, x.amp, x.cls, x.width) := by
  subst hr
  refine ⟨List.length_mapIdx, fun x hx => ?_, ?_, ?_⟩
  · obtain ⟨i, hi, rfl⟩ := List.mem_mapIdx.mp hx
    exact ⟨rfl, rfl, hf _⟩
  · refine List.ext_getElem (by simp) fun n h _ => ?_
    simp [recordOf]
  · refine List.ext_getElem (by simp) fun n h _ => ?_
    simp [recordOf]

/-! ### The echo work of a slot (R126 to R143, R320) -/

/-- The channel with the history that the slot finds. -/
def EchoChan.opened (k : EchoChan) (c after : SlotCtx) (ch : Nat) : EchoChan :=
  if c.singleReset || c.resumed || !bitAt c.active ch || bitAt after.takenOver ch then { k with history := [] } else k

/-- The shot whose echoes the slot holds. -/
def echoShot (c after : SlotCtx) (ch : Nat) : Option FireCmd := if bitAt c.active ch then (if !after.locked then none else shotOf c ch) else none

/-- The slot belongs to a group. -/
def echoGrouped (c : SlotCtx) : Bool := c.accum.isSome && decide (1 ≤ c.groupPos)

/-- The group ends before its last slot. -/
def echoCut (c after : SlotCtx) : Bool := echoGrouped c && decide (c.groupPos < (c.accum.map (·.1)).getD 0) && after.groupPos != c.groupPos + 1

/-- The slot is the last one of its group. -/
def echoLast (c : SlotCtx) : Bool := echoGrouped c && c.groupPos == (c.accum.map (·.1)).getD 0

/-- The group gives no records. -/
def echoLost (c after : SlotCtx) (ch : Nat) (g : GroupAcc) : Bool := g.lost || echoCut c after || !after.locked || (echoGrouped c && bitAt after.takenOver ch)

/-- The last slot of a group that gives its records. -/
def echoRun (c after : SlotCtx) (ch : Nat) (g : GroupAcc) : Bool := echoLast c && !echoLost c after ch g && !g.gainLost

/-- The histories that a shot leaves in single-shot mode. -/
def echoHistory (single : Option (Nat × Nat × Nat)) (shot : Option FireCmd) (ts : List Int) (h : List (List Int)) : List (List Int) :=
  match single, shot with
  | some (n, _, _), some _ => (ts :: h).take (n - 1)
  | _, _ => h

/-- What the echo work of a slot in which the channel is lit leaves. -/
structure EchoShown (c after : SlotCtx) (ch : Nat) (k : EchoChan) (p : Option Progress) (r : ChanStep) (b : EchoChan) (ts : List Echo) : Prop where
  begun : b = k.opened c after ch ∨ echoGrouped c = true ∧ ∃ w sp wave, b = (k.opened c after ch).histStep c ch w sp (echoShot c after ch) wave
  grouped : echoGrouped c = true → ∃ w sp wave, b = (k.opened c after ch).histStep c ch w sp (echoShot c after ch) wave
  chan : r.chan = { b with history := echoHistory c.single (echoShot c after ch) (ts.map (·.t)) b.history }
  acc : r.acc = if echoRun c after ch b.acc && decide (1 ≤ b.acc.n) && p.all Progress.accum then
      (accumPass c ch ((emitterOf c.bank ch).getD 0) ((c.accum.map (·.2)).getD 1) b.acc (b.bufs.getD b.cur []) (b.clips.getD b.cur [])).1 else []
  accRecs : ∃ e amb angle f, (∀ far, bitAt (f far) 0 = true) ∧ r.accRecs = r.acc.mapIdx (recordOf ch c.frameSlot e amb angle f)
  shots : ts = [] ∨ c.single.isSome = true ∧ ∃ f, echoShot c after ch = some f ∧ f.suppressed = false ∧ ts.length ≤ c.emit.maxEcho
  single : r.single = if ts.length ≤ 8 - r.acc.length then ts else selectEchoes (8 - r.acc.length) c.emit.lastPref ts
  singleRecs : ∃ e amb angle f, (∀ far, bitAt (f far) 0 = false) ∧ r.singleRecs = r.single.mapIdx (recordOf ch c.frameSlot e amb angle f)
  lost : r.lost = ofBool ((echoLast c || echoCut c after) && echoLost c after ch b.acc && !b.acc.gainLost)
  gainLost : r.gainLost = ofBool ((echoLast c || echoCut c after) && b.acc.gainLost)
  dump : r.dump = if echoRun c after ch b.acc && c.emit.hdump then
      some ((c.accum.map (·.2)).getD 1, if b.acc.n = 0 then List.replicate (11200 / (c.accum.map (·.2)).getD 1) 0 else b.bufs.getD b.cur []) else none

theorem chanEcho_dark (before c after : SlotCtx) (ch : Nat) (k : EchoChan) (p : Option Progress) (h : (c.kind == .slot && litIn c ch) = false) :
    chanEcho before c after ch k p = { chan := k.opened c after ch } := by
  unfold chanEcho
  extract_lets act k1 lit
  have hlit : lit = false := h
  rw [hlit]
  exact if_pos rfl

theorem chanEcho_lit (before c after : SlotCtx) (ch : Nat) (k : EchoChan) (p : Option Progress) (h : (c.kind == .slot && litIn c ch) = true) (r : ChanStep)
    (hr : r = chanEcho before c after ch k p) : ∃ b ts, EchoShown c after ch k p r b ts := by
  unfold chanEcho at hr
  extract_lets act k1 lit e dead cmd shot fires w0 wave sp base grp w n b g0 g last cutOff isLost ends run pa angle accRecs ps k3 room sg amb deg dith sRecs at hr
  have hlit : lit = true := h
  rw [hlit, if_neg (by decide)] at hr
  have hshot : shot = echoShot c after ch := rfl
  have hrun : run = echoRun c after ch b.acc := rfl
  have hgrp : grp = echoGrouped c := rfl
  have hb : b = if grp = true then (k.opened c after ch).histStep c ch w sp shot (if (fires && p.all Progress.added) = true then wave else none) else k.opened c after ch := rfl
  have hk3 : k3 = { b with history := echoHistory c.single shot (ps.1.map (·.t)) b.history } := by
    unfold k3 echoHistory
    cases c.single <;> cases shot <;> rfl
  have hpa : pa.1 = if run && decide (1 ≤ b.acc.n) && p.all Progress.accum then (accumPass c ch e w b.acc (b.bufs.getD b.cur []) (b.clips.getD b.cur [])).1 else [] := by
    unfold pa
    split
    · rfl
    · rfl
  have hshots : ps.1 = [] ∨ c.single.isSome = true ∧ ∃ f, shot = some f ∧ f.suppressed = false ∧ ps.1.length ≤ c.emit.maxEcho := by
    have hwave : ∀ f, shot = some f → f.suppressed = true → wave = none := fun f hf hsup => by
      have hfires : fires = false := by
        unfold fires
        rw [hf]
        simp [hsup]
      unfold wave w0
      rw [hf, hfires]
      rfl
    unfold ps
    clear_value wave shot b pa
    split
    next nmw f x cl hs =>
      split
      · exact .inl rfl
      · refine .inr ⟨by rw [hs]; rfl, f, rfl, ?_, singlePass_counts _ _ _ _ _ _ _⟩
        cases hsup : f.suppressed with
        | false => rfl
        | true => exact nomatch hwave f rfl hsup
    · exact .inl rfl
  rw [hr]
  refine ⟨b, ps.1, ?_, ?_, hk3, ?_, ⟨_, _, _, _, fun far => flagsOf_accum _ _ _ _ _ _ true, rfl⟩, hshots, rfl, ⟨_, _, _, _, fun far => flagsOf_accum _ _ _ _ _ _ false, rfl⟩, rfl, rfl, ?_⟩
  · rw [hb, hgrp]
    split
    next hg => exact .inr ⟨hg, _, _, _, rfl⟩
    · exact .inl rfl
  · intro hg
    rw [hb, hgrp, if_pos hg]
    exact ⟨_, _, _, rfl⟩
  · exact hpa
  · have hbufs : k3.bufs = b.bufs ∧ k3.cur = b.cur := by
      rw [hk3]
      exact ⟨rfl, rfl⟩
    dsimp only
    rw [hbufs.1, hbufs.2]
    rfl

end Sys2Proof.Machine

end

section
/-! PROOFS. Chapter 5: the rules of the echo work of a slot. -/

namespace Sys2Proof.Machine

/-! ### Where the group stands -/

theorem EchoChan.histStep_kept (k : EchoChan) (c : SlotCtx) (ch w : Nat) (sp : Bool) (shot : Option FireCmd) (wave : Option (Array Int × Array Bool)) :
    (k.histStep c ch w sp shot wave).history = k.history
    ∧ (c.withheld = true ∨ c.noEcho = true ∨ bitAt c.active ch = false ∨ bitAt c.noEngine ch = true → (k.histStep c ch w sp shot wave).acc.lost = true) := by
  refine ⟨(k.histStep_shows c ch w sp shot wave _ rfl).2.1, fun h => ?_⟩
  obtain ⟨e, he⟩ : ∃ e : EchoChan, e = { k.begun (decide (c.groupPos = 1)) with acc := (k.begun (decide (c.groupPos = 1))).acc.slot c ch sp shot } := ⟨_, rfl⟩
  have hlost : e.acc.lost = true := by
    rw [he]
    unfold GroupAcc.slot
    rcases h with h | h | h | h <;> simp [h]
  obtain ⟨hstill, hshot⟩ := k.histStep_eq c ch w sp shot wave e he
  cases hs : shot with
  | none => rw [← hs, hstill (.inl hs)]; exact hlost
  | some f =>
    cases hw : wave with
    | none => rw [← hs, ← hw, hstill (.inr hw)]; exact hlost
    | some x => rw [← hs, ← hw, hshot f x.1 x.2 hs hw]; exact hlost

theorem EchoChan.opened_bufs (k : EchoChan) (c after : SlotCtx) (ch : Nat) : (k.opened c after ch).bufs = k.bufs
    ∧ (bitAt c.active ch = false → (k.opened c after ch).history = [])
    ∧ (bitAt c.active ch = true → (k.opened c after ch).history
      = if c.singleReset = true ∨ c.resumed = true ∨ bitAt after.takenOver ch = true then [] else k.history) := by
  unfold EchoChan.opened
  refine ⟨by split <;> rfl, fun h => by rw [if_pos (by simp [h])], fun h => ?_⟩
  by_cases hr : c.singleReset = true ∨ c.resumed = true ∨ bitAt after.takenOver ch = true
  · rw [if_pos (by rcases hr with hr | hr | hr <;> simp [hr]), if_pos hr]
  · rw [not_or, not_or] at hr
    obtain ⟨h1, h2, h3⟩ := hr
    rw [if_neg (by simp [h1, h2, h3, h]), if_neg (by simp [h1, h2, h3])]

theorem echoGrouped_off (c : SlotCtx) (h : c.accum = none ∨ c.groupPos = 0) : echoGrouped c = false := by
  rcases h with h | h <;> simp [echoGrouped, h]

theorem echoGrouped_on (c : SlotCtx) (n w : Nat) (h : c.accum = some (n, w)) (h1 : 1 ≤ c.groupPos) : echoGrouped c = true := by
  simp [echoGrouped, h, h1]

theorem echoLast_inside (c : SlotCtx) (n w : Nat) (h : c.accum = some (n, w)) (h1 : 1 ≤ c.groupPos) (hn : c.groupPos < n) : echoLast c = false
    ∧ ∀ after, echoCut c after = (after.groupPos != c.groupPos + 1) := by
  refine ⟨?_, fun after => ?_⟩
  · simp [echoLast, h, Nat.ne_of_lt hn]
  · simp [echoCut, echoGrouped_on c n w h h1, h, hn]

theorem echoLast_end (c : SlotCtx) (n w : Nat) (h : c.accum = some (n, w)) (h1 : 1 ≤ c.groupPos) (hn : c.groupPos = n) : echoLast c = true
    ∧ ∀ after, echoCut c after = false := by
  refine ⟨?_, fun after => ?_⟩
  · simp [echoLast, echoGrouped_on c n w h h1, h, hn]
  · simp [echoCut, h, hn]

section
variable {c after : SlotCtx} {ch : Nat} {k : EchoChan} {p : Option Progress} {r : ChanStep} {b : EchoChan} {ts : List Echo}

theorem EchoShown.chan_parts (h : EchoShown c after ch k p r b ts) : r.chan.acc = b.acc ∧ r.chan.bufs = b.bufs ∧ r.chan.clips = b.clips ∧ r.chan.cur = b.cur
    ∧ r.chan.history = echoHistory c.single (echoShot c after ch) (ts.map (·.t)) b.history := by
  rw [h.chan]
  exact ⟨rfl, rfl, rfl, rfl, rfl⟩

theorem EchoShown.history (h : EchoShown c after ch k p r b ts) : b.history = (k.opened c after ch).history := by
  rcases h.begun with rfl | ⟨-, w, sp, wave, rfl⟩
  · rfl
  · exact (EchoChan.histStep_kept _ _ _ _ _ _ _).1

theorem EchoShown.acc_le (h : EchoShown c after ch k p r b ts) : r.acc.length ≤ c.emit.maxEcho := by
  rw [h.acc]
  split
  · exact accumPass_counts _ _ _ _ _ _ _
  · exact Nat.zero_le _

theorem EchoShown.accRecs_shown (h : EchoShown c after ch k p r b ts) : r.accRecs.length = r.acc.length
    ∧ (∀ x ∈ r.accRecs, x.ch = ch ∧ x.slot = c.frameSlot ∧ bitAt x.flags 0 = true) ∧ r.accRecs.map (·.echo) = List.range r.accRecs.length
    ∧ r.accRecs.map (fun x => (x.rng, x.amp, x.cls, x.width)) = r.acc.map fun x => (x.rng, x.amp, x.cls, x.width) := by
  obtain ⟨e, amb, angle, f, hf, hr⟩ := h.accRecs
  exact records_shown ch c.frameSlot e amb angle f true hf r.acc r.accRecs hr

theorem EchoShown.singleRecs_shown (h : EchoShown c after ch k p r b ts) : r.singleRecs.length = r.single.length
    ∧ (∀ x ∈ r.singleRecs, x.ch = ch ∧ x.slot = c.frameSlot ∧ bitAt x.flags 0 = false) ∧ r.singleRecs.map (·.echo) = List.range r.singleRecs.length := by
  obtain ⟨e, amb, angle, f, hf, hr⟩ := h.singleRecs
  obtain ⟨h1, h2, h3, -⟩ := records_shown ch c.frameSlot e amb angle f false hf r.single r.singleRecs hr
  exact ⟨h1, h2, h3⟩

theorem EchoShown.room (h : EchoShown c after ch k p r b ts) : r.single.length ≤ 8 - r.acc.length := by
  rw [h.single]
  split
  next hle => exact hle
  · exact (selectEchoes_le _ _ _).1

theorem EchoShown.noRecs (h : EchoShown c after ch k p r b ts) (ht : ts = []) : r.singleRecs = [] := by
  have hsingle : r.single = [] := by
    rw [h.single, ht]
    exact if_pos (Nat.zero_le _)
  exact List.eq_nil_of_length_eq_zero (by rw [h.singleRecs_shown.1, hsingle]; rfl)

theorem EchoShown.noAccRecs (h : EchoShown c after ch k p r b ts) (hr : echoRun c after ch b.acc = false) : r.accRecs = [] ∧ r.dump = none := by
  have hacc : r.acc = [] := by
    rw [h.acc, hr]
    rfl
  refine ⟨List.eq_nil_of_length_eq_zero (by rw [h.accRecs_shown.1, hacc]; rfl), ?_⟩
  rw [h.dump, hr]
  rfl

/-- Outside a group nothing is accumulated and nothing is lost. -/
theorem EchoShown.ungrouped (h : EchoShown c after ch k p r b ts) (hg : echoGrouped c = false) : r.accRecs = [] ∧ r.dump = none ∧ r.lost = 0 ∧ r.gainLost = 0 := by
  have hlast : echoLast c = false := by rw [echoLast, hg]; rfl
  have hcut : echoCut c after = false := by rw [echoCut, hg]; rfl
  obtain ⟨h1, h2⟩ := h.noAccRecs (by rw [echoRun, hlast]; rfl)
  refine ⟨h1, h2, ?_, ?_⟩
  · rw [h.lost, hlast, hcut]
    rfl
  · rw [h.gainLost, hlast, hcut]
    rfl

/-- A slot that is not the last one of its group gives no records; the group is lost where it is cut off. -/
theorem EchoShown.inside (h : EchoShown c after ch k p r b ts) (n w : Nat) (ha : c.accum = some (n, w)) (h1 : 1 ≤ c.groupPos) (hn : c.groupPos < n) :
    r.accRecs = [] ∧ r.dump = none ∧ (after.groupPos ≠ c.groupPos + 1 → r.lost + r.gainLost = 1) ∧ (after.groupPos = c.groupPos + 1 → r.lost = 0 ∧ r.gainLost = 0) := by
  obtain ⟨hlast, hcut⟩ := echoLast_inside c n w ha h1 hn
  obtain ⟨hrecs, hdump⟩ := h.noAccRecs (by rw [echoRun, hlast]; rfl)
  refine ⟨hrecs, hdump, fun hne => ?_, fun he => ?_⟩
  · have hcut' : echoCut c after = true := by rw [hcut]; simp [hne]
    rw [h.lost, h.gainLost, echoLost, hlast, hcut']
    cases b.acc.gainLost <;> simp [ofBool]
  · have hcut' : echoCut c after = false := by rw [hcut]; simp [he]
    rw [h.lost, h.gainLost, hlast, hcut']
    exact ⟨rfl, rfl⟩

/-- The last slot of a group that is lost, or whose gain changed, counts it and gives no records. -/
theorem EchoShown.groupLost (h : EchoShown c after ch k p r b ts) (n w : Nat) (ha : c.accum = some (n, w)) (h1 : 1 ≤ c.groupPos) (hn : c.groupPos = n)
    (hl : echoLost c after ch b.acc = true ∨ b.acc.gainLost = true) : r.accRecs = [] ∧ r.dump = none ∧ r.lost + r.gainLost = 1 ∧ (r.gainLost = 1 ↔ b.acc.gainLost = true) := by
  obtain ⟨hlast, hcut⟩ := echoLast_end c n w ha h1 hn
  have hrun : echoRun c after ch b.acc = false := by
    rcases hl with hl | hl <;> simp [echoRun, hl]
  obtain ⟨hrecs, hdump⟩ := h.noAccRecs hrun
  refine ⟨hrecs, hdump, ?_⟩
  rw [h.lost, h.gainLost, hlast, hcut]
  cases hg : b.acc.gainLost with
  | true => simp [ofBool]
  | false =>
    have hl' : echoLost c after ch b.acc = true := hl.resolve_right (by rw [hg]; decide)
    simp [ofBool, hl']

theorem EchoShown.lost_of (h : EchoShown c after ch k p r b ts) (n w : Nat) (ha : c.accum = some (n, w)) (h1 : 1 ≤ c.groupPos)
    (hd : c.withheld = true ∨ c.noEcho = true ∨ bitAt c.active ch = false ∨ after.locked = false ∨ bitAt after.takenOver ch = true ∨ bitAt c.noEngine ch = true) :
    echoLost c after ch b.acc = true := by
  have hg := echoGrouped_on c n w ha h1
  obtain ⟨w', sp, wave, hb⟩ := h.grouped hg
  have hkept := ((k.opened c after ch).histStep_kept c ch w' sp (echoShot c after ch) wave).2
  rw [← hb] at hkept
  have hlost : b.acc.lost = true → echoLost c after ch b.acc = true := fun h => by simp [echoLost, h]
  rcases hd with hd | hd | hd | hd | hd | hd
  · exact hlost (hkept (.inl hd))
  · exact hlost (hkept (.inr (.inl hd)))
  · exact hlost (hkept (.inr (.inr (.inl hd))))
  · simp [echoLost, hd]
  · simp [echoLost, hg, hd]
  · exact hlost (hkept (.inr (.inr (.inr hd))))

/-- The last slot of a whole group gives the records of its accumulated pass. -/
theorem EchoShown.groupGiven (h : EchoShown c after ch k p r b ts) (n w e : Nat) (he : emitterOf c.bank ch = some e) (ha : c.accum = some (n, w)) (h1 : 1 ≤ c.groupPos)
    (hn : c.groupPos = n) (hk : after.locked = true) (ho : bitAt after.takenOver ch = false) (hl : b.acc.lost = false) (hg : b.acc.gainLost = false) (hp : p = none) :
    r.lost = 0 ∧ r.gainLost = 0 ∧ (b.acc.n = 0 → r.accRecs = [])
    ∧ (0 < b.acc.n → r.acc = (accumPass c ch e w b.acc (b.bufs.getD b.cur []) (b.clips.getD b.cur [])).1
      ∧ r.accRecs.map (fun x => (x.rng, x.amp, x.cls, x.width)) = r.acc.map (fun x => (x.rng, x.amp, x.cls, x.width)))
    ∧ (c.emit.hdump = true → 0 < b.acc.n → r.dump = some (w, b.bufs.getD b.cur [])) ∧ (c.emit.hdump = false → r.dump = none) := by
  obtain ⟨hlast, hcut⟩ := echoLast_end c n w ha h1 hn
  have hlost : echoLost c after ch b.acc = false := by simp [echoLost, hl, hcut, hk, ho]
  have hrun : echoRun c after ch b.acc = true := by simp [echoRun, hlast, hlost, hg]
  have hw : (c.accum.map (·.2)).getD 1 = w := by rw [ha]; rfl
  have hacc := h.acc
  have hdump := h.dump
  rw [hrun, hp, he, hw] at hacc
  rw [hrun, hw] at hdump
  refine ⟨?_, ?_, fun h0 => ?_, fun h0 => ⟨?_, h.accRecs_shown.2.2.2⟩, fun hd h0 => ?_, fun hd => ?_⟩
  · rw [h.lost, hlost]
    simp [ofBool]
  · rw [h.gainLost, hg]
    simp [ofBool]
  · refine List.eq_nil_of_length_eq_zero ?_
    rw [h.accRecs_shown.1, hacc, h0]
    rfl
  · rw [hacc, if_pos (by simp [Nat.succ_le_of_lt h0])]
    rfl
  · rw [hdump, hd, if_neg (Nat.ne_of_gt h0)]
    rfl
  · rw [hdump, hd]
    rfl

/-- A shot in single-shot mode enters the history with the echoes that it gave. -/
theorem EchoShown.shotKept (h : EchoShown c after ch k p r b ts) (n m win : Nat) (f : FireCmd) (hs : c.single = some (n, m, win)) (ha : bitAt c.active ch = true) (hk : after.locked = true)
    (hf : shotOf c ch = some f) (old : List (List Int))
    (ho : old = if c.singleReset = true ∨ c.resumed = true ∨ bitAt after.takenOver ch = true then [] else k.history) :
    (r.acc.length + c.emit.maxEcho ≤ 8 → r.chan.history = (r.single.map (·.t) :: old).take (n - 1))
      ∧ (f.suppressed = true → r.singleRecs = [] ∧ r.chan.history = ([] :: old).take (n - 1)) := by
  have hshot : echoShot c after ch = some f := by rw [echoShot, if_pos ha, if_neg (by rw [hk]; decide), hf]
  have hold : b.history = old := by rw [h.history, (k.opened_bufs c after ch).2.2 ha, ho]
  have hhist : r.chan.history = (ts.map (·.t) :: old).take (n - 1) := by
    obtain ⟨-, -, -, -, hh⟩ := h.chan_parts
    rw [hh, hshot, hs, hold]
    rfl
  refine ⟨fun hle => ?_, fun hsup => ?_⟩
  · have hts : ts.length ≤ 8 - r.acc.length := by
      rcases h.shots with ht | ⟨-, -, -, -, ht⟩
      · rw [ht]
        exact Nat.zero_le _
      · omega
    rw [hhist, h.single, if_pos hts]
  · have hts : ts = [] := by
      rcases h.shots with ht | ⟨-, g, hg, hns, -⟩
      · exact ht
      · cases hshot.symm.trans hg
        exact absurd (hsup.symm.trans hns) (by decide)
    refine ⟨h.noRecs hts, ?_⟩
    rw [hhist, hts]
    rfl

theorem EchoShown.inactive (h : EchoShown c after ch k p r b ts) (ha : bitAt c.active ch = false) : r.singleRecs = [] ∧ r.chan.history = [] := by
  have hshot : echoShot c after ch = none := by rw [echoShot, if_neg (by rw [ha]; decide)]
  refine ⟨h.noRecs ?_, ?_⟩
  · rcases h.shots with ht | ⟨-, f, hf, -, -⟩
    · exact ht
    · exact nomatch hshot.symm.trans hf
  · obtain ⟨-, -, -, -, hh⟩ := h.chan_parts
    rw [hh, hshot, h.history, (k.opened_bufs c after ch).2.1 ha]
    unfold echoHistory
    split
    next hn => exact nomatch hn
    · rfl

end

end Sys2Proof.Machine

end

section
/-! PROOFS. Chapters 1, 2, 5, 9 and 12: slot ticks, records handed over and dumps. -/

namespace Sys2Proof.Machine

section
variable (s : State)

/-! ### The counts of a tick (R25, R57, R321) -/

theorem State.outTick_stays (first : Bool) (i : Nat) : (s.outTick first i).slot = s.slot ∧ (s.outTick first i).counting = s.counting
    ∧ (s.outTick first i).clk.slotLocked = s.clk.slotLocked ∧ (s.outTick first i).objs = s.objs := ⟨rfl, rfl, rfl, rfl⟩

theorem State.clkTick_shows (t : State) (ht : t = s.clkTick) : t.slot = (if s.counting = true then (s.slot + 1) % 2 ^ 64 else 0)
    ∧ t.counting = (s.counting || s.lockedA || s.clk.declared) ∧ t.clk.slotLocked = s.lockedA ∧ ∀ k, t.reg k = s.reg k := by
  subst ht
  exact ⟨rfl, rfl, rfl, fun _ => rfl⟩

theorem State.canTick_stays : (s.canTick).comet = s.comet ∧ (s.canTick).slot = s.slot := by
  have hstatus : ∀ (u : State) (i : Nat), (u.canStatus i).comet = u.comet ∧ (u.canStatus i).slot = u.slot := fun u i => by
    unfold State.canStatus
    split <;> exact ⟨rfl, rfl⟩
  obtain ⟨h1, h2⟩ := hstatus s 0
  obtain ⟨h3, h4⟩ := hstatus (s.canStatus 0) 1
  exact ⟨h3.trans h1, h4.trans h2⟩

theorem State.tickCounts_shows : s.tickCounts.comet = { s.comet with hold := false } ∧ s.tickCounts.slot = s.slot := by
  obtain ⟨u, hu⟩ : ∃ u : State, u = (s.planCounts.commitCounts).authTick := ⟨_, rfl⟩
  have hparts : u.comet = s.comet ∧ u.slot = s.slot := by
    rw [hu]
    exact ⟨rfl, rfl⟩
  obtain ⟨hc, hs⟩ := u.canTick_stays
  obtain ⟨v, hv⟩ : ∃ v : State, v = u.canTick := ⟨_, rfl⟩
  rw [← hv] at hc hs
  obtain ⟨w, hw⟩ : ∃ w : State, w = v.clkBegun := ⟨_, rfl⟩
  have hbegun : w.comet = s.comet ∧ w.slot = s.slot := by
    rw [hw]
    exact ⟨hc.trans hparts.1, hs.trans hparts.2⟩
  unfold State.tickCounts
  rw [← hu, ← hv, ← hw, ← hbegun.1, ← hbegun.2]
  extract_lets x y
  split <;> exact ⟨rfl, rfl⟩

/-! ### Records handed over (R13, R142) -/

theorem State.countRecords_shows (l : List PointRec) (n : Nat) : (s.forRange n fun s ch => s.tallyBy (K.RECORDS ch) (l.filter fun r => r.ch == ch).length).pipe = s.pipe
    ∧ (∀ ch, ch < n → (s.forRange n fun s ch => s.tallyBy (K.RECORDS ch) (l.filter fun r => r.ch == ch).length).reg (K.RECORDS ch)
      = (s.reg (K.RECORDS ch) + (l.filter fun r => r.ch == ch).length) % 2 ^ 32)
    ∧ ∀ ch, n ≤ ch → (s.forRange n fun s ch => s.tallyBy (K.RECORDS ch) (l.filter fun r => r.ch == ch).length).reg (K.RECORDS ch) = s.reg (K.RECORDS ch) := by
  induction n with
  | zero => exact ⟨rfl, fun ch h => absurd h (Nat.not_lt_zero ch), fun _ _ => rfl⟩
  | succ n ih =>
    obtain ⟨u, hu⟩ : ∃ u : State, u = s.forRange n fun s ch => s.tallyBy (K.RECORDS ch) (l.filter fun r => r.ch == ch).length := ⟨_, rfl⟩
    rw [← hu] at ih
    obtain ⟨hpipe, hdone, hrest⟩ := ih
    have heq : (s.forRange (n + 1) fun s ch => s.tallyBy (K.RECORDS ch) (l.filter fun r => r.ch == ch).length)
        = u.put (K.RECORDS n) ((u.reg (K.RECORDS n) + (l.filter fun r => r.ch == n).length) % 2 ^ 32) := by
      rw [hu, State.forRange, List.range_succ, List.foldl_append]
      rfl
    have hne : ∀ ch, ch ≠ n → K.RECORDS ch ≠ K.RECORDS n := fun ch h => by
      simp only [K.RECORDS]
      omega
    rw [heq]
    refine ⟨hpipe, fun ch hch => ?_, fun ch hch => ?_⟩
    · rcases Nat.lt_or_ge ch n with h | h
      · rw [State.reg_put_ne _ _ _ _ (hne ch (by omega)), hdone ch h]
      · obtain rfl : ch = n := by omega
        rw [State.reg_put_self, hrest ch (Nat.le_refl ch)]
    · rw [State.reg_put_ne _ _ _ _ (hne ch (by omega)), hrest ch (by omega)]

theorem State.echoPulses_stays (n : Nat) (l : List PointRec) : (s.echoPulses n l).pipe = s.pipe ∧ (s.echoPulses n l).objs = s.objs := by
  unfold State.echoPulses
  exact foldl_rel (fun s t : State => t.pipe = s.pipe ∧ t.objs = s.objs) (fun _ => ⟨rfl, rfl⟩) (fun h h' => ⟨h'.1.trans h.1, h'.2.trans h.2⟩) (fun s ch => s.sends { cc := 310, pos := ch, src := 2, stamp := compactStamp n 0 0 }) _ (fun _ _ _ => ⟨rfl, rfl⟩) s

theorem State.pointsPacket_aside (r : RecStage) : s.aside (s.pointsPacket r) := by
  unfold State.pointsPacket
  exact State.aside.ite (s.offer_aside _ _) (.refl s)

theorem State.handover_shows (hv : s.pipe.ready.valid = true) (hp : s.pipe.ready.pts = true) (t : State) (ht : t = s.handover) : t.pipe.ready = {} ∧ t.pipe.formed = s.pipe.formed
      ∧ ∀ ch, ch < 48 → t.reg (K.RECORDS ch) = (s.reg (K.RECORDS ch) + (s.pipe.ready.recs.filter fun r => r.ch == ch).length) % 2 ^ 32 := by
  obtain ⟨r, hr⟩ : ∃ r, r = s.pipe.ready := ⟨_, rfl⟩
  obtain ⟨u, hu⟩ : ∃ u : State, u = { s with pipe := { s.pipe with ready := {} } } := ⟨_, rfl⟩
  obtain ⟨v, hvd⟩ : ∃ v : State, v = u.countRecords r.recs := ⟨_, rfl⟩
  obtain ⟨hpipe, hcount, -⟩ := u.countRecords_shows r.recs 48
  rw [← State.countRecords, ← hvd] at hpipe hcount

  obtain ⟨w, hw⟩ : ∃ w : State, w = v.echoPulses r.slotNo r.recs := ⟨_, rfl⟩
  obtain ⟨hwpipe, hwobjs⟩ := v.echoPulses_stays r.slotNo r.recs
  rw [← hw] at hwpipe hwobjs
  have heq : t = w.pointsPacket r := by
    rw [ht, State.handover, ← hr, if_neg (by rw [hr, hv]; decide)]
    dsimp only
    rw [if_pos (by rw [hr, hp]), ← hu, ← hvd, ← hw]
  have haside := w.pointsPacket_aside r
  rw [← heq] at haside
  have htpipe : t.pipe = u.pipe := haside.pipe.trans (hwpipe.trans hpipe)
  have hureg : ∀ k, u.reg k = s.reg k := State.reg_congr _ _ (by rw [hu])
  refine ⟨by rw [htpipe, hu], by rw [htpipe, hu], fun ch hch => ?_⟩
  rw [haside.reg _ (show K.RECORDS ch < 0x400000 by simp only [K.RECORDS]; omega), State.reg_congr _ _ hwobjs, hcount ch hch, hureg, hr]

theorem State.handover_empty (hv : s.pipe.ready.valid = false) : s.handover = s := if_pos (by rw [hv]; rfl)

theorem exec_lockedTickResume_due (hc : s.mode.coreRuns = true) (ha : s.lockedA = true) (hl : s.clk.slotLocked = false) :
    exec .lockedTickResume s = .next ({ s with clk := { s.clk with restarted := true } }).settle := by
  have hgo : (s.lockedA && !s.clk.slotLocked) = true := by rw [ha, hl]; rfl
  calc exec .lockedTickResume s = .next (s.core State.tickResume).settle := rfl
    _ = .next s.tickResume.settle := by rw [s.core_on _ hc]
    _ = _ := by
      rw [State.tickResume, if_pos hgo]
      rfl

/-! ### Dumps (R143) -/

/-- The granules of the dump of a channel. -/
def State.dumpGranules (s : State) (ch : Nat) : List Granule :=
  match (chanEcho s.pipe.prev2 s.pipe.prev s.pipe.cur ch (s.pipe.chans.getD ch {}) none).dump with
  | none => []
  | some (w, h) =>
    granulesOf (if s.pipe.cur.ee12 = ch / 4 then 12 else ch / 4) 0 s.pipe.prev.emit.hdumpAs
      (s.reg (K.HDUMP_BASE ch) + s.reg (K.HDUMP_COUNT ch) % max 1 (s.reg K.HDUMP_ENTRIES) * 0x10000)
      ((List.range (11200 / max 1 w)).flatMap fun b => leBytes 3 (ofSigned 24 (h.getD b 0))) fun last => .dump ch last

/-- The dump of a channel of the slot `c` waits for the Field Store. -/
def State.dumpStep (c : SlotCtx) (s : State) (ch : Nat) : State :=
  match (chanEcho s.pipe.prev2 c s.pipe.cur ch (s.pipe.chans.getD ch {}) none).dump with
  | none => s
  | some (w, h) =>
    let va := s.reg (K.HDUMP_BASE ch) + s.reg (K.HDUMP_COUNT ch) % max 1 (s.reg K.HDUMP_ENTRIES) * 65536
    let eng := if s.pipe.cur.ee12 = engineOf ch then 12 else engineOf ch
    let bytes := ((List.range (11200 / max 1 w)).map fun b => leBytes 3 (ofSigned 24 (h.getD b 0))).flatten
    s.enqueue (granulesOf eng 0 c.emit.hdumpAs va bytes fun last => .dump ch last)

theorem State.enqueue_nil : s.enqueue [] = s := by
  rw [State.enqueue, List.append_nil]

theorem State.dumpStep_eq (ch : Nat) : State.dumpStep s.pipe.prev s ch = s.enqueue (s.dumpGranules ch) := by
  unfold State.dumpStep State.dumpGranules
  cases (chanEcho s.pipe.prev2 s.pipe.prev s.pipe.cur ch (s.pipe.chans.getD ch {}) none).dump with
  | none => exact s.enqueue_nil.symm
  | some d =>
    obtain ⟨w, h⟩ := d
    dsimp only
    rw [List.flatMap_def]
    rfl

theorem State.dumps_queued (c : SlotCtx) (hc : s.pipe.prev = c) (l : List Nat) : l.foldl (State.dumpStep c) s = s.enqueue (l.flatMap s.dumpGranules) := by
  induction l generalizing s with
  | nil => rw [List.foldl_nil, List.flatMap_nil, s.enqueue_nil]
  | cons a l ih =>
    have hfirst : State.dumpStep c s a = s.enqueue (s.dumpGranules a) := hc ▸ s.dumpStep_eq a
    have hnext : (s.enqueue (s.dumpGranules a)).dumpGranules = s.dumpGranules := rfl
    rw [List.foldl_cons, hfirst, ih (s.enqueue (s.dumpGranules a)) hc, hnext, List.flatMap_cons]
    simp only [State.enqueue, List.append_assoc]

theorem State.enqueueDumps_off (h : s.pipe.prev.emit.hdump = false ∨ s.pipe.prev.accum = none) : s.enqueueDumps = s := by
  unfold State.enqueueDumps
  exact if_pos (by rcases h with h | h <;> simp [h])

theorem State.enqueueDumps_on (h : s.pipe.prev.emit.hdump = true) (ha : s.pipe.prev.accum.isSome = true) : s.enqueueDumps = s.enqueue ((List.range 48).flatMap s.dumpGranules) := by
  have hnot : ¬ (!s.pipe.prev.emit.hdump || s.pipe.prev.accum.isNone) = true := by
    cases hacc : s.pipe.prev.accum with
    | none => rw [hacc] at ha; exact absurd ha (by decide)
    | some a => simp [h]
  have hfold : s.enqueueDumps = if (!s.pipe.prev.emit.hdump || s.pipe.prev.accum.isNone) = true then s else (List.range 48).foldl (State.dumpStep s.pipe.prev) s := rfl
  rw [hfold, if_neg hnot, s.dumps_queued _ rfl]

end

/-- The rules of one slot of one channel, put together. -/
theorem chanEcho_rules (before c after : SlotCtx) (ch : Nat) (k : EchoChan) (p : Option Progress) (r : ChanStep) (hr : r = chanEcho before c after ch k p)
    (lit dropped : Prop) (hlit : lit ↔ c.kind = .slot ∧ litIn c ch = true)
    (hdrop : dropped ↔ c.withheld = true ∨ c.noEcho = true ∨ bitAt c.active ch = false ∨ after.locked = false ∨ bitAt after.takenOver ch = true ∨ bitAt c.noEngine ch = true) :
    (¬lit → r.accRecs = [] ∧ r.singleRecs = [] ∧ r.lost = 0 ∧ r.gainLost = 0 ∧ r.dump = none ∧ r.chan.bufs = k.bufs)
    ∧ (c.emit.maxEcho ≤ 8 → r.accRecs.length + r.singleRecs.length ≤ 8)
    ∧ (c.single = none → r.singleRecs = []) ∧ ((c.accum = none ∨ c.groupPos = 0) → r.accRecs = [] ∧ r.dump = none ∧ r.lost = 0 ∧ r.gainLost = 0)
    ∧ (∀ x ∈ r.accRecs, x.ch = ch ∧ x.slot = c.frameSlot ∧ bitAt x.flags 0 = true) ∧ (∀ x ∈ r.singleRecs, x.ch = ch ∧ x.slot = c.frameSlot ∧ bitAt x.flags 0 = false)
    ∧ r.accRecs.map (·.echo) = List.range r.accRecs.length ∧ r.singleRecs.map (·.echo) = List.range r.singleRecs.length
    ∧ (bitAt c.active ch = false → r.singleRecs = [] ∧ r.chan.history = [])
    ∧ (∀ n w, lit → c.accum = some (n, w) → 1 ≤ c.groupPos → c.groupPos < n → r.accRecs = [] ∧ r.dump = none
      ∧ (after.groupPos ≠ c.groupPos + 1 → r.lost + r.gainLost = 1) ∧ (after.groupPos = c.groupPos + 1 → r.lost = 0 ∧ r.gainLost = 0))
    ∧ (∀ n w, lit → c.accum = some (n, w) → 1 ≤ c.groupPos → c.groupPos = n → dropped → r.accRecs = [] ∧ r.dump = none ∧ r.lost + r.gainLost = 1)
    ∧ (∀ n w, lit → c.accum = some (n, w) → 1 ≤ c.groupPos → c.groupPos = n → r.chan.acc.lost = true ∨ r.chan.acc.gainLost = true →
      r.accRecs = [] ∧ r.dump = none ∧ r.lost + r.gainLost = 1 ∧ (r.gainLost = 1 ↔ r.chan.acc.gainLost = true))
    ∧ (∀ n w e, lit → emitterOf c.bank ch = some e → c.accum = some (n, w) → 1 ≤ c.groupPos → c.groupPos = n → ¬dropped → r.chan.acc.lost = false →
      r.chan.acc.gainLost = false → p = none → r.lost = 0 ∧ r.gainLost = 0
      ∧ (r.chan.acc.n = 0 → r.accRecs = [])
      ∧ (0 < r.chan.acc.n → r.acc = (accumPass c ch e w r.chan.acc (r.chan.bufs.getD r.chan.cur []) (r.chan.clips.getD r.chan.cur [])).1
        ∧ r.accRecs.map (fun x => (x.rng, x.amp, x.cls, x.width)) = r.acc.map (fun x => (x.rng, x.amp, x.cls, x.width)))
      ∧ (c.emit.hdump = true → 0 < r.chan.acc.n → r.dump = some (w, r.chan.bufs.getD r.chan.cur [])) ∧ (c.emit.hdump = false → r.dump = none))
    ∧ ∀ n m win f, lit → c.single = some (n, m, win) → bitAt c.active ch = true → after.locked = true → shotOf c ch = some f →
      ∀ old : List (List Int), old = (if c.singleReset = true ∨ c.resumed = true ∨ bitAt after.takenOver ch = true then [] else k.history) →
      (r.acc.length + c.emit.maxEcho ≤ 8 → r.chan.history = (r.single.map (·.t) :: old).take (n - 1))
      ∧ (f.suppressed = true → r.singleRecs = [] ∧ r.chan.history = ([] :: old).take (n - 1)) := by
  have hlit' : lit ↔ (c.kind == .slot && litIn c ch) = true := by rw [hlit, Bool.and_eq_true, beq_iff_eq]
  cases hl : (c.kind == .slot && litIn c ch) with
  | false =>
    have hdark : ¬lit := by rw [hlit', hl]; decide
    have heq := chanEcho_dark before c after ch k p hl
    rw [← hr] at heq
    subst heq
    obtain ⟨hbufs, hhist, -⟩ := k.opened_bufs c after ch
    refine ⟨fun _ => ⟨rfl, rfl, rfl, rfl, rfl, hbufs⟩, fun _ => Nat.zero_le 8, fun _ => rfl, fun _ => ⟨rfl, rfl, rfl, rfl⟩, fun x hx => absurd hx (List.not_mem_nil), fun x hx => absurd hx (List.not_mem_nil),
      rfl, rfl, fun ha => ⟨rfl, hhist ha⟩, fun n w h => absurd h hdark, fun n w h => absurd h hdark, fun n w h => absurd h hdark, fun n w e h => absurd h hdark, fun n m win f h => absurd h hdark⟩
  | true =>
    have hon : lit := hlit'.mpr hl
    obtain ⟨b, ts, h⟩ := chanEcho_lit before c after ch k p hl r hr
    obtain ⟨hacc, hbufs, hclips, hcur, -⟩ := h.chan_parts
    obtain ⟨hlenA, hmemA, hnumA, -⟩ := h.accRecs_shown
    obtain ⟨hlenS, hmemS, hnumS⟩ := h.singleRecs_shown
    rw [hacc, hbufs, hclips, hcur]
    refine ⟨fun hn => absurd hon hn, fun hm => ?_, fun hs => ?_, fun hg => h.ungrouped (echoGrouped_off c hg), hmemA, hmemS, hnumA, hnumS, h.inactive, fun n w _ ha h1 hn => h.inside n w ha h1 hn,
      fun n w _ ha h1 hn hd => ?_, fun n w _ ha h1 hn hx => ?_, fun n w e _ he ha h1 hn hd hlost hgain hp => ?_, fun n m win f _ hs ha hk hf old ho => h.shotKept n m win f hs ha hk hf old ho⟩
    · have h1 := h.acc_le
      have h2 := h.room
      omega
    · refine h.noRecs (h.shots.elim id fun hx => ?_)
      rw [hs] at hx
      exact absurd hx.1 (by decide)
    · obtain ⟨g1, g2, g3, -⟩ := h.groupLost n w ha h1 hn (.inl (h.lost_of n w ha h1 (hdrop.mp hd)))
      exact ⟨g1, g2, g3⟩
    · exact h.groupLost n w ha h1 hn (hx.imp (fun hx => by simp [echoLost, hx]) id)
    · rw [hdrop, not_or, not_or, not_or, not_or, not_or] at hd
      obtain ⟨-, -, -, hk, ho, -⟩ := hd
      exact h.groupGiven n w e he ha h1 hn (by simpa using hk) (by simpa using ho) hlost hgain hp

/-- Settles O10: the tick's order and counts, the records handed over, and what each stage of the echo engines makes of a slot. -/
theorem slotTicks : Obligations.SlotTicks := by
  unfold Obligations.SlotTicks
  refine ⟨⟨fun s u i ht hu => ⟨fun h => ?_, fun h => ?_⟩, exec_slotTick_stands, fun s => s.clkTick_shows _ rfl, State.tickCounts_shows⟩,
    ⟨fun s hc hv hp => ⟨s.handover, exec_pointRecordHandover s hc, s.handover_shows hv hp _ rfl⟩, fun s hc hv => ?_, fun s c l r x hc ht hx hl => ?_, exec_lockedTickResume_due⟩,
    fun before c after ch f => ?_, crosstalkOff_at, fun before c ch s0 => ⟨baselineOf_fixed before c ch s0, baselineOf_none before c ch s0, fun d h hd => ?_⟩,
    fun d l s0 => ⟨rfl, cadenceAt_cons d l s0⟩, fun w h hc x cl b hb => ⟨addHist_at w h x b hb, addClip_at w hc cl b hb⟩,
    fun k c ch w sp shot wave => k.histStep_shows c ch w sp shot wave _ rfl, fun tpl z i hi => ⟨matched_size tpl z, matched_at tpl z i hi⟩,
    fun b a trim q n w => ⟨rfl, rfl, fun h => rheSqrt_one (65536 * (n * w)) (by omega)⟩, fun a y x => ?_, fun y i w hi => ⟨widthOf_up y i w, widthOf_down y i w, ?_⟩,
    fun objs ch l => ⟨gated_split objs ch l, gated_off objs ch l⟩, fun objs clip near e => classOf_rows objs clip near e _ (clippedNear_iff clip e.bin).symm,
    fun n last l hb => selectEchoes_shows n last l hb _ rfl, fun c ch f x clip hist n m win => ⟨rfl, rfl, unreported_rest _ _ _⟩, fun c ch e w g h clip => ⟨rfl, rfl, unreported_rest _ _ _⟩,
    fun before c after ch k p => ?_, fun x => ?_, fun s => ⟨s.enqueueDumps_off, fun h ha => ?_⟩⟩
  · subst hu
    exact exec_slotTick_runs s i ht h
  · subst hu
    have heq : s.slotTick i = (s.slotCatchUp.calOsc i.oscCodes).convPeriods i.sense := by
      rw [State.slotTick, if_neg (by rw [ht]; decide)]
      exact if_pos (by rw [h]; decide)
    calc exec (.slotTick i) s = .next (s.slotTick i).settle := rfl
      _ = _ := by rw [heq]
  · rw [exec_pointRecordHandover s hc, s.handover_empty hv]
  · rw [exec_tagReturn s c hc, s.tagReturn_oldest c l r x ht hx hl]
  · obtain ⟨h1, h2, h3, h4⟩ := shotWave_shows before c after ch f _ rfl
    exact ⟨h1, h2, h3, fun i hi => h4 i hi _ rfl⟩
  · exact ⟨baselineOf_early before c ch s0 d h hd, baselineOf_word before c ch s0 d _ rfl h hd⟩
  · rw [mem_candidates]
    exact exists_congr fun i => and_congr Iff.rfl (and_congr Iff.rfl (candidateAt_iff a y i x))
  · intro m n h1 h2 h3 h4 h5 h6 h7 h8 h9 h10
    exact widthOf_both y i w m n _ rfl h1 h2 h3 h4 h5 h6 h7 h8 h9 h10
  · obtain ⟨g1, g2, g3, g4, g5, g6, g7, g8, g9, g10, g11, g12, g13, g14⟩ := chanEcho_rules before c after ch k p _ rfl _ _ Iff.rfl Iff.rfl
    exact ⟨g1, g2, g3, g4, g5, g6, g7, g8, g9, g10, g11, g12, g13, fun n m win f hl hs ha hk hf => g14 n m win f hl hs ha hk hf _ rfl⟩
  · obtain ⟨h1, h2, h3, h4, h5, h6, h7, h8, h9, h10, h11, h12, h13, h14, h15⟩ := x.value_bits x.value rfl
    refine ⟨h1, h2, h3, h4, h5, h6, h7, h8, h9, h10, h11, h12, h13, h14, fun hlo hhi => ?_, x.bytes_value⟩
    rw [h15]
    exact toSigned_ofSigned 16 x.angle (by decide) hlo hhi
  · rw [s.enqueueDumps_on h ha]
    exact ⟨rfl, rfl⟩

end Sys2Proof.Machine

end

section
/-! PROOFS. Chapter 2: the pending bank, and the stages of the check that read the plan's text. -/

namespace Sys2Proof.Machine

/-! ### Writes of the pending bank (R30, R46, R47, R52) -/

/-- The row of PENDING_PLAN. -/
def pendingPlanRow : ObjRow := ⟨0x1010, 0x1010, 0x00, 0x00, .domain, .rw, 0, .any, none, .standbyRunning, "PENDING_PLAN"⟩

/-- The row of the pending tables. -/
def pendingTableRow : ObjRow := ⟨0x1011, 0x1015, 0x00, 0x00, .domain, .rw, 0, .any, none, .standbyRunning, "PENDING_TABLE"⟩

theorem objRow_pendingPlan : objRow? K.PENDING_PLAN = some pendingPlanRow := rfl

theorem objRow_pendingTable (n : Fin 5) : objRow? (K.PENDING_TABLE n) = some pendingTableRow := by
  fin_cases n <;> rfl

theorem objRow_planCheck : (objRow? K.PLAN_CHECK).any (fun r => r.acc == .wo && !r.isDomain && decide (r.size = 1) && r.inRange 1) = true := rfl

section
variable (s : State)

theorem domainResult_held (t : State) (held : Bool) : domainResult s t true true true (!held) = if held = true then (6, s) else (0, t) := by
  cases held <;> rfl

theorem State.hostDomain_pendingPlan (w : HostWrite) (h : s.mayWrite w.path K.PENDING_PLAN = true) (hl : planLenOk w.data.length = true) :
    s.hostDomain K.PENDING_PLAN w = noteDomain w.path (if s.planHeld = true then (6, s) else (0, s.planTake w.data)) := by
  obtain ⟨ha, hs, hm⟩ := s.mayWrite_row _ _ _ h objRow_pendingPlan
  have hwd : s.writeDomain s.mode pendingPlanRow K.PENDING_PLAN w.cc w.data = domainResult s (s.planTake w.data) (planLenOk w.data.length) true
      (pendingPlanRow.modes.holds s.mode) (!s.planHeld) := rfl
  rw [s.hostDomain_ok _ w _ ha hs objRow_pendingPlan, hwd, hl, hm, domainResult_held]

theorem State.hostDomain_pendingTable (n : Fin 5) (w : HostWrite) (h : s.mayWrite w.path (K.PENDING_TABLE n) = true) (hl : tableLenOk w.data.length = true) :
    s.hostDomain (K.PENDING_TABLE n) w = noteDomain w.path (if s.planHeld = true then (6, s) else (0, s.tableTake n w.data)) := by
  obtain ⟨ha, hs, hm⟩ := s.mayWrite_row _ _ _ h (objRow_pendingTable n)
  have hwd : s.writeDomain s.mode pendingTableRow (K.PENDING_TABLE n) w.cc w.data = domainResult s (s.tableTake n w.data) (tableLenOk w.data.length) true
      (pendingTableRow.modes.holds s.mode) (!s.planHeld) := by
    fin_cases n <;> rfl
  rw [s.hostDomain_ok _ w _ ha hs (objRow_pendingTable n), hwd, hl, hm, domainResult_held]

theorem State.hostWrite_planCheck (a : HostAt) (h : s.mayWrite a.path K.PLAN_CHECK = true) :
    s.hostWrite K.PLAN_CHECK (a.write 1 1) = noteResult a.path (if s.planHeld = true then (6, s) else (0, s.put K.CHECK_RESULT (2 ^ 24))) := by
  have hreg : s.writeReg a.path.num K.PLAN_CHECK 1 a.cc a.ecc = if s.planHeld = true then (6, s) else (0, s.planCheck 1) := rfl
  rw [s.hostWrite_wo K.PLAN_CHECK 1 1 a h objRow_planCheck rfl (by decide), hreg]
  rfl

end

/-! ### The words of a plan -/

theorem planWords_fold (l : List Nat) (a : Array Nat) (b : List Byte) (r : Array Nat × List Byte)
    (hr : r = l.foldl (fun (acc : Array Nat × List Byte) _ => (acc.1.push (ofLe (acc.2.take 8)), acc.2.drop 8)) (a, b)) :
    r.1.size = a.size + l.length ∧ (∀ i, i < a.size → r.1.getD i 0 = a.getD i 0) ∧ ∀ i, i < l.length → r.1.getD (a.size + i) 0 = ofLe ((b.drop (8 * i)).take 8) := by
  induction l generalizing a b r with
  | nil => exact hr ▸ ⟨rfl, fun _ _ => rfl, fun i hi => absurd hi (Nat.not_lt_zero i)⟩
  | cons x l ih =>
    obtain ⟨hsize, hold, hnew⟩ := ih (a.push (ofLe (b.take 8))) (b.drop 8) r hr
    rw [Array.size_push] at hsize hold hnew
    have hpush : ∀ i, i < a.size → (a.push (ofLe (b.take 8))).getD i 0 = a.getD i 0 := fun i hi => by
      simp [Array.getD_eq_getD_getElem?, Array.getElem?_push, Nat.ne_of_lt hi]
    refine ⟨by rw [hsize, List.length_cons]; omega, fun i hi => (hold i (by omega)).trans (hpush i hi), fun i hi => ?_⟩
    cases i with
    | zero =>
      have hlast := hold a.size (by omega)
      rw [Nat.add_zero, hlast]
      simp [Array.getD_eq_getD_getElem?]
    | succ i =>
      have hnext := hnew i (by simpa using hi)
      rw [List.drop_drop] at hnext
      have h1 : a.size + (i + 1) = a.size + 1 + i := by omega
      have h2 : 8 * (i + 1) = 8 + 8 * i := by omega
      rw [h1, h2, hnext]

theorem planWords_size (p : List Byte) : (planWords p).size = p.length / 8 := by
  have h := (planWords_fold (List.range (p.length / 8)) #[] p _ rfl).1
  rw [List.length_range] at h
  exact h.trans (Nat.zero_add _)

theorem wordAt_planWords (p : List Byte) (i : Nat) (h : 8 * i + 8 ≤ p.length) : wordAt (planWords p) i = fieldAt p (8 * i) 8 := by
  obtain ⟨-, -, hat⟩ := planWords_fold (List.range (p.length / 8)) #[] p _ rfl
  have hi := hat i (by rw [List.length_range]; omega)
  have hlen : ((p.drop (8 * i)).take 8).length = 8 := by
    rw [List.length_take, List.length_drop]
    omega
  have hbytes : bytesAt p (8 * i) 8 = (p.drop (8 * i)).take 8 := by
    rw [bytesAt]
    simp only [hlen, Nat.sub_self, List.replicate_zero, List.append_nil]
  rw [fieldAt, hbytes, ← hi, wordAt, planWords]
  exact congrArg (fun n => Array.getD _ n 0) (Nat.zero_add i).symm

/-! ### The header and the CRCs (R30, R31) -/

/-- The reserved field of a header word. -/
def headerResv (h : Nat → Nat) (i : Nat) : Nat :=
  if i = 0 then bits (h 0) 31 16 else if i = 1 then bits (h 1) 31 0 else if i = 3 ∨ i = 7 then bits (h i) 63 32 else h i

/-- The header words with reserved fields. -/
def resvWords : List Nat := [0, 1, 3, 4, 5, 6, 7]

theorem firstFault_none (l : List (Bool × PlanFault)) (h : ∀ x ∈ l, x.1 = false) (r : List (Bool × PlanFault)) : firstFault (l ++ r) = firstFault r := by
  induction l with
  | nil => rfl
  | cons a l ih =>
    obtain ⟨bad, f⟩ := a
    have hbad : bad = false := h _ List.mem_cons_self
    rw [List.cons_append, firstFault, hbad, if_neg (by decide)]
    exact ih fun x hx => h x (List.mem_cons_of_mem _ hx)

/-- The list of the header's checks once its size fits. -/
def headerChecks (plan : List Byte) (tables : List (List Byte)) (h : Nat → Nat) : List (Bool × PlanFault) :=
  resvWords.map (fun i => (headerResv h i != 0, { code := 2, word := i }))
    ++ [(crc32 (plan.take 56 ++ plan.drop 64) != bits (h 7) 31 0, { code := 3, word := 7 }), (crc32 tables.flatten != bits (h 3) 31 0, { code := 3, word := 3 })]

section
variable (plan : List Byte) (tables : List (List Byte)) (ws : Array Nat)

theorem headerFault_short (h : plan.length < 72) : headerFault plan tables ws = some { code := 1 } := if_pos h

theorem headerFault_list (h : 72 ≤ plan.length) : headerFault plan tables ws = firstFault
    ((bits (wordAt ws 0) 63 48 != 0x434D || bits (wordAt ws 0) 47 32 != 0x0102, { code := 2 })
      :: (decide (bits (wordAt ws 0) 15 0 < 9), { code := 1 }) :: (bits (wordAt ws 0) 15 0 * 8 != plan.length, { code := 2 }) :: headerChecks plan tables (wordAt ws)) := by
  rw [headerFault, if_neg (by omega)]
  rfl

variable (h : 72 ≤ plan.length)
include h

theorem headerFault_magic (hm : ¬(bits (wordAt ws 0) 63 48 = 0x434D ∧ bits (wordAt ws 0) 47 32 = 0x0102)) : headerFault plan tables ws = some { code := 2 } := by
  rw [headerFault_list plan tables ws h, firstFault]
  exact if_pos (by rw [Bool.or_eq_true, bne_iff_ne, bne_iff_ne]; exact not_and_or.mp hm)

variable (hm : bits (wordAt ws 0) 63 48 = 0x434D ∧ bits (wordAt ws 0) 47 32 = 0x0102)
include hm

theorem headerFault_few (h9 : bits (wordAt ws 0) 15 0 < 9) : headerFault plan tables ws = some { code := 1 } := by
  rw [headerFault_list plan tables ws h, firstFault, if_neg (by simp [hm.1, hm.2]), firstFault]
  exact if_pos (by simpa using h9)

variable (h9 : 9 ≤ bits (wordAt ws 0) 15 0)
include h9

theorem headerFault_length (hl : bits (wordAt ws 0) 15 0 * 8 ≠ plan.length) : headerFault plan tables ws = some { code := 2 } := by
  rw [headerFault_list plan tables ws h, firstFault, if_neg (by simp [hm.1, hm.2]), firstFault, if_neg (by simpa using h9), firstFault]
  exact if_pos (by simpa using hl)

variable (hl : bits (wordAt ws 0) 15 0 * 8 = plan.length)
include hl

theorem headerFault_sized : headerFault plan tables ws = firstFault (headerChecks plan tables (wordAt ws)) := by
  rw [headerFault_list plan tables ws h, firstFault, if_neg (by simp [hm.1, hm.2]), firstFault, if_neg (by simpa using h9), firstFault, if_neg (by simpa using hl)]

omit h hm h9 hl in
theorem headerChecks_resv (w : Nat → Nat) (i : Nat) (hi : i ∈ resvWords) (hbad : headerResv w i ≠ 0) (hbefore : ∀ j ∈ resvWords, j < i → headerResv w j = 0) :
    firstFault (headerChecks plan tables w) = some { code := 2, word := i } := by
  obtain ⟨l, r, hlr⟩ := List.append_of_mem hi
  have hsort : resvWords.Pairwise (· < ·) := by decide
  rw [hlr, List.pairwise_append] at hsort
  have hl : ∀ j ∈ l, headerResv w j = 0 := fun j hj =>
    hbefore j (by rw [hlr]; exact List.mem_append_left _ hj) (hsort.2.2 j hj i List.mem_cons_self)
  rw [headerChecks, hlr, List.map_append, List.append_assoc, firstFault_none, List.map_cons, List.cons_append, firstFault]
  · exact if_pos (by simpa using hbad)
  · intro x hx
    obtain ⟨j, hj, rfl⟩ := List.mem_map.mp hx
    simp [hl j hj]

omit h hm h9 hl in
theorem headerChecks_crcs (w : Nat → Nat) (hz : ∀ i ∈ resvWords, headerResv w i = 0) : firstFault (headerChecks plan tables w)
    = if crc32 (plan.take 56 ++ plan.drop 64) = bits (w 7) 31 0 then (if crc32 tables.flatten = bits (w 3) 31 0 then none else some { code := 3, word := 3 })
      else some { code := 3, word := 7 } := by
  rw [headerChecks, firstFault_none]
  · by_cases h1 : crc32 (plan.take 56 ++ plan.drop 64) = bits (w 7) 31 0
    · by_cases h2 : crc32 tables.flatten = bits (w 3) 31 0 <;> simp [firstFault, h1, h2]
    · simp [firstFault, h1]
  · intro x hx
    obtain ⟨j, hj, rfl⟩ := List.mem_map.mp hx
    simp [hz j hj]

end

/-- The header is right, with its reserved fields and its CRCs. -/
def headerGood (b : PlanBank) : Prop :=
  let h := wordAt (planWords b.plan)
  (72 ≤ b.plan.length ∧ (bits (h 0) 63 48 = 0x434D ∧ bits (h 0) 47 32 = 0x0102) ∧ 9 ≤ bits (h 0) 15 0 ∧ bits (h 0) 15 0 * 8 = b.plan.length)
    ∧ (∀ i ∈ resvWords, headerResv h i = 0) ∧ crc32 (b.plan.take 56 ++ b.plan.drop 64) = bits (h 7) 31 0 ∧ crc32 b.tables.flatten = bits (h 3) 31 0

theorem headerGood_iff (b : PlanBank) : headerFault b.plan b.tables (planWords b.plan) = none ↔ headerGood b := by
  obtain ⟨ws, hws⟩ : ∃ ws, ws = planWords b.plan := ⟨_, rfl⟩
  unfold headerGood
  dsimp only
  rw [← hws]
  by_cases h72 : 72 ≤ b.plan.length
  · by_cases hm : bits (wordAt ws 0) 63 48 = 0x434D ∧ bits (wordAt ws 0) 47 32 = 0x0102
    · by_cases h9 : 9 ≤ bits (wordAt ws 0) 15 0
      · by_cases hl : bits (wordAt ws 0) 15 0 * 8 = b.plan.length
        · rw [headerFault_sized _ _ ws h72 hm h9 hl]
          by_cases hz : ∀ i ∈ resvWords, headerResv (wordAt ws) i = 0
          · rw [headerChecks_crcs _ _ _ hz]
            constructor
            · intro h
              by_cases h1 : crc32 (b.plan.take 56 ++ b.plan.drop 64) = bits (wordAt ws 7) 31 0
              · by_cases h2 : crc32 b.tables.flatten = bits (wordAt ws 3) 31 0
                · exact ⟨⟨h72, hm, h9, hl⟩, hz, h1, h2⟩
                · rw [if_pos h1, if_neg h2] at h
                  exact nomatch h
              · rw [if_neg h1] at h
                exact nomatch h
            · rintro ⟨-, -, h1, h2⟩
              rw [if_pos h1, if_pos h2]
          · obtain ⟨i, hi, hbad, hbefore⟩ : ∃ i ∈ resvWords, headerResv (wordAt ws) i ≠ 0 ∧ ∀ j ∈ resvWords, j < i → headerResv (wordAt ws) j = 0 := by
              have hex : ∃ i, i ∈ resvWords ∧ headerResv (wordAt ws) i ≠ 0 := by simpa using hz
              refine ⟨Nat.find hex, (Nat.find_spec hex).1, (Nat.find_spec hex).2, fun j hj hlt => ?_⟩
              by_contra hne
              exact Nat.find_min hex hlt ⟨hj, hne⟩
            rw [headerChecks_resv _ _ _ i hi hbad hbefore]
            exact ⟨fun h => (nomatch h), fun h => absurd (h.2.1 i hi) hbad⟩
        · rw [headerFault_length _ _ ws h72 hm h9 hl]
          exact ⟨fun h => (nomatch h), fun h => absurd h.1.2.2.2 hl⟩
      · rw [headerFault_few _ _ ws h72 hm (by omega)]
        exact ⟨fun h => (nomatch h), fun h => absurd h.1.2.2.1 h9⟩
    · rw [headerFault_magic _ _ ws h72 hm]
      exact ⟨fun h => (nomatch h), fun h => absurd h.1.2.1 hm⟩
  · rw [headerFault_short _ _ ws (by omega)]
    exact ⟨fun h => (nomatch h), fun h => absurd h.1.1 h72⟩

theorem firstFault_code (l : List (Bool × PlanFault)) (h : ∀ x ∈ l, x.2.code ≠ 0) (f : PlanFault) (hf : firstFault l = some f) : f.code ≠ 0 := by
  induction l with
  | nil => exact nomatch hf
  | cons a l ih =>
    obtain ⟨bad, g⟩ := a
    rw [firstFault] at hf
    split at hf
    · cases hf
      exact h (bad, _) List.mem_cons_self
    · exact ih (fun x hx => h x (List.mem_cons_of_mem _ hx)) hf

theorem headerFault_code (plan : List Byte) (tables : List (List Byte)) (ws : Array Nat) (f : PlanFault) (hf : headerFault plan tables ws = some f) : f.code ≠ 0 := by
  rw [headerFault] at hf
  split at hf
  · cases hf
    decide
  · refine firstFault_code _ (fun x hx => ?_) f hf
    simp only [List.mem_cons, List.not_mem_nil, or_false] at hx
    rcases hx with rfl | rfl | rfl | rfl | rfl | rfl | rfl | rfl | rfl | rfl | rfl | rfl <;> exact Nat.succ_ne_zero _

/-! ### Operation words and fields (R33, R34) -/

theorem mem_opAddrs (ws : Array Nat) (a : Nat) : a ∈ opAddrs ws ↔ 8 ≤ a ∧ a < ws.size := by
  simp only [opAddrs, List.mem_map, List.mem_range]
  constructor
  · rintro ⟨i, hi, rfl⟩
    omega
  · intro h
    exact ⟨a - 8, by omega, by omega⟩

theorem opAddrs_sorted (ws : Array Nat) : (opAddrs ws).Pairwise (· < ·) :=
  List.Pairwise.map _ (fun _ _ h => Nat.add_lt_add_right h 8) List.pairwise_lt_range

/-- In a rising list the first place that gives something is the smallest one. -/
theorem findSome?_sorted {β : Type} (l : List Nat) (f : Nat → Option β) (hl : l.Pairwise (· < ·)) (a : Nat) (x : β) (ha : a ∈ l) (hx : f a = some x)
    (hbefore : ∀ i ∈ l, i < a → f i = none) : l.findSome? f = some x := by
  obtain ⟨p, r, rfl⟩ := List.append_of_mem ha
  rw [List.pairwise_append] at hl
  rw [List.findSome?_eq_some_iff]
  exact ⟨p, a, r, rfl, hx, fun i hi => hbefore i (List.mem_append_left _ hi) (hl.2.2 i hi a List.mem_cons_self)⟩

/-- What the encoding stage finds at a word. -/
def encodingAt (ws : Array Nat) (a : Nat) : Option PlanFault :=
  if !opcodeOk (wordAt ws a) then some { code := 4, word := a } else if !fieldOk (wordAt ws a) then some { code := 5, word := a } else none

theorem encodingFault_eq (ws : Array Nat) : encodingFault ws = (opAddrs ws).findSome? (encodingAt ws) := rfl

theorem encodingAt_none (ws : Array Nat) (a : Nat) : encodingAt ws a = none ↔ opcodeOk (wordAt ws a) = true ∧ fieldOk (wordAt ws a) = true := by
  rw [encodingAt]
  cases opcodeOk (wordAt ws a) <;> cases fieldOk (wordAt ws a) <;> simp

theorem encodingFault_none (ws : Array Nat) : encodingFault ws = none ↔ ∀ a, 8 ≤ a → a < ws.size → opcodeOk (wordAt ws a) = true ∧ fieldOk (wordAt ws a) = true := by
  rw [encodingFault_eq, List.findSome?_eq_none_iff]
  exact ⟨fun h a h8 ha => (encodingAt_none ws a).mp (h a ((mem_opAddrs ws a).mpr ⟨h8, ha⟩)),
    fun h a ha => (encodingAt_none ws a).mpr (h a ((mem_opAddrs ws a).mp ha).1 ((mem_opAddrs ws a).mp ha).2)⟩

theorem encodingFault_first (ws : Array Nat) (a : Nat) (h8 : 8 ≤ a) (ha : a < ws.size)
    (hbefore : ∀ i, 8 ≤ i → i < a → opcodeOk (wordAt ws i) = true ∧ fieldOk (wordAt ws i) = true) (f : PlanFault) (hf : encodingAt ws a = some f) : encodingFault ws = some f :=
  findSome?_sorted _ _ (opAddrs_sorted ws) a f ((mem_opAddrs ws a).mpr ⟨h8, ha⟩) hf fun i hi hlt => (encodingAt_none ws i).mpr (hbefore i ((mem_opAddrs ws i).mp hi).1 hlt)

theorem encodingFault_code (ws : Array Nat) (f : PlanFault) (hf : encodingFault ws = some f) : f.code ≠ 0 := by
  obtain ⟨a, -, ha⟩ := List.exists_of_findSome?_eq_some hf
  split at ha
  · cases ha
    exact Nat.succ_ne_zero _
  · split at ha
    · cases ha
      exact Nat.succ_ne_zero _
    · exact nomatch ha

/-! ### Loops, frames and jumps (R32, R42 to R44) -/

/-- Where no loop is broken, the places are those of all the words, in order. -/
theorem places_addrs (ws : Array Nat) (n a frame : Nat) (stack : List Nat) (acc ps : List WordPlace) (h : places ws n a frame stack acc = (ps, none)) :
    ps.map (·.addr) = acc.reverse.map (·.addr) ++ (List.range n).map (a + ·) := by
  induction n generalizing a frame stack acc with
  | zero =>
    rw [places, Prod.mk.injEq] at h
    rw [← h.1, List.range_zero, List.map_nil, List.append_nil]
  | succ n ih =>
    have hstep : ∀ (q : WordPlace) (fr : Nat) (st : List Nat), q.addr = a → places ws n (a + 1) fr st (q :: acc) = (ps, none) →
        ps.map (·.addr) = acc.reverse.map (·.addr) ++ (List.range (n + 1)).map (a + ·) := fun q fr st hq hp => by
      have hshift : (List.range n).map (a + 1 + ·) = ((List.range n).map (· + 1)).map (a + ·) := by
        rw [List.map_map]
        exact List.map_congr_left fun i _ => by simp only [Function.comp_apply]; omega
      rw [ih (a + 1) fr st (q :: acc) hp, List.range_succ_eq_map, List.map_cons, Nat.add_zero, List.reverse_cons, List.map_append, List.append_assoc, hshift, List.map_singleton, hq]
      rfl
    unfold places at h
    extract_lets op at h
    split at h
    · split at h
      · exact nomatch h
      · exact hstep _ _ _ rfl h
    · split at h
      · split at h
        · exact nomatch h
        · exact hstep _ _ _ rfl h
      · split at h
        · split at h
          · exact nomatch h
          · exact hstep _ _ _ rfl h
        · exact hstep _ _ _ rfl h

theorem places_code (ws : Array Nat) (n a frame : Nat) (stack : List Nat) (acc : List WordPlace) (f : PlanFault) (h : (places ws n a frame stack acc).2 = some f) : f.code ≠ 0 := by
  induction n generalizing a frame stack acc with
  | zero =>
    rw [places] at h
    obtain ⟨l, -, rfl⟩ := Option.map_eq_some_iff.mp h
    exact Nat.succ_ne_zero _
  | succ n ih =>
    have hsix : ∀ (ps : List WordPlace) (w : Nat), ((ps, some ({ code := 6, word := w } : PlanFault)) : List WordPlace × Option PlanFault).2 = some f → f.code ≠ 0 := fun ps w hf => by
      cases hf
      exact Nat.succ_ne_zero 5
    unfold places at h
    extract_lets op at h
    split at h
    · split at h
      · exact hsix _ _ h
      · exact ih _ _ _ _ h
    · split at h
      · split at h
        · exact hsix _ _ h
        · exact ih _ _ _ _ h
      · split at h
        · split at h
          · exact hsix _ _ h
          · exact ih _ _ _ _ h
        · exact ih _ _ _ _ h

/-- What a plan with right loops, frames and jumps has. -/
theorem flowFault_none (ws : Array Nat) (h : flowFault ws = none) : opOf (wordAt ws 8) = 1 ∧ ((opAddrs ws).filter fun a => opOf (wordAt ws a) == 1).length ≤ 8
    ∧ (∀ a ∈ opAddrs ws, opOf (wordAt ws a) = 1 → 256 ≤ (frameFields (wordAt ws a)).2.1)
    ∧ ∀ a ∈ opAddrs ws, opOf (wordAt ws a) = 0x0E → bits (wordAt ws a) 14 0 < ws.size ∧ (opOf (wordAt ws (bits (wordAt ws a) 14 0)) = 1 ∨ a < bits (wordAt ws a) 14 0) := by
  by_cases h8 : opOf (wordAt ws 8) = 1
  swap
  · rw [flowFault, if_pos h8] at h
    exact nomatch h
  rw [flowFault, if_neg (by simpa using h8)] at h
  obtain ⟨pf, hpf⟩ : ∃ pf, pf = places ws (ws.size - 8) 8 0 [] [] := ⟨_, rfl⟩
  rw [← hpf] at h
  cases hfault : pf.2 with
  | some f =>
    simp only [hfault] at h
    exact nomatch h
  | none =>
    have haddrs : pf.1.map (·.addr) = opAddrs ws := by
      have hps : places ws (ws.size - 8) 8 0 [] [] = (pf.1, none) := by rw [← hpf, ← hfault]
      rw [places_addrs ws _ _ _ _ _ _ hps, opAddrs, List.reverse_nil, List.map_nil, List.nil_append]
      exact List.map_congr_left fun i _ => Nat.add_comm 8 i
    have hplace : ∀ a ∈ opAddrs ws, ∃ p ∈ pf.1, p.addr = a := fun a ha => by
      rw [← haddrs] at ha
      exact List.mem_map.mp ha
    have hcount : ((opAddrs ws).filter fun a => opOf (wordAt ws a) == 1).length = (pf.1.filter fun p => opOf (wordAt ws p.addr) == 0x01).length := by
      rw [← haddrs, List.filter_map, List.length_map]
      rfl
    simp only [hfault] at h
    split at h
    · exact nomatch h
    next hfew =>
      split at h
      · exact nomatch h
      next hlong =>
        rw [Option.map_eq_none_iff, List.find?_eq_none] at h
        rw [List.find?_eq_none] at hlong
        refine ⟨h8, by rw [hcount]; omega, fun a ha hop => ?_, fun a ha hop => ?_⟩
        · obtain ⟨p, hp, rfl⟩ := hplace a ha
          have hslots := hlong p (List.mem_filter.mpr ⟨hp, by simpa using hop⟩)
          rw [decide_eq_true_eq] at hslots
          simp only [frameFields]
          omega
        · obtain ⟨p, hp, rfl⟩ := hplace a ha
          have hjump : jumpOk ws pf.1 p = true := by
            have hno := h p hp
            rw [hop] at hno
            simpa using hno
          unfold jumpOk at hjump
          extract_lets t at hjump
          split at hjump
          · exact nomatch hjump
          next hlt =>
            refine ⟨by omega, ?_⟩
            split at hjump
            next hframe => exact .inl hframe
            · refine .inr ?_
              split at hjump
              · rw [Bool.and_eq_true, Bool.and_eq_true, decide_eq_true_eq] at hjump
                exact hjump.1.1
              · exact nomatch hjump

theorem flowFault_start (ws : Array Nat) (h : opOf (wordAt ws 8) ≠ 1) : flowFault ws = some { code := 7, word := 8 } := if_pos h

theorem flowFault_code (ws : Array Nat) (f : PlanFault) (h : flowFault ws = some f) : f.code ≠ 0 := by
  unfold flowFault at h
  extract_lets pf frames at h
  split at h
  · cases h
    decide
  · split at h
    next g hg =>
      cases h
      exact places_code ws _ _ _ _ _ _ hg
    · split at h
      · cases h
        exact Nat.succ_ne_zero 6
      · split at h
        · cases h
          exact Nat.succ_ne_zero 6
        · obtain ⟨p, -, rfl⟩ := Option.map_eq_some_iff.mp h
          exact Nat.succ_ne_zero 5

theorem textFault_code (b : PlanBank) (f : PlanFault) (h : textFault b = some f) : f.code ≠ 0 := by
  rw [textFault, Option.or_eq_some_iff] at h
  rcases h with h | ⟨-, h⟩
  · exact headerFault_code _ _ _ _ h
  · rw [Option.or_eq_some_iff] at h
    rcases h with h | ⟨-, h⟩
    · exact encodingFault_code _ _ h
    · exact flowFault_code _ _ h

theorem textFault_header (b : PlanBank) (f : PlanFault) (h : headerFault b.plan b.tables (planWords b.plan) = some f) : textFault b = some f := by
  rw [textFault, h]
  rfl

theorem textFault_words (b : PlanBank) (hg : headerGood b) : textFault b = (encodingFault (planWords b.plan)).or (flowFault (planWords b.plan)) := by
  rw [textFault, (headerGood_iff b).mpr hg]
  rfl

end Sys2Proof.Machine

end

section
/-! PROOFS. Chapter 2: the walk of the plan, its groups, resources and budget. -/

namespace Sys2Proof.Machine

/-! ### What one word does to the walk (R36, R42 to R44, R48) -/

/-- The walk once the word at its address is counted. -/
def Walk.counted (w : Walk) : Walk :=
  let c := { w with words := w.words + 1 }
  if 32 < c.words then { c with budgetWords := c.budgetWords.or (some (c.count, c.at 10 w.pc (Config.checkUnit 6 % 256 * 256))) } else c

theorem Walk.counted_shows (w : Walk) : w.counted.words = w.words + 1 ∧ w.counted.fire = w.fire ∧ w.counted.marks = w.marks ∧ w.counted.order = w.order ∧ w.counted.fault = w.fault
    ∧ w.counted.slots = w.slots ∧ w.counted.loops = w.loops ∧ (∀ c x d, w.counted.at c x d = w.at c x d)
    ∧ w.counted.budgetWords = if 32 < w.words + 1 then w.budgetWords.or (some (w.count, w.at 10 w.pc (Config.checkUnit 6 % 256 * 256))) else w.budgetWords := by
  unfold Walk.counted
  dsimp only
  split <;> exact ⟨rfl, rfl, rfl, rfl, rfl, rfl, rfl, fun _ _ _ => rfl, rfl⟩

/-- Executes a word that is counted. -/
def Walk.run (ws : Array Nat) (w : Walk) (a : Nat) (full : Bool) : Walk :=
  match opOf (wordAt ws a) with
  | 0x01 =>
    if w.started && !full then { w with fault := some (w.at 7 a 0), done := true } else w.startFrame a (wordAt ws a)
  | 0x0E => { w with pc := bits (wordAt ws a) 14 0 }
  | 0x03 =>
    let w := if w.fire.isSome then w.misorder a else w
    { w with fire := some (fireFields (wordAt ws a)), pc := a + 1 }
  | 0x0A =>
    let w := if 4 ≤ w.marks then w.misorder a else { w with marks := w.marks + 1 }
    { w with pc := a + 1 }
  | 0x04 => { w with single := singleFields (wordAt ws a), changed := true, pc := a + 1 }
  | 0x05 => { w with accum := accumFields (wordAt ws a), changed := true, pc := a + 1 }
  | 0x06 => { w with emit := emitFields (wordAt ws a), pc := a + 1 }
  | 0x0D => { w with pc := a + 1 }
  | 0x0B =>
    if bits (wordAt ws a) 15 0 = 0 then { w with pc := matchEnd ws ws.size (a + 1) 1 + 1 }
    else { w with loops := (a, bits (wordAt ws a) 15 0, w.count) :: w.loops, pc := a + 1 }
  | 0x0C =>
    match w.loops with
    | (l, n, c) :: r =>
      if 1 < n then { w with loops := (l, if w.budgetWords.isSome ∧ c = w.count then min (n - 1) 6 else n - 1, w.count) :: r, pc := l + 1 }
      else { w with loops := r, pc := a + 1 }
    | [] => { w with fault := some (w.at 6 a 0), done := true }
  | _ =>
    match kindOf (opOf (wordAt ws a)) with
    | some k =>
      let w := if k ≠ .slot ∧ w.fire.isSome then { w.misorder a with fire := none } else w
      let n := bits (wordAt ws a) 15 0
      if n = 0 then { w with pc := a + 1 }
      else { w with kind := k, left := n, prodWord := a, prodFire := (if k = .slot then w.fire.getD {} else {}),
                    fire := none, marks := 0, pc := a + 1 }
    | none => { w with fault := some (w.at 4 a 0), done := true }

section
variable (ws : Array Nat) (w : Walk)

theorem Walk.word_eq : w.word ws = if ws.size ≤ w.pc then { w with fault := some (w.at 6 w.pc 0), done := true }
    else if (w.started && decide (w.frameLen ≤ w.fslot)) = true ∧ opOf (wordAt ws w.pc) ≠ 0x01 ∧ opOf (wordAt ws w.pc) ≠ 0x0E then { w with fault := some (w.at 7 w.pc 0), done := true }
    else w.counted.run ws w.pc (w.started && decide (w.frameLen ≤ w.fslot)) := rfl

theorem Walk.word_runs (hp : w.pc < ws.size) (hf : w.started = false ∨ w.fslot < w.frameLen) : w.word ws = w.counted.run ws w.pc false := by
  have hfull : (w.started && decide (w.frameLen ≤ w.fslot)) = false := by
    rcases hf with hf | hf
    · rw [hf, Bool.false_and]
    · rw [decide_eq_false (by omega), Bool.and_false]
  rw [Walk.word_eq, if_neg (by omega), hfull, if_neg (by simp)]

theorem Walk.word_beyond (hp : ws.size ≤ w.pc) : (w.word ws).done = true ∧ (w.word ws).fault = some (w.at 6 w.pc 0) := by
  rw [Walk.word_eq, if_pos hp]
  exact ⟨rfl, rfl⟩

theorem Walk.word_full (hp : w.pc < ws.size) (hs : w.started = true) (hl : w.frameLen ≤ w.fslot) (h1 : opOf (wordAt ws w.pc) ≠ 1) (he : opOf (wordAt ws w.pc) ≠ 0x0E) :
    (w.word ws).done = true ∧ (w.word ws).fault = some (w.at 7 w.pc 0) := by
  rw [Walk.word_eq, if_neg (by omega), if_pos ⟨by rw [hs, decide_eq_true hl]; rfl, h1, he⟩]
  exact ⟨rfl, rfl⟩

theorem Walk.word_crosses (hp : w.pc < ws.size) (hs : w.started = true) (hl : w.fslot < w.frameLen) (h1 : opOf (wordAt ws w.pc) = 1) :
    (w.word ws).done = true ∧ (w.word ws).fault = some (w.at 7 w.pc 0) := by
  obtain ⟨-, -, -, -, -, -, -, hat, -⟩ := w.counted_shows
  have hstart : w.counted.started = true := by
    unfold Walk.counted
    dsimp only
    split <;> exact hs
  have hgo : (w.counted.started && !false) = true := by rw [hstart]; rfl
  rw [Walk.word_runs ws w hp (.inr hl), Walk.run, h1]
  dsimp only
  rw [if_pos hgo]
  exact ⟨rfl, congrArg some (hat 7 w.pc 0)⟩

theorem Walk.run_fire (a : Nat) (full : Bool) (h : opOf (wordAt ws a) = 3) : (w.run ws a full).fire = some (fireFields (wordAt ws a))
    ∧ (w.run ws a full).order = if w.fire.isSome = true then w.order.or (some (w.at 8 a 0)) else w.order := by
  have heq : w.run ws a full = { (if w.fire.isSome = true then w.misorder a else w) with fire := some (fireFields (wordAt ws a)), pc := a + 1 } := by
    rw [Walk.run, h]
    rfl
  rw [heq]
  refine ⟨rfl, ?_⟩
  dsimp only
  split <;> rfl

theorem Walk.run_mark (a : Nat) (full : Bool) (h : opOf (wordAt ws a) = 0x0A) :
    (w.run ws a full).order = if 4 ≤ w.marks then w.order.or (some (w.at 8 a 0)) else w.order := by
  have heq : w.run ws a full = { (if 4 ≤ w.marks then w.misorder a else { w with marks := w.marks + 1 }) with pc := a + 1 } := by
    rw [Walk.run, h]
    rfl
  rw [heq]
  dsimp only
  split <;> rfl

theorem Walk.run_gap (a : Nat) (full : Bool) (h : opOf (wordAt ws a) = 7 ∨ opOf (wordAt ws a) = 8 ∨ opOf (wordAt ws a) = 9) :
    (w.run ws a full).order = if w.fire.isSome = true then w.order.or (some (w.at 8 a 0)) else w.order := by
  have hkind : ∀ k : SlotKind, k ≠ SlotKind.slot → ∀ x : Walk, x = (if k ≠ SlotKind.slot ∧ w.fire.isSome then { w.misorder a with fire := none } else w) →
      (if bits (wordAt ws a) 15 0 = 0 then { x with pc := a + 1 }
        else { x with kind := k, left := bits (wordAt ws a) 15 0, prodWord := a, prodFire := (if k = SlotKind.slot then x.fire.getD {} else {}), fire := none, marks := 0, pc := a + 1 }).order
      = if w.fire.isSome = true then w.order.or (some (w.at 8 a 0)) else w.order := fun k hk x hx => by
    have horder : x.order = if w.fire.isSome = true then w.order.or (some (w.at 8 a 0)) else w.order := by
      rw [hx]
      by_cases hf : w.fire.isSome = true
      · rw [if_pos ⟨hk, hf⟩, if_pos hf]
        rfl
      · rw [if_neg (fun h => hf h.2), if_neg hf]
    split <;> exact horder
  rw [Walk.run]
  rcases h with h | h | h
  · rw [h]
    exact hkind .calgap (by decide) _ rfl
  · rw [h]
    exact hkind .testgap (by decide) _ rfl
  · rw [h]
    exact hkind .idle (by decide) _ rfl

theorem Walk.produce_full (h : w.frameLen ≤ w.fslot) : w.produce.done = true ∧ w.produce.fault = some (w.at 7 w.prodWord 0) := by
  rw [Walk.produce, if_pos h]
  exact ⟨rfl, rfl⟩

theorem Walk.produce_slot (h : w.fslot < w.frameLen) : w.produce.slots = w.slotHere :: w.slots ∧ w.produce.fslot = w.fslot + 1 ∧ w.produce.fault = w.fault
    ∧ w.produce.order = w.order ∧ w.produce.words = 0 ∧ w.produce.budgetWords = w.budgetWords := by
  rw [Walk.produce, if_neg (by omega)]
  exact ⟨rfl, rfl, rfl, rfl, rfl, rfl⟩

/-! ### What the walk keeps -/

/-- What a word may change of the walk's findings. -/
def Walk.wordStep (w t : Walk) : Prop := t.slots = w.slots ∧ t.words = w.words ∧ t.budgetWords = w.budgetWords
  ∧ (t.fault = w.fault ∨ ∃ c a, c ≠ 0 ∧ t.fault = some (w.at c a 0)) ∧ (t.order = w.order ∨ ∃ a, t.order = w.order.or (some (w.at 8 a 0)))

theorem Walk.startFrame_step (a word : Nat) : w.wordStep (w.startFrame a word) := by
  obtain ⟨x, hx⟩ : ∃ x : Walk, x = if w.fire.isSome ∨ w.marks ≠ 0 then { w.misorder a with fire := none, marks := 0 } else w := ⟨_, rfl⟩
  have hstep : w.wordStep x := by
    rw [hx]
    split
    · exact ⟨rfl, rfl, rfl, .inl rfl, .inr ⟨a, rfl⟩⟩
    · exact ⟨rfl, rfl, rfl, .inl rfl, .inl rfl⟩
  unfold Walk.startFrame
  dsimp only
  rw [← hx]
  split <;> exact hstep

theorem Walk.run_step (a : Nat) (full : Bool) : w.wordStep (w.run ws a full) := by
  have hsame : ∀ t : Walk, t.slots = w.slots → t.words = w.words → t.budgetWords = w.budgetWords → t.fault = w.fault → t.order = w.order → w.wordStep t :=
    fun t h1 h2 h3 h4 h5 => ⟨h1, h2, h3, .inl h4, .inl h5⟩
  unfold Walk.run
  split
  · split
    · exact ⟨rfl, rfl, rfl, .inr ⟨7, a, by decide, rfl⟩, .inl rfl⟩
    · exact w.startFrame_step _ _
  · exact hsame _ rfl rfl rfl rfl rfl
  · dsimp only
    split
    · exact ⟨rfl, rfl, rfl, .inl rfl, .inr ⟨a, rfl⟩⟩
    · exact hsame _ rfl rfl rfl rfl rfl
  · dsimp only
    split
    · exact ⟨rfl, rfl, rfl, .inl rfl, .inr ⟨a, rfl⟩⟩
    · exact hsame _ rfl rfl rfl rfl rfl
  · exact hsame _ rfl rfl rfl rfl rfl
  · exact hsame _ rfl rfl rfl rfl rfl
  · exact hsame _ rfl rfl rfl rfl rfl
  · exact hsame _ rfl rfl rfl rfl rfl
  · split <;> exact hsame _ rfl rfl rfl rfl rfl
  · split
    · split <;> exact hsame _ rfl rfl rfl rfl rfl
    · exact ⟨rfl, rfl, rfl, .inr ⟨6, a, by decide, rfl⟩, .inl rfl⟩
  · split
    next k _ =>
      obtain ⟨x, hx⟩ : ∃ x : Walk, x = if k ≠ .slot ∧ w.fire.isSome then { w.misorder a with fire := none } else w := ⟨_, rfl⟩
      have hstep : w.wordStep x := by
        rw [hx]
        split
        · exact ⟨rfl, rfl, rfl, .inl rfl, .inr ⟨a, rfl⟩⟩
        · exact ⟨rfl, rfl, rfl, .inl rfl, .inl rfl⟩
      dsimp only
      rw [← hx]
      split <;> exact hstep
    · exact ⟨rfl, rfl, rfl, .inr ⟨4, a, by decide, rfl⟩, .inl rfl⟩

/-- What every stage of the walk has: its findings have codes, its slots lie in their frames, and no slot is preceded by more than 32 words unless that is noted. -/
structure WalkFound (w : Walk) : Prop where
  fault : ∀ f, w.fault = some f → f.code ≠ 0
  order : ∀ f, w.order = some f → f.code ≠ 0
  budget : ∀ i f, w.budgetWords = some (i, f) → f.code ≠ 0
  slots : ∀ x ∈ w.slots, x.frameSlot < x.frameLen
  words : w.budgetWords = none → w.words ≤ 32 ∧ ∀ x ∈ w.slots, x.words ≤ 32

theorem Walk.at_code (c a d : Nat) (hc : c ≠ 0) (f : PlanFault) (hf : some (w.at c a d) = some f) : f.code ≠ 0 := by
  cases hf
  exact hc

theorem WalkFound.counted {w : Walk} (h : WalkFound w) : WalkFound w.counted := by
  obtain ⟨hwords, -, -, horder, hfault, hslots, -, -, hbudget⟩ := w.counted_shows
  refine ⟨fun f hf => h.fault f (hfault ▸ hf), fun f hf => h.order f (horder ▸ hf), fun i f hf => ?_, fun x hx => h.slots x (hslots ▸ hx), fun hn => ?_⟩
  · rw [hbudget] at hf
    split at hf
    · rw [Option.or_eq_some_iff] at hf
      rcases hf with hf | ⟨-, hf⟩
      · exact h.budget i f hf
      · rw [Option.some.injEq, Prod.mk.injEq] at hf
        exact w.at_code 10 _ _ (by decide) f (congrArg some hf.2)
    · exact h.budget i f hf
  · rw [hbudget] at hn
    split at hn
    · rw [Option.or_eq_none_iff] at hn
      exact nomatch hn.2
    next hle =>
      rw [hwords, hslots]
      exact ⟨by omega, (h.words hn).2⟩

theorem WalkFound.step {w t : Walk} (h : WalkFound w) (hs : w.wordStep t) : WalkFound t := by
  obtain ⟨hslots, hwords, hbudget, hfault, horder⟩ := hs
  refine ⟨fun f hf => ?_, fun f hf => ?_, fun i f hf => h.budget i f (hbudget ▸ hf), fun x hx => h.slots x (hslots ▸ hx), fun hn => ?_⟩
  · rcases hfault with he | ⟨c, a, hc, he⟩
    · exact h.fault f (he ▸ hf)
    · exact w.at_code c a 0 hc f (he ▸ hf)
  · rcases horder with he | ⟨a, he⟩
    · exact h.order f (he ▸ hf)
    · rw [he, Option.or_eq_some_iff] at hf
      rcases hf with hf | ⟨-, hf⟩
      · exact h.order f hf
      · exact w.at_code 8 a 0 (by decide) f hf
  · rw [hwords, hslots]
    exact h.words (hbudget ▸ hn)

theorem WalkFound.word {w : Walk} (h : WalkFound w) : WalkFound (w.word ws) := by
  rw [Walk.word_eq]
  split
  · exact h.step ⟨rfl, rfl, rfl, .inr ⟨6, w.pc, by decide, rfl⟩, .inl rfl⟩
  · split
    · exact h.step ⟨rfl, rfl, rfl, .inr ⟨7, w.pc, by decide, rfl⟩, .inl rfl⟩
    · exact h.counted.step (Walk.run_step ws w.counted w.pc _)

theorem WalkFound.produce {w : Walk} (h : WalkFound w) : WalkFound w.produce := by
  rcases Nat.lt_or_ge w.fslot w.frameLen with hlt | hge
  · obtain ⟨hslots, -, hfault, horder, hwords, hbudget⟩ := w.produce_slot hlt
    refine ⟨fun f hf => h.fault f (hfault ▸ hf), fun f hf => h.order f (horder ▸ hf), fun i f hf => h.budget i f (hbudget ▸ hf), fun x hx => ?_, fun hn => ?_⟩
    · rw [hslots] at hx
      rcases List.mem_cons.mp hx with rfl | hx
      · exact hlt
      · exact h.slots x hx
    · obtain ⟨hle, hall⟩ := h.words (hbudget ▸ hn)
      rw [hwords, hslots]
      refine ⟨by omega, fun x hx => ?_⟩
      rcases List.mem_cons.mp hx with rfl | hx
      · exact hle
      · exact hall x hx
  · have heq : w.produce = { w with fault := some (w.at 7 w.prodWord 0), done := true } := if_pos hge
    rw [heq]
    exact h.step ⟨rfl, rfl, rfl, .inr ⟨7, w.prodWord, by decide, rfl⟩, .inl rfl⟩

theorem WalkFound.walkPlan (n : Nat) {w : Walk} (h : WalkFound w) : WalkFound (walkPlan ws n w) := by
  induction n generalizing w with
  | zero => exact h
  | succ n ih =>
    rw [Machine.walkPlan]
    split
    · exact h
    · split
      · exact ih h.produce
      · exact ih (h.word ws)

theorem WalkFound.start : WalkFound {} :=
  ⟨fun f hf => (nomatch hf), fun f hf => (nomatch hf), fun i f hf => (nomatch hf), fun x hx => absurd hx List.not_mem_nil, fun _ => ⟨by decide, fun x hx => absurd hx List.not_mem_nil⟩⟩

theorem Walk.mem_pass (x : WalkSlot) (hx : x ∈ w.pass) : x ∈ w.slots := by
  rw [Walk.pass] at hx
  split at hx
  · exact List.mem_reverse.mp (List.mem_of_mem_take hx)
  · exact List.mem_reverse.mp hx

end

/-! ### Groups (R40) -/

section
variable (g : GroupWalk) (x : WalkSlot)

/-- The group in progress as the slot finds it. -/
def GroupWalk.entered (g : GroupWalk) (x : WalkSlot) : GroupWalk :=
  if (x.newFrame ∨ x.changed) ∧ g.cnt ≠ 0 then { g with fault := g.fault.or (some (x.at 9 0)), cnt := 0 } else g

theorem groupStep_none (h : x.accum = none) : groupStep g x = (g.entered x, false) := by
  rw [groupStep, h]
  rfl

theorem groupStep_other (n k : Nat) (h : x.accum = some (n, k)) (hk : x.kind ≠ .slot) : groupStep g x
    = (if (g.entered x).cnt ≠ 0 then { g.entered x with fault := (g.entered x).fault.or (some (x.at 9 0)), cnt := 0 } else g.entered x, false) := by
  rw [groupStep, h]
  exact if_pos hk

/-- The group once the slot has joined it. -/
def GroupWalk.joined (e : GroupWalk) (x : WalkSlot) : GroupWalk :=
  if e.cnt = 0 then { e with emask := x.fire.emask, eidx := x.fire.eidx }
  else if e.emask ≠ x.fire.emask ∨ e.eidx ≠ x.fire.eidx then { e with fault := e.fault.or (some (x.at 9 0)) } else e

theorem groupStep_slot (n k : Nat) (h : x.accum = some (n, k)) (hk : x.kind = .slot) : groupStep g x
    = if ((g.entered x).joined x).cnt + 1 = n then ({ (g.entered x).joined x with cnt := 0 }, true)
      else ({ (g.entered x).joined x with cnt := ((g.entered x).joined x).cnt + 1 }, false) := by
  rw [groupStep, h]
  exact if_neg (by simpa using hk)

theorem GroupWalk.entered_breaks (hc : g.cnt ≠ 0) (h : x.newFrame = true ∨ x.changed = true) : (g.entered x).cnt = 0 ∧ (g.entered x).fault = g.fault.or (some (x.at 9 0)) := by
  rw [GroupWalk.entered, if_pos ⟨h, hc⟩]
  exact ⟨rfl, rfl⟩

theorem GroupWalk.entered_goes (h : g.cnt = 0 ∨ x.newFrame = false ∧ x.changed = false) : g.entered x = g := by
  rw [GroupWalk.entered, if_neg]
  rintro ⟨hx, hc⟩
  rcases h with h | ⟨h1, h2⟩
  · exact hc h
  · rw [h1, h2] at hx
    exact hx.elim (fun h => nomatch h) fun h => nomatch h

/-- What a slot adds to the group's finding. -/
theorem groupStep_fault : (groupStep g x).1.fault = g.fault ∨ ∃ f : PlanFault, f = x.at 9 0 ∧ ((groupStep g x).1.fault = g.fault.or (some f) ∨ (groupStep g x).1.fault = (g.fault.or (some f)).or (some f)) := by
  obtain ⟨f, hf⟩ : ∃ f, f = x.at 9 0 := ⟨_, rfl⟩
  have hent : (g.entered x).fault = g.fault ∨ (g.entered x).fault = g.fault.or (some f) := by
    rw [GroupWalk.entered]
    split
    · rw [hf]
      exact .inr rfl
    · exact .inl rfl
  have hadd : ∀ t : GroupWalk, t.fault = (g.entered x).fault ∨ t.fault = (g.entered x).fault.or (some f) → t.fault = g.fault
      ∨ ∃ f : PlanFault, f = x.at 9 0 ∧ (t.fault = g.fault.or (some f) ∨ t.fault = (g.fault.or (some f)).or (some f)) := fun t ht => by
    rcases ht with ht | ht <;> rcases hent with he | he <;> rw [he] at ht
    · exact .inl ht
    · exact .inr ⟨f, hf, .inl ht⟩
    · exact .inr ⟨f, hf, .inl ht⟩
    · exact .inr ⟨f, hf, .inr ht⟩
  have hjoin : ((g.entered x).joined x).fault = (g.entered x).fault ∨ ((g.entered x).joined x).fault = (g.entered x).fault.or (some f) := by
    unfold GroupWalk.joined
    split
    · exact .inl rfl
    · split
      · rw [hf]
        exact .inr rfl
      · exact .inl rfl
  cases ha : x.accum with
  | none =>
    rw [groupStep_none g x ha]
    exact hadd _ (.inl rfl)
  | some p =>
    by_cases hk : x.kind = .slot
    · rw [groupStep_slot g x p.1 p.2 ha hk]
      split <;> exact hadd _ hjoin
    · rw [groupStep_other g x p.1 p.2 ha hk]
      dsimp only
      split
      · exact hadd _ (.inr (by rw [hf]))
      · exact hadd _ (.inl rfl)

theorem groupStep_code (hg : ∀ f, g.fault = some f → f.code ≠ 0) (f : PlanFault) (hf : (groupStep g x).1.fault = some f) : f.code ≠ 0 := by
  have hx : ∀ e : PlanFault, e = x.at 9 0 → e.code ≠ 0 := fun e he => by
    rw [he]
    exact Nat.succ_ne_zero 8
  rcases groupStep_fault g x with h | ⟨e, he, h | h⟩
  · exact hg f (h ▸ hf)
  · rw [h, Option.or_eq_some_iff] at hf
    rcases hf with hf | ⟨-, hf⟩
    · exact hg f hf
    · cases hf
      exact hx _ he
  · rw [h, Option.or_eq_some_iff, Option.or_eq_some_iff] at hf
    rcases hf with (hf | ⟨-, hf⟩) | ⟨-, hf⟩
    · exact hg f hf
    · cases hf
      exact hx _ he
    · cases hf
      exact hx _ he

theorem groupWalk_code (l : List WalkSlot) (acc : List Bool) (hg : ∀ f, g.fault = some f → f.code ≠ 0) (f : PlanFault) (hf : (groupWalk l g acc).1.fault = some f) : f.code ≠ 0 := by
  induction l generalizing g acc with
  | nil => exact hg f hf
  | cons x l ih => exact ih _ _ (groupStep_code g x hg) hf

/-- A group that a change, a frame or another kind of slot cuts off is refused. -/
theorem groupStep_rules (n k : Nat) (h0 : g.fault = none) :
    (g.cnt ≠ 0 → (x.newFrame = true ∨ x.changed = true) → (groupStep g x).1.fault = some (x.at 9 0))
    ∧ (x.newFrame = false → x.changed = false → x.accum = some (n, k) → x.kind ≠ .slot → g.cnt ≠ 0 → (groupStep g x).1.fault = some (x.at 9 0))
    ∧ (x.newFrame = false → x.changed = false → x.accum = some (n, k) → x.kind = .slot → g.cnt ≠ 0 →
      ((groupStep g x).1.fault = if g.emask = x.fire.emask ∧ g.eidx = x.fire.eidx then none else some (x.at 9 0))
      ∧ (groupStep g x).2 = decide (g.cnt + 1 = n) ∧ (groupStep g x).1.cnt = if g.cnt + 1 = n then 0 else g.cnt + 1)
    ∧ (x.accum = some (n, k) → x.kind = .slot → g.cnt = 0 → (groupStep g x).1.fault = none ∧ (groupStep g x).2 = decide (1 = n)) := by
  refine ⟨fun hc hx => ?_, fun hf hch ha hk hc => ?_, fun hf hch ha hk hc => ?_, fun ha hk hc => ?_⟩
  · obtain ⟨hcnt, hfault⟩ := g.entered_breaks x hc hx
    rw [h0, Option.none_or] at hfault
    cases ha : x.accum with
    | none =>
      rw [groupStep_none g x ha]
      exact hfault
    | some p =>
      by_cases hk : x.kind = .slot
      · have hjoin : ((g.entered x).joined x).fault = some (x.at 9 0) := by
          rw [GroupWalk.joined, if_pos hcnt]
          exact hfault
        rw [groupStep_slot g x p.1 p.2 ha hk]
        split <;> exact hjoin
      · rw [groupStep_other g x p.1 p.2 ha hk, if_neg (by simpa using hcnt)]
        exact hfault
  · rw [groupStep_other g x n k ha hk, g.entered_goes x (.inr ⟨hf, hch⟩), if_pos hc, h0]
    rfl
  · have hent := g.entered_goes x (.inr ⟨hf, hch⟩)
    have hjoin : (g.joined x).cnt = g.cnt ∧ (g.joined x).fault = if g.emask = x.fire.emask ∧ g.eidx = x.fire.eidx then none else some (x.at 9 0) := by
      rw [GroupWalk.joined, if_neg hc]
      by_cases hsame : g.emask = x.fire.emask ∧ g.eidx = x.fire.eidx
      · rw [if_neg (by simp [hsame.1, hsame.2]), if_pos hsame]
        exact ⟨rfl, h0⟩
      · rw [if_pos (not_and_or.mp hsame), if_neg hsame, h0]
        exact ⟨rfl, rfl⟩
    rw [groupStep_slot g x n k ha hk, hent, hjoin.1, ← hjoin.2]
    by_cases hn : g.cnt + 1 = n
    · rw [if_pos hn, if_pos hn, decide_eq_true hn]
      exact ⟨rfl, rfl, rfl⟩
    · rw [if_neg hn, if_neg hn, decide_eq_false hn]
      exact ⟨rfl, rfl, rfl⟩
  · have hent := g.entered_goes x (.inl hc)
    have hjoin : (g.joined x).cnt = 0 ∧ (g.joined x).fault = none := by
      rw [GroupWalk.joined, if_pos hc]
      exact ⟨hc, h0⟩
    rw [groupStep_slot g x n k ha hk, hent, hjoin.1]
    by_cases hn : 0 + 1 = n
    · rw [if_pos hn, decide_eq_true (by omega)]
      exact ⟨hjoin.2, rfl⟩
    · rw [if_neg hn, decide_eq_false (by omega)]
      exact ⟨hjoin.2, rfl⟩

end

end Sys2Proof.Machine

end

section
/-! PROOFS. Chapter 2: resources, budget, Ensign's rules and the verdict of a check. -/

namespace Sys2Proof.Machine

/-! ### Resources, budget and Ensign's rules (R46, R48, R49) -/

section
variable (b : PlanBank) (lim : CheckLimits) (ws : Array Nat)

theorem resourceFault_code (slots : List WalkSlot) (f : PlanFault) (h : resourceFault b lim ws slots = some f) : f.code ≠ 0 := by
  have hcode : ∀ g : PlanFault, g.code = 11 → some g = some f → f.code ≠ 0 := fun g hg he => by
    cases he
    omega
  unfold resourceFault at h
  extract_lets fires len fixed at h
  split at h
  · exact hcode _ rfl h
  · split at h
    · exact hcode _ rfl h
    · split at h
      · exact hcode _ rfl h
      · rw [Option.or_eq_some_iff] at h
        rcases h with h | ⟨-, h⟩
        · obtain ⟨x, -, hx⟩ := List.exists_of_findSome?_eq_some h
          split at hx
          · exact hcode _ rfl hx
          · split at hx
            · exact hcode _ rfl hx
            · split at hx
              · exact hcode _ rfl hx
              · split at hx
                · exact hcode _ rfl hx
                · exact nomatch hx
        · obtain ⟨a, -, ha⟩ := List.exists_of_findSome?_eq_some h
          dsimp only at ha
          split at ha
          · exact hcode _ rfl ha
          · exact nomatch ha

/-- Every slot whose resources are there has tables for its emitters, a stream of points, and a trajectory that reaches it. -/
theorem resourceFault_none (slots : List WalkSlot) (h : resourceFault b lim ws slots = none) (x : WalkSlot) (hx : x ∈ slots) :
    (∀ e ∈ x.emitters, emitterOk b e = true) ∧ (x.emit.pts = true → lim.streamPoints.getD x.emit.stream false = true)
      ∧ 8 * (x.frameSlot + 1) ≤ (b.tables.getD 3 []).length := by
  unfold resourceFault at h
  extract_lets fires len fixed at h
  split at h
  · exact nomatch h
  · split at h
    · exact nomatch h
    · split at h
      · exact nomatch h
      · rw [Option.or_eq_none_iff, List.findSome?_eq_none_iff] at h
        have hslot := h.1 x hx
        split at hslot
        · exact nomatch hslot
        next hnone =>
          split at hslot
          · exact nomatch hslot
          next hpts =>
            split at hslot
            · exact nomatch hslot
            · split at hslot
              · exact nomatch hslot
              next hlen =>
                rw [List.find?_eq_none] at hnone
                refine ⟨fun e he => by simpa using hnone e he, fun hp => ?_, not_lt.mp hlen⟩
                rw [hp] at hpts
                simpa using hpts

theorem budgetFault_code (l : List (WalkSlot × Bool)) (f : PlanFault) (h : budgetFault b lim l = some f) : f.code ≠ 0 := by
  induction l with
  | nil => exact nomatch h
  | cons x l ih =>
    rw [budgetFault] at h
    split at h
    · cases h
      exact Nat.succ_ne_zero 9
    · exact ih h

theorem budgetFault_none (l : List (WalkSlot × Bool)) (h : budgetFault b lim l = none) : ∀ x ∈ l, ∀ y ∈ slotCharges b lim x.1 x.2, y.2.2 ≤ 2800 := by
  induction l with
  | nil => exact fun x hx => absurd hx List.not_mem_nil
  | cons a l ih =>
    rw [budgetFault] at h
    split at h
    · exact nomatch h
    next hnone =>
      intro x hx y hy
      rcases List.mem_cons.mp hx with rfl | hx
      · rw [List.find?_eq_none] at hnone
        simpa using hnone y hy
      · exact ih h x hx y hy

theorem budgetStage_none (l : List (WalkSlot × Bool)) (w : Option (Nat × PlanFault)) (h : budgetStage b lim l w = none) : w = none ∧ budgetFault b lim l = none := by
  cases w with
  | none => exact ⟨rfl, h⟩
  | some p =>
    rw [budgetStage, Option.or_eq_none_iff] at h
    exact nomatch h.2

theorem budgetStage_code (l : List (WalkSlot × Bool)) (w : Option (Nat × PlanFault)) (hw : ∀ i f, w = some (i, f) → f.code ≠ 0) (f : PlanFault)
    (h : budgetStage b lim l w = some f) : f.code ≠ 0 := by
  cases w with
  | none => exact budgetFault_code b lim l f h
  | some p =>
    rw [budgetStage, Option.or_eq_some_iff] at h
    rcases h with h | ⟨-, h⟩
    · exact budgetFault_code b lim _ f h
    · cases h
      exact hw p.1 _ rfl

/-- What Ensign's rules forbid of the fires of a slot. -/
def slotFault (x : WalkSlot) : Option PlanFault :=
  x.emitters.findSome? fun e => (fireRule b lim x e).map fun r => x.at 12 (Config.checkUnit (16 + r) % 256 * 256 + e)

theorem ensignFault_code (slots cycle : List WalkSlot) (f : PlanFault) (h : ensignFault b lim slots cycle = some f) : f.code ≠ 0 := by
  have hcode : ∀ g : PlanFault, g.code = 12 → some g = some f → f.code ≠ 0 := fun g hg he => by
    cases he
    omega
  unfold ensignFault at h
  extract_lets single at h
  have hs : single = slots.findSome? (slotFault b lim) := rfl
  clear_value single
  cases hg : slots.findSome? (slotFault b lim) with
  | some g =>
    rw [hs, hg] at h
    obtain ⟨x, -, hx⟩ := List.exists_of_findSome?_eq_some hg
    obtain ⟨e, -, he⟩ := List.exists_of_findSome?_eq_some hx
    obtain ⟨r, -, rfl⟩ := Option.map_eq_some_iff.mp he
    exact hcode _ rfl h
  | none =>
    rw [hs, hg] at h
    obtain ⟨e, -, he⟩ := List.exists_of_findSome?_eq_some h
    dsimp only at he
    split at he
    · exact hcode _ rfl he
    · split at he
      · exact hcode _ rfl he
      · exact nomatch he

theorem ensignFault_none (slots cycle : List WalkSlot) (h : ensignFault b lim slots cycle = none) : ∀ x ∈ slots, ∀ e ∈ x.emitters, fireRule b lim x e = none := by
  unfold ensignFault at h
  extract_lets single at h
  have hs : single = slots.findSome? (slotFault b lim) := rfl
  clear_value single
  cases hnone : slots.findSome? (slotFault b lim) with
  | some g =>
    rw [hs, hnone] at h
    exact nomatch h
  | none =>
    intro x hx e he
    have hslot := (List.findSome?_eq_none_iff.mp hnone) x hx
    exact Option.map_eq_none_iff.mp ((List.findSome?_eq_none_iff.mp hslot) e he)

/-! ### Warnings (R51) -/

theorem ofBool_lt (x : Bool) : ofBool x < 2 := by cases x <;> decide

theorem ofBool_bit (x : Bool) : (ofBool x == 1) = x := by cases x <;> rfl

theorem warnBits (w0 w1 w2 w3 : Bool) (v : Nat) (hv : v = ofBool w0 + 2 * ofBool w1 + 4 * ofBool w2 + 8 * ofBool w3) :
    bitAt v 0 = w0 ∧ bitAt v 1 = w1 ∧ bitAt v 2 = w2 ∧ bitAt v 3 = w3 := by
  have h0 := ofBool_lt w0
  have h1 := ofBool_lt w1
  have h2 := ofBool_lt w2
  have h3 := ofBool_lt w3
  have hbit : ∀ (n : Nat) (w : Bool), v / 2 ^ n % 2 = ofBool w → bitAt v n = w := fun n w h => by rw [bitAt, h, ofBool_bit]
  exact ⟨hbit 0 w0 (by omega), hbit 1 w1 (by omega), hbit 2 w2 (by omega), hbit 3 w3 (by omega)⟩

theorem checkWarn_bits (slots cycle : List WalkSlot) (nonce : Nat) (n : Option Nat) (v : Nat) (hv : v = checkWarn b lim slots cycle nonce n) :
    (bitAt v 1 = !cycle.any fun x => x.kind == .calgap) ∧ (bitAt v 2 = (n == some nonce))
    ∧ (bitAt v 3 = slots.any fun x => !x.emitters.isEmpty && dirOfSlope lim.vMin (slopeAt b x.frameLen x.frameSlot) == 0)
    ∧ ((∀ x ∈ cycle, x.kind ≠ .testgap) → bitAt v 0 = true) := by
  obtain ⟨w0, hw0⟩ : ∃ w0 : Bool, w0 = match longestGap (cycle.map (·.kind == .testgap)) with
    | none => true
    | some n => decide (50000 ≤ n) := ⟨_, rfl⟩
  obtain ⟨h0, h1, h2, h3⟩ := warnBits w0 (!cycle.any fun x => x.kind == .calgap) (n == some nonce)
    (slots.any fun x => !x.emitters.isEmpty && dirOfSlope lim.vMin (slopeAt b x.frameLen x.frameSlot) == 0) v (by rw [hv, hw0]; rfl)
  refine ⟨h1, h2, h3, fun h => ?_⟩
  have hgap : longestGap (cycle.map (·.kind == .testgap)) = none := by
    rw [longestGap, if_pos]
    simpa using fun x hx => h x hx
  rw [h0, hw0, hgap]

end

/-! ### The verdict (R47, R51) -/

section
variable (b : PlanBank) (lim : CheckLimits) (n : Option Nat)

theorem checkPlan_text (f : PlanFault) (h : textFault b = some f) : checkPlan b lim n = (f, 0) := by
  rw [checkPlan, h]

/-- What the stages after the flow of the walk find. -/
def restFault (b : PlanBank) (lim : CheckLimits) (w : Walk) : Option PlanFault :=
  w.order.or ((groupWalk w.slots.reverse {} []).1.fault.or ((resourceFault b lim (planWords b.plan) w.pass).or
    ((budgetStage b lim (w.slots.reverse.zip (groupWalk w.slots.reverse {} []).2) w.budgetWords).or (ensignFault b lim w.pass w.cycle))))

variable (ht : textFault b = none) (w : Walk) (hw : w = walkPlan (planWords b.plan) walkFuel {})
include ht hw

theorem checkPlan_walk (f : PlanFault) (h : w.fault = some f) : checkPlan b lim n = (f, 0) := by
  rw [checkPlan, ht]
  dsimp only
  rw [← hw, h]

theorem checkPlan_refused (f : PlanFault) (h : w.fault = none) (hr : restFault b lim w = some f) : checkPlan b lim n = (f, 0) := by
  rw [checkPlan, ht]
  dsimp only
  rw [← hw, h]
  dsimp only
  rw [← restFault, hr]

theorem checkPlan_accepted (h : w.fault = none) (hr : restFault b lim w = none) :
    checkPlan b lim n = ({}, checkWarn b lim w.pass w.cycle (wordAt (planWords b.plan) 2) n) := by
  rw [checkPlan, ht]
  dsimp only
  rw [← hw, h]
  dsimp only
  rw [← restFault, hr]

omit ht in
theorem restFault_code (f : PlanFault) (h : restFault b lim w = some f) : f.code ≠ 0 := by
  have hfound : WalkFound w := hw ▸ WalkFound.start.walkPlan (planWords b.plan) walkFuel
  rw [restFault, Option.or_eq_some_iff] at h
  rcases h with h | ⟨-, h⟩
  · exact hfound.order f h
  rw [Option.or_eq_some_iff] at h
  rcases h with h | ⟨-, h⟩
  · exact groupWalk_code {} w.slots.reverse [] (fun f hf => nomatch hf) f h
  rw [Option.or_eq_some_iff] at h
  rcases h with h | ⟨-, h⟩
  · exact resourceFault_code b lim _ _ f h
  rw [Option.or_eq_some_iff] at h
  rcases h with h | ⟨-, h⟩
  · exact budgetStage_code b lim _ _ hfound.budget f h
  · exact ensignFault_code b lim _ _ f h

omit ht hw in
theorem checkPlan_cases : (∃ f, f.code ≠ 0 ∧ checkPlan b lim n = (f, 0))
    ∨ textFault b = none ∧ ∃ w, w = walkPlan (planWords b.plan) walkFuel {} ∧ w.fault = none ∧ restFault b lim w = none
      ∧ checkPlan b lim n = ({}, checkWarn b lim w.pass w.cycle (wordAt (planWords b.plan) 2) n) := by
  cases ht : textFault b with
  | some f => exact .inl ⟨f, textFault_code b f ht, checkPlan_text b lim n f ht⟩
  | none =>
    obtain ⟨w, hw⟩ : ∃ w, w = walkPlan (planWords b.plan) walkFuel {} := ⟨_, rfl⟩
    have hfound : WalkFound w := hw ▸ WalkFound.start.walkPlan (planWords b.plan) walkFuel
    cases hf : w.fault with
    | some f => exact .inl ⟨f, hfound.fault f hf, checkPlan_walk b lim n ht w hw f hf⟩
    | none =>
      cases hr : restFault b lim w with
      | some f => exact .inl ⟨f, restFault_code b lim w hw f hr, checkPlan_refused b lim n ht w hw f hf hr⟩
      | none => exact .inr ⟨rfl, w, hw, hf, hr, checkPlan_accepted b lim n ht w hw hf hr⟩

omit hw in
theorem textFault_none : headerGood b ∧ (∀ a, 8 ≤ a → a < (planWords b.plan).size → opcodeOk (wordAt (planWords b.plan) a) = true ∧ fieldOk (wordAt (planWords b.plan) a) = true)
    ∧ flowFault (planWords b.plan) = none := by
  rw [textFault, Option.or_eq_none_iff, Option.or_eq_none_iff] at ht
  obtain ⟨h1, h2, h3⟩ := ht
  exact ⟨(headerGood_iff b).mp h1, (encodingFault_none _).mp h2, h3⟩

omit ht in
/-- What an accepted plan has in its walked slots. -/
theorem accepted_slots (hr : restFault b lim w = none) : w.order = none
    ∧ (∀ x ∈ w.pass, x.frameSlot < x.frameLen ∧ x.words ≤ 32 ∧ 8 * (x.frameSlot + 1) ≤ (b.tables.getD 3 []).length
      ∧ (x.emit.pts = true → lim.streamPoints.getD x.emit.stream false = true)
      ∧ ∀ e ∈ x.emitters, emitterOk b e = true ∧ fireRule b lim x e = none)
    ∧ ∀ x ∈ w.slots.reverse.zip (groupWalk w.slots.reverse {} []).2, ∀ y ∈ slotCharges b lim x.1 x.2, y.2.2 ≤ 2800 := by
  have hfound : WalkFound w := hw ▸ WalkFound.start.walkPlan (planWords b.plan) walkFuel
  rw [restFault, Option.or_eq_none_iff, Option.or_eq_none_iff, Option.or_eq_none_iff, Option.or_eq_none_iff] at hr
  obtain ⟨ho, -, hres, hbudget, hens⟩ := hr
  obtain ⟨hwords, hcharges⟩ := budgetStage_none b lim _ _ hbudget
  refine ⟨ho, fun x hx => ?_, budgetFault_none b lim _ hcharges⟩
  have hslot := w.mem_pass x hx
  obtain ⟨hem, hpts, hlen⟩ := resourceFault_none b lim _ _ hres x hx
  exact ⟨hfound.slots x hslot, (hfound.words hwords).2 x hslot, hlen, hpts, fun e he => ⟨hem e he, ensignFault_none b lim _ _ hens x hx e he⟩⟩

end

/-- Settles O1: writes and the check of the pending bank, and the verdict stage by stage, with the walk's invariant for what an accepted plan has. -/
theorem pendingBank : Obligations.PendingBank := by
  unfold Obligations.PendingBank
  refine ⟨⟨fun s w hw hl => ?_, fun s n w hw hl => ?_⟩, ⟨fun s a ha => ?_, fun s hc hs => ?_⟩, wordAt_planWords, fun b lim n => ?_, fun ws w => ?_, fun g x n k h0 => groupStep_rules g x n k h0⟩
  · have hexec : exec (.pendingPlanWrite w) s = .next (s.hostDomain K.PENDING_PLAN w).settle := rfl
    rw [hexec, s.hostDomain_pendingPlan w hw hl]
    exact ⟨fun h => by rw [h]; rfl, fun h => by rw [h]; rfl⟩
  · have hexec : exec (.pendingTableWrite n w) s = .next (s.hostDomain (K.PENDING_TABLE n) w).settle := rfl
    rw [hexec, s.hostDomain_pendingTable n w hw hl]
    exact ⟨fun h => by rw [h]; rfl, fun h => by rw [h]; rfl⟩
  · have hexec : exec (.planCheck a) s = .next (s.hostWrite K.PLAN_CHECK (a.write 1 1)).settle := rfl
    rw [hexec, s.hostWrite_planCheck a ha]
    exact ⟨fun h => by rw [h]; rfl, fun h => by rw [h]; rfl⟩
  · intro r
    calc exec .planCheckComplete s = .next (s.core State.planChecked).settle := rfl
      _ = .next s.planChecked.settle := by rw [s.core_on _ hc]
      _ = _ := by
        rw [State.planChecked, if_neg (by simpa using hs)]
  · obtain ⟨ws, hws⟩ : ∃ ws, ws = planWords b.plan := ⟨_, rfl⟩
    have hheader : ∀ f, headerFault b.plan b.tables ws = some f → checkPlan b lim n = (f, 0) := fun f hf => checkPlan_text b lim n f (textFault_header b f (hws ▸ hf))
    have hwords : ∀ f, headerGood b → (encodingFault ws).or (flowFault ws) = some f → checkPlan b lim n = (f, 0) := fun f hg hf =>
      checkPlan_text b lim n f (by rw [textFault_words b hg, ← hws, hf])
    intro v ws' h resv magic sized planCrc tableCrc good
    have hv : v = checkPlan b lim n := rfl
    have hh : h = wordAt ws := by rw [hws]
    have hgood : good ↔ headerGood b := Iff.rfl
    have hresv : resv = headerResv (wordAt ws) := hh ▸ rfl
    have hmem : ∀ i, i ∈ [0, 1, 3, 4, 5, 6, 7] ↔ i ∈ resvWords := fun i => Iff.rfl
    refine ⟨fun hlen => ?_, fun hlen hm => ?_, fun hlen hm h9 => ?_, fun hlen hm h9 hl => ?_, fun hs i hi hbad hbefore => ?_, fun hs hz hp => ?_, fun hs hz hp hc => ?_,
      fun hg a h8 ha hbefore => ⟨fun ho => ?_, fun ho hf => ?_⟩, fun hg hall h8 => ?_, fun hcode => ?_, fun hcode => ?_, fun ht => ?_⟩
    · exact hheader _ (headerFault_short _ _ ws hlen)
    · exact hheader _ (headerFault_magic _ _ ws hlen (hws ▸ hm))
    · exact hheader _ (headerFault_few _ _ ws hlen (hws ▸ hm) (hws ▸ h9))
    · exact hheader _ (headerFault_length _ _ ws hlen (hws ▸ hm) (hws ▸ h9) (hws ▸ hl))
    · obtain ⟨h72, hm, h9, hl⟩ := hs
      rw [hresv] at hbad hbefore
      refine hheader _ ?_
      rw [headerFault_sized _ _ ws h72 (hws ▸ hm) (hws ▸ h9) (hws ▸ hl), headerChecks_resv _ _ _ i hi hbad hbefore]
    · obtain ⟨h72, hm, h9, hl⟩ := hs
      rw [hresv] at hz
      refine hheader _ ?_
      rw [headerFault_sized _ _ ws h72 (hws ▸ hm) (hws ▸ h9) (hws ▸ hl), headerChecks_crcs _ _ _ hz, if_neg (hws ▸ hp)]
    · obtain ⟨h72, hm, h9, hl⟩ := hs
      rw [hresv] at hz
      refine hheader _ ?_
      rw [headerFault_sized _ _ ws h72 (hws ▸ hm) (hws ▸ h9) (hws ▸ hl), headerChecks_crcs _ _ _ hz, if_pos (hws ▸ hp), if_neg (hws ▸ hc)]
    · refine hwords _ (hgood.mp hg) ?_
      rw [encodingFault_first ws a h8 (hws ▸ ha) (hh ▸ hbefore) { code := 4, word := a } (by rw [encodingAt, ← hh, ho]; rfl)]
      rfl
    · refine hwords _ (hgood.mp hg) ?_
      rw [encodingFault_first ws a h8 (hws ▸ ha) (hh ▸ hbefore) { code := 5, word := a } (by rw [encodingAt, ← hh, ho, hf]; rfl)]
      rfl
    · refine hwords _ (hgood.mp hg) ?_
      rw [(encodingFault_none ws).mpr (fun a h8 ha => hh ▸ hall a h8 (by rw [hws] at ha; exact ha)), flowFault_start ws (hh ▸ h8)]
      rfl
    · rcases checkPlan_cases b lim n with ⟨f, hf, heq⟩ | ⟨-, w, -, -, -, heq⟩
      · rw [hv, heq]
      · rw [hv, heq] at hcode
        exact absurd rfl hcode
    · rcases checkPlan_cases b lim n with ⟨f, hf, heq⟩ | ⟨ht, w, hw, hfault, hr, heq⟩
      · rw [hv, heq] at hcode
        exact absurd hcode hf
      · obtain ⟨hg, hall, hflow⟩ := textFault_none b ht
        obtain ⟨h8, hframes, hlong, hjumps⟩ := flowFault_none _ hflow
        obtain ⟨horder, hslots, hcharges⟩ := accepted_slots b lim w hw hr
        obtain ⟨hw1, hw2, hw3, hw0⟩ := checkWarn_bits b lim w.pass w.cycle (wordAt (planWords b.plan) 2) n v.2 (by rw [hv, heq])
        show let w := walkPlan (planWords b.plan) walkFuel {}; _
        rw [← hw]
        exact ⟨hgood.mpr hg, hall, h8, hframes, hlong, hjumps, hfault, horder, hslots, hcharges, hw1, hw2, hw3, hw0⟩
    · obtain ⟨w, hw⟩ : ∃ w, w = walkPlan (planWords b.plan) walkFuel {} := ⟨_, rfl⟩
      have hrest : ∀ f, w.fault = none → restFault b lim w = some f → v = (f, 0) := fun f h1 h2 => checkPlan_refused b lim n ht w hw f h1 h2
      show let w := walkPlan (planWords b.plan) walkFuel {}; _
      rw [← hw]
      refine ⟨fun f hf => checkPlan_walk b lim n ht w hw f hf, fun h1 f h2 => hrest f h1 ?_, fun h1 h2 f h3 => hrest f h1 ?_, fun h1 h2 h3 f h4 => hrest f h1 ?_,
        fun h1 h2 h3 h4 f h5 => hrest f h1 ?_⟩
      · rw [restFault, h2, Option.some_or]
      · rw [restFault, h2, Option.none_or, h3, Option.some_or]
      · rw [restFault, h2, Option.none_or, h3, Option.none_or]
        exact (congrArg (fun x => Option.or x _) h4).trans (Option.some_or ..)
      · rw [restFault, h2, Option.none_or, h3, Option.none_or]
        refine (congrArg (fun x => Option.or x _) h4).trans ?_
        rw [Option.none_or]
        exact (congrArg (fun x => Option.or x _) h5).trans (Option.some_or ..)
  · obtain ⟨-, hfire, hmarks, horder, -, -, -, hat, -⟩ := w.counted_shows
    refine ⟨Walk.word_beyond ws w, Walk.word_full ws w, Walk.word_crosses ws w, fun hp hf => ?_, Walk.produce_full w, fun h => ?_⟩
    · obtain ⟨t, ht⟩ : ∃ t, t = w.counted.run ws w.pc false := ⟨_, rfl⟩
      have heq : w.word ws = t := (Walk.word_runs ws w hp hf).trans ht.symm
      rw [heq, ht, ← hfire, ← hmarks, ← horder, ← hat 8 w.pc 0]
      exact ⟨Walk.run_fire ws w.counted w.pc false, Walk.run_gap ws w.counted w.pc false, Walk.run_mark ws w.counted w.pc false⟩
    · obtain ⟨h1, h2, h3, -⟩ := Walk.produce_slot w h
      exact ⟨h1, h2, h3⟩

end Sys2Proof.Machine

end

section
/-! PROOFS. What leaves the memory of the Field Store as it is, chapters 1 to 7: a lemma for each function, in the order of the definitions. -/

namespace Sys2Proof.Machine

/-! ### Branches and loops: a loop of steps that leave the memory, or keep its form, does so -/

@[simp] theorem State.foldl_mem {α : Type} (f : State → α → State) (h : ∀ x a, (f x a).fs.mem = x.fs.mem) (l : List α) (s : State) :
    (l.foldl f s).fs.mem = s.fs.mem := by
  induction l generalizing s with
  | nil => rfl
  | cons a l ih => rw [List.foldl_cons, ih, h]

@[simp] theorem State.ite_mem (c : Prop) [Decidable c] (a b : State) : (if c then a else b).fs.mem = if c then a.fs.mem else b.fs.mem := by
  split <;> rfl

@[simp] theorem foldl_fst_mem {α β : Type} (f : State × β → α → State × β) (h : ∀ x a, (f x a).1.fs.mem = x.1.fs.mem) (l : List α)
    (x : State × β) : (l.foldl f x).1.fs.mem = x.1.fs.mem := by
  induction l generalizing x with
  | nil => rfl
  | cons a l ih => rw [List.foldl_cons, ih, h]

@[simp] theorem foldl_snd_mem {α β : Type} (f : β × State → α → β × State) (h : ∀ x a, (f x a).2.fs.mem = x.2.fs.mem) (l : List α)
    (x : β × State) : (l.foldl f x).2.fs.mem = x.2.fs.mem := by
  induction l generalizing x with
  | nil => rfl
  | cons a l ih => rw [List.foldl_cons, ih, h]

@[simp] theorem ite_snd_mem {β : Type} (c : Prop) [Decidable c] (a b : β × State) :
    (if c then a else b).2.fs.mem = if c then a.2.fs.mem else b.2.fs.mem := by
  split <;> rfl

@[simp] theorem State.foldl_memWf {α : Type} (f : State → α → State) (hf : ∀ x a, Memory.wf x.fs.mem = true → Memory.wf (f x a).fs.mem = true)
    (l : List α) (s : State) (h : Memory.wf s.fs.mem = true) : Memory.wf (l.foldl f s).fs.mem = true := by
  induction l generalizing s with
  | nil => exact h
  | cons a l ih => exact ih _ (hf s a h)

@[simp] theorem State.forEach_memWf {α : Type} (s : State) (l : List α) (f : State → α → State)
    (hf : ∀ x a, Memory.wf x.fs.mem = true → Memory.wf (f x a).fs.mem = true) (h : Memory.wf s.fs.mem = true) :
    Memory.wf (s.forEach l f).fs.mem = true := State.foldl_memWf f hf l s h

@[simp] theorem State.forRange_memWf (s : State) (n : Nat) (f : State → Nat → State)
    (hf : ∀ x a, Memory.wf x.fs.mem = true → Memory.wf (f x a).fs.mem = true) (h : Memory.wf s.fs.mem = true) :
    Memory.wf (s.forRange n f).fs.mem = true := State.foldl_memWf f hf _ s h

@[simp] theorem ite_memWf (c : Prop) [Decidable c] (a b : List Host.Cell) :
    Memory.wf (if c then a else b) = if c then Memory.wf a else Memory.wf b := apply_ite _ _ _ _

section
variable (s : State)

/-! ### The state's operations -/

@[simp] theorem State.putI_mem (w k : Nat) (z : Int) : (s.putI w k z).fs.mem = s.fs.mem := by simp [State.putI]

@[simp] theorem State.count_mem (k : Nat) : (s.count k).fs.mem = s.fs.mem := by simp [State.count]

@[simp] theorem State.countBy_mem (k n : Nat) : (s.countBy k n).fs.mem = s.fs.mem := by simp [State.countBy]

@[simp] theorem State.tally_mem (k : Nat) : (s.tally k).fs.mem = s.fs.mem := by simp [State.tally]

@[simp] theorem State.tallyBy_mem (k n : Nat) : (s.tallyBy k n).fs.mem = s.fs.mem := by simp [State.tallyBy]

@[simp] theorem State.putBit_mem (k n : Nat) (b : Bool) : (s.putBit k n b).fs.mem = s.fs.mem := by simp [State.putBit]

@[simp] theorem State.forRange_mem (s : State) (n : Nat) (f : State → Nat → State) (h : ∀ x a, (f x a).fs.mem = x.fs.mem) :
    (s.forRange n f).fs.mem = s.fs.mem := State.foldl_mem f h _ s

@[simp] theorem State.forEach_mem {α : Type} (s : State) (l : List α) (f : State → α → State) (h : ∀ x a, (f x a).fs.mem = x.fs.mem) :
    (s.forEach l f).fs.mem = s.fs.mem := State.foldl_mem f h l s

@[simp] theorem State.onlyIf_mem (s : State) (c : Bool) (f : State → State) (h : ∀ x, (f x).fs.mem = x.fs.mem) :
    (s.onlyIf c f).fs.mem = s.fs.mem := by
  simp [State.onlyIf, h]

@[simp] theorem State.draw_mem : s.draw.2.fs.mem = s.fs.mem := by simp [State.draw]

@[simp] theorem State.eventAt_mem (n slot cc : Nat) : (s.eventAt n slot cc).fs.mem = s.fs.mem := by simp [State.eventAt]

@[simp] theorem State.eventCc_mem (n cc : Nat) : (s.eventCc n cc).fs.mem = s.fs.mem := by simp [State.eventCc]

@[simp] theorem State.eventTick_mem (n t : Nat) : (s.eventTick n t).fs.mem = s.fs.mem := by simp [State.eventTick]

/-! ### The reservoir -/

@[simp] theorem State.resLevel_mem : s.resLevel.fs.mem = s.fs.mem := by simp [State.resLevel]

@[simp] theorem State.resBleed_mem : s.resBleed.fs.mem = s.fs.mem := by simp [State.resBleed]

@[simp] theorem State.resRamp_mem (v : Nat) : (s.resRamp v).fs.mem = s.fs.mem := by simp [State.resRamp]

@[simp] theorem State.resGate_mem : s.resGate.fs.mem = s.fs.mem := by simp [State.resGate, State.resStart]

@[simp] theorem State.resModeEntry_mem : s.resModeEntry.fs.mem = s.fs.mem := by simp [State.resModeEntry]

@[simp] theorem State.bleedEnd_mem : s.bleedEnd.fs.mem = s.fs.mem := by simp [State.bleedEnd]

@[simp] theorem State.resFault_mem (v : Int) : (s.resFault v).fs.mem = s.fs.mem := by simp [State.resFault]

@[simp] theorem State.resRestart_mem : s.resRestart.fs.mem = s.fs.mem := by simp [State.resRestart]

@[simp] theorem State.chargePeriod_mem (sense : Nat) : (s.chargePeriod sense).fs.mem = s.fs.mem := by simp [State.chargePeriod]

@[simp] theorem State.resTick_mem : s.resTick.fs.mem = s.fs.mem := by simp [State.resTick]

/-! ### Comet -/

@[simp] theorem State.cometStart_mem : s.cometStart.fs.mem = s.fs.mem := by simp [State.cometStart]

@[simp] theorem State.cometStop_mem : s.cometStop.fs.mem = s.fs.mem := by simp [State.cometStop]

@[simp] theorem State.wordFrame_mem : s.wordFrame.fs.mem = s.fs.mem := by simp [State.wordFrame, State.resTarget]

@[simp] theorem State.wordSlots_mem (k : SlotKind) : (s.wordSlots k).fs.mem = s.fs.mem := by simp [State.wordSlots]

@[simp] theorem State.wordFire_mem : s.wordFire.fs.mem = s.fs.mem := by simp [State.wordFire]

@[simp] theorem State.wordSingle_mem : s.wordSingle.fs.mem = s.fs.mem := by simp [State.wordSingle]

@[simp] theorem State.wordAccum_mem : s.wordAccum.fs.mem = s.fs.mem := by simp [State.wordAccum]

@[simp] theorem State.wordEmit_mem : s.wordEmit.fs.mem = s.fs.mem := by simp [State.wordEmit]

@[simp] theorem State.wordMark_mem : s.wordMark.fs.mem = s.fs.mem := by simp [State.wordMark]

@[simp] theorem State.wordLoop_mem : s.wordLoop.fs.mem = s.fs.mem := by simp [State.wordLoop]

@[simp] theorem State.wordEndloop_mem : s.wordEndloop.fs.mem = s.fs.mem := by
  simp only [State.wordEndloop]
  split <;> simp

@[simp] theorem State.wordWaitlock_mem : s.wordWaitlock.fs.mem = s.fs.mem := by simp [State.wordWaitlock]

@[simp] theorem State.wordJump_mem : s.wordJump.fs.mem = s.fs.mem := by simp [State.wordJump]

@[simp] theorem State.wordAny_mem : s.wordAny.fs.mem = s.fs.mem := by
  simp only [State.wordAny]
  split <;> simp

@[simp] theorem State.runWords_mem (s : State)  (k : Nat) : (s.runWords k).fs.mem = s.fs.mem := by
  induction k generalizing s with
  | zero => rfl
  | succ k ih => simp [State.runWords, ih]

@[simp] theorem State.words_mem : s.words.fs.mem = s.fs.mem := by simp [State.words]

@[simp] theorem State.waitRelease_mem : s.waitRelease.fs.mem = s.fs.mem := by simp [State.waitRelease]

/-! ### Ensign -/

@[simp] theorem suppressFire_mem (f : FireCmd) : (suppressFire s f).1.fs.mem = s.fs.mem := by
  simp only [suppressFire]
  split <;> simp

@[simp] theorem State.mapFires_mem (s : State) (f : State → FireCmd → State × FireCmd) (h : ∀ x c, (f x c).1.fs.mem = x.fs.mem) :
    (s.mapFires f).fs.mem = s.fs.mem :=
  foldl_fst_mem (fun (p : State × List FireCmd) c => ((f p.1 c).1, p.2 ++ [(f p.1 c).2])) (fun x a => h x.1 a) _ _

@[simp] theorem State.suppressAll_mem : s.suppressAll.fs.mem = s.fs.mem := by simp [State.suppressAll]

@[simp] theorem State.logRet_mem (cause : Nat) (detail : List Byte) : (s.logRet cause detail).fs.mem = s.fs.mem := by simp [State.logRet]

@[simp] theorem State.violateAt_mem (bit t : Nat) : (s.violateAt bit t).fs.mem = s.fs.mem := by simp [State.violateAt]

@[simp] theorem State.violate_mem (bit sample : Nat) : (s.violate bit sample).fs.mem = s.fs.mem := by simp [State.violate]

@[simp] theorem State.violateNow_mem (bit : Nat) : (s.violateNow bit).fs.mem = s.fs.mem := by simp [State.violateNow]

@[simp] theorem State.clearCause_mem (bit : Nat) : (s.clearCause bit).fs.mem = s.fs.mem := by simp [State.clearCause]

@[simp] theorem State.charge_mem (e : Nat) (x : Rat) : (s.charge e x).fs.mem = s.fs.mem := by simp [State.charge]

@[simp] theorem decideFire_mem (testSlot : Bool) (f : FireCmd) : (decideFire testSlot s f).1.fs.mem = s.fs.mem := by
  simp only [decideFire]
  repeat' split
  all_goals simp

@[simp] theorem State.reportBins_mem : s.reportBins.fs.mem = s.fs.mem := rfl

@[simp] theorem State.sweepRestart_mem : s.sweepRestart.fs.mem = s.fs.mem := by simp [State.sweepRestart]

@[simp] theorem State.sweepTick_mem : s.sweepTick.fs.mem = s.fs.mem := by simp [State.sweepTick]

@[simp] theorem State.voidTest_mem : s.voidTest.fs.mem = s.fs.mem := by
  simp only [State.voidTest]
  split <;> simp

@[simp] theorem State.testOver_mem : s.testOver.fs.mem = s.fs.mem := by simp [State.testOver]

@[simp] theorem State.permitsOff_mem : s.permitsOff.fs.mem = s.fs.mem := by simp [State.permitsOff]

@[simp] theorem State.permitGate_mem : s.permitGate.fs.mem = s.fs.mem := by simp [State.permitGate]

@[simp] theorem State.permitTick_mem : s.permitTick.fs.mem = s.fs.mem := by simp [State.permitTick]

@[simp] theorem State.startTestSlot_mem : s.startTestSlot.fs.mem = s.fs.mem := by simp [State.startTestSlot]

@[simp] theorem State.crossCheck_mem (i : TickInput) : (s.crossCheck i).fs.mem = s.fs.mem := by simp [State.crossCheck]

/-! ### The slot that starts and its fires -/

@[simp] theorem State.formSlot_mem (x sh : SlotSamples) : (s.formSlot x sh).1.fs.mem = s.fs.mem := by
  simp only [State.formSlot]
  split <;> simp

@[simp] theorem edgeOf_mem (f : FireCmd) : (edgeOf s f).1.fs.mem = s.fs.mem := by
  simp only [edgeOf]
  repeat' split
  all_goals simp

@[simp] theorem pulseEndOf_mem (f : FireCmd) : (pulseEndOf s f).1.fs.mem = s.fs.mem := by
  simp only [pulseEndOf]
  repeat' split
  all_goals simp

@[simp] theorem State.onFire_mem (s : State) (e : Nat) (f : State → FireCmd → State × FireCmd) (h : ∀ x c, (f x c).1.fs.mem = x.fs.mem) :
    (s.onFire e f).fs.mem = s.fs.mem :=
  s.mapFires_mem _ fun x c => by
    split
    · exact h x c
    · rfl

@[simp] theorem State.finishFires_mem : s.finishFires.fs.mem = s.fs.mem := by simp [State.finishFires]

/-! ### The mirror and the angle -/

@[simp] theorem State.mirBrake_mem : s.mirBrake.fs.mem = s.fs.mem := by simp [State.mirBrake]

@[simp] theorem State.mirGate_mem : s.mirGate.fs.mem = s.fs.mem := by simp [State.mirGate]

@[simp] theorem State.mirTick_mem (live : Bool) (frameSlot : Nat) : (s.mirTick live frameSlot).fs.mem = s.fs.mem := by simp [State.mirTick]

@[simp] theorem State.driveApply_mem : s.driveApply.fs.mem = s.fs.mem := by simp [State.driveApply]

@[simp] theorem State.setLost_mem (bit sample : Nat) (lost : Bool) : (s.setLost bit sample lost).fs.mem = s.fs.mem := by
  simp only [State.setLost]
  repeat' split
  all_goals simp

@[simp] theorem State.crossNote_mem : s.crossNote.fs.mem = s.fs.mem := by
  simp only [State.crossNote]
  split <;> simp

@[simp] theorem State.angleMeasured_mem : s.angleMeasured.fs.mem = s.fs.mem := by
  simp [State.angleMeasured, State.trackStep, State.loopStep, State.thPush, State.capJudge]

@[simp] theorem State.solEdge_mem (i : Nat) (service ensign : Bool) : (s.solEdge i service ensign).fs.mem = s.fs.mem := by simp [State.solEdge]

@[simp] theorem State.solService_mem (e : SolEdge) (ang : Rat) : (s.solService e ang).fs.mem = s.fs.mem := by
  simp only [State.solService]
  split <;> simp

@[simp] theorem State.angleOr_mem (o : Option Rat) : (s.angleOr o).2.fs.mem = s.fs.mem := by
  simp only [State.angleOr]
  split <;> simp

@[simp] theorem State.solResolve_mem : s.solResolve.fs.mem = s.fs.mem := by simp [State.solResolve, State.solTake, State.solEnsign, State.srcConflict]

@[simp] theorem State.solRun_mem : s.solRun.fs.mem = s.fs.mem := by simp [State.solRun]

@[simp] theorem State.solMissing_mem : s.solMissing.fs.mem = s.fs.mem := by simp [State.solMissing]

@[simp] theorem State.solTick_mem (c : SlotCtx) : (s.solTick c).fs.mem = s.fs.mem := by simp [State.solTick]

/-! ### Housekeeping -/

@[simp] theorem State.sense_mem (n : Nat) (x : Rat) : (s.sense n x).fs.mem = s.fs.mem := by simp [State.sense]

@[simp] theorem State.rtdConvert_mem (n : Nat) (r : HkReading) : (s.rtdConvert n r).2.fs.mem = s.fs.mem := by
  simp only [State.rtdConvert]
  repeat' split
  all_goals simp

@[simp] theorem State.rtdResult_mem (n : Nat) (ohm : Rat) (leads : Nat) : (s.rtdResult n ohm leads).2.fs.mem = s.fs.mem := by
  simp only [State.rtdResult]
  split <;> simp

@[simp] theorem State.hkValue_mem (input : Nat) (auto : Bool) (gain : Nat) (v : Rat) (leads : Nat) :
    (s.hkValue input auto gain v leads).2.fs.mem = s.fs.mem := by
  simp only [State.hkValue]
  split <;> simp

@[simp] theorem State.hkSkip_mem (e : Nat) : (s.hkSkip e).fs.mem = s.fs.mem := by simp [State.hkSkip]

@[simp] theorem State.hkNext_mem (e cc : Nat) : (s.hkNext e cc).fs.mem = s.fs.mem := by simp [State.hkNext]

@[simp] theorem State.hkBegin_mem : s.hkBegin.fs.mem = s.fs.mem := by simp [State.hkBegin]

@[simp] theorem State.hkReach_mem : s.hkReach.fs.mem = s.fs.mem := by simp [State.hkReach]

@[simp] theorem State.hkSeek_mem (s : State) (cc : Nat) (k : Nat) : (s.hkSeek cc k).fs.mem = s.fs.mem := by
  induction k generalizing s with
  | zero => rfl
  | succ k ih => simp [State.hkSeek, ih]

@[simp] theorem State.hkEntry_mem (cc : Nat) : (s.hkEntry cc).fs.mem = s.fs.mem := by simp [State.hkEntry]

@[simp] theorem State.hkIdlePasses_mem (s : State)  (k : Nat) : (s.hkIdlePasses k).fs.mem = s.fs.mem := by
  induction k generalizing s with
  | zero => rfl
  | succ k ih => simp [State.hkIdlePasses, ih]

@[simp] theorem State.hkArrive_mem (k : Nat) : (s.hkArrive k).fs.mem = s.fs.mem := by simp [State.hkArrive]

@[simp] theorem State.hkTrigger_mem : s.hkTrigger.fs.mem = s.fs.mem := by simp [State.hkTrigger]

@[simp] theorem State.hkTimerExpire_mem : s.hkTimerExpire.fs.mem = s.fs.mem := by simp [State.hkTimerExpire]

@[simp] theorem State.hkWrite_mem (e cc : Nat) : (s.hkWrite e cc).fs.mem = s.fs.mem := by simp -implicitDefEqProofs [State.hkWrite]

@[simp] theorem State.hkConversion_mem (r : HkReading) : (s.hkConversion r).fs.mem = s.fs.mem := by simp [State.hkConversion]

@[simp] theorem State.freshClear_mem : s.freshClear.fs.mem = s.fs.mem := by simp [State.freshClear]

@[simp] theorem State.hkStart_mem : s.hkStart.fs.mem = s.fs.mem := by simp [State.hkStart]

@[simp] theorem State.hkCommit_mem (before : List (Nat × Nat)) (cc : Int) : (s.hkCommit before cc).fs.mem = s.fs.mem := by simp [State.hkCommit]

@[simp] theorem State.urgentPush_mem (u : Urgent) : (s.urgentPush u).fs.mem = s.fs.mem := by simp [State.urgentPush]

@[simp] theorem State.hkUrgent_mem (v : Nat) : (s.hkUrgent v).2.fs.mem = s.fs.mem := by
  simp only [State.hkUrgent]
  split <;> simp

@[simp] theorem State.urgentDone_mem (r : HkReading) : (s.urgentDone r).1.fs.mem = s.fs.mem := by
  simp only [State.urgentDone]
  repeat' split
  all_goals simp -implicitDefEqProofs

@[simp] theorem State.vinService_mem (code : Int) : (s.vinService code).fs.mem = s.fs.mem := by simp [State.vinService]

@[simp] theorem State.vinClear_mem (v : Nat) : (s.vinClear v).fs.mem = s.fs.mem := by simp [State.vinClear]

@[simp] theorem State.caReset_mem (a : Nat) : (s.caReset a).fs.mem = s.fs.mem := by simp [State.caReset]

@[simp] theorem State.caResets_mem : s.caResets.fs.mem = s.fs.mem := by simp [State.caResets]

@[simp] theorem State.hkTimerAll_mem (s : State)  (k : Nat) : (s.hkTimerAll k).fs.mem = s.fs.mem := by
  induction k generalizing s with
  | zero => rfl
  | succ k ih => simp [State.hkTimerAll, ih]

@[simp] theorem State.hkRest_mem : s.hkRest.fs.mem = s.fs.mem := by simp [State.hkRest]

@[simp] theorem State.hkTick_mem : s.hkTick.fs.mem = s.fs.mem := by simp [State.hkTick]

/-! ### The receive channels -/

@[simp] theorem State.warmDone_mem : s.warmDone.fs.mem = s.fs.mem := by simp [State.warmDone]

@[simp] theorem State.chanPower_mem (ch : Nat) : (s.chanPower ch).fs.mem = s.fs.mem := by simp [State.chanPower]

@[simp] theorem State.chanServo_mem (c : SlotCtx) (ch : Nat) : (State.chanServo c s ch).fs.mem = s.fs.mem := by simp [State.chanServo]

@[simp] theorem State.rxTick_mem (c : SlotCtx) : (s.rxTick c).fs.mem = s.fs.mem := by simp [State.rxTick]

/-! ### APD bias -/

@[simp] theorem State.setZone_mem (z : Nat) (a : ApdZone) : (s.setZone z a).fs.mem = s.fs.mem := by simp [State.setZone]

@[simp] theorem State.zoneShow_mem (z : Nat) : (s.zoneShow z).fs.mem = s.fs.mem := by simp [State.zoneShow]

@[simp] theorem State.zoneOff_mem (z : Nat) : (s.zoneOff z).fs.mem = s.fs.mem := by simp [State.zoneOff]

@[simp] theorem State.biasGate_mem : s.biasGate.fs.mem = s.fs.mem := by simp [State.biasGate]

@[simp] theorem State.zoneEvaluate_mem (z : Nat) : (s.zoneEvaluate z).fs.mem = s.fs.mem := by
  simp only [State.zoneEvaluate]
  repeat' split
  all_goals simp

@[simp] theorem State.apdEvaluate_mem : s.apdEvaluate.fs.mem = s.fs.mem := by simp [State.apdEvaluate]

@[simp] theorem State.breakTimeout_mem (z : Nat) : (s.breakTimeout z).fs.mem = s.fs.mem := by simp [State.breakTimeout]

@[simp] theorem State.tempStaleNow_mem (z : Nat) : (s.tempStaleNow z).fs.mem = s.fs.mem := by simp [State.tempStaleNow]

@[simp] theorem State.zoneSettled_mem (z : Nat) : (s.zoneSettled z).fs.mem = s.fs.mem := by simp [State.zoneSettled]

@[simp] theorem State.zoneFault_mem (z : Nat) : (s.zoneFault z).fs.mem = s.fs.mem := by simp [State.zoneFault]

@[simp] theorem State.apdModeEntry_mem : s.apdModeEntry.fs.mem = s.fs.mem := by simp [State.apdModeEntry]

@[simp] theorem State.apdCommit_mem : s.apdCommit.fs.mem = s.fs.mem := by simp [State.apdCommit]

@[simp] theorem State.boostPeriod_mem (hv : Nat) (meas imeas : List Nat) : (s.boostPeriod hv meas imeas).fs.mem = s.fs.mem := rfl

@[simp] theorem State.boostOver_mem (hv : Nat) : (s.boostOver hv).fs.mem = s.fs.mem := by simp [State.boostOver]

@[simp] theorem State.apdTick_mem : s.apdTick.fs.mem = s.fs.mem := by simp [State.apdTick, State.zoneTick]

@[simp] theorem State.apdStart_mem : s.apdStart.fs.mem = s.fs.mem := by simp [State.apdStart, State.zoneStart]

/-! ### The echo engines -/

@[simp] theorem State.processSlot_mem (i : TickInput) (units : Nat) : (s.processSlot i units).fs.mem = s.fs.mem := by
  simp only [State.processSlot]
  refine s.forEach_mem _ _ fun x p => ?_
  split <;> simp

@[simp] theorem State.overrun_mem (units : Nat) : (s.overrun units).fs.mem = s.fs.mem := by simp -implicitDefEqProofs [State.overrun]

/-! ### The Field Store, and what writes it -/

@[simp] theorem State.recordFault_mem (r : Nat → List Byte) : (s.recordFault r).fs.mem = s.fs.mem := by simp [State.recordFault]

@[simp] theorem State.granuleFault_mem (cc : Nat) (f : FsFault) (master space cls : Nat) (write resumed : Bool) (va pbank syn done : Nat) :
    (s.granuleFault cc f master space cls write resumed va pbank syn done).fs.mem = s.fs.mem := by
  simp [State.granuleFault]

@[simp] theorem State.correct_mem (pbank : Nat) : (s.correct pbank).fs.mem = s.fs.mem := by simp [State.correct]

@[simp] theorem State.eccFound_mem (f : Nat × EccFind) : (s.eccFound f).fs.mem = s.fs.mem := by
  simp only [State.eccFound]
  repeat' split
  all_goals simp

@[simp] theorem State.eccRead_mem (pa n : Nat) (l : Ecc) : (s.eccRead pa n l).fs.mem = s.fs.mem := by simp [State.eccRead]

@[simp] theorem State.takeTag_mem (cls master pa space va : Nat) : (s.takeTag cls master pa space va).fs.mem = s.fs.mem := by simp [State.takeTag]

@[simp] theorem State.storeBytes_memWf (pa : Nat) (d : List Byte) (h : Memory.wf s.fs.mem = true) : Memory.wf (s.storeBytes pa d).fs.mem = true := by
  simp only [State.storeBytes]
  split
  · exact memPutAll_wf _ _ _ (memPutAll_wf _ _ _ h)
  · exact memPutAll_wf _ _ _ h

theorem State.writeGranule_error_mem {s t : State} {ecc : Ecc} {m cls sp va : Nat} {d : List Byte} {f : FsFault} {p y : Nat}
    (h : s.writeGranule ecc m cls sp va d = .error (f, p, y, t)) : t.fs.mem = s.fs.mem := by
  unfold State.writeGranule at h
  split at h
  · cases h; rfl
  · dsimp only at h
    split at h <;> cases h
    simp

theorem State.writeGranule_ok_memWf {s t : State} {ecc : Ecc} {m cls sp va : Nat} {d : List Byte}
    (h : s.writeGranule ecc m cls sp va d = .ok t) (hs : Memory.wf s.fs.mem = true) : Memory.wf t.fs.mem = true := by
  unfold State.writeGranule at h
  split at h
  · cases h
  · dsimp only at h
    split at h <;> cases h
    simp [hs]

theorem State.readGranule_error_mem {s t : State} {ecc : Ecc} {m cls sp va n : Nat} {x : Bool} {f : FsFault} {p y : Nat}
    (h : s.readGranule ecc m cls sp va n x = .error (f, p, y, t)) : t.fs.mem = s.fs.mem := by
  unfold State.readGranule at h
  split at h
  · cases h; rfl
  · dsimp only at h
    split at h <;> cases h
    simp

theorem State.readGranule_ok_mem {s t : State} {ecc : Ecc} {m cls sp va n : Nat} {x : Bool} {b : List Byte}
    (h : s.readGranule ecc m cls sp va n x = .ok (b, t)) : t.fs.mem = s.fs.mem := by
  unfold State.readGranule at h
  split at h
  · cases h
  · dsimp only at h
    split at h <;> cases h
    simp

@[simp] theorem State.enqueue_mem (l : List Granule) : (s.enqueue l).fs.mem = s.fs.mem := by simp [State.enqueue]

@[simp] theorem State.mapEdit_mem (v : Nat) : (s.mapEdit v).fs.mem = s.fs.mem := by simp [State.mapEdit]

@[simp] theorem State.mapEditDone_mem : s.mapEditDone.fs.mem = s.fs.mem := by simp [State.mapEditDone]

@[simp] theorem State.bankMove_mem (b q after : Nat) : (s.bankMove b q after).fs.mem = s.fs.mem := by simp [State.bankMove]

@[simp] theorem State.bankRetireAs_mem (b after : Nat) : (s.bankRetireAs b after).fs.mem = s.fs.mem := by
  simp only [State.bankRetireAs]
  repeat' split
  all_goals simp

@[simp] theorem State.bankRetire_mem (b : Nat) : (s.bankRetire b).fs.mem = s.fs.mem := by simp [State.bankRetire]

@[simp] theorem State.putBank_mem (p c : Nat) : (s.putBank p c).fs.mem = s.fs.mem := by simp [State.putBank]

@[simp] theorem State.retireTick_mem : s.retireTick.fs.mem = s.fs.mem := by simp [State.retireTick]

@[simp] theorem State.copyDone_memWf (cc : Nat) (ecc : Ecc) (h : Memory.wf s.fs.mem = true) : Memory.wf (s.copyDone cc ecc).fs.mem = true := by
  simp only [State.copyDone]
  split
  · exact h
  split
  · simp [h]
  · exact memCopyBank_wf _ _ _ (by simp -implicitDefEqProofs [h])

@[simp] theorem State.mapSwitch_mem : s.mapSwitch.fs.mem = s.fs.mem := by simp [State.mapSwitch]

@[simp] theorem State.retireDrained_mem : s.retireDrained.fs.mem = s.fs.mem := by simp [State.retireDrained]

@[simp] theorem State.copyFailed_mem : s.copyFailed.fs.mem = s.fs.mem := by simp [State.copyFailed]

@[simp] theorem State.bankLost_memWf (b : Nat) (h : Memory.wf s.fs.mem = true) : Memory.wf (s.bankLost b).fs.mem = true := by
  simp only [State.bankLost]
  split
  · exact h
  · exact memClearBank_wf _ _ h

@[simp] theorem State.tagReturn_mem (cls : Nat) : (s.tagReturn cls).fs.mem = s.fs.mem := by
  simp only [State.tagReturn]
  split <;> simp

/-! ### Triggers -/

@[simp] theorem State.reference_mem (st : Nat) (rose : List (Nat × Nat)) : (s.reference st rose).2.fs.mem = s.fs.mem := by
  simp only [State.reference]
  repeat' split
  all_goals simp

@[simp] theorem State.setProg_mem (p : TrigProg) : (s.setProg p).fs.mem = s.fs.mem := by simp [State.setProg]

@[simp] theorem State.declareAt_mem (t : Int) (pos stamp : Nat) : (s.declareAt t pos stamp).fs.mem = s.fs.mem := by simp [State.declareAt]

@[simp] theorem State.triggerDeclare_mem : s.triggerDeclare.fs.mem = s.fs.mem := by
  simp only [State.triggerDeclare]
  split <;> simp

@[simp] theorem State.sends_mem (a : Arrival) : (s.sends a).fs.mem = s.fs.mem := by simp [State.sends]

@[simp] theorem State.trigSoft_mem (v : Nat) : (s.trigSoft v).fs.mem = s.fs.mem := by simp [State.trigSoft]

@[simp] theorem State.compTo_mem (ch : Nat) (up : Bool) (e : Int) : (s.compTo ch up e).fs.mem = s.fs.mem := by simp [State.compTo]

@[simp] theorem State.compCommit_mem (l : List Nat) (t : Int) : (s.compCommit l t).fs.mem = s.fs.mem := by
  refine s.forEach_mem l _ fun x ch => ?_
  split
  · simp
  · rfl

@[simp] theorem State.calThresholds_mem : s.calThresholds.fs.mem = s.fs.mem := by simp [State.calThresholds]

@[simp] theorem State.keepCrossing_mem (x : Crossing) : (s.keepCrossing x).fs.mem = s.fs.mem := by simp [State.keepCrossing]

@[simp] theorem State.crossing_mem (ch : Nat) (v : Int) (code sNext : Nat) : (s.crossing ch v code sNext).fs.mem = s.fs.mem := by
  simp [State.crossing, State.calCrossing]

@[simp] theorem State.extEdge_mem (rising : Bool) (heldFt code sNext : Nat) : (s.extEdge rising heldFt code sNext).fs.mem = s.fs.mem := by
  simp [State.extEdge]

@[simp] theorem State.pulseAt_mem (p : Nat) (i : Int) : (s.pulseAt p i).fs.mem = s.fs.mem := by simp [State.pulseAt]

@[simp] theorem State.timerExpire_mem : s.timerExpire.fs.mem = s.fs.mem := by simp [State.timerExpire]

@[simp] theorem State.timerUntil_mem (s : State) (t : Int) (k : Nat) : (s.timerUntil t k).fs.mem = s.fs.mem := by
  induction k generalizing s with
  | zero => rfl
  | succ k ih => simp [State.timerUntil, ih]

@[simp] theorem State.echoPulses_mem (slotNo : Nat) (sent : List PointRec) : (s.echoPulses slotNo sent).fs.mem = s.fs.mem := by
  simp [State.echoPulses]

@[simp] theorem State.stageChan_mem (k ch n : Nat) (before : Int) (l : List Int) : (s.stageChan k ch n before l).fs.mem = s.fs.mem := by
  simp [State.stageChan]

end

end Sys2Proof.Machine

end

section
/-! PROOFS. What leaves the memory as it is, chapters 6 to 12 and 15. -/

namespace Sys2Proof.Machine

section
variable (s : State)

/-! ### The Streamer link -/

@[simp] theorem State.setStream_mem (n : Nat) (x : Stream) : (s.setStream n x).fs.mem = s.fs.mem := by simp [State.setStream]

@[simp] theorem State.startPacket_mem (n : Nat) : (s.startPacket n).fs.mem = s.fs.mem := by
  simp only [State.startPacket]
  split <;> simp

@[simp] theorem State.linkPump_mem : s.linkPump.fs.mem = s.fs.mem := by
  simp only [State.linkPump]
  repeat' split
  all_goals simp

@[simp] theorem State.packetSent_mem : s.packetSent.fs.mem = s.fs.mem := by
  simp only [State.packetSent]
  split <;> simp

@[simp] theorem State.dropPackets_mem (n k : Nat) : (s.dropPackets n k).fs.mem = s.fs.mem := by simp [State.dropPackets]

@[simp] theorem State.offer_mem (p : Packet) (room : Nat) : (s.offer p room).fs.mem = s.fs.mem := by simp [State.offer]

@[simp] theorem State.queueControl_mem (p : Packet) : (s.queueControl p).fs.mem = s.fs.mem := by simp [State.queueControl]

@[simp] theorem State.control_mem (ty aux tstamp : Nat) (payload : List Byte) : (s.control ty aux tstamp payload).fs.mem = s.fs.mem := by
  simp [State.control]

@[simp] theorem State.controlNow_mem (ty : Nat) (payload : List Byte) (notice : Option (Nat × Nat × Nat)) :
    (s.controlNow ty payload notice).fs.mem = s.fs.mem := by
  simp [State.controlNow]

@[simp] theorem State.flushStreams_mem : s.flushStreams.fs.mem = s.fs.mem := by simp [State.flushStreams]

@[simp] theorem State.laneTo_mem (b p : Nat) : (s.laneTo b p).fs.mem = s.fs.mem := by simp [State.laneTo]

@[simp] theorem State.laneOn_mem (m : Nat × Nat) : (s.laneOn m).fs.mem = s.fs.mem := by simp [State.laneOn]

@[simp] theorem State.movesNow_mem : s.movesNow.fs.mem = s.fs.mem := by simp [State.movesNow]

@[simp] theorem State.noticesDrop_mem : s.noticesDrop.fs.mem = s.fs.mem := by simp [State.noticesDrop]

@[simp] theorem State.linkDown_mem (st fault : Nat) : (s.linkDown st fault).fs.mem = s.fs.mem := by simp -implicitDefEqProofs [State.linkDown]

@[simp] theorem State.linkGate_mem : s.linkGate.fs.mem = s.fs.mem := by simp [State.linkGate]

@[simp] theorem State.linkFault_mem (fault : Nat) : (s.linkFault fault).fs.mem = s.fs.mem := by simp [State.linkFault]

@[simp] theorem State.trainStart_mem : s.trainStart.fs.mem = s.fs.mem := by simp -implicitDefEqProofs [State.trainStart]

@[simp] theorem State.linkStart_mem : s.linkStart.fs.mem = s.fs.mem := by simp [State.linkStart]

@[simp] theorem State.tryExchange_mem : s.tryExchange.fs.mem = s.fs.mem := by simp [State.tryExchange]

@[simp] theorem State.trainingDone_mem : s.trainingDone.fs.mem = s.fs.mem := by simp [State.trainingDone]

@[simp] theorem State.capRepeat_mem : s.capRepeat.fs.mem = s.fs.mem := by simp [State.capRepeat]

@[simp] theorem State.linkUp_mem : s.linkUp.fs.mem = s.fs.mem := by simp [State.linkUp]

@[simp] theorem State.versions_mem (linkVers pktVers : Nat) (efom assumed : Bool) : (s.versions linkVers pktVers efom assumed).fs.mem = s.fs.mem := by
  simp -implicitDefEqProofs [State.versions]

@[simp] theorem State.capTimeout_mem : s.capTimeout.fs.mem = s.fs.mem := by simp [State.capTimeout]

@[simp] theorem State.tuneHoldEnd_mem : s.tuneHoldEnd.fs.mem = s.fs.mem := by simp -implicitDefEqProofs [State.tuneHoldEnd]

@[simp] theorem State.laneShift_mem (b old new : Nat) : (s.laneShift b old new).fs.mem = s.fs.mem := by simp [State.laneShift]

@[simp] theorem State.laneRetire_mem (b : Nat) : (s.laneRetire b).fs.mem = s.fs.mem := by simp [State.laneRetire]

@[simp] theorem State.laneReturn_mem (p : Nat) : (s.laneReturn p).fs.mem = s.fs.mem := by simp [State.laneReturn]

@[simp] theorem State.returnAnnounce_mem : s.returnAnnounce.fs.mem = s.fs.mem := by
  simp only [State.returnAnnounce]
  repeat' split
  all_goals simp

@[simp] theorem State.laneMove_mem : s.laneMove.fs.mem = s.fs.mem := by
  simp only [State.laneMove]
  split <;> simp

@[simp] theorem State.markerInterval_mem : s.markerInterval.fs.mem = s.fs.mem := by simp [State.markerInterval]

@[simp] theorem State.txBitslip_mem (p v : Nat) : (s.txBitslip p v).fs.mem = s.fs.mem := by simp [State.txBitslip]

@[simp] theorem State.setRxLane_mem (i : Nat) (r : RxLane) : (s.setRxLane i r).fs.mem = s.fs.mem := by simp [State.setRxLane]

@[simp] theorem State.rxAligned_mem (i boundary : Nat) : (s.rxAligned i boundary).fs.mem = s.fs.mem := by simp [State.rxAligned]

@[simp] theorem State.rxGroups_mem (i : Nat) (g : List (BitVec 10)) : (s.rxGroups i g).1.fs.mem = s.fs.mem := by
  simp [State.rxGroups, State.codeErrors]

@[simp] theorem State.rxAdapt_mem (i : Nat) : (s.rxAdapt i).fs.mem = s.fs.mem := by simp [State.rxAdapt]

@[simp] theorem State.rxSwitch_mem (new : Nat) : (s.rxSwitch new).fs.mem = s.fs.mem := by simp [State.rxSwitch]

@[simp] theorem State.rxAlignLoss_mem (i : Nat) (g : List (BitVec 10)) : (s.rxAlignLoss i g).fs.mem = s.fs.mem := by simp [State.rxAlignLoss]

@[simp] theorem State.rxMarker_mem (i cc : Nat) (g : List (BitVec 10)) (h w : Rat) : (s.rxMarker i cc g h w).fs.mem = s.fs.mem := by
  simp only [State.rxMarker]
  split
  · rfl
  · split <;> simp

@[simp] theorem State.rxBitslip_mem (v : Nat) : (s.rxBitslip v).fs.mem = s.fs.mem := by simp [State.rxBitslip]

@[simp] theorem State.faultRecover_mem : s.faultRecover.fs.mem = s.fs.mem := by
  simp only [State.faultRecover]
  repeat' split
  all_goals simp

@[simp] theorem State.discardPacket_mem : s.discardPacket.fs.mem = s.fs.mem := by simp [State.discardPacket]

@[simp] theorem State.efomReport_mem (b : List Byte) : (s.efomReport b).fs.mem = s.fs.mem := by simp -implicitDefEqProofs [State.efomReport]

@[simp] theorem State.addCredit_mem (n units : Nat) : (s.addCredit n units).fs.mem = s.fs.mem := by simp [State.addCredit]

@[simp] theorem State.creditPacket_mem (ws : List Nat) : (s.creditPacket ws).fs.mem = s.fs.mem := by simp [State.creditPacket, State.creditEntry]

@[simp] theorem State.hostNotice_mem (w : Nat) : (s.hostNotice w).fs.mem = s.fs.mem := by simp [State.hostNotice]

@[simp] theorem State.idleEnter_mem : s.idleEnter.fs.mem = s.fs.mem := by simp [State.idleEnter]

@[simp] theorem State.wake_mem : s.wake.fs.mem = s.fs.mem := by simp [State.wake, State.burstAll]

@[simp] theorem State.idleExit_mem : s.idleExit.fs.mem = s.fs.mem := by simp [State.idleExit]

@[simp] theorem State.pointsPacket_mem (r : RecStage) : (s.pointsPacket r).fs.mem = s.fs.mem := by simp [State.pointsPacket]

@[simp] theorem State.streamPacket_mem (n ty aux tstamp : Nat) (last : Bool) (payload : List Byte) :
    (s.streamPacket n ty aux tstamp last payload).fs.mem = s.fs.mem := by
  simp [State.streamPacket]

@[simp] theorem State.decPacket_mem (n k : Nat) (last : Bool) : (s.decPacket n k last).fs.mem = s.fs.mem := by simp [State.decPacket]

@[simp] theorem State.lanesDrain_mem (s : State) (n : Nat) (k : Nat) : (s.lanesDrain n k).fs.mem = s.fs.mem := by
  induction k generalizing s with
  | zero => rfl
  | succ k ih => simp [State.lanesDrain, ih]

@[simp] theorem State.decReady_mem (n : Nat) : (s.decReady n).fs.mem = s.fs.mem := by simp [State.decReady]

@[simp] theorem State.decReadyAll_mem (n : Nat) : (s.decReadyAll n).fs.mem = s.fs.mem := by simp [State.decReadyAll]

@[simp] theorem State.rawPacket_mem (n k : Nat) (last : Bool) : (s.rawPacket n k last).fs.mem = s.fs.mem := by simp [State.rawPacket]

@[simp] theorem State.rawReady_mem (n : Nat) : (s.rawReady n).fs.mem = s.fs.mem := by simp [State.rawReady]

@[simp] theorem State.endAssembly_mem (n : Nat) (at_ : Int) : (s.endAssembly n at_).fs.mem = s.fs.mem := by
  simp only [State.endAssembly]
  repeat' split
  all_goals simp

@[simp] theorem State.streamWord_mem (ch : Nat) (i : Int) (w : Option Int) : (s.streamWord ch i w).fs.mem = s.fs.mem := by
  simp only [State.streamWord]
  refine s.forRange_mem 16 _ fun x n => ?_
  split
  · split <;> simp
  · rfl

@[simp] theorem State.streamStop_mem (n : Nat) (at_ : Int) : (s.streamStop n at_).fs.mem = s.fs.mem := by simp [State.streamStop]

@[simp] theorem State.streamStart_mem (n : Nat) : (s.streamStart n).fs.mem = s.fs.mem := by simp [State.streamStart]

@[simp] theorem State.streamsTick_mem : s.streamsTick.fs.mem = s.fs.mem := by simp [State.streamsTick]

@[simp] theorem State.streamsCommit_mem (new : List (Nat × Nat)) (at_ : Int) : (s.streamsCommit new at_).fs.mem = s.fs.mem := by
  simp [State.streamsCommit]

@[simp] theorem State.streamsEndSlot_mem : s.streamsEndSlot.fs.mem = s.fs.mem := by simp [State.streamsEndSlot, State.packetEnd]

@[simp] theorem State.status_mem (p : List Byte) : (s.status p).fs.mem = s.fs.mem := by simp [State.status]

@[simp] theorem State.statusPeriod_mem : s.statusPeriod.fs.mem = s.fs.mem := by
  simp only [State.statusPeriod]
  split <;> simp

@[simp] theorem State.statusTick_mem (penn fpos : Nat) : (s.statusTick penn fpos).fs.mem = s.fs.mem := by simp [State.statusTick]

@[simp] theorem State.statusRestart_mem : s.statusRestart.fs.mem = s.fs.mem := by simp [State.statusRestart]

@[simp] theorem State.linkTick_mem : s.linkTick.fs.mem = s.fs.mem := by simp [State.linkTick]

/-! ### Capture -/

@[simp] theorem State.capProgress_mem : s.capProgress.fs.mem = s.fs.mem := by simp [State.capProgress]

@[simp] theorem State.capClose_mem (why : CapEnd) (last : Int) : (s.capClose why last).fs.mem = s.fs.mem := by simp [State.capClose]

@[simp] theorem State.capWord_mem (w : Nat × Int × Int) : (s.capWord w).fs.mem = s.fs.mem := by
  simp only [State.capWord]
  split <;> simp

@[simp] theorem State.capFeed_mem (upTo : Int) : (s.capFeed upTo).fs.mem = s.fs.mem := by
  simp [State.capFeed, State.capFeedWords, State.capFeedRaw, State.stageTo]

@[simp] theorem State.capEndBefore_mem (why : CapEnd) (upTo : Int) : (s.capEndBefore why upTo).fs.mem = s.fs.mem := by
  simp [State.capEndBefore, State.capEnd]

@[simp] theorem State.overflowBy_mem (cc : Nat) : (s.overflowBy cc).fs.mem = s.fs.mem := by simp [State.overflowBy]

@[simp] theorem State.captureOverflow_mem (cc : Nat) : (s.captureOverflow cc).fs.mem = s.fs.mem := by simp [State.captureOverflow]

@[simp] theorem State.captureFault_mem (held : Nat) : (s.captureFault held).fs.mem = s.fs.mem := by simp [State.captureFault]

@[simp] theorem State.captureMaskstop_mem (ch : Nat) (cc : Int) (stamp : Nat) : (s.captureMaskstop ch cc stamp).fs.mem = s.fs.mem := by
  simp only [State.captureMaskstop]
  split <;> simp

@[simp] theorem State.trigCc_mem (t : Int) : (s.trigCc t).fs.mem = s.fs.mem := by simp [State.trigCc, State.sees, State.progCc, State.stageTimeout]

@[simp] theorem State.trigRun_mem (s : State) (t : Int) (stop : State → Bool) (n : Nat) : (s.trigRun t stop n).fs.mem = s.fs.mem := by
  induction n generalizing s with
  | zero => rfl
  | succ n ih =>
    simp only [State.trigRun]
    split
    · rfl
    · split
      · split <;> simp [ih]
      · simp

@[simp] theorem State.trigUpTo_mem (t : Int) : (s.trigUpTo t).fs.mem = s.fs.mem := by simp [State.trigUpTo]

@[simp] theorem State.triggerNext_mem : s.triggerNext.fs.mem = s.fs.mem := by
  simp only [State.triggerNext]
  split <;> simp

@[simp] theorem State.stageEnds_mem : s.stageEnds.fs.mem = s.fs.mem := by simp [State.stageEnds]

@[simp] theorem State.captureComplete_mem : s.captureComplete.fs.mem = s.fs.mem := by
  simp only [State.captureComplete]
  repeat' split
  all_goals simp

@[simp] theorem State.maskvFall_mem (ch : Nat) : (s.maskvFall ch).fs.mem = s.fs.mem := by simp [State.maskvFall]

@[simp] theorem State.maskvRise_mem (ch : Nat) : (s.maskvRise ch).fs.mem = s.fs.mem := by
  simp only [State.maskvRise]
  split <;> simp

@[simp] theorem State.headerWritten_memWf (cc : Nat) (ecc : Ecc) (h : Memory.wf s.fs.mem = true) :
    Memory.wf (s.headerWritten cc ecc).fs.mem = true := by
  simp only [State.headerWritten]
  split
  · exact h
  split
  · next hw =>
    have ht := State.writeGranule_ok_memWf hw h
    simp -implicitDefEqProofs [ht]
  · next hw => simp -implicitDefEqProofs [State.writeGranule_error_mem hw, h]

@[simp] theorem State.capCtrl_mem (v cc : Nat) : (s.capCtrl v cc).fs.mem = s.fs.mem := by simp [State.capCtrl, State.capArm, State.capStop]

@[simp] theorem State.armTick_mem (t : Int) : (s.armTick t).fs.mem = s.fs.mem := by simp [State.armTick, State.armAt]

@[simp] theorem State.capTick_mem : s.capTick.fs.mem = s.fs.mem := by simp [State.capTick, State.capEndAtTick, State.capForget]

@[simp] theorem State.slotPulse_mem (mode : Nat) (t : Int) : (s.slotPulse mode t).fs.mem = s.fs.mem := by simp [State.slotPulse]

@[simp] theorem State.outGate_mem : s.outGate.fs.mem = s.fs.mem := by simp [State.outGate]

@[simp] theorem State.trigOutEnd_mem : s.trigOutEnd.fs.mem = s.fs.mem := by simp [State.trigOutEnd]

@[simp] theorem State.slotOutEnd_mem : s.slotOutEnd.fs.mem = s.fs.mem := by
  simp only [State.slotOutEnd]
  split <;> simp

@[simp] theorem State.trigEndSlot_mem : s.trigEndSlot.fs.mem = s.fs.mem := by simp [State.trigEndSlot, State.pulsesEnd]

/-! ### The spectrum engine -/

@[simp] theorem State.setSpec_mem (ch : Nat) (c : SpecChan) : (s.setSpec ch c).fs.mem = s.fs.mem := by simp [State.setSpec]

@[simp] theorem State.setDens_mem (ch : Nat) (d : DensMap) : (s.setDens ch d).fs.mem = s.fs.mem := by simp [State.setDens]

@[simp] theorem State.densShow_mem (s : State) (ch : Nat) (l : List DensJob) : (s.densShow ch l).fs.mem = s.fs.mem := by
  induction l generalizing s with
  | nil => simp [State.densShow]
  | cons j l ih => simp [State.densShow, ih]

@[simp] theorem State.densSwap_mem (ch : Nat) (halve : Bool) : (s.densSwap ch halve).fs.mem = s.fs.mem := by simp [State.densSwap]

@[simp] theorem State.densBegin_mem (ch : Nat) : (s.densBegin ch).fs.mem = s.fs.mem := by simp [State.densBegin]

@[simp] theorem State.densCommit_mem (ch : Nat) : (s.densCommit ch).fs.mem = s.fs.mem := by simp [State.densCommit]

@[simp] theorem State.densSwapStep_mem (ch : Nat) : (s.densSwapStep ch).fs.mem = s.fs.mem := by simp [State.densSwapStep]

@[simp] theorem State.densTake_mem (ch n : Nat) (db : Array Int) (stamp : Nat) : (s.densTake ch n db stamp).fs.mem = s.fs.mem := by
  simp [State.densTake]

@[simp] theorem State.maskCommit_mem (at_ : Int) : (s.maskCommit at_).fs.mem = s.fs.mem := by simp [State.maskCommit]

@[simp] theorem State.maskTest_mem (ch src n : Nat) (db : Array Int) (start last : Int) (stamp : Nat) :
    (s.maskTest ch src n db start last stamp).fs.mem = s.fs.mem := by
  simp [State.maskTest]

@[simp] theorem State.report_mem (ch seq : Nat) (lines : List Nat) : (s.report ch seq lines).fs.mem = s.fs.mem := by
  simp -implicitDefEqProofs [State.report]

@[simp] theorem State.pipeTake_mem (i : Nat) : (s.pipeTake i).fs.mem = s.fs.mem := by
  simp only [State.pipeTake]
  split <;> simp

@[simp] theorem State.pipeBoundary_mem (p : Nat) : (s.pipeBoundary p).fs.mem = s.fs.mem := by
  simp only [State.pipeBoundary]
  split <;> simp

@[simp] theorem State.closeAverage_mem (ch : Nat) (stopped : Bool) : (s.closeAverage ch stopped).fs.mem = s.fs.mem := by simp [State.closeAverage]

@[simp] theorem State.specPowers_mem (ch : Nat) (a : Int) : (s.specPowers ch a).2.fs.mem = s.fs.mem := by
  simp only [State.specPowers]
  split <;> simp

@[simp] theorem State.specComplete_mem (ch : Nat) : (s.specComplete ch).fs.mem = s.fs.mem := by simp [State.specComplete]

@[simp] theorem State.specFinish_mem (s : State) (p : Nat) (upTo : Int) (k : Nat) : (s.specFinish p upTo k).fs.mem = s.fs.mem := by
  induction k generalizing s with
  | zero => rfl
  | succ k ih =>
    unfold State.specFinish
    split <;> simp [ih]

@[simp] theorem State.specStopChan_mem (ch : Nat) (at_ : Int) : (s.specStopChan ch at_).fs.mem = s.fs.mem := by simp [State.specStopChan]

@[simp] theorem State.specStartChan_mem (ch : Nat) (at_ : Int) : (s.specStartChan ch at_).fs.mem = s.fs.mem := by simp [State.specStartChan]

@[simp] theorem State.specStopAll_mem (at_ : Int) : (s.specStopAll at_).fs.mem = s.fs.mem := by simp [State.specStopAll]

@[simp] theorem State.specStartAll_mem (at_ : Int) : (s.specStartAll at_).fs.mem = s.fs.mem := by simp [State.specStartAll]

@[simp] theorem State.specTick_mem : s.specTick.fs.mem = s.fs.mem := by
  simp only [State.specTick]
  repeat' split
  all_goals simp

@[simp] theorem State.specEndSlot_mem : s.specEndSlot.fs.mem = s.fs.mem := by simp [State.specEndSlot]

@[simp] theorem State.specWord_mem (ch : Nat) (i v : Int) : (s.specWord ch i v).fs.mem = s.fs.mem := by simp [State.specWord]

/-! ### The decimators -/

@[simp] theorem State.setDec_mem (ch : Nat) (d : Decim) : (s.setDec ch d).fs.mem = s.fs.mem := by simp [State.setDec]

@[simp] theorem State.capTake_mem (ch : Nat) (i v : Int) : (s.capTake ch i v).fs.mem = s.fs.mem := by simp [State.capTake]

@[simp] theorem State.decWord_mem (ch : Nat) : (s.decWord ch).fs.mem = s.fs.mem := by
  simp only [State.decWord]
  split <;> simp

@[simp] theorem State.decUntil_mem (s : State) (ch : Nat) (upTo : Int) (k : Nat) : (s.decUntil ch upTo k).fs.mem = s.fs.mem := by
  induction k generalizing s with
  | zero => rfl
  | succ k ih =>
    unfold State.decUntil
    split <;> simp [ih]

@[simp] theorem State.decPair_mem (s : State) (p : Nat) (upTo : Int) (k : Nat) : (s.decPair p upTo k).fs.mem = s.fs.mem := by
  induction k generalizing s with
  | zero => rfl
  | succ k ih =>
    unfold State.decPair
    split <;> simp [ih]

@[simp] theorem State.decAll_mem (upTo : Int) : (s.decAll upTo).fs.mem = s.fs.mem := by simp [State.decAll]

@[simp] theorem State.decReset_mem (l : List Nat) (r : Int) : (s.decReset l r).fs.mem = s.fs.mem := by
  simp [State.decReset, State.specDecReset, State.gridRestart, State.streamsReset]

@[simp] theorem State.decSyncReset_mem (r : Int) : (s.decSyncReset r).fs.mem = s.fs.mem := by simp [State.decSyncReset]

@[simp] theorem State.decResetDue_mem : s.decResetDue.fs.mem = s.fs.mem := by
  simp only [State.decResetDue]
  split <;> simp

@[simp] theorem State.resetBefore_mem (i : Int) : (s.resetBefore i).fs.mem = s.fs.mem := by simp [State.resetBefore]

@[simp] theorem State.decInstant_mem (ch : Nat) : (s.decInstant ch).fs.mem = s.fs.mem := by
  simp only [State.decInstant]
  split <;> simp

@[simp] theorem State.decPacketReady_mem (n : Nat) : (s.decPacketReady n).fs.mem = s.fs.mem := by
  simp only [State.decPacketReady]
  split <;> simp

@[simp] theorem State.specEnds_mem (ch : Nat) : (s.specEnds ch).fs.mem = s.fs.mem := by simp [State.specEnds]

@[simp] theorem State.syncEdge_mem (rising : Bool) (cc : Nat) : (s.syncEdge rising cc).fs.mem = s.fs.mem := by simp [State.syncEdge]

@[simp] theorem State.decSync_mem (cc : Nat) : (s.decSync cc).fs.mem = s.fs.mem := by simp [State.decSync]

@[simp] theorem State.decStop_mem : s.decStop.fs.mem = s.fs.mem := by simp -implicitDefEqProofs [State.decStop]

@[simp] theorem State.decEndSlot_mem : s.decEndSlot.fs.mem = s.fs.mem := by simp [State.decEndSlot]

@[simp] theorem State.decSyncTick_mem : s.decSyncTick.fs.mem = s.fs.mem := by simp [State.decSyncTick]

@[simp] theorem State.decCommit_mem (before : List (Nat × Nat)) (at_ : Int) : (s.decCommit before at_).fs.mem = s.fs.mem := by simp [State.decCommit]

/-! ### Clocks -/

@[simp] theorem State.setPll_mem (b : Bool) (p : Pll) : (s.setPll b p).fs.mem = s.fs.mem := by simp [State.setPll]

@[simp] theorem State.pllStart_mem : s.pllStart.fs.mem = s.fs.mem := by simp [State.pllStart]

@[simp] theorem State.pllLostAt_mem (b : Bool) (stamp : Nat) : (s.pllLostAt b stamp).fs.mem = s.fs.mem := by simp [State.pllLostAt]

@[simp] theorem State.pllLost_mem (b : Bool) (cc : Nat) : (s.pllLost b cc).fs.mem = s.fs.mem := by simp [State.pllLost]

@[simp] theorem State.refReturn_mem : s.refReturn.fs.mem = s.fs.mem := by simp [State.refReturn]

@[simp] theorem State.tickResume_mem : s.tickResume.fs.mem = s.fs.mem := by simp [State.tickResume]

@[simp] theorem State.clkReconfig_mem (i : Nat) : (s.clkReconfig i).fs.mem = s.fs.mem := by simp [State.clkReconfig]

@[simp] theorem State.clkCommit_mem (before : List (Nat × Nat)) (t : Nat) : (s.clkCommit before t).fs.mem = s.fs.mem := by simp [State.clkCommit]

@[simp] theorem State.outTick_mem (first : Bool) (i : Nat) : (s.outTick first i).fs.mem = s.fs.mem := by simp [State.outTick]

@[simp] theorem State.clkTick_mem : s.clkTick.fs.mem = s.fs.mem := by simp [State.clkTick]

@[simp] theorem State.clkBegun_mem : s.clkBegun.fs.mem = s.fs.mem := by simp [State.clkBegun]

/-! ### The rest of chapter 15 -/

@[simp] theorem State.inhibitFall_mem : s.inhibitFall.fs.mem = s.fs.mem := by simp [State.inhibitFall]

@[simp] theorem State.inhibitRelease_mem : s.inhibitRelease.fs.mem = s.fs.mem := by simp [State.inhibitRelease]

@[simp] theorem State.feedback_mem (b level : Bool) : (s.feedback b level).fs.mem = s.fs.mem := by simp [State.feedback]

@[simp] theorem State.testStart_mem : s.testStart.fs.mem = s.fs.mem := by
  simp only [State.testStart]
  split <;> simp

@[simp] theorem State.testEnd_mem (pass : Bool) : (s.testEnd pass).fs.mem = s.fs.mem := by
  simp only [State.testEnd]
  split <;> simp

@[simp] theorem State.forcedTest_mem : s.forcedTest.fs.mem = s.fs.mem := by simp [State.forcedTest]

@[simp] theorem State.urgentCompare_mem (v : Int) : (s.urgentCompare v).fs.mem = s.fs.mem := by simp [State.urgentCompare]

@[simp] theorem State.urgentTaken_mem (code : Int) : (s.urgentTaken code).fs.mem = s.fs.mem := by
  simp only [State.urgentTaken]
  split <;> simp

@[simp] theorem State.lasService_mem (code : Int) : (s.lasService code).fs.mem = s.fs.mem := by
  simp only [State.lasService]
  repeat' split
  all_goals simp

@[simp] theorem State.urgentComplete_mem (r : HkReading) : (s.urgentComplete r).fs.mem = s.fs.mem := by
  simp only [State.urgentComplete]
  split <;> simp

@[simp] theorem State.urgentRequest_mem : s.urgentRequest.fs.mem = s.fs.mem := by simp [State.urgentRequest]

@[simp] theorem State.urgentTimeout_mem : s.urgentTimeout.fs.mem = s.fs.mem := by simp [State.urgentTimeout]

@[simp] theorem State.sealLoad_mem (b : List Byte) : (s.sealLoad b).fs.mem = s.fs.mem := rfl

@[simp] theorem State.sealCheck_mem (upset : Bool) : (s.sealCheck upset).fs.mem = s.fs.mem := by simp [State.sealCheck]

@[simp] theorem State.sealDone_mem (e : FuseEnd) : (s.sealDone e).fs.mem = s.fs.mem := by
  simp only [State.sealDone]
  split <;> simp -implicitDefEqProofs

@[simp] theorem State.strapJudge_mem (l : List Nat) : (s.strapJudge l).fs.mem = s.fs.mem := by simp -implicitDefEqProofs [State.strapJudge]

@[simp] theorem State.strapRead_mem (l : List Nat) : (s.strapRead l).fs.mem = s.fs.mem := by simp [State.strapRead]

@[simp] theorem State.strapBoot_mem (l : List Nat) : (s.strapBoot l).fs.mem = s.fs.mem := by simp [State.strapBoot]

@[simp] theorem State.budgetSpent_mem : s.budgetSpent.fs.mem = s.fs.mem := by simp [State.budgetSpent]

@[simp] theorem State.cleanReached_mem : s.cleanReached.fs.mem = s.fs.mem := by simp [State.cleanReached]

@[simp] theorem State.aoTick_mem : s.aoTick.fs.mem = s.fs.mem := by simp [State.aoTick, State.binStep]

@[simp] theorem State.guardDue_mem : s.guardDue.fs.mem = s.fs.mem := by
  simp only [State.guardDue]
  split <;> simp

@[simp] theorem State.guardTick_mem : s.guardTick.fs.mem = s.fs.mem := by simp [State.guardTick, State.degTime]

/-! ### MARK events -/

@[simp] theorem State.markEvent_mem (m : MarkEv) : (s.markEvent m).fs.mem = s.fs.mem := by simp [State.markEvent]

@[simp] theorem State.markIssue_mem : s.markIssue.fs.mem = s.fs.mem := by
  simp only [State.markIssue]
  split <;> simp

@[simp] theorem State.markAll_mem : s.markAll.fs.mem = s.fs.mem := by simp [State.markAll]

/-! ### What the present slot brings -/

@[simp] theorem State.countRecords_mem (l : List PointRec) : (s.countRecords l).fs.mem = s.fs.mem := by simp [State.countRecords]

@[simp] theorem State.handover_mem : s.handover.fs.mem = s.fs.mem := by simp [State.handover]

@[simp] theorem State.masksUntil_mem (s : State) (ch : Nat) (upTo : Int) (k : Nat) : (s.masksUntil ch upTo k).fs.mem = s.fs.mem := by
  induction k generalizing s with
  | zero => rfl
  | succ k ih => simp [State.masksUntil, ih]

@[simp] theorem State.capReach_mem (cc : Nat) : (s.capReach cc).fs.mem = s.fs.mem := by simp [State.capReach, State.marksUntil]

end

end Sys2Proof.Machine

end

section
/-! PROOFS. The memory keeps its form: granules and DMA, calibration and spares. -/

namespace Sys2Proof.Machine

section
variable (s : State)

/-! ### Granules granted and the DMA engines -/

@[simp] theorem State.setQueue_mem (q : List Granule) : (s.setQueue q).fs.mem = s.fs.mem := by simp [State.setQueue]

@[simp] theorem State.calClear_mem (cls i : Nat) : (s.calClear cls i).fs.mem = s.fs.mem := by simp [State.calClear]

@[simp] theorem State.calLost_mem (cls i : Nat) : (s.calLost cls i).fs.mem = s.fs.mem := by simp [State.calLost]

@[simp] theorem State.markDropped_mem (ch : Nat) : (s.markDropped ch).fs.mem = s.fs.mem := by simp [State.markDropped]

@[simp] theorem State.granuleLost_mem (g : Granule) : (s.granuleLost g).fs.mem = s.fs.mem := by
  simp only [State.granuleLost]
  split <;> simp

@[simp] theorem State.granuleDone_mem (g : Granule) : (s.granuleDone g).fs.mem = s.fs.mem := by
  simp only [State.granuleDone]
  split <;> simp

@[simp] theorem State.densPut_mem (ch : Nat) (j : DensJob) : (s.densPut ch j).fs.mem = s.fs.mem := by
  simp only [State.densPut]
  split <;> simp

@[simp] theorem State.setDma_mem (e : Nat) (d : Dma) : (s.setDma e d).fs.mem = s.fs.mem := by simp [State.setDma]

@[simp] theorem State.dmaRuns_mem (e : Nat) : (s.dmaRuns e).fs.mem = s.fs.mem := by simp [State.dmaRuns]

@[simp] theorem State.cutBursts_mem (b c : Nat) : (s.cutBursts b c).fs.mem = s.fs.mem := by simp [State.cutBursts]

@[simp] theorem State.copyCuts_mem (b : Nat) : (s.copyCuts b).fs.mem = s.fs.mem := by simp [State.copyCuts]

@[simp] theorem State.issued_mem (c master space va : Nat) : (s.issued c master space va).fs.mem = s.fs.mem := by
  simp only [State.issued]
  split <;> simp

@[simp] theorem State.scrubStep_mem (cc : Nat) (found : Ecc) : (s.scrubStep cc found).fs.mem = s.fs.mem := by simp [State.scrubStep, State.scrubRow]

@[simp] theorem State.tagTaken_mem : s.tagTaken.fs.mem = s.fs.mem := by simp [State.tagTaken]

@[simp] theorem State.densFault_mem (cc base va : Nat) (write cut : Bool) (f : FsFault × Nat × Nat) :
    (s.densFault cc base va write cut f).fs.mem = s.fs.mem := by
  simp [State.densFault]

@[simp] theorem State.densWrite_memWf (cc base va : Nat) (cut : Bool) (ecc : Ecc) (d : List Byte) (h : Memory.wf s.fs.mem = true) :
    Memory.wf (s.densWrite cc base va cut ecc d).fs.mem = true := by
  unfold State.densWrite
  split
  · next hw => exact State.writeGranule_ok_memWf hw (by simp [h])
  · next hw => simpa [State.writeGranule_error_mem hw] using h

@[simp] theorem State.densRead_mem (cc base va : Nat) (cut : Bool) (ecc : Ecc) : (s.densRead cc base va cut ecc).2.fs.mem = s.fs.mem := by
  unfold State.densRead
  split
  · rename_i h
    simpa using State.readGranule_ok_mem h
  · rename_i h
    simpa using State.readGranule_error_mem h

@[simp] theorem State.densInitStep_memWf (ch k cc : Nat) (ecc : Ecc) (h : Memory.wf s.fs.mem = true) :
    Memory.wf (s.densInitStep ch k cc ecc).fs.mem = true := by
  simp [State.densInitStep, State.densInitNext, h]

@[simp] theorem State.densAddStep_memWf (ch cc : Nat) (ecc : Ecc) (h : Memory.wf s.fs.mem = true) :
    Memory.wf (s.densAddStep ch cc ecc).fs.mem = true := by
  simp only [State.densAddStep]
  split
  · exact h
  split <;> simp [h]

@[simp] theorem State.densStep_memWf (ch cc : Nat) (ecc : Ecc) (h : Memory.wf s.fs.mem = true) : Memory.wf (s.densStep ch cc ecc).fs.mem = true := by
  simp only [State.densStep]
  split
  · exact h
  split <;> simp [h]

@[simp] theorem State.densInitAll_memWf (s : State) (ch cc : Nat) (ecc : Ecc) (n : Nat) (h : Memory.wf s.fs.mem = true) :
    Memory.wf (s.densInitAll ch cc ecc n).fs.mem = true := by
  induction n generalizing s with
  | zero => exact h
  | succ n ih =>
    simp only [State.densInitAll]
    split
    · exact ih _ (by simp [h])
    · exact h

@[simp] theorem State.densInitDone_memWf (ch cc : Nat) (ecc : Ecc) (h : Memory.wf s.fs.mem = true) :
    Memory.wf (s.densInitDone ch cc ecc).fs.mem = true := by
  simp [State.densInitDone, h]

@[simp] theorem State.dmaFault_mem (e cc : Nat) (f : FsFault × Nat × Nat) (space va done : Nat) (write : Bool) :
    (s.dmaFault e cc f space va done write).fs.mem = s.fs.mem := by
  simp [State.dmaFault]

@[simp] theorem State.dmaIssued_mem (e space va done : Nat) : (s.dmaIssued e space va done).fs.mem = s.fs.mem := by simp [State.dmaIssued]

@[simp] theorem State.dmaFetch_mem (e cc : Nat) (ecc : Ecc) : (s.dmaFetch e cc ecc).fs.mem = s.fs.mem := by
  simp only [State.dmaFetch]
  split
  · simp
  split
  · simp
  split
  · next h => simpa using State.readGranule_error_mem h
  · next h =>
    have hm := State.readGranule_ok_mem h
    split <;> simpa using hm

@[simp] theorem State.dmaStart_mem (e cc : Nat) (ecc : Ecc) : (s.dmaStart e cc ecc).fs.mem = s.fs.mem := by simp [State.dmaStart]

@[simp] theorem State.dmaRelease_mem (e : Nat) : (s.dmaRelease e).fs.mem = s.fs.mem := by simp [State.dmaRelease]

@[simp] theorem State.dmaIdle_mem (e : Nat) : (s.dmaIdle e).fs.mem = s.fs.mem := by simp [State.dmaIdle]

@[simp] theorem State.dmaComplete_memWf (e cc : Nat) (ecc : Ecc) (h : Memory.wf s.fs.mem = true) :
    Memory.wf (s.dmaComplete e cc ecc).fs.mem = true := by
  simp only [State.dmaComplete]
  split
  case h_2 => exact h
  split
  · exact h
  split
  · simp [h]
  split
  · exact h
  split
  · exact h
  split
  · next hw => simp [State.writeGranule_error_mem hw, h]
  · next hw =>
    have ht := State.writeGranule_ok_memWf hw (by simp [h])
    simp [ht]

@[simp] theorem State.dmaAbort_mem (e : Nat) : (s.dmaAbort e).fs.mem = s.fs.mem := by simp [State.dmaAbort]

@[simp] theorem State.dmaStop_mem (e : Nat) : (s.dmaStop e).fs.mem = s.fs.mem := by simp [State.dmaStop]

@[simp] theorem State.dmaResume_mem (e cc : Nat) (ecc : Ecc) : (s.dmaResume e cc ecc).fs.mem = s.fs.mem := by
  simp only [State.dmaResume]
  repeat' split
  all_goals simp

@[simp] theorem State.dmaWait_mem (e : Nat) : (s.dmaWait e).fs.mem = s.fs.mem := by simp [State.dmaWait]

@[simp] theorem State.dmaEnded_mem (e : Nat) : (s.dmaEnded e).fs.mem = s.fs.mem := by simp [State.dmaEnded]

@[simp] theorem State.dmaRead_mem (s : State) (e cc goal : Nat) (ecc : Ecc) (n : Nat) : (s.dmaRead e cc goal ecc n).1.fs.mem = s.fs.mem := by
  induction n generalizing s with
  | zero => rfl
  | succ n ih =>
    simp only [State.dmaRead]
    split
    · rfl
    split
    · rfl
    split
    · next h => simpa using State.readGranule_error_mem h
    · next h => simpa [ih] using State.readGranule_ok_mem h

@[simp] theorem State.dmaStream_mem (s : State) (e cc reads : Nat) (ecc : Ecc) (n : Nat) : (s.dmaStream e cc reads ecc n).fs.mem = s.fs.mem := by
  induction n generalizing s with
  | zero => rfl
  | succ n ih => simp [State.dmaStream, ih]

@[simp] theorem State.dmaOut_mem (s : State) (e cc : Nat) (ecc : Ecc) (n : Nat) : (s.dmaOut e cc ecc n).fs.mem = s.fs.mem := by
  induction n generalizing s with
  | zero => rfl
  | succ n ih => simp [State.dmaOut, ih]

@[simp] theorem State.tagBytes_mem (k : Nat) : (s.tagBytes k).fs.mem = s.fs.mem := by simp [State.tagBytes]

@[simp] theorem State.dmaIn_memWf (s : State) (e cc : Nat) (ecc : Ecc) (n : Nat) (h : Memory.wf s.fs.mem = true) :
    Memory.wf (s.dmaIn e cc ecc n).fs.mem = true := by
  induction n generalizing s with
  | zero => exact h
  | succ n ih =>
    simp only [State.dmaIn]
    split
    · exact h
    split
    · simp [h]
    split
    · simp [h]
    split
    · simp [h]
    split
    · next hw => simp [State.writeGranule_error_mem hw, h]
    · next hw =>
      have ht := State.writeGranule_ok_memWf hw (by simp [h])
      split
      · simp [ht]
      · exact ih _ (by simp [ht])

@[simp] theorem State.dmaContinue_mem (e cc : Nat) (ecc : Ecc) : (s.dmaContinue e cc ecc).fs.mem = s.fs.mem := by
  simp only [State.dmaContinue]
  repeat' split
  all_goals simp

@[simp] theorem State.dmaStep_memWf (e cc : Nat) (ecc : Ecc) (h : Memory.wf s.fs.mem = true) : Memory.wf (s.dmaStep e cc ecc).fs.mem = true := by
  unfold State.dmaStep
  split
  · exact h
  · simp [h]
  · simp [h]
  split <;> simp [h]

@[simp] theorem State.dmaAbortAll_memWf (h : Memory.wf s.fs.mem = true) : Memory.wf s.dmaAbortAll.fs.mem = true := by
  simp -implicitDefEqProofs +contextual [State.dmaAbortAll, h]

@[simp] theorem State.headerIssue_memWf (cc : Nat) (ecc : Ecc) (h : Memory.wf s.fs.mem = true) : Memory.wf (s.headerIssue cc ecc).fs.mem = true := by
  simp [State.headerIssue, h]

@[simp] theorem State.granuleRun_memWf (g : Granule) (cc : Nat) (ecc : Ecc) (h : Memory.wf s.fs.mem = true) :
    Memory.wf (s.granuleRun g cc ecc).fs.mem = true := by
  simp only [State.granuleRun]
  split <;> split
  · next hw =>
    have ht := State.writeGranule_ok_memWf hw (by simp [h])
    simp [ht]
  · next hw => simp [State.writeGranule_error_mem hw, h]
  · next hr => simp [State.readGranule_ok_mem hr, h]
  · next hr => simp [State.readGranule_error_mem hr, h]

@[simp] theorem State.granuleIssue_memWf (bank cc : Nat) (ecc : Ecc) (h : Memory.wf s.fs.mem = true) :
    Memory.wf (s.granuleIssue bank cc ecc).fs.mem = true := by
  simp only [State.granuleIssue]
  split
  · simp [h]
  split
  · split <;> simp [h]
  split
  · simp [h]
  split <;> simp [h]

@[simp] theorem State.enqueueDumps_mem : s.enqueueDumps.fs.mem = s.fs.mem := by
  simp only [State.enqueueDumps]
  split
  · rfl
  · refine s.forRange_mem 48 _ fun x ch => ?_
    split <;> simp

@[simp] theorem State.dropLate_mem : s.dropLate.fs.mem = s.fs.mem := by
  simp only [State.dropLate]
  rw [State.forEach_mem]
  · simp
  · exact fun x p => by split <;> simp

/-! ### Calibration -/

@[simp] theorem State.setItem_mem (i : Nat) (v : Int) : (s.setItem i v).fs.mem = s.fs.mem := by simp -implicitDefEqProofs [State.setItem]

@[simp] theorem State.calShow_mem : s.calShow.fs.mem = s.fs.mem := by simp [State.calShow]

@[simp] theorem State.unsettle_mem (p : Nat → Bool) : (s.unsettle p).fs.mem = s.fs.mem := by simp [State.unsettle]

@[simp] theorem State.setChanStats_mem (ch : Nat) (k : ChanStats) : (s.setChanStats ch k).fs.mem = s.fs.mem := by simp [State.setChanStats]

@[simp] theorem State.gatherSlices_mem (c : SlotCtx) (ch : Nat) (c0 c1 : Bool) : (s.gatherSlices c ch c0 c1).fs.mem = s.fs.mem := by
  simp [State.gatherSlices]

@[simp] theorem State.gatherCross_mem (before c after : SlotCtx) (p : Crossing) : (s.gatherCross before c after p).fs.mem = s.fs.mem := by
  simp [State.gatherCross]

@[simp] theorem State.gatherTrim_mem (before c after : SlotCtx) (ch : Nat) : (s.gatherTrim before c after ch).fs.mem = s.fs.mem := by
  simp only [State.gatherTrim]
  split <;> simp

@[simp] theorem State.gatherShot_mem (before c after : SlotCtx) (ch : Nat) (c3 c5 : Bool) :
    (s.gatherShot before c after ch c3 c5).1.fs.mem = s.fs.mem := by
  simp only [State.gatherShot]
  repeat' split
  all_goals simp

@[simp] theorem State.shotCounted_mem (c : SlotCtx) (e : Nat) (c3 c5 : Bool) : (s.shotCounted c e c3 c5).fs.mem = s.fs.mem := by
  simp [State.shotCounted]

@[simp] theorem State.calWork_mem (cls : Nat) : (s.calWork cls).fs.mem = s.fs.mem := by simp [State.calWork]

@[simp] theorem State.calWorks_mem : s.calWorks.fs.mem = s.fs.mem := by simp [State.calWorks]

@[simp] theorem State.calSum_mem : s.calSum.fs.mem = s.fs.mem := by simp [State.calSum]

@[simp] theorem State.calOsc_mem (codes : List Nat) : (s.calOsc codes).fs.mem = s.fs.mem := by simp [State.calOsc]

@[simp] theorem State.freeError_mem : s.freeError.2.fs.mem = s.fs.mem := by simp [State.freeError]

@[simp] theorem State.skewError_mem (a b : PairSums) : (s.skewError a b).2.fs.mem = s.fs.mem := by
  simp only [State.skewError]
  repeat' split
  all_goals simp

@[simp] theorem State.skewErrors_mem (ch : Nat) : (s.skewErrors ch).2.fs.mem = s.fs.mem := by simp [State.skewErrors]

@[simp] theorem State.winShow_mem (ch : Nat) : (s.winShow ch).fs.mem = s.fs.mem := by
  simp only [State.winShow]
  split <;> simp

@[simp] theorem State.calErrors_mem : s.calErrors.2.fs.mem = s.fs.mem := by simp [State.calErrors]

@[simp] theorem State.stepItem_mem (i : Nat) (err : Int) : (s.stepItem i err).fs.mem = s.fs.mem := by simp [State.stepItem]

@[simp] theorem State.clearStats_mem (i : Nat) : (s.clearStats i).fs.mem = s.fs.mem := by simp -implicitDefEqProofs [State.clearStats]

@[simp] theorem State.periodOver_mem : s.periodOver.fs.mem = s.fs.mem := by simp [State.periodOver]

@[simp] theorem State.calFrame_mem : s.calFrame.fs.mem = s.fs.mem := by
  simp [State.calFrame, State.calPeriodEnd, State.limitCount, State.calStep, State.restoreItem, State.measuredItem, State.settleItem]

@[simp] theorem State.calTick_mem : s.calTick.fs.mem = s.fs.mem := by simp [State.calTick]

@[simp] theorem State.calEnter_mem : s.calEnter.fs.mem = s.fs.mem := by simp [State.calEnter]

@[simp] theorem State.calLeave_mem : s.calLeave.fs.mem = s.fs.mem := by simp [State.calLeave]

@[simp] theorem State.calGain_mem (ch : Nat) : (s.calGain ch).fs.mem = s.fs.mem := by simp [State.calGain]

@[simp] theorem State.calSwap_mem (ch : Nat) : (s.calSwap ch).fs.mem = s.fs.mem := by simp [State.calSwap]

@[simp] theorem State.calCommit_mem (before : List (Nat × Nat)) : (s.calCommit before).fs.mem = s.fs.mem := by simp [State.calCommit]

@[simp] theorem State.imageTake_mem (cc : Nat) (b : List Byte) : (s.imageTake cc b).fs.mem = s.fs.mem := by
  simp only [State.imageTake]
  split <;> simp

@[simp] theorem State.imageApply_mem : s.imageApply.fs.mem = s.fs.mem := by simp -implicitDefEqProofs [State.imageApply]

@[simp] theorem State.calSnap_mem (cc v : Nat) : (s.calSnap cc v).fs.mem = s.fs.mem := by simp [State.calSnap]

@[simp] theorem State.snapTake_mem : s.snapTake.fs.mem = s.fs.mem := by simp [State.snapTake]

@[simp] theorem State.snapWritten_mem : s.snapWritten.fs.mem = s.fs.mem := by
  simp only [State.snapWritten]
  split <;> simp

@[simp] theorem State.calCounts_mem : s.calCounts.fs.mem = s.fs.mem := by simp [State.calCounts]

/-! ### Self-test and spares -/

@[simp] theorem State.setBist_mem (x : Bist) : (s.setBist x).fs.mem = s.fs.mem := by simp [State.setBist]

@[simp] theorem State.putUnit_mem (u c : Nat) : (s.putUnit u c).fs.mem = s.fs.mem := by
  simp only [State.putUnit]
  split <;> simp

@[simp] theorem State.listAdd_mem (u : Nat) : (s.listAdd u).fs.mem = s.fs.mem := by simp [State.listAdd]

@[simp] theorem State.listDel_mem (u : Nat) : (s.listDel u).fs.mem = s.fs.mem := by simp [State.listDel]

@[simp] theorem State.fuseRowOut_mem : s.fuseRowOut.fs.mem = s.fs.mem := by simp [State.fuseRowOut]

@[simp] theorem State.sliceSwap_mem (ch old : Nat) : (s.sliceSwap ch old).fs.mem = s.fs.mem := by
  simp only [State.sliceSwap]
  split <;> simp

@[simp] theorem State.pipeRestart_mem (p : Nat) (t : Int) : (s.pipeRestart p t).fs.mem = s.fs.mem := by simp [State.pipeRestart]

@[simp] theorem State.takeOver_mem (u : Nat) (fail : Bool) (t : Int) : (s.takeOver u fail t).fs.mem = s.fs.mem := by
  simp only [State.takeOver]
  split <;> simp

@[simp] theorem State.takeBack_mem (u : Nat) (lossy : Bool) (t : Int) : (s.takeBack u lossy t).fs.mem = s.fs.mem := by
  simp only [State.takeBack]
  repeat' split
  all_goals simp

@[simp] theorem State.zeroise_mem : s.zeroise.fs.mem = s.fs.mem := by simp [State.zeroise]

@[simp] theorem State.keysReload_mem : s.keysReload.fs.mem = s.fs.mem := by
  simp only [State.keysReload]
  repeat' split
  all_goals simp

@[simp] theorem State.opDone_mem (result : Nat) : (s.opDone result).fs.mem = s.fs.mem := by
  simp only [State.opDone]
  split <;> simp

@[simp] theorem State.returned_mem (u : Nat) : (s.returned u).fs.mem = s.fs.mem := by simp [State.returned]

@[simp] theorem State.returnTry_mem : s.returnTry.fs.mem = s.fs.mem := by
  simp only [State.returnTry]
  repeat' split
  all_goals simp

@[simp] theorem State.returnStart_mem (u : Nat) : (s.returnStart u).fs.mem = s.fs.mem := by simp [State.returnStart]

@[simp] theorem State.unitReturn_mem (u : Nat) : (s.unitReturn u).fs.mem = s.fs.mem := by simp [State.unitReturn]

@[simp] theorem State.shadowMismatch_mem : s.shadowMismatch.fs.mem = s.fs.mem := by simp [State.shadowMismatch]

@[simp] theorem State.bistState_mem (n : Nat) : (s.bistState n).fs.mem = s.fs.mem := by simp [State.bistState]

@[simp] theorem State.restore_mem (u : Nat) (r : Region) : (s.restore u r).fs.mem = s.fs.mem := by
  simp only [State.restore]
  split <;> simp

@[simp] theorem State.bistBegin_mem : s.bistBegin.fs.mem = s.fs.mem := by simp [State.bistBegin]

@[simp] theorem State.bistHanded_mem : s.bistHanded.fs.mem = s.fs.mem := by simp [State.bistHanded]

@[simp] theorem State.bistSaved_mem : s.bistSaved.fs.mem = s.fs.mem := by simp [State.bistSaved]

@[simp] theorem State.planTakeOver_mem (u : Nat) : (s.planTakeOver u).fs.mem = s.fs.mem := by
  simp only [State.planTakeOver]
  repeat' split
  all_goals simp

@[simp] theorem State.bistCmd_mem (v : Nat) : (s.bistCmd v).fs.mem = s.fs.mem := by simp [State.bistCmd, State.bistRefuse]

@[simp] theorem State.testTime_mem (kind u : Nat) : (s.testTime kind u).2.fs.mem = s.fs.mem := by
  simp only [State.testTime]
  repeat' split
  all_goals simp

@[simp] theorem State.bistOver_mem (outcome reason : Nat) (full : Bool) : (s.bistOver outcome reason full).fs.mem = s.fs.mem := by
  simp only [State.bistOver]
  split <;> simp

@[simp] theorem State.bistBack_mem : s.bistBack.fs.mem = s.fs.mem := by simp [State.bistBack]

@[simp] theorem State.markFailed_mem (u : Nat) : (s.markFailed u).fs.mem = s.fs.mem := by
  simp only [State.markFailed]
  split <;> simp

@[simp] theorem State.bankIdle_mem (u : Nat) : (s.bankIdle u).fs.mem = s.fs.mem := by simp [State.bankIdle]

@[simp] theorem State.bistStop_mem (reason : Nat) : (s.bistStop reason).fs.mem = s.fs.mem := by
  simp only [State.bistStop]
  repeat' split
  all_goals simp

@[simp] theorem State.targetFailed_mem : s.targetFailed.fs.mem = s.fs.mem := by simp [State.targetFailed]

@[simp] theorem State.bankFailed_memWf (i l : Nat) (testing : Bool) (h : Memory.wf s.fs.mem = true) :
    Memory.wf (s.bankFailed i l testing).fs.mem = true := by
  simp [State.bankFailed, h]

@[simp] theorem State.laneFailed_mem (i l : Nat) (testing : Bool) : (s.laneFailed i l testing).fs.mem = s.fs.mem := by simp [State.laneFailed]

@[simp] theorem State.unitFail_memWf (u : Nat) (h : Memory.wf s.fs.mem = true) : Memory.wf (s.unitFail u).fs.mem = true := by
  unfold State.unitFail
  extract_lets i duty b testing returning s₁ r _ _ s₂ _ s₃ _ s₄ s₅ serving s₆ p moves _ s₇ s₈ _
  split
  · exact h
  split
  · exact h
  split
  · simp [h]
  have h₁ : Memory.wf s₁.fs.mem = true := by simp [s₁, h]
  have h₆ : s₆.fs.mem = s₁.fs.mem := by simp [s₆, s₅, s₄, s₃]
  clear_value s₆ testing returning serving
  have h₈ : s₈.fs.mem = s₁.fs.mem := by simp [s₈, s₇, h₆]
  clear_value s₈ s₁
  split
  · split
    · simp [h₁]
    split
    · exact h₁
    split <;> simp [h₁]
  · split
    · simp [h₁]
    · exact h₁
  · split <;> simp [s₂, h₁]
  · exact h₁
  · simp [h₈, h₁]

@[simp] theorem State.bistFinish_memWf (h : Memory.wf s.fs.mem = true) : Memory.wf s.bistFinish.fs.mem = true := by simp [State.bistFinish, h]

@[simp] theorem State.bistEnd_memWf (count countExp sig sigExp : Nat) (done : Bool) (h : Memory.wf s.fs.mem = true) :
    Memory.wf (s.bistEnd count countExp sig sigExp done).fs.mem = true := by
  simp [State.bistEnd, h]

@[simp] theorem State.bistRestored_memWf (h : Memory.wf s.fs.mem = true) : Memory.wf s.bistRestored.fs.mem = true := by simp [State.bistRestored, h]

@[simp] theorem State.bistMode_mem : s.bistMode.fs.mem = s.fs.mem := by simp [State.bistMode]

@[simp] theorem State.unitRetire_mem (u : Nat) : (s.unitRetire u).fs.mem = s.fs.mem := by simp [State.unitRetire]

@[simp] theorem State.failTick_memWf (cls : Nat) (t : Int) (h : Memory.wf s.fs.mem = true) : Memory.wf (s.failTick cls t).fs.mem = true := by
  refine State.forEach_memWf _ _ _ (fun x u hx => ?_) h
  dsimp only
  split
  · split
    · exact hx
    split
    · simp [hx]
    · simp [hx]
  split
  · split <;> simp [hx]
  · simp [hx]

@[simp] theorem State.backTick_mem (t : Int) : (s.backTick t).fs.mem = s.fs.mem := by simp [State.backTick]

@[simp] theorem State.shadowStart_mem (t : Int) : (s.shadowStart t).fs.mem = s.fs.mem := by simp [State.shadowStart]

@[simp] theorem State.shadowEnd_mem (t : Int) : (s.shadowEnd t).fs.mem = s.fs.mem := by simp [State.shadowEnd]

@[simp] theorem State.classTick_memWf (cls : Nat) (t : Int) (h : Memory.wf s.fs.mem = true) : Memory.wf (s.classTick cls t).fs.mem = true := by
  simp [State.classTick, State.plannedTick, h]

@[simp] theorem State.opCheck_mem : s.opCheck.fs.mem = s.fs.mem := by
  simp only [State.opCheck]
  split <;> simp

@[simp] theorem State.bistReturn_mem : s.bistReturn.fs.mem = s.fs.mem := by simp [State.bistReturn]

@[simp] theorem State.listSync_mem : s.listSync.fs.mem = s.fs.mem := by simp [State.listSync]

theorem State.unitFails_memWf {α : Type} (s : State) (l : List α) (g : α → Nat) (h : Memory.wf s.fs.mem = true) :
    Memory.wf (s.forEach l fun x a => x.unitFail (g a)).fs.mem = true :=
  s.forEach_memWf l _ (fun x a hx => x.unitFail_memWf (g a) hx) h

@[simp] theorem State.detectFailures_memWf (s : State) (h : Memory.wf s.fs.mem = true) : Memory.wf s.detectFailures.fs.mem = true :=
  State.unitFails_memWf _ _ _ (State.unitFails_memWf _ _ _ (State.unitFails_memWf _ _ _ h))

@[simp] theorem State.checksFail_memWf (s : State) (i : TickInput) (h : Memory.wf s.fs.mem = true) : Memory.wf (s.checksFail i).fs.mem = true :=
  State.unitFails_memWf _ _ _ (State.unitFails_memWf _ _ _ (by simp [h]))

@[simp] theorem State.sparesTick_memWf (differs : Bool) (t : Int) (h : Memory.wf s.fs.mem = true) :
    Memory.wf (s.sparesTick differs t).fs.mem = true := by
  unfold State.sparesTick
  extract_lets b s₁ s₂ s₃ s₄ s₅ s₆ s₇ s₈ s₉ s₁₀ _ s₁₁ s₁₂ _
  have h₂ : Memory.wf s₂.fs.mem = true := State.detectFailures_memWf _ (by simp [s₁, h])
  clear_value s₂
  have h₄ : Memory.wf s₄.fs.mem = true := by simp [s₄, s₃, h₂]
  clear_value s₄
  have h₇ : Memory.wf s₇.fs.mem = true := by simp [s₇, s₆, s₅, h₄]
  clear_value s₇
  have h₈ : Memory.wf s₈.fs.mem = true := by
    have hclasses := State.classTick_memWf _ 4 t (State.classTick_memWf _ 3 t (s₇.classTick_memWf 1 t h₇))
    simp [s₈, hclasses]
  clear_value s₈
  simp [s₁₂, s₁₁, s₁₀, s₉, h₈]

@[simp] theorem State.retireBurned_mem (e : FuseEnd) : (s.retireBurned e).fs.mem = s.fs.mem := by
  simp only [State.retireBurned]
  repeat' split
  all_goals simp

@[simp] theorem State.bootOut_memWf (u : Nat) (failed : Bool) (h : Memory.wf s.fs.mem = true) : Memory.wf (s.bootOut u failed).fs.mem = true := by
  simp only [State.bootOut]
  split
  · exact h
  split
  case h_5 => split <;> simp [h]
  case h_6 => split <;> simp [h]
  all_goals simp [h]

@[simp] theorem State.bootRetire_memWf (h : Memory.wf s.fs.mem = true) : Memory.wf s.bootRetire.fs.mem = true := by
  simp -implicitDefEqProofs +contextual [State.bootRetire, h]

/-! ### Temperature -/

@[simp] theorem State.setSensor_mem (i : Nat) (t : TempSensor) : (s.setSensor i t).fs.mem = s.fs.mem := by simp [State.setSensor]

@[simp] theorem State.setTzone_mem (z : Nat) (t : TempZone) : (s.setTzone z t).fs.mem = s.fs.mem := by simp [State.setTzone]

@[simp] theorem State.tsBreakNow_mem (i : Nat) : (s.tsBreakNow i).fs.mem = s.fs.mem := by simp [State.tsBreakNow]

@[simp] theorem State.tsTake_mem (i : Nat) (code : Option Int) : (s.tsTake i code).fs.mem = s.fs.mem := by
  simp only [State.tsTake]
  repeat' split
  all_goals simp

@[simp] theorem State.zoneEval_mem (z : Nat) : (s.zoneEval z).fs.mem = s.fs.mem := by
  simp only [State.zoneEval]
  repeat' split
  all_goals simp -implicitDefEqProofs

@[simp] theorem State.disagreeChange_mem (z : Nat) : (s.disagreeChange z).fs.mem = s.fs.mem := by simp [State.disagreeChange]

@[simp] theorem State.tsBreak_mem (i : Nat) : (s.tsBreak i).fs.mem = s.fs.mem := by simp [State.tsBreak]

@[simp] theorem State.throtUp_mem : s.throtUp.fs.mem = s.fs.mem := by simp [State.throtUp]

@[simp] theorem State.throtDown_mem : s.throtDown.fs.mem = s.fs.mem := by simp [State.throtDown]

@[simp] theorem State.thermDue_mem : s.thermDue.fs.mem = s.fs.mem := by simp [State.thermDue]

@[simp] theorem State.tsReading_mem (codes : List (Option Int)) : (s.tsReading codes).fs.mem = s.fs.mem := by
  simp [State.tsReading, State.zoneDiff, State.hotCount, State.throtCount, State.thermWarn]

end

end Sys2Proof.Machine

end

section
/-! PROOFS. The memory keeps its form: modes, host access, the tick and every command (chapter 9). -/

namespace Sys2Proof.Machine

section
variable (s : State)

/-! ### Modes, supply, reset and BOOT -/

@[simp] theorem State.enterMode_memWf (m : Mode) (t : Nat) (h : Memory.wf s.fs.mem = true) : Memory.wf (s.enterMode m t).fs.mem = true := by
  simp [State.enterMode, h]

@[simp] theorem State.enterSafeHold_memWf (t : Nat) (h : Memory.wf s.fs.mem = true) : Memory.wf (s.enterSafeHold t).fs.mem = true := by
  simp [State.enterSafeHold, h]

@[simp] theorem State.enterDegraded_memWf (t : Nat) (h : Memory.wf s.fs.mem = true) : Memory.wf (s.enterDegraded t).fs.mem = true := by
  simp [State.enterDegraded, h]

@[simp] theorem State.overtake_mem : s.overtake.fs.mem = s.fs.mem := by simp [State.overtake]

@[simp] theorem State.safeHoldStep_memWf (t : Nat) (h : Memory.wf s.fs.mem = true) : Memory.wf (s.safeHoldStep t).fs.mem = true := by
  simp [State.safeHoldStep, h]

@[simp] theorem State.bootExitStep_memWf (t : Nat) (h : Memory.wf s.fs.mem = true) : Memory.wf (s.bootExitStep t).fs.mem = true := by
  simp [State.bootExitStep, h]

@[simp] theorem State.degradedStep_memWf (t : Nat) (h : Memory.wf s.fs.mem = true) : Memory.wf (s.degradedStep t).fs.mem = true := by
  simp [State.degradedStep, h]

@[simp] theorem State.degReturnStep_memWf (t : Nat) (h : Memory.wf s.fs.mem = true) : Memory.wf (s.degReturnStep t).fs.mem = true := by
  simp [State.degReturnStep, h]

@[simp] theorem State.modeReq_mem (v cc : Nat) : (s.modeReq v cc).fs.mem = s.fs.mem := by
  simp only [State.modeReq]
  split <;> simp

@[simp] theorem State.judge_memWf (t : Nat) (h : Memory.wf s.fs.mem = true) : Memory.wf (s.judge t).fs.mem = true := by
  simp only [State.judge]
  split
  · exact h
  split <;> simp [h]

@[simp] theorem State.frameChange_memWf (t : Nat) (h : Memory.wf s.fs.mem = true) : Memory.wf (s.frameChange t).fs.mem = true := by
  simp only [State.frameChange]
  split <;> simp [h]

@[simp] theorem State.judgeStep_memWf (t : Nat) (h : Memory.wf s.fs.mem = true) : Memory.wf (s.judgeStep t).fs.mem = true := by
  simp [State.judgeStep, h]

@[simp] theorem State.modeTick_memWf (t : Nat) (h : Memory.wf s.fs.mem = true) : Memory.wf (s.modeTick t).fs.mem = true := by
  have h₁ := State.degradedStep_memWf _ t (State.safeHoldStep_memWf _ t (s.bootExitStep_memWf t h))
  have h₂ := State.frameChange_memWf _ t (State.judge_memWf _ t (State.degReturnStep_memWf _ t h₁))
  simp [State.modeTick, h₁, h₂]

@[simp] theorem State.coreReset_memWf (s : State) (m : Mode) : Memory.wf (s.coreReset m).fs.mem = true := rfl

@[simp] theorem State.enterHeld_memWf (s : State) (h : Memory.wf s.fs.mem = true) : Memory.wf s.enterHeld.fs.mem = true := by
  simp [State.enterHeld, h]

@[simp] theorem State.enterBoot_memWf (h : Memory.wf s.fs.mem = true) : Memory.wf s.enterBoot.fs.mem = true := by simp [State.enterBoot, h]

@[simp] theorem State.released_memWf (h : Memory.wf s.fs.mem = true) : Memory.wf s.released.fs.mem = true := by simp [State.released, h]

@[simp] theorem State.shedShow_mem (cc : Nat) : (s.shedShow cc).fs.mem = s.fs.mem := by simp [State.shedShow]

@[simp] theorem State.railsOff_mem (all : Bool) : (s.railsOff all).fs.mem = s.fs.mem := by simp [State.railsOff]

@[simp] theorem State.railsStart_mem : s.railsStart.fs.mem = s.fs.mem := by simp [State.railsStart]

@[simp] theorem State.shedDeclare_memWf (l cc : Nat) (h : Memory.wf s.fs.mem = true) : Memory.wf (s.shedDeclare l cc).fs.mem = true := by
  simp [State.shedDeclare, h]

@[simp] theorem State.railStart_mem : s.railStart.fs.mem = s.fs.mem := by simp [State.railStart]

@[simp] theorem State.railRestart_mem : s.railRestart.fs.mem = s.fs.mem := by simp [State.railRestart]

@[simp] theorem State.shedClear_mem (l cc : Nat) : (s.shedClear l cc).fs.mem = s.fs.mem := by simp [State.shedClear]

@[simp] theorem State.ovDeclare_mem (cc : Nat) : (s.ovDeclare cc).fs.mem = s.fs.mem := by simp [State.ovDeclare]

@[simp] theorem State.ovClear_mem (cc : Nat) : (s.ovClear cc).fs.mem = s.fs.mem := by simp [State.ovClear]

@[simp] theorem State.powerDown_memWf (s : State) (b : Bool) : Memory.wf (s.powerDown b).fs.mem = true := rfl

@[simp] theorem State.vaoStart_memWf (h : Memory.wf s.fs.mem = true) : Memory.wf s.vaoStart.fs.mem = true := by simp [State.vaoStart, h]

@[simp] theorem State.aoRelease_mem : s.aoRelease.fs.mem = s.fs.mem := by simp [State.aoRelease]

@[simp] theorem State.vinPor_memWf (s : State) : Memory.wf s.vinPor.fs.mem = true := s.powerDown_memWf false

@[simp] theorem State.railPowerGood_memWf (h : Memory.wf s.fs.mem = true) : Memory.wf s.railPowerGood.fs.mem = true := by
  simp only [State.railPowerGood]
  split <;> simp [h]

@[simp] theorem State.railFault_memWf (i cause : Nat) (h : Memory.wf s.fs.mem = true) : Memory.wf (s.railFault i cause).fs.mem = true := by
  simp [State.railFault, h]

@[simp] theorem State.convStep_mem (mv : Nat → Nat → Nat) : (s.convStep mv).fs.mem = s.fs.mem := by simp [State.convStep]

@[simp] theorem State.convPeriods_memWf (sense : List (List Nat)) (h : Memory.wf s.fs.mem = true) :
    Memory.wf (s.convPeriods sense).fs.mem = true := by
  simp only [State.convPeriods]
  split <;> simp [h]

@[simp] theorem State.holdCircuit_mem (above : Bool) : (s.holdCircuit above).fs.mem = s.fs.mem := by simp [State.holdCircuit]

@[simp] theorem State.latchStep_memWf (h : Memory.wf s.fs.mem = true) : Memory.wf s.latchStep.fs.mem = true := by simp [State.latchStep, h]

@[simp] theorem State.resetAssert_memWf (h : Memory.wf s.fs.mem = true) : Memory.wf s.resetAssert.fs.mem = true := by simp [State.resetAssert, h]

@[simp] theorem State.resetStuck_mem : s.resetStuck.fs.mem = s.fs.mem := by simp [State.resetStuck]

@[simp] theorem State.resetRelease_memWf (h : Memory.wf s.fs.mem = true) : Memory.wf s.resetRelease.fs.mem = true := by simp [State.resetRelease, h]

@[simp] theorem State.leaveScan_memWf (h : Memory.wf s.fs.mem = true) : Memory.wf s.leaveScan.fs.mem = true := by simp [State.leaveScan, h]

@[simp] theorem State.testEnChange_memWf (high : Bool) (h : Memory.wf s.fs.mem = true) : Memory.wf (s.testEnChange high).fs.mem = true := by
  simp [State.testEnChange, h]

@[simp] theorem State.trst_memWf (h : Memory.wf s.fs.mem = true) : Memory.wf s.trst.fs.mem = true := by simp [State.trst, h]

@[simp] theorem State.tapBypass_mem (ir : Nat) : (s.tapBypass ir).fs.mem = s.fs.mem := by simp [State.tapBypass]

@[simp] theorem State.tapTest_mem (ir : Nat) (f : ResetState → ResetState) : (s.tapTest ir f).fs.mem = s.fs.mem := by simp [State.tapTest]

@[simp] theorem State.scanEntry_mem : s.scanEntry.fs.mem = s.fs.mem := by simp [State.scanEntry]

@[simp] theorem State.retLogClear_mem (v : Nat) : (s.retLogClear v).fs.mem = s.fs.mem := by
  simp only [State.retLogClear]
  repeat' split
  all_goals simp

@[simp] theorem State.flashNote_mem (a n : Nat) : (s.flashNote a n).fs.mem = s.fs.mem := by simp [State.flashNote]

@[simp] theorem State.bootStart_memWf (i : BootInput) (h : Memory.wf s.fs.mem = true) : Memory.wf (s.bootStart i).fs.mem = true := by
  unfold State.bootStart
  split
  · exact h
  · extract_lets old stuck _ s₁ s₂ s₃ s₄ s₅ s₆ s₇
    have h₃ : Memory.wf s₃.fs.mem = true := h
    have h₄ : Memory.wf s₄.fs.mem = true := by
      clear_value s₃
      simp [s₄, h₃]
    clear_value s₄
    simp [s₇, s₆, s₅, h₄]

@[simp] theorem State.stagePut_memWf (o : Nat) (b : List Byte) (h : Memory.wf s.fs.mem = true) : Memory.wf (s.stagePut o b).fs.mem = true := by
  refine List.foldlRecOn (motive := fun m => Memory.wf m = true) _ _ h fun m hm x _ => ?_
  cases s.stageAddr (o + x.2) with
  | none => exact hm
  | some a => exact memPut_wf m a x.1 hm

@[simp] theorem State.stageAll_memWf (s : State) (o : Nat) (l : List (List Byte)) (h : Memory.wf s.fs.mem = true) :
    Memory.wf (s.stageAll o l).2.fs.mem = true := by
  induction l generalizing s o with
  | nil => exact h
  | cons r l ih => exact ih _ _ (by simp [h])

@[simp] theorem State.scriptAccept_memWf (b : Bool) (h : Memory.wf s.fs.mem = true) : Memory.wf (s.scriptAccept b).2.fs.mem = true := by
  simp only [State.scriptAccept]
  split <;> simp [h]

theorem State.slotAccept_memWf (s : State) (b : Bool) (h : Memory.wf s.fs.mem = true) : Memory.wf (s.slotAccept b).2.fs.mem = true := by
  unfold State.slotAccept
  split
  · exact h
  · exact s.scriptAccept_memWf b h

theorem State.slotTried_memWf (s : State) (b : Bool) (n : Nat) (next : State → State)
    (hnext : ∀ x, Memory.wf x.fs.mem = true → Memory.wf (next x).fs.mem = true) (h : Memory.wf s.fs.mem = true) :
    Memory.wf (s.slotTried b n next).fs.mem = true := by
  have haccept := s.slotAccept_memWf b h
  unfold State.slotTried
  split
  · exact haccept
  · exact hnext _ (by rw [State.putBit_mem]; exact haccept)

theorem State.slotSecond_memWf (s : State) (a : Bool) (h : Memory.wf s.fs.mem = true) : Memory.wf (s.slotSecond a).fs.mem = true := by
  have hnote : Memory.wf (if a then s.flashNote (scriptBase true) 64 else s).fs.mem = true := by simp [h]
  unfold State.slotSecond
  generalize (if a then s.flashNote (scriptBase true) 64 else s) = x at hnote ⊢
  split
  · exact x.slotTried_memWf true 3 _ (fun _ hy => hy) hnote
  · exact hnote

@[simp] theorem State.scriptPick_memWf (s : State) (h : Memory.wf s.fs.mem = true) : Memory.wf s.scriptPick.fs.mem = true := by
  have hheaders : Memory.wf s.headersShown.fs.mem = true := by simp [State.headersShown, h]
  rw [State.scriptPick_eq]
  split
  · exact s.headersShown.slotTried_memWf false 2 _ (fun x hx => x.slotSecond_memWf true hx) hheaders
  · exact s.headersShown.slotSecond_memWf false hheaders

@[simp] theorem State.storeClear_memWf (s : State) : Memory.wf s.storeClear.fs.mem = true := rfl

@[simp] theorem State.bootLocked_memWf (h : Memory.wf s.fs.mem = true) : Memory.wf s.bootLocked.fs.mem = true := by
  simp only [State.bootLocked]
  split
  · exact h
  · exact State.scriptPick_memWf _ (State.storeClear_memWf _)

@[simp] theorem State.bootFailed_memWf (h : Memory.wf s.fs.mem = true) : Memory.wf s.bootFailed.fs.mem = true := by simp [State.bootFailed, h]

@[simp] theorem State.bootEnd_memWf (h : Memory.wf s.fs.mem = true) : Memory.wf s.bootEnd.fs.mem = true := by
  simp only [State.bootEnd]
  split
  · exact h
  · rw [State.put_fs]
    exact State.forRange_memWf s 16 _ (fun x i hx => memClearBank_wf _ _ hx) h

@[simp] theorem State.lockFollow_memWf (a b : Bool) (h : Memory.wf s.fs.mem = true) : Memory.wf (s.lockFollow a b).fs.mem = true := by
  simp [State.lockFollow, State.bistLock, h]

@[simp] theorem State.pllWindowEnd_memWf (b : Bool) (d : Int) (cc : Nat) (h : Memory.wf s.fs.mem = true) :
    Memory.wf (s.pllWindowEnd b d cc).fs.mem = true := by
  simp [State.pllWindowEnd, State.pllWindow, h]

@[simp] theorem State.pllFailed_memWf (b : Bool) (h : Memory.wf s.fs.mem = true) : Memory.wf (s.pllFailed b).fs.mem = true := by
  simp [State.pllFailed, State.pllFail, h]

@[simp] theorem State.refLost_memWf (cc : Nat) (h : Memory.wf s.fs.mem = true) : Memory.wf (s.refLost cc).fs.mem = true := by
  simp [State.refLost, State.refLoss, h]

/-! ### The plan store -/

@[simp] theorem State.planTake_mem (b : List Byte) : (s.planTake b).fs.mem = s.fs.mem := by simp [State.planTake]

@[simp] theorem State.tableTake_mem (i : Nat) (b : List Byte) : (s.tableTake i b).fs.mem = s.fs.mem := by simp [State.tableTake]

@[simp] theorem State.planCheck_mem (v : Nat) : (s.planCheck v).fs.mem = s.fs.mem := by simp [State.planCheck]

@[simp] theorem State.planChecked_mem : s.planChecked.fs.mem = s.fs.mem := by simp [State.planChecked]

@[simp] theorem State.planSwap_mem (v cc : Nat) : (s.planSwap v cc).fs.mem = s.fs.mem := by simp [State.planSwap, State.swapRequest, State.swapCancel]

@[simp] theorem State.ditherReady_mem (cc : Nat) : (s.ditherReady cc).fs.mem = s.fs.mem := by simp [State.ditherReady]

@[simp] theorem State.swapTick_mem : s.swapTick.fs.mem = s.fs.mem := by simp [State.swapTick]

@[simp] theorem State.planCounts_mem : s.planCounts.fs.mem = s.fs.mem := by simp [State.planCounts]

/-! ### Reads of the dictionary -/

@[simp] theorem State.partRead_mem (p : Path) (r : ObjRow) (k width off : Nat) : (s.partRead p r k width off).2.fs.mem = s.fs.mem := by
  simp only [State.partRead]
  repeat' split
  all_goals simp

@[simp] theorem State.readObj_mem (p : Path) (k width off : Nat) : (s.readObj p k width off).2.2.fs.mem = s.fs.mem := by
  simp only [State.readObj]
  repeat' split
  all_goals simp

@[simp] theorem State.readDomain_mem (p : Path) (k len off : Nat) : (s.readDomain p k len off).2.2.2.fs.mem = s.fs.mem := by
  simp only [State.readDomain]
  repeat' split
  all_goals simp

/-! ### The outputs brought up to date -/

@[simp] theorem State.gates_mem : s.gates.fs.mem = s.fs.mem := by simp [State.gates]

@[simp] theorem State.raise_mem : s.raise.fs.mem = s.fs.mem := by simp [State.raise]

@[simp] theorem State.settle_mem : s.settle.fs.mem = s.fs.mem := by simp [State.settle]

/-! ### Authenticated writes -/

@[simp] theorem State.authRefuse_mem (r : Nat) : (s.authRefuse r).2.fs.mem = s.fs.mem := by simp [State.authRefuse]

@[simp] theorem State.authMismatch_mem : s.authMismatch.2.fs.mem = s.fs.mem := by simp [State.authMismatch]

@[simp] theorem State.authApply_mem (k v : Nat) : (s.authApply k v).fs.mem = s.fs.mem := by
  simp [State.authApply, State.sealProgram, State.degAckWrite, State.retireBurn]

@[simp] theorem State.authWrite_mem (m : Mode) (b : List Byte) : (s.authWrite m b).2.fs.mem = s.fs.mem := by
  simp only [State.authWrite]
  repeat' split
  all_goals simp

@[simp] theorem State.authLockEnd_mem : s.authLockEnd.fs.mem = s.fs.mem := by simp [State.authLockEnd]

@[simp] theorem State.authTick_mem : s.authTick.fs.mem = s.fs.mem := by simp [State.authTick]

@[simp] theorem State.authAt_mem (m : Mode) (b : List Byte) (cc : Nat) : (s.authAt m b cc).2.fs.mem = s.fs.mem := by simp [State.authAt]

/-! ### Commit groups -/

@[simp] theorem State.shadowPut_mem (k v : Nat) : (s.shadowPut k v).fs.mem = s.fs.mem := by simp [State.shadowPut]

@[simp] theorem State.shadowDom_mem (k : Nat) (b : List Byte) : (s.shadowDom k b).fs.mem = s.fs.mem := by simp [State.shadowDom]

@[simp] theorem State.shadowDrop_mem (mask : Nat) : (s.shadowDrop mask).fs.mem = s.fs.mem := by simp [State.shadowDrop]

@[simp] theorem State.withShadows_mem (mask : Nat) : (s.withShadows mask).fs.mem = s.fs.mem := by simp -implicitDefEqProofs [State.withShadows]

@[simp] theorem State.commitRefuse_mem (f : Nat × Nat) : (s.commitRefuse f).fs.mem = s.fs.mem := by simp [State.commitRefuse]

@[simp] theorem State.commitStart_mem (mask path : Nat) : (s.commitStart mask path).fs.mem = s.fs.mem := by simp [State.commitStart]

@[simp] theorem State.commitChecked_mem (cc : Nat) : (s.commitChecked cc).fs.mem = s.fs.mem := by
  simp only [State.commitChecked]
  repeat' split
  all_goals simp

@[simp] theorem State.windowShow_mem (p : Nat) : (s.windowShow p).fs.mem = s.fs.mem := by simp [State.windowShow]

@[simp] theorem State.gainsRound_mem : s.gainsRound.fs.mem = s.fs.mem := rfl

@[simp] theorem State.activate_mem (t : Nat) (at_ : Int) : (s.activate t at_).fs.mem = s.fs.mem := by simp -implicitDefEqProofs [State.activate]

@[simp] theorem State.commitTick_memWf (t : Nat) (at_ : Int) (h : Memory.wf s.fs.mem = true) : Memory.wf (s.commitTick t at_).fs.mem = true := by
  simp only [State.commitTick]
  split
  · exact h
  split <;> simp [h]

@[simp] theorem State.commitCounts_mem : s.commitCounts.fs.mem = s.fs.mem := by simp [State.commitCounts]

/-! ### Host writes -/

@[simp] theorem State.mapEditWrite_mem (v : Nat) : (s.mapEditWrite v).2.fs.mem = s.fs.mem := by
  simp only [State.mapEditWrite]
  repeat' split
  all_goals simp

@[simp] theorem State.faultClear_mem (v : Nat) : (s.faultClear v).fs.mem = s.fs.mem := by simp [State.faultClear]

@[simp] theorem State.dmaCtrl_mem (e v cc : Nat) (ecc : Ecc) : (s.dmaCtrl e v cc ecc).2.fs.mem = s.fs.mem := by
  simp only [State.dmaCtrl]
  repeat' split
  all_goals simp

@[simp] theorem State.dmaWrite_mem (e k v cc : Nat) (ecc : Ecc) : (s.dmaWrite e k v cc ecc).2.fs.mem = s.fs.mem := by
  simp only [State.dmaWrite]
  repeat' split
  all_goals simp

@[simp] theorem State.commitWrite_mem (mask path : Nat) : (s.commitWrite mask path).2.fs.mem = s.fs.mem := by
  simp only [State.commitWrite]
  split <;> simp

@[simp] theorem State.discardWrite_mem (mask : Nat) : (s.discardWrite mask).2.fs.mem = s.fs.mem := by
  simp only [State.discardWrite]
  split <;> simp

@[simp] theorem State.pennantClear_mem (v cc : Nat) : (s.pennantClear v cc).fs.mem = s.fs.mem := by simp [State.pennantClear]

@[simp] theorem State.irqAck_mem (v : Nat) : (s.irqAck v).fs.mem = s.fs.mem := by simp [State.irqAck]

@[simp] theorem State.qspiVer_mem (v : Nat) : (s.qspiVer v).fs.mem = s.fs.mem := by simp [State.qspiVer]

@[simp] theorem State.qdomSel_mem (v : Nat) : (s.qdomSel v).fs.mem = s.fs.mem := by simp [State.qdomSel]

@[simp] theorem State.qdomStart_mem (n : Nat) : (s.qdomStart n).2.fs.mem = s.fs.mem := by
  simp only [State.qdomStart]
  split <;> simp

@[simp] theorem State.bistAbort_mem (v : Nat) : (s.bistAbort v).fs.mem = s.fs.mem := by simp [State.bistAbort]

@[simp] theorem State.capDrained_mem (v cc : Nat) : (s.capDrained v cc).fs.mem = s.fs.mem := by simp [State.capDrained]

@[simp] theorem State.keepForce_mem (k : Nat) : (s.keepForce k).fs.mem = s.fs.mem := by simp [State.keepForce]

@[simp] theorem State.writeReg_mem (path k v cc : Nat) (ecc : Ecc) : (s.writeReg path k v cc ecc).2.fs.mem = s.fs.mem := by
  simp only [State.writeReg]
  repeat' split
  all_goals simp

@[simp] theorem State.writeFound_mem (m : Mode) (path : Nat) (r : ObjRow) (k cc : Nat) (ecc : Ecc) (data : List Byte) :
    (s.writeFound m path r k cc ecc data).2.fs.mem = s.fs.mem := by
  simp only [State.writeFound]
  repeat' split
  all_goals simp

@[simp] theorem domainResult_mem (s t : State) (lenOk rangeOk modeOk free : Bool) (h : t.fs.mem = s.fs.mem) :
    (domainResult s t lenOk rangeOk modeOk free).2.fs.mem = s.fs.mem := by
  simp [domainResult, h]

@[simp] theorem State.writeDomain_mem (m : Mode) (r : ObjRow) (k cc : Nat) (b : List Byte) : (s.writeDomain m r k cc b).2.fs.mem = s.fs.mem := by
  simp only [State.writeDomain]
  split
  · rfl
  · split <;> simp -implicitDefEqProofs

@[simp] theorem noteResult_mem (p : Path) (r : Nat × State) : (noteResult p r).fs.mem = r.2.fs.mem := by
  simp [noteResult]

@[simp] theorem noteDomain_mem (p : Path) (r : Nat × State) : (noteDomain p r).fs.mem = r.2.fs.mem := by
  simp [noteDomain]

@[simp] theorem State.regWrite_mem (k : Nat) (w : HostWrite) : (s.regWrite k w).2.fs.mem = s.fs.mem := by
  simp only [State.regWrite]
  split <;> simp

@[simp] theorem State.domWrite_mem (k : Nat) (p : Path) (cc : Nat) (b : List Byte) : (s.domWrite k p cc b).2.fs.mem = s.fs.mem := by
  simp only [State.domWrite]
  split <;> simp

@[simp] theorem State.hostWrite_mem (k : Nat) (w : HostWrite) : (s.hostWrite k w).fs.mem = s.fs.mem := by simp [State.hostWrite]

@[simp] theorem State.hostDomain_mem (k : Nat) (w : HostWrite) : (s.hostDomain k w).fs.mem = s.fs.mem := by simp [State.hostDomain]

/-! ### The boot script -/

@[simp] theorem State.scriptNext_mem : s.scriptNext.fs.mem = s.fs.mem := by simp [State.scriptNext]

@[simp] theorem State.scriptStop_mem (code : Nat) : (s.scriptStop code).fs.mem = s.fs.mem := by simp [State.scriptStop]

@[simp] theorem scriptResult_mem (r : Nat × State) : (scriptResult r).fs.mem = r.2.fs.mem := by
  simp [scriptResult]

@[simp] theorem State.scriptWrite_mem (cc : Nat) (ecc : Ecc) : (s.scriptWrite cc ecc).fs.mem = s.fs.mem := by
  simp only [State.scriptWrite]
  repeat' split
  all_goals simp

@[simp] theorem State.scriptDomain_mem (cc : Nat) : (s.scriptDomain cc).fs.mem = s.fs.mem := by
  simp only [State.scriptDomain]
  repeat' split
  all_goals simp

@[simp] theorem State.scriptCommit_mem : s.scriptCommit.fs.mem = s.fs.mem := by
  simp only [State.scriptCommit]
  split <;> simp

@[simp] theorem State.scriptWait_mem : s.scriptWait.fs.mem = s.fs.mem := by
  simp only [State.scriptWait]
  repeat' split
  all_goals simp

@[simp] theorem State.scriptTimeout_mem : s.scriptTimeout.fs.mem = s.fs.mem := by
  simp only [State.scriptTimeout]
  repeat' split
  all_goals simp

@[simp] theorem State.scriptEnd_mem : s.scriptEnd.fs.mem = s.fs.mem := by
  simp only [State.scriptEnd]
  split <;> simp

/-! ### The QSPI port -/

@[simp] theorem State.slotRead_mem (k off n : Nat) : (s.slotRead k off n).2.fs.mem = s.fs.mem := by
  simp only [State.slotRead]
  repeat' split
  all_goals simp

@[simp] theorem State.mirrorRead_mem (s : State) (a m n : Nat) : (s.mirrorRead a m n).2.fs.mem = s.fs.mem := by
  induction m generalizing s a n with
  | zero => rfl
  | succ m ih => cases n with
    | zero => rfl
    | succ n => simp [State.mirrorRead, ih]

@[simp] theorem State.qspiRead_mem (a n : Nat) : (s.qspiRead a n).fs.mem = s.fs.mem := by simp [State.qspiRead]

@[simp] theorem State.bulkTake_mem (n : Nat) : (s.bulkTake n).2.fs.mem = s.fs.mem := by simp [State.bulkTake]

@[simp] theorem State.wread_mem (a n : Nat) : (s.wread a n).fs.mem = s.fs.mem := by
  simp only [State.wread]
  repeat' split
  all_goals simp

@[simp] theorem State.qspiWrite_mem (a : Nat) (d : List Byte) : (s.qspiWrite a d).fs.mem = s.fs.mem := by simp -implicitDefEqProofs [State.qspiWrite]

@[simp] theorem State.mirrorWrite_mem (a cc : Nat) (ecc : Ecc) (d : List Byte) : (s.mirrorWrite a cc ecc d).2.fs.mem = s.fs.mem := by
  simp only [State.mirrorWrite]
  repeat' split
  all_goals simp

@[simp] theorem State.mirrorApply_mem (cc : Nat) (ecc : Ecc) : (s.mirrorApply cc ecc).fs.mem = s.fs.mem := by
  simp only [State.mirrorApply]
  split <;> simp

@[simp] theorem State.qdomDone_mem (cc : Nat) : (s.qdomDone cc).fs.mem = s.fs.mem := by
  simp only [State.qdomDone]
  split <;> simp

@[simp] theorem State.qspiStatus_mem : s.qspiStatus.fs.mem = s.fs.mem := by simp [State.qspiStatus]

@[simp] theorem State.qspiUnknown_mem : s.qspiUnknown.fs.mem = s.fs.mem := by simp [State.qspiUnknown]

/-! ### Messages and CAN -/

@[simp] theorem State.serveRead_mem (p : Path) (b : List Byte) : (s.serveRead p b).2.fs.mem = s.fs.mem := by simp [State.serveRead]

@[simp] theorem State.serveWrite_mem (q : Request) : (s.serveWrite q).2.fs.mem = s.fs.mem := by
  simp only [State.serveWrite]
  repeat' split
  all_goals simp

@[simp] theorem State.serveDread_mem (p : Path) (b : List Byte) : (s.serveDread p b).2.fs.mem = s.fs.mem := by
  simp only [State.serveDread]
  repeat' split
  all_goals simp

@[simp] theorem State.setOpen_mem (p : Path) (o : Option OpenWrite) : (s.setOpen p o).fs.mem = s.fs.mem := by simp [State.setOpen]

@[simp] theorem State.takeSegment_mem (q : Request) (o : OpenWrite) : (s.takeSegment q o).2.fs.mem = s.fs.mem := by
  simp only [State.takeSegment]
  repeat' split
  all_goals simp

@[simp] theorem State.dwriteStep_mem (q : Request) : (s.dwriteStep q).2.fs.mem = s.fs.mem := by
  simp only [State.dwriteStep]
  repeat' split
  all_goals simp

@[simp] theorem State.serveDwrite_mem (q : Request) : (s.serveDwrite q).2.fs.mem = s.fs.mem := by simp [State.serveDwrite]

@[simp] theorem State.serveConnect_mem (p : Path) (b : List Byte) : (s.serveConnect p b).2.fs.mem = s.fs.mem := by
  simp only [State.serveConnect]
  repeat' split
  all_goals simp

@[simp] theorem State.serveAbort_mem (p : Path) (b : List Byte) : (s.serveAbort p b).2.fs.mem = s.fs.mem := by simp [State.serveAbort]

@[simp] theorem State.canSend_mem (i : Nat) (f : CanFrame) : (s.canSend i f).fs.mem = s.fs.mem := by simp [State.canSend]

@[simp] theorem State.answer_mem (p : Path) (w : Waiting) (b : List Byte) (cc : Nat) : (s.answer p w b cc).fs.mem = s.fs.mem := by
  simp only [State.answer]
  split <;> simp

@[simp] theorem State.canArrive_mem (q : Request) (i : Nat) : (s.canArrive q i).fs.mem = s.fs.mem := by simp [State.canArrive]

@[simp] theorem State.dequeue_mem (p : Path) : (s.dequeue p).fs.mem = s.fs.mem := by simp [State.dequeue]

@[simp] theorem State.serve_mem (s : State) (q : Request) (cmd : Nat) (f : State → List Byte × State) (h : ∀ x, (f x).2.fs.mem = x.fs.mem) :
    (s.serve q cmd f).fs.mem = s.fs.mem := by
  simp only [State.serve]
  split
  · rfl
  · split <;> simp [h]

@[simp] theorem State.sidebandPacket_mem (seq cc : Nat) (b : List Byte) : (s.sidebandPacket seq cc b).fs.mem = s.fs.mem := by
  simp [State.sidebandPacket]

@[simp] theorem State.capabilityPacket_mem (w0 : Nat) : (s.capabilityPacket w0).fs.mem = s.fs.mem := by
  simp [State.capabilityPacket, State.hostCapability]

@[simp] theorem State.hostPacket_mem (b : List Byte) (cc : Nat) : (s.hostPacket b cc).fs.mem = s.fs.mem := by
  simp only [State.hostPacket]
  repeat' split
  all_goals simp

@[simp] theorem State.hostPacketNext_mem : s.hostPacketNext.fs.mem = s.fs.mem := by
  simp only [State.hostPacketNext]
  split <;> simp

@[simp] theorem State.canBusOff_mem (i : Nat) (e : CanEvent) : (s.canBusOff i e).fs.mem = s.fs.mem := by
  simp only [State.canBusOff]
  repeat' split
  all_goals simp

@[simp] theorem State.canApply_mem (i : Nat) : (s.canApply i).fs.mem = s.fs.mem := by simp [State.canApply]

@[simp] theorem State.canStatus_mem (i : Nat) : (s.canStatus i).fs.mem = s.fs.mem := by simp [State.canStatus]

@[simp] theorem State.canIgnore_mem (i : Nat) : (s.canIgnore i).fs.mem = s.fs.mem := by simp [State.canIgnore]

@[simp] theorem State.canTick_mem : s.canTick.fs.mem = s.fs.mem := by simp [State.canTick]

/-! ### The slot tick -/

@[simp] theorem State.firesBefore_mem (t : Nat) : (s.firesBefore t).fs.mem = s.fs.mem := by
  unfold State.firesBefore
  rw [State.mapFires_mem, State.mapFires_mem]
  · exact fun x c => by split <;> simp
  · exact fun x c => by split <;> simp

@[simp] theorem State.slotRest_memWf (h : Memory.wf s.fs.mem = true) : Memory.wf s.slotRest.fs.mem = true := by
  simp only [State.slotRest, State.testOver_mem]
  exact State.latchStep_memWf _ (by simp [h])

theorem State.withCaught_mem (s : State) (b : Bool) : ({ s with pipe := { s.pipe with caught := b } } : State).fs.mem = s.fs.mem := rfl

@[simp] theorem State.slotCatchUp_memWf (s : State) (h : Memory.wf s.fs.mem = true) : Memory.wf s.slotCatchUp.fs.mem = true := by
  have hrest : Memory.wf s.slotRest.raise.fs.mem = true := by rw [State.raise_mem]; exact s.slotRest_memWf h
  have heq : s.slotCatchUp = if s.pipe.caught then s else { s.slotRest.raise with pipe := { s.slotRest.raise.pipe with caught := true } } := rfl
  rw [heq]
  split
  · exact h
  · rw [State.withCaught_mem]
    exact hrest

@[simp] theorem State.tickRow_memWf (s : State) (due : Bool) (f : State → State)
    (hf : ∀ x, Memory.wf x.fs.mem = true → Memory.wf (f x).fs.mem = true) (h : Memory.wf s.fs.mem = true) :
    Memory.wf (s.tickRow due f).fs.mem = true := by
  simp [State.tickRow, hf, h]

@[simp] theorem State.processTick_mem (i : TickInput) : (s.processTick i).fs.mem = s.fs.mem := by simp [State.processTick, State.calGather]

@[simp] theorem State.shiftSlot_mem (i : TickInput) : (s.shiftSlot i).fs.mem = s.fs.mem := by
  simp [State.shiftSlot, State.trigShift, State.specShift, State.streamsShift, State.decShift]

@[simp] theorem State.lockTick_mem : s.lockTick.fs.mem = s.fs.mem := by simp [State.lockTick, State.dmaLockLost, State.decStart]

@[simp] theorem State.retireCount_mem : s.retireCount.fs.mem = s.fs.mem := by simp [State.retireCount]

@[simp] theorem State.frameError_mem : s.frameError.fs.mem = s.fs.mem := by simp [State.frameError]

@[simp] theorem State.startContext_mem (i : TickInput) : (s.startContext i).fs.mem = s.fs.mem := by simp [State.startContext]

@[simp] theorem State.mirrorTick_mem : s.mirrorTick.fs.mem = s.fs.mem := by simp [State.mirrorTick]

@[simp] theorem State.ensignTick_mem (i : TickInput) : (s.ensignTick i).fs.mem = s.fs.mem := by simp [State.ensignTick]

@[simp] theorem State.slotOutTick_mem : s.slotOutTick.fs.mem = s.fs.mem := by simp [State.slotOutTick]

@[simp] theorem State.tickChanges_memWf (i : TickInput) (h : Memory.wf s.fs.mem = true) : Memory.wf (s.tickChanges i).fs.mem = true := by
  unfold State.tickChanges
  extract_lets s₁ s₂ s₃ s₄ _ s₅ t s₆ s₇ s₈ s₉ s₁₀ s₁₁
  have h₁ : Memory.wf (s₁.checksFail i).fs.mem = true := s₁.checksFail_memWf i h
  have h₄ : Memory.wf s₄.fs.mem = true := by simp [s₄, s₃, s₂, h₁]
  have h₆ : Memory.wf s₆.fs.mem = true := State.commitTick_memWf s₅ _ _ h₄
  have h₉ : Memory.wf s₉.fs.mem = true := State.modeTick_memWf _ _ (State.sparesTick_memWf _ _ _ (by simp [s₇, h₆]))
  clear_value s₉
  simp [s₁₁, s₁₀, h₉]

@[simp] theorem State.tickStart_mem (i : TickInput) : (s.tickStart i).fs.mem = s.fs.mem := by simp [State.tickStart]

@[simp] theorem State.tickCounts_mem : s.tickCounts.fs.mem = s.fs.mem := by
  simp only [State.tickCounts]
  split <;> simp

@[simp] theorem State.slotTick_memWf (i : TickInput) (h : Memory.wf s.fs.mem = true) : Memory.wf (s.slotTick i).fs.mem = true := by
  simp [State.slotTick, h]

@[simp] theorem State.binTick_mem : s.binTick.fs.mem = s.fs.mem := by simp [State.binTick, State.convFree]

/-! ### What several commands share -/

@[simp] theorem State.core_mem (s : State) (f : State → State) (h : ∀ x, (f x).fs.mem = x.fs.mem) :
    (s.core f).fs.mem = s.fs.mem := by
  simp [State.core, h]

@[simp] theorem State.powered_mem (s : State) (f : State → State) (h : ∀ x, (f x).fs.mem = x.fs.mem) :
    (s.powered f).fs.mem = s.fs.mem := by
  simp [State.powered, h]

@[simp] theorem State.wordRow_memWf (s : State) (op : Nat) (f : State → State)
    (hf : ∀ x, (f x).fs.mem = x.fs.mem) (h : Memory.wf s.fs.mem = true) :
    Memory.wf (s.wordRow op f).fs.mem = true := by
  refine s.tickRow_memWf _ _ (fun x hx => ?_) h
  simp [hf, hx]

@[simp] theorem State.specStart_mem : s.specStart.fs.mem = s.fs.mem := by simp [State.specStart]

@[simp] theorem State.ampSample_mem (amp k : Nat) (m : Int) : (s.ampSample amp k m).fs.mem = s.fs.mem := by
  simp [State.ampSample, State.caSample, State.caJudge, State.angleSample, State.pemCheck]

@[simp] theorem State.authRow_mem (k : Nat) (a : AuthWrite) : (s.authRow k a).fs.mem = s.fs.mem := by simp [State.authRow]

@[simp] theorem State.tapSample_mem (pins outs : List Bool) : (s.tapSample pins outs).fs.mem = s.fs.mem := by simp [State.tapSample]

end

/-! ### The queue and the commands -/

@[simp] theorem State.core_memWf (s : State) (f : State → State) (hf : ∀ x, Memory.wf x.fs.mem = true → Memory.wf (f x).fs.mem = true)
    (h : Memory.wf s.fs.mem = true) : Memory.wf (s.core f).fs.mem = true := by
  simp [State.core, hf, h]

@[simp] theorem State.powered_memWf (s : State) (f : State → State) (hf : ∀ x, Memory.wf x.fs.mem = true → Memory.wf (f x).fs.mem = true)
    (h : Memory.wf s.fs.mem = true) : Memory.wf (s.powered f).fs.mem = true := by
  simp [State.powered, hf, h]

/-- Every command ends with its outputs brought up to date (`finish`), which leaves the memory as it is. -/
theorem finish_memWf {u t : State} (ht : finish u = .next t) (h : Memory.wf u.fs.mem = true) : Memory.wf t.fs.mem = true := by
  have hu : u.settle = t := (Host.Outcome.next.injEq _ _).mp ht
  rw [← hu, State.settle_mem]
  exact h

/-- Of each command what it makes of the state before `finish` is a function of the layer above. -/
theorem exec_memWf (s t : State) (c : Instr) (h : Memory.wf s.fs.mem = true) (ht : exec c s = .next t) : Memory.wf t.fs.mem = true := by
  cases c <;> exact finish_memWf ht (by simp +contextual [h])

/-- Settles O60: the memory is written by `memPut` alone, a bank of it copied or cleared, or it is emptied, and each of these keeps
the form; a step is the command at the front of the queue, or idles. -/
theorem storeKeepsForm : Obligations.StoreKeepsForm := by
  unfold Obligations.StoreKeepsForm
  refine ⟨exec_memWf, fun s t hs ht => ?_⟩
  unfold step at ht
  split at ht
  · cases ht
    exact hs
  · next c rest _ => exact exec_memWf (s.withPending rest) t c hs ht

end Sys2Proof.Machine

end
